-- ==== Sys2Proof/Word.lean ====
section
/-! DEFINITION. Word types and the names of Legend keys: a byte, the two carriers, a key of the Legend
(area, entry, index; 00 R7), and the value of one element. -/

namespace Sys2Proof

/-- One byte. -/
abbrev Byte := BitVec 8

/-- The two line carriers (00 R3, R8). -/
inductive Carrier where
  | a
  | b
  deriving DecidableEq, Repr

/-- R8: carrier B uses the keys of carrier A with 0x10 added to the area. -/
def Carrier.off : Carrier → Nat
  | .a => 0
  | .b => 0x10

/-- The index m of a per-carrier array: 0 for A, 1 for B. -/
def Carrier.num : Carrier → Nat
  | .a => 0
  | .b => 1

/-- The other carrier. -/
def Carrier.other : Carrier → Carrier
  | .a => .b
  | .b => .a

/-- A Legend key with its array index: `AA.EEE[n]` (00 R7). -/
structure Key where
  area : Nat
  entry : Nat
  idx : Nat
  deriving DecidableEq, Repr

/-- The value of one Legend element: a number, or the bytes of a BLOB (00 R9). -/
inductive Val where
  | num (v : Int)
  | blob (bytes : List Byte)
  deriving DecidableEq, Repr

end Sys2Proof
end

