-- ==== Sys2Proof/Machine/StBase.lean ====
section
/-! DEFINITION. The parts of State behind the Legend ports: events and views, requests and their answers,
drafts, armed editions, journal and history (spec 09). -/

namespace Sys2Proof.Machine

/-- Status codes of a Legend response (09 R249). -/
inductive Status where
  | ok | noKey | access | index | length | crc | draftOwned | noDraft | draftState | lifecycle
  | refused | draftFull | badOp | busy
  deriving DecidableEq, Repr

/-- The code of a status (09 R249). -/
def Status.code : Status → Nat
  | .ok => 0x00 | .noKey => 0x01 | .access => 0x02 | .index => 0x03 | .length => 0x04 | .crc => 0x05
  | .draftOwned => 0x06 | .noDraft => 0x07 | .draftState => 0x08 | .lifecycle => 0x09
  | .refused => 0x0A | .draftFull => 0x0B | .badOp => 0x0C | .busy => 0x80

/-- One event record (09 R259); SEQ and LOST are added when a view reads it. `gone`: its line failed its check and it was dropped
(16 R411). -/
structure EventRec where
  time : Nat
  code : Nat
  area : Nat
  entry : Nat
  idx : Nat
  holdover : Bool
  gone : Bool
  deriving DecidableEq, Repr

/-- One view of events and snapshots (09 R247, R259, R263): its absolute read position, whether its next
record carries LOST, whether a run of losses is open, its 03.002, and its snapshot. -/
structure ViewState where
  pos : Nat
  lost : Bool
  run : Bool
  lostCount : Nat
  snapTime : Nat
  snapArea : Nat
  snap : Option (List (Key × Int))
  deriving DecidableEq, Repr

/-- A view after reset. -/
def ViewState.reset : ViewState := ⟨0, false, false, 0, 0, 0, none⟩

/-- The event queue of 1,024 records (09 R259), the absolute number of its first record, the eight views, and
03.019 (09 R261). -/
structure EventState where
  recs : List EventRec
  base : Nat
  views : List ViewState
  alarm : Bool
  deriving DecidableEq, Repr

/-- The event queue after reset: empty. -/
def EventState.reset : EventState := ⟨[], 0, List.replicate 8 ViewState.reset, false⟩

/-- A response as a port holds it (09 R249). -/
structure Reply where
  status : Status
  data : List Byte
  total : Nat
  deriving DecidableEq, Repr

/-- A BLOB latch or a write-chunk buffer of one source (09 R250). -/
structure Latch where
  src : Nat
  key : Key
  total : Nat
  bytes : List Byte
  deriving DecidableEq, Repr

/-- The management ports: the response held for each source, BLOB latches (most recently read first) and write
buffers (09 R250), the pending SPI response (R252), the MDIO window (R253), the two-wire window memory, its
writable marks, byte pointer, write queue and the bytes of the last read transfer (R255, R256), and the port settings in force (R257). -/
structure PortState where
  replies : List (Nat × Reply)
  latches : List Latch
  chunks : List Latch
  spiPending : Bool
  mdioBuf : List Byte
  mdioLen : Nat
  mdioStatus : Nat
  winMem : List (Nat × Byte)
  winMark : List Nat
  winPtr : Nat
  winQueue : List (Nat × Nat × Byte)
  winData : List Byte
  enableNow : Nat
  twiAddrNow : Nat
  prtadNow : Nat
  /-- The Legend store serves requests (09 R257). -/
  ready : Bool
  /-- The source whose request was served last (09 R248). -/
  lastSrc : Nat
  deriving DecidableEq, Repr

/-- The ports after reset. -/
def PortState.reset : PortState :=
  ⟨[], [], [], false, [], 0, 0, [], [], 0, [], [], 7, 0x08, 0, false, 0⟩

/-- The open draft (09 R266): `validated` is the state VALIDATED of 02.000. -/
structure Draft where
  id : Nat
  owner : Nat
  validated : Bool
  elems : List (Key × Val)
  deriving DecidableEq, Repr

/-- An armed edition (09 R270): mode and instant of R269, the datum time its instant stands for, and the number
of the arming; `group` is the group of the GROUP_ARM that armed it, else 0 (10 R303). -/
structure Edition where
  id : Nat
  src : Nat
  mode : Nat
  instant : Nat
  elems : List (Key × Val)
  seq : Nat
  group : Nat
  deriving DecidableEq, Repr

/-- One history record (09 R279). -/
structure HistRec where
  id : Nat
  src : Nat
  result : Nat
  reason : Nat
  time : Nat
  mode : Nat
  count : Nat
  instant : Nat
  key : Nat
  deriving DecidableEq, Repr

/-- A log record of the journal (09 R278). -/
inductive JRec where
  | edition (mode src id instant time : Nat) (elems : List (Key × Val))
  | rw (src time : Nat) (key : Key) (val : Val)
  deriving DecidableEq, Repr

/-- One copy of the journal (09 R278): its checkpoint, its log in order, and its health bit of 02.041. -/
structure JournalCopy where
  chkLeg : List (Key × Int)
  chkBlobs : List (Key × List Byte)
  log : List JRec
  good : Bool
  deriving DecidableEq, Repr

/-- A journal copy after reset: the defaults (09 R278). -/
def JournalCopy.reset : JournalCopy := ⟨[], [], [], true⟩

/-- Editions (09 R265 to R279): the draft, the armed list, the next edition ID, the history (latest first) and
the two journal copies. -/
structure EditionState where
  draft : Option Draft
  armed : List Edition
  armSeq : Nat
  nextId : Nat
  hist : List HistRec
  journalA : JournalCopy
  journalB : JournalCopy
  deriving DecidableEq, Repr

/-- Editions after reset; the ID counter is seeded by a boot step (09 R265). -/
def EditionState.reset : EditionState :=
  ⟨none, [], 0, 1, [], JournalCopy.reset, JournalCopy.reset⟩

end Sys2Proof.Machine
end

