-- ==== Sys2Proof/Syntax.lean ====
section
/-! DEFINITION. The commands of the block: one constructor for each row of spec/opcode_table.json, in its order.
The table gives no row an operand; the operands are those the row's rule needs (log entry 4): the source of a
Legend request, the carrier, an index, a measured or received value. -/

namespace Sys2Proof


/-- A command of the block (spec/opcode_table.json). -/
inductive Instr where
  /-- CAR_TARGET_WRITE (R121). -/
  | carTargetWrite (src : Nat) (c : Carrier) (v : Int)
  /-- CARRIER_STOP_COMPLETE (R121). -/
  | carrierStopComplete (c : Carrier)
  /-- TX_SUPERFRAME_BOUNDARY (R48). -/
  | txSuperframeBoundary (c : Carrier)
  /-- SWITCH_ANNOUNCE (R128). -/
  | switchAnnounce (c : Carrier)
  /-- TX_FRAME_START (R52). -/
  | txFrameStart (c : Carrier)
  /-- IBC_CREDIT_TICK (R54). -/
  | ibcCreditTick (c : Carrier)
  /-- LINE_BLOCK_EMIT (R57). -/
  | lineBlockEmit (c : Carrier)
  /-- TX_SEGMENT_EMIT (R59). -/
  | txSegmentEmit (c : Carrier)
  /-- CONTOUR_UPDATE (R74). -/
  | contourUpdate (c : Carrier)
  /-- CONTOUR_RISE_START (R74). -/
  | contourRiseStart (c : Carrier)
  /-- SQUELCH_SW_WRITE (R76). -/
  | squelchSwWrite (src : Nat) (c : Carrier) (v : Int)
  /-- TXDIS_ASSERT (R459). -/
  | txdisAssert (c : Carrier) (width : Nat)
  /-- TXDIS_DEASSERT (R76). -/
  | txdisDeassert (c : Carrier) (width : Nat)
  /-- OC_TRIP (R395). -/
  | ocTrip (c : Carrier) (current : Nat)
  /-- OC_CLEAR (R76). -/
  | ocClear (src : Nat) (c : Carrier) (current : Nat)
  /-- NLC_BYPASS_CHANGE (R70). -/
  | nlcBypassChange (c : Carrier)
  /-- XPM_SQUELCH_REMOVE (R41). -/
  | xpmSquelchRemove (c : Carrier)
  /-- D2D_BLOCK_RX (R241). -/
  | d2dBlockRx (c : Carrier) (rx : Bool) (j : Nat) (ok : Bool) (codes : List Nat) (taken : Nat)
  /-- LINE_DAC_SLIP (R242). -/
  | lineDacSlip (c : Carrier) (j : Nat)
  /-- D2D_DEGRADE_CHECK (R241). -/
  | d2dDegradeCheck (c : Carrier)
  /-- FE_ILV_WINDOW (R84). -/
  | feIlvWindow (c : Carrier) (j : Nat)
  /-- FE_IQ_WINDOW (R85). -/
  | feIqWindow (c : Carrier) (y : Bool)
  /-- CD_SHEET_READY (R88). -/
  | cdSheetReady (c : Carrier)
  /-- CD_FADE_START (R90). -/
  | cdFadeStart (c : Carrier)
  /-- CD_FADE_BLOCK (R90). -/
  | cdFadeBlock (c : Carrier)
  /-- CD_FADE_CUT (R91). -/
  | cdFadeCut (c : Carrier)
  /-- CD_SWAP_NOFADE (R91). -/
  | cdSwapNofade (c : Carrier)
  /-- CD_SEARCH_START (R94). -/
  | cdSearchStart (src : Nat) (c : Carrier)
  /-- CD_SEARCH_DONE (R94). -/
  | cdSearchDone (c : Carrier)
  /-- RX_TIMING_LOCK (R98). -/
  | rxTimingLock (c : Carrier)
  /-- RX_TIMING_UNLOCK (R98). -/
  | rxTimingUnlock (c : Carrier)
  /-- EQ_BLOCK_UPDATE (R102). -/
  | eqBlockUpdate (c : Carrier) (k : Nat)
  /-- RX_EQ_SINGULAR (R103). -/
  | rxEqSingular (c : Carrier) (k : Nat)
  /-- EQ_REINIT (R104). -/
  | eqReinit (src : Nat) (c : Carrier) (v : Int)
  /-- EQ_TAP_SHIFT (R105). -/
  | eqTapShift (c : Carrier) (k : Nat)
  /-- SOP_RATE_UPDATE (R106). -/
  | sopRateUpdate (c : Carrier)
  /-- RX_SOP_NORMAL (R106). -/
  | rxSopNormal (c : Carrier)
  /-- SOP_PEAK_CLEAR (R106). -/
  | sopPeakClear (src : Nat) (c : Carrier)
  /-- RX_PILOT_UPDATE (R109). -/
  | rxPilotUpdate (c : Carrier) (k : Nat)
  /-- CR_LIMIT_HOLD_EXPIRY (R138). -/
  | crLimitHoldExpiry (c : Carrier)
  /-- RX_FRAME_HEADER (R111). -/
  | rxFrameHeader (c : Carrier) (fi : Nat) (copies : List (Nat × Nat))
  /-- RX_SUPERFRAME_BOUNDARY (R148). -/
  | rxSuperframeBoundary (c : Carrier)
  /-- ACQ_DETECT (R133). -/
  | acqDetect (c : Carrier) (metric : Nat) (coarse : Int)
  /-- ACQ_CAPTURE (R137). -/
  | acqCapture (c : Carrier) (metric : Nat) (coarse : Int) (nearStart : Bool)
  /-- RX_SOUNDING (R135). -/
  | rxSounding (c : Carrier) (errs : List Nat) (copies : List (Nat × Nat)) (metric : Nat) (frameStart : Bool) (fawErrs : List Nat)
  /-- SETTLE_EXPIRY (R130). -/
  | settleExpiry (c : Carrier)
  /-- SYNC_LOSS_COUNT (R130). -/
  | syncLossCount (c : Carrier)
  /-- RX_FAW_TEST (R136). -/
  | rxFawTest (c : Carrier) (errs sndErrs : List Nat)
  /-- ACQ_LOCK (R130). -/
  | acqLock (c : Carrier) (deskews : List Int)
  /-- LOF_COUNT_EXPIRY (R138). -/
  | lofCountExpiry (c : Carrier)
  /-- ACQ_HOLD_RECOVER (R130). -/
  | acqHoldRecover (c : Carrier)
  /-- HOLD_TIMEOUT (R130). -/
  | holdTimeout (c : Carrier)
  /-- FRAME_WAIT_TIMEOUT (R131). -/
  | frameWaitTimeout (c : Carrier)
  /-- SERVICE_TO_ACQUIRE (R121). -/
  | serviceToAcquire (c : Carrier)
  /-- FEC_ACCEPT_START (R123). -/
  | fecAcceptStart (c : Carrier)
  /-- RX_DARK (R143). -/
  | rxDark (c : Carrier)
  /-- NOISE_FLOOR_UPDATE (R143). -/
  | noiseFloorUpdate (c : Carrier)
  /-- SF_CD_DRAFT_RETRY (R142). -/
  | sfCdDraftRetry (c : Carrier)
  /-- SF_CD_HUNT_TIMEOUT (R142). -/
  | sfCdHuntTimeout (c : Carrier)
  /-- STAGE_COMMIT (R157). -/
  | stageCommit (src : Nat) (c : Carrier)
  /-- RX_LOAD_STAGED (R157). -/
  | rxLoadStaged (c : Carrier)
  /-- TX_SWITCH (R153). -/
  | txSwitch (src : Nat) (c : Carrier) (v : Int)
  /-- MATCHER_TABLES_READY (R155). -/
  | matcherTablesReady (c : Carrier)
  /-- LX_STAGE_RX (R162). -/
  | lxStageRx
  /-- LX_ACK_RX (R162). -/
  | lxAckRx
  /-- LX_NACK_RX (R163). -/
  | lxNackRx
  /-- LX_COMMIT_RX (R162). -/
  | lxCommitRx
  /-- LX_CANCEL_RX (R164). -/
  | lxCancelRx
  /-- LX_REPORT_RX (R166). -/
  | lxReportRx
  /-- LX_ACK_TIMEOUT (R163). -/
  | lxAckTimeout (c : Carrier)
  /-- LX_COMMIT_TIMEOUT (R163). -/
  | lxCommitTimeout (c : Carrier)
  /-- LX_RETRY_TIMER (R163). -/
  | lxRetryTimer (c : Carrier)
  /-- LP_PERIOD_TICK (R168). -/
  | lpPeriodTick (c : Carrier)
  /-- LX_START (R166). -/
  | lxStart (src : Nat) (c : Carrier)
  /-- LX_DRAFT_RETRY (R165). -/
  | lxDraftRetry (c : Carrier)
  /-- CAP_LIMIT_RX (R386). -/
  | capLimitRx
  /-- RX_SEGMENT_ARRIVAL (R183). -/
  | rxSegmentArrival (c : Carrier)
  /-- DEC_ITERATION (R181). -/
  | decIteration (c : Carrier) (contended : Bool)
  /-- DEC_WINDOW_SLIDE (R181). -/
  | decWindowSlide (c : Carrier)
  /-- OUTER_DECODE_DONE (R181). -/
  | outerDecodeDone (c : Carrier)
  /-- RX_FEC_CAP_CHANGE (R182). -/
  | rxFecCapChange
  /-- RX_FEC_ALIGNED (R178). -/
  | rxFecAligned (c : Carrier)
  /-- FEC_ACCEPT_STOP (R185). -/
  | fecAcceptStop (c : Carrier)
  /-- LINE_BLOCK_RX (R186). -/
  | lineBlockRx (c : Carrier)
  /-- PM_INTERVAL_END (R191). -/
  | pmIntervalEnd (c : Carrier)
  /-- DEC_PEAK_CLEAR (R183). -/
  | decPeakClear (src : Nat) (c : Carrier)
  /-- LX_FEC_SUSPECT (R169). -/
  | lxFecSuspect (c : Carrier)
  /-- LANE_ENABLE_WRITE (R212). -/
  | laneEnableWrite (src n : Nat) (v : Int)
  /-- LANE_SIGNAL_DETECT (R212). -/
  | laneSignalDetect (n : Nat)
  /-- HOST_TRAIN_FRAME_RX (R213). -/
  | hostTrainFrameRx (n : Nat) (lv : List Int)
  /-- TRAIN_STEP_MEASURE (R216). -/
  | trainStepMeasure (n fom : Nat)
  /-- TRAIN_COUNTDOWN_DONE (R217). -/
  | trainCountdownDone (n : Nat)
  /-- HOST_TRAIN_TIMEOUT (R212). -/
  | hostTrainTimeout (n : Nat)
  /-- HOST_LOS (R212). -/
  | hostLos (n : Nat)
  /-- RETRAIN (R212). -/
  | retrain (src n : Nat)
  /-- LOOPBACK_WRITE (R219). -/
  | loopbackWrite (src n : Nat) (v : Int)
  /-- PRBS_GEN_WRITE (R220). -/
  | prbsGenWrite (src n : Nat) (v : Int)
  /-- PRBS_INJECT (R221). -/
  | prbsInject (src n : Nat) (v : Int)
  /-- SF_LANE_RETRY (R218). -/
  | sfLaneRetry (n : Nat)
  /-- HOST_BLOCK_RX (R197). -/
  | hostBlockRx (n corr uncorr : Nat) (slipIn slipOut aligned : Bool) (fault ber : Nat)
  /-- SLOT_HEADER_RX (R198). -/
  | slotHeaderRx (n hdr : Nat) (blocks : List Nat)
  /-- HOST_FRAME_INGRESS (R200). -/
  | hostFrameIngress (c : Nat) (frame : List Byte) (errored : Bool)
  /-- SLOT_BURST_COMPLETE (R201). -/
  | slotBurstComplete (slot : Nat)
  /-- CLIENT_STATUS_TICK (R202). -/
  | clientStatusTick (cl : Nat)
  /-- MAPPER_PACKET_SEND (R206). -/
  | mapperPacketSend (c : Carrier)
  /-- DEMAP_WORD (R203). -/
  | demapWord (c : Carrier)
  /-- EGRESS_FRAME_OUT (R204). -/
  | egressFrameOut (c : Nat) (full : Bool)
  /-- EGRESS_SLOT_FRAME (R204). -/
  | egressSlotFrame (n : Nat)
  /-- CLIENT_PACKET_TIMEOUT (R208). -/
  | clientPacketTimeout (cl : Nat)
  /-- REFCLK_EDGE_TIMEOUT (R228). -/
  | refclkEdgeTimeout
  /-- REFCLK_WINDOW (R228). -/
  | refclkWindow (ppm : Int)
  /-- REFCLK_OK_TIMER (R228). -/
  | refclkOkTimer
  /-- PLL_HOLDOVER_RETURN (R229). -/
  | pllHoldoverReturn (p : Nat)
  /-- LOCK_SEQ_STEP (R230). -/
  | lockSeqStep (c : Carrier) (band tune : Nat)
  /-- FOREGROUND_CAL_DONE (R236). -/
  | foregroundCalDone (c : Carrier) (fails : List (List Nat)) (vals : List (List Byte))
  /-- VCO_TC_UPDATE (R231). -/
  | vcoTcUpdate (c : Carrier) (tune : Nat)
  /-- REBAND (R232). -/
  | reband (src : Nat) (c : Carrier)
  /-- LINE_PLL_UNLOCK (R233). -/
  | linePllUnlock (c : Carrier)
  /-- REF_TC_UPDATE (R238). -/
  | refTcUpdate (c : Carrier)
  /-- SPARE_VISIT_START (R36). -/
  | spareVisitStart (c : Carrier)
  /-- SPARE_VISIT_END (R36). -/
  | spareVisitEnd (c : Carrier) (pass : Bool) (vals : List Byte)
  /-- SPARE_SWAP (R37). -/
  | spareSwap (c : Carrier) (t : Nat)
  /-- LEGEND_REQUEST_BAD (R482). -/
  | legendRequestBad (src : Nat) (bytes : List Byte)
  /-- REGISTER_WRITE (R245). -/
  | registerWrite (src : Nat) (k : Key) (v : Int)
  /-- BLOB_READ_LATCH (R250). -/
  | blobReadLatch (src : Nat) (k : Key) (draft : Bool) (len : Nat)
  /-- BLOB_CHUNK_WRITE (R250). -/
  | blobChunkWrite (src : Nat) (k : Key) (off total : Nat) (data : List Byte)
  /-- SPI_RESPONSE_READ (R252). -/
  | spiResponseRead
  /-- MDIO_SERVE (R253). -/
  | mdioServe (prtad mmd : Nat) (buf : List Byte) (len meas : Nat)
  /-- TWI_WINDOW_READ (R255). -/
  | twiWindowRead (addr n : Nat)
  /-- TWI_WINDOW_WRITE (R256). -/
  | twiWindowWrite (addr ptr : Nat) (bytes : List Byte)
  /-- EVENT_NEXT_READ (R259). -/
  | eventNextRead (src len : Nat) (bad : List (Nat × Nat))
  /-- ALARM_ACK (R261). -/
  | alarmAck (src : Nat)
  /-- SNAPSHOT (R263). -/
  | snapshot (src : Nat) (v : Int)
  /-- SNAPSHOT_RELEASE (R263). -/
  | snapshotRelease (src : Nat)
  /-- COUNTER_CLEAR (R264). -/
  | counterClear (src : Nat) (v : Int)
  /-- DRAFT_OPEN (R266). -/
  | draftOpen (src : Nat)
  /-- DRAFT_WRITE (R266). -/
  | draftWrite (src : Nat) (k : Key) (v : Val)
  /-- DRAFT_DISCARD (R266). -/
  | draftDiscard (src : Nat)
  /-- DRAFT_VALIDATE (R268). -/
  | draftValidate (src : Nat)
  /-- DRAFT_ARM (R270). -/
  | draftArm (src : Nat)
  /-- DISARM (R271). -/
  | disarm (src : Nat) (id : Int)
  /-- ED_DRAFT_EXPIRED (R266). -/
  | edDraftExpired
  /-- EDITION_APPLY (R273). -/
  | editionApply
  /-- TV_ENABLE_WRITE (R283). -/
  | tvEnableWrite (src : Nat) (v : Int)
  /-- TV_TRAINING_SET_RX (R282). -/
  | tvTrainingSetRx (l req resp eye0 eye1 : Nat)
  /-- TV_TRAINING_TIMEOUT (R283). -/
  | tvTrainingTimeout (l : Nat)
  /-- TV_PORT_UP (R283). -/
  | tvPortUp (l : Nat) (skew : Int)
  /-- TV_PORT_DOWN (R283). -/
  | tvPortDown (l : Nat)
  /-- PORT_LOOPBACK_WRITE (R284). -/
  | portLoopbackWrite (src l : Nat) (v : Int)
  /-- TV_IDLE_SET_RX (R288). -/
  | tvIdleSetRx (l : Nat) (b : Byte)
  /-- TV_FRAME_RX (R290). -/
  | tvFrameRx (l : Nat) (bytes : List Byte) (killed : Bool)
  /-- HELLO_SEND (R289). -/
  | helloSend
  /-- HELLO_RX (R289). -/
  | helloRx
  /-- NEIGHBOUR_TIMEOUT (R289). -/
  | neighbourTimeout (l : Nat)
  /-- DEDUP_ENTRY_EXPIRE (R291). -/
  | dedupEntryExpire (src : Nat)
  /-- IB_FRAME_RX (R293). -/
  | ibFrameRx (m stamp : Nat)
  /-- TIME_EXCHANGE_START (R297). -/
  | timeExchangeStart (pin : Nat)
  /-- TIME_REQ_RX (R297). -/
  | timeReqRx (pin : Nat)
  /-- TIME_RESP_RX (R297). -/
  | timeRespRx
  /-- DATUM_HOLDOVER (R298). -/
  | datumHoldover
  /-- DATUM_SET (R299). -/
  | datumSet (src : Nat) (v : Int)
  /-- PPS_IN_EDGE (R300). -/
  | ppsInEdge
  /-- PPS_MISSED (R300). -/
  | ppsMissed
  /-- PPS_OUT_RISE (R300). -/
  | ppsOutRise
  /-- PPS_OUT_FALL (R300). -/
  | ppsOutFall
  /-- LEGEND_REQ_RX (R295). -/
  | legendReqRx
  /-- LEGEND_RSP_SEND (R295). -/
  | legendRspSend (meas : Nat)
  /-- APP_FRAME_RX (R322). -/
  | appFrameRx
  /-- EVENT_SINK_SEND (R295). -/
  | eventSinkSend
  /-- GROUP_ARM_RX (R303). -/
  | groupArmRx
  /-- GROUP_DISARM_RX (R303). -/
  | groupDisarmRx
  /-- GROUP_RESULT_RX (R304). -/
  | groupResultRx
  /-- TRIGGER_RX (R305). -/
  | triggerRx
  /-- TRIGGER_FIRE (R305). -/
  | triggerFire (id : Nat)
  /-- GROUP_ARM_SEND (R303). -/
  | groupArmSend (src : Nat) (v : Int)
  /-- GROUP_DISARM_SEND (R303). -/
  | groupDisarmSend (src : Nat) (v : Int)
  /-- TRIG_SEND (R305). -/
  | trigSend (src : Nat) (v : Int)
  /-- NOP (R312). -/
  | nop (c : Nat)
  /-- ADD (R312). -/
  | add (c t u v : Nat)
  /-- SUB (R312). -/
  | sub (c t u v : Nat)
  /-- MUL (R312). -/
  | mul (c t u v : Nat)
  /-- AND (R312). -/
  | andd (c t u v : Nat)
  /-- OR (R312). -/
  | orr (c t u v : Nat)
  /-- XOR (R312). -/
  | xorr (c t u v : Nat)
  /-- SHL (R312). -/
  | shl (c t u sh : Nat)
  /-- SHR (R310). -/
  | shr (c t u sh : Nat)
  /-- ADDI (R312). -/
  | addi (c t u : Nat) (imm : Int)
  /-- LUI (R312). -/
  | lui (c t : Nat) (imm : Int)
  /-- B (R312). -/
  | branch (c cond : Nat) (disp : Int)
  /-- CALL (R312). -/
  | call (c : Nat) (disp : Int)
  /-- RET (R312). -/
  | ret (c : Nat)
  /-- LOOP (R312). -/
  | loopi (c t len : Nat)
  /-- LDW (R311). -/
  | ldw (c t n m : Nat) (noPost : Bool)
  /-- STW (R312). -/
  | stw (c t n m : Nat) (noPost : Bool)
  /-- LDC (R310). -/
  | ldc (c t n m : Nat) (noPost : Bool)
  /-- STC (R310). -/
  | stc (c t n m : Nat) (noPost : Bool)
  /-- ZL (R315). -/
  | zl (c n count : Nat)
  /-- MGD (R312). -/
  | mgd (c t u v : Nat)
  /-- MDG (R312). -/
  | mdg (c t u : Nat) (im : Bool)
  /-- MVX (R311). -/
  | mvx (c t u : Nat)
  /-- CMUL (R309). -/
  | cmul (c t u v : Nat)
  /-- CMAC (R309). -/
  | cmac (c t u v : Nat)
  /-- CMACJ (R312). -/
  | cmacj (c t u v : Nat)
  /-- CMSU (R312). -/
  | cmsu (c t u v : Nat)
  /-- CMACM (R311). -/
  | cmacm (c t : Nat)
  /-- CLRA (R312). -/
  | clra (c t : Nat)
  /-- SAC (R310). -/
  | sac (c t u sh : Nat)
  /-- SACG (R310). -/
  | sacg (c t u : Nat) (im : Bool) (sh : Nat)
  /-- IN (R319). -/
  | inPort (c t port : Nat)
  /-- OUT (R319). -/
  | outPort (c u port : Nat)
  /-- CBX (R318). -/
  | cbx (c t n num : Nat) (wr : Bool)
  /-- CBX_COMPLETE (R318). -/
  | cbxComplete (c : Nat)
  /-- WAIT (R321). -/
  | wait (c u : Nat)
  /-- CORE_WAIT_WAKE (R321). -/
  | coreWaitWake (c : Nat)
  /-- HALT (R312). -/
  | halt (c : Nat)
  /-- ILLEGAL_OPCODE (R313). -/
  | illegalOpcode (c : Nat)
  /-- FAULT_EXIT (R313). -/
  | faultExit (c u : Nat)
  /-- FLAGS_CLEAR (R319). -/
  | flagsClear (c u : Nat)
  /-- WDOG_KICK (R323). -/
  | wdogKick (c u : Nat)
  /-- DATUM_LO_READ (R319). -/
  | datumLoRead (c t : Nat)
  /-- EVENTS_READ (R321). -/
  | eventsRead (c t : Nat)
  /-- CORE_TIMER_EXPIRE (R321). -/
  | coreTimerExpire (c : Nat)
  /-- LG_SEND (R320). -/
  | lgSend (c u : Nat)
  /-- CORE_LEGEND_DONE (R320). -/
  | coreLegendDone (c meas : Nat)
  /-- APP_RX_POP (R322). -/
  | appRxPop (c t : Nat)
  /-- APP_TX_GO (R322). -/
  | appTxGo (c u : Nat)
  /-- WIN_DATA_WRITE (R319). -/
  | winDataWrite (c u : Nat)
  /-- WIN_WMASK (R319). -/
  | winWmask (c u : Nat)
  /-- WIN_QPOP (R319). -/
  | winQpop (c t : Nat)
  /-- RES_GO (R322). -/
  | resGo (c u : Nat)
  /-- RES_READ_DONE (R322). -/
  | resReadDone (c : Nat)
  /-- CORE_WDOG_EXPIRE (R323). -/
  | coreWdogExpire (c : Nat)
  /-- CORE_RESTART (R325). -/
  | coreRestart (src c : Nat)
  /-- FW_RESTART (R326). -/
  | fwRestart (src : Nat)
  /-- FW_RESTART_VERIFIED (R326). -/
  | fwRestartVerified
  /-- LOAD_BEGIN (R328). -/
  | loadBegin (src : Nat) (v : Int)
  /-- LOAD_ERASE_DONE (R328). -/
  | loadEraseDone (ok : Bool)
  /-- LOAD_MANIFEST (R328). -/
  | loadManifest (src p : Nat) (bs : List Byte)
  /-- LOAD_SEGMENT (R328). -/
  | loadSegment (src g : Nat) (bs : List Byte)
  /-- LOAD_PROGRAM_DONE (R328). -/
  | loadProgramDone (ok : Bool)
  /-- LOAD_ACTIVATE (R328). -/
  | loadActivate (src : Nat)
  /-- LOAD_ABORT (R328). -/
  | loadAbort (src : Nat)
  /-- HK_CONVERSION_BOUNDARY (R332). -/
  | hkConversionBoundary (v0 v1 : Int) (internal board : Nat)
  /-- HK_REG_START (R333). -/
  | hkRegStart (src h : Nat)
  /-- HK_REG_TIMER (R333). -/
  | hkRegTimer (h : Nat)
  /-- TRIG_IN_RISE (R371). -/
  | trigInRise
  /-- INJ_START (R335). -/
  | injStart (src h : Nat)
  /-- INJ_TIMER (R335). -/
  | injTimer (h : Nat)
  /-- GPIO_RISE (R335). -/
  | gpioRise (g : Nat)
  /-- INJ_OVERFLOW_CLEAR (R335). -/
  | injOverflowClear (src h : Nat) (v : Int)
  /-- HK_ENABLE_WRITE (R332). -/
  | hkEnableWrite (src h : Nat) (v : Int)
  /-- HK_SELF_CAL (R336). -/
  | hkSelfCal (src h : Nat)
  /-- BENCH_CANCEL (R337). -/
  | benchCancel (src h : Nat)
  /-- BENCH_ZERO (R337). -/
  | benchZero (src h input : Nat)
  /-- BENCH_FULL (R337). -/
  | benchFull (src h input : Nat)
  /-- HK_CAL_DONE (R336). -/
  | hkCalDone (h : Nat)
  /-- AOUT_ENABLE_WRITE (R342). -/
  | aoutEnableWrite (src k : Nat) (v : Int)
  /-- AOUT_RANGE_WRITE (R343). -/
  | aoutRangeWrite (src k : Nat) (v : Int)
  /-- AOUT_RECONNECT (R343). -/
  | aoutReconnect (k : Nat)
  /-- AOUT_UPDATE (R344). -/
  | aoutUpdate (compliance overload : Nat)
  /-- AOUT_CONDITION_CLEAR (R346). -/
  | aoutConditionClear (k : Nat) (overload : Bool)
  /-- WAVE_WRITE (R344). -/
  | waveWrite (src k : Nat) (v : Int)
  /-- WAVE_SYNC (R344). -/
  | waveSync (src : Nat) (v : Int)
  /-- RB_CLEAR (R346). -/
  | rbClear (src k : Nat)
  /-- MF_CHANNEL_PROCESS (R354). -/
  | mfChannelProcess (y : Nat) (gap : Bool)
  /-- MF_SHEET_SWAP (R357). -/
  | mfSheetSwap (src y : Nat)
  /-- MF_SWAP_LOADED (R357). -/
  | mfSwapLoaded (y : Nat)
  /-- MF_SYNC (R360). -/
  | mfSync (src : Nat) (v : Int)
  /-- OUT_QUEUE_READ (R363). -/
  | outQueueRead (src y len : Nat)
  /-- RING_ARM (R368). -/
  | ringArm (src first last : Nat)
  /-- RING_REARM (R368). -/
  | ringRearm (src first last : Nat)
  /-- RING_FORCE (R371). -/
  | ringForce (src first last : Nat)
  /-- RING_STOP (R368). -/
  | ringStop (src first last : Nat)
  /-- RING_DISARM (R368). -/
  | ringDisarm (src first last : Nat)
  /-- FB_RING_CLEARED (R368). -/
  | fbRingCleared (r : Nat)
  /-- PROBE_UPDATE (R367). -/
  | probeUpdate (probe sel : Nat) (v w : Int)
  /-- FB_RECORD_WRITE (R370). -/
  | fbRecordWrite
  /-- TRIG_OUT_END (R373). -/
  | trigOutEnd
  /-- RD_DATA_READ (R374). -/
  | rdDataRead (src len : Nat)
  /-- THERMAL_SAMPLE (R377). -/
  | thermalSample (vals : List (Option Int))
  /-- THERMAL_BLOCK_EXPIRE (R379). -/
  | thermalBlockExpire
  /-- FW_LEVEL_WRITE (R381). -/
  | fwLevelWrite (src : Nat) (v : Int)
  /-- SHUTDOWN_CLEAR (R388). -/
  | shutdownClear (src : Nat)
  /-- SF_L3_DWELL (R386). -/
  | sfL3Dwell
  /-- SF_L3_RESEND (R386). -/
  | sfL3Resend (c : Carrier)
  /-- TH_L3_NO_RESPONSE (R386). -/
  | thL3NoResponse (c : Carrier)
  /-- SF_L3_RELEASE (R386). -/
  | sfL3Release
  /-- XTAL_COMP_TICK (R389). -/
  | xtalCompTick (temp : Int)
  /-- AON_XTAL_FAIL (R389). -/
  | aonXtalFail
  /-- XTAL_RESTORE (R389). -/
  | xtalRestore
  /-- MARGIN_UPDATE (R392). -/
  | marginUpdate (margins : List Int)
  /-- PWR_CARRIER_DROPPED (R393). -/
  | pwrCarrierDropped
  /-- PWR_MARGIN_RESTORED (R393). -/
  | pwrMarginRestored
  /-- AVS_VOLTAGE_READ (R391). -/
  | avsVoltageRead (v : Option Nat)
  /-- AVS_STATUS_READ (R391). -/
  | avsStatusRead (fault : Option Bool)
  /-- PWR_AVS_RESTORED (R394). -/
  | pwrAvsRestored
  /-- IDLE_TIMER_EXPIRE (R397). -/
  | idleTimerExpire
  /-- SLEEP_NOW (R397). -/
  | sleepNow (src : Nat)
  /-- DORMANT_LATCH (R398). -/
  | dormantLatch
  /-- WAKE_SOURCE_FIRE (R399). -/
  | wakeSourceFire (code at_ v edges : Nat)
  /-- WAKE_TIMER_EXPIRE (R399). -/
  | wakeTimerExpire (edges : Nat)
  /-- AON_BROWNOUT (R403). -/
  | aonBrownout
  /-- PAD_RELEASE (R402). -/
  | padRelease (src : Nat)
  /-- REFETCH_DONE (R406). -/
  | refetchDone
  /-- INT_LEGEND_REBUILT (R409). -/
  | intLegendRebuilt (keys : List Key)
  /-- DERIVED_REPAIR_DONE (R408). -/
  | derivedRepairDone
  /-- SCRUB_PASS (R415). -/
  | scrubPass (found : List (Nat × Nat × Nat))
  /-- FAULT_LOG_CLEAR (R414). -/
  | faultLogClear (src : Nat)
  /-- SLICE_ROUND (R419). -/
  | sliceRound (mask : Nat)
  /-- SLICE_RUN (R419). -/
  | sliceRun (src mask : Nat)
  /-- TEST_REQUEST (R420). -/
  | testRequest (src : Nat) (v : Int)
  /-- TEST_DONE (R420). -/
  | testDone (vals : List Int)
  /-- LC_TRANSITION (R427). -/
  | lcTransition (src : Nat) (v : Int) (vaux : Nat)
  /-- ENROLL_ROOT (R429). -/
  | enrollRoot (src slot vaux : Nat)
  /-- REVOKE_ROOT (R429). -/
  | revokeRoot (src slot vaux : Nat)
  /-- INSTALL_ROOT_KEY (R429). -/
  | installRootKey (src slot : Nat)
  /-- INSTALL_CONTROLLER (R435). -/
  | installController (src slot : Nat)
  /-- REMOVE_CONTROLLER (R429). -/
  | removeController (src slot : Nat)
  /-- COMMIT_SECVER (R433). -/
  | commitSecver (src slot vaux : Nat)
  /-- COMMIT_CTRL_VERSION (R429). -/
  | commitCtrlVersion (src slot vaux : Nat)
  /-- FUSE_SIGN_POLICY (R439). -/
  | fuseSignPolicy (src slot vaux : Nat)
  /-- ID_GENERATE (R440). -/
  | idGenerate (src vaux : Nat)
  /-- NONCE_READ (R430). -/
  | nonceRead (src len : Nat)
  /-- NONCE_EXPIRE (R430). -/
  | nonceExpire
  /-- ATT_REQUEST (R442). -/
  | attRequest (src : Nat)
  /-- ATT_READY (R442). -/
  | attReady
  /-- EXTEST (R444). -/
  | extest
  /-- IDCODE (R444). -/
  | idcode
  /-- SAMPLE_PRELOAD (R444). -/
  | samplePreload
  /-- BYPASS (R444). -/
  | bypass
  /-- TEST_ENGINE (R422). -/
  | testEngine (op : Nat)
  /-- CORE_SEL (R444). -/
  | coreSel (c : Nat)
  /-- CORE_HALT (R445). -/
  | coreHalt
  /-- CORE_STEP (R445). -/
  | coreStep
  /-- CORE_RESUME (R445). -/
  | coreResume
  /-- CORE_ACCESS (R445). -/
  | coreAccess (w : Nat)
  /-- SUPPLY_DIP (R446). -/
  | supplyDip (mask : Nat)
  /-- SUPPLIES_STABLE (R446). -/
  | suppliesStable
  /-- SUPPLY_LOSS (R457). -/
  | supplyLoss
  /-- RESET_N_ASSERT (R448). -/
  | resetNAssert (edges : Nat)
  /-- SW_RESET (R449). -/
  | swReset (src : Nat)
  /-- RESET_RELEASE (R448). -/
  | resetRelease
  /-- RESET_DATUM_CAPTURE (R451). -/
  | resetDatumCapture
  /-- BOOT_HK_CAL_DONE (R452). -/
  | bootHkCalDone
  /-- STRAP_READ_DONE (R339). -/
  | strapReadDone (uv : List Nat)
  /-- SELF_TEST_DONE (R417). -/
  | selfTestDone (vals : List (List Int)) (time edges : Nat)
  /-- FW_VERIFY_DONE (R454). -/
  | fwVerifyDone
  /-- SV_START (R456). -/
  | svStart (src : Nat)
  /-- PRBS_LOCK (R220). -/
  | prbsLock (n : Nat) (errs : List Nat)
  /-- TV_FRAME_SENT (R290). -/
  | tvFrameSent (l : Nat)
  /-- SF_HALTED_LEAD_RESTART (R324). -/
  | sfHaltedLeadRestart (c : Nat)
  /-- FUSE_PROGRAMMING_DONE (R423). -/
  | fuseProgrammingDone (ok : Bool)
  deriving DecidableEq, Repr

end Sys2Proof
end

