-- ==== Sys2Proof/Decode.lean ====
section
/-! DEFINITION. Decoding of table words. The table gives no row any bits (its rows have no fields), so no word spells a command. -/

namespace Sys2Proof

/-- The command a table word of so many bits spells: none does. -/
def decodeTableWord (nbits w : Nat) : Option Instr :=
  match nbits, w with
  | _, _ => none

end Sys2Proof
end

