-- ==== Sys2Proof/Config.lean ====
section
/-! DEFINITION. What the spec leaves open: opaque constants of which nothing can be proved but what holds for
every value. `Config.free n` is the n-th fresh value of a run; the others are unstated functions of operands. -/

namespace Sys2Proof

/-- A free value: the n-th value the run takes that the spec does not fix (State.freeCtr counts them). -/
opaque Config.free : Nat → Nat

/-- Whether a Falcon-1024 signature (third) of a message (second) verifies under a public key (first):
the algorithm is named by 17, not given. -/
opaque Config.falconVerify : List Byte → List Byte → List Byte → Bool

/-- SHAKE256 of a message, to a number of bytes (named by 09 R277 and 17, not given). -/
opaque Config.shake256 : List Byte → Nat → List Byte

/-- A Falcon-1024 signature by the device identity key of this seed on a message (17 R442). -/
opaque Config.falconSign : Nat → List Byte → List Byte

/-- The public key of the identity generated from this seed (17 R440). -/
opaque Config.falconPublic : Nat → List Byte

/-- The circulant records (r, c, m, s) of the code-definition ROM 24.070[o], which the manual does not list (06 R175). -/
opaque Config.fecRecords : Nat → List (Nat × Nat × Nat × Nat)

/-- The part of the event catalogue ROM 03.0F0 that holds record i (09 R258). -/
opaque Config.cataloguePart : Nat → Nat

/-- Whether a quotient whose rounding the spec does not state is rounded up, for a numerator and a denominator. -/
opaque Config.roundUp : Int → Nat → Bool

/-- The unit of the deficit round robin's quanta, less 1: the spec gives their proportion only (07 R206). -/
opaque Config.drrUnit : Nat

/-- Tap j (0 to 6) of phase p of the resampler's ROM filter (13 R355); tap 7 makes the sum of the phase 32,768. -/
opaque Config.polyphase : Nat → Nat → Int

/-- Whether C after SUB is the carry of adding the complement, rather than a borrow (11 R312 names neither). -/
opaque Config.subCarry : Bool

/-- Bits 23:16 of a plotter core's CORE_ID (11 R319 gives a surveyor core's). -/
opaque Config.plotterLead : Nat

/-- Whether a plotter's coefficient burst goes to carrier B, for bits 31:20 of its Gt: 11 R317 gives a line address of one
carrier's space, and no way a plotter names the carrier. -/
opaque Config.plotterBusB : Nat → Bool

/-- The value that the number format of a datapath stage holds for an exact value: the spec gives the stages' formulas and none of
their formats (02 R64 to R72, 03 R83 to R118). -/
opaque Config.held : Nat → Rat → Rat

/-- Tap i (0 to 15, 7 at the sample itself) of the fractional-delay interpolators of 02 R72 and 03 R83 for a fraction of a sample. -/
opaque Config.fracTap : Rat → Nat → Rat

/-- Tap i of phase p of the resampler of stage 4, 256 phases of 16 taps (03 R97). -/
opaque Config.resampTap : Nat → Nat → Rat

/-- The proportional and integral gains of a second-order loop, for its bandwidth in kHz and its update interval in microseconds
(03 R97, R106, R108): the spec gives the loops' order and bandwidth. -/
opaque Config.loopGain : Nat → Rat → Rat × Rat

/-- The number of samples, less 1, of the notch filters' response (02 R66). -/
opaque Config.notchSpan : Nat

/-- The power a composite stream of unit power keeps under notches (centre, width, depth) at a symbol rate, code of S and roll-off:
02 R68 normalises the stream, and gives no formula for what the notches take. -/
opaque Config.notchPower : List (Int × Nat × Nat) → Nat → Nat → Nat → Rat

/-- The number of 512-sample blocks, less 1, whose mean power stage 2 scales a lane by (03 R83 step 6). -/
opaque Config.powerSpan : Nat

/-- The noise variance that the demapper takes where no pilot error power is there yet (03 R115). -/
opaque Config.noiseStart : Rat

/-- The standard firmware's SNR figure, 23.002 corrected for the pilots' finite-window bias, for a window exponent (05 R149). -/
opaque Config.snrBias : Int → Nat → Int

/-- The register a host test pattern begins from (07 R220). -/
opaque Config.patternStart : Nat → Nat

/-- The level index (0 to 3, lowest first) of symbol i of SSPRQ, which IEEE 802.3 lists and the spec does not (07 R220). -/
opaque Config.ssprq : Nat → Nat

/-- Whether an injected error moves an inner level of symbol i up (07 R221). -/
opaque Config.injectUp : Nat → Bool

/-- The reference trim, in 0.001 dB, that a line die's fused coefficients give for a mean temperature in 0.01 degrees (08 R238). -/
opaque Config.refTrimOf : Nat → Int → Int

/-- The proportional and integral gains, in ppb per ns, of the datum's second-order loop for its bandwidth in Hz and its exchange interval
in microseconds (10 R297): the spec gives the loop's order and bandwidth. -/
opaque Config.datumGain : Nat → Nat → Rat × Rat

end Sys2Proof
end

