-- ==== Sys2Proof/Machine/EventTable.lean ====
section
/-! DEFINITION. The event codes of the part and their severities, from the event tables of the chapters (09 R258). -/

namespace Sys2Proof.Machine

/-- TX_CONTOUR_STEADY. -/
abbrev Ev.txContourSteady : Nat := 0x2001
/-- TX_CONTOUR_DARK. -/
abbrev Ev.txContourDark : Nat := 0x2002
/-- TX_SQUELCH_ON. -/
abbrev Ev.txSquelchOn : Nat := 0x2003
/-- TX_SQUELCH_OFF. -/
abbrev Ev.txSquelchOff : Nat := 0x2004
/-- TX_OC_TRIP. -/
abbrev Ev.txOcTrip : Nat := 0x2005
/-- TX_NLC_XPM_LOST. -/
abbrev Ev.txNlcXpmLost : Nat := 0x2006
/-- TX_NLC_XPM_RESTORED. -/
abbrev Ev.txNlcXpmRestored : Nat := 0x2007
/-- RX_CD_SWAP_QUEUED. -/
abbrev Ev.rxCdSwapQueued : Nat := 0x2101
/-- RX_CD_SWAP_REPLACED. -/
abbrev Ev.rxCdSwapReplaced : Nat := 0x2102
/-- RX_CD_FADE_DONE. -/
abbrev Ev.rxCdFadeDone : Nat := 0x2103
/-- RX_TIMING_LOCK. -/
abbrev Ev.rxTimingLock : Nat := 0x2104
/-- RX_TIMING_UNLOCK. -/
abbrev Ev.rxTimingUnlock : Nat := 0x2105
/-- RX_DESKEW_LIMIT. -/
abbrev Ev.rxDeskewLimit : Nat := 0x2106
/-- RX_EQ_SINGULAR. -/
abbrev Ev.rxEqSingular : Nat := 0x2107
/-- RX_SOP_HIGH. -/
abbrev Ev.rxSopHigh : Nat := 0x2108
/-- RX_SOP_NORMAL. -/
abbrev Ev.rxSopNormal : Nat := 0x2109
/-- RX_CR_NEAR_LIMIT. -/
abbrev Ev.rxCrNearLimit : Nat := 0x210A
/-- RX_HDR_MISMATCH. -/
abbrev Ev.rxHdrMismatch : Nat := 0x210B
/-- CAR_STATE_CHANGE. -/
abbrev Ev.carStateChange : Nat := 0x2201
/-- ACQ_DETECT. -/
abbrev Ev.acqDetect : Nat := 0x2202
/-- ACQ_SYNC. -/
abbrev Ev.acqSync : Nat := 0x2203
/-- ACQ_LOCK. -/
abbrev Ev.acqLock : Nat := 0x2204
/-- ACQ_FALSE_LOCK. -/
abbrev Ev.acqFalseLock : Nat := 0x2205
/-- ACQ_CAPTURE. -/
abbrev Ev.acqCapture : Nat := 0x2206
/-- ACQ_LOL. -/
abbrev Ev.acqLol : Nat := 0x2207
/-- ACQ_HOLD. -/
abbrev Ev.acqHold : Nat := 0x2208
/-- ACQ_HOLD_RECOVER. -/
abbrev Ev.acqHoldRecover : Nat := 0x2209
/-- RX_DARK. -/
abbrev Ev.rxDark : Nat := 0x220A
/-- RX_LIGHT. -/
abbrev Ev.rxLight : Nat := 0x220B
/-- TX_LOAD_SWITCH. -/
abbrev Ev.txLoadSwitch : Nat := 0x2301
/-- TX_SWITCH_REFUSED. -/
abbrev Ev.txSwitchRefused : Nat := 0x2302
/-- RX_LOAD_STAGED. -/
abbrev Ev.rxLoadStaged : Nat := 0x2303
/-- RX_STAGE_REFUSED. -/
abbrev Ev.rxStageRefused : Nat := 0x2304
/-- RX_LOAD_SWITCH. -/
abbrev Ev.rxLoadSwitch : Nat := 0x2305
/-- RX_LOAD_UNKNOWN. -/
abbrev Ev.rxLoadUnknown : Nat := 0x2306
/-- LX_FB_MISMATCH. -/
abbrev Ev.lxFbMismatch : Nat := 0x2380
/-- LP_SHORTFALL. -/
abbrev Ev.lpShortfall : Nat := 0x2381
/-- RX_FEC_ALIGNED. -/
abbrev Ev.rxFecAligned : Nat := 0x2401
/-- RX_FEC_REALIGN. -/
abbrev Ev.rxFecRealign : Nat := 0x2402
/-- RX_FEC_FORCED. -/
abbrev Ev.rxFecForced : Nat := 0x2403
/-- RX_FEC_UNCORR. -/
abbrev Ev.rxFecUncorr : Nat := 0x2404
/-- RX_FEC_CAP_CHANGE. -/
abbrev Ev.rxFecCapChange : Nat := 0x2405
/-- RX_FAR_BDI_ON. -/
abbrev Ev.rxFarBdiOn : Nat := 0x2406
/-- RX_FAR_BDI_OFF. -/
abbrev Ev.rxFarBdiOff : Nat := 0x2407
/-- LX_FEC_SUSPECT. -/
abbrev Ev.lxFecSuspect : Nat := 0x2480
/-- HOST_LANE_STATE. -/
abbrev Ev.hostLaneState : Nat := 0x1001
/-- HOST_TRAIN_TIMEOUT. -/
abbrev Ev.hostTrainTimeout : Nat := 0x1002
/-- HOST_TRAIN_LOW_FOM. -/
abbrev Ev.hostTrainLowFom : Nat := 0x1003
/-- HOST_LOS. -/
abbrev Ev.hostLos : Nat := 0x1004
/-- HOST_SLIP. -/
abbrev Ev.hostSlip : Nat := 0x1005
/-- CLIENT_FAULT_ON. -/
abbrev Ev.clientFaultOn : Nat := 0x1101
/-- CLIENT_FAULT_OFF. -/
abbrev Ev.clientFaultOff : Nat := 0x1102
/-- HOST_SHORTFALL_ON. -/
abbrev Ev.hostShortfallOn : Nat := 0x1103
/-- HOST_SHORTFALL_OFF. -/
abbrev Ev.hostShortfallOff : Nat := 0x1104
/-- HOST_DELIN_LOSS. -/
abbrev Ev.hostDelinLoss : Nat := 0x1105
/-- REFCLK_LOSS. -/
abbrev Ev.refclkLoss : Nat := 0x4001
/-- REFCLK_RESTORED. -/
abbrev Ev.refclkRestored : Nat := 0x4002
/-- LINE_PLL_UNLOCK. -/
abbrev Ev.linePllUnlock : Nat := 0x4003
/-- LINE_PLL_TC_HOLD. -/
abbrev Ev.linePllTcHold : Nat := 0x4004
/-- LINE_PLL_TUNE_MARGIN. -/
abbrev Ev.linePllTuneMargin : Nat := 0x4005
/-- LINE_REBAND_REFUSED. -/
abbrev Ev.lineRebandRefused : Nat := 0x4006
/-- LINE_CONV_FAIL. -/
abbrev Ev.lineConvFail : Nat := 0x4007
/-- LINE_SUBADC_FAIL. -/
abbrev Ev.lineSubadcFail : Nat := 0x4008
/-- LINE_D2D_DEGRADED. -/
abbrev Ev.lineD2dDegraded : Nat := 0x4009
/-- LINE_ADC_SLIP. -/
abbrev Ev.lineAdcSlip : Nat := 0x400A
/-- LINE_DAC_SLIP. -/
abbrev Ev.lineDacSlip : Nat := 0x400B
/-- ED_DRAFT_OPENED. -/
abbrev Ev.edDraftOpened : Nat := 0x0201
/-- ED_VALIDATED. -/
abbrev Ev.edValidated : Nat := 0x0202
/-- ED_REJECTED. -/
abbrev Ev.edRejected : Nat := 0x0203
/-- ED_ARMED. -/
abbrev Ev.edArmed : Nat := 0x0204
/-- ED_APPLIED. -/
abbrev Ev.edApplied : Nat := 0x0205
/-- ED_DISARMED. -/
abbrev Ev.edDisarmed : Nat := 0x0206
/-- ED_DRAFT_EXPIRED. -/
abbrev Ev.edDraftExpired : Nat := 0x0207
/-- ED_APPLY_REJECTED. -/
abbrev Ev.edApplyRejected : Nat := 0x0208
/-- ED_DRAFT_DISCARDED. -/
abbrev Ev.edDraftDiscarded : Nat := 0x0209
/-- ED_JOURNAL_CHECKPOINT. -/
abbrev Ev.edJournalCheckpoint : Nat := 0x020A
/-- EVENT_LOST. -/
abbrev Ev.eventLost : Nat := 0x0301
/-- COUNTER_CARRY. -/
abbrev Ev.counterCarry : Nat := 0x03F0
/-- COUNTER_SAT. -/
abbrev Ev.counterSat : Nat := 0x03F1
/-- MGMT_CRC_ERROR. -/
abbrev Ev.mgmtCrcError : Nat := 0x0801
/-- TWI_WINDOW_WRITE. -/
abbrev Ev.twiWindowWrite : Nat := 0x0802
/-- TWI_WINDOW_FULL. -/
abbrev Ev.twiWindowFull : Nat := 0x0803
/-- TV_PORT_UP. -/
abbrev Ev.tvPortUp : Nat := 0x5001
/-- TV_PORT_DOWN. -/
abbrev Ev.tvPortDown : Nat := 0x5002
/-- TV_DUP_ID. -/
abbrev Ev.tvDupId : Nat := 0x5003
/-- DATUM_LOCKED. -/
abbrev Ev.datumLocked : Nat := 0x5010
/-- DATUM_UNLOCKED. -/
abbrev Ev.datumUnlocked : Nat := 0x5011
/-- DATUM_HOLDOVER. -/
abbrev Ev.datumHoldover : Nat := 0x5012
/-- DATUM_STEP. -/
abbrev Ev.datumStep : Nat := 0x5013
/-- PPS_MISSED. -/
abbrev Ev.ppsMissed : Nat := 0x5014
/-- FW_CORE_FAULT. -/
abbrev Ev.fwCoreFault : Nat := 0x5801
/-- FW_SV_WDOG. -/
abbrev Ev.fwSvWdog : Nat := 0x5802
/-- FW_CORE_HALTED. -/
abbrev Ev.fwCoreHalted : Nat := 0x5803
/-- FW_LOAD_STATE. -/
abbrev Ev.fwLoadState : Nat := 0x5804
/-- FW_SEG_REJECT. -/
abbrev Ev.fwSegReject : Nat := 0x5805
/-- FW_APP_DROP. -/
abbrev Ev.fwAppDrop : Nat := 0x5806
/-- FW_RESTARTED. -/
abbrev Ev.fwRestarted : Nat := 0x5807
/-- FW_RESTART_FAILED. -/
abbrev Ev.fwRestartFailed : Nat := 0x5808
/-- HK_OVERRUN. -/
abbrev Ev.hkOverrun : Nat := 0x6001
/-- HK_INJ_OVERFLOW. -/
abbrev Ev.hkInjOverflow : Nat := 0x6002
/-- HK_OPEN_WIRE. -/
abbrev Ev.hkOpenWire : Nat := 0x6003
/-- HK_OPEN_WIRE_CLEAR. -/
abbrev Ev.hkOpenWireClear : Nat := 0x6004
/-- HK_LIMIT. -/
abbrev Ev.hkLimit : Nat := 0x6005
/-- HK_LIMIT_CLEAR. -/
abbrev Ev.hkLimitClear : Nat := 0x6006
/-- HK_CAL_DONE. -/
abbrev Ev.hkCalDone : Nat := 0x6007
/-- HK_CAL_REFUSED. -/
abbrev Ev.hkCalRefused : Nat := 0x6008
/-- STRAP_MARGINAL. -/
abbrev Ev.strapMarginal : Nat := 0x6009
/-- AOUT_READBACK_FAULT. -/
abbrev Ev.aoutReadbackFault : Nat := 0x6101
/-- AOUT_COMPLIANCE. -/
abbrev Ev.aoutCompliance : Nat := 0x6102
/-- AOUT_OVERLOAD. -/
abbrev Ev.aoutOverload : Nat := 0x6103
/-- MF_SETTLED. -/
abbrev Ev.mfSettled : Nat := 0x6201
/-- MF_SWAP_QUEUED. -/
abbrev Ev.mfSwapQueued : Nat := 0x6202
/-- MF_SWAP_REPLACED. -/
abbrev Ev.mfSwapReplaced : Nat := 0x6203
/-- MF_FADE_DONE. -/
abbrev Ev.mfFadeDone : Nat := 0x6204
/-- MF_FIFO_OVERFLOW. -/
abbrev Ev.mfFifoOverflow : Nat := 0x6205
/-- MF_GAP. -/
abbrev Ev.mfGap : Nat := 0x6206
/-- FB_RING_TRIGGERED. -/
abbrev Ev.fbRingTriggered : Nat := 0x6801
/-- FB_RING_DONE. -/
abbrev Ev.fbRingDone : Nat := 0x6802
/-- FB_RING_DOUBLED. -/
abbrev Ev.fbRingDoubled : Nat := 0x6803
/-- FB_RECORD_BAD. -/
abbrev Ev.fbRecordBad : Nat := 0x6804
/-- FB_RINGS_FROZEN. -/
abbrev Ev.fbRingsFrozen : Nat := 0x6805
/-- TH_WARNING. -/
abbrev Ev.thWarning : Nat := 0x7001
/-- TH_WARNING_CLEAR. -/
abbrev Ev.thWarningClear : Nat := 0x7002
/-- TH_LEVEL_CHANGE. -/
abbrev Ev.thLevelChange : Nat := 0x7003
/-- TH_SENSOR_FAIL. -/
abbrev Ev.thSensorFail : Nat := 0x7004
/-- TH_SHUTDOWN_RECORD. -/
abbrev Ev.thShutdownRecord : Nat := 0x7005
/-- TH_L3_NO_RESPONSE. -/
abbrev Ev.thL3NoResponse : Nat := 0x7006
/-- AON_XTAL_FAIL. -/
abbrev Ev.aonXtalFail : Nat := 0x7007
/-- PWR_MARGIN_ALARM. -/
abbrev Ev.pwrMarginAlarm : Nat := 0x7101
/-- PWR_MARGIN_RESTORED. -/
abbrev Ev.pwrMarginRestored : Nat := 0x7102
/-- PWR_CARRIER_DROPPED. -/
abbrev Ev.pwrCarrierDropped : Nat := 0x7103
/-- PWR_AVS_FAULT. -/
abbrev Ev.pwrAvsFault : Nat := 0x7104
/-- PWR_AVS_RESTORED. -/
abbrev Ev.pwrAvsRestored : Nat := 0x7105
/-- PWR_WAKE. -/
abbrev Ev.pwrWake : Nat := 0x7106
/-- PWR_SLEEP_ABORTED. -/
abbrev Ev.pwrSleepAborted : Nat := 0x7107
/-- PWR_SLEEP_REFUSED. -/
abbrev Ev.pwrSleepRefused : Nat := 0x7108
/-- INT_MISMATCH. -/
abbrev Ev.intMismatch : Nat := 0x7801
/-- INT_REFETCH_DIGEST. -/
abbrev Ev.intRefetchDigest : Nat := 0x7802
/-- INT_CORE_RESET. -/
abbrev Ev.intCoreReset : Nat := 0x7803
/-- INT_REPEAT. -/
abbrev Ev.intRepeat : Nat := 0x7804
/-- INT_LEGEND_REBUILT. -/
abbrev Ev.intLegendRebuilt : Nat := 0x7805
/-- INT_RETENTION_LOST. -/
abbrev Ev.intRetentionLost : Nat := 0x7806
/-- BIST_FAIL. -/
abbrev Ev.bistFail : Nat := 0x7901
/-- SLICE_FAIL. -/
abbrev Ev.sliceFail : Nat := 0x7902
/-- TEST_DONE. -/
abbrev Ev.testDone : Nat := 0x7903
/-- TEST_REFUSED. -/
abbrev Ev.testRefused : Nat := 0x7904
/-- LC_TRANSITION. -/
abbrev Ev.lcTransition : Nat := 0x0001
/-- LC_REFUSED. -/
abbrev Ev.lcRefused : Nat := 0x0002
/-- KEY_CHANGED. -/
abbrev Ev.keyChanged : Nat := 0x7A01
/-- ATT_READY. -/
abbrev Ev.attReady : Nat := 0x7A02
/-- DEBUG_ACCESS. -/
abbrev Ev.debugAccess : Nat := 0x7A03
/-- BOOT_DONE. -/
abbrev Ev.bootDone : Nat := 0x0101
/-- RESET_REPORTED. -/
abbrev Ev.resetReported : Nat := 0x0102
/-- BOOT_SLOT_FALLBACK. -/
abbrev Ev.bootSlotFallback : Nat := 0x0103
/-- BOOT_NO_FIRMWARE. -/
abbrev Ev.bootNoFirmware : Nat := 0x0104

/-- The codes of severity WARNING. -/
def codesWarning : List Nat := [
  0x2003, 0x2006, 0x2105, 0x2106, 0x2108, 0x210A, 0x210B, 0x2207, 0x2208, 0x220A, 
  0x2302, 0x2304, 0x2306, 0x2380, 0x2381, 0x2402, 0x2403, 0x2404, 0x2406, 0x2480, 
  0x1002, 0x1003, 0x1004, 0x1005, 0x1101, 0x1103, 0x1105, 0x4004, 0x4005, 0x4006, 
  0x4008, 0x4009, 0x400A, 0x400B, 0x0203, 0x0207, 0x0208, 0x0301, 0x03F1, 0x0801, 
  0x0803, 0x5002, 0x5011, 0x5012, 0x5013, 0x5014, 0x5801, 0x5802, 0x5805, 0x5806, 
  0x6001, 0x6002, 0x6005, 0x6008, 0x6009, 0x6102, 0x6103, 0x6205, 0x6206, 0x6803, 
  0x6804, 0x7001, 0x7003, 0x7007, 0x7108, 0x7801, 0x7803, 0x7804, 0x7806, 0x7904, 
  0x0002, 0x7A03, 0x0103]

/-- The codes of severity ALARM. -/
def codesAlarm : List Nat := [
  0x2005, 0x4001, 0x4003, 0x4007, 0x5003, 0x5803, 0x5808, 0x6003, 0x6101, 0x7004, 
  0x7005, 0x7006, 0x7101, 0x7103, 0x7104, 0x7802, 0x7901, 0x7902, 0x0001, 0x7A01, 
  0x0104]

/-- The severity of a code: 0 INFO, 1 WARNING, 2 ALARM (09 R259). -/
def severityOf (code : Nat) : Nat :=
  if code ∈ codesAlarm then 2 else if code ∈ codesWarning then 1 else 0


/-! ### The catalogue of the ROM (09 R258) -/

/-- Codes and names of the events, in rising order. -/
def eventNames0 : List (Nat × String) :=
  [(0x0001, "LC_TRANSITION"), (0x0002, "LC_REFUSED"), (0x0101, "BOOT_DONE"), (0x0102, "RESET_REPORTED"),
    (0x0103, "BOOT_SLOT_FALLBACK"), (0x0104, "BOOT_NO_FIRMWARE"), (0x0201, "ED_DRAFT_OPENED"), (0x0202, "ED_VALIDATED"),
    (0x0203, "ED_REJECTED"), (0x0204, "ED_ARMED"), (0x0205, "ED_APPLIED"), (0x0206, "ED_DISARMED"),
    (0x0207, "ED_DRAFT_EXPIRED"), (0x0208, "ED_APPLY_REJECTED"), (0x0209, "ED_DRAFT_DISCARDED"), (0x020A, "ED_JOURNAL_CHECKPOINT"),
    (0x0301, "EVENT_LOST"), (0x03F0, "COUNTER_CARRY"), (0x03F1, "COUNTER_SAT"), (0x0801, "MGMT_CRC_ERROR"),
    (0x0802, "TWI_WINDOW_WRITE"), (0x0803, "TWI_WINDOW_FULL"), (0x1001, "HOST_LANE_STATE"), (0x1002, "HOST_TRAIN_TIMEOUT"),
    (0x1003, "HOST_TRAIN_LOW_FOM"), (0x1004, "HOST_LOS"), (0x1005, "HOST_SLIP"), (0x1101, "CLIENT_FAULT_ON"),
    (0x1102, "CLIENT_FAULT_OFF"), (0x1103, "HOST_SHORTFALL_ON"), (0x1104, "HOST_SHORTFALL_OFF"), (0x1105, "HOST_DELIN_LOSS")]

/-- Codes and names of the events, in rising order. -/
def eventNames1 : List (Nat × String) :=
  [(0x2001, "TX_CONTOUR_STEADY"), (0x2002, "TX_CONTOUR_DARK"), (0x2003, "TX_SQUELCH_ON"), (0x2004, "TX_SQUELCH_OFF"),
    (0x2005, "TX_OC_TRIP"), (0x2006, "TX_NLC_XPM_LOST"), (0x2007, "TX_NLC_XPM_RESTORED"), (0x2101, "RX_CD_SWAP_QUEUED"),
    (0x2102, "RX_CD_SWAP_REPLACED"), (0x2103, "RX_CD_FADE_DONE"), (0x2104, "RX_TIMING_LOCK"), (0x2105, "RX_TIMING_UNLOCK"),
    (0x2106, "RX_DESKEW_LIMIT"), (0x2107, "RX_EQ_SINGULAR"), (0x2108, "RX_SOP_HIGH"), (0x2109, "RX_SOP_NORMAL"),
    (0x210A, "RX_CR_NEAR_LIMIT"), (0x210B, "RX_HDR_MISMATCH"), (0x2201, "CAR_STATE_CHANGE"), (0x2202, "ACQ_DETECT"),
    (0x2203, "ACQ_SYNC"), (0x2204, "ACQ_LOCK"), (0x2205, "ACQ_FALSE_LOCK"), (0x2206, "ACQ_CAPTURE"),
    (0x2207, "ACQ_LOL"), (0x2208, "ACQ_HOLD"), (0x2209, "ACQ_HOLD_RECOVER"), (0x220A, "RX_DARK"),
    (0x220B, "RX_LIGHT"), (0x2301, "TX_LOAD_SWITCH"), (0x2302, "TX_SWITCH_REFUSED"), (0x2303, "RX_LOAD_STAGED")]

/-- Codes and names of the events, in rising order. -/
def eventNames2 : List (Nat × String) :=
  [(0x2304, "RX_STAGE_REFUSED"), (0x2305, "RX_LOAD_SWITCH"), (0x2306, "RX_LOAD_UNKNOWN"), (0x2380, "LX_FB_MISMATCH"),
    (0x2381, "LP_SHORTFALL"), (0x2401, "RX_FEC_ALIGNED"), (0x2402, "RX_FEC_REALIGN"), (0x2403, "RX_FEC_FORCED"),
    (0x2404, "RX_FEC_UNCORR"), (0x2405, "RX_FEC_CAP_CHANGE"), (0x2406, "RX_FAR_BDI_ON"), (0x2407, "RX_FAR_BDI_OFF"),
    (0x2480, "LX_FEC_SUSPECT"), (0x4001, "REFCLK_LOSS"), (0x4002, "REFCLK_RESTORED"), (0x4003, "LINE_PLL_UNLOCK"),
    (0x4004, "LINE_PLL_TC_HOLD"), (0x4005, "LINE_PLL_TUNE_MARGIN"), (0x4006, "LINE_REBAND_REFUSED"), (0x4007, "LINE_CONV_FAIL"),
    (0x4008, "LINE_SUBADC_FAIL"), (0x4009, "LINE_D2D_DEGRADED"), (0x400A, "LINE_ADC_SLIP"), (0x400B, "LINE_DAC_SLIP"),
    (0x5001, "TV_PORT_UP"), (0x5002, "TV_PORT_DOWN"), (0x5003, "TV_DUP_ID"), (0x5010, "DATUM_LOCKED"),
    (0x5011, "DATUM_UNLOCKED"), (0x5012, "DATUM_HOLDOVER"), (0x5013, "DATUM_STEP"), (0x5014, "PPS_MISSED")]

/-- Codes and names of the events, in rising order. -/
def eventNames3 : List (Nat × String) :=
  [(0x5801, "FW_CORE_FAULT"), (0x5802, "FW_SV_WDOG"), (0x5803, "FW_CORE_HALTED"), (0x5804, "FW_LOAD_STATE"),
    (0x5805, "FW_SEG_REJECT"), (0x5806, "FW_APP_DROP"), (0x5807, "FW_RESTARTED"), (0x5808, "FW_RESTART_FAILED"),
    (0x6001, "HK_OVERRUN"), (0x6002, "HK_INJ_OVERFLOW"), (0x6003, "HK_OPEN_WIRE"), (0x6004, "HK_OPEN_WIRE_CLEAR"),
    (0x6005, "HK_LIMIT"), (0x6006, "HK_LIMIT_CLEAR"), (0x6007, "HK_CAL_DONE"), (0x6008, "HK_CAL_REFUSED"),
    (0x6009, "STRAP_MARGINAL"), (0x6101, "AOUT_READBACK_FAULT"), (0x6102, "AOUT_COMPLIANCE"), (0x6103, "AOUT_OVERLOAD"),
    (0x6201, "MF_SETTLED"), (0x6202, "MF_SWAP_QUEUED"), (0x6203, "MF_SWAP_REPLACED"), (0x6204, "MF_FADE_DONE"),
    (0x6205, "MF_FIFO_OVERFLOW"), (0x6206, "MF_GAP"), (0x6801, "FB_RING_TRIGGERED"), (0x6802, "FB_RING_DONE"),
    (0x6803, "FB_RING_DOUBLED"), (0x6804, "FB_RECORD_BAD"), (0x6805, "FB_RINGS_FROZEN"), (0x7001, "TH_WARNING")]

/-- Codes and names of the events, in rising order. -/
def eventNames4 : List (Nat × String) :=
  [(0x7002, "TH_WARNING_CLEAR"), (0x7003, "TH_LEVEL_CHANGE"), (0x7004, "TH_SENSOR_FAIL"), (0x7005, "TH_SHUTDOWN_RECORD"),
    (0x7006, "TH_L3_NO_RESPONSE"), (0x7007, "AON_XTAL_FAIL"), (0x7101, "PWR_MARGIN_ALARM"), (0x7102, "PWR_MARGIN_RESTORED"),
    (0x7103, "PWR_CARRIER_DROPPED"), (0x7104, "PWR_AVS_FAULT"), (0x7105, "PWR_AVS_RESTORED"), (0x7106, "PWR_WAKE"),
    (0x7107, "PWR_SLEEP_ABORTED"), (0x7108, "PWR_SLEEP_REFUSED"), (0x7801, "INT_MISMATCH"), (0x7802, "INT_REFETCH_DIGEST"),
    (0x7803, "INT_CORE_RESET"), (0x7804, "INT_REPEAT"), (0x7805, "INT_LEGEND_REBUILT"), (0x7806, "INT_RETENTION_LOST"),
    (0x7901, "BIST_FAIL"), (0x7902, "SLICE_FAIL"), (0x7903, "TEST_DONE"), (0x7904, "TEST_REFUSED"),
    (0x7A01, "KEY_CHANGED"), (0x7A02, "ATT_READY"), (0x7A03, "DEBUG_ACCESS")]

/-- Codes and names of every event. -/
def eventNames : List (Nat × String) := eventNames0 ++ eventNames1 ++ eventNames2 ++ eventNames3 ++ eventNames4

/-- A catalogue record: code, severity, the length of the name, and the name in ASCII. -/
def catalogueRecord (e : Nat × String) : List Byte :=
  let cs := e.2.toList
  [BitVec.ofNat 8 (e.1 / 256), BitVec.ofNat 8 e.1, BitVec.ofNat 8 (severityOf e.1), BitVec.ofNat 8 cs.length] ++
    cs.map (fun x => BitVec.ofNat 8 x.toNat)

/-- Part n of the catalogue 03.0F0: the records that the ROM holds there, which the spec divides among its 16 parts in no stated way
(Config.cataloguePart), in rising order of code. -/
def cataloguePart (n : Nat) : List Byte :=
  (eventNames.zipIdx.filter (fun e => Config.cataloguePart e.2 % 16 = n)).flatMap (fun e => catalogueRecord e.1)

end Sys2Proof.Machine
end

