-- ==== Sys2Proof/Machine/Keys.lean ====
section
/-! DEFINITION. A name for every Legend key, from the Legend tables of spec/: `K.<name>` with the carrier for
areas 20 to 24 (R8) and the index for array entries (R7). -/

namespace Sys2Proof.Machine

/-- 00.000 VENDOR (R244). -/
abbrev K.vendor : Key := ⟨0x00, 0x000, 0⟩
/-- 00.001 PART (R244). -/
abbrev K.part : Key := ⟨0x00, 0x001, 0⟩
/-- 00.002 STEPPING (R244). -/
abbrev K.stepping : Key := ⟨0x00, 0x002, 0⟩
/-- 00.003 CARRIERS (R244). -/
abbrev K.carriers : Key := ⟨0x00, 0x003, 0⟩
/-- 00.004 LEGEND_REV (R244). -/
abbrev K.legendRev : Key := ⟨0x00, 0x004, 0⟩
/-- 00.005 SERIAL (R244). -/
abbrev K.serial : Key := ⟨0x00, 0x005, 0⟩
/-- 20.000 CAR_STATE (R43). -/
abbrev K.carState (c : Carrier) : Key := ⟨0x20 + c.off, 0x000, 0⟩
/-- 20.001 CAR_TARGET (R244). -/
abbrev K.carTarget (c : Carrier) : Key := ⟨0x20 + c.off, 0x001, 0⟩
/-- 20.010 SYMBOL_RATE (R45). -/
abbrev K.symbolRate (c : Carrier) : Key := ⟨0x20 + c.off, 0x010, 0⟩
/-- 20.011 SUBCARRIERS (R45). -/
abbrev K.subcarriers (c : Carrier) : Key := ⟨0x20 + c.off, 0x011, 0⟩
/-- 20.012 ROLLOFF (R45). -/
abbrev K.rolloff (c : Carrier) : Key := ⟨0x20 + c.off, 0x012, 0⟩
/-- 20.013 TX_SAMPLE_RATE (R244). -/
abbrev K.txSampleRate (c : Carrier) : Key := ⟨0x20 + c.off, 0x013, 0⟩
/-- 20.014 LINE_PAYLOAD (R244). -/
abbrev K.linePayload (c : Carrier) : Key := ⟨0x20 + c.off, 0x014, 0⟩
/-- 20.015 BDI_FORCE (R52). -/
abbrev K.bdiForce (c : Carrier) : Key := ⟨0x20 + c.off, 0x015, 0⟩
/-- 20.020[k] SC_TILT (R244). -/
abbrev K.scTilt (c : Carrier) (i : Nat) : Key := ⟨0x20 + c.off, 0x020, i⟩
/-- 20.022[n] NOTCH_CENTRE (R244). -/
abbrev K.notchCentre (c : Carrier) (i : Nat) : Key := ⟨0x20 + c.off, 0x022, i⟩
/-- 20.023[n] NOTCH_WIDTH (R244). -/
abbrev K.notchWidth (c : Carrier) (i : Nat) : Key := ⟨0x20 + c.off, 0x023, i⟩
/-- 20.024[n] NOTCH_DEPTH (R244). -/
abbrev K.notchDepth (c : Carrier) (i : Nat) : Key := ⟨0x20 + c.off, 0x024, i⟩
/-- 20.050 NLC_ENABLE (R70). -/
abbrev K.nlcEnable (c : Carrier) : Key := ⟨0x20 + c.off, 0x050, 0⟩
/-- 20.051 NLC_SPM_COUNT (R68). -/
abbrev K.nlcSpmCount (c : Carrier) : Key := ⟨0x20 + c.off, 0x051, 0⟩
/-- 20.052 NLC_XPM_SKEW (R68). -/
abbrev K.nlcXpmSkew (c : Carrier) : Key := ⟨0x20 + c.off, 0x052, 0⟩
/-- 20.053 NLC_GAIN (R68). -/
abbrev K.nlcGain (c : Carrier) : Key := ⟨0x20 + c.off, 0x053, 0⟩
/-- 20.054 NLC_STATUS (R480). -/
abbrev K.nlcStatus (c : Carrier) : Key := ⟨0x20 + c.off, 0x054, 0⟩
/-- 20.060[i] NLC_COEF (R71). -/
abbrev K.nlcCoef (c : Carrier) (i : Nat) : Key := ⟨0x20 + c.off, 0x060, i⟩
/-- 20.061[i] NLC_INDEX (R71). -/
abbrev K.nlcIndex (c : Carrier) (i : Nat) : Key := ⟨0x20 + c.off, 0x061, i⟩
/-- 20.030 TX_SCALE (R72). -/
abbrev K.txScale (c : Carrier) : Key := ⟨0x20 + c.off, 0x030, 0⟩
/-- 20.070[j] LANE_SKEW (R72). -/
abbrev K.laneSkew20 (c : Carrier) (i : Nat) : Key := ⟨0x20 + c.off, 0x070, i⟩
/-- 20.071[j] LANE_GAIN (R72). -/
abbrev K.laneGain (c : Carrier) (i : Nat) : Key := ⟨0x20 + c.off, 0x071, i⟩
/-- 20.072 IQ_PHASE_X (R244). -/
abbrev K.iqPhaseX (c : Carrier) : Key := ⟨0x20 + c.off, 0x072, 0⟩
/-- 20.073 IQ_PHASE_Y (R244). -/
abbrev K.iqPhaseY (c : Carrier) : Key := ⟨0x20 + c.off, 0x073, 0⟩
/-- 20.074[i] PREEMPH_TAP (R72). -/
abbrev K.preemphTap (c : Carrier) (i : Nat) : Key := ⟨0x20 + c.off, 0x074, i⟩
/-- 20.075 MOD_ALPHA (R72). -/
abbrev K.modAlpha (c : Carrier) : Key := ⟨0x20 + c.off, 0x075, 0⟩
/-- 20.076 LANE_INVERT (R244). -/
abbrev K.laneInvert20 (c : Carrier) : Key := ⟨0x20 + c.off, 0x076, 0⟩
/-- 20.077[j] DAC_CLIP_COUNT (R79). -/
abbrev K.dacClipCount (c : Carrier) (i : Nat) : Key := ⟨0x20 + c.off, 0x077, i⟩
/-- 20.031 CONTOUR_SHAPE (R244). -/
abbrev K.contourShape (c : Carrier) : Key := ⟨0x20 + c.off, 0x031, 0⟩
/-- 20.032 CONTOUR_RISE (R74). -/
abbrev K.contourRise (c : Carrier) : Key := ⟨0x20 + c.off, 0x032, 0⟩
/-- 20.033 CONTOUR_FALL (R74). -/
abbrev K.contourFall (c : Carrier) : Key := ⟨0x20 + c.off, 0x033, 0⟩
/-- 20.034 CONTOUR_FLOOR (R74). -/
abbrev K.contourFloor (c : Carrier) : Key := ⟨0x20 + c.off, 0x034, 0⟩
/-- 20.035 SCALE_SLEW (R73). -/
abbrev K.scaleSlew (c : Carrier) : Key := ⟨0x20 + c.off, 0x035, 0⟩
/-- 20.036 CONTOUR_STATE (R79). -/
abbrev K.contourState (c : Carrier) : Key := ⟨0x20 + c.off, 0x036, 0⟩
/-- 20.037 CONTOUR_GAIN (R244). -/
abbrev K.contourGain (c : Carrier) : Key := ⟨0x20 + c.off, 0x037, 0⟩
/-- 20.040 SQUELCH_SW (R76). -/
abbrev K.squelchSw (c : Carrier) : Key := ⟨0x20 + c.off, 0x040, 0⟩
/-- 20.041 SQUELCH_SRC (R76). -/
abbrev K.squelchSrc (c : Carrier) : Key := ⟨0x20 + c.off, 0x041, 0⟩
/-- 20.042 OC_CLEAR (R76). -/
abbrev K.ocClear (c : Carrier) : Key := ⟨0x20 + c.off, 0x042, 0⟩
/-- 20.043 SQUELCH_COUNT (R77). -/
abbrev K.squelchCount (c : Carrier) : Key := ⟨0x20 + c.off, 0x043, 0⟩
/-- 20.090 TX_SFC (R48). -/
abbrev K.txSfc (c : Carrier) : Key := ⟨0x20 + c.off, 0x090, 0⟩
/-- 21.000 RX_SAMPLE_RATE (R244). -/
abbrev K.rxSampleRate (c : Carrier) : Key := ⟨0x21 + c.off, 0x000, 0⟩
/-- 21.001 RX_STATUS (R82). -/
abbrev K.rxStatus (c : Carrier) : Key := ⟨0x21 + c.off, 0x001, 0⟩
/-- 21.002 RX_LANE_INVERT (R83). -/
abbrev K.rxLaneInvert (c : Carrier) : Key := ⟨0x21 + c.off, 0x002, 0⟩
/-- 21.003[j] RX_LANE_SKEW (R83). -/
abbrev K.rxLaneSkew (c : Carrier) (i : Nat) : Key := ⟨0x21 + c.off, 0x003, i⟩
/-- 21.004 FE_IQ_MODE (R85). -/
abbrev K.feIqMode (c : Carrier) : Key := ⟨0x21 + c.off, 0x004, 0⟩
/-- 21.005 FE_IQ_PHASE_X (R85). -/
abbrev K.feIqPhaseX (c : Carrier) : Key := ⟨0x21 + c.off, 0x005, 0⟩
/-- 21.006 FE_IQ_PHASE_Y (R85). -/
abbrev K.feIqPhaseY (c : Carrier) : Key := ⟨0x21 + c.off, 0x006, 0⟩
/-- 21.007[j] FE_LANE_GAIN (R86). -/
abbrev K.feLaneGain (c : Carrier) (i : Nat) : Key := ⟨0x21 + c.off, 0x007, i⟩
/-- 21.008[p] FE_IQ_PHASE_EST (R85). -/
abbrev K.feIqPhaseEst (c : Carrier) (i : Nat) : Key := ⟨0x21 + c.off, 0x008, i⟩
/-- 21.009 FE_DC_TC (R83). -/
abbrev K.feDcTc (c : Carrier) : Key := ⟨0x21 + c.off, 0x009, 0⟩
/-- 21.00A FE_ILV_ENABLE (R244). -/
abbrev K.feIlvEnable (c : Carrier) : Key := ⟨0x21 + c.off, 0x00A, 0⟩
/-- 21.00B[j] FE_ADC_CLIP_COUNT (R86). -/
abbrev K.feAdcClipCount (c : Carrier) (i : Nat) : Key := ⟨0x21 + c.off, 0x00B, i⟩
/-- 21.010 CD_VALUE (R88). -/
abbrev K.cdValue (c : Carrier) : Key := ⟨0x21 + c.off, 0x010, 0⟩
/-- 21.011 CD_SLOPE (R88). -/
abbrev K.cdSlope (c : Carrier) : Key := ⟨0x21 + c.off, 0x011, 0⟩
/-- 21.012 CD_WAVELENGTH (R87). -/
abbrev K.cdWavelength (c : Carrier) : Key := ⟨0x21 + c.off, 0x012, 0⟩
/-- 21.013 CD_FADE_BLOCKS (R90). -/
abbrev K.cdFadeBlocks (c : Carrier) : Key := ⟨0x21 + c.off, 0x013, 0⟩
/-- 21.014 CD_SHEET_STATE (R95). -/
abbrev K.cdSheetState (c : Carrier) : Key := ⟨0x21 + c.off, 0x014, 0⟩
/-- 21.015 CD_APPLIED (R90). -/
abbrev K.cdApplied (c : Carrier) : Key := ⟨0x21 + c.off, 0x015, 0⟩
/-- 21.016 CD_FADE_POS (R90). -/
abbrev K.cdFadePos (c : Carrier) : Key := ⟨0x21 + c.off, 0x016, 0⟩
/-- 21.017 CD_QUEUED_COUNT (R92). -/
abbrev K.cdQueuedCount (c : Carrier) : Key := ⟨0x21 + c.off, 0x017, 0⟩
/-- 21.018 CD_REPLACED_COUNT (R92). -/
abbrev K.cdReplacedCount (c : Carrier) : Key := ⟨0x21 + c.off, 0x018, 0⟩
/-- 21.01A CD_SEARCH_MIN (R94). -/
abbrev K.cdSearchMin (c : Carrier) : Key := ⟨0x21 + c.off, 0x01A, 0⟩
/-- 21.01B CD_SEARCH_MAX (R94). -/
abbrev K.cdSearchMax (c : Carrier) : Key := ⟨0x21 + c.off, 0x01B, 0⟩
/-- 21.01C CD_SEARCH_STEP (R94). -/
abbrev K.cdSearchStep (c : Carrier) : Key := ⟨0x21 + c.off, 0x01C, 0⟩
/-- 21.01D CD_SEARCH_START (R94). -/
abbrev K.cdSearchStart (c : Carrier) : Key := ⟨0x21 + c.off, 0x01D, 0⟩
/-- 21.01E CD_SEARCH_STATE (R94). -/
abbrev K.cdSearchState (c : Carrier) : Key := ⟨0x21 + c.off, 0x01E, 0⟩
/-- 21.01F CD_EST (R94). -/
abbrev K.cdEst (c : Carrier) : Key := ⟨0x21 + c.off, 0x01F, 0⟩
/-- 21.020 CD_EST_QUALITY (R94). -/
abbrev K.cdEstQuality (c : Carrier) : Key := ⟨0x21 + c.off, 0x020, 0⟩
/-- 21.030 TR_BW (R97). -/
abbrev K.trBw (c : Carrier) : Key := ⟨0x21 + c.off, 0x030, 0⟩
/-- 21.031 TR_OFFSET (R96). -/
abbrev K.trOffset (c : Carrier) : Key := ⟨0x21 + c.off, 0x031, 0⟩
/-- 21.032 TR_LOCK (R96). -/
abbrev K.trLock (c : Carrier) : Key := ⟨0x21 + c.off, 0x032, 0⟩
/-- 21.033 TR_UNLOCK_COUNT (R96). -/
abbrev K.trUnlockCount (c : Carrier) : Key := ⟨0x21 + c.off, 0x033, 0⟩
/-- 21.038[k] SC_DESKEW (R100). -/
abbrev K.scDeskew (c : Carrier) (i : Nat) : Key := ⟨0x21 + c.off, 0x038, i⟩
/-- 21.040 EQ_MODE (R244). -/
abbrev K.eqMode (c : Carrier) : Key := ⟨0x21 + c.off, 0x040, 0⟩
/-- 21.041 EQ_MU (R102). -/
abbrev K.eqMu (c : Carrier) : Key := ⟨0x21 + c.off, 0x041, 0⟩
/-- 21.042 EQ_FREEZE (R104). -/
abbrev K.eqFreeze (c : Carrier) : Key := ⟨0x21 + c.off, 0x042, 0⟩
/-- 21.043 EQ_CMA_MU (R102). -/
abbrev K.eqCmaMu (c : Carrier) : Key := ⟨0x21 + c.off, 0x043, 0⟩
/-- 21.044[k] EQ_SHIFT_COUNT (R105). -/
abbrev K.eqShiftCount (c : Carrier) (i : Nat) : Key := ⟨0x21 + c.off, 0x044, i⟩
/-- 21.045[k] EQ_TAPS (R244). -/
abbrev K.eqTaps (c : Carrier) (i : Nat) : Key := ⟨0x21 + c.off, 0x045, i⟩
/-- 21.046 EQ_REINIT (R104). -/
abbrev K.eqReinit (c : Carrier) : Key := ⟨0x21 + c.off, 0x046, 0⟩
/-- 21.047[k] EQ_SINGULAR_COUNT (R103). -/
abbrev K.eqSingularCount (c : Carrier) (i : Nat) : Key := ⟨0x21 + c.off, 0x047, i⟩
/-- 21.050 SOP_BW (R106). -/
abbrev K.sopBw (c : Carrier) : Key := ⟨0x21 + c.off, 0x050, 0⟩
/-- 21.051[k] SOP_RATE (R106). -/
abbrev K.sopRate (c : Carrier) (i : Nat) : Key := ⟨0x21 + c.off, 0x051, i⟩
/-- 21.052 SOP_RATE_PEAK (R106). -/
abbrev K.sopRatePeak (c : Carrier) : Key := ⟨0x21 + c.off, 0x052, 0⟩
/-- 21.053 SOP_PEAK_CLEAR (R106). -/
abbrev K.sopPeakClear (c : Carrier) : Key := ⟨0x21 + c.off, 0x053, 0⟩
/-- 21.054 SOP_ALARM_RATE (R82). -/
abbrev K.sopAlarmRate (c : Carrier) : Key := ⟨0x21 + c.off, 0x054, 0⟩
/-- 21.060 CR_PILOT_WINDOW (R109). -/
abbrev K.crPilotWindow (c : Carrier) : Key := ⟨0x21 + c.off, 0x060, 0⟩
/-- 21.061 CR_FREQ_BW (R108). -/
abbrev K.crFreqBw (c : Carrier) : Key := ⟨0x21 + c.off, 0x061, 0⟩
/-- 21.062 CR_COMMON_FREQ (R108). -/
abbrev K.crCommonFreq (c : Carrier) : Key := ⟨0x21 + c.off, 0x062, 0⟩
/-- 21.063[k] CR_SC_FREQ (R108). -/
abbrev K.crScFreq (c : Carrier) (i : Nat) : Key := ⟨0x21 + c.off, 0x063, i⟩
/-- 21.064 CR_TOTAL_FREQ (R108). -/
abbrev K.crTotalFreq (c : Carrier) : Key := ⟨0x21 + c.off, 0x064, 0⟩
/-- 21.065 CR_LIMIT_COUNT (R110). -/
abbrev K.crLimitCount (c : Carrier) : Key := ⟨0x21 + c.off, 0x065, 0⟩
/-- 21.071 HDR_CORR_COUNT (R111). -/
abbrev K.hdrCorrCount (c : Carrier) : Key := ⟨0x21 + c.off, 0x071, 0⟩
/-- 21.072 HDR_FAIL_COUNT (R111). -/
abbrev K.hdrFailCount (c : Carrier) : Key := ⟨0x21 + c.off, 0x072, 0⟩
/-- 21.073 HDR_PREDICT_COUNT (R113). -/
abbrev K.hdrPredictCount (c : Carrier) : Key := ⟨0x21 + c.off, 0x073, 0⟩
/-- 21.074 HDR_MISMATCH_COUNT (R113). -/
abbrev K.hdrMismatchCount (c : Carrier) : Key := ⟨0x21 + c.off, 0x074, 0⟩
/-- 21.075 RX_ACTIVE_ED (R113). -/
abbrev K.rxActiveEd (c : Carrier) : Key := ⟨0x21 + c.off, 0x075, 0⟩
/-- 21.080 LLR_STEP (R118). -/
abbrev K.llrStep (c : Carrier) : Key := ⟨0x21 + c.off, 0x080, 0⟩
/-- 21.081 NOISE_MODE (R115). -/
abbrev K.noiseMode (c : Carrier) : Key := ⟨0x21 + c.off, 0x081, 0⟩
/-- 21.082[n] NOISE_VAR (R115). -/
abbrev K.noiseVar (c : Carrier) (i : Nat) : Key := ⟨0x21 + c.off, 0x082, i⟩
/-- 21.083[n] NOISE_VAR_EST (R115). -/
abbrev K.noiseVarEst (c : Carrier) (i : Nat) : Key := ⟨0x21 + c.off, 0x083, i⟩
/-- 21.084 DEMAP_PRIOR (R114). -/
abbrev K.demapPrior (c : Carrier) : Key := ⟨0x21 + c.off, 0x084, 0⟩
/-- 22.001 ACQ_PHASE (R129). -/
abbrev K.acqPhase (c : Carrier) : Key := ⟨0x22 + c.off, 0x001, 0⟩
/-- 22.002 ACQ_HANDSHAKE (R129). -/
abbrev K.acqHandshake (c : Carrier) : Key := ⟨0x22 + c.off, 0x002, 0⟩
/-- 22.003 SWITCH_LEAD (R128). -/
abbrev K.switchLead (c : Carrier) : Key := ⟨0x22 + c.off, 0x003, 0⟩
/-- 22.004 FRAME_WAIT (R130). -/
abbrev K.frameWait (c : Carrier) : Key := ⟨0x22 + c.off, 0x004, 0⟩
/-- 22.005 LOL_HOLD (R130). -/
abbrev K.lolHold (c : Carrier) : Key := ⟨0x22 + c.off, 0x005, 0⟩
/-- 22.006 ACQ_CD_POLICY (R142). -/
abbrev K.acqCdPolicy (c : Carrier) : Key := ⟨0x22 + c.off, 0x006, 0⟩
/-- 22.010 DET_THRESH (R132). -/
abbrev K.detThresh (c : Carrier) : Key := ⟨0x22 + c.off, 0x010, 0⟩
/-- 22.011 CAPTURE_MARGIN (R137). -/
abbrev K.captureMargin (c : Carrier) : Key := ⟨0x22 + c.off, 0x011, 0⟩
/-- 22.012 SYNC_ERR_MAX (R135). -/
abbrev K.syncErrMax (c : Carrier) : Key := ⟨0x22 + c.off, 0x012, 0⟩
/-- 22.013 CONFIRM_SOUNDINGS (R130). -/
abbrev K.confirmSoundings (c : Carrier) : Key := ⟨0x22 + c.off, 0x013, 0⟩
/-- 22.014 FAW_ERR_MAX (R136). -/
abbrev K.fawErrMax (c : Carrier) : Key := ⟨0x22 + c.off, 0x014, 0⟩
/-- 22.015 LOF_FRAMES (R130). -/
abbrev K.lofFrames (c : Carrier) : Key := ⟨0x22 + c.off, 0x015, 0⟩
/-- 22.020 COARSE_FREQ (R131). -/
abbrev K.coarseFreq (c : Carrier) : Key := ⟨0x22 + c.off, 0x020, 0⟩
/-- 22.021 DET_METRIC (R133). -/
abbrev K.detMetric (c : Carrier) : Key := ⟨0x22 + c.off, 0x021, 0⟩
/-- 22.022 DET_TIME (R133). -/
abbrev K.detTime (c : Carrier) : Key := ⟨0x22 + c.off, 0x022, 0⟩
/-- 22.023 FAR_STATION (R135). -/
abbrev K.farStation (c : Carrier) : Key := ⟨0x22 + c.off, 0x023, 0⟩
/-- 22.024 FAR_CARRIER (R244). -/
abbrev K.farCarrier (c : Carrier) : Key := ⟨0x22 + c.off, 0x024, 0⟩
/-- 22.025 FAR_RX_SYNC (R244). -/
abbrev K.farRxSync (c : Carrier) : Key := ⟨0x22 + c.off, 0x025, 0⟩
/-- 22.026 FAR_SWITCH_SFC (R135). -/
abbrev K.farSwitchSfc (c : Carrier) : Key := ⟨0x22 + c.off, 0x026, 0⟩
/-- 22.027 SYNC_ERRORS (R135). -/
abbrev K.syncErrors (c : Carrier) : Key := ⟨0x22 + c.off, 0x027, 0⟩
/-- 22.030 FALSE_LOCK_COUNT (R130). -/
abbrev K.falseLockCount (c : Carrier) : Key := ⟨0x22 + c.off, 0x030, 0⟩
/-- 22.031 CAPTURE_COUNT (R130). -/
abbrev K.captureCount (c : Carrier) : Key := ⟨0x22 + c.off, 0x031, 0⟩
/-- 22.032 LOL_COUNT (R130). -/
abbrev K.lolCount (c : Carrier) : Key := ⟨0x22 + c.off, 0x032, 0⟩
/-- 22.033 LOCK_COUNT (R130). -/
abbrev K.lockCount (c : Carrier) : Key := ⟨0x22 + c.off, 0x033, 0⟩
/-- 22.034 HOLD_RECOVER_COUNT (R130). -/
abbrev K.holdRecoverCount (c : Carrier) : Key := ⟨0x22 + c.off, 0x034, 0⟩
/-- 22.035 ACQ_TIME (R130). -/
abbrev K.acqTime (c : Carrier) : Key := ⟨0x22 + c.off, 0x035, 0⟩
/-- 22.036 LOL_CAUSE (R130). -/
abbrev K.lolCause (c : Carrier) : Key := ⟨0x22 + c.off, 0x036, 0⟩
/-- 22.040 DARK (R143). -/
abbrev K.dark (c : Carrier) : Key := ⟨0x22 + c.off, 0x040, 0⟩
/-- 22.041[k] NOISE_FLOOR (R143). -/
abbrev K.noiseFloor (c : Carrier) (i : Nat) : Key := ⟨0x22 + c.off, 0x041, i⟩
/-- 22.042 RX_POWER (R143). -/
abbrev K.rxPower (c : Carrier) : Key := ⟨0x22 + c.off, 0x042, 0⟩
/-- 22.043 DARK_TIME (R143). -/
abbrev K.darkTime (c : Carrier) : Key := ⟨0x22 + c.off, 0x043, 0⟩
/-- 23.000 SNR_AVG (R148). -/
abbrev K.snrAvg (c : Carrier) : Key := ⟨0x23 + c.off, 0x000, 0⟩
/-- 23.001[n] SNR_PILOT (R148). -/
abbrev K.snrPilot (c : Carrier) (i : Nat) : Key := ⟨0x23 + c.off, 0x001, i⟩
/-- 23.002[k] SNR_SC (R148). -/
abbrev K.snrSc (c : Carrier) (i : Nat) : Key := ⟨0x23 + c.off, 0x002, i⟩
/-- 23.003[k] SNR_FW (R149). -/
abbrev K.snrFw (c : Carrier) (i : Nat) : Key := ⟨0x23 + c.off, 0x003, i⟩
/-- 23.004[k] FAR_SNR (R166). -/
abbrev K.farSnr (c : Carrier) (i : Nat) : Key := ⟨0x23 + c.off, 0x004, i⟩
/-- 23.010 TX_TAG (R150). -/
abbrev K.txTag (c : Carrier) : Key := ⟨0x23 + c.off, 0x010, 0⟩
/-- 23.011 TX_PREV_TAG (R150). -/
abbrev K.txPrevTag (c : Carrier) : Key := ⟨0x23 + c.off, 0x011, 0⟩
/-- 23.012 TX_EDITED_TAG (R150). -/
abbrev K.txEditedTag (c : Carrier) : Key := ⟨0x23 + c.off, 0x012, 0⟩
/-- 23.013 TX_SWITCH (R153). -/
abbrev K.txSwitch (c : Carrier) : Key := ⟨0x23 + c.off, 0x013, 0⟩
/-- 23.014 TX_PENDING (R147). -/
abbrev K.txPending (c : Carrier) : Key := ⟨0x23 + c.off, 0x014, 0⟩
/-- 23.015 TX_CAPACITY (R152). -/
abbrev K.txCapacity (c : Carrier) : Key := ⟨0x23 + c.off, 0x015, 0⟩
/-- 23.016 TX_CURRENT_SET (R152). -/
abbrev K.txCurrentSet (c : Carrier) : Key := ⟨0x23 + c.off, 0x016, 0⟩
/-- 23.017 TX_PREV_SET (R244). -/
abbrev K.txPrevSet (c : Carrier) : Key := ⟨0x23 + c.off, 0x017, 0⟩
/-- 23.018 TX_SWITCH_REFUSED (R153). -/
abbrev K.txSwitchRefused (c : Carrier) : Key := ⟨0x23 + c.off, 0x018, 0⟩
/-- 23.040[k] TX_LOADING (R147). -/
abbrev K.txLoading (c : Carrier) (i : Nat) : Key := ⟨0x23 + c.off, 0x040, i⟩
/-- 23.041[k] TX_GRID (R147). -/
abbrev K.txGrid (c : Carrier) (i : Nat) : Key := ⟨0x23 + c.off, 0x041, i⟩
/-- 23.042 EDITED_CAPACITY (R147). -/
abbrev K.editedCapacity (c : Carrier) : Key := ⟨0x23 + c.off, 0x042, 0⟩
/-- 23.044[k] FB_LOADING (R147). -/
abbrev K.fbLoading (c : Carrier) (i : Nat) : Key := ⟨0x23 + c.off, 0x044, i⟩
/-- 23.045[k] FB_GRID (R147). -/
abbrev K.fbGrid (c : Carrier) (i : Nat) : Key := ⟨0x23 + c.off, 0x045, i⟩
/-- 23.046 FB_CRC (R162). -/
abbrev K.fbCrc (c : Carrier) : Key := ⟨0x23 + c.off, 0x046, 0⟩
/-- 23.050[k] STAGE_LOADING (R157). -/
abbrev K.stageLoading (c : Carrier) (i : Nat) : Key := ⟨0x23 + c.off, 0x050, i⟩
/-- 23.051[k] STAGE_GRID (R157). -/
abbrev K.stageGrid (c : Carrier) (i : Nat) : Key := ⟨0x23 + c.off, 0x051, i⟩
/-- 23.052 STAGE_TAG (R157). -/
abbrev K.stageTag (c : Carrier) : Key := ⟨0x23 + c.off, 0x052, 0⟩
/-- 23.053[s] RX_SLOT_TAG (R157). -/
abbrev K.rxSlotTag (c : Carrier) (i : Nat) : Key := ⟨0x23 + c.off, 0x053, i⟩
/-- 23.054[s] RX_SLOT_STATE (R157). -/
abbrev K.rxSlotState (c : Carrier) (i : Nat) : Key := ⟨0x23 + c.off, 0x054, i⟩
/-- 23.055[s] RX_SLOT_SET (R244). -/
abbrev K.rxSlotSet (c : Carrier) (i : Nat) : Key := ⟨0x23 + c.off, 0x055, i⟩
/-- 23.056 RX_FB_IN_USE (R244). -/
abbrev K.rxFbInUse (c : Carrier) : Key := ⟨0x23 + c.off, 0x056, 0⟩
/-- 23.057 RX_UNKNOWN_COUNT (R159). -/
abbrev K.rxUnknownCount (c : Carrier) : Key := ⟨0x23 + c.off, 0x057, 0⟩
/-- 23.058 RX_UNKNOWN_TAG (R159). -/
abbrev K.rxUnknownTag (c : Carrier) : Key := ⟨0x23 + c.off, 0x058, 0⟩
/-- 23.059 RX_CAPACITY (R244). -/
abbrev K.rxCapacity (c : Carrier) : Key := ⟨0x23 + c.off, 0x059, 0⟩
/-- 23.05A STAGE_COMMIT (R157). -/
abbrev K.stageCommit (c : Carrier) : Key := ⟨0x23 + c.off, 0x05A, 0⟩
/-- 23.05B STAGE_RESULT (R157). -/
abbrev K.stageResult (c : Carrier) : Key := ⟨0x23 + c.off, 0x05B, 0⟩
/-- 23.060 LP_MODE (R165). -/
abbrev K.lpMode (c : Carrier) : Key := ⟨0x23 + c.off, 0x060, 0⟩
/-- 23.061 LP_GAP (R167). -/
abbrev K.lpGap (c : Carrier) : Key := ⟨0x23 + c.off, 0x061, 0⟩
/-- 23.062 LP_MIN_MARGIN (R168). -/
abbrev K.lpMinMargin (c : Carrier) : Key := ⟨0x23 + c.off, 0x062, 0⟩
/-- 23.063 LP_HYST (R168). -/
abbrev K.lpHyst (c : Carrier) : Key := ⟨0x23 + c.off, 0x063, 0⟩
/-- 23.064 LP_PERIOD (R166). -/
abbrev K.lpPeriod (c : Carrier) : Key := ⟨0x23 + c.off, 0x064, 0⟩
/-- 23.065 LP_MARGIN (R167). -/
abbrev K.lpMargin (c : Carrier) : Key := ⟨0x23 + c.off, 0x065, 0⟩
/-- 23.066 LX_START (R166). -/
abbrev K.lxStart (c : Carrier) : Key := ⟨0x23 + c.off, 0x066, 0⟩
/-- 23.067 LX_ACK_TIMEOUT (R162). -/
abbrev K.lxAckTimeout (c : Carrier) : Key := ⟨0x23 + c.off, 0x067, 0⟩
/-- 23.068 LX_COMMIT_TIMEOUT (R163). -/
abbrev K.lxCommitTimeout (c : Carrier) : Key := ⟨0x23 + c.off, 0x068, 0⟩
/-- 23.069 LX_LEAD (R162). -/
abbrev K.lxLead (c : Carrier) : Key := ⟨0x23 + c.off, 0x069, 0⟩
/-- 23.06A LX_RETRY (R163). -/
abbrev K.lxRetry (c : Carrier) : Key := ⟨0x23 + c.off, 0x06A, 0⟩
/-- 23.06B LX_STATE (R244). -/
abbrev K.lxState (c : Carrier) : Key := ⟨0x23 + c.off, 0x06B, 0⟩
/-- 23.06C LX_RESULT (R162). -/
abbrev K.lxResult (c : Carrier) : Key := ⟨0x23 + c.off, 0x06C, 0⟩
/-- 23.06D LX_NACK_REASON (R163). -/
abbrev K.lxNackReason (c : Carrier) : Key := ⟨0x23 + c.off, 0x06D, 0⟩
/-- 23.070[k] REQ_LOADING (R166). -/
abbrev K.reqLoading (c : Carrier) (i : Nat) : Key := ⟨0x23 + c.off, 0x070, i⟩
/-- 23.071[k] REQ_GRID (R166). -/
abbrev K.reqGrid (c : Carrier) (i : Nat) : Key := ⟨0x23 + c.off, 0x071, i⟩
/-- 24.000 FEC_OH (R169). -/
abbrev K.fecOh (c : Carrier) : Key := ⟨0x24 + c.off, 0x000, 0⟩
/-- 24.001 CODE_RATE (R244). -/
abbrev K.codeRate (c : Carrier) : Key := ⟨0x24 + c.off, 0x001, 0⟩
/-- 24.010 ITER_CAP (R182). -/
abbrev K.iterCap : Key := ⟨0x24, 0x010, 0⟩
/-- 24.011 ITER_CAP_EFF (R182). -/
abbrev K.iterCapEff : Key := ⟨0x24, 0x011, 0⟩
/-- 24.012 DEC_WINDOW (R178). -/
abbrev K.decWindow (c : Carrier) : Key := ⟨0x24 + c.off, 0x012, 0⟩
/-- 24.013 EARLY_STOP (R181). -/
abbrev K.earlyStop (c : Carrier) : Key := ⟨0x24 + c.off, 0x013, 0⟩
/-- 24.014 PM_INTERVAL (R191). -/
abbrev K.pmInterval (c : Carrier) : Key := ⟨0x24 + c.off, 0x014, 0⟩
/-- 24.070[o] FEC_CODE_DEF (R175). -/
abbrev K.fecCodeDef (c : Carrier) (i : Nat) : Key := ⟨0x24 + c.off, 0x070, i⟩
/-- 24.020 DEC_SLOTS (R183). -/
abbrev K.decSlots (c : Carrier) : Key := ⟨0x24 + c.off, 0x020, 0⟩
/-- 24.021 DEC_SLOTS_PEAK (R183). -/
abbrev K.decSlotsPeak (c : Carrier) : Key := ⟨0x24 + c.off, 0x021, 0⟩
/-- 24.022 DEC_PEAK_CLEAR (R183). -/
abbrev K.decPeakClear (c : Carrier) : Key := ⟨0x24 + c.off, 0x022, 0⟩
/-- 24.023 DEC_ALIGN (R178). -/
abbrev K.decAlign (c : Carrier) : Key := ⟨0x24 + c.off, 0x023, 0⟩
/-- 24.025 PRE_FEC_BER (R191). -/
abbrev K.preFecBer (c : Carrier) : Key := ⟨0x24 + c.off, 0x025, 0⟩
/-- 24.026 MEAN_ITER (R191). -/
abbrev K.meanIter (c : Carrier) : Key := ⟨0x24 + c.off, 0x026, 0⟩
/-- 24.030 SEG_COUNT (R191). -/
abbrev K.segCount (c : Carrier) : Key := ⟨0x24 + c.off, 0x030, 0⟩
/-- 24.031 CODED_BITS (R191). -/
abbrev K.codedBits (c : Carrier) : Key := ⟨0x24 + c.off, 0x031, 0⟩
/-- 24.032 INNER_CORR_BITS (R191). -/
abbrev K.innerCorrBits (c : Carrier) : Key := ⟨0x24 + c.off, 0x032, 0⟩
/-- 24.033 OUTER_CORR_BITS (R191). -/
abbrev K.outerCorrBits (c : Carrier) : Key := ⟨0x24 + c.off, 0x033, 0⟩
/-- 24.034 UNCORR_SEG (R191). -/
abbrev K.uncorrSeg (c : Carrier) : Key := ⟨0x24 + c.off, 0x034, 0⟩
/-- 24.035 FORCED_SEG (R183). -/
abbrev K.forcedSeg (c : Carrier) : Key := ⟨0x24 + c.off, 0x035, 0⟩
/-- 24.036 ERASED_SEG (R180). -/
abbrev K.erasedSeg (c : Carrier) : Key := ⟨0x24 + c.off, 0x036, 0⟩
/-- 24.037 PTR_MISMATCH (R179). -/
abbrev K.ptrMismatch (c : Carrier) : Key := ⟨0x24 + c.off, 0x037, 0⟩
/-- 24.038 REALIGN_COUNT (R179). -/
abbrev K.realignCount (c : Carrier) : Key := ⟨0x24 + c.off, 0x038, 0⟩
/-- 24.040 LB_COUNT (R191). -/
abbrev K.lbCount (c : Carrier) : Key := ⟨0x24 + c.off, 0x040, 0⟩
/-- 24.041 LB_CRC_ERR (R186). -/
abbrev K.lbCrcErr (c : Carrier) : Key := ⟨0x24 + c.off, 0x041, 0⟩
/-- 24.042 LB_SEQ_GAP (R186). -/
abbrev K.lbSeqGap (c : Carrier) : Key := ⟨0x24 + c.off, 0x042, 0⟩
/-- 24.043 LB_ERRORED (R186). -/
abbrev K.lbErrored (c : Carrier) : Key := ⟨0x24 + c.off, 0x043, 0⟩
/-- 24.050 RX_FRAME_COUNT (R187). -/
abbrev K.rxFrameCount (c : Carrier) : Key := ⟨0x24 + c.off, 0x050, 0⟩
/-- 24.051 RX_SF_COUNT (R187). -/
abbrev K.rxSfCount (c : Carrier) : Key := ⟨0x24 + c.off, 0x051, 0⟩
/-- 24.052 FRAMES_LOST (R187). -/
abbrev K.framesLost (c : Carrier) : Key := ⟨0x24 + c.off, 0x052, 0⟩
/-- 24.053 FAR_SFC (R187). -/
abbrev K.farSfc (c : Carrier) : Key := ⟨0x24 + c.off, 0x053, 0⟩
/-- 24.054 FAR_BDI (R187). -/
abbrev K.farBdi (c : Carrier) : Key := ⟨0x24 + c.off, 0x054, 0⟩
/-- 24.055 FAR_BDI_COUNT (R187). -/
abbrev K.farBdiCount (c : Carrier) : Key := ⟨0x24 + c.off, 0x055, 0⟩
/-- 24.060 TX_SEG_COUNT (R177). -/
abbrev K.txSegCount (c : Carrier) : Key := ⟨0x24 + c.off, 0x060, 0⟩
/-- 24.061 TX_LB_COUNT (R177). -/
abbrev K.txLbCount (c : Carrier) : Key := ⟨0x24 + c.off, 0x061, 0⟩
/-- 10.000[n] LANE_ENABLE (R212). -/
abbrev K.laneEnable (i : Nat) : Key := ⟨0x10, 0x000, i⟩
/-- 10.001[n] LANE_RATE (R192). -/
abbrev K.laneRate (i : Nat) : Key := ⟨0x10, 0x001, i⟩
/-- 10.002[n] TRAIN_ENABLE (R212). -/
abbrev K.trainEnable (i : Nat) : Key := ⟨0x10, 0x002, i⟩
/-- 10.003[n] TRAIN_START_PRESET (R216). -/
abbrev K.trainStartPreset (i : Nat) : Key := ⟨0x10, 0x003, i⟩
/-- 10.004[n] TX_PRESET (R212). -/
abbrev K.txPreset (i : Nat) : Key := ⟨0x10, 0x004, i⟩
/-- 10.005[i] TX_TAP (R212). -/
abbrev K.txTap (i : Nat) : Key := ⟨0x10, 0x005, i⟩
/-- 10.006[n] LANE_INVERT (R244). -/
abbrev K.laneInvert10 (i : Nat) : Key := ⟨0x10, 0x006, i⟩
/-- 10.007[n] PRECODE (R194). -/
abbrev K.precode (i : Nat) : Key := ⟨0x10, 0x007, i⟩
/-- 10.010[n] LANE_STATE (R212). -/
abbrev K.laneState (i : Nat) : Key := ⟨0x10, 0x010, i⟩
/-- 10.011[n] LANE_FOM (R216). -/
abbrev K.laneFom (i : Nat) : Key := ⟨0x10, 0x011, i⟩
/-- 10.012[n] FOM_TARGET (R216). -/
abbrev K.fomTarget (i : Nat) : Key := ⟨0x10, 0x012, i⟩
/-- 10.013[n] TRAIN_TIME (R218). -/
abbrev K.trainTime (i : Nat) : Key := ⟨0x10, 0x013, i⟩
/-- 10.014[i] PARTNER_TAP (R216). -/
abbrev K.partnerTap (i : Nat) : Key := ⟨0x10, 0x014, i⟩
/-- 10.015 TRAIN_RETRY (R218). -/
abbrev K.trainRetry : Key := ⟨0x10, 0x015, 0⟩
/-- 10.016[n] RETRAIN (R212). -/
abbrev K.retrain (i : Nat) : Key := ⟨0x10, 0x016, i⟩
/-- 10.017[n] AUTO_RETRAIN (R212). -/
abbrev K.autoRetrain (i : Nat) : Key := ⟨0x10, 0x017, i⟩
/-- 10.019[n] TRAIN_TIMEOUT_COUNT (R212). -/
abbrev K.trainTimeoutCount (i : Nat) : Key := ⟨0x10, 0x019, i⟩
/-- 10.020[n] LOOPBACK (R212). -/
abbrev K.loopback (i : Nat) : Key := ⟨0x10, 0x020, i⟩
/-- 10.030[n] PRBS_GEN (R212). -/
abbrev K.prbsGen (i : Nat) : Key := ⟨0x10, 0x030, i⟩
/-- 10.031[n] PRBS_CHK (R220). -/
abbrev K.prbsChk (i : Nat) : Key := ⟨0x10, 0x031, i⟩
/-- 10.032[n] PRBS_LOCK (R244). -/
abbrev K.prbsLock (i : Nat) : Key := ⟨0x10, 0x032, i⟩
/-- 10.033[n] PRBS_BITS (R220). -/
abbrev K.prbsBits (i : Nat) : Key := ⟨0x10, 0x033, i⟩
/-- 10.034[n] PRBS_ERR_BITS (R220). -/
abbrev K.prbsErrBits (i : Nat) : Key := ⟨0x10, 0x034, i⟩
/-- 10.035[n] PRBS_ERR_SYMBOLS (R220). -/
abbrev K.prbsErrSymbols (i : Nat) : Key := ⟨0x10, 0x035, i⟩
/-- 10.036[n] PRBS_INJECT (R221). -/
abbrev K.prbsInject (i : Nat) : Key := ⟨0x10, 0x036, i⟩
/-- 10.037[n] PRBS_INJECT_RATE (R221). -/
abbrev K.prbsInjectRate (i : Nat) : Key := ⟨0x10, 0x037, i⟩
/-- 10.040[n] RX_SIGNAL (R223). -/
abbrev K.rxSignal (i : Nat) : Key := ⟨0x10, 0x040, i⟩
/-- 10.041[n] PCS_ALIGNED (R244). -/
abbrev K.pcsAligned (i : Nat) : Key := ⟨0x10, 0x041, i⟩
/-- 10.042[n] FEC_CORR_SYMBOLS (R244). -/
abbrev K.fecCorrSymbols (i : Nat) : Key := ⟨0x10, 0x042, i⟩
/-- 10.043[n] FEC_UNCORR_CW (R244). -/
abbrev K.fecUncorrCw (i : Nat) : Key := ⟨0x10, 0x043, i⟩
/-- 10.044[n] IN_SLIP_COUNT (R211). -/
abbrev K.inSlipCount (i : Nat) : Key := ⟨0x10, 0x044, i⟩
/-- 10.045[n] OUT_SLIP_COUNT (R211). -/
abbrev K.outSlipCount (i : Nat) : Key := ⟨0x10, 0x045, i⟩
/-- 10.046[n] HOST_PRE_FEC_BER (R244). -/
abbrev K.hostPreFecBer (i : Nat) : Key := ⟨0x10, 0x046, i⟩
/-- 11.000[c] CLIENT_TYPE (R193). -/
abbrev K.clientType (i : Nat) : Key := ⟨0x11, 0x000, i⟩
/-- 11.001[c] CLIENT_CARRIER (R193). -/
abbrev K.clientCarrier (i : Nat) : Key := ⟨0x11, 0x001, i⟩
/-- 11.002[c] CLIENT_PRIO (R206). -/
abbrev K.clientPrio (i : Nat) : Key := ⟨0x11, 0x002, i⟩
/-- 11.003 MAX_FRAME (R200). -/
abbrev K.maxFrame : Key := ⟨0x11, 0x003, 0⟩
/-- 11.010[i] SLOT_MAP (R193). -/
abbrev K.slotMap (i : Nat) : Key := ⟨0x11, 0x010, i⟩
/-- 11.020[c] IN_FRAMES (R244). -/
abbrev K.inFrames (i : Nat) : Key := ⟨0x11, 0x020, i⟩
/-- 11.021[c] IN_DROP (R206). -/
abbrev K.inDrop (i : Nat) : Key := ⟨0x11, 0x021, i⟩
/-- 11.022[c] IN_ERR (R244). -/
abbrev K.inErr (i : Nat) : Key := ⟨0x11, 0x022, i⟩
/-- 11.023[c] IN_FCS_ERR (R200). -/
abbrev K.inFcsErr (i : Nat) : Key := ⟨0x11, 0x023, i⟩
/-- 11.024[c] OUT_FRAMES (R244). -/
abbrev K.outFrames (i : Nat) : Key := ⟨0x11, 0x024, i⟩
/-- 11.025[c] OUT_ERR (R204). -/
abbrev K.outErr (i : Nat) : Key := ⟨0x11, 0x025, i⟩
/-- 11.026[c] OUT_SEQ_GAP (R203). -/
abbrev K.outSeqGap (i : Nat) : Key := ⟨0x11, 0x026, i⟩
/-- 11.027[c] CLIENT_STATUS (R208). -/
abbrev K.clientStatus (i : Nat) : Key := ⟨0x11, 0x027, i⟩
/-- 11.030[m] SHORTFALL (R207). -/
abbrev K.shortfall (i : Nat) : Key := ⟨0x11, 0x030, i⟩
/-- 11.031[m] CLIENT_DEMAND (R244). -/
abbrev K.clientDemand (i : Nat) : Key := ⟨0x11, 0x031, i⟩
/-- 11.032[m] DELIN_LOSS (R203). -/
abbrev K.delinLoss (i : Nat) : Key := ⟨0x11, 0x032, i⟩
/-- 11.040[i] SLOT_IN_DROP (R206). -/
abbrev K.slotInDrop (i : Nat) : Key := ⟨0x11, 0x040, i⟩
/-- 11.041[i] SLOT_OUT_GAP (R203). -/
abbrev K.slotOutGap (i : Nat) : Key := ⟨0x11, 0x041, i⟩
/-- 11.042[i] SLOT_NO_EMPTY (R198). -/
abbrev K.slotNoEmpty (i : Nat) : Key := ⟨0x11, 0x042, i⟩
/-- 40.000 REFCLK_STATUS (R228). -/
abbrev K.refclkStatus : Key := ⟨0x40, 0x000, 0⟩
/-- 40.001 REFCLK_LOSS_COUNT (R228). -/
abbrev K.refclkLossCount : Key := ⟨0x40, 0x001, 0⟩
/-- 40.002[p] PLL_STATE (R229). -/
abbrev K.pllState (i : Nat) : Key := ⟨0x40, 0x002, i⟩
/-- 40.003[d] PLL_UNLOCK_COUNT (R233). -/
abbrev K.pllUnlockCount (i : Nat) : Key := ⟨0x40, 0x003, i⟩
/-- 40.004[d] VCO_BAND (R230). -/
abbrev K.vcoBand (i : Nat) : Key := ⟨0x40, 0x004, i⟩
/-- 40.005[d] VCO_TUNE (R230). -/
abbrev K.vcoTune (i : Nat) : Key := ⟨0x40, 0x005, i⟩
/-- 40.006[d] VCO_TC_ENABLE (R231). -/
abbrev K.vcoTcEnable (i : Nat) : Key := ⟨0x40, 0x006, i⟩
/-- 40.007[d] REBAND (R232). -/
abbrev K.reband (i : Nat) : Key := ⟨0x40, 0x007, i⟩
/-- 40.008[d] REF_TC_ENABLE (R238). -/
abbrev K.refTcEnable (i : Nat) : Key := ⟨0x40, 0x008, i⟩
/-- 40.009[i] ADC_FS_TRIM (R238). -/
abbrev K.adcFsTrim (i : Nat) : Key := ⟨0x40, 0x009, i⟩
/-- 40.010[i] DAC_SWING_TRIM (R239). -/
abbrev K.dacSwingTrim (i : Nat) : Key := ⟨0x40, 0x010, i⟩
/-- 40.011[t] SUBADC_FAILED (R237). -/
abbrev K.subadcFailed (i : Nat) : Key := ⟨0x40, 0x011, i⟩
/-- 40.012[t] TILE_SPARE (R235). -/
abbrev K.tileSpare (i : Nat) : Key := ⟨0x40, 0x012, i⟩
/-- 40.013[t] TILE_STATE (R236). -/
abbrev K.tileState (i : Nat) : Key := ⟨0x40, 0x013, i⟩
/-- 40.014[d] CAL_TILE (R237). -/
abbrev K.calTile (i : Nat) : Key := ⟨0x40, 0x014, i⟩
/-- 40.015[d] CAL_PASS_COUNT (R237). -/
abbrev K.calPassCount (i : Nat) : Key := ⟨0x40, 0x015, i⟩
/-- 40.016[t] CAL_VALUES (R237). -/
abbrev K.calValues (i : Nat) : Key := ⟨0x40, 0x016, i⟩
/-- 40.017[d] SUBADC_FAIL_COUNT (R237). -/
abbrev K.subadcFailCount (i : Nat) : Key := ⟨0x40, 0x017, i⟩
/-- 40.018[i] ADC_SLIP_BLOCKS (R242). -/
abbrev K.adcSlipBlocks (i : Nat) : Key := ⟨0x40, 0x018, i⟩
/-- 40.019[i] DAC_SLIP_SAMPLES (R242). -/
abbrev K.dacSlipSamples (i : Nat) : Key := ⟨0x40, 0x019, i⟩
/-- 40.020[d] D2D_RX_CRC_ERR (R241). -/
abbrev K.d2dRxCrcErr (i : Nat) : Key := ⟨0x40, 0x020, i⟩
/-- 40.021[d] D2D_TX_CRC_ERR (R241). -/
abbrev K.d2dTxCrcErr (i : Nat) : Key := ⟨0x40, 0x021, i⟩
/-- 40.022[d] D2D_BLOCKS (R241). -/
abbrev K.d2dBlocks (i : Nat) : Key := ⟨0x40, 0x022, i⟩
/-- 02.000 DRAFT_STATE (R266). -/
abbrev K.draftState : Key := ⟨0x02, 0x000, 0⟩
/-- 02.001 DRAFT_OWNER (R266). -/
abbrev K.draftOwner : Key := ⟨0x02, 0x001, 0⟩
/-- 02.002 DRAFT_ID (R244). -/
abbrev K.draftId : Key := ⟨0x02, 0x002, 0⟩
/-- 02.003 DRAFT_ELEMENTS (R244). -/
abbrev K.draftElements : Key := ⟨0x02, 0x003, 0⟩
/-- 02.004 DRAFT_TIMEOUT (R266). -/
abbrev K.draftTimeout : Key := ⟨0x02, 0x004, 0⟩
/-- 02.010 DRAFT_OPEN (R266). -/
abbrev K.draftOpen : Key := ⟨0x02, 0x010, 0⟩
/-- 02.011 DRAFT_DISCARD (R266). -/
abbrev K.draftDiscard : Key := ⟨0x02, 0x011, 0⟩
/-- 02.012 DRAFT_VALIDATE (R251). -/
abbrev K.draftValidate : Key := ⟨0x02, 0x012, 0⟩
/-- 02.013 DRAFT_ARM (R251). -/
abbrev K.draftArm : Key := ⟨0x02, 0x013, 0⟩
/-- 02.014 ARM_MODE (R266). -/
abbrev K.armMode : Key := ⟨0x02, 0x014, 0⟩
/-- 02.015 ARM_TIME (R269). -/
abbrev K.armTime : Key := ⟨0x02, 0x015, 0⟩
/-- 02.016 ARM_SFC (R269). -/
abbrev K.armSfc : Key := ⟨0x02, 0x016, 0⟩
/-- 02.017 ED_SIGNATURE (R266). -/
abbrev K.edSignature : Key := ⟨0x02, 0x017, 0⟩
/-- 02.018 REJECT_REASON (R266). -/
abbrev K.rejectReason : Key := ⟨0x02, 0x018, 0⟩
/-- 02.019 REJECT_KEY (R268). -/
abbrev K.rejectKey : Key := ⟨0x02, 0x019, 0⟩
/-- 02.01A REJECT_COUNT (R266). -/
abbrev K.rejectCount : Key := ⟨0x02, 0x01A, 0⟩
/-- 02.020 LAST_APPLIED_ID (R273). -/
abbrev K.lastAppliedId : Key := ⟨0x02, 0x020, 0⟩
/-- 02.021 LAST_APPLIED_TIME (R273). -/
abbrev K.lastAppliedTime : Key := ⟨0x02, 0x021, 0⟩
/-- 02.022 ARMED_COUNT (R270). -/
abbrev K.armedCount : Key := ⟨0x02, 0x022, 0⟩
/-- 02.023[q] ARMED_ID (R244). -/
abbrev K.armedId (i : Nat) : Key := ⟨0x02, 0x023, i⟩
/-- 02.024[q] ARMED_INSTANT (R244). -/
abbrev K.armedInstant (i : Nat) : Key := ⟨0x02, 0x024, i⟩
/-- 02.025[q] ARMED_MODE (R270). -/
abbrev K.armedMode (i : Nat) : Key := ⟨0x02, 0x025, i⟩
/-- 02.026 DISARM (R271). -/
abbrev K.disarm : Key := ⟨0x02, 0x026, 0⟩
/-- 02.030 SIGN_POLICY (R268). -/
abbrev K.signPolicy : Key := ⟨0x02, 0x030, 0⟩
/-- 02.040[n] HISTORY (R279). -/
abbrev K.history (i : Nat) : Key := ⟨0x02, 0x040, i⟩
/-- 02.041 JOURNAL_STATE (R278). -/
abbrev K.journalState : Key := ⟨0x02, 0x041, 0⟩
/-- 02.042 JOURNAL_RECORDS (R244). -/
abbrev K.journalRecords : Key := ⟨0x02, 0x042, 0⟩
/-- 03.000 EVENT_NEXT (R259). -/
abbrev K.eventNext : Key := ⟨0x03, 0x000, 0⟩
/-- 03.001 EVENT_PENDING (R244). -/
abbrev K.eventPending : Key := ⟨0x03, 0x001, 0⟩
/-- 03.002 EVENT_LOST (R259). -/
abbrev K.eventLost : Key := ⟨0x03, 0x002, 0⟩
/-- 03.010 INT_VIEW (R260). -/
abbrev K.intView : Key := ⟨0x03, 0x010, 0⟩
/-- 03.012[w] INT_AREA_MASK (R260). -/
abbrev K.intAreaMask (i : Nat) : Key := ⟨0x03, 0x012, i⟩
/-- 03.013 INT_SEVERITY (R260). -/
abbrev K.intSeverity : Key := ⟨0x03, 0x013, 0⟩
/-- 03.014 INT_STATUS (R244). -/
abbrev K.intStatus : Key := ⟨0x03, 0x014, 0⟩
/-- 03.018 ALARM_ACK (R261). -/
abbrev K.alarmAck : Key := ⟨0x03, 0x018, 0⟩
/-- 03.019 ALARM_LATCH (R261). -/
abbrev K.alarmLatch : Key := ⟨0x03, 0x019, 0⟩
/-- 03.020 SNAPSHOT (R263). -/
abbrev K.snapshot : Key := ⟨0x03, 0x020, 0⟩
/-- 03.021 SNAPSHOT_RELEASE (R263). -/
abbrev K.snapshotRelease : Key := ⟨0x03, 0x021, 0⟩
/-- 03.022 SNAPSHOT_TIME (R263). -/
abbrev K.snapshotTime : Key := ⟨0x03, 0x022, 0⟩
/-- 03.023 SNAPSHOT_AREA (R263). -/
abbrev K.snapshotArea : Key := ⟨0x03, 0x023, 0⟩
/-- 03.024 COUNTER_CLEAR (R264). -/
abbrev K.counterClear : Key := ⟨0x03, 0x024, 0⟩
/-- 03.0F0[n] EVENT_CATALOGUE (R258). -/
abbrev K.eventCatalogue (i : Nat) : Key := ⟨0x03, 0x0F0, i⟩
/-- 08.000 PORT_ENABLE (R257). -/
abbrev K.portEnable : Key := ⟨0x08, 0x000, 0⟩
/-- 08.010 TWI_ADDR (R254). -/
abbrev K.twiAddr : Key := ⟨0x08, 0x010, 0⟩
/-- 08.011 TWI_WINDOW_ENABLE (R255). -/
abbrev K.twiWindowEnable : Key := ⟨0x08, 0x011, 0⟩
/-- 08.012 TWI_WINDOW_ADDR (R255). -/
abbrev K.twiWindowAddr : Key := ⟨0x08, 0x012, 0⟩
/-- 08.013 TWI_WINDOW_PAGES (R255). -/
abbrev K.twiWindowPages : Key := ⟨0x08, 0x013, 0⟩
/-- 08.020 MDIO_PRTAD (R253). -/
abbrev K.mdioPrtad : Key := ⟨0x08, 0x020, 0⟩
/-- 08.030[p] REQUEST_COUNT (R257). -/
abbrev K.requestCount (i : Nat) : Key := ⟨0x08, 0x030, i⟩
/-- 08.031[p] CRC_ERR_COUNT (R257). -/
abbrev K.crcErrCount (i : Nat) : Key := ⟨0x08, 0x031, i⟩
/-- 08.040 WINDOW_QUEUE (R244). -/
abbrev K.windowQueue : Key := ⟨0x08, 0x040, 0⟩
/-- 08.041 WINDOW_NACK_COUNT (R256). -/
abbrev K.windowNackCount : Key := ⟨0x08, 0x041, 0⟩
/-- 50.000 TV_ENABLE (R283). -/
abbrev K.tvEnable : Key := ⟨0x50, 0x000, 0⟩
/-- 50.001 STATION_ID (R291). -/
abbrev K.stationId : Key := ⟨0x50, 0x001, 0⟩
/-- 50.002[l] PORT_STATE (R283). -/
abbrev K.portState (i : Nat) : Key := ⟨0x50, 0x002, i⟩
/-- 50.003[l] PORT_LOOPBACK (R283). -/
abbrev K.portLoopback (i : Nat) : Key := ⟨0x50, 0x003, i⟩
/-- 50.004[l] PORT_EYE (R244). -/
abbrev K.portEye (i : Nat) : Key := ⟨0x50, 0x004, i⟩
/-- 50.005[l] PORT_TAPS (R244). -/
abbrev K.portTaps (i : Nat) : Key := ⟨0x50, 0x005, i⟩
/-- 50.006[l] NEIGHBOUR (R289). -/
abbrev K.neighbour (i : Nat) : Key := ⟨0x50, 0x006, i⟩
/-- 50.007[l] PORT_DOWN_COUNT (R283). -/
abbrev K.portDownCount (i : Nat) : Key := ⟨0x50, 0x007, i⟩
/-- 50.008[l] FRAMES_RX (R244). -/
abbrev K.framesRx (i : Nat) : Key := ⟨0x50, 0x008, i⟩
/-- 50.009[l] FRAMES_TX (R244). -/
abbrev K.framesTx (i : Nat) : Key := ⟨0x50, 0x009, i⟩
/-- 50.00A[l] CRC_ERR (R290). -/
abbrev K.crcErr (i : Nat) : Key := ⟨0x50, 0x00A, i⟩
/-- 50.00B[l] HDR_DISCARD (R285). -/
abbrev K.hdrDiscard (i : Nat) : Key := ⟨0x50, 0x00B, i⟩
/-- 50.00C[l] LANE_SKEW (R281). -/
abbrev K.laneSkew50 (i : Nat) : Key := ⟨0x50, 0x00C, i⟩
/-- 50.010[s] ROUTE (R291). -/
abbrev K.route (i : Nat) : Key := ⟨0x50, 0x010, i⟩
/-- 50.011 HOPS_INIT (R291). -/
abbrev K.hopsInit : Key := ⟨0x50, 0x011, 0⟩
/-- 50.012 DEDUP_AGE (R291). -/
abbrev K.dedupAge : Key := ⟨0x50, 0x012, 0⟩
/-- 50.013 IB_ENABLE (R293). -/
abbrev K.ibEnable : Key := ⟨0x50, 0x013, 0⟩
/-- 50.014 IB_REPEAT (R293). -/
abbrev K.ibRepeat : Key := ⟨0x50, 0x014, 0⟩
/-- 50.016[m] IB_DISCARD (R293). -/
abbrev K.ibDiscard (i : Nat) : Key := ⟨0x50, 0x016, i⟩
/-- 50.017[m] IB_DROP (R294). -/
abbrev K.ibDrop (i : Nat) : Key := ⟨0x50, 0x017, i⟩
/-- 50.018 HOPS_EXPIRED (R291). -/
abbrev K.hopsExpired : Key := ⟨0x50, 0x018, 0⟩
/-- 50.019 DUP_DISCARD (R291). -/
abbrev K.dupDiscard : Key := ⟨0x50, 0x019, 0⟩
/-- 50.020 DATUM (R296). -/
abbrev K.datum : Key := ⟨0x50, 0x020, 0⟩
/-- 50.021 DATUM_QUALITY (R289). -/
abbrev K.datumQuality : Key := ⟨0x50, 0x021, 0⟩
/-- 50.022 TIME_SOURCE (R289). -/
abbrev K.timeSource : Key := ⟨0x50, 0x022, 0⟩
/-- 50.023 DATUM_SET (R299). -/
abbrev K.datumSet : Key := ⟨0x50, 0x023, 0⟩
/-- 50.024 DATUM_OFFSET (R244). -/
abbrev K.datumOffset : Key := ⟨0x50, 0x024, 0⟩
/-- 50.025[l] LINK_DELAY (R297). -/
abbrev K.linkDelay (i : Nat) : Key := ⟨0x50, 0x025, i⟩
/-- 50.026[l] DELAY_ASYM (R297). -/
abbrev K.delayAsym (i : Nat) : Key := ⟨0x50, 0x026, i⟩
/-- 50.027 SYNC_INTERVAL (R297). -/
abbrev K.syncInterval : Key := ⟨0x50, 0x027, 0⟩
/-- 50.028 DATUM_BW (R297). -/
abbrev K.datumBw : Key := ⟨0x50, 0x028, 0⟩
/-- 50.029 STEP_THRESHOLD (R297). -/
abbrev K.stepThreshold : Key := ⟨0x50, 0x029, 0⟩
/-- 50.02A DATUM_RATE (R297). -/
abbrev K.datumRate : Key := ⟨0x50, 0x02A, 0⟩
/-- 50.02B STEP_COUNT (R297). -/
abbrev K.stepCount : Key := ⟨0x50, 0x02B, 0⟩
/-- 50.02C TIME_PRIORITY (R289). -/
abbrev K.timePriority : Key := ⟨0x50, 0x02C, 0⟩
/-- 50.030 PPS_IN_TIME (R300). -/
abbrev K.ppsInTime : Key := ⟨0x50, 0x030, 0⟩
/-- 50.031 PPS_NEXT (R300). -/
abbrev K.ppsNext : Key := ⟨0x50, 0x031, 0⟩
/-- 50.032 PPS_CTRL (R298). -/
abbrev K.ppsCtrl : Key := ⟨0x50, 0x032, 0⟩
/-- 50.033 PPS_OUT_OFFSET (R300). -/
abbrev K.ppsOutOffset : Key := ⟨0x50, 0x033, 0⟩
/-- 50.034 PPS_OUT_WIDTH (R300). -/
abbrev K.ppsOutWidth : Key := ⟨0x50, 0x034, 0⟩
/-- 50.036 PPS_MISS_COUNT (R300). -/
abbrev K.ppsMissCount : Key := ⟨0x50, 0x036, 0⟩
/-- 50.040 AON_SOURCE (R301). -/
abbrev K.aonSource : Key := ⟨0x50, 0x040, 0⟩
/-- 50.041 DORMANT_ENTRY (R301). -/
abbrev K.dormantEntry : Key := ⟨0x50, 0x041, 0⟩
/-- 50.042 DORMANT_EXIT (R301). -/
abbrev K.dormantExit : Key := ⟨0x50, 0x042, 0⟩
/-- 50.043 WAKE_CORRECTION (R301). -/
abbrev K.wakeCorrection : Key := ⟨0x50, 0x043, 0⟩
/-- 50.050 DRAFT_GROUP (R303). -/
abbrev K.draftGroup : Key := ⟨0x50, 0x050, 0⟩
/-- 50.051 GROUP_ARM_SEND (R244). -/
abbrev K.groupArmSend : Key := ⟨0x50, 0x051, 0⟩
/-- 50.052 GROUP_ARM_TIME (R244). -/
abbrev K.groupArmTime : Key := ⟨0x50, 0x052, 0⟩
/-- 50.053[s] GROUP_RESULT (R304). -/
abbrev K.groupResult (i : Nat) : Key := ⟨0x50, 0x053, i⟩
/-- 50.054 GROUP_DISARM_SEND (R244). -/
abbrev K.groupDisarmSend : Key := ⟨0x50, 0x054, 0⟩
/-- 50.058 TRIG_SEND (R305). -/
abbrev K.trigSend : Key := ⟨0x50, 0x058, 0⟩
/-- 50.059 TRIG_LEAD (R305). -/
abbrev K.trigLead : Key := ⟨0x50, 0x059, 0⟩
/-- 50.05A TRIG_LATE_COUNT (R305). -/
abbrev K.trigLateCount : Key := ⟨0x50, 0x05A, 0⟩
/-- 50.05C EVENT_SINK (R295). -/
abbrev K.eventSink : Key := ⟨0x50, 0x05C, 0⟩
/-- 58.000 FW_STATE (R244). -/
abbrev K.fwState : Key := ⟨0x58, 0x000, 0⟩
/-- 58.001 RUN_VERSION (R327). -/
abbrev K.runVersion : Key := ⟨0x58, 0x001, 0⟩
/-- 58.002 BOOT_SLOT (R244). -/
abbrev K.bootSlot : Key := ⟨0x58, 0x002, 0⟩
/-- 58.003 RUN_SLOT (R244). -/
abbrev K.runSlot : Key := ⟨0x58, 0x003, 0⟩
/-- 58.004[s] SLOT_VERSION (R327). -/
abbrev K.slotVersion (i : Nat) : Key := ⟨0x58, 0x004, i⟩
/-- 58.010[c] CORE_STATE (R312). -/
abbrev K.coreState (i : Nat) : Key := ⟨0x58, 0x010, i⟩
/-- 58.011[c] CORE_IMAGE (R244). -/
abbrev K.coreImage (i : Nat) : Key := ⟨0x58, 0x011, i⟩
/-- 58.012[c] CORE_RATE (R316). -/
abbrev K.coreRate (i : Nat) : Key := ⟨0x58, 0x012, i⟩
/-- 58.013[c] CORE_RESTART (R324). -/
abbrev K.coreRestart (i : Nat) : Key := ⟨0x58, 0x013, i⟩
/-- 58.014 SV_WDOG (R323). -/
abbrev K.svWdog : Key := ⟨0x58, 0x014, 0⟩
/-- 58.015 PL_WDOG (R323). -/
abbrev K.plWdog : Key := ⟨0x58, 0x015, 0⟩
/-- 58.016[c] WDOG_COUNT (R323). -/
abbrev K.wdogCount (i : Nat) : Key := ⟨0x58, 0x016, i⟩
/-- 58.017[c] FAULT_COUNT (R313). -/
abbrev K.faultCount (i : Nat) : Key := ⟨0x58, 0x017, i⟩
/-- 58.018[c] LAST_FAULT (R313). -/
abbrev K.lastFault (i : Nat) : Key := ⟨0x58, 0x018, i⟩
/-- 58.020 LOAD_BEGIN (R328). -/
abbrev K.loadBegin : Key := ⟨0x58, 0x020, 0⟩
/-- 58.021[p] LOAD_MANIFEST (R328). -/
abbrev K.loadManifest (i : Nat) : Key := ⟨0x58, 0x021, i⟩
/-- 58.022[g] LOAD_SEGMENT (R328). -/
abbrev K.loadSegment (i : Nat) : Key := ⟨0x58, 0x022, i⟩
/-- 58.023 LOAD_STATE (R328). -/
abbrev K.loadState : Key := ⟨0x58, 0x023, 0⟩
/-- 58.024 LOAD_RESULT (R328). -/
abbrev K.loadResult : Key := ⟨0x58, 0x024, 0⟩
/-- 58.025 LOAD_SEG_DONE (R328). -/
abbrev K.loadSegDone : Key := ⟨0x58, 0x025, 0⟩
/-- 58.026 LOAD_ACTIVATE (R328). -/
abbrev K.loadActivate : Key := ⟨0x58, 0x026, 0⟩
/-- 58.027 LOAD_ABORT (R328). -/
abbrev K.loadAbort : Key := ⟨0x58, 0x027, 0⟩
/-- 58.028 FW_RESTART (R326). -/
abbrev K.fwRestart : Key := ⟨0x58, 0x028, 0⟩
/-- 58.029 RESTART_RESULT (R326). -/
abbrev K.restartResult : Key := ⟨0x58, 0x029, 0⟩
/-- 58.02A SEG_REJECT_COUNT (R328). -/
abbrev K.segRejectCount : Key := ⟨0x58, 0x02A, 0⟩
/-- 58.02B LOAD_OWNER (R244). -/
abbrev K.loadOwner : Key := ⟨0x58, 0x02B, 0⟩
/-- 58.030 APP_RX_DROP (R322). -/
abbrev K.appRxDrop : Key := ⟨0x58, 0x030, 0⟩
/-- 58.031 APP_RX_DEPTH (R244). -/
abbrev K.appRxDepth : Key := ⟨0x58, 0x031, 0⟩
/-- 60.000[h] HK_ENABLE (R332). -/
abbrev K.hkEnable (i : Nat) : Key := ⟨0x60, 0x000, i⟩
/-- 60.001 HK_REF (R329). -/
abbrev K.hkRef : Key := ⟨0x60, 0x001, 0⟩
/-- 60.002[h] HK_SELF_CAL (R336). -/
abbrev K.hkSelfCal (i : Nat) : Key := ⟨0x60, 0x002, i⟩
/-- 60.003[h] HK_CAL_STATE (R336). -/
abbrev K.hkCalState (i : Nat) : Key := ⟨0x60, 0x003, i⟩
/-- 60.010[h] REG_TRIGGER (R333). -/
abbrev K.regTrigger (i : Nat) : Key := ⟨0x60, 0x010, i⟩
/-- 60.011[h] REG_LENGTH (R333). -/
abbrev K.regLength (i : Nat) : Key := ⟨0x60, 0x011, i⟩
/-- 60.012[i] REG_INPUT (R333). -/
abbrev K.regInput (i : Nat) : Key := ⟨0x60, 0x012, i⟩
/-- 60.013[i] REG_RESULT (R331). -/
abbrev K.regResult (i : Nat) : Key := ⟨0x60, 0x013, i⟩
/-- 60.014[h] REG_PERIOD (R333). -/
abbrev K.regPeriod (i : Nat) : Key := ⟨0x60, 0x014, i⟩
/-- 60.015[h] REG_PHASE (R333). -/
abbrev K.regPhase (i : Nat) : Key := ⟨0x60, 0x015, i⟩
/-- 60.016[h] REG_START (R333). -/
abbrev K.regStart (i : Nat) : Key := ⟨0x60, 0x016, i⟩
/-- 60.017[h] REG_PASS (R334). -/
abbrev K.regPass (i : Nat) : Key := ⟨0x60, 0x017, i⟩
/-- 60.018[h] PASS_COUNT (R334). -/
abbrev K.passCount (i : Nat) : Key := ⟨0x60, 0x018, i⟩
/-- 60.019[h] CONV_COUNT (R244). -/
abbrev K.convCount (i : Nat) : Key := ⟨0x60, 0x019, i⟩
/-- 60.01A[h] REG_OVERRUN (R334). -/
abbrev K.regOverrun (i : Nat) : Key := ⟨0x60, 0x01A, i⟩
/-- 60.01B[i] LIMIT_LO (R334). -/
abbrev K.limitLo (i : Nat) : Key := ⟨0x60, 0x01B, i⟩
/-- 60.01C[i] LIMIT_HI (R334). -/
abbrev K.limitHi (i : Nat) : Key := ⟨0x60, 0x01C, i⟩
/-- 60.020[j′] INJ_INPUT (R335). -/
abbrev K.injInput (i : Nat) : Key := ⟨0x60, 0x020, i⟩
/-- 60.021[h] INJ_LENGTH (R335). -/
abbrev K.injLength (i : Nat) : Key := ⟨0x60, 0x021, i⟩
/-- 60.022[h] INJ_TRIGGER (R335). -/
abbrev K.injTrigger (i : Nat) : Key := ⟨0x60, 0x022, i⟩
/-- 60.023[h] INJ_GPIO (R335). -/
abbrev K.injGpio (i : Nat) : Key := ⟨0x60, 0x023, i⟩
/-- 60.024[h] INJ_PERIOD (R335). -/
abbrev K.injPeriod (i : Nat) : Key := ⟨0x60, 0x024, i⟩
/-- 60.025[h] INJ_START (R335). -/
abbrev K.injStart (i : Nat) : Key := ⟨0x60, 0x025, i⟩
/-- 60.026[j′] INJ_RESULT (R331). -/
abbrev K.injResult (i : Nat) : Key := ⟨0x60, 0x026, i⟩
/-- 60.027[h] INJ_QUEUE (R335). -/
abbrev K.injQueue (i : Nat) : Key := ⟨0x60, 0x027, i⟩
/-- 60.028[h] INJ_OVERFLOW (R335). -/
abbrev K.injOverflow (i : Nat) : Key := ⟨0x60, 0x028, i⟩
/-- 60.029[h] INJ_DROP (R335). -/
abbrev K.injDrop (i : Nat) : Key := ⟨0x60, 0x029, i⟩
/-- 60.02A[h] INJ_COUNT (R335). -/
abbrev K.injCount (i : Nat) : Key := ⟨0x60, 0x02A, i⟩
/-- 60.030 BENCH_CMD (R336). -/
abbrev K.benchCmd : Key := ⟨0x60, 0x030, 0⟩
/-- 60.031[h] CAL_RESULT (R336). -/
abbrev K.calResult (i : Nat) : Key := ⟨0x60, 0x031, i⟩
/-- 60.040[p] OW_MODE (R338). -/
abbrev K.owMode (i : Nat) : Key := ⟨0x60, 0x040, i⟩
/-- 60.041 OW_HIGH (R338). -/
abbrev K.owHigh : Key := ⟨0x60, 0x041, 0⟩
/-- 60.042 OW_LOW (R338). -/
abbrev K.owLow : Key := ⟨0x60, 0x042, 0⟩
/-- 60.043 OW_STATUS (R338). -/
abbrev K.owStatus : Key := ⟨0x60, 0x043, 0⟩
/-- 60.050[x] CAL_OFFSET (R330). -/
abbrev K.calOffset (i : Nat) : Key := ⟨0x60, 0x050, i⟩
/-- 60.051[x] CAL_GAIN (R330). -/
abbrev K.calGain (i : Nat) : Key := ⟨0x60, 0x051, i⟩
/-- 60.0F0[q] STRAP_LEVEL (R339). -/
abbrev K.strapLevel (i : Nat) : Key := ⟨0x60, 0x0F0, i⟩
/-- 60.0F8 STRAP_MARGINAL (R339). -/
abbrev K.strapMarginal : Key := ⟨0x60, 0x0F8, 0⟩
/-- 61.000[k] AOUT_ENABLE (R342). -/
abbrev K.aoutEnable (i : Nat) : Key := ⟨0x61, 0x000, i⟩
/-- 61.001[k] AOUT_RANGE (R341). -/
abbrev K.aoutRange (i : Nat) : Key := ⟨0x61, 0x001, i⟩
/-- 61.002[k] AOUT_CODE (R341). -/
abbrev K.aoutCode (i : Nat) : Key := ⟨0x61, 0x002, i⟩
/-- 61.003[k] AOUT_START_CODE (R342). -/
abbrev K.aoutStartCode (i : Nat) : Key := ⟨0x61, 0x003, i⟩
/-- 61.004[k] AOUT_STATE (R343). -/
abbrev K.aoutState (i : Nat) : Key := ⟨0x61, 0x004, i⟩
/-- 61.010[k] WAVE (R344). -/
abbrev K.wave (i : Nat) : Key := ⟨0x61, 0x010, i⟩
/-- 61.011[k] WAVE_AMPL (R344). -/
abbrev K.waveAmpl (i : Nat) : Key := ⟨0x61, 0x011, i⟩
/-- 61.012[k] WAVE_PERIOD (R344). -/
abbrev K.wavePeriod (i : Nat) : Key := ⟨0x61, 0x012, i⟩
/-- 61.013 WAVE_SYNC (R344). -/
abbrev K.waveSync : Key := ⟨0x61, 0x013, 0⟩
/-- 61.014[k] WAVE_CLIP (R344). -/
abbrev K.waveClip (i : Nat) : Key := ⟨0x61, 0x014, i⟩
/-- 61.020[k] AOUT_KEEP (R347). -/
abbrev K.aoutKeep (i : Nat) : Key := ⟨0x61, 0x020, i⟩
/-- 61.030 RB_TOL (R345). -/
abbrev K.rbTol : Key := ⟨0x61, 0x030, 0⟩
/-- 61.031[k] RB_ACTION (R345). -/
abbrev K.rbAction (i : Nat) : Key := ⟨0x61, 0x031, i⟩
/-- 61.032[k] RB_STATUS (R345). -/
abbrev K.rbStatus (i : Nat) : Key := ⟨0x61, 0x032, i⟩
/-- 61.033[k] RB_FAULT_COUNT (R345). -/
abbrev K.rbFaultCount (i : Nat) : Key := ⟨0x61, 0x033, i⟩
/-- 61.034[k] RB_CLEAR (R346). -/
abbrev K.rbClear (i : Nat) : Key := ⟨0x61, 0x034, i⟩
/-- 62.000[y] MF_ENABLE (R348). -/
abbrev K.mfEnable (i : Nat) : Key := ⟨0x62, 0x000, i⟩
/-- 62.001[y] MF_SLOT (R348). -/
abbrev K.mfSlot (i : Nat) : Key := ⟨0x62, 0x001, i⟩
/-- 62.002[y] CIC_DECIM (R353). -/
abbrev K.cicDecim (i : Nat) : Key := ⟨0x62, 0x002, i⟩
/-- 62.003[y] CIC_ORDER (R353). -/
abbrev K.cicOrder (i : Nat) : Key := ⟨0x62, 0x003, i⟩
/-- 62.004[y] FIR_DECIM (R354). -/
abbrev K.firDecim (i : Nat) : Key := ⟨0x62, 0x004, i⟩
/-- 62.005[y] FIR_TAPS (R354). -/
abbrev K.firTaps (i : Nat) : Key := ⟨0x62, 0x005, i⟩
/-- 62.006[y] RESAMPLE_INC (R355). -/
abbrev K.resampleInc (i : Nat) : Key := ⟨0x62, 0x006, i⟩
/-- 62.007[y] SYNC_SRC (R352). -/
abbrev K.syncSrc (i : Nat) : Key := ⟨0x62, 0x007, i⟩
/-- 62.008[y] SYNC_DELAY (R352). -/
abbrev K.syncDelay (i : Nat) : Key := ⟨0x62, 0x008, i⟩
/-- 62.009[y] SETTLE_MODE (R361). -/
abbrev K.settleMode (i : Nat) : Key := ⟨0x62, 0x009, i⟩
/-- 62.00A[y] BOXCAR_LOG (R362). -/
abbrev K.boxcarLog (i : Nat) : Key := ⟨0x62, 0x00A, i⟩
/-- 62.00B[y] FADE_LEN (R357). -/
abbrev K.fadeLen (i : Nat) : Key := ⟨0x62, 0x00B, i⟩
/-- 62.00C MF_SYNC (R360). -/
abbrev K.mfSync : Key := ⟨0x62, 0x00C, 0⟩
/-- 62.00D[y] MF_STATE (R348). -/
abbrev K.mfState (i : Nat) : Key := ⟨0x62, 0x00D, i⟩
/-- 62.00E[y] SETTLE_LEN (R361). -/
abbrev K.settleLen (i : Nat) : Key := ⟨0x62, 0x00E, i⟩
/-- 62.00F[y] OUT_RATE (R355). -/
abbrev K.outRate (i : Nat) : Key := ⟨0x62, 0x00F, i⟩
/-- 62.010[y] SHEET_STATE (R357). -/
abbrev K.sheetState (i : Nat) : Key := ⟨0x62, 0x010, i⟩
/-- 62.011[y] SHEET_SWAP (R357). -/
abbrev K.sheetSwap (i : Nat) : Key := ⟨0x62, 0x011, i⟩
/-- 62.012[y] FADE_POS (R357). -/
abbrev K.fadePos (i : Nat) : Key := ⟨0x62, 0x012, i⟩
/-- 62.013[y] SWAP_QUEUED_COUNT (R359). -/
abbrev K.swapQueuedCount (i : Nat) : Key := ⟨0x62, 0x013, i⟩
/-- 62.014[y] SWAP_REPLACED_COUNT (R359). -/
abbrev K.swapReplacedCount (i : Nat) : Key := ⟨0x62, 0x014, i⟩
/-- 62.020[i] STAGE_TAP (R357). -/
abbrev K.stageTap (i : Nat) : Key := ⟨0x62, 0x020, i⟩
/-- 62.021[i] SHEET0_TAP (R357). -/
abbrev K.sheet0Tap (i : Nat) : Key := ⟨0x62, 0x021, i⟩
/-- 62.022[i] SHEET1_TAP (R357). -/
abbrev K.sheet1Tap (i : Nat) : Key := ⟨0x62, 0x022, i⟩
/-- 62.030[y] OUT_LATEST (R363). -/
abbrev K.outLatest (i : Nat) : Key := ⟨0x62, 0x030, i⟩
/-- 62.031[y] OUT_TIME (R363). -/
abbrev K.outTime (i : Nat) : Key := ⟨0x62, 0x031, i⟩
/-- 62.032[y] OUT_QUEUE (R363). -/
abbrev K.outQueue (i : Nat) : Key := ⟨0x62, 0x032, i⟩
/-- 62.033[y] OUT_COUNT (R363). -/
abbrev K.outCount (i : Nat) : Key := ⟨0x62, 0x033, i⟩
/-- 62.034[y] OUT_OVERFLOW (R363). -/
abbrev K.outOverflow (i : Nat) : Key := ⟨0x62, 0x034, i⟩
/-- 62.035[y] GAP_COUNT (R351). -/
abbrev K.gapCount (i : Nat) : Key := ⟨0x62, 0x035, i⟩
/-- 62.036[y] CLIP_COUNT (R354). -/
abbrev K.clipCount (i : Nat) : Key := ⟨0x62, 0x036, i⟩
/-- 68.000 FB_ENABLE (R244). -/
abbrev K.fbEnable : Key := ⟨0x68, 0x000, 0⟩
/-- 68.001 FB_WRITE_RATE (R244). -/
abbrev K.fbWriteRate : Key := ⟨0x68, 0x001, 0⟩
/-- 68.002 FB_RINGS_ACTIVE (R244). -/
abbrev K.fbRingsActive : Key := ⟨0x68, 0x002, 0⟩
/-- 68.003 FB_BAD_RECORDS (R374). -/
abbrev K.fbBadRecords : Key := ⟨0x68, 0x003, 0⟩
/-- 68.004 TRIG_OUT_WIDTH (R373). -/
abbrev K.trigOutWidth : Key := ⟨0x68, 0x004, 0⟩
/-- 68.010 RING_CMD (R368). -/
abbrev K.ringCmd : Key := ⟨0x68, 0x010, 0⟩
/-- 68.011 RING_CMD_ACTED (R244). -/
abbrev K.ringCmdActed : Key := ⟨0x68, 0x011, 0⟩
/-- 68.020 RD_RING (R374). -/
abbrev K.rdRing : Key := ⟨0x68, 0x020, 0⟩
/-- 68.021 RD_RECORD (R374). -/
abbrev K.rdRecord : Key := ⟨0x68, 0x021, 0⟩
/-- 68.022 RD_DATA (R374). -/
abbrev K.rdData : Key := ⟨0x68, 0x022, 0⟩
/-- 68.100 + q [n] RING_DESC (R365). -/
abbrev K.ringDesc (i : Nat) : Key := ⟨0x68, 0x100 + i / 4096, i % 4096⟩
/-- 68.200 + q [n] RING_HEADER (R374). -/
abbrev K.ringHeader (i : Nat) : Key := ⟨0x68, 0x200 + i / 4096, i % 4096⟩
/-- 70.000[m] SENSOR_TEMP (R377). -/
abbrev K.sensorTemp (i : Nat) : Key := ⟨0x70, 0x000, i⟩
/-- 70.001[m] SENSOR_STATE (R378). -/
abbrev K.sensorState (i : Nat) : Key := ⟨0x70, 0x001, i⟩
/-- 70.002 HOTTEST (R380). -/
abbrev K.hottest : Key := ⟨0x70, 0x002, 0⟩
/-- 70.003 HOTTEST_SENSOR (R380). -/
abbrev K.hottestSensor : Key := ⟨0x70, 0x003, 0⟩
/-- 70.004 SAMPLE_PERIOD (R377). -/
abbrev K.samplePeriod : Key := ⟨0x70, 0x004, 0⟩
/-- 70.005[d] FAILED_COUNT (R378). -/
abbrev K.failedCount (i : Nat) : Key := ⟨0x70, 0x005, i⟩
/-- 70.010 WARN_THRESH (R244). -/
abbrev K.warnThresh : Key := ⟨0x70, 0x010, 0⟩
/-- 70.011 THROTTLE_THRESH (R382). -/
abbrev K.throttleThresh : Key := ⟨0x70, 0x011, 0⟩
/-- 70.012 SHUTDOWN_THRESH (R387). -/
abbrev K.shutdownThresh : Key := ⟨0x70, 0x012, 0⟩
/-- 70.014[t] HYSTERESIS (R380). -/
abbrev K.hysteresis (i : Nat) : Key := ⟨0x70, 0x014, i⟩
/-- 70.016 L2_DWELL (R382). -/
abbrev K.l2Dwell : Key := ⟨0x70, 0x016, 0⟩
/-- 70.017 L2_OFFSET (R382). -/
abbrev K.l2Offset : Key := ⟨0x70, 0x017, 0⟩
/-- 70.018 STEP_HOLD (R382). -/
abbrev K.stepHold : Key := ⟨0x70, 0x018, 0⟩
/-- 70.019 FAIL_DELTA (R378). -/
abbrev K.failDelta : Key := ⟨0x70, 0x019, 0⟩
/-- 70.020 THROTTLE_LEVEL (R379). -/
abbrev K.throttleLevel : Key := ⟨0x70, 0x020, 0⟩
/-- 70.021 THROTTLE_CAUSE (R379). -/
abbrev K.throttleCause : Key := ⟨0x70, 0x021, 0⟩
/-- 70.022 FW_LEVEL (R381). -/
abbrev K.fwLevel : Key := ⟨0x70, 0x022, 0⟩
/-- 70.023 THERMAL_LEVEL (R381). -/
abbrev K.thermalLevel : Key := ⟨0x70, 0x023, 0⟩
/-- 70.024 WARNING (R380). -/
abbrev K.warning : Key := ⟨0x70, 0x024, 0⟩
/-- 70.025 LEVEL_CHANGE_COUNT (R381). -/
abbrev K.levelChangeCount : Key := ⟨0x70, 0x025, 0⟩
/-- 70.026 BLOCK_REMAIN (R379). -/
abbrev K.blockRemain : Key := ⟨0x70, 0x026, 0⟩
/-- 70.030 XTAL_TURNOVER (R389). -/
abbrev K.xtalTurnover : Key := ⟨0x70, 0x030, 0⟩
/-- 70.031 XTAL_CURVE (R389). -/
abbrev K.xtalCurve : Key := ⟨0x70, 0x031, 0⟩
/-- 70.032 XTAL_OFFSET (R389). -/
abbrev K.xtalOffset : Key := ⟨0x70, 0x032, 0⟩
/-- 70.033 AON_CORRECTION (R389). -/
abbrev K.aonCorrection : Key := ⟨0x70, 0x033, 0⟩
/-- 70.034 XTAL_TC_ENABLE (R389). -/
abbrev K.xtalTcEnable : Key := ⟨0x70, 0x034, 0⟩
/-- 70.040 L3_DWELL (R386). -/
abbrev K.l3Dwell : Key := ⟨0x70, 0x040, 0⟩
/-- 70.041 L3_STEP (R386). -/
abbrev K.l3Step : Key := ⟨0x70, 0x041, 0⟩
/-- 70.042 L3_RESPONSE (R386). -/
abbrev K.l3Response : Key := ⟨0x70, 0x042, 0⟩
/-- 70.043 L3_RELEASE (R386). -/
abbrev K.l3Release : Key := ⟨0x70, 0x043, 0⟩
/-- 70.044[m] FAR_CAP_LIMIT (R386). -/
abbrev K.farCapLimit (i : Nat) : Key := ⟨0x70, 0x044, i⟩
/-- 70.050 SHUTDOWN_RECORD (R388). -/
abbrev K.shutdownRecord : Key := ⟨0x70, 0x050, 0⟩
/-- 70.051 SHUTDOWN_CLEAR (R388). -/
abbrev K.shutdownClear : Key := ⟨0x70, 0x051, 0⟩
/-- 71.000 VCORE_REQ (R244). -/
abbrev K.vcoreReq : Key := ⟨0x71, 0x000, 0⟩
/-- 71.001 VCORE_MIN (R392). -/
abbrev K.vcoreMin : Key := ⟨0x71, 0x001, 0⟩
/-- 71.002 VCORE_MAX (R392). -/
abbrev K.vcoreMax : Key := ⟨0x71, 0x002, 0⟩
/-- 71.003 MARGIN_TARGET (R392). -/
abbrev K.marginTarget : Key := ⟨0x71, 0x003, 0⟩
/-- 71.004 MARGIN_BAND (R392). -/
abbrev K.marginBand : Key := ⟨0x71, 0x004, 0⟩
/-- 71.005 MARGIN_ALARM (R393). -/
abbrev K.marginAlarm : Key := ⟨0x71, 0x005, 0⟩
/-- 71.006[m] PACE_MARGIN (R392). -/
abbrev K.paceMargin (i : Nat) : Key := ⟨0x71, 0x006, i⟩
/-- 71.007 MARGIN_MIN (R392). -/
abbrev K.marginMin : Key := ⟨0x71, 0x007, 0⟩
/-- 71.008 MARGIN_STATE (R393). -/
abbrev K.marginState : Key := ⟨0x71, 0x008, 0⟩
/-- 71.009 DROP_WAIT (R393). -/
abbrev K.dropWait : Key := ⟨0x71, 0x009, 0⟩
/-- 71.00A AVS_ENABLE (R391). -/
abbrev K.avsEnable : Key := ⟨0x71, 0x00A, 0⟩
/-- 71.00B AVS_RAIL (R391). -/
abbrev K.avsRail : Key := ⟨0x71, 0x00B, 0⟩
/-- 71.00C AVS_STATE (R391). -/
abbrev K.avsState : Key := ⟨0x71, 0x00C, 0⟩
/-- 71.00D VCORE_READ (R244). -/
abbrev K.vcoreRead : Key := ⟨0x71, 0x00D, 0⟩
/-- 71.00E MARGIN_ALARM_COUNT (R393). -/
abbrev K.marginAlarmCount : Key := ⟨0x71, 0x00E, 0⟩
/-- 71.00F CARRIER_DROP_COUNT (R393). -/
abbrev K.carrierDropCount : Key := ⟨0x71, 0x00F, 0⟩
/-- 71.010[d] OC_LIMIT (R395). -/
abbrev K.ocLimit (i : Nat) : Key := ⟨0x71, 0x010, i⟩
/-- 71.018 IDLE_TIMEOUT (R397). -/
abbrev K.idleTimeout : Key := ⟨0x71, 0x018, 0⟩
/-- 71.019 IDLE_REMAIN (R244). -/
abbrev K.idleRemain : Key := ⟨0x71, 0x019, 0⟩
/-- 71.01A SLEEP_NOW (R396). -/
abbrev K.sleepNow : Key := ⟨0x71, 0x01A, 0⟩
/-- 71.01B WAKE_ENABLE (R397). -/
abbrev K.wakeEnable : Key := ⟨0x71, 0x01B, 0⟩
/-- 71.01C WAKE_TIMER (R399). -/
abbrev K.wakeTimer : Key := ⟨0x71, 0x01C, 0⟩
/-- 71.01D LIGHT_AIN (R399). -/
abbrev K.lightAin : Key := ⟨0x71, 0x01D, 0⟩
/-- 71.01E LIGHT_THRESH (R399). -/
abbrev K.lightThresh : Key := ⟨0x71, 0x01E, 0⟩
/-- 71.01F WAKE_GPIO (R399). -/
abbrev K.wakeGpio : Key := ⟨0x71, 0x01F, 0⟩
/-- 71.020 LAST_WAKE_SOURCE (R401). -/
abbrev K.lastWakeSource : Key := ⟨0x71, 0x020, 0⟩
/-- 71.021 LAST_WAKE_TIME (R401). -/
abbrev K.lastWakeTime : Key := ⟨0x71, 0x021, 0⟩
/-- 71.022 LAST_WAKE_FLAGS (R401). -/
abbrev K.lastWakeFlags : Key := ⟨0x71, 0x022, 0⟩
/-- 71.023 DORMANT_COUNT (R244). -/
abbrev K.dormantCount : Key := ⟨0x71, 0x023, 0⟩
/-- 71.024 PADS_HELD (R402). -/
abbrev K.padsHeld : Key := ⟨0x71, 0x024, 0⟩
/-- 71.025 PAD_RELEASE (R402). -/
abbrev K.padRelease : Key := ⟨0x71, 0x025, 0⟩
/-- 71.026 LPMODE_LEVEL (R244). -/
abbrev K.lpmodeLevel : Key := ⟨0x71, 0x026, 0⟩
/-- 71.027 AON_MODE (R403). -/
abbrev K.aonMode : Key := ⟨0x71, 0x027, 0⟩
/-- 78.000[k] CLASS_MISMATCH (R405). -/
abbrev K.classMismatch (i : Nat) : Key := ⟨0x78, 0x000, i⟩
/-- 78.001 LAST_MISMATCH (R405). -/
abbrev K.lastMismatch : Key := ⟨0x78, 0x001, 0⟩
/-- 78.002 LAST_MISMATCH_TIME (R405). -/
abbrev K.lastMismatchTime : Key := ⟨0x78, 0x002, 0⟩
/-- 78.010[c] REFETCH_COUNT (R406). -/
abbrev K.refetchCount (i : Nat) : Key := ⟨0x78, 0x010, i⟩
/-- 78.011[c] CORE_INT_RESET_COUNT (R410). -/
abbrev K.coreIntResetCount (i : Nat) : Key := ⟨0x78, 0x011, i⟩
/-- 78.012 REFETCH_QUEUE (R407). -/
abbrev K.refetchQueue : Key := ⟨0x78, 0x012, 0⟩
/-- 78.020[n] FAULT_LOG (R414). -/
abbrev K.faultLog (i : Nat) : Key := ⟨0x78, 0x020, i⟩
/-- 78.021 REPEAT_THRESH (R414). -/
abbrev K.repeatThresh : Key := ⟨0x78, 0x021, 0⟩
/-- 78.022 FAULT_LOG_CLEAR (R414). -/
abbrev K.faultLogClear : Key := ⟨0x78, 0x022, 0⟩
/-- 78.030 SCRUB_PERIOD (R415). -/
abbrev K.scrubPeriod : Key := ⟨0x78, 0x030, 0⟩
/-- 78.031 SCRUB_PASSES (R244). -/
abbrev K.scrubPasses : Key := ⟨0x78, 0x031, 0⟩
/-- 78.032 SCRUB_FOUND (R415). -/
abbrev K.scrubFound : Key := ⟨0x78, 0x032, 0⟩
/-- 78.040 INT_RESET_RECENT (R414). -/
abbrev K.intResetRecent : Key := ⟨0x78, 0x040, 0⟩
/-- 79.000 BIST_RESULT (R417). -/
abbrev K.bistResult : Key := ⟨0x79, 0x000, 0⟩
/-- 79.001 BIST_FIRST (R418). -/
abbrev K.bistFirst : Key := ⟨0x79, 0x001, 0⟩
/-- 79.002 BIST_DETAIL (R418). -/
abbrev K.bistDetail : Key := ⟨0x79, 0x002, 0⟩
/-- 79.003 BIST_TIME (R244). -/
abbrev K.bistTime : Key := ⟨0x79, 0x003, 0⟩
/-- 79.010 SLICE_PERIOD (R419). -/
abbrev K.slicePeriod : Key := ⟨0x79, 0x010, 0⟩
/-- 79.011 SLICE_STATUS (R419). -/
abbrev K.sliceStatus : Key := ⟨0x79, 0x011, 0⟩
/-- 79.012[s] SLICE_FAIL_COUNT (R419). -/
abbrev K.sliceFailCount (i : Nat) : Key := ⟨0x79, 0x012, i⟩
/-- 79.013 SLICE_RUN (R419). -/
abbrev K.sliceRun : Key := ⟨0x79, 0x013, 0⟩
/-- 79.014 SLICE_ROUNDS (R419). -/
abbrev K.sliceRounds : Key := ⟨0x79, 0x014, 0⟩
/-- 79.020 TEST_REQUEST (R420). -/
abbrev K.testRequest : Key := ⟨0x79, 0x020, 0⟩
/-- 79.021 TEST_STATE (R420). -/
abbrev K.testState : Key := ⟨0x79, 0x021, 0⟩
/-- 79.022 TEST_REFUSAL (R420). -/
abbrev K.testRefusal : Key := ⟨0x79, 0x022, 0⟩
/-- 79.023 TEST_DETAIL (R420). -/
abbrev K.testDetail : Key := ⟨0x79, 0x023, 0⟩
/-- 00.010 LIFECYCLE (R425). -/
abbrev K.lifecycle : Key := ⟨0x00, 0x010, 0⟩
/-- 00.011 NONCE (R430). -/
abbrev K.nonce : Key := ⟨0x00, 0x011, 0⟩
/-- 00.012 LC_TOKEN (R430). -/
abbrev K.lcToken : Key := ⟨0x00, 0x012, 0⟩
/-- 00.013 LC_TRANSITION (R425). -/
abbrev K.lcTransition : Key := ⟨0x00, 0x013, 0⟩
/-- 00.014 LC_RESULT (R427). -/
abbrev K.lcResult : Key := ⟨0x00, 0x014, 0⟩
/-- 00.020 ID_PUBKEY (R244). -/
abbrev K.idPubkey : Key := ⟨0x00, 0x020, 0⟩
/-- 00.021 ID_DIGEST (R423). -/
abbrev K.idDigest : Key := ⟨0x00, 0x021, 0⟩
/-- 00.022 ID_CERT (R441). -/
abbrev K.idCert : Key := ⟨0x00, 0x022, 0⟩
/-- 00.023 ID_STATE (R426). -/
abbrev K.idState : Key := ⟨0x00, 0x023, 0⟩
/-- 7A.000[j] ROOT_STATE (R428). -/
abbrev K.rootState (i : Nat) : Key := ⟨0x7A, 0x000, i⟩
/-- 7A.001[j] ROOT_DIGEST (R423). -/
abbrev K.rootDigest (i : Nat) : Key := ⟨0x7A, 0x001, i⟩
/-- 7A.002[j] ROOT_PUBKEY (R244). -/
abbrev K.rootPubkey (i : Nat) : Key := ⟨0x7A, 0x002, i⟩
/-- 7A.003 ROOT_KEY_MISSING (R428). -/
abbrev K.rootKeyMissing : Key := ⟨0x7A, 0x003, 0⟩
/-- 7A.004 VERIFY_DETAIL (R432). -/
abbrev K.verifyDetail : Key := ⟨0x7A, 0x004, 0⟩
/-- 7A.005 VERIFY_SEGMENT (R432). -/
abbrev K.verifySegment : Key := ⟨0x7A, 0x005, 0⟩
/-- 7A.008 KEY_STAGE (R429). -/
abbrev K.keyStage : Key := ⟨0x7A, 0x008, 0⟩
/-- 7A.009 KEY_AUTH (R429). -/
abbrev K.keyAuth : Key := ⟨0x7A, 0x009, 0⟩
/-- 7A.00A KEY_CMD (R429). -/
abbrev K.keyCmd : Key := ⟨0x7A, 0x00A, 0⟩
/-- 7A.00B KEY_RESULT (R423). -/
abbrev K.keyResult : Key := ⟨0x7A, 0x00B, 0⟩
/-- 7A.010[s] CTRL_STATE (R435). -/
abbrev K.ctrlState (i : Nat) : Key := ⟨0x7A, 0x010, i⟩
/-- 7A.011[s] CTRL_CERT (R434). -/
abbrev K.ctrlCert (i : Nat) : Key := ⟨0x7A, 0x011, i⟩
/-- 7A.012 CTRL_STAGE (R429). -/
abbrev K.ctrlStage : Key := ⟨0x7A, 0x012, 0⟩
/-- 7A.018 SECVER_MIN (R423). -/
abbrev K.secverMin : Key := ⟨0x7A, 0x018, 0⟩
/-- 7A.019 CTRL_VER_MIN (R423). -/
abbrev K.ctrlVerMin : Key := ⟨0x7A, 0x019, 0⟩
/-- 7A.01A SIGN_POLICY_FUSED (R438). -/
abbrev K.signPolicyFused : Key := ⟨0x7A, 0x01A, 0⟩
/-- 7A.020 ID_GENERATE (R440). -/
abbrev K.idGenerate : Key := ⟨0x7A, 0x020, 0⟩
/-- 7A.030 ATT_NONCE (R442). -/
abbrev K.attNonce : Key := ⟨0x7A, 0x030, 0⟩
/-- 7A.031 ATT_REQUEST (R442). -/
abbrev K.attRequest : Key := ⟨0x7A, 0x031, 0⟩
/-- 7A.032 ATT_STATE (R442). -/
abbrev K.attState : Key := ⟨0x7A, 0x032, 0⟩
/-- 7A.033 ATT_REPORT (R442). -/
abbrev K.attReport : Key := ⟨0x7A, 0x033, 0⟩
/-- 7A.034 ATT_REFUSAL (R442). -/
abbrev K.attRefusal : Key := ⟨0x7A, 0x034, 0⟩
/-- 7A.038 DEBUG_SEEN (R445). -/
abbrev K.debugSeen : Key := ⟨0x7A, 0x038, 0⟩
/-- 01.000 DEVICE_STATE (R457). -/
abbrev K.deviceState : Key := ⟨0x01, 0x000, 0⟩
/-- 01.001 RESET_CAUSE (R448). -/
abbrev K.resetCause : Key := ⟨0x01, 0x001, 0⟩
/-- 01.002 RESET_OTHER (R448). -/
abbrev K.resetOther : Key := ⟨0x01, 0x002, 0⟩
/-- 01.003 RESET_DETAIL (R448). -/
abbrev K.resetDetail : Key := ⟨0x01, 0x003, 0⟩
/-- 01.004 RESET_TIME (R451). -/
abbrev K.resetTime : Key := ⟨0x01, 0x004, 0⟩
/-- 01.005[k] RESET_COUNT (R448). -/
abbrev K.resetCount (i : Nat) : Key := ⟨0x01, 0x005, i⟩
/-- 01.008 SW_RESET (R448). -/
abbrev K.swReset : Key := ⟨0x01, 0x008, 0⟩
/-- 01.010 STRAPS (R452). -/
abbrev K.straps : Key := ⟨0x01, 0x010, 0⟩
/-- 01.011 BOOT_SOURCE (R453). -/
abbrev K.bootSource : Key := ⟨0x01, 0x011, 0⟩
/-- 01.012 BOARD_VARIANT (R452). -/
abbrev K.boardVariant : Key := ⟨0x01, 0x012, 0⟩
/-- 01.013 BOOT_STAGE (R452). -/
abbrev K.bootStage : Key := ⟨0x01, 0x013, 0⟩
/-- 01.014 BOOT_TIME (R456). -/
abbrev K.bootTime : Key := ⟨0x01, 0x014, 0⟩
/-- 01.015 BOOT_RESULT (R454). -/
abbrev K.bootResult : Key := ⟨0x01, 0x015, 0⟩
/-- 01.018 SUPPLY_STATUS (R446). -/
abbrev K.supplyStatus : Key := ⟨0x01, 0x018, 0⟩
/-- 01.020 SV_START (R456). -/
abbrev K.svStart : Key := ⟨0x01, 0x020, 0⟩

end Sys2Proof.Machine
end

