-- ==== Sys2Proof/Machine/LegendTable.lean ====
section
/-! DEFINITION. The Legend's entry tables: for every entry of every chapter its type, access class, default,
limits, number of elements and counter class, from the Legend tables of spec/ 00 to 18 (R2, R9 to R12, R244),
and a name `K.<name>` for every key. Areas 30 to 34 are areas 20 to 24 for carrier B (R8). -/

namespace Sys2Proof.Machine

/-- The Legend types of 00 R9. -/
inductive EntryType where
  | b | u8 | u16 | u32 | u64 | s16 | s32 | q15 | uq16 | enum8 | time64 | blob | cmd
  deriving DecidableEq, Repr

/-- The access classes of 00 R10. -/
inductive Access where
  | ro | rw | ed | cmd
  deriving DecidableEq, Repr

/-- The counter classes of 09 R262. -/
inductive CounterClass where
  | none | saturating | wrapping | silent
  deriving DecidableEq, Repr

/-- One row of a Legend table: the limits are those of the Range column (BLOB: of the length in bytes). -/
structure Row where
  type : EntryType
  access : Access
  dflt : Int
  lo : Int
  hi : Int
  step : Nat
  count : Nat
  counter : CounterClass
  deriving DecidableEq, Repr

/-- Bytes of the wire form of a scalar (09 R249). -/
def EntryType.wireBytes : EntryType → Nat
  | .b | .u8 | .enum8 | .cmd => 1
  | .u16 | .s16 | .q15 | .uq16 => 2
  | .u32 | .s32 => 4
  | .u64 | .time64 => 8
  | .blob => 0

/-- Whether the wire form is two's complement (00 R9). -/
def EntryType.signed : EntryType → Bool
  | .s16 | .s32 | .q15 => true
  | _ => false

/-- Entries of area 00. -/
def rows00 : List (Nat × Row) := [
  (0x000, ⟨.u16, .ro, 20051, 20051, 20051, 1, 1, .none⟩),  -- VENDOR
  (0x001, ⟨.enum8, .ro, 1, 1, 2, 1, 1, .none⟩),  -- PART
  (0x002, ⟨.u8, .ro, 176, 176, 176, 1, 1, .none⟩),  -- STEPPING
  (0x003, ⟨.u8, .ro, 2, 1, 2, 1, 1, .none⟩),  -- CARRIERS
  (0x004, ⟨.u16, .ro, 256, 256, 256, 1, 1, .none⟩),  -- LEGEND_REV
  (0x005, ⟨.u64, .ro, 0, 0, 18446744073709551615, 1, 1, .none⟩),  -- SERIAL
  (0x010, ⟨.enum8, .ro, 0, 0, 4, 1, 1, .none⟩),  -- LIFECYCLE
  (0x011, ⟨.blob, .ro, 0, 32, 32, 1, 1, .none⟩),  -- NONCE
  (0x012, ⟨.blob, .rw, 0, 0, 1332, 1, 1, .none⟩),  -- LC_TOKEN
  (0x013, ⟨.enum8, .cmd, 0, 1, 4, 1, 1, .none⟩),  -- LC_TRANSITION
  (0x014, ⟨.enum8, .ro, 0, 0, 7, 1, 1, .none⟩),  -- LC_RESULT
  (0x020, ⟨.blob, .ro, 0, 0, 1793, 1, 1, .none⟩),  -- ID_PUBKEY
  (0x021, ⟨.blob, .ro, 0, 64, 64, 1, 1, .none⟩),  -- ID_DIGEST
  (0x022, ⟨.blob, .rw, 0, 0, 4096, 1, 1, .none⟩),  -- ID_CERT
  (0x023, ⟨.enum8, .ro, 0, 0, 2, 1, 1, .none⟩)]  -- ID_STATE

/-- Entries of area 01. -/
def rows01 : List (Nat × Row) := [
  (0x000, ⟨.enum8, .ro, 0, 0, 5, 1, 1, .none⟩),  -- DEVICE_STATE
  (0x001, ⟨.enum8, .ro, 0, 1, 6, 1, 1, .none⟩),  -- RESET_CAUSE
  (0x002, ⟨.u8, .ro, 0, 0, 63, 1, 1, .none⟩),  -- RESET_OTHER
  (0x003, ⟨.u32, .ro, 0, 0, 4294967295, 1, 1, .none⟩),  -- RESET_DETAIL
  (0x004, ⟨.time64, .ro, 0, 0, 18446744073709551615, 1, 1, .none⟩),  -- RESET_TIME
  (0x005, ⟨.u64, .ro, 0, 0, 281474976710655, 1, 6, .saturating⟩),  -- RESET_COUNT
  (0x008, ⟨.cmd, .cmd, 0, 1, 1, 1, 1, .none⟩),  -- SW_RESET
  (0x010, ⟨.u32, .ro, 0, 0, 16777215, 1, 1, .none⟩),  -- STRAPS
  (0x011, ⟨.enum8, .ro, 0, 0, 3, 1, 1, .none⟩),  -- BOOT_SOURCE
  (0x012, ⟨.u8, .ro, 0, 0, 7, 1, 1, .none⟩),  -- BOARD_VARIANT
  (0x013, ⟨.enum8, .ro, 0, 0, 6, 1, 1, .none⟩),  -- BOOT_STAGE
  (0x014, ⟨.u32, .ro, 0, 0, 4294967295, 1, 1, .none⟩),  -- BOOT_TIME
  (0x015, ⟨.enum8, .ro, 0, 0, 6, 1, 1, .none⟩),  -- BOOT_RESULT
  (0x018, ⟨.u8, .ro, 0, 0, 31, 1, 1, .none⟩),  -- SUPPLY_STATUS
  (0x020, ⟨.cmd, .cmd, 0, 1, 1, 1, 1, .none⟩)]  -- SV_START

/-- Entries of area 02. -/
def rows02 : List (Nat × Row) := [
  (0x000, ⟨.enum8, .ro, 0, 0, 2, 1, 1, .none⟩),  -- DRAFT_STATE
  (0x001, ⟨.u16, .ro, 0, 0, 16383, 1, 1, .none⟩),  -- DRAFT_OWNER
  (0x002, ⟨.u32, .ro, 0, 0, 4294967295, 1, 1, .none⟩),  -- DRAFT_ID
  (0x003, ⟨.u16, .ro, 0, 0, 8192, 1, 1, .none⟩),  -- DRAFT_ELEMENTS
  (0x004, ⟨.u32, .rw, 60000, 100, 600000, 1, 1, .none⟩),  -- DRAFT_TIMEOUT
  (0x010, ⟨.cmd, .cmd, 0, 1, 1, 1, 1, .none⟩),  -- DRAFT_OPEN
  (0x011, ⟨.cmd, .cmd, 0, 1, 1, 1, 1, .none⟩),  -- DRAFT_DISCARD
  (0x012, ⟨.cmd, .cmd, 0, 1, 1, 1, 1, .none⟩),  -- DRAFT_VALIDATE
  (0x013, ⟨.cmd, .cmd, 0, 1, 1, 1, 1, .none⟩),  -- DRAFT_ARM
  (0x014, ⟨.enum8, .rw, 0, 0, 3, 1, 1, .none⟩),  -- ARM_MODE
  (0x015, ⟨.time64, .rw, 0, 0, 18446744073709551615, 1, 1, .none⟩),  -- ARM_TIME
  (0x016, ⟨.u64, .rw, 0, 0, 281474976710655, 1, 1, .none⟩),  -- ARM_SFC
  (0x017, ⟨.blob, .rw, 0, 0, 1332, 1, 1, .none⟩),  -- ED_SIGNATURE
  (0x018, ⟨.u8, .ro, 0, 0, 127, 1, 1, .none⟩),  -- REJECT_REASON
  (0x019, ⟨.u32, .ro, 0, 0, 4294967295, 1, 1, .none⟩),  -- REJECT_KEY
  (0x01A, ⟨.u16, .ro, 0, 0, 65535, 1, 1, .none⟩),  -- REJECT_COUNT
  (0x020, ⟨.u32, .ro, 0, 0, 4294967295, 1, 1, .none⟩),  -- LAST_APPLIED_ID
  (0x021, ⟨.time64, .ro, 0, 0, 18446744073709551615, 1, 1, .none⟩),  -- LAST_APPLIED_TIME
  (0x022, ⟨.u8, .ro, 0, 0, 8, 1, 1, .none⟩),  -- ARMED_COUNT
  (0x023, ⟨.u32, .ro, 0, 0, 4294967295, 1, 8, .none⟩),  -- ARMED_ID
  (0x024, ⟨.u64, .ro, 0, 0, 18446744073709551615, 1, 8, .none⟩),  -- ARMED_INSTANT
  (0x025, ⟨.enum8, .ro, 0, 0, 3, 1, 8, .none⟩),  -- ARMED_MODE
  (0x026, ⟨.u32, .cmd, 0, 0, 4294967295, 1, 1, .none⟩),  -- DISARM
  (0x030, ⟨.enum8, .ed, 0, 0, 1, 1, 1, .none⟩),  -- SIGN_POLICY
  (0x040, ⟨.blob, .ro, 0, 32, 32, 1, 16, .none⟩),  -- HISTORY
  (0x041, ⟨.u8, .ro, 3, 0, 3, 1, 1, .none⟩),  -- JOURNAL_STATE
  (0x042, ⟨.u16, .ro, 0, 0, 1024, 1, 1, .none⟩)]  -- JOURNAL_RECORDS

/-- Entries of area 03. -/
def rows03 : List (Nat × Row) := [
  (0x000, ⟨.blob, .ro, 0, 0, 256, 1, 1, .none⟩),  -- EVENT_NEXT
  (0x001, ⟨.u16, .ro, 0, 0, 1024, 1, 1, .none⟩),  -- EVENT_PENDING
  (0x002, ⟨.u64, .ro, 0, 0, 281474976710655, 1, 1, .saturating⟩),  -- EVENT_LOST
  (0x010, ⟨.enum8, .rw, 0, 0, 7, 1, 1, .none⟩),  -- INT_VIEW
  (0x012, ⟨.u32, .rw, 4294967295, 0, 4294967295, 1, 8, .none⟩),  -- INT_AREA_MASK
  (0x013, ⟨.enum8, .rw, 1, 0, 2, 1, 1, .none⟩),  -- INT_SEVERITY
  (0x014, ⟨.b, .ro, 0, 0, 1, 1, 1, .none⟩),  -- INT_STATUS
  (0x018, ⟨.cmd, .cmd, 0, 1, 1, 1, 1, .none⟩),  -- ALARM_ACK
  (0x019, ⟨.b, .ro, 0, 0, 1, 1, 1, .none⟩),  -- ALARM_LATCH
  (0x020, ⟨.u8, .cmd, 0, 0, 255, 1, 1, .none⟩),  -- SNAPSHOT
  (0x021, ⟨.cmd, .cmd, 0, 1, 1, 1, 1, .none⟩),  -- SNAPSHOT_RELEASE
  (0x022, ⟨.time64, .ro, 0, 0, 18446744073709551615, 1, 1, .none⟩),  -- SNAPSHOT_TIME
  (0x023, ⟨.u8, .ro, 0, 0, 255, 1, 1, .none⟩),  -- SNAPSHOT_AREA
  (0x024, ⟨.u8, .cmd, 0, 0, 127, 1, 1, .none⟩),  -- COUNTER_CLEAR
  (0x0F0, ⟨.blob, .ro, 0, 0, 4096, 1, 16, .none⟩)]  -- EVENT_CATALOGUE

/-- Entries of area 08. -/
def rows08 : List (Nat × Row) := [
  (0x000, ⟨.u8, .rw, 7, 0, 7, 1, 1, .none⟩),  -- PORT_ENABLE
  (0x010, ⟨.u8, .rw, 8, 8, 119, 1, 1, .none⟩),  -- TWI_ADDR
  (0x011, ⟨.b, .rw, 0, 0, 1, 1, 1, .none⟩),  -- TWI_WINDOW_ENABLE
  (0x012, ⟨.u8, .rw, 80, 8, 119, 1, 1, .none⟩),  -- TWI_WINDOW_ADDR
  (0x013, ⟨.u8, .rw, 0, 0, 63, 1, 1, .none⟩),  -- TWI_WINDOW_PAGES
  (0x020, ⟨.u8, .rw, 0, 0, 31, 1, 1, .none⟩),  -- MDIO_PRTAD
  (0x030, ⟨.u64, .ro, 0, 0, 281474976710655, 1, 3, .wrapping⟩),  -- REQUEST_COUNT
  (0x031, ⟨.u64, .ro, 0, 0, 281474976710655, 1, 3, .saturating⟩),  -- CRC_ERR_COUNT
  (0x040, ⟨.u8, .ro, 0, 0, 64, 1, 1, .none⟩),  -- WINDOW_QUEUE
  (0x041, ⟨.u64, .ro, 0, 0, 281474976710655, 1, 1, .saturating⟩)]  -- WINDOW_NACK_COUNT

/-- Entries of area 10. -/
def rows10 : List (Nat × Row) := [
  (0x000, ⟨.b, .rw, 0, 0, 1, 1, 8, .none⟩),  -- LANE_ENABLE
  (0x001, ⟨.enum8, .ed, 0, 0, 1, 1, 8, .none⟩),  -- LANE_RATE
  (0x002, ⟨.b, .ed, 1, 0, 1, 1, 8, .none⟩),  -- TRAIN_ENABLE
  (0x003, ⟨.enum8, .rw, 1, 0, 3, 1, 8, .none⟩),  -- TRAIN_START_PRESET
  (0x004, ⟨.enum8, .rw, 1, 0, 3, 1, 8, .none⟩),  -- TX_PRESET
  (0x005, ⟨.s16, .rw, 0, (-32768), 32767, 1, 48, .none⟩),  -- TX_TAP
  (0x006, ⟨.u8, .ed, 0, 0, 3, 1, 8, .none⟩),  -- LANE_INVERT
  (0x007, ⟨.u8, .ed, 0, 0, 3, 1, 8, .none⟩),  -- PRECODE
  (0x010, ⟨.enum8, .ro, 0, 0, 9, 1, 8, .none⟩),  -- LANE_STATE
  (0x011, ⟨.u16, .ro, 0, 0, 4000, 1, 8, .none⟩),  -- LANE_FOM
  (0x012, ⟨.u16, .rw, 1750, 1000, 3000, 1, 8, .none⟩),  -- FOM_TARGET
  (0x013, ⟨.u32, .ro, 0, 0, 500000, 1, 8, .none⟩),  -- TRAIN_TIME
  (0x014, ⟨.s16, .ro, 0, (-48), 128, 1, 48, .none⟩),  -- PARTNER_TAP
  (0x015, ⟨.u16, .rw, 1000, 0, 60000, 1, 1, .none⟩),  -- TRAIN_RETRY
  (0x016, ⟨.cmd, .cmd, 0, 1, 1, 1, 8, .none⟩),  -- RETRAIN
  (0x017, ⟨.b, .rw, 1, 0, 1, 1, 8, .none⟩),  -- AUTO_RETRAIN
  (0x019, ⟨.u64, .ro, 0, 0, 281474976710655, 1, 8, .saturating⟩),  -- TRAIN_TIMEOUT_COUNT
  (0x020, ⟨.enum8, .rw, 0, 0, 3, 1, 8, .none⟩),  -- LOOPBACK
  (0x030, ⟨.enum8, .rw, 0, 0, 5, 1, 8, .none⟩),  -- PRBS_GEN
  (0x031, ⟨.enum8, .rw, 0, 0, 4, 1, 8, .none⟩),  -- PRBS_CHK
  (0x032, ⟨.b, .ro, 0, 0, 1, 1, 8, .none⟩),  -- PRBS_LOCK
  (0x033, ⟨.u64, .ro, 0, 0, 281474976710655, 1, 8, .wrapping⟩),  -- PRBS_BITS
  (0x034, ⟨.u64, .ro, 0, 0, 281474976710655, 1, 8, .saturating⟩),  -- PRBS_ERR_BITS
  (0x035, ⟨.u64, .ro, 0, 0, 281474976710655, 1, 8, .saturating⟩),  -- PRBS_ERR_SYMBOLS
  (0x036, ⟨.u8, .cmd, 0, 1, 255, 1, 8, .none⟩),  -- PRBS_INJECT
  (0x037, ⟨.u8, .rw, 0, 0, 40, 1, 8, .none⟩),  -- PRBS_INJECT_RATE
  (0x040, ⟨.b, .ro, 0, 0, 1, 1, 8, .none⟩),  -- RX_SIGNAL
  (0x041, ⟨.b, .ro, 0, 0, 1, 1, 8, .none⟩),  -- PCS_ALIGNED
  (0x042, ⟨.u64, .ro, 0, 0, 281474976710655, 1, 8, .saturating⟩),  -- FEC_CORR_SYMBOLS
  (0x043, ⟨.u64, .ro, 0, 0, 281474976710655, 1, 8, .saturating⟩),  -- FEC_UNCORR_CW
  (0x044, ⟨.u64, .ro, 0, 0, 281474976710655, 1, 8, .saturating⟩),  -- IN_SLIP_COUNT
  (0x045, ⟨.u64, .ro, 0, 0, 281474976710655, 1, 8, .saturating⟩),  -- OUT_SLIP_COUNT
  (0x046, ⟨.u32, .ro, 0, 0, 500000000, 1, 8, .none⟩)]  -- HOST_PRE_FEC_BER

/-- Entries of area 11. -/
def rows11 : List (Nat × Row) := [
  (0x000, ⟨.enum8, .ed, 0, 0, 5, 1, 8, .none⟩),  -- CLIENT_TYPE
  (0x001, ⟨.enum8, .ed, 0, 0, 1, 1, 8, .none⟩),  -- CLIENT_CARRIER
  (0x002, ⟨.u8, .ed, 0, 0, 3, 1, 8, .none⟩),  -- CLIENT_PRIO
  (0x003, ⟨.u16, .ed, 16000, 64, 16000, 1, 1, .none⟩),  -- MAX_FRAME
  (0x010, ⟨.enum8, .ed, 0, 0, 2, 1, 128, .none⟩),  -- SLOT_MAP
  (0x020, ⟨.u64, .ro, 0, 0, 281474976710655, 1, 8, .wrapping⟩),  -- IN_FRAMES
  (0x021, ⟨.u64, .ro, 0, 0, 281474976710655, 1, 8, .saturating⟩),  -- IN_DROP
  (0x022, ⟨.u64, .ro, 0, 0, 281474976710655, 1, 8, .saturating⟩),  -- IN_ERR
  (0x023, ⟨.u64, .ro, 0, 0, 281474976710655, 1, 8, .saturating⟩),  -- IN_FCS_ERR
  (0x024, ⟨.u64, .ro, 0, 0, 281474976710655, 1, 8, .wrapping⟩),  -- OUT_FRAMES
  (0x025, ⟨.u64, .ro, 0, 0, 281474976710655, 1, 8, .saturating⟩),  -- OUT_ERR
  (0x026, ⟨.u64, .ro, 0, 0, 281474976710655, 1, 8, .saturating⟩),  -- OUT_SEQ_GAP
  (0x027, ⟨.u8, .ro, 0, 0, 31, 1, 8, .none⟩),  -- CLIENT_STATUS
  (0x030, ⟨.b, .ro, 0, 0, 1, 1, 2, .none⟩),  -- SHORTFALL
  (0x031, ⟨.u32, .ro, 0, 0, 1600000, 1, 2, .none⟩),  -- CLIENT_DEMAND
  (0x032, ⟨.u64, .ro, 0, 0, 281474976710655, 1, 2, .saturating⟩),  -- DELIN_LOSS
  (0x040, ⟨.u64, .ro, 0, 0, 281474976710655, 1, 128, .saturating⟩),  -- SLOT_IN_DROP
  (0x041, ⟨.u64, .ro, 0, 0, 281474976710655, 1, 128, .saturating⟩),  -- SLOT_OUT_GAP
  (0x042, ⟨.u64, .ro, 0, 0, 281474976710655, 1, 128, .saturating⟩)]  -- SLOT_NO_EMPTY

/-- Entries of area 20. -/
def rows20 : List (Nat × Row) := [
  (0x000, ⟨.enum8, .ro, 0, 0, 3, 1, 1, .none⟩),  -- CAR_STATE
  (0x001, ⟨.enum8, .rw, 0, 0, 3, 1, 1, .none⟩),  -- CAR_TARGET
  (0x010, ⟨.u32, .ed, 288000, 60000, 288000, 125, 1, .none⟩),  -- SYMBOL_RATE
  (0x011, ⟨.enum8, .ed, 5, 0, 5, 1, 1, .none⟩),  -- SUBCARRIERS
  (0x012, ⟨.u16, .ed, 20, 5, 200, 1, 1, .none⟩),  -- ROLLOFF
  (0x013, ⟨.u32, .ro, 336000, 80000, 336000, 1, 1, .none⟩),  -- TX_SAMPLE_RATE
  (0x014, ⟨.u16, .ed, 400, 100, 1600, 25, 1, .none⟩),  -- LINE_PAYLOAD
  (0x015, ⟨.b, .rw, 0, 0, 1, 1, 1, .none⟩),  -- BDI_FORCE
  (0x020, ⟨.s16, .ed, 0, (-600), 600, 1, 32, .none⟩),  -- SC_TILT
  (0x022, ⟨.s32, .ed, 0, (-168000), 168000, 1, 4, .none⟩),  -- NOTCH_CENTRE
  (0x023, ⟨.u32, .ed, 0, 0, 10000, 1, 4, .none⟩),  -- NOTCH_WIDTH
  (0x024, ⟨.u8, .ed, 40, 0, 40, 1, 4, .none⟩),  -- NOTCH_DEPTH
  (0x030, ⟨.uq16, .ed, 16384, 1024, 65535, 1, 1, .none⟩),  -- TX_SCALE
  (0x031, ⟨.enum8, .rw, 0, 0, 2, 1, 1, .none⟩),  -- CONTOUR_SHAPE
  (0x032, ⟨.u32, .rw, 10000, 10, 100000, 1, 1, .none⟩),  -- CONTOUR_RISE
  (0x033, ⟨.u32, .rw, 10000, 10, 100000, 1, 1, .none⟩),  -- CONTOUR_FALL
  (0x034, ⟨.u8, .rw, 40, 20, 60, 1, 1, .none⟩),  -- CONTOUR_FLOOR
  (0x035, ⟨.u16, .rw, 100, 1, 10000, 1, 1, .none⟩),  -- SCALE_SLEW
  (0x036, ⟨.enum8, .ro, 0, 0, 3, 1, 1, .none⟩),  -- CONTOUR_STATE
  (0x037, ⟨.u16, .ro, 0, 0, 65535, 1, 1, .none⟩),  -- CONTOUR_GAIN
  (0x040, ⟨.b, .rw, 0, 0, 1, 1, 1, .none⟩),  -- SQUELCH_SW
  (0x041, ⟨.u8, .ro, 0, 0, 63, 1, 1, .none⟩),  -- SQUELCH_SRC
  (0x042, ⟨.cmd, .cmd, 0, 1, 1, 1, 1, .none⟩),  -- OC_CLEAR
  (0x043, ⟨.u64, .ro, 0, 0, 281474976710655, 1, 1, .saturating⟩),  -- SQUELCH_COUNT
  (0x050, ⟨.b, .ed, 0, 0, 1, 1, 1, .none⟩),  -- NLC_ENABLE
  (0x051, ⟨.u16, .ed, 0, 0, 2048, 1, 1, .none⟩),  -- NLC_SPM_COUNT
  (0x052, ⟨.s16, .ed, 0, (-1023), 1023, 1, 1, .none⟩),  -- NLC_XPM_SKEW
  (0x053, ⟨.uq16, .ed, 32768, 0, 65535, 1, 1, .none⟩),  -- NLC_GAIN
  (0x054, ⟨.u8, .ro, 0, 0, 31, 1, 1, .none⟩),  -- NLC_STATUS
  (0x060, ⟨.u32, .ed, 0, 0, 4294967295, 1, 2048, .none⟩),  -- NLC_COEF
  (0x061, ⟨.u32, .ed, 0, 0, 4294967295, 1, 2048, .none⟩),  -- NLC_INDEX
  (0x070, ⟨.s16, .ed, 0, (-500), 500, 1, 4, .none⟩),  -- LANE_SKEW
  (0x071, ⟨.u16, .ed, 32768, 16384, 49152, 1, 4, .none⟩),  -- LANE_GAIN
  (0x072, ⟨.s16, .ed, 0, (-1000), 1000, 1, 1, .none⟩),  -- IQ_PHASE_X
  (0x073, ⟨.s16, .ed, 0, (-1000), 1000, 1, 1, .none⟩),  -- IQ_PHASE_Y
  (0x074, ⟨.q15, .ed, 0, (-32768), 32767, 1, 132, .none⟩),  -- PREEMPH_TAP
  (0x075, ⟨.uq16, .ed, 0, 0, 64880, 1, 1, .none⟩),  -- MOD_ALPHA
  (0x076, ⟨.u8, .ed, 0, 0, 15, 1, 1, .none⟩),  -- LANE_INVERT
  (0x077, ⟨.u64, .ro, 0, 0, 281474976710655, 1, 4, .saturating⟩),  -- DAC_CLIP_COUNT
  (0x090, ⟨.u64, .ro, 0, 0, 281474976710655, 1, 1, .wrapping⟩)]  -- TX_SFC

/-- Entries of area 21, part 1. -/
def rows21a : List (Nat × Row) := [
  (0x000, ⟨.u32, .ro, 336000, 80000, 336000, 1, 1, .none⟩),  -- RX_SAMPLE_RATE
  (0x001, ⟨.u16, .ro, 0, 0, 255, 1, 1, .none⟩),  -- RX_STATUS
  (0x002, ⟨.u8, .ed, 0, 0, 15, 1, 1, .none⟩),  -- RX_LANE_INVERT
  (0x003, ⟨.s16, .ed, 0, (-500), 500, 1, 4, .none⟩),  -- RX_LANE_SKEW
  (0x004, ⟨.enum8, .ed, 0, 0, 2, 1, 1, .none⟩),  -- FE_IQ_MODE
  (0x005, ⟨.s16, .ed, 0, (-1000), 1000, 1, 1, .none⟩),  -- FE_IQ_PHASE_X
  (0x006, ⟨.s16, .ed, 0, (-1000), 1000, 1, 1, .none⟩),  -- FE_IQ_PHASE_Y
  (0x007, ⟨.u16, .ro, 0, 0, 65535, 1, 4, .none⟩),  -- FE_LANE_GAIN
  (0x008, ⟨.s16, .ro, 0, (-1000), 1000, 1, 2, .none⟩),  -- FE_IQ_PHASE_EST
  (0x009, ⟨.u8, .ed, 16, 10, 24, 1, 1, .none⟩),  -- FE_DC_TC
  (0x00A, ⟨.b, .ed, 1, 0, 1, 1, 1, .none⟩),  -- FE_ILV_ENABLE
  (0x00B, ⟨.u64, .ro, 0, 0, 281474976710655, 1, 4, .saturating⟩),  -- FE_ADC_CLIP_COUNT
  (0x010, ⟨.s32, .ed, 0, (-400000), 400000, 1, 1, .none⟩),  -- CD_VALUE
  (0x011, ⟨.s16, .ed, 0, (-2000), 2000, 1, 1, .none⟩),  -- CD_SLOPE
  (0x012, ⟨.u32, .ed, 1550000, 1520000, 1630000, 1, 1, .none⟩),  -- CD_WAVELENGTH
  (0x013, ⟨.u16, .rw, 256, 1, 4096, 1, 1, .none⟩),  -- CD_FADE_BLOCKS
  (0x014, ⟨.u8, .ro, 0, 0, 225, 1, 1, .none⟩),  -- CD_SHEET_STATE
  (0x015, ⟨.s32, .ro, 0, (-400000), 400000, 1, 1, .none⟩),  -- CD_APPLIED
  (0x016, ⟨.u16, .ro, 0, 0, 65535, 1, 1, .none⟩),  -- CD_FADE_POS
  (0x017, ⟨.u64, .ro, 0, 0, 281474976710655, 1, 1, .saturating⟩),  -- CD_QUEUED_COUNT
  (0x018, ⟨.u64, .ro, 0, 0, 281474976710655, 1, 1, .saturating⟩),  -- CD_REPLACED_COUNT
  (0x01A, ⟨.s32, .rw, (-100000), (-400000), 400000, 1, 1, .none⟩),  -- CD_SEARCH_MIN
  (0x01B, ⟨.s32, .rw, 100000, (-400000), 400000, 1, 1, .none⟩),  -- CD_SEARCH_MAX
  (0x01C, ⟨.u16, .rw, 50, 1, 10000, 1, 1, .none⟩),  -- CD_SEARCH_STEP
  (0x01D, ⟨.cmd, .cmd, 0, 1, 1, 1, 1, .none⟩),  -- CD_SEARCH_START
  (0x01E, ⟨.enum8, .ro, 0, 0, 3, 1, 1, .none⟩),  -- CD_SEARCH_STATE
  (0x01F, ⟨.s32, .ro, 0, (-400000), 400000, 1, 1, .none⟩),  -- CD_EST
  (0x020, ⟨.u16, .ro, 0, 0, 65535, 1, 1, .none⟩),  -- CD_EST_QUALITY
  (0x030, ⟨.u16, .rw, 1000, 10, 20000, 1, 1, .none⟩),  -- TR_BW
  (0x031, ⟨.s32, .ro, 0, (-200000), 200000, 1, 1, .none⟩),  -- TR_OFFSET
  (0x032, ⟨.b, .ro, 0, 0, 1, 1, 1, .none⟩),  -- TR_LOCK
  (0x033, ⟨.u64, .ro, 0, 0, 281474976710655, 1, 1, .saturating⟩),  -- TR_UNLOCK_COUNT
  (0x038, ⟨.s16, .ro, 0, (-128), 128, 1, 32, .none⟩),  -- SC_DESKEW
  (0x040, ⟨.enum8, .ed, 1, 0, 1, 1, 1, .none⟩),  -- EQ_MODE
  (0x041, ⟨.uq16, .rw, 2048, 16, 16384, 1, 1, .none⟩),  -- EQ_MU
  (0x042, ⟨.b, .rw, 0, 0, 1, 1, 1, .none⟩),  -- EQ_FREEZE
  (0x043, ⟨.uq16, .rw, 1024, 16, 16384, 1, 1, .none⟩),  -- EQ_CMA_MU
  (0x044, ⟨.u64, .ro, 0, 0, 281474976710655, 1, 32, .saturating⟩),  -- EQ_SHIFT_COUNT
  (0x045, ⟨.blob, .ro, 0, 512, 512, 1, 32, .none⟩),  -- EQ_TAPS
  (0x046, ⟨.u8, .cmd, 0, 0, 32, 1, 1, .none⟩)]  -- EQ_REINIT

/-- Entries of area 21, part 2. -/
def rows21b : List (Nat × Row) := [
  (0x047, ⟨.u64, .ro, 0, 0, 281474976710655, 1, 32, .saturating⟩),  -- EQ_SINGULAR_COUNT
  (0x050, ⟨.u16, .rw, 2000, 100, 10000, 1, 1, .none⟩),  -- SOP_BW
  (0x051, ⟨.u32, .ro, 0, 0, 100000, 1, 32, .none⟩),  -- SOP_RATE
  (0x052, ⟨.u32, .ro, 0, 0, 100000, 1, 1, .none⟩),  -- SOP_RATE_PEAK
  (0x053, ⟨.cmd, .cmd, 0, 1, 1, 1, 1, .none⟩),  -- SOP_PEAK_CLEAR
  (0x054, ⟨.u32, .rw, 8000, 100, 100000, 1, 1, .none⟩),  -- SOP_ALARM_RATE
  (0x060, ⟨.u8, .rw, 3, 0, 7, 1, 1, .none⟩),  -- CR_PILOT_WINDOW
  (0x061, ⟨.u16, .rw, 100, 1, 2000, 1, 1, .none⟩),  -- CR_FREQ_BW
  (0x062, ⟨.s32, .ro, 0, (-500000), 500000, 1, 1, .none⟩),  -- CR_COMMON_FREQ
  (0x063, ⟨.s32, .ro, 0, (-50000), 50000, 1, 32, .none⟩),  -- CR_SC_FREQ
  (0x064, ⟨.s32, .ro, 0, (-4100000), 4100000, 1, 1, .none⟩),  -- CR_TOTAL_FREQ
  (0x065, ⟨.u64, .ro, 0, 0, 281474976710655, 1, 1, .saturating⟩),  -- CR_LIMIT_COUNT
  (0x071, ⟨.u64, .ro, 0, 0, 281474976710655, 1, 1, .saturating⟩),  -- HDR_CORR_COUNT
  (0x072, ⟨.u64, .ro, 0, 0, 281474976710655, 1, 1, .saturating⟩),  -- HDR_FAIL_COUNT
  (0x073, ⟨.u64, .ro, 0, 0, 281474976710655, 1, 1, .saturating⟩),  -- HDR_PREDICT_COUNT
  (0x074, ⟨.u64, .ro, 0, 0, 281474976710655, 1, 1, .saturating⟩),  -- HDR_MISMATCH_COUNT
  (0x075, ⟨.u16, .ro, 0, 0, 65535, 1, 1, .none⟩),  -- RX_ACTIVE_ED
  (0x080, ⟨.u16, .rw, 64, 16, 256, 1, 1, .none⟩),  -- LLR_STEP
  (0x081, ⟨.enum8, .ed, 0, 0, 1, 1, 1, .none⟩),  -- NOISE_MODE
  (0x082, ⟨.uq16, .rw, 655, 1, 65535, 1, 64, .none⟩),  -- NOISE_VAR
  (0x083, ⟨.uq16, .ro, 0, 0, 65535, 1, 64, .none⟩),  -- NOISE_VAR_EST
  (0x084, ⟨.b, .ed, 1, 0, 1, 1, 1, .none⟩)]  -- DEMAP_PRIOR

/-- Entries of area 21. -/
def rows21 : List (Nat × Row) := rows21a ++ rows21b

/-- Entries of area 22. -/
def rows22 : List (Nat × Row) := [
  (0x001, ⟨.enum8, .ro, 0, 0, 6, 1, 1, .none⟩),  -- ACQ_PHASE
  (0x002, ⟨.enum8, .rw, 0, 0, 2, 1, 1, .none⟩),  -- ACQ_HANDSHAKE
  (0x003, ⟨.u8, .rw, 2, 1, 255, 1, 1, .none⟩),  -- SWITCH_LEAD
  (0x004, ⟨.u16, .rw, 100, 1, 10000, 1, 1, .none⟩),  -- FRAME_WAIT
  (0x005, ⟨.u16, .rw, 100, 0, 10000, 1, 1, .none⟩),  -- LOL_HOLD
  (0x006, ⟨.enum8, .rw, 0, 0, 1, 1, 1, .none⟩),  -- ACQ_CD_POLICY
  (0x010, ⟨.u16, .rw, 120, 60, 300, 1, 1, .none⟩),  -- DET_THRESH
  (0x011, ⟨.u16, .rw, 60, 0, 200, 1, 1, .none⟩),  -- CAPTURE_MARGIN
  (0x012, ⟨.u16, .rw, 16, 0, 64, 1, 1, .none⟩),  -- SYNC_ERR_MAX
  (0x013, ⟨.u8, .rw, 16, 2, 255, 1, 1, .none⟩),  -- CONFIRM_SOUNDINGS
  (0x014, ⟨.u16, .rw, 16, 0, 64, 1, 1, .none⟩),  -- FAW_ERR_MAX
  (0x015, ⟨.u8, .rw, 8, 2, 64, 1, 1, .none⟩),  -- LOF_FRAMES
  (0x020, ⟨.s32, .ro, 0, (-3600000), 3600000, 1, 1, .none⟩),  -- COARSE_FREQ
  (0x021, ⟨.u16, .ro, 0, 0, 1000, 1, 1, .none⟩),  -- DET_METRIC
  (0x022, ⟨.time64, .ro, 0, 0, 18446744073709551615, 1, 1, .none⟩),  -- DET_TIME
  (0x023, ⟨.u16, .ro, 0, 0, 4095, 1, 1, .none⟩),  -- FAR_STATION
  (0x024, ⟨.enum8, .ro, 0, 0, 1, 1, 1, .none⟩),  -- FAR_CARRIER
  (0x025, ⟨.b, .ro, 0, 0, 1, 1, 1, .none⟩),  -- FAR_RX_SYNC
  (0x026, ⟨.u64, .ro, 0, 0, 281474976710655, 1, 1, .none⟩),  -- FAR_SWITCH_SFC
  (0x027, ⟨.u16, .ro, 0, 0, 256, 1, 1, .none⟩),  -- SYNC_ERRORS
  (0x030, ⟨.u64, .ro, 0, 0, 281474976710655, 1, 1, .saturating⟩),  -- FALSE_LOCK_COUNT
  (0x031, ⟨.u64, .ro, 0, 0, 281474976710655, 1, 1, .saturating⟩),  -- CAPTURE_COUNT
  (0x032, ⟨.u64, .ro, 0, 0, 281474976710655, 1, 1, .saturating⟩),  -- LOL_COUNT
  (0x033, ⟨.u64, .ro, 0, 0, 281474976710655, 1, 1, .saturating⟩),  -- LOCK_COUNT
  (0x034, ⟨.u64, .ro, 0, 0, 281474976710655, 1, 1, .saturating⟩),  -- HOLD_RECOVER_COUNT
  (0x035, ⟨.u32, .ro, 0, 0, 4294967295, 1, 1, .none⟩),  -- ACQ_TIME
  (0x036, ⟨.u8, .ro, 0, 0, 63, 1, 1, .none⟩),  -- LOL_CAUSE
  (0x040, ⟨.b, .ro, 0, 0, 1, 1, 1, .none⟩),  -- DARK
  (0x041, ⟨.s16, .ro, (-9000), (-9000), 0, 1, 32, .none⟩),  -- NOISE_FLOOR
  (0x042, ⟨.s16, .ro, (-9000), (-9000), 0, 1, 1, .none⟩),  -- RX_POWER
  (0x043, ⟨.u16, .rw, 10, 1, 1000, 1, 1, .none⟩)]  -- DARK_TIME

/-- Entries of area 23, part 1. -/
def rows23a : List (Nat × Row) := [
  (0x000, ⟨.u8, .rw, 4, 0, 10, 1, 1, .none⟩),  -- SNR_AVG
  (0x001, ⟨.s16, .ro, (-1000), (-1000), 4000, 1, 64, .none⟩),  -- SNR_PILOT
  (0x002, ⟨.s16, .ro, (-1000), (-1000), 4000, 1, 32, .none⟩),  -- SNR_SC
  (0x003, ⟨.s16, .rw, (-1000), (-1000), 4000, 1, 32, .none⟩),  -- SNR_FW
  (0x004, ⟨.s16, .ro, (-1000), (-1000), 4000, 1, 32, .none⟩),  -- FAR_SNR
  (0x010, ⟨.u16, .ro, 0, 0, 65535, 1, 1, .none⟩),  -- TX_TAG
  (0x011, ⟨.u16, .ro, 0, 0, 65535, 1, 1, .none⟩),  -- TX_PREV_TAG
  (0x012, ⟨.u16, .ro, 0, 0, 65535, 1, 1, .none⟩),  -- TX_EDITED_TAG
  (0x013, ⟨.u64, .cmd, 0, 0, 18446744073709551615, 1, 1, .none⟩),  -- TX_SWITCH
  (0x014, ⟨.u64, .ro, 0, 0, 18446744073709551615, 1, 1, .none⟩),  -- TX_PENDING
  (0x015, ⟨.u32, .ro, 0, 0, 1760000, 1, 1, .none⟩),  -- TX_CAPACITY
  (0x016, ⟨.blob, .ro, 0, 96, 96, 1, 1, .none⟩),  -- TX_CURRENT_SET
  (0x017, ⟨.blob, .ro, 0, 96, 96, 1, 1, .none⟩),  -- TX_PREV_SET
  (0x018, ⟨.u8, .ro, 0, 0, 5, 1, 1, .none⟩),  -- TX_SWITCH_REFUSED
  (0x040, ⟨.u16, .ed, 128, 64, 384, 1, 32, .none⟩),  -- TX_LOADING
  (0x041, ⟨.enum8, .ed, 0, 0, 2, 1, 32, .none⟩),  -- TX_GRID
  (0x042, ⟨.u32, .ro, 0, 0, 1760000, 1, 1, .none⟩),  -- EDITED_CAPACITY
  (0x044, ⟨.u16, .ed, 128, 64, 384, 1, 32, .none⟩),  -- FB_LOADING
  (0x045, ⟨.enum8, .ed, 0, 0, 2, 1, 32, .none⟩),  -- FB_GRID
  (0x046, ⟨.u32, .ro, 0, 0, 4294967295, 1, 1, .none⟩),  -- FB_CRC
  (0x050, ⟨.u16, .rw, 128, 64, 384, 1, 32, .none⟩),  -- STAGE_LOADING
  (0x051, ⟨.enum8, .rw, 0, 0, 2, 1, 32, .none⟩),  -- STAGE_GRID
  (0x052, ⟨.u16, .rw, 0, 0, 65535, 1, 1, .none⟩),  -- STAGE_TAG
  (0x053, ⟨.u16, .ro, 0, 0, 65535, 1, 2, .none⟩),  -- RX_SLOT_TAG
  (0x054, ⟨.enum8, .ro, 0, 0, 2, 1, 2, .none⟩),  -- RX_SLOT_STATE
  (0x055, ⟨.blob, .ro, 0, 96, 96, 1, 2, .none⟩),  -- RX_SLOT_SET
  (0x056, ⟨.b, .ro, 1, 0, 1, 1, 1, .none⟩),  -- RX_FB_IN_USE
  (0x057, ⟨.u64, .ro, 0, 0, 281474976710655, 1, 1, .saturating⟩),  -- RX_UNKNOWN_COUNT
  (0x058, ⟨.u16, .ro, 0, 0, 65535, 1, 1, .none⟩),  -- RX_UNKNOWN_TAG
  (0x059, ⟨.u32, .ro, 0, 0, 1760000, 1, 1, .none⟩),  -- RX_CAPACITY
  (0x05A, ⟨.cmd, .cmd, 0, 1, 1, 1, 1, .none⟩),  -- STAGE_COMMIT
  (0x05B, ⟨.u8, .ro, 0, 0, 5, 1, 1, .none⟩),  -- STAGE_RESULT
  (0x060, ⟨.enum8, .rw, 0, 0, 2, 1, 1, .none⟩),  -- LP_MODE
  (0x061, ⟨.u16, .rw, 150, 0, 600, 1, 1, .none⟩),  -- LP_GAP
  (0x062, ⟨.u16, .rw, 100, 0, 1000, 1, 1, .none⟩),  -- LP_MIN_MARGIN
  (0x063, ⟨.u16, .rw, 50, 10, 500, 1, 1, .none⟩),  -- LP_HYST
  (0x064, ⟨.u16, .rw, 10, 1, 3600, 1, 1, .none⟩),  -- LP_PERIOD
  (0x065, ⟨.s16, .ro, 0, (-1000), 1000, 1, 1, .none⟩),  -- LP_MARGIN
  (0x066, ⟨.cmd, .cmd, 0, 1, 1, 1, 1, .none⟩),  -- LX_START
  (0x067, ⟨.u16, .rw, 100, 10, 10000, 1, 1, .none⟩)]  -- LX_ACK_TIMEOUT

/-- Entries of area 23, part 2. -/
def rows23b : List (Nat × Row) := [
  (0x068, ⟨.u16, .rw, 100, 10, 10000, 1, 1, .none⟩),  -- LX_COMMIT_TIMEOUT
  (0x069, ⟨.u16, .rw, 1000, 250, 60000, 1, 1, .none⟩),  -- LX_LEAD
  (0x06A, ⟨.u16, .rw, 1000, 100, 60000, 1, 1, .none⟩),  -- LX_RETRY
  (0x06B, ⟨.enum8, .ro, 0, 0, 3, 1, 1, .none⟩),  -- LX_STATE
  (0x06C, ⟨.enum8, .ro, 0, 0, 7, 1, 1, .none⟩),  -- LX_RESULT
  (0x06D, ⟨.u16, .ro, 0, 0, 65535, 1, 1, .none⟩),  -- LX_NACK_REASON
  (0x070, ⟨.u16, .rw, 128, 64, 384, 1, 32, .none⟩),  -- REQ_LOADING
  (0x071, ⟨.enum8, .rw, 0, 0, 2, 1, 32, .none⟩)]  -- REQ_GRID

/-- Entries of area 23. -/
def rows23 : List (Nat × Row) := rows23a ++ rows23b

/-- Entries of area 24. -/
def rows24 : List (Nat × Row) := [
  (0x000, ⟨.enum8, .ed, 0, 0, 2, 1, 1, .none⟩),  -- FEC_OH
  (0x001, ⟨.uq16, .ro, 52428, 52428, 56987, 1, 1, .none⟩),  -- CODE_RATE
  (0x010, ⟨.u8, .rw, 16, 2, 24, 1, 1, .none⟩),  -- ITER_CAP
  (0x011, ⟨.u8, .ro, 16, 2, 24, 1, 1, .none⟩),  -- ITER_CAP_EFF
  (0x012, ⟨.u8, .rw, 6, 4, 10, 1, 1, .none⟩),  -- DEC_WINDOW
  (0x013, ⟨.b, .rw, 1, 0, 1, 1, 1, .none⟩),  -- EARLY_STOP
  (0x014, ⟨.u16, .rw, 1000, 100, 10000, 1, 1, .none⟩),  -- PM_INTERVAL
  (0x020, ⟨.u16, .ro, 0, 0, 1024, 1, 1, .none⟩),  -- DEC_SLOTS
  (0x021, ⟨.u16, .ro, 0, 0, 1024, 1, 1, .none⟩),  -- DEC_SLOTS_PEAK
  (0x022, ⟨.cmd, .cmd, 0, 1, 1, 1, 1, .none⟩),  -- DEC_PEAK_CLEAR
  (0x023, ⟨.enum8, .ro, 0, 0, 2, 1, 1, .none⟩),  -- DEC_ALIGN
  (0x025, ⟨.u32, .ro, 0, 0, 500000000, 1, 1, .none⟩),  -- PRE_FEC_BER
  (0x026, ⟨.u16, .ro, 0, 0, 6144, 1, 1, .none⟩),  -- MEAN_ITER
  (0x030, ⟨.u64, .ro, 0, 0, 281474976710655, 1, 1, .wrapping⟩),  -- SEG_COUNT
  (0x031, ⟨.u64, .ro, 0, 0, 281474976710655, 1, 1, .wrapping⟩),  -- CODED_BITS
  (0x032, ⟨.u64, .ro, 0, 0, 281474976710655, 1, 1, .saturating⟩),  -- INNER_CORR_BITS
  (0x033, ⟨.u64, .ro, 0, 0, 281474976710655, 1, 1, .saturating⟩),  -- OUTER_CORR_BITS
  (0x034, ⟨.u64, .ro, 0, 0, 281474976710655, 1, 1, .saturating⟩),  -- UNCORR_SEG
  (0x035, ⟨.u64, .ro, 0, 0, 281474976710655, 1, 1, .saturating⟩),  -- FORCED_SEG
  (0x036, ⟨.u64, .ro, 0, 0, 281474976710655, 1, 1, .saturating⟩),  -- ERASED_SEG
  (0x037, ⟨.u64, .ro, 0, 0, 281474976710655, 1, 1, .saturating⟩),  -- PTR_MISMATCH
  (0x038, ⟨.u64, .ro, 0, 0, 281474976710655, 1, 1, .saturating⟩),  -- REALIGN_COUNT
  (0x040, ⟨.u64, .ro, 0, 0, 281474976710655, 1, 1, .wrapping⟩),  -- LB_COUNT
  (0x041, ⟨.u64, .ro, 0, 0, 281474976710655, 1, 1, .saturating⟩),  -- LB_CRC_ERR
  (0x042, ⟨.u64, .ro, 0, 0, 281474976710655, 1, 1, .saturating⟩),  -- LB_SEQ_GAP
  (0x043, ⟨.u64, .ro, 0, 0, 281474976710655, 1, 1, .saturating⟩),  -- LB_ERRORED
  (0x050, ⟨.u64, .ro, 0, 0, 281474976710655, 1, 1, .wrapping⟩),  -- RX_FRAME_COUNT
  (0x051, ⟨.u64, .ro, 0, 0, 281474976710655, 1, 1, .wrapping⟩),  -- RX_SF_COUNT
  (0x052, ⟨.u64, .ro, 0, 0, 281474976710655, 1, 1, .saturating⟩),  -- FRAMES_LOST
  (0x053, ⟨.u64, .ro, 0, 0, 281474976710655, 1, 1, .none⟩),  -- FAR_SFC
  (0x054, ⟨.b, .ro, 0, 0, 1, 1, 1, .none⟩),  -- FAR_BDI
  (0x055, ⟨.u64, .ro, 0, 0, 281474976710655, 1, 1, .saturating⟩),  -- FAR_BDI_COUNT
  (0x060, ⟨.u64, .ro, 0, 0, 281474976710655, 1, 1, .wrapping⟩),  -- TX_SEG_COUNT
  (0x061, ⟨.u64, .ro, 0, 0, 281474976710655, 1, 1, .wrapping⟩),  -- TX_LB_COUNT
  (0x070, ⟨.blob, .ro, 0, 0, 4096, 1, 3, .none⟩)]  -- FEC_CODE_DEF

/-- Entries of area 40. -/
def rows40 : List (Nat × Row) := [
  (0x000, ⟨.enum8, .ro, 1, 0, 2, 1, 1, .none⟩),  -- REFCLK_STATUS
  (0x001, ⟨.u64, .ro, 0, 0, 281474976710655, 1, 1, .saturating⟩),  -- REFCLK_LOSS_COUNT
  (0x002, ⟨.enum8, .ro, 0, 0, 6, 1, 5, .none⟩),  -- PLL_STATE
  (0x003, ⟨.u64, .ro, 0, 0, 281474976710655, 1, 2, .saturating⟩),  -- PLL_UNLOCK_COUNT
  (0x004, ⟨.u8, .ro, 0, 0, 63, 1, 2, .none⟩),  -- VCO_BAND
  (0x005, ⟨.u16, .ro, 0, 0, 65535, 1, 2, .none⟩),  -- VCO_TUNE
  (0x006, ⟨.b, .rw, 1, 0, 1, 1, 2, .none⟩),  -- VCO_TC_ENABLE
  (0x007, ⟨.cmd, .cmd, 0, 1, 1, 1, 2, .none⟩),  -- REBAND
  (0x008, ⟨.b, .rw, 1, 0, 1, 1, 2, .none⟩),  -- REF_TC_ENABLE
  (0x009, ⟨.s16, .rw, 0, (-200), 200, 1, 8, .none⟩),  -- ADC_FS_TRIM
  (0x010, ⟨.s16, .rw, 0, (-300), 300, 1, 8, .none⟩),  -- DAC_SWING_TRIM
  (0x011, ⟨.u64, .ro, 0, 0, 8589934591, 1, 32, .none⟩),  -- SUBADC_FAILED
  (0x012, ⟨.u8, .ro, 32, 0, 32, 1, 32, .none⟩),  -- TILE_SPARE
  (0x013, ⟨.enum8, .ro, 0, 0, 2, 1, 32, .none⟩),  -- TILE_STATE
  (0x014, ⟨.u8, .ro, 0, 0, 15, 1, 2, .none⟩),  -- CAL_TILE
  (0x015, ⟨.u64, .ro, 0, 0, 281474976710655, 1, 2, .saturating⟩),  -- CAL_PASS_COUNT
  (0x016, ⟨.blob, .ro, 0, 198, 198, 1, 32, .none⟩),  -- CAL_VALUES
  (0x017, ⟨.u8, .ro, 0, 0, 132, 1, 2, .none⟩),  -- SUBADC_FAIL_COUNT
  (0x018, ⟨.u64, .ro, 0, 0, 281474976710655, 1, 8, .saturating⟩),  -- ADC_SLIP_BLOCKS
  (0x019, ⟨.u64, .ro, 0, 0, 281474976710655, 1, 8, .saturating⟩),  -- DAC_SLIP_SAMPLES
  (0x020, ⟨.u64, .ro, 0, 0, 281474976710655, 1, 2, .saturating⟩),  -- D2D_RX_CRC_ERR
  (0x021, ⟨.u64, .ro, 0, 0, 281474976710655, 1, 2, .saturating⟩),  -- D2D_TX_CRC_ERR
  (0x022, ⟨.u64, .ro, 0, 0, 281474976710655, 1, 2, .wrapping⟩)]  -- D2D_BLOCKS

/-- Entries of area 50, part 1. -/
def rows50a : List (Nat × Row) := [
  (0x000, ⟨.u8, .rw, 7, 0, 7, 1, 1, .none⟩),  -- TV_ENABLE
  (0x001, ⟨.u16, .rw, 0, 0, 4095, 1, 1, .none⟩),  -- STATION_ID
  (0x002, ⟨.enum8, .ro, 0, 0, 5, 1, 3, .none⟩),  -- PORT_STATE
  (0x003, ⟨.enum8, .rw, 0, 0, 2, 1, 3, .none⟩),  -- PORT_LOOPBACK
  (0x004, ⟨.u16, .ro, 0, 0, 1020, 1, 3, .none⟩),  -- PORT_EYE
  (0x005, ⟨.u8, .ro, 4, 0, 127, 1, 5, .none⟩),  -- PORT_TAPS
  (0x006, ⟨.u32, .ro, 0, 0, 4294967295, 1, 5, .none⟩),  -- NEIGHBOUR
  (0x007, ⟨.u64, .ro, 0, 0, 281474976710655, 1, 5, .saturating⟩),  -- PORT_DOWN_COUNT
  (0x008, ⟨.u64, .ro, 0, 0, 281474976710655, 1, 5, .wrapping⟩),  -- FRAMES_RX
  (0x009, ⟨.u64, .ro, 0, 0, 281474976710655, 1, 5, .wrapping⟩),  -- FRAMES_TX
  (0x00A, ⟨.u64, .ro, 0, 0, 281474976710655, 1, 5, .saturating⟩),  -- CRC_ERR
  (0x00B, ⟨.u64, .ro, 0, 0, 281474976710655, 1, 5, .saturating⟩),  -- HDR_DISCARD
  (0x00C, ⟨.s16, .ro, 0, (-8), 8, 1, 3, .none⟩),  -- LANE_SKEW
  (0x010, ⟨.u8, .rw, 255, 0, 255, 1, 4096, .none⟩),  -- ROUTE
  (0x011, ⟨.u8, .rw, 64, 1, 255, 1, 1, .none⟩),  -- HOPS_INIT
  (0x012, ⟨.u16, .rw, 100, 1, 1000, 1, 1, .none⟩),  -- DEDUP_AGE
  (0x013, ⟨.u8, .rw, 3, 0, 3, 1, 1, .none⟩),  -- IB_ENABLE
  (0x014, ⟨.b, .rw, 1, 0, 1, 1, 1, .none⟩),  -- IB_REPEAT
  (0x016, ⟨.u64, .ro, 0, 0, 281474976710655, 1, 2, .saturating⟩),  -- IB_DISCARD
  (0x017, ⟨.u64, .ro, 0, 0, 281474976710655, 1, 2, .saturating⟩),  -- IB_DROP
  (0x018, ⟨.u64, .ro, 0, 0, 281474976710655, 1, 1, .saturating⟩),  -- HOPS_EXPIRED
  (0x019, ⟨.u64, .ro, 0, 0, 281474976710655, 1, 1, .saturating⟩),  -- DUP_DISCARD
  (0x020, ⟨.time64, .ro, 0, 0, 18446744073709551615, 1, 1, .none⟩),  -- DATUM
  (0x021, ⟨.enum8, .ro, 4, 0, 4, 1, 1, .none⟩),  -- DATUM_QUALITY
  (0x022, ⟨.enum8, .rw, 0, 0, 7, 1, 1, .none⟩),  -- TIME_SOURCE
  (0x023, ⟨.time64, .cmd, 0, 0, 18446744073709551615, 1, 1, .none⟩),  -- DATUM_SET
  (0x024, ⟨.s32, .ro, 0, (-2147483648), 2147483647, 1, 1, .none⟩),  -- DATUM_OFFSET
  (0x025, ⟨.u32, .ro, 0, 0, 4294967295, 1, 5, .none⟩),  -- LINK_DELAY
  (0x026, ⟨.s32, .rw, 0, (-100000000), 100000000, 1, 5, .none⟩),  -- DELAY_ASYM
  (0x027, ⟨.u16, .rw, 1000, 100, 60000, 1, 1, .none⟩),  -- SYNC_INTERVAL
  (0x028, ⟨.u16, .rw, 10, 1, 100, 1, 1, .none⟩),  -- DATUM_BW
  (0x029, ⟨.u32, .rw, 1000, 10, 1000000, 1, 1, .none⟩),  -- STEP_THRESHOLD
  (0x02A, ⟨.s32, .ro, 0, (-200000), 200000, 1, 1, .none⟩),  -- DATUM_RATE
  (0x02B, ⟨.u64, .ro, 0, 0, 281474976710655, 1, 1, .saturating⟩),  -- STEP_COUNT
  (0x02C, ⟨.u8, .rw, 128, 0, 255, 1, 1, .none⟩),  -- TIME_PRIORITY
  (0x030, ⟨.time64, .ro, 0, 0, 18446744073709551615, 1, 1, .none⟩),  -- PPS_IN_TIME
  (0x031, ⟨.time64, .rw, 0, 0, 18446744073709551615, 1, 1, .none⟩),  -- PPS_NEXT
  (0x032, ⟨.u8, .rw, 0, 0, 3, 1, 1, .none⟩),  -- PPS_CTRL
  (0x033, ⟨.u32, .rw, 0, 0, 999999999, 1, 1, .none⟩),  -- PPS_OUT_OFFSET
  (0x034, ⟨.u32, .rw, 100000, 1, 500000, 1, 1, .none⟩)]  -- PPS_OUT_WIDTH

/-- Entries of area 50, part 2. -/
def rows50b : List (Nat × Row) := [
  (0x036, ⟨.u64, .ro, 0, 0, 281474976710655, 1, 1, .saturating⟩),  -- PPS_MISS_COUNT
  (0x040, ⟨.enum8, .ro, 0, 0, 1, 1, 1, .none⟩),  -- AON_SOURCE
  (0x041, ⟨.time64, .ro, 0, 0, 18446744073709551615, 1, 1, .none⟩),  -- DORMANT_ENTRY
  (0x042, ⟨.time64, .ro, 0, 0, 18446744073709551615, 1, 1, .none⟩),  -- DORMANT_EXIT
  (0x043, ⟨.s32, .ro, 0, (-2147483648), 2147483647, 1, 1, .none⟩),  -- WAKE_CORRECTION
  (0x050, ⟨.u16, .rw, 0, 0, 65535, 1, 1, .none⟩),  -- DRAFT_GROUP
  (0x051, ⟨.u16, .cmd, 0, 1, 65535, 1, 1, .none⟩),  -- GROUP_ARM_SEND
  (0x052, ⟨.time64, .rw, 0, 0, 18446744073709551615, 1, 1, .none⟩),  -- GROUP_ARM_TIME
  (0x053, ⟨.u16, .ro, 65535, 0, 65535, 1, 4096, .none⟩),  -- GROUP_RESULT
  (0x054, ⟨.u16, .cmd, 0, 1, 65535, 1, 1, .none⟩),  -- GROUP_DISARM_SEND
  (0x058, ⟨.u16, .cmd, 0, 0, 65535, 1, 1, .none⟩),  -- TRIG_SEND
  (0x059, ⟨.u32, .rw, 1000, 1, 60000000, 1, 1, .none⟩),  -- TRIG_LEAD
  (0x05A, ⟨.u64, .ro, 0, 0, 281474976710655, 1, 1, .saturating⟩),  -- TRIG_LATE_COUNT
  (0x05C, ⟨.u32, .rw, 0, 0, 4294967295, 1, 1, .none⟩)]  -- EVENT_SINK

/-- Entries of area 50. -/
def rows50 : List (Nat × Row) := rows50a ++ rows50b

/-- Entries of area 58. -/
def rows58 : List (Nat × Row) := [
  (0x000, ⟨.enum8, .ro, 0, 0, 2, 1, 1, .none⟩),  -- FW_STATE
  (0x001, ⟨.u32, .ro, 0, 0, 4294967295, 1, 1, .none⟩),  -- RUN_VERSION
  (0x002, ⟨.enum8, .ro, 0, 0, 1, 1, 1, .none⟩),  -- BOOT_SLOT
  (0x003, ⟨.enum8, .ro, 0, 0, 1, 1, 1, .none⟩),  -- RUN_SLOT
  (0x004, ⟨.u32, .ro, 0, 0, 4294967295, 1, 2, .none⟩),  -- SLOT_VERSION
  (0x010, ⟨.enum8, .ro, 0, 0, 4, 1, 68, .none⟩),  -- CORE_STATE
  (0x011, ⟨.u8, .ro, 255, 0, 255, 1, 68, .none⟩),  -- CORE_IMAGE
  (0x012, ⟨.u16, .ro, 0, 0, 4000, 1, 68, .none⟩),  -- CORE_RATE
  (0x013, ⟨.cmd, .cmd, 0, 1, 1, 1, 68, .none⟩),  -- CORE_RESTART
  (0x014, ⟨.u16, .rw, 10, 0, 1000, 1, 1, .none⟩),  -- SV_WDOG
  (0x015, ⟨.u16, .rw, 100, 10, 10000, 1, 1, .none⟩),  -- PL_WDOG
  (0x016, ⟨.u64, .ro, 0, 0, 281474976710655, 1, 68, .saturating⟩),  -- WDOG_COUNT
  (0x017, ⟨.u64, .ro, 0, 0, 281474976710655, 1, 68, .saturating⟩),  -- FAULT_COUNT
  (0x018, ⟨.u32, .ro, 0, 0, 4294967295, 1, 68, .none⟩),  -- LAST_FAULT
  (0x020, ⟨.u8, .cmd, 0, 0, 1, 1, 1, .none⟩),  -- LOAD_BEGIN
  (0x021, ⟨.blob, .rw, 0, 4096, 4096, 1, 9, .none⟩),  -- LOAD_MANIFEST
  (0x022, ⟨.blob, .rw, 0, 4096, 4096, 1, 1024, .none⟩),  -- LOAD_SEGMENT
  (0x023, ⟨.enum8, .ro, 0, 0, 4, 1, 1, .none⟩),  -- LOAD_STATE
  (0x024, ⟨.enum8, .ro, 0, 0, 8, 1, 1, .none⟩),  -- LOAD_RESULT
  (0x025, ⟨.u16, .ro, 0, 0, 1024, 1, 1, .none⟩),  -- LOAD_SEG_DONE
  (0x026, ⟨.cmd, .cmd, 0, 1, 1, 1, 1, .none⟩),  -- LOAD_ACTIVATE
  (0x027, ⟨.cmd, .cmd, 0, 1, 1, 1, 1, .none⟩),  -- LOAD_ABORT
  (0x028, ⟨.cmd, .cmd, 0, 1, 1, 1, 1, .none⟩),  -- FW_RESTART
  (0x029, ⟨.enum8, .ro, 0, 0, 8, 1, 1, .none⟩),  -- RESTART_RESULT
  (0x02A, ⟨.u64, .ro, 0, 0, 281474976710655, 1, 1, .saturating⟩),  -- SEG_REJECT_COUNT
  (0x02B, ⟨.u16, .ro, 0, 0, 16383, 1, 1, .none⟩),  -- LOAD_OWNER
  (0x030, ⟨.u64, .ro, 0, 0, 281474976710655, 1, 1, .saturating⟩),  -- APP_RX_DROP
  (0x031, ⟨.u8, .ro, 0, 0, 32, 1, 1, .none⟩)]  -- APP_RX_DEPTH

/-- Entries of area 60. -/
def rows60 : List (Nat × Row) := [
  (0x000, ⟨.b, .rw, 1, 0, 1, 1, 2, .none⟩),  -- HK_ENABLE
  (0x001, ⟨.enum8, .rw, 0, 0, 1, 1, 1, .none⟩),  -- HK_REF
  (0x002, ⟨.cmd, .cmd, 0, 1, 1, 1, 2, .none⟩),  -- HK_SELF_CAL
  (0x003, ⟨.enum8, .ro, 0, 0, 2, 1, 2, .none⟩),  -- HK_CAL_STATE
  (0x010, ⟨.enum8, .rw, 0, 0, 5, 1, 2, .none⟩),  -- REG_TRIGGER
  (0x011, ⟨.u8, .rw, 1, 1, 64, 1, 2, .none⟩),  -- REG_LENGTH
  (0x012, ⟨.u8, .rw, 0, 0, 74, 1, 128, .none⟩),  -- REG_INPUT
  (0x013, ⟨.u32, .ro, 0, 0, 4294967295, 1, 128, .none⟩),  -- REG_RESULT
  (0x014, ⟨.u32, .rw, 1000, 1, 1000000, 1, 2, .none⟩),  -- REG_PERIOD
  (0x015, ⟨.u32, .rw, 0, 0, 999999, 1, 2, .none⟩),  -- REG_PHASE
  (0x016, ⟨.cmd, .cmd, 0, 1, 1, 1, 2, .none⟩),  -- REG_START
  (0x017, ⟨.blob, .ro, 0, 256, 256, 1, 2, .none⟩),  -- REG_PASS
  (0x018, ⟨.u16, .ro, 0, 0, 65535, 1, 2, .silent⟩),  -- PASS_COUNT
  (0x019, ⟨.u16, .ro, 0, 0, 65535, 1, 2, .silent⟩),  -- CONV_COUNT
  (0x01A, ⟨.u64, .ro, 0, 0, 281474976710655, 1, 2, .saturating⟩),  -- REG_OVERRUN
  (0x01B, ⟨.u16, .rw, 0, 0, 65535, 1, 128, .none⟩),  -- LIMIT_LO
  (0x01C, ⟨.u16, .rw, 65535, 0, 65535, 1, 128, .none⟩),  -- LIMIT_HI
  (0x020, ⟨.u8, .rw, 0, 0, 74, 1, 16, .none⟩),  -- INJ_INPUT
  (0x021, ⟨.u8, .rw, 1, 1, 8, 1, 2, .none⟩),  -- INJ_LENGTH
  (0x022, ⟨.enum8, .rw, 0, 0, 4, 1, 2, .none⟩),  -- INJ_TRIGGER
  (0x023, ⟨.u8, .rw, 0, 0, 15, 1, 2, .none⟩),  -- INJ_GPIO
  (0x024, ⟨.u32, .rw, 1000, 1, 1000000, 1, 2, .none⟩),  -- INJ_PERIOD
  (0x025, ⟨.cmd, .cmd, 0, 1, 1, 1, 2, .none⟩),  -- INJ_START
  (0x026, ⟨.u32, .ro, 0, 0, 4294967295, 1, 16, .none⟩),  -- INJ_RESULT
  (0x027, ⟨.u8, .ro, 0, 0, 8, 1, 2, .none⟩),  -- INJ_QUEUE
  (0x028, ⟨.b, .rw, 0, 0, 1, 1, 2, .none⟩),  -- INJ_OVERFLOW
  (0x029, ⟨.u64, .ro, 0, 0, 281474976710655, 1, 2, .saturating⟩),  -- INJ_DROP
  (0x02A, ⟨.u16, .ro, 0, 0, 65535, 1, 2, .silent⟩),  -- INJ_COUNT
  (0x030, ⟨.u16, .cmd, 0, 0, 65535, 1, 1, .none⟩),  -- BENCH_CMD
  (0x031, ⟨.enum8, .ro, 0, 0, 5, 1, 2, .none⟩),  -- CAL_RESULT
  (0x040, ⟨.enum8, .rw, 0, 0, 4, 1, 32, .none⟩),  -- OW_MODE
  (0x041, ⟨.u16, .rw, 4080, 2048, 4095, 1, 1, .none⟩),  -- OW_HIGH
  (0x042, ⟨.u16, .rw, 16, 0, 2047, 1, 1, .none⟩),  -- OW_LOW
  (0x043, ⟨.u32, .ro, 0, 0, 4294967295, 1, 1, .none⟩),  -- OW_STATUS
  (0x050, ⟨.s16, .rw, 0, (-32768), 32767, 1, 150, .none⟩),  -- CAL_OFFSET
  (0x051, ⟨.u16, .rw, 32768, 16384, 65535, 1, 150, .none⟩),  -- CAL_GAIN
  (0x0F0, ⟨.u8, .ro, 0, 0, 7, 1, 8, .none⟩),  -- STRAP_LEVEL
  (0x0F8, ⟨.u8, .ro, 0, 0, 255, 1, 1, .none⟩)]  -- STRAP_MARGINAL

/-- Entries of area 61. -/
def rows61 : List (Nat × Row) := [
  (0x000, ⟨.b, .rw, 0, 0, 1, 1, 16, .none⟩),  -- AOUT_ENABLE
  (0x001, ⟨.enum8, .rw, 0, 0, 2, 1, 16, .none⟩),  -- AOUT_RANGE
  (0x002, ⟨.u16, .rw, 0, 0, 65535, 1, 16, .none⟩),  -- AOUT_CODE
  (0x003, ⟨.u16, .rw, 0, 0, 65535, 1, 16, .none⟩),  -- AOUT_START_CODE
  (0x004, ⟨.enum8, .ro, 0, 0, 4, 1, 16, .none⟩),  -- AOUT_STATE
  (0x010, ⟨.enum8, .rw, 0, 0, 3, 1, 16, .none⟩),  -- WAVE
  (0x011, ⟨.u16, .rw, 0, 0, 32767, 1, 16, .none⟩),  -- WAVE_AMPL
  (0x012, ⟨.u32, .rw, 1000, 4, 1000000, 1, 16, .none⟩),  -- WAVE_PERIOD
  (0x013, ⟨.u16, .cmd, 0, 0, 65535, 1, 1, .none⟩),  -- WAVE_SYNC
  (0x014, ⟨.u16, .ro, 0, 0, 65535, 1, 16, .silent⟩),  -- WAVE_CLIP
  (0x020, ⟨.b, .rw, 0, 0, 1, 1, 16, .none⟩),  -- AOUT_KEEP
  (0x030, ⟨.u16, .rw, 655, 16, 16384, 1, 1, .none⟩),  -- RB_TOL
  (0x031, ⟨.enum8, .rw, 0, 0, 1, 1, 16, .none⟩),  -- RB_ACTION
  (0x032, ⟨.u8, .ro, 0, 0, 14, 1, 16, .none⟩),  -- RB_STATUS
  (0x033, ⟨.u64, .ro, 0, 0, 281474976710655, 1, 16, .saturating⟩),  -- RB_FAULT_COUNT
  (0x034, ⟨.cmd, .cmd, 0, 1, 1, 1, 16, .none⟩)]  -- RB_CLEAR

/-- Entries of area 62. -/
def rows62 : List (Nat × Row) := [
  (0x000, ⟨.b, .rw, 0, 0, 1, 1, 32, .none⟩),  -- MF_ENABLE
  (0x001, ⟨.u8, .rw, 0, 0, 63, 1, 32, .none⟩),  -- MF_SLOT
  (0x002, ⟨.u8, .rw, 1, 1, 64, 1, 32, .none⟩),  -- CIC_DECIM
  (0x003, ⟨.u8, .rw, 3, 1, 5, 1, 32, .none⟩),  -- CIC_ORDER
  (0x004, ⟨.u8, .rw, 1, 1, 16, 1, 32, .none⟩),  -- FIR_DECIM
  (0x005, ⟨.u8, .rw, 1, 1, 64, 1, 32, .none⟩),  -- FIR_TAPS
  (0x006, ⟨.u32, .rw, 0, 0, 4294967295, 1, 32, .none⟩),  -- RESAMPLE_INC
  (0x007, ⟨.enum8, .rw, 0, 0, 16, 1, 32, .none⟩),  -- SYNC_SRC
  (0x008, ⟨.u8, .rw, 0, 0, 255, 1, 32, .none⟩),  -- SYNC_DELAY
  (0x009, ⟨.enum8, .rw, 0, 0, 1, 1, 32, .none⟩),  -- SETTLE_MODE
  (0x00A, ⟨.u8, .rw, 4, 0, 8, 1, 32, .none⟩),  -- BOXCAR_LOG
  (0x00B, ⟨.u16, .rw, 256, 16, 4096, 1, 32, .none⟩),  -- FADE_LEN
  (0x00C, ⟨.u32, .cmd, 0, 0, 4294967295, 1, 1, .none⟩),  -- MF_SYNC
  (0x00D, ⟨.enum8, .ro, 0, 0, 4, 1, 32, .none⟩),  -- MF_STATE
  (0x00E, ⟨.u32, .ro, 1, 1, 100000, 1, 32, .none⟩),  -- SETTLE_LEN
  (0x00F, ⟨.u32, .ro, 0, 0, 1000000000, 1, 32, .none⟩),  -- OUT_RATE
  (0x010, ⟨.u8, .ro, 0, 0, 225, 1, 32, .none⟩),  -- SHEET_STATE
  (0x011, ⟨.cmd, .cmd, 0, 1, 1, 1, 32, .none⟩),  -- SHEET_SWAP
  (0x012, ⟨.u16, .ro, 0, 0, 65535, 1, 32, .none⟩),  -- FADE_POS
  (0x013, ⟨.u64, .ro, 0, 0, 281474976710655, 1, 32, .saturating⟩),  -- SWAP_QUEUED_COUNT
  (0x014, ⟨.u64, .ro, 0, 0, 281474976710655, 1, 32, .saturating⟩),  -- SWAP_REPLACED_COUNT
  (0x020, ⟨.q15, .rw, 0, (-32768), 32767, 1, 2048, .none⟩),  -- STAGE_TAP
  (0x021, ⟨.q15, .ro, 0, (-32768), 32767, 1, 2048, .none⟩),  -- SHEET0_TAP
  (0x022, ⟨.q15, .ro, 0, (-32768), 32767, 1, 2048, .none⟩),  -- SHEET1_TAP
  (0x030, ⟨.u64, .ro, 0, 0, 18446744073709551615, 1, 32, .none⟩),  -- OUT_LATEST
  (0x031, ⟨.time64, .ro, 0, 0, 18446744073709551615, 1, 32, .none⟩),  -- OUT_TIME
  (0x032, ⟨.blob, .ro, 0, 0, 512, 1, 32, .none⟩),  -- OUT_QUEUE
  (0x033, ⟨.u16, .ro, 0, 0, 65535, 1, 32, .silent⟩),  -- OUT_COUNT
  (0x034, ⟨.u64, .ro, 0, 0, 281474976710655, 1, 32, .saturating⟩),  -- OUT_OVERFLOW
  (0x035, ⟨.u64, .ro, 0, 0, 281474976710655, 1, 32, .saturating⟩),  -- GAP_COUNT
  (0x036, ⟨.u64, .ro, 0, 0, 281474976710655, 1, 32, .saturating⟩)]  -- CLIP_COUNT

/-- Entries of area 68. -/
def rows68 : List (Nat × Row) := [
  (0x000, ⟨.b, .rw, 1, 0, 1, 1, 1, .none⟩),  -- FB_ENABLE
  (0x001, ⟨.u32, .ro, 0, 0, 4000, 1, 1, .none⟩),  -- FB_WRITE_RATE
  (0x002, ⟨.u16, .ro, 0, 0, 32768, 1, 1, .none⟩),  -- FB_RINGS_ACTIVE
  (0x003, ⟨.u64, .ro, 0, 0, 281474976710655, 1, 1, .saturating⟩),  -- FB_BAD_RECORDS
  (0x004, ⟨.u16, .rw, 100, 20, 10000, 1, 1, .none⟩),  -- TRIG_OUT_WIDTH
  (0x010, ⟨.u64, .cmd, 0, 0, 18446744073709551615, 1, 1, .none⟩),  -- RING_CMD
  (0x011, ⟨.u16, .ro, 0, 0, 32768, 1, 1, .none⟩),  -- RING_CMD_ACTED
  (0x020, ⟨.u16, .rw, 0, 0, 32767, 1, 1, .none⟩),  -- RD_RING
  (0x021, ⟨.u32, .rw, 0, 0, 524287, 1, 1, .none⟩),  -- RD_RECORD
  (0x022, ⟨.blob, .ro, 0, 0, 4096, 1, 1, .none⟩),  -- RD_DATA
  (0x100, ⟨.blob, .ed, 0, 32, 32, 1, 4096, .none⟩),  -- RING_DESC
  (0x101, ⟨.blob, .ed, 0, 32, 32, 1, 4096, .none⟩),  -- RING_DESC
  (0x102, ⟨.blob, .ed, 0, 32, 32, 1, 4096, .none⟩),  -- RING_DESC
  (0x103, ⟨.blob, .ed, 0, 32, 32, 1, 4096, .none⟩),  -- RING_DESC
  (0x104, ⟨.blob, .ed, 0, 32, 32, 1, 4096, .none⟩),  -- RING_DESC
  (0x105, ⟨.blob, .ed, 0, 32, 32, 1, 4096, .none⟩),  -- RING_DESC
  (0x106, ⟨.blob, .ed, 0, 32, 32, 1, 4096, .none⟩),  -- RING_DESC
  (0x107, ⟨.blob, .ed, 0, 32, 32, 1, 4096, .none⟩),  -- RING_DESC
  (0x200, ⟨.blob, .ro, 0, 64, 64, 1, 4096, .none⟩),  -- RING_HEADER
  (0x201, ⟨.blob, .ro, 0, 64, 64, 1, 4096, .none⟩),  -- RING_HEADER
  (0x202, ⟨.blob, .ro, 0, 64, 64, 1, 4096, .none⟩),  -- RING_HEADER
  (0x203, ⟨.blob, .ro, 0, 64, 64, 1, 4096, .none⟩),  -- RING_HEADER
  (0x204, ⟨.blob, .ro, 0, 64, 64, 1, 4096, .none⟩),  -- RING_HEADER
  (0x205, ⟨.blob, .ro, 0, 64, 64, 1, 4096, .none⟩),  -- RING_HEADER
  (0x206, ⟨.blob, .ro, 0, 64, 64, 1, 4096, .none⟩),  -- RING_HEADER
  (0x207, ⟨.blob, .ro, 0, 64, 64, 1, 4096, .none⟩)]  -- RING_HEADER

/-- Entries of area 70. -/
def rows70 : List (Nat × Row) := [
  (0x000, ⟨.s16, .ro, 0, (-5500), 15000, 1, 24, .none⟩),  -- SENSOR_TEMP
  (0x001, ⟨.enum8, .ro, 0, 0, 2, 1, 24, .none⟩),  -- SENSOR_STATE
  (0x002, ⟨.s16, .ro, 0, (-5500), 15000, 1, 1, .none⟩),  -- HOTTEST
  (0x003, ⟨.u8, .ro, 0, 0, 23, 1, 1, .none⟩),  -- HOTTEST_SENSOR
  (0x004, ⟨.enum8, .ro, 0, 0, 1, 1, 1, .none⟩),  -- SAMPLE_PERIOD
  (0x005, ⟨.u8, .ro, 0, 0, 16, 1, 3, .none⟩),  -- FAILED_COUNT
  (0x010, ⟨.s16, .rw, 10300, 8000, 10300, 1, 1, .none⟩),  -- WARN_THRESH
  (0x011, ⟨.s16, .rw, 10800, 9000, 10800, 1, 1, .none⟩),  -- THROTTLE_THRESH
  (0x012, ⟨.s16, .ro, 11800, 11800, 11800, 1, 1, .none⟩),  -- SHUTDOWN_THRESH
  (0x014, ⟨.u8, .rw, 3, 1, 8, 1, 2, .none⟩),  -- HYSTERESIS
  (0x016, ⟨.u16, .rw, 500, 10, 10000, 1, 1, .none⟩),  -- L2_DWELL
  (0x017, ⟨.u16, .rw, 300, 0, 800, 1, 1, .none⟩),  -- L2_OFFSET
  (0x018, ⟨.u16, .rw, 1000, 100, 60000, 1, 1, .none⟩),  -- STEP_HOLD
  (0x019, ⟨.u16, .rw, 2000, 500, 5000, 1, 1, .none⟩),  -- FAIL_DELTA
  (0x020, ⟨.u8, .ro, 0, 0, 3, 1, 1, .none⟩),  -- THROTTLE_LEVEL
  (0x021, ⟨.u8, .ro, 0, 0, 63, 1, 1, .none⟩),  -- THROTTLE_CAUSE
  (0x022, ⟨.u8, .rw, 0, 0, 3, 1, 1, .none⟩),  -- FW_LEVEL
  (0x023, ⟨.u8, .ro, 0, 0, 2, 1, 1, .none⟩),  -- THERMAL_LEVEL
  (0x024, ⟨.b, .ro, 0, 0, 1, 1, 1, .none⟩),  -- WARNING
  (0x025, ⟨.u64, .ro, 0, 0, 281474976710655, 1, 1, .saturating⟩),  -- LEVEL_CHANGE_COUNT
  (0x026, ⟨.u16, .ro, 0, 0, 10000, 1, 1, .none⟩),  -- BLOCK_REMAIN
  (0x030, ⟨.s16, .rw, 2500, 1000, 4000, 1, 1, .none⟩),  -- XTAL_TURNOVER
  (0x031, ⟨.u16, .rw, 340, 0, 1000, 1, 1, .none⟩),  -- XTAL_CURVE
  (0x032, ⟨.s32, .rw, 0, (-100000), 100000, 1, 1, .none⟩),  -- XTAL_OFFSET
  (0x033, ⟨.s32, .ro, 0, (-2147483648), 2147483647, 1, 1, .none⟩),  -- AON_CORRECTION
  (0x034, ⟨.b, .rw, 1, 0, 1, 1, 1, .none⟩),  -- XTAL_TC_ENABLE
  (0x040, ⟨.u16, .rw, 5, 1, 600, 1, 1, .none⟩),  -- L3_DWELL
  (0x041, ⟨.u32, .rw, 200000, 25000, 1600000, 1, 1, .none⟩),  -- L3_STEP
  (0x042, ⟨.u16, .rw, 10, 1, 600, 1, 1, .none⟩),  -- L3_RESPONSE
  (0x043, ⟨.u16, .rw, 60, 1, 3600, 1, 1, .none⟩),  -- L3_RELEASE
  (0x044, ⟨.u32, .ro, 4294967295, 0, 4294967295, 1, 2, .none⟩),  -- FAR_CAP_LIMIT
  (0x050, ⟨.blob, .ro, 0, 16, 16, 1, 1, .none⟩),  -- SHUTDOWN_RECORD
  (0x051, ⟨.cmd, .cmd, 0, 1, 1, 1, 1, .none⟩)]  -- SHUTDOWN_CLEAR

/-- Entries of area 71. -/
def rows71 : List (Nat × Row) := [
  (0x000, ⟨.u16, .ro, 7500, 5500, 7500, 1, 1, .none⟩),  -- VCORE_REQ
  (0x001, ⟨.u16, .rw, 5500, 5500, 7500, 1, 1, .none⟩),  -- VCORE_MIN
  (0x002, ⟨.u16, .rw, 7500, 5500, 7500, 1, 1, .none⟩),  -- VCORE_MAX
  (0x003, ⟨.u16, .rw, 800, 300, 2000, 1, 1, .none⟩),  -- MARGIN_TARGET
  (0x004, ⟨.u16, .rw, 200, 50, 500, 1, 1, .none⟩),  -- MARGIN_BAND
  (0x005, ⟨.u16, .rw, 300, 0, 1000, 1, 1, .none⟩),  -- MARGIN_ALARM
  (0x006, ⟨.s16, .ro, 0, (-10000), 10000, 1, 16, .none⟩),  -- PACE_MARGIN
  (0x007, ⟨.s16, .ro, 0, (-10000), 10000, 1, 1, .none⟩),  -- MARGIN_MIN
  (0x008, ⟨.enum8, .ro, 0, 0, 1, 1, 1, .none⟩),  -- MARGIN_STATE
  (0x009, ⟨.u32, .rw, 1000, 100, 100000, 1, 1, .none⟩),  -- DROP_WAIT
  (0x00A, ⟨.b, .rw, 1, 0, 1, 1, 1, .none⟩),  -- AVS_ENABLE
  (0x00B, ⟨.u8, .rw, 0, 0, 15, 1, 1, .none⟩),  -- AVS_RAIL
  (0x00C, ⟨.enum8, .ro, 0, 0, 4, 1, 1, .none⟩),  -- AVS_STATE
  (0x00D, ⟨.u16, .ro, 0, 0, 10000, 1, 1, .none⟩),  -- VCORE_READ
  (0x00E, ⟨.u64, .ro, 0, 0, 281474976710655, 1, 1, .saturating⟩),  -- MARGIN_ALARM_COUNT
  (0x00F, ⟨.u64, .ro, 0, 0, 281474976710655, 1, 1, .saturating⟩),  -- CARRIER_DROP_COUNT
  (0x010, ⟨.u16, .rw, 50, 10, 60, 1, 2, .none⟩),  -- OC_LIMIT
  (0x018, ⟨.u32, .rw, 30, 0, 3600, 1, 1, .none⟩),  -- IDLE_TIMEOUT
  (0x019, ⟨.u32, .ro, 30, 0, 3600, 1, 1, .none⟩),  -- IDLE_REMAIN
  (0x01A, ⟨.cmd, .cmd, 0, 1, 1, 1, 1, .none⟩),  -- SLEEP_NOW
  (0x01B, ⟨.u8, .rw, 31, 0, 255, 1, 1, .none⟩),  -- WAKE_ENABLE
  (0x01C, ⟨.u32, .rw, 3600, 1, 86400, 1, 1, .none⟩),  -- WAKE_TIMER
  (0x01D, ⟨.u8, .rw, 8, 0, 31, 1, 1, .none⟩),  -- LIGHT_AIN
  (0x01E, ⟨.u8, .rw, 40, 1, 250, 1, 1, .none⟩),  -- LIGHT_THRESH
  (0x01F, ⟨.u16, .rw, 0, 0, 65535, 1, 1, .none⟩),  -- WAKE_GPIO
  (0x020, ⟨.enum8, .ro, 0, 0, 8, 1, 1, .none⟩),  -- LAST_WAKE_SOURCE
  (0x021, ⟨.time64, .ro, 0, 0, 18446744073709551615, 1, 1, .none⟩),  -- LAST_WAKE_TIME
  (0x022, ⟨.u8, .ro, 0, 0, 3, 1, 1, .none⟩),  -- LAST_WAKE_FLAGS
  (0x023, ⟨.u64, .ro, 0, 0, 281474976710655, 1, 1, .saturating⟩),  -- DORMANT_COUNT
  (0x024, ⟨.b, .ro, 0, 0, 1, 1, 1, .none⟩),  -- PADS_HELD
  (0x025, ⟨.cmd, .cmd, 0, 1, 1, 1, 1, .none⟩),  -- PAD_RELEASE
  (0x026, ⟨.b, .ro, 0, 0, 1, 1, 1, .none⟩),  -- LPMODE_LEVEL
  (0x027, ⟨.enum8, .ro, 0, 0, 1, 1, 1, .none⟩)]  -- AON_MODE

/-- Entries of area 78. -/
def rows78 : List (Nat × Row) := [
  (0x000, ⟨.u64, .ro, 0, 0, 281474976710655, 1, 8, .saturating⟩),  -- CLASS_MISMATCH
  (0x001, ⟨.u64, .ro, 0, 0, 18446744073709551615, 1, 1, .none⟩),  -- LAST_MISMATCH
  (0x002, ⟨.time64, .ro, 0, 0, 18446744073709551615, 1, 1, .none⟩),  -- LAST_MISMATCH_TIME
  (0x010, ⟨.u64, .ro, 0, 0, 281474976710655, 1, 68, .saturating⟩),  -- REFETCH_COUNT
  (0x011, ⟨.u64, .ro, 0, 0, 281474976710655, 1, 68, .saturating⟩),  -- CORE_INT_RESET_COUNT
  (0x012, ⟨.u8, .ro, 0, 0, 68, 1, 1, .none⟩),  -- REFETCH_QUEUE
  (0x020, ⟨.blob, .ro, 0, 32, 32, 1, 16, .none⟩),  -- FAULT_LOG
  (0x021, ⟨.u16, .rw, 16, 2, 65535, 1, 1, .none⟩),  -- REPEAT_THRESH
  (0x022, ⟨.cmd, .cmd, 0, 1, 1, 1, 1, .none⟩),  -- FAULT_LOG_CLEAR
  (0x030, ⟨.u16, .rw, 1000, 100, 60000, 1, 1, .none⟩),  -- SCRUB_PERIOD
  (0x031, ⟨.u64, .ro, 0, 0, 281474976710655, 1, 1, .wrapping⟩),  -- SCRUB_PASSES
  (0x032, ⟨.u64, .ro, 0, 0, 281474976710655, 1, 1, .saturating⟩),  -- SCRUB_FOUND
  (0x040, ⟨.u8, .ro, 0, 0, 3, 1, 1, .none⟩)]  -- INT_RESET_RECENT

/-- Entries of area 79. -/
def rows79 : List (Nat × Row) := [
  (0x000, ⟨.u16, .ro, 0, 0, 255, 1, 1, .none⟩),  -- BIST_RESULT
  (0x001, ⟨.u8, .ro, 255, 0, 7, 1, 1, .none⟩),  -- BIST_FIRST
  (0x002, ⟨.u32, .ro, 0, 0, 4294967295, 1, 1, .none⟩),  -- BIST_DETAIL
  (0x003, ⟨.u32, .ro, 0, 0, 10000, 1, 1, .none⟩),  -- BIST_TIME
  (0x010, ⟨.u16, .rw, 1000, 100, 60000, 1, 1, .none⟩),  -- SLICE_PERIOD
  (0x011, ⟨.u8, .ro, 0, 0, 31, 1, 1, .none⟩),  -- SLICE_STATUS
  (0x012, ⟨.u64, .ro, 0, 0, 281474976710655, 1, 5, .saturating⟩),  -- SLICE_FAIL_COUNT
  (0x013, ⟨.cmd, .cmd, 0, 1, 1, 1, 1, .none⟩),  -- SLICE_RUN
  (0x014, ⟨.u64, .ro, 0, 0, 281474976710655, 1, 1, .wrapping⟩),  -- SLICE_ROUNDS
  (0x020, ⟨.u16, .cmd, 0, 0, 65535, 1, 1, .none⟩),  -- TEST_REQUEST
  (0x021, ⟨.enum8, .ro, 0, 0, 4, 1, 1, .none⟩),  -- TEST_STATE
  (0x022, ⟨.enum8, .ro, 0, 0, 6, 1, 1, .none⟩),  -- TEST_REFUSAL
  (0x023, ⟨.u32, .ro, 0, 0, 4294967295, 1, 1, .none⟩)]  -- TEST_DETAIL

/-- Entries of area 7A. -/
def rows7A : List (Nat × Row) := [
  (0x000, ⟨.enum8, .ro, 0, 0, 3, 1, 4, .none⟩),  -- ROOT_STATE
  (0x001, ⟨.blob, .ro, 0, 64, 64, 1, 4, .none⟩),  -- ROOT_DIGEST
  (0x002, ⟨.blob, .ro, 0, 0, 1793, 1, 4, .none⟩),  -- ROOT_PUBKEY
  (0x003, ⟨.u8, .ro, 0, 0, 15, 1, 1, .none⟩),  -- ROOT_KEY_MISSING
  (0x004, ⟨.enum8, .ro, 0, 0, 5, 1, 1, .none⟩),  -- VERIFY_DETAIL
  (0x005, ⟨.u16, .ro, 0, 0, 1023, 1, 1, .none⟩),  -- VERIFY_SEGMENT
  (0x008, ⟨.blob, .rw, 0, 0, 1793, 1, 1, .none⟩),  -- KEY_STAGE
  (0x009, ⟨.blob, .rw, 0, 0, 1332, 1, 1, .none⟩),  -- KEY_AUTH
  (0x00A, ⟨.u16, .cmd, 0, 0, 65535, 1, 1, .none⟩),  -- KEY_CMD
  (0x00B, ⟨.enum8, .ro, 0, 0, 14, 1, 1, .none⟩),  -- KEY_RESULT
  (0x010, ⟨.enum8, .ro, 0, 0, 2, 1, 8, .none⟩),  -- CTRL_STATE
  (0x011, ⟨.blob, .ro, 0, 0, 3157, 1, 8, .none⟩),  -- CTRL_CERT
  (0x012, ⟨.blob, .rw, 0, 0, 3157, 1, 1, .none⟩),  -- CTRL_STAGE
  (0x018, ⟨.u8, .ro, 0, 0, 63, 1, 1, .none⟩),  -- SECVER_MIN
  (0x019, ⟨.u8, .ro, 0, 0, 31, 1, 1, .none⟩),  -- CTRL_VER_MIN
  (0x01A, ⟨.b, .ro, 0, 0, 1, 1, 1, .none⟩),  -- SIGN_POLICY_FUSED
  (0x020, ⟨.cmd, .cmd, 0, 1, 1, 1, 1, .none⟩),  -- ID_GENERATE
  (0x030, ⟨.blob, .rw, 0, 32, 32, 1, 1, .none⟩),  -- ATT_NONCE
  (0x031, ⟨.cmd, .cmd, 0, 1, 1, 1, 1, .none⟩),  -- ATT_REQUEST
  (0x032, ⟨.enum8, .ro, 0, 0, 3, 1, 1, .none⟩),  -- ATT_STATE
  (0x033, ⟨.blob, .ro, 0, 0, 1604, 1, 1, .none⟩),  -- ATT_REPORT
  (0x034, ⟨.enum8, .ro, 0, 0, 3, 1, 1, .none⟩),  -- ATT_REFUSAL
  (0x038, ⟨.u8, .ro, 0, 0, 3, 1, 1, .none⟩)]  -- DEBUG_SEEN

/-- The table of an area; carrier B areas have the tables of carrier A (R8). -/
def areaRows : Nat → List (Nat × Row)
  | 0x00 => rows00
  | 0x01 => rows01
  | 0x02 => rows02
  | 0x03 => rows03
  | 0x08 => rows08
  | 0x10 => rows10
  | 0x11 => rows11
  | 0x20 | 0x30 => rows20
  | 0x21 | 0x31 => rows21
  | 0x22 | 0x32 => rows22
  | 0x23 | 0x33 => rows23
  | 0x24 | 0x34 => rows24
  | 0x40 => rows40
  | 0x50 => rows50
  | 0x58 => rows58
  | 0x60 => rows60
  | 0x61 => rows61
  | 0x62 => rows62
  | 0x68 => rows68
  | 0x70 => rows70
  | 0x71 => rows71
  | 0x78 => rows78
  | 0x79 => rows79
  | 0x7A => rows7A
  | _ => []

/-- The areas the Legend has. -/
def allAreas : List Nat := [0x00, 0x01, 0x02, 0x03, 0x08, 0x10, 0x11, 0x20, 0x21, 0x22, 0x23, 0x24, 0x30, 0x31, 0x32, 0x33, 0x34, 0x40, 0x50, 0x58, 0x60, 0x61, 0x62, 0x68, 0x70, 0x71, 0x78, 0x79, 0x7A]

/-- The row of an entry, if the Legend has it (09 R244). -/
def rowOf (k : Key) : Option Row := (areaRows k.area).lookup k.entry

/-- The default an element holds after any reset (00 R11); three entries give it by index: pre-emphasis and
filter taps have a centre tap of 32,767, and host lane taps start from preset P1 (07 R215). -/
def defaultOf (k : Key) : Int :=
  match k.area, k.entry with
  | 0x20, 0x074 | 0x30, 0x074 => if k.idx % 33 = 16 then 32767 else 0
  | 0x62, 0x020 | 0x62, 0x021 | 0x62, 0x022 => if k.idx % 64 = 0 then 32767 else 0
  | 0x10, 0x005 => (match k.idx % 6 with | 1 => -8 | 2 => 116 | 3 => -4 | _ => 0)
  | _, _ =>
    match rowOf k with
    | some r => r.dflt
    | none => 0

end Sys2Proof.Machine
end

