-- ==== Sys2Proof/Machine/StClock.lean ====
section
/-! DEFINITION. The parts of State behind the clocks, the line dies and their links (spec 08, 01 R36 to R38). -/

namespace Sys2Proof.Machine

/-- A sub-ADC tile: the physical sub-ADC of each slot, the slot replaced next (08 R235), and whether a tested spare
waits for a block boundary (01 R37). -/
structure Tile where
  active : List Nat
  nextSlot : Nat
  tested : Bool
  deriving DecidableEq, Repr

/-- A tile with sub-ADC q in slot q. -/
def Tile.reset : Tile := ⟨List.range 32, 0, false⟩

/-- A line die. -/
structure DieState where
  tiles : List Tile
  /-- A spare-rotation visit runs (01 R36). -/
  visiting : Bool
  /-- The lock sequence waits for a good REFCLK (08 R229). -/
  waitRef : Bool
  /-- The sequence is a relock, which skips step 5 (08 R233). -/
  relock : Bool
  /-- Foreground calibration left a FAILED tile; no further attempt until OFF is written (08 R236). -/
  stopped : Bool
  /-- Mean temperatures, in 0.01 degrees, that VCO and reference compensation last took (08 R231, R238), and whether all
  sensors have failed. -/
  vcoTemp : Int
  refTemp : Int
  tcHeld : Bool
  /-- Trims in force per channel, in 0.01 dB, slewing to 40.009 and 40.010 (08 R238, R239). -/
  adcTrim : List Int
  dacTrim : List Int
  /-- The reference trim wanted for the die's temperature and the one in force, in 0.001 dB (08 R238). -/
  refWant : Int
  refTrim : Int
  /-- Blocks and failures of each direction since the last check (08 R241). -/
  rxBlocks : Nat
  rxBad : Nat
  txBlocks : Nat
  txBad : Nat
  /-- Channels whose elastic buffer is discarding blocks; what each buffer holds, oldest first; and whether the fabric has begun to
  read it, at half full (01 R26). -/
  adcDrop : List Bool
  adcBuf : List (List Nat)
  adcOn : List Bool
  /-- The elastic buffers to the DAC channels, whether each DAC has begun, at half full, and the codes each sent last (01 R26, 02
  R79). -/
  dacBuf : List (List Nat)
  dacOn : List Bool
  dacOut : List (List Nat)
  /-- Samples that each DAC has sent as mid-code since its last underflow was counted (08 R242). -/
  dacShort : List Nat
  /-- The line PLL's ratio P of VCO to sub-converter rate, its integer divider N and fraction F of 2^24 (08 R225). -/
  ratio : Nat
  divN : Nat
  divF : Nat
  /-- Swap marks on their way to the core die: channel and interleave position (03 R84). -/
  marks : List (Nat × Nat)
  deriving DecidableEq, Repr

/-- A line die after reset. -/
def DieState.reset : DieState :=
  { tiles := List.replicate 16 Tile.reset, visiting := false, waitRef := false, relock := false, stopped := false,
    vcoTemp := 0, refTemp := 0, tcHeld := false, adcTrim := [0, 0, 0, 0], dacTrim := [0, 0, 0, 0], refWant := 0, refTrim := 0, rxBlocks := 0, rxBad := 0,
    txBlocks := 0, txBad := 0, adcDrop := [false, false, false, false], adcBuf := [[], [], [], []], adcOn := [false, false, false, false],
    dacBuf := [[], [], [], []], dacOn := [false, false, false, false], dacOut := [[], [], [], []], dacShort := [0, 0, 0, 0], ratio := 0, divN := 0, divF := 0,
    marks := [] }

/-- The clocks: both line dies, whether REFCLK has departed from OK since reset (08 R228), and whether the Traverse PLL's
holdover holds the datum quality (10 R298). -/
structure ClockState where
  dieA : DieState
  dieB : DieState
  refLost : Bool
  datumHeld : Bool
  deriving DecidableEq, Repr

/-- The clocks after reset. -/
def ClockState.reset : ClockState := ⟨DieState.reset, DieState.reset, false, false⟩

end Sys2Proof.Machine
end

