-- ==== Sys2Proof/Machine/StCore.lean ====
section
/-! DEFINITION. The surveyor and plotter cores (spec 11): registers, memories, ports, bundle loading, and the coefficient
space as cores write it. -/

namespace Sys2Proof.Machine

/-- A coefficient burst requested (11 R318): data-memory address, first line, lines, and whether it writes. -/
structure Burst where
  addr : Nat
  line : Nat
  n : Nat
  write : Bool
  deriving DecidableEq, Repr

/-- One core (11 R308, R314, R319): registers G, D (real, imaginary), AC, A, O, L, PC and flags; link and loop stacks (start,
last index and passes left of each level); instruction memory (an unlisted word is HALT) and data memory by line (an unlisted
line has not been written); ports; and what the core waits for. -/
structure Core where
  g : List (BitVec 32)
  d : List (BitVec 18 × BitVec 18)
  ac : List (BitVec 48 × BitVec 48)
  a : List (BitVec 16)
  o : List (BitVec 16)
  l : List (BitVec 16)
  pc : Nat
  z : Bool
  n : Bool
  c : Bool
  v : Bool
  aov : Bool
  sov : Bool
  links : List Nat
  loops : List (Nat × Nat × Nat)
  imem : List (Nat × Nat)
  dmem : List (Nat × Nat)
  fault : Nat
  faultPc : Nat
  datumHi : Nat
  timer : Nat
  events : Nat
  lgReqAddr : Nat
  lgReqLen : Nat
  lgRspAddr : Nat
  lgBusy : Bool
  lgDone : Bool
  lgIgnored : Bool
  /-- The response of the request in flight is discarded (11 R325). -/
  lgDiscard : Bool
  lgBytes : List Byte
  appRxAddr : Nat
  appTxAddr : Nat
  appSeq : Option Nat
  appDropped : Bool
  winAddr : Nat
  resSeg : Nat
  resAddr : Nat
  resBusy : Bool
  resFailed : Bool
  /-- Event bits a WAIT stalls for (11 R321), and the burst a CBX waits for (R318). -/
  waiting : Option Nat
  burst : Option Burst
  /-- A debug step is in progress: the core halts again after its instruction (17 R445). -/
  stepping : Bool
  /-- Datum times of its latest restarts by watchdog or integrity reset (11 R323, 16 R410). -/
  restarts : List Nat
  /-- The datum at the watchdog's last start, once started (11 R323). -/
  wdogFrom : Option Nat
  /-- Instructions run in the present millisecond: the count and its start (11 R316). -/
  steps : Nat
  stepsFrom : Nat
  deriving DecidableEq, Repr

/-- A core after reset. -/
def Core.reset : Core :=
  { g := List.replicate 16 0, d := List.replicate 8 (0, 0), ac := List.replicate 4 (0, 0), a := [0, 0, 0, 0], o := [0, 0, 0, 0]
    l := [0, 0, 0, 0], pc := 0, z := false, n := false, c := false, v := false, aov := false, sov := false, links := []
    loops := [], imem := [], dmem := [], fault := 0, faultPc := 0, datumHi := 0, timer := 0, events := 0, lgReqAddr := 0
    lgReqLen := 0, lgRspAddr := 0, lgBusy := false, lgDone := false, lgIgnored := false, lgDiscard := false, lgBytes := []
    appRxAddr := 0, appTxAddr := 0, appSeq := none, appDropped := false, winAddr := 0, resSeg := 0, resAddr := 0
    resBusy := false, resFailed := false, waiting := none, burst := none, stepping := false, restarts := [], wdogFrom := none, steps := 0
    stepsFrom := 0 }

/-- A bundle load in progress (11 R328): the owner is 58.02B; the slot, the manifest gathered, segments awaiting programming, and
those programmed. -/
structure LoadRun where
  slot : Nat
  parts : List (Nat × List Byte)
  manifest : List Byte
  queue : List (Nat × List Byte)
  done : List (Nat × List Byte)
  deriving DecidableEq, Repr

/-- The arbiter of a coefficient bus (01 R32): the core whose burst has the grant, the plotter and the surveyor granted last, and the
urgent bursts granted in a row. -/
structure BusArb where
  granted : Option Nat
  lastUrgent : Nat
  lastNormal : Nat
  run : Nat
  deriving DecidableEq, Repr

/-- An arbiter after reset: the lowest core of each class comes first. -/
def BusArb.reset : BusArb := ⟨none, 67, 63, 0⟩

/-- The cores (11): APP frames held for the plotters, the load in progress, the manifest of the running bundle, the
coefficient lines written by cores, and the arbiter of the coefficient bus, per carrier. -/
structure CoreState where
  cores : List Core
  appRx : List (List Byte)
  load : Option LoadRun
  running : List Byte
  restarting : Bool
  coefA : List (Nat × Nat)
  coefB : List (Nat × Nat)
  busA : BusArb
  busB : BusArb
  deriving DecidableEq, Repr

/-- The cores after reset. -/
def CoreState.reset : CoreState :=
  { cores := List.replicate 68 Core.reset, appRx := [], load := none, running := [], restarting := false, coefA := [], coefB := [], busA := BusArb.reset, busB := BusArb.reset }

end Sys2Proof.Machine
end

