-- ==== Sys2Proof/Machine/StHk.lean ====
section
/-! DEFINITION. The parts of State behind the housekeeping converters and the monitor filter chain (spec 12, 13). -/

namespace Sys2Proof.Machine

/-- What an ADC converts in the present period (12 R332). -/
inductive ConvKind where
  | regular (slot : Nat)
  | injected (j : Nat)
  | cal
  deriving DecidableEq, Repr

/-- A conversion in progress: kind, input, DELAYED, and the output values of the read-back channel 2 us before (12 R345). -/
structure Conv where
  kind : ConvKind
  input : Nat
  delayed : Bool
  expect : Nat
  deriving DecidableEq, Repr

/-- A calibration run (12 R336): 0 self, 1 ZERO, 2 FULL; input; conversions done; sum of codes; running. -/
structure CalRun where
  step : Nat
  input : Nat
  count : Nat
  sum : Nat
  running : Bool
  deriving DecidableEq, Repr

/-- One HK ADC. -/
structure HkAdc where
  conv : Option Conv
  /-- The regular pass: next slot, tick and datum of its start; and a pass that starts at the next boundary. -/
  pass : Option (Nat × Nat × Nat)
  passDue : Bool
  /-- The injected request in service: next conversion and length; requests queued, each with whether it was there before
  the calibration run was requested. -/
  injNow : Option (Nat × Nat)
  injQ : List Bool
  cal : Option CalRun
  /-- The stored zero: input and m0 (12 R337). -/
  zero : Option (Nat × Nat)
  /-- Datum time of the last HK_OVERRUN (12 R334). -/
  lastOverrun : Option Nat
  /-- Slot windows: consecutive passes on the other side of the present LIMIT state. -/
  limitRun : List (Nat × Nat)
  limitSet : List Nat
  /-- Tick and datum of the start of the last or present pass. -/
  startTick : Nat
  startDatum : Nat
  deriving DecidableEq, Repr

/-- An HK ADC after reset. -/
def HkAdc.reset : HkAdc :=
  { conv := none, pass := none, passDue := false, injNow := none, injQ := [], cal := none, zero := none, lastOverrun := none,
    limitRun := [], limitSet := [], startTick := 0, startDatum := 0 }

/-- One AOUT channel: phase (12 R344), noise register and updates left before the next noise value, waveform value as Q15,
latest outputs and waveform values (newest first), tick until which read-back is not compared, run of differing
comparisons, and the range in force. -/
structure Aout where
  phase : Rat
  lfsr : Nat
  noiseLeft : Nat
  w : Int
  out : Nat
  outs : List Nat
  waves : List Int
  quietTill : Nat
  rbRun : Nat
  range : Nat
  /-- Updates in a row without a pin above VDAC - 1 V, and without limited current (12 R346). -/
  compQuiet : Nat
  overQuiet : Nat
  /-- In Dormant the channel is held (12 R347). -/
  kept : Bool
  /-- The channel was enabled at Dormant entry. -/
  wasOn : Bool
  deriving DecidableEq, Repr

/-- An AOUT channel after reset. -/
def Aout.reset : Aout :=
  { phase := 0, lfsr := 0, noiseLeft := 0, w := 0, out := 0, outs := [], waves := [], quietTill := 0, rbRun := 0, range := 0,
    compQuiet := 0, overQuiet := 0, kept := false, wasOn := false }

/-- One monitor filter channel (13): the CIC integrators, combs and its count of inputs (R353), the FIR delay line and its
count (R354), the resampler's accumulator and last eight FIR outputs (R355), the last inputs (newest first, R362), inputs
since the reset, the last input and its nominal instant (R351, R363), flags for the next record. -/
structure MfChan where
  integ : List Int
  comb : List Int
  cicCount : Nat
  delay : List Int
  firCount : Nat
  phaseAcc : Nat
  firHist : List Int
  box : List Int
  inputs : Nat
  settled : Bool
  lastX : Int
  lastAt : Nat
  gap : Bool
  clipped : Bool
  delayed : Bool
  /-- A fade: b and M; the inactive sheet is loading; loaded and waiting for the first chain output; queued taps. -/
  fade : Option (Nat × Nat)
  loading : Bool
  loaded : Bool
  /-- The load under way is of a swap released from the queue (R359). -/
  released : Bool
  queuedTaps : Option (List Int)
  active : Nat
  /-- A synchronising reset is due (R360), and the start tick of the pass at which it takes effect. -/
  syncDue : Bool
  syncFrom : Option Nat
  /-- The result of its slot that the channel has yet to take: the pass's start tick and datum, and the record; and missing passes
  to be filled (R351). -/
  fresh : Option (Nat × Nat × Nat)
  missed : Nat
  records : List Nat
  lastOverflow : Option Nat
  deriving DecidableEq, Repr

/-- A filter channel after reset. -/
def MfChan.reset : MfChan :=
  { integ := [], comb := [], cicCount := 0, delay := [], firCount := 0, phaseAcc := 0, firHist := [], box := [], inputs := 0,
    settled := false, lastX := 0, lastAt := 0, gap := false, clipped := false, delayed := false, fade := none, loading := false, loaded := false,
    released := false, queuedTaps := none, active := 0, syncDue := false, syncFrom := none, fresh := none, missed := 0, records := [], lastOverflow := none }

/-- The housekeeping block: both ADCs, conversion boundaries so far, open-wire runs by pin (test met, count; 12 R338),
output channels, filter channels. -/
structure HkState where
  adc0 : HkAdc
  adc1 : HkAdc
  tick : Nat
  owRun : List (Nat × Bool × Nat)
  aouts : List Aout
  mf : List MfChan
  deriving DecidableEq, Repr

/-- The housekeeping block after reset. -/
def HkState.reset : HkState :=
  { adc0 := HkAdc.reset, adc1 := HkAdc.reset, tick := 0, owRun := [], aouts := List.replicate 16 Aout.reset,
    mf := List.replicate 32 MfChan.reset }

end Sys2Proof.Machine
end

