-- ==== Sys2Proof/Machine/StHost.lean ====
section
/-! DEFINITION. The parts of State behind the host lanes and clients (spec 07). -/

namespace Sys2Proof.Machine

/-- The requester of a training lane (07 R214, R216). `step`: 0 no request held, 1 a request waits for its answer, 2 HOLD
waits for NOT_UPDATED, 3 the FOM is being measured. `tapIx` counts the order c(-1), c(1), c(-2), c(2), c(3); `first` is
the first step in the present direction, `undo` an undoing step, `applied` the answer's outcome. -/
structure Requester where
  step : Nat
  field : Nat
  preset : Bool
  pass : Nat
  tapIx : Nat
  opposite : Bool
  first : Bool
  undo : Bool
  applied : Bool
  fom : Int
  passFom : Int
  deriving DecidableEq, Repr

/-- A requester at rest. -/
def Requester.reset : Requester := ⟨0, 0, true, 0, 0, false, true, false, false, 0, 0⟩

/-- One host lane. -/
structure Lane where
  /-- Datum time at which the training timer started (07 R212). -/
  timer : Nat
  /-- Consecutive good and bad training frames. -/
  good : Nat
  bad : Nat
  partnerReady : Bool
  /-- Own READY, and the countdown frames still to be begun: the next one carries COUNT `count` - 1 (07 R217). -/
  ready : Bool
  count : Nat
  /-- COUNT of the partner's last countdown frame; its data follows 0 (07 R217). -/
  partnerCount : Option Nat
  /-- The training frame being sent, as PAM4 levels; hundredths of a symbol of it that have passed; the PRBS13Q register (07 R213). -/
  trainOut : List Int
  trainPhase : Nat
  prbs13 : Nat
  rq : Requester
  /-- The status field this lane's responder sends (07 R213, R214). -/
  status : Nat
  /-- Pattern checker: error-free symbols in a row, and the symbols and errors of the present run of 1,024 (07 R220). -/
  clean : Nat
  window : List Bool
  /-- Pattern generator: quarter symbols sent, and the symbols that the waiting injected errors fall on (07 R220, R221). -/
  genPos : Nat
  injectAt : List Nat
  /-- Ordered set the host is sending: 0 none, 1 Local Fault, 2 Remote Fault. -/
  hostFault : Nat
  /-- Slot-frame lock, its runs of good and bad headers, frames since EMPTY per slot, FAIL bits (07 R198). -/
  slotLock : Bool
  slotGood : Nat
  slotBad : Nat
  sinceEmpty : List Nat
  fail : Nat
  /-- FSEQ of the next slot frame sent, and the last one sent, 257 blocks. -/
  fseq : Nat
  slotFrame : List Nat
  /-- In a near loopback, the slot frame on its way back to the ingress (07 R219). -/
  slotBack : List Nat
  /-- An egress slip whose missing blocks the next frame is to show (07 R211). -/
  outSlip : Bool
  deriving DecidableEq, Repr

/-- A lane after reset. -/
def Lane.reset : Lane :=
  { timer := 0, good := 0, bad := 0, partnerReady := false, ready := false, count := 16, rq := Requester.reset, status := 0,
    clean := 0, window := [], hostFault := 0, slotLock := false, slotGood := 0, slotBad := 0, sinceEmpty := List.replicate 16 0,
    fail := 0, fseq := 0, slotFrame := [], slotBack := [], outSlip := false, partnerCount := none, trainOut := [], trainPhase := 0,
    prbs13 := 8191, genPos := 0, injectAt := [] }

/-- A line packet waiting at the mapper (07 R199). -/
structure Packet where
  type : Nat
  cid : Nat
  seq : Nat
  last : Nat
  err : Bool
  code : Nat
  data : List Nat
  deriving DecidableEq, Repr

/-- A client or slot: `Client` i is Ethernet client i for i below 8, and slot i - 8 from 8 on. Ingress: next SEQ, the code
of its status, the words of a burst being gathered (07 R201), queue, deficit (07 R206). Egress: previous SEQ, last status,
packets within 30 us, a fault presented, queue of frames (bytes, errored) or of slot words (word, first after a gap); of the last
frame sent, its preamble and bytes, whether an error control block ends it, the idles before it, and the deficit idle count (07
R204); in a near loopback, the frames on their way back to the ingress (07 R219). -/
structure Client where
  seq : Nat
  code : Nat
  part : List Nat
  queue : List Packet
  deficit : Nat
  outSeq : Option Nat
  outCode : Nat
  alive : Bool
  faulted : Bool
  frames : List (List Byte × Bool)
  words : List (Nat × Bool)
  gap : Bool
  sent : List Byte
  sentErr : Bool
  idles : Nat
  dic : Nat
  back : List (List Byte × Bool)
  deriving DecidableEq, Repr

/-- A client after reset: nothing has arrived, so its egress presents a fault. -/
def Client.reset : Client :=
  { seq := 0, code := 0, part := [], queue := [], deficit := 0, outSeq := none, outCode := 0, alive := false, faulted := false,
    frames := [], words := [], gap := false, sent := [], sentErr := false, idles := 0, dic := 0, back := [] }

/-- The delineation state machine of a carrier's demapper (07 R203). PRESYNC holds the words since the first candidate
and how many are left to the next header; SYNC holds the packet in progress. -/
inductive Demap where
  | hunt
  | presync (left : Nat) (kept : List (Nat × Bool))
  | sync (pkt : Packet) (left : Nat) (err : Bool)
  | syncHeader
  deriving DecidableEq, Repr

/-- The host engine: lanes, clients and slots, the status packets waiting per carrier, the round robin's turn per carrier, and the
demappers. -/
structure HostState where
  lanes : List Lane
  clients : List Client
  statusA : List Packet
  statusB : List Packet
  turnA : Nat
  turnB : Nat
  demapA : Demap
  demapB : Demap
  deriving DecidableEq, Repr

/-- The host engine after reset. -/
def HostState.reset : HostState :=
  { lanes := List.replicate 8 Lane.reset, clients := List.replicate 136 Client.reset, statusA := [], statusB := [], turnA := 0,
    turnB := 0, demapA := .hunt, demapB := .hunt }

end Sys2Proof.Machine
end

