-- ==== Sys2Proof/Machine/StLine.lean ====
section
/-! DEFINITION. The parts of State behind one carrier: transmitter, receiver, acquisition, loading sets, FEC
encoder and decoder, and the standard firmware's loading exchange (spec 02 to 06). What the chapters give as a
Legend entry is in the Legend store; here is what they describe besides. -/

namespace Sys2Proof.Machine

/-- A complex value of the datapath: the spec gives the streams between stages as complex numbers. -/
structure Cx where
  re : Rat
  im : Rat
  deriving DecidableEq, Repr

/-- Zero. -/
def Cx.zero : Cx := ⟨0, 0⟩

/-- One sample or symbol of both polarisations. -/
structure Pol where
  x : Cx
  y : Cx
  deriving DecidableEq, Repr

/-- Nothing on either polarisation. -/
def Pol.zero : Pol := ⟨Cx.zero, Cx.zero⟩

/-- A loading set (05 R145, R150): its tag and 32 records of (k, grid code). -/
structure LoadSet where
  tag : Nat
  recs : List (Nat × Nat)
  deriving DecidableEq, Repr

/-- The default set: k = 128 on QPSK for every sub-carrier, tag 0 (05, entries 23.044 and 23.045). -/
def LoadSet.reset : LoadSet := ⟨0, List.replicate 32 (128, 0)⟩

/-- What the transmitter sends (02 R43). -/
inductive Sending where
  | nothing | soundings | frames
  deriving DecidableEq, Repr

/-- A pending switch of the transmit set (05 R154): the target code of R153, the superframe, and the edition ID
that announced it (0: by 23.013). -/
structure PendSwitch where
  target : Nat
  n : Nat
  edId : Nat
  deriving DecidableEq, Repr

/-- The matcher's tables for one sub-carrier (02 R62, R63; 05 R155): k and grid, how many amplitude sequences of each remaining
length have each energy (by length from 0 to 128; by (energy - length) / 8), and the square of the scale c. -/
structure MatchTable where
  k : Nat
  grid : Nat
  counts : List (List Nat)
  c2 : Rat
  deriving DecidableEq, Repr

/-- One matcher block as sent (02 R60, R61): sub-carrier, polarisation, matcher slot u of the superframe, and the 128 signed
amplitudes in the order of R61; the scale c of R63 is the frame's. -/
structure TxBlock where
  sc : Nat
  pol : Nat
  slot : Nat
  amps : List Int
  deriving DecidableEq, Repr

/-- A frame or sounding as sent (02 R46 to R54, 04 R124 to R127): whether it is a sounding, the number of its first symbol period
since the carrier left OFF, its number in the superframe, the sub-carriers, the overhead or sounding word of every sub-carrier,
their two codewords, the in-band bytes it carries, the payload blocks that start in it, and c squared by sub-carrier. -/
structure TxFrame where
  sounding : Bool
  start : Nat
  fi : Nat
  subs : Nat
  words : List Nat
  codewords : List (Nat × Nat)
  ibc : List Byte
  blocks : List TxBlock
  c2 : List Rat
  deriving DecidableEq, Repr

/-- No frame. -/
def TxFrame.none : TxFrame := ⟨true, 0, 0, 0, [], [], [], [], []⟩

/-- One sheet of stage 9 (02 R70): coefficients C_i and indices (m_i, n_i) where not 0, as the packed entries of 20.060 and 20.061. -/
structure NlcSheet where
  coef : List (Nat × Int)
  index : List (Nat × Int)
  deriving DecidableEq, Repr

/-- The transmitter of one carrier. -/
structure TxState where
  /-- Contour position p, 0 to 1 (02 R74). -/
  pos : Rat
  /-- A running slew of TX_SCALE: from, to, and dB covered (02 R73). -/
  slew : Option (Nat × Nat × Rat)
  /-- In-band byte credit and queued bytes (02 R54). -/
  ibcCredit : Nat
  ibcQueue : List Byte
  sending : Sending
  /-- Number of the next frame or sounding in the superframe. -/
  frameNo : Nat
  /-- The announced switch superframe from soundings to frames (04 R128). -/
  switchN : Option Nat
  /-- A final loss of lock waits for the next superframe boundary (04 R140). -/
  returnPending : Bool
  pend : Option PendSwitch
  /-- SW_CD and ACTIVE_ED as frames of the present superframe carry them (02 R55). -/
  swCd : Nat
  activeEd : Nat
  cur : LoadSet
  prev : LoadSet
  prevEmpty : Bool
  /-- The set the payload of the present superframe's frames uses: the current set as it stood at the superframe's start (02 R55,
  R60). -/
  frameSet : LoadSet
  /-- The matcher tables of the set in frames, and those of the pending target once they are computed (02 R63, 05 R155). -/
  tables : List MatchTable
  nextTables : Option (List MatchTable)
  /-- Squelch sources that are latches or pins (02 R76 bits 3, 2, 1). -/
  ocLatch : Bool
  thermal : Bool
  txdis : Bool
  /-- Stage 9 is bypassed, and the companion's contribution is held at zero (02 R70, 01 R41). -/
  nlcBypass : Bool
  xpmZero : Bool
  /-- The sheets of stage 9, and which is active (02 R70). -/
  nlc0 : NlcSheet
  nlc1 : NlcSheet
  nlcSheet : Nat
  /-- The last frame or sounding assembled, and the two before it, later first. -/
  frame : TxFrame
  past : List TxFrame
  /-- The number, since the carrier left OFF, of the symbol period that the next frame or sounding starts at. -/
  period : Nat
  /-- The next sample of each lane to go to its DAC channel, counted since the carrier left OFF (02 R72, R79). -/
  sample : List Nat
  /-- Contour positions in force, each from a sample number on, later first (02 R74). -/
  gains : List (Nat × Rat)
  /-- FEC encoder (06 R177): coded bits given to frames up to this superframe, segment number, the two
  predecessors, information bits waiting (value and length), coded bits waiting, the matcher's next block. -/
  coded : Nat
  segNo : Nat
  seg1 : Nat
  seg2 : Nat
  info : Nat
  infoLen : Nat
  codedQ : Nat
  codedLen : Nat
  cursor : Nat
  /-- LB_SEQ of the next line block, and the last block sent (02 R56). -/
  lbSeq : Nat
  block : List Nat
  /-- Client words the mapper has ready (02 R57). -/
  clientQ : List Nat
  /-- A change of symbol rate waits for the next superframe boundary (02 R48, 08 R230). -/
  relock : Bool
  /-- R in MBd and the code of S in force while a change of 20.010 or 20.011 waits for the next superframe boundary (02 R48). -/
  held : Option (Nat × Nat)
  /-- The time of the last superframe boundary. -/
  sfStart : Nat
  deriving DecidableEq, Repr

/-- The transmitter after reset. -/
def TxState.reset : TxState :=
  { pos := 0, slew := none, ibcCredit := 0, ibcQueue := [], sending := .nothing, frameNo := 0, switchN := none,
    returnPending := false, pend := none, swCd := 0, activeEd := 0, cur := LoadSet.reset, prev := LoadSet.reset,
    prevEmpty := true, frameSet := LoadSet.reset, tables := [], nextTables := none, ocLatch := false, thermal := false, txdis := false,
    nlcBypass := true, xpmZero := false, nlc0 := ⟨[], []⟩, nlc1 := ⟨[], []⟩, nlcSheet := 0, frame := TxFrame.none,
    past := [], period := 0, sample := [0, 0, 0, 0], gains := [], coded := 0, segNo := 0, seg1 := 0, seg2 := 0,
    info := 0, infoLen := 0, codedQ := 0, codedLen := 0, cursor := 0, lbSeq := 0, block := [], clientQ := [], relock := false, held := none, sfStart := 0 }

/-- Dispersion values of a sheet (03 R87): D, slope, wavelength, and the armed edition it was prepared for. -/
structure CdVals where
  d : Int
  slope : Int
  wl : Int
  deriving DecidableEq, Repr

/-- A dispersion sheet: the values it holds or is being computed for, and whether it is ready (03 R88). -/
structure Sheet where
  vals : CdVals
  ready : Bool
  deriving DecidableEq, Repr

/-- The overhead fields kept from the most recent good header (03 R111 to R113). -/
structure Header where
  sfc : Nat
  activeEd : Nat
  swCd : Nat
  bdi : Bool
  segPtr : Nat
  lbPtr : Nat
  deriving DecidableEq, Repr

/-- A receive slot (05 R156): tag, set, whether it holds one, time of last use and of last staging (0 never). -/
structure RxSlot where
  tag : Nat
  set : LoadSet
  held : Bool
  used : Nat
  staged : Nat
  deriving DecidableEq, Repr

/-- An empty slot. -/
def RxSlot.empty : RxSlot := ⟨0, LoadSet.reset, false, 0, 0⟩

/-- A staging in progress (05 R157): the slot chosen, the tag and the set. -/
structure Staging where
  slot : Nat
  set : LoadSet
  deriving DecidableEq, Repr

/-- Sums over a window of samples (03 R84, R85): how many, and two or three sums. -/
structure WinSum where
  n : Nat
  a : Rat
  b : Rat
  c : Rat
  deriving DecidableEq, Repr

/-- An empty window. -/
def WinSum.zero : WinSum := ⟨0, 0, 0, 0⟩

/-- One term more. -/
def WinSum.add (w : WinSum) (a b c : Rat) : WinSum := ⟨w.n + 1, w.a + a, w.b + b, w.c + c⟩

/-- One lane of stage 2 (03 R83): the interleave position of its next sample, the DC level its filter holds, its latest samples
after the DC filter, latest first, and the powers of its latest blocks. -/
structure FeLane where
  pos : Nat
  dc : Rat
  hist : List Rat
  pow : List Rat
  deriving DecidableEq, Repr

/-- A lane at rest. -/
def FeLane.reset : FeLane := ⟨0, 0, [], []⟩

/-- Timing recovery (03 R96, R97): the resampler's phase in input samples, the loop's frequency state in parts of 1, and the latest
stage-3 output, oldest first. -/
structure TimingState where
  phase : Rat
  freq : Rat
  buf : List Pol
  deriving DecidableEq, Repr

/-- Timing recovery restarted: phase 0, frequency 0 (03 R96). -/
def TimingState.reset : TimingState := ⟨0, 0, []⟩

/-- A pilot (03 R109): the symbols of R51, and those received. -/
structure PilotRec where
  known : Pol
  got : Pol
  deriving DecidableEq, Repr

/-- Carrier recovery of one sub-carrier (03 R106, R108, R109): rotator rates about the three axes, Stokes angle and periods since
the last rate report, the residual frequency loop in kHz, the pilots of the window, latest first, the symbols that wait for the
phase of their pilot (groups, oldest first), and the phase of the last pilot resolved, in turns. -/
structure CrState where
  rates : Rat × Rat × Rat
  angle : Rat
  periods : Nat
  resid : Rat
  pilots : List PilotRec
  wait : List (List Pol)
  last : Option Rat
  deriving DecidableEq, Repr

/-- Carrier recovery at rest. -/
def CrState.reset : CrState := ⟨(0, 0, 0), 0, 0, 0, [], [], none⟩

/-- What the demapper passes on for one payload symbol (03 R114): for I and Q the sign LLR and the amplitude metrics; none where
the frame is lost. -/
structure SoftSym where
  i : Rat × List Rat
  q : Rat × List Rat
  deriving DecidableEq, Repr

/-- The receiver of one carrier. -/
structure RxState where
  /-- Residual interleave correction (03 R84): (128 j + position, offset, gain) where not (0, 1), and the sums of the window
  under way by the same number. -/
  ilv : List (Nat × Rat × Rat)
  ilvSum : List (Nat × WinSum)
  /-- The IQ phases that AUTO mode estimates (03 R85), and the sums of I Q, I^2 and Q^2 of the window under way. -/
  iqX : Int
  iqY : Int
  iqSumX : WinSum
  iqSumY : WinSum
  /-- The lanes of stage 2, samples corrected and not yet paired, the mixer's phase in turns, and the corrected stream (03 R83). -/
  lanes : List FeLane
  laneQ : List (List Rat)
  mix : Rat
  fe : List Pol
  /-- The last four forward transforms of stage 3, later first (03 R94), and the metrics of the trials evaluated. -/
  spectra : List (List Pol)
  hops : Nat
  trialMetrics : List Rat
  timing : TimingState
  /-- The resampled stream that stage 5 holds, the number of its first sample, and the next output in half sub-carrier periods
  (03 R99). -/
  bank : List Pol
  bankBase : Nat
  bankNext : Nat
  /-- Stage-6 input by sub-carrier (03 R101), at 2 samples per symbol. -/
  eqIn : List (Nat × List Pol)
  /-- Stage-6 output that waits for stage 7 by sub-carrier, the frame position of its first symbol, and that of the next symbol stage 6
  gives. -/
  eqOut : List (Nat × List Pol)
  outPos : List (Nat × Nat)
  eqPos : List (Nat × Nat)
  /-- Carrier recovery by sub-carrier, and f_common with the loop's integrator, in kHz (03 R108). -/
  cr : List (Nat × CrState)
  common : Rat
  commonInt : Rat
  /-- Symbols after stage 7 and the deskew buffer, by sub-carrier (03 R100). -/
  syms : List (Nat × List Pol)
  /-- Payload symbols demapped and not yet deshaped, by 2k + p; none is lost (03 R114, R116). -/
  soft : List (Nat × List (Option SoftSym))
  /-- The next matcher slot of the superframe, and LLRs on their way to the decoder, none erased (03 R117, R118). -/
  slotU : Nat
  llrs : List (Option Int)
  /-- An ADC slip has hit the frame under way: it is marked lost (01 R26, 06 R180). -/
  slipped : Bool
  /-- Pilot error sums of the superframe under way, and of the last one, by 2k + p (03 R115, 05 R148). -/
  pilotErr : List (Nat × WinSum)
  pilotLast : List (Nat × WinSum)
  /-- Power sums of the 32 bands and of all bands since the last report, and their number of blocks (04 R143). -/
  bandSum : List Rat
  bandN : Nat
  sheet0 : Sheet
  sheet1 : Sheet
  active : Nat
  /-- A running fade: block b, length N, and the outgoing and incoming values (03 R90). -/
  fade : Option (Nat × Nat × CdVals × CdVals)
  /-- A pending swap, taken up and not started (03 R92), and the single queued swap. -/
  pendSwap : Option CdVals
  queued : Option CdVals
  /-- Edition for which the inactive sheet is prepared (03 R88). -/
  prepFor : Option Nat
  /-- Parameters of a running dispersion search: lowest trial, step, number of trials (03 R94). -/
  search : Option (Int × Nat × Nat)
  /-- The running search is the standard firmware's fine search, and a result of its that waits for the draft (04 R142). -/
  cdFine : Bool
  cdDue : Option Int
  /-- CMA adaptation, until frame alignment is found (03 R102). -/
  cma : Bool
  /-- Rotators that differ from identity, by sub-carrier: u and v of 11 R317, Q15 (03 R101). -/
  rot : List (Nat × (Int × Int) × (Int × Int))
  /-- Coefficient lines written by cores that wait for the block boundary (01 R34, 11 R318). -/
  coefDue : List (Nat × Nat)
  /-- Consecutive blocks with correlation above 0.9, and with the energy centre outside taps 12 to 20, by
  sub-carrier; the second with the side it lies on (03 R103, R105). -/
  singRun : List (Nat × Nat)
  shiftRun : List (Nat × Nat × Bool)
  /-- Resets of taps waiting for a block boundary (03 R104), and coefficient writes (01 R34). -/
  reinit : List Nat
  /-- Stage-6 input pointer, in half periods, by sub-carrier (03 R105). -/
  inPtr : List (Nat × Int)
  /-- Pilot phases by sub-carrier (03 R109), Q15 of pi as 11 R317 gives them. -/
  phase : List (Nat × Int)
  /-- f_common stands at its limit (03 R110). -/
  crLimit : Bool
  hdr : Option Header
  /-- The first good header of the present superframe. -/
  hdrSf : Option Header
  /-- The moment, by the use counter, at which the last countdown began (05 R160). -/
  countStart : Nat
  /-- The set in use: none is the fallback set, some i is slot i. -/
  inUse : Option Nat
  slot0 : RxSlot
  slot1 : RxSlot
  staging : Option Staging
  useCtr : Nat
  /-- The present superframe's tag is not held (05 R159). -/
  unknown : Bool
  /-- Frame number within the received superframe. -/
  frameNo : Nat
  /-- Acquisition: soundings since detection, soundings not accepted in a row, FAW passes in a row, frames failed
  in a row, metrics of accepted soundings, datum at entry to ACQUIRE (04 R130 to R137). -/
  sinceDet : Nat
  failRun : Nat
  fawPass : Nat
  fawFail : Nat
  metrics : List Nat
  acqEntry : Nat
  /-- The frame wait runs (04 R131). -/
  frameWait : Bool
  /-- Coarse frequency frozen (04 R132). -/
  frozen : Bool
  /-- In-band bytes received in the last frame, each with its errored mark (03 R112). -/
  ibc : List (Byte × Bool)
  /-- Pilot error powers sigma squared of the last superframes by 2k + p, latest first, at most 1,024 (05 R148). -/
  snrHist : List (List Rat)
  /-- Superframes begun since that of the most recent good header (03 R113, 05 R160). -/
  sinceHdr : Nat
  /-- The coefficient generator is computing the inactive sheet (03 R88). -/
  computing : Bool
  deriving DecidableEq, Repr

/-- The receiver after reset. Sheet 0 holds D = 0 and is active. -/
def RxState.reset : RxState :=
  { ilv := [], ilvSum := [], iqX := 0, iqY := 0, iqSumX := WinSum.zero, iqSumY := WinSum.zero, lanes := List.replicate 4 FeLane.reset,
    laneQ := [[], [], [], []], mix := 0, fe := [], spectra := [], hops := 0, trialMetrics := [], timing := TimingState.reset, bank := [],
    bankBase := 0, bankNext := 0, eqIn := [], eqOut := [], outPos := [], eqPos := [], cr := [], common := 0, commonInt := 0, syms := [], soft := [],
    slotU := 0, llrs := [], slipped := false, pilotErr := [], pilotLast := [], bandSum := [], bandN := 0, sheet0 := ⟨⟨0, 0, 1550000⟩, true⟩, sheet1 := ⟨⟨0, 0, 1550000⟩, false⟩, active := 0, fade := none,
    pendSwap := none, queued := none, prepFor := none, search := none, cdFine := false, cdDue := none, cma := true, rot := [], coefDue := [], singRun := [], shiftRun := [],
    reinit := [], inPtr := [], phase := [], crLimit := false, hdr := none, hdrSf := none, countStart := 0,
    inUse := none, slot0 := RxSlot.empty, slot1 := RxSlot.empty, staging := none, useCtr := 0, unknown := false, frameNo := 0,
    sinceDet := 0, failRun := 0, fawPass := 0, fawFail := 0, metrics := [], acqEntry := 0, frameWait := false, frozen := false,
    ibc := [], snrHist := [], sinceHdr := 0, computing := false }

/-- A segment in the decoder (06 R178 to R185): its number since acceptance began, its cycle phase, its cluster (01
R35), iterations had, whether it was force-released and whether it has an erased bit, its LLRs as they entered (6-bit
values of 03 R118), its posteriors in half LLR steps, and the messages of its own checks. -/
structure Seg where
  no : Nat
  phase : Nat
  cluster : Nat
  iters : Nat
  forced : Bool
  erased : Bool
  chan : List Int
  post : List Int
  msgs : List (Nat × List Int)
  deriving DecidableEq, Repr

/-- A segment in the outer decoder: released from the window, and whether every check of its own rows was satisfied. -/
structure OutSeg where
  seg : Seg
  ownSat : Bool
  deriving DecidableEq, Repr

/-- Payload bits of a released segment on their way to the deframer (06 R186): bits, their number, whether its line
blocks are errored, and whether it is a start-up segment. -/
structure Chunk where
  bits : Nat
  len : Nat
  errored : Bool
  startup : Bool
  deriving DecidableEq, Repr

/-- The FEC decoder and line deframer of one carrier (06). -/
structure FecState where
  accepting : Bool
  /-- Segments in flight, oldest first; the last may still be arriving. -/
  segs : List Seg
  outer : List OutSeg
  /-- Posteriors of the two segments that left the window last, the later one first; none is erased. -/
  prev1 : Option (List Int)
  prev2 : Option (List Int)
  /-- Number of the next segment to arrive, and its phase. -/
  nextNo : Nat
  nextPhase : Nat
  /-- Start-up segments still to be released (06 R178). -/
  startup : Nat
  /-- Predicted SEG_PTR and first cycle phase of the present superframe (06 R179), whether its headers, and those of
  the one before, disagreed. -/
  predSeg : Nat
  predPhase : Nat
  misNow : Bool
  misBefore : Bool
  /-- W and early stop in force, taken at a slide (06 R181). -/
  wNow : Nat
  earlyNow : Bool
  /-- Interval sums: segments released, coded bits and corrected bits of corrected segments, iterations, and
  uncorrected segments (06 R191), and the interval length in force. -/
  ivSegs : Nat
  ivCoded : Nat
  ivCorr : Nat
  ivIters : Nat
  ivUncorr : Nat
  ivLen : Nat
  /-- Any segment corrected since LOCKED (06 R169). -/
  anyCorrected : Bool
  /-- The running superframe began with the carrier in SERVICE and the phase LOCKED (04 R123). -/
  fromStart : Bool
  /-- Iterations had since both carriers began to compete for compute (01 R35). -/
  turns : Nat
  /-- The last released segment counted: its iterations, inner plus outer corrected bits, and whether it is uncorrected (14 R366). -/
  relIters : Nat
  relCorr : Nat
  relBad : Bool
  /-- Coded bits before SEG_PTR, still to be discarded (06 R178). -/
  skip : Nat
  /-- Line deframer: payload waiting, the last good LB_SEQ (06 R186), bits to drop before the first line block. -/
  lbQ : List Chunk
  lastSeq : Option Nat
  lbSkip : Nat
  /-- Words delivered to the client demapper, each with its errored mark. -/
  words : List (Nat × Bool)
  deriving DecidableEq, Repr

/-- The decoder after reset. -/
def FecState.reset : FecState :=
  { accepting := false, segs := [], outer := [], prev1 := none, prev2 := none, nextNo := 0, nextPhase := 0, startup := 0,
    predSeg := 0, predPhase := 0, misNow := false, misBefore := false, wNow := 6, earlyNow := true, ivSegs := 0, ivCoded := 0,
    ivCorr := 0, ivIters := 0, ivUncorr := 0, ivLen := 1000, anyCorrected := false, fromStart := false, turns := 0, relIters := 0, relCorr := 0, relBad := false, skip := 0, lbQ := [], lastSeq := none, lbSkip := 0,
    words := [] }

/-- A request for an exchange (05 R162, R164): the set, whether it is a step-down, and whether it is the early check after LOCKED. -/
structure LxReq where
  recs : List (Nat × Nat)
  down : Bool
  check : Bool
  deriving DecidableEq, Repr

/-- The standard firmware's exchange (05 R161 to R168). Near end: SEQ and tag of the exchange in progress, its edition, superframe N,
its request, whether it waits for the draft and since when, the further request held, the request that begins again after LOCKED, the
far slots as the last ACK or COMMIT showed them (tags, bits of byte 10), the fallback set and S for which retries are off, the far
end's S and fallback CRC as its messages showed them (0 not yet), and whether the first REPORT since LOCKED is awaited. Far end: SEQ and tag of the staging, what it awaits (1 the slot, 2 the
switch), and superframes left of the averaging window after a switch (05 R166). -/
structure LxState where
  seq : Nat
  tag : Nat
  edId : Nat
  n : Nat
  run : LxReq
  waiting : Bool
  askedAt : Nat
  held : Option LxReq
  again : Option LxReq
  farTag0 : Nat
  farTag1 : Nat
  farBits : Nat
  blocked : Option (List (Nat × Nat) × Nat)
  farS : Nat
  farCrc : Nat
  firstReport : Bool
  rxSeq : Nat
  rxTag : Nat
  rxWait : Nat
  reportIn : Nat
  /-- Capacity limit in force from the far end's level 3, in Mb/s (15 R385). -/
  capLimit : Option Nat
  deriving DecidableEq, Repr

/-- The exchange after reset. -/
def LxState.reset : LxState :=
  { seq := 0, tag := 0, edId := 0, n := 0, run := ⟨[], false, false⟩, waiting := false, askedAt := 0, held := none, again := none,
    farTag0 := 0, farTag1 := 0, farBits := 0, blocked := none, farS := 0, farCrc := 0, firstReport := false, rxSeq := 0, rxTag := 0, rxWait := 0, reportIn := 0,
    capLimit := none }

/-- One carrier. -/
structure CarrierState where
  tx : TxState
  rx : RxState
  fec : FecState
  lx : LxState
  deriving DecidableEq, Repr

/-- A carrier after reset. -/
def CarrierState.reset : CarrierState := ⟨TxState.reset, RxState.reset, FecState.reset, LxState.reset⟩

end Sys2Proof.Machine
end

