-- ==== Sys2Proof/Machine/StNet.lean ====
section
/-! DEFINITION. The parts of State behind the Traverse, the datum and the field book (spec 10, 14). -/

namespace Sys2Proof.Machine

/-- A Traverse frame (10 R285): its header fields and payload. -/
structure TvFrame where
  type : Nat
  bcast : Bool
  flood : Bool
  cls : Nat
  dst : Nat
  src : Nat
  hops : Nat
  epoch : Nat
  seq : Nat
  aux : Nat
  payload : List Byte
  deriving DecidableEq, Repr

/-- A frame in a link's queue or being sent: the frame, the receive buffer that still holds it (link, class, number) if it
is being forwarded, and whether its copy ends with K30.7 (10 R290). -/
structure TvOut where
  frame : TvFrame
  buf : Option (Nat × Nat × Nat)
  killed : Bool
  deriving DecidableEq, Repr

/-- A receiver's training of its partner (10 R283): the tap under test (2 post-cursor, 1 pre-cursor, 0 done), the direction
(1 INCREMENT, 2 DECREMENT), whether the other direction has been tried, the eye height before the step in mV, what it
waits for (0 nothing, 1 the response, 2 NOT_UPDATED), whether the step undoes another, and the response received. -/
structure TvTrain where
  tap : Nat
  dir : Nat
  tried : Bool
  base : Nat
  wait : Nat
  undo : Bool
  result : Nat
  deriving DecidableEq, Repr

/-- Training from its start. -/
def TvTrain.reset : TvTrain := ⟨2, 1, false, 0, 0, false, 0⟩

/-- One link (10): good training sets in a row, training, the request and response this side sends, both READY bits, the
transmitter's own taps (pre-cursor, post-cursor), credits held and last counts seen by class (R287, R288), credits returned by
class and the class the next idle set names, the queue (oldest first), the frame being sent, the second in-band copy still to
be sent, the last in-band frame received, the number of the next receive buffer, and the neighbour's last HELLO: time quality
and source, priority and hops to its root. -/
structure TvLink where
  good : Nat
  train : TvTrain
  request : Nat
  response : Nat
  selfReady : Bool
  peerReady : Bool
  taps : Nat × Nat
  credits : List Nat
  seen : List Nat
  returned : List Nat
  named : Nat
  queue : List TvOut
  sending : Option TvOut
  repeatDue : Bool
  lastRx : Option TvFrame
  nextBuf : Nat
  nbQuality : Nat
  nbPriority : Nat
  nbHops : Nat
  /-- The credit byte of the idle set sent last (10 R288), the eye heights in mV of the two lanes, and the training set being sent: the
  symbols of lane 0 and of lane 1, each a control or a data symbol (10 R282). -/
  idleByte : Nat
  eyes : Nat × Nat
  trainOut : List (Bool × Nat) × List (Bool × Nat)
  deriving DecidableEq, Repr

/-- A link after reset. -/
def TvLink.reset : TvLink :=
  { good := 0, train := TvTrain.reset, request := 0, response := 0, selfReady := false, peerReady := false, taps := (0, 4),
    credits := [0, 0, 0, 0], seen := [0, 0, 0, 0], returned := [0, 0, 0, 0], named := 0, queue := [], sending := none,
    repeatDue := false, lastRx := none, nextBuf := 0, nbQuality := 0, nbPriority := 0, nbHops := 255, idleByte := 0, eyes := (0, 0), trainOut := ([], []) }

/-- A frame delivered to this station, waiting for its service: the link it came on (5: this station itself) and its receive
timestamp in ns. -/
structure TvIn where
  frame : TvFrame
  link : Nat
  time : Rat
  deriving DecidableEq, Repr

/-- A Legend request held for a requester (10 R295): station, class, SEQ, and the request's bytes. -/
structure TvReq where
  src : Nat
  cls : Nat
  seq : Nat
  bytes : List Byte
  deriving DecidableEq, Repr

/-- The Traverse and the datum (10): links, EPOCH and next SEQ, duplicate control by source (EPOCH, SEQ), delivered
frames, held requests, the TRAVERSE view's next record for the event sink, triggers waiting (ID, instant, late), the datum's
fraction of a nanosecond, consecutive exchanges within 2 ns and beyond 10 ns, whether the next exchange is the first after a
wake, missing PPS edges in a row, the PPS_OUT pin, and the always-on accumulator (R301). -/
structure TvState where
  links : List TvLink
  epoch : Nat
  seq : Nat
  dedup : List (Nat × Nat × Nat)
  inbox : List TvIn
  reqs : List TvReq
  sinkPos : Nat
  trigs : List (Nat × Nat × Bool)
  frac : Rat
  near : Nat
  far : Nat
  woke : Bool
  ppsMissed : Nat
  ppsOut : Bool
  aonAcc : Rat
  /-- The integral part of the datum loop, in ppb (10 R297), and the group of the last GROUP_ARM this station sent, 0 once it is disarmed
  (10 R304). -/
  integ : Rat
  groupOut : Nat
  /-- The offset of the last exchange, in ns (10 R297; 14 R366). -/
  theta : Rat
  deriving DecidableEq, Repr

/-- The Traverse after reset. -/
def TvState.reset : TvState :=
  { links := List.replicate 5 TvLink.reset, epoch := 0, seq := 0, dedup := [], inbox := [], reqs := [], sinkPos := 0, trigs := [],
    frac := 0, near := 0, far := 0, woke := false, ppsMissed := 0, ppsOut := false, aonAcc := 0, integ := 0, groupOut := 0, theta := 0 }

/-- A record due for a ring (14 R367): its value, the shift in force, its time, the value of its probe update for the
threshold test (greatest and least). -/
structure FbDue where
  data : Nat
  shift : Nat
  time : Nat
  hi : Int
  lo : Int
  deriving DecidableEq, Repr

/-- A ring (14 R368 to R371): state, descriptor held since ARM, present shift, header flags and trigger fields, records
written since REARM, updates in the present group and its length, their least and greatest values, the write buffer, the
threshold reference (greatest and least of the record before), accepted triggers that wait for their record (source, time,
late), the instant of an outstanding broadcast, and the counters. -/
structure Ring where
  state : Nat
  desc : List Byte
  shift : Nat
  late : Bool
  wrapped : Bool
  shiftMax : Bool
  trigSource : Nat
  trigAbs : Option Nat
  trigTime : Nat
  doubleRec : Option Nat
  lastShift : Nat
  count : Nat
  inGroup : Nat
  groupLen : Nat
  least : Int
  greatest : Int
  buf : List FbDue
  ref : Option (Int × Int)
  waiting : List (Nat × Nat × Bool)
  bcast : Option Nat
  ignEarly : Nat
  ignRearm : Nat
  ignPost : Nat
  dropped : Nat
  deriving DecidableEq, Repr

/-- A ring in IDLE. -/
def Ring.idle : Ring :=
  { state := 0, desc := [], shift := 0, late := false, wrapped := false, shiftMax := false, trigSource := 0, trigAbs := none,
    trigTime := 0, doubleRec := none, lastShift := 0, count := 0, inGroup := 0, groupLen := 1, least := 0, greatest := 0,
    buf := [], ref := none, waiting := [], bcast := none, ignEarly := 0, ignRearm := 0, ignPost := 0, dropped := 0 }

/-- The field book (14): rings that are not as Ring.idle, trace memory by record slot (an unlisted slot has not been written
since power-on), the ring the writer served last, records written by microsecond, events that rings wait for (code, time),
readout cursors by source (ring, record), the time of the last FB_RECORD_BAD, and the TRIG_OUT pin. -/
structure FbState where
  rings : List (Nat × Ring)
  trace : List (Nat × Nat)
  lastGrant : Nat
  writes : List (Nat × Nat)
  evWait : List (Nat × Nat)
  cursors : List (Nat × Nat × Nat)
  lastBad : Option Nat
  trigOut : Bool
  deriving DecidableEq, Repr

/-- The field book after reset. -/
def FbState.reset : FbState :=
  { rings := [], trace := [], lastGrant := 0, writes := [], evWait := [], cursors := [], lastBad := none, trigOut := false }

/-- The code of the event a ring's descriptor names, where its EVENT source is selected (14 R365). -/
def Ring.eventCode (r : Ring) : Option Nat :=
  if (r.desc.getD 16 0).toNat / 2 % 2 = 1 then some ((r.desc.getD 18 0).toNat * 256 + (r.desc.getD 19 0).toNat) else none

/-- An event that some ring's EVENT source names is kept for the rings (14 R371). -/
def FbState.watch (f : FbState) (code time : Nat) : FbState :=
  if f.rings.any (fun r => r.2.eventCode = some code) then { f with evWait := f.evWait ++ [(code, time)] } else f

end Sys2Proof.Machine
end

