-- ==== Sys2Proof/Machine/StPow.lean ====
section
/-! DEFINITION. The parts of State behind thermal and power management, the always-on domain, resets and boot, integrity and
self-test (spec 15, 16, 18). -/

namespace Sys2Proof.Machine

/-- One thermal sensor (15 R377, R378): its last valid reading in 0.01 degrees, and consecutive samples far from its
neighbours' mean. -/
structure Sensor where
  last : Int
  apart : Nat
  deriving DecidableEq, Repr

/-- Thermal management (15): sensors; consecutive samples with nothing near a threshold (R377); consecutive samples at or
above and below the warning, throttle and throttle-plus-offset levels (R380, R382); datum of the first of the present run at or
above throttle; datum T last changed; end of the block of R379; the wired shutdown has tripped (R387). -/
structure ThermalState where
  sensors : List Sensor
  calm : Nat
  warnUp : Nat
  warnDown : Nat
  thrUp : Nat
  thrDown : Nat
  offUp : Nat
  thrSince : Nat
  changed : Nat
  blockEnd : Option Nat
  shutdown : Bool
  /-- The limit of the last CAP_LIMIT sent for each carrier, and when the first of its run was sent (R386). -/
  limitSent : List (Option Nat)
  deriving DecidableEq, Repr

/-- Thermal management after reset. -/
def ThermalState.reset : ThermalState :=
  { sensors := List.replicate 24 ⟨0, 0⟩, calm := 0, warnUp := 0, warnDown := 0, thrUp := 0, thrDown := 0, offUp := 0, thrSince := 0,
    changed := 0, blockEnd := none, shutdown := false, limitSent := [none, none] }

/-- Power management (15): consecutive updates with lost margin (R393); the carrier dropped in the present alarm; AVSBus attempts
without an answer in a row, the datum from which a Voltage read has been off, the datum by which the last request has slewed
(R394); the datum at which the idle timer last started (R397); Dormant entry in progress (R398). -/
structure PowerState where
  low : Nat
  dropped : Option Carrier
  noAnswer : Nat
  offSince : Option Nat
  slewEnd : Nat
  idleFrom : Option Nat
  entering : Bool
  /-- Levels at which TRIG_OUT and PPS_OUT are latched (R402). -/
  padTrig : Bool
  padPps : Bool
  /-- Level of LPMODE. -/
  lpmode : Bool
  deriving DecidableEq, Repr

/-- Power management after reset. -/
def PowerState.reset : PowerState :=
  { low := 0, dropped := none, noAnswer := 0, offSince := none, slewEnd := 0, idleFrom := none, entering := false,
    padTrig := false, padPps := false, lpmode := false }

/-- One line of the fault log (16 R414). -/
structure FaultLine where
  mem : Nat
  line : Nat
  cls : Nat
  count : Nat
  first : Nat
  last : Nat
  repeated : Bool
  deriving DecidableEq, Repr

/-- The always-on domain (15, 16, 18): the retention checkpoint; whether its lines check; the datum accumulator is in
State.tv; the crystal correction in 1/64 ns (R389); the shutdown record (R388); the fault log and the instants of integrity
resets (16 R414); the last-wake record is in its Legend entries. -/
structure AonState where
  retention : Option (List (Key × Int) × List (Key × List Byte))
  corr : Int
  record : List Byte
  log : List FaultLine
  intResets : List Nat
  deriving DecidableEq, Repr

/-- The always-on domain after power-on. -/
def AonState.reset : AonState := { retention := none, corr := 0, record := [], log := [], intResets := [] }

/-- Memory integrity (16): lines whose stored check fails (memory ID, line); cores that wait for a refetch, with the line
(R407); Legend-store lines being rebuilt and writes held meanwhile (R409); the last INT_MISMATCH per memory ID (R405). -/
structure IntegrityState where
  bad : List (Nat × Nat)
  refetch : List (Nat × Nat)
  rebuilding : List Nat
  repairs : List (Nat × Nat)
  lastRaised : List (Nat × Nat)
  deriving DecidableEq, Repr

/-- Integrity after reset. -/
def IntegrityState.reset : IntegrityState := { bad := [], refetch := [], rebuilding := [], repairs := [], lastRaised := [] }

/-- Start-up (18): rails above their thresholds, as 01.018; VAUX is present; the datum at reset entry and at reset release; the datum
is continuous through this reset (R451); a test on request running, code and target (16 R421); sub-ADC and sensor failures since
the last slice round (16 R419); this boot is a wake (15 R404); the slot being verified, whether the boot slot has failed, and
whether a load activated in FW_WAIT is being verified (R454). -/
structure BootState where
  rails : Nat
  vauxUp : Bool
  entered : Nat
  released : Nat
  capture : Bool
  test : Option (Nat × Nat)
  spareFailed : Bool
  sensorFailed : Bool
  waking : Bool
  verify : Option Nat
  fellBack : Bool
  fromWait : Bool
  deriving DecidableEq, Repr

/-- Start-up at reset: every rail is up. -/
def BootState.reset : BootState :=
  { rails := 31, vauxUp := true, entered := 0, released := 0, capture := false, test := none, spareFailed := false,
    sensorFailed := false, waking := false, verify := none, fellBack := false, fromWait := false }

end Sys2Proof.Machine
end

