-- ==== Sys2Proof/Machine/StSec.lean ====
section
/-! DEFINITION. The parts of State behind security and lifecycle: fuses, boot flash, nonces, attestation, the debug port
(spec 17, 18 R455). -/

namespace Sys2Proof.Machine

/-- A root slot's fuses (17 R423, R428): its digest (empty: all zero), seal and revocation. -/
structure RootFuse where
  digest : List Byte
  sealed : Bool
  revoked : Bool
  deriving DecidableEq, Repr

/-- The fuses (17 R423) and what is set when the part is made: the part, the lifecycle as 00.010 codes it, the serial number,
root slots, version floors, policy, the identity's digest and seal, and PUF_TWEAK. -/
structure FuseState where
  fgv1608 : Bool
  lifecycle : Nat
  serial : Nat
  roots : List RootFuse
  secverMin : Nat
  ctrlVerMin : Nat
  signPolicy : Bool
  idDigest : List Byte
  idSeal : Bool
  pufTweak : Bool
  deriving DecidableEq, Repr

/-- A blank FGV3208 (DESIGN CHOICE, log entry 2). -/
def FuseState.reset : FuseState :=
  { fgv1608 := false, lifecycle := 0, serial := 0, roots := List.replicate 4 ⟨[], false, false⟩, secverMin := 0, ctrlVerMin := 0,
    signPolicy := false, idDigest := [], idSeal := false, pufTweak := false }

/-- A bundle slot of the boot flash (18 R455): the manifest as programmed and its segments. -/
structure FlashSlot where
  manifest : List Byte
  segs : List (Nat × List Byte)
  deriving DecidableEq, Repr

/-- The boot flash (17, 18 R455): whether it answers; both boot-record copies as SEQ and slot, if valid; the slots; the key
block: root keys, controller certificates, the wrapped identity (the seed it was generated from and the tweak it was wrapped
under) and its public key, and the identity certificate; and the manifests of the bundles that are not Novryn's (log entry 131). -/
structure FlashState where
  present : Bool
  record0 : Option (Nat × Nat)
  record1 : Option (Nat × Nat)
  slotA : FlashSlot
  slotB : FlashSlot
  rootKeys : List (List Byte)
  certs : List (List Byte)
  identity : Option (Nat × Bool)
  idPub : List Byte
  idCert : List Byte
  foreign : List (List Byte)
  deriving DecidableEq, Repr

/-- An erased boot flash (DESIGN CHOICE, log entry 2). -/
def FlashState.reset : FlashState :=
  { present := true, record0 := none, record1 := none, slotA := ⟨[], []⟩, slotB := ⟨[], []⟩, rootKeys := List.replicate 4 [],
    certs := List.replicate 8 [], identity := none, idPub := [], idCert := [], foreign := [] }

/-- A fuse field being programmed, for the request that asked for it (17 R423, R427, R429, R440). -/
inductive FuseOp where
  | enroll (slot : Nat) (digest : List Byte)
  | revoke (slot : Nat)
  | secver (to_ : Nat)
  | ctrlVer (to_ : Nat)
  | signPolicy
  | lifecycle (target src : Nat)
  | identity
  deriving DecidableEq, Repr

/-- Security in operation (17): the nonce in force; the fuse field being programmed; the attestation report being signed. -/
structure SecState where
  nonce : List Byte
  fuseOp : Option FuseOp
  att : List Byte
  deriving DecidableEq, Repr

/-- Security after reset. -/
def SecState.reset : SecState := { nonce := [], fuseOp := none, att := [] }

/-- The debug port (17 R444, R445): the instruction register, the core selected, and the data that the next scan returns. -/
structure DebugState where
  ir : Nat
  sel : Nat
  data : Nat
  deriving DecidableEq, Repr

/-- The debug port after reset: BYPASS. -/
def DebugState.reset : DebugState := { ir := 0xFF, sel := 0, data := 0 }

end Sys2Proof.Machine
end

