-- ==== Sys2Proof/Machine/State.lean ====
section
/-! DEFINITION. The state of the block: every register, queue, counter, mode and pin the spec gives the device,
the queue of waiting commands, and the machine right after reset. -/

namespace Sys2Proof.Machine

/-- The machine never stops with a fault: every failure the spec describes is state (see INVENTORY, Faults). The
one constructor exists so that the type has a value; nothing raises it, which is safe. -/
inductive Fault where
  /-- Raised by nobody; safe. -/
  | none
  deriving DecidableEq, Repr

/-- Refusals. -/
inductive Refusal where
  /-- Raised by a dispatch arm whose command has no meaning yet; safe: the machine stops. -/
  | notModelled (mnemonic : String)
  deriving DecidableEq, Repr

/-- The state of the device. -/
structure State where
  /-- Legend store: values that differ from their defaults, in rising key order (00 R7 to R12). -/
  leg : List (Key × Int)
  /-- BLOB entries that are not empty, in rising key order. -/
  blobs : List (Key × List Byte)
  ev : EventState
  ports : PortState
  ed : EditionState
  carA : CarrierState
  carB : CarrierState
  clk : ClockState
  host : HostState
  hk : HkState
  tv : TvState
  fb : FbState
  th : ThermalState
  pw : PowerState
  aon : AonState
  integ : IntegrityState
  boot : BootState
  cores : CoreState
  fuse : FuseState
  flash : FlashState
  sec : SecState
  dbg : DebugState
  /-- The 64-bit datum in ns (10 R297). -/
  datum : Nat
  /-- Nanoseconds since reset: the model's own field, which no command steps. -/
  clock : Nat
  /-- Free values taken so far: the model's own field (Config.free). -/
  freeCtr : Nat
  /-- Commands waiting, first in first out. -/
  pending : List Instr
  deriving DecidableEq, Repr

/-- The machine right after reset. -/
def State.reset : State :=
  { leg := [(⟨0x01, 0x000, 0⟩, 1), (⟨0x01, 0x001, 0⟩, 1)]
    blobs := []
    ev := EventState.reset
    ports := PortState.reset
    ed := EditionState.reset
    carA := CarrierState.reset
    carB := CarrierState.reset
    clk := ClockState.reset
    host := HostState.reset
    hk := HkState.reset
    tv := TvState.reset
    fb := FbState.reset
    th := ThermalState.reset
    pw := PowerState.reset
    aon := AonState.reset
    integ := IntegrityState.reset
    boot := BootState.reset
    cores := CoreState.reset
    fuse := FuseState.reset
    flash := FlashState.reset
    sec := SecState.reset
    dbg := DebugState.reset
    datum := 0
    clock := 0
    freeCtr := 0
    pending := [] }

end Sys2Proof.Machine
end

