-- ==== Sys2Proof/Machine/Ops.lean ====
section
/-! DEFINITION. The named operations every meaning is built from: the Legend store, free values, events,
counters, and the helpers on lists, bits and bytes. -/

namespace Sys2Proof.Machine

/-- The outcome of a meaning. -/
abbrev Out := Host.Outcome State Fault Refusal

/-! ### Lists, bits and bytes -/

/-- A map kept as a list: the value of a number, or a default. -/
def aget {α : Type} (m : List (Nat × α)) (k : Nat) (d : α) : α :=
  match m with
  | [] => d
  | e :: t => if e.1 = k then e.2 else aget t k d

/-- A map kept as a list in rising order: a number takes a value. -/
def aput {α : Type} (m : List (Nat × α)) (k : Nat) (v : α) : List (Nat × α) :=
  match m with
  | [] => [(k, v)]
  | e :: t => if e.1 = k then (k, v) :: t else if k < e.1 then (k, v) :: e :: t else e :: aput t k v

/-- A map kept as a list: a number has no entry. -/
def adel {α : Type} (m : List (Nat × α)) (k : Nat) : List (Nat × α) := m.filter (fun e => e.1 ≠ k)

/-- The element of a list at a position, or a default. -/
def nth {α : Type} (l : List α) (i : Nat) (d : α) : α := l.getD i d

/-- Bits hi:lo of a number. -/
def bitsOf (n hi lo : Nat) : Nat := n / 2 ^ lo % 2 ^ (hi + 1 - lo)

/-- Bit i of a number. -/
def bitOf (n i : Nat) : Bool := n / 2 ^ i % 2 = 1

/-- A Bool as a bit. -/
def b2n (b : Bool) : Nat := if b then 1 else 0

/-- A Bool as a Legend value. -/
def b2i (b : Bool) : Int := if b then 1 else 0

/-- A number with bit i set or cleared. -/
def setBit (n i : Nat) (b : Bool) : Nat := n - n / 2 ^ i % 2 * 2 ^ i + b2n b * 2 ^ i

/-- An n-bit two's complement field as a signed number (00 R9). -/
def toSigned (w n : Nat) : Int := if n % 2 ^ w < 2 ^ (w - 1) then (n % 2 ^ w : Nat) else (n % 2 ^ w : Nat) - 2 ^ w

/-- The two's complement field of w bits of a number (00 R9). -/
def ofSigned (w : Nat) (v : Int) : Nat := (v % 2 ^ w).toNat

/-- The number a list of bytes spells, most significant byte first. -/
def beNat (bs : List Byte) : Nat := bs.foldl (fun a b => a * 256 + b.toNat) 0

/-- A number as n bytes, most significant byte first. -/
def beBytes : Nat → Nat → List Byte
  | 0, _ => []
  | n + 1, v => BitVec.ofNat 8 (v / 256 ^ n) :: beBytes n v

/-- A number as n bytes, least significant byte first. -/
def leBytes : Nat → Nat → List Byte
  | 0, _ => []
  | n + 1, v => BitVec.ofNat 8 v :: leBytes n (v / 256)

/-- The bits of a number, n of them, most significant first. -/
def bitList : Nat → Nat → List Bool
  | 0, _ => []
  | n + 1, v => bitOf v n :: bitList n v

/-- The number a list of bits spells, most significant first. -/
def bitNat (l : List Bool) : Nat := l.foldl (fun a b => a * 2 + b2n b) 0

/-- A value kept within limits. -/
def clampInt (v lo hi : Int) : Int := if v < lo then lo else if hi < v then hi else v

/-- A quotient in whole units whose rounding the spec does not state: exact where it is whole, else one of the two
neighbours, which is free (Config.roundUp). -/
def openDiv (n : Int) (d : Nat) : Int :=
  if n % d = 0 then n / d else n / d + b2i (Config.roundUp n d)

/-- n applications of a function. -/
def iter {α : Type} (f : α → α) : Nat → α → α
  | 0, a => a
  | n + 1, a => iter f n (f a)

/-! ### CRCs (00 R479) -/

/-- One bit into a CRC register of w bits that shifts most significant bit first. -/
def crcStep (w poly : Nat) (reg : Nat) (b : Bool) : Nat :=
  let top := bitOf reg (w - 1)
  let r := reg * 2 % 2 ^ w
  if top != b then r ^^^ poly else r

/-- CRC-16, polynomial 0x1021, initial value 0xFFFF, over bits (00 R479). -/
def crc16Bits (l : List Bool) : Nat := l.foldl (crcStep 16 0x1021) 0xFFFF

/-- CRC-16 over bytes (00 R479). -/
def crc16 (bs : List Byte) : Nat := crc16Bits (bs.flatMap (fun b => bitList 8 b.toNat))

/-- CRC-8, polynomial 0x07, initial value 0x00 (00 R479). -/
def crc8 (bs : List Byte) : Nat := (bs.flatMap (fun b => bitList 8 b.toNat)).foldl (crcStep 8 0x07) 0

/-- One byte into the reflected CRC-32C register (00 R479). -/
def crc32cByte (reg : Nat) (b : Byte) : Nat :=
  iter (fun r => if r % 2 = 1 then (r / 2) ^^^ 0x82F63B78 else r / 2) 8 (reg ^^^ b.toNat)

/-- CRC-32C of bytes (00 R479). -/
def crc32c (bs : List Byte) : Nat := (bs.foldl crc32cByte 0xFFFFFFFF) ^^^ 0xFFFFFFFF

/-! ### The Legend store -/

/-- Key order: area, then entry, then index. -/
def keyLt (a b : Key) : Bool :=
  a.area < b.area || (a.area = b.area && (a.entry < b.entry || (a.entry = b.entry && a.idx < b.idx)))

/-- The value listed for a key, if any. -/
def kfind {α : Type} (m : List (Key × α)) (k : Key) : Option α :=
  match m with
  | [] => none
  | e :: t => if e.1 = k then some e.2 else kfind t k

/-- A key takes a value in a list in rising key order. -/
def kins {α : Type} (m : List (Key × α)) (k : Key) (v : α) : List (Key × α) :=
  match m with
  | [] => [(k, v)]
  | e :: t => if e.1 = k then (k, v) :: t else if keyLt k e.1 then (k, v) :: e :: t else e :: kins t k v

/-- A key has no entry any more. -/
def kdel {α : Type} (m : List (Key × α)) (k : Key) : List (Key × α) := m.filter (fun e => e.1 ≠ k)

/-- The value of a Legend element in a store: the listed value, else its default (00 R11). -/
def legGet (m : List (Key × Int)) (k : Key) : Int := (kfind m k).getD (defaultOf k)

/-- A Legend element takes a value: a value equal to the default is not listed. -/
def legPut (m : List (Key × Int)) (k : Key) (v : Int) : List (Key × Int) :=
  if v = defaultOf k then kdel m k else kins m k v

/-- The value of a Legend element. -/
def State.rd (s : State) (k : Key) : Int := legGet s.leg k

/-- The value of a Legend element as a natural number. -/
def State.rdN (s : State) (k : Key) : Nat := (s.rd k).toNat

/-- Whether a B entry is 1. -/
def State.on (s : State) (k : Key) : Bool := s.rd k ≠ 0

/-- A Legend element takes a value. -/
def State.wr (s : State) (k : Key) (v : Int) : State := { s with leg := legPut s.leg k v }

/-- The bytes of a BLOB entry. -/
def State.blob (s : State) (k : Key) : List Byte := (kfind s.blobs k).getD []

/-- A BLOB entry takes bytes; an empty one is not listed. -/
def State.setBlob (s : State) (k : Key) (bs : List Byte) : State :=
  { s with blobs := if bs = [] then kdel s.blobs k else kins s.blobs k bs }

/-- Whether the keys of a Legend list rise strictly. -/
def kSorted {α : Type} : List (Key × α) → Bool
  | [] => true
  | [_] => true
  | a :: b :: t => keyLt a.1 b.1 && kSorted (b :: t)

/-- The canonical form of the Legend store: keys rise strictly and no listed value is the default. -/
def legWf (m : List (Key × Int)) : Bool := kSorted m && m.all (fun e => e.2 ≠ defaultOf e.1)

/-- The canonical form of the BLOB store. -/
def blobWf (m : List (Key × List Byte)) : Bool := kSorted m && m.all (fun e => e.2 ≠ [])

/-! ### Free values -/

/-- A fresh free value: one the spec does not fix (Config.free). -/
def State.freeVal (s : State) : Nat := Config.free s.freeCtr

/-- The fresh value is taken. -/
def State.tookFree (s : State) : State := { s with freeCtr := s.freeCtr + 1 }

/-- n fresh bytes. -/
def freeBytes (ctr : Nat) : Nat → List Byte
  | 0 => []
  | n + 1 => BitVec.ofNat 8 (Config.free ctr) :: freeBytes (ctr + 1) n

/-! ### Events (09 R258 to R261) -/

/-- 2^48 - 1, where 48-bit counters stop or wrap (09 R262). -/
def max48 : Nat := 281474976710655

/-- The absolute number of the next record. -/
def EventState.total (e : EventState) : Nat := e.base + e.recs.length

/-- The highest read position of any view: records before it may have been read. -/
def EventState.readMax (e : EventState) : Nat := e.views.foldl (fun m v => max m v.pos) e.base

/-- Where a record goes: behind every record with an earlier time, and behind records of the same nanosecond with a
code not above its own (09 R259); never before a record that a view may have read. -/
def insertRec (r : EventRec) (keep : Nat) : List EventRec → List EventRec
  | [] => [r]
  | x :: t =>
    match keep with
    | k + 1 => x :: insertRec r k t
    | 0 => if x.time = r.time ∧ r.code < x.code then r :: x :: t else x :: insertRec r 0 t

/-- A view that has fallen more than 1,024 records behind moves to the oldest record held (09 R259); the second
component says that a run of losses began. -/
def dropView (base : Nat) (v : ViewState) : ViewState × Bool :=
  if base ≤ v.pos then (v, false)
  else if v.run then ({ v with pos := base, lost := true }, false)
  else ({ v with pos := base, lost := true, run := true, lostCount := min (v.lostCount + 1) max48 }, true)

/-- One record into the queue of 1,024; answers how many views begin a run of losses. -/
def pushRec (r : EventRec) (e : EventState) : EventState × Nat :=
  let recs := insertRec r (e.readMax - e.base) e.recs
  let excess := recs.length - 1024
  let base := e.base + excess
  let vs := e.views.map (dropView base)
  ({ e with recs := recs.drop excess, base := base, views := vs.map Prod.fst }, (vs.filter Prod.snd).length)

/-- A record, and one EVENT_LOST for each view that thereby begins a run of losses; at most eight views can. -/
def pushAll (r lost : EventRec) (e : EventState) : Nat → Nat → EventState
  | 0, _ => e
  | _, 0 => e
  | fuel + 1, n + 1 =>
    let p := pushRec r e
    pushAll lost lost p.1 fuel (n + p.2)

/-- The datum's quality is not LOCKED, which event records show (10 R298). -/
def State.holdover (s : State) : Bool := s.rd K.datumQuality ≠ 0

/-- An event is raised with a key (09 R258, R259, R261); field-book rings see it (14 R371). -/
def State.raise (s : State) (code : Nat) (k : Key) : State :=
  let r : EventRec := ⟨s.datum, code, k.area, k.entry, k.idx, s.holdover, false⟩
  let l : EventRec := ⟨s.datum, Ev.eventLost, 0x03, 0x002, 0, s.holdover, false⟩
  { s with
    ev := { pushAll r l s.ev 9 1 with alarm := s.ev.alarm || severityOf code = 2 }
    fb := s.fb.watch code s.datum }

/-- The key of an event that names none: AREA 0xFF (09 R259). -/
def noKey : Key := ⟨0xFF, 0, 0⟩

/-! ### Counters (09 R262) -/

/-- A saturating counter advances by n; it raises COUNTER_SAT when it arrives at 2^48 - 1. -/
def State.bumpN (s : State) (k : Key) (n : Nat) : State :=
  let old := s.rdN k
  let new := min (old + n) max48
  let s' := s.wr k new
  if old < max48 ∧ new = max48 then s'.raise Ev.counterSat k else s'

/-- A saturating counter advances by one. -/
def State.bump (s : State) (k : Key) : State := s.bumpN k 1

/-- A wrapping counter advances by n; a wrap raises COUNTER_CARRY. -/
def State.wrapN (s : State) (k : Key) (n : Nat) : State :=
  let new := s.rdN k + n
  let s' := s.wr k (new % (max48 + 1) : Nat)
  if max48 < new then s'.raise Ev.counterCarry k else s'

/-- A 16-bit housekeeping sample counter advances by one and wraps silently. -/
def State.wrap16 (s : State) (k : Key) : State := s.wr k ((s.rdN k + 1) % 65536 : Nat)

/-! ### Carriers and device state -/

/-- One carrier's internal state. -/
def State.car (s : State) : Carrier → CarrierState
  | .a => s.carA
  | .b => s.carB

/-- A carrier's internal state changes. -/
def State.modCar (s : State) (c : Carrier) (f : CarrierState → CarrierState) : State :=
  match c with
  | .a => { s with carA := f s.carA }
  | .b => { s with carB := f s.carB }

/-- The transmitter of a carrier changes. -/
def State.modTx (s : State) (c : Carrier) (f : TxState → TxState) : State :=
  s.modCar c (fun x => { x with tx := f x.tx })

/-- The receiver of a carrier changes. -/
def State.modRx (s : State) (c : Carrier) (f : RxState → RxState) : State :=
  s.modCar c (fun x => { x with rx := f x.rx })

/-- The decoder of a carrier changes. -/
def State.modFec (s : State) (c : Carrier) (f : FecState → FecState) : State :=
  s.modCar c (fun x => { x with fec := f x.fec })

/-- The exchange of a carrier changes. -/
def State.modLx (s : State) (c : Carrier) (f : LxState → LxState) : State :=
  s.modCar c (fun x => { x with lx := f x.lx })

/-- A line die. -/
def State.die (s : State) : Carrier → DieState
  | .a => s.clk.dieA
  | .b => s.clk.dieB

/-- A line die changes. -/
def State.modDie (s : State) (c : Carrier) (f : DieState → DieState) : State :=
  match c with
  | .a => { s with clk := { s.clk with dieA := f s.clk.dieA } }
  | .b => { s with clk := { s.clk with dieB := f s.clk.dieB } }

/-- The carrier exists on this part: carrier B does not on the FGV1608 (00 R3). -/
def State.present (s : State) : Carrier → Bool
  | .a => true
  | .b => !s.fuse.fgv1608

/-- Carrier states of 20.000. -/
abbrev carOff : Int := 0
abbrev carStandby : Int := 1
abbrev carAcquire : Int := 2
abbrev carService : Int := 3

/-- Device states of 01.000 (18 R457). -/
abbrev devOff : Int := 0
abbrev devReset : Int := 1
abbrev devBoot : Int := 2
abbrev devOperational : Int := 3
abbrev devDormant : Int := 4
abbrev devSafe : Int := 5

/-- Receive phases of 22.001 (04 R130). -/
abbrev phIdle : Int := 0
abbrev phHunt : Int := 1
abbrev phSettle : Int := 2
abbrev phSync : Int := 3
abbrev phConfirm : Int := 4
abbrev phLocked : Int := 5
abbrev phHold : Int := 6

/-- The device is OPERATIONAL. -/
def State.operational (s : State) : Bool := s.rd K.deviceState = devOperational

/-- The carrier is in ACQUIRE or SERVICE. -/
def State.emitting (s : State) (c : Carrier) : Bool := 2 ≤ s.rd (K.carState c)

/-- The carrier's line die reports READY (08 R234), also while its PLL is in HOLDOVER (08 R229). -/
def State.dieReady (s : State) (c : Carrier) : Bool :=
  s.rd (K.pllState c.num) = 4 || s.rd (K.pllState c.num) = 5

/-- A core. -/
def State.core (s : State) (c : Nat) : Core := nth s.cores.cores c Core.reset

/-- A core changes. -/
def State.modCore (s : State) (c : Nat) (f : Core → Core) : State :=
  { s with cores := { s.cores with cores := s.cores.cores.modify c f } }

/-- An event bit becomes pending at the cores that receive it (11 R321). -/
def State.coreEvent (s : State) (bit : Nat) (who : Nat → Bool) : State :=
  (List.range 68).foldl (fun s c => if who c then s.modCore c (fun x => { x with events := setBit x.events bit true }) else s) s

/-- A test on request is running on this target (16 R420, R421). -/
def State.underTest (s : State) (code target : Nat) : Bool := s.boot.test = some (code, target)

/-- A command takes effect only if its condition holds; otherwise nothing changes. -/
def when (p : Bool) (s : State) (f : State → State) : State := if p then f s else s

end Sys2Proof.Machine
end

