-- ==== Sys2Proof/Machine/Reals.lean ====
section
/-! DEFINITION. Exponentials, logarithms in dB and the cosine, as the spec's formulas need them, in rational
arithmetic: series whose error is far below any step the entries can show. -/

namespace Sys2Proof.Machine

/-- ln 10 to 75 digits. -/
def ln10 : Rat := 2302585092994045684017991454684364207601101488628772976033327900967572609677 / 10 ^ 75

/-- ln 2 to 75 digits. -/
def ln2 : Rat := 693147180559945309417232121458176568075500134360255254120680009493393621969 / 10 ^ 75

/-- pi to 75 digits. -/
def piRat : Rat := 3141592653589793238462643383279502884197169399375105820974944592307816406286 / 10 ^ 75

/-- The sum of a series from its next term: term n + 1 is term n times x / (n + 1). -/
def expTerms (x : Rat) : Nat → Nat → Rat → Rat → Rat
  | 0, _, _, acc => acc
  | fuel + 1, n, term, acc => expTerms x fuel (n + 1) (term * x / (n + 1 : Nat)) (acc + term)

/-- e^x for |x| up to 12. -/
def expRat (x : Rat) : Rat := expTerms x 120 0 1 0

/-- 10^x. -/
def pow10 (x : Rat) : Rat := expRat (x * ln10)

/-- The terms of the cosine series. -/
def cosTerms (x2 : Rat) : Nat → Nat → Rat → Rat → Rat
  | 0, _, _, acc => acc
  | fuel + 1, n, term, acc => cosTerms x2 fuel (n + 2) (-term * x2 / (((n + 1) * (n + 2) : Nat) : Rat)) (acc + term)

/-- cos(pi p) for p from 0 to 1; 0 at 1/2. -/
def cosPi (p : Rat) : Rat := if p = 1 / 2 then 0 else cosTerms (piRat * p * piRat * p) 40 0 1 0

/-- The greatest n below a bound with a property that holds up to some n: a search by halving over 2^fuel numbers. -/
def greatest (ok : Nat → Bool) : Nat → Nat → Nat
  | 0, base => base
  | fuel + 1, base => if ok (base + 2 ^ fuel) then greatest ok fuel (base + 2 ^ fuel) else greatest ok fuel base

/-- 10 log10 of a ratio in 0.01 dB, between -1,000 and 4,000, rounded down. -/
def hundredthDb (num den : Nat) : Int :=
  (greatest (fun n => n ≤ 5000 && pow10 (((n : Int) - 1000 : Int) / 1000) * den ≤ num) 13 0 : Nat) - 1000

/-- A ratio in 0.01 dB whose rounding the spec does not state: the figure below it, or the one above unless it is
exact (Config.roundUp). -/
def openDb (num den : Nat) : Int :=
  let d := hundredthDb num den
  if pow10 (d / 1000) * den = num then d else d + b2i (Config.roundUp num den)

/-- 2^(k / 64), exact where 64 divides k. -/
def pow2sixty4 (k : Nat) : Rat := 2 ^ (k / 64) * (if k % 64 = 0 then 1 else expRat ((k % 64 : Nat) * ln2 / 64))

end Sys2Proof.Machine
end

