-- ==== Sys2Proof/Machine/Dsp.lean ====
section
/-! DEFINITION. The arithmetic of the datapath (spec 02 R64 to R72, 03 R83 to R118): complex values, roots, angles in turns,
logarithms, the root-raised-cosine pulse and discrete transforms. The spec gives the datapath by formulas over real numbers; they
are evaluated here in rational arithmetic to 30 decimals, and what a stage's own number format makes of a value is
`Config.held` (log entry 109). -/

namespace Sys2Proof.Machine

/-! ### Real functions -/

/-- A value to 30 decimals, rounded down. -/
def shortRat (x : Rat) : Rat := ((x * 10 ^ 30).floor : Rat) / 10 ^ 30

/-- The root of a value, to 30 decimals; exact for squares of short fractions; 0 for a value below 0. -/
def sqrtRat (x : Rat) : Rat := ((x.num.toNat * x.den * 10 ^ 60).sqrt : Rat) / (x.den * 10 ^ 30 : Nat)

/-- A real value in whole units whose rounding the spec does not state (Config.roundUp). -/
def openRat (x : Rat) : Int := openDiv x.num x.den

/-- The part of a number above its floor. -/
def fracRat (x : Rat) : Rat := x - x.floor

/-- The cosine of an angle in turns. -/
def cosTurn (t : Rat) : Rat :=
  let f := fracRat t
  shortRat (if 2 * f ≤ 1 then cosPi (2 * f) else cosPi (2 * (1 - f)))

/-- The sine of an angle in turns. -/
def sinTurn (t : Rat) : Rat := cosTurn (t - 1 / 4)

/-- The terms of the arc tangent's series. -/
def atanTerms (x2 : Rat) : Nat → Nat → Rat → Rat → Rat
  | 0, _, _, acc => acc
  | fuel + 1, n, pow, acc => atanTerms x2 fuel (n + 2) (-pow * x2) (acc + pow / (n : Rat))

/-- The arc tangent, in turns, of a value from 0 to 1: the argument is halved twice before the series. -/
def atanTurn (t : Rat) : Rat :=
  let half := fun (u : Rat) => shortRat (u / (1 + sqrtRat (1 + u * u)))
  let u := half (half t)
  shortRat (4 * atanTerms (u * u) 30 1 u 0 / (2 * piRat))

/-- The logarithms' series: twice the inverse hyperbolic tangent. -/
def atanhTerms (x2 : Rat) : Nat → Nat → Rat → Rat → Rat
  | 0, _, _, acc => acc
  | fuel + 1, n, pow, acc => atanhTerms x2 fuel (n + 2) (pow * x2) (acc + pow / (n : Rat))

/-- The natural logarithm of a value above 0; of 0, less than any the tables reach. -/
def lnRat (x : Rat) : Rat :=
  if x ≤ 0 then -1000
  else
    let k : Int := (x.num.toNat.log2 : Int) - x.den.log2
    let m : Rat := if 0 ≤ k then x / (2 ^ k.toNat : Nat) else x * (2 ^ (-k).toNat : Nat)
    let u := shortRat ((m - 1) / (m + 1))
    shortRat (k * ln2 + 2 * atanhTerms (u * u) 60 1 u 0)

/-- 10 log10 of a power, in 0.01 dB, before rounding; of no power, far below any entry's range. -/
def centiDb (p : Rat) : Rat := 1000 * lnRat p / ln10

/-! ### Complex values -/

/-- Sum. -/
def Cx.add (a b : Cx) : Cx := ⟨a.re + b.re, a.im + b.im⟩

/-- Difference. -/
def Cx.sub (a b : Cx) : Cx := ⟨a.re - b.re, a.im - b.im⟩

/-- Product. -/
def Cx.mul (a b : Cx) : Cx := ⟨a.re * b.re - a.im * b.im, a.re * b.im + a.im * b.re⟩

/-- Conjugate. -/
def Cx.conj (a : Cx) : Cx := ⟨a.re, -a.im⟩

/-- Product with a real number. -/
def Cx.smul (r : Rat) (a : Cx) : Cx := ⟨r * a.re, r * a.im⟩

/-- The square of the modulus. -/
def Cx.normSq (a : Cx) : Rat := a.re * a.re + a.im * a.im

/-- The sum of a list. -/
def Cx.sum (l : List Cx) : Cx := l.foldl Cx.add Cx.zero

/-- e^(j 2 pi t) for an angle in turns. -/
def Cx.turn (t : Rat) : Cx := ⟨cosTurn t, sinTurn t⟩

/-- The argument in turns, above -1/2 up to 1/2; 0 for zero. -/
def Cx.arg (z : Cx) : Rat :=
  let a := |z.re|
  let b := |z.im|
  if a = 0 ∧ b = 0 then 0
  else
    let first := if b ≤ a then atanTurn (b / a) else 1 / 4 - atanTurn (a / b)
    let up := if z.re < 0 then 1 / 2 - first else first
    if z.im < 0 then -up else up

/-- The angle in turns whose sine is a value from -1 to 1. -/
def arcsinTurn (x : Rat) : Rat := Cx.arg ⟨sqrtRat (1 - x * x), x⟩

/-- A complex value from whole Q15 parts. -/
def Cx.ofQ15 (p : Int × Int) : Cx := ⟨(p.1 : Rat) / 32768, (p.2 : Rat) / 32768⟩

/-- A part as Q15, its rounding not stated. -/
def q15 (x : Rat) : Int := clampInt (openRat (32768 * x)) (-32768) 32767

/-- Both parts as Q15. -/
def Cx.toQ15 (z : Cx) : Int × Int := (q15 z.re, q15 z.im)

/-- Both polarisations by one factor. -/
def Pol.mul (a : Cx) (p : Pol) : Pol := ⟨a.mul p.x, a.mul p.y⟩

/-- Sum. -/
def Pol.add (p q : Pol) : Pol := ⟨p.x.add q.x, p.y.add q.y⟩

/-- The sum of a list. -/
def Pol.sum (l : List Pol) : Pol := l.foldl Pol.add Pol.zero

/-- A complex value as the number format of a stage holds it (log entry 109). -/
def Cx.hold (stage : Nat) (z : Cx) : Cx := ⟨Config.held stage z.re, Config.held stage z.im⟩

/-- Both polarisations as the number format of a stage holds them. -/
def Pol.hold (stage : Nat) (p : Pol) : Pol := ⟨p.x.hold stage, p.y.hold stage⟩

/-! ### Pulses and transforms -/

/-- The root-raised-cosine pulse of roll-off b, of unit energy, at t symbol periods from its centre, truncated to 32 periods (02
R64, 03 R99). -/
def rrc (b t : Rat) : Rat :=
  let u := |t|
  if 16 < u then 0
  else if u = 0 then 1 - b + 4 * b / piRat
  else if 4 * b * u = 1 then
    b / sqrtRat 2 * ((1 + 2 / piRat) * sinTurn (1 / (8 * b)) + (1 - 2 / piRat) * cosTurn (1 / (8 * b)))
  else
    (sinTurn (u * (1 - b) / 2) + 4 * b * u * cosTurn (u * (1 + b) / 2)) / (piRat * u * (1 - 16 * b * b * u * u))

/-- Bin q of the forward transform of a block of n samples. -/
def dftBin (n : Nat) (xs : List Cx) (q : Nat) : Cx :=
  Cx.sum ((xs.zip (List.range n)).map (fun p => (Cx.turn (-(((q * p.2 : Nat) : Rat) / n))).mul p.1))

/-- The forward transform of a block, both polarisations. -/
def forward (n : Nat) (xs : List Pol) : List Pol :=
  (List.range n).map (fun q => ⟨dftBin n (xs.map Pol.x) q, dftBin n (xs.map Pol.y) q⟩)

/-- Sample i of the inverse transform of n bins. -/
def idftAt (n : Nat) (bins : List Cx) (i : Nat) : Cx :=
  Cx.smul (1 / n) (Cx.sum ((bins.zip (List.range n)).map (fun p => (Cx.turn (((i * p.2 : Nat) : Rat) / n)).mul p.1)))

/-- The frequency of bin q of n at a sample rate, negative above the middle. -/
def binFreq (n : Nat) (fs : Rat) (q : Nat) : Rat := (if 2 * q < n then (q : Rat) else (q : Rat) - n) * fs / n

/-- A stream delayed by a number of samples, whole or not, at position t: the interpolator's 16 taps about it (log entry 110). -/
def delayed (x : Int → Rat) (t : Int) (d : Rat) : Rat :=
  let k := d.floor
  ((List.range 16).map (fun i => Config.fracTap (fracRat d) i * x (t - k + 7 - i))).sum

end Sys2Proof.Machine
end

