-- ==== Sys2Proof/Machine/Codes.lean ====
section
/-! DEFINITION. The codes and sequences of the line: pseudo-random sequences, the BCH codes of 02 R52 and
06 R176, and the shaping matcher of 02 R60 to R63. -/

namespace Sys2Proof.Machine

/-! ### Pseudo-random sequences -/

/-- One step of the register of x^n + x^k + 1: the output bit and the next register. The output is the register's
oldest bit, bit n - 1; the new bit is the sum of taps n and k. -/
def prbsStep (n k : Nat) (reg : Nat) : Bool × Nat :=
  let out := bitOf reg (n - 1)
  (out, reg * 2 % 2 ^ n + b2n (out != bitOf reg (k - 1)))

/-- The first bits of a sequence from a seed. -/
def prbsBits (n k : Nat) (reg : Nat) : Nat → List Bool
  | 0 => []
  | m + 1 => (prbsStep n k reg).1 :: prbsBits n k (prbsStep n k reg).2 m

/-- A window of 256 bits of a cyclic sequence of a period, from an offset (02 R50, 04 R125). -/
def cyclic256 (n k period off : Nat) : List Bool :=
  let p := prbsBits n k (2 ^ n - 1) period
  let o := off % period
  (p.drop o ++ p ++ p).take 256

/-- The FAW of sub-carrier k: PRBS9 from bit 16k (02 R50). -/
def fawBits (k : Nat) : List Bool := cyclic256 9 5 511 (16 * k)

/-- The sync word of sub-carrier k: PRBS11 from bit 64k (04 R125). -/
def syncBits (k : Nat) : List Bool := cyclic256 11 9 2047 (64 * k)

/-- The pilot bits of sub-carrier k in a frame: 252 pilots of four bits, PRBS15 seeded 0x1000 + k (02 R51). -/
def pilotBits (k : Nat) : List Bool := prbsBits 15 14 (0x1000 + k) 1008

/-- The QPSK point of a bit pair, in units of 1/sqrt 2 (02 R49). -/
def qpsk (b0 b1 : Bool) : Int × Int := (1 - 2 * b2i b0, 1 - 2 * b2i b1)

/-- The scrambling words of a line block: 63 words of PRBS31 seeded 0x2AAAAA00 OR LB_SEQ (02 R58). -/
def scramble (seq : Nat) : List Nat :=
  let bs := prbsBits 31 28 (0x2AAAAA00 ||| seq % 256) (63 * 64)
  (List.range 63).map (fun i => bitNat ((bs.drop (64 * i)).take 64))

/-! ### BCH codes -/

/-- The product of two elements of GF(2^m), the field's primitive polynomial being prim. -/
def gfMul (m prim a b : Nat) : Nat :=
  (bitList m b).foldl (fun acc bit =>
    let d := acc * 2
    let d := if bitOf d m then d ^^^ prim else d
    if bit then d ^^^ a else d) 0

/-- Powers of an element of GF(2^m). -/
def gfPow (m prim a : Nat) : Nat → Nat
  | 0 => 1
  | n + 1 => gfMul m prim (gfPow m prim a n) a

/-- The power of an element of GF(2^m) with many squarings: the exponent bit by bit. -/
def gfExp (m prim a : Nat) (e : Nat) : Nat :=
  (bitList 14 e).foldl (fun acc bit =>
    let q := gfMul m prim acc acc
    if bit then gfMul m prim q a else q) 1

/-- The inverse of an element other than 0. -/
def gfInv (m prim a : Nat) : Nat := gfExp m prim a (2 ^ m - 2)

/-- The remainder of a word times x^r by a generator of degree r: the parity of a systematic code. -/
def polyParity (r gen : Nat) (info : List Bool) : Nat :=
  info.foldl (fun reg b =>
    let top := bitOf reg (r - 1)
    let s := reg * 2 % 2 ^ r
    if top != b then s ^^^ (gen % 2 ^ r) else s) 0

/-- Syndrome j of a received word, first bit highest degree. -/
def syndrome (m prim : Nat) (word : List Bool) (j : Nat) : Nat :=
  let aj := gfExp m prim 2 j
  word.foldl (fun acc b => (gfMul m prim acc aj) ^^^ b2n b) 0

/-- State of the Berlekamp-Massey recursion: the locator, the former locator, its length, the shift and the former
discrepancy. -/
structure BmState where
  c : List Nat
  b : List Nat
  l : Nat
  sh : Nat
  db : Nat
  deriving DecidableEq, Repr

/-- The sum of two polynomials over GF(2^m), the second shifted by sh and scaled. -/
def polyAddScaled (m prim : Nat) (c b : List Nat) (sh f : Nat) : List Nat :=
  let bs := List.replicate sh 0 ++ b.map (gfMul m prim f)
  (List.range (max c.length bs.length)).map (fun i => nth c i 0 ^^^ nth bs i 0)

/-- One step of the recursion with syndrome index n (from 0). -/
def bmStep (m prim : Nat) (syn : List Nat) (s : BmState) (n : Nat) : BmState :=
  let d := (List.range (s.l + 1)).foldl (fun acc i => if n < i then acc else acc ^^^ gfMul m prim (nth s.c i 0) (nth syn (n - i) 0)) 0
  if d = 0 then { s with sh := s.sh + 1 }
  else
    let f := gfMul m prim d (gfInv m prim s.db)
    let c' := polyAddScaled m prim s.c s.b s.sh f
    if 2 * s.l ≤ n then ⟨c', s.c, n + 1 - s.l, 1, d⟩ else { s with c := c', sh := s.sh + 1 }

/-- The value of a polynomial at a point of GF(2^m). -/
def polyAt (m prim : Nat) (c : List Nat) (x : Nat) : Nat :=
  c.reverse.foldl (fun acc a => (gfMul m prim acc x) ^^^ a) 0

/-- Bounded-distance decoding of a binary BCH code of designed distance 2t + 1: the corrected word and the number of
bits flipped, or none when no codeword lies within t bits. -/
def bchDecode (m prim t : Nat) (word : List Bool) : Option (List Bool × Nat) :=
  let syn := (List.range (2 * t)).map (fun j => syndrome m prim word (j + 1))
  if syn.all (· = 0) then some (word, 0)
  else
    let s := (List.range (2 * t)).foldl (bmStep m prim syn) ⟨[1], [1], 0, 1, 1⟩
    let n := word.length
    let pos := (List.range n).filter (fun i => polyAt m prim s.c (gfExp m prim 2 (2 ^ m - 1 - (n - 1 - i) % (2 ^ m - 1))) = 0)
    if s.l ≤ t ∧ pos.length = s.l then
      some ((List.range n).map (fun i => nth word i false != (pos.contains i)), s.l)
    else none

/-- The generator of the code of 02 R52: the product of the minimal polynomials of alpha^1 to alpha^14 over GF(2^7)
with x^7 + x^3 + 1, of degree 49. -/
def bchGen128 : Nat := 0x2c98011d8b04d

/-- The generator of the outer code of 06 R176, of degree 168. -/
def bchGenOuter : Nat := 0x120bba549566ba23004bf345d7adc79eae3330c560d

/-- The extended BCH (128, 78) codeword of 78 information bits (02 R52). -/
def bch128Encode (info : Nat) : Nat :=
  let c := info % 2 ^ 78 * 2 ^ 49 + polyParity 49 bchGen128 (bitList 78 info)
  c * 2 + (bitList 127 c).foldl (fun a b => (a + b2n b) % 2) 0

/-- Decoding of a 128-bit codeword (03 R111): the 78 information bits and the number of bits corrected, or none;
up to 7 errors in all 128 bits are corrected, an 8-error pattern that the parity bit exposes is not. -/
def bch128Decode (w : Nat) : Option (Nat × Nat) :=
  match bchDecode 7 137 7 (bitList 127 (w / 2)) with
  | none => none
  | some (cw, e) =>
    let par := cw.foldl (fun a b => (a + b2n b) % 2) 0
    let e' := if par = w % 2 then e else e + 1
    if e' ≤ 7 then some (bitNat (cw.take 78), e') else none

/-- The 168 parity bits of an information field (06 R176). -/
def outerParity (info : List Bool) : Nat := polyParity 168 bchGenOuter info

/-- Decoding of an information field of the outer code (06 R176), t = 12. -/
def outerDecode (info : List Bool) : Option (List Bool × Nat) :=
  bchDecode 14 ((2 ^ 14) ||| (2 ^ 10) ||| (2 ^ 6) ||| 3) 12 info

/-! ### The overhead and sounding words (02 R52, 04 R127) -/

/-- HCRC: CRC-16 over bits 155:32 of a word. -/
def hcrc (w : Nat) : Nat := crc16Bits ((bitList 156 w).take 124)

/-- A word with its HCRC in bits 31:16. -/
def withHcrc (w : Nat) : Nat := w + hcrc w * 65536

/-- The overhead word of a sub-carrier (02 R52). -/
def overheadWord (sfc fi activeEd swCd ibcLen : Nat) (bdi : Bool) (segPtr lbPtr ibc : Nat) : Nat :=
  withHcrc (sfc * 2 ^ 108 + fi * 2 ^ 102 + activeEd * 2 ^ 86 + swCd * 2 ^ 78 + ibcLen * 2 ^ 71 + b2n bdi * 2 ^ 70
    + segPtr * 2 ^ 56 + lbPtr * 2 ^ 44) + ibc

/-- The sounding word (04 R127). -/
def soundingWord (sfc si : Nat) (rxSync : Bool) (swCd station carrier : Nat) : Nat :=
  withHcrc (sfc * 2 ^ 108 + si * 2 ^ 101 + b2n rxSync * 2 ^ 100 + swCd * 2 ^ 92 + station * 2 ^ 80 + carrier * 2 ^ 79)

/-- The two codewords of a word: bits 155:78 on X, 77:0 on Y (02 R52). -/
def wordCodewords (w : Nat) : Nat × Nat := (bch128Encode (w / 2 ^ 78), bch128Encode (w % 2 ^ 78))

/-- A received copy (03 R111): the word if both codewords decode and HCRC checks, with the number of corrected and of
failed codewords; the in-band bytes are usable when codeword 1 decodes. -/
structure CopyResult where
  word : Option Nat
  ibc : Option Nat
  corrected : Nat
  failed : Nat
  deriving DecidableEq, Repr

/-- Decoding of one received copy (03 R111, R112). -/
def decodeCopy (cw : Nat × Nat) : CopyResult :=
  let d0 := bch128Decode cw.1
  let d1 := bch128Decode cw.2
  let cnt := fun (d : Option (Nat × Nat)) => match d with
    | none => (0, 1)
    | some (_, e) => (if e = 0 then 0 else 1, 0)
  let word := match d0, d1 with
    | some (a, _), some (b, _) =>
      let w := a * 2 ^ 78 + b
      if bitsOf w 31 16 = hcrc w then some w else none
    | _, _ => none
  ⟨word, d1.map (fun p => p.1 % 65536), (cnt d0).1 + (cnt d1).1, (cnt d0).2 + (cnt d1).2⟩

/-! ### The shaping matcher (02 R60 to R63) -/

/-- Amplitude levels of a grid (02 R62). -/
def gridLevels : Nat → List Nat
  | 0 => [1]
  | 1 => [1, 3]
  | _ => [1, 3, 5, 7]

/-- The largest k a grid admits (05 R145): 128 (1 + log2 L). -/
def gridMax : Nat → Nat
  | 0 => 128
  | 1 => 256
  | _ => 384

/-- How many sequences one position longer have each energy, as (energy minus length) / 8: all levels are odd, so the squares less 1
are multiples of 8. -/
def energyStep (levels p : List Nat) : List Nat :=
  let top := p.length + (levels.foldl max 1 ^ 2 - 1) / 8
  (List.range top).map (fun e => (levels.map (fun a =>
    let d := (a * a - 1) / 8
    if e < d then 0 else nth p (e - d) 0)).sum)

/-- The count tables of the matcher: for each length from 0 to n, how many sequences have each energy (02 R62, R63). -/
def countTables (levels : List Nat) : Nat → List (List Nat)
  | 0 => [[1]]
  | n + 1 =>
    let t := countTables levels n
    t ++ [energyStep levels (nth t n [1])]

/-- The sequence of a rank among those of one energy, in lexicographic order. The tables give the counts for each
remaining length, longest first. -/
def unrankLex (levels : List Nat) : List (List Nat) → Nat → Nat → List Nat
  | [], _, _ => []
  | tab :: rest, e, i =>
    -- tab: counts of the positions after this one
    let pick := levels.foldl (fun (st : Nat × Nat × Bool) a =>
      if st.2.2 then st
      else
        let d := (a * a - 1) / 8
        let n := if e < d then 0 else nth tab (e - d) 0
        if st.1 < n then (st.1, a, true) else (st.1 - n, st.2.1, false)) (i, levels.headD 1, false)
    let a := pick.2.1
    a :: unrankLex levels rest (e - (a * a - 1) / 8) pick.1

/-- The energy level and rank within it of a rank among all sequences. -/
def energyOf : List Nat → Nat → Nat → Nat × Nat
  | [], i, e => (e, i)
  | n :: t, i, e => if i < n then (e, i) else energyOf t (i - n) (e + 1)

/-- The amplitude sequence of rank i of length n in the order of 02 R62, by the count tables. -/
def unrank (levels : List Nat) (tabs : List (List Nat)) (n i : Nat) : List Nat :=
  let p := energyOf (nth tabs n [1]) i 0
  unrankLex levels ((List.range n).map (fun j => nth tabs (n - 1 - j) [1])) p.1 p.2

/-- The 128 signed amplitudes of a matcher block (02 R61, R62). -/
def matchBlock (t : MatchTable) (bits : List Bool) : List Int :=
  let signs := if 128 ≤ t.k then bits.take 128 else bits.take t.k ++ bits.take (128 - t.k)
  let amps := unrank (gridLevels t.grid) t.counts 128 (bitNat ((bits.drop 128).take (t.k - 128)))
  (List.range 128).map (fun j => (if nth signs j false then -1 else 1) * (nth amps j 1 : Int))

/-- The sum over a codebook of the energy of all its sequences: the 2^a of least energy of length 128 (02 R62, R63). -/
def codebookEnergy (counts : List Nat) (a : Nat) : Nat :=
  let step := fun (st : Nat × Nat) (p : Nat × Nat) =>
    let n := min st.1 p.1
    (st.1 - n, st.2 + n * (128 + 8 * p.2))
  ((counts.zip (List.range counts.length)).foldl step (2 ^ a, 0)).2

/-- The tables of one sub-carrier from the count tables of its grid: the scale c makes the mean energy of a symbol over the codebook 1
(02 R63), a block being 64 symbols. -/
def matchTable (counts : List (List Nat)) (r : Nat × Nat) : MatchTable :=
  ⟨r.1, r.2, counts, ((64 * 2 ^ (r.1 - 128) : Nat) : Rat) / (codebookEnergy (nth counts 128 [1]) (r.1 - 128) : Nat)⟩

/-- The matcher tables of a set, by sub-carrier; the count tables are computed once for each grid. -/
def LoadSet.matchTables (l : LoadSet) : List MatchTable :=
  let byGrid := (l.recs.map Prod.snd).dedup.map (fun g => (g, countTables (gridLevels g) 128))
  l.recs.map (fun r => matchTable (aget byGrid r.2 []) r)

end Sys2Proof.Machine
end

