-- ==== Sys2Proof/Machine/Requests.lean ====
section
/-! DEFINITION. Legend requests (09 R244 to R257, R278): sources and views, clamping, the wire form, the checks
every request meets, the answer it is given, RW and draft writes, and the journal. -/

namespace Sys2Proof.Machine

/-- The view of a source (09 R247); surveyor cores have none. -/
def viewOf (src : Nat) : Option Nat :=
  if src = 1 then some 0 else if src = 2 then some 1 else if src = 3 then some 2
  else if 0x1000 ≤ src ∧ src ≤ 0x1003 then some (4 + (src - 0x1000))
  else if 0x3000 ≤ src ∧ src ≤ 0x3FFF then some 3
  else none

/-- The source is a plotter core. -/
def isPlotter (src : Nat) : Bool := 0x1000 ≤ src && src ≤ 0x1003

/-- The management port of a source: 0 SPI, 1 MDIO, 2 two-wire. -/
def portOf (src : Nat) : Option Nat :=
  if src = 1 then some 0 else if src = 2 then some 1 else if src = 3 then some 2 else none

/-- The shared entries 34.010 and 34.011 are 24.010 and 24.011 (00 R3, 06). -/
def canonKey (k : Key) : Key :=
  if k.area = 0x34 ∧ (k.entry = 0x010 ∨ k.entry = 0x011) then { k with area := 0x24 } else k

/-! ### Clamping (09 R245) -/

/-- A number clamped to the nearest a + n s within the range; ties go low. -/
def clampStep (lo hi : Int) (step : Nat) (v : Int) : Int :=
  if v ≤ lo then lo
  else
    let top := lo + (hi - lo) / step * step
    if top ≤ v then top
    else
      let q := (v - lo) / step
      let r := (v - lo) % step
      if r * 2 ≤ step then lo + q * step else lo + (q + 1) * step

/-- A signed 16-bit field of a packed entry, clamped on its own (02 R71). -/
def clampField (lim : Int) (v : Nat) : Nat := ofSigned 16 (clampInt (toSigned 16 v) (-lim) lim)

/-- A ROUTE nibble: 0 to 4, or 0xF; ties go low (10, entry 50.010). -/
def clampNibble (n : Nat) : Nat := if n ≤ 4 then n else if n ≤ 9 then 4 else 15

/-- The range of a host lane tap by its number (07 R215); c(0) follows the others. -/
def tapRange : Nat → Int × Int
  | 0 => (-16, 8)
  | 1 => (-48, 8)
  | 2 => (64, 128)
  | 3 => (-32, 8)
  | 4 => (-16, 8)
  | _ => (-8, 8)

/-- The bits of a value as an unsigned field of w bits. -/
def fieldOf (w : Nat) (v : Int) : Nat := (v % 2 ^ w).toNat

/-- The value an entry takes when a value is written: R245, with the packed entries of 02 R71, 10 50.010,
12 60.030, 16 79.020, 17 7A.00A, 05 23.013 and 14 68.010 field by field. -/
def clampKey (k : Key) (v : Int) : Int :=
  match k.area, k.entry with
  | 0x20, 0x060 | 0x30, 0x060 => (fieldOf 32 v : Nat)
  | 0x20, 0x061 | 0x30, 0x061 =>
    ((clampField 1023 (fieldOf 32 v / 65536)) * 65536 + clampField 1023 (fieldOf 32 v) : Nat)
  | 0x20, 0x001 | 0x30, 0x001 => if v ≤ 0 then 0 else if v ≤ 2 then 1 else 3
  | 0x10, 0x005 => clampInt v (tapRange (k.idx % 6)).1 (tapRange (k.idx % 6)).2
  | 0x10, 0x037 => if v ≤ 5 then 0 else if v < 10 then 10 else clampInt v 0 40
  | 0x50, 0x010 => (clampNibble (bitsOf (fieldOf 8 v) 7 4) * 16 + clampNibble (bitsOf (fieldOf 8 v) 3 0) : Nat)
  | 0x60, 0x030 =>
    let w := fieldOf 16 v
    (min (w / 16384) 2 * 16384 + w / 256 % 2 * 256 + min (w % 128) 74 : Nat)
  | 0x79, 0x020 => let w := fieldOf 16 v; (min (w / 256) 7 * 256 + min (w % 256) 15 : Nat)
  | 0x7A, 0x00A => let w := fieldOf 16 v; (min (max (w / 256) 1) 8 * 256 + min (w % 256) 7 : Nat)
  | 0x23, 0x013 | 0x33, 0x013 => let w := fieldOf 64 v; (min (w / 2 ^ 56) 3 * 2 ^ 56 + w % 2 ^ 48 : Nat)
  | 0x68, 0x010 =>
    let w := fieldOf 64 v
    (min (w / 2 ^ 60) 4 * 2 ^ 60 + w / 2 ^ 32 % 2 ^ 15 * 2 ^ 32 + w % 2 ^ 15 : Nat)
  | _, _ =>
    match rowOf k with
    | none => v
    | some r => if r.type = .b then (if v = 0 then 0 else 1) else clampStep r.lo r.hi r.step v

/-! ### Wire form (09 R249) -/

/-- Bytes of an entry's wire form. -/
def wireWidth (k : Key) : Nat :=
  match rowOf k with
  | some r => r.type.wireBytes
  | none => 0

/-- The wire form of a scalar. -/
def wireOf (k : Key) (v : Int) : List Byte := beBytes (wireWidth k) (fieldOf (8 * wireWidth k) v)

/-- The value of a scalar's wire form. -/
def ofWire (k : Key) (bs : List Byte) : Int :=
  match rowOf k with
  | some r => if r.type.signed then toSigned (8 * r.type.wireBytes) (beNat bs) else (beNat bs : Nat)
  | none => 0

/-- The wire form of an element (09 R277). -/
def wireVal (k : Key) : Val → List Byte
  | .num v => wireOf k v
  | .blob bs => bs

/-! ### Answers -/

/-- The answer given to a source's request is held for it (09 R249); a new answer replaces an old one. -/
def State.reply (s : State) (src : Nat) (st : Status) (data : List Byte) (total : Nat) : State :=
  { s with ports := { s.ports with
      replies := aput s.ports.replies src ⟨st, data, total⟩
      spiPending := s.ports.spiPending || src = 1 } }

/-- The answer of a write. -/
def State.ack (s : State) (src : Nat) (st : Status) : State := s.reply src st [] 0

/-- The answer held for a source. -/
def State.replyOf (s : State) (src : Nat) : Reply := aget s.ports.replies src ⟨.busy, [], 0⟩

/-- A port whose bit in 08.000 is 0 ignores all traffic (09 R257). -/
def State.portOpen (s : State) (src : Nat) : Bool :=
  match portOf src with
  | some p => bitOf s.ports.enableNow p
  | none => true

/-- The request reaches the Legend store and is counted there (09 R257); its source is the one served last (09 R248). -/
def State.countReq (s : State) (src : Nat) : State :=
  let s : State := { s with ports := { s.ports with lastSrc := src } }
  match portOf src with
  | some p => s.wrapN (K.requestCount p) 1
  | none => s

/-- The first check a request fails: lifecycle (09 R246, 17 R425), key, index, class (09 R244, R246). -/
def State.gate (s : State) (k : Key) (write : Bool) : Option Status :=
  if s.fuse.lifecycle = 4 ∧ k.area ≠ 0x00 ∧ k.area ≠ 0x03 ∧ k.area ≠ 0x7A then some .lifecycle
  else if s.fuse.lifecycle = 4 ∧ write = true ∧ ¬ (k.area = 0x00 ∧ k.entry = 0x013) then some .access
  else if k.area = 0x7F ∧ s.fuse.lifecycle ≠ 1 ∧ s.fuse.lifecycle ≠ 3 then some .lifecycle
  else
    match rowOf k with
    | none => some .noKey
    | some r =>
      if r.count ≤ k.idx then some .index
      else if write = true ∧ r.access = .ro then some .access
      else if write = false ∧ r.access = .cmd then some .access
      else none

/-- On the FGV1608 writes to RW and CMD entries of areas 30 to 34 are accepted and have no effect (00 R3); the
shared entries are canonical keys of area 24 by then. -/
def State.absent (s : State) (k : Key) : Bool := s.fuse.fgv1608 && 0x30 ≤ k.area && k.area ≤ 0x34

/-- The management ports and the Traverse are without power: the device is OFF, or SAFE after a thermal shutdown
(15 R387, 18 R458). -/
def State.portsDead (s : State) : Bool :=
  s.rd K.deviceState = devOff || (s.rd K.deviceState = devSafe && s.th.shutdown)

/-- A request on a management port or from a Traverse station restarts a running idle timer (15 R397). -/
def State.idleRestart (s : State) (src : Nat) : State :=
  if src ≤ 3 || 0x3000 ≤ src then { s with pw := { s.pw with idleFrom := s.pw.idleFrom.map (fun _ => s.datum) } } else s

/-- A write request that has passed its port's checks (09 R482): the common checks, then its effect, whose status is
the answer. Before the store is ready SPI and MDIO answer BUSY and the two-wire port does not acknowledge (R257). An FGV1608
discards a write to carrier B's RW and CMD entries with OK before it looks at the length (00 R3; log entry 123). -/
def State.request (s : State) (src : Nat) (k : Key) (eff : State → State × Status) : State :=
  if s.portOpen src = false ∨ s.portsDead = true then s
  else if s.ports.ready = false then (if src = 3 then s.idleRestart src else (s.idleRestart src).ack src .busy)
  else
    let s1 := (s.idleRestart src).countReq src
    match s1.gate (canonKey k) true with
    | some st => s1.ack src st
    | none =>
      if s1.absent (canonKey k) ∧ (rowOf k).any (fun r => r.access ≠ .ed) then s1.ack src .ok
      else
        let p := eff s1
        p.1.ack src p.2

/-! ### The journal (09 R278) -/

/-- Bytes of an element record. -/
def elemSize (e : Key × Val) : Nat := 7 + (wireVal e.1 e.2).length

/-- Bytes of a log record. -/
def JRec.size : JRec → Nat
  | .edition _ _ _ _ _ es => 28 + (es.map elemSize).sum
  | .rw _ _ k v => 12 + elemSize (k, v)

/-- The stored values a checkpoint holds: those of ED and RW entries. -/
def stored {α : Type} (m : List (Key × α)) : List (Key × α) :=
  m.filter (fun e => match rowOf e.1 with
    | some r => r.access = .ed || r.access = .rw
    | none => false)

/-- A new checkpoint in a copy: its log is empty. -/
def State.checkpointCopy (s : State) (j : JournalCopy) : JournalCopy :=
  { j with chkLeg := stored s.leg, chkBlobs := stored s.blobs, log := [] }

/-- A checkpoint into A and then B. -/
def State.checkpoint (s : State) : State :=
  ({ s with ed := { s.ed with journalA := s.checkpointCopy s.ed.journalA, journalB := s.checkpointCopy s.ed.journalB } }).wr
    K.journalRecords 0

/-- A record appended to copy A and then to copy B; when a log passes 1,024 records or 256 KiB a new checkpoint is
written and ED_JOURNAL_CHECKPOINT raised. -/
def State.journal (s : State) (r : JRec) : State :=
  let s1 := { s with ed := { s.ed with
    journalA := { s.ed.journalA with log := s.ed.journalA.log ++ [r] }
    journalB := { s.ed.journalB with log := s.ed.journalB.log ++ [r] } } }
  let log := s1.ed.journalA.log
  if 1024 < log.length ∨ 262144 < (log.map JRec.size).sum then
    s1.checkpoint.raise Ev.edJournalCheckpoint K.journalRecords
  else s1.wr K.journalRecords (log.length : Nat)

/-- An RW entry takes a value: the write is stored and journalled. -/
def State.rwStore (s : State) (src : Nat) (k : Key) (v : Int) : State :=
  (s.wr k v).journal (.rw src s.datum k (.num v))

/-- An RW BLOB entry takes bytes. -/
def State.rwBlob (s : State) (src : Nat) (k : Key) (bs : List Byte) : State :=
  (s.setBlob k bs).journal (.rw src s.datum k (.blob bs))

/-- The effect of a plain RW write: the clamped value is stored (09 R245, R246). -/
def rwEffect (src : Nat) (k : Key) (v : Int) (s : State) : State × Status :=
  (s.rwStore src (canonKey k) (clampKey k v), .ok)

/-! ### Draft writes (09 R266, R267) -/

/-- The number of elements of a draft's list that a key already has. -/
def hasElem (es : List (Key × Val)) (k : Key) : Bool := (kfind es k).isSome

/-- A source's right to the draft (09 R266). -/
def State.ownerCheck (s : State) (src : Nat) : Option Status :=
  match s.ed.draft with
  | none => some .noDraft
  | some d => if d.owner = src then none else some .draftOwned

/-- The owner writes an ED element: it is stored clamped, and the draft is OPEN (09 R266); beyond 8,192 elements the
write is answered DRAFT_FULL (R267). -/
def draftEffect (src : Nat) (k : Key) (v : Val) (s : State) : State × Status :=
  match s.ed.draft with
  | none => (s, .noDraft)
  | some d =>
    if d.owner ≠ src then (s, .draftOwned)
    else if hasElem d.elems k = false ∧ 8192 ≤ d.elems.length then (s, .draftFull)
    else
      let v' := match v with
        | .num n => Val.num (clampKey k n)
        | .blob b => .blob b
      ({ s with ed := { s.ed with draft := some { d with validated := false, elems := kins d.elems k v' } } }, .ok)

/-- A view changes. -/
def EventState.modView (e : EventState) (v : Nat) (f : ViewState → ViewState) : EventState :=
  { e with views := e.views.modify v f }

/-- A view. -/
def State.view (s : State) (v : Nat) : ViewState := nth s.ev.views v ViewState.reset

/-- The snapshot that covers an area for a source's view (09 R263). -/
def State.snapOf (s : State) (src area : Nat) : Option (List (Key × Int)) :=
  match viewOf src with
  | some v => if (s.view v).snapArea = area ∨ (s.view v).snapArea = 0xFF then (s.view v).snap else none
  | none => none

/-- The records a view has not read, oldest first, each with its absolute number; dropped records are none (09 R259, 16 R411). -/
def EventState.unread (e : EventState) (v : ViewState) : List (Nat × EventRec) :=
  ((e.recs.zipIdx.map (fun p => (e.base + p.2, p.1))).drop (v.pos - e.base)).filter (fun p => !p.2.gone)

/-! ### Ends of drafts (09 R266, R277, R279) -/

/-- An outcome enters the history, most recent first, of 16 (09 R279). -/
def State.addHist (s : State) (h : HistRec) : State := { s with ed := { s.ed with hist := (h :: s.ed.hist).take 16 } }

/-- The open draft ends: 02.017 is emptied and 50.050 returns to 0 (09 R266, R277; 10 R303). -/
def State.dropDraft (s : State) : State :=
  (({ s with ed := { s.ed with draft := none } }).setBlob K.edSignature []).wr K.draftGroup 0

/-- The open draft ends with a result, 4 DISCARDED or 5 EXPIRED, and a reason (09 R266, R279; 16 R409). -/
def State.endDraft (s : State) (result reason : Nat) : State :=
  match s.ed.draft with
  | none => s
  | some d =>
    (s.addHist ⟨d.id, d.owner, result, reason, s.datum, 0xFF, d.elems.length, 0, 0⟩).dropDraft.raise
      (if result = 5 then Ev.edDraftExpired else Ev.edDraftDiscarded) noKey

/-- A draft that a source owns is discarded (11 R325). -/
def State.discardOwned (s : State) (src : Nat) : State :=
  if s.ed.draft.any (fun d => d.owner = src) then s.endDraft 4 0 else s

/-- A state with the elements of an edition in place of its own values. -/
def State.putElems (s : State) (es : List (Key × Val)) : State :=
  es.foldl (fun s e => match e.2 with
    | .num v => s.wr (canonKey e.1) v
    | .blob bs => s.setBlob (canonKey e.1) bs) s

/-- A state as the applied entries have it, no change of 20.010 or 20.011 waiting for a superframe boundary: what an edition is checked
against (09 R268). -/
def State.settled (s : State) : State :=
  (s.modTx .a (fun t => { t with held := none })).modTx .b (fun t => { t with held := none })

end Sys2Proof.Machine
end

