-- ==== Sys2Proof/Machine/HostView.lean ====
section
/-! DEFINITION. What the rest of the device shares of the host engine (spec 07 R193, R202, R206, R208): lanes and clients, the
carrier each takes, its status code and the fault its egress presents. Client i is Ethernet client i for i below 8, and slot
i - 8 from 8 on. -/

namespace Sys2Proof.Machine

/-- A lane. -/
def State.lane (s : State) (n : Nat) : Lane := nth s.host.lanes n Lane.reset

/-- A lane changes. -/
def State.modLane (s : State) (n : Nat) (f : Lane → Lane) : State :=
  { s with host := { s.host with lanes := s.host.lanes.modify n f } }

/-- A client. -/
def State.client (s : State) (i : Nat) : Client := nth s.host.clients i Client.reset

/-- A client changes. -/
def State.modClient (s : State) (i : Nat) (f : Client → Client) : State :=
  { s with host := { s.host with clients := s.host.clients.modify i f } }

/-! ### Clients, rates and carriers (07 R192, R193) -/

/-- The type of client c is one of the Ethernet types. -/
def State.isEth (s : State) (c : Nat) : Bool := 1 ≤ s.rd (K.clientType c) && s.rd (K.clientType c) ≤ 4

/-- Lanes of a type's group at a lane rate; 0 where the type is not allowed (07 R193). -/
def groupSize (type : Nat) (rate : Nat) : Nat :=
  match type with
  | 1 => if rate = 0 then 0 else 1
  | 2 => if rate = 0 then 1 else 2
  | 3 => if rate = 0 then 2 else 4
  | 4 => if rate = 0 then 4 else 8
  | 5 => 1
  | _ => 0

/-- The lanes of client c. -/
def State.groupLanes (s : State) (c : Nat) : List Nat :=
  (List.range (groupSize (s.rdN (K.clientType c)) (s.rdN (K.laneRate c)))).map (c + ·) |>.filter (· < 8)

/-- Nominal rate of an Ethernet type in Gb/s. -/
def typeRate : Nat → Nat
  | 1 => 200
  | 2 => 400
  | 3 => 800
  | 4 => 1600
  | _ => 0

/-- Nominal rate of client i in Gb/s. -/
def State.nominal (s : State) (i : Nat) : Nat := if i < 8 then typeRate (s.rdN (K.clientType i)) else 25

/-- The carrier that client i is mapped to. -/
def State.clientCar (s : State) (i : Nat) : Option Carrier :=
  if i < 8 then
    if s.isEth i then (if s.rd (K.clientCarrier i) = 1 then some .b else some .a) else none
  else if 136 ≤ i then none
  else if s.rd (K.slotMap (i - 8)) = 1 then some .a
  else if s.rd (K.slotMap (i - 8)) = 2 then some .b
  else none

/-- The priority of client i (07 R206). -/
def State.clientPrio (s : State) (i : Nat) : Nat := s.rdN (K.clientPrio (if i < 8 then i else (i - 8) / 16))

/-- 11.031: the nominal rate mapped to a carrier, in Mb/s. -/
def State.demand (s : State) (c : Carrier) : Nat :=
  1000 * ((List.range 136).map (fun i => if s.clientCar i = some c then s.nominal i else 0)).sum

/-- Slots of a lane at its rate (07 R193). -/
def State.slotCount (s : State) (n : Nat) : Nat := if s.rd (K.laneRate n) = 0 then 16 else 8

/-- The clients of lane n: the Ethernet client whose group it is in, or its slots. -/
def State.laneClients (s : State) (n : Nat) : List Nat :=
  (List.range 8).filter (fun c => s.isEth c && (s.groupLanes c).contains n)
    ++ (if s.rd (K.clientType n) = 5 then (List.range 16).map (fun k => 8 + 16 * n + k) else [])

/-- The clients of a carrier. -/
def State.carClients (s : State) (c : Carrier) : List Nat :=
  (List.range 8).flatMap fun n =>
    (if s.rd (K.clientType n) = 5 then (List.range 16).map (fun k => 8 + 16 * n + k) else [n]).filter (fun i => s.clientCar i = some c)

/-- The lanes of client i. -/
def State.lanesOf (s : State) (i : Nat) : List Nat := if i < 8 then s.groupLanes i else [(i - 8) / 16]

/-- Whether client i's carrier maps clients now: 20.000 reads SERVICE (07 R208). -/
def State.mapping (s : State) (i : Nat) : Bool := (s.clientCar i).any (fun c => s.rd (K.carState c) = carService)

/-! ### Status of the ingress (07 R202) -/

/-- CODE of client i's status: 1 LOCAL_FAULT, 2 REMOTE_FAULT, 0 OK. -/
def State.statusCode (s : State) (i : Nat) : Nat :=
  let ls := s.lanesOf i
  if ls.any (fun n => !s.on (K.rxSignal n) || !s.on (K.pcsAligned n) || (s.lane n).hostFault = 1) then 1
  else if ls.any (fun n => (s.lane n).hostFault = 2) || (8 ≤ i && bitOf (s.lane ((i - 8) / 16)).fail ((i - 8) % 16)) then 2
  else 0

/-- A status packet waits on a carrier. -/
def State.queueStatus (s : State) (c : Carrier) (p : Packet) : State :=
  match c with
  | .a => { s with host := { s.host with statusA := s.host.statusA ++ [p] } }
  | .b => { s with host := { s.host with statusB := s.host.statusB ++ [p] } }

/-- Client i's status packet with its present CODE waits on its carrier, if that maps clients (07 R202, R208). It carries the SEQ
last assigned and assigns none, since it overtakes packets that hold theirs (log entry 36). -/
def State.sendStatus (s : State) (i : Nat) : State :=
  let code := s.statusCode i
  let s1 := s.modClient i (fun x => { x with code := code })
  match s.clientCar i with
  | none => s1
  | some c =>
    if s.mapping i then
      s1.queueStatus c ⟨2, if i < 8 then i else i - 8, ((s.client i).seq + 255) % 256, 0, false, code, []⟩
    else s1

/-- A change of client i's CODE sends its status (07 R202). -/
def State.watchCode (s : State) (i : Nat) : State := if s.statusCode i = (s.client i).code then s else s.sendStatus i

/-- What lane n shows has changed: the status of its clients follows (07 R202). -/
def State.laneFollow (s : State) (n : Nat) : State := (s.laneClients n).foldl State.watchCode s

/-! ### What the egress presents (07 R208) -/

/-- A demapper is in SYNC. -/
def Demap.synced : Demap → Bool
  | .hunt => false
  | .presync _ _ => false
  | .sync _ _ _ => true
  | .syncHeader => true

/-- The fault client i's egress presents: 0 none, 1 Local Fault, 2 Remote Fault. -/
def State.presented (s : State) (i : Nat) : Nat :=
  match s.clientCar i with
  | none => 1
  | some c =>
    let x := s.client i
    let d := if c = .a then s.host.demapA else s.host.demapB
    let delivering := s.rd (K.carState c) = carService && s.rd (K.acqPhase c) = phLocked && s.rd (K.decAlign c) = 2
    if !delivering || !d.synced || !x.alive then 1 else if x.outCode = 1 then 1 else if x.outCode = 2 then 2 else 0

/-- The key a client's fault events carry. -/
def faultKey (i : Nat) : Key := if i < 8 then K.clientStatus i else K.slotMap (i - 8)

/-- A change of client i's egress fault raises its event. -/
def State.evalFault (s : State) (i : Nat) : State :=
  let now := (s.clientCar i).isSome && s.presented i ≠ 0
  let was := (s.client i).faulted
  if now = was then s
  else (s.modClient i (fun x => { x with faulted := now })).raise (if now then Ev.clientFaultOn else Ev.clientFaultOff) (faultKey i)

/-- What is waiting at client i's ingress is discarded and counted as drops (07 R206, R208). -/
def State.dropQueue (s : State) (i : Nat) : State :=
  let n := (s.client i).queue.length
  let s := if i < 8 then s.bumpN (K.inDrop i) n else s.bumpN (K.slotInDrop (i - 8)) n
  s.modClient i (fun x => { x with queue := [], deficit := 0 })

/-- 20.000, 22.001, 24.023 or the demapper of a carrier has changed: outside SERVICE its clients' packets are dropped and counted and
no status waits; the faults its clients present follow (07 R208). -/
def State.hostFollow (s : State) (c : Carrier) : State :=
  let ids := s.carClients c
  let s :=
    if s.rd (K.carState c) = carService then s
    else
      let s := ids.foldl State.dropQueue s
      if c = .a then { s with host := { s.host with statusA := [] } } else { s with host := { s.host with statusB := [] } }
  ids.foldl State.evalFault s

end Sys2Proof.Machine
end

