-- ==== Sys2Proof/Machine/Carrier.lean ====
section
/-! DEFINITION. Operations shared by the chapters of one carrier: its configuration, loading sets and capacity
(05 R145, R146), squelch (02 R76), contour (02 R74), and the moves between carrier states and receive phases
(04 R121, R130, R131, R140). -/

namespace Sys2Proof.Machine

/-! ### Configuration -/

/-- R in MBd in force: 20.010, or while a change made in STANDBY waits for the superframe boundary the value before it (02 R48). -/
def State.symRate (s : State) (c : Carrier) : Nat :=
  match (s.car c).tx.held with
  | some h => h.1
  | none => s.rdN (K.symbolRate c)

/-- S, the number of sub-carriers in force: 20.011, or the value before a change that waits (02 R48). -/
def State.subs (s : State) (c : Carrier) : Nat :=
  match (s.car c).tx.held with
  | some h => 2 ^ h.2
  | none => 2 ^ s.rdN (K.subcarriers c)

/-- The exact sample rate in MS/s (02 R44, 03 R82). -/
def exactRate (r : Nat) : Rat := if r ≤ 252000 then 4 * (r : Rat) / 3 else 7 * (r : Rat) / 6

/-- The sample rate of a symbol rate in MS/s, rounded down: 4R/3 up to 252,000 MBd, 7R/6 above (02 R44). -/
def sampleRate (r : Nat) : Nat := if r ≤ 252000 then 4 * r / 3 else 7 * r / 6

/-- The code rate as a fraction (02 R59): 4/5, 5/6, 20/23. -/
def codeRate : Nat → Nat × Nat
  | 0 => (4, 5)
  | 1 => (5, 6)
  | _ => (20, 23)

/-- The first S records of a set. -/
def LoadSet.sumK (l : LoadSet) (subs : Nat) : Nat := ((l.recs.take subs).map Prod.fst).sum

/-- Coded bits of a superframe: 15,624 times the sum of k (02 R60). -/
def LoadSet.codedBits (l : LoadSet) (subs : Nat) : Nat := 15624 * l.sumK subs

/-- kappa in nm/GHz at a wavelength in pm: lambda^2 / c, which is 8.008e-3 at 1,550 nm (03 R87, R120; R89's limit of 103,826 ps/nm). -/
def kappaOf (wl : Int) : Rat := (8008 : Rat) / 1000000 * ((wl : Rat) / 1550000) ^ 2

/-- Coded rate in Mb/s times 8,192 * 64 * S: C_coded = 2 (R/S) (7,812/8,192) sum H (05 R146). -/
def codedScaled (r sumK : Nat) : Nat := 2 * r * 7812 * sumK

/-- Payload capacity in Mb/s, rounded down (05 R146). -/
def capacityOf (r subs oh sumK : Nat) : Nat :=
  63 * (codeRate oh).1 * codedScaled r sumK / (64 * (codeRate oh).2 * (8192 * 64 * subs))

/-- Payload capacity of a set on a carrier. -/
def State.capacity (s : State) (c : Carrier) (l : LoadSet) : Nat :=
  capacityOf (s.symRate c) (s.subs c) (s.rdN (K.fecOh c)) (l.sumK (s.subs c))

/-- The edited set (05 R150): 23.040 and 23.041 with tag 23.012. -/
def State.editedSet (s : State) (c : Carrier) : LoadSet :=
  ⟨s.rdN (K.txEditedTag c), (List.range 32).map (fun i => (s.rdN (K.txLoading c i), s.rdN (K.txGrid c i)))⟩

/-- The fallback set (05 R150): 23.044 and 23.045 with tag 0. -/
def State.fallbackSet (s : State) (c : Carrier) : LoadSet :=
  ⟨0, (List.range 32).map (fun i => (s.rdN (K.fbLoading c i), s.rdN (K.fbGrid c i)))⟩

/-- A set image (05 R161): 32 records of k low byte, k high byte, grid code. -/
def LoadSet.image (l : LoadSet) : List Byte :=
  l.recs.flatMap (fun p => [BitVec.ofNat 8 p.1, BitVec.ofNat 8 (p.1 / 256), BitVec.ofNat 8 p.2])

/-- R145: every record s < S has k from 64 to what its grid admits. -/
def LoadSet.legal (l : LoadSet) (subs : Nat) : Bool :=
  (l.recs.take subs).all (fun p => 64 ≤ p.1 && p.1 ≤ gridMax p.2)

/-- A superframe's length in ns: 64 * 8,192 * S / R (02 R47), exact. -/
def State.superframeNs (s : State) (c : Carrier) : Rat := ((64 * 8192 * 1000 * s.subs c : Nat) : Rat) / (s.symRate c : Nat)

/-- How much of the running superframe has passed, in ns. -/
def State.elapsedNs (s : State) (c : Carrier) : Rat := min ((s.clock - (s.car c).tx.sfStart : Nat) : Rat) (s.superframeNs c)

/-- Time from now to the start of superframe n, in ns; numbers wrap at 2^48 (02 R48). -/
def State.leadNs (s : State) (c : Carrier) (n : Nat) : Rat :=
  ((n + (max48 + 1) - s.rdN (K.txSfc c)) % (max48 + 1) : Nat) * s.superframeNs c - s.elapsedNs c

/-- The first superframe that starts at least a time from now. -/
def State.firstAfter (s : State) (c : Carrier) (ns : Nat) : Nat :=
  (s.rdN (K.txSfc c) + ((ns + s.elapsedNs c) / s.superframeNs c).ceil.toNat) % (max48 + 1)

/-- 11.030 is 1 while 23.015 is below 1,000 x 20.014; each change raises its event (07 R207). -/
def State.evalShortfall (s : State) (c : Carrier) : State :=
  let short := s.capacity c (s.car c).tx.cur < 1000 * s.rdN (K.linePayload c)
  let old := s.on (K.shortfall c.num)
  let s1 := s.wr (K.shortfall c.num) (b2i short)
  if short && !old then s1.raise Ev.hostShortfallOn (K.shortfall c.num)
  else if !short && old then s1.raise Ev.hostShortfallOff (K.shortfall c.num)
  else s1

/-! ### Squelch (02 R76, R77) -/

/-- 20.041: the squelch sources asserted. -/
def State.squelchSrc (s : State) (c : Carrier) : Nat :=
  let t := (s.car c).tx
  let any := !s.operational || s.on (K.squelchSw c) || t.ocLatch || t.thermal || t.txdis
  b2n (!s.operational) * 32 + b2n (s.on (K.squelchSw c)) * 16 + b2n t.ocLatch * 8 + b2n t.thermal * 4 + b2n t.txdis * 2
    + b2n any

/-- A squelch source is asserted. -/
def State.squelched (s : State) (c : Carrier) : Bool := s.squelchSrc c % 2 = 1

/-- The sample at which the stream to the DAC channels stands (02 R72). -/
def TxState.sampleNow (t : TxState) : Nat := t.sample.foldl max 0

/-- The contour takes a position from the present sample on; eight are kept, more than stage 9 reaches back (02 R68, R74). -/
def TxState.setPos (t : TxState) (p : Rat) : TxState := { t with pos := p, gains := (t.sampleNow, p) :: t.gains.take 7 }

/-- The contour goes to DARK with p = 0 at once (02 R74); a transmitter outside ACQUIRE and SERVICE then sends nothing (R43). -/
def State.contourDark (s : State) (c : Carrier) : State :=
  let on := s.emitting c
  ((s.modTx c (fun t => { t.setPos 0 with sending := if on then t.sending else .nothing })).wr (K.contourState c) 0).wr (K.contourGain c) 0

/-! ### Stage 9's causes (02 R70, R480; 01 R40, R41) -/

/-- The companion carrier is emitting (01 R40). -/
def State.companionOn (s : State) (c : Carrier) : Bool := s.present c.other && s.emitting c.other

/-- 20.054 shows the causes, stage 9 being bypassed or not: bit 4 the companion is squelched and its contribution held at zero, 3 the
symbol rates differ, 2 the throttle bypasses, 1 the cross-phase and 0 the self-phase term active; a change of bit 1 raises its
event (02 R480). -/
def State.nlcShow (s : State) (c : Carrier) (bypass throttle : Bool) : State :=
  let zero := (s.car c).tx.xpmZero && s.squelched c.other
  let differ := s.present c.other && s.symRate c ≠ s.symRate c.other
  let xpm := !bypass && s.companionOn c && !differ && !zero
  let st := b2n zero * 16 + b2n differ * 8 + b2n throttle * 4 + b2n xpm * 2 + b2n (!bypass)
  let old := bitOf (s.rdN (K.nlcStatus c)) 1
  let s := (s.modTx c (fun t => { t with nlcBypass := bypass, xpmZero := zero })).wr (K.nlcStatus c) (st : Nat)
  if old && !xpm then s.raise Ev.txNlcXpmLost (K.nlcStatus c)
  else if !old && xpm then s.raise Ev.txNlcXpmRestored (K.nlcStatus c)
  else s

/-- At a 512-sample block boundary the bypass follows 20.050 and 70.020 (02 R70). -/
def State.evalNlc (s : State) (c : Carrier) : State :=
  let throttle := 2 ≤ s.rd K.throttleLevel
  s.nlcShow c (s.rd (K.nlcEnable c) = 0 || throttle) throttle

/-- The companion's state, squelch or symbol rate changes: the cross-phase term follows, the bypass stands until the next block
boundary (01 R40, R41). -/
def State.evalXpm (s : State) (c : Carrier) : State :=
  if s.present c then s.nlcShow c (s.car c).tx.nlcBypass (bitOf (s.rdN (K.nlcStatus c)) 2) else s

/-- What follows a change of the squelch sources, bit 0 having been `old`: rising raises TX_SQUELCH_ON, counts and
darkens the contour; falling raises TX_SQUELCH_OFF (02 R74, R77), and the companion's cross-phase term returns (R480). -/
def State.afterSquelch (s : State) (c : Carrier) (old : Bool) : State :=
  if s.squelched c then
    let s1 := if old then s else (s.bump (K.squelchCount c)).raise Ev.txSquelchOn (K.squelchSrc c)
    s1.contourDark c
  else if old then (s.raise Ev.txSquelchOff (K.squelchSrc c)).evalXpm c.other
  else s

/-- A change of state that may change the squelch sources of both carriers (02 R76 bit 5): device state. -/
def State.withDeviceState (s : State) (st : Int) : State :=
  let oa := s.squelched .a
  let ob := s.squelched .b
  let s1 := s.wr K.deviceState st
  let s2 := s1.afterSquelch .a oa
  if s.present .b then s2.afterSquelch .b ob else s2

/-! ### Dispersion search (03 R94, R95) -/

/-- The first trial, step and number of trials of a search with the values present (03 R94): exchanged limits, and the
smallest step that fits 8,001 trials. -/
def searchPlan (lo hi : Int) (step : Nat) : Int × Nat × Nat :=
  let a := min lo hi
  let b := max lo hi
  let span := (b - a).toNat
  let st := if 8000 < span / step then span / 8001 + 1 else step
  (a, st, span / st + 1)

/-- A search starts, or starts again, with the values present (03 R94, R95). -/
def State.startSearch (s : State) (c : Carrier) : State :=
  let p := searchPlan (s.rd (K.cdSearchMin c)) (s.rd (K.cdSearchMax c)) (s.rdN (K.cdSearchStep c))
  ((s.wr (K.cdSearchStep c) (p.2.1 : Nat)).wr (K.cdSearchState c) 1).modRx c (fun r => { r with search := some p, cdFine := false, trialMetrics := [], hops := 0 })

/-- The standard firmware is running: the bundle that runs (58.000) is Novryn's (00 R6; log entry 131). -/
def State.firmware (s : State) : Bool := s.rd K.fwState = 1 && !s.flash.foreign.contains s.cores.running

/-! ### Receive phase -/

/-- 22.001 takes a phase. -/
def State.setPhase (s : State) (c : Carrier) (p : Int) : State := (s.wr (K.acqPhase c) p).hostFollow c

/-- Bit b of 21.001 takes a value. -/
def State.rxStatusBit (s : State) (c : Carrier) (b : Nat) (v : Bool) : State :=
  s.wr (K.rxStatus c) (setBit (s.rdN (K.rxStatus c)) b v : Nat)

/-- f_common takes a value in kHz; 21.064 is the sum with the coarse value (03 R108). -/
def State.setCommon (s : State) (c : Carrier) (f : Int) : State :=
  (s.wr (K.crCommonFreq c) f).wr (K.crTotalFreq c) (s.rd (K.coarseFreq c) + f)

/-- f_common is set to 0: its loop starts afresh, and stands neither at its limit nor within 90 % of its range (03 R108, R110; 04
R131). -/
def State.zeroCommon (s : State) (c : Carrier) : State :=
  ((s.modRx c (fun r => { r with common := 0, commonInt := 0, crLimit := false })).setCommon c 0).rxStatusBit c 2 false

/-- Adaptation by CMA, as HUNT, SETTLE and SYNC have it (03 R102, 04 R131). -/
def State.toCma (s : State) (c : Carrier) : State := (s.modRx c (fun r => { r with cma := true })).rxStatusBit c 4 false

/-- Symbols and soft values that the receiver holds of frames are dropped: their frame alignment is gone. -/
def RxState.dropFrames (r : RxState) : RxState :=
  { r with eqOut := [], outPos := [], eqPos := [], syms := [], soft := [], slotU := 0, llrs := []
           cr := r.cr.map (fun e => (e.1, { e.2 with pilots := [], wait := [], last := none })) }

/-- The bytes of the centre spike of 03 R102: tap 16 of XX and of YY is 1, as the largest Q15. -/
def centreSpike : List Byte :=
  let zeros : Nat → List Byte := fun n => List.replicate n 0
  zeros 64 ++ [0xFF, 0x7F] ++ zeros 62 ++ zeros 256 ++ zeros 64 ++ [0xFF, 0x7F] ++ zeros 62

/-- Sub-carrier k's taps go to a centre spike and its rotator to identity (03 R102, R104). -/
def State.resetTaps (s : State) (c : Carrier) (k : Nat) : State :=
  (s.setBlob (K.eqTaps c k) centreSpike).modRx c (fun r =>
    { r with rot := adel r.rot k, singRun := adel r.singRun k, shiftRun := adel r.shiftRun k, cr := adel r.cr k })

/-- Every equaliser of the carrier goes to a centre spike, adapting by CMA (03 R102). -/
def State.resetAllTaps (s : State) (c : Carrier) : State :=
  ((List.range (s.subs c)).foldl (fun s k => s.resetTaps c k) s).toCma c

/-- Transition into HUNT (04 R131): coarse frequency unfrozen, f_common 0; RX_SYNC follows the phase. -/
def State.toHunt (s : State) (c : Carrier) : State :=
  (((s.setPhase c phHunt).zeroCommon c).modRx c (fun r =>
    { r.dropFrames with frozen := false, sinceDet := 0, failRun := 0, fawPass := 0, fawFail := 0, metrics := [] })).toCma c

/-! ### FEC acceptance (06 R185) -/

/-- All segments in flight are released, uncounted, and their line blocks discarded (06 R185). -/
def State.fecStop (s : State) (c : Carrier) : State :=
  let s1 := s.modFec c (fun f => { f with
    accepting := false, segs := [], outer := [], prev1 := none, prev2 := none, misNow := false, misBefore := false, lbQ := [], fromStart := false, skip := 0 })
  ((s1.wr (K.decSlots c) 0).wr (K.decAlign c) 0).hostFollow c

/-! ### Carrier states (04 R121) -/

/-- 20.000 takes a state; each change raises CAR_STATE_CHANGE, the host clients follow (07 R208), and the
companion's cross-phase term does (01 R40). -/
def State.setCar (s : State) (c : Carrier) (st : Int) : State :=
  if s.rd (K.carState c) = st then s
  else (((s.wr (K.carState c) st).raise Ev.carStateChange (K.carState c)).hostFollow c).evalXpm c.other

/-- A pending transmit switch is cancelled (05 R154); SW_CD returns to 0 at the next superframe boundary (02 R55). -/
def State.cancelPending (s : State) (c : Carrier) : State :=
  s.modTx c (fun t => { t with pend := none, nextTables := none })

/-- The current set is the fallback set, and no previous set is held (05 R150, R151); 11.030 follows (07 R207). Frames still sent keep
their set, ACTIVE_ED and SW_CD until a superframe boundary (02 R55). -/
def State.toFallback (s : State) (c : Carrier) : State :=
  let fb := s.fallbackSet c
  (s.modTx c (fun t => { t with cur := fb, prev := fb, prevEmpty := true })).evalShortfall c

/-- The number of the sounding that starts next in the running superframe: sounding j starts at symbol period 4,096 j (04 R124). -/
def State.nextSounding (s : State) (c : Carrier) : Nat := (128 * s.elapsedNs c / s.superframeNs c).ceil.toNat

/-- Stages 3 to 9 of a receiver that starts afresh (03 R96): timing recovery with phase and frequency 0, and nothing in its filters
or queues. -/
def RxState.restart (r : RxState) : RxState :=
  { r.dropFrames with timing := TimingState.reset, bank := [], bankBase := 0, bankNext := 0, eqIn := [], cr := [] }

/-- STANDBY to ACQUIRE (04 R121, R130, R131; 03 R96, R102): equalisers to a centre spike, timing recovery restarts, phase HUNT,
soundings from the next sounding start. The contour rises from its present position if it was falling (02 R74). Entering with
22.006 = SEARCH, the standard firmware starts a dispersion search (04 R142). -/
def State.enterAcquire (s : State) (c : Carrier) : State :=
  let s := s.setCar c carAcquire
  let s := s.resetAllTaps c
  let s := (s.wr (K.trOffset c) 0).wr (K.trLock c) 0 |>.rxStatusBit c 5 false
  let s := s.toHunt c
  let s := s.modRx c (fun r => { r.restart with acqEntry := s.clock, frameWait := false })
  let s := s.modTx c (fun t => { t with sending := .soundings, switchN := none, returnPending := false, frameNo := s.nextSounding c })
  let s := if s.rd (K.contourState c) = 3 then s.wr (K.contourState c) 1 else s
  if s.firmware && s.rd (K.acqCdPolicy c) = 0 then s.startSearch c else s

/-- ACQUIRE or SERVICE to STANDBY (04 R121): any announced switch is cancelled, the contour falls from its present
position, decoder slots are released, the receive phase is IDLE, timing recovery holds no state (03 R96). What the mapper had ready
is not sent: frames of the fall carry fill only (02 R43); with the contour DARK already nothing is sent. -/
def State.leaveLine (s : State) (c : Carrier) : State :=
  let s := s.setCar c carStandby
  let s := s.cancelPending c
  let dark := s.rd (K.contourState c) = 0
  let s := s.modTx c (fun t => { t with
    switchN := none, returnPending := false, clientQ := [], sending := if dark then .nothing else t.sending })
  let s := s.toFallback c
  let s := if s.rd (K.contourState c) = 1 || s.rd (K.contourState c) = 2 then s.wr (K.contourState c) 3 else s
  let s := s.fecStop c
  let s := s.setPhase c phIdle
  let s := s.modRx c (fun r => { r.restart with frameWait := false, frozen := false })
  let s := (s.wr (K.trLock c) 0).rxStatusBit c 5 false
  s.rxStatusBit c 0 false

/-- P of the line PLL for a sample rate in MS/s (08 R225). -/
def pllRatio (fs : Rat) : Nat := if 168000 ≤ fs then 1 else if 84000 ≤ fs then 2 else 4

/-- The frequency the VCO is to run at, in MHz: P F_s / 8 (08 R225). -/
def vcoFreq (fs : Rat) : Rat := pllRatio fs * fs / 8

/-- The divider in units of 1/2^24 of REFCLK's 312.5 MHz, rounded to the nearest (08 R225). -/
def pllWord (fs : Rat) : Nat := (vcoFreq fs * 2 ^ 24 / (625 / 2) + 1 / 2).floor.toNat

/-- The frequency a divider gives, in MHz: 312.5 (N + F / 2^24) (08 R225). -/
def DieState.vco (d : DieState) : Rat := 625 / 2 * (d.divN + (d.divF : Rat) / 2 ^ 24)

/-- The elastic buffers of a die are empty and start again at half full (01 R26, 08 R234). -/
def DieState.emptyBuffers (d : DieState) : DieState :=
  { d with adcDrop := [false, false, false, false], adcBuf := [[], [], [], []], adcOn := [false, false, false, false]
           dacBuf := [[], [], [], []], dacOn := [false, false, false, false] }

/-- The line die's lock sequence starts at step 1 (08 R230), or waits for a good REFCLK (R229), with the divider of the present sample
rate (R225); spare rotation stops. -/
def State.startLock (s : State) (c : Carrier) : State :=
  let ok := s.rd K.refclkStatus = 0
  let fs := exactRate (s.symRate c)
  (s.modDie c (fun d => { d.emptyBuffers with
    visiting := false, waitRef := !ok, ratio := pllRatio fs, divN := pllWord fs / 2 ^ 24, divF := pllWord fs % 2 ^ 24 })).wr
    (K.pllState c.num) (if ok then 1 else 0)

/-- The failed maps and states of a die's tiles are cleared (08 R236, R237). -/
def State.clearTiles (s : State) (c : Carrier) : State :=
  ((List.range 16).foldl (fun s t =>
    (s.wr (K.subadcFailed (16 * c.num + t)) 0).wr (K.tileState (16 * c.num + t)) 0) s).wr (K.subadcFailCount c.num) 0

/-- Steps 1 to 5 of the lock sequence run again in STANDBY (08 R230, R232). -/
def State.refit (s : State) (c : Carrier) : State :=
  let fs : Nat := sampleRate (s.symRate c)
  (((s.wr (K.txSampleRate c) fs).wr (K.rxSampleRate c) fs).modDie c (fun d => { d with relock := false })).startLock c

/-- OFF to STANDBY begins (04 R121): the pipelines are configured from the applied edition and the line PLL starts. -/
def State.leaveOff (s : State) (c : Carrier) : State :=
  let fs : Nat := sampleRate (s.symRate c)
  let s := (s.wr (K.txSampleRate c) fs).wr (K.rxSampleRate c) fs
  let s := ((s.modTx c (fun t => { t with held := none })).toFallback c).clearTiles c
  (s.modDie c (fun d => { d with relock := false })).startLock c

/-- The moves of 04 R121 that the present target asks for at once. A held SERVICE waits for a READY die (08 R230); a
written OFF abandons a lock sequence, and lifts the stop after a failed calibration (08 R236). -/
def State.carrierMove (s : State) (c : Carrier) : State :=
  let st := s.rd (K.carState c)
  let tg := s.rd (K.carTarget c)
  -- outside OPERATIONAL every carrier stays OFF (18 R456)
  if !s.operational then s
  -- a write during a test of the carrier's line acts when the test ends (16 R421)
  else if s.underTest (5 + c.num) 0 && tg ≠ 0 then s
  else if st = carOff then
    if tg = 0 then (s.modDie c (fun d => { d with waitRef := false, stopped := false })).wr (K.pllState c.num) 0
    else if s.rd (K.pllState c.num) = 0 && !(s.die c).waitRef && !(s.die c).stopped then s.leaveOff c
    else s
  else if st = carStandby then
    -- a change of R or S that waits for the superframe boundary comes first (02 R48, 08 R230)
    if tg = 3 && s.dieReady c && (s.car c).tx.held.isNone then s.enterAcquire c else s
  else if tg = 3 then s
  else s.leaveLine c

/-- The draft that the standard firmware holds for carrier c's exchange is discarded; another's never is (05 R165). -/
def State.lxDiscard (s : State) (c : Carrier) : State :=
  if s.ed.draft.any (fun d => d.owner = 0x1000 && d.id = (s.car c).lx.edId) then s.endDraft 4 0 else s

/-- The standard firmware's exchange of a carrier is abandoned, with its held draft; it begins again after LOCKED, as the request asked
last, unless it was the early check, which LOCKED makes anyway (05 R162, R163). -/
def State.lxAbandon (s : State) (c : Carrier) : State :=
  let st := s.rd (K.lxState c)
  let s := s.modLx c (fun x => { x with
    waiting := false, held := none
    again := match x.held with
      | some r => some r
      | none => if (st ≠ 0 || x.waiting) && !x.run.check then some x.run else x.again })
  if st = 0 then s
  else
    let s := if st = 1 then s.lxDiscard c else s
    (s.wr (K.lxState c) 0).wr (K.lxResult c) 7

/-- Loss of lock becomes final (04 R130, R140): the carrier in SERVICE returns to ACQUIRE at the next superframe
boundary, the frame wait stops, and the standard firmware abandons its exchange (05 R163). -/
def State.finalLoss (s : State) (c : Carrier) : State :=
  let s := s.modRx c (fun r => { r with frameWait := false })
  let s := s.fecStop c
  let s := if s.firmware then s.lxAbandon c else s
  if s.rd (K.carState c) = carService then s.modTx c (fun t => { t with returnPending := true }) else s

/-- A cause of loss of lock sets its bit in 22.036; one that begins a loss clears the others first (04 R138). -/
def State.lolCause (s : State) (c : Carrier) (bit : Nat) (fresh : Bool) : State :=
  s.wr (K.lolCause c) (setBit (if fresh then 0 else s.rdN (K.lolCause c)) bit true : Nat)

/-- LOL_COUNT and ACQ_LOL (04 R130). -/
def State.lolEvent (s : State) (c : Carrier) : State :=
  (s.bump (K.lolCount c)).raise Ev.acqLol (K.lolCause c)

/-- HOLD is left for HUNT with loss of lock final (04 R130). -/
def State.holdLost (s : State) (c : Carrier) : State := ((s.lolEvent c).finalLoss c).toHunt c

/-- A loss-of-lock cause occurs (04 R138, R139): from LOCKED the phase is HOLD, and with a hold time of 0 loss is final
at once; in HOLD its bit is added; in other phases nothing. Decoding stops (06 R180, R185). -/
def State.lossCause (s : State) (c : Carrier) (bit : Nat) : State :=
  if s.rd (K.acqPhase c) = phLocked then
    let s := s.lolCause c bit true
    let s := (s.setPhase c phHold).raise Ev.acqHold (K.lolCause c)
    let s := s.modRx c (fun r => { r with fawPass := 0 })
    let s := s.fecStop c
    if s.rd (K.lolHold c) = 0 then s.holdLost c else s
  else if s.rd (K.acqPhase c) = phHold then s.lolCause c bit false
  else s

/-- The datum time, in ns, that an edition's instant stands for: a superframe instant is converted from the carrier's present
superframe period and what has passed of the running superframe (09 R268); the superframe counter being cyclic, it is the nearer of the
two superframes of that number. -/
def State.editionTime (s : State) (e : Edition) : Rat :=
  let c : Carrier := if e.mode = 3 then .b else .a
  let ahead : Int := (e.instant - s.rd (K.txSfc c)) % (max48 + 1 : Nat)
  let d : Int := if ahead < 2 ^ 47 then ahead else ahead - 2 ^ 48
  if 2 ≤ e.mode then s.datum + d * s.superframeNs c - s.elapsedNs c else (e.instant : Rat)

end Sys2Proof.Machine
end

