-- ==== Sys2Proof/Machine/FecCode.lean ====
section
/-! DEFINITION. The inner code of the line FEC (spec 06 R174, R175): its definition image, its checks, and the parity that they fix. -/

namespace Sys2Proof.Machine

/-- Block columns of the information field (06 R174). -/
def codeInfoCols : Nat → Nat
  | 0 => 104
  | 1 => 108
  | _ => 113

/-- Block rows of a segment (06 R174). -/
def codeRows : Nat → Nat
  | 0 => 24
  | 1 => 20
  | _ => 15

/-- The code-definition image 24.070[o] (06 R175): OH, Z = 128, INFO_COLS, ROWS, MEMORY = 2, 0, and the records, which the manual does
not list (Config.fecRecords), each within its ranges and as many as 4,096 bytes hold. -/
def fecCodeDef (oh : Nat) : List Byte :=
  let recs := (Config.fecRecords oh).take 1022
  [BitVec.ofNat 8 oh, 128, BitVec.ofNat 8 (codeInfoCols oh), BitVec.ofNat 8 (codeRows oh), 2, 0] ++ beBytes 2 recs.length ++
    recs.flatMap (fun e => [BitVec.ofNat 8 (e.1 % codeRows oh), BitVec.ofNat 8 (e.2.1 % 128), BitVec.ofNat 8 (e.2.2.1 % 3),
      BitVec.ofNat 8 (e.2.2.2 % 128)])

/-- The circulant records (r, c, m, s) of a code definition image (06 R175). -/
def codeRecords (img : List Byte) : List (Nat × Nat × Nat × Nat) :=
  let at_ := fun (i : Nat) => (nth img i 0).toNat
  (List.range (at_ 6 * 256 + at_ 7)).map (fun e => (at_ (8 + 4 * e), at_ (9 + 4 * e), at_ (10 + 4 * e), at_ (11 + 4 * e)))

/-- The bits of check 128 r + i: component (segments back) and coded bit (06 R175). -/
def checkBits (recs : List (Nat × Nat × Nat × Nat)) (chk : Nat) : List (Nat × Nat) :=
  (recs.filter (fun e => e.1 = chk / 128)).map (fun e => (e.2.2.1, 128 * e.2.1 + (chk % 128 + e.2.2.2) % 128))

/-- Bit b of a segment of 16,384 coded bits; bit 0 is the first, the most significant of its number (06 R172). -/
def segBit (seg b : Nat) : Bool := bitOf seg (16383 - b)

/-- One row of a system over GF(2): the unknowns it sums, bit i for unknown i, and its right side. -/
abbrev GfRow := Nat × Bool

/-- A row is added to another. -/
def gfAdd (a b : GfRow) : GfRow := (a.1 ^^^ b.1, a.2 != b.2)

/-- Unknown i is eliminated from every row but the one it is solved by: rows solved so far, with their unknowns, and rows left. -/
def gfEliminate (i : Nat) (st : List (Nat × GfRow) × List GfRow) : List (Nat × GfRow) × List GfRow :=
  match st.2.findIdx? (fun r => bitOf r.1 i) with
  | none => st
  | some p =>
    let piv := nth st.2 p (0, false)
    let clear := fun (r : GfRow) => if bitOf r.1 i then gfAdd r piv else r
    ((i, piv) :: st.1.map (fun e => (e.1, clear e.2)), (st.2.eraseIdx p).map clear)

/-- The solution of a square system over GF(2), as the list of its unknowns. -/
def gfSolve (n : Nat) (rows : List GfRow) : List Bool :=
  let solved := ((List.range n).foldl (fun st i => gfEliminate i st) ([], rows)).1
  (List.range n).map (fun i => (aget solved i (0, false)).2)

/-- The equation that a check of a segment sets its parity bits: what the information field and the two predecessors contribute is the
right side (06 R174). -/
def parityRow (recs : List (Nat × Nat × Nat × Nat)) (k seg prev1 prev2 chk : Nat) : GfRow :=
  (checkBits recs chk).foldl (fun r e =>
    if e.1 = 0 then (if e.2 < k then (r.1, r.2 != segBit seg e.2) else (r.1 ^^^ 2 ^ (e.2 - k), r.2))
    else (r.1, r.2 != segBit (if e.1 = 1 then prev1 else prev2) e.2)) (0, false)

/-- The inner parity of a segment whose information field is k bits: the bits with which every check of its own block rows is satisfied
(06 R174: the submatrix on the parity columns is invertible, so there is one solution). -/
def innerParity (oh k field prev1 prev2 : Nat) : Nat :=
  let n := 16384 - k
  let recs := codeRecords (fecCodeDef oh)
  bitNat (gfSolve n ((List.range (128 * codeRows oh)).map (parityRow recs k (field * 2 ^ n) prev1 prev2)))

end Sys2Proof.Machine
end

