-- ==== Sys2Proof/Machine/LineTx.lean ====
section
/-! DEFINITION. Line transmitter (spec 02): superframes, the switch to frames, frame and sounding assembly, line
blocks, segments, contour, squelch and nonlinear pre-compensation. -/

namespace Sys2Proof.Machine

/-! ### Segments and pointers (06 R172, R173; 02 R52) -/

/-- The cycle length C of an overhead (06 R173). -/
def segCycle : Nat → Nat
  | 0 => 5
  | 1 => 3
  | _ => 23

/-- floor(j * 16,384 * rho). -/
def payloadUpTo (oh j : Nat) : Nat := j * 16384 * (codeRate oh).1 / (codeRate oh).2

/-- I_j, the payload bits of a segment of cycle phase j (06 R173). -/
def segPayload (oh j : Nat) : Nat := payloadUpTo oh (j + 1) - payloadUpTo oh j

/-- Bits of the information field: payload, pad and outer parity (06 R172). -/
def infoField : Nat → Nat
  | 0 => 13312
  | 1 => 13824
  | _ => 14464

/-- LB_PTR of a segment of cycle phase j (06 R178). -/
def lbPtrOf (oh j : Nat) : Nat := (4096 - payloadUpTo oh j % 4096) % 4096

/-- SEG_PTR after a number of coded bits (02 R52). -/
def segPtrOf (coded : Nat) : Nat := (16384 - coded % 16384) % 16384

/-- The cycle phase of the first segment that starts at or after a number of coded bits. -/
def phaseAt (oh coded : Nat) : Nat := (coded + 16383) / 16384 % segCycle oh

/-! ### Superframes -/

/-- SW_CD at superframe m for a switch at n, which lies ahead of m (02 R55, 04 R128); numbers wrap at 2^48 (R48). -/
def swCdOf (n m : Nat) : Nat := min ((n + (max48 + 1) - m) % (max48 + 1)) 255

/-- The set a switch target names (05 R153). -/
def State.targetSet (s : State) (c : Carrier) (target : Nat) : LoadSet :=
  if target = 1 then s.editedSet c else if target = 2 then (s.car c).tx.prev else s.fallbackSet c

/-- Frames use a set from now on, a superframe boundary: its tables are those computed ahead, if they are its own, else computed (02
R55, R63). -/
def TxState.useSet (t : TxState) (set : LoadSet) : TxState :=
  let tabs := match t.nextTables with
    | some x => if x.map (fun m => (m.k, m.grid)) = set.recs then x else set.matchTables
    | none => set.matchTables
  { t with frameSet := set, tables := tabs, activeEd := set.tag, nextTables := none }

/-- The pending target becomes current, the former current set previous; TX_LOAD_SWITCH (05 R153, R154). -/
def State.loadSwitch (s : State) (c : Carrier) (target : Nat) : State :=
  let new := s.targetSet c target
  (s.modTx c (fun t => { t.useSet new with cur := new, prev := t.cur, prevEmpty := false, pend := none, swCd := 0 })).raise
    Ev.txLoadSwitch (K.txTag c)

/-- The encoder starts at segment 0 (06 R177). -/
def TxState.encoderStart (t : TxState) : TxState :=
  { t with coded := 0, segNo := 0, seg1 := 0, seg2 := 0, info := 0, infoLen := 0, codedQ := 0, codedLen := 0, cursor := 0, lbSeq := 0 }

/-- The announced superframe has come: the transmitter sends frames on the fallback set and the carrier enters SERVICE
(04 R121, R128; 05 R151; 06 R177); the frame wait starts (04 R131). -/
def State.switchToFrames (s : State) (c : Carrier) : State :=
  let s := s.toFallback c
  let s := s.modTx c (fun t => { (t.encoderStart).useSet t.cur with sending := .frames, switchN := none })
  let s := s.modRx c (fun r => { r with frameWait := true })
  s.setCar c carService

/-- A change of R or S made in STANDBY takes effect at a superframe boundary (02 R48): the stream to the DAC channels starts afresh
from this symbol period, the companion's cross-phase term follows, and a change of R relocks the line die (08 R230). -/
def State.rateBoundary (s : State) (c : Carrier) : State :=
  if (s.car c).tx.held.isSome && s.rd (K.carState c) = carStandby then
    let lock := (s.car c).tx.relock
    let s := s.modTx c (fun t => { t with
      held := none, relock := false, period := s.rdN (K.txSfc c) * 524288, sample := [0, 0, 0, 0], gains := [], frame := TxFrame.none, past := [] })
    let s := ((if lock then s.refit c else s).evalXpm c).evalXpm c.other
    s.evalShortfall c
  else s

/-- A transmit superframe boundary (02 R48, R55; 04 R128; 05 R154; 07 R207): TX_SFC advances; a switch by command takes
place at its superframe in SERVICE; an announced change to frames takes place; frames carry the new set, ACTIVE_ED and
SW_CD; a pending change of symbol rate or sub-carriers takes effect; the cores see the boundary (11 R321). Nothing happens in
OFF, or while the die is not READY. -/
def txSuperframeBoundary (c : Carrier) (s : State) : State :=
  when (s.present c && s.rd (K.carState c) ≠ carOff && s.dieReady c) s fun s =>
    let s := s.wrapN (K.txSfc c) 1
    let n := s.rdN (K.txSfc c)
    let t := (s.car c).tx
    let s := s.modTx c (fun t => { t with
      coded := if t.sending = .frames then t.coded + t.frameSet.codedBits (s.subs c) else t.coded, frameNo := 0, cursor := 0
      sfStart := s.clock })
    let s := if t.switchN = some n && s.rd (K.carState c) = carAcquire then s.switchToFrames c else s
    let s := match t.pend with
      | some p => if p.edId = 0 && p.n = n && s.rd (K.carState c) = carService then s.loadSwitch c p.target else s
      | none => s
    let s := s.modTx c (fun t =>
      let t := if t.frameSet = t.cur then { t with activeEd := t.cur.tag } else t.useSet t.cur
      { t with swCd := match t.pend with
        | some p => swCdOf p.n n
        | none => 0 })
    let s := s.rateBoundary c
    (s.evalShortfall c).coreEvent (1 + c.num) (fun q => decide (64 ≤ q) || q / 32 = c.num)

/-- TX_SUPERFRAME_BOUNDARY. -/
def execTxSuperframeBoundary (c : Carrier) (s : State) : Out := .next (txSuperframeBoundary c s)

/-- The switch condition of 04 R129. -/
def State.switchCondition (s : State) (c : Carrier) : Bool :=
  let local_ := phSync ≤ s.rd (K.acqPhase c)
  if s.rd (K.acqHandshake c) = 0 then local_ && s.on (K.farRxSync c)
  else if s.rd (K.acqHandshake c) = 1 then local_
  else true

/-- SWITCH_ANNOUNCE: the condition holds in ACQUIRE and no switch is announced; N = SFC + 22.003 (04 R128, R129). -/
def switchAnnounce (c : Carrier) (s : State) : State :=
  when (s.present c && s.rd (K.carState c) = carAcquire && (s.car c).tx.switchN.isNone && s.switchCondition c) s fun s =>
    s.modTx c (fun t => { t with switchN := some ((s.rdN (K.txSfc c) + s.rdN (K.switchLead c)) % (max48 + 1)) })

/-- SWITCH_ANNOUNCE. -/
def execSwitchAnnounce (c : Carrier) (s : State) : Out := .next (switchAnnounce c s)

/-! ### Frames and soundings -/

/-- BDI: set while the receive phase is not LOCKED or 20.015 is 1 (02 R52). -/
def State.bdiOut (s : State) (c : Carrier) : Bool := s.rd (K.acqPhase c) ≠ phLocked || s.on (K.bdiForce c)

/-- The first n bytes in pairs, one 16-bit field per sub-carrier, the rest 0x00 (02 R53). -/
def ibcPairs (subs : Nat) (bs : List Byte) : List Nat :=
  (List.range subs).map (fun k => (nth bs (2 * k) 0).toNat * 256 + (nth bs (2 * k + 1) 0).toNat)

/-- The matcher takes the blocks that start in frame fi, in the dealing order of 02 R60, as far as coded bits are
ready; the others wait (01 R25). -/
def runMatcher (subs : Nat) (fi : Nat) : Nat → TxState → TxState
  | 0, t => t
  | fuel + 1, t =>
    let u := t.cursor / (2 * subs)
    let sc := t.cursor / 2 % subs
    let m := nth t.tables sc ⟨128, 0, [], 1⟩
    if 7812 * (fi + 1) ≤ 64 * u ∨ t.codedLen < m.k then t
    else
      let bits := t.codedQ / 2 ^ (t.codedLen - m.k)
      let blk : TxBlock := ⟨sc, t.cursor % 2, u, matchBlock m (bitList m.k bits)⟩
      runMatcher subs fi fuel { t with
        codedQ := t.codedQ % 2 ^ (t.codedLen - m.k), codedLen := t.codedLen - m.k, cursor := t.cursor + 1
        frame := { t.frame with blocks := t.frame.blocks ++ [blk] } }

/-- A frame or sounding follows the last one; the two before it are kept. -/
def TxState.startFrame (t : TxState) (f : TxFrame) : TxState :=
  { t with frameNo := t.frameNo + 1, frame := f, past := (t.frame :: t.past).take 2 }

/-- A line frame is assembled (02 R46 to R54, R60 to R63): the overhead word of each sub-carrier, the in-band bytes that credit, queue
and frame allow, and the payload. Its first symbol period follows from TX_SFC, which counts from the moment the carrier left OFF
(R47, R48). -/
def State.sendFrame (s : State) (c : Carrier) : State :=
  let t := (s.car c).tx
  let subs := s.subs c
  let oh := s.rdN (K.fecOh c)
  let fi := t.frameNo % 64
  let n := min (min t.ibcCredit t.ibcQueue.length) (2 * subs)
  let bytes := t.ibcQueue.take n
  let words := (ibcPairs subs bytes).map (fun ibc =>
    overheadWord (s.rdN (K.txSfc c)) fi t.activeEd t.swCd n (s.bdiOut c) (segPtrOf t.coded)
      (lbPtrOf oh (phaseAt oh t.coded)) ibc)
  s.modTx c (fun t => runMatcher subs fi (246 * subs) { t.startFrame
      ⟨false, s.rdN (K.txSfc c) * 524288 + fi * 8192, fi, subs, words, words.map wordCodewords, bytes, [], t.tables.map MatchTable.c2⟩ with
    ibcCredit := t.ibcCredit - n, ibcQueue := t.ibcQueue.drop n })

/-- A sounding is assembled (04 R124 to R128): sounding j of the superframe starts at symbol period 4,096 j. -/
def State.sendSounding (s : State) (c : Carrier) : State :=
  let t := (s.car c).tx
  let sfc := s.rdN (K.txSfc c)
  let si := t.frameNo % 128
  let cd := match t.switchN with
    | some n => swCdOf n sfc
    | none => 0
  let w := soundingWord sfc si (phSync ≤ s.rd (K.acqPhase c)) cd (s.rdN K.stationId) c.num
  let words := List.replicate (s.subs c) w
  s.modTx c (fun t => t.startFrame ⟨true, sfc * 524288 + si * 4096, si, s.subs c, words, words.map wordCodewords, [], [], []⟩)

/-- TX_FRAME_START: the next frame or sounding starts; a stalled transmitter sends none (08 R234). -/
def txFrameStart (c : Carrier) (s : State) : State :=
  when (s.present c && s.dieReady c) s fun s =>
    match (s.car c).tx.sending with
    | .nothing => s
    | .soundings => s.sendSounding c
    | .frames => s.sendFrame c

/-- TX_FRAME_START. -/
def execTxFrameStart (c : Carrier) (s : State) : Out := .next (txFrameStart c s)

/-- IBC_CREDIT_TICK: the credit gains a byte, capped at 2S (02 R54). -/
def execIbcCreditTick (c : Carrier) (s : State) : Out :=
  .next (s.modTx c (fun t => { t with ibcCredit := min (t.ibcCredit + 1) (2 * s.subs c) }))

/-! ### Line blocks and segments -/

/-- A line block header (02 R56). -/
def blockHeader (seq fill : Nat) : Nat :=
  let h := seq % 256 * 2 ^ 56 + fill * 2 ^ 50
  h + crc16Bits ((bitList 64 h).take 48)

/-- The 64 words of a line block: header, and 63 words scrambled (02 R56 to R58). -/
def lineBlock (seq : Nat) (client : List Nat) : List Nat :=
  let n := min 63 client.length
  let words := client.take n ++ List.replicate (63 - n) 0
  blockHeader seq (63 - n) :: (words.zip (scramble seq)).map (fun p => (p.1 % 2 ^ 64) ^^^ p.2)

/-- LINE_BLOCK_EMIT: a block with as many client words as are ready, up to 63 (02 R57). -/
def lineBlockEmit (c : Carrier) (s : State) : State :=
  when (s.present c && (s.car c).tx.sending = .frames) s fun s =>
    (s.modTx c (fun t =>
      let blk := lineBlock t.lbSeq t.clientQ
      { t with
        block := blk, clientQ := t.clientQ.drop 63, lbSeq := (t.lbSeq + 1) % 256
        info := blk.foldl (fun a w => a * 2 ^ 64 + w) t.info, infoLen := t.infoLen + 4096 })).wrapN (K.txLbCount c) 1

/-- LINE_BLOCK_EMIT. -/
def execLineBlockEmit (c : Carrier) (s : State) : Out := .next (lineBlockEmit c s)

/-- A segment of 16,384 coded bits: payload, pad, outer parity, inner parity (06 R172). -/
def buildSegment (oh : Nat) (payload iLen prev1 prev2 : Nat) : Nat :=
  let k := infoField oh
  let data := payload * 2 ^ (k - 168 - iLen)
  let field := data * 2 ^ 168 + outerParity (bitList (k - 168) data)
  field * 2 ^ (16384 - k) + innerParity oh k field prev1 prev2 % 2 ^ (16384 - k)

/-- TX_SEGMENT_EMIT: the encoder emits the next segment once its payload bits are there (02 R59, 06 R172 to R177). -/
def txSegmentEmit (c : Carrier) (s : State) : State :=
  let oh := s.rdN (K.fecOh c)
  let need := segPayload oh ((s.car c).tx.segNo % segCycle oh)
  when (s.present c && (s.car c).tx.sending = .frames && need ≤ (s.car c).tx.infoLen) s fun s =>
    (s.modTx c (fun t =>
      let seg := buildSegment oh (t.info / 2 ^ (t.infoLen - need)) need t.seg1 t.seg2
      { t with
        info := t.info % 2 ^ (t.infoLen - need), infoLen := t.infoLen - need, seg1 := seg, seg2 := t.seg1, segNo := t.segNo + 1
        codedQ := t.codedQ * 2 ^ 16384 + seg, codedLen := t.codedLen + 16384 })).wrapN (K.txSegCount c) 1

/-- TX_SEGMENT_EMIT. -/
def execTxSegmentEmit (c : Carrier) (s : State) : Out := .next (txSegmentEmit c s)

/-! ### The contour -/

/-- The power of the contour at a position by its shape (02 R74). -/
def contourPower (shape floor_ : Nat) (p : Rat) : Rat :=
  if shape = 0 then pow10 (-(floor_ * (1 - p)) / 10) else if shape = 1 then p else (1 - cosPi p) / 2

/-- CONTOUR_GAIN at a position: 0 at p = 0, 65,535 at p = 1, between them 65,535 times the root of the power; the
rounding is not stated (Config.roundUp). -/
def contourGain (shape floor_ : Nat) (p : Rat) : Nat :=
  if p ≤ 0 then 0
  else if 1 ≤ p then 65535
  else
    let w := contourPower shape floor_ p * 65535 ^ 2
    let n := greatest (fun n => ((n * n : Nat) : Rat) ≤ w) 16 0
    if ((n * n : Nat) : Rat) = w then n else min (n + b2n (Config.roundUp n 65535)) 65535

/-- A running slew of TX_SCALE covers the dB of 1,024 samples (02 R73). -/
def slewStep (fs : Rat) (rate : Nat) (sl : Option (Nat × Nat × Rat)) : Option (Nat × Nat × Rat) :=
  match sl with
  | none => none
  | some (a, b, d) =>
    let d' := d + 1024 / fs * rate / 100000
    if (max a b : Nat) ≤ pow10 (d' / 20) * (max (min a b) 1 : Nat) then none else some (a, b, d')

/-- The scale of a carrier at this moment, while it may be slewing (02 R73). -/
def State.scaleNow (s : State) (c : Carrier) : Nat :=
  match (s.car c).tx.slew with
  | none => s.rdN (K.txScale c)
  | some (a, b, d) =>
    if a < b then ((max a 1 : Nat) * pow10 (d / 20)).floor.toNat else ((a : Rat) / pow10 (d / 20)).floor.toNat

/-- CONTOUR_UPDATE: each 1,024 samples p moves by 1,024 samples over CONTOUR_RISE or CONTOUR_FALL; at 1 the contour is
STEADY, at 0 DARK, each with its event (02 R74); a transmitter that has left ACQUIRE and SERVICE then sends nothing
(R43). -/
def contourUpdate (c : Carrier) (s : State) : State :=
  when (s.present c) s fun s =>
    let fs := exactRate (s.symRate c)
    let s := s.modTx c (fun t => { t with slew := slewStep fs (s.rdN (K.scaleSlew c)) t.slew })
    let p := (s.car c).tx.pos
    let gain := fun (s : State) (p : Rat) =>
      s.wr (K.contourGain c) (contourGain (s.rdN (K.contourShape c)) (s.rdN (K.contourFloor c)) p : Nat)
    if s.rd (K.contourState c) = 1 then
      let p' := p + 1024 / (fs * s.rdN (K.contourRise c))
      if 1 ≤ p' then
        ((gain (s.modTx c (fun t => t.setPos 1)) 1).wr (K.contourState c) 2).raise Ev.txContourSteady (K.contourState c)
      else gain (s.modTx c (fun t => t.setPos p')) p'
    else if s.rd (K.contourState c) = 3 then
      let p' := p - 1024 / (fs * s.rdN (K.contourFall c))
      if p' ≤ 0 then (s.contourDark c).raise Ev.txContourDark (K.contourState c)
      else gain (s.modTx c (fun t => t.setPos p')) p'
    else s

/-- CONTOUR_UPDATE. -/
def execContourUpdate (c : Carrier) (s : State) : Out := .next (contourUpdate c s)

/-- The condition of the DARK row of the contour table (02 R74). -/
def State.riseCondition (s : State) (c : Carrier) : Bool :=
  s.present c && s.rd (K.contourState c) = 0 && s.emitting c && !s.squelched c && s.dieReady c

/-- CONTOUR_RISE_START: the condition holds, and the contour rises from 0. -/
def execContourRiseStart (c : Carrier) (s : State) : Out :=
  .next (when (s.riseCondition c) s fun s => (s.modTx c (fun t => t.setPos 0)).wr (K.contourState c) 1)

/-! ### Squelch -/

/-- SQUELCH_SW_WRITE: 20.040 asserts or releases the software squelch (02 R76). -/
def execSquelchSwWrite (src : Nat) (c : Carrier) (v : Int) (s : State) : Out :=
  .next (s.request src (K.squelchSw c) fun s =>
    let old := s.squelched c
    (((rwEffect src (K.squelchSw c) v s).1).afterSquelch c old, .ok))

/-- A latch or pin of the squelch gate changes. -/
def State.setSquelchPin (s : State) (c : Carrier) (f : TxState → TxState) : State :=
  let old := s.squelched c
  (s.modTx c f).afterSquelch c old

/-- The glitch filter of TXDIS_x_N (18 R460): a level that lasts less than 2 ns never acts, one of 4 ns or more always does, and one
between may or may not; width in 0.1 ns. -/
def State.txdisPasses (s : State) (width : Nat) (f : State → State) : State :=
  if width < 20 then s
  else if 40 ≤ width then f s
  else if s.freeVal % 2 = 0 then s.tookFree else f s.tookFree

/-- TXDIS_ASSERT: mid-code by the wired path, contour DARK (02 R76, R77; 18 R459). -/
def execTxdisAssert (c : Carrier) (width : Nat) (s : State) : Out :=
  .next (s.txdisPasses width fun s => when (s.present c) s fun s => s.setSquelchPin c (fun t => { t with txdis := true }))

/-- TXDIS_DEASSERT. -/
def execTxdisDeassert (c : Carrier) (width : Nat) (s : State) : Out :=
  .next (s.txdisPasses width fun s => when (s.present c) s fun s => s.setSquelchPin c (fun t => { t with txdis := false }))

/-- OC_TRIP: the filtered VLINE current, in 0.1 A, exceeds 71.010[d]; the over-current squelch latches (02 R76, R77;
15 R395). -/
def execOcTrip (c : Carrier) (current : Nat) (s : State) : Out :=
  .next (when (s.present c && s.rdN (K.ocLimit c.num) < current && !(s.car c).tx.ocLatch) s fun s =>
    (s.setSquelchPin c (fun t => { t with ocLatch := true })).raise Ev.txOcTrip (K.squelchSrc c))

/-- OC_CLEAR: the latch clears if the current is below the limit; otherwise it stays set (02 R76). -/
def execOcClear (src : Nat) (c : Carrier) (current : Nat) (s : State) : Out :=
  .next (s.request src (K.ocClear c) fun s =>
    (if current < s.rdN (K.ocLimit c.num) then s.setSquelchPin c (fun t => { t with ocLatch := false }) else s, .ok))

/-! ### Joint nonlinear pre-compensation -/

/-- NLC_BYPASS_CHANGE: at a 512-sample block boundary stage 9 follows its causes (02 R70). -/
def execNlcBypassChange (c : Carrier) (s : State) : Out := .next (when (s.present c) s fun s => s.evalNlc c)

/-- XPM_SQUELCH_REMOVE: the companion's squelch has been passed on, and its contribution to carrier c is zero (01 R41). -/
def execXpmSquelchRemove (c : Carrier) (s : State) : Out :=
  .next (when (s.present c && s.present c.other && s.squelched c.other) s fun s =>
    (s.modTx c (fun t => { t with xpmZero := true })).evalNlc c)

end Sys2Proof.Machine
end

