-- ==== Sys2Proof/Machine/TxPath.lean ====
section
/-! DEFINITION. The transmit datapath (spec 02 R46 to R79, 04 R124 to R126, 01 R39): from the frames and soundings assembled to the codes
that go to the DAC channels. Each stage is a function of the state and of the number of a symbol period or a sample. -/

namespace Sys2Proof.Machine

/-! ### Symbols (02 R46, R49 to R52, R60 to R63; 04 R124 to R126) -/

/-- 1/sqrt 2. -/
def rootHalf : Rat := sqrtRat (1 / 2)

/-- The QPSK symbol of bits i and i + 1 (02 R49). -/
def qpskAt (bits : List Bool) (i : Nat) : Cx :=
  let p := qpsk (nth bits i false) (nth bits (i + 1) false)
  ⟨p.1 * rootHalf, p.2 * rootHalf⟩

/-- A sequence of four bits a period, two for X and then two for Y (02 R49 to R51): the symbol of period i. -/
def quadSymbol (bits : List Bool) (i : Nat) (y : Bool) : Cx := qpskAt bits (4 * i + 2 * b2n y)

/-- The 64 symbols of a codeword pair, two bits a symbol, codeword 0 on X and 1 on Y (02 R52). -/
def wordSymbol (cw : Nat × Nat) (i : Nat) (y : Bool) : Cx := qpskAt (bitList 128 (if y then cw.2 else cw.1)) (2 * i)

/-- z[m] of the Zadoff-Chu body of root u: exp(-j pi u m (m + 1) / 3,967) (04 R126). -/
def zadoffChu (u m : Nat) : Cx := Cx.turn (-((u * m * (m + 1) : Nat) : Rat) / (2 * 3967))

/-- The body of sub-carrier k: X has root 2k + 1, Y 2k + 2; after z[3,966] z[0] is repeated (04 R124, R126). -/
def bodySymbol (k i : Nat) (y : Bool) : Cx := zadoffChu (2 * k + 1 + b2n y) (i % 3967)

/-- The number of payload positions of a frame before position n, itself a payload position: positions from 128 on but multiples of
32 (02 R46). -/
def payloadIndex (n : Nat) : Nat := n - 129 - (n - 128) / 32

/-- The payload symbol number q of a superframe, of sub-carrier k and a polarisation: position q mod 64 of matcher slot q div 64, as
(I + jQ) c (02 R60, R61, R63). -/
def payloadSymbol (blocks : List TxBlock) (c2 : List Rat) (k q : Nat) (y : Bool) : Cx :=
  match blocks.find? (fun b => b.sc = k && b.pol = b2n y && b.slot = q / 64) with
  | none => Cx.zero
  | some b => Cx.smul (sqrtRat (nth c2 k 1)) ⟨nth b.amps (2 * (q % 64)) 0, nth b.amps (2 * (q % 64) + 1) 0⟩

/-- Symbol n of a frame or sounding on sub-carrier k and a polarisation, by the tables of 02 R46 and 04 R124; `blocks` are those of this
frame and of the one before it, where a block may have started. -/
def TxFrame.symbol (f : TxFrame) (blocks : List TxBlock) (k n : Nat) (y : Bool) : Cx :=
  if n < 64 then quadSymbol (if f.sounding then syncBits k else fawBits k) n y
  else if n < 128 then wordSymbol (nth f.codewords k (0, 0)) (n - 64) y
  else if f.sounding then bodySymbol k (n - 128) y
  else if n % 32 = 0 then quadSymbol (pilotBits k) ((n - 128) / 32) y
  else payloadSymbol blocks f.c2 k (7812 * f.fi + payloadIndex n) y

/-- Symbol periods of a frame or sounding (02 R46, 04 R124). -/
def TxFrame.length (f : TxFrame) : Nat := if f.sounding then 4096 else 8192

/-- The symbol of sub-carrier k in symbol period i since the carrier left OFF; where no frame or sounding lies, nothing. -/
def TxState.symbolAt (t : TxState) (k : Nat) (i : Int) (y : Bool) : Cx :=
  match (t.frame :: t.past).find? (fun f => k < f.subs && f.start ≤ i && i < f.start + f.length) with
  | none => Cx.zero
  | some f => f.symbol ((t.frame :: t.past).flatMap TxFrame.blocks) k (i - f.start).toNat y

/-! ### Synthesis, shaping and mask (02 R64 to R66) -/

/-- The sample rate of the carrier, exact, in MS/s (02 R44). -/
def State.rate (s : State) (c : Carrier) : Rat := exactRate (s.symRate c)

/-- beta (20.012). -/
def State.beta (s : State) (c : Carrier) : Rat := s.rdN (K.rolloff c) / 1000

/-- f_k, the centre of sub-carrier k in MHz from the carrier centre (02 R64). -/
def State.centre (s : State) (c : Carrier) (k : Nat) : Rat :=
  ((k : Rat) - ((s.subs c : Rat) - 1) / 2) * (s.symRate c / s.subs c) * (1 + s.beta c)

/-- The tilt gain of sub-carrier k (02 R65): 10^(t_k / 2,000), scaled so that the mean square over the S active sub-carriers is 1. -/
def State.tiltGain (s : State) (c : Carrier) (k : Nat) : Rat :=
  let power := fun k => pow10 (s.rd (K.scTilt c k) / 1000)
  let mean := ((List.range (s.subs c)).map power).sum / s.subs c
  pow10 (s.rd (K.scTilt c k) / 2000) / sqrtRat mean

/-- The time of sample t in symbol periods since the carrier left OFF (02 R47, R64). -/
def State.periodOf (s : State) (c : Carrier) (t : Int) : Rat :=
  (s.car c).tx.period + t * s.symRate c / (s.subs c * s.rate c)

/-- Sub-carrier k at sample t: its symbols shaped by the root-raised-cosine pulse of 32 periods, weighted by its tilt gain and shifted
to f_k (02 R64, R65). -/
def State.subcarrierAt (s : State) (c : Carrier) (k : Nat) (t : Int) : Pol :=
  let tau := s.periodOf c t
  let i0 := tau.floor - 16
  let terms := (List.range 34).map (fun j =>
    let i := i0 + j
    let h := rrc (s.beta c) (tau - i)
    (⟨Cx.smul h ((s.car c).tx.symbolAt k i false), Cx.smul h ((s.car c).tx.symbolAt k i true)⟩ : Pol))
  Pol.mul (Cx.smul (s.tiltGain c k) (Cx.turn (s.centre c k * t / s.rate c))) (Pol.sum terms)

/-- The sum of the weighted sub-carriers at sample t (02 R64); unit-energy pulses of S sub-carriers of mean square 1 sum to power S, so
that over sqrt S each polarisation has unit mean power (R68). -/
def State.summed (s : State) (c : Carrier) (t : Int) : Pol :=
  Pol.mul ⟨1 / sqrtRat (s.subs c), 0⟩ (Pol.sum ((List.range (s.subs c)).map (fun k => s.subcarrierAt c k t)))

/-- The notches that are on: centre and width in MHz, depth in dB (02 R66). -/
def State.notches (s : State) (c : Carrier) : List (Int × Nat × Nat) :=
  ((List.range 4).map (fun n => (s.rd (K.notchCentre c n), s.rdN (K.notchWidth c n), s.rdN (K.notchDepth c n)))).filter (fun n => n.2.1 ≠ 0)

/-- What a notch attenuates at a frequency, in dB: its depth over its width about its centre, and linear in dB over 0.5 GHz on each
side (02 R66). -/
def notchDb (n : Int × Nat × Nat) (f : Rat) : Rat :=
  let d := |f - n.1| - (n.2.1 : Rat) / 2
  if d ≤ 0 then n.2.2 else if d < 500 then n.2.2 * (1 - d / 500) else 0

/-- The spectral mask's amplitude at a frequency (02 R66). -/
def maskAt (ns : List (Int × Nat × Nat)) (f : Rat) : Rat := pow10 (-((ns.map (fun n => notchDb n f)).sum) / 20)

/-- Tap m of n of the filter whose response is the mask (02 R66), its centre at n / 2. -/
def maskTap (ns : List (Int × Nat × Nat)) (fs : Rat) (n m : Nat) : Cx :=
  Cx.smul (1 / n) (Cx.sum ((List.range n).map (fun q =>
    Cx.smul (maskAt ns (binFreq n fs q)) (Cx.turn (q * ((m : Rat) - (n / 2 : Nat)) / n)))))

/-- The composite stream at sample t, of unit mean power per polarisation (02 R64 to R66, R68). -/
def State.composite (s : State) (c : Carrier) (t : Int) : Pol :=
  let ns := s.notches c
  if ns = [] then (s.summed c t).hold 8
  else
    let n := Config.notchSpan + 1
    let y := Pol.sum ((List.range n).map (fun m => Pol.mul (maskTap ns (s.rate c) n m) (s.summed c (t + (n / 2 : Nat) - m))))
    (Pol.mul ⟨1 / sqrtRat (Config.notchPower ns (s.symRate c) (s.subs c) (s.rdN (K.rolloff c))), 0⟩ y).hold 8

/-! ### The contour and the cross-carrier path (02 R74, 01 R39) -/

/-- The contour position in force at sample t. -/
def TxState.posAt (t : TxState) (n : Int) : Rat :=
  match t.gains.find? (fun g => g.1 ≤ n) with
  | some g => g.2
  | none => (t.gains.getLastD (0, t.pos)).2

/-- The contour's amplitude gain g at sample t (02 R74). -/
def State.contourAt (s : State) (c : Carrier) (t : Int) : Rat :=
  let p := (s.car c).tx.posAt t
  if p ≤ 0 then 0 else if 1 ≤ p then 1 else sqrtRat (contourPower (s.rdN (K.contourShape c)) (s.rdN (K.contourFloor c)) p)

/-- What a carrier passes over the cross-carrier path: its composite samples after its contour gain (01 R39, 02 R68). -/
def State.launched (s : State) (c : Carrier) (t : Int) : Pol := Pol.mul ⟨s.contourAt c t, 0⟩ (s.composite c t)

/-- The companion's sample at carrier c's sample t: the two streams are aligned at the samples they stand at (02 R69). -/
def State.companionAt (s : State) (c : Carrier) (t : Int) : Pol :=
  s.launched c.other (t - (s.car c).tx.sampleNow + (s.car c.other).tx.sampleNow)

/-! ### Joint nonlinear pre-compensation (02 R68 to R70) -/

/-- The signed fields of a packed entry: bits 31:16 and 15:0. -/
def packedPair (v : Int) : Int × Int := (toSigned 16 (ofSigned 32 v / 65536), toSigned 16 (ofSigned 32 v))

/-- The active sheet of stage 9. -/
def TxState.nlcActive (t : TxState) : NlcSheet := if t.nlcSheet = 0 then t.nlc0 else t.nlc1

/-- x[t + m] conj(x[t + m + n]) over both polarisations (02 R68). -/
def correlate (x : Int → Pol) (t m n : Int) : Cx :=
  ((x (t + m)).x.mul ((x (t + m + n)).x.conj)).add ((x (t + m)).y.mul ((x (t + m + n)).y.conj))

/-- The factor of entry i at sample t, before its last factor x[t + n_i]: G g^2 C_i p for a self-phase entry, G C_i q for a cross-phase
entry while the term is active, q with the companion's stream shifted by d samples (02 R68, R69). -/
def State.nlcFactor (s : State) (c : Carrier) (x : Int → Pol) (t : Int) (e : Nat × Int) : Cx :=
  let mn := packedPair (aget (s.car c).tx.nlcActive.index e.1 0)
  let ci := packedPair e.2
  let coef : Cx := ⟨(ci.1 : Rat) / 32768, (ci.2 : Rat) / 32768⟩
  let g : Rat := (s.rdN (K.nlcGain c) : Rat) / 65536
  if e.1 < s.rdN (K.nlcSpmCount c) then
    Cx.smul (g * s.contourAt c t ^ 2) (coef.mul (correlate x t mn.1 mn.2))
  else if bitOf (s.rdN (K.nlcStatus c)) 1 then
    Cx.smul g (coef.mul (correlate (s.companionAt c) (t + s.rd (K.nlcXpmSkew c)) mn.1 mn.2))
  else Cx.zero

/-- Stage 9 at sample t: x + dX, or x in bypass (02 R68, R70). -/
def State.nlcAt (s : State) (c : Carrier) (x : Int → Pol) (t : Int) : Pol :=
  if (s.car c).tx.nlcBypass then x t
  else
    let d := Pol.sum ((s.car c).tx.nlcActive.coef.map (fun e =>
      Pol.mul (s.nlcFactor c x t e) (x (t + (packedPair (aget (s.car c).tx.nlcActive.index e.1 0)).2))))
    ((x t).add d).hold 9

/-! ### Transmit impairment pre-compensation (02 R72) -/

/-- Lane j of a polarisation pair: 0 XI, 1 XQ, 2 YI, 3 YQ. -/
def Pol.lane (p : Pol) (j : Nat) : Rat := if j = 0 then p.x.re else if j = 1 then p.x.im else if j = 2 then p.y.re else p.y.im

/-- Steps 1 to 3 on lane j at one sample: the lane at unit mean power times TX_SCALE, the IQ phase of its polarisation, its gain
(02 R72). Each lane of a polarisation of unit power has half of it, so sqrt 2 brings it to the RMS that 20.030 then sets. -/
def State.laneScaled (s : State) (c : Carrier) (p : Pol) (j : Nat) : Rat :=
  let v := fun j => sqrtRat 2 * p.lane j * ((s.scaleNow c : Rat) / 65536)
  let phi : Rat := (s.rd (if j < 2 then K.iqPhaseX c else K.iqPhaseY c) : Rat) / 36000
  let q := if j % 2 = 0 then v j else (v j - v (j - 1) * sinTurn phi) / cosTurn phi
  q * ((s.rdN (K.laneGain c j) : Rat) / 32768)

/-- Step 4 at sample t: the 33-tap pre-emphasis of lane j, tap 16 at the sample itself. -/
def State.laneFir (s : State) (c : Carrier) (v : Int → Rat) (j : Nat) (t : Int) : Rat :=
  ((List.range 33).map (fun i => (s.rd (K.preemphTap c (33 * j + i)) : Rat) / 32768 * v (t + 16 - i))).sum

/-- Step 5: the lane delayed by 20.070[j], in 0.1 ps. -/
def State.laneDelayed (s : State) (c : Carrier) (v : Int → Rat) (j : Nat) (t : Int) : Rat :=
  delayed v t (s.rd (K.laneSkew20 c j) * s.rate c / 10 ^ 7)

/-- Step 6: clipped to 1 in magnitude, and the modulator's sine inverted for a drive ratio above 0. -/
def State.modulate (s : State) (c : Carrier) (v : Rat) : Rat :=
  let y := max (-1) (min 1 v)
  let a : Rat := (s.rdN (K.modAlpha c) : Rat) / 65536
  if a = 0 then y else arcsinTurn (a * y) / arcsinTurn a

/-- A function kept as a table of n values from lo on, and computed elsewhere. -/
def tabulate {α : Type} (f : Int → α) (lo : Int) (n : Nat) : Int → α :=
  let l := (List.range n).map (fun i => f (lo + (i : Nat)))
  fun t => if lo ≤ t then (match l[(t - lo).toNat]? with
    | some v => v
    | none => f t) else f t

/-- Stages 9 to 11 of lane j over n samples from t on, in DAC full-scale units (02 R68 to R74). -/
def State.laneBlock (s : State) (c : Carrier) (j : Nat) (t : Int) (n : Nat) : List Rat :=
  let x := tabulate (s.composite c) (t - 48) (n + 96)
  let p := tabulate (s.nlcAt c x) (t - 40) (n + 80)
  let v := tabulate (fun t => s.laneScaled c (p t) j) (t - 40) (n + 80)
  let f := tabulate (s.laneFir c v j) (t - 24) (n + 48)
  (List.range n).map (fun i =>
    let u := t + (i : Nat)
    Config.held 10 (s.contourAt c u * s.modulate c (s.laneDelayed c f j u)))

/-! ### The DAC (02 R76, R79) -/

/-- The unclamped code of a lane value: floor(128 + 128 y), the lane negated before it where its bit of 20.076 is set (02 R72, R79). -/
def State.rawCode (s : State) (c : Carrier) (j : Nat) (y : Rat) : Int :=
  (128 + 128 * (if bitOf (s.rdN (K.laneInvert20 c)) j then -y else y)).floor

/-- The unclamped codes of the next n samples of lane j. While the contour is at 0 over all of them the value is 0 and the code
mid-code. -/
def State.rawCodes (s : State) (c : Carrier) (j n : Nat) : List Int :=
  let t := (s.car c).tx
  let from_ := nth t.sample j 0
  if t.pos = 0 && t.posAt from_ = 0 then List.replicate n 128
  else (s.laneBlock c j from_ n).map (s.rawCode c j)

/-- A code as the DAC takes it: 0 to 255 (02 R79). -/
def dacClamp (v : Int) : Nat := (clampInt v 0 255).toNat

end Sys2Proof.Machine
end

