-- ==== Sys2Proof/Machine/RxFront.lean ====
section
/-! DEFINITION. The receive datapath up to the sub-carriers (spec 03 R83 to R99; 04 R143): front-end correction, dispersion
compensation, the dispersion search's metric, timing recovery and the filter bank. Samples enter as the codes of the ADC. -/

namespace Sys2Proof.Machine

/-! ### Stage 2: front-end correction (03 R83 to R86) -/

/-- An ADC code as a sample: offset binary about 128, as the DAC's law is (02 R79). -/
def sampleOf (code : Int) : Rat := ((code : Rat) - 128) / 128

/-- One sample through steps 1 to 3 of lane j: offset and gain of its interleave position while they are enabled, the lane's sign,
and the high-pass filter of time constant 2^n; the window sums of the position take the sample as it came. -/
def State.laneSample (s : State) (c : Carrier) (j : Nat) (r : RxState) (code : Int) : RxState :=
  let ln := nth r.lanes j FeLane.reset
  let pos := 128 * j + ln.pos
  let v := sampleOf code
  let corr := if s.on (K.feIlvEnable c) then aget r.ilv pos (0, 1) else (0, 1)
  let u := (v - corr.1) * corr.2
  let u := if bitOf (s.rdN (K.rxLaneInvert c)) j then -u else u
  let dc := shortRat (ln.dc + (u - ln.dc) / 2 ^ s.rdN (K.feDcTc c))
  { r with
    ilvSum := aput r.ilvSum pos ((aget r.ilvSum pos WinSum.zero).add v (v * v) 0)
    lanes := r.lanes.set j { ln with pos := (ln.pos + 1) % 128, dc := dc, hist := ((u - dc) :: ln.hist).take 64 }
    laneQ := r.laneQ.set j (nth r.laneQ j [] ++ [
      delayed (fun t => nth ((u - dc) :: ln.hist) (-t).toNat 0) (-32) (s.rd (K.rxLaneSkew c j) * s.rate c / 10 ^ 7)]) }

/-- 21.008: the IQ phase in use (03 R85): the estimate, the MANUAL entry, or none in OFF. -/
def State.iqPhase (s : State) (c : Carrier) (p : Nat) : Int :=
  if s.rd (K.feIqMode c) = 0 then (if p = 0 then (s.car c).rx.iqX else (s.car c).rx.iqY)
  else if s.rd (K.feIqMode c) = 1 then (if p = 0 then s.rd (K.feIqPhaseX c) else s.rd (K.feIqPhaseY c))
  else 0

/-- Step 5 for polarisation p: Q becomes (Q - I sin phi) / cos phi; OFF passes it unchanged. -/
def State.orthogonal (s : State) (c : Carrier) (p : Nat) (i q : Rat) : Rat :=
  let phi : Rat := (s.iqPhase c p : Rat) / 36000
  if phi = 0 then q else (q - i * sinTurn phi) / cosTurn phi

/-- The mean square of a list. -/
def meanSquare (l : List Rat) : Rat := if l = [] then 0 else (l.map (fun x => x * x)).sum / l.length

/-- Step 6: the gain that brings a lane to unit mean power, over the blocks of Config.powerSpan; what 21.007 can show limits it. -/
def unitGain (pow : List Rat) : Rat :=
  let m := pow.sum / pow.length
  if m = 0 then 65535 / 4096 else min (1 / sqrtRat m) (65535 / 4096)

/-- The mixer's shift in MHz: the last coarse estimate frozen, which unfreezing does not clear, and f_common (03 R83 step 7, 04 R131). -/
def State.mixMHz (s : State) (c : Carrier) : Rat := (s.rd (K.coarseFreq c) : Rat) / 1000 + (s.car c).rx.common / 1000

/-- Steps 5 to 7 on the next 512 samples of the four lanes, once they are there: the IQ windows take them, the gains follow with 21.007,
and the mixed stream goes to stage 3. -/
def State.frontBlock (s : State) (c : Carrier) : State :=
  let r := (s.car c).rx
  if r.laneQ.any (fun q => q.length < 512) then s
  else
    let l := r.laneQ.map (fun q => q.take 512)
    let at_ := fun j => nth l j []
    let pair := fun p => ((at_ (2 * p)).zip (at_ (2 * p + 1)))
    let window := fun (w : WinSum) p => (pair p).foldl (fun w x => w.add (x.1 * x.2) (x.1 * x.1) (x.2 * x.2)) w
    let out := fun j => if j % 2 = 0 then at_ j else (pair (j / 2)).map (fun x => s.orthogonal c (j / 2) x.1 x.2)
    let pow := (List.range 4).map (fun j => (meanSquare (out j) :: (nth r.lanes j FeLane.reset).pow).take (Config.powerSpan + 1))
    let gain := pow.map unitGain
    let scaled := (List.range 4).map (fun j => (out j).map (fun v => nth gain j 1 * v))
    let step := s.mixMHz c / s.rate c
    let mixed := (List.range 512).map (fun n =>
      let z : Pol := ⟨⟨nth (nth scaled 0 []) n 0, nth (nth scaled 1 []) n 0⟩, ⟨nth (nth scaled 2 []) n 0, nth (nth scaled 3 []) n 0⟩⟩
      (Pol.mul (Cx.turn (-(r.mix + n * step))) z).hold 2)
    let s := s.modRx c (fun r => { r with
      laneQ := r.laneQ.map (fun q => q.drop 512), iqSumX := window r.iqSumX 0, iqSumY := window r.iqSumY 1
      lanes := (r.lanes.zip pow).map (fun x => { x.1 with pow := x.2 }), mix := shortRat (fracRat (r.mix + 512 * step)), fe := r.fe ++ mixed })
    (List.range 4).foldl (fun s j => s.wr (K.feLaneGain c j) (clampInt (openRat (4096 * nth gain j 1)) 0 65535)) s

/-! ### Stage 3: dispersion compensation (03 R87, R90, R94) -/

/-- Samples of a block, of the overlap of consecutive blocks, and new samples of each (03 R87). -/
abbrev hopBlock : Nat := 262144

/-- New output samples of a block. -/
abbrev hopNew : Nat := 163840

/-- phi(f) of 03 R87 in turns, f in GHz from the carrier centre. -/
def cdTurns (v : CdVals) (f : Rat) : Rat :=
  let k := kappaOf v.wl
  (k * v.d * f ^ 2 / 2 - k ^ 2 * v.slope * f ^ 3 / 6) / 1000

/-- Bin q of the sheet for dispersion values at a sample rate in MS/s. -/
def sheetBin (v : CdVals) (fs : Rat) (q : Nat) : Cx := Cx.turn (cdTurns v (binFreq hopBlock fs q / 1000))

/-- The filter's phase at f in the present block, in turns: the active sheet's, or in block b of a fade the blend of 03 R90. -/
def RxState.cdPhase (r : RxState) (f : Rat) : Rat :=
  match r.fade with
  | some (b, n, v0, v1) => (1 - (b : Rat) / n) * cdTurns v0 f + (b : Rat) / n * cdTurns v1 f
  | none => cdTurns (if r.active = 0 then r.sheet0 else r.sheet1).vals f

/-- Bins of a block times a phase by frequency, both polarisations. -/
def phased (fs : Rat) (bins : List Pol) (phase : Rat → Rat) : List Pol :=
  (bins.zip (List.range hopBlock)).map (fun p => Pol.mul (Cx.turn (phase (binFreq hopBlock fs p.2 / 1000))) p.1)

/-- The new output samples of a block: those half an overlap from its ends. -/
def hopOutput (bins : List Pol) : List Pol :=
  (List.range hopNew).map (fun i =>
    ⟨idftAt hopBlock (bins.map Pol.x) (49152 + i), idftAt hopBlock (bins.map Pol.y) (49152 + i)⟩)

/-- |x|^2 + |y|^2. -/
def Pol.power (p : Pol) : Rat := p.x.normSq + p.y.normSq

/-- The symbol-clock tone of a stream: its power mixed by minus `turns` a sample, from sample number `n0`. -/
def clockTone (turns n0 : Rat) (xs : List Pol) : Cx :=
  Cx.sum ((xs.zip (List.range xs.length)).map (fun p => Cx.smul p.1.power (Cx.turn (-((n0 + (p.2 : Nat)) * turns)))))

/-- The metric of trial D (03 R94): phi(f) with D and no slope on the held blocks, oldest first, and the power of the symbol-clock tone,
at R/S, of the result. -/
def State.trialMetric (s : State) (c : Carrier) (d : Int) : Rat :=
  let v : CdVals := ⟨d, 0, s.rd (K.cdWavelength c)⟩
  let xs := (s.car c).rx.spectra.reverse.flatMap (fun b => hopOutput (phased (s.rate c) b (cdTurns v)))
  (clockTone (s.symRate c / (s.subs c * s.rate c)) 0 xs).normSq

/-- The hop just made is the fourth of a trial of a running search: its metric is taken (03 R95). -/
def State.searchHop (s : State) (c : Carrier) : State :=
  match (s.car c).rx.search with
  | none => s
  | some (lo, step, n) =>
    let r := (s.car c).rx
    if r.hops + 1 < 4 then s.modRx c (fun r => { r with hops := r.hops + 1 })
    else if n ≤ r.trialMetrics.length then s
    else s.modRx c (fun r => { r with hops := 0, trialMetrics := r.trialMetrics ++ [s.trialMetric c (lo + (r.trialMetrics.length * step : Nat))] })

/-- The mean power of a block within the band of sub-carrier k, referred to the ADC by the stage-2 gains (04 R143). -/
def State.bandPower (s : State) (c : Carrier) (bins : List Pol) (k : Nat) : Rat :=
  let g := fun j => let v : Rat := max (s.rdN (K.feLaneGain c j)) 1; (v / 4096) ^ 2
  let gx := (g 0 + g 1) / 2
  let gy := (g 2 + g 3) / 2
  let half : Rat := (s.symRate c : Rat) / s.subs c * (1 + s.beta c) / 2
  (((bins.zip (List.range hopBlock)).filter (fun p => |binFreq hopBlock (s.rate c) p.2 - s.centre c k| ≤ half)).map (fun p =>
    p.1.x.normSq / gx + p.1.y.normSq / gy)).sum / (hopBlock ^ 2 : Nat)

/-! ### Stage 4: timing recovery (03 R96, R97) -/

/-- Input samples per output sample: 7/8 or 1, less the clock offset. -/
def State.resampStep (s : State) (c : Carrier) : Rat :=
  (if s.symRate c ≤ 252000 then 1 else 7 / 8) / (1 + (s.car c).rx.timing.freq)

/-- The resampler's output at a position of its input: phase and taps of Config.resampTap, tap 7 at the sample below. -/
def resampleAt (buf : List Pol) (x : Rat) : Pol :=
  let n := x.floor
  let p := (256 * fracRat x).floor.toNat
  Pol.sum ((List.range 16).map (fun i =>
    let t := n - 7 + (i : Nat)
    Pol.mul ⟨Config.resampTap p i, 0⟩ (if t < 0 then Pol.zero else nth buf t.toNat Pol.zero)))

/-- The timing error of a stretch of stage-3 output that starts at buffer position x0, in turns of a sub-carrier symbol period: the phase
of its symbol-clock tone against the resampler's own symbol instants (03 R97). -/
def State.timingError (s : State) (c : Carrier) (xs : List Pol) (x0 : Rat) : Rat :=
  let r := (s.car c).rx
  let turns := 3 / (4 * (s.subs c : Rat) * s.resampStep c)
  let m : Rat := (r.bankBase + r.bank.length : Nat)
  let tone := clockTone turns ((x0 - r.timing.phase) + m * s.resampStep c) xs
  Cx.arg tone.conj

/-- Stage 4 on new stage-3 output (03 R97): the second-order loop of bandwidth 21.030 moves the phase and the frequency state, 21.031
follows, and the resampler gives as many samples as it has input for. -/
def State.resample (s : State) (c : Carrier) (xs : List Pol) : State :=
  let r := (s.car c).rx
  let err := s.timingError c xs r.timing.buf.length
  let hopUs := (hopNew : Rat) / s.rate c
  let g := Config.loopGain (s.rdN (K.trBw c)) hopUs
  let period := 4 * (s.subs c : Rat) / 3 * s.resampStep c
  let freq := max (-(1 / 5000)) (min (1 / 5000) (shortRat (r.timing.freq - g.2 * err * period / hopNew)))
  let s := s.modRx c (fun r => { r with timing := { r.timing with freq := freq } })
  let s := s.wr (K.trOffset c) (clampInt (openRat (freq * 10 ^ 9)) (-200000) 200000)
  let step := s.resampStep c
  let buf := r.timing.buf ++ xs
  let x := shortRat (r.timing.phase + g.1 * err * period)
  let n := (((buf.length : Rat) - 8 - x) / step).ceil.toNat
  let end_ := x + n * step
  let drop := (end_.floor - 8).toNat
  s.modRx c (fun r => { r with
    timing := { r.timing with phase := end_ - drop, buf := buf.drop drop }
    bank := r.bank ++ (List.range n).map (fun i => (resampleAt buf (x + i * step)).hold 4) })

/-! ### Stage 5: the filter bank (03 R99) -/

/-- Zeros ahead of stage 6's input, for a pointer that moves back (03 R105). -/
abbrev eqLead : Nat := 512

/-- Output m of sub-carrier k, at half its symbol periods: the stream shifted by -f_k through the matched filter of 32 periods. The factor
brings a symbol of unit energy back to unit energy, the lanes being at unit power. -/
def State.bankAt (s : State) (c : Carrier) (k m : Nat) : Pol :=
  let r := (s.car c).rx
  let S : Rat := s.subs c
  let x := 2 * S * m / 3
  let n0 := (x - 64 * S / 3).floor
  let terms := (List.range (128 * s.subs c / 3 + 2)).map (fun i =>
    let n := n0 + i
    let v := if n < r.bankBase then Pol.zero else nth r.bank (n - r.bankBase).toNat Pol.zero
    Pol.mul (Cx.smul (rrc (s.beta c) ((x - n) * 3 / (4 * S))) (Cx.turn (-(s.centre c k * n * 3 / (4 * s.symRate c))))) v)
  (Pol.mul ⟨3 / (4 * S) * sqrtRat (S / 2), 0⟩ (Pol.sum terms)).hold 5

/-- Every sub-carrier gets the outputs that its filter has the input for; input no filter needs again is let go. -/
def State.filterBank (s : State) (c : Carrier) : State :=
  let r := (s.car c).rx
  let S := s.subs c
  let top : Rat := (r.bankBase + r.bank.length : Nat)
  let upTo := ((top - 64 * S / 3 - 1) * 3 / (2 * S)).floor.toNat
  let ms := (List.range (upTo - r.bankNext)).map (fun i => r.bankNext + i)
  let next := r.bankNext + ms.length
  let drop := min (((2 * S * next : Nat) : Rat) / 3 - 64 * S / 3 - 1).floor.toNat (r.bankBase + r.bank.length) - r.bankBase
  s.modRx c (fun r => { r with
    eqIn := (List.range S).foldl (fun l k =>
      aput l k (aget l k (List.replicate eqLead Pol.zero) ++ ms.map (fun m => s.bankAt c k m))) r.eqIn
    bank := r.bank.drop drop, bankBase := r.bankBase + drop, bankNext := next })

/-! ### The stages joined -/

/-- A block hop of stage 3, once a block of samples is there (03 R87): the forward transform is kept for the search and the band powers,
and in ACQUIRE and SERVICE the filtered samples go on through stages 4 and 5 (R96). -/
def State.hop (s : State) (c : Carrier) : State :=
  if (s.car c).rx.fe.length < hopBlock then s
  else
    let bins := (forward hopBlock ((s.car c).rx.fe.take hopBlock)).map (Pol.hold 3)
    let s := s.modRx c (fun r => { r with
      fe := r.fe.drop hopNew, spectra := (bins :: r.spectra).take 4, bandN := r.bandN + 1
      bandSum := (List.range 32).map (fun k => nth r.bandSum k 0 + (if k < s.subs c then s.bandPower c bins k else 0)) })
    let s := s.searchHop c
    if s.emitting c then
      let out := (hopOutput (phased (s.rate c) bins (s.car c).rx.cdPhase)).map (Pol.hold 3)
      (s.resample c out).filterBank c
    else s

/-- ADC samples of channel j reach stage 2 (03 R83, R86): codes 0 and 255 count as clipped, and what is complete goes on. -/
def State.adcSamples (s : State) (c : Carrier) (j : Nat) (codes : List Nat) : State :=
  let s := s.bumpN (K.feAdcClipCount c j) (codes.filter (fun x => x = 0 || 255 ≤ x)).length
  let s := s.modRx c (fun r => codes.foldl (fun r x => s.laneSample c j r x) r)
  iter (fun s => s.hop c) (codes.length / hopNew + 1) (iter (fun s => s.frontBlock c) (codes.length / 512 + 1) s)

/-! ### Window ends (03 R84, R85) -/

/-- The offset and gain of an interleave position from its window: its mean, and the ratio that brings its power about the mean to the
power of all positions of the channel. -/
def ilvEstimate (sums : List WinSum) (w : WinSum) : Rat × Rat :=
  let mean := fun (w : WinSum) => if w.n = 0 then 0 else w.a / w.n
  let power := fun (w : WinSum) => if w.n = 0 then 0 else w.b / w.n - mean w ^ 2
  let all := sums.filter (fun w => w.n ≠ 0)
  let avg := if all = [] then 0 else (all.map power).sum / all.length
  if power w = 0 then (mean w, 1) else (mean w, sqrtRat (avg / power w))

/-- Channel j's estimates at the end of a window take the place of the former ones, and a window begins. -/
def RxState.ilvWindow (r : RxState) (j : Nat) (use : Bool) : RxState :=
  let sums := (List.range 128).map (fun p => aget r.ilvSum (128 * j + p) WinSum.zero)
  let new := (sums.zip (List.range 128)).foldl (fun (m : List (Nat × Rat × Rat)) x =>
    if x.1.n = 0 then m
    else
      let e := ilvEstimate sums x.1
      if e = (0, 1) then adel m (128 * j + x.2) else aput m (128 * j + x.2) e) r.ilv
  { r with ilv := if use then new else r.ilv, ilvSum := r.ilvSum.filter (fun e => e.1 / 128 ≠ j) }

/-- The IQ phase of a window, in 0.01 degrees: sin phi is E[IQ] over the root of E[I^2] E[Q^2] (03 R85). -/
def iqEstimate (w : WinSum) : Int :=
  let d := sqrtRat (w.b * w.c)
  if d = 0 then 0 else clampInt (openRat (36000 * arcsinTurn (w.a / d))) (-1000) 1000

/-- An estimate of IQ phase at the end of a window. -/
def RxState.iqWindow (r : RxState) (y : Bool) : RxState :=
  if y then { r with iqY := iqEstimate r.iqSumY, iqSumY := WinSum.zero }
  else { r with iqX := iqEstimate r.iqSumX, iqSumX := WinSum.zero }

/-- FE_ILV_WINDOW: a window of 2^20 samples gives the 128 positions of channel j their offsets and gains; while 21.00A is 0 the window is
let go (03 R84; log entry 115). -/
def execFeIlvWindow (c : Carrier) (j : Nat) (s : State) : Out :=
  .next (when (s.present c) s fun s => s.modRx c (fun r => r.ilvWindow j (s.on (K.feIlvEnable c))))

/-- FE_IQ_WINDOW: in AUTO mode a window of 2^20 samples gives polarisation p its IQ phase (03 R85). -/
def execFeIqWindow (c : Carrier) (y : Bool) (s : State) : Out :=
  .next (when (s.present c && s.rd (K.feIqMode c) = 0) s fun s => s.modRx c (fun r => r.iqWindow y))

end Sys2Proof.Machine
end

