-- ==== Sys2Proof/Machine/Coefficients.lean ====
section
/-! DEFINITION. The coefficient space of a carrier (spec 11 R317, 01 R31, R34): what its lines hold, and how a written line takes
effect at a block boundary. -/

namespace Sys2Proof.Machine

/-- The number a list of bytes spells, least significant byte first. -/
def leNat (bs : List Byte) : Nat := beNat bs.reverse

/-- The sub-carrier whose gang a cluster leads (01 R22). -/
def State.leadOf (s : State) (c : Carrier) (j : Nat) : Option Nat :=
  if j % (32 / s.subs c) = 0 then some (j / (32 / s.subs c)) else none

/-- The lines of a cluster's region that cores may write (11 R317): its 32-line window offset. -/
def coefWritable (line : Nat) : Bool := line < 0x2000 && line % 256 ≤ 0x12

/-- Two Q15 halves, little-endian, real first. -/
def q15Pair (p : Int × Int) : List Byte := leBytes 2 (ofSigned 16 p.1) ++ leBytes 2 (ofSigned 16 p.2)

/-- The complex Q15 value at a byte of a line. -/
def pairAt (bs : List Byte) (i : Nat) : Int × Int :=
  (toSigned 16 (leNat ((bs.drop i).take 2)), toSigned 16 (leNat ((bs.drop (i + 2)).take 2)))

/-- The bytes of a line that holds fewer than 32: the others are 0. -/
def lineOf (bs : List Byte) : Nat := beNat ((bs ++ List.replicate 32 (0 : Byte)).take 32)

/-- Coefficient lines that cores wrote and no part of the Legend or the receiver holds. -/
def State.coefStore (s : State) : Carrier → List (Nat × Nat)
  | .a => s.cores.coefA
  | .b => s.cores.coefB

/-- A line as cores wrote it; none where none did. -/
def State.coefWritten (s : State) (c : Carrier) (line : Nat) : Option Nat := ((s.coefStore c).find? (fun e => e.1 = line)).map Prod.snd

/-- Line n of a dispersion sheet: eight of its bins, computed (03 R87); none while the generator computes them. -/
def State.sheetLine (s : State) (c : Carrier) (sh : Sheet) (n : Nat) : Option Nat :=
  if sh.ready then some (lineOf ((List.range 8).flatMap (fun i => q15Pair (sheetBin sh.vals (s.rate c) (8 * n + i)).toQ15))) else none

/-- Pilot error sums of the last superframe: X and Y in Q30, and the pilots counted (11 R317). -/
def RxState.pilotLine (r : RxState) (k : Nat) : Nat :=
  let w := fun p => aget r.pilotLast (2 * k + p) WinSum.zero
  lineOf (leBytes 8 (openRat ((w 0).a * 2 ^ 30)).toNat ++ leBytes 8 (openRat ((w 1).a * 2 ^ 30)).toNat ++ leBytes 8 (w 0).n
    ++ leBytes 8 (w 1).n)

/-- What a line reads as: none where the spec gives no content (tables in a layout of the device, lines never written, a sheet being
computed): log entry 68. -/
def State.coefLine (s : State) (c : Carrier) (line : Nat) : Option Nat :=
  let rx := (s.car c).rx
  if line < 0x2000 then
    let o := line % 256
    match s.leadOf c (line / 256) with
    | some k =>
      if o < 16 then some (lineOf (((s.blob (K.eqTaps c k)).drop (32 * o)).take 32))
      else if o = 0x10 then
        let r := aget rx.rot k ((32767, 0), (0, 0))
        some (lineOf (q15Pair r.1 ++ q15Pair r.2))
      else if o = 0x11 then
        some (lineOf (leBytes 4 (ofSigned 32 (s.rd (K.crScFreq c k))) ++ leBytes 2 (ofSigned 16 (aget rx.phase k 0))))
      else if o = 0x12 then some ((s.coefWritten c line).getD 0)
      else if o = 0x20 then some (rx.pilotLine k)
      else some 0
    | none => if o ≤ 0x12 then s.coefWritten c line else if o = 0x20 then none else some 0
  else if 0x10000 ≤ line && line < 0x18000 then s.sheetLine c rx.sheet0 (line - 0x10000)
  else if 0x18000 ≤ line && line < 0x20000 then s.sheetLine c rx.sheet1 (line - 0x18000)
  else if line < 0x4800 || (0x20000 ≤ line && line < 0x22000) then none
  else some 0

/-- A line is held as cores wrote it. -/
def State.coefHold (s : State) (c : Carrier) (line v : Nat) : State :=
  match c with
  | .a => { s with cores := { s.cores with coefA := aput s.cores.coefA line v } }
  | .b => { s with cores := { s.cores with coefB := aput s.cores.coefB line v } }

/-- The LMS step of sub-carrier k, by its gang's line 0x12, or 21.041 where that is 0 (11 R317). -/
def State.lmsStep (s : State) (c : Carrier) (k : Nat) : Nat :=
  let bs := beBytes 32 ((s.coefWritten c (256 * (k * (32 / s.subs c)) + 0x12)).getD 0)
  let m := leNat (bs.take 2)
  if m = 0 then s.rdN (K.eqMu c) else m

/-- A written line takes effect (11 R317). -/
def State.coefApply (s : State) (c : Carrier) (line v : Nat) : State :=
  let bs := beBytes 32 v
  let o := line % 256
  match s.leadOf c (line / 256) with
  | some k =>
    if o < 16 then
      let img := (s.blob (K.eqTaps c k) ++ List.replicate 512 (0 : Byte)).take 512
      s.setBlob (K.eqTaps c k) (img.take (32 * o) ++ bs ++ img.drop (32 * o + 32))
    else if o = 0x10 then
      let r := (pairAt bs 0, pairAt bs 4)
      s.modRx c (fun x => { x with rot := if r = ((32767, 0), (0, 0)) then adel x.rot k else aput x.rot k r })
    else if o = 0x12 then s.coefHold c line v
    else
      let ph := toSigned 16 (leNat ((bs.drop 4).take 2))
      (s.wr (K.crScFreq c k) (clampInt (toSigned 32 (leNat (bs.take 4))) (-50000) 50000)).modRx c (fun x => { x with
        phase := if ph = 0 then adel x.phase k else aput x.phase k ph })
  | none => s.coefHold c line v

/-- A line written by an accepted burst waits for its gang's block boundary (11 R318, 01 R34). -/
def State.coefWrite (s : State) (c : Carrier) (line v : Nat) : State :=
  s.modRx c (fun x => { x with coefDue := x.coefDue ++ [(line, v)] })

/-- The block boundary of sub-carrier k: waiting lines of its gang's clusters take effect together, in the order granted (01 R33, R34);
those of a member other than the lead are held as written. -/
def State.coefBoundary (s : State) (c : Carrier) (k : Nat) : State :=
  let mine := fun (e : Nat × Nat) => decide (e.1 / 256 / (32 / s.subs c) = k)
  let due := (s.car c).rx.coefDue.filter mine
  let s := s.modRx c (fun x => { x with coefDue := x.coefDue.filter (fun e => !mine e) })
  due.foldl (fun s e => s.coefApply c e.1 e.2) s

end Sys2Proof.Machine
end

