-- ==== Sys2Proof/Machine/RxSymbols.lean ====
section
/-! DEFINITION. The receive datapath from sub-carrier samples to symbols (spec 03 R101, R102, R106, R108, R109): the equaliser's
butterfly, the rotator, their adaptation, and carrier recovery from pilots. -/

namespace Sys2Proof.Machine

/-! ### Taps -/

/-- Tap t of a path (0 XX, 1 XY, 2 YX, 3 YY) of a tap image: real and imaginary part. -/
def tapOf (img : List Byte) (path t : Nat) : Int × Int :=
  let at_ := fun (o : Nat) => toSigned 16 ((nth img o 0).toNat + 256 * (nth img (o + 1) 0).toNat)
  (at_ (128 * path + 4 * t), at_ (128 * path + 4 * t + 2))

/-- The bytes of one tap. -/
def tapBytes (p : Int × Int) : List Byte := leBytes 2 (ofSigned 16 p.1) ++ leBytes 2 (ofSigned 16 p.2)

/-- The 32 taps of a path. -/
def pathTaps (img : List Byte) (path : Nat) : List Cx := (List.range 32).map (fun t => Cx.ofQ15 (tapOf img path t))

/-! ### Stage 6: butterfly and rotator (03 R101) -/

/-- The 32 input samples behind symbol n, tap 0's first: tap t meets sample 2n + 31 - t. -/
def eqWindow (inp : List Pol) (base n : Nat) : List Pol := ((inp.drop (base + 2 * n)).take 32).reverse

/-- One path's output. -/
def pathSum (taps xs : List Cx) : Cx := Cx.sum ((taps.zip xs).map (fun p => p.1.mul p.2))

/-- The butterfly of four paths. -/
def butterfly (img : List Byte) (win : List Pol) : Pol :=
  let xs := win.map Pol.x
  let ys := win.map Pol.y
  ⟨(pathSum (pathTaps img 0) xs).add (pathSum (pathTaps img 1) ys), (pathSum (pathTaps img 2) xs).add (pathSum (pathTaps img 3) ys)⟩

/-- The rotator J = [[u, -conj v], [v, conj u]] of 11 R317, as its u and v. -/
def RxState.rotator (r : RxState) (k : Nat) : Cx × Cx :=
  let q := aget r.rot k ((32767, 0), (0, 0))
  (Cx.ofQ15 q.1, Cx.ofQ15 q.2)

/-- J applied. -/
def rotate (j : Cx × Cx) (p : Pol) : Pol := ⟨(j.1.mul p.x).sub (j.2.conj.mul p.y), (j.2.mul p.x).add (j.1.conj.mul p.y)⟩

/-- An error referred back through the rotator's inverse (03 R102). -/
def unrotate (j : Cx × Cx) (p : Pol) : Pol := ⟨(j.1.conj.mul p.x).add (j.2.conj.mul p.y), (j.1.mul p.y).sub (j.2.mul p.x)⟩

/-! ### The error by input (03 R102) -/

/-- The loading set the receiver uses (03 R113). -/
def State.rxSet (s : State) (c : Carrier) : LoadSet :=
  match (s.car c).rx.inUse with
  | none => s.fallbackSet c
  | some i => (if i = 0 then (s.car c).rx.slot0 else (s.car c).rx.slot1).set

/-- The amplitude level nearest to a value, with its sign. -/
def nearest (levels : List Rat) (v : Rat) : Rat :=
  let m := levels.foldl (fun best a => if |(|v|) - a| < |(|v|) - best| then a else best) (levels.headD 0)
  if v < 0 then -m else m

/-- The amplitude levels A_l c of a record (02 R62, R63). -/
def scaledLevels (t : MatchTable) : List Rat := (gridLevels t.grid).map (fun a => sqrtRat t.c2 * (a : Rat))

/-- The known symbol of sub-carrier k at position n: the pilot of a frame (02 R46, R51), or the body symbol of a sounding (04 R124, R126). -/
def pilotSymbol (snd : Bool) (k n : Nat) : Pol :=
  let at_ := fun y => if snd then bodySymbol k (n - 128) y else quadSymbol (pilotBits k) ((n - 128) / 32) y
  ⟨at_ false, at_ true⟩

/-- A frame position holds a pilot (02 R46). -/
def isPilot (n : Nat) : Bool := 128 ≤ n && n % 32 = 0

/-- A position whose symbol carrier recovery knows: a pilot of a frame, or every body position of a sounding (04 R135). -/
def isKnown (snd : Bool) (n : Nat) : Bool := if snd then decide (128 ≤ n) else isPilot n

/-- Symbol periods of a frame or a sounding. -/
def frameSpan (snd : Bool) : Nat := if snd then 4096 else 8192

/-- Symbol periods from one known symbol to the next. -/
def knownStep (snd : Bool) : Nat := if snd then 1 else 32

/-- The phase that carrier recovery holds of sub-carrier k, in turns. -/
def RxState.theta (r : RxState) (k : Nat) : Rat := ((aget r.phase k 0 : Int) : Rat) / 65536

/-- The error of output y: by CMA on every symbol; on frames pilot minus y at pilots, and in PILOT_DD nearest base-grid point minus y,
weighted by 1/8, on payload. The wanted symbol carries the phase of carrier recovery, which follows this stage. -/
def State.eqError (s : State) (c : Carrier) (k : Nat) (t : MatchTable) (pos : Option Nat) (y : Pol) : Pol :=
  let theta := (s.car c).rx.theta k
  let turned := fun (d : Pol) => Pol.mul (Cx.turn theta) d
  let minus := fun (d : Pol) => (⟨d.x.sub y.x, d.y.sub y.y⟩ : Pol)
  match pos with
  | none => ⟨Cx.smul (1 - y.x.normSq) y.x, Cx.smul (1 - y.y.normSq) y.y⟩
  | some n =>
    if isPilot n then minus (turned (pilotSymbol false k n))
    else if 128 ≤ n && s.rd (K.eqMode c) = 1 then
      let z := Pol.mul (Cx.turn (-theta)) y
      let near := nearest (scaledLevels t)
      Pol.mul ⟨1 / 8, 0⟩ (minus (turned ⟨⟨near z.x.re, near z.x.im⟩, ⟨near z.y.re, near z.y.im⟩⟩))
    else Pol.zero

/-! ### The equaliser block (03 R102 to R105; 01 R22, R23) -/

/-- The gradient of a path at tap t over a block: errors of its output times the conjugate input. -/
def gradient (errs : List Cx) (ins : List (List Cx)) (t : Nat) : Cx :=
  Cx.sum ((errs.zip ins).map (fun p => p.1.mul (nth p.2 t Cx.zero).conj))

/-- Taps after an update of step mu from the errors of a block, referred back through the rotator, and its input windows (03 R102). -/
def adaptTaps (img : List Byte) (mu : Rat) (errs : List Pol) (wins : List (List Pol)) : List Byte :=
  let ex := errs.map Pol.x
  let ey := errs.map Pol.y
  let wx := wins.map (fun w => w.map Pol.x)
  let wy := wins.map (fun w => w.map Pol.y)
  (List.range 4).flatMap (fun path => (List.range 32).flatMap (fun t =>
    let old := tapOf img path t
    let g := gradient (if path < 2 then ex else ey) (if path % 2 = 0 then wx else wy) t
    tapBytes (clampInt (old.1 + openRat (32768 * mu * g.re)) (-32768) 32767, clampInt (old.2 + openRat (32768 * mu * g.im)) (-32768) 32767)))

/-- The magnitude of the correlation between the X and Y outputs of a block exceeds 0.9 (03 R103). -/
def correlated (ys : List Pol) : Bool :=
  let r := Cx.sum (ys.map (fun p => p.x.mul p.y.conj))
  let px := (ys.map (fun p => p.x.normSq)).sum
  let py := (ys.map (fun p => p.y.normSq)).sum
  81 * px * py < 100 * r.normSq

/-- The side on which the centre of energy of the XX and YY paths lies outside taps 12 to 20: above (true) or below (03 R105). -/
def offCentre (img : List Byte) : Option Bool :=
  let e := (List.range 32).map (fun t => (Cx.ofQ15 (tapOf img 0 t)).normSq + (Cx.ofQ15 (tapOf img 3 t)).normSq)
  let m : Rat := ((e.zip (List.range 32)).map (fun p => p.1 * ((p.2 : Nat) : Rat))).sum
  if 20 * e.sum < m then some true else if m < 12 * e.sum then some false else none

/-- Stage-6 input of sub-carrier k: its samples, and where the block's first symbol reads, by the input pointer. -/
def RxState.eqInput (r : RxState) (k : Nat) : List Pol × Nat :=
  (aget r.eqIn k (List.replicate eqLead Pol.zero), (eqLead - aget r.inPtr k 0 : Int).toNat)

/-- Symbols of a block of sub-carrier k: 128 for each of the gang's 32/S members (01 R22), as far as the input goes. -/
def State.eqCount (s : State) (c : Carrier) (k : Nat) : Nat :=
  let i := (s.car c).rx.eqInput k
  min (128 * (32 / s.subs c)) (((i.1.length : Int) - i.2 - 30) / 2).toNat

/-- The datapath of an equaliser block: the members' symbols in order, the tap update from their summed gradients unless 21.042 stops it,
and the runs of high correlation (in CMA) and of an off-centre energy centre. Once soundings are detected, and on frames, the symbols go
on to carrier recovery. -/
def State.eqBlock (s : State) (c : Carrier) (k : Nat) : State :=
  let r := (s.car c).rx
  let img := s.blob (K.eqTaps c k)
  let i := r.eqInput k
  let n := s.eqCount c k
  let j := r.rotator k
  let wins := (List.range n).map (eqWindow i.1 i.2)
  let ys := wins.map (fun w => (rotate j (butterfly img w)).hold 6)
  let pos := aget r.eqPos k 0
  let t := nth (s.rxSet c).matchTables k ⟨128, 0, [], 1⟩
  let errs := (ys.zip (List.range n)).map (fun p =>
    unrotate j (s.eqError c k t (if r.cma then none else some ((pos + p.2) % 8192)) p.1))
  let mu : Rat := (if r.cma then s.rdN (K.eqCmaMu c) else s.lmsStep c k : Nat) / 65536
  let s := if n = 0 || s.on (K.eqFreeze c) then s else s.setBlob (K.eqTaps c k) (adaptTaps img mu errs wins)
  let off := offCentre (s.blob (K.eqTaps c k))
  let high := correlated ys
  let track := phSettle ≤ s.rd (K.acqPhase c)
  s.modRx c (fun r => { r with
    eqIn := if n = 0 then r.eqIn else aput r.eqIn k (i.1.drop (2 * n))
    eqOut := if track then aput r.eqOut k (aget r.eqOut k [] ++ ys) else r.eqOut
    eqPos := if track then aput r.eqPos k ((pos + n) % frameSpan r.cma) else r.eqPos
    singRun := if r.cma && high then aput r.singRun k (aget r.singRun k 0 + 1) else adel r.singRun k
    shiftRun := match off with
      | none => adel r.shiftRun k
      | some up => aput r.shiftRun k ((aget r.shiftRun k (0, up)).1 + 1, up) })

/-! ### Stage 7: the rotator loop (03 R106) -/

/-- sigma_i of a pair: the Pauli matrices diag(1, -1), [[0, 1], [1, 0]], [[0, -j], [j, 0]]. -/
def pauli (i : Nat) (p : Pol) : Pol :=
  if i = 0 then ⟨p.x, Cx.zero.sub p.y⟩
  else if i = 1 then ⟨p.y, p.x⟩
  else ⟨⟨p.y.im, -p.y.re⟩, ⟨-p.x.im, p.x.re⟩⟩

/-- The small rotation about axis i that brings y nearest to d: Re <j sigma_i y, d> / |y|^2. -/
def axisError (i : Nat) (y d : Pol) : Rat :=
  let w := Pol.mul ⟨0, 1⟩ (pauli i y)
  if y.power = 0 then 0 else ((d.x.mul w.x.conj).re + (d.y.mul w.y.conj).re) / y.power

/-- The rotation exp(j (a1 sigma_1 + a2 sigma_2 + a3 sigma_3)) after a rotator, angles in radians, and its length. -/
def turnRotator (a : Rat × Rat × Rat) (j : Cx × Cx) : (Cx × Cx) × Rat :=
  let len := sqrtRat (a.1 * a.1 + a.2.1 * a.2.1 + a.2.2 * a.2.2)
  if len = 0 then (j, 0)
  else
    let t := len / (2 * piRat)
    let k := sinTurn t / len
    let e11 : Cx := ⟨cosTurn t, k * a.1⟩
    let e12 : Cx := ⟨k * a.2.2, k * a.2.1⟩
    let u := (e11.mul j.1).add (e12.mul j.2)
    let v := (e11.conj.mul j.2).sub (e12.conj.mul j.1)
    ((u, v), len)

/-- The rotator of sub-carrier k at a pilot (03 R106): a second-order loop of bandwidth 21.050 on the rotation between output y and wanted
symbol d. The angle in Stokes space, twice that of the Jones matrix, is summed for the rate report. -/
def State.rotatorLoop (s : State) (c : Carrier) (k : Nat) (y d : Pol) : State :=
  let r := (s.car c).rx
  let cr := aget r.cr k CrState.reset
  let g := Config.loopGain (s.rdN (K.sopBw c)) ((knownStep r.cma * s.subs c : Nat) / s.symRate c)
  let e := fun i => axisError i y d
  let rate := (shortRat (cr.rates.1 + g.2 * e 0), shortRat (cr.rates.2.1 + g.2 * e 1), shortRat (cr.rates.2.2 + g.2 * e 2))
  let out := turnRotator (rate.1 + g.1 * e 0, rate.2.1 + g.1 * e 1, rate.2.2 + g.1 * e 2) (r.rotator k)
  let q := (out.1.1.toQ15, out.1.2.toQ15)
  s.modRx c (fun r => { r with
    rot := if q = ((32767, 0), (0, 0)) then adel r.rot k else aput r.rot k q
    cr := aput r.cr k { cr with rates := rate, angle := cr.angle + 2 * out.2, periods := cr.periods + knownStep r.cma } })

/-! ### Stage 7: phase and frequency from pilots (03 R108, R109) -/

/-- The phase estimate at the pilot `back` pilots before the latest, in turns: the argument of the sum of y conj(x) over the 2W + 1 pilots
centred on it, as far as there are such (03 R109 step 1). -/
def pilotPhase (pilots : List PilotRec) (w back : Nat) : Rat :=
  let win := (pilots.drop (back - w)).take (back + w + 1 - (back - w))
  Cx.arg (Cx.sum (win.map (fun p => (p.got.x.mul p.known.x.conj).add (p.got.y.mul p.known.y.conj))))

/-- A phase moved by whole turns to lie within half a turn of another (03 R109 step 3). -/
def unwrap (t last : Rat) : Rat := t + (last - t + 1 / 2).floor

/-- A group of symbols, its last the pilot, between two pilot phases: each is turned back by the interpolated phase (03 R109 step 2). -/
def derotate (group : List Pol) (a b : Rat) : List Pol :=
  (group.zip (List.range group.length)).map (fun p =>
    (Pol.mul (Cx.turn (-(a + (b - a) * (p.2 + 1 : Nat) / group.length))) p.1).hold 7)

/-- The pilot error power of a pilot by polarisation, after its phase (03 R115, 05 R148). -/
def RxState.addPilotErr (r : RxState) (k : Nat) (p : PilotRec) (theta : Rat) : RxState :=
  let z := Pol.mul (Cx.turn (-theta)) p.got
  let add := fun (m : List (Nat × WinSum)) q (e : Cx) => aput m q ((aget m q WinSum.zero).add e.normSq 0 0)
  { r with pilotErr := add (add r.pilotErr (2 * k) (z.x.sub p.known.x)) (2 * k + 1) (z.y.sub p.known.y) }

/-- The oldest waiting group of sub-carrier k is released with the phase of its pilot: the symbols of a frame go on, and its pilot's error is
summed; the phase stands in the entry of 11 R317, in Q15 of pi. -/
def RxState.release (r : RxState) (k w : Nat) : RxState :=
  let cr := aget r.cr k CrState.reset
  match cr.wait with
  | [] => r
  | g :: rest =>
    let back := rest.length
    let raw := pilotPhase cr.pilots w back
    let last := cr.last.getD raw
    let th := shortRat (unwrap raw last)
    let r := match r.cma, cr.pilots[back]? with
      | false, some p => r.addPilotErr k p th
      | _, _ => r
    let ph := toSigned 16 (ofSigned 16 (openRat (65536 * th)))
    { r with
      cr := aput r.cr k { cr with wait := rest, last := some th }, syms := if r.cma then r.syms else aput r.syms k (aget r.syms k [] ++ derotate g last th)
      phase := if ph = 0 then adel r.phase k else aput r.phase k ph }

/-- f_common moves by the frequency error of sub-carrier k, in kHz, as one of S (03 R108): a second-order loop of bandwidth 21.061, limited
to 500 MHz. -/
def State.commonLoop (s : State) (c : Carrier) (err : Rat) : State :=
  let r := (s.car c).rx
  let g := Config.loopGain (s.rdN (K.crFreqBw c)) ((knownStep r.cma * s.subs c : Nat) / s.symRate c)
  let i := shortRat (r.commonInt + g.2 * err / s.subs c)
  let f := max (-500000) (min 500000 (shortRat (r.common + i + g.1 * err / s.subs c)))
  s.modRx c (fun r => { r with common := f, commonInt := i, crLimit := f = 500000 || f = -500000 })

/-- 21.062, 21.064 and bit 2 of 21.001 follow f_common; reaching 450 MHz raises its event and counts (03 R110). -/
def State.commonReport (s : State) (c : Carrier) : State :=
  let f := clampInt (openRat (s.car c).rx.common) (-500000) 500000
  let near := decide (450000 ≤ |(s.car c).rx.common|)
  let was := bitOf (s.rdN (K.rxStatus c)) 2
  let s := (s.setCommon c f).rxStatusBit c 2 near
  if near && !was then (s.raise Ev.rxCrNearLimit (K.crLimitCount c)).bump (K.crLimitCount c) else s

/-- The frequency loops at a pilot (03 R108): the phase step between the last two phases over the periods between them is the sub-carrier's residual,
within 50 MHz, and drives the common loop. -/
def State.freqLoops (s : State) (c : Carrier) (k : Nat) (before : Option Rat) : State :=
  match before, (aget (s.car c).rx.cr k CrState.reset).last with
  | some a, some b =>
    let f := max (-50000) (min 50000 ((b - a) * 1000 * s.symRate c / (knownStep (s.car c).rx.cma * s.subs c : Nat)))
    let s := s.modRx c (fun r => { r with cr := aput r.cr k { aget r.cr k CrState.reset with resid := f } })
    ((s.wr (K.crScFreq c k) (clampInt (openRat f) (-50000) 50000)).commonLoop c f).commonReport c
  | _, _ => s

/-- The number of symbols up to and with the next known symbol, from a position on, among n. -/
def toPilot (snd : Bool) (pos n : Nat) : Option Nat :=
  ((List.range n).find? (fun i => isKnown snd ((pos + i) % frameSpan snd))).map (· + 1)

/-- Stage 7 at the next pilot of sub-carrier k, if stage 6 has given it: rotator, phase of pilot p - W, and the frequency loops. -/
def State.pilotStep (s : State) (c : Carrier) (k : Nat) : State :=
  let r := (s.car c).rx
  let q := aget r.eqOut k []
  let pos := aget r.outPos k 0
  match toPilot r.cma pos q.length with
  | none => s
  | some n =>
    let known := pilotSymbol r.cma k ((pos + n - 1) % frameSpan r.cma)
    let got := nth q (n - 1) Pol.zero
    let theta := r.theta k
    let s := s.rotatorLoop c k got (Pol.mul (Cx.turn theta) known)
    let w := s.rdN (K.crPilotWindow c)
    let before := (aget r.cr k CrState.reset).last
    let s := s.modRx c (fun r =>
      let cr := aget r.cr k CrState.reset
      let r := { r with
        eqOut := aput r.eqOut k (q.drop n), outPos := aput r.outPos k ((pos + n) % frameSpan r.cma)
        cr := aput r.cr k { cr with pilots := (⟨known, got⟩ :: cr.pilots).take 24, wait := cr.wait ++ [q.take n] } }
      iter (fun r => r.release k w) (cr.wait.length + 1 - w) r)
    s.freqLoops c k before

end Sys2Proof.Machine
end

