-- ==== Sys2Proof/Machine/RxSoft.lean ====
section
/-! DEFINITION. Soft decisions of the line receiver (spec 03 R114 to R118; 01 R26; 06 R180): demapper, deshaper and quantiser, from the
symbols after carrier recovery to the coded-bit stream. -/

namespace Sys2Proof.Machine

/-! ### Priors (03 R114) -/

/-- How many sequences of length n have an energy, by the count tables (02 R62). -/
def countOf (tabs : List (List Nat)) (n e : Nat) : Nat := nth (nth tabs n []) e 0

/-- How often level l stands in all sequences of length n + 1 of an energy. -/
def levelAll (tabs : List (List Nat)) (l n e : Nat) : Nat :=
  let d := (l * l - 1) / 8
  if e < d then 0 else (n + 1) * countOf tabs n (e - d)

/-- How often level l stands in the first m sequences of length n of an energy, in lexicographic order. -/
def levelFirst (tabs : List (List Nat)) (levels : List Nat) (l : Nat) : Nat → Nat → Nat → Nat
  | 0, _, _ => 0
  | n + 1, e, m =>
    (levels.foldl (fun (st : Nat × Nat) a =>
      let d := (a * a - 1) / 8
      if e < d then st
      else
        let here := min st.1 (countOf tabs n (e - d))
        let rest := if here = countOf tabs n (e - d) then (if n = 0 then 0 else levelAll tabs l (n - 1) (e - d))
          else levelFirst tabs levels l n (e - d) here
        (st.1 - here, st.2 + (if a = l then here else 0) + rest)) (m, 0)).2

/-- P(l), the marginal probability of level l over the codebook: the 2^a sequences of length 128 of least energy (02 R62, 03 R114). -/
def levelProb (t : MatchTable) (l : Nat) : Rat :=
  let a := t.k - 128
  let top := nth t.counts 128 []
  let step := fun (st : Nat × Nat) (e : Nat) =>
    let here := min st.1 (nth top e 0)
    (st.1 - here, st.2 + (if here = nth top e 0 then levelAll t.counts l 127 e else levelFirst t.counts (gridLevels t.grid) l 128 e here))
  ((((List.range top.length).foldl step (2 ^ a, 0)).2 : Nat) : Rat) / (128 * 2 ^ a : Nat)

/-! ### The demapper (03 R114 to R116) -/

/-- sigma^2 of sub-carrier k and a polarisation, per dimension: the pilot error power of the last superframe, or 21.082 in FIRMWARE (03
R115, 05 R148). -/
def State.noiseVar (s : State) (c : Carrier) (n : Nat) : Rat :=
  if s.rd (K.noiseMode c) = 1 then (s.rdN (K.noiseVar c n) : Rat) / 65536
  else
    let w := aget (s.car c).rx.pilotLast n WinSum.zero
    if w.n = 0 || w.a = 0 then Config.noiseStart else w.a / (2 * w.n)

/-- The greatest of a list; of none, 0. -/
def greatestOf (l : List Rat) : Rat := match l with
  | [] => 0
  | x :: t => t.foldl max x

/-- What the demapper passes on for a received value y in one dimension, in max-log form (03 R114): the sign LLR, and one metric per
level where there are several. -/
def demapOne (levels priors : List Rat) (var y : Rat) : Rat × List Rat :=
  let near := fun a => -((y - a) ^ 2) / (2 * var)
  let far := fun a => -((y + a) ^ 2) / (2 * var)
  let best := fun (d : Rat → Rat) => greatestOf ((levels.zip priors).map (fun p => p.2 + d p.1))
  (best near - best far, if levels.length = 1 then [] else levels.map (fun a => max (near a) (far a)))

/-- The demapped payload symbols of one frame of sub-carrier k on a polarisation: FAW, overhead and pilots are skipped (03 R116). -/
def State.demapFrame (s : State) (c : Carrier) (k : Nat) (y : Bool) (frame : List Pol) : List (Option SoftSym) :=
  let t := nth (s.rxSet c).matchTables k ⟨128, 0, [], 1⟩
  let levels := scaledLevels t
  let ls := gridLevels t.grid
  let priors := ls.map (fun l => lnRat (if s.on (K.demapPrior c) then (if ls.length = 1 then 1 else levelProb t l) else 1 / ls.length))
  let var := s.noiseVar c (2 * k + b2n y)
  ((frame.zip (List.range 8192)).filter (fun p => 128 ≤ p.2 && !isPilot p.2)).map (fun p =>
    let z := if y then p.1.y else p.1.x
    some ⟨demapOne levels priors var z.re, demapOne levels priors var z.im⟩)

/-! ### The deshaper (03 R117) -/

/-- The 128 positions I0, Q0, I1, ... of a block of 64 symbols. -/
def positions (syms : List SoftSym) : List (Rat × List Rat) := syms.flatMap (fun x => [x.i, x.q])

/-- The path metric of an amplitude sequence: the sum of its amplitude metrics. -/
def pathMetric (grid : Nat) (pos : List (Rat × List Rat)) (seq : List Nat) : Rat :=
  ((pos.zip seq).map (fun p => nth p.1.2 ((gridLevels grid).idxOf p.2) 0)).sum

/-- The LLR of index bit b (0 the most significant of a): the best path of the codebook with the bit 0 against the best with the bit 1
(03 R117, the max-log result). -/
def indexLlr (t : MatchTable) (pos : List (Rat × List Rat)) (b : Nat) : Rat :=
  let a := t.k - 128
  let best := fun (v : Bool) => greatestOf (((List.range (2 ^ a)).filter (fun i => bitOf i (a - 1 - b) = v)).map (fun i =>
    pathMetric t.grid pos (unrank (gridLevels t.grid) t.counts 128 i)))
  best false - best true

/-- The k LLRs of a matcher block, in the order the matcher consumed its bits (03 R117). -/
def deshape (t : MatchTable) (syms : List SoftSym) : List Rat :=
  let pos := positions syms
  let sign := fun j => (nth pos j (0, [])).1
  if 128 ≤ t.k then (List.range 128).map sign ++ (List.range (t.k - 128)).map (indexLlr t pos)
  else (List.range t.k).map (fun j => sign j + (if t.k + j < 128 then sign (t.k + j) else 0))

/-- An LLR quantised to 6 bits with step 1/256 of 21.080 (03 R118). -/
def quantLlr (step : Nat) (l : Rat) : Int := clampInt (256 * l / step + 1 / 2).floor (-31) 31

/-! ### The coded-bit stream (03 R117, R118; 02 R60) -/

/-- The payload symbols of sub-carrier k and polarisation p that wait for the deshaper. -/
def RxState.softOf (r : RxState) (i : Nat) : List (Option SoftSym) := aget r.soft i []

/-- One matcher slot, once every sub-carrier has its 64 symbols on both polarisations: its blocks in the dealing order of 02 R60. A block
with a lost symbol is erased. -/
def slotStep (subs step : Nat) (tabs : List MatchTable) (r : RxState) : RxState :=
  if (List.range (2 * subs)).any (fun i => (r.softOf i).length < 64) then r
  else
    let llrs := (List.range (2 * subs)).flatMap (fun i =>
      let t := nth tabs (i / 2) ⟨128, 0, [], 1⟩
      let blk := (r.softOf i).take 64
      if blk.any Option.isNone then List.replicate t.k none
      else (deshape t (blk.filterMap id)).map (fun l => some (quantLlr step l)))
    { r with
      soft := (List.range (2 * subs)).foldl (fun m i => aput m i ((r.softOf i).drop 64)) r.soft
      slotU := r.slotU + 1, llrs := r.llrs ++ llrs }

/-- The payload of frame fi (03 R116 to R118): its symbols are demapped, or enter as lost (01 R26, 06 R180), and complete matcher slots are
deshaped into the stream to the decoder. Blocks restart at frame 0; a stream that no decoder takes begins anew there. With the tag not
held the payload is not demapped (05 R159). Without the frame's symbols a frame that is not lost gives nothing. -/
def State.takePayload (s : State) (c : Carrier) (fi : Nat) (lost : Bool) : State :=
  let subs := s.subs c
  let r := (s.car c).rx
  let here := (List.range subs).all (fun k => 8192 ≤ (aget r.syms k []).length)
  let frame := fun k => (aget r.syms k []).take 8192
  let new := fun (i : Nat) =>
    if lost then List.replicate 7812 none
    else if here then s.demapFrame c (i / 2) (i % 2 = 1) (frame (i / 2))
    else []
  let s := s.modRx c (fun r =>
    let r := if fi = 0 then { r with soft := [], slotU := 0, llrs := if (s.car c).fec.accepting then r.llrs else [] } else r
    { r with
      syms := if here then (List.range subs).foldl (fun m k => aput m k ((aget r.syms k []).drop 8192)) r.syms else r.syms
      soft := if r.unknown then [] else (List.range (2 * subs)).foldl (fun m i => aput m i (r.softOf i ++ new i)) r.soft })
  let tabs := (s.rxSet c).matchTables
  s.modRx c (fun r => iter (slotStep subs (s.rdN (K.llrStep c)) tabs) 123 r)

end Sys2Proof.Machine
end

