-- ==== Sys2Proof/Machine/LineRx.lean ====
section
/-! DEFINITION. Line receiver (spec 03): timing lock, equaliser, SOP, carrier recovery, headers and the choice of the loading set. -/

namespace Sys2Proof.Machine

/-! ### Timing recovery -/

/-- RX_TIMING_LOCK: the variance of the timing error has stayed below its threshold for 64 block hops, and lock is declared (03 R98); the
threshold is not stated (log entry 117). -/
def execRxTimingLock (c : Carrier) (s : State) : Out :=
  .next (when (s.present c && s.emitting c && s.dieReady c && s.rd (K.trLock c) = 0) s fun s =>
    ((s.wr (K.trLock c) 1).rxStatusBit c 5 true).raise Ev.rxTimingLock (K.trLock c))

/-- RX_TIMING_UNLOCK: loss of timing lock is declared and counted, and is a loss-of-lock cause (03 R98; 04 R138). -/
def execRxTimingUnlock (c : Carrier) (s : State) : Out :=
  .next (when (s.present c && s.rd (K.trLock c) = 1) s fun s =>
    ((((s.wr (K.trLock c) 0).rxStatusBit c 5 false).bump (K.trUnlockCount c)).raise Ev.rxTimingUnlock (K.trUnlockCount c)).lossCause c 1)

/-! ### Equaliser (03 R101 to R105) -/

/-- The negative of a Q15 value; the negative of -1.0 is the largest value. -/
def negQ15 (v : Int) : Int := clampInt (-v) (-32768) 32767

/-- YX and YY as the conjugate orthogonal of XX and XY (03 R103): YX = -conj XY, YY = conj XX. -/
def orthogonalTaps (img : List Byte) : List Byte :=
  img.take 256
    ++ (List.range 32).flatMap (fun t => tapBytes (negQ15 (tapOf img 1 t).1, (tapOf img 1 t).2))
    ++ (List.range 32).flatMap (fun t => tapBytes ((tapOf img 0 t).1, negQ15 (tapOf img 0 t).2))

/-- All four paths shifted by one tap toward lower or higher tap numbers. -/
def shiftTaps (img : List Byte) (down : Bool) : List Byte :=
  (List.range 4).flatMap fun path =>
    let p := (img.drop (128 * path)).take 128
    if down then p.drop 4 ++ [0, 0, 0, 0] else [0, 0, 0, 0] ++ p.take 124

/-- EQ_BLOCK_UPDATE: the equaliser block of sub-carrier k ends (03 R102 to R105): its symbols are formed and its taps adapt; a reset waiting
for the boundary is made (R104); lines written by cores replace what adaptation gave (01 R34); and once frame alignment is found the next
block adapts on pilots, its first symbol being the first of a frame. -/
def eqBlockUpdate (c : Carrier) (k : Nat) (s : State) : State :=
  when (s.present c && s.emitting c && k < s.subs c) s fun s =>
    let s := s.eqBlock c k
    let s := if (s.car c).rx.reinit.contains k then
        (s.resetTaps c k).modRx c (fun r => { r with reinit := r.reinit.filter (· ≠ k) }) else s
    let s := s.coefBoundary c k
    if (s.car c).rx.cma && phLocked ≤ s.rd (K.acqPhase c) then
      (s.modRx c (fun r => { r.dropFrames with cma := false })).rxStatusBit c 4 true
    else s

/-- EQ_BLOCK_UPDATE. -/
def execEqBlockUpdate (c : Carrier) (k : Nat) (s : State) : Out := .next (eqBlockUpdate c k s)

/-- RX_EQ_SINGULAR: in CMA the correlation has exceeded 0.9 over 4 consecutive blocks (03 R103); 21.042 does not
hold the recovery back (log entry 125). -/
def execRxEqSingular (c : Carrier) (k : Nat) (s : State) : Out :=
  .next (when (s.present c && (s.car c).rx.cma && 4 ≤ aget (s.car c).rx.singRun k 0) s fun s =>
    (((s.setBlob (K.eqTaps c k) (orthogonalTaps (s.blob (K.eqTaps c k)))).modRx c (fun r => { r with
      singRun := adel r.singRun k })).bump (K.eqSingularCount c k)).raise Ev.rxEqSingular (K.eqSingularCount c k))

/-- EQ_REINIT: 21.046 resets sub-carrier k, or all at 32, at the next block boundary (03 R104). -/
def execEqReinit (src : Nat) (c : Carrier) (v : Int) (s : State) : Out :=
  .next (s.request src (K.eqReinit c) fun s =>
    let k := (clampKey (K.eqReinit c) v).toNat
    (s.modRx c (fun r => { r with
      reinit := if k = 32 then List.range 32 else if r.reinit.contains k then r.reinit else r.reinit ++ [k] }), .ok))

/-- A sub-carrier's deskew reaches its limit (03 R100; 04 R138). -/
def State.deskewLimit (s : State) (c : Carrier) (k : Nat) : State :=
  ((s.rxStatusBit c 1 false).raise Ev.rxDeskewLimit (K.scDeskew c k)).lossCause c 2

/-- EQ_TAP_SHIFT: the energy centre has stayed outside taps 12 to 20 for 8 blocks (03 R105): all paths shift one tap
toward the centre and the input pointer moves half a period to match; the deskew follows the pointer in whole periods (R100), and past
128 the carrier loses lock. 21.042 does not hold the shift back (log entry 125). -/
def eqTapShift (c : Carrier) (k : Nat) (s : State) : State :=
  let run := aget (s.car c).rx.shiftRun k (0, true)
  when (s.present c && 8 ≤ run.1) s fun s =>
    let d : Int := if run.2 then 1 else -1
    let old := aget (s.car c).rx.inPtr k 0
    let ptr := old + d
    let dsk := s.rd (K.scDeskew c k) + ptr / 2 - old / 2
    if dsk < -128 || 128 < dsk then (s.modRx c (fun r => { r with shiftRun := adel r.shiftRun k })).deskewLimit c k
    else
      (((s.setBlob (K.eqTaps c k) (shiftTaps (s.blob (K.eqTaps c k)) run.2)).modRx c (fun r => { r with
        shiftRun := adel r.shiftRun k, inPtr := aput r.inPtr k ptr })).wr (K.scDeskew c k) dsk).bump (K.eqShiftCount c k)

/-- EQ_TAP_SHIFT. -/
def execEqTapShift (c : Carrier) (k : Nat) (s : State) : Out := .next (eqTapShift c k s)

/-! ### SOP (03 R106) -/

/-- The rates, in krad/s, as 21.051 reports them: only from SETTLE on, and 0 for k >= S. -/
def State.sopRates (s : State) (c : Carrier) (rates : List Nat) : List Nat :=
  (List.range 32).map (fun k =>
    if phSettle ≤ s.rd (K.acqPhase c) ∧ k < s.subs c then min (nth rates k 0) 100000 else 0)

/-- The rotation rate of sub-carrier k in krad/s over the pilots since the last report (03 R106); with none, the rate as it was. -/
def State.sopMeasured (s : State) (c : Carrier) (k : Nat) : Nat :=
  let cr := aget (s.car c).rx.cr k CrState.reset
  if cr.periods = 0 then s.rdN (K.sopRate c k) else (openRat (cr.angle * 1000 * s.symRate c / (cr.periods * s.subs c : Nat))).toNat

/-- SOP_RATE_UPDATE: each 1 us the rates and their peak are updated; a rate above 21.054 sets 21.001 bit 3 and raises
RX_SOP_HIGH. -/
def sopRateUpdate (c : Carrier) (s : State) : State :=
  when (s.present c) s fun s =>
    let rs := s.sopRates c ((List.range 32).map (s.sopMeasured c))
    let s := s.modRx c (fun r => { r with cr := r.cr.map (fun e => (e.1, { e.2 with angle := 0, periods := 0 })) })
    let s := (rs.zip (List.range 32)).foldl (fun s p => s.wr (K.sopRate c p.2) (p.1 : Nat)) s
    let s := s.wr (K.sopRatePeak c) (rs.foldl max (s.rdN (K.sopRatePeak c)) : Nat)
    match (rs.zip (List.range 32)).find? (fun p => s.rdN (K.sopAlarmRate c) < p.1) with
    | some p =>
      if bitOf (s.rdN (K.rxStatus c)) 3 then s
      else (s.rxStatusBit c 3 true).raise Ev.rxSopHigh (K.sopRate c p.2)
    | none => s

/-- SOP_RATE_UPDATE. -/
def execSopRateUpdate (c : Carrier) (s : State) : Out := .next (sopRateUpdate c s)

/-- RX_SOP_NORMAL: every rate has been below 21.054 for 1 ms. -/
def execRxSopNormal (c : Carrier) (s : State) : Out :=
  .next (when (s.present c && bitOf (s.rdN (K.rxStatus c)) 3
      && (List.range 32).all (fun k => s.rd (K.sopRate c k) < s.rd (K.sopAlarmRate c))) s fun s =>
    (s.rxStatusBit c 3 false).raise Ev.rxSopNormal (K.rxStatus c))

/-- SOP_PEAK_CLEAR: 21.053 clears 21.052. -/
def execSopPeakClear (src : Nat) (c : Carrier) (s : State) : Out :=
  .next (s.request src (K.sopPeakClear c) fun s => (s.wr (K.sopRatePeak c) 0, .ok))

/-! ### Carrier recovery (03 R108 to R110) -/

/-- RX_PILOT_UPDATE: the next pilot of sub-carrier k reaches stage 7 (03 R106 to R110). -/
def rxPilotUpdate (c : Carrier) (k : Nat) (s : State) : State :=
  when (s.present c && s.emitting c && k < s.subs c) s fun s => s.pilotStep c k

/-- RX_PILOT_UPDATE. -/
def execRxPilotUpdate (c : Carrier) (k : Nat) (s : State) : Out := .next (rxPilotUpdate c k s)

/-- CR_LIMIT_HOLD_EXPIRY: f_common has stood at its limit for 1 ms, loss-of-lock cause 3 (04 R138). -/
def execCrLimitHoldExpiry (c : Carrier) (s : State) : Out :=
  .next (when (s.present c && (s.car c).rx.crLimit) s fun s => s.lossCause c 3)

/-! ### Headers and the loading set (03 R111 to R113; 05 R156 to R160) -/

/-- The slot of a number. -/
def RxState.slot (r : RxState) (i : Nat) : RxSlot := if i = 0 then r.slot0 else r.slot1

/-- A slot changes. -/
def RxState.modSlot (r : RxState) (i : Nat) (f : RxSlot → RxSlot) : RxState :=
  if i = 0 then { r with slot0 := f r.slot0 } else { r with slot1 := f r.slot1 }

/-- The tag of the set in use. -/
def RxState.tagInUse (r : RxState) : Nat :=
  match r.inUse with
  | none => 0
  | some i => (r.slot i).tag

/-- The set a tag names among the fallback set and the slots that hold one: none is the fallback set. -/
def RxState.lookup (r : RxState) (tag : Nat) : Option (Option Nat) :=
  if tag = 0 then some none
  else if r.slot0.held ∧ r.slot0.tag = tag then some (some 0)
  else if r.slot1.held ∧ r.slot1.tag = tag then some (some 1)
  else none

/-- The set in use becomes another, or stays (05 R158). -/
def State.useSet (s : State) (c : Carrier) (which : Option Nat) : State :=
  let r := (s.car c).rx
  if r.inUse = which then s.modRx c (fun r => { r with unknown := false })
  else
    let s := s.modRx c (fun r =>
      let r := { r with inUse := which, unknown := false, useCtr := r.useCtr + 1 }
      match which with
      | none => r
      | some i => r.modSlot i (fun sl => { sl with used := r.useCtr }))
    let s := s.wr (K.rxActiveEd c) ((s.car c).rx.tagInUse : Nat)
    s.raise Ev.rxLoadSwitch (K.rxActiveEd c)

/-- The loading set for a superframe whose frame 0 names a tag (05 R158, R159); a tag not held stops the decoder's
acceptance (06 R180). -/
def State.selectTag (s : State) (c : Carrier) (tag : Nat) : State :=
  match (s.car c).rx.lookup tag with
  | some w => s.useSet c w
  | none =>
    let s := s.modRx c (fun r => { r with unknown := true })
    let s := ((s.bump (K.rxUnknownCount c)).wr (K.rxUnknownTag c) (tag : Nat)).raise Ev.rxLoadUnknown (K.rxUnknownTag c)
    s.fecStop c

/-- The most recent good countdown ends at this superframe (05 R160). -/
def RxState.countdownEnds (r : RxState) : Bool :=
  match r.hdr with
  | some h => 0 < h.swCd && r.sinceHdr = h.swCd
  | none => false

/-- The HELD slot staged most recently, if after the countdown began (05 R160). -/
def RxState.predicted (r : RxState) : Option Nat :=
  let cand := [0, 1].filter (fun i => (r.slot i).held ∧ r.inUse ≠ some i ∧ r.countStart < (r.slot i).staged)
  match cand with
  | [] => none
  | [i] => some i
  | i :: j :: _ => some (if (r.slot i).staged < (r.slot j).staged then j else i)

/-- Frame 0 without a header (03 R113): where the countdown ends, the slot of 05 R160 or else the set in use; in another superframe the
tag of the most recent good header stands (R112), and if it is not held, R159 is repeated. -/
def State.predictSet (s : State) (c : Carrier) : State :=
  let s := s.bump (K.hdrPredictCount c)
  let r := (s.car c).rx
  if r.countdownEnds then
    match r.predicted with
    | some i => s.useSet c (some i)
    | none => s.useSet c r.inUse
  else if r.unknown then s.selectTag c ((r.hdr.map Header.activeEd).getD 0)
  else s

/-- The fields of a good overhead word. -/
def headerOf (w : Nat) : Header :=
  ⟨bitsOf w 155 108, bitsOf w 101 86, bitsOf w 85 78, bitOf w 70, bitsOf w 69 56, bitsOf w 55 44⟩

/-- BDI and SFC of a good header in SERVICE (06 R187). -/
def State.farHeader (s : State) (c : Carrier) (h : Header) : State :=
  if s.rd (K.carState c) = carService then
    let old := s.on (K.farBdi c)
    let s := (s.wr (K.farSfc c) (h.sfc : Nat)).wr (K.farBdi c) (b2i h.bdi)
    if h.bdi && !old then (s.bump (K.farBdiCount c)).raise Ev.rxFarBdiOn (K.farBdi c)
    else if !h.bdi && old then s.raise Ev.rxFarBdiOff (K.farBdi c)
    else s
  else s

/-- The in-band bytes of a frame, each with its errored mark (03 R112). -/
def ibcBytes (res : List CopyResult) (len : Nat) (hdr : Bool) : List (Byte × Bool) :=
  (res.flatMap (fun r =>
    let v := r.ibc.getD 0
    [(BitVec.ofNat 8 (v / 256), !hdr || r.ibc.isNone), (BitVec.ofNat 8 v, !hdr || r.ibc.isNone)])).take len

/-- A later header of a superframe names another set than the one in use (03 R113). -/
def State.hdrMismatch (s : State) (c : Carrier) (tag : Nat) : State :=
  if tag = (s.car c).rx.tagInUse then s
  else (s.raise Ev.rxHdrMismatch (K.hdrMismatchCount c)).bump (K.hdrMismatchCount c)

/-- The countdown starts, or goes on, with a good header (03 R113, 05 R160). -/
def RxState.takeHeader (r : RxState) (h : Header) : RxState :=
  let fresh := match r.hdr with
    | some o => o.swCd ≤ r.sinceHdr
    | none => true
  { r with
    hdr := some h, sinceHdr := 0
    useCtr := if 0 < h.swCd && fresh then r.useCtr + 1 else r.useCtr
    countStart := if 0 < h.swCd && fresh then r.useCtr + 1 else r.countStart
    hdrSf := match r.hdrSf with
      | some x => some x
      | none => some h }

end Sys2Proof.Machine
end

