-- ==== Sys2Proof/Machine/Dispersion.lean ====
section
/-! DEFINITION. Dispersion compensation (spec 03 R87 to R95): sheets, swaps, cross-fades and the search. -/

namespace Sys2Proof.Machine

/-- The sheet of a number. -/
def RxState.sheet (r : RxState) (i : Nat) : Sheet := if i = 0 then r.sheet0 else r.sheet1

/-- The inactive sheet takes a content. -/
def RxState.setInactive (r : RxState) (sh : Sheet) : RxState :=
  if r.active = 0 then { r with sheet1 := sh } else { r with sheet0 := sh }

/-- The inactive sheet. -/
def RxState.inactive (r : RxState) : Sheet := r.sheet (1 - r.active)

/-- The dispersion values in the applied entries 21.010 to 21.012. -/
def State.cdApplied (s : State) (c : Carrier) : CdVals :=
  ⟨s.rd (K.cdValue c), s.rd (K.cdSlope c), s.rd (K.cdWavelength c)⟩

/-- The values an edition gives 21.010 to 21.012, over those applied; none when it changes none of them. -/
def State.cdOfElems (s : State) (c : Carrier) (es : List (Key × Val)) : Option CdVals :=
  let num := fun (k : Key) (d : Int) => match kfind es k with
    | some (.num v) => v
    | _ => d
  if hasElem es (K.cdValue c) || hasElem es (K.cdSlope c) || hasElem es (K.cdWavelength c) then
    some ⟨num (K.cdValue c) (s.rd (K.cdValue c)), num (K.cdSlope c) (s.rd (K.cdSlope c)),
      num (K.cdWavelength c) (s.rd (K.cdWavelength c))⟩
  else none

/-- 21.014, and bits 7 and 6 of 21.001, follow the state of the sheets (03, entries 21.014 and 21.001). -/
def State.cdStatus (s : State) (c : Carrier) : State :=
  let r := (s.car c).rx
  let s := s.wr (K.cdSheetState c)
    (b2n r.queued.isSome * 128 + b2n r.computing * 64 + b2n r.fade.isSome * 32 + r.active : Nat)
  (s.rxStatusBit c 7 r.fade.isSome).rxStatusBit c 6 r.queued.isSome

/-- The generator starts on the inactive sheet with these values. -/
def RxState.compute (r : RxState) (v : CdVals) (ed : Option Nat) : RxState :=
  { r.setInactive ⟨v, false⟩ with computing := true, prepFor := ed }

/-- A swap is taken up: it is pending until its fade starts (03 R92). At an application a sheet that already holds its values is kept; at
a release of the queue the sheet is computed (R88). -/
def State.takeUp (s : State) (c : Carrier) (v : CdVals) (release : Bool) : State :=
  (s.modRx c (fun r =>
    let r := { r with pendSwap := some v }
    if !release ∧ r.inactive.vals = v ∧ (r.inactive.ready ∨ r.computing) then r else r.compute v none)).cdStatus c

/-- A swap request, from the application of an edition that changes 21.010, 21.011 or 21.012 (03 R92): while a fade runs
or a swap is pending it is queued, or replaces the queued one. -/
def State.swapRequest (s : State) (c : Carrier) (v : CdVals) : State :=
  let r := (s.car c).rx
  if r.fade.isSome || r.pendSwap.isSome then
    let s1 := s.modRx c (fun r => { r with queued := some v })
    if r.queued.isSome then
      ((s1.raise Ev.rxCdSwapReplaced (K.cdReplacedCount c)).bump (K.cdReplacedCount c)).cdStatus c
    else ((s1.raise Ev.rxCdSwapQueued (K.cdQueuedCount c)).bump (K.cdQueuedCount c)).cdStatus c
  else s.takeUp c v false

/-- The earliest armed edition that changes the dispersion of a carrier, with its values. -/
def State.earliestCd (s : State) (c : Carrier) : Option (Edition × CdVals) :=
  s.ed.armed.findSome? (fun e => (s.cdOfElems c e.elems).map (fun v => (e, v)))

/-- At arming, and when a fade completes, the inactive sheet is prepared for the earliest armed edition of these
entries, provided no fade runs and no swap is queued or pending (03 R88). The armed list is in order of instants. -/
def State.prepareSheet (s : State) (c : Carrier) : State :=
  let r := (s.car c).rx
  if !s.present c || r.fade.isSome || r.queued.isSome || r.pendSwap.isSome then s
  else
    match s.earliestCd c with
    | none => s
    | some (e, v) =>
      if r.prepFor = some e.id then s
      else if r.inactive.vals = v ∧ r.inactive.ready then s.modRx c (fun r => { r with prepFor := some e.id })
      else (s.modRx c (fun r => r.compute v (some e.id))).cdStatus c

/-- CD_SHEET_READY: the generator completes the inactive sheet (03 R88). -/
def execCdSheetReady (c : Carrier) (s : State) : Out :=
  .next (when (s.present c && (s.car c).rx.computing) s fun s =>
    (s.modRx c (fun r => { r.setInactive ⟨r.inactive.vals, true⟩ with computing := false })).cdStatus c)

/-- The pending swap whose sheet is ready. -/
def RxState.readySwap (r : RxState) : Option CdVals :=
  match r.pendSwap with
  | some v => if r.inactive.vals = v ∧ r.inactive.ready ∧ r.fade = none then some v else none
  | none => none

/-- 21.015 and 21.016 in block b of a fade: (1 - b/N) D0 + (b/N) D1, and b/N x 65,535 (03 R90). -/
def State.fadeShow (s : State) (c : Carrier) : State :=
  match (s.car c).rx.fade with
  | none => s
  | some (b, n, v0, v1) =>
    ((s.wr (K.cdApplied c) (openDiv (v0.d * n + b * (v1.d - v0.d)) n)).wr (K.cdFadePos c) (openDiv (b * 65535 : Nat) n)).cdStatus c

/-- CD_FADE_START: in ACQUIRE or SERVICE, at a block boundary with the target sheet ready, the cross-fade begins over
21.013 blocks, with block 1 (03 R90). -/
def cdFadeStart (c : Carrier) (s : State) : State :=
  match (s.car c).rx.readySwap with
  | none => s
  | some v =>
    when (s.present c && s.emitting c) s fun s =>
      let s := s.modRx c (fun r => { r with
        fade := some (1, s.rdN (K.cdFadeBlocks c), (r.sheet r.active).vals, v), pendSwap := none, prepFor := none })
      s.fadeShow c

/-- CD_FADE_START. -/
def execCdFadeStart (c : Carrier) (s : State) : Out := .next (cdFadeStart c s)

/-- The queued swap, if any, is released (03 R92). -/
def State.releaseQueue (s : State) (c : Carrier) : State :=
  match (s.car c).rx.queued with
  | some v => (s.modRx c (fun r => { r with queued := none })).takeUp c v true
  | none => s.cdStatus c

/-- The incoming sheet becomes active and the dispersion applied is its own. -/
def State.activate (s : State) (c : Carrier) (v : CdVals) : State :=
  ((s.modRx c (fun r => { r with active := 1 - r.active, fade := none })).wr (K.cdApplied c) v.d).wr (K.cdFadePos c) 0

/-- A fade ends: RX_CD_FADE_DONE, and the queue is released; with none queued, the now-inactive sheet is prepared for the earliest armed
edition of these entries (03 R88, R90 to R92). -/
def State.fadeDone (s : State) (c : Carrier) (v : CdVals) : State :=
  (((s.activate c v).raise Ev.rxCdFadeDone (K.cdApplied c)).releaseQueue c).prepareSheet c

/-- CD_FADE_BLOCK: a block of a fade ends, and the next applies (1 - b/N) D0 + (b/N) D1; after block N the incoming sheet is active
(03 R90). -/
def cdFadeBlock (c : Carrier) (s : State) : State :=
  match (s.car c).rx.fade with
  | none => s
  | some (b, n, v0, v1) =>
    when (s.present c && s.emitting c) s fun s =>
      if n ≤ b then s.fadeDone c v1
      else (s.modRx c (fun r => { r with fade := some (b + 1, n, v0, v1) })).fadeShow c

/-- CD_FADE_BLOCK. -/
def execCdFadeBlock (c : Carrier) (s : State) : Out := .next (cdFadeBlock c s)

/-- CD_FADE_CUT: a fade running when the carrier has left ACQUIRE and SERVICE ends at the next block boundary with the
incoming sheet active (03 R91). -/
def cdFadeCut (c : Carrier) (s : State) : State :=
  match (s.car c).rx.fade with
  | none => s
  | some (_, _, _, v1) => when (s.present c && !s.emitting c) s fun s => s.fadeDone c v1

/-- CD_FADE_CUT. -/
def execCdFadeCut (c : Carrier) (s : State) : Out := .next (cdFadeCut c s)

/-- CD_SWAP_NOFADE: in OFF or STANDBY a ready sheet becomes active at the next block boundary (03 R91). -/
def cdSwapNofade (c : Carrier) (s : State) : State :=
  match (s.car c).rx.readySwap with
  | none => s
  | some v =>
    when (s.present c && !s.emitting c) s fun s =>
      ((s.modRx c (fun r => { r with pendSwap := none, prepFor := none })).activate c v).releaseQueue c

/-- CD_SWAP_NOFADE. -/
def execCdSwapNofade (c : Carrier) (s : State) : Out := .next (cdSwapNofade c s)

/-- CD_SEARCH_START: 21.01D starts or restarts a search; in OFF it is REFUSED (03 R94, R95). -/
def execCdSearchStart (src : Nat) (c : Carrier) (s : State) : Out :=
  .next (s.request src (K.cdSearchStart c) fun s =>
    if s.rd (K.carState c) = carOff then (s, .refused) else (s.startSearch c, .ok))

/-- The lowest trial of greatest metric, as its number (03 R94). -/
def bestTrial : List Rat → Nat → Nat × Rat → Nat
  | [], _, best => best.1
  | m :: t, i, best => bestTrial t (i + 1) (if best.2 < m then (i, m) else best)

/-- The metrics of the trials of a search: those taken at the hops, and of a trial not yet evaluated, on the blocks held. -/
def State.searchMetrics (s : State) (c : Carrier) (lo : Int) (step n : Nat) : List Rat :=
  let done := (s.car c).rx.trialMetrics.take n
  done ++ (List.range (n - done.length)).map (fun i => s.trialMetric c (lo + ((done.length + i) * step : Nat)))

/-- The metrics of all trials are in (03 R94): 21.01F takes the lowest trial of greatest metric, 21.020 its ratio to the
mean x 256; below 2 the search reads NO_PEAK. -/
def State.searchDone (s : State) (c : Carrier) : State :=
  match (s.car c).rx.search with
  | none => s
  | some (lo, step, n) =>
    let ms := s.searchMetrics c lo step n
    let i := bestTrial ms 0 (0, 0)
    let top := nth ms i 0
    let sum := ms.sum
    let q : Int := if sum = 0 then 256 else openRat (top * n * 256 / sum)
    let peak := sum ≠ 0 && 2 * sum ≤ top * n
    let s := s.modRx c (fun r => { r with search := none, trialMetrics := [], hops := 0 })
    ((s.wr (K.cdEst c) (lo + (i * step : Nat))).wr (K.cdEstQuality c) (clampInt q 0 65535)).wr (K.cdSearchState c)
      (if peak then 2 else 3)

/-- A search that runs when the carrier enters OFF is abandoned (03 R95). -/
def State.abandonSearch (s : State) (c : Carrier) : State :=
  match (s.car c).rx.search with
  | none => s
  | some _ => (s.modRx c (fun r => { r with search := none, trialMetrics := [], hops := 0 })).wr (K.cdSearchState c) 0

end Sys2Proof.Machine
end

