-- ==== Sys2Proof/Machine/Acquisition.lean ====
section
/-! DEFINITION. Acquisition (spec 04): detection, capture, soundings, FAW tests, hold, dark link. -/

namespace Sys2Proof.Machine

/-- The number of sub-carriers whose bit errors are within a limit, and the sum of their errors. -/
def accepting (errs : List Nat) (limit : Nat) : Nat × Nat :=
  let ok := errs.filter (fun e => e ≤ limit)
  (ok.length, ok.sum)

/-- R135, R136: at least half of the S sub-carriers, rounded up, are within the limit. -/
def testPasses (subs : Nat) (errs : List Nat) (limit : Nat) : Bool :=
  (subs + 1) / 2 ≤ (accepting (errs.take subs) limit).1

/-- One test has fewer bit errors than another, over its accepting sub-carriers (04 R136). -/
def fewerErrors (a b : Nat × Nat) : Bool := a.2 < b.2

/-- A detection is taken (04 R131, R133): frozen coarse frequency, metric, time; SETTLE, adapting by CMA. -/
def State.takeDetection (s : State) (c : Carrier) (metric : Nat) (coarse : Int) : State :=
  let s := ((s.wr (K.coarseFreq c) coarse).wr (K.detMetric c) (min metric 1000 : Nat)).wr (K.detTime c) (s.datum : Nat)
  let s := s.setCommon c (s.rd (K.crCommonFreq c))
  ((s.modRx c (fun r => { r.dropFrames with
    frozen := true, sinceDet := 0, failRun := 0, fawPass := 0, fawFail := 0, metrics := [] })).setPhase c phSettle).toCma c

/-- ACQ_DETECT: in HUNT with timing locked, the metric, in 0.1 dB, is at least 22.010 and the offset within 3.6 GHz
(04 R130, R132, R133); the dark-link flag clears (R143). -/
def acqDetect (c : Carrier) (metric : Nat) (coarse : Int) (s : State) : State :=
  when (s.present c && s.rd (K.acqPhase c) = phHunt && s.rd (K.trLock c) = 1 && s.rdN (K.detThresh c) ≤ metric
      && coarse.natAbs ≤ 3600000) s fun s =>
    let s := (s.resetAllTaps c).takeDetection c metric coarse
    let s := s.raise Ev.acqDetect (K.detMetric c)
    if s.on (K.dark c) then (s.wr (K.dark c) 0).raise Ev.rxLight (K.dark c) else s

/-- ACQ_DETECT. -/
def execAcqDetect (c : Carrier) (metric : Nat) (coarse : Int) (s : State) : Out := .next (acqDetect c metric coarse s)

/-- A capture qualifies (04 R137): the metric exceeds the current one by at least 22.011, strictly when that is 0. -/
def captureQualifies (metric cur margin : Nat) : Bool := cur + margin ≤ metric && (0 < margin || cur < metric)

/-- ACQ_CAPTURE: in the confirmation window, or LOCKED, with the carrier in ACQUIRE and timing locked, a detection that is a new source,
neither near a predicted sounding start nor within 100 MHz of 22.020, qualifies (04 R130, R132, R137); acquisition restarts on it. -/
def acqCapture (c : Carrier) (metric : Nat) (coarse : Int) (nearStart : Bool) (s : State) : State :=
  let ph := s.rd (K.acqPhase c)
  let newSource := !nearStart && decide (100000 < (coarse - s.rd (K.coarseFreq c)).natAbs)
  when (s.present c && newSource && s.rd (K.carState c) = carAcquire && phSettle ≤ ph && ph ≤ phLocked && s.rd (K.trLock c) = 1
      && s.rdN (K.detThresh c) ≤ metric && coarse.natAbs ≤ 3600000
      && captureQualifies metric (s.rdN (K.detMetric c)) (s.rdN (K.captureMargin c))) s fun s =>
    ((s.bump (K.captureCount c)).takeDetection c metric coarse).raise Ev.acqCapture (K.captureCount c)

/-- ACQ_CAPTURE. -/
def execAcqCapture (c : Carrier) (metric : Nat) (coarse : Int) (nearStart : Bool) (s : State) : Out :=
  .next (acqCapture c metric coarse nearStart s)

/-- The sounding word of an accepted sounding, from its good copy of lowest index (04 R127, R135). -/
def State.takeSoundingWord (s : State) (c : Carrier) (copies : List (Nat × Nat)) : State :=
  match (copies.take (s.subs c)).findSome? (fun cw => (decodeCopy cw).word) with
  | none => s
  | some w =>
    let cd := bitsOf w 99 92
    let s := ((s.wr (K.farStation c) (bitsOf w 91 80 : Nat)).wr (K.farCarrier c) (bitsOf w 79 79 : Nat)).wr
      (K.farRxSync c) (bitsOf w 100 100 : Nat)
    s.wr (K.farSwitchSfc c) (if cd = 0 then 0 else (((bitsOf w 155 108 + cd) % (max48 + 1) : Nat) : Int))

/-- RX_SOUNDING: a predicted sounding with its bit errors by sub-carrier, its copies of the sounding word, its metric,
whether it lies at a frame start, and the FAW bit errors of that start (04 R130, R135 to R137). The first sounding after
a detection is not tested. A FAW test that is taken at the same start is the earlier row (R130).
The mean of 22.021: log entry 127. -/
def rxSounding (c : Carrier) (errs : List Nat) (copies : List (Nat × Nat)) (metric : Nat) (frameStart : Bool)
    (fawErrs : List Nat) (s : State) : State :=
  when (s.present c) s fun s =>
    let ph := s.rd (K.acqPhase c)
    let subs := s.subs c
    let pass := testPasses subs errs (s.rdN (K.syncErrMax c))
    let acc := accepting (errs.take subs) (s.rdN (K.syncErrMax c))
    let report := fun (s : State) => (s.wr (K.syncErrors c) (acc.2 / max acc.1 1 : Nat)).takeSoundingWord c copies
    if ph = phSettle then
      let first := (s.car c).rx.sinceDet = 0
      let s := s.modRx c (fun r => { r with sinceDet := r.sinceDet + 1 })
      if pass && !first then
        ((report (s.setPhase c phSync)).modRx c (fun r => { r with failRun := 0, metrics := [metric] })).raise
          Ev.acqSync (K.acqPhase c)
      else s
    else if ph = phSync then
      let faw := frameStart && testPasses subs fawErrs (s.rdN (K.fawErrMax c))
      let fawAcc := accepting (fawErrs.take subs) (s.rdN (K.fawErrMax c))
      if pass && !(faw && !fewerErrors acc fawAcc) then
        let s := (report s).modRx c (fun r => { r with failRun := 0, metrics := (metric :: r.metrics).take 8 })
        let ms := (s.car c).rx.metrics
        s.wr (K.detMetric c) (clampInt (openDiv (ms.sum : Nat) ms.length) 0 1000)
      else if pass || faw then s
      else s.modRx c (fun r => { r with failRun := r.failRun + 1 })
    else if (ph = phLocked || ph = phHold) && pass && frameStart then
      let s := s.lolCause c 4 (ph = phLocked)
      let s := ((report s).lolEvent c).finalLoss c
      ((s.setPhase c phSync).modRx c (fun r => { r.dropFrames with
        failRun := 0, fawPass := 0, fawFail := 0, metrics := [metric] })).toCma c
    else s

/-- RX_SOUNDING. -/
def execRxSounding (c : Carrier) (errs : List Nat) (copies : List (Nat × Nat)) (metric : Nat) (frameStart : Bool)
    (fawErrs : List Nat) (s : State) : Out := .next (rxSounding c errs copies metric frameStart fawErrs s)

/-- A false lock (04 R130). -/
def State.falseLock (s : State) (c : Carrier) : State :=
  ((s.bump (K.falseLockCount c)).raise Ev.acqFalseLock (K.falseLockCount c)).toHunt c

/-- SETTLE_EXPIRY: 22.013 soundings have passed since detection with none accepted. -/
def execSettleExpiry (c : Carrier) (s : State) : Out :=
  .next (when (s.present c && s.rd (K.acqPhase c) = phSettle && s.rdN (K.confirmSoundings c) ≤ (s.car c).rx.sinceDet) s
    fun s => s.falseLock c)

/-- SYNC_LOSS_COUNT: 2 x 22.015 predicted soundings in a row are not accepted. -/
def execSyncLossCount (c : Carrier) (s : State) : Out :=
  .next (when (s.present c && s.rd (K.acqPhase c) = phSync && 2 * s.rdN (K.lofFrames c) ≤ (s.car c).rx.failRun) s fun s =>
    (((s.lolCause c 0 true).lolEvent c).finalLoss c).toHunt c)

/-- RX_FAW_TEST: the FAW at a predicted frame start, with its bit errors and those of the sounding test at the same
start (04 R130, R136, R138, R139); in HOLD every frame period passes marked lost (06 R187). -/
def rxFawTest (c : Carrier) (errs sndErrs : List Nat) (s : State) : State :=
  when (s.present c) s fun s =>
    let ph := s.rd (K.acqPhase c)
    let subs := s.subs c
    let lim := s.rdN (K.fawErrMax c)
    let pass := testPasses subs errs lim
    if ph = phSync then
      let snd := testPasses subs sndErrs (s.rdN (K.syncErrMax c))
      let better := fewerErrors (accepting (sndErrs.take subs) (s.rdN (K.syncErrMax c))) (accepting (errs.take subs) lim)
      if pass && !(snd && better) then
        (s.setPhase c phConfirm).modRx c (fun r => { r with fawPass := 0, fawFail := 0 })
      else s
    else if ph = phConfirm then
      if pass then s.modRx c (fun r => { r with fawPass := r.fawPass + 1 }) else s.falseLock c
    else if ph = phLocked then
      s.modRx c (fun r => { r with fawFail := if pass then 0 else r.fawFail + 1 })
    else if ph = phHold then
      (s.bump (K.framesLost c)).modRx c (fun r => { r with
        fawPass := if pass then r.fawPass + 1 else 0, fawFail := if pass then 0 else r.fawFail + 1 })
    else s

/-- RX_FAW_TEST. -/
def execRxFawTest (c : Carrier) (errs sndErrs : List Nat) (s : State) : Out := .next (rxFawTest c errs sndErrs s)

/-- Confirmation is complete (04 R130; 03 R100): LOCKED, with the deskew of each sub-carrier set. 22.035 is measured with
State.clock (log entry 126). -/
def State.acqLock (s : State) (c : Carrier) (deskews : List Int) : State :=
  let s := s.bump (K.lockCount c)
  let s := s.wr (K.acqTime c) (clampInt (openDiv (s.clock - (s.car c).rx.acqEntry : Nat) 1000) 0 4294967295)
  let s := (s.setPhase c phLocked).raise Ev.acqLock (K.lockCount c)
  let s := s.modRx c (fun r => { r with fawFail := 0 })
  let s := s.modFec c (fun f => { f with anyCorrected := false })
  let ds := deskews.take (s.subs c)
  let s := (ds.zip (List.range 32)).foldl (fun s p => s.wr (K.scDeskew c p.2) (clampInt p.1 (-128) 128)) s
  match (ds.zip (List.range 32)).find? (fun p => p.1 < -128 ∨ 128 < p.1) with
  | some p => s.deskewLimit c p.2
  | none => s.rxStatusBit c 1 true

/-- LOF_COUNT_EXPIRY: 22.015 consecutive frames have failed in LOCKED or HOLD, loss-of-lock cause 0 (04 R138). -/
def execLofCountExpiry (c : Carrier) (s : State) : Out :=
  .next (when (s.present c && phLocked ≤ s.rd (K.acqPhase c) && s.rdN (K.lofFrames c) ≤ (s.car c).rx.fawFail) s fun s =>
    s.lossCause c 0)

/-- ACQ_HOLD_RECOVER: three consecutive FAW passes in HOLD (04 R130). -/
def execAcqHoldRecover (c : Carrier) (s : State) : Out :=
  .next (when (s.present c && s.rd (K.acqPhase c) = phHold && 3 ≤ (s.car c).rx.fawPass) s fun s =>
    (((s.bump (K.holdRecoverCount c)).setPhase c phLocked).modRx c (fun r => { r with fawFail := 0 })).raise
      Ev.acqHoldRecover (K.holdRecoverCount c))

/-- HOLD_TIMEOUT: 22.005 ms in HOLD make loss of lock final (04 R130). -/
def execHoldTimeout (c : Carrier) (s : State) : Out :=
  .next (when (s.present c && s.rd (K.acqPhase c) = phHold) s fun s => s.holdLost c)

/-- FRAME_WAIT_TIMEOUT: 22.004 ms in SERVICE with the phase still SYNC, cause 5 (04 R130, R131). -/
def execFrameWaitTimeout (c : Carrier) (s : State) : Out :=
  .next (when (s.present c && s.rd (K.acqPhase c) = phSync && s.rd (K.carState c) = carService && (s.car c).rx.frameWait) s
    fun s => (((s.lolCause c 5 true).lolEvent c).finalLoss c).toHunt c)

/-- After a final loss of lock the carrier reads ACQUIRE and sends soundings from the superframe boundary (04 R121,
R140, R141); in HUNT with 22.006 = SEARCH the standard firmware starts a search (R142). -/
def State.serviceToAcquire (s : State) (c : Carrier) : State :=
  let s := s.setCar c carAcquire
  let s := s.cancelPending c
  let s := s.toFallback c
  let s := s.modTx c (fun t => { t with sending := .soundings, switchN := none, returnPending := false, swCd := 0, frameNo := s.nextSounding c })
  let s := s.modRx c (fun r => { r with acqEntry := s.clock })
  if s.firmware && s.rd (K.acqCdPolicy c) = 0 && s.rd (K.acqPhase c) = phHunt then s.startSearch c else s

/-- RX_DARK: HUNT without a detection for 22.043 ms (04 R143). -/
def execRxDark (c : Carrier) (s : State) : Out :=
  .next (when (s.present c && s.rd (K.acqPhase c) = phHunt && !s.on (K.dark c)) s fun s =>
    ((s.wr (K.dark c) 1).modRx c (fun r => { r with bandSum := [], bandN := 0 })).raise Ev.rxDark (K.dark c))

/-- A power against 0 dB, every lane at full-scale RMS, in 0.01 dB (04 R143). -/
def powerFigure (p : Rat) : Int := clampInt (if p = 0 then -9000 else openRat (centiDb (p / 4))) (-9000) 0

/-- NOISE_FLOOR_UPDATE: while dark, and while samples arrive, the power of each band and of all bands over the block hops since the last
update (04 R143). -/
def execNoiseFloorUpdate (c : Carrier) (s : State) : Out :=
  .next (when (s.present c && s.on (K.dark c) && s.rd (K.carState c) ≠ carOff && s.dieReady c && (s.car c).rx.bandN ≠ 0) s fun s =>
    let r := (s.car c).rx
    let band := fun k => nth r.bandSum k 0 / r.bandN
    let s := (List.range 32).foldl (fun s k => s.wr (K.noiseFloor c k) (if k < s.subs c then powerFigure (band k) else -9000)) s
    (s.wr (K.rxPower c) (powerFigure (((List.range (s.subs c)).map band).sum))).modRx c (fun r => { r with bandSum := [], bandN := 0 }))

end Sys2Proof.Machine
end

