-- ==== Sys2Proof/Machine/Fec.lean ====
section
/-! DEFINITION. Line FEC and line deframing (spec 06), with the receiver's headers and superframe boundaries
(03 R111 to R113, R115; 05 R148, R158 to R160). -/

namespace Sys2Proof.Machine

/-! ### The inner code (06 R174, R175) -/

/-- The hard decision of a posterior: a negative LLR is a 1. -/
def hard (l : Int) : Bool := l < 0

/-- A window with its two predecessors in front: posteriors of each segment, oldest first. -/
abbrev Posts := List (List Int)

/-- The posterior of a bit of the segment m back from position j. -/
def postAt (ps : Posts) (j m b : Nat) : Int := nth (nth ps (j - m) []) b 0

/-- A check of the segment at position j (2 or more) is satisfied. -/
def checkSat (recs : List (Nat × Nat × Nat × Nat)) (ps : Posts) (j chk : Nat) : Bool :=
  (checkBits recs chk).foldl (fun a e => a != hard (postAt ps j e.1 e.2)) false = false

/-- Every check of the rows of the segment at position j is satisfied. -/
def rowsSat (oh : Nat) (ps : Posts) (j : Nat) : Bool :=
  (List.range (128 * codeRows oh)).all (checkSat (codeRecords (fecCodeDef oh)) ps j)

/-- The new message to one edge of a check from the extrinsic values of all, min-sum with an offset of half an LLR step,
which is 1 in half steps (06 R181). -/
def minSum (ext : List Int) (e : Nat) : Int :=
  let others := ext.eraseIdx e
  let sign : Int := others.foldl (fun a x => if x < 0 then -a else a) 1
  let mag := match others with
    | [] => 0
    | x :: t => t.foldl (fun a y => min a y.natAbs) x.natAbs
  sign * (mag - 1 : Nat)

/-- A posterior in the window is replaced; the two predecessors stay. -/
def setPost (ps : Posts) (j m b : Nat) (v : Int) : Posts :=
  if j - m < 2 then ps else ps.modify (j - m) (fun l => l.set b v)

/-- One check of the segment at position j is updated: its new messages and the new posteriors. -/
def checkStep (recs : List (Nat × Nat × Nat × Nat)) (j : Nat) (st : Posts × List (Nat × List Int)) (chk : Nat) :
    Posts × List (Nat × List Int) :=
  let bits := checkBits recs chk
  let old := aget st.2 chk (bits.map (fun _ => 0))
  let ext := (bits.zip old).map (fun e => postAt st.1 j e.1.1 e.1.2 - e.2)
  let new := (List.range bits.length).map (minSum ext)
  let ps := ((bits.zip ext).zip new).foldl (fun ps e => setPost ps j e.1.1.1 e.1.1.2 (e.1.2 + e.2)) st.1
  (ps, aput st.2 chk new)

/-- One layered pass over the rows of the segments of the window, oldest first (06 R181): posteriors and messages. -/
def iterate (oh : Nat) (p2 p1 : List Int) (win : List Seg) : List Seg :=
  let recs := codeRecords (fecCodeDef oh)
  let r := (win.zip (List.range win.length)).foldl (fun (st : Posts × List (List (Nat × List Int))) e =>
    let q := (List.range (128 * codeRows oh)).foldl (checkStep recs (e.2 + 2)) (st.1, e.1.msgs)
    (q.1, st.2 ++ [q.2])) (p2 :: p1 :: win.map Seg.post, [])
  (win.zip ((r.1.drop 2).zip r.2)).map (fun e => { e.1 with post := e.2.1, msgs := e.2.2, iters := e.1.iters + 1 })

/-! ### The decoder -/

/-- An erased segment's posteriors. -/
def erasedPost : List Int := List.replicate 16384 0

/-- Posteriors of the two predecessors of the window, older first. -/
def FecState.preds (f : FecState) : List Int × List Int := (f.prev2.getD erasedPost, f.prev1.getD erasedPost)

/-- The segments that have arrived in full: all but the last. -/
def FecState.full (f : FecState) : List Seg := f.segs.dropLast

/-- The window: the oldest W segments that have arrived in full. -/
def FecState.window (f : FecState) : List Seg := f.full.take f.wNow

/-- Segments in the outer decoder that hold a slot: a force-released one has given its slot to the segment that arrived (06 R183). -/
def FecState.outerHeld (f : FecState) : List OutSeg := f.outer.filter (fun o => !o.seg.forced)

/-- Slots held: segments in flight and in the outer decoder (06 R183). -/
def FecState.slots (f : FecState) : Nat := f.segs.length + f.outerHeld.length

/-- Slots held in a cluster by one carrier. -/
def FecState.inCluster (f : FecState) (n : Nat) : Nat :=
  ((f.segs ++ f.outerHeld.map OutSeg.seg).filter (fun g => g.cluster = n)).length

/-- Placement of a new segment (01 R35): the cluster of 128 slots with the most free ones, the lowest number among
equals. -/
def State.placement (s : State) : Nat :=
  let used := fun n => s.carA.fec.inCluster n + s.carB.fec.inCluster n
  (List.range 16).foldl (fun best n => if used n < used best then n else best) 0

/-- 24.020 and 24.021 follow the slots. -/
def State.slotsChanged (s : State) (c : Carrier) : State :=
  let n := (s.car c).fec.slots
  let s := s.wr (K.decSlots c) (n : Nat)
  if s.rdN (K.decSlotsPeak c) < n then s.wr (K.decSlotsPeak c) (n : Nat) else s

/-- The oldest segment leaves the window for the outer decoder (06 R181); new values of 24.012 and 24.013 are taken. -/
def State.releaseOldest (s : State) (c : Carrier) (forced : Bool) : State :=
  match (s.car c).fec.segs with
  | [] => s
  | g :: rest =>
    let f := (s.car c).fec
    let ok := rowsSat (s.rdN (K.fecOh c)) [f.preds.1, f.preds.2, g.post] 2
    s.modFec c (fun f => { f with
      segs := rest, outer := f.outer ++ [⟨{ g with forced := g.forced || forced }, ok⟩], prev2 := f.prev1, prev1 := some g.post
      wNow := s.rdN (K.decWindow c), earlyNow := s.on (K.earlyStop c) })

/-- Coded bits of a matcher slot on the set the receiver uses (02 R60). -/
def State.slotBits (s : State) (c : Carrier) : Nat := 2 * (s.rxSet c).sumK (s.subs c)

/-- The coded bits received are those of the present superframe only, its earlier ones gone: bits before SEG_PTR will be discarded (06
R178). -/
def State.alignStream (s : State) (c : Carrier) (segPtr : Nat) : State :=
  let made := s.slotBits c * (s.car c).rx.slotU
  let keep := min made (s.car c).rx.llrs.length
  (s.modRx c (fun r => { r with llrs := r.llrs.drop (r.llrs.length - keep) })).modFec c (fun f => { f with skip := segPtr - (made - keep) })

/-- Acceptance starts at a superframe's first good header (06 R178). The phase is the one whose LB_PTR is the header's;
if there is none (the two ends' overheads differ) it is a free value. -/
def State.acceptStart (s : State) (c : Carrier) (h : Header) : State :=
  let oh := s.rdN (K.fecOh c)
  let found := (List.range (segCycle oh)).find? (fun j => lbPtrOf oh j = h.lbPtr)
  let j := found.getD (s.freeVal % segCycle oh)
  let s := if found.isNone then s.tookFree else s
  let w := s.rdN (K.decWindow c)
  let s := s.modFec c (fun f => { f with
    accepting := true, segs := [], outer := [], prev1 := none, prev2 := none, nextNo := 0, nextPhase := j, startup := w + 2
    predSeg := h.segPtr, predPhase := j, misNow := false, misBefore := false, wNow := w, earlyNow := s.on (K.earlyStop c)
    lbQ := [], lbSkip := h.lbPtr })
  ((s.alignStream c h.segPtr).slotsChanged c).wr (K.decAlign c) 1 |>.hostFollow c

/-- FEC_ACCEPT_START: the running superframe began with the carrier in SERVICE and LOCKED, both have held since, and it has a good header
and a set the receiver holds (04 R123; 06 R178, R180). -/
def execFecAcceptStart (c : Carrier) (s : State) : Out :=
  .next (when (s.present c && s.rd (K.carState c) = carService && s.rd (K.acqPhase c) = phLocked && (s.car c).fec.fromStart
      && !(s.car c).fec.accepting && !(s.car c).rx.unknown) s fun s =>
    match (s.car c).rx.hdrSf with
    | some h => s.acceptStart c h
    | none => s)

/-- FEC_ACCEPT_STOP: one of the two conditions of 04 R123 has ended, and all segments in flight are released (06 R185). -/
def execFecAcceptStop (c : Carrier) (s : State) : Out :=
  .next (when (s.present c && (s.car c).fec.accepting
      && !(s.rd (K.carState c) = carService && s.rd (K.acqPhase c) = phLocked)) s fun s => s.fecStop c)

/-- RX_SEGMENT_ARRIVAL: the next 16,384 bits of the coded-bit stream are a segment, which takes a slot; a lost bit enters as an erasure
with LLR 0 (06 R180, R183). At 1,024 slots the oldest segment of the window is force-released and gives its slot. -/
def rxSegmentArrival (c : Carrier) (s : State) : State :=
  when (s.present c && (s.car c).fec.accepting && (s.car c).fec.skip + 16384 ≤ (s.car c).rx.llrs.length) s fun s =>
    let llrs := ((s.car c).rx.llrs.drop (s.car c).fec.skip).take 16384
    let s := (s.modRx c (fun r => { r with llrs := r.llrs.drop ((s.car c).fec.skip + 16384) })).modFec c (fun f => { f with skip := 0 })
    let s := if 1024 ≤ (s.car c).fec.slots then
        ((s.releaseOldest c true).bump (K.forcedSeg c)).raise Ev.rxFecForced (K.forcedSeg c) else s
    let q := llrs.map (fun l => l.getD 0)
    let erased := llrs.any Option.isNone
    let cl := s.placement
    let oh := s.rdN (K.fecOh c)
    let s := s.modFec c (fun f => { f with
      segs := f.segs ++ [⟨f.nextNo, f.nextPhase, cl, 0, false, erased, q, q.map (· * 2), []⟩]
      nextNo := f.nextNo + 1, nextPhase := (f.nextPhase + 1) % segCycle oh })
    let s := if erased then s.bump (K.erasedSeg c) else s
    s.slotsChanged c

/-- RX_SEGMENT_ARRIVAL. -/
def execRxSegmentArrival (c : Carrier) (s : State) : Out := .next (rxSegmentArrival c s)

/-- The coded bit rate of a carrier's received stream, to scale (01 R35, 05 R146). -/
def State.codedRate (s : State) (c : Carrier) : Rat := (s.symRate c : Rat) * (s.rxSet c).sumK (s.subs c) / s.subs c

/-- It is carrier c's turn while both carriers compete: its iterations do not run ahead of its share (01 R35). -/
def State.hasTurn (s : State) (c : Carrier) : Bool :=
  decide (((s.car c).fec.turns : Rat) * s.codedRate c.other ≤ ((s.car c.other).fec.turns : Rat) * s.codedRate c)

/-- DEC_ITERATION: one layered pass over the window (06 R181). When both carriers have segments waiting and the clusters cannot serve both
at once, iterations go to the carriers in proportion to their coded bit rates; otherwise there is no competition (01 R35). -/
def execDecIteration (c : Carrier) (contended : Bool) (s : State) : Out :=
  let both := contended && (s.car c.other).fec.window ≠ []
  .next (when (s.present c && (s.car c).fec.window ≠ [] && (!both || s.hasTurn c)) s fun s =>
    let oh := s.rdN (K.fecOh c)
    let s := if both then s else (s.modFec c (fun f => { f with turns := 0 })).modFec c.other (fun f => { f with turns := 0 })
    s.modFec c (fun f =>
      { f with segs := iterate oh f.preds.1 f.preds.2 f.window ++ f.segs.drop f.window.length, turns := f.turns + b2n both }))

/-- Every check that involves bits of the oldest segment is satisfied: its own rows and those of its two successors. -/
def FecState.oldestSat (f : FecState) (oh : Nat) : Bool :=
  let ps := f.preds.1 :: f.preds.2 :: f.window.map Seg.post
  (List.range (min 3 f.window.length)).all (fun i => rowsSat oh ps (i + 2))

/-- The window slides (06 R181): a newer segment has arrived in full, and the oldest has had the effective cap of
iterations or stops early. -/
def State.mayRelease (s : State) (c : Carrier) : Bool :=
  let f := (s.car c).fec
  match f.segs with
  | [] => false
  | g :: _ => f.wNow < f.full.length
      && (s.rdN K.iterCapEff ≤ g.iters || (f.earlyNow && f.oldestSat (s.rdN (K.fecOh c))))

/-- DEC_WINDOW_SLIDE. -/
def execDecWindowSlide (c : Carrier) (s : State) : Out :=
  .next (when (s.present c && s.mayRelease c) s fun s => s.releaseOldest c false)

/-- Inner corrected bits (06 R191): final decision and the sign of the LLR as it entered differ. -/
def Seg.innerFlips (g : Seg) : Nat := ((g.chan.zip g.post).filter (fun e => hard e.1 != hard e.2)).length

/-- A counted segment: counters of 06 R191, and the sums of the interval. -/
def State.countSegment (s : State) (c : Carrier) (g : Seg) (corrected : Bool) (outerFlips : Nat) : State :=
  let inner := g.innerFlips
  let s := (s.wrapN (K.segCount c) 1).wrapN (K.codedBits c) 16384
  let s := if corrected then (s.bumpN (K.innerCorrBits c) inner).bumpN (K.outerCorrBits c) outerFlips
    else s.bump (K.uncorrSeg c)
  s.modFec c (fun f => { f with
    relIters := g.iters, relCorr := inner + outerFlips, relBad := !corrected
    ivSegs := f.ivSegs + 1, ivIters := f.ivIters + g.iters, anyCorrected := f.anyCorrected || corrected
    ivCoded := if corrected then f.ivCoded + 16384 else f.ivCoded
    ivCorr := if corrected then f.ivCorr + inner + outerFlips else f.ivCorr
    ivUncorr := if corrected then f.ivUncorr else f.ivUncorr + 1 })

/-- OUTER_DECODE_DONE: the outer code decodes the oldest released segment, its outcome is counted unless it is a
start-up segment, its slot is freed, and its payload goes to the deframer (06 R178, R181, R183, R191). -/
def outerDecodeDone (c : Carrier) (s : State) : State :=
  match (s.car c).fec.outer with
  | [] => s
  | o :: rest =>
    when (s.present c) s fun s =>
      let oh := s.rdN (K.fecOh c)
      let info := (o.seg.post.take (infoField oh)).map hard
      let dec := outerDecode info
      let corrected := o.ownSat || dec.isSome
      let bits := match dec with
        | some p => p.1
        | none => info
      let flips := match dec with
        | some p => p.2
        | none => 0
      let n := segPayload oh o.seg.phase
      let starting := 0 < (s.car c).fec.startup
      let s := if starting then s else s.countSegment c o.seg corrected flips
      (s.modFec c (fun f => { f with
        outer := rest, startup := f.startup - 1
        lbQ := f.lbQ ++ [⟨bitNat (bits.take n), n, !corrected || o.seg.forced, starting⟩] })).slotsChanged c

/-- OUTER_DECODE_DONE. -/
def execOuterDecodeDone (c : Carrier) (s : State) : Out := .next (outerDecodeDone c s)

/-- The cap that throttling allows (06 R182). -/
def State.capNow (s : State) : Nat :=
  let cap := s.rdN K.iterCap
  if 2 ≤ s.rd K.throttleLevel then min cap 6 else if s.rd K.throttleLevel = 1 then min cap 10 else cap

/-- RX_FEC_CAP_CHANGE: the effective cap follows 24.010 and 70.020, with an event for each carrier present (06 R182). -/
def execRxFecCapChange (s : State) : Out :=
  .next (when (s.capNow ≠ s.rdN K.iterCapEff) s fun s =>
    let s := (s.wr K.iterCapEff (s.capNow : Nat)).raise Ev.rxFecCapChange K.iterCapEff
    if s.present .b then s.raise Ev.rxFecCapChange ⟨0x34, 0x011, 0⟩ else s)

/-- DEC_PEAK_CLEAR: 24.022 clears 24.021, which is then the peak from now on (06, entry 24.022). -/
def execDecPeakClear (src : Nat) (c : Carrier) (s : State) : Out :=
  .next (s.request src (K.decPeakClear c) fun s => (s.wr (K.decSlotsPeak c) (s.rd (K.decSlots c)), .ok))

/-- PM_INTERVAL_END: the interval's figures, and RX_FEC_UNCORR if segments were uncorrected (06 R191). -/
def execPmIntervalEnd (c : Carrier) (s : State) : Out :=
  .next (when (s.present c) s fun s =>
    let f := (s.car c).fec
    let ber : Int := if f.ivCoded = 0 then 0 else openDiv (f.ivCorr * 1000000000 : Nat) f.ivCoded
    let it : Int := if f.ivSegs = 0 then 0 else openDiv (f.ivIters * 256 : Nat) f.ivSegs
    let s := (s.wr (K.preFecBer c) (clampInt ber 0 500000000)).wr (K.meanIter c) (clampInt it 0 6144)
    let s := if 0 < f.ivUncorr then s.raise Ev.rxFecUncorr (K.uncorrSeg c) else s
    s.modFec c (fun f => { f with
      ivSegs := 0, ivCoded := 0, ivCorr := 0, ivIters := 0, ivUncorr := 0, ivLen := s.rdN (K.pmInterval c) }))

/-- LX_FEC_SUSPECT: the standard firmware finds that a carrier LOCKED for 1 s has had no segment corrected (06 R169). -/
def execLxFecSuspect (c : Carrier) (s : State) : Out :=
  .next (when (s.present c && s.firmware && s.rd (K.acqPhase c) = phLocked && !(s.car c).fec.anyCorrected) s fun s =>
    s.raise Ev.lxFecSuspect (K.fecOh c))

/-! ### Line deframing (06 R186) -/

/-- The first n bits of the payload waiting: their value, whether a chunk they come from is errored or start-up, and
what is left. -/
def takeBits : List Chunk → Nat → Nat → Bool → Bool → Option (Nat × Bool × Bool × List Chunk)
  | q, 0, v, e, st => some (v, e, st, q)
  | [], _ + 1, _, _, _ => none
  | k :: q, n + 1, v, e, st =>
    if k.len ≤ n + 1 then takeBits q (n + 1 - k.len) (v * 2 ^ k.len + k.bits) (e || k.errored) (st || k.startup)
    else
      let rest := k.len - (n + 1)
      some (v * 2 ^ (n + 1) + k.bits / 2 ^ rest, e || k.errored, st || k.startup,
        { k with bits := k.bits % 2 ^ rest, len := rest } :: q)

/-- The words of a block, 64 bits each, first word highest. -/
def blockWords (v : Nat) : List Nat := (List.range 64).map (fun i => v / 2 ^ (64 * (63 - i)) % 2 ^ 64)

/-- A line block is descrambled, its header checked, and its client words passed on (06 R186). -/
def State.takeBlock (s : State) (c : Carrier) (v : Nat) (errored : Bool) : State :=
  let ws := blockWords v
  let h := nth ws 0 0
  let seq := bitsOf h 63 56
  let good := bitsOf h 15 0 = crc16Bits ((bitList 64 h).take 48)
  let client := ((ws.drop 1).zip (scramble seq)).map (fun e => e.1 ^^^ e.2)
  let client := if good then client.take (63 - bitsOf h 55 50) else client
  let gap : Bool := match (s.car c).fec.lastSeq with
    | some p => seq ≠ (p + 1) % 256
    | none => false
  let s := if good then (if gap then s.bump (K.lbSeqGap c) else s) else s.bump (K.lbCrcErr c)
  let s := if errored then s.bump (K.lbErrored c) else s
  (s.modFec c (fun f => { f with
    lastSeq := if good then some seq else f.lastSeq
    words := f.words ++ client.map (fun w => (w, errored || !good)) })).wrapN (K.lbCount c) 1

/-- LINE_BLOCK_RX: the next 4,096 payload bits are cut off; a block with bits of start-up segments is discarded (06
R178, R186). -/
def lineBlockRx (c : Carrier) (s : State) : State :=
  when (s.present c) s fun s =>
    let f := (s.car c).fec
    match takeBits f.lbQ f.lbSkip 0 false false with
    | none => s
    | some (_, _, _, q) =>
      match takeBits q 4096 0 false false with
      | none => s
      | some (v, errored, starting, rest) =>
        let s := s.modFec c (fun f => { f with lbQ := rest, lbSkip := 0 })
        if starting then s else s.takeBlock c v errored

/-- LINE_BLOCK_RX. -/
def execLineBlockRx (c : Carrier) (s : State) : Out := .next (lineBlockRx c s)

/-! ### Headers and superframes at the receiver -/

/-- A good header against the predicted pointers (06 R179): a difference is counted, and two superframes in a row whose
headers differ realign the decoder from the second. -/
def State.checkPointers (s : State) (c : Carrier) (h : Header) : State :=
  let f := (s.car c).fec
  let oh := s.rdN (K.fecOh c)
  if s.rd (K.decAlign c) = 2 && (h.segPtr ≠ f.predSeg || h.lbPtr ≠ lbPtrOf oh f.predPhase) then
    let s := s.bump (K.ptrMismatch c)
    if f.misBefore && !f.misNow then
      (((s.fecStop c).acceptStart c h).bump (K.realignCount c)).raise Ev.rxFecRealign (K.realignCount c)
    else s.modFec c (fun f => { f with misNow := true })
  else s

/-- The loading set of a superframe is chosen at its frame 0 (03 R113); a later header is compared with it. -/
def State.chooseSet (s : State) (c : Carrier) (fi : Nat) (h : Option Header) : State :=
  match h with
  | some h => if fi = 0 then s.selectTag c h.activeEd else s.hdrMismatch c h.activeEd
  | none => if fi = 0 then s.predictSet c else s

/-- RX_FRAME_HEADER: frame fi of the superframe with the received codewords of its overhead copies (03 R111 to R118; 05 R158, R159; 06
R179, R180, R187). In HOLD headers are decoded and sets chosen as ever, and the payload is passed marked lost, as is that of a frame hit
by a slip. -/
def rxFrameHeader (c : Carrier) (fi : Nat) (copies : List (Nat × Nat)) (s : State) : State :=
  when (s.present c && phConfirm ≤ s.rd (K.acqPhase c)) s fun s =>
    let res := (copies.take (s.subs c)).map decodeCopy
    let s := (s.bumpN (K.hdrCorrCount c) (res.map CopyResult.corrected).sum).bumpN (K.hdrFailCount c)
      (res.map CopyResult.failed).sum
    let w := res.findSome? CopyResult.word
    let h := w.map headerOf
    let s := s.modRx c (fun r => { r with
      frameNo := fi + 1, ibc := r.ibc ++ ibcBytes res (match w with
        | some w => bitsOf w 77 71
        | none => 2 * s.subs c) w.isSome })
    let s := s.chooseSet c fi h
    let s := match h with
      | none => s
      | some h =>
        let s := (s.rxStatusBit c 0 true).farHeader c h
        (s.checkPointers c h).modRx c (fun r => r.takeHeader h)
    let s := if s.rd (K.acqPhase c) = phLocked then s.wrapN (K.rxFrameCount c) 1 else s
    let hold := decide (s.rd (K.acqPhase c) = phHold)
    let r := (s.car c).rx
    let s := if !hold && (r.unknown || r.slipped) then s.bump (K.framesLost c) else s
    (s.takePayload c fi (hold || r.slipped)).modRx c (fun r => { r with slipped := false })

/-- Predicted pointers of the next superframe (06 R179). -/
def FecState.advance (f : FecState) (oh coded : Nat) : FecState :=
  let n := (coded - f.predSeg + 16383) / 16384
  { f with predSeg := f.predSeg + 16384 * n - coded, predPhase := (f.predPhase + n) % segCycle oh
           misBefore := f.misNow, misNow := false }

/-- Coded bits of a superframe on the set in use at the receiver. -/
def State.rxCoded (s : State) (c : Carrier) : Nat := (s.rxSet c).codedBits (s.subs c)

/-- sigma^2_n of the pilot error sums: the mean pilot error power per dimension (05 R148). -/
def pilotSigma (m : List (Nat × WinSum)) (n : Nat) : Rat :=
  let w := aget m n WinSum.zero
  if w.n = 0 then 0 else w.a / (2 * w.n)

/-- 10 log10 of a ratio of mean powers, in 0.01 dB; without noise, the top of the range. -/
def snrDb (hist : List (List Rat)) (noise : List Rat → Rat) : Int :=
  let d := (hist.map noise).sum / hist.length
  if d = 0 then 4000 else clampInt (openRat (centiDb (1 / d))) (-1000) 4000

/-- 23.001 and 23.002 from the superframes averaged (05 R148). -/
def State.snrFigures (s : State) (c : Carrier) (hist : List (List Rat)) : State :=
  let s := (List.range (2 * s.subs c)).foldl (fun s i => s.wr (K.snrPilot c i) (snrDb hist (fun e => 2 * nth e i 0))) s
  (List.range (s.subs c)).foldl (fun s k =>
    s.wr (K.snrSc c k) (snrDb hist (fun e => nth e (2 * k) 0 + nth e (2 * k + 1) 0))) s

/-- Once per averaging window the standard firmware writes 23.003[k] (05 R149): the lead core of sub-carrier k 23.002[k] corrected for the
pilots' finite-window bias, whose formula is the firmware's; where the lead core has halted, plotter 0 23.002[k] itself (11 R324). -/
def State.windowSnr (s : State) (c : Carrier) : State :=
  if s.firmware && s.rdN (K.rxSfCount c) % 2 ^ s.rdN (K.snrAvg c) = 0 then
    (List.range (s.subs c)).foldl (fun s k =>
      let lead := 32 * c.num + 32 / s.subs c * k
      let raw := s.rd (K.snrSc c k)
      if s.rd (K.coreState lead) = 3 then s.rwStore 0x1000 (K.snrFw c k) raw
      else if s.rd (K.coreState lead) = 1 then
        s.rwStore (0x2000 + lead) (K.snrFw c k) (clampKey (K.snrFw c k) (Config.snrBias raw (s.rdN (K.snrAvg c))))
      else s) s
  else s

/-- RX_SUPERFRAME_BOUNDARY: a receive superframe begins (03 R111, R115; 04 R123; 05 R148; 06 R191): the pilot error sums of the one that
ended give 21.083 and, in LOCKED and HOLD, the SNR figures. -/
def rxSuperframeBoundary (c : Carrier) (s : State) : State :=
  when (s.present c) s fun s =>
    let ph := s.rd (K.acqPhase c)
    let sums := (s.car c).rx.pilotErr
    let es := (List.range (2 * s.subs c)).map (pilotSigma sums)
    let s := if sums = [] then s else
      (List.range (2 * s.subs c)).foldl (fun s i => s.wr (K.noiseVarEst c i) (clampInt (openRat (65536 * nth es i 0)) 0 65535)) s
    let s := s.rxStatusBit c 0 false
    let coded := s.rxCoded c
    let s := s.modFec c (fun f =>
      let f := if f.accepting then f.advance (s.rdN (K.fecOh c)) coded else f
      { f with fromStart := s.rd (K.carState c) = carService && ph = phLocked })
    let s := s.modRx c (fun r => { r with
      hdrSf := none, frameNo := 0, sinceHdr := r.sinceHdr + 1, pilotErr := [], pilotLast := if sums = [] then r.pilotLast else sums })
    let s := if ph = phLocked then s.wrapN (K.rxSfCount c) 1 else s
    if phLocked ≤ ph then
      let s := if sums = [] then s else
        let s := s.modRx c (fun r => { r with snrHist := (es :: r.snrHist).take 1024 })
        s.snrFigures c ((s.car c).rx.snrHist.take (2 ^ s.rdN (K.snrAvg c)))
      s.windowSnr c
    else s

end Sys2Proof.Machine
end

