-- ==== Sys2Proof/Machine/Loading.lean ====
section
/-! DEFINITION. Loading sets (spec 05 R153 to R157): the switch command, its tables, and staging into receive slots. -/

namespace Sys2Proof.Machine

/-! ### The transmit switch -/

/-- The refusal code of a switch command, 0 for none (05 R153); the lowest where several hold (log entry 130). A superframe number that lies
behind, taken the shorter way round, has no lead. -/
def State.switchRefusal (s : State) (c : Carrier) (target n : Nat) : Nat :=
  let t := (s.car c).tx
  let ahead := (n + (max48 + 1) - s.rdN (K.txSfc c)) % (max48 + 1)
  if s.rd (K.carState c) ≠ carService then 1
  else if t.pend.isSome then 2
  else if s.leadNs c n < 250000 || (max48 + 1) / 2 ≤ ahead then 3
  else if target = 2 && t.prevEmpty then 4
  else if target = 1 && s.rd (K.txEditedTag c) = 0 then 5
  else 0

/-- 23.013 (05 R153): target 0 cancels the pending switch, and is answered OK also where there is none (log entry 130); another is refused with its code, or is pending and
announced. -/
def State.switchTo (s : State) (c : Carrier) (target n : Nat) : State × Status :=
  if target = 0 then (s.cancelPending c, .ok)
  else
    let code := s.switchRefusal c target n
    if code = 0 then
      (s.modTx c (fun t => { t with pend := some ⟨target, n, 0⟩, nextTables := none }), .ok)
    else ((s.wr (K.txSwitchRefused c) (code : Nat)).raise Ev.txSwitchRefused (K.txSwitchRefused c), .refused)

/-- 23.013 as written: the target in bits 63:56, the superframe in bits 47:0. -/
def State.txSwitch (s : State) (c : Carrier) (v : Nat) : State × Status := s.switchTo c (v / 2 ^ 56) (v % 2 ^ 48)

/-- TX_SWITCH. -/
def execTxSwitch (src : Nat) (c : Carrier) (v : Int) (s : State) : Out :=
  .next (s.request src (K.txSwitch c) fun s => s.txSwitch c (clampKey (K.txSwitch c) v).toNat)

/-- The set that a pending switch will make current: by command its target as it stands, by edition the edited set with the elements of
the armed edition. -/
def State.pendingSet (s : State) (c : Carrier) (p : PendSwitch) : LoadSet :=
  match s.ed.armed.find? (fun e => p.edId ≠ 0 && e.id = p.edId) with
  | some e => (s.putElems e.elems).editedSet c
  | none => s.targetSet c p.target

/-- MATCHER_TABLES_READY: the count tables and the scale of the pending target are computed (02 R63, 05 R155). -/
def execMatcherTablesReady (c : Carrier) (s : State) : Out :=
  .next (match (s.car c).tx.pend with
    | none => s
    | some p => when (s.present c) s fun s => s.modTx c (fun t => { t with nextTables := some (s.pendingSet c p).matchTables }))

/-! ### Staging (05 R157) -/

/-- The set of 23.050 to 23.052. -/
def State.stageSet (s : State) (c : Carrier) : LoadSet :=
  ⟨s.rdN (K.stageTag c), (List.range 32).map (fun i => (s.rdN (K.stageLoading c i), s.rdN (K.stageGrid c i)))⟩

/-- The lowest condition a staging fails, 0 for none (05 R157 step 1). -/
def State.stageRefusal (s : State) (c : Carrier) : Nat :=
  let r := (s.car c).rx
  let set := s.stageSet c
  if !set.legal (s.subs c) then 1
  else if set.tag = 0 then 2
  else if set.tag = r.tagInUse then 3
  else if r.hdr.any (fun h => 0 < h.swCd) then 4
  else if r.staging.isSome then 5
  else 0

/-- The slot a staging writes (05 R157 step 2): a HELD slot of the same tag, else the slot not in use, else the slot used
less recently, slot 0 when neither was ever used. -/
def RxState.stageSlot (r : RxState) (tag : Nat) : Nat :=
  if r.slot0.held ∧ r.slot0.tag = tag then 0
  else if r.slot1.held ∧ r.slot1.tag = tag then 1
  else
    match r.inUse with
    | some i => 1 - i
    | none => if r.slot0.used ≤ r.slot1.used then 0 else 1

/-- A staging request: refused with its code, or a slot is chosen and emptied while the tables are computed. -/
def State.stage (s : State) (c : Carrier) : State × Status :=
  let code := s.stageRefusal c
  if code = 0 then
    let set := s.stageSet c
    let i := (s.car c).rx.stageSlot set.tag
    (s.modRx c (fun r => { r.modSlot i (fun sl => { sl with tag := 0, held := false }) with staging := some ⟨i, set⟩ }), .ok)
  else ((s.wr (K.stageResult c) (code : Nat)).raise Ev.rxStageRefused (K.stageResult c), .refused)

/-- STAGE_COMMIT: 23.05A. -/
def execStageCommit (src : Nat) (c : Carrier) (s : State) : Out :=
  .next (s.request src (K.stageCommit c) fun s => s.stage c)

/-- RX_LOAD_STAGED: the deshaper tables and priors are ready and the slot is HELD (05 R157 steps 3 and 4). -/
def rxLoadStaged (c : Carrier) (s : State) : State :=
  match (s.car c).rx.staging with
  | none => s
  | some g =>
    when (s.present c) s fun s =>
      let s := s.modRx c (fun r =>
        { r.modSlot g.slot (fun _ => ⟨g.set.tag, g.set, true, r.useCtr + 1, r.useCtr + 1⟩) with
          staging := none, useCtr := r.useCtr + 1 })
      (s.wr (K.stageResult c) 0).raise Ev.rxLoadStaged (K.rxSlotTag c g.slot)

end Sys2Proof.Machine
end

