-- ==== Sys2Proof/Machine/Clocking.lean ====
section
/-! DEFINITION. Line converters and clocking (spec 08; 01 R19, R26, R36 to R38): REFCLK monitor, PLLs, lock sequence,
spare rotation and the die-to-die link. -/

namespace Sys2Proof.Machine

/-! ### REFCLK and PLLs (08 R228, R229) -/

/-- The carriers this part has. -/
def State.carriersHere (s : State) : List Carrier := if s.present .b then [.a, .b] else [.a]

/-- A line PLL when REFCLK leaves OK: READY goes to HOLDOVER; a lock sequence stops and waits. -/
def State.pllRefLost (s : State) (c : Carrier) : State :=
  let st := s.rd (K.pllState c.num)
  if st = 4 then s.wr (K.pllState c.num) 5
  else if st = 0 || st = 5 then s
  else (s.wr (K.pllState c.num) 0).modDie c (fun d => { d with waitRef := true, relock := d.relock || st = 6 })

/-- The Traverse PLL enters HOLDOVER: a datum LOCKED or ACQUIRING is in HOLDOVER until it returns (10 R298). -/
def State.datumPllHold (s : State) : State :=
  if s.rd K.datumQuality ≤ 1 && s.rd K.timeSource ≠ 7 then
    { (s.wr K.datumQuality 2) with clk := { s.clk with datumHeld := true } }
  else s

/-- The verdict leaves OK, or changes while it is not OK (08 R228). -/
def State.refVerdict (s : State) (v : Int) : State :=
  if s.rd K.refclkStatus = 0 then
    let s := ((s.wr K.refclkStatus v).bump K.refclkLossCount).raise Ev.refclkLoss K.refclkStatus
    let s := { s with clk := { s.clk with refLost := true } }
    let s := s.carriersHere.foldl State.pllRefLost s
    let held := s.rd (K.pllState 3) = 4
    let s := [2, 3, 4].foldl (fun s p => if s.rd (K.pllState p) = 4 then s.wr (K.pllState p) 5 else s) s
    if held then s.datumPllHold else s
  else s.wr K.refclkStatus v

/-- REFCLK_EDGE_TIMEOUT: no edge for 100 ns. -/
def execRefclkEdgeTimeout (s : State) : Out := .next (when (s.rd K.refclkStatus ≠ 1) s fun s => s.refVerdict 1)

/-- REFCLK_WINDOW: a 10 us window, with the deviation from 312.5 MHz in ppm; more than 2 % is OUT_OF_RANGE. -/
def execRefclkWindow (ppm : Int) (s : State) : Out :=
  .next (when (20000 < ppm.natAbs && s.rd K.refclkStatus ≠ 2) s fun s => s.refVerdict 2)

/-- REFCLK_OK_TIMER: REFCLK has been present and within 2 % for 1 ms; waiting lock sequences restart (08 R229). The first
OK after a reset or wake is no return, and raises nothing. -/
def execRefclkOkTimer (s : State) : Out :=
  .next (when (s.rd K.refclkStatus ≠ 0) s fun s =>
    let s := s.wr K.refclkStatus 0
    let s := if s.clk.refLost then s.raise Ev.refclkRestored K.refclkStatus else s
    s.carriersHere.foldl (fun s c => if (s.die c).waitRef then s.startLock c else s) s)

/-- PLL_HOLDOVER_RETURN: PLL p has slewed back and its phase detector is in lock (08 R229); with the Traverse PLL the datum
quality it held goes to ACQUIRING (10 R298). -/
def execPllHoldoverReturn (p : Nat) (s : State) : Out :=
  .next (when (p < 5 && s.rd (K.pllState p) = 5 && s.rd K.refclkStatus = 0) s fun s =>
    let s := s.wr (K.pllState p) 4
    if p = 3 && s.clk.datumHeld then
      let s := { s with clk := { s.clk with datumHeld := false } }
      if s.rd K.datumQuality = 2 then s.wr K.datumQuality 1 else s
    else s)

/-! ### Lock sequence (08 R230 to R234) -/

/-- LOCK_SEQ_STEP: a step of the sequence completes (08 R230): an unlocked die starts banding, the band search reports
band and tuning word, lock leads to calibration, or for a relock to READY (R233). -/
def lockSeqStep (c : Carrier) (band tune : Nat) (s : State) : State :=
  when (s.present c) s fun s =>
    let st := s.rd (K.pllState c.num)
    if st = 6 then s.wr (K.pllState c.num) 1
    else if st = 1 then
      ((s.wr (K.pllState c.num) 2).wr (K.vcoBand c.num) (min band 63 : Nat)).wr (K.vcoTune c.num) (min tune 65535 : Nat)
    else if st = 2 then
      if (s.die c).relock then
        (s.modDie c (fun d => { d with relock := false, visiting := s.rd (K.carState c) ≠ carOff })).wr (K.pllState c.num) 4
      else s.wr (K.pllState c.num) 3
    else s

/-- LOCK_SEQ_STEP. -/
def execLockSeqStep (c : Carrier) (band tune : Nat) (s : State) : Out := .next (lockSeqStep c band tune s)

/-- Physical sub-ADC q of a tile is marked failed (08 R237). -/
def State.markFailed (s : State) (c : Carrier) (t q : Nat) : State :=
  let k := K.subadcFailed (16 * c.num + t)
  if bitOf (s.rdN k) q then s
  else (({ s with boot := { s.boot with spareFailed := true } }.wr k (setBit (s.rdN k) q true : Nat)).wr (K.subadcFailCount c.num) (min (s.rdN (K.subadcFailCount c.num) + 1) 132 : Nat)).raise
    Ev.lineSubadcFail k

/-- The sub-ADCs marked failed in a tile. -/
def State.failedList (s : State) (c : Carrier) (t : Nat) : List Nat :=
  (List.range 33).filter (fun q => bitOf (s.rdN (K.subadcFailed (16 * c.num + t))) q)

/-- One tile is graded after foreground calibration (08 R236): its new failures, and its calibration values. -/
def State.gradeTile (s : State) (c : Carrier) (t : Nat) (fails : List Nat) (vals : List Byte) : State :=
  let s := (fails.filter (· < 33)).foldl (fun s q => s.markFailed c t q) s
  let s := s.setBlob (K.calValues (16 * c.num + t)) (vals.take 198)
  let setTile := fun (s : State) (tile : Tile) => s.modDie c (fun d => { d with tiles := d.tiles.set t tile })
  match s.failedList c t with
  | [] => (setTile s Tile.reset).wr (K.tileSpare (16 * c.num + t)) 32 |>.wr (K.tileState (16 * c.num + t)) 0
  | [q] =>
    (setTile s ⟨(List.range 32).map (fun i => if i = q then 32 else i), 0, false⟩).wr (K.tileSpare (16 * c.num + t)) (q : Nat)
      |>.wr (K.tileState (16 * c.num + t)) 1
  | _ => (s.wr (K.tileState (16 * c.num + t)) 2).raise Ev.lineConvFail (K.tileState (16 * c.num + t))

/-- The superframes and samples of a carrier that leaves OFF count from here (02 R47, R48). -/
def State.startSuperframes (s : State) (c : Carrier) : State :=
  s.modTx c (fun t => { t with
    sfStart := s.clock, period := s.rdN (K.txSfc c) * 524288, sample := [0, 0, 0, 0], gains := [], frame := TxFrame.none, past := [] })

/-- FOREGROUND_CAL_DONE: step 5 of the lock sequence ends, with the failing sub-ADCs and the calibration values of each of
the 16 tiles (08 R236). With a FAILED tile the PLL stops and the carrier is OFF; else the die is READY, the carrier enters
STANDBY, spare rotation begins, and a held SERVICE goes on to ACQUIRE (R230). -/
def foregroundCalDone (c : Carrier) (fails : List (List Nat)) (vals : List (List Byte)) (s : State) : State :=
  when (s.present c && s.rd (K.pllState c.num) = 3) s fun s =>
    let s := (List.range 16).foldl (fun s t => s.gradeTile c t (nth fails t []) (nth vals t [])) s
    if (List.range 16).any (fun t => s.rd (K.tileState (16 * c.num + t)) = 2) then
      ((s.wr (K.pllState c.num) 0).modDie c (fun d => { d with stopped := true, visiting := false })).setCar c carOff
    else
      let s := (s.wr (K.pllState c.num) 4).wr (K.calTile c.num) 0
      let s := s.modDie c (fun d => { d with visiting := true })
      let s := if s.rd (K.carState c) = carOff then s.startSuperframes c |>.setCar c carStandby else s
      s.carrierMove c

/-- The sensors of a line die that have not failed (15 R376, R378): their mean, if any. -/
def State.dieMean (s : State) (c : Carrier) : Option Int :=
  let ms := (List.range 4).map (fun i => 16 + 4 * c.num + i) |>.filter (fun m => s.rd (K.sensorState m) = 0)
  match ms with
  | [] => none
  | _ => some (openDiv (ms.map (fun m => s.rd (K.sensorTemp m))).sum ms.length)

/-- The tuning word lies within 20 % to 80 %. -/
def tuneInside (t : Nat) : Bool := 65535 ≤ 5 * t && 5 * t ≤ 4 * 65535

/-- VCO_TC_UPDATE: each 1 ms the compensation follows the mean of the die's good sensors, or is held with
LINE_PLL_TC_HOLD; the tuning word leaving 20 % to 80 % raises LINE_PLL_TUNE_MARGIN (08 R231). In HOLDOVER the word is
held (R229). -/
def vcoTcUpdate (c : Carrier) (tune : Nat) (s : State) : State :=
  when (s.present c && s.dieReady c) s fun s =>
    let s := if s.on (K.vcoTcEnable c.num) then
        match s.dieMean c with
        | some m => s.modDie c (fun d => { d with vcoTemp := m, tcHeld := false })
        | none =>
          if (s.die c).tcHeld then s
          else (s.modDie c (fun d => { d with tcHeld := true })).raise Ev.linePllTcHold (K.vcoTcEnable c.num)
      else s
    if s.rd (K.pllState c.num) = 5 then s
    else
      let t := min tune 65535
      let old := s.rdN (K.vcoTune c.num)
      let s := s.wr (K.vcoTune c.num) (t : Nat)
      if tuneInside old && !tuneInside t then s.raise Ev.linePllTuneMargin (K.vcoTune c.num) else s

/-- VCO_TC_UPDATE. -/
def execVcoTcUpdate (c : Carrier) (tune : Nat) (s : State) : Out := .next (vcoTcUpdate c tune s)

/-- 40.007 (08 R232): in STANDBY steps 1 to 5 run again; in another state the write is discarded. -/
def State.rebandCmd (s : State) (c : Carrier) : State × Status :=
  if !s.present c then (s, .ok)
  else if s.rd (K.carState c) = carStandby then (s.refit c, .ok)
  else (s.raise Ev.lineRebandRefused (K.reband c.num), .refused)

/-- REBAND. -/
def execReband (src : Nat) (c : Carrier) (s : State) : Out :=
  .next (s.request src (K.reband c.num) fun s => s.rebandCmd c)

/-- LINE_PLL_UNLOCK: a READY line PLL loses lock: UNLOCKED, counted, contour DARK without a squelch bit, the visit
abandoned, the elastic buffers empty and the frames of the gap lost (R234), relock at once (08 R233); in a lock sequence such a report restarts it; in HOLDOVER and OFF there is none. -/
def linePllUnlock (c : Carrier) (s : State) : State :=
  when (s.present c) s fun s =>
    let st := s.rd (K.pllState c.num)
    if st = 4 then
      let s := ((s.wr (K.pllState c.num) 6).bump (K.pllUnlockCount c.num)).raise Ev.linePllUnlock (K.pllUnlockCount c.num)
      ((s.contourDark c).modDie c (fun d => { d.emptyBuffers with relock := true, visiting := false })).modRx c (fun r => { r with slipped := true })
    else if st = 1 || st = 2 || st = 3 then s.wr (K.pllState c.num) 1
    else s

/-- LINE_PLL_UNLOCK. -/
def execLinePllUnlock (c : Carrier) (s : State) : Out := .next (linePllUnlock c s)

/-- A trim moves by at most 0.01 dB toward its entry. -/
def slewTrim (now target : Int) : Int := if now < target then now + 1 else if target < now then now - 1 else now

/-- A reference trim moves by at most 0.005 dB toward the one wanted (08 R238). -/
def stepRef (now want : Int) : Int := if now < want then min want (now + 5) else max want (now - 5)

/-- The tile and the sub-DAC in it that sample n of a DAC channel goes to (08 R239). -/
def dacPlace (n : Nat) : Nat × Nat := (n % 4, n / 4 % 8)

/-- REF_TC_UPDATE: each 1 ms the reference trim wanted is computed from the die's mean temperature, which it follows from the next block
boundary on (`d2dBlockRx`), and the channel trims slew toward 40.009 and 40.010 (08 R238, R239). -/
def execRefTcUpdate (c : Carrier) (s : State) : Out :=
  .next (when (s.present c) s fun s =>
    let mean := s.dieMean c
    s.modDie c (fun d => { d with
      refTemp := if s.on (K.refTcEnable c.num) then mean.getD d.refTemp else d.refTemp
      refWant := if s.on (K.refTcEnable c.num) then Config.refTrimOf c.num (mean.getD d.refTemp) else d.refWant
      adcTrim := (List.range 4).map (fun j => slewTrim (nth d.adcTrim j 0) (s.rd (K.adcFsTrim (4 * c.num + j))))
      dacTrim := (List.range 4).map (fun j => slewTrim (nth d.dacTrim j 0) (s.rd (K.dacSwingTrim (4 * c.num + j)))) }))

/-! ### Spare rotation (01 R36 to R38; 08 R235, R237) -/

/-- SPARE_VISIT_START: the visit of tile 40.014 begins (rotation runs in every carrier state but OFF). -/
def execSpareVisitStart (c : Carrier) (s : State) : Out :=
  .next (when (s.present c && s.dieReady c && s.rd (K.carState c) ≠ carOff) s fun s =>
    s.modDie c (fun d => { d with visiting := true }))

/-- SPARE_VISIT_END: at 250 us the visit's self-test is judged (01 R36, R38): a pass leaves the spare, with its new
calibration values, ready to be swapped in; a failure marks it and stops the tile. The next tile's visit begins; after
the last a pass is complete. A stopped tile keeps its place and nothing is done in it. -/
def spareVisitEnd (c : Carrier) (pass : Bool) (vals : List Byte) (s : State) : State :=
  when (s.present c && (s.die c).visiting) s fun s =>
    let t := s.rdN (K.calTile c.num)
    let g := 16 * c.num + t
    let s :=
      if s.rd (K.tileState g) = 0 then
        let q := s.rdN (K.tileSpare g)
        let s := if vals = [] then s else
          let old := s.blob (K.calValues g)
          let old := old ++ List.replicate (198 - old.length) 0
          s.setBlob (K.calValues g) (old.take (6 * q) ++ (vals ++ List.replicate 6 0).take 6 ++ old.drop (6 * q + 6))
        if pass then s.modDie c (fun d => { d with tiles := d.tiles.modify t (fun x => { x with tested := true }) })
        else (s.markFailed c t q).wr (K.tileState g) 1
      else s
    let s := s.wr (K.calTile c.num) ((t + 1) % 16 : Nat)
    if t = 15 then s.bump (K.calPassCount c.num) else s

/-- SPARE_VISIT_END. -/
def execSpareVisitEnd (c : Carrier) (pass : Bool) (vals : List Byte) (s : State) : Out := .next (spareVisitEnd c pass vals s)

/-- SPARE_SWAP: at a block boundary the tested sub-ADC of tile t takes the place of the next active one in round-robin
order, which is then the spare, in every carrier state but OFF (01 R36 step 4, R37); the swap is marked for the core die (03 R84). -/
def spareSwap (c : Carrier) (t : Nat) (s : State) : State :=
  let x := nth (s.die c).tiles t Tile.reset
  when (s.present c && s.dieReady c && s.rd (K.carState c) ≠ carOff && t < 16 && x.tested) s fun s =>
    let g := 16 * c.num + t
    let q := x.nextSlot
    let out := nth x.active q 0
    let spare := s.rdN (K.tileSpare g)
    (s.modDie c (fun d => { d with
      tiles := d.tiles.set t ⟨x.active.set q spare, (q + 1) % 32, false⟩, marks := d.marks ++ [(t / 4, 4 * q + t % 4)] })).wr
      (K.tileSpare g) (out : Nat)

/-- SPARE_SWAP. -/
def execSpareSwap (c : Carrier) (t : Nat) (s : State) : Out := .next (spareSwap c t s)

/-! ### The die-to-die link and the elastic boundaries (08 R241, R242; 01 R26) -/

/-- An ADC block meets the elastic buffer, which holds `fill` samples (01 R26): an overflow starts the discarding of whole
blocks until the buffer is below half full. Answers whether the block is discarded. -/
def adcOverflow (dropping : Bool) (fill : Nat) : Bool := if dropping then 4096 ≤ fill else 8192 < fill + 512

/-- Blocks of channel j that carry swap marks reach the core die: the corrections of those positions and their windows start afresh (03
R84). -/
def State.takeMarks (s : State) (c : Carrier) (j : Nat) : State :=
  let ms := (s.die c).marks.filter (fun m => m.1 = j)
  (s.modRx c (fun r => ms.foldl (fun r m => { r with ilv := adel r.ilv (128 * j + m.2), ilvSum := adel r.ilvSum (128 * j + m.2) }) r)).modDie c
    (fun d => { d with marks := d.marks.filter (fun m => m.1 ≠ j) })

/-- The fabric, once it has begun, has read n samples of channel j from the elastic buffer, and stage 2 takes them (01 R26, 03 R83). -/
def State.adcRead (s : State) (c : Carrier) (j n : Nat) : State :=
  if nth (s.die c).adcOn j false then
    let buf := nth (s.die c).adcBuf j []
    (s.modDie c (fun d => { d with adcBuf := d.adcBuf.set j (buf.drop n) })).adcSamples c j (buf.take n)
  else s

/-- An ADC block of channel j arrives at the elastic buffer (01 R26): it is taken, and at half full the fabric begins to read; or it is
discarded, counted, and marks the frame under way (08 R242). Samples discarded never reach stage 2, and do not count as clipped (log
entry 116). -/
def State.adcArrive (s : State) (c : Carrier) (j : Nat) (codes : List Nat) : State :=
  let d := s.die c
  let buf := nth d.adcBuf j []
  if adcOverflow (nth d.adcDrop j false) buf.length then
    (((s.modDie c (fun d => { d with adcDrop := d.adcDrop.set j true })).modRx c (fun r => { r with slipped := true })).bump
      (K.adcSlipBlocks (4 * c.num + j))).raise Ev.lineAdcSlip (K.adcSlipBlocks (4 * c.num + j))
  else
    let new := buf ++ codes
    (s.modDie c (fun d => { d with
      adcDrop := d.adcDrop.set j false, adcBuf := d.adcBuf.set j new, adcOn := d.adcOn.set j (nth d.adcOn j false || 4096 ≤ new.length) })).takeMarks c j

/-- What channel j's DAC has put out over n samples, once it has begun: the codes of its buffer, mid-code for what is missing, and mid-code
throughout while the squelch gate holds or the contour is dark (01 R26; 02 R43, R74, R76). -/
def State.dacSend (s : State) (c : Carrier) (j n : Nat) : State :=
  let d := s.die c
  let buf := nth d.dacBuf j []
  let live := nth d.dacOn j false
  let gone := if live then buf.take n else []
  let dark := s.squelched c || s.rd (K.contourState c) = 0
  let out := if dark then List.replicate n 128 else gone ++ List.replicate (n - gone.length) 128
  s.modDie c (fun d => { d with
    dacBuf := if live then d.dacBuf.set j (buf.drop n) else d.dacBuf, dacOut := d.dacOut.set j out
    dacShort := if live then d.dacShort.set j (nth d.dacShort j 0 + (n - gone.length)) else d.dacShort })

/-- The next 512 codes of channel j, of the transmit datapath, cross to its buffer (02 R79); codes beyond the DAC's range count as
clipped, and at half full the DAC begins. -/
def State.dacFill (s : State) (c : Carrier) (j : Nat) : State :=
  let raw := s.rawCodes c j 512
  let s := s.bumpN (K.dacClipCount c j) (raw.filter (fun x => x < 0 || 255 < x)).length
  let s := s.modTx c (fun t => { t with sample := t.sample.set j (nth t.sample j 0 + 512) })
  s.modDie c (fun d =>
    let new := nth d.dacBuf j [] ++ raw.map dacClamp
    { d with dacBuf := d.dacBuf.set j new, dacOn := d.dacOn.set j (nth d.dacOn j false || 4096 ≤ new.length) })

/-- D2D_BLOCK_RX: a block of 512 samples of channel j crosses the link toward the core die (rx), with the ADC's codes, or toward the line
die, with its CRC verdict and the number of samples that the other side has taken from the elastic buffer since the block before. A block
that fails its CRC is delivered unchanged and counted (01 R19, R26; 08 R241). -/
def d2dBlockRx (c : Carrier) (rx : Bool) (j : Nat) (ok : Bool) (codes : List Nat) (taken : Nat) (s : State) : State :=
  when (s.present c && s.dieReady c && j < 4) s fun s =>
    let s := s.wrapN (K.d2dBlocks c.num) 1
    let s := s.modDie c (fun d => { d with refTrim := stepRef d.refTrim d.refWant })
    let s := s.modDie c (fun d =>
      if rx then { d with rxBlocks := d.rxBlocks + 1, rxBad := d.rxBad + b2n (!ok) }
      else { d with txBlocks := d.txBlocks + 1, txBad := d.txBad + b2n (!ok) })
    let s := if ok then s else s.bump (if rx then K.d2dRxCrcErr c.num else K.d2dTxCrcErr c.num)
    if rx then (s.adcRead c j taken).adcArrive c j ((codes.take 512).map (· % 256))
    else (s.dacSend c j taken).dacFill c j

/-- D2D_BLOCK_RX. -/
def execD2dBlockRx (c : Carrier) (rx : Bool) (j : Nat) (ok : Bool) (codes : List Nat) (taken : Nat) (s : State) : Out :=
  .next (d2dBlockRx c rx j ok codes taken s)

/-- LINE_DAC_SLIP: channel j's buffer had run out; the samples that went out as mid-code are counted (08 R242). -/
def execLineDacSlip (c : Carrier) (j : Nat) (s : State) : Out :=
  let n := nth (s.die c).dacShort j 0
  .next (when (s.present c && j < 4 && 0 < n) s fun s =>
    ((s.modDie c (fun d => { d with dacShort := d.dacShort.set j 0 })).bumpN (K.dacSlipSamples (4 * c.num + j)) n).raise
      Ev.lineDacSlip (K.dacSlipSamples (4 * c.num + j)))

/-- D2D_DEGRADE_CHECK: each second a direction whose failures rose by more than 1 per 10^6 of its blocks raises
LINE_D2D_DEGRADED, once (08 R241). -/
def execD2dDegradeCheck (c : Carrier) (s : State) : Out :=
  .next (when (s.present c) s fun s =>
    let d := s.die c
    let s := s.modDie c (fun d => { d with rxBlocks := 0, rxBad := 0, txBlocks := 0, txBad := 0 })
    if d.rxBlocks < d.rxBad * 1000000 then s.raise Ev.lineD2dDegraded (K.d2dRxCrcErr c.num)
    else if d.txBlocks < d.txBad * 1000000 then s.raise Ev.lineD2dDegraded (K.d2dTxCrcErr c.num)
    else s)

end Sys2Proof.Machine
end

