-- ==== Sys2Proof/Machine/Lanes.lean ====
section
/-! DEFINITION. Host lanes (spec 07 R192, R212 to R222): lane states, training, loopbacks and test patterns. -/

namespace Sys2Proof.Machine

/-- 10.010 takes a state; every change raises HOST_LANE_STATE (07 R212). -/
def State.setLane (s : State) (n : Nat) (st : Int) : State :=
  if s.rd (K.laneState n) = st then s else (s.wr (K.laneState n) st).raise Ev.hostLaneState (K.laneState n)

/-! ### Own and partner taps (07 R215) -/

/-- The presets. -/
def presetTaps : Nat → List Int
  | 0 => [0, 0, 128, 0, 0, 0]
  | 1 => [0, -8, 116, -4, 0, 0]
  | 2 => [2, -16, 102, -8, 0, 0]
  | _ => [4, -24, 88, -12, 0, 0]

/-- The lane's own taps become a preset. -/
def State.ownPreset (s : State) (n p : Nat) : State :=
  ((presetTaps p).zip (List.range 6)).foldl (fun s e => s.wr (K.txTap (6 * n + e.2)) e.1) s

/-- c(0) of six taps: 128 less the magnitudes of the others. -/
def mainTap (ts : List Int) : Int :=
  128 - ((ts.zip (List.range 6)).map (fun e => if e.2 = 2 then 0 else (e.1.natAbs : Int))).sum

/-- Six taps of a lane from entries. -/
def tapsOf (s : State) (k : Nat → Key) (n : Nat) : List Int := (List.range 6).map (fun t => s.rd (k (6 * n + t)))

/-- One tap takes a value and c(0) follows. -/
def State.setTap (s : State) (k : Nat → Key) (n t : Nat) (v : Int) : State :=
  let s := s.wr (k (6 * n + t)) v
  s.wr (k (6 * n + 2)) (mainTap (tapsOf s k n))

/-- The result of a step on own taps (07 R213, R215) and the taps after it: 1 UPDATED, 2 AT_MIN, 3 AT_MAX, 4 REFUSED. -/
def tapStep (ts : List Int) (t : Nat) (up : Bool) : Nat × Int :=
  let v := nth ts t 0 + (if up then 1 else -1)
  if 5 < t || t = 2 then (4, nth ts t 0)
  else if v < (tapRange t).1 then (2, nth ts t 0)
  else if (tapRange t).2 < v then (3, nth ts t 0)
  else if mainTap (ts.set t v) < 64 then (4, nth ts t 0)
  else (1, v)

/-! ### Lane states (07 R212) -/

/-- A lane's training state at its beginning, without slot-frame lock (07 R198, R212). -/
def Lane.untrain (l : Lane) : Lane :=
  { l with
    good := 0, bad := 0, partnerReady := false, partnerCount := none, ready := false, count := 16, rq := Requester.reset, status := 0
    slotLock := false, slotGood := 0, slotBad := 0, hostFault := 0, fail := 0 }

/-- A lane's receiver starts afresh: its PCS or slot frames are not aligned (10.041), and its clients' status follows (07 R202). -/
def State.untrainLane (s : State) (n : Nat) : State :=
  ((s.modLane n Lane.untrain).wr (K.pcsAligned n) 0).laneFollow n

/-- A lane starts as from DISABLED: into TEST, training, or data (07 R212). -/
def State.startLane (s : State) (n : Nat) : State :=
  let s := s.untrainLane n
  if s.rd (K.loopback n) ≠ 0 || s.rd (K.prbsGen n) ≠ 0 then s.setLane n 9
  else if s.on (K.trainEnable n) then
    ((s.ownPreset n (s.rdN (K.txPreset n))).modLane n (fun l => { l with timer := s.datum })).setLane n 1
  else s.setLane n 8

/-- 10.000 acts: outside OPERATIONAL every lane stays DISABLED (18 R456). -/
def State.laneEnable (s : State) (n : Nat) : State :=
  -- a write during a test of the lane acts when the test ends (16 R421)
  if !s.operational || s.underTest 3 n then s
  else if s.on (K.laneEnable n) then (if s.rd (K.laneState n) = 0 then s.startLane n else s)
  else (s.untrainLane n).setLane n 0

/-- LANE_ENABLE_WRITE. -/
def execLaneEnableWrite (src n : Nat) (v : Int) (s : State) : Out :=
  .next (s.request src (K.laneEnable n) fun s => (((rwEffect src (K.laneEnable n) v s).1).laneEnable n, .ok))

/-- The lane is training: WAIT_SIGNAL to COUNTDOWN. -/
def State.training (s : State) (n : Nat) : Bool := 1 ≤ s.rd (K.laneState n) && s.rd (K.laneState n) ≤ 5

/-- LANE_SIGNAL_DETECT: signal is detected and the clock recovered. -/
def execLaneSignalDetect (n : Nat) (s : State) : Out :=
  .next (when (n < 8) s fun s =>
    let s := (s.wr (K.rxSignal n) 1).laneFollow n
    if s.rd (K.laneState n) = 1 then (s.modLane n (fun l => { l with good := 0, bad := 0 })).setLane n 2 else s)

/-- The order in which a pass visits the taps (07 R216). -/
def visitTap (ix : Nat) : Nat := nth [1, 3, 0, 4, 5] ix 1

/-- The requester holds a step request on the present tap; `up` is INCREMENT. The first direction of c(-1) and c(1) is
DECREMENT, of the others INCREMENT. -/
def Requester.stepRequest (r : Requester) : Requester :=
  let firstUp := 2 ≤ r.tapIx
  let up := (firstUp != r.opposite) != r.undo
  { r with step := 1, preset := false, applied := false, field := visitTap r.tapIx * 1024 + (if up then 0x100 else 0x200) }

/-- Requests start with the preset 10.003 (07 R216). -/
def Requester.start (preset : Nat) : Requester :=
  { Requester.reset with step := 1, field := 0x8000 + preset * 0x2000 }

/-- WAIT_PARTNER, and COUNTDOWN if the partner's READY has been seen. -/
def State.waitPartner (s : State) (n : Nat) : State :=
  let s := (s.modLane n (fun l => { l with ready := true })).setLane n 4
  if (s.lane n).partnerReady then (s.modLane n (fun l => { l with count := 16 })).setLane n 5 else s

/-- Requests end (07 R216): READY is sent, and a FOM below the target raises HOST_TRAIN_LOW_FOM. -/
def State.requestsEnd (s : State) (n : Nat) : State :=
  let s := s.modLane n (fun l => { l with rq := { l.rq with step := 0, field := 0 } })
  let s := if s.rd (K.laneFom n) < s.rd (K.fomTarget n) then s.raise Ev.hostTrainLowFom (K.laneFom n) else s
  s.waitPartner n

/-- A tap is done: the next one, or the end of the pass, with its tests (07 R216). -/
def State.nextTap (s : State) (n : Nat) (fom : Int) : State :=
  let r := (s.lane n).rq
  if r.tapIx < 4 then
    s.modLane n (fun l => { l with
      rq := { l.rq with tapIx := l.rq.tapIx + 1, opposite := false, first := true, undo := false, fom := fom }.stepRequest })
  else if s.rd (K.fomTarget n) ≤ fom || fom - r.passFom < 5 || 8 ≤ r.pass + 1 then s.requestsEnd n
  else
    s.modLane n (fun l => { l with
      rq := { l.rq with pass := l.rq.pass + 1, tapIx := 0, opposite := false, first := true, undo := false, fom := fom, passFom := fom }.stepRequest })

/-- TRAIN_STEP_MEASURE: the FOM, in 0.01 dB, after an answered step (07 R216). A step that gains at least 0.05 dB is
followed by another; one that gains less is undone; after an undone first step in the first direction the opposite is
tried. A step the partner did not apply gains nothing and needs no undoing. -/
def trainStepMeasure (n : Nat) (fom : Nat) (s : State) : State :=
  let r := (s.lane n).rq
  when (n < 8 && s.rd (K.laneState n) = 3 && r.step = 3) s fun s =>
    let f : Int := (min fom 4000 : Nat)
    let s := s.wr (K.laneFom n) f
    let go := fun (r : Requester) => s.modLane n (fun l => { l with rq := r.stepRequest })
    let turn := fun (s : State) (first : Bool) =>
      if first && !r.opposite then
        s.modLane n (fun l => { l with rq := { l.rq with opposite := true, first := true, undo := false, fom := f }.stepRequest })
      else s.nextTap n f
    if r.preset then go { r with pass := 0, tapIx := 0, opposite := false, first := true, undo := false, fom := f, passFom := f }
    else if r.undo then turn s r.first
    else if r.applied && 5 ≤ f - r.fom then go { r with first := false, fom := f }
    else if r.applied then go { r with undo := true }
    else turn s r.first

/-- TRAIN_STEP_MEASURE. -/
def execTrainStepMeasure (n fom : Nat) (s : State) : Out := .next (trainStepMeasure n fom s)

/-- Answers to requests move the requester on (07 R214, R216), and the partner's taps are tracked. -/
def State.takeStatus (s : State) (n status : Nat) : State :=
  let l := s.lane n
  let result := bitsOf status 9 7
  if l.rq.step = 1 && result ≠ 0 then
    let t := bitsOf l.rq.field 12 10
    let up := bitOf l.rq.field 8
    let s :=
      if l.rq.preset then
        if result = 5 then ((presetTaps (bitsOf l.rq.field 14 13)).zip (List.range 6)).foldl (fun s e =>
          s.wr (K.partnerTap (6 * n + e.2)) e.1) s else s
      else if result = 1 then s.setTap K.partnerTap n t (s.rd (K.partnerTap (6 * n + t)) + (if up then 1 else -1))
      else s
    s.modLane n (fun l => { l with rq := { l.rq with step := 2, field := 0, applied := result = 1 || result = 5 } })
  else if l.rq.step = 2 && result = 0 then s.modLane n (fun l => { l with rq := { l.rq with step := 3 } })
  else s

/-- The responder answers a request (07 R214, R215) and holds the result until the request returns to HOLD. -/
def State.answer (s : State) (n req : Nat) : State :=
  let held := bitsOf (s.lane n).status 9 7 ≠ 0
  let t := bitsOf req 12 10
  let step := bitsOf req 9 8
  let setStatus := fun (s : State) (res : Nat) => s.modLane n (fun l => { l with status := t * 1024 + res * 128 })
  if bitOf req 15 then
    if held then s else setStatus (s.ownPreset n (bitsOf req 14 13)) 5
  else if step = 1 || step = 2 then
    if held then s
    else
      let r := tapStep (tapsOf s K.txTap n) t (step = 1)
      setStatus (if r.1 = 1 then s.setTap K.txTap n t r.2 else s) r.1
  else s.modLane n (fun l => { l with status := t * 1024 })

/-- The partner's countdown (07 R217): a good frame with CD gives COUNT, and a frame that fails counts on. -/
def countAfter (was : Option Nat) (ok : Bool) (req : Nat) : Option Nat :=
  if ok then (if bitOf req 2 then some (bitsOf req 6 3) else was) else was.map (· - 1)

/-- Lane n receives data: in a data state or TEST; a trained lane once the partner's own COUNT 0 has passed (07 R217, R219). -/
def State.dataRx (s : State) (n : Nat) : Bool :=
  let st := s.rd (K.laneState n)
  6 ≤ st && st ≤ 9 && (st ≠ 6 || (s.lane n).partnerCount = some 0)

/-- The loopback of lane n in force: 1 NEAR_SERIAL, 2 NEAR_PARALLEL, 3 FAR, 0 none (07 R219). -/
def State.looped (s : State) (n : Nat) : Int := if s.rd (K.laneState n) = 9 then s.rd (K.loopback n) else 0

/-- Lane n's own signal is its ingress, and HRXn is ignored (07 R219). -/
def State.nearLoop (s : State) (n : Nat) : Bool := s.looped n = 1 || s.looped n = 2

/-- Lane n sends what the egress gives it: in a data state, or in TEST with no FAR loopback and no generator (07 R219, R220). -/
def State.sendsData (s : State) (n : Nat) : Bool :=
  let st := s.rd (K.laneState n)
  (6 ≤ st && st ≤ 8) || (st = 9 && s.rd (K.loopback n) ≠ 3 && s.rd (K.prbsGen n) = 0)

/-! ### Training frames (07 R213) -/

/-- The levels of a training frame's marker and of 48 control bits. -/
def trainHead (ctl : Nat) : List Int :=
  List.replicate 32 3 ++ List.replicate 32 (-3) ++ (bitList 48 ctl).flatMap (fun b => if b then [3, -3] else [-3, 3])

/-- The control bits of 96 levels; none where a pair spells no bit. -/
def trainBits : List Int → Option (List Bool)
  | [] => some []
  | a :: b :: t =>
    if a = 3 && b = -3 then (trainBits t).map (true :: ·)
    else if a = -3 && b = 3 then (trainBits t).map (false :: ·)
    else none
  | [_] => none

/-- The control bits of a training frame's first 160 levels whose marker is good; none otherwise. -/
def trainCtl (lv : List Int) : Option Nat :=
  if lv.take 64 = List.replicate 32 3 ++ List.replicate 32 (-3) then
    match trainBits ((lv.drop 64).take 96) with
    | some bs => if bs.length = 48 then some (bitNat bs) else none
    | none => none
  else none

/-- Levels after the lane's polarity entry: 10.006 bit 1 negates receive, bit 0 transmit. -/
def State.polar (s : State) (n bit : Nat) (lv : List Int) : List Int :=
  if bitOf (s.rdN (K.laneInvert10 n)) bit then lv.map (fun v => -v) else lv

/-- The Gray-coded PAM4 level of two bits, the first sent first (IEEE 802.3, PRESUMED: log entry 119). -/
def pam4 (a b : Bool) : Int := if a then (if b then 1 else 3) else (if b then -1 else -3)

/-- The register of PRBS13, 1 + x + x^2 + x^12 + x^13 (IEEE 802.3, PRESUMED: log entry 119): its output bit and the next register. -/
def prbs13Step (reg : Nat) : Bool × Nat :=
  (bitOf reg 12, reg * 2 % 8192 + b2n (((bitOf reg 0 != bitOf reg 1) != bitOf reg 11) != bitOf reg 12))

/-- Symbols of PRBS13Q from a register, and the register after them. -/
def prbs13Symbols : Nat → Nat → List Int × Nat
  | 0, reg => ([], reg)
  | m + 1, reg =>
    let a := prbs13Step reg
    let b := prbs13Step a.2
    let r := prbs13Symbols m b.2
    (pam4 a.1 b.1 :: r.1, r.2)

/-- The 48 control bits lane n sends: its request with READY, COUNT and CD, its status, and their CRC-16. -/
def Lane.control (l : Lane) (countdown : Bool) : Nat :=
  let cd := if countdown then (l.count - 1) * 8 + 4 else 0
  let req := l.rq.field + b2n l.ready * 128 + cd
  let w := (req % 65536) * 65536 + l.status % 65536
  w * 65536 + crc16Bits (bitList 32 w)

/-- Lane n begins its next training frame; in COUNTDOWN each frame takes the next COUNT (07 R213, R217). -/
def State.sendTrain (s : State) (n : Nat) : State :=
  let cd := s.rd (K.laneState n) = 5 && 0 < (s.lane n).count
  let body := prbs13Symbols 8032 (s.lane n).prbs13
  let out := s.polar n 0 (trainHead ((s.lane n).control cd) ++ body.1)
  s.modLane n (fun l => { l with trainOut := out, prbs13 := body.2, count := if cd then l.count - 1 else l.count })

/-- One nanosecond of a training lane: 212.5 or 106.25 symbols pass, and at the 8,192nd the next frame begins. -/
def State.trainTick (s : State) (n : Nat) : State :=
  if s.training n then
    let ph := (s.lane n).trainPhase + (if s.rd (K.laneRate n) = 0 then 21250 else 10625)
    let s := s.modLane n (fun l => { l with trainPhase := ph % 819200 })
    if 819200 ≤ ph || (s.lane n).trainOut = [] then s.sendTrain n else s
  else if (s.lane n).trainOut = [] then s
  else s.modLane n (fun l => { l with trainOut := [], trainPhase := 0 })

/-- A good training frame in a training state. -/
def State.trainGood (s : State) (n req status : Nat) : State :=
  let s := s.modLane n (fun l => { l with good := l.good + 1, bad := 0, partnerReady := l.partnerReady || bitOf req 7 })
  let s := s.answer n req
  let st := s.rd (K.laneState n)
  if st = 2 then
    if 3 ≤ (s.lane n).good then
      (s.modLane n (fun l => { l with rq := Requester.start (s.rdN (K.trainStartPreset n)) })).setLane n 3
    else s
  else if st = 3 then s.takeStatus n status
  else if st = 4 then
    if (s.lane n).partnerReady then (s.modLane n (fun l => { l with count := 16 })).setLane n 5 else s
  else s

/-- Back to WAIT_SIGNAL with the timer running (07 R212). -/
def State.backToWait (s : State) (n : Nat) : State := (s.untrainLane n).setLane n 1

/-- HOST_TRAIN_FRAME_RX: the first 160 symbols of a training frame, as levels (07 R212 to R217). In a data state three in a row lead
back to FRAME_HUNT if 10.017 is 1, and the timer starts anew; the frames of the partner's own countdown are none of them. -/
def hostTrainFrameRx (n : Nat) (lv : List Int) (s : State) : State :=
  when (n < 8 && !s.nearLoop n) s fun s =>
    let st := s.rd (K.laneState n)
    let ctl := (trainCtl (s.polar n 1 lv)).getD 0
    let ok := (trainCtl (s.polar n 1 lv)).isSome && bitsOf ctl 15 0 = crc16Bits ((bitList 48 ctl).take 32)
    let counting := st = 6 && (s.lane n).partnerCount ≠ some 0
    let s := if 2 ≤ st && st ≤ 6 then
        s.modLane n (fun l => { l with partnerCount := countAfter l.partnerCount ok (bitsOf ctl 47 32) }) else s
    if 2 ≤ st && st ≤ 5 then
      if ok then s.trainGood n (bitsOf ctl 47 32) (bitsOf ctl 31 16)
      else
        let s := s.modLane n (fun l => { l with good := 0, bad := l.bad + 1 })
        if 4 ≤ (s.lane n).bad && st ≠ 5 then s.backToWait n else s
    else if (st = 6 || st = 7) && !counting then
      let s := s.modLane n (fun l => { l with good := if ok then l.good + 1 else 0 })
      if 3 ≤ (s.lane n).good && s.on (K.autoRetrain n) then
        (((s.untrainLane n).modLane n (fun l => { l with timer := s.datum })).ownPreset n (s.rdN (K.txPreset n))).setLane n 2
      else s
    else s

/-- HOST_TRAIN_FRAME_RX. -/
def execHostTrainFrameRx (n : Nat) (lv : List Int) (s : State) : Out := .next (hostTrainFrameRx n lv s)

/-- TRAIN_COUNTDOWN_DONE: the frame with COUNT 0, which has been begun, has been sent; TRAINED, with the training time in us (07 R212, R217). -/
def execTrainCountdownDone (n : Nat) (s : State) : Out :=
  .next (when (n < 8 && s.rd (K.laneState n) = 5 && (s.lane n).count = 0) s fun s =>
    let s := s.wr (K.trainTime n) (min ((s.datum - (s.lane n).timer) / 1000) 500000 : Nat)
    (s.modLane n (fun l => { l with good := 0 })).setLane n 6)

/-- HOST_TRAIN_TIMEOUT: the timer reaches 500 ms (07 R212). -/
def execHostTrainTimeout (n : Nat) (s : State) : Out :=
  .next (when (n < 8 && s.training n) s fun s =>
    let s := (s.ownPreset n (s.rdN (K.txPreset n))).modLane n (fun l => { l with good := 0, rq := Requester.reset, ready := false })
    ((s.setLane n 7).bump (K.trainTimeoutCount n)).raise Ev.hostTrainTimeout (K.trainTimeoutCount n))

/-- HOST_LOS: loss of signal (07 R212). -/
def execHostLos (n : Nat) (s : State) : Out :=
  .next (when (n < 8) s fun s =>
    let s := (((s.wr (K.rxSignal n) 0).wr (K.pcsAligned n) 0).modLane n (fun l => { l with
      slotLock := false, slotGood := 0, slotBad := 0 })).laneFollow n
    let st := s.rd (K.laneState n)
    if 2 ≤ st && st ≤ 4 then s.backToWait n
    else if 6 ≤ st && st ≤ 8 then
      let s := s.raise Ev.hostLos (K.rxSignal n)
      if s.on (K.autoRetrain n) then
        (((s.backToWait n).modLane n (fun l => { l with timer := s.datum })).ownPreset n (s.rdN (K.txPreset n)))
      else s
    else s)

/-- 10.016 (07 R212): from a data state the lane starts as from DISABLED. -/
def State.retrainLane (s : State) (n : Nat) : State :=
  let st := s.rd (K.laneState n)
  if 6 ≤ st && st ≤ 8 then s.startLane n else s

/-- RETRAIN. -/
def execRetrain (src n : Nat) (s : State) : Out :=
  .next (s.request src (K.retrain n) fun s => (s.retrainLane n, .ok))

/-- SF_LANE_RETRY: every 10.015 ms the standard firmware retrains a TRAINED_PRESET lane that is not aligned (07 R218). -/
def execSfLaneRetry (n : Nat) (s : State) : Out :=
  .next (when (n < 8 && s.firmware && s.rd K.trainRetry ≠ 0 && s.rd (K.laneState n) = 7 && !s.on (K.pcsAligned n)) s fun s =>
    s.retrainLane n)

/-- Test entries have changed: an enabled lane enters TEST, or leaves it as from DISABLED (07 R212). -/
def State.testChange (s : State) (n : Nat) : State :=
  let st := s.rd (K.laneState n)
  let test := s.rd (K.loopback n) ≠ 0 || s.rd (K.prbsGen n) ≠ 0
  if st = 0 then s
  else if test then (if s.training n then s.untrainLane n else s).setLane n 9
  else if st = 9 then s.startLane n
  else s

/-- LOOPBACK_WRITE: 10.020 (07 R219). -/
def execLoopbackWrite (src n : Nat) (v : Int) (s : State) : Out :=
  .next (s.request src (K.loopback n) fun s => (((rwEffect src (K.loopback n) v s).1).testChange n, .ok))

/-- PRBS_GEN_WRITE: 10.030; a pattern begins with its first symbol, and no error waits (07 R220). -/
def execPrbsGenWrite (src n : Nat) (v : Int) (s : State) : Out :=
  .next (s.request src (K.prbsGen n) fun s =>
    ((((rwEffect src (K.prbsGen n) v s).1).modLane n (fun l => { l with genPos := 0, injectAt := [] })).testChange n, .ok))

/-! ### The pattern generator (07 R220, R221) -/

/-- Bit i of a sequence of the register of x^n + x^k + 1 from a register. -/
def lfsrBit (n k reg i : Nat) : Bool := (prbsStep n k (iter (fun r => (prbsStep n k r).2) i reg)).1

/-- Level i of the pattern that 10.030 or 10.031 names (07 R220). The sequences and the Gray code are IEEE 802.3's (PRESUMED, log entry
119); where a sequence begins, and SSPRQ, are free. -/
def patternLevel (p i : Nat) : Int :=
  match p with
  | 1 => pam4 (lfsrBit 9 5 (Config.patternStart 1) (2 * i)) (lfsrBit 9 5 (Config.patternStart 1) (2 * i + 1))
  | 2 =>
    let r := iter (fun r => (prbs13Step r).2) (2 * i) (Config.patternStart 2)
    pam4 (prbs13Step r).1 (prbs13Step (prbs13Step r).2).1
  | 3 => pam4 (lfsrBit 31 28 (Config.patternStart 3) (2 * i)) (lfsrBit 31 28 (Config.patternStart 3) (2 * i + 1))
  | 4 => nth [-3, -1, 1, 3] (Config.ssprq (i % 65535)) 3
  | _ => if i % 16 < 8 then 3 else -3

/-- A level moved by one, which is one bit error; which way an inner level moves is free (07 R221). -/
def moveLevel (v : Int) (i : Nat) : Int :=
  if v = 3 then 1 else if v = -3 then -1 else if Config.injectUp i then v + 2 else v - 2

/-- Symbol i of lane n's generator takes an injected error: one that waits for it, or by the rate 10.037 = q, one in 2^q bits. -/
def State.injected (s : State) (n i : Nat) : Bool :=
  let q := s.rdN (K.prbsInjectRate n)
  (s.lane n).injectAt.contains i || (q ≠ 0 && i % 2 ^ (q - 1) = 2 ^ (q - 1) - 1)

/-- Symbol i that lane n's generator gives: HTXn carries it unless a FAR loopback is in force (07 R220). -/
def State.genLevel (s : State) (n i : Nat) : Int :=
  let v := patternLevel (s.rdN (K.prbsGen n)) i
  if s.injected n i then moveLevel v i else v

/-- One nanosecond of lane n's generator: 212.5 or 106.25 symbols. -/
def State.genTick (s : State) (n : Nat) : State :=
  if s.rd (K.prbsGen n) = 0 then s
  else s.modLane n (fun l =>
    let p := l.genPos + (if s.rd (K.laneRate n) = 0 then 850 else 425)
    { l with genPos := p, injectAt := l.injectAt.filter (fun i => p ≤ 4 * i) })

/-- The host lanes' nanosecond (log entry 5). -/
def State.laneTick (s : State) : State := (List.range 8).foldl (fun s n => (s.trainTick n).genTick n) s

/-- PRBS_INJECT: m errors, 1,024 symbols apart, wait for injection into the generator output, behind those that wait (07 R221). -/
def execPrbsInject (src n : Nat) (v : Int) (s : State) : Out :=
  .next (s.request src (K.prbsInject n) fun s =>
    (s.modLane n (fun l =>
      let first := match l.injectAt.getLast? with
        | some i => i + 1024
        | none => (l.genPos + 3) / 4
      { l with injectAt := l.injectAt ++ (List.range (clampKey (K.prbsInject n) v).toNat).map (fun j => first + 1024 * j) }), .ok))

/-- PRBS_LOCK: the checker takes received symbols, each with its number of bit errors (07 R220): lock after 64 error-free
symbols, lost after 256 symbol errors within 1,024; bits and errors count while it is locked. -/
def prbsLock (n : Nat) (errs : List Nat) (s : State) : State :=
  when (n < 8 && s.rd (K.prbsChk n) ≠ 0) s fun s =>
    errs.foldl (fun s e =>
      if s.on (K.prbsLock n) then
        let s := (s.wrapN (K.prbsBits n) 2).bumpN (K.prbsErrBits n) (min e 2)
        let s := if 0 < e then s.bump (K.prbsErrSymbols n) else s
        let s := s.modLane n (fun l => { l with window := (decide (0 < e) :: l.window).take 1024 })
        if 256 ≤ ((s.lane n).window.filter id).length then
          (s.wr (K.prbsLock n) 0).modLane n (fun l => { l with clean := 0, window := [] })
        else s
      else
        let s := s.modLane n (fun l => { l with clean := if e = 0 then l.clean + 1 else 0 })
        if 64 ≤ (s.lane n).clean then (s.wr (K.prbsLock n) 1).modLane n (fun l => { l with clean := 0, window := [] }) else s) s

/-- PRBS_LOCK. -/
def execPrbsLock (n : Nat) (errs : List Nat) (s : State) : Out := .next (prbsLock n errs s)

/-- A write to 10.005 (07, entry 10.005): discarded while the lane trains and for c(0); else the tap takes the value and
c(0) follows. -/
def State.tapWrite (s : State) (src i : Nat) (v : Int) : State × Status :=
  if s.training (i / 6) || i % 6 = 2 then (s, .ok)
  else
    let s := (rwEffect src (K.txTap i) v s).1
    (s.wr (K.txTap (6 * (i / 6) + 2)) (mainTap (tapsOf s K.txTap (i / 6))), .ok)

end Sys2Proof.Machine
end

