-- ==== Sys2Proof/Machine/Clients.lean ====
section
/-! DEFINITION. Host clients (spec 07 R192 to R211): line packets, ingress, mapper, demapper, egress and faults.
Client i is Ethernet client i for i below 8 and slot i - 8 from 8 on. -/

namespace Sys2Proof.Machine

/-! ### Line packets (07 R199) -/

/-- The header word of a packet. -/
def Packet.header (p : Packet) : Nat :=
  let h := p.type * 2 ^ 62 + p.cid % 256 * 2 ^ 54 + p.data.length * 2 ^ 40 + p.seq % 256 * 2 ^ 32 + p.last * 2 ^ 29
    + b2n p.err * 2 ^ 28 + p.code * 2 ^ 24
  h + crc16Bits ((bitList 64 h).take 48)

/-- The words of a packet. -/
def Packet.wordsOf (p : Packet) : List Nat := p.header :: p.data

/-- A header word's HEC checks. -/
def hecOk (w : Nat) : Bool := bitsOf w 15 0 = crc16Bits ((bitList 64 w).take 48)

/-- The packet a header word announces, without its data, and its LEN. -/
def packetOf (w : Nat) : Packet × Nat :=
  (⟨bitsOf w 63 62, bitsOf w 61 54, bitsOf w 39 32, bitsOf w 31 29, bitOf w 28, bitsOf w 27 24, []⟩, bitsOf w 53 40)

/-- Bytes packed eight to a word, first byte highest, the rest 0 (07 R200). -/
def packWords : List Byte → Nat → List Nat
  | _, 0 => []
  | [], _ => []
  | b :: t, n + 1 =>
    let w := (b :: t).take 8
    (beNat w * 256 ^ (8 - w.length)) :: packWords ((b :: t).drop 8) n

/-- The bytes of a frame's words. -/
def unpackWords (ws : List Nat) (last : Nat) : List Byte :=
  let bs := ws.flatMap (beBytes 8)
  bs.take (bs.length - (7 - last))

/-! ### Ingress (07 R197 to R202) -/

/-- HOST_BLOCK_RX: blocks of lane n pass the elastic buffer, PCS and FEC: corrected symbols, uncorrectable codewords, a slip at
ingress or egress, alignment, the ordered set the host sends (1 Local, 2 Remote Fault), and the host pre-FEC BER over the last second
(07 R194, R197, R211). The codewords that lose symbols in an ingress slip are uncorrectable, and at least one does; an egress slip
shows in the next frame sent. In a near loopback the ordered set is the one the lane's own egress sends (07 R219). -/
def hostBlockRx (n corr uncorr : Nat) (slipIn slipOut aligned : Bool) (fault ber : Nat) (s : State) : State :=
  when (n < 8 && s.dataRx n) s fun s =>
    let s := (s.bumpN (K.fecCorrSymbols n) corr).bumpN (K.fecUncorrCw n) (if slipIn then max uncorr 1 else uncorr)
    let s := if slipIn then (s.bump (K.inSlipCount n)).raise Ev.hostSlip (K.inSlipCount n) else s
    let s := if slipOut then (s.bump (K.outSlipCount n)).raise Ev.hostSlip (K.outSlipCount n) else s
    let s := if s.rd (K.clientType n) = 5 then s else s.wr (K.pcsAligned n) (b2i aligned)
    let own := if s.nearLoop n then ((s.laneClients n).head?.map s.presented).getD 0 else min fault 2
    let s := s.modLane n (fun l => { l with hostFault := own, outSlip := l.outSlip || slipOut })
    (s.wr (K.hostPreFecBer n) (min ber 500000000 : Nat)).laneFollow n

/-- HOST_BLOCK_RX. -/
def execHostBlockRx (n corr uncorr : Nat) (slipIn slipOut aligned : Bool) (fault ber : Nat) (s : State) : Out :=
  .next (hostBlockRx n corr uncorr slipIn slipOut aligned fault ber s)

/-- A good slot header's EMPTY and FAIL bits are taken (07 R197, R198): each run of 128 frames without EMPTY is counted. -/
def State.takeSlotBits (s : State) (n empty fail : Nat) : State :=
  let s := s.modLane n (fun l => { l with fail := fail % 2 ^ s.slotCount n })
  (List.range (s.slotCount n)).foldl (fun s k =>
    if bitOf empty k then s.modLane n (fun l => { l with sinceEmpty := l.sinceEmpty.set k 0 })
    else
      let run := nth (s.lane n).sinceEmpty k 0 + 1
      if 128 ≤ run then
        (s.modLane n (fun l => { l with sinceEmpty := l.sinceEmpty.set k 0 })).bump (K.slotNoEmpty (16 * n + k))
      else s.modLane n (fun l => { l with sinceEmpty := l.sinceEmpty.set k run })) s

/-- The blocks of slot k of a slot frame: blocks 1 + cnt i + k (07 R197). -/
def slotBlocks (blocks : List Nat) (cnt k : Nat) : List Nat := (List.range (256 / cnt)).map (fun i => nth blocks (cnt * i + k) 0)

/-- The data blocks of a locked slot frame with a good header go to its mapped slots; those of an EMPTY slot are discarded (07 R197,
R201). -/
def State.dealSlots (s : State) (n empty : Nat) (blocks : List Nat) : State :=
  let cnt := s.slotCount n
  (List.range cnt).foldl (fun s k =>
    let i := 8 + 16 * n + k
    if bitOf empty k || (s.clientCar i).isNone then s
    else s.modClient i (fun x => { x with part := x.part ++ slotBlocks blocks cnt k })) s

/-- SLOT_HEADER_RX: a slot frame's block 0 and its 256 data blocks: lock after 4 good headers, lost after 4 bad ones (07 R197, R198).
In a near loopback the frame is the one the lane's own egress sent (07 R219). A frame whose header is bad gives no data: which slots are
EMPTY is not known (DESIGN CHOICE, log entry 120). -/
def slotHeaderRx (n : Nat) (hdr : Nat) (blocks : List Nat) (s : State) : State :=
  when (n < 8 && s.rd (K.clientType n) = 5 && s.dataRx n && !(s.nearLoop n && (s.lane n).slotBack = [])) s fun s =>
    let near := s.nearLoop n
    let back := (s.lane n).slotBack
    let hdr := if near then nth back 0 0 else hdr
    let blocks := if near then back.drop 1 else blocks
    let s := s.modLane n (fun l => { l with slotBack := [] })
    let ok := bitsOf hdr 63 48 = 0xC5A3 && bitsOf hdr 7 0 = crc8 (beBytes 7 (hdr / 256))
    let s := s.modLane n (fun l => { l with
      slotGood := if ok then l.slotGood + 1 else 0, slotBad := if ok then 0 else l.slotBad + 1 })
    let l := s.lane n
    let lock := if l.slotLock then l.slotBad < 4 else 4 ≤ l.slotGood
    let s := (s.modLane n (fun l => { l with slotLock := lock })).wr (K.pcsAligned n) (b2i lock)
    let empty := bitsOf hdr 47 32
    let s := if ok && lock then (s.takeSlotBits n empty (bitsOf hdr 31 16)).dealSlots n empty blocks else s
    s.laneFollow n

/-- SLOT_HEADER_RX. -/
def execSlotHeaderRx (n hdr : Nat) (blocks : List Nat) (s : State) : Out := .next (slotHeaderRx n hdr blocks s)

/-- The reflected CRC-32 of an Ethernet FCS (IEEE 802.3, PRESUMED: the spec names the FCS only). -/
def crc32 (bs : List Byte) : Nat :=
  (bs.foldl (fun reg b => iter (fun r => if r % 2 = 1 then (r / 2) ^^^ 0xEDB88320 else r / 2) 8 (reg ^^^ b.toNat))
    0xFFFFFFFF) ^^^ 0xFFFFFFFF

/-- The FCS of a frame is good. -/
def fcsOk (f : List Byte) : Bool := f.drop (f.length - 4) = leBytes 4 (crc32 (f.take (f.length - 4)))

/-- Words of free space in client i's ingress queue (07 R206). -/
def State.queueFree (s : State) (i : Nat) : Nat :=
  2048 * (s.nominal i / 25) - ((s.client i).queue.map (fun p => p.data.length)).sum

/-- The next SEQ of a client is taken. -/
def State.takeSeq (s : State) (i : Nat) : State := s.modClient i (fun x => { x with seq := (x.seq + 1) % 256 })

/-- A complete frame of client c, with whether it holds an error (07 R200, R206, R208): FCS failures
are counted and carried; a long frame is cut and errored; a frame that does not fit, or whose carrier is not in SERVICE,
is dropped, counted, and takes a SEQ. -/
def State.frameIn (s : State) (c : Nat) (frame : List Byte) (errored : Bool) : State :=
  let s := if fcsOk frame then s else s.bump (K.inFcsErr c)
  let mx := s.rdN K.maxFrame
  let f := frame.take mx
  let ws := packWords f 2000
  let p : Packet := ⟨0, c, (s.client c).seq, (f.length + 7) % 8, errored || mx < frame.length, 0, ws⟩
  let fits := ws.length ≤ s.queueFree c
  let s := s.takeSeq c
  if s.mapping c && fits then s.modClient c (fun x => { x with queue := x.queue ++ [p] }) else s.bump (K.inDrop c)

/-- HOST_FRAME_INGRESS: client c's lanes have received a complete frame; `errored`: it contains an error or invalid block, or touches an
uncorrectable codeword or a slip. In a near loopback of the client's lanes it is the oldest frame that its own egress sent (07 R219). -/
def hostFrameIngress (c : Nat) (frame : List Byte) (errored : Bool) (s : State) : State :=
  when (c < 8 && s.isEth c && (s.groupLanes c).all s.dataRx) s fun s =>
    if (s.groupLanes c).all s.nearLoop then
      match (s.client c).back with
      | [] => s
      | (f, e) :: rest => (s.modClient c (fun x => { x with back := rest })).frameIn c f e
    else if (s.groupLanes c).any s.nearLoop || frame = [] then s
    else s.frameIn c frame errored

/-- HOST_FRAME_INGRESS. -/
def execHostFrameIngress (c : Nat) (frame : List Byte) (errored : Bool) (s : State) : Out :=
  .next (hostFrameIngress c frame errored s)

/-- SLOT_BURST_COMPLETE: the oldest 256 words gathered for slot i = 16n + s are a burst: queued, or dropped, counted, and a SEQ taken
(07 R201, R206, R208). -/
def slotBurstComplete (i : Nat) (s : State) : State :=
  when (i < 128 && (s.clientCar (8 + i)).isSome && 256 ≤ (s.client (8 + i)).part.length) s fun s =>
    let x := s.client (8 + i)
    let p : Packet := ⟨1, i, x.seq, 0, false, 0, x.part.take 256⟩
    let s := (s.modClient (8 + i) (fun x => { x with part := x.part.drop 256 })).takeSeq (8 + i)
    if s.mapping (8 + i) && x.queue.length < 4 then s.modClient (8 + i) (fun x => { x with queue := x.queue ++ [p] })
    else s.bump (K.slotInDrop i)

/-- SLOT_BURST_COMPLETE. -/
def execSlotBurstComplete (slot : Nat) (s : State) : Out := .next (slotBurstComplete slot s)

/-- CLIENT_STATUS_TICK: client i's status packet, due every 10 us (07 R202); a change of CODE sends one where it happens
(`State.laneFollow`). -/
def execClientStatusTick (cl : Nat) (s : State) : Out := .next (when (s.mapping cl) s fun s => s.sendStatus cl)

/-! ### The mapper (07 R206) -/

/-- A packet's words go to the line framing of its carrier (02 R57), and frames are counted. -/
def State.sendPacket (s : State) (c : Carrier) (p : Packet) : State :=
  let s := s.modTx c (fun t => { t with clientQ := t.clientQ ++ p.wordsOf })
  if p.type = 0 then
    let s := s.wrapN (K.inFrames p.cid) 1
    if p.err then s.bump (K.inErr p.cid) else s
  else s

/-- The clients of a carrier with a packet waiting and the highest such priority. -/
def State.readyClients (s : State) (c : Carrier) : List Nat :=
  let ids := (List.range 136).filter (fun i => s.clientCar i = some c && (s.client i).queue ≠ [])
  let top := (ids.map s.clientPrio).foldl max 0
  ids.filter (fun i => s.clientPrio i = top)

/-- Deficit round robin among ready clients from a turn: the client served, or a client gains its quantum and the turn
moves on (07 R206). -/
def State.drr (s : State) (ready : List Nat) : Nat → Nat → State × Option Nat
  | 0, turn => (s, if ready.contains turn then some turn else ready.head?)
  | fuel + 1, turn =>
    match (s.client turn).queue with
    | p :: _ =>
      if ready.contains turn && p.data.length + 1 ≤ (s.client turn).deficit then (s, some turn)
      else
        let next := ((ready.find? (turn < ·)).getD (ready.headD 0))
        (s.modClient next (fun x => { x with deficit := x.deficit + s.nominal next / 25 * (Config.drrUnit + 1) })).drr ready fuel next
    | [] =>
      let next := ((ready.find? (turn < ·)).getD (ready.headD 0))
      ((s.modClient turn (fun x => { x with deficit := 0 })).modClient next (fun x =>
        { x with deficit := x.deficit + s.nominal next / 25 * (Config.drrUnit + 1) })).drr ready fuel next

/-- MAPPER_PACKET_SEND: status packets first, then by priority and deficit round robin; in SERVICE only (07 R206, R208). -/
def mapperPacketSend (c : Carrier) (s : State) : State :=
  when (s.present c && s.rd (K.carState c) = carService) s fun s =>
    let st := if c = .a then s.host.statusA else s.host.statusB
    match st with
    | p :: t =>
      let s := if c = .a then { s with host := { s.host with statusA := t } } else { s with host := { s.host with statusB := t } }
      s.sendPacket c p
    | [] =>
      let ready := s.readyClients c
      if ready = [] then s
      else
        let r := s.drr ready 300000 (if c = .a then s.host.turnA else s.host.turnB)
        match r.2 with
        | none => r.1
        | some i =>
          let s := if c = .a then { r.1 with host := { r.1.host with turnA := i } } else { r.1 with host := { r.1.host with turnB := i } }
          match (s.client i).queue with
          | [] => s
          | p :: t => (s.modClient i (fun x => { x with queue := t, deficit := x.deficit - (p.data.length + 1) })).sendPacket c p

/-- MAPPER_PACKET_SEND. -/
def execMapperPacketSend (c : Carrier) (s : State) : Out := .next (mapperPacketSend c s)

/-! ### The demapper (07 R203, R209) -/

/-- The demapper of a carrier. -/
def State.setDemap (s : State) (c : Carrier) (d : Demap) : State :=
  match c with
  | .a => { s with host := { s.host with demapA := d } }
  | .b => { s with host := { s.host with demapB := d } }

/-- A packet's SEQ against the previous one of its CID. -/
def State.checkSeq (s : State) (i seq : Nat) : State :=
  let gap : Bool := match (s.client i).outSeq with
    | some p => seq ≠ (p + 1) % 256
    | none => false
  let s := s.modClient i (fun x => { x with outSeq := some seq, gap := x.gap || gap })
  if gap then s.bump (if i < 8 then K.outSeqGap i else K.slotOutGap (i - 8)) else s

/-- A packet is delivered to the client or slot of its CID if that takes its packets from this carrier (07 R203, R209); a CID that names
none is no one's. -/
def State.deliver (s : State) (c : Carrier) (p : Packet) (err : Bool) : State :=
  let far := (p.type = 0 && 8 ≤ p.cid) || 128 ≤ p.cid
  let slot := p.type = 1 || (p.type = 2 && !(p.cid < 8 && s.isEth p.cid))
  let i := if slot then 8 + p.cid else p.cid
  if p.type = 3 || far || s.clientCar i ≠ some c then s
  else
    let s := s.modClient i (fun x => { x with alive := true })
    let s :=
      if p.type = 2 then s.modClient i (fun x => { x with outCode := p.code })
      else if p.type = 0 then
        (s.checkSeq i p.seq).modClient i (fun x => { x with frames := x.frames ++ [(unpackWords p.data p.last, err || p.err)] })
      else
        let s := s.checkSeq i p.seq
        s.modClient i (fun x => { x with
          words := x.words ++ (p.data.zip (List.range p.data.length)).map (fun e => (e.1, x.gap && e.2 = 0)), gap := false })
    s.evalFault i

/-- A header at its predicted position in SYNC. -/
def State.syncHead (s : State) (c : Carrier) (w : Nat) : State :=
  if hecOk w then
    let p := packetOf w
    if p.2 = 0 then (s.setDemap c .syncHeader).deliver c p.1 false else s.setDemap c (.sync p.1 p.2 false)
  else (((s.setDemap c .hunt).bump (K.delinLoss c.num)).raise Ev.hostDelinLoss (K.delinLoss c.num)).hostFollow c

/-- DEMAP_WORD: the next word of stage 11 (07 R203). A failed PRESYNC test goes back to HUNT from the word after the first
candidate. -/
def demapWord (c : Carrier) (s : State) : State :=
  match (s.car c).fec.words with
  | [] => s
  | (w, e) :: rest =>
    when (s.present c) s fun s =>
      let s := s.modFec c (fun f => { f with words := rest })
      match if c = .a then s.host.demapA else s.host.demapB with
      | .hunt => if hecOk w then s.setDemap c (.presync (packetOf w).2 []) else s
      | .presync (left + 1) kept => s.setDemap c (.presync left (kept ++ [(w, e)]))
      | .presync 0 kept =>
        if hecOk w then (s.syncHead c w).hostFollow c
        else (s.setDemap c .hunt).modFec c (fun f => { f with words := kept ++ (w, e) :: rest })
      | .syncHeader => s.syncHead c w
      | .sync p left err =>
        let p' := { p with data := p.data ++ [w] }
        if left ≤ 1 then (s.setDemap c .syncHeader).deliver c p' (err || e) else s.setDemap c (.sync p' (left - 1) (err || e))

/-- DEMAP_WORD. -/
def execDemapWord (c : Carrier) (s : State) : Out := .next (demapWord c s)

/-- The demapper enters HUNT when 24.023 becomes ALIGNED (07 R203). -/
def State.demapHunt (s : State) (c : Carrier) : State := s.setDemap c .hunt

/-- RX_FEC_ALIGNED: the last start-up segment has been released (06 R178), and the demapper hunts (07 R203). -/
def execRxFecAligned (c : Carrier) (s : State) : Out :=
  .next (when (s.present c && (s.car c).fec.accepting && (s.car c).fec.startup = 0 && s.rd (K.decAlign c) = 1) s fun s =>
    (((s.wr (K.decAlign c) 2).raise Ev.rxFecAligned (K.decAlign c)).demapHunt c).hostFollow c)

/-! ### Egress (07 R204, R208) -/

/-- The idles after a frame of len bytes, and the deficit idle count after them: the gap is shortened by what the next start lies past
a multiple of 8 bytes while the deficit stays at most 7, and lengthened otherwise, so that it averages the base (07 R204; IEEE 802.3's
deficit idle count, PRESUMED: log entry 121). -/
def idleGap (base len dic : Nat) : Nat × Nat :=
  let k := (8 + len + base) % 8
  if dic + k ≤ 7 then (base - k, dic + k) else (base + 8 - k, dic + k - 8)

/-- EGRESS_FRAME_OUT: the egress of client c sends its next frame with preamble and SFD, an errored one ended by an error control block;
`full` says that its queue is more than half full, when the average gap may shrink to 8 (07 R204). The blocks that an egress slip left
missing are error control blocks (07 R211). A lane in training, in a FAR loopback or under the generator sends none of it, and a near
loopback brings it back to the ingress (07 R219, R220). -/
def egressFrameOut (c : Nat) (full : Bool) (s : State) : State :=
  match (s.client c).frames with
  | [] => s
  | (f, err) :: rest =>
    when (c < 8 && s.isEth c && s.presented c = 0) s fun s =>
      let ls := s.groupLanes c
      let base := if full then 8 + s.freeVal % 5 else 12
      let s := if full then s.tookFree else s
      let gap := idleGap base f.length (s.client c).dic
      let bad := err || ls.any (fun n => (s.lane n).outSlip)
      let s := (s.modClient c (fun x => { x with frames := rest, dic := gap.2, idles := gap.1 })).wrapN (K.outFrames c) 1
      let s := if err then s.bump (K.outErr c) else s
      let s := ls.foldl (fun s n => s.modLane n (fun l => { l with outSlip := false })) s
      if ls.all s.sendsData then
        s.modClient c (fun x => { x with
          sent := List.replicate 7 0x55 ++ [0xD5] ++ f, sentErr := bad
          back := if ls.all s.nearLoop then x.back ++ [(f, bad)] else x.back })
      else s

/-- EGRESS_FRAME_OUT. -/
def execEgressFrameOut (c : Nat) (full : Bool) (s : State) : Out := .next (egressFrameOut c full s)

/-- One slot's blocks for a slot frame: empty, fail, its words (07 R204, R208). -/
def State.slotFill (s : State) (i per : Nat) : Bool × Bool × List Nat :=
  let x := s.client (8 + i)
  let pr := s.presented (8 + i)
  if pr = 1 || (s.clientCar (8 + i)).isNone then (true, true, List.replicate per 0)
  else if x.words.length < per then (true, pr = 2, List.replicate per 0)
  else
    let ws := x.words.take per
    (false, pr = 2 || ws.any Prod.snd, ws.map Prod.fst)

/-- EGRESS_SLOT_FRAME: one slot frame of lane n from the bursts waiting, its slots marked FAIL after an egress slip (07 R197, R204,
R211); what a lane that does not send it does with it is as for a frame (07 R219, R220). -/
def egressSlotFrame (n : Nat) (s : State) : State :=
  when (n < 8 && s.rd (K.clientType n) = 5) s fun s =>
    let cnt := s.slotCount n
    let per := 256 / cnt
    let slip := (s.lane n).outSlip
    let fills := (List.range cnt).map (fun k => let f := s.slotFill (16 * n + k) per; (f.1, f.2.1 || slip, f.2.2))
    let bits := fun (f : Bool × Bool × List Nat → Bool) => ((fills.zip (List.range cnt)).map (fun e => b2n (f e.1) * 2 ^ e.2)).sum
    let h := 0xC5A3 * 2 ^ 48 + bits (fun f => f.1) * 2 ^ 32 + bits (fun f => f.2.1) * 2 ^ 16 + (s.lane n).fseq * 2 ^ 8
    let hdr := h + crc8 (beBytes 7 (h / 256))
    let data := (List.range 256).map (fun b => nth (nth fills (b % cnt) (true, true, [])).2.2 (b / cnt) 0)
    let sends := s.sendsData n
    let near := s.nearLoop n
    let s := s.modLane n (fun l => { l with
      fseq := (l.fseq + 1) % 256, outSlip := false, slotFrame := if sends then hdr :: data else l.slotFrame
      slotBack := if sends && near then hdr :: data else l.slotBack })
    (List.range cnt).foldl (fun s k =>
      if (nth fills k (true, true, [])).1 then s
      else s.modClient (8 + 16 * n + k) (fun x => { x with words := x.words.drop per })) s

/-- EGRESS_SLOT_FRAME. -/
def execEgressSlotFrame (n : Nat) (s : State) : Out := .next (egressSlotFrame n s)

/-- CLIENT_PACKET_TIMEOUT: no packet of client i for 30 us (07 R208). -/
def execClientPacketTimeout (cl : Nat) (s : State) : Out :=
  .next ((s.modClient cl (fun x => { x with alive := false })).evalFault cl)

/-- 11.027: bits 4 shortfall, 3 far Remote Fault, 2 egress fault, 1 host sends Remote Fault, 0 ingress Local Fault. -/
def State.clientStatusBits (s : State) (c : Nat) : Nat :=
  match s.clientCar c with
  | none => 0
  | some m =>
    b2n (s.on (K.shortfall m.num)) * 16 + b2n ((s.client c).outCode = 2) * 8 + b2n (s.client c).faulted * 4
      + b2n (s.statusCode c = 2) * 2 + b2n (s.statusCode c = 1)

/-! ### Editions (07 R196, R210) -/

/-- The client and the slots of lane c. -/
def clientIds (c : Nat) : List Nat := c :: (List.range 16).map (fun k => 8 + 16 * c + k)

/-- Client c's queues are flushed and its egress waits for packets (07 R210); frames and bursts discarded count as drops. -/
def State.flushClient (s : State) (c : Nat) : State :=
  (clientIds c).foldl (fun s i =>
    let x := s.client i
    let s := if i < 8 then s.bumpN (K.inDrop i) (x.queue.length + x.frames.length)
      else s.bumpN (K.slotInDrop (i - 8)) (x.queue.length + x.words.length / 256)
    s.modClient i (fun x => { x with
      queue := [], frames := [], words := [], part := [], back := [], alive := false, outSeq := none, gap := false, deficit := 0 })) s

/-- The clients an edition's keys touch (07 R210). -/
def State.touched (s : State) (keys : List Key) (c : Nat) : Bool :=
  keys.any (fun k => k = K.clientType c || k = K.clientCarrier c || k = K.clientPrio c || (k = K.maxFrame && s.isEth c)
    || (k.area = 0x11 && k.entry = 0x010 && k.idx / 16 = c) || (k.area = 0x10 && k.entry = 0x001 && (s.groupLanes c).contains k.idx))

/-- What an applied edition does to the host clients (07 R210); `keys` are the elements whose values changed, `old` the state before.
The queues are flushed, the lanes of the client's group before and after restart, and its egress presents a fault until packets arrive. -/
def State.hostApplied (s old : State) (keys : List Key) : State :=
  let cs := (List.range 8).filter (fun c => old.touched keys c || s.touched keys c)
  let ls := (cs.flatMap (fun c => old.groupLanes c ++ s.groupLanes c)).eraseDups
  let s := cs.foldl State.flushClient s
  let s := ls.foldl (fun s n => if s.rd (K.laneState n) = 0 then s else s.startLane n) s
  let s := cs.foldl (fun s c => (clientIds c).foldl State.evalFault s) s
  (List.range 8).foldl State.laneFollow s

/-- Client c breaks R193. -/
def State.badGroup (s : State) (c : Nat) : Bool :=
  let t := s.rdN (K.clientType c)
  let g := groupSize t (s.rdN (K.laneRate c))
  t ≠ 0 && (g = 0 || c % max g 1 ≠ 0
    || (List.range (g - 1)).any (fun j => s.rd (K.clientType (c + 1 + j)) ≠ 0 || s.rd (K.laneRate (c + 1 + j)) ≠ s.rd (K.laneRate c)))

/-- The client rules of 07 R196 that a projected state breaks, each with its first key. -/
def State.clientRules (s : State) : List (Nat × Key) :=
  let lanes := ((List.range 8).find? s.badGroup).map (fun c => (0x50, K.clientType c))
  let fit := ([Carrier.a, Carrier.b].find? (fun c => 1000 * s.rdN (K.linePayload c) < s.demand c)).map (fun c => (0x51, K.linePayload c))
  let none_ := if s.present .b then none else
    ((List.range 136).find? (fun i => s.clientCar i = some .b)).map (fun i =>
      (0x52, if i < 8 then K.clientCarrier i else K.slotMap (i - 8)))
  let slot := ((List.range 128).find? (fun i =>
    s.rd (K.slotMap i) ≠ 0 && (s.rd (K.clientType (i / 16)) ≠ 5 || s.slotCount (i / 16) ≤ i % 16))).map (fun i => (0x53, K.slotMap i))
  [lanes, fit, none_, slot].filterMap id

end Sys2Proof.Machine
end

