-- ==== Sys2Proof/Machine/Housekeeping.lean ====
section
/-! DEFINITION. Housekeeping converters (spec 12): conversions, passes, injected requests, calibration, open-wire test,
and the AOUT channels. -/

namespace Sys2Proof.Machine

/-- An HK ADC. -/
def State.adc (s : State) (h : Nat) : HkAdc := if h = 0 then s.hk.adc0 else s.hk.adc1

/-- An HK ADC changes. -/
def State.modAdc (s : State) (h : Nat) (f : HkAdc → HkAdc) : State :=
  if h = 0 then { s with hk := { s.hk with adc0 := f s.hk.adc0 } } else { s with hk := { s.hk with adc1 := f s.hk.adc1 } }

/-- An AOUT channel. -/
def State.aout (s : State) (k : Nat) : Aout := nth s.hk.aouts k Aout.reset

/-- An AOUT channel changes. -/
def State.modAout (s : State) (k : Nat) (f : Aout → Aout) : State :=
  { s with hk := { s.hk with aouts := s.hk.aouts.modify k f } }

/-- A filter channel. -/
def State.mfc (s : State) (y : Nat) : MfChan := nth s.hk.mf y MfChan.reset

/-- A filter channel changes. -/
def State.modMf (s : State) (y : Nat) (f : MfChan → MfChan) : State := { s with hk := { s.hk with mf := s.hk.mf.modify y f } }

/-- The filter engine of ADC h runs (13 R349). -/
def State.mfRuns (s : State) (h : Nat) : Bool :=
  s.on (K.hkEnable h) && 2 ≤ s.rd (K.regTrigger h) && s.rd (K.regTrigger h) ≤ 4

/-- The channels of ADC h's engine that are enabled. -/
def State.mfOn (s : State) (h : Nat) : List Nat := ((List.range 16).map (fun f => 16 * h + f)).filter (fun y => s.on (K.mfEnable y))

/-! ### Codes (12 R329) -/

/-- The voltage into the ADC in 0.1 uV of an input whose source stands at v: uV, or nA for an output current. -/
def hkVolts (input : Nat) (v : Int) : Rat :=
  if input < 0x20 then 10 * v
  else if input < 0x30 then 5 * v
  else if input < 0x40 then v
  else if input = 0x45 || input = 0x48 then 5 * v
  else if input = 0x46 then 10 * v / 4
  else 10 * v

/-- The raw code of an input against VREF_HK in uV (12 R329): 0 below 0 V, 4,095 at full scale and above. -/
def hkCode (input : Nat) (v : Int) (vref : Nat) : Nat :=
  (clampInt (if vref = 0 then 0 else (hkVolts input v * 4096 / (10 * vref)).floor) 0 4095).toNat

/-! ### Results (12 R330, R331, R334, R338, R345) -/

/-- The calibrated value of a raw code (12 R330). -/
def State.calValue (s : State) (h input code : Nat) : Nat :=
  let x := 75 * h + input
  (clampInt ((16 * (code : Int) - s.rd (K.calOffset x)) * s.rd (K.calGain x) / 32768) 0 65535).toNat

/-- A result record (12 R331). -/
def resultRecord (v code : Nat) (delayed open_ limit : Bool) : Nat :=
  v * 65536 + code * 16 + b2n delayed * 8 + b2n open_ * 4 + b2n limit * 2 + 1

/-- The open-wire test of an AIN pin takes a conversion (12 R338): four in a row that meet it judge the pin open, four in a
row that do not clear the fault. -/
def State.openWire (s : State) (p code : Nat) : State :=
  let m := s.rd (K.owMode p)
  if 31 < p || m = 0 then s
  else
    let met := if m ≤ 2 then s.rd K.owHigh ≤ code else code ≤ s.rd K.owLow
    let old := aget s.hk.owRun p (met, 0)
    let n := if old.1 = met then min (old.2 + 1) 4 else 1
    let s := { s with hk := { s.hk with owRun := aput s.hk.owRun p (met, n) } }
    let fault := bitOf (s.rdN K.owStatus) p
    if met && 4 ≤ n && !fault then (s.wr K.owStatus (setBit (s.rdN K.owStatus) p true : Nat)).raise Ev.hkOpenWire noKey
    else if !met && 4 ≤ n && fault then
      (s.wr K.owStatus (setBit (s.rdN K.owStatus) p false : Nat)).raise Ev.hkOpenWireClear noKey
    else s

/-- An input is an AIN pin judged open. -/
def State.inputOpen (s : State) (input : Nat) : Bool := input < 32 && bitOf (s.rdN K.owStatus) input

/-- The value a read-back input of a channel should give for an output code (12 R345), where it is compared. -/
def rbExpect (range input out : Nat) : Option Nat :=
  if input < 0x30 then
    if range = 0 then some (out * 65520 / 131072) else if range = 1 then some (out * 65520 / 65536) else none
  else if range = 2 then some (out * 65520 / 65536) else none

/-- A conversion of a read-back input is compared with the output 2 us before it (12 R345). -/
def State.readBack (s : State) (input v out : Nat) : State :=
  if input < 0x20 || 0x3F < input then s
  else
    let k := (input - 0x20) % 16
    if s.rd (K.aoutState k) ≠ 1 || s.hk.tick < (s.aout k).quietTill then s
    else
      match rbExpect (s.aout k).range input out with
      | none => s
      | some e =>
        let bad := s.rdN K.rbTol < (v - e) + (e - v)
        let s := s.modAout k (fun a => { a with rbRun := if bad then a.rbRun + 1 else 0 })
        if 4 ≤ (s.aout k).rbRun && !bitOf (s.rdN (K.rbStatus k)) 1 then
          let s := ((s.wr (K.rbStatus k) (setBit (s.rdN (K.rbStatus k)) 1 true : Nat)).bump (K.rbFaultCount k)).raise
            Ev.aoutReadbackFault noKey
          if s.rd (K.rbAction k) = 1 then s.wr (K.aoutState k) 3 else s
        else s

/-- A slot's value against its window (12 R334): two passes in a row on the other side change LIMIT. -/
def State.checkLimit (s : State) (h slot v : Nat) : State :=
  let i := 64 * h + slot
  let out := v < s.rdN (K.limitLo i) || s.rdN (K.limitHi i) < v
  let set := (s.adc h).limitSet.contains slot
  if out = set then s.modAdc h (fun a => { a with limitRun := adel a.limitRun slot })
  else
    let n := aget (s.adc h).limitRun slot 0 + 1
    if 2 ≤ n then
      (s.modAdc h (fun a => { a with
        limitRun := adel a.limitRun slot
        limitSet := if out then slot :: a.limitSet else a.limitSet.filter (· ≠ slot) })).raise
        (if out then Ev.hkLimit else Ev.hkLimitClear) noKey
    else s.modAdc h (fun a => { a with limitRun := aput a.limitRun slot n })

/-- The pass ends (12 R334): its records are copied and it is counted; in CONTINUOUS the next starts at this boundary. -/
def State.passEnd (s : State) (h : Nat) : State :=
  let recs := (List.range 64).flatMap (fun k => beBytes 4 (s.rdN (K.regResult (64 * h + k))))
  let s := ((s.setBlob (K.regPass h) recs).wrap16 (K.passCount h)).modAdc h (fun a => { a with pass := none })
  if s.rd (K.regTrigger h) = 2 then s.modAdc h (fun a => { a with passDue := true }) else s

/-- A slot's result waits for the filter channels that take it, with its pass (13 R348, R350). -/
def State.mfFresh (s : State) (h slot : Nat) : State :=
  let a := s.adc h
  ((s.mfOn h).filter (fun y => s.rdN (K.mfSlot y) = slot)).foldl
    (fun s y => s.modMf y (fun c => { c with fresh := some (a.startTick, a.startDatum, s.rdN (K.regResult (64 * h + slot))) })) s

/-- The conversion in progress of ADC h gives a raw code, which is stored (12 R330 to R338, R345). -/
def State.storeConv (s : State) (h code : Nat) : State :=
  match (s.adc h).conv with
  | none => s
  | some c =>
    let s := s.modAdc h (fun a => { a with conv := none })
    match c.kind with
    | .cal =>
      let s := s.modAdc h (fun a => { a with cal := a.cal.map (fun r => { r with count := r.count + 1, sum := r.sum + code }) })
      -- a benchmark step converts its input; a self-calibration converts none (12 R336)
      if (s.adc h).cal.any (fun r => r.step ≠ 0) then
        ((s.wrap16 (K.convCount h)).openWire c.input code).readBack c.input (s.calValue h c.input code) c.expect
      else s
    | .regular slot =>
      let v := s.calValue h c.input code
      let s := ((s.wrap16 (K.convCount h)).openWire c.input code).checkLimit h slot v
      let s := s.wr (K.regResult (64 * h + slot))
        (resultRecord v code c.delayed (s.inputOpen c.input) ((s.adc h).limitSet.contains slot) : Nat)
      let s := s.readBack c.input v c.expect
      let s := s.mfFresh h slot
      if s.rdN (K.regLength h) ≤ slot + 1 then s.passEnd h else s
    | .injected j =>
      let v := s.calValue h c.input code
      let s := (s.wrap16 (K.convCount h)).openWire c.input code
      let s := s.wr (K.injResult (8 * h + j)) (resultRecord v code c.delayed (s.inputOpen c.input) false : Nat)
      let s := s.readBack c.input v c.expect
      match (s.adc h).injNow with
      | some (n, len) =>
        if len ≤ n then (s.modAdc h (fun a => { a with injNow := none })).wrap16 (K.injCount h) else s
      | none => s

/-! ### What starts at a boundary (12 R332, R333, R336) -/

/-- ADC h starts a conversion. -/
def State.startConv (s : State) (h : Nat) (kind : ConvKind) (input : Nat) (delayed : Bool) : State :=
  let k := (input - 0x20) % 16
  s.modAdc h (fun a => { a with conv := some ⟨kind, input, delayed, nth (s.aout k).outs 2 0⟩ })

/-- The next conversion of the injected request in service, or of the oldest queued one. -/
def State.startInjected (s : State) (h : Nat) : State :=
  let a := s.adc h
  let s := match a.injNow with
    | some _ => s
    | none => (s.modAdc h (fun a => { a with injNow := some (0, s.rdN (K.injLength h)), injQ := a.injQ.drop 1 })).wr
        (K.injQueue h) (a.injQ.length - 1 : Nat)
  match (s.adc h).injNow with
  | none => s
  | some (n, len) =>
    (s.modAdc h (fun a => { a with injNow := some (n + 1, len) })).startConv h (.injected n) (s.rdN (K.injInput (8 * h + n))) false

/-- The next slot of the pass, DELAYED if it starts after its nominal instant. -/
def State.startRegular (s : State) (h : Nat) : State :=
  match (s.adc h).pass with
  | none => s
  | some (slot, t, d) =>
    if s.rdN (K.regLength h) ≤ slot then s
    else
      (s.modAdc h (fun a => { a with pass := some (slot + 1, t, d) })).startConv h (.regular slot)
        (s.rdN (K.regInput (64 * h + slot))) (t + slot < s.hk.tick)

/-- A pass whose trigger has come starts at this boundary. -/
def State.startPass (s : State) (h : Nat) : State :=
  let a := s.adc h
  if a.pass = none && (a.passDue || s.rd (K.regTrigger h) = 2) then
    let s := s.modAdc h (fun a => { a with
      pass := some (0, s.hk.tick, s.datum), passDue := false, startTick := s.hk.tick, startDatum := s.datum })
    -- synchronising resets take effect at the start of a pass (13 R360)
    ((s.mfOn h).filter (fun y => (s.mfc y).syncDue)).foldl
      (fun s y => s.modMf y (fun c => { c with syncDue := false, syncFrom := some s.hk.tick })) s
  else s

/-- Conversions of a calibration run (12 R336). -/
def CalRun.length (r : CalRun) : Nat := if r.step = 0 then 200 else 64

/-- A completed run stores its result (12 R336, R337). -/
def State.finishCal (s : State) (h : Nat) : State :=
  match (s.adc h).cal with
  | none => s
  | some r =>
    if r.count < r.length then s
    else
      let s := (s.modAdc h (fun a => { a with cal := none })).wr (K.hkCalState h) 0
      let m := r.sum / 4
      let s :=
        if r.step = 0 then s.wr (K.calResult h) 0
        else if r.step = 1 then (s.modAdc h (fun a => { a with zero := some (r.input, m) })).wr (K.calResult h) 0
        else
          match (s.adc h).zero with
          | none => s.wr (K.calResult h) 2
          | some (_, m0) =>
            let s := s.modAdc h (fun a => { a with zero := none })
            if m < m0 + 32761 || m0 + 131040 < m then s.wr (K.calResult h) 3
            else
              let x := 75 * h + r.input
              ((s.wr (K.calOffset x) (m0 : Nat)).wr (K.calGain x) (65520 * 32768 / (m - m0) : Nat)).wr (K.calResult h) 0
      s.raise Ev.hkCalDone noKey

/-- ADC h starts the first of what is waiting (12 R332). -/
def State.startNext (s : State) (h : Nat) : State :=
  let a := s.adc h
  match a.cal with
  | some r =>
    if r.running then
      if r.count < r.length then s.startConv h .cal r.input false else s
    else if a.injNow.isSome || a.injQ.head? = some true then s.startInjected h
    else
      ((s.modAdc h (fun a => { a with cal := some { r with running := true } })).wr (K.hkCalState h) 2).startConv h .cal r.input false
  | none => if a.injNow.isSome || a.injQ ≠ [] then s.startInjected h else (s.startPass h).startRegular h

/-- A disabled ADC stops at its boundary: a run ends ABORTED, the pass ends (12 R332). -/
def State.stopAdc (s : State) (h : Nat) : State :=
  let s := if (s.adc h).cal.isSome then (s.wr (K.calResult h) 5).wr (K.hkCalState h) 0 else s
  (s.modAdc h (fun a => { a with injNow := none, injQ := [], cal := none, pass := none, passDue := false })).wr (K.injQueue h) 0

/-- One ADC at a conversion boundary. -/
def State.boundary (s : State) (h code : Nat) : State :=
  let s := (s.storeConv h (min code 4095)).finishCal h
  if s.on (K.hkEnable h) then
    -- a pass starts on time even while other work goes first
    (s.startPass h).startNext h
  else s.stopAdc h

/-- The housekeeping converters are powered and run: from HK_CAL on (18 R452), but not in Dormant nor after a thermal shutdown. -/
def State.hkRuns (s : State) : Bool :=
  s.rd K.deviceState = devBoot || s.operational || (s.rd K.deviceState = devSafe && !s.th.shutdown)

/-- The raw code of the conversion in progress of ADC h. -/
def State.convCode (s : State) (h : Nat) (v : Int) (vref : Nat) : Nat :=
  match (s.adc h).conv with
  | some c => hkCode c.input v vref
  | none => 0

/-- HK_CONVERSION_BOUNDARY: each ADC stores its result and starts what is next; with what stands at the source of the input each
converts (uV, or nA for an output current), and the internal and the board's reference in uV (12 R329). -/
def execHkConversionBoundary (v0 v1 : Int) (internal board : Nat) (s : State) : Out :=
  .next (when s.hkRuns s fun s =>
    let vref := if s.rd K.hkRef = 1 then board else internal
    let s := { s with hk := { s.hk with tick := s.hk.tick + 1 } }
    let s := s.boundary 0 (s.convCode 0 v0 vref)
    s.boundary 1 (s.convCode 1 v1 vref))

/-- HK_CAL_DONE: a calibration run whose last conversion is stored completes (12 R336, R337). -/
def execHkCalDone (h : Nat) (s : State) : Out := .next (when (h < 2) s fun s => s.finishCal h)

/-! ### Triggers (12 R333 to R335) -/

/-- A trigger of the regular sequence of ADC h; one that finds a pass running is counted (12 R334). -/
def State.regTriggered (s : State) (h : Nat) : State :=
  let a := s.adc h
  if !s.on (K.hkEnable h) then s
  else if a.pass.isSome || a.passDue then
    -- a missing pass of the filter channels (13 R351)
    let s := if s.mfRuns h then (s.mfOn h).foldl (fun s y => s.modMf y (fun c => { c with missed := c.missed + 1 })) s else s
    let s := s.bump (K.regOverrun h)
    let quiet : Bool := match a.lastOverrun with
      | some t => decide (s.datum < t + 1000000)
      | none => false
    if quiet then s else (s.modAdc h (fun a => { a with lastOverrun := some s.datum })).raise Ev.hkOverrun noKey
  else s.modAdc h (fun a => { a with passDue := true })

/-- HK_REG_START: 60.016 triggers a pass while the trigger is SOFTWARE. -/
def execHkRegStart (src h : Nat) (s : State) : Out :=
  .next (s.request src (K.regStart h) fun s => (if s.rd (K.regTrigger h) = 1 then s.regTriggered h else s, .ok))

/-- A DATUM trigger's instant (12 R333): floor(datum/1,000) has the phase of 60.015 in the period of 60.014. -/
def State.datumPhase (s : State) (h : Nat) : Bool :=
  let p := max (s.rdN (K.regPeriod h)) 1
  s.datum / 1000 % p = s.rdN (K.regPhase h) % p

/-- HK_REG_TIMER: the TIMER or DATUM trigger of ADC h. -/
def execHkRegTimer (h : Nat) (s : State) : Out :=
  .next (when (h < 2 && (s.rd (K.regTrigger h) = 3 || (s.rd (K.regTrigger h) = 4 && s.datumPhase h))) s fun s => s.regTriggered h)

/-- An injected request arrives at ADC h; with 8 queued it is dropped (12 R335). -/
def State.injRequest (s : State) (h : Nat) : State :=
  if !s.on (K.hkEnable h) then s
  else if 8 ≤ (s.adc h).injQ.length then
    ((s.bump (K.injDrop h)).wr (K.injOverflow h) 1).raise Ev.hkInjOverflow noKey
  else
    let s := s.modAdc h (fun a => { a with injQ := a.injQ ++ [false] })
    s.wr (K.injQueue h) ((s.adc h).injQ.length : Nat)

/-- INJ_START: 60.025 while the trigger is SOFTWARE. -/
def execInjStart (src h : Nat) (s : State) : Out :=
  .next (s.request src (K.injStart h) fun s => (if s.rd (K.injTrigger h) = 1 then s.injRequest h else s, .ok))

/-- INJ_TIMER: every 60.024 us while the trigger is TIMER. -/
def execInjTimer (h : Nat) (s : State) : Out :=
  .next (when (h < 2 && s.rd (K.injTrigger h) = 2) s fun s => s.injRequest h)

/-- GPIO_RISE: a rising edge of GPIO pin g queues requests where it is selected. -/
def execGpioRise (g : Nat) (s : State) : Out :=
  .next ([0, 1].foldl (fun s h => if s.rd (K.injTrigger h) = 4 && s.rdN (K.injGpio h) = g then s.injRequest h else s) s)

/-- A rising edge of TRIG_IN at the converters (12 R333, R335). -/
def State.hkTrigIn (s : State) : State :=
  [0, 1].foldl (fun s h =>
    let s := if s.rd (K.regTrigger h) = 5 then s.regTriggered h else s
    if s.rd (K.injTrigger h) = 3 then s.injRequest h else s) s

/-- INJ_OVERFLOW_CLEAR: a write of 0 clears 60.028; 1 is discarded. -/
def execInjOverflowClear (src h : Nat) (v : Int) (s : State) : Out :=
  .next (s.request src (K.injOverflow h) fun s => (if v = 0 then s.rwStore src (K.injOverflow h) 0 else s, .ok))

/-- 60.000 (12 R332): 0 discards queued requests and a waiting run; the ADC stops at its next boundary. -/
def State.hkEnableEffect (s : State) (h : Nat) : State :=
  if s.on (K.hkEnable h) then s
  else
    let waiting := (s.adc h).cal.any (fun r => !r.running)
    let s := (s.modAdc h (fun a => { a with injQ := [], passDue := false, cal := if waiting then none else a.cal })).wr (K.injQueue h) 0
    if waiting then (s.wr (K.calResult h) 5).wr (K.hkCalState h) 0 else s

/-! ### Calibration requests (12 R336, R337) -/

/-- A refused run: the result code, and HK_CAL_REFUSED. -/
def State.calRefused (s : State) (h : Nat) (code : Int) : State × Status :=
  ((s.wr (K.calResult h) code).raise Ev.hkCalRefused noKey, .refused)

/-- A request for a run of ADC h. -/
def State.calRequest (s : State) (h step input : Nat) : State × Status :=
  let a := s.adc h
  if !s.on (K.hkEnable h) then s.calRefused h 4
  else if a.cal.isSome then s.calRefused h 1
  else if step = 2 && !a.zero.any (fun z => z.1 = input) then s.calRefused h 2
  else
    let s := s.modAdc h (fun a => { a with
      cal := some ⟨step, input, 0, 0, false⟩, injQ := a.injQ.map (fun _ => true)
      zero := if step = 1 then none else a.zero })
    (s.wr (K.hkCalState h) 1, .ok)

/-- HK_SELF_CAL: 60.002. -/
def execHkSelfCal (src h : Nat) (s : State) : Out :=
  .next (s.request src (K.hkSelfCal h) fun s => s.calRequest h 0 0)

/-- 60.030 (12 R337): bits 15:14 the step, bit 8 the ADC, bits 6:0 the input. -/
def State.benchCmd (s : State) (v : Nat) : State × Status :=
  let h := v / 256 % 2
  if v / 16384 = 0 then (s.modAdc h (fun a => { a with zero := none }), .ok) else s.calRequest h (v / 16384) (v % 128)

/-- BENCH_CANCEL: step CANCEL of ADC h. -/
def execBenchCancel (src h : Nat) (s : State) : Out :=
  .next (s.request src K.benchCmd fun s => s.benchCmd (h % 2 * 256))

/-- BENCH_ZERO: step ZERO of an input of ADC h. -/
def execBenchZero (src h input : Nat) (s : State) : Out :=
  .next (s.request src K.benchCmd fun s => s.benchCmd (clampKey K.benchCmd (0x4000 + h % 2 * 256 + input % 128 : Nat)).toNat)

/-- BENCH_FULL: step FULL of an input of ADC h. -/
def execBenchFull (src h input : Nat) (s : State) : Out :=
  .next (s.request src K.benchCmd fun s => s.benchCmd (clampKey K.benchCmd (0x8000 + h % 2 * 256 + input % 128 : Nat)).toNat)

/-! ### AOUT channels (12 R341 to R347) -/

/-- The seed of a channel's noise register (12 R344). -/
def noiseSeed (k : Nat) : Nat := 0x400000 + k

/-- Phase 0 and the noise register at its seed. -/
def Aout.restart (k : Nat) (a : Aout) : Aout := { a with phase := 0, lfsr := noiseSeed k, noiseLeft := 0 }

/-- Channel k is enabled (12 R342): the start code, in the range of 61.001, from the next update. -/
def State.aoutOn (s : State) (k : Nat) : State :=
  ((s.wr (K.aoutCode k) (s.rd (K.aoutStartCode k))).modAout k (fun a =>
    { a.restart k with range := s.rdN (K.aoutRange k), rbRun := 0 })).wr (K.aoutState k) 1

/-- 61.000 has been written (12 R342). -/
def State.aoutEnable (s : State) (k : Nat) : State :=
  -- a write during a test of the channel acts when the test ends (16 R421)
  if s.underTest 2 k then s
  else if s.on (K.aoutEnable k) then s.aoutOn k
  else (s.modAout k (fun a => { a with w := 0, rbRun := 0 })).wr (K.aoutState k) 0

/-- AOUT_ENABLE_WRITE. -/
def execAoutEnableWrite (src k : Nat) (v : Int) (s : State) : Out :=
  .next (s.request src (K.aoutEnable k) fun s => (((rwEffect src (K.aoutEnable k) v s).1).aoutEnable k, .ok))

/-- 61.001 (12 R343): a change on a driving channel disconnects it; a write during the disconnection starts the 20 us
again. -/
def State.aoutRangeWrite (s : State) (src k : Nat) (v : Int) : State :=
  let old := s.rd (K.aoutRange k)
  let s := (rwEffect src (K.aoutRange k) v s).1
  if s.rd (K.aoutState k) = 1 && s.rd (K.aoutRange k) ≠ old then s.wr (K.aoutState k) 2 else s

/-- AOUT_RANGE_WRITE. -/
def execAoutRangeWrite (src k : Nat) (v : Int) (s : State) : Out :=
  .next (s.request src (K.aoutRange k) fun s => (s.aoutRangeWrite src k v, .ok))

/-- AOUT_RECONNECT: 20 us after the last range write the output reconnects; comparisons wait another 20 us (12 R343, R345). -/
def execAoutReconnect (k : Nat) (s : State) : Out :=
  .next (when (k < 16 && s.rd (K.aoutState k) = 2) s fun s =>
    (s.modAout k (fun a => { a with range := s.rdN (K.aoutRange k), quietTill := s.hk.tick + 20, rbRun := 0 })).wr (K.aoutState k) 1)

/-- The waveform value of a phase as a fraction (12 R344). -/
def waveAt (shape : Int) (p : Rat) : Rat :=
  if shape = 1 then (if p < 1 / 4 then 4 * p else if p ≤ 3 / 4 then 2 - 4 * p else 4 * p - 4)
  else if p < 1 / 2 then 2 * p
  else 2 * p - 2

/-- The next value of the 23-bit noise register x^23 + x^18 + 1. -/
def noiseStep (r : Nat) : Nat := (prbsStep 23 18 r).2

/-- A channel's waveform value at this update, as a fraction, and the channel after it. -/
def Aout.advance (a : Aout) (shape : Int) (period : Nat) : Rat × Aout :=
  if shape = 0 then (0, { a with w := 0 })
  else if shape = 3 then
    let w := if a.noiseLeft = 0 then toSigned 16 a.lfsr else a.w
    ((w : Rat) / 32768, { a with
      w := w, lfsr := if a.noiseLeft = 0 then noiseStep a.lfsr else a.lfsr
      noiseLeft := if a.noiseLeft = 0 then period - 1 else a.noiseLeft - 1 })
  else
    let w := waveAt shape a.phase
    let p := a.phase + 1 / period
    (w, { a with w := clampInt (w * 32768).floor (-32768) 32767, phase := if 1 ≤ p then p - 1 else p })

/-- One channel at an update (12 R344): the code with its waveform, clamped; the pin's compliance and overload (R346). -/
def State.aoutUpdate (s : State) (k : Nat) (compliance overload : Bool) : State :=
  let driving := s.rd (K.aoutState k) = 1
  let comp := driving && (s.aout k).range = 2 && compliance
  let ovl := driving && (s.aout k).range ≠ 2 && overload
  let s := s.modAout k (fun a => { a with
    compQuiet := if comp then 0 else a.compQuiet + 1, overQuiet := if ovl then 0 else a.overQuiet + 1 })
  if !driving then s.modAout k (fun a => { a with waves := (0 :: a.waves).take 640, outs := (0 :: a.outs).take 4 })
  else
    let r := (s.aout k).advance (s.rd (K.wave k)) (max (s.rdN (K.wavePeriod k)) 1)
    let y := s.rd (K.aoutCode k) + (s.rd (K.waveAmpl k) * r.1 : Rat).floor
    let out := (clampInt y 0 65535).toNat
    let s := s.modAout k (fun _ => { r.2 with out := out, outs := (out :: r.2.outs).take 4, waves := (r.2.w :: r.2.waves).take 640 })
    let s := if y < 0 || 65535 < y then s.wrap16 (K.waveClip k) else s
    let st := s.rdN (K.rbStatus k)
    let s := if comp && !bitOf st 2 then
        (s.wr (K.rbStatus k) (setBit st 2 true : Nat)).raise Ev.aoutCompliance noKey else s
    if ovl && !bitOf st 3 then
      (s.wr (K.rbStatus k) (setBit (s.rdN (K.rbStatus k)) 3 true : Nat)).raise Ev.aoutOverload noKey
    else s

/-- AOUT_UPDATE: every channel updates, with the pins above VDAC - 1 V and those with limited current as bit maps. -/
def execAoutUpdate (compliance overload : Nat) (s : State) : Out :=
  .next ((List.range 16).foldl (fun s k => s.aoutUpdate k (bitOf compliance k) (bitOf overload k)) s)

/-- AOUT_CONDITION_CLEAR: compliance or overload has been absent for 1 ms, which is 1,000 updates (12 R346). -/
def execAoutConditionClear (k : Nat) (overload : Bool) (s : State) : Out :=
  .next (when (k < 16 && 1000 ≤ (if overload then (s.aout k).overQuiet else (s.aout k).compQuiet)) s fun s =>
    s.wr (K.rbStatus k) (setBit (s.rdN (K.rbStatus k)) (if overload then 3 else 2) false : Nat))

/-- WAVE_WRITE: 61.010 selects a waveform from phase 0 (12 R344). -/
def execWaveWrite (src k : Nat) (v : Int) (s : State) : Out :=
  .next (s.request src (K.wave k) fun s => (((rwEffect src (K.wave k) v s).1).modAout k (Aout.restart k), .ok))

/-- 61.013: the channels of a mask return to phase 0 together. -/
def State.waveSync (s : State) (mask : Nat) : State :=
  (List.range 16).foldl (fun s k => if bitOf mask k then s.modAout k (Aout.restart k) else s) s

/-- WAVE_SYNC. -/
def execWaveSync (src : Nat) (v : Int) (s : State) : Out :=
  .next (s.request src K.waveSync fun s => (s.waveSync (clampKey K.waveSync v).toNat, .ok))

/-- 61.034 clears the read-back fault and re-enables a FAULT_OFF channel (12 R346). -/
def State.rbClearCmd (s : State) (k : Nat) : State :=
  let s := (s.wr (K.rbStatus k) (setBit (s.rdN (K.rbStatus k)) 1 false : Nat)).modAout k (fun a => { a with rbRun := 0 })
  if s.rd (K.aoutState k) = 3 then s.aoutOn k else s

/-- RB_CLEAR. -/
def execRbClear (src k : Nat) (s : State) : Out :=
  .next (s.request src (K.rbClear k) fun s => (s.rbClearCmd k, .ok))

/-- The outputs at Dormant entry (12 R347): kept channels hold their code; the others go to high impedance. -/
def State.aoutDormant (s : State) : State :=
  (List.range 16).foldl (fun s k =>
    let on := s.on (K.aoutEnable k) && (s.rd (K.aoutState k) = 1 || s.rd (K.aoutState k) = 2)
    let keep := on && s.on (K.aoutKeep k)
    (s.modAout k (fun a => { a with kept := keep, wasOn := on, out := if keep then s.rdN (K.aoutCode k) else 0 })).wr
      (K.aoutState k) (if keep then 4 else 0)) s

/-- The outputs at wake (12 R347): every channel that was enabled drives its code again, waveforms from phase 0. -/
def State.aoutWake (s : State) : State :=
  (List.range 16).foldl (fun s k =>
    if (s.aout k).wasOn then
      (s.modAout k (fun a => { a.restart k with kept := false, wasOn := false, range := s.rdN (K.aoutRange k) })).wr (K.aoutState k) 1
    else s) s

end Sys2Proof.Machine
end

