-- ==== Sys2Proof/Machine/MonitorFilter.lean ====
section
/-! DEFINITION. The monitor filter chain (spec 13): channels, stages, coefficient sheets, resets and outputs, and
60.000, which starts and stops an engine. -/

namespace Sys2Proof.Machine

/-! ### Channels (13 R348, R349) -/

/-- T_p in microseconds (13 R349). -/
def State.mfPeriod (s : State) (h : Nat) : Nat :=
  if s.rd (K.regTrigger h) = 2 then s.rdN (K.regLength h) else s.rdN (K.regPeriod h)

/-- 62.00D (13 R348, R349, R361): 0 OFF, 1 STOPPED, 2 NO_INPUT, 3 SETTLING, 4 RUNNING. -/
def State.mfStateNow (s : State) (y : Nat) : Nat :=
  if !s.on (K.mfEnable y) then 0
  else if !s.mfRuns (y / 16) then 1
  else if s.rdN (K.regLength (y / 16)) ≤ s.rdN (K.mfSlot y) then 2
  else if (s.mfc y).settled then 4 else 3

/-- 62.00E: the settling length L (13 R361). -/
def State.mfSettleLen (s : State) (y : Nat) : Nat :=
  let r := s.rdN (K.cicDecim y)
  s.rdN (K.cicOrder y) * (r - 1) + 1 + (s.rdN (K.firTaps y) - 1) * r +
    (if s.rd (K.resampleInc y) = 0 then 0 else 7 * s.rdN (K.firDecim y) * r)

/-- 62.00F: the output rate in 0.001 S/s, rounded down (13 R355); 0 while the channel gives nothing. -/
def State.mfOutRate (s : State) (y : Nat) : Nat :=
  if s.mfStateNow y < 2 || s.mfPeriod (y / 16) = 0 then 0
  else
    let den := s.mfPeriod (y / 16) * s.rdN (K.cicDecim y) * s.rdN (K.firDecim y)
    if s.rd (K.resampleInc y) = 0 then 1000000000 / den
    else 1000000000 * s.rdN (K.resampleInc y) / (den * 4294967296)

/-- 62.010 (13 R357, R359). -/
def State.mfSheetState (s : State) (y : Nat) : Nat :=
  let c := s.mfc y
  b2n c.queuedTaps.isSome * 128 + b2n c.loading * 64 + b2n c.fade.isSome * 32 + c.active

/-- 62.012: b/M x 65,535; where that is no whole number its rounding is open (13 R357). -/
def State.mfFadePos (s : State) (y : Nat) : Int :=
  match (s.mfc y).fade with
  | some (b, m) => openDiv (b * 65535) m
  | none => 0

/-! ### Sheets (13 R357 to R359) -/

/-- The 64 staging taps of a channel. -/
def State.stageTaps (s : State) (y : Nat) : List Int := (List.range 64).map (fun t => s.rd (K.stageTap (64 * y + t)))

/-- The key of a tap of a sheet. -/
def sheetTap (sheet i : Nat) : Key := if sheet = 0 then K.sheet0Tap i else K.sheet1Tap i

/-- The taps of a sheet. -/
def State.sheetTaps (s : State) (y sheet : Nat) : List Int := (List.range 64).map (fun t => s.rd (sheetTap sheet (64 * y + t)))

/-- Taps are written into a sheet. -/
def State.putSheet (s : State) (y sheet : Nat) (taps : List Int) : State :=
  (List.range 64).foldl (fun s t => s.wr (sheetTap sheet (64 * y + t)) (nth taps t 0)) s

/-- A swap begins (13 R357 step 1): the taps go into the inactive sheet, which reads LOADING until the copy completes; `released` says
that the queue gave the swap. -/
def State.mfLoad (s : State) (y : Nat) (taps : List Int) (released : Bool) : State :=
  (s.putSheet y (1 - (s.mfc y).active) taps).modMf y (fun c => { c with loading := true, loaded := false, released := released })

/-- Taps go into the inactive sheet, which is active at once, with no fade (13 R358, R360). -/
def State.mfActivate (s : State) (y : Nat) (taps : List Int) : State :=
  (s.putSheet y (1 - (s.mfc y).active) taps).modMf y (fun c => { c with
    active := 1 - c.active, loading := false, loaded := false, fade := none })

/-- A request for a swap (13 R357 to R359). -/
def State.mfSwap (s : State) (y : Nat) : State :=
  let c := s.mfc y
  let taps := s.stageTaps y
  if s.mfStateNow y ≤ 2 then (s.mfActivate y taps).modMf y (fun c => { c with queuedTaps := none })
  else if c.fade.isSome || (c.loading && c.released) then
    let again := c.queuedTaps.isSome
    let s := s.modMf y (fun c => { c with queuedTaps := some taps })
    if again then (s.bump (K.swapReplacedCount y)).raise Ev.mfSwapReplaced noKey
    else (s.bump (K.swapQueuedCount y)).raise Ev.mfSwapQueued noKey
  else s.mfLoad y taps false

/-- MF_SHEET_SWAP: 62.011. -/
def execMfSheetSwap (src y : Nat) (s : State) : Out :=
  .next (s.request src (K.sheetSwap y) fun s => (s.mfSwap y, .ok))

/-- MF_SWAP_LOADED: the copy into the inactive sheet completes, and the fade starts at the next chain output. -/
def execMfSwapLoaded (y : Nat) (s : State) : Out :=
  .next (when (y < 32 && (s.mfc y).loading) s fun s => s.modMf y (fun c => { c with loading := false, loaded := true }))

/-- The fade ends with the incoming sheet active (13 R357 step 4). -/
def State.mfFadeEnd (s : State) (y : Nat) : State :=
  (s.modMf y (fun c => { c with fade := none, active := 1 - c.active })).raise Ev.mfFadeDone noKey

/-! ### Synchronising reset (13 R360) -/

/-- The channel's state is cleared; a running fade ends; a queued swap becomes active at once. -/
def State.mfReset (s : State) (y : Nat) : State :=
  let s := if (s.mfc y).fade.isSome then s.mfFadeEnd y else s
  let s := match (s.mfc y).queuedTaps with
    | some taps => (s.mfActivate y taps).modMf y (fun c => { c with queuedTaps := none })
    | none => s
  s.modMf y (fun c => { c with
    integ := [], comb := [], cicCount := 0, delay := [], firCount := 0, phaseAcc := 0, firHist := [], box := []
    inputs := 0, settled := false, syncFrom := none })

/-- A channel resets at its next pass. -/
def State.mfSyncDue (s : State) (y : Nat) : State := s.modMf y (fun c => { c with syncDue := true })

/-- Every enabled channel of an engine resets at the next pass. -/
def State.mfSyncAll (s : State) (h : Nat) : State :=
  (s.mfOn h).foldl State.mfSyncDue s

/-- MF_SYNC: 62.00C. -/
def execMfSync (src : Nat) (v : Int) (s : State) : Out :=
  .next (s.request src K.mfSync fun s =>
    ((List.range 32).foldl (fun s y => if bitOf (clampKey K.mfSync v).toNat y then s.mfSyncDue y else s) s, .ok))

/-- What a write that an engine watches does, given the state before it (13 R349, R356, R360): an engine that starts
running, the enable of a channel, and changes of 62.001 to 62.008, 60.011 and 60.014. -/
def State.mfWatch (s old : State) (k : Key) : State :=
  let changed := s.rd k ≠ old.rd k
  if k.area = 0x60 then
    if !old.mfRuns k.idx && s.mfRuns k.idx then s.mfSyncAll k.idx
    else if changed && ((k.entry = 0x011 && s.rd (K.regTrigger k.idx) = 2) ||
        (k.entry = 0x014 && 3 ≤ s.rd (K.regTrigger k.idx))) then s.mfSyncAll k.idx
    else s
  else if k.area = 0x62 && changed && k.entry ≤ 8 && (k.entry ≠ 0 || s.rd k = 1) then s.mfSyncDue k.idx
  else s

/-- HK_ENABLE_WRITE: 60.000 (12 R332, 13 R349). -/
def execHkEnableWrite (src h : Nat) (v : Int) (s : State) : Out :=
  .next (s.request src (K.hkEnable h) fun s =>
    ((((rwEffect src (K.hkEnable h) v s).1).hkEnableEffect h).mfWatch s (K.hkEnable h), .ok))

/-! ### Stages (13 R352 to R355) -/

/-- The input of a sample v of a pass that started at a tick (13 R352). -/
def State.mfInput (s : State) (y v start : Nat) : Int :=
  let k := s.rdN (K.syncSrc y)
  if k = 0 then 256 * v
  else
    let lag := s.hk.tick - (start + s.rdN (K.mfSlot y)) + s.rdN (K.syncDelay y)
    256 * v * nth (s.aout (k - 1)).waves lag 0 / 32768

/-- Running sums through N integrators: the new integrators and the last one's value. -/
def integrate : List Int → Int → List Int × Int
  | [], x => ([], x)
  | a :: t, x =>
    let r := integrate t (a + x)
    ((a + x) :: r.1, r.2)

/-- Differences through N combs. -/
def combs : List Int → Int → List Int × Int
  | [], x => ([], x)
  | a :: t, x =>
    let r := combs t (x - a)
    (x :: r.1, r.2)

/-- One input into the CIC stage (13 R353): its output every R inputs. -/
def MfChan.cic (c : MfChan) (n r : Nat) (x : Int) : MfChan × Option Int :=
  let pad := fun (l : List Int) => if l = [] then List.replicate n (0 : Int) else l
  let i := integrate (pad c.integ) x
  if c.cicCount + 1 < r then ({ c with integ := i.1, cicCount := c.cicCount + 1 }, none)
  else
    let d := combs (pad c.comb) i.2
    ({ c with integ := i.1, comb := d.1, cicCount := 0 }, some (d.2 / (r : Int) ^ n))

/-- The sum of the FIR over the delay line, before saturation. -/
def firSum (taps delay : List Int) (t : Nat) : Int := (((taps.take t).zip delay).map (fun p => p.1 * p.2)).sum / 32768

/-- Saturation to S32. -/
def sat32 (v : Int) : Int := clampInt v (-2147483648) 2147483647

/-- The eight taps of a phase of the resampler's filter (13 R355). -/
def polyTaps (p : Nat) : List Int :=
  let h := (List.range 7).map (Config.polyphase p)
  h ++ [32768 - h.sum]

/-- The resampler takes the new FIR output's place (13 R355): the accumulator, and whether a chain output is due. -/
def resampleStep (acc inc : Nat) : Nat × Bool :=
  if inc = 0 then (0, true) else ((acc + inc) % 4294967296, 4294967296 ≤ acc + inc)

/-- The fade at a FIR output that gives a chain output (13 R357 steps 2 and 3). -/
def MfChan.fadeStep (c : MfChan) (due : Bool) (m : Nat) : MfChan :=
  if !due then c
  else match c.fade with
    | some (b, n) => { c with fade := some (b + 1, n) }
    | none => if c.loaded then { c with loaded := false, fade := some (1, m) } else c

/-- The FIR output with a running fade's weight, and whether it saturated (13 R354, R357). -/
def State.firOut (s : State) (y : Nat) : Int × Bool :=
  let c := s.mfc y
  let t := s.rdN (K.firTaps y)
  let old := firSum (s.sheetTaps y c.active) c.delay t
  match c.fade with
  | none => (sat32 old, sat32 old ≠ old)
  | some (b, m) =>
    let new := firSum (s.sheetTaps y (1 - c.active)) c.delay t
    (((m - b : Int) * sat32 old + b * sat32 new) / m, sat32 old ≠ old || sat32 new ≠ new)

/-- The boxcar's mean in units of 1/16 (13 R362). -/
def State.mfCoarse (s : State) (y : Nat) : Int :=
  let k := 2 ^ s.rdN (K.boxcarLog y)
  ((s.mfc y).box.take k).sum / (k : Int) / 16

/-! ### Output (13 R361, R363) -/

/-- A record enters the channel's queue of 64 (13 R363). -/
def State.mfRecord (s : State) (y word : Nat) : State :=
  let s := (((s.wr (K.outLatest y) (word : Nat)).wr (K.outTime y) ((s.mfc y).lastAt : Nat))).wrap16 (K.outCount y)
  let c := s.mfc y
  if c.records.length < 64 then s.modMf y (fun c => { c with records := c.records ++ [word] })
  else
    let s := (s.modMf y (fun c => { c with records := c.records.drop 1 ++ [word] })).bump (K.outOverflow y)
    let quiet : Bool := match c.lastOverflow with
      | some t => decide (s.datum < t + 1000000)
      | none => false
    if quiet then s else (s.modMf y (fun c => { c with lastOverflow := some s.datum })).raise Ev.mfFifoOverflow noKey

/-- A chain output is delivered (13 R361 to R363). -/
def State.mfDeliver (s : State) (y : Nat) (fine : Int) : State :=
  let c := s.mfc y
  let settledNow := s.mfSettleLen y ≤ c.inputs
  let s := if settledNow && !c.settled then
      (s.modMf y (fun c => { c with settled := true })).raise Ev.mfSettled noKey else s
  let fast := s.rd (K.settleMode y) = 1
  let full := 2 ^ s.rdN (K.boxcarLog y) ≤ c.inputs
  let coarse := if fast then s.mfCoarse y else 0
  let sub := fast && !settledNow && full
  let f := if fast && !settledNow then (if full then 16 * coarse else 0) else fine
  let valid := !(fast && !settledNow && !full)
  let word := ofSigned 32 f * 4294967296 + ofSigned 24 coarse * 256 + b2n (!fast && !settledNow) * 128 + b2n sub * 64 +
    b2n c.fade.isSome * 32 + b2n c.gap * 16 + b2n c.clipped * 8 + b2n c.delayed * 4 + b2n (fast && full) * 2 + b2n valid
  let s := (s.modMf y (fun c => { c with gap := false, clipped := false, delayed := false })).mfRecord y word
  match c.fade with
  | some (b, m) =>
    if b < m then s
    else
      let s := s.mfFadeEnd y
      match (s.mfc y).queuedTaps with
      | some taps => (s.modMf y (fun c => { c with queuedTaps := none })).mfLoad y taps true
      | none => s
  | none => s

/-- A CIC output into the FIR stage and what follows it. -/
def State.mfFir (s : State) (y : Nat) (u : Int) : State :=
  let s := s.modMf y (fun c => { c with delay := (u :: c.delay).take 64, firCount := c.firCount + 1 })
  if (s.mfc y).firCount < s.rdN (K.firDecim y) then s
  else
    let inc := s.rdN (K.resampleInc y)
    let r := resampleStep (s.mfc y).phaseAcc inc
    let s := s.modMf y (fun c => { (c.fadeStep r.2 (s.rdN (K.fadeLen y))) with firCount := 0, phaseAcc := r.1 })
    let o := s.firOut y
    let s := if o.2 then (s.modMf y (fun c => { c with clipped := true })).bump (K.clipCount y) else s
    let s := s.modMf y (fun c => { c with firHist := (o.1 :: c.firHist).take 8 })
    if !r.2 then s
    else if inc = 0 then s.mfDeliver y o.1
    else s.mfDeliver y ((((polyTaps (64 * r.1 / inc)).zip (s.mfc y).firHist).map (fun p => p.1 * p.2)).sum / 32768)

/-- One input x of nominal instant t. -/
def State.mfEnter (s : State) (y : Nat) (x : Int) (t : Nat) : State :=
  let s := s.modMf y (fun c => { c with box := (x :: c.box).take 256, inputs := c.inputs + 1, lastX := x, lastAt := t })
  let r := (s.mfc y).cic (s.rdN (K.cicOrder y)) (s.rdN (K.cicDecim y)) x
  let s := s.modMf y (fun _ => r.1)
  match r.2 with
  | some u => s.mfFir y u
  | none => s

/-- A channel takes the result of its slot, of a pass that started at a tick and datum (13 R350, R351); a synchronising reset that
takes effect with this pass comes first (R360). -/
def State.mfProcess (s : State) (y : Nat) (f : Nat × Nat × Nat) : State :=
  let s := if (s.mfc y).syncFrom.any (fun t => t ≤ f.1) then s.mfReset y else s
  let s := s.modMf y (fun c => { c with fresh := none, delayed := c.delayed || bitOf f.2.2 3 })
  s.mfEnter y (s.mfInput y (f.2.2 / 65536) f.1) (f.2.1 + 1000 * s.rdN (K.mfSlot y))

/-- A channel fills a missing pass with its previous input (13 R351). -/
def State.mfFill (s : State) (y : Nat) : State :=
  let c := s.mfc y
  let s := ((s.modMf y (fun c => { c with gap := true, missed := c.missed - 1 })).bump (K.gapCount y)).raise Ev.mfGap noKey
  s.mfEnter y c.lastX (c.lastAt + 1000 * s.mfPeriod (y / 16))

/-- MF_CHANNEL_PROCESS: channel y takes its slot's result of this pass, or fills a missing pass. -/
def execMfChannelProcess (y : Nat) (gap : Bool) (s : State) : Out :=
  .next (when (y < 32 && 3 ≤ s.mfStateNow y) s fun s =>
    if gap then when (0 < (s.mfc y).missed) s fun s => s.mfFill y
    else match (s.mfc y).fresh with
      | some f => s.mfProcess y f
      | none => s)

end Sys2Proof.Machine
end

