-- ==== Sys2Proof/Machine/Traverse.lean ====
section
/-! DEFINITION. The Traverse (spec 10 R280 to R295): ports and their training, frames, credits, links, routes,
duplicate control, in-band links, and what a station originates. -/

namespace Sys2Proof.Machine

/-! ### Frames (10 R285) -/

/-- Bits 127:16 of a frame's header, as 14 bytes. -/
def TvFrame.head (f : TvFrame) : List Byte :=
  beBytes 14 (f.type % 16 * 2 ^ 108 + b2n f.bcast * 2 ^ 107 + b2n f.flood * 2 ^ 106 + f.cls % 4 * 2 ^ 104 + f.dst % 4096 * 2 ^ 92 +
    f.src % 4096 * 2 ^ 80 + f.hops % 256 * 2 ^ 72 + f.epoch % 256 * 2 ^ 64 + f.seq % 65536 * 2 ^ 48 +
    f.payload.length % 65536 * 2 ^ 32 + f.aux % 65536 * 2 ^ 16)

/-- The header, with its HCRC. -/
def TvFrame.header (f : TvFrame) : List Byte := f.head ++ beBytes 2 (crc16 f.head)

/-- The bytes of a frame: header, payload and CRC-32C. -/
def TvFrame.bytes (f : TvFrame) : List Byte :=
  let b := f.header ++ f.payload
  b ++ beBytes 4 (crc32c b)

/-- Time-class types are of CLASS 0 whatever their header says (10 R286). -/
def tvClass (type cls : Nat) : Nat := if type ≤ 2 then 0 else cls

/-- A header whose HCRC checks, with the payload bytes that follow it. -/
def parseFrame (bs : List Byte) : Option TvFrame :=
  let h := bs.take 14
  if bs.length < 16 || beNat ((bs.drop 14).take 2) ≠ crc16 h then none
  else
    let v := beNat h
    let type := bitsOf v 111 108
    some ⟨type, bitOf v 107, bitOf v 106, tvClass type (bitsOf v 105 104), bitsOf v 103 92, bitsOf v 91 80, bitsOf v 79 72,
      bitsOf v 71 64, bitsOf v 63 48, bitsOf v 31 16, (bs.drop 16).take (bitsOf v 47 32)⟩

/-- The frame has the length its header gives, and its CRC-32C checks. -/
def frameGood (bs : List Byte) : Bool :=
  let len := beNat ((bs.drop 8).take 2)
  len ≤ 288 && bs.length = 20 + len && beNat (bs.drop (16 + len)) = crc32c (bs.take (16 + len))

/-! ### Links -/

/-- A link. -/
def State.link (s : State) (l : Nat) : TvLink := nth s.tv.links l TvLink.reset

/-- A link changes. -/
def State.modLink (s : State) (l : Nat) (f : TvLink → TvLink) : State :=
  { s with tv := { s.tv with links := s.tv.links.modify l f } }

/-- The carrier is delivering (07 R208). -/
def State.delivering (s : State) (c : Carrier) : Bool :=
  s.present c && s.rd (K.carState c) = carService && s.rd (K.acqPhase c) = phLocked && s.rd (K.decAlign c) = 2

/-- The carrier of an in-band link. -/
def ibCarrier (l : Nat) : Carrier := if l = 3 then .a else .b

/-- A link is up: a port in UP (10 R283), or an in-band link enabled and delivering (R293). -/
def State.linkUp (s : State) (l : Nat) : Bool :=
  if l < 3 then s.rd (K.portState l) = 4
  else l < 5 && bitOf (s.rdN K.ibEnable) (l - 3) && s.delivering (ibCarrier l)

/-- A receive buffer is empty when no copy of its frame waits or is being sent; its credit is returned (10 R287). -/
def State.returnCredit (s : State) (b : Option (Nat × Nat × Nat)) : State :=
  match b with
  | none => s
  | some buf =>
    if s.tv.links.any (fun x => x.queue.any (fun o => o.buf = some buf) || x.sending.any (fun o => o.buf = some buf)) then s
    else s.modLink buf.1 (fun x => { x with returned := x.returned.modify buf.2.1 (fun n => (n + 1) % 64) })

/-- The present instant of the datum in ns, with its fraction. -/
def State.now (s : State) : Rat := s.datum + s.tv.frac

/-- A timestamp of 10 bytes: 8 of ns, 2 of fraction, to 62.5 ps (10 R296). -/
def stampBytes (t : Rat) : List Byte :=
  let q := (t * 16).floor.toNat
  beBytes 8 (q / 16 % 2 ^ 64) ++ beBytes 2 (q % 16 * 4096)

/-- The time a timestamp spells, in ns. -/
def stampTime (bs : List Byte) : Rat := beNat (bs.take 8) + (beNat ((bs.drop 8).take 2) : Rat) / 65536

/-- A time frame takes its transmit timestamp as it leaves (10 R297). -/
def TvFrame.stamped (f : TvFrame) (t : Rat) : TvFrame :=
  if f.type = 1 then { f with payload := stampBytes t }
  else if f.type = 2 then { f with payload := f.payload.take 20 ++ stampBytes t }
  else f

/-- The first frame of the highest class the link may start now, and the queue without it (10 R287, R290). -/
def pickFrame (port : Bool) (credits : List Nat) (q : List TvOut) : Option (TvOut × List TvOut) :=
  ([0, 1, 2, 3].filterMap (fun c =>
    if port && nth credits c 0 = 0 then none
    else match q.findIdx? (fun o => o.frame.cls = c) with
      | some i => (q[i]?).map (fun o => (o, q.eraseIdx i))
      | none => none)).head?

/-- The byte stream of a frame on an in-band link (10 R293). -/
def ibBytes (f : TvFrame) : List Byte := [0x7E, 0xA5] ++ f.bytes

/-- An idle link with credit starts its next frame; an in-band link also sends a TIME or URGENT frame a second time while
50.014 is 1. The time is that of the frame's transmit timestamp. -/
def State.startLink (s : State) (l : Nat) (t : Rat) : State :=
  let x := s.link l
  if !s.linkUp l || x.sending.isSome then s
  else
    match pickFrame (l < 3) x.credits x.queue with
    | none => s
    | some (o, rest) =>
      let o := { o with frame := o.frame.stamped t }
      let s := s.modLink l (fun x => { x with
        queue := rest, sending := some o, repeatDue := 3 ≤ l && o.frame.cls ≤ 1 && s.on K.ibRepeat
        credits := if l < 3 then x.credits.modify o.frame.cls (· - 1) else x.credits })
      if l < 3 then s
      else s.modTx (ibCarrier l) (fun x => { x with ibcQueue := x.ibcQueue ++ ibBytes o.frame })

/-- The queue of an in-band link (10 R294): 16 places, four of them for TIME and URGENT; the answer says whether a frame was
dropped. -/
def ibInsert (q : List TvOut) (o : TvOut) : List TvOut × Bool :=
  let low := (q.filter (fun x => 2 ≤ x.frame.cls)).length
  let full := 16 ≤ q.length || (2 ≤ o.frame.cls && 12 ≤ low)
  if !full then (q ++ [o], false)
  else
    let below := q.filter (fun x => o.frame.cls < x.frame.cls)
    if below = [] then (q, true)
    else
      let worst := below.foldl (fun m x => max m x.frame.cls) 0
      match q.reverse.findIdx? (fun x => x.frame.cls = worst) with
      | some i => (q.eraseIdx (q.length - 1 - i) ++ [o], true)
      | none => (q, true)

/-- A frame is queued on a link and starts at once where it can. -/
def State.enqueue (s : State) (l : Nat) (o : TvOut) (t : Rat) : State :=
  if l < 3 then (s.modLink l (fun x => { x with queue := x.queue ++ [o] })).startLink l t
  else
    let r := ibInsert (s.link l).queue o
    let lost := (s.link l).queue.filterMap (fun y => if r.1.contains y then none else y.buf) ++
      (if r.1.contains o then [] else o.buf.toList)
    let s := s.modLink l (fun x => { x with queue := r.1 })
    let s := if r.2 then s.bump (K.ibDrop (l - 3)) else s
    (lost.foldl (fun s b => s.returnCredit (some b)) s).startLink l t

/-- A port sends an idle set (10 R288): its credit byte names the next class and the count of credits of it returned. -/
def State.sendIdle (s : State) (l : Nat) : State :=
  s.modLink l (fun x => { x with idleByte := x.named % 4 * 64 + nth x.returned (x.named % 4) 0 % 64, named := (x.named + 1) % 4 })

/-- TV_FRAME_SENT: the frame in progress on a link finishes, and on a port an idle set follows it (10 R281); the link is idle and its
next frame starts (10 R290). -/
def execTvFrameSent (l : Nat) (s : State) : Out :=
  .next (when (l < 5) s fun s =>
    match (s.link l).sending with
    | none => s
    | some o =>
      if (s.link l).repeatDue then
        ((s.modLink l (fun x => { x with repeatDue := false })).modTx (ibCarrier l) (fun x => { x with
          ibcQueue := x.ibcQueue ++ ibBytes o.frame }))
      else
        let s := (s.modLink l (fun x => { x with sending := none })).wrapN (K.framesTx l) 1
        let s := if l < 3 then s.sendIdle l else s
        (s.returnCredit o.buf).startLink l s.now)

/-! ### Ports (10 R282, R283) -/

/-- The quality of the datum falls to HOLDOVER (10 R298). -/
def State.datumHold (s : State) : State :=
  if s.rd K.datumQuality ≤ 1 then (s.wr K.datumQuality 2).raise Ev.datumHoldover noKey else s

/-- A link leaves UP: its neighbour is forgotten, its frames are lost, and a datum that takes its time from it holds
(10 R289, R292, R298). -/
def State.linkLost (s : State) (l : Nat) : State :=
  let bufs := (s.link l).queue.filterMap TvOut.buf ++ ((s.link l).sending.toList.filterMap TvOut.buf)
  let s := (s.modLink l (fun x => { x with queue := [], sending := none, repeatDue := false, lastRx := none })).wr (K.neighbour l) 0
  let s := bufs.foldl (fun s b => s.returnCredit (some b)) s
  if s.rd K.timeSource = l + 1 then s.datumHold else s

/-- A port enters a state other than UP: what it held of a connection goes. -/
def State.portTo (s : State) (l : Nat) (st : Int) : State :=
  let was := s.rd (K.portState l)
  let s := s.wr (K.portState l) st
  let s := if was = 4 && st ≠ 4 then s.linkLost l else s
  s.modLink l (fun x => { x with good := 0, request := 0, response := 0, selfReady := false, peerReady := false })

/-- 50.000 has been written (10 R283). -/
def State.tvEnable (s : State) (l : Nat) : State :=
  let st := s.rd (K.portState l)
  -- a write during a test of the port acts when the test ends (16 R421)
  if s.underTest 4 l then s
  else if bitOf (s.rdN K.tvEnable) l then
    (if st = 0 then s.portTo l (if s.rd (K.portLoopback l) ≠ 0 then 5 else 1) else s)
  else if st = 0 then s else s.portTo l 0

/-- TV_ENABLE_WRITE: 50.000. -/
def execTvEnableWrite (src : Nat) (v : Int) (s : State) : Out :=
  .next (s.request src K.tvEnable fun s =>
    ([0, 1, 2].foldl (fun s l => s.tvEnable l) (rwEffect src K.tvEnable v s).1, .ok))

/-- PORT_LOOPBACK_WRITE: 50.003 (10 R283, R284). -/
def execPortLoopbackWrite (src l : Nat) (v : Int) (s : State) : Out :=
  .next (s.request src (K.portLoopback l) fun s =>
    let s := (rwEffect src (K.portLoopback l) v s).1
    let st := s.rd (K.portState l)
    if st = 0 then (s, .ok)
    else if s.rd (K.portLoopback l) ≠ 0 then (if st = 5 then s else s.portTo l 5, .ok)
    else if st = 5 then (s.portTo l 1, .ok) else (s, .ok))

/-- A tap moved by a request: its new value and the RESULT (1 UPDATED, 2 AT_MIN, 3 AT_MAX). -/
def moveTap (v top step : Nat) : Nat × Nat :=
  if step = 1 then (if v < top then (v + 1, 1) else (v, 3)) else if 0 < v then (v - 1, 1) else (v, 2)

/-- The transmitter answers the partner's request (10 R282): one response to each request, NOT_UPDATED to HOLD. -/
def TvLink.answer (x : TvLink) (req : Nat) : TvLink :=
  let tap := req / 64
  let step := req / 16 % 4
  if step = 0 || step = 3 || tap = 0 || tap = 3 then { x with response := 0 }
  else if x.response ≠ 0 then x
  else if tap = 1 then
    let r := moveTap x.taps.1 7 step
    { x with taps := (r.1, x.taps.2), response := r.2 }
  else
    let r := moveTap x.taps.2 15 step
    { x with taps := (x.taps.1, r.1), response := r.2 }

/-- The next direction or tap of a training that has ended a run (10 R283). -/
def TvTrain.turn (t : TvTrain) : TvTrain :=
  if !t.tried then { t with dir := 3 - t.dir, tried := true, wait := 0, undo := false }
  else { t with tap := t.tap - 1, dir := 1, tried := false, wait := 0, undo := false }

/-- One training set at the receiver (10 R282, R283), with the smaller eye height in mV: the training and the request it
sends next. -/
def TvTrain.advance (t : TvTrain) (resp eye : Nat) : TvTrain × Nat :=
  let ask := fun (t : TvTrain) (d : Nat) => t.tap * 64 + d * 16
  if t.tap = 0 then (t, 0)
  else if t.wait = 0 then ({ t with base := eye, wait := 1 }, ask t t.dir)
  else if t.wait = 1 then
    if resp = 0 then (t, ask t (if t.undo then 3 - t.dir else t.dir)) else ({ t with wait := 2, result := resp }, 0)
  else if resp ≠ 0 then (t, 0)
  else if t.undo || t.result ≠ 1 then (t.turn, 0)
  else if t.base + 8 ≤ eye then ({ t with base := eye, wait := 1 }, ask t t.dir)
  else ({ t with wait := 1, undo := true }, ask t (3 - t.dir))

/-- The partner's taps after an answered request (50.005). -/
def partnerTaps (old req : Nat) : Nat :=
  let up := req / 16 % 4 = 1
  if req / 64 = 1 then (if up then old + 16 else old - 16) else (if up then old + 1 else old - 1)

/-- A port enters TRAINING (10 R283): the partner starts at pre-cursor 0 and post-cursor 4. -/
def State.portTrain (s : State) (l : Nat) : State :=
  ((s.portTo l 2).modLink l (fun x => { x with train := TvTrain.reset, taps := (0, 4) })).wr (K.portTaps l) 4

/-- TV_TRAINING_SET_RX: a good training set on port l: the request and response bytes (symbols 2 and 3) and the eye heights in
mV that this receiver measures on the two lanes. -/
def execTvTrainingSetRx (l req resp eye0 eye1 : Nat) (s : State) : Out :=
  .next (when (l < 3) s fun s =>
    let st := s.rd (K.portState l)
    let eye := min (min eye0 eye1) 1020
    if st = 1 then
      let s := s.modLink l (fun x => { x with good := x.good + 1 })
      if (s.link l).good < 16 then s else s.portTrain l
    else if st = 4 then ((s.bump (K.portDownCount l)).raise Ev.tvPortDown noKey).portTrain l
    else if st = 2 then
      let s := (s.wr (K.portEye l) (eye : Nat)).modLink l (fun x => { (x.answer req) with peerReady := bitOf req 3, eyes := (eye0, eye1) })
      let x := s.link l
      let r := x.train.advance (resp / 32) eye
      let s := if x.train.wait = 1 && resp / 32 = 1 then
          s.wr (K.portTaps l) (partnerTaps (s.rdN (K.portTaps l)) x.request : Nat) else s
      let s := s.modLink l (fun x => { x with
        train := r.1, request := r.2 + b2n (r.1.tap = 0) * 8, selfReady := r.1.tap = 0 })
      if (s.link l).selfReady && (s.link l).peerReady then s.wr (K.portState l) 3 else s
    else s)

/-- The training set that port l sends on a lane (10 R282): K28.5, K28.1, request, response, eye height in 4 mV units, port and lane,
station ID. -/
def State.trainingSet (s : State) (l lane : Nat) : List (Bool × Nat) :=
  let x := s.link l
  let eye := if lane = 0 then x.eyes.1 else x.eyes.2
  let id := s.rdN K.stationId
  [(true, 0xBC), (true, 0x3C), (false, x.request % 256), (false, x.response % 8 * 32), (false, min (eye / 4) 255), (false, l * 64 + lane * 32),
    (false, id / 256 % 16), (false, id % 256)]

/-- A nanosecond, one symbol, of the ports (log entry 5): an UP port with no frame in progress sends an idle set every two symbols, and
one in DOWN or TRAINING a training set every eight (10 R281, R282). -/
def State.portTick (s : State) : State :=
  [0, 1, 2].foldl (fun s l =>
    let st := s.rd (K.portState l)
    if st = 4 then (if s.clock % 2 = 0 && (s.link l).sending.isNone then s.sendIdle l else s)
    else if (st = 1 || st = 2) && s.clock % 8 = 0 then
      s.modLink l (fun x => { x with trainOut := (s.trainingSet l 0, s.trainingSet l 1) })
    else s) s

/-- TV_TRAINING_TIMEOUT: 10 ms in TRAINING without both READY. -/
def execTvTrainingTimeout (l : Nat) (s : State) : Out :=
  .next (when (l < 3 && s.rd (K.portState l) = 2) s fun s => (s.bump (K.portDownCount l)).portTo l 1)

/-- TV_PORT_UP: the lanes of a port in DESKEW align on 4 idle sets, with the skew found; initial credits (10 R287). -/
def execTvPortUp (l : Nat) (skew : Int) (s : State) : Out :=
  .next (when (l < 3 && s.rd (K.portState l) = 3) s fun s =>
    (((s.wr (K.portState l) 4).wr (K.laneSkew50 l) (clampInt skew (-8) 8)).modLink l (fun x => { x with
      credits := [4, 8, 36, 16], seen := [0, 0, 0, 0], returned := [0, 0, 0, 0], named := 0, nextBuf := 0 })).raise Ev.tvPortUp noKey)

/-- TV_PORT_DOWN: the clock is absent for 100 ns, there are more than 16 code violations in 1 us, or no idle set for 10 us. -/
def execTvPortDown (l : Nat) (s : State) : Out :=
  .next (when (l < 3 && (s.rd (K.portState l) = 3 || s.rd (K.portState l) = 4)) s fun s =>
    ((s.bump (K.portDownCount l)).raise Ev.tvPortDown noKey).portTo l 1)

/-- TV_IDLE_SET_RX: the credit byte of an idle set (10 R288). -/
def execTvIdleSetRx (l : Nat) (b : Byte) (s : State) : Out :=
  .next (when (l < 3 && s.linkUp l) s fun s =>
    let c := b.toNat / 64
    let n := b.toNat % 64
    let s := s.modLink l (fun x => { x with
      credits := x.credits.modify c (· + (n + 64 - nth x.seen c 0) % 64), seen := x.seen.set c n })
    s.startLink l s.now)

/-! ### Routes (10 R291) -/

/-- Duplicate control: whether a flooded frame is accepted. -/
def State.dedupOk (s : State) (f : TvFrame) : Bool :=
  match (s.tv.dedup.find? (fun e => e.1 = f.src)) with
  | none => true
  | some (_, ep, sq) =>
    let ahead := (f.seq + 65536 - sq) % 65536
    ep ≠ f.epoch || (1 ≤ ahead && ahead ≤ 32767)

/-- The entry of a source takes a flooded frame. -/
def State.dedupPut (s : State) (f : TvFrame) : State :=
  { s with tv := { s.tv with dedup := aput s.tv.dedup f.src (f.epoch, f.seq) } }

/-- DEDUP_ENTRY_EXPIRE: an entry empties 50.012 ms after its last update. -/
def execDedupEntryExpire (src : Nat) (s : State) : Out := .next { s with tv := { s.tv with dedup := adel s.tv.dedup src } }

/-- A frame is delivered to this station. -/
def State.tvDeliver (s : State) (f : TvFrame) (l : Nat) (t : Rat) : State :=
  { s with tv := { s.tv with inbox := s.tv.inbox ++ [⟨f, l, t⟩] } }

/-- The link a route names. -/
def routeLink (n : Nat) : Option Nat := if n ≤ 4 then some n else none

/-- The link a unicast frame takes: the primary if it is up, else the alternate if it is up. -/
def State.routeOf (s : State) (dst : Nat) : Option Nat :=
  let r := s.rdN (K.route dst)
  match (routeLink (r / 16)).filter s.linkUp with
  | some l => some l
  | none => (routeLink (r % 16)).filter s.linkUp

/-- The links a flooded frame is sent on. -/
def State.floodLinks (s : State) (from_ : Nat) : List Nat := (List.range 5).filter (fun l => l ≠ from_ && s.linkUp l)

/-- A frame is sent on links, as copies of one receive buffer. -/
def State.sendOn (s : State) (ls : List Nat) (o : TvOut) : State := ls.foldl (fun s l => s.enqueue l o s.now) s

/-- A flooded frame (10 R291): accepted once, sent on every up link but the one it came on, and delivered here where it is for
this station. Link 5 is this station. -/
def State.tvFlood (s : State) (f : TvFrame) (from_ : Nat) (o : TvOut) (good : Bool) (t : Rat) : State :=
  if !s.dedupOk f then s.bump K.dupDiscard
  else
    let s := s.dedupPut f
    let s := if f.hops = 0 && from_ < 5 then (if s.floodLinks from_ = [] then s else s.bump K.hopsExpired)
      else s.sendOn (s.floodLinks from_) { o with frame := { f with hops := if from_ < 5 then f.hops - 1 else f.hops } }
    if good && (f.bcast || f.dst = s.rdN K.stationId) then s.tvDeliver f from_ t else s

/-- A frame that is not one-link is delivered, flooded or forwarded (10 R291). -/
def State.tvRoute (s : State) (f : TvFrame) (from_ : Nat) (o : TvOut) (good : Bool) (t : Rat) : State :=
  if f.bcast || f.flood then s.tvFlood f from_ o good t
  else if f.dst = s.rdN K.stationId then (if good then s.tvDeliver f from_ t else s)
  else
    match s.routeOf f.dst with
    | some l =>
      if f.hops = 0 && from_ < 5 then s.bump K.hopsExpired
      else s.enqueue l { o with frame := { f with hops := if from_ < 5 then f.hops - 1 else f.hops } } t
    | none => s.tvFlood { f with flood := true } from_ o good t

/-- A frame with a good header arrives on a link (10 R285, R286, R290, R291). A bad one is forwarded only where its copy has
already begun, and that copy ends with K30.7. -/
def State.tvArrive (s : State) (f : TvFrame) (l : Nat) (good : Bool) (buf : Option (Nat × Nat × Nat)) (t : Rat) : State :=
  if 0xB ≤ f.type then s.bump (K.hdrDiscard l)
  else if f.type ≤ 2 then (if good then s.tvDeliver f l t else s)
  else if good then s.tvRoute f l ⟨f, buf, false⟩ true t
  else
    -- cut-through: a copy begins only on an idle output with credit
    let s' := s.tvRoute f l ⟨f, buf, true⟩ false t
    let links := s'.tv.links.map (fun x => { x with queue := x.queue.filter (fun o => !(o.killed && o.buf = buf)) })
    { s' with tv := { s'.tv with links := links } }

/-- TV_FRAME_RX: a frame arrives on port l, with its bytes and whether it ended with K30.7. -/
def execTvFrameRx (l : Nat) (bytes : List Byte) (killed : Bool) (s : State) : Out :=
  .next (when (l < 3 && s.linkUp l) s fun s =>
    let s := s.wrapN (K.framesRx l) 1
    match parseFrame bytes with
    | none => s.bump (K.hdrDiscard l)
    | some f =>
      let crcOk := frameGood bytes
      let s := if crcOk || killed then s else s.bump (K.crcErr l)
      let buf := (l, f.cls, (s.link l).nextBuf)
      let s := s.modLink l (fun x => { x with nextBuf := x.nextBuf + 1 })
      (s.tvArrive f l (crcOk && !killed) (some buf) s.now).returnCredit (some buf))

/-- The in-band stream from the next 0x7E 0xA5 that a header whose HCRC checks follows (10 R293); the first bytes of one that has not
wholly arrived stay. -/
def ibHunt : List (Byte × Bool) → List (Byte × Bool)
  | [] => []
  | x :: t =>
    let bs := ((x :: t).take 18).map Prod.fst
    if (bs.take 2 = [0x7E, 0xA5].take bs.length) && (bs.length < 18 || (parseFrame (bs.drop 2)).isSome) then x :: t else ibHunt t

/-- What the receiver of an in-band stream that stands at a marker makes of it: none while bytes are missing, else the frame's bytes
with their marks, and the stream after it. A frame that is discarded is followed by a hunt from behind its marker (log entry 122). -/
def ibTake (q : List (Byte × Bool)) : Option (List (Byte × Bool) × List (Byte × Bool)) :=
  let len := beNat (((q.drop 10).take 2).map Prod.fst)
  let body := (q.drop 2).take (20 + len)
  if q.length < 18 || (len ≤ 288 && body.length < 20 + len) then none
  else if body.all (fun e => !e.2) && frameGood (body.map Prod.fst) then some (body, q.drop (22 + len))
  else some (body, q.drop 2)

/-- IB_FRAME_RX: the receiver of carrier m's in-band stream (03 R112) takes the next frame, received at a time in ns referred to the ADC
pins (10 R293, R297). -/
def execIbFrameRx (m stamp : Nat) (s : State) : Out :=
  let l := 3 + m
  let car := ibCarrier l
  .next (when (m < 2 && s.linkUp l) s fun s =>
    let q := ibHunt (s.car car).rx.ibc
    match ibTake q with
    | none => s.modRx car (fun r => { r with ibc := q })
    | some (body, rest) =>
      let s := s.modRx car (fun r => { r with ibc := rest })
      let bytes := body.map Prod.fst
      match parseFrame bytes with
      | none => s
      | some f =>
        let s := s.wrapN (K.framesRx l) 1
        if body.any Prod.snd || !frameGood bytes then (s.modLink l (fun x => { x with lastRx := none })).bump (K.ibDiscard m)
        else
          let again := f.cls ≤ 1 && !f.bcast && !f.flood && (s.link l).lastRx = some f
          let s := s.modLink l (fun x => { x with lastRx := some f })
          if again then s else s.tvArrive f l true none stamp)

/-! ### Origination -/

/-- A frame this station originates (10 R285, R291): the next SEQ, its EPOCH and HOPS, the primary route or a flood. -/
def State.originate (s : State) (type : Nat) (bcast : Bool) (cls dst aux : Nat) (payload : List Byte) : State :=
  let f : TvFrame := ⟨type, bcast, false, cls, if bcast then 0 else dst, s.rdN K.stationId, s.rdN K.hopsInit, s.tv.epoch, s.tv.seq,
    aux, payload⟩
  let s := { s with tv := { s.tv with seq := (s.tv.seq + 1) % 65536 } }
  s.tvRoute f 5 ⟨f, none, false⟩ true s.now

/-- A one-link frame on link l (10 R285): SEQ 0 and HOPS 0. -/
def State.oneLink (s : State) (type l : Nat) (payload : List Byte) (t : Rat) : State :=
  let f : TvFrame := ⟨type, false, false, 0, 0, s.rdN K.stationId, 0, s.tv.epoch, 0, 0, payload⟩
  s.enqueue l ⟨f, none, false⟩ t

/-- The oldest delivered frame of a type is taken. -/
def State.takeIn (s : State) (type : Nat) : Option (TvIn × State) :=
  match s.tv.inbox.findIdx? (fun i => i.frame.type = type) with
  | some i => (s.tv.inbox[i]?).map (fun x => (x, { s with tv := { s.tv with inbox := s.tv.inbox.eraseIdx i } }))
  | none => none

/-- A service takes the oldest delivered frame of its type; with none waiting nothing changes. -/
def State.serve (s : State) (type : Nat) (f : TvIn → State → State) : State :=
  match s.takeIn type with
  | some (x, s') => f x s'
  | none => s

/-! ### HELLO (10 R289) -/

/-- Hops from this station to its time root, 0xFF when not known. -/
def State.rootHops (s : State) : Nat :=
  let src := s.rdN K.timeSource
  if src = 6 || src = 7 then 0
  else if src = 0 then 255
  else if bitOf (s.rdN (K.neighbour (src - 1))) 31 then min ((s.link (src - 1)).nbHops + 1) 255 else 255

/-- HELLO_SEND: every 1 ms, on every up link. -/
def execHelloSend (s : State) : Out :=
  .next (((List.range 5).filter s.linkUp).foldl (fun s l =>
    s.oneLink 0 l (beBytes 2 (s.rdN K.stationId) ++ beBytes 1 l ++ beBytes 1 (s.rdN K.datumQuality * 16 + s.rdN K.timeSource) ++
      beBytes 1 (s.rdN K.timePriority) ++ beBytes 1 s.rootHops ++ [0, 0]) s.now) s)

/-- HELLO_RX: the oldest delivered HELLO gives the neighbour of its link. -/
def execHelloRx (s : State) : Out :=
  .next (s.serve 0 fun x s =>
    let p := x.frame.payload
    let id := beNat (p.take 2) % 4096
    let at_ := fun i => (p.getD i 0).toNat
    let s := (s.wr (K.neighbour x.link) (2147483648 + at_ 2 % 8 * 65536 + id : Nat)).modLink x.link (fun y => { y with
      nbQuality := at_ 3, nbPriority := at_ 4, nbHops := at_ 5 })
    if id = s.rdN K.stationId then s.raise Ev.tvDupId noKey else s)

/-- NEIGHBOUR_TIMEOUT: 3.5 ms pass with no HELLO on link l. -/
def execNeighbourTimeout (l : Nat) (s : State) : Out := .next (when (l < 5) s fun s => s.wr (K.neighbour l) 0)

/-- In-band links that are no Traverse link any more: their neighbour and frames go, and what their stream brings (10 R289, R293). -/
def State.ibWatch (s : State) : State :=
  [3, 4].foldl (fun s l =>
    let s := if s.linkUp l || (s.car (ibCarrier l)).rx.ibc = [] then s else s.modRx (ibCarrier l) (fun r => { r with ibc := [] })
    if !s.linkUp l && (s.rd (K.neighbour l) ≠ 0 || (s.link l).queue ≠ [] || (s.link l).sending.isSome ||
        (s.rd K.timeSource = l + 1 && s.rd K.datumQuality ≤ 1)) then s.linkLost l else s) s

end Sys2Proof.Machine
end

