-- ==== Sys2Proof/Machine/Datum.lean ====
section
/-! DEFINITION. The datum (spec 10 R296 to R302): time exchanges, steering and stepping, quality, and PPS. -/

namespace Sys2Proof.Machine

/-- A signed 32-bit entry takes a value; one outside its range is a value the spec does not state, and free. -/
def State.wrS32 (s : State) (k : Key) (v : Int) : State :=
  if -2147483648 ≤ v && v ≤ 2147483647 then s.wr k v else (s.wr k (toSigned 32 s.freeVal)).tookFree

/-- An unsigned 32-bit entry takes a value, as State.wrS32. -/
def State.wrU32 (s : State) (k : Key) (v : Int) : State :=
  if 0 ≤ v && v ≤ 4294967295 then s.wr k v else (s.wr k (s.freeVal % 4294967296 : Nat)).tookFree

/-- A fraction in whole units whose rounding the spec does not state. -/
def openRound (q : Rat) : Int := openDiv q.num q.den

/-- The datum moves by an amount in ns, within its 64 bits (10 R296, R302): triggers that a forward step passes over are late. -/
def State.datumMove (s : State) (d : Rat) : State :=
  let n := s.now + d
  let new := (n.floor % 2 ^ 64).toNat
  let passed := fun (e : Nat × Nat × Bool) => decide (0 < d) && decide (s.datum < e.2.1) && decide ((e.2.1 : Rat) ≤ n) && !e.2.2
  let late := (s.tv.trigs.filter passed).length
  let s := s.bumpN K.trigLateCount late
  { s with
    datum := new
    tv := { s.tv with
      frac := n - n.floor
      trigs := s.tv.trigs.map (fun e => if passed e then (e.1, e.2.1, true) else e) } }

/-- A step of the datum (10 R297, R302). -/
def State.datumStep (s : State) (d : Rat) : State := ((s.datumMove d).bump K.stepCount).raise Ev.datumStep noKey

/-- One advance of the datum: 1 ns of the Traverse PLL, adjusted by the loop rate (10 R296). -/
def State.datumTick (s : State) : State :=
  let n := s.tv.frac + 1 + (s.rd K.datumRate : Rat) / 1000000000
  { s with datum := ((s.datum : Int) + n.floor).toNat % 2 ^ 64, tv := { s.tv with frac := n - n.floor } }

/-- The quality after an exchange (10 R298). -/
def State.datumJudge (s : State) (th : Rat) : State :=
  let a := if th < 0 then -th else th
  let q := s.rd K.datumQuality
  let s := { s with tv := { s.tv with
    near := if a ≤ 2 then s.tv.near + 1 else 0
    far := if 10 < a then s.tv.far + 1 else 0 } }
  if s.clk.datumHeld then s
  else if 2 ≤ q then { (s.wr K.datumQuality 1) with tv := { s.tv with near := 0, far := 0 } }
  else if q = 1 && 16 ≤ s.tv.near then (s.wr K.datumQuality 0).raise Ev.datumLocked noKey
  else if q = 0 && 4 ≤ s.tv.far then
    let s := (s.wr K.datumQuality 1).raise Ev.datumUnlocked noKey
    { s with tv := { s.tv with near := 0 } }
  else s

/-- The second-order loop of bandwidth 50.028 takes an offset and sets the rate 50.02A (10 R297). -/
def State.datumLoop (s : State) (th : Rat) : State :=
  let g := Config.datumGain (s.rdN K.datumBw) (s.rdN K.syncInterval)
  let i := s.tv.integ + g.2 * th
  ({ s with tv := { s.tv with integ := i } } : State).wr K.datumRate (clampInt (openRound (g.1 * th + i)) (-200000) 200000)

/-- An exchange completes with an offset in ns (10 R297): the datum is stepped, or the loop steers it. -/
def State.exchanged (s : State) (th : Rat) : State :=
  let s := { s with tv := { s.tv with theta := th } }
  let s := s.wrS32 K.datumOffset (openRound (th * 1000))
  let s := if s.tv.woke then
      (({ s with tv := { s.tv with woke := false } } : State).wrS32 K.wakeCorrection (openRound th)) else s
  let a := if th < 0 then -th else th
  let s := if s.rdN K.stepThreshold < a then s.datumStep th
    else s.datumLoop th
  s.datumJudge th

/-- TIME_EXCHANGE_START: every 50.027 us, TIME_REQ on the link that 50.022 names, with the time in ns at which its frame crosses
the pins where that is an in-band link. -/
def execTimeExchangeStart (pin : Nat) (s : State) : Out :=
  let src := s.rdN K.timeSource
  .next (when (1 ≤ src && src ≤ 5 && s.linkUp (src - 1)) s fun s =>
    s.oneLink 1 (src - 1) (List.replicate 10 0) (if src ≤ 3 then s.now else pin))

/-- TIME_REQ_RX: the oldest delivered TIME_REQ is answered with t1, t2 and t3 (10 R297). -/
def execTimeReqRx (pin : Nat) (s : State) : Out :=
  .next (s.serve 1 fun x s =>
    s.oneLink 2 x.link (x.frame.payload.take 10 ++ stampBytes x.time ++ List.replicate 10 0) (if x.link < 3 then s.now else pin))

/-- TIME_RESP_RX: the oldest delivered TIME_RESP gives offset and delay (10 R297); one on a link that is not the time source
is no exchange. -/
def execTimeRespRx (s : State) : Out :=
  .next (s.serve 2 fun x s =>
    if s.rdN K.timeSource ≠ x.link + 1 || x.frame.payload.length < 30 then s
    else
      let p := x.frame.payload
      let t1 := stampTime (p.take 10)
      let t2 := stampTime ((p.drop 10).take 10)
      let t3 := stampTime ((p.drop 20).take 10)
      let th := ((t2 - t1) - (x.time - t3) + (s.rd (K.delayAsym x.link) : Rat) / 1000) / 2
      let d := ((t2 - t1) + (x.time - t3)) / 2
      (s.wrU32 (K.linkDelay x.link) (openRound (d * 1000))).exchanged th)

/-- DATUM_HOLDOVER: no TIME_RESP for 3 intervals (10 R298). -/
def execDatumHoldover (s : State) : Out :=
  .next (when (1 ≤ s.rd K.timeSource && s.rd K.timeSource ≤ 5) s fun s => s.datumHold)

/-- DATUM_SET: 50.023 steps the datum while 50.022 is ROOT or NONE (10 R299). -/
def execDatumSet (src : Nat) (v : Int) (s : State) : Out :=
  .next (s.request src K.datumSet fun s =>
    if s.rd K.timeSource ≠ 0 && s.rd K.timeSource ≠ 7 then (s, .refused)
    else (s.datumStep (((clampKey K.datumSet v : Int) : Rat) - s.now), .ok))

/-- What a write of 50.022 does to the quality (10 R298). -/
def State.timeSourceSet (s : State) : State :=
  if s.rd K.timeSource = 7 then s.wr K.datumQuality 0
  else if s.rd K.timeSource = 0 then s.wr K.datumQuality 4
  else s

/-- PPS_IN_EDGE: a rising edge of PPS_IN (10 R300). -/
def execPpsInEdge (s : State) : Out :=
  let s := { (s.wr K.ppsInTime (s.datum : Nat)) with tv := { s.tv with ppsMissed := 0 } }
  .next (when (s.rd K.timeSource = 6) s fun s =>
    let th := ((s.rd K.ppsNext : Int) : Rat) - s.now
    (s.rwStore 0 K.ppsNext ((s.rd K.ppsNext + 1000000000) % 2 ^ 64)).exchanged th)

/-- PPS_MISSED: no edge within 1 s +- 1 ms of the last one; after three the datum that takes its time from PPS_IN holds. -/
def execPpsMissed (s : State) : Out :=
  let s := (s.bump K.ppsMissCount).raise Ev.ppsMissed noKey
  let s := { s with tv := { s.tv with ppsMissed := s.tv.ppsMissed + 1 } }
  .next (when (3 ≤ s.tv.ppsMissed && s.rd K.timeSource = 6) s fun s => s.datumHold)

/-- PPS_OUT_RISE: the datum modulo 1 s equals 50.033 while 50.032 bit 0 is 1. -/
def execPpsOutRise (s : State) : Out :=
  .next (when (bitOf (s.rdN K.ppsCtrl) 0 && s.datum % 1000000000 = s.rdN K.ppsOutOffset) s fun s => { s with tv := { s.tv with ppsOut := true } })

/-- PPS_OUT_FALL: 50.034 us after the rise. -/
def execPpsOutFall (s : State) : Out := .next { s with tv := { s.tv with ppsOut := false } }

end Sys2Proof.Machine
end

