-- ==== Sys2Proof/Machine/FieldBook.lean ====
section
/-! DEFINITION. The field book (spec 14): descriptors, probes, rings, the writer, triggers and readout; and the Traverse's
TRIGGER frames (10 R305), which rings answer. -/

namespace Sys2Proof.Machine

/-! ### Descriptors (14 R364 to R366) -/

/-- Bytes i and following of a descriptor as a number of n bytes. -/
def descN (d : List Byte) (i n : Nat) : Nat := beNat ((d.drop i).take n)

/-- FIRST_PAGE. -/
def descFirst (d : List Byte) : Nat := descN d 0 2
/-- PAGE_COUNT. -/
def descPages (d : List Byte) : Nat := descN d 2 2
/-- PROBE. -/
def descProbe (d : List Byte) : Nat := descN d 4 2
/-- SEL. -/
def descSel (d : List Byte) : Nat := descN d 6 1
/-- MODE. -/
def descMode (d : List Byte) : Nat := descN d 7 1
/-- The run of MODE: 0 SINGLE, 1 REPEAT, 2 FREE. -/
def descRun (d : List Byte) : Nat := descMode d / 16 % 4
/-- K. -/
def descK (d : List Byte) : Nat := max (descN d 8 4) 1
/-- PRE. -/
def descPre (d : List Byte) : Nat := descN d 12 4
/-- SOURCES. -/
def descSources (d : List Byte) : Nat := descN d 16 1
/-- TRIG_ID. -/
def descTrigId (d : List Byte) : Nat := descN d 20 2
/-- Records a ring holds (14 R364). -/
def descCap (d : List Byte) : Nat := 16 * descPages d

/-- The forms of a probe's value (14 R366). -/
inductive ProbeForm where
  | u24 | s24 | s48 | complex
  deriving DecidableEq, Repr

/-- The form of a probe by its code, carrier B's codes reduced to A's; none where undefined. -/
def probeFormA (p : Nat) : Option ProbeForm :=
  if p < 0x40 then some .complex
  else if p < 0x60 then some .s24
  else if p < 0x84 then some .u24
  else if p < 0x86 then some .s24
  else if p < 0x88 then some .u24
  else if p = 0x88 then some .s24
  else none

/-- The form of a probe (14 R366). -/
def probeForm (p : Nat) : Option ProbeForm :=
  if p ≤ 0x88 then probeFormA p
  else if p < 0x90 then none
  else if p ≤ 0x118 then probeFormA (p - 0x90)
  else if p < 0x120 then none
  else if p < 0x140 then some .s48
  else if p < 0x1C0 then some .u24
  else if p < 0x1D8 then some .s24
  else if p < 0x1E8 then some .u24
  else if p < 0x1F8 then some .s24
  else if p = 0x1F8 then some .s48
  else if p = 0x1F9 then some .u24
  else none

/-- SEL is within its probe's range (14 R366). -/
def probeSelOk (p sel : Nat) : Bool :=
  let a := if 0x90 ≤ p then p - 0x90 else p
  if p ≤ 0x118 && a < 0x20 then sel ≤ 1
  else if p ≤ 0x118 && a < 0x40 then sel / 32 % 2 = 0
  else sel = 0

/-- The ring of a descriptor or header key. -/
def ringOf (k : Key) : Nat := 4096 * (k.entry % 8) + k.idx

/-! ### Rings -/

/-- A ring. -/
def State.ring (s : State) (r : Nat) : Ring := aget s.fb.rings r Ring.idle

/-- A ring takes a value; one that is as Ring.idle is not listed. -/
def State.setRing (s : State) (r : Nat) (x : Ring) : State :=
  { s with fb := { s.fb with rings := if x = Ring.idle then adel s.fb.rings r else aput s.fb.rings r x } }

/-- A ring changes. -/
def State.modRing (s : State) (r : Nat) (f : Ring → Ring) : State := s.setRing r (f (s.ring r))

/-- The descriptor that governs a ring: the one it was armed with, or the present one. -/
def State.ringDescOf (s : State) (r : Nat) : List Byte :=
  let x := s.ring r
  if x.state = 0 then (if s.blob (K.ringDesc r) = [] then List.replicate 32 0 else s.blob (K.ringDesc r)) else x.desc

/-- Rings that a command of a range may act on, rising: those with pages. -/
def State.ringsIn (s : State) (first last : Nat) : List Nat :=
  let some_ := (s.blobs.filter (fun e => e.1.area = 0x68)).map (fun e => ringOf e.1) ++ s.fb.rings.map Prod.fst
  ((some_.foldl (fun m r => aput m r ()) []).map Prod.fst).filter (fun r => first ≤ r && r ≤ last && 0 < descPages (s.ringDescOf r))

/-- 48-bit saturating counters in a ring's header (14 R375). -/
def sat48 (n : Nat) : Nat := min n max48

/-- 68.002: rings in REARM, FILLING, ARMED or POST. -/
def State.ringsActive (s : State) : Nat := (s.fb.rings.filter (fun e => 1 ≤ e.2.state && e.2.state ≤ 4)).length

/-! ### Triggers (14 R369, R371 to R373; 10 R305) -/

/-- TRIGGER is broadcast for an ID and instant (10 R305). -/
def State.sendTrigger (s : State) (id instant : Nat) : State :=
  s.originate 9 true 1 0 0 (beBytes 2 id ++ [0, 0] ++ beBytes 8 (instant % 2 ^ 64))

/-- An accepted trigger waits for its record; a ring with OUT pulses TRIG_OUT (14 R373). -/
def State.ringAccept (s : State) (r src time : Nat) (late : Bool) : State :=
  let s := s.modRing r (fun x => { x with waiting := x.waiting ++ [(src, time, late)] })
  if bitOf (descSources (s.ring r).desc) 7 then { s with fb := { s.fb with trigOut := true } } else s

/-- A trigger of a source arrives at a ring at a time (14 R369, R371, R372). -/
def State.ringTrigger (s : State) (r src time : Nat) (late : Bool) : State :=
  let x := s.ring r
  if descRun x.desc = 2 && 1 ≤ x.state then s
  else if x.state = 2 then s.modRing r (fun x => { x with ignEarly := sat48 (x.ignEarly + 1) })
  else if x.state = 1 then s.modRing r (fun x => { x with ignRearm := sat48 (x.ignRearm + 1) })
  else if x.state = 4 then s.modRing r (fun x => { x with ignPost := sat48 (x.ignPost + 1) })
  else if x.state ≠ 3 then s
  else if src ≠ 4 && bitOf (descSources x.desc) 6 then
    let outstanding : Bool := match x.bcast with
      | some t => decide (s.datum < t)
      | none => false
    if outstanding then s.modRing r (fun x => { x with ignPost := sat48 (x.ignPost + 1) })
    else
      let instant := time + 1000 * s.rdN K.trigLead
      (s.modRing r (fun x => { x with bcast := some instant })).sendTrigger (descTrigId x.desc) instant
  else s.ringAccept r src time late

/-- Events that rings wait for reach the rings they trigger (14 R371). -/
def State.fbEvents (s : State) : State :=
  let evs := s.fb.evWait
  let s := { s with fb := { s.fb with evWait := [] } }
  evs.foldl (fun s e => (s.fb.rings.map Prod.fst).foldl (fun s r =>
    if (s.ring r).eventCode = some e.1 then s.ringTrigger r 2 e.2 false else s) s) s

/-- Every ring whose descriptor selects a source by its bit takes a trigger. -/
def State.fbTriggerAll (s : State) (bit src time : Nat) (late : Bool) (p : List Byte → Bool) : State :=
  (s.fb.rings.map Prod.fst).foldl (fun s r =>
    if bitOf (descSources (s.ring r).desc) bit && p (s.ring r).desc then s.ringTrigger r src time late else s) s

/-- TRIG_IN_RISE: a rising edge of TRIG_IN at the converters (12) and the rings (14 R371). -/
def execTrigInRise (s : State) : Out :=
  .next (s.fbEvents.hkTrigIn.fbTriggerAll 2 3 s.datum false (fun _ => true))

/-- TRIG_OUT_END: TRIG_OUT falls 68.004 ns after the last trigger. -/
def execTrigOutEnd (s : State) : Out := .next { s with fb := { s.fb with trigOut := false } }

/-- A Traverse trigger of an ID reaches its instant, or arrived after it (10 R305, 14 R371). -/
def State.fireTrigger (s : State) (id time : Nat) (late : Bool) : State :=
  s.fbEvents.fbTriggerAll 3 4 time late (fun d => descTrigId d = id)

/-- TRIGGER_RX: the oldest delivered TRIGGER frame; one that comes after its instant fires at once, is counted and is marked
late (10 R305). -/
def execTriggerRx (s : State) : Out :=
  .next (s.serve 9 fun x s =>
    let p := x.frame.payload
    let id := beNat (p.take 2)
    let t := beNat ((p.drop 4).take 8)
    if p.length < 12 then s
    else if t < s.datum then (s.bump K.trigLateCount).fireTrigger id t true
    else { s with tv := { s.tv with trigs := s.tv.trigs ++ [(id, t, false)] } })

/-- TRIGGER_FIRE: the datum has reached the instant of waiting triggers of an ID. -/
def execTriggerFire (id : Nat) (s : State) : Out :=
  let due := s.tv.trigs.filter (fun e => e.1 = id && e.2.1 ≤ s.datum)
  let s := { s with tv := { s.tv with trigs := s.tv.trigs.filter (fun e => !(e.1 = id && e.2.1 ≤ s.datum)) } }
  .next (due.foldl (fun s e => s.fireTrigger e.1 e.2.1 e.2.2) s)

/-- TRIG_SEND: 50.058 broadcasts TRIGGER at the datum plus 50.059 us. -/
def execTrigSend (src : Nat) (v : Int) (s : State) : Out :=
  .next (s.request src K.trigSend fun s =>
    (s.sendTrigger (clampKey K.trigSend v).toNat (s.datum + 1000 * s.rdN K.trigLead), .ok))

/-! ### Commands (14 R368) -/

/-- A ring enters REARM: contents, SHIFT, trigger fields and counters go (14 R368, R375). -/
def State.ringRearm (s : State) (r : Nat) : State :=
  s.setRing r { Ring.idle with state := 1, desc := s.ringDescOf r }

/-- A ring stops (14 R368). -/
def State.ringDone (s : State) (r : Nat) : State :=
  (s.modRing r (fun x => { x with state := 5, buf := [], waiting := [], bcast := none })).raise Ev.fbRingDone (K.ringHeader r)

/-- A ring command over a range (14 R368): 68.011 holds the rings it acted on. -/
def State.ringCmd (s : State) (op first last : Nat) : State × Status :=
  let s := s.fbEvents
  let rs := s.ringsIn first last
  let act := rs.filter (fun r =>
    let st := (s.ring r).state
    if op = 0 then st = 0 || st = 5
    else if op = 1 then st = 3 || st = 4 || st = 5
    else if op = 2 then st = 3 && descRun (s.ring r).desc ≠ 2
    else if op = 3 then 2 ≤ st && st ≤ 4
    else true)
  let s := (if op = 2 then rs else act).foldl (fun s r =>
    if op ≤ 1 then s.ringRearm r
    else if op = 2 then s.ringTrigger r 5 s.datum false
    else if op = 3 then s.ringDone r
    else s.setRing r Ring.idle) s
  (s.wr K.ringCmdActed (act.length : Nat), .ok)

/-- A write of 68.010. -/
def State.ringCmdWrite (s : State) (w : Nat) : State × Status :=
  s.ringCmd (w / 2 ^ 60) (w / 2 ^ 32 % 2 ^ 15) (w % 2 ^ 15)

/-- The value of 68.010 for a command. -/
def ringCmdVal (op first last : Nat) : Nat :=
  (clampKey K.ringCmd (op * 2 ^ 60 + first % 2 ^ 15 * 2 ^ 32 + last % 2 ^ 15 : Nat)).toNat

/-- RING_ARM. -/
def execRingArm (src first last : Nat) (s : State) : Out :=
  .next (s.request src K.ringCmd fun s => s.ringCmdWrite (ringCmdVal 0 first last))

/-- RING_REARM. -/
def execRingRearm (src first last : Nat) (s : State) : Out :=
  .next (s.request src K.ringCmd fun s => s.ringCmdWrite (ringCmdVal 1 first last))

/-- RING_FORCE. -/
def execRingForce (src first last : Nat) (s : State) : Out :=
  .next (s.request src K.ringCmd fun s => s.ringCmdWrite (ringCmdVal 2 first last))

/-- RING_STOP. -/
def execRingStop (src first last : Nat) (s : State) : Out :=
  .next (s.request src K.ringCmd fun s => s.ringCmdWrite (ringCmdVal 3 first last))

/-- RING_DISARM. -/
def execRingDisarm (src first last : Nat) (s : State) : Out :=
  .next (s.request src K.ringCmd fun s => s.ringCmdWrite (ringCmdVal 4 first last))

/-- FB_RING_CLEARED: a ring in REARM is cleared within 1 us. -/
def execFbRingCleared (r : Nat) (s : State) : Out :=
  .next (when ((s.ring r).state = 1) s fun s =>
    s.fbEvents.modRing r (fun x => { x with state := if descPre x.desc = 0 || descRun x.desc = 2 then 3 else 2 }))

/-! ### Probes and the writer (14 R366, R367, R370) -/

/-- DATA of a value in its form (14 R366); w is the imaginary part of a complex value. -/
def probeData (form : ProbeForm) (v w : Int) : Nat :=
  match form with
  | .u24 => ofSigned 24 v
  | .s24 => ofSigned 48 (toSigned 24 (ofSigned 24 v))
  | .s48 => ofSigned 48 v
  | .complex => ofSigned 24 v * 2 ^ 24 + ofSigned 24 w

/-- A record becomes due (14 R370): it enters the buffer of 4, or is discarded and the shift rises. -/
def State.ringDue (s : State) (r : Nat) (d : FbDue) : State :=
  let x := s.ring r
  if x.buf.length < 4 then s.modRing r (fun x => { x with buf := x.buf ++ [d] })
  else
    let s := s.modRing r (fun x => { x with dropped := sat48 (x.dropped + 1) })
    if x.shift < 15 then (s.modRing r (fun x => { x with shift := x.shift + 1 })).raise Ev.fbRingDoubled (K.ringHeader r)
    else s.modRing r (fun x => { x with shiftMax := true })

/-- A probe's update at a ring that records it (14 R367). -/
def State.ringUpdate (s : State) (r : Nat) (form : ProbeForm) (v w : Int) : State :=
  let x := s.ring r
  let len := if x.inGroup = 0 then descK x.desc * 2 ^ x.shift else x.groupLen
  let least := if x.inGroup = 0 then v else min x.least v
  let greatest := if x.inGroup = 0 then v else max x.greatest v
  if x.inGroup + 1 < len then
    s.modRing r (fun x => { x with inGroup := x.inGroup + 1, groupLen := len, least := least, greatest := greatest })
  else
    let minmax := bitOf (descMode x.desc) 0
    -- the shift in force is that of the group's length
    let shift := Nat.log2 (len / descK x.desc)
    let data := if minmax then ofSigned 24 least * 2 ^ 24 + ofSigned 24 greatest else probeData form v w
    let d : FbDue := ⟨data, shift, s.datum, if minmax then greatest else v, if minmax then least else v⟩
    (s.modRing r (fun x => { x with inGroup := 0, groupLen := len })).ringDue r d

/-- The value of a probe of a carrier, by carrier A's code, where the state holds its quantity (14 R366). -/
def State.carrierProbe (s : State) (c : Carrier) (p sel : Nat) : Option (Int × Int) :=
  let rx := (s.car c).rx
  let f := (s.car c).fec
  let num := fun (v : Int) => some (v, (0 : Int))
  let k := p % 32
  if p < 0x20 then
    (aget rx.syms k []).getLast?.map (fun d => (if sel % 2 = 0 then d.x else d.y).toQ15)
  else if p < 0x40 then some (tapOf (s.blob (K.eqTaps c k)) (sel / 64) (sel % 32))
  else if p < 0x60 then
    match rx.snrHist with
    | h :: _ => num (snrDb [h] (fun e => nth e (2 * k) 0 + nth e (2 * k + 1) 0))
    | [] => none
  else if p < 0x80 then num (s.rd (K.sopRate c k))
  else
    match p with
    | 0x80 => num f.relIters
    | 0x81 => num f.relCorr
    | 0x82 => num (b2n f.relBad)
    | 0x83 => num (s.rd (K.decSlots c))
    | 0x84 => num (s.rd (K.crCommonFreq c))
    | 0x85 => num (s.rd (K.cdApplied c))
    | 0x86 => num (s.rd (K.contourGain c))
    | 0x88 => num (s.rd (K.rxPower c))
    | _ => none

/-- The value a probe delivers where the state holds its quantity (14 R366); the others' stand beside the update: DAC samples clipped
(0x087), RS symbols corrected in the last us (0x1E0 on) and a pace monitor's margin of the last us (0x1E8 on). -/
def State.probeNow (s : State) (p sel : Nat) : Option (Int × Int) :=
  let num := fun (v : Int) => some (v, (0 : Int))
  if p ≤ 0x88 then s.carrierProbe .a p sel
  else if p < 0x120 then s.carrierProbe .b (p - 0x90) sel
  else if p < 0x140 then num (toSigned 32 (s.rdN (K.outLatest (p - 0x120)) / 2 ^ 32))
  else if p < 0x1C0 then num (s.rdN (K.regResult (p - 0x140)) / 65536 : Nat)
  else if p < 0x1D8 then num (s.rd (K.sensorTemp (p - 0x1C0)))
  else if p < 0x1E0 then num (s.rd (K.laneFom (p - 0x1D8)))
  else if p = 0x1F8 then num (openRat (s.tv.theta * 1000))
  else if p = 0x1F9 then num (s.rd K.vcoreReq)
  else none

/-- PROBE_UPDATE: a probe delivers its value to the rings that record it: what the state holds, else the value given (v, or v + w i for a
complex one). -/
def execProbeUpdate (probe sel : Nat) (v w : Int) (s : State) : Out :=
  .next (when (s.on K.fbEnable) s fun s =>
    match probeForm probe with
    | none => s
    | some form =>
      let x := (s.probeNow probe sel).getD (v, w)
      (s.fbEvents.fb.rings.map Prod.fst).foldl (fun s r =>
        let y := s.ring r
        if 2 ≤ y.state && y.state ≤ 4 && descProbe y.desc = probe && descSel y.desc = sel then s.ringUpdate r form x.1 x.2 else s)
        s.fbEvents)

/-- The record as stored (14 R367): DATA, SHIFT, SEQ, BAD 0 and CHECK. -/
def recordWord (data shift seq : Nat) : Nat :=
  let top := data % 2 ^ 48 * 2 ^ 7 + shift % 16 * 8 + seq % 8
  top * 2 ^ 9 + (bitList 55 top).foldl (crcStep 8 0x07) 0

/-- The threshold test of a record (14 R371). -/
def crosses (desc : List Byte) (hi lo pHi pLo : Int) : Bool :=
  let th := toSigned 32 (descN desc 24 4)
  let tl := toSigned 32 (descN desc 28 4)
  let m := descMode desc / 4 % 4
  let above := th < hi && !(th < pHi)
  let below := lo < tl && !(pLo < tl)
  if m = 0 then above else if m = 1 then below else above || below

/-- The writer writes the oldest buffered record of a ring (14 R368, R370, R371). -/
def State.ringWrite (s : State) (r : Nat) : State :=
  let x := s.ring r
  match x.buf with
  | [] => s
  | d :: rest =>
    let cap := descCap x.desc
    let phys := x.count % cap
    let s := { s with fb := { s.fb with trace := aput s.fb.trace (16 * descFirst x.desc + phys) (recordWord d.data d.shift x.count) } }
    let s := s.modRing r (fun x => { x with
      buf := rest, count := x.count + 1, ref := some (d.hi, d.lo)
      wrapped := x.wrapped || (x.state ≤ 3 && cap ≤ x.count)
      doubleRec := if d.shift ≠ x.lastShift then some phys else x.doubleRec
      lastShift := d.shift })
    -- a local threshold trigger is the crossing record itself
    let s : State := match x.ref with
      | some (pHi, pLo) =>
        if bitOf (descSources x.desc) 0 && crosses x.desc d.hi d.lo pHi pLo then s.ringTrigger r 1 d.time false else s
      | none => s
    let y := s.ring r
    if y.state = 3 then
      let hits := y.waiting.filter (fun t => t.2.1 ≤ d.time)
      if hits.isEmpty then s
      else
        let src := hits.foldl (fun m t => min m t.1) 5
        (s.modRing r (fun x => { x with
          state := 4, trigAbs := some (x.count - 1), trigTime := d.time, trigSource := src, waiting := [], bcast := none
          late := hits.any (fun t => t.2.2) })).raise Ev.fbRingTriggered (K.ringHeader r)
    else s

/-- What a write completes (14 R368): FILLING to ARMED, POST to DONE. -/
def State.ringAfter (s : State) (r : Nat) : State :=
  let x := s.ring r
  if x.state = 2 && descPre x.desc ≤ x.count then s.modRing r (fun x => { x with state := 3 })
  else
    match x.trigAbs with
    | some t => if x.state = 4 && descCap x.desc - descPre x.desc ≤ x.count - t then s.ringDone r else s
    | none => s

/-- The ring the writer serves next: the lowest number above the last one served, of those with records (14 R370). -/
def FbState.nextRing (f : FbState) : Option Nat :=
  let rs := (f.rings.filter (fun e => e.2.buf ≠ [])).map Prod.fst
  match rs.filter (fun r => f.lastGrant < r) with
  | r :: _ => some r
  | [] => rs.head?

/-- FB_RECORD_WRITE: the writer grants the next ring one record. -/
def execFbRecordWrite (s : State) : Out :=
  let s := s.fbEvents
  .next (when (s.on K.fbEnable) s fun s =>
    match s.fb.nextRing with
    | none => s
    | some r =>
      let us := s.datum / 1000
      let s := { s with fb := { s.fb with
        lastGrant := r
        writes := aput (s.fb.writes.filter (fun e => us < e.1 + 1000 && e.1 ≤ us)) us
          (aget s.fb.writes us 0 + 1) } }
      (s.ringWrite r).ringAfter r)

/-- 68.001: records written per us over the last 1 ms. -/
def State.fbWriteRate (s : State) : Int :=
  let us := s.datum / 1000
  openDiv ((s.fb.writes.filter (fun e => us < e.1 + 1000 && e.1 ≤ us)).map Prod.snd).sum 1000

/-! ### Resets and editions -/

/-- The rings at a reset (14 R368): those that hold contents freeze; after power-on nothing is kept. -/
def State.fbReset (s : State) (keep : Bool) : State :=
  if !keep then { s with fb := FbState.reset }
  else
    let f := fun (x : Ring) => if 2 ≤ x.state then { x with state := 6, buf := [], waiting := [], bcast := none } else Ring.idle
    { s with fb := { FbState.reset with
      rings := (s.fb.rings.map (fun e => (e.1, f e.2))).filter (fun e => e.2 ≠ Ring.idle), trace := s.fb.trace } }

/-- Entry to Dormant (14 R369): every ring enters IDLE; trace memory is not retained. -/
def State.fbDormant (s : State) : State := { s with fb := { s.fb with rings := [], trace := [], evWait := [], trigOut := false } }

/-- An applied edition changes a descriptor (14 R365). -/
def State.fbDescChanged (s : State) (r : Nat) : State := s.setRing r Ring.idle

/-! ### Readout (14 R374, R375) -/

/-- Valid records of a ring. -/
def Ring.valid (x : Ring) : Nat := if x.state < 2 then 0 else min x.count (descCap x.desc)

/-- The physical index of the oldest valid record. -/
def Ring.start (x : Ring) : Nat := if descCap x.desc = 0 then 0 else (x.count - x.valid) % descCap x.desc

/-- The key under which a snapshot holds a header counter of a ring: IGN_EARLY, IGN_REARM, IGN_POST, DROPPED. -/
def ringCounterKey (j r : Nat) : Key := ⟨0x68, 0x300 + j, r⟩

/-- The header counters of a ring. -/
def Ring.counters (x : Ring) : List Nat := [x.ignEarly, x.ignRearm, x.ignPost, x.dropped]

/-- The header of a ring as a source reads it (14 R374, R375). -/
def State.ringHeaderBytes (s : State) (src r : Nat) : List Byte :=
  let x := s.ring r
  let d := s.ringDescOf r
  let cap := descCap d
  let snap := s.snapOf src 0x68
  let counters := x.counters.zipIdx.map (fun c =>
    match snap with
    | some m => (legGet m (ringCounterKey c.2 r)).toNat
    | none => c.1)
  let phys := fun (a : Option Nat) => match a with
    | some n => if cap = 0 then n else n % cap
    | none => 0xFFFFFFFF
  beBytes 1 x.state ++ beBytes 1 x.shift ++ beBytes 1 (b2n x.late * 128 + b2n x.wrapped * 64 + b2n x.shiftMax * 32) ++
    beBytes 1 x.trigSource ++ (d.drop 4).take 2 ++ d.take 4 ++ (d.drop 6).take 6 ++ beBytes 4 x.start ++ beBytes 4 x.valid ++
    beBytes 4 (phys x.trigAbs) ++ beBytes 8 x.trigTime ++ beBytes 4 (phys x.doubleRec) ++ counters.flatMap (beBytes 6)

/-- The cursor of a source: ring and record. -/
def State.cursor (s : State) (src : Nat) : Nat × Nat := aget s.fb.cursors src (0, 0)

/-- A source writes 68.020 or 68.021. -/
def State.setCursor (s : State) (src ring record : Nat) : State :=
  { s with fb := { s.fb with cursors := aput s.fb.cursors src (ring, record) } }

/-- A record as read out: BAD is set where its check fails; a slot not written since power-on reads a free value that fails. -/
def readRecord (f : FbState) (free : Nat) (slot : Nat) : Nat × Bool :=
  match f.trace.find? (fun e => e.1 = slot) with
  | some e =>
    let bad := recordWord (e.2 / 2 ^ 16) (e.2 / 2 ^ 12 % 16) (e.2 / 2 ^ 9 % 8) ≠ e.2
    (if bad then e.2 - e.2 / 256 % 2 * 256 + 256 else e.2, bad)
  | none => (free % 2 ^ 64 / 512 * 512 + 256 + free % 256, true)

/-- A latch of 68.022 (14 R374): the header and up to 504 records from the source's cursor, which advances. -/
def State.rdLatch (s : State) (src : Nat) : State × List Byte :=
  let s := s.fbEvents
  let r := (s.cursor src).1
  let from_ := (s.cursor src).2
  let x := s.ring r
  let head := s.ringHeaderBytes src r
  let m := min 504 (x.valid - from_)
  let cap := descCap x.desc
  let recs := (List.range m).map (fun i =>
    readRecord s.fb (Config.free (s.freeCtr + i)) (16 * descFirst x.desc + (x.start + from_ + i) % cap))
  let bad := (recs.filter Prod.snd).length
  let unread := ((List.range m).filter (fun i =>
    !s.fb.trace.any (fun e => e.1 = 16 * descFirst x.desc + (x.start + from_ + i) % cap))).length
  let s := { (s.bumpN K.fbBadRecords bad) with freeCtr := s.freeCtr + (if unread = 0 then 0 else m) }
  let quiet : Bool := match s.fb.lastBad with
    | some t => decide (s.datum < t + 1000000)
    | none => false
  let s := if bad = 0 || quiet then s
    else ({ s with fb := { s.fb with lastBad := some s.datum } }).raise Ev.fbRecordBad (K.ringHeader r)
  let s := s.setCursor src r (min (from_ + m) 524287)
  -- a REPEAT ring in DONE starts again when its last valid record is latched
  let s := if x.state = 5 && descRun x.desc = 1 && 0 < m && from_ + m = x.valid then s.ringRearm r else s
  (s, head ++ recs.flatMap (fun p => beBytes 8 p.1))

end Sys2Proof.Machine
end

