-- ==== Sys2Proof/Machine/Drafts.lean ====
section
/-! DEFINITION. How drafts and armed editions end (spec 09 R266, R271, R279), and resets (spec 18 R446 to R451, 15 R404):
what survives, and the causes recorded. -/

namespace Sys2Proof.Machine

/-- The bytes of a history record (09 R279). -/
def HistRec.bytes (h : HistRec) : List Byte :=
  beBytes 4 h.id ++ beBytes 2 h.src ++ beBytes 1 h.result ++ beBytes 1 h.reason ++ beBytes 8 h.time ++ beBytes 1 h.mode ++ [0] ++
    beBytes 2 h.count ++ beBytes 8 h.instant ++ beBytes 4 h.key

/-- An armed edition is disarmed (09 R271, R279; 16 R409). -/
def State.disarm (s : State) (e : Edition) (reason : Nat) : State :=
  let s := { s with ed := { s.ed with armed := s.ed.armed.filter (fun x => x.seq ≠ e.seq) } }
  let s := s.addHist ⟨e.id, e.src, 3, reason, s.datum, e.mode, e.elems.length, e.instant, 0⟩
  -- announcements of its switch stop (02 R55)
  let drop := fun (s : State) (c : Carrier) =>
    if (s.car c).tx.pend.any (fun p => p.edId = e.id) then s.cancelPending c else s
  (drop (drop s .a) .b).raise Ev.edDisarmed noKey

/-- The draft and every armed edition are discarded at Dormant entry (15 R398). -/
def State.dropEditions (s : State) : State := s.ed.armed.foldl (fun s e => s.disarm e 0) (s.endDraft 4 0)

/-! ### Resets (18 R448, R450) -/

/-- The fuses blown so far of a digest whose programming ends early: a subset of the digest's (17 R423). -/
def partialDigest (old digest free : List Byte) : List Byte :=
  (List.range 64).map (fun i => (nth old i (0 : Byte)) ||| (nth digest i (0 : Byte) &&& nth free i (0 : Byte)))

/-- A digest programmed in full over what is blown already: a blown fuse is never cleared (17 R423). -/
def blownWith (old digest : List Byte) : List Byte :=
  if old.all (fun b => b = 0) then digest else partialDigest old digest (List.replicate 64 0xFF)

/-- What fuse programming cut short by a reset leaves (17 R423, R427); how far it had come is free. -/
def State.cutFuses (s : State) : FuseState :=
  let f := s.fuse
  let n := s.freeVal
  let fb := freeBytes (s.freeCtr + 1) 64
  match s.sec.fuseOp with
  | none => f
  | some (.enroll j d) =>
    { f with roots := f.roots.modify j (fun r => if n % 2 = 0 then { r with digest := partialDigest r.digest d fb }
        else { r with digest := blownWith r.digest d, sealed := r.sealed || n / 2 % 2 = 1 }) }
  | some (.revoke j) => { f with roots := f.roots.modify j (fun r => { r with revoked := r.revoked || n % 2 = 1 }) }
  | some (.secver v) => { f with secverMin := f.secverMin + n % (v - f.secverMin + 1) }
  | some (.ctrlVer v) => { f with ctrlVerMin := f.ctrlVerMin + n % (v - f.ctrlVerMin + 1) }
  | some .signPolicy => { f with signPolicy := f.signPolicy || n % 2 = 1 }
  | some (.lifecycle t _) =>
    let f := { f with pufTweak := f.pufTweak || (t = 3 && n % 2 = 1) }
    if n / 2 % 2 = 1 && (t ≠ 3 || n % 2 = 1) then { f with lifecycle := t } else f
  | some .identity =>
    let d := Config.shake256 s.flash.idPub 64
    if n % 2 = 0 then { f with idDigest := partialDigest f.idDigest d fb } else { f with idDigest := blownWith f.idDigest d, idSeal := f.idSeal || n / 2 % 2 = 1 }

/-- Keys that an ordinary reset keeps: 01.001 to 01.005 and the last-wake record (18 R450), and the oscillator in use, which the
always-on domain holds. -/
def keptKey (k : Key) : Bool :=
  (k.area = 0x01 && 1 ≤ k.entry && k.entry ≤ 5) || (k.area = 0x71 && 0x020 ≤ k.entry && k.entry ≤ 0x022) ||
    (k.area = 0x50 && k.entry = 0x040)

/-- A core after a reset that keeps its written lines (16 R412). -/
def Core.afterReset (c : Core) : Core := { Core.reset with dmem := c.dmem }

/-- The machine as a reset leaves it (18 R450). With `power` 0 it is a power-on reset, 1 an always-on brown-out, 2 another; the
shutdown record outlives a power-on reset while VAUX stays present. -/
def State.wiped (s : State) (power : Nat) : State :=
  let r := State.reset
  let keep := power = 2
  let tx := fun (c : CarrierState) (old : CarrierState) => { c with tx := { c.tx with txdis := old.tx.txdis } }
  { r with
    leg := if keep then s.leg.filter (fun e => keptKey e.1) else []
    carA := tx r.carA s.carA
    carB := tx r.carB s.carB
    fb := (s.fbReset keep).fb
    datum := if keep then s.datum else 0
    tv := { r.tv with frac := if keep then s.tv.frac else 0 }
    pw := { r.pw with lpmode := s.pw.lpmode }
    aon := if keep then s.aon else { r.aon with record := if power = 0 && s.boot.vauxUp then s.aon.record else [] }
    integ := { r.integ with bad := if keep then s.integ.bad else [] }
    boot := { r.boot with rails := s.boot.rails, vauxUp := s.boot.vauxUp, entered := if keep then s.datum else 0, capture := keep }
    cores := { r.cores with cores := if keep then s.cores.cores.map Core.afterReset else r.cores.cores }
    fuse := s.cutFuses
    flash := s.flash
    dbg := if keep then s.dbg else r.dbg
    freeCtr := if s.sec.fuseOp.isSome then s.freeCtr + 65 else s.freeCtr
    pending := s.pending }

/-- The device enters RESET for a cause, 1 to 6, with its detail (18 R448). -/
def State.enterReset (s : State) (cause detail : Nat) : State :=
  let s := (s.wiped (if cause = 1 then 0 else if cause = 2 then 1 else 2)).wr K.deviceState devReset
  let s := (((s.wr K.resetCause (cause : Nat)).wr K.resetOther 0).wr K.resetDetail (detail : Nat)).wr K.resetTime 0
  s.wr (K.resetCount (cause - 1)) (min (s.rdN (K.resetCount (cause - 1)) + 1) max48 : Nat)

/-- An integrity reset of the device (16 R406, R409, R410): detail is the memory ID and the low bits of the line; its instant
counts for 78.040 (16 R414). -/
def State.integrityReset (s : State) (mem line : Nat) : State :=
  let s := { s with aon := { s.aon with intResets := (s.datum :: s.aon.intResets).take 3 } }
  s.enterReset 4 (mem % 65536 * 65536 + line % 65536)

/-- 78.040: integrity resets of the last 60 s, held to 3. -/
def State.recentIntResets (s : State) : Nat :=
  min ((s.aon.intResets.filter (fun t => s.datum < t + 60000000000 && t ≤ s.datum)).length) 3

end Sys2Proof.Machine
end

