-- ==== Sys2Proof/Machine/Integrity.lean ====
section
/-! DEFINITION. Memory integrity (spec 16 R405 to R416): what a mismatch counts and logs, the reset of one core, data-memory lines,
and the response by class. -/

namespace Sys2Proof.Machine

/-- A line whose stored check fails. -/
def State.lineBad (s : State) (mem line : Nat) : Bool := s.integ.bad.contains (mem, line)

/-- A line is whole again. -/
def State.lineGood (s : State) (mem line : Nat) : State :=
  { s with integ := { s.integ with bad := s.integ.bad.filter (fun b => b ≠ (mem, line)) } }

/-- A mismatch in the fault log (16 R414): its line's entry counts; a new line takes a free entry, or that of the oldest LAST
time. -/
def logLine (log : List FaultLine) (mem line cls now : Nat) : List FaultLine :=
  match log.findIdx? (fun f => f.mem = mem && f.line = line) with
  | some i => log.modify i (fun f => { f with count := min (f.count + 1) max48, last := now })
  | none =>
    let f : FaultLine := ⟨mem, line, cls, 1, now, now, false⟩
    if log.length < 16 then log ++ [f]
    else
      let oldest := log.foldl (fun m x => min m x.last) now
      match log.findIdx? (fun x => x.last = oldest) with
      | some i => log.set i f
      | none => log

/-- A mismatch of a class (16 R405, R414): the class count, the last mismatch, the fault log with INT_REPEAT once an entry's
count reaches 78.021, and INT_MISMATCH at most once per millisecond per memory. -/
def State.mismatch (s : State) (mem line cls : Nat) : State :=
  let s := s.bump (K.classMismatch cls)
  let s := (s.wr K.lastMismatch (mem * 2 ^ 32 + line : Nat)).wr K.lastMismatchTime (s.datum : Nat)
  let log := logLine s.aon.log mem line cls s.datum
  let hit := log.findIdx? (fun f => f.mem = mem && f.line = line && !f.repeated && s.rdN K.repeatThresh ≤ f.count)
  let s := match hit with
    | some i =>
      ({ s with aon := { s.aon with log := log.modify i (fun f => { f with repeated := true }) } }).raise Ev.intRepeat noKey
    | none => { s with aon := { s.aon with log := log } }
  let recent := s.integ.lastRaised.any (fun e => e.1 = mem && s.datum < e.2 + 1000000)
  if recent then s
  else ({ s with integ := { s.integ with lastRaised := aput s.integ.lastRaised mem s.datum } }).raise Ev.intMismatch noKey

/-- A record of the fault log (16 R414). -/
def FaultLine.bytes (f : FaultLine) : List Byte :=
  beBytes 2 f.mem ++ beBytes 3 f.line ++ beBytes 1 f.cls ++ beBytes 6 f.count ++ beBytes 8 f.first ++ beBytes 8 f.last ++
    beBytes 1 (b2n f.repeated) ++ [0, 0, 0]

/-! ### Cores: restarts (11 R323, R325; 16 R410) -/

/-- The source code of core c (11 R307). -/
def coreSource (c : Nat) : Nat := if c < 64 then 0x2000 + c else 0x1000 + (c - 64)

/-- The carrier of a surveyor core (01 R21). -/
def coreCarrier (c : Nat) : Carrier := if c / 32 % 2 = 0 then .a else .b

/-- A data-memory line of a core that has been written and whose check holds (16 R405, R412). -/
def State.dline (s : State) (c line : Nat) : Option Nat :=
  if s.lineBad (0x100 + c) line then none else ((s.core c).dmem.find? (fun e => e.1 = line)).map Prod.snd

/-- A whole-line write to data memory (11 R315, 16 R412). -/
def State.putLine (s : State) (c line v : Nat) : State :=
  (s.lineGood (0x100 + c) (line % 2048)).modCore c (fun x => { x with dmem := aput x.dmem (line % 2048) (v % 2 ^ 256) })

/-- Bytes written as whole lines from an aligned address, with what fills the last line (11 R315). -/
def State.putLines (s : State) (c line : Nat) : List (List Byte) → State
  | [] => s
  | bs :: t => (s.putLine c line (beNat bs)).putLines c (line + 1) t

/-- Bytes cut into lines of 32, the last filled. -/
def cutLines : Nat → List Byte → List Byte → List (List Byte)
  | 0, _, _ => []
  | n + 1, fill, bs => if bs = [] then [] else (bs.take 32 ++ fill.take (32 - min 32 bs.length)) :: cutLines n fill (bs.drop 32)

/-- The carrier whose bus a core's burst goes to: its own, or for a plotter as Config.plotterBusB says. -/
def burstCarrier (c gt : Nat) : Carrier := if c < 64 then coreCarrier c else if Config.plotterBusB (gt / 2 ^ 20) then .b else .a

/-- The lines of a burst that completes (11 R318), at most as many as it names: a read writes whole data lines, with a free value
for a line whose content the spec does not give; a write takes data lines, and a line whose check fails ends it. -/
def State.burstLines (s : State) (c addr line gt : Nat) (wr : Bool) : Nat → State × Option Nat
  | 0 => (s, none)
  | n + 1 =>
    let car := burstCarrier c gt
    if wr then
      match s.dline c (addr % 2048) with
      | none => (s, some (addr % 2048))
      | some v => (s.coefWrite car line v).burstLines c (addr + 1) (line + 1) gt wr n
    else
      let s' := if s.present car then
          match s.coefLine car (line % 2 ^ 20) with
          | some v => s.putLine c addr v
          | none => (s.putLine c addr s.freeVal).tookFree
        else s.putLine c addr 0
      s'.burstLines c (addr + 1) (line + 1) gt wr n

/-! ### Arbitration of the coefficient buses (01 R32, R33) -/

/-- The arbiter of a carrier's coefficient bus. -/
def State.bus (s : State) : Carrier → BusArb
  | .a => s.cores.busA
  | .b => s.cores.busB

/-- An arbiter takes another state. -/
def State.setBus (s : State) (car : Carrier) (b : BusArb) : State :=
  match car with
  | .a => { s with cores := { s.cores with busA := b } }
  | .b => { s with cores := { s.cores with busB := b } }

/-- Core c has a burst that waits for, or has, a carrier's bus. -/
def State.wantsBus (s : State) (car : Carrier) (c : Nat) : Bool := (s.core c).burst.any (fun b => burstCarrier c b.line = car)

/-- The core of n from a first one on that asks, round-robin in core number order after the last core granted (01 R32). -/
def State.arbNext (s : State) (car : Carrier) (first n last : Nat) : Option Nat :=
  ((List.range n).map (fun i => first + (last - first + 1 + i) % n)).find? (s.wantsBus car)

/-- The bus is free and the next burst is granted (01 R32): an urgent request, a plotter's, before a normal one, a surveyor's; but after
four urgent bursts in a row a normal one that waits. -/
def State.arbitrate (s : State) (car : Carrier) : State :=
  let b := s.bus car
  if b.granted.any (s.wantsBus car) then s
  else
    match s.arbNext car 64 4 b.lastUrgent, s.arbNext car 0 64 b.lastNormal with
    | none, none => s.setBus car { b with granted := none, run := 0 }
    | some u, none => s.setBus car { b with granted := some u, lastUrgent := u, run := b.run + 1 }
    | none, some v => s.setBus car { b with granted := some v, lastNormal := v, run := 0 }
    | some u, some v =>
      if b.run < 4 then s.setBus car { b with granted := some u, lastUrgent := u, run := b.run + 1 }
      else s.setBus car { b with granted := some v, lastNormal := v, run := 0 }

/-- Core c's burst has its grant. -/
def State.hasGrant (s : State) (c : Nat) : Bool :=
  (s.core c).burst.any (fun b => (s.bus (burstCarrier c b.line)).granted = some c)

/-- The burst a core waits for completes, and its bus is granted anew; answers the line of a mismatch. -/
def State.doBurst (s : State) (c : Nat) : State × Option Nat :=
  match (s.core c).burst with
  | none => (s, none)
  | some b =>
    let p := (s.modCore c (fun x => { x with burst := none })).burstLines c (b.addr / 32) (b.line % 2 ^ 20) b.line b.write b.n
    (p.1.arbitrate (burstCarrier c b.line), p.2)

/-- A core's registers, stacks and ports after a start (11 R308); its memories stay, a Legend request in flight goes on with its
response to be discarded (R325), and its watchdog starts with its first instruction. -/
def Core.fresh (x : Core) : Core :=
  { Core.reset with
    imem := x.imem, dmem := x.dmem, restarts := x.restarts, steps := x.steps, stepsFrom := x.stepsFrom
    lgBusy := x.lgBusy, lgDiscard := x.lgBusy, lgBytes := x.lgBytes }

/-- A core stops for a restart (11 R325): a burst in progress, or waiting for its grant, completes; a draft the core owns is discarded. -/
def State.stopCore (s : State) (c : Nat) : State :=
  let s := (s.doBurst c).1
  let s := { s with integ := { s.integ with refetch := s.integ.refetch.filter (fun e => e.1 ≠ c) } }
  (s.modCore c Core.fresh).discardOwned (coreSource c)

/-- A core restarts from its image. -/
def State.restartCore (s : State) (c : Nat) : State := (s.stopCore c).wr (K.coreState c) 1

/-- A core is left HALTED (11 R313, R323). -/
def State.haltCore (s : State) (c : Nat) : State :=
  (s.wr (K.coreState c) 3).raise Ev.fwCoreHalted noKey

/-- A restart by watchdog or integrity reset: the third within 1 s leaves the core HALTED (11 R323, 16 R410). -/
def State.autoRestart (s : State) (c : Nat) : State :=
  let r := (s.datum :: (s.core c).restarts).filter (fun t => s.datum < t + 1000000000)
  let s := s.modCore c (fun x => { x with restarts := r.take 3 })
  if 3 ≤ r.length then s.haltCore c else s.restartCore c

/-- A mismatch on a read of a data-memory line (16 R410, R412, R413): a surveyor core restarts, a plotter core's device resets. -/
def State.dataMismatch (s : State) (c line : Nat) : State :=
  let s := s.mismatch (0x100 + c) line 1
  if c < 64 then ((s.bump (K.coreIntResetCount c)).raise Ev.intCoreReset noKey).autoRestart c
  else s.integrityReset (0x100 + c) line

/-- A core's instruction fetch moves to an index; a line whose check fails stalls it for a refetch (16 R406). -/
def State.coreGoto (s : State) (c pc : Nat) : State :=
  let pc := pc % 8192
  let moved := pc / 8 ≠ (s.core c).pc / 8
  let s := s.modCore c (fun x => { x with pc := pc })
  if moved && s.lineBad c (pc / 8) then
    let s := s.mismatch c (pc / 8) 0
    { s with integ := { s.integ with refetch := s.integ.refetch ++ [(c, pc / 8)] } }
  else s

end Sys2Proof.Machine
end

