-- ==== Sys2Proof/Machine/CoreOps.lean ====
section
/-! DEFINITION. What every core instruction is built from (spec 11 R308 to R313): registers, one step and how it ends, faults,
data-memory access, address post-modify, narrowing. -/

namespace Sys2Proof.Machine

/-! ### Registers -/

/-- G register i. -/
def Core.gr (x : Core) (i : Nat) : BitVec 32 := nth x.g (i % 16) 0

/-- G register i takes a value. -/
def Core.setG (x : Core) (i : Nat) (v : BitVec 32) : Core := { x with g := x.g.set (i % 16) v }

/-- D register i. -/
def Core.dr (x : Core) (i : Nat) : BitVec 18 × BitVec 18 := nth x.d i (0, 0)

/-- D register i takes a value. -/
def Core.setD (x : Core) (i : Nat) (v : BitVec 18 × BitVec 18) : Core := { x with d := x.d.set i v }

/-- Accumulator i. -/
def Core.acc (x : Core) (i : Nat) : BitVec 48 × BitVec 48 := nth x.ac i (0, 0)

/-- Accumulator i takes a value. -/
def Core.setAc (x : Core) (i : Nat) (v : BitVec 48 × BitVec 48) : Core := { x with ac := x.ac.set i v }

/-- Address register i, as a number. -/
def Core.ar (x : Core) (i : Nat) : Nat := (nth x.a (i % 4) (0 : BitVec 16)).toNat

/-- Address register i takes a value. -/
def Core.setA (x : Core) (i : Nat) (v : Nat) : Core := { x with a := x.a.set (i % 4) (BitVec.ofNat 16 v) }

/-- Z and N of a result (11 R312). -/
def Core.zn (x : Core) (r : BitVec 32) : Core := { x with z := r = 0, n := r.msb }

/-- An address after its post-modify by O register m (11 R311): linear while Ln is 0, else inside the aligned block of Ln
bytes. -/
def Core.postModify (x : Core) (n m : Nat) : Core :=
  let a := nth x.a (n % 4) (0 : BitVec 16)
  let o := nth x.o (m % 4) (0 : BitVec 16)
  let l := nth x.l (n % 4) (0 : BitVec 16)
  let v := if l = 0 then a + o else (a &&& ~~~(l - 1)) ||| ((a + o) &&& (l - 1))
  { x with a := x.a.set (n % 4) v }

/-- The circular length a value sets (11 R311): the largest power of two not above it, from 8 to 32,768; 0 below 8. -/
def circularLen (v : Int) : Nat := if v < 8 then 0 else min (2 ^ Nat.log2 v.toNat) 32768

/-! ### Narrowing (11 R309, R310) -/

/-- A number saturated to w bits, and whether it saturated. -/
def saturate (w : Nat) (v : Int) : BitVec w × Bool :=
  let r := clampInt v (-(2 ^ (w - 1))) (2 ^ (w - 1) - 1)
  (BitVec.ofInt w r, decide (r ≠ v))

/-- floor(v / 2^s) into w bits. -/
def narrow (w : Nat) (v : Int) (s : Nat) : BitVec w × Bool := saturate w (v / 2 ^ s)

/-- Bits 31:14 of a half (R310). -/
def topHalf (v : BitVec 32) : BitVec 18 := v.extractLsb' 14 18

/-- A part widened into bits 31:14 (R310). -/
def widen (v : BitVec 18) : BitVec 32 := BitVec.ofNat 32 (v.toNat * 2 ^ 14)

/-- The exact complex product of two operands (R309). -/
def cproduct (p q : BitVec 18 × BitVec 18) (conj : Bool) : Int × Int :=
  let im : Int := if conj then -q.2.toInt else q.2.toInt
  (p.1.toInt * q.1.toInt - p.2.toInt * im, p.1.toInt * im + p.2.toInt * q.1.toInt)

/-- A product added to an accumulator, or subtracted, or put in place of it; each part saturates and sets AOV. -/
def Core.accumulate (x : Core) (t : Nat) (p : Int × Int) (how : Int) : Core :=
  let old := x.acc t
  let keep : Int := if how = 0 then 0 else 1
  let sgn : Int := if how < 0 then -1 else 1
  let re := saturate 48 (keep * old.1.toInt + sgn * p.1)
  let im := saturate 48 (keep * old.2.toInt + sgn * p.2)
  { x.setAc t (re.1, im.1) with aov := x.aov || re.2 || im.2 }

/-! ### One step -/

/-- How an instruction ends: the next index with loop ends, a jump, a fault by cause, a stall at its index, or the core or the
device restarted under it. -/
inductive StepEnd where
  | next
  | jump (pc : Nat)
  | fault (cause : Nat)
  | stall
  | lost
  deriving DecidableEq, Repr

/-- A core fault (11 R313): cause and index go to the ports, 58.017 and 58.018, FW_CORE_FAULT, and execution continues at
instruction 2; inside the handler the core is HALTED. -/
def State.coreFault (s : State) (c cause : Nat) : State :=
  let x := s.core c
  if x.fault ≠ 0 then s.haltCore c
  else
    let s := s.modCore c (fun y => { y with fault := cause, faultPc := x.pc, waiting := none, burst := none })
    let s := (s.bump (K.faultCount c)).wr (K.lastFault c) (cause * 2 ^ 24 + x.pc : Nat)
    ((s.wr (K.coreState c) 2).raise Ev.fwCoreFault noKey).coreGoto c 2

/-- The loop stack at the end of an instruction that falls through (11 R312, LOOP): the next index and the levels left. -/
def loopEnd (pc : Nat) : List (Nat × Nat × Nat) → Nat × List (Nat × Nat × Nat)
  | [] => (pc + 1, [])
  | (start, last, left) :: t =>
    if pc = last then (if 1 < left then (start, (start, last, left - 1) :: t) else loopEnd pc t)
    else (pc + 1, (start, last, left) :: t)

/-- An instruction has fallen through. -/
def State.coreNext (s : State) (c : Nat) : State :=
  let x := s.core c
  let p := loopEnd x.pc x.loops
  (s.modCore c (fun y => { y with loops := p.2 })).coreGoto c p.1

/-- A step's end. -/
def State.coreEnd (s : State) (c : Nat) : StepEnd → State
  | .next => s.coreNext c
  | .jump pc => s.coreGoto c pc
  | .fault cause => s.coreFault c cause
  | .stall => s
  | .lost => s

/-- Core c executes: it runs or is in its fault handler, and waits for no event, burst or refetch. -/
def State.coreLive (s : State) (c : Nat) : Bool :=
  c < 68 && (s.rd (K.coreState c) = 1 || s.rd (K.coreState c) = 2) && (s.core c).waiting.isNone && (s.core c).burst.isNone &&
    !s.integ.refetch.any (fun e => e.1 = c)

/-- Steps counted for 58.012 (11 R316), and the watchdog started at the first instruction (R323). -/
def State.countSteps (s : State) (c n : Nat) : State :=
  let ms := s.datum / 1000000
  let x := s.core c
  let s := if x.stepsFrom = ms then s
    else s.wr (K.coreRate c) (if x.stepsFrom + 1 = ms then min (x.steps / 1000) 4000 else 0 : Nat)
  s.modCore c (fun y => { y with
    steps := if y.stepsFrom = ms then y.steps + n else n
    stepsFrom := ms
    wdogFrom := if y.wdogFrom.isSome then y.wdogFrom else some s.datum })

/-- One instruction of core c, of n steps. -/
def State.coreInstr (s : State) (c n : Nat) (f : State → State × StepEnd) : State :=
  when (s.coreLive c) s fun s =>
    let p := f (s.countSteps c n)
    p.1.coreEnd c p.2

/-- An instruction that only changes the core's registers. -/
def State.coreReg (s : State) (c : Nat) (f : Core → Core) : State × StepEnd := (s.modCore c f, .next)

/-! ### Data memory (11 R314, R315) -/

/-- Bytes of a line from a byte offset. -/
def sliceOf (v off n : Nat) : Nat := v / 256 ^ (32 - off - n) % 256 ^ n

/-- A line with bytes replaced from a byte offset. -/
def patchOf (v off n b : Nat) : Nat := v - sliceOf v off n * 256 ^ (32 - off - n) + b % 256 ^ n * 256 ^ (32 - off - n)

/-- A load of n bytes at an aligned address: the value, or the line of a mismatch. -/
def State.dload (s : State) (c addr n : Nat) : Option Nat := (s.dline c (addr / 32)).map (fun v => sliceOf v (addr % 32) n)

/-- A partial-line store of n bytes at an aligned address, after the check of its line (16 R413). -/
def State.dstore (s : State) (c addr n v : Nat) : State × StepEnd :=
  match s.dline c (addr / 32) with
  | none => (s.dataMismatch c (addr / 32), .lost)
  | some old => (s.modCore c (fun x => { x with dmem := aput x.dmem (addr / 32) (patchOf old (addr % 32) n v) }), .next)

/-- A step that needs n bytes of data memory. -/
def State.withLoad (s : State) (c addr n : Nat) (f : Nat → State × StepEnd) : State × StepEnd :=
  match s.dload c addr n with
  | none => (s.dataMismatch c (addr / 32), .lost)
  | some v => f v

/-- n bytes of data memory from an address, line by line; the line of the first mismatch otherwise. -/
def State.dbytes (s : State) (c : Nat) : Nat → Nat → Nat → List Byte ⊕ Nat
  | 0, _, _ => .inl []
  | fuel + 1, addr, n =>
    if n = 0 then .inl []
    else
      match s.dline c (addr / 32 % 2048) with
      | none => .inr (addr / 32 % 2048)
      | some v =>
        let k := min n (32 - addr % 32)
        match s.dbytes c fuel (addr + k) (n - k) with
        | .inl t => .inl ((beBytes 32 v).drop (addr % 32) |>.take k |> (· ++ t))
        | .inr l => .inr l

/-- A complex operand read from a 64-bit word (R310). -/
def operandOf (v : Nat) : BitVec 18 × BitVec 18 := (topHalf (BitVec.ofNat 32 (v / 2 ^ 32)), topHalf (BitVec.ofNat 32 v))

/-- Post-modify of a memory instruction, unless it has none. -/
def State.postMod (s : State) (c n m : Nat) (noPost : Bool) : State :=
  if noPost then s else s.modCore c (fun x => x.postModify n m)

end Sys2Proof.Machine
end

