-- ==== Sys2Proof/Machine/CoreInstr.lean ====
section
/-! DEFINITION. The core instructions (spec 11 R312). Each command says that core c executes the instruction as its next step;
operands are the instruction's fields. D fields above 7 and AC fields above 3 are undefined fields (R312, R313). -/

namespace Sys2Proof.Machine

/-- A fault for an undefined field (11 R313). -/
abbrev illegal : StepEnd := .fault 1

/-- A step whose fields are defined. -/
def fieldsOk (p : Bool) (s : State) (f : State → State × StepEnd) : State × StepEnd := if p then f s else (s, illegal)

/-! ### G registers -/

/-- A G-register result with Z and N. -/
def gLogic (c t : Nat) (r : Core → BitVec 32) (s : State) : State × StepEnd :=
  s.coreReg c (fun x => (x.setG t (r x)).zn (r x))

/-- A sum with its flags. -/
def addFlags (t : Nat) (a b : BitVec 32) (x : Core) : Core :=
  let r := a + b
  { (x.setG t r).zn r with c := decide (2 ^ 32 ≤ a.toNat + b.toNat), v := decide (r.toInt ≠ a.toInt + b.toInt) }

/-- A difference with its flags; the sense of C is open (Config.subCarry). -/
def subFlags (t : Nat) (a b : BitVec 32) (x : Core) : Core :=
  let r := a - b
  { (x.setG t r).zn r with
    c := if Config.subCarry then decide (b.toNat ≤ a.toNat) else decide (a.toNat < b.toNat)
    v := decide (r.toInt ≠ a.toInt - b.toInt) }

/-- NOP. -/
def coreNop (s : State) : State × StepEnd := (s, .next)

/-- ADD. -/
def coreAdd (c t u v : Nat) (s : State) : State × StepEnd := s.coreReg c (fun x => addFlags t (x.gr u) (x.gr v) x)

/-- SUB. -/
def coreSub (c t u v : Nat) (s : State) : State × StepEnd := s.coreReg c (fun x => subFlags t (x.gr u) (x.gr v) x)

/-- MUL: the low 32 bits of the product; Z, N. -/
def coreMul (c t u v : Nat) (s : State) : State × StepEnd := gLogic c t (fun x => x.gr u * x.gr v) s

/-- AND. -/
def coreAnd (c t u v : Nat) (s : State) : State × StepEnd := gLogic c t (fun x => x.gr u &&& x.gr v) s

/-- OR. -/
def coreOr (c t u v : Nat) (s : State) : State × StepEnd := gLogic c t (fun x => x.gr u ||| x.gr v) s

/-- XOR. -/
def coreXor (c t u v : Nat) (s : State) : State × StepEnd := gLogic c t (fun x => x.gr u ^^^ x.gr v) s

/-- SHL: no flag is named. -/
def coreShl (c t u sh : Nat) (s : State) : State × StepEnd :=
  s.coreReg c (fun x => x.setG t (BitVec.ofNat 32 ((x.gr u).toNat * 2 ^ (sh % 64))))

/-- SHR: floor(Gu / 2^s) (R310). -/
def coreShr (c t u sh : Nat) (s : State) : State × StepEnd :=
  s.coreReg c (fun x =>
    let r := narrow 32 (x.gr u).toInt (sh % 64)
    { x.setG t r.1 with sov := x.sov || r.2 })

/-- ADDI. -/
def coreAddi (c t u : Nat) (imm : Int) (s : State) : State × StepEnd :=
  s.coreReg c (fun x => addFlags t (x.gr u) (BitVec.ofInt 32 (toSigned 18 (ofSigned 18 imm))) x)

/-- LUI. -/
def coreLui (c t : Nat) (imm : Int) (s : State) : State × StepEnd :=
  s.coreReg c (fun x => x.setG t (BitVec.ofInt 32 (toSigned 18 (ofSigned 18 imm) * 2 ^ 14)))

/-! ### Control flow -/

/-- A condition of B; codes 8 to 15 are undefined. -/
def condHolds (x : Core) : Nat → Option Bool
  | 0 => some true
  | 1 => some x.z
  | 2 => some (!x.z)
  | 3 => some (x.n != x.v)
  | 4 => some (x.n == x.v)
  | 5 => some x.n
  | 6 => some (!x.n)
  | 7 => some x.v
  | _ => none

/-- An index moved by a displacement, modulo the 8,192 instructions PC addresses. -/
def displaced (pc : Nat) (disp : Int) : Nat := (((pc : Int) + toSigned 22 (ofSigned 22 disp)) % 8192).toNat

/-- B. -/
def coreB (c cond : Nat) (disp : Int) (s : State) : State × StepEnd :=
  match condHolds (s.core c) (cond % 16) with
  | none => (s, illegal)
  | some true => (s.countSteps c 1, .jump (displaced (s.core c).pc disp))
  | some false => (s, .next)

/-- CALL: eight link entries (R308); one more is a STACK fault. -/
def coreCall (c : Nat) (disp : Int) (s : State) : State × StepEnd :=
  let x := s.core c
  if 8 ≤ x.links.length then (s, .fault 3)
  else (s.modCore c (fun y => { y with links := ((x.pc + 1) % 8192) :: y.links }), .jump (displaced x.pc disp))

/-- RET. -/
def coreRet (c : Nat) (s : State) : State × StepEnd :=
  match (s.core c).links with
  | [] => (s, .fault 3)
  | p :: t => (s.modCore c (fun y => { y with links := t }), .jump p)

/-- LOOP: the next len instructions Gt times; two levels (R308). -/
def coreLoop (c t len : Nat) (s : State) : State × StepEnd :=
  let x := s.core c
  let n := (x.gr t).toNat
  let len := len % 64 + 1
  if n = 0 then
    let p := loopEnd ((x.pc + len) % 8192) x.loops
    (s.modCore c (fun y => { y with loops := p.2 }), .jump p.1)
  else if 2 ≤ x.loops.length then (s, .fault 3)
  else (s.modCore c (fun y => { y with loops := ((x.pc + 1) % 8192, (x.pc + len) % 8192, n) :: y.loops }), .jump (x.pc + 1))

/-- HALT: CORE_STATE reads HALTED. -/
def coreHalt (c : Nat) (s : State) : State × StepEnd := (s.wr (K.coreState c) 3, .stall)

/-- Event bits pending at a core (11 R321): those that occurred, and for a plotter bit 6 while its view holds an unread
record. -/
def State.coreEvents (s : State) (c : Nat) : Nat :=
  setBit (s.core c).events 6 (64 ≤ c && !(s.ev.unread (s.view (4 + (c - 64)))).isEmpty)

/-- WAIT. -/
def coreWait (c u : Nat) (s : State) : State × StepEnd :=
  let m := ((s.core c).gr u).toNat % 128
  if (s.coreEvents c) &&& m ≠ 0 then (s, .next) else (s.modCore c (fun x => { x with waiting := some m }), .stall)

/-! ### Memory -/

/-- LDW. -/
def coreLdw (c t n m : Nat) (noPost : Bool) (s : State) : State × StepEnd :=
  s.withLoad c ((s.core c).ar n / 4 * 4) 4 fun v =>
    ((s.modCore c (fun x => x.setG t (BitVec.ofNat 32 v))).postMod c n m noPost, .next)

/-- A store, then the post-modify. -/
def storeThen (c addr k v n m : Nat) (noPost : Bool) (s : State) : State × StepEnd :=
  match s.dstore c addr k v with
  | (s, .next) => (s.postMod c n m noPost, .next)
  | r => r

/-- STW. -/
def coreStw (c t n m : Nat) (noPost : Bool) (s : State) : State × StepEnd :=
  storeThen c ((s.core c).ar n / 4 * 4) 4 ((s.core c).gr t).toNat n m noPost s

/-- LDC. -/
def coreLdc (c t n m : Nat) (noPost : Bool) (s : State) : State × StepEnd :=
  fieldsOk (t < 8) s fun s => s.withLoad c ((s.core c).ar n / 8 * 8) 8 fun v =>
    ((s.modCore c (fun x => x.setD t (operandOf v))).postMod c n m noPost, .next)

/-- STC. -/
def coreStc (c t n m : Nat) (noPost : Bool) (s : State) : State × StepEnd :=
  fieldsOk (t < 8) s fun s =>
    let d := (s.core c).dr t
    storeThen c ((s.core c).ar n / 8 * 8) 8 ((widen d.1).toNat * 2 ^ 32 + (widen d.2).toNat) n m noPost s

/-- Lines of zero written from a line number (11 R315). -/
def State.zeroLines (s : State) (c line : Nat) : Nat → State
  | 0 => s
  | n + 1 => (s.putLine c line 0).zeroLines c (line + 1) n

/-- ZL: count - 1 in its field; An advances 32 per line. -/
def coreZl (c n count : Nat) (s : State) : State × StepEnd :=
  let a := (s.core c).ar n
  let k := count % 64 + 1
  ((s.zeroLines c (a / 32) k).modCore c (fun x => x.setA n (a + 32 * k)), .next)

/-! ### Moves -/

/-- MGD. -/
def coreMgd (c t u v : Nat) (s : State) : State × StepEnd :=
  fieldsOk (t < 8) s fun s => s.coreReg c (fun x => x.setD t (topHalf (x.gr u), topHalf (x.gr v)))

/-- MDG. -/
def coreMdg (c t u : Nat) (im : Bool) (s : State) : State × StepEnd :=
  fieldsOk (u < 8) s fun s => s.coreReg c (fun x => x.setG t (widen (if im then (x.dr u).2 else (x.dr u).1)))

/-- The value of a register by its MVX code: A and L as they are, O signed. -/
def Core.mvxGet (x : Core) (u : Nat) : BitVec 32 :=
  if u < 16 then x.gr u
  else if u < 20 then BitVec.ofNat 32 (x.ar u)
  else if u < 24 then (nth x.o (u % 4) (0 : BitVec 16)).signExtend 32
  else BitVec.ofNat 32 (nth x.l (u % 4) (0 : BitVec 16)).toNat

/-- A register takes a value by its MVX code. -/
def Core.mvxSet (x : Core) (t : Nat) (v : BitVec 32) : Core :=
  if t < 16 then x.setG t v
  else if t < 20 then x.setA t v.toNat
  else if t < 24 then { x with o := x.o.set (t % 4) (v.setWidth 16) }
  else { x with l := x.l.set (t % 4) (BitVec.ofNat 16 (circularLen v.toInt)) }

/-- MVX: between G registers and A, O or L registers; codes above 0x1B and moves between two of A, O and L are ILLEGAL. -/
def coreMvx (c t u : Nat) (s : State) : State × StepEnd :=
  fieldsOk (t < 0x1C && u < 0x1C && (t < 16 || u < 16)) s fun s => s.coreReg c (fun x => x.mvxSet t (x.mvxGet u))

/-! ### Complex arithmetic -/

/-- A product of two D registers into an accumulator: `how` 0 replaces, 1 adds, -1 subtracts. -/
def coreProduct (c t u v : Nat) (conj : Bool) (how : Int) (s : State) : State × StepEnd :=
  fieldsOk (t < 4 && u < 8 && v < 8) s fun s =>
    s.coreReg c (fun x => x.accumulate t (cproduct (x.dr u) (x.dr v) conj) how)

/-- CMACM: D6 and D7 through A0 and A1, then the sum. -/
def coreCmacm (c t : Nat) (s : State) : State × StepEnd :=
  fieldsOk (t < 4) s fun s =>
    s.withLoad c ((s.core c).ar 0 / 8 * 8) 8 fun p =>
      s.withLoad c ((s.core c).ar 1 / 8 * 8) 8 fun q =>
        s.coreReg c (fun x =>
          let x := (((x.setD 6 (operandOf p)).postModify 0 0).setD 7 (operandOf q)).postModify 1 1
          x.accumulate t (cproduct (x.dr 6) (x.dr 7) false) 1)

/-- CLRA. -/
def coreClra (c t : Nat) (s : State) : State × StepEnd :=
  fieldsOk (t < 4) s fun s => s.coreReg c (fun x => x.setAc t (0, 0))

/-- SAC. -/
def coreSac (c t u sh : Nat) (s : State) : State × StepEnd :=
  fieldsOk (t < 8 && u < 4) s fun s => s.coreReg c (fun x =>
    let re := narrow 18 (x.acc u).1.toInt (sh % 64)
    let im := narrow 18 (x.acc u).2.toInt (sh % 64)
    { x.setD t (re.1, im.1) with sov := x.sov || re.2 || im.2 })

/-- SACG. -/
def coreSacg (c t u : Nat) (im : Bool) (sh : Nat) (s : State) : State × StepEnd :=
  fieldsOk (u < 4) s fun s => s.coreReg c (fun x =>
    let r := narrow 32 (if im then (x.acc u).2 else (x.acc u).1).toInt (sh % 64)
    { x.setG t r.1 with sov := x.sov || r.2 })

/-! ### Coefficient bursts (11 R318) -/

/-- A line the core may write: its own cluster's region, or every coefficient region for a plotter (01 R31). -/
def State.coefAllowed (s : State) (c gt line : Nat) : Bool :=
  let car := burstCarrier c gt
  s.present car && coefWritable line && (64 ≤ c || line / 256 = c % 32)

/-- CBX: a write burst is checked whole first, and a refused one never reaches the bus; the core then waits for its grant and burst (11
R318, 01 R32). -/
def coreCbx (c t n num : Nat) (wr : Bool) (s : State) : State × StepEnd :=
  let x := s.core c
  let gt := (x.gr t).toNat
  let k := num % 16 + 1
  let line := gt % 2 ^ 20
  if wr && !(List.range k).all (fun i => s.coefAllowed c gt (line + i)) then (s, .fault 2)
  else ((s.modCore c (fun y => { y with burst := some ⟨x.ar n / 32 * 32, gt, k, wr⟩ })).arbitrate (burstCarrier c gt), .stall)

/-! ### The commands -/

/-- NOP (11 R312): no operation. -/
def execNop (c : Nat) (s : State) : Out := .next (s.coreInstr c 1 (coreNop))

/-- ADD (11 R312): Gt = Gu + Gv; Z, N, C, V. -/
def execAdd (c t u v : Nat) (s : State) : Out := .next (s.coreInstr c 1 (coreAdd c t u v))

/-- SUB (11 R312): Gt = Gu - Gv; Z, N, C, V. -/
def execSub (c t u v : Nat) (s : State) : Out := .next (s.coreInstr c 1 (coreSub c t u v))

/-- MUL (11 R312). -/
def execMul (c t u v : Nat) (s : State) : Out := .next (s.coreInstr c 1 (coreMul c t u v))

/-- AND (11 R312). -/
def execAndd (c t u v : Nat) (s : State) : Out := .next (s.coreInstr c 1 (coreAnd c t u v))

/-- OR (11 R312). -/
def execOrr (c t u v : Nat) (s : State) : Out := .next (s.coreInstr c 1 (coreOr c t u v))

/-- XOR (11 R312). -/
def execXorr (c t u v : Nat) (s : State) : Out := .next (s.coreInstr c 1 (coreXor c t u v))

/-- SHL (11 R312): Gt = Gu x 2^s. -/
def execShl (c t u sh : Nat) (s : State) : Out := .next (s.coreInstr c 1 (coreShl c t u sh))

/-- SHR (11 R312): Gt = floor(Gu / 2^s). -/
def execShr (c t u sh : Nat) (s : State) : Out := .next (s.coreInstr c 1 (coreShr c t u sh))

/-- ADDI (11 R312): Gt = Gu + imm (18 bits, signed). -/
def execAddi (c t u : Nat) (imm : Int) (s : State) : Out := .next (s.coreInstr c 1 (coreAddi c t u imm))

/-- LUI (11 R312): Gt = imm x 2^14. -/
def execLui (c t : Nat) (imm : Int) (s : State) : Out := .next (s.coreInstr c 1 (coreLui c t imm))

/-- B (11 R312): 1 step, or 2 if taken. -/
def execBranch (c cond : Nat) (disp : Int) (s : State) : Out := .next (s.coreInstr c 1 (coreB c cond disp))

/-- CALL (11 R312). -/
def execCall (c : Nat) (disp : Int) (s : State) : Out := .next (s.coreInstr c 2 (coreCall c disp))

/-- RET (11 R312). -/
def execRet (c : Nat) (s : State) : Out := .next (s.coreInstr c 2 (coreRet c))

/-- LOOP (11 R312): len holds its count field, len - 1. -/
def execLoopi (c t len : Nat) (s : State) : Out := .next (s.coreInstr c 1 (coreLoop c t len))

/-- LDW (11 R312). -/
def execLdw (c t n m : Nat) (noPost : Bool) (s : State) : Out := .next (s.coreInstr c 1 (coreLdw c t n m noPost))

/-- STW (11 R312). -/
def execStw (c t n m : Nat) (noPost : Bool) (s : State) : Out := .next (s.coreInstr c 2 (coreStw c t n m noPost))

/-- LDC (11 R312). -/
def execLdc (c t n m : Nat) (noPost : Bool) (s : State) : Out := .next (s.coreInstr c 1 (coreLdc c t n m noPost))

/-- STC (11 R312). -/
def execStc (c t n m : Nat) (noPost : Bool) (s : State) : Out := .next (s.coreInstr c 2 (coreStc c t n m noPost))

/-- ZL (11 R312): whole lines of zero, one step each. -/
def execZl (c n count : Nat) (s : State) : Out := .next (s.coreInstr c (count % 64 + 1) (coreZl c n count))

/-- MGD (11 R312). -/
def execMgd (c t u v : Nat) (s : State) : Out := .next (s.coreInstr c 1 (coreMgd c t u v))

/-- MDG (11 R312). -/
def execMdg (c t u : Nat) (im : Bool) (s : State) : Out := .next (s.coreInstr c 1 (coreMdg c t u im))

/-- MVX (11 R312). -/
def execMvx (c t u : Nat) (s : State) : Out := .next (s.coreInstr c 1 (coreMvx c t u))

/-- CMUL (11 R312): ACt = Du x Dv. -/
def execCmul (c t u v : Nat) (s : State) : Out := .next (s.coreInstr c 1 (coreProduct c t u v false 0))

/-- CMAC (11 R312): ACt += Du x Dv. -/
def execCmac (c t u v : Nat) (s : State) : Out := .next (s.coreInstr c 1 (coreProduct c t u v false 1))

/-- CMACJ (11 R312): ACt += Du x conj(Dv). -/
def execCmacj (c t u v : Nat) (s : State) : Out := .next (s.coreInstr c 1 (coreProduct c t u v true 1))

/-- CMSU (11 R312): ACt -= Du x Dv. -/
def execCmsu (c t u v : Nat) (s : State) : Out := .next (s.coreInstr c 1 (coreProduct c t u v false (-1)))

/-- CMACM (11 R312). -/
def execCmacm (c t : Nat) (s : State) : Out := .next (s.coreInstr c 1 (coreCmacm c t))

/-- CLRA (11 R312). -/
def execClra (c t : Nat) (s : State) : Out := .next (s.coreInstr c 1 (coreClra c t))

/-- SAC (11 R312). -/
def execSac (c t u sh : Nat) (s : State) : Out := .next (s.coreInstr c 1 (coreSac c t u sh))

/-- SACG (11 R312). -/
def execSacg (c t u : Nat) (im : Bool) (sh : Nat) (s : State) : Out := .next (s.coreInstr c 1 (coreSacg c t u im sh))

/-- CBX (11 R312): the core requests a coefficient burst (R318). -/
def execCbx (c t n num : Nat) (wr : Bool) (s : State) : Out := .next (s.coreInstr c 0 (coreCbx c t n num wr))

/-- WAIT (11 R312): the core stalls until a selected event bit is pending (R321). -/
def execWait (c u : Nat) (s : State) : Out := .next (s.coreInstr c 0 (coreWait c u))

/-- HALT (11 R312): the core stops. -/
def execHalt (c : Nat) (s : State) : Out := .next (s.coreInstr c 1 (coreHalt c))

/-- CBX_COMPLETE: the granted burst completes and the core goes on (11 R318); a data line whose check fails is a mismatch. -/
def execCbxComplete (c : Nat) (s : State) : Out :=
  .next (when (s.hasGrant c) s fun s =>
    match s.doBurst c with
    | (s, none) => s.coreNext c
    | (s, some line) => s.dataMismatch c line)

/-- CORE_WAIT_WAKE: a selected event is pending and the waiting core resumes (11 R321). -/
def execCoreWaitWake (c : Nat) (s : State) : Out :=
  .next (match (s.core c).waiting with
    | some m =>
      when ((s.coreEvents c) &&& m ≠ 0) s fun s =>
        let s := (s.modCore c (fun x => { x with waiting := none })).coreNext c
        -- a debug step of a WAIT ends (17 R445)
        if (s.core c).stepping then (s.modCore c (fun x => { x with stepping := false })).wr (K.coreState c) 4 else s
    | none => s)

/-- ILLEGAL_OPCODE: core c executes a word with an undefined opcode or field (11 R312, R313). -/
def execIllegalOpcode (c : Nat) (s : State) : Out := .next (s.coreInstr c 1 (fun s => (s, illegal)))

end Sys2Proof.Machine
end

