-- ==== Sys2Proof/Machine/CorePorts.lean ====
section
/-! DEFINITION. The ports of the cores (spec 11 R319 to R323): what IN reads and OUT writes, and the events of their engines. -/

namespace Sys2Proof.Machine

/-! ### Helpers -/

/-- Writes bytes as whole lines from an aligned address; `fill` fills the last line. -/
def State.putBytes (s : State) (c addr : Nat) (fill bs : List Byte) : State := s.putLines c (addr % 65536 / 32) (cutLines 2048 fill bs)

/-- Which core: 64 to 67 are plotters. -/
def isPlotterCore (c : Nat) : Bool := 64 ≤ c

/-- CORE_ID (R319). -/
def State.coreId (s : State) (c : Nat) : Nat :=
  if isPlotterCore c then 0xFF * 2 ^ 24 + Config.plotterLead % 256 * 2 ^ 16 + 256 + c
  else
    let g := 32 / s.subs (coreCarrier c)
    let k := c % 32 / g
    k * 2 ^ 24 + k * g * 2 ^ 16 + c

/-- FLAGS bits 5:0: Z, N, C, V, AOV, SOV. -/
def Core.flagBits (x : Core) : Nat := b2n x.z * 32 + b2n x.n * 16 + b2n x.c * 8 + b2n x.v * 4 + b2n x.aov * 2 + b2n x.sov

/-- A frame waits for its link: it stands in a queue of an output link (R322). -/
def State.appBusy (s : State) (seq : Nat) : Bool :=
  s.tv.links.any (fun l => l.queue.any (fun o =>
    o.frame.type = 5 && o.frame.src = s.rdN K.stationId && o.frame.epoch = s.tv.epoch && o.frame.seq = seq))

/-- The frame has reached an output link: it waits there, is being sent, or has been delivered here. -/
def State.appHeld (s : State) (seq : Nat) : Bool :=
  s.appBusy seq || s.tv.links.any (fun l => l.sending.any (fun o => o.frame.type = 5 && o.frame.seq = seq &&
    o.frame.src = s.rdN K.stationId)) || s.tv.inbox.any (fun i => i.frame.type = 5 && i.frame.seq = seq && i.frame.src = s.rdN K.stationId)

/-- A window byte: one that firmware has not written reads 0 (DESIGN CHOICE), and one of a bad line 0xFF (16 R411). -/
def State.winByte (s : State) (a : Nat) : Byte := if s.lineBad 0x320 (a / 32) then 0xFF else aget s.ports.winMem a 0

/-- The window takes a byte. -/
def State.putWin (s : State) (a : Nat) (b : Byte) : State :=
  { s with ports := { s.ports with winMem := if b = 0 then adel s.ports.winMem a else aput s.ports.winMem a b } }

/-- A word of the window is updated; in a bad line the other bytes become 0xFF (16 R411). -/
def State.putWinWord (s : State) (a v : Nat) : State :=
  let line := a / 32
  let s := if s.lineBad 0x320 line then
      ((List.range 32).foldl (fun s i => s.putWin (32 * line + i) 0xFF) (s.mismatch 0x320 line 6)).lineGood 0x320 line else s
  (List.range 4).foldl (fun s i => s.putWin (a + i) (nth (beBytes 4 v) i 0)) s

/-- WIN_ADDR: 0 to 8,316, aligned to 4. -/
def Core.winAt (x : Core) : Nat := min (x.winAddr / 4 * 4) 8316

/-- TIMER: the countdown, in us. -/
def State.timerLeft (s : State) (c : Nat) : Nat := ((s.core c).timer - s.datum + 999) / 1000

/-- The APP frame copied by APP_RX_POP: header and payload as whole lines; what fills the last line is free. -/
def State.appPop (s : State) (c : Nat) : State × Nat :=
  match s.cores.appRx with
  | [] => (s, 0)
  | bs :: t =>
    let s := { s with cores := { s.cores with appRx := t } }
    let n := 32 - bs.length % 32
    let s' := s.putBytes c ((s.core c).appRxAddr / 32 * 32) (freeBytes s.freeCtr n) bs
    ({ s' with freeCtr := s.freeCtr + n }, bs.length)

/-- WIN_QPOP: the oldest window write. -/
def State.winPop (s : State) : State × Nat :=
  match s.ports.winQueue with
  | [] => (s, 0)
  | (p, o, v) :: t => ({ s with ports := { s.ports with winQueue := t } }, 2 ^ 31 + p * 2 ^ 24 + o * 256 + v.toNat)

/-- The value IN reads from a port, and what the read does (R319). -/
def State.portIn (s : State) (c port : Nat) : State × Nat :=
  let x := s.core c
  let pl := isPlotterCore c
  match port with
  | 0x0000 => (s, s.coreId c)
  | 0x0001 => (s, x.flagBits)
  | 0x0002 => (s, x.fault)
  | 0x0003 => (s, x.faultPc)
  | 0x0008 => (s.modCore c (fun y => { y with datumHi := s.datum / 2 ^ 32 % 2 ^ 32 }), s.datum % 2 ^ 32)
  | 0x0009 => (s, x.datumHi)
  | 0x000A => (s, s.timerLeft c)
  | 0x000B => (s.modCore c (fun y => { y with events := 0 }), s.coreEvents c)
  | 0x0010 => (s, x.lgReqAddr)
  | 0x0011 => (s, x.lgReqLen)
  | 0x0012 => (s, x.lgRspAddr)
  | 0x0013 => (s, b2n x.lgBusy + b2n x.lgDone * 2 + b2n x.lgIgnored * 4)
  | 0x0020 => (s, if pl then x.appRxAddr else 0)
  | 0x0021 => if pl then s.appPop c else (s, 0)
  | 0x0022 => (s, if pl then x.appTxAddr else 0)
  | 0x0023 => (s, if pl then b2n (x.appSeq.any s.appBusy) + b2n x.appDropped * 2 else 0)
  | 0x0030 => (s, if pl then x.winAddr else 0)
  | 0x0031 => (s, if pl then beNat ((List.range 4).map (fun i => s.winByte (x.winAt + i))) else 0)
  | 0x0033 => if pl then s.winPop else (s, 0)
  | 0x0040 => (s, if pl then x.resSeg else 0)
  | 0x0041 => (s, if pl then x.resAddr else 0)
  | 0x0042 => (s, if pl then b2n x.resBusy + b2n x.resFailed * 2 else 0)
  | _ => (s, 0)

/-- LG_CTRL 1: the request is taken from data memory (R320), unless one is in flight. -/
def State.lgSend (s : State) (c : Nat) : State × StepEnd :=
  let x := s.core c
  if x.lgBusy then (s.modCore c (fun y => { y with lgIgnored := true }), .next)
  else
    match s.dbytes c 2049 (x.lgReqAddr / 32 * 32) (x.lgReqLen % 65536) with
    | .inr line => (s.dataMismatch c line, .lost)
    | .inl bs => (s.modCore c (fun y => { y with lgBusy := true, lgDone := false, lgIgnored := false, lgDiscard := false, lgBytes := bs }), .next)

/-- APP_TX_GO: the frame of a number of bytes at APP_TX_ADDR is sent (R322): TYPE, SRC, EPOCH, SEQ, HOPS and the checks are the
device's; CLASS TIME becomes MANAGEMENT. -/
def State.appSend (s : State) (c len : Nat) : State × StepEnd :=
  let x := s.core c
  match s.dbytes c 2049 (x.appTxAddr / 32 * 32) (len % 65536) with
  | .inr line => (s.dataMismatch c line, .lost)
  | .inl bs =>
    let h := beNat ((bs ++ List.replicate 14 (0 : Byte)).take 14)
    let cls := bitsOf h 105 104
    let seq := s.tv.seq
    let s := s.originate 5 (bitOf h 107) (if cls = 0 then 2 else cls) (bitsOf h 103 92) (bitsOf h 31 16) ((bs.drop 16).take (bitsOf h 47 32))
    (s.modCore c (fun y => { y with appSeq := some seq, appDropped := !s.appHeld seq }), .next)

/-- What OUT does at a port (R319). -/
def State.portOut (s : State) (c port : Nat) (v : Nat) : State × StepEnd :=
  let set := fun (f : Core → Core) => (s.modCore c f, StepEnd.next)
  let x := s.core c
  if 0x0020 ≤ port && !isPlotterCore c then (s, .next)
  else
    match port with
    | 0x0001 => set fun y => { y with aov := y.aov && !bitOf v 1, sov := y.sov && !bitOf v 0 }
    | 0x0002 =>
      if v = 0 && x.fault ≠ 0 then ((s.modCore c (fun y => { y with fault := 0 })).wr (K.coreState c) 1, .next) else (s, .next)
    | 0x0004 => if v = 0xA5C3 then set fun y => { y with wdogFrom := some s.datum } else (s, .next)
    | 0x000A => set fun y => { y with timer := if v = 0 then 0 else s.datum + 1000 * v }
    | 0x0010 => set fun y => { y with lgReqAddr := v }
    | 0x0011 => set fun y => { y with lgReqLen := v }
    | 0x0012 => set fun y => { y with lgRspAddr := v }
    | 0x0013 => if v = 1 then s.lgSend c else (s, .next)
    | 0x0020 => set fun y => { y with appRxAddr := v }
    | 0x0022 => set fun y => { y with appTxAddr := v }
    | 0x0023 => s.appSend c v
    | 0x0030 => set fun y => { y with winAddr := v }
    | 0x0031 => (s.putWinWord x.winAt v, .next)
    | 0x0032 =>
      let at_ := fun i => x.winAt + i
      let others := s.ports.winMark.filter (fun a => a / 4 ≠ x.winAt / 4)
      ({ s with ports := { s.ports with winMark := others ++ ((List.range 4).filter (fun i => bitOf v i)).map at_ } }, .next)
    | 0x0040 => set fun y => { y with resSeg := v }
    | 0x0041 => set fun y => { y with resAddr := v }
    | 0x0042 => if v = 1 && !x.resBusy then set fun y => { y with resBusy := true, resFailed := false } else (s, .next)
    | _ => (s, .next)

/-- IN Gt, port. -/
def coreIn (c t port : Nat) (s : State) : State × StepEnd :=
  let p := s.portIn c (port % 65536)
  (p.1.modCore c (fun x => x.setG t (BitVec.ofNat 32 p.2)), .next)

/-- OUT port, Gu. -/
def coreOut (c u port : Nat) (s : State) : State × StepEnd := s.portOut c (port % 65536) ((s.core c).gr u).toNat

/-! ### The commands -/

/-- IN (11 R312, R319). -/
def execInPort (c t port : Nat) (s : State) : Out := .next (s.coreInstr c 1 (coreIn c t port))

/-- OUT (11 R312, R319). -/
def execOutPort (c u port : Nat) (s : State) : Out := .next (s.coreInstr c 1 (coreOut c u port))

/-- FAULT_EXIT: 0 to port FAULT leaves the handler (11 R313). -/
def execFaultExit (c u : Nat) (s : State) : Out := .next (s.coreInstr c 1 (coreOut c u 0x0002))

/-- FLAGS_CLEAR: 1s to port FLAGS clear AOV or SOV. -/
def execFlagsClear (c u : Nat) (s : State) : Out := .next (s.coreInstr c 1 (coreOut c u 0x0001))

/-- WDOG_KICK: 0x0000_A5C3 to port WDOG restarts the watchdog (11 R323). -/
def execWdogKick (c u : Nat) (s : State) : Out := .next (s.coreInstr c 1 (coreOut c u 0x0004))

/-- DATUM_LO_READ: the read latches bits 63:32 into DATUM_HI. -/
def execDatumLoRead (c t : Nat) (s : State) : Out := .next (s.coreInstr c 1 (coreIn c t 0x0008))

/-- EVENTS_READ: the read clears the bits it returns. -/
def execEventsRead (c t : Nat) (s : State) : Out := .next (s.coreInstr c 1 (coreIn c t 0x000B))

/-- LG_SEND: Gu to LG_CTRL (11 R320). -/
def execLgSend (c u : Nat) (s : State) : Out := .next (s.coreInstr c 1 (coreOut c u 0x0013))

/-- APP_RX_POP (11 R322). -/
def execAppRxPop (c t : Nat) (s : State) : Out := .next (s.coreInstr c 1 (coreIn c t 0x0021))

/-- APP_TX_GO (11 R322). -/
def execAppTxGo (c u : Nat) (s : State) : Out := .next (s.coreInstr c 1 (coreOut c u 0x0023))

/-- WIN_DATA_WRITE: four window bytes as one word (09 R255). -/
def execWinDataWrite (c u : Nat) (s : State) : Out := .next (s.coreInstr c 1 (coreOut c u 0x0031))

/-- WIN_WMASK: marks the bytes the host may write. -/
def execWinWmask (c u : Nat) (s : State) : Out := .next (s.coreInstr c 1 (coreOut c u 0x0032))

/-- WIN_QPOP: the oldest window write record. -/
def execWinQpop (c t : Nat) (s : State) : Out := .next (s.coreInstr c 1 (coreIn c t 0x0033))

/-- RES_GO (11 R322). -/
def execResGo (c u : Nat) (s : State) : Out := .next (s.coreInstr c 1 (coreOut c u 0x0042))

/-- CORE_TIMER_EXPIRE: a core's countdown reaches 0 (11 R321). -/
def execCoreTimerExpire (c : Nat) (s : State) : Out :=
  .next (when ((s.core c).timer ≠ 0) s fun s =>
    s.modCore c (fun x => { x with timer := 0, events := setBit x.events 4 true }))

/-! ### Bundles in flash -/

/-- A slot of the flash: 0 A, 1 B. -/
def State.slot (s : State) (i : Nat) : FlashSlot := if i = 0 then s.flash.slotA else s.flash.slotB

/-- The bytes of a segment of a slot. -/
def FlashSlot.seg (f : FlashSlot) (g : Nat) : List Byte := aget f.segs g []

/-- The manifest's number of segments (11 R327). -/
def manifestSegs (m : List Byte) : Nat := beNat ((m.drop 6).take 2)

/-- The digest a manifest gives segment g. -/
def manifestDigest (m : List Byte) (g : Nat) : List Byte := (m.drop (192 + 32 * g)).take 32

/-- A segment has 4 KiB and the digest of its manifest. -/
def segmentOk (m : List Byte) (g : Nat) (bs : List Byte) : Bool :=
  g < manifestSegs m && bs.length = 4096 && Config.shake256 bs 32 = manifestDigest m g

/-- A RESOURCE image of the manifest holds the segment. -/
def isResource (m : List Byte) (g : Nat) : Bool :=
  (List.range 16).any (fun i =>
    let r := (m.drop (128 + 4 * i)).take 4
    let first := beNat (r.take 2)
    let n := (nth r 2 0).toNat
    nth r 3 0 = 1 && first ≤ g && g < first + n)

/-- RES_READ_DONE: the segment of the running bundle has been read; it is written as 128 whole lines if its digest checks, else
nothing is written and the core takes a RESOURCE fault (11 R322). -/
def execResReadDone (c : Nat) (s : State) : Out :=
  .next (when ((s.core c).resBusy) s fun s =>
    let x := s.core c
    let bs := (s.slot (s.rdN K.runSlot)).seg x.resSeg
    let s := s.modCore c (fun y => { y with resBusy := false })
    if s.flash.present && isResource s.cores.running x.resSeg && segmentOk s.cores.running x.resSeg bs then
      s.putBytes c (x.resAddr / 32 * 32) [] bs
    else (s.modCore c (fun y => { y with resFailed := true })).coreFault c 4)

end Sys2Proof.Machine
end

