-- ==== Sys2Proof/Machine/Bundles.lean ====
section
/-! DEFINITION. Bundles (spec 11 R327, R328; 17 R428, R432; 18 R455): manifests and their verification, root keys as verification
needs them, the boot record, loading images into cores, and the load into a flash slot; watchdogs and restarts of cores (R323,
R325). -/

namespace Sys2Proof.Machine

/-! ### Root keys (17 R428) -/

/-- The state of a root slot as 7A.000 codes it. -/
def RootFuse.state (r : RootFuse) : Nat :=
  if r.revoked then 2 else if r.sealed then 1 else if r.digest.all (fun b => b = 0) then 0 else 3

/-- Root slot j's fuses; a slot beyond 3 is empty. -/
def State.root (s : State) (j : Nat) : RootFuse := nth s.fuse.roots j ⟨[], false, false⟩

/-- The root key of slot j, if the slot is ENROLLED and the key in the key block has its digest. -/
def State.rootKey (s : State) (j : Nat) : Option (List Byte) :=
  let k := nth s.flash.rootKeys j []
  if s.flash.present && (s.root j).state = 1 && k ≠ [] && Config.shake256 k 64 = (s.root j).digest then some k else none

/-! ### Manifests (11 R327) -/

/-- The manifest fields. -/
def mfest (m : List Byte) (at_ n : Nat) : Nat := beNat ((m.drop at_).take n)

/-- MANIFEST_LEN. -/
def manifestLen (m : List Byte) : Nat := mfest m 84 4

/-- The image index of core c. -/
def coreImageOf (m : List Byte) (c : Nat) : Nat := mfest m (16 + c) 1

/-- First segment, segment count and kind of an image. -/
def imageOf (m : List Byte) (i : Nat) : Nat × Nat × Nat := (mfest m (128 + 4 * i) 2, mfest m (130 + 4 * i) 1, mfest m (131 + 4 * i) 1)

/-- An image is an INSTRUCTION image of 1 to 8 segments of the bundle. -/
def imageRuns (m : List Byte) (i : Nat) : Bool :=
  let r := imageOf m i
  i < 16 && r.2.2 = 0 && 1 ≤ r.2.1 && r.2.1 ≤ 8 && r.1 + r.2.1 ≤ manifestSegs m

/-- Bytes before the signature. -/
def signedPart (m : List Byte) : Nat := 192 + 32 * manifestSegs m

/-- Step 1 of R432: MAGIC, FORMAT, SEG_COUNT, MANIFEST_LEN and the CORE_MAP rules. -/
def manifestFormat (m : List Byte) : Bool :=
  let n := manifestSegs m
  let at_ := signedPart m
  mfest m 0 4 = 0x46475642 && mfest m 4 2 = 1 && 1 ≤ n && n ≤ 1024 && manifestLen m = m.length && at_ + 3 ≤ m.length &&
    at_ + 3 + mfest m (at_ + 1) 2 = m.length &&
    (List.range 68).all (fun c => coreImageOf m c = 0xFF || imageRuns m (coreImageOf m c))

/-- Steps 1 to 4 of R432: the failure as 58.024 and as 7A.004. -/
def State.verifyManifest (s : State) (m : List Byte) : Option (Nat × Nat) :=
  let at_ := signedPart m
  if !manifestFormat m then some (1, 1)
  else
    match s.rootKey (mfest m at_ 1) with
    | none => some (2, 2)
    | some k =>
      if !Config.falconVerify k (m.take at_) (m.drop (at_ + 3)) then some (2, 3)
      else if mfest m 12 4 < s.fuse.secverMin then some (3, 4)
      else none

/-- The first segment of a bundle in flash that fails its digest. -/
def FlashSlot.badSegment (f : FlashSlot) : Option Nat :=
  (List.range (manifestSegs f.manifest)).find? (fun g => !segmentOk f.manifest g (f.seg g))

/-- R432 on a bundle in flash: the failure as 58.024, as 7A.004, and the segment. -/
def State.verifyBundle (s : State) (i : Nat) : Option (Nat × Nat × Nat) :=
  let f := s.slot i
  match s.verifyManifest f.manifest with
  | some (r, d) => some (r, d, 0)
  | none =>
    match f.badSegment with
    | some g => some (1, 5, g)
    | none => none

/-- 7A.004 and 7A.005 after a verification. -/
def State.verifyDetail (s : State) : Option (Nat × Nat × Nat) → State
  | some (_, d, g) => (s.wr K.verifyDetail (d : Nat)).wr K.verifySegment (if d = 5 then g else 0 : Nat)
  | none => (s.wr K.verifyDetail 0).wr K.verifySegment 0

/-- 58.004: the version in a slot whose bundle verifies, else 0. -/
def State.slotVersion (s : State) (i : Nat) : Nat :=
  if s.flash.present && (s.verifyBundle i).isNone then mfest (s.slot i).manifest 8 4 else 0

/-! ### The boot record (18 R455) -/

/-- The boot record in force: SEQ and slot of the valid copy with the higher SEQ; with none valid the slot is A. -/
def FlashState.record (f : FlashState) : Nat × Nat :=
  match f.record0, f.record1 with
  | none, none => (0, 0)
  | some r, none => r
  | none, some r => r
  | some a, some b => if a.1 < b.1 then b else a

/-- A slot becomes the boot slot: the copy not in force takes SEQ + 1. -/
def FlashState.activate (f : FlashState) (slot : Nat) : FlashState :=
  let r := (f.record.1 + 1, slot)
  match f.record0, f.record1 with
  | none, _ => { f with record0 := some r }
  | some _, none => { f with record1 := some r }
  | some a, some b => if a.1 < b.1 then { f with record0 := some r } else { f with record1 := some r }

/-- A slot of the flash changes. -/
def State.modSlot (s : State) (i : Nat) (f : FlashSlot → FlashSlot) : State :=
  { s with flash := if i = 0 then { s.flash with slotA := f s.flash.slotA } else { s.flash with slotB := f s.flash.slotB } }

/-! ### Images into cores -/

/-- The instruction words of bytes, from an index. -/
def wordsOf : Nat → Nat → List Byte → List (Nat × Nat)
  | 0, _, _ => []
  | n + 1, i, bs => if bs = [] then [] else (i, beNat (bs.take 4)) :: wordsOf n (i + 1) (bs.drop 4)

/-- The instruction memory an image gives. -/
def FlashSlot.imageWords (f : FlashSlot) (i : Nat) : List (Nat × Nat) :=
  let r := imageOf f.manifest i
  wordsOf 8192 0 ((List.range r.2.1).flatMap (fun g => f.seg (r.1 + g)))

/-- A core has an image in the running bundle: its map names one, and the part has the core (01 R21). -/
def State.coreMapped (s : State) (m : List Byte) (c : Nat) : Bool :=
  coreImageOf m c < 16 && !(s.fuse.fgv1608 && 32 ≤ c && c < 64)

/-- The bundle of a slot is loaded: it is the running bundle, and every mapped core holds its image in RESET. -/
def State.loadBundle (s : State) (slot : Nat) : State :=
  let f := s.slot slot
  let s := ((s.wr K.runSlot (slot : Nat)).wr K.runVersion (mfest f.manifest 8 4 : Nat))
  let s := { s with cores := { s.cores with running := f.manifest } }
  (List.range 68).foldl (fun s c =>
    if s.coreMapped f.manifest c then
      let s := s.modCore c (fun x => { x with imem := f.imageWords (coreImageOf f.manifest c) })
      let s := { s with integ := { s.integ with bad := s.integ.bad.filter (fun b => b.1 ≠ c) } }
      (s.wr (K.coreImage c) (coreImageOf f.manifest c : Nat)).wr (K.coreState c) 0
    else (s.wr (K.coreImage c) 255).wr (K.coreState c) 0) s

/-- A core that holds an image starts at instruction 0. -/
def State.startCore (s : State) (c : Nat) : State :=
  if s.rd (K.coreImage c) = 255 then s else (s.modCore c Core.fresh).wr (K.coreState c) 1

/-! ### Watchdogs and restarts -/

/-- CORE_WDOG_EXPIRE: the watchdog of a running core expires (11 R323); it does not run while the debug port holds the core or it
waits for a refetch, nor with 58.014 at 0 for a surveyor core. -/
def execCoreWdogExpire (c : Nat) (s : State) : Out :=
  .next (when (c < 68 && (s.rd (K.coreState c) = 1 || s.rd (K.coreState c) = 2) && (s.core c).wdogFrom.isSome &&
      !s.integ.refetch.any (fun e => e.1 = c) && (64 ≤ c || s.rd K.svWdog ≠ 0)) s fun s =>
    let s := s.bump (K.wdogCount c)
    if c < 64 then (s.raise Ev.fwSvWdog noKey).autoRestart c else s.enterReset 5 (c - 64))

/-- What 58.013[c] does: a surveyor core that has been started restarts (11 R325). -/
def State.restartCmd (s : State) (c : Nat) : State × Status :=
  if 64 ≤ c || s.rd (K.coreState c) = 0 then (s, .refused)
  else if s.rd (K.coreState c) = 4 then (s.stopCore c, .ok)
  else (s.restartCore c, .ok)

/-- CORE_RESTART: 58.013[c]. -/
def execCoreRestart (src c : Nat) (s : State) : Out := .next (s.request src (K.coreRestart c) fun s => s.restartCmd c)

/-- SF_HALTED_LEAD_RESTART: 10 s after the lead core of a gang halted, the standard firmware's plotter 0 restarts it by 58.013
(11 R324). -/
def execSfHaltedLeadRestart (c : Nat) (s : State) : Out :=
  .next (when (s.firmware && c < 64 && s.rd (K.coreState c) = 3 && (s.leadOf (coreCarrier c) (c % 32)).isSome) s fun s =>
    s.request 0x1000 (K.coreRestart c) fun s => s.restartCmd c)

/-- FW_RESTART: 58.028 starts the verification of the boot slot's bundle (11 R326); in BLANK no firmware is loaded (17 R425). -/
def execFwRestart (src : Nat) (s : State) : Out :=
  .next (s.request src K.fwRestart fun s =>
    if s.fuse.lifecycle = 0 || !s.operational then (s, .refused)
    else (({ s with cores := { s.cores with restarting := true } }).wr K.fwState 2, .ok))

/-! ### Loading (11 R328) -/

/-- 58.023 takes a state; each change raises FW_LOAD_STATE, and in IDLE nobody owns the load. -/
def State.setLoad (s : State) (st : Int) : State :=
  let s := if s.rd K.loadState = st then s else (s.wr K.loadState st).raise Ev.fwLoadState K.loadState
  if st = 0 then ({ s with cores := { s.cores with load := none } }).wr K.loadOwner 0 else s

/-- The load ends in IDLE with a result; its slot is left invalid. -/
def State.loadFail (s : State) (l : LoadRun) (result : Nat) : State :=
  ((s.modSlot l.slot (fun _ => ⟨[], []⟩)).wr K.loadResult (result : Nat)).setLoad 0

/-- In FW_WAIT the boot source may exclude a source from loading (18 R454). -/
def State.loadSource (s : State) (src : Nat) : Bool :=
  if s.rd K.bootStage ≠ 5 then true
  else if s.rd K.bootSource = 0 then 1 ≤ src && src ≤ 3
  else if s.rd K.bootSource = 2 then 0x3000 ≤ src && src ≤ 0x3FFF
  else true

/-- The load changes. -/
def State.putLoad (s : State) (l : LoadRun) : State := { s with cores := { s.cores with load := some l } }

/-- LOAD_BEGIN: 58.020. With no bundle running no slot is the run slot (18 R454). -/
def execLoadBegin (src : Nat) (v : Int) (s : State) : Out :=
  .next (s.request src K.loadBegin fun s =>
    let slot := (clampKey K.loadBegin v).toNat
    if s.rd K.loadState ≠ 0 || !s.loadSource src then (s, .access)
    else if s.cores.running ≠ [] && s.rdN K.runSlot = slot then (s.wr K.loadResult 5, .refused)
    else
      let s := s.modSlot slot (fun _ => ⟨[], []⟩)
      (((s.putLoad ⟨slot, [], [], [], []⟩).wr K.loadOwner (src : Nat)).wr K.loadSegDone 0 |>.setLoad 1, .ok))

/-- LOAD_ERASE_DONE: the erase completes, or the flash reports a failure. -/
def execLoadEraseDone (ok : Bool) (s : State) : Out :=
  .next (match s.cores.load with
    | none => s
    | some l => when (s.rd K.loadState = 1) s fun s => if ok && s.flash.present then s.setLoad 2 else s.loadFail l 6)

/-- A source may write 58.021 or 58.022 in some state: else ACCESS, or BUSY while the device erases or 16 segments wait. -/
def State.loadGate (s : State) (src : Nat) (states : List Int) : Option Status :=
  match s.cores.load with
  | none => some .access
  | some l =>
    if s.rdN K.loadOwner ≠ src || !s.loadSource src then some .access
    else if s.rd K.loadState = 1 || 16 ≤ l.queue.length then some .busy
    else if states.contains (s.rd K.loadState) then none
    else some .access

/-- The parts of a manifest from part 0 without a gap. -/
def joinParts (ps : List (Nat × List Byte)) : Nat → Nat → List Byte
  | 0, _ => []
  | n + 1, p =>
    match ps.find? (fun e => e.1 = p) with
    | some e => e.2 ++ joinParts ps n (p + 1)
    | none => []

/-- A part of the manifest is written: once the parts total MANIFEST_LEN, format and signature are checked. -/
def State.loadPart (s : State) (src p : Nat) (bs : List Byte) : State × Status :=
  match s.loadGate src [2], s.cores.load with
  | some st, _ => (s, st)
  | none, none => (s, .access)
  | none, some l =>
    let parts := aput l.parts p bs
    let m := joinParts parts 9 0
    let s := s.putLoad { l with parts := parts, manifest := m }
    if m.length < 88 || m.length < manifestLen m then (s, .ok)
    else
      match s.verifyManifest m with
      | some (r, d) => ((s.loadFail l r).verifyDetail (some (r, d, 0)), .ok)
      | none => (((s.modSlot l.slot (fun f => { f with manifest := m })).verifyDetail none).setLoad 3, .ok)

/-- LOAD_MANIFEST: 58.021[p] written in full. -/
def execLoadManifest (src p : Nat) (bs : List Byte) (s : State) : Out :=
  .next (s.request src (K.loadManifest p) fun s => if 4096 < bs.length then (s, .length) else s.loadPart src p bs)

/-- A segment is written in full: it waits to be programmed, is answered OK if it has been, or is rejected. -/
def State.loadSeg (s : State) (src g : Nat) (bs : List Byte) : State × Status :=
  match s.loadGate src [3, 4], s.cores.load with
  | some st, _ => (s, st)
  | none, none => (s, .access)
  | none, some l =>
    if (l.queue ++ l.done).any (fun e => e.1 = g) then (s, .ok)
    else if segmentOk l.manifest g bs then (s.putLoad { l with queue := l.queue ++ [(g, bs)] }, .ok)
    else ((s.bump K.segRejectCount).raise Ev.fwSegReject K.segRejectCount, .refused)

/-- LOAD_SEGMENT: 58.022[g] written in full. -/
def execLoadSegment (src g : Nat) (bs : List Byte) (s : State) : Out :=
  .next (s.request src (K.loadSegment g) fun s => if 4096 < bs.length then (s, .length) else s.loadSeg src g bs)

/-- LOAD_PROGRAM_DONE: the oldest waiting segment is programmed, or the flash reports a failure. -/
def execLoadProgramDone (ok : Bool) (s : State) : Out :=
  .next (match s.cores.load with
    | none => s
    | some l =>
      match l.queue with
      | [] => s
      | e :: t =>
        if !(ok && s.flash.present) then s.loadFail l 6
        else
          let s := s.putLoad { l with queue := t, done := l.done ++ [(e.1, [])] }
          let s := s.modSlot l.slot (fun f => { f with segs := aput f.segs e.1 e.2 })
          let n := l.done.length + 1
          let s := s.wr K.loadSegDone (n : Nat)
          if n = manifestSegs l.manifest then s.setLoad 4 else s)

/-- What 58.026 does: a complete slot becomes the boot slot, after step 2 of R432 again; in FW_WAIT it is then verified (18
R454). -/
def State.loadActivate (s : State) (src : Nat) : State × Status :=
  match s.cores.load with
  | none => (s, .access)
  | some l =>
    if s.rdN K.loadOwner ≠ src || !s.loadSource src then (s, .access)
    else if s.rd K.loadState = 3 then (s.wr K.loadResult 7, .refused)
    else if s.rd K.loadState ≠ 4 then (s, .access)
    else if (s.rootKey (mfest l.manifest (signedPart l.manifest) 1)).isNone then (s.wr K.loadResult 2, .refused)
    else
      let s := (({ s with flash := s.flash.activate l.slot }).wr K.bootSlot (l.slot : Nat)).wr K.loadResult 0
      let s := s.setLoad 0
      if s.rd K.bootStage = 5 then
        (({ s with boot := { s.boot with verify := some l.slot, fromWait := true } }).wr K.bootStage 4, .ok)
      else (s, .ok)

/-- LOAD_ACTIVATE: 58.026. -/
def execLoadActivate (src : Nat) (s : State) : Out := .next (s.request src K.loadActivate fun s => s.loadActivate src)

/-- LOAD_ABORT: 58.027. -/
def execLoadAbort (src : Nat) (s : State) : Out :=
  .next (s.request src K.loadAbort fun s =>
    match s.cores.load with
    | none => (s, .access)
    | some l => if s.rdN K.loadOwner ≠ src || !s.loadSource src then (s, .access) else (s.loadFail l 8, .ok))

end Sys2Proof.Machine
end

