-- ==== Sys2Proof/Machine/Thermal.lean ====
section
/-! DEFINITION. Thermal management (spec 15 R376 to R389): sensors, thresholds, throttle levels, shutdown, and the
always-on crystal. -/

namespace Sys2Proof.Machine

/-! ### Sensors (15 R376 to R379) -/

/-- A sensor is present: line die B's are not on the FGV1608. -/
def State.sensorPresent (s : State) (m : Nat) : Bool := m < 20 || !s.fuse.fgv1608

/-- The die of a sensor: 0 core, 1 line die A, 2 line die B. -/
def dieOf (m : Nat) : Nat := if m < 16 then 0 else if m < 20 then 1 else 2

/-- The sensors of a die. -/
def dieSensors : Nat → List Nat
  | 0 => List.range 16
  | 1 => [16, 17, 18, 19]
  | _ => [20, 21, 22, 23]

/-- A sensor's neighbours (15 R376). -/
def neighbours (m : Nat) : List Nat :=
  if m < 16 then
    (if 4 ≤ m then [m - 4] else []) ++ (if m % 4 = 0 then [] else [m - 1]) ++ (if m % 4 = 3 then [] else [m + 1]) ++
      (if m < 12 then [m + 4] else [])
  else (dieSensors (dieOf m)).filter (fun n => n + 1 = m || m + 1 = n)

/-- The sensor has failed. -/
def State.sensorFailed (s : State) (m : Nat) : Bool := s.rd (K.sensorState m) = 1

/-- A present sensor that has not failed. -/
def State.sensorGood (s : State) (m : Nat) : Bool := s.sensorPresent m && !s.sensorFailed m

/-- A sensor's last valid reading. -/
def State.reading (s : State) (m : Nat) : Int := (nth s.th.sensors m ⟨0, 0⟩).last

/-- The largest of a list, if any. -/
def maxOf : List Int → Option Int
  | [] => none
  | x :: t => match maxOf t with
    | none => some x
    | some y => some (max x y)

/-- A sensor's value: its reading, or the substitute of a failed one (15 R379). -/
def State.sensorValue (s : State) (m : Nat) : Int :=
  if !s.sensorFailed m then s.reading m
  else
    match maxOf (((neighbours m).filter s.sensorGood).map s.reading) with
    | some v => v + 600
    | none =>
      match maxOf (((dieSensors (dieOf m)).filter s.sensorGood).map s.reading) with
      | some v => v + 600
      | none => s.reading m + 600

/-- Present sensors. -/
def State.sensorsHere (s : State) : List Nat := (List.range 24).filter s.sensorPresent

/-- A sensor is judged failed (15 R378, R379): 70.001, 70.005, TH_SENSOR_FAIL, and the block of 10 s when it held the hottest
value at level 1 or more. -/
def State.failSensor (s : State) (m : Nat) : State :=
  let hot := s.rd (K.sensorTemp m) = s.rd K.hottest && 1 ≤ s.rd K.throttleLevel
  let s := ((s.wr (K.sensorState m) 1).wr (K.failedCount (dieOf m)) (min (s.rd (K.failedCount (dieOf m)) + 1) 16)).raise
    Ev.thSensorFail noKey
  let s := { s with boot := { s.boot with sensorFailed := true } }
  if hot then { s with th := { s.th with blockEnd := some (s.datum + 10000000000) } } else s

/-- A reading of a sensor: none, or out of range, fails it (15 R378). -/
def State.takeReading (s : State) (m : Nat) (v : Option Int) : State :=
  if !s.sensorGood m then s
  else
    match v with
    | none => s.failSensor m
    | some t =>
      if t < -5500 || 15000 < t then s.failSensor m
      else { s with th := { s.th with sensors := s.th.sensors.modify m (fun x => { x with last := t }) } }

/-- A sensor's distance from the mean of its present, unfailed neighbours exceeds 70.019 in this sample. -/
def State.isApart (s : State) (m : Nat) : Bool :=
  let ns := ((neighbours m).filter s.sensorGood).map s.reading
  if ns = [] then false
  else
    let d : Rat := (s.reading m : Rat) - (ns.sum : Rat) / ns.length
    decide ((s.rdN K.failDelta : Rat) < d) || decide ((s.rdN K.failDelta : Rat) < -d)

/-- The third kind of failure: three samples in a row apart from the neighbours (15 R378). -/
def State.judgeApart (s : State) : State :=
  let apart := s.sensorsHere.filter (fun m => s.sensorGood m && s.isApart m)
  let s := { s with th := { s.th with
    sensors := s.th.sensors.zipIdx.map (fun e => { e.1 with apart := if apart.contains e.2 then e.1.apart + 1 else 0 }) } }
  (apart.filter (fun m => 3 ≤ (nth s.th.sensors m ⟨0, 0⟩).apart)).foldl (fun s m => s.failSensor m) s

/-! ### Levels (15 R381 to R384) -/

/-- Three sensors of one die have failed (15 R384). -/
def State.sensorsForced (s : State) : Bool := [0, 1, 2].any (fun d => 3 ≤ s.rd (K.failedCount d))

/-- The block of R379 holds. -/
def State.blocked (s : State) : Bool := s.th.blockEnd.isSome

/-- 70.020 and 70.021 follow their causes; a change of the level raises TH_LEVEL_CHANGE and is counted (15 R381). -/
def State.evalLevel (s : State) : State :=
  let t := s.rd K.thermalLevel
  let w := s.rd K.fwLevel
  let margin := s.rd K.marginState = 1
  let f : Int := if s.sensorsForced || margin then 2 else 0
  let level := max t (max f w)
  let cause := b2n (w ≠ 0) * 32 + b2n margin * 16 + b2n s.sensorsForced * 8 + b2n s.blocked * 4 + b2n (t = 2) * 2 + b2n (t = 1)
  let old := s.rd K.throttleLevel
  let s := (s.wr K.throttleLevel level).wr K.throttleCause (cause : Nat)
  if level = old then s else (s.bump K.levelChangeCount).raise Ev.thLevelChange noKey

/-- T takes a value (15 R382). -/
def State.setT (s : State) (t : Int) : State :=
  ({ s with th := { s.th with changed := s.datum } } : State).wr K.thermalLevel t

/-- Runs of samples on each side of the thresholds with the hottest value (15 R380, R382). -/
def State.thRuns (s : State) (hot : Int) : State :=
  let warn := s.rd K.warnThresh
  let thr := s.rd K.throttleThresh
  let up := fun (p : Bool) (n : Nat) => if p then n + 1 else 0
  { s with th := { s.th with
    warnUp := up (warn ≤ hot) s.th.warnUp
    warnDown := up (hot < warn - 100 * s.rd (K.hysteresis 0)) s.th.warnDown
    thrUp := up (thr ≤ hot) s.th.thrUp
    thrDown := up (hot < thr - 100 * s.rd (K.hysteresis 1)) s.th.thrDown
    offUp := up (thr + s.rd K.l2Offset ≤ hot) s.th.offUp
    thrSince := if thr ≤ hot && s.th.thrUp = 0 then s.datum else s.th.thrSince } }

/-- The warning (15 R380). -/
def State.thWarn (s : State) : State :=
  if s.th.warnUp = 3 && !s.on K.warning then (s.wr K.warning 1).raise Ev.thWarning noKey
  else if 3 ≤ s.th.warnDown && s.on K.warning then (s.wr K.warning 0).raise Ev.thWarningClear noKey
  else s

/-- T follows its table (15 R382). -/
def State.thLevel (s : State) : State :=
  let t := s.rd K.thermalLevel
  let down := 3 ≤ s.th.thrDown && s.th.changed + 1000000 * s.rdN K.stepHold ≤ s.datum && !s.blocked
  if t ≤ 1 && s.th.offUp = 3 then s.setT 2
  else if t = 0 && s.th.thrUp = 3 then s.setT 1
  else if t = 1 && 0 < s.th.thrUp && s.th.thrSince + 1000000 * s.rdN K.l2Dwell ≤ s.datum then s.setT 2
  else if 1 ≤ t && down then s.setT (t - 1)
  else s

/-! ### Shutdown (15 R387, R388) -/

/-- The shutdown record (15 R388). -/
def shutRecord (m : Nat) (sub : Bool) (v : Int) (datum : Nat) : List Byte :=
  beBytes 1 (128 + b2n sub * 64 + m % 32) ++ beBytes 2 (ofSigned 16 v) ++ List.replicate 5 0 ++ beBytes 8 datum

/-- The core die and the line dies are power-gated (15 R387, R398): cores, receivers and decoders lose what they hold, and transmitters all
but their squelch sources; no carrier runs. -/
def State.gateDies (s : State) : State :=
  let s := (List.range 68).foldl (fun s c => s.wr (K.coreState c) 0) { s with cores := CoreState.reset }
  let off := fun (c : CarrierState) => { CarrierState.reset with
    tx := { TxState.reset with ocLatch := c.tx.ocLatch, thermal := c.tx.thermal, txdis := c.tx.txdis } }
  s.carriersHere.foldl (fun s c => s.wr (K.carState c) carOff) { s with carA := off s.carA, carB := off s.carB }

/-- Shutdown trips (15 R387): both carriers squelched by the wired path, host lanes idle, AOUT to high impedance, the record
written, the dies power-gated, and SAFE, where no port answers and the Traverse is silent. -/
def State.shutdownTrip (s : State) (m : Nat) (v : Int) : State :=
  let s := { s with th := { s.th with shutdown := true }, aon := { s.aon with record := shutRecord m (s.sensorFailed m) v s.datum } }
  let s := s.carriersHere.foldl (fun s c => s.setSquelchPin c (fun t => { t with thermal := true })) s
  let s := (List.range 8).foldl (fun s n => s.setLane n 0) s
  let s := (List.range 16).foldl (fun s k => (s.modAout k (fun a => { a with w := 0, out := 0 })).wr (K.aoutState k) 0) s
  let s := ([0, 1, 2].foldl (fun s l => s.portTo l 0) s).gateDies
  ({ s with ports := { s.ports with ready := false } }).withDeviceState devSafe

/-! ### Samples (15 R377) -/

/-- A value lies within 5 degrees of a threshold. -/
def State.nearThreshold (s : State) (v : Int) : Bool :=
  [s.rd K.warnThresh, s.rd K.throttleThresh, s.rd K.shutdownThresh].any (fun t => decide (t - 500 ≤ v) && decide (v ≤ t + 500))

/-- One sample of every present sensor: none where a sensor gave no conversion. -/
def State.thermalSample (s : State) (vals : List (Option Int)) : State :=
  let trips := s.sensorsHere.filter (fun m =>
    match nth vals m none with
    | some v => s.sensorGood m && decide (v ≤ 15000) && decide (s.rd K.shutdownThresh ≤ v)
    | none => false)
  let s := s.sensorsHere.foldl (fun s m => s.takeReading m (nth vals m none)) s
  let s := s.judgeApart
  let values := s.sensorsHere.map (fun m => (m, s.sensorValue m))
  let s := values.foldl (fun s e => s.wr (K.sensorTemp e.1) (clampInt e.2 (-5500) 15000)) s
  let hot := values.foldl (fun (b : Nat × Int) e => if b.2 < e.2 then e else b) (values.headD (0, 0))
  let s := (s.wr K.hottest hot.2).wr K.hottestSensor (hot.1 : Nat)
  let near := values.any (fun e => s.nearThreshold e.2)
  let s := { s with th := { s.th with calm := if near then 0 else s.th.calm + 1 } }
  let s := if near then s.wr K.samplePeriod 1 else if 3 ≤ s.th.calm then s.wr K.samplePeriod 0 else s
  let s := ((s.thRuns hot.2).thWarn).thLevel.evalLevel
  match trips with
  | m :: _ => s.shutdownTrip m ((nth vals m none).getD 0)
  | [] =>
    match values.find? (fun e => s.sensorFailed e.1 && decide (s.rd K.shutdownThresh ≤ e.2)) with
    | some e => s.shutdownTrip e.1 e.2
    | none => s

/-- THERMAL_SAMPLE: readings in 0.01 degrees of sensors 0 to 23, in BOOT and OPERATIONAL. -/
def execThermalSample (vals : List (Option Int)) (s : State) : Out :=
  .next (when (s.rd K.deviceState = devBoot || s.operational) s fun s => s.thermalSample vals)

/-- THERMAL_BLOCK_EXPIRE: the block of 10 s ends (15 R379). -/
def execThermalBlockExpire (s : State) : Out :=
  .next (when s.blocked s fun s => ({ s with th := { s.th with blockEnd := none } } : State).evalLevel)

/-- 70.026: time left of the block, in ms. -/
def State.blockRemain (s : State) : Int :=
  match s.th.blockEnd with
  | some t => clampInt (openDiv ((t : Int) - s.datum) 1000000) 0 10000
  | none => 0

/-- FW_LEVEL_WRITE: 70.022. -/
def execFwLevelWrite (src : Nat) (v : Int) (s : State) : Out :=
  .next (s.request src K.fwLevel fun s => (((rwEffect src K.fwLevel v s).1).evalLevel, .ok))

/-- SHUTDOWN_CLEAR: 70.051. -/
def execShutdownClear (src : Nat) (s : State) : Out :=
  .next (s.request src K.shutdownClear fun s => ({ s with aon := { s.aon with record := [] } }, .ok))

/-! ### The always-on crystal (15 R389) -/

/-- XTAL_COMP_TICK: one second in Dormant with sensor 0 at a temperature in 0.01 degrees. -/
def execXtalCompTick (temp : Int) (s : State) : Out :=
  .next (when (s.rd K.deviceState = devDormant && s.on K.xtalTcEnable && s.rd K.aonSource = 0) s fun s =>
    let dt : Rat := ((temp - s.rd K.xtalTurnover : Int) : Rat) / 100
    let e : Rat := (s.rd K.xtalOffset : Rat) - (s.rd K.xtalCurve : Rat) / 10 * dt * dt
    { s with aon := { s.aon with corr := s.aon.corr + openRound (-e * 64) } })

/-- AON_XTAL_FAIL: the crystal stops for 2 ms and the always-on domain changes to RC. -/
def execAonXtalFail (s : State) : Out :=
  .next (when (s.rd K.deviceState ≠ devOff && s.rd K.aonSource = 0) s fun s =>
    (s.wr K.aonSource 1).raise Ev.aonXtalFail noKey)

/-- XTAL_RESTORE: in OPERATIONAL the crystal has run steadily for 1 s. -/
def execXtalRestore (s : State) : Out := .next (when s.operational s fun s => s.wr K.aonSource 0)

end Sys2Proof.Machine
end

