-- ==== Sys2Proof/Machine/Power.lean ====
section
/-! DEFINITION. Power management (spec 15 R390 to R404): the core voltage loop, lost margin, the idle timer, Dormant entry and
wake, and the pads. -/

namespace Sys2Proof.Machine

/-! ### The core voltage loop (15 R391 to R394) -/

/-- An engine of R392: the carrier it belongs to, if one, its monitors, and whether it is active. -/
structure Engine where
  car : Option Carrier
  mons : List Nat
  active : Bool
  deriving DecidableEq, Repr

/-- The engines by their monitors (15 R392). -/
def State.engines (s : State) : List Engine :=
  let on := fun c => s.present c && s.rd (K.carState c) ≠ carOff
  let serve := fun c => s.present c && s.rd (K.carState c) = carService
  [⟨some .a, [0, 1, 2], on .a⟩, ⟨some .a, [3, 4], on .a⟩, ⟨some .b, [5, 6, 7], on .b⟩, ⟨some .b, [8, 9], on .b⟩,
    ⟨none, [10, 11, 12, 13], serve .a || serve .b⟩,
    ⟨none, [14, 15], (List.range 8).any (fun n => s.on (K.laneEnable n))⟩]

/-- The least of a list, if any. -/
def minOf (l : List Int) : Option Int := (maxOf (l.map (fun x => -x))).map (fun x => -x)

/-- m_min over active engines (15 R392). -/
def State.marginMin (s : State) : Option Int :=
  minOf ((s.engines.filter (fun e => e.active)).flatMap (fun e => e.mons.map (fun m => s.rd (K.paceMargin m))))

/-- The request takes a value within its bounds; a change slews at 1 mV/us (15 R391, R392, R394). -/
def State.requestVolt (s : State) (v : Int) : State :=
  let hi := s.rd K.vcoreMax
  let new := clampInt v (min (s.rd K.vcoreMin) hi) hi
  let old := s.rd K.vcoreReq
  if new = old then s
  else { (s.wr K.vcoreReq new) with pw := { s.pw with slewEnd := s.datum + (new - old).natAbs * 100, offSince := none } }

/-- The lower bound of the request. -/
def State.voltLow (s : State) : Int := min (s.rd K.vcoreMin) (s.rd K.vcoreMax)

/-- MARGIN_UPDATE: the monitors' smallest margins of the last 10 us, in 0.01 % (15 R392, R393). -/
def execMarginUpdate (margins : List Int) (s : State) : Out :=
  let s := (List.range 16).foldl (fun s m => s.wr (K.paceMargin m) (clampInt (nth margins m 0) (-10000) 10000)) s
  let ok := s.rd K.avsState = 0
  .next (match s.marginMin with
    | none =>
      let s := { s with pw := { s.pw with low := 0 } }
      if ok then s.requestVolt s.voltLow else s
    | some m =>
      let s := s.wr K.marginMin m
      let target := s.rd K.marginTarget
      let band := s.rd K.marginBand
      let lost := m < s.rd K.marginAlarm && (s.rd K.vcoreReq = s.rd K.vcoreMax || !ok)
      let s := { s with pw := { s.pw with low := if lost then s.pw.low + 1 else 0 } }
      let s := if !ok then s
        else if m < target - band then s.requestVolt (s.rd K.vcoreReq + 50)
        else if target + band < m then s.requestVolt (s.rd K.vcoreReq - 10)
        else s.requestVolt (s.rd K.vcoreReq)
      if 3 ≤ s.pw.low && s.rd K.marginState = 0 then
        let s := (({ s with pw := { s.pw with dropped := none } } : State).wr K.marginState 1).bump K.marginAlarmCount
        (s.raise Ev.pwrMarginAlarm noKey).evalLevel
      else s)

/-- The carrier that an engine's lost margin drops (15 R393): its own, or the one in SERVICE with the larger 23.059. -/
def State.dropFor (s : State) (e : Engine) : Option Carrier :=
  match e.car with
  | some c => some c
  | none =>
    let a := s.rd (K.carState .a) = carService
    let b := s.present .b && s.rd (K.carState .b) = carService
    if a && b then (if s.rd (K.rxCapacity .a) < s.rd (K.rxCapacity .b) then some .b else some .a)
    else if a then some .a
    else if b then some .b
    else none

/-- PWR_CARRIER_DROPPED: 71.009 us in ALARM have passed with margin still lost; one carrier is dropped to STANDBY, and the other
the next time (15 R393; 01 R28). With several engines lost the first in monitor order decides (log entry 124). -/
def execPwrCarrierDropped (s : State) : Out :=
  .next (when (s.rd K.marginState = 1) s fun s =>
    let lost := s.engines.filter (fun e => e.active && e.mons.any (fun m => s.rd (K.paceMargin m) < s.rd K.marginAlarm))
    match lost with
    | [] => s
    | e :: _ =>
      match (match s.pw.dropped with
        | some c => if s.present c.other then some c.other else none
        | none => s.dropFor e) with
      | none => s
      | some c =>
        let s := ({ s with pw := { s.pw with dropped := some c } } : State).rwStore 0 (K.carTarget c) 1
        ((s.bump K.carrierDropCount).raise Ev.pwrCarrierDropped noKey).carrierMove c)

/-- PWR_MARGIN_RESTORED: m_min has stayed at or above 71.003 for 100 ms (15 R393). -/
def execPwrMarginRestored (s : State) : Out :=
  .next (when (s.rd K.marginState = 1 && s.rd K.marginTarget ≤ s.rd K.marginMin) s fun s =>
    ((({ s with pw := { s.pw with low := 0, dropped := none } } : State).wr K.marginState 0).evalLevel).raise
      Ev.pwrMarginRestored noKey)

/-- An AVS fault condition (15 R394): 71.00C takes its code and PWR_AVS_FAULT is raised. -/
def State.avsFault (s : State) (code : Int) : State :=
  if s.rd K.avsState = code || s.rd K.avsState = 4 then s else (s.wr K.avsState code).raise Ev.pwrAvsFault noKey

/-- An attempt on AVSBus: three in a row without an answer are a fault. -/
def State.avsAttempt (s : State) (answered : Bool) : State :=
  let n := if answered then 0 else s.pw.noAnswer + 1
  let s := { s with pw := { s.pw with noAnswer := n } }
  if 3 ≤ n then s.avsFault 1 else s

/-- AVS_VOLTAGE_READ: the Voltage read in 0.1 mV, or none for no response or a CRC failure (15 R391, R394). -/
def execAvsVoltageRead (v : Option Nat) (s : State) : Out :=
  .next (when (s.on K.avsEnable) s fun s =>
    match v with
    | none => s.avsAttempt false
    | some u =>
      let s := (s.avsAttempt true).wr K.vcoreRead (min u 10000 : Nat)
      let off := s.pw.slewEnd ≤ s.datum && 150 < ((u : Int) - s.rd K.vcoreReq).natAbs
      let since := if off then some (s.pw.offSince.getD s.datum) else none
      let s := { s with pw := { s.pw with offSince := since } }
      if since.any (fun t => t + 200000 ≤ s.datum) then s.avsFault 3 else s)

/-- AVS_STATUS_READ: whether the Status read shows a regulator fault, or none for no answer (15 R391, R394). -/
def execAvsStatusRead (fault : Option Bool) (s : State) : Out :=
  .next (when (s.on K.avsEnable) s fun s =>
    match fault with
    | none => s.avsAttempt false
    | some f => if f then (s.avsAttempt true).avsFault 2 else s.avsAttempt true)

/-- PWR_AVS_RESTORED: 10 ms without a fault condition (15 R394). -/
def execPwrAvsRestored (s : State) : Out :=
  .next (when (1 ≤ s.rd K.avsState && s.rd K.avsState ≤ 3) s fun s => (s.wr K.avsState 0).raise Ev.pwrAvsRestored noKey)

/-- A write of 71.00A (15 R391): disabled, the device sends nothing. -/
def State.avsEnableSet (s : State) : State :=
  if !s.on K.avsEnable then s.wr K.avsState 4 else if s.rd K.avsState = 4 then s.wr K.avsState 0 else s

/-! ### The idle timer (15 R397) -/

/-- Both carriers read OFF and every lane is disabled. -/
def State.idleCond (s : State) : Bool :=
  s.operational && s.rd (K.carState .a) = carOff && (!s.present .b || s.rd (K.carState .b) = carOff) &&
    (List.range 8).all (fun n => !s.on (K.laneEnable n))

/-- The timer runs while its conditions hold. -/
def State.idleWatch (s : State) : State :=
  { s with pw := { s.pw with idleFrom :=
      if s.idleCond && 0 < s.rd K.idleTimeout then some (s.pw.idleFrom.getD s.datum) else none } }

/-- 71.019: the time left, in s. -/
def State.idleRemain (s : State) : Int :=
  match s.pw.idleFrom with
  | some t => clampInt (openDiv ((t : Int) + 1000000000 * s.rd K.idleTimeout - s.datum) 1000000000) 0 3600
  | none => s.rd K.idleTimeout

/-- The timer starts again from full. -/
def State.idleFull (s : State) : State := { s with pw := { s.pw with idleFrom := s.pw.idleFrom.map (fun _ => s.datum) } }

/-- Dormant entry begins (15 R398 steps 1 and 2): no more requests, every ring IDLE, the draft and armed editions discarded, a
checkpoint in retention memory; the response of the request that asked for it is given first. -/
def State.dormantEntry (s : State) : State :=
  let s := s.fbDormant.dropEditions
  { s with
    ports := { s.ports with ready := false }
    pw := { s.pw with entering := true }
    aon := { s.aon with retention := some (stored s.leg, stored s.blobs), corr := 0 } }

/-- With no wake source enabled entry is refused (15 R397). -/
def State.tryDormant (s : State) : State :=
  if s.rd K.wakeEnable = 0 then (s.raise Ev.pwrSleepRefused noKey).idleFull else s.dormantEntry

/-- IDLE_TIMER_EXPIRE. -/
def execIdleTimerExpire (s : State) : Out :=
  .next (when (s.idleCond && 0 < s.rd K.idleTimeout && !s.pw.entering) s fun s => s.tryDormant)

/-- 71.01A (15 R397). -/
def State.sleepCmd (s : State) : State × Status := if !s.idleCond then (s, .refused) else (s.tryDormant, .ok)

/-- SLEEP_NOW. -/
def execSleepNow (src : Nat) (s : State) : Out := .next (s.request src K.sleepNow fun s => s.sleepCmd)

/-- DORMANT_LATCH: the 32.768 kHz edge of entry (15 R398 steps 3 to 5): the datum is captured to 1/64 ns, pads are latched, the
outputs move to the always-on supply or go to high impedance, and the domain is power-gated. -/
def execDormantLatch (s : State) : Out :=
  .next (when (s.pw.entering && s.operational) s fun s =>
    let s := s.aoutDormant
    let acc : Rat := ((s.now * 64).floor : Rat) / 64
    let s := [0, 1, 2].foldl (fun s l => s.portTo l 0) s
    let s := { s with
      tv := { s.tv with aonAcc := acc }
      pw := { s.pw with entering := false, padTrig := s.fb.trigOut, padPps := s.tv.ppsOut } }
    let s := ((((s.bump K.dormantCount).wr K.dormantEntry (s.datum : Nat)).wr K.padsHeld 1).wr K.aonMode 1)
    s.gateDies.withDeviceState devDormant)

/-! ### Wake (15 R399 to R402, R404) -/

/-- The wake source of a code is enabled (15 R399). -/
def State.wakeEnabled (s : State) (code : Nat) : Bool := 1 ≤ code && code ≤ 8 && bitOf (s.rdN K.wakeEnable) (code - 1)

/-- The accumulator after a number of 32.768 kHz edges, with the crystal's correction (15 R389; 10 R301). -/
def State.aonTime (s : State) (edges : Nat) : Rat :=
  s.tv.aonAcc + edges * (30517578125 / 1000000 : Rat) + (s.aon.corr : Rat) / 64

/-- What a wake at an accumulator time begins with (15 R401; 10 R301): the Legend from its checkpoint, with what the always-on domain
held over it, the datum from the accumulator, and pads held. -/
def State.restored (s : State) (t : Rat) : State :=
  let datum := t.floor.toNat % 2 ^ 64
  let leg : List (Key × Int) := match s.aon.retention with
    | some r => r.1
    | none => []
  let blobs : List (Key × List Byte) := match s.aon.retention with
    | some r => r.2
    | none => []
  let held : List (Key × Int) := s.leg.filter (fun e => keptKey e.1 || (e.1.area = 0x01 && 0x010 ≤ e.1.entry && e.1.entry ≤ 0x012) ||
    e.1 = K.dormantEntry || (e.1.area = 0x60 && e.1.entry = 0x0F0) ||
    (e.1.area = 0x61 && e.1.entry = (K.aoutState 0).entry && e.2 = 4))
  let r := s.wiped 2
  { r with
    leg := held.foldl (fun (m : List (Key × Int)) (e : Key × Int) => legPut m e.1 e.2) leg
    blobs := blobs
    fb := FbState.reset
    datum := datum
    tv := { r.tv with frac := t - t.floor, woke := true, aonAcc := t }
    hk := { r.hk with aouts := s.hk.aouts }
    pw := { r.pw with padTrig := s.pw.padTrig, padPps := s.pw.padPps }
    boot := { r.boot with capture := false, waking := true, released := datum }
    integ := { r.integ with bad := s.integ.bad.filter (fun b => b.1 = 0x0330) }
    cores := CoreState.reset
    ed := { r.ed with journalA := ⟨leg, blobs, [], true⟩, journalB := ⟨leg, blobs, [], true⟩ } }

/-- Wake from Dormant (15 R401, R404; 10 R301): the last-wake record, the Legend from its checkpoint, the datum from the
accumulator, pads held, and the boot sequence without the strap read. -/
def State.wake (s : State) (code edges : Nat) : State :=
  let t := s.aonTime edges
  let datum := t.floor.toNat % 2 ^ 64
  let r := s.restored t
  let r := ((r.wr K.lastWakeSource (code : Nat)).wr K.lastWakeTime (datum : Nat)).wr K.lastWakeFlags 2
  let r := (((r.wr K.padsHeld 1).wr K.dormantExit (datum : Nat)).wr K.aonCorrection (openDiv s.aon.corr 64)).wr K.bootStage 0
  r.wr K.deviceState devBoot

/-- Entry is aborted (15 R400, R401). -/
def State.abortEntry (s : State) (code : Nat) : State :=
  let s := ((s.wr K.lastWakeSource (code : Nat)).wr K.lastWakeTime (s.datum : Nat)).wr K.lastWakeFlags 1
  ({ s with pw := { s.pw with entering := false }, ports := { s.ports with ready := true } } : State).idleFull.raise
    Ev.pwrSleepAborted noKey

/-- A wake source fires (15 R399, R400), after a number of 32.768 kHz edges in Dormant. -/
def State.wakeFire (s : State) (code edges : Nat) : State :=
  if !s.wakeEnabled code then s
  else if s.pw.entering then s.abortEntry code
  else if s.rd K.deviceState = devDormant then s.wake code edges
  else s

/-- What a wake source fires on (15 R399): for TWI the address matched, for TRAVERSE the port of the comma, for LIGHT the AIN pin and its
voltage in mV, for GPIO the pin. -/
def State.wakeMatches (s : State) (code at_ v : Nat) : Bool :=
  match code with
  | 1 => at_ = s.rdN K.twiAddr || (s.on K.twiWindowEnable && at_ = s.rdN K.twiWindowAddr)
  | 4 => bitOf (s.rdN K.tvEnable) at_
  | 6 => at_ = s.rdN K.lightAin && 10 * s.rdN K.lightThresh < v
  | 8 => at_ < 16 && bitOf (s.rdN K.wakeGpio) at_
  | _ => true

/-- WAKE_SOURCE_FIRE: the source of a code sees what it fires on; LPMODE's is an edge of the pin. -/
def execWakeSourceFire (code at_ v edges : Nat) (s : State) : Out :=
  let s := if code = 5 then { s with pw := { s.pw with lpmode := !s.pw.lpmode } } else s
  .next (when (s.wakeMatches code at_ v) s fun s => s.wakeFire code edges)

/-- WAKE_TIMER_EXPIRE: 71.01C s after entry. -/
def execWakeTimerExpire (edges : Nat) (s : State) : Out := .next (s.wakeFire 7 edges)

/-- AON_BROWNOUT: the always-on draw exceeds its limit (15 R403). -/
def execAonBrownout (s : State) : Out :=
  .next (when (s.rd K.deviceState = devDormant) s fun s => s.enterReset 2 0)

/-- PAD_RELEASE: 71.025 releases the held pads. -/
def execPadRelease (src : Nat) (s : State) : Out :=
  .next (s.request src K.padRelease fun s => (s.wr K.padsHeld 0, .ok))

/-- The level that TRIG_OUT and PPS_OUT present (15 R402; 18 R458). -/
def State.trigOutPin (s : State) : Bool := if s.on K.padsHeld then s.pw.padTrig else s.fb.trigOut

/-- The level that PPS_OUT presents. -/
def State.ppsOutPin (s : State) : Bool := if s.on K.padsHeld then s.pw.padPps else s.tv.ppsOut

end Sys2Proof.Machine
end

