-- ==== Sys2Proof/Machine/SelfTest.lean ====
section
/-! DEFINITION. Repair, scrubbing and self-test in operation (spec 16): refetch, rebuild from the journal, derived tables, the
scrubber, the fault log, slices, and tests on request. -/

namespace Sys2Proof.Machine

/-! ### Refetch (16 R406, R407) -/

/-- The instruction line of a core is restored from the run slot, if its segment passes its digest; lines beyond the image hold
HALT, which needs no flash (11 R314). -/
def State.refetchLine (s : State) (c line : Nat) : Option State :=
  let m := s.cores.running
  let r := imageOf m (coreImageOf m c)
  let old := (s.core c).imem.filter (fun e => e.1 / 8 ≠ line)
  if r.2.1 ≤ line / 128 then some ((s.modCore c (fun x => { x with imem := old })).lineGood c line)
  else
    let g := r.1 + line / 128
    let bs := (s.slot (s.rdN K.runSlot)).seg g
    if s.flash.present && segmentOk m g bs then
      let words := wordsOf 8 (8 * line) ((bs.drop (line % 128 * 32)).take 32)
      some (((s.modCore c (fun x => { x with imem := words.foldl (fun w e => aput w e.1 e.2) old })).lineGood c line).bump (K.refetchCount c))
    else none

/-- A refetch that fails its digest resets the device. -/
def State.refetchBad (s : State) (c line : Nat) : State := (s.raise Ev.intRefetchDigest noKey).integrityReset c line

/-- REFETCH_DONE: the oldest waiting refetch ends; its core goes on at the instruction it was fetching. -/
def execRefetchDone (s : State) : Out :=
  .next (match s.integ.refetch with
    | [] => s
    | (c, line) :: t =>
      let s := { s with integ := { s.integ with refetch := t } }
      match s.refetchLine c line with
      | some s => s
      | none => s.refetchBad c line)

/-! ### Rebuild from the journal (16 R409) -/

/-- An element's number after a copy's checkpoint and log. -/
def JournalCopy.value (j : JournalCopy) (k : Key) : Int :=
  j.log.foldl (fun v r => match r with
    | .edition _ _ _ _ _ es => (match kfind es k with
      | some (.num x) => x
      | _ => v)
    | .rw _ _ k' (.num x) => if k' = k then x else v
    | .rw _ _ _ (.blob _) => v) (legGet j.chkLeg k)

/-- The journal repairs itself: a bad copy from the other, both from the store. -/
def State.journalRepair (s : State) : State :=
  let a := s.ed.journalA
  let b := s.ed.journalB
  if a.good && b.good then s
  else if b.good then { s with ed := { s.ed with journalA := b } }
  else if a.good then { s with ed := { s.ed with journalB := a } }
  else
    let s := { s with ed := { s.ed with journalA := { a with good := true }, journalB := { b with good := true } } }
    s.checkpoint.raise Ev.edJournalCheckpoint K.journalRecords

/-- INT_LEGEND_REBUILT: the oldest line being rebuilt is committed; the elements it holds (spec 16 gives no map from lines to
elements) take their values from a good journal copy. With both copies bad the device resets. -/
def execIntLegendRebuilt (keys : List Key) (s : State) : Out :=
  .next (match s.integ.rebuilding with
    | [] => s
    | line :: t =>
      let s := { s with integ := { s.integ with rebuilding := t } }
      let copy := if s.ed.journalA.good then some s.ed.journalA else if s.ed.journalB.good then some s.ed.journalB else none
      match copy with
      | none => s.integrityReset 0x300 line
      | some j =>
        let mine := keys.filter (fun k => (rowOf k).any (fun r => decide (k.idx < r.count) && (r.access = .ed || r.access = .rw) && r.type ≠ .blob))
        ((mine.foldl (fun s k => s.wr k (j.value k)) s).lineGood 0x300 line).raise Ev.intLegendRebuilt noKey)

/-! ### Derived tables (16 R408) -/

/-- A line of a derived table waits for its owner; beyond 16 the whole table is recomputed (line 2^24). -/
def State.queueRepair (s : State) (mem line : Nat) : State :=
  let q := s.integ.repairs
  let of := q.filter (fun e => e.1 = mem)
  let q' := if of.length < 16 then q ++ [(mem, line)] else q.filter (fun e => e.1 ≠ mem) ++ [(mem, 2 ^ 24)]
  { s with integ := { s.integ with repairs := q' } }

/-- DERIVED_REPAIR_DONE: the owner has written the oldest waiting line, or the whole table. -/
def execDerivedRepairDone (s : State) : Out :=
  .next (match s.integ.repairs with
    | [] => s
    | (mem, line) :: t =>
      let s := { s with integ := { s.integ with repairs := t } }
      if line = 2 ^ 24 then { s with integ := { s.integ with bad := s.integ.bad.filter (fun b => b.1 ≠ mem) } } else s.lineGood mem line)

/-! ### Scrubbing (16 R415) -/

/-- An item of memory 0x0301 is dropped (16 R409): by `item` mod 8 the draft (1), the armed edition of that number (2), the BLOB
latches (3) or chunk buffers (4) of a source, or the snapshot of a view (5). -/
def State.dropItem (s : State) (item : Nat) : State :=
  let n := item / 8
  match item % 8 with
  | 1 => s.endDraft 4 0x78
  | 2 => match s.ed.armed.find? (fun e => e.seq = n) with
    | some e => s.disarm e 0x78
    | none => s
  | 3 => { s with ports := { s.ports with latches := s.ports.latches.filter (fun l => l.src ≠ n) } }
  | 4 => { s with ports := { s.ports with chunks := s.ports.chunks.filter (fun l => l.src ≠ n) } }
  | 5 => { s with ev := s.ev.modView n (fun v => { v with snap := none, snapTime := 0, snapArea := 0 }) }
  | _ => s

/-- One mismatch that the scrubber finds, handled by its class; DATA, WINDOW, EVENT and RETENTION are not scrubbed. -/
def State.scrubbed (s : State) (f : Nat × Nat × Nat) : State :=
  let mem := f.1
  let line := f.2.1
  let found := fun (cls : Nat) => (s.mismatch mem line cls).bump K.scrubFound
  if mem < 68 then
    let s := found 0
    match s.refetchLine mem line with
    | some s => s
    | none => s.refetchBad mem line
  else if 0x200 ≤ mem && mem < 0x220 then (found 2).queueRepair mem line
  else if mem = 0x300 then
    let s := found 3
    { s with integ := { s.integ with rebuilding := s.integ.rebuilding ++ [line] } }
  else if mem = 0x301 then (found 3).dropItem f.2.2
  else if mem = 0x310 then
    let s := found 4
    { s with ed := { s.ed with journalA := { s.ed.journalA with good := false } } }
  else if mem = 0x311 then
    let s := found 4
    { s with ed := { s.ed with journalB := { s.ed.journalB with good := false } } }
  else s

/-- SCRUB_PASS: a pass ends; the lines it found in mismatch are (memory, line, item of memory 0x0301). -/
def execScrubPass (found : List (Nat × Nat × Nat)) (s : State) : Out :=
  .next (when (s.operational) s fun s => (found.foldl State.scrubbed s).wrapN K.scrubPasses 1)

/-- FAULT_LOG_CLEAR: 78.022 empties the fault log. -/
def execFaultLogClear (src : Nat) (s : State) : Out :=
  .next (s.request src K.faultLogClear fun s => ({ s with aon := { s.aon with log := [] } }, .ok))

/-! ### Slices (16 R419) -/

/-- A round of the slices, with the comparators' failures REF (bit 0), PLL (3) and AON_CLOCK (4); slices 1 and 2 see what has been
marked failed since the last round. -/
def State.sliceRound (s : State) (mask : Nat) : State :=
  let m := b2n (bitOf mask 0) + b2n s.boot.spareFailed * 2 + b2n s.boot.sensorFailed * 4 + b2n (bitOf mask 3) * 8 +
    b2n (bitOf mask 4 && s.rd K.aonSource = 0) * 16
  let s := { s with boot := { s.boot with spareFailed := false, sensorFailed := false } }
  let s := (List.range 5).foldl (fun s i =>
    if bitOf m i then (s.bump (K.sliceFailCount i)).raise Ev.sliceFail (K.sliceFailCount i) else s) (s.wr K.sliceStatus (m : Nat))
  s.wrapN K.sliceRounds 1

/-- SLICE_ROUND: every 79.010 ms. -/
def execSliceRound (mask : Nat) (s : State) : Out := .next (when (s.operational) s fun s => s.sliceRound mask)

/-- SLICE_RUN: 79.013 starts a round at once. -/
def execSliceRun (src mask : Nat) (s : State) : Out :=
  .next (s.request src K.sliceRun fun s => (if s.operational then s.sliceRound mask else s, .ok))

/-! ### What a test measures (16 R417) -/

/-- Value i of HK_LOOP passes: channel i / 4 at code 8,192 or 57,344 as converter i mod 2 reads it, within 328 of 12 R345's value. -/
def loopOk (i : Nat) (v : Int) : Bool :=
  let e : Int := if i / 2 % 2 = 0 then 8192 * 65520 / 131072 else 57344 * 65520 / 131072
  decide (e - 328 ≤ v) && decide (v ≤ e + 328)

/-- The number of values a test measures: REF by die, in 0.01 % of departure from the second reference; PLL by host, Traverse and
housekeeping PLL, as 40.002 codes them; HK_LOOP; HOST_LOOP bit errors by lane; TV_LOOP bit errors by lane of port; a line test its
FAILED tiles, then the SNR of its channels in 0.01 dB. -/
def testValues : Nat → Nat
  | 0 => 3
  | 1 => 3
  | 2 => 64
  | 3 => 8
  | 4 => 6
  | _ => 5

/-- Value i of a test passes. -/
def valueOk (code i : Nat) (v : Int) : Bool :=
  match code with
  | 0 => decide (-100 ≤ v) && decide (v ≤ 100)
  | 1 => v = 4
  | 2 => loopOk i v
  | 3 => v = 0
  | 4 => v = 0
  | _ => if i = 0 then v = 0 else decide (2600 ≤ v)

/-- The channel, lane or port of value i of a test. -/
def valueIndex (code i : Nat) : Nat := if code = 2 then i / 4 else if code = 4 then i / 2 else if 5 ≤ code then i - 1 else i

/-- The first value of a test, of its first n, that fails, as 79.002 gives it: index, measured value. -/
def testFault (code n : Nat) (vals : List Int) : Option Nat :=
  ((List.range n).find? (fun i => !valueOk code i (nth vals i 0))).map
    (fun i => valueIndex code i % 256 * 2 ^ 24 + ofSigned 24 (nth vals i 0))

/-! ### Tests on request (16 R420, R421) -/

/-- The first reason to refuse a test. -/
def State.testRefusal (s : State) (code target : Nat) : Nat :=
  let line := fun (c : Carrier) => s.rd (K.carState c) ≠ carOff && s.rd (K.carState c) ≠ carStandby
  if s.rd (K.carState .a) = carService || s.rd (K.carState .b) = carService then 1
  else if code = 0 || code = 1 || code = 7 then 5
  else if (code = 2 && 16 ≤ target) || (code = 3 && 8 ≤ target) || (code = 4 && 3 ≤ target) || (code = 6 && !s.present .b) then 6
  else if s.boot.test.isSome then 4
  else if (code = 2 && s.on (K.aoutEnable target)) || (code = 3 && s.rd (K.laneState target) ≠ 0) ||
      (code = 4 && s.rd (K.portState target) ≠ 0) || (code = 5 && line .a) || (code = 6 && line .b) then 2
  else 0

/-- TEST_REQUEST: 79.020. -/
def execTestRequest (src : Nat) (v : Int) (s : State) : Out :=
  .next (s.request src K.testRequest fun s =>
    let w := (clampKey K.testRequest v).toNat
    let code := w / 256
    let target := if code ≤ 4 then w % 256 else 0
    match s.testRefusal code target with
    | 0 => ((({ s with boot := { s.boot with test := some (code, target) } }).wr K.testState 1).wr K.testRefusal 0, .ok)
    | r => (((s.wr K.testRefusal (r : Nat)).wr K.testState 4).raise Ev.testRefused K.testRefusal, .refused))

/-- The outcome of a test on its target: none passed, else the detail; the values of one channel, lane or port stand as those of the
first. -/
def targetFault (code target : Nat) (vals : List Int) : Option Nat :=
  let n := if code = 2 then 4 else if code = 3 then 1 else if code = 4 then 2 else 5
  (testFault code n vals).map (fun d => if code ≤ 4 then target % 256 * 2 ^ 24 + d % 2 ^ 24 else d)

/-- TEST_DONE: the test ends with what it measured; writes that would have brought its target into use act now. -/
def execTestDone (vals : List Int) (s : State) : Out :=
  .next (match s.boot.test with
    | none => s
    | some (code, target) =>
      let s := { s with boot := { s.boot with test := none } }
      let r := targetFault code target vals
      let s := ((s.wr K.testState (if r.isNone then 2 else 3)).wr K.testDetail (r.getD 0 : Nat)).raise Ev.testDone K.testState
      if code = 2 then (if s.on (K.aoutEnable target) then s.aoutEnable target else s)
      else if code = 3 then s.laneEnable target
      else if code = 4 then s.tvEnable target
      else if code = 5 then s.carrierMove .a
      else s.carrierMove .b)

end Sys2Proof.Machine
end

