-- ==== Sys2Proof/Machine/Security.lean ====
section
/-! DEFINITION. Security and lifecycle (spec 17): nonces and tokens, key operations and fuse programming, lifecycle transitions,
controller certificates, the identity, attestation. -/

namespace Sys2Proof.Machine

/-! ### Tokens (17 R430, R431) -/

/-- SERIAL as 8 bytes. -/
def State.serialBytes (s : State) : List Byte := beBytes 8 s.fuse.serial

/-- The signed message of a token. -/
def State.tokenMessage (s : State) (op slot : Nat) (extra : List Byte) : List Byte :=
  Config.shake256 (s.serialBytes ++ beBytes 1 op ++ beBytes 1 slot ++ s.sec.nonce ++ extra) 64

/-- What is wrong with a token: 0 nothing, 1 NONCE, 2 TOKEN_KEY, 3 TOKEN_SIGNATURE. -/
def State.tokenFault (s : State) (token : List Byte) (op slot : Nat) (extra : List Byte) : Nat :=
  if s.sec.nonce = [] then 1
  else
    match s.rootKey (nth token 0 (0 : Byte)).toNat with
    | none => 2
    | some k => if Config.falconVerify k (s.tokenMessage op slot extra) (token.drop 2) then 0 else 3

/-- The nonce has been used, or has expired. -/
def State.dropNonce (s : State) : State := { s with sec := { s.sec with nonce := [] } }

/-- NONCE_EXPIRE: 60 s pass since the nonce was made. -/
def execNonceExpire (s : State) : Out := .next s.dropNonce

/-! ### Controller certificates (17 R434 to R436) -/

/-- R435 on a certificate for a controller slot. -/
def State.certOk (s : State) (c : List Byte) (slot : Nat) : Bool :=
  let sigLen := mfest c 1825 2
  mfest c 0 4 = 0x4354524C && mfest c 4 1 = slot && (mfest c 8 8 = 0 || mfest c 8 8 = s.fuse.serial) &&
    s.fuse.ctrlVerMin ≤ mfest c 16 4 && c.length = 1827 + sigLen &&
    (match s.rootKey (mfest c 5 1) with
      | none => false
      | some k => Config.falconVerify k (c.take 1827) (c.drop 1827))

/-- Every stored certificate is checked again (17 R436). -/
def State.checkCerts (s : State) : State :=
  (List.range 8).foldl (fun s i =>
    let c := nth s.flash.certs i []
    s.wr (K.ctrlState i) (if c = [] || !s.flash.present then 0 else if s.certOk c i then 1 else 2)) s

/-- The key of a VALID controller slot. -/
def State.controllerKey (s : State) (slot : Nat) : Option (List Byte) :=
  if slot < 8 && s.rd (K.ctrlState slot) = 1 then some (((nth s.flash.certs slot []).drop 32).take 1793) else none

/-! ### Key operations (17 R429) -/

/-- A key operation ends with a code in 7A.00B: OK raises KEY_CHANGED, another is answered REFUSED. -/
def State.keyEnd (s : State) (code : Nat) : State × Status :=
  if code = 0 then ((s.wr K.keyResult 0).raise Ev.keyChanged K.keyResult, .ok) else (s.wr K.keyResult (code : Nat), .refused)

/-- Programming of a fuse field starts; the result is recorded when it ends. -/
def State.program (s : State) (op : FuseOp) : State × Status := ({ s with sec := { s.sec with fuseOp := some op } }, .ok)

/-- The authorisation of a key operation (17 R429, R431): `free` says that the operation needs none in BLANK and MANUFACTURE. Any
attempted use consumes the nonce. -/
def State.keyAuth (s : State) (op slot : Nat) (free : Bool) (extra : List Byte) (f : State → State × Status) : State × Status :=
  if free && s.fuse.lifecycle ≤ 1 then f s
  else
    match s.tokenFault (s.blob K.keyAuth) op slot extra with
    | 0 => f s.dropNonce
    | n => s.dropNonce.keyEnd (4 + n)

/-- A key operation that programs fuses: not while the device programs (17 R423). -/
def State.keyFuse (s : State) (f : State → State × Status) : State × Status := if s.sec.fuseOp.isSome then s.keyEnd 0x0D else f s

/-- Fuse programming needs VAUX at 3.20 V or more, given in mV (17 R424). -/
def State.programAt (s : State) (vaux : Nat) (op : FuseOp) : State × Status :=
  if vaux < 3200 then s.keyEnd 0x0C else s.program op

/-- A write of 7A.00A with an operation and a slot. -/
def keyCmd (src op slot : Nat) (f : Nat → State → State × Status) (s : State) : State :=
  s.request src K.keyCmd (fun s => f ((clampKey K.keyCmd (op * 256 + slot % 256 : Nat)).toNat % 256) s)

/-- The key block changes, if the flash answers. -/
def State.keyBlock (s : State) (f : FlashState → FlashState) : State := if s.flash.present then { s with flash := f s.flash } else s

/-- Every blown fuse of a digest is set in another. -/
def blownIn (old digest : List Byte) : Bool :=
  (List.range 64).all (fun i => (nth old i (0 : Byte)) &&& ~~~(nth digest i (0 : Byte)) = 0)

/-- ENROLL_ROOT: operation 0x01. -/
def execEnrollRoot (src slot vaux : Nat) (s : State) : Out :=
  .next (keyCmd src 1 slot (fun j s => s.keyFuse fun s =>
    let key := s.blob K.keyStage
    let digest := Config.shake256 key 64
    s.keyAuth 1 j true digest fun s =>
      let st := (s.root j).state
      if 4 ≤ j || !(st = 0 || st = 3) then s.keyEnd 2
      else if key.length ≠ 1793 || !blownIn (s.root j).digest digest then s.keyEnd 4
      else if vaux < 3200 then s.keyEnd 0x0C
      else (s.keyBlock (fun f => { f with rootKeys := f.rootKeys.set j key })).program (.enroll j digest)) s)

/-- REVOKE_ROOT: operation 0x02; one slot stays ENROLLED. -/
def execRevokeRoot (src slot vaux : Nat) (s : State) : Out :=
  .next (keyCmd src 2 slot (fun j s => s.keyFuse fun s => s.keyAuth 2 j true [] fun s =>
    let st := (s.root j).state
    if 4 ≤ j || !(st = 1 || st = 3) then s.keyEnd 2
    else if st = 1 && !(List.range 4).any (fun i => i ≠ j && (s.root i).state = 1) then s.keyEnd 3
    else s.programAt vaux (.revoke j)) s)

/-- INSTALL_ROOT_KEY: operation 0x03. -/
def execInstallRootKey (src slot : Nat) (s : State) : Out :=
  .next (keyCmd src 3 slot (fun j s =>
    let key := s.blob K.keyStage
    if 4 ≤ j || (s.root j).state ≠ 1 then s.keyEnd 2
    else if Config.shake256 key 64 ≠ (s.root j).digest then s.keyEnd 4
    else (s.keyBlock (fun f => { f with rootKeys := f.rootKeys.set j key })).keyEnd 0) s)

/-- INSTALL_CONTROLLER: operation 0x04 (17 R435). -/
def execInstallController (src slot : Nat) (s : State) : Out :=
  .next (keyCmd src 4 slot (fun i s =>
    let c := s.blob K.ctrlStage
    if s.certOk c i then ((s.keyBlock (fun f => { f with certs := f.certs.set i c })).wr (K.ctrlState i) 1).keyEnd 0
    else s.keyEnd 8) s)

/-- REMOVE_CONTROLLER: operation 0x05. -/
def execRemoveController (src slot : Nat) (s : State) : Out :=
  .next (keyCmd src 5 slot (fun i s => s.keyAuth 5 i true [] fun s =>
    ((s.keyBlock (fun f => { f with certs := f.certs.set i [] })).wr (K.ctrlState i) 0).keyEnd 0) s)

/-- COMMIT_SECVER: operation 0x06 (17 R433). -/
def execCommitSecver (src slot vaux : Nat) (s : State) : Out :=
  .next (keyCmd src 6 slot (fun j s => s.keyFuse fun s => s.keyAuth 6 j false [] fun s =>
    let v := min (mfest s.cores.running 12 4) 63
    if v ≤ s.fuse.secverMin then s.keyEnd 9 else s.programAt vaux (.secver v)) s)

/-- COMMIT_CTRL_VERSION: operation 0x07, with the version in 7A.008 bytes 0 to 3. -/
def execCommitCtrlVersion (src slot vaux : Nat) (s : State) : Out :=
  .next (keyCmd src 7 slot (fun j s => s.keyFuse fun s =>
    let vb := (s.blob K.keyStage).take 4
    s.keyAuth 7 j true vb fun s =>
      let v := min (beNat vb) 31
      if v ≤ s.fuse.ctrlVerMin then s.keyEnd 9 else s.programAt vaux (.ctrlVer v)) s)

/-- FUSE_SIGN_POLICY: operation 0x08 (17 R439). -/
def execFuseSignPolicy (src slot vaux : Nat) (s : State) : Out :=
  .next (keyCmd src 8 slot (fun j s => s.keyFuse fun s => s.keyAuth 8 j false [] fun s =>
    if s.fuse.lifecycle ≠ 1 && s.fuse.lifecycle ≠ 2 then s.keyEnd 0x0B
    else if !(List.range 8).any (fun i => s.rd (K.ctrlState i) = 1) then s.keyEnd 0x0A
    else s.programAt vaux .signPolicy) s)

/-! ### Lifecycle (17 R425 to R427) -/

/-- The transitions of R426. -/
def lcAllowed (now target : Nat) : Bool :=
  (now = 0 && target = 1) || (now = 1 && target = 2) || (now = 2 && target = 3) || (now ≤ 3 && target = 4)

/-- The reason to refuse a transition, as 00.014 codes it, and whether a nonce was used. -/
def State.lcRefusal (s : State) (target vaux : Nat) : Nat × Bool :=
  let token := s.fuse.lifecycle = 2
  let bad := if token then s.tokenFault (s.blob K.lcToken) (if target = 3 then 0x10 else 0x11) 0 [] else 0
  if !lcAllowed s.fuse.lifecycle target then (1, false)
  else if bad ≠ 0 then (2 + bad, true)
  else if s.fuse.lifecycle = 1 && target = 2 && !((List.range 4).any (fun j => (s.root j).state = 1) && s.rd K.idState = 1) then (2, false)
  else if vaux < 3200 then (6, token)
  else (0, token)

/-- LC_TRANSITION: 00.013, not clamped; VAUX as measured, in mV. -/
def execLcTransition (src : Nat) (v : Int) (vaux : Nat) (s : State) : Out :=
  .next (s.request src K.lcTransition fun s =>
    if s.sec.fuseOp.isSome then s.keyEnd 0x0D
    else
      let target := if 1 ≤ v && v ≤ 4 then v.toNat else 0
      let r := s.lcRefusal target vaux
      let s := if r.2 then s.dropNonce else s
      if r.1 = 0 then (s.raise Ev.lcTransition K.lcResult).program (.lifecycle target src)
      else ((s.wr K.lcResult (r.1 : Nat)).raise Ev.lcRefused K.lcResult, .refused))

/-! ### Identity (17 R440, R441) -/

/-- 00.023: the identity key unwraps and its public key has ID_DIGEST. -/
def State.identityState (s : State) : Int :=
  if !s.fuse.idSeal then 0
  else
    match s.flash.identity with
    | some (seed, tweak) =>
      if s.flash.present && tweak = s.fuse.pufTweak && Config.shake256 (Config.falconPublic seed) 64 = s.fuse.idDigest then 1 else 2
    | none => 2

/-- ID_GENERATE: 7A.020, in MANUFACTURE, once; the key pair comes from the random generator. A digest partly programmed is
completed from the pair stored. -/
def execIdGenerate (src vaux : Nat) (s : State) : Out :=
  .next (s.request src K.idGenerate fun s =>
    if s.sec.fuseOp.isSome then s.keyEnd 0x0D
    else if s.fuse.idSeal then (s, .refused)
    else if s.fuse.lifecycle ≠ 1 then s.keyEnd 0x0B
    else if vaux < 3200 then s.keyEnd 0x0C
    else if s.fuse.idDigest.all (fun b => b = 0) || s.flash.identity.isNone then
      let seed := s.freeVal
      let s := s.tookFree
      (s.keyBlock (fun f => { f with identity := some (seed, s.fuse.pufTweak), idPub := Config.falconPublic seed })).program .identity
    else s.program .identity)

/-! ### Fuse programming ends (17 R423, R424) -/

/-- The fuses that an operation blows when its programming completes. -/
def FuseState.blown (f : FuseState) (idPub : List Byte) : FuseOp → FuseState
  | .enroll j d => { f with roots := f.roots.modify j (fun r => { r with digest := blownWith r.digest d, sealed := true }) }
  | .revoke j => { f with roots := f.roots.modify j (fun r => { r with revoked := true }) }
  | .secver v => { f with secverMin := v }
  | .ctrlVer v => { f with ctrlVerMin := v }
  | .signPolicy => { f with signPolicy := true }
  | .lifecycle t _ => { f with pufTweak := f.pufTweak || t = 3, lifecycle := t }
  | .identity => { f with idDigest := blownWith f.idDigest (Config.shake256 idPub 64), idSeal := true }

/-- FUSE_PROGRAMMING_DONE: the field is programmed, or a fuse failed (FUSE_ERROR); what a failure leaves blown is free. A lifecycle
transition then resets the device (17 R427). -/
def execFuseProgrammingDone (ok : Bool) (s : State) : Out :=
  .next (match s.sec.fuseOp with
    | none => s
    | some op =>
      if ok then
        let s := { s with fuse := s.fuse.blown s.flash.idPub op, sec := { s.sec with fuseOp := none } }
        match op with
        | .lifecycle _ src => (s.wr K.lcResult 0).enterReset 6 src
        | .identity => s.wr K.idState s.identityState
        | .revoke _ | .ctrlVer _ => (s.checkCerts.keyEnd 0).1
        | _ => (s.keyEnd 0).1
      else
        let f := s.cutFuses
        let s := { s with fuse := f, sec := { s.sec with fuseOp := none }, freeCtr := s.freeCtr + 65 }
        match op with
        | .lifecycle _ _ => s.wr K.lcResult 7
        | _ => (s.keyEnd 0x0E).1)

/-! ### Attestation (17 R442, R443) -/

/-- The element record of R277. -/
def recordBytes (k : Key) (v : Val) : List Byte :=
  let w := wireVal k v
  beBytes 1 k.area ++ beBytes 2 k.entry ++ beBytes 2 k.idx ++ beBytes 2 w.length ++ w

/-- Every ED element of the device, in ascending order. -/
def edKeys : List Key :=
  allAreas.flatMap (fun a => (areaRows a).flatMap (fun e =>
    if e.2.access = .ed then (List.range e.2.count).map (fun i => ⟨a, e.1, i⟩) else []))

/-- The applied value of an element. -/
def State.applied (s : State) (k : Key) : Val :=
  if (rowOf k).any (fun r => r.type = .blob) then .blob (s.blob (canonKey k)) else .num (s.rd (canonKey k))

/-- CONFIG_DIGEST (17 R443). -/
def State.configDigest (s : State) : List Byte := Config.shake256 (edKeys.flatMap (fun k => recordBytes k (s.applied k))) 64

/-- The part as 00.001 codes it. -/
def State.partCode (s : State) : Nat := if s.fuse.fgv1608 then 2 else 1

/-- Bytes 0 to 271 of a report, latched in one store operation. -/
def State.attReport (s : State) : List Byte :=
  let run := s.cores.running
  let bootSlot := s.flash.record.2
  let rs := (List.range 4).map (fun j => (s.root j).state * 4 ^ j)
  let flags := b2n (s.rd K.runSlot ≠ s.rd K.bootSlot) * 16 + b2n (bitOf (s.rdN K.debugSeen) 1) * 8 + b2n (bitOf (s.rdN K.debugSeen) 0) * 4 +
    b2n (s.rd K.signPolicy ≠ 0) * 2 + b2n s.fuse.signPolicy
  [0x41, 0x54, 0x53, 0x54, 0x00, 0x01] ++ beBytes 1 s.partCode ++ beBytes 1 (s.rdN K.stepping) ++ s.serialBytes ++
    beBytes 1 s.fuse.lifecycle ++ beBytes 1 rs.sum ++ beBytes 1 s.fuse.secverMin ++ beBytes 1 s.fuse.ctrlVerMin ++ beBytes 1 flags ++
    beBytes 1 (s.rdN K.runSlot) ++ [0, 0] ++ beBytes 4 (mfest run 8 4) ++ beBytes 4 (mfest run 12 4) ++ Config.shake256 run 64 ++
    (if s.flash.present && (s.verifyBundle bootSlot).isNone then Config.shake256 (s.slot bootSlot).manifest 64
      else List.replicate 64 (0 : Byte)) ++
    s.configDigest ++ beBytes 8 s.datum ++ beBytes 1 (s.rdN K.datumQuality) ++ [0, 0, 0] ++ beBytes 4 (s.rdN K.lastAppliedId) ++
    (s.blob K.attNonce ++ List.replicate 32 (0 : Byte)).take 32

/-- ATT_REQUEST: 7A.031. -/
def execAttRequest (src : Nat) (s : State) : Out :=
  .next (s.request src K.attRequest fun s =>
    if s.rd K.attState = 1 then (s.wr K.attRefusal 1, .refused)
    else if s.rd K.idState ≠ 1 then ((s.wr K.attState 3).wr K.attRefusal 2, .refused)
    else ((({ s with sec := { s.sec with att := s.attReport } }).wr K.attState 1).wr K.attRefusal 0, .ok))

/-- ATT_READY: the report is signed over bytes 0 to 273 and placed in 7A.033. -/
def execAttReady (s : State) : Out :=
  .next (when (s.rd K.attState = 1) s fun s =>
    match s.flash.identity with
    | none => s
    | some (seed, _) =>
      let free := s.freeVal % 1331
      let head := s.sec.att ++ beBytes 2 free
      let sig := (Config.falconSign seed head ++ List.replicate free (0 : Byte)).take free
      (({ s.tookFree with sec := { s.sec with att := [] } }.setBlob K.attReport (head ++ sig)).wr K.attState 2).raise Ev.attReady
        K.attState)

end Sys2Proof.Machine
end

