-- ==== Sys2Proof/Machine/Debug.lean ====
section
/-! DEFINITION. The debug port (spec 17 R444, R445, 16 R422): its instructions, and what it does to a core; the decoding of a core's
instruction word (11 R312), which a debug step runs. -/

namespace Sys2Proof.Machine

/-! ### Instruction words (11 R312) -/

/-- A core instruction by its word: its steps and its meaning. -/
def coreWord (c w : Nat) : Nat × (State → State × StepEnd) :=
  let t := bitsOf w 25 22
  let u := bitsOf w 21 18
  let v := bitsOf w 17 14
  let sh := bitsOf w 5 0
  let part := bitOf w 6
  let imm := toSigned 18 (bitsOf w 17 0)
  let an := bitsOf w 21 20
  let om := bitsOf w 19 18
  let count := bitsOf w 17 12
  let noPost := bitOf w 11
  let disp := toSigned 22 (bitsOf w 21 0)
  let port := bitsOf w 15 0
  let bad : State → State × StepEnd := fun s => (s, illegal)
  let reg := fun (f : State → State × StepEnd) => (1, if bitsOf w 13 7 = 0 then f else bad)
  let mem := fun (n : Nat) (f : State → State × StepEnd) => (n, if bitsOf w 10 0 = 0 then f else bad)
  let prt := fun (f : State → State × StepEnd) => (1, if bitsOf w 21 16 = 0 then f else bad)
  match bitsOf w 31 26 with
  | 0x00 => reg coreNop
  | 0x01 => reg (coreAdd c t u v)
  | 0x02 => reg (coreSub c t u v)
  | 0x03 => reg (coreMul c t u v)
  | 0x04 => reg (coreAnd c t u v)
  | 0x05 => reg (coreOr c t u v)
  | 0x06 => reg (coreXor c t u v)
  | 0x07 => reg (coreShl c t u sh)
  | 0x08 => reg (coreShr c t u sh)
  | 0x09 => (1, coreAddi c t u imm)
  | 0x0A => (1, coreLui c t imm)
  | 0x10 => (1, coreB c t disp)
  | 0x11 => (2, coreCall c disp)
  | 0x12 => (2, coreRet c)
  | 0x13 => mem 1 (coreLoop c t count)
  | 0x18 => mem 1 (coreLdw c t an om noPost)
  | 0x19 => mem 2 (coreStw c t an om noPost)
  | 0x1A => mem 1 (coreLdc c t an om noPost)
  | 0x1B => mem 2 (coreStc c t an om noPost)
  | 0x1C => mem (count + 1) (coreZl c an count)
  | 0x1D => reg (coreMgd c t u v)
  | 0x1E => reg (coreMdg c t u part)
  | 0x1F => (1, if bitsOf w 11 7 = 0 then coreMvx c (t + 16 * b2n (bitOf w 13)) (u + 16 * b2n (bitOf w 12)) else bad)
  | 0x20 => reg (coreProduct c t u v false 0)
  | 0x21 => reg (coreProduct c t u v false 1)
  | 0x22 => reg (coreProduct c t u v true 1)
  | 0x23 => reg (coreProduct c t u v false (-1))
  | 0x24 => reg (coreCmacm c t)
  | 0x25 => reg (coreClra c t)
  | 0x26 => reg (coreSac c t u sh)
  | 0x27 => reg (coreSacg c t u part sh)
  | 0x30 => prt (coreIn c t port)
  | 0x31 => prt (coreOut c t port)
  | 0x32 => (0, coreCbx c t an v (bitOf w 13))
  | 0x33 => (0, if bitsOf w 13 7 = 0 then coreWait c u else bad)
  | 0x34 => reg (coreHalt c)
  | _ => (1, bad)

/-- The word at an index: one that no image holds is HALT (11 R314). -/
def Core.word (x : Core) (pc : Nat) : Nat := aget x.imem pc 0xD0000000

/-! ### Instructions of the port -/

/-- The port answers: the device is powered and not Dormant (18 R458). -/
def State.debugOpen (s : State) : Bool := !s.portsDead && s.rd K.deviceState ≠ devDormant

/-- An instruction of the port is selected, with the data that the next scan returns. -/
def State.jtag (s : State) (ir data : Nat) : State := when s.debugOpen s fun s => { s with dbg := { s.dbg with ir := ir, data := data } }

/-- EXTEST: boundary scan; the boundary register itself is not given. -/
def execExtest (s : State) : Out := .next (s.jtag 0x00 0)

/-- IDCODE. -/
def execIdcode (s : State) : Out := .next (s.jtag 0x01 (if s.fuse.fgv1608 then 0x11608A4F else 0x13208A4F))

/-- SAMPLE/PRELOAD. -/
def execSamplePreload (s : State) : Out := .next (s.jtag 0x02 0)

/-- BYPASS: one bit, captured as 0. -/
def execBypass (s : State) : Out := .next (s.jtag 0xFF 0)

/-- TEST_ENGINE: a private instruction acts in MANUFACTURE and RETURN only, else as BYPASS (16 R422); 7A.038 bit 1 records it. -/
def execTestEngine (op : Nat) (s : State) : Out :=
  .next (if s.fuse.lifecycle = 1 || s.fuse.lifecycle = 3 then
    when s.debugOpen s fun s => (s.jtag (0x40 + op % 64) 0).wr K.debugSeen (setBit (s.rdN K.debugSeen) 1 true : Nat)
  else s.jtag 0xFF 0)

/-- CORE_SEL. -/
def execCoreSel (c : Nat) (s : State) : Out :=
  .next (when s.debugOpen s fun s => { s with dbg := { s.dbg with ir := 0x20, sel := c % 256 } })

/-- The first halt or access after a reset is recorded (17 R445). -/
def State.debugSeen (s : State) : State :=
  if bitOf (s.rdN K.debugSeen) 0 then s
  else (s.wr K.debugSeen (setBit (s.rdN K.debugSeen) 0 true : Nat)).raise Ev.debugAccess K.debugSeen

/-- CORE_CTRL: bits 7:4 of the next scan read 58.010. -/
def State.coreCtrl (s : State) (f : Nat → State → State) : State :=
  when s.debugOpen s fun s =>
    let c := s.dbg.sel
    let s := if c < 68 then f c s else s
    s.jtag 0x21 (s.rdN (K.coreState c) * 16)

/-- CORE_HALT: the selected core stops at an instruction boundary (11 R325) and reads DEBUG_HALT. -/
def execCoreHalt (s : State) : Out :=
  .next (s.coreCtrl fun c s =>
    if s.rd (K.coreState c) = 1 || s.rd (K.coreState c) = 2 then
      let had := (s.core c).burst.isSome
      let p := s.doBurst c
      let s := if had && p.2.isNone then p.1.coreNext c else p.1
      let s := s.modCore c (fun x => { x with waiting := none, stepping := false, lgDiscard := x.lgBusy })
      (s.wr (K.coreState c) 4).debugSeen
    else s)

/-- A core that the debug port held goes on. -/
def State.unhalt (s : State) (c : Nat) : State := s.wr (K.coreState c) (if (s.core c).fault ≠ 0 then 2 else 1)

/-- CORE_STEP: one instruction of the selected core, from its instruction memory; a CBX completes, and after a WAIT the core halts
when the WAIT ends. -/
def execCoreStep (s : State) : Out :=
  .next (s.coreCtrl fun c s =>
    if s.rd (K.coreState c) = 4 then
      let x := s.core c
      let i := coreWord c (x.word x.pc)
      let s := (s.unhalt c).coreInstr c i.1 i.2
      let s := if (s.core c).burst.isSome then
          match s.doBurst c with
          | (s, none) => s.coreNext c
          | (s, some line) => s.dataMismatch c line
        else s
      if (s.core c).waiting.isSome then s.modCore c (fun x => { x with stepping := true })
      else if s.rd (K.coreState c) = 1 || s.rd (K.coreState c) = 2 then s.wr (K.coreState c) 4
      else s
    else s)

/-- CORE_RESUME. -/
def execCoreResume (s : State) : Out :=
  .next (s.coreCtrl fun c s => if s.rd (K.coreState c) = 4 then s.unhalt c else s)

/-- What a read of CORE_ACCESS returns; the form of D and AC parts in 32 bits is not given, so their value is free. -/
def State.debugRead (s : State) (c space addr : Nat) : State × Nat :=
  let x := s.core c
  match space with
  | 0 => (s, (x.gr addr).toNat)
  | 1 => (s.tookFree, s.freeVal % 2 ^ 32)
  | 2 => (s.tookFree, s.freeVal % 2 ^ 32)
  | 3 => (s, (x.mvxGet (16 + addr % 12)).toNat)
  | 4 => (s, if addr % 2 = 0 then x.pc else x.flagBits)
  | 5 =>
    match s.dload c (addr / 4 * 4) 4 with
    | some v => (s, v)
    | none => (s.dataMismatch c (addr / 32), 0)
  | 6 => (s, x.word (addr % 8192))
  | _ => (s, 0)

/-- What a write of CORE_ACCESS does. -/
def State.debugWrite (s : State) (c space addr v : Nat) : State :=
  match space with
  | 0 => s.modCore c (fun x => x.setG addr (BitVec.ofNat 32 v))
  | 1 => (s.modCore c (fun x => x.setD (addr % 8) (BitVec.ofNat 18 s.freeVal, BitVec.ofNat 18 (s.freeVal / 2 ^ 18)))).tookFree
  | 2 => (s.modCore c (fun x =>
      let old := x.acc (addr / 2 % 4)
      let f := BitVec.ofNat 48 s.freeVal
      x.setAc (addr / 2 % 4) (if addr % 2 = 0 then (f, old.2) else (old.1, f)))).tookFree
  | 3 => s.modCore c (fun x => x.mvxSet (16 + addr % 12) (BitVec.ofNat 32 v))
  | 4 =>
    if addr % 2 = 0 then s.modCore c (fun x => { x with pc := v % 8192 })
    else s.modCore c (fun x => { x with
      z := bitOf v 5, n := bitOf v 4, c := bitOf v 3, v := bitOf v 2, aov := bitOf v 1, sov := bitOf v 0 })
  | 5 => (s.dstore c (addr / 4 * 4) 4 v).1
  | _ => s

/-- CORE_ACCESS: registers and memory of the selected core, while it is halted. -/
def execCoreAccess (w : Nat) (s : State) : Out :=
  .next (when s.debugOpen s fun s =>
    let c := s.dbg.sel
    let st := s.rd (K.coreState c)
    let s := s.jtag 0x22 0
    if c < 68 && (st = 3 || st = 4) then
      let s := s.debugSeen
      let addr := bitsOf w 47 32
      if bitOf w 63 then s.debugWrite c (bitsOf w 62 60) addr (bitsOf w 31 0)
      else
        let p := s.debugRead c (bitsOf w 62 60) addr
        { p.1 with dbg := { p.1.dbg with data := p.2 } }
    else s)

end Sys2Proof.Machine
end

