-- ==== Sys2Proof/Machine/Startup.lean ====
section
/-! DEFINITION. Supplies, resets and boot (spec 18): causes of reset, the boot stages, straps, the self-test's end, the choice of a
bundle, the entry to OPERATIONAL. -/

namespace Sys2Proof.Machine

/-! ### Supplies and causes of reset (18 R446 to R449, R457) -/

/-- The device may be reset: it is powered, and not in SAFE after a thermal shutdown. -/
def State.resettable (s : State) : Bool := s.rd K.deviceState ≠ devOff && !(s.rd K.deviceState = devSafe && s.th.shutdown)

/-- A cause of reset occurs (18 R448). Of causes in the same microsecond the one of highest priority is recorded, the others in
01.002. -/
def State.resetBy (s : State) (cause detail : Nat) : State :=
  let now := s.rdN K.resetCause
  let bit := fun (c : Nat) => 2 ^ (c - 1)
  if s.rd K.deviceState = devReset && s.datum < s.boot.entered + 1000 && 2 < now && 2 < cause then
    let mark := fun (s : State) (c : Nat) => s.wr K.resetOther ((s.rdN K.resetOther) ||| bit c : Nat)
    if cause = now then s
    else if cause < now then
      let s := s.wr (K.resetCount (now - 1)) (s.rdN (K.resetCount (now - 1)) - 1 : Nat)
      let s := (s.wr K.resetCause (cause : Nat)).wr K.resetDetail (detail : Nat)
      (mark s now).wr (K.resetCount (cause - 1)) (min (s.rdN (K.resetCount (cause - 1)) + 1) max48 : Nat)
    else mark s cause
  else s.enterReset cause detail

/-- VAUX is lost: the device is OFF and nothing is kept but fuses and flash (18 R450, R457). -/
def State.supplyOff (s : State) : State :=
  let s := { s with boot := { s.boot with vauxUp := false } }
  let r := s.wiped 0
  { r with boot := { r.boot with rails := r.boot.rails % 16, vauxUp := false } }

/-- SUPPLY_LOSS: VAUX falls below its threshold. -/
def execSupplyLoss (s : State) : Out := .next s.supplyOff

/-- SUPPLY_DIP: rails (bits as 01.018) fall below their falling thresholds for 1 us or longer. In SAFE after a shutdown only the
removal of VCORE counts (15 R388). -/
def execSupplyDip (mask : Nat) (s : State) : Out :=
  let m := mask % 32
  let rails := s.boot.rails &&& (31 - m)
  .next (if bitOf m 4 then s.supplyOff
    else if m = 0 || s.rd K.deviceState = devOff then { s with boot := { s.boot with rails := rails } }
    else if s.resettable || bitOf m 0 then
      let r := s.enterReset 1 m
      { r with boot := { r.boot with rails := rails } }
    else s)

/-- SUPPLIES_STABLE: every supervised rail has stayed above its rising threshold for 2 ms; from OFF this is a power-on reset. -/
def execSuppliesStable (s : State) : Out :=
  let up := fun (s : State) => { s with boot := { s.boot with rails := 31, vauxUp := true } }
  .next (if s.rd K.deviceState = devOff then up (s.enterReset 1 (31 - s.boot.rails % 32)) else up s)

/-- RESET_N_ASSERT: RESET_N is asserted for 1 us or longer; in Dormant, after a number of 32.768 kHz edges, the datum stands in the
accumulator. -/
def execResetNAssert (edges : Nat) (s : State) : Out :=
  .next (when s.resettable s fun s =>
    let s := if s.rd K.deviceState = devDormant then { s with datum := (s.aonTime edges).floor.toNat % 2 ^ 64 } else s
    s.resetBy 3 0)

/-- SW_RESET: 01.008 from any source; the response is sent, and the device enters RESET. -/
def execSwReset (src : Nat) (s : State) : Out :=
  .next (s.request src K.swReset fun s => (s.enterReset 6 src, .ok))

/-- RESET_DATUM_CAPTURE: the first 32.768 kHz edge after reset entry (18 R451; 10 R301): the datum goes into the accumulator, to
1/64 ns, and into 01.004. -/
def execResetDatumCapture (s : State) : Out :=
  .next (when (s.boot.capture && s.rd K.resetTime = 0) s fun s =>
    ({ s with tv := { s.tv with aonAcc := ((s.now * 64).floor : Rat) / 64 } }).wr K.resetTime (s.datum : Nat))

/-- The next edition ID: IDs skip values whose low 16 bits are 0 (09 R265). -/
def nextEditionId (n : Nat) : Nat := let m := (n + 1) % 2 ^ 32; if m % 65536 = 0 then m + 1 else m

/-- What every boot starts with: a free seed of the edition IDs (09 R265) and a free EPOCH (10 R285). -/
def State.bootSeeds (s : State) : State :=
  let a := s.freeVal
  let s := s.tookFree
  let b := s.freeVal
  let s := s.tookFree
  { s with ed := { s.ed with nextId := nextEditionId a }, tv := { s.tv with epoch := b % 256 } }

/-- RESET_RELEASE: 10 us after the last cause the ROM stage starts. -/
def execResetRelease (s : State) : Out :=
  .next (when (s.rd K.deviceState = devReset && s.boot.rails % 32 = 31) s fun s =>
    let s := { s.bootSeeds with boot := { s.boot with released := s.datum } }
    ((s.wr K.bootStage 0).wr K.deviceState devBoot))

/-- Time moves the ROM stage on after 20 us (18 R452); the idle tick calls this. -/
def State.bootTick (s : State) : State :=
  if s.rd K.deviceState = devBoot && s.rd K.bootStage = 0 && s.boot.released + 20000 ≤ s.datum then s.wr K.bootStage 1 else s

/-! ### Stages (18 R452) -/

/-- BOOT_HK_CAL_DONE: self-calibration of both converters ends; straps are read next, but not at a wake. -/
def execBootHkCalDone (s : State) : Out :=
  .next (when (s.rd K.deviceState = devBoot && s.rd K.bootStage ≤ 1) s fun s => s.wr K.bootStage (if s.boot.waking then 3 else 2))

/-- The boundaries of the strap levels in mV (12 R339). -/
def strapBounds : List Nat := [50, 170, 335, 590, 975, 1500, 2150]

/-- The level of a strap voltage in uV: the boundaries it has reached. -/
def strapLevelOf (uv : Nat) : Nat := (strapBounds.filter (fun b => 1000 * b ≤ uv)).length

/-- A strap voltage in uV lies within 25 mV of a boundary. -/
def strapMarginal (uv : Nat) : Bool := strapBounds.any (fun b => 1000 * b ≤ uv + 25000 && uv ≤ 1000 * b + 25000)

/-- STRAP_READ_DONE: the averages read on AIN0 to AIN7, in uV (12 R339; 18 R453). -/
def execStrapReadDone (uv : List Nat) (s : State) : Out :=
  .next (when (s.rd K.deviceState = devBoot && s.rd K.bootStage = 2) s fun s =>
    let l := fun (q : Nat) => strapLevelOf (nth uv q 0)
    let marginal := (List.range 8).foldl (fun m q => m + b2n (strapMarginal (nth uv q 0)) * 2 ^ q) 0
    let s := s.wr K.strapMarginal (marginal : Nat)
    let v := ((List.range 8).map (fun q => l q * 8 ^ q)).sum
    let s := (List.range 8).foldl (fun s q => (s.wr (K.strapLevel q) (l q : Nat)).wr (K.owMode q) 0) s
    let s := ((s.wr K.straps (v : Nat)).wr K.bootSource (bitsOf v 13 12 : Nat)).wr K.boardVariant (bitsOf v 23 21 : Nat)
    let s := (s.wr K.twiAddr (clampKey K.twiAddr (bitsOf v 20 14 : Nat))).wr K.mdioPrtad (v % 32 : Nat)
    (s.wr K.stationId (v % 4096 : Nat)).wr K.bootStage 3)

/-- The port settings in force are those of the store (09 R257). -/
def State.portSettings (s : State) : State :=
  { s with ports := { s.ports with
      ready := true, enableNow := s.rdN K.portEnable, twiAddrNow := s.rdN K.twiAddr, prtadNow := s.rdN K.mdioPrtad } }

/-- The datum after its reload from the accumulator, a number of edges after its capture or the wake (18 R451; 10 R301). -/
def State.datumReload (s : State) (edges : Nat) : State :=
  if s.boot.waking || s.boot.capture then
    let t := s.tv.aonAcc + edges * (30517578125 / 1000000 : Rat)
    let s := if s.boot.waking || s.rd K.resetTime ≠ 0 then
        { s with datum := t.floor.toNat % 2 ^ 64, tv := { s.tv with frac := t - t.floor } } else s
    let s := if s.boot.waking then s.wr K.dormantExit (s.datum : Nat) else s
    s.wr K.datumQuality (if s.rd K.aonSource = 0 then 1 else 2)
  else s

/-- At a wake the retention checkpoint is checked; if a line fails, every entry takes its default (16 R411). -/
def State.retentionCheck (s : State) : State :=
  match s.integ.bad.find? (fun b => b.1 = 0x330) with
  | none => s
  | some b =>
    let ro := fun (e : Key × Int) => match rowOf e.1 with
      | some r => !(r.access = .ed || r.access = .rw)
      | none => true
    let s := { s with leg := s.leg.filter ro, blobs := [], ed := { s.ed with journalA := JournalCopy.reset, journalB := JournalCopy.reset } }
    ((s.mismatch 0x330 b.2 7).raise Ev.intRetentionLost noKey)

/-- What the ROM has found for the store: SIGN_POLICY (17 R438), certificates (R436), the identity (R441), the boot slot. -/
def State.storeReady (s : State) : State :=
  let s := if s.fuse.signPolicy then s.wr K.signPolicy 1 else s
  let s := (s.checkCerts.wr K.idState s.identityState).wr K.bootSlot (s.flash.record.2 : Nat)
  s.portSettings

/-- SAFE with the store ready (18 R418, 17 R425). -/
def State.safeServing (s : State) : State := (s.wr K.bootResult 6).withDeviceState devSafe

/-- DONE (18 R456): the plotter cores start, the device enters OPERATIONAL, and the values of 20.001 and 10.000 act. -/
def State.bootDone (s : State) (result : Int) : State :=
  let woke := s.boot.waking
  let s := ((s.wr K.bootStage 6).wr K.bootResult result).wr K.bootTime ((s.datum - s.boot.released) / 1000 : Nat)
  let s := { s with boot := { s.boot with waking := false, verify := none, fellBack := false, fromWait := false } }
  let s := if s.cores.running ≠ [] then [64, 65, 66, 67].foldl State.startCore (s.wr K.fwState 1) else s
  let s := s.withDeviceState devOperational
  let s := if result = 1 then s.raise Ev.bootSlotFallback K.bootResult else s
  let s := s.raise Ev.bootDone K.bootTime
  let s := if woke then s else s.raise Ev.resetReported K.resetCause
  let s := if woke || s.rd K.strapMarginal = 0 then s else s.raise Ev.strapMarginal noKey
  let s := if s.fb.rings.any (fun e => e.2.state = 6) then s.raise Ev.fbRingsFrozen noKey else s
  let s := if s.aon.record = [] then s else s.raise Ev.thShutdownRecord noKey
  let s := (s.carrierMove .a)
  let s := if s.present .b then s.carrierMove .b else s
  (List.range 8).foldl (fun s n => s.laneEnable n) s

/-- No bundle can run: FW_WAIT (18 R454). -/
def State.noFirmware (s : State) (result : Int) : State := ((s.wr K.bootResult result).raise Ev.bootNoFirmware K.bootResult).wr K.bootStage 5

/-- What follows SELF_TEST by the lifecycle and the boot source (18 R454). -/
def State.afterSelfTest (s : State) : State :=
  if s.fuse.lifecycle = 4 then s.safeServing
  else if s.fuse.lifecycle = 0 then s.bootDone 5
  else
    let src := s.rd K.bootSource
    if src = 3 then s.bootDone 4
    else if src = 1 then
      if s.flash.present then
        ({ s with boot := { s.boot with verify := some s.flash.record.2, fellBack := false, fromWait := false } }).wr K.bootStage 4
      else s.noFirmware 3
    else s.wr K.bootStage 5

/-- The lowest bit of a test mask. -/
def lowestBit (m : Nat) : Nat := ((List.range 8).find? (fun i => bitOf m i)).getD 0xFF

/-- The outcome of boot test `code` (16 R417): none passed. On the FGV1608 line die B has no reference and no line test. -/
def State.bootFault (s : State) (vals : List (List Int)) (code : Nat) : Option Nat :=
  if code = 7 then (if 3 ≤ s.recentIntResets then some s.recentIntResets else none)
  else if code = 6 && !s.present .b then none
  else testFault code (if code = 0 && !s.present .b then 2 else testValues code) (nth vals code [])

/-- The tests of R417 that a boot fails, as 79.000. -/
def State.testsFailed (s : State) (vals : List (List Int)) : Nat :=
  (List.range 8).foldl (fun m i => m + b2n (s.bootFault vals i).isSome * 2 ^ i) 0

/-- SELF_TEST_DONE: the boot self-test ends with what tests 0 to 6 measured, its duration in us, and the 32.768 kHz edges since the
datum's capture (16 R417, R418; 18 R452). -/
def execSelfTestDone (vals : List (List Int)) (time edges : Nat) (s : State) : Out :=
  .next (when (s.rd K.deviceState = devBoot && s.rd K.bootStage = 3) s fun s =>
    let m := s.testsFailed vals
    let detail := (s.bootFault vals (lowestBit m)).getD 0
    let s := s.wr K.bistTime (min time 10000 : Nat)
    let s := if bitOf m 1 then s else [2, 3, 4].foldl (fun s i => s.wr (K.pllState i) 4) s
    let s := s.datumReload edges
    let woke := s.boot.waking
    let s := if woke then s.retentionCheck else s
    let s := s.storeReady
    let tv := fun (s : State) => [0, 1, 2].foldl (fun s l => s.tvEnable l) s
    if m ≠ 0 then
      let s := ((s.wr K.bistResult (m : Nat)).wr K.bistFirst (lowestBit m : Nat)).wr K.bistDetail (detail : Nat)
      let s := s.raise Ev.bistFail K.bistResult
      (if bitOf m 4 then s else tv s).safeServing
    else
      let s := (tv s).wr K.vcoreReq (s.rd K.vcoreMax)
      let s := if woke then s.aoutWake.raise Ev.pwrWake K.lastWakeSource else s
      s.afterSelfTest)

/-- FW_VERIFY_DONE: the bundle of the slot under verification passes R432 and runs, or fails (18 R454). -/
def execFwVerifyDone (s : State) : Out :=
  .next (match s.boot.verify with
    | none => s
    | some slot =>
      when (s.rd K.deviceState = devBoot && s.rd K.bootStage = 4) s fun s =>
        let r := if s.flash.present then s.verifyBundle slot else some (1, 1, 0)
        let s := s.verifyDetail r
        match r with
        | none => (s.loadBundle slot).bootDone (if s.boot.fellBack then 1 else 0)
        | some f =>
          if s.boot.fromWait then
            ({ s with boot := { s.boot with verify := none, fromWait := false } }.wr K.loadResult (f.1 : Nat)).wr K.bootStage 5
          else if s.boot.fellBack then { s with boot := { s.boot with verify := none, fellBack := false } }.noFirmware 2
          else { s with boot := { s.boot with verify := some (1 - slot), fellBack := true } })

/-- SV_START: 01.020 starts every surveyor core that the map names and that is still in RESET (18 R456). -/
def execSvStart (src : Nat) (s : State) : Out :=
  .next (s.request src K.svStart fun s =>
    ((List.range 64).foldl (fun s c => if s.operational && s.rd (K.coreState c) = 0 then s.startCore c else s) s, .ok))

end Sys2Proof.Machine
end

