-- ==== Sys2Proof/Machine/Validation.lean ====
section
/-! DEFINITION. Edition validation (spec 09 R268, with the rules that other chapters own): the projected state, and the rules it
breaks, each with the first key involved. -/

namespace Sys2Proof.Machine

/-- An edition changes one of these entries of the carrier's areas (00 R8). -/
def changes (keys : List Key) (c : Carrier) (es : List (Nat × Nat)) : Bool :=
  keys.any (fun k => es.contains (k.area - c.off, k.entry) && c.off ≤ k.area)

/-! ### Rules of one carrier -/

/-- 0x30 (02 R45), the carrier being in ACQUIRE or SERVICE. -/
def State.rule30 (p : State) (keys : List Key) (c : Carrier) : Option (Nat × Key) :=
  if p.emitting c then
    (keys.find? (fun k => k.area = 0x20 + c.off && 0x010 ≤ k.entry && k.entry ≤ 0x012)).map (fun k => (0x30, k))
  else none

/-- 0x31 (02 R44). -/
def State.rule31 (p : State) (c : Carrier) : Option (Nat × Key) :=
  if 252000 < p.symRate c && 120 < p.rdN (K.rolloff c) then some (0x31, K.rolloff c) else none

/-- L of 03 R89 in samples. -/
def cdMemory (d slope wl : Int) (r beta : Nat) : Rat :=
  let kappa : Rat := kappaOf wl / 10 ^ 18
  let band : Rat := (r : Rat) * 10 ^ 6 * (1 + (beta : Rat) / 1000)
  let dl : Rat := kappa * band
  (((d.natAbs : Nat) : Rat) / 1000 + ((slope.natAbs : Nat) : Rat) * 10 ^ 6 * dl / 2) * dl * (exactRate r * 10 ^ 6)

/-- 0x32 (03 R89). -/
def State.rule32 (p : State) (c : Carrier) : Option (Nat × Key) :=
  if 90112 < cdMemory (p.rd (K.cdValue c)) (p.rd (K.cdSlope c)) (p.rd (K.cdWavelength c)) (p.symRate c) (p.rdN (K.rolloff c)) then
    some (0x32, K.cdValue c)
  else none

/-- The first sub-carrier of a set that breaks 05 R145. -/
def LoadSet.badRec (l : LoadSet) (subs : Nat) : Option Nat :=
  (List.range subs).find? (fun k => !LoadSet.legal ⟨0, [nth l.recs k (128, 0)]⟩ 1)

/-- The entries of 05 R147. -/
def loadEntries : List (Nat × Nat) := [(0x23, 0x040), (0x23, 0x041), (0x23, 0x044), (0x23, 0x045), (0x20, 0x014)]

/-- 0x40 (05 R147). -/
def State.rule40 (p : State) (keys : List Key) (c : Carrier) : Option (Nat × Key) :=
  if changes keys c loadEntries then
    match (p.editedSet c).badRec (p.subs c), (p.fallbackSet c).badRec (p.subs c) with
    | some k, _ => some (0x40, K.txLoading c k)
    | none, some k => some (0x40, K.fbLoading c k)
    | none, none => none
  else none

/-- 0x41 (05 R147, 06 R170). -/
def State.rule41 (p : State) (keys : List Key) (c : Carrier) : Option (Nat × Key) :=
  if changes keys c (loadEntries ++ [(0x24, 0x000)]) && p.capacity c (p.editedSet c) < 1000 * p.rdN (K.linePayload c) then
    some (0x41, K.linePayload c)
  else none

/-- A set's coded rate exceeds 2,048 Gb/s (06 R171). -/
def State.overRate (p : State) (c : Carrier) (l : LoadSet) : Bool :=
  2048000 * (8192 * 64 * p.subs c) < codedScaled (p.symRate c) (l.sumK (p.subs c))

/-- 0x48 (06 R171). -/
def State.rule48 (p : State) (keys : List Key) (c : Carrier) : Option (Nat × Key) :=
  if changes keys c [(0x20, 0x010), (0x20, 0x011), (0x23, 0x040), (0x23, 0x044), (0x24, 0x000)] then
    if p.overRate c (p.editedSet c) then some (0x48, K.txLoading c 0)
    else if p.overRate c (p.fallbackSet c) then some (0x48, K.fbLoading c 0)
    else none
  else none

/-- 0x49 (06 R170). -/
def State.rule49 (p : State) (keys : List Key) (c : Carrier) : Option (Nat × Key) :=
  if p.emitting c && changes keys c [(0x24, 0x000)] then some (0x49, K.fecOh c) else none

/-- The rules of one carrier. -/
def State.carrierRules (p : State) (keys : List Key) (c : Carrier) : List (Nat × Key) :=
  [p.rule30 keys c, p.rule31 c, p.rule32 c, p.rule40 keys c, p.rule41 keys c, p.rule48 keys c, p.rule49 keys c].filterMap id

/-! ### Rules of the device -/

/-- 0x01 (00 R3): on the FGV1608 an ED entry of areas 30 to 34 differs from its default. -/
def State.rule01 (p : State) : Option (Nat × Key) :=
  if p.fuse.fgv1608 then
    (p.leg.find? (fun e => 0x30 ≤ e.1.area && e.1.area ≤ 0x34 && (rowOf e.1).any (fun r => r.access = .ed))).map (fun e => (0x01, e.1))
  else none

/-- The client rules apply (07 R196). -/
def clientTrigger (keys : List Key) : Bool :=
  keys.any (fun k => k.area = 0x11 || (k.area = 0x10 && k.entry = 0x001) || ((k.area = 0x20 || k.area = 0x30) && k.entry = 0x014))

/-- Descriptors that are not all zero, by ring. -/
def State.descs (p : State) : List (Nat × List Byte) :=
  (p.blobs.filter (fun e => e.1.area = 0x68 && 0x100 ≤ e.1.entry && e.1.entry < 0x108)).map (fun e => (ringOf e.1, e.2))

/-- The pages of two rings overlap. -/
def descOverlap (a b : List Byte) : Bool :=
  0 < descPages a && 0 < descPages b && descFirst a < descFirst b + descPages b && descFirst b < descFirst a + descPages a

/-- The first ring whose pages overlap those of a later one. -/
def firstOverlap : List (Nat × List Byte) → Option Nat
  | [] => none
  | x :: t => if t.any (fun y => descOverlap x.2 y.2) then some x.1 else firstOverlap t

/-- A descriptor names no probe of the device, or asks more of it than 14 R365 and R366 allow. -/
def State.badProbe (p : State) (d : List Byte) : Bool :=
  match probeForm (descProbe d) with
  | none => true
  | some f =>
    (p.fuse.fgv1608 && 0x90 ≤ descProbe d && descProbe d ≤ 0x118) || !probeSelOk (descProbe d) (descSel d)
      || ((descMode d % 2 = 1 || descSources d % 2 = 1) && f ≠ .u24 && f ≠ .s24)

/-- The field-book rules (14 R365) on the rings whose descriptors the edition changes, and overlap between all. -/
def State.ringRules (p : State) (keys : List Key) : List (Nat × Key) :=
  let ks := keys.filter (fun k => k.area = 0x68)
  if ks.isEmpty then []
  else
    let ds := p.descs
    let first := fun (code : Nat) (f : List Byte → Bool) => (ds.find? (fun e => f e.2)).map (fun e => (code, K.ringDesc e.1))
    let busy := (ks.find? (fun k => 1 ≤ (p.ring (ringOf k)).state && (p.ring (ringOf k)).state ≤ 4)).map (fun k => (0x6A, k))
    [(firstOverlap ds).map (fun r => (0x68, K.ringDesc r)), first 0x69 (fun d => 32768 < descFirst d + descPages d), busy,
      first 0x6B p.badProbe,
      first 0x6C (fun d => 0 < descPages d && descCap d ≤ descPre d)].filterMap id

/-- 0x7A (17 R438). -/
def State.rule7A (p : State) (es : List (Key × Val)) : Option (Nat × Key) :=
  if p.fuse.signPolicy && kfind es K.signPolicy = some (.num 0) then some (0x7A, K.signPolicy) else none

/-- The rules of R268 that hold at validation, arming and application: those an edition breaks against a projected state that
already has its elements. -/
def State.editionRules (p : State) (es : List (Key × Val)) : List (Nat × Key) :=
  let p := p.settled
  let keys := es.map Prod.fst
  (p.rule01.toList ++ p.carrierRules keys .a) ++ ((if p.present .b then p.carrierRules keys .b else []) ++
    ((if clientTrigger keys then p.clientRules else []) ++ (p.ringRules keys ++ (p.rule7A es).toList)))

/-! ### Rules of arming -/

/-- The next whole microsecond of the datum (09 R269). -/
def State.nextUs (s : State) : Nat := (s.datum / 1000 + 1) * 1000

/-- The image of an edition that is signed (09 R277). -/
def State.editionImage (s : State) (id : Nat) (es : List (Key × Val)) : List Byte :=
  s.serialBytes ++ beBytes 4 id ++ beBytes 2 es.length ++ es.flatMap (fun e => recordBytes e.1 e.2)

/-- Codes 0x02 to 0x04 (09 R276, R277). -/
def State.signRules (s : State) (id : Nat) (es : List (Key × Val)) : List (Nat × Key) :=
  let sig := s.blob K.edSignature
  if s.rd K.signPolicy = 0 then []
  else if sig.isEmpty then [(0x02, K.edSignature)]
  else
    match s.controllerKey (nth sig 0 (0 : Byte)).toNat with
    | none => [(0x04, K.edSignature)]
    | some key =>
      if Config.falconVerify key (Config.shake256 (s.editionImage id es) 64) (sig.drop 2) then [] else [(0x03, K.edSignature)]

/-- The carrier of a superframe arming mode. -/
def modeCarrier (mode : Nat) : Carrier := if mode = 3 then .b else .a

/-- Superframe arming on a carrier that is OFF or not present. -/
def State.noCarrier (s : State) (mode : Nat) : Bool :=
  2 ≤ mode && (!s.present (modeCarrier mode) || s.rd (K.carState (modeCarrier mode)) = carOff)

/-- Codes 0x08 to 0x0B (09 R268, R270). -/
def State.instantRules (s : State) (e : Edition) : List (Nat × Key) :=
  let key := if e.mode = 1 then K.armTime else K.armSfc
  let t := s.editionTime e
  (if e.mode = 0 then []
    else if s.noCarrier e.mode then [(0x0A, K.armSfc)]
    else (if t ≤ s.nextUs then [(0x08, key)] else []) ++ (if s.datum + 86400000000000 < t then [(0x09, key)] else []))
    ++ (if 8 ≤ s.ed.armed.length then [(0x0B, K.armedCount)] else [])

/-- Codes 0x42 to 0x44 of one carrier (05 R147). -/
def State.leadRules (s : State) (e : Edition) (c : Carrier) : List (Nat × Key) :=
  let keys := e.elems.map Prod.fst
  let sets := changes keys c [(0x23, 0x040), (0x23, 0x041)]
  let any := sets || changes keys c [(0x23, 0x044), (0x23, 0x045)]
  (if any && s.rd (K.carState c) = carService && e.mode ≠ 2 + c.num then [(0x42, K.txLoading c 0)] else [])
    ++ (if sets && 2 ≤ e.mode && (s.car c).tx.pend.isSome then [(0x43, K.txPending c)] else [])
    ++ (if sets && 2 ≤ e.mode && !s.noCarrier e.mode && s.editionTime e < s.datum + 250000 then [(0x44, K.armSfc)] else [])

/-- The rules checked only at arming. -/
def State.armRules (s : State) (e : Edition) : List (Nat × Key) :=
  s.signRules e.id e.elems ++ s.instantRules e ++ s.leadRules e .a ++ (if s.present .b then s.leadRules e .b else [])

/-! ### Outcome -/

/-- The lowest code of the rules broken, with its first key. -/
def lowestRule : List (Nat × Key) → Option (Nat × Key)
  | [] => none
  | x :: t =>
    match lowestRule t with
    | some y => if y.1 < x.1 then some y else some x
    | none => some x

/-- How many rules were broken: each code counts once. -/
def ruleCount (l : List (Nat × Key)) : Nat := (l.map Prod.fst).dedup.length

/-- A key as 02.019 codes it. -/
def keyCode (k : Key) : Nat := k.area * 2 ^ 24 + k.entry * 2 ^ 12 + k.idx

/-- 02.018 to 02.01A take the outcome of a check. -/
def State.recordRules (s : State) (l : List (Nat × Key)) : State :=
  let r := (lowestRule l).getD (0, ⟨0, 0, 0⟩)
  ((s.wr K.rejectReason (r.1 : Nat)).wr K.rejectKey (keyCode r.2 : Nat)).wr K.rejectCount (ruleCount l : Nat)

end Sys2Proof.Machine
end

