-- ==== Sys2Proof/Machine/Editions.lean ====
section
/-! DEFINITION. Editions (spec 09 R265 to R279): drafts, validation, arming, disarming and application; and the Traverse's group
arming (10 R303, R304). -/

namespace Sys2Proof.Machine

/-! ### Drafts (09 R265 to R268) -/

/-- 02.010 (09 R265, R266): a draft opens with the next ID. -/
def State.openDraft (s : State) (src : Nat) : State × Status :=
  match s.ed.draft with
  | some d => (s, if d.owner = src then .draftState else .draftOwned)
  | none =>
    let id := s.ed.nextId
    (({ s with ed := { s.ed with draft := some ⟨id, src, false, []⟩, nextId := nextEditionId id } } : State).raise
      Ev.edDraftOpened noKey, .ok)

/-- DRAFT_OPEN: 02.010. -/
def execDraftOpen (src : Nat) (s : State) : Out := .next (s.request src K.draftOpen fun s => s.openDraft src)

/-- DRAFT_WRITE: an ED element is written (09 R246, R266, R267); one that is not ED is not for this command. -/
def execDraftWrite (src : Nat) (k : Key) (v : Val) (s : State) : Out :=
  .next (when ((rowOf (canonKey k)).any (fun r => r.access = .ed)) s fun s =>
    s.request src k fun s => draftEffect src (canonKey k) v s)

/-- 02.011 (09 R266): the owner or a plotter core discards the draft. -/
def State.discardDraft (s : State) (src : Nat) : State × Status :=
  match s.ed.draft with
  | none => (s, .noDraft)
  | some d => if d.owner = src || isPlotter src then (s.endDraft 4 0, .ok) else (s, .draftOwned)

/-- DRAFT_DISCARD: 02.011. -/
def execDraftDiscard (src : Nat) (s : State) : Out := .next (s.request src K.draftDiscard fun s => s.discardDraft src)

/-- ED_DRAFT_EXPIRED: 02.004 ms pass with no request from the owner (09 R266). -/
def execEdDraftExpired (s : State) : Out := .next (s.endDraft 5 0)

/-- A validation or arming that fails: reason, history and ED_REJECTED (09 R266, R268, R279). -/
def State.rejectDraft (s : State) (d : Draft) (l : List (Nat × Key)) : State :=
  let s := s.recordRules l
  (s.addHist ⟨d.id, d.owner, 1, s.rdN K.rejectReason, s.datum, 0xFF, d.elems.length, 0, s.rdN K.rejectKey⟩).raise Ev.edRejected noKey

/-- The open draft takes another form. -/
def State.setDraft (s : State) (d : Draft) : State := { s with ed := { s.ed with draft := some d } }

/-- The applied state with armed editions that meet a condition applied in order (09 R268). -/
def State.projected (s : State) (p : Edition → Bool) : State :=
  (s.ed.armed.filter p).foldl (fun q e => q.putElems e.elems) s

/-- 02.012 (09 R266, R268). -/
def State.validateDraft (s : State) (src : Nat) : State × Status :=
  match s.ownerCheck src, s.ed.draft with
  | some st, _ => (s, st)
  | none, none => (s, .noDraft)
  | none, some d =>
    let bad := ((s.projected (fun _ => true)).putElems d.elems).editionRules d.elems
    if bad.isEmpty then (((s.recordRules []).setDraft { d with validated := true }).raise Ev.edValidated noKey, .ok)
    else ((s.setDraft { d with validated := false }).rejectDraft d bad, .refused)

/-- DRAFT_VALIDATE: 02.012. -/
def execDraftValidate (src : Nat) (s : State) : Out := .next (s.request src K.draftValidate fun s => s.validateDraft src)

/-! ### Arming (09 R269, R270) -/

/-- The edition that the draft becomes with 02.014 to 02.016 as they stand. -/
def State.asEdition (s : State) (d : Draft) (group : Nat) : Edition :=
  let mode := s.rdN K.armMode
  ⟨d.id, d.owner, mode, if mode = 0 then s.nextUs else if mode = 1 then s.rdN K.armTime else s.rdN K.armSfc, d.elems, s.ed.armSeq, group⟩

/-- An edition takes its place in the armed list: behind those of an earlier or the same instant (09 R270, R275). -/
def State.insertArmed (s : State) (e : Edition) : List Edition → List Edition
  | [] => [e]
  | x :: t => if s.editionTime e < s.editionTime x then e :: x :: t else x :: s.insertArmed e t

/-- A loading edition armed at its carrier's own superframe in SERVICE announces its switch (02 R55; 05 R152, R154). -/
def State.announce (s : State) (e : Edition) (c : Carrier) : State :=
  if s.present c && s.rd (K.carState c) = carService && e.mode = 2 + c.num
      && changes (e.elems.map Prod.fst) c [(0x23, 0x040), (0x23, 0x041)] then
    s.modTx c (fun t => { t with pend := some ⟨1, e.instant, e.id⟩, nextTables := none })
  else s

/-- Arming succeeds (09 R270 steps 3 and 4). -/
def State.armEdition (s : State) (e : Edition) : State :=
  let s := { s with ed := { s.ed with armed := s.insertArmed e s.ed.armed, armSeq := s.ed.armSeq + 1 } }
  let s := (s.recordRules []).dropDraft
  let s := s.raise Ev.edArmed noKey
  ((s.announce e .a).announce e .b).prepareSheet .a |>.prepareSheet .b

/-- The rules an arming meets (09 R268, R270). -/
def State.armingFaults (s : State) (e : Edition) : List (Nat × Key) :=
  s.armRules e ++ ((s.projected (fun x => s.editionTime x ≤ s.editionTime e)).putElems e.elems).editionRules e.elems

/-- 02.013 (09 R266, R270), for a group or for none. -/
def State.armDraft (s : State) (src group : Nat) : State × Status :=
  match s.ownerCheck src, s.ed.draft with
  | some st, _ => (s, st)
  | none, none => (s, .noDraft)
  | none, some d =>
    if !d.validated then
      let s := ((s.wr K.rejectReason 0x0C).wr K.rejectKey 0).wr K.rejectCount 1
      (s.addHist ⟨d.id, d.owner, 1, 0x0C, s.datum, 0xFF, d.elems.length, 0, 0⟩, .refused)
    else
      let e := s.asEdition d group
      let bad := s.armingFaults e
      if bad.isEmpty then (s.armEdition e, .ok) else (s.rejectDraft d bad, .refused)

/-- DRAFT_ARM: 02.013. -/
def execDraftArm (src : Nat) (s : State) : Out := .next (s.request src K.draftArm fun s => s.armDraft src 0)

/-- 02.026 (09 R271): the source that armed an edition, or a plotter core, disarms it. -/
def State.disarmCmd (s : State) (src id : Nat) : State × Status :=
  match s.ed.armed.find? (fun e => e.id = id) with
  | none => (s, .refused)
  | some e => if e.src = src || isPlotter src then (s.disarm e 0, .ok) else (s, .refused)

/-- DISARM: 02.026. -/
def execDisarm (src : Nat) (id : Int) (s : State) : Out :=
  .next (s.request src K.disarm fun s => s.disarmCmd src (clampKey K.disarm id).toNat)

/-! ### Application (09 R272 to R275) -/

/-- A change of R or S by an edition (02 R48): in STANDBY the values before it stay in force until the next superframe boundary, and a
change of R relocks the line die there (08 R230); elsewhere the die runs by the new ones when the carrier leaves OFF. The companion's
cross-phase term follows the rates (01 R40). -/
def State.appliedRate (s old : State) (ks : List Key) (c : Carrier) : State :=
  if changes ks c [(0x20, 0x010), (0x20, 0x011)] then
    let s := if s.rd (K.carState c) = carStandby then
        s.modTx c (fun t => { t with
          held := some (t.held.getD (old.rdN (K.symbolRate c), old.rdN (K.subcarriers c)))
          relock := t.relock || changes ks c [(0x20, 0x010)] })
      else s
    (s.evalXpm c).evalXpm c.other
  else s

/-- The sheets of stage 9 (02 R70): coefficients and indices that an edition changes go to the inactive sheet, which becomes active. -/
def State.appliedNlc (s : State) (ks : List Key) (c : Carrier) : State :=
  if changes ks c [(0x20, 0x060), (0x20, 0x061)] then
    let some_ := fun (f : Nat → Key) => ((List.range 2048).map (fun i => (i, s.rd (f i)))).filter (fun e => e.2 ≠ 0)
    let sh : NlcSheet := ⟨some_ (K.nlcCoef c), some_ (K.nlcIndex c)⟩
    s.modTx c (fun t => if t.nlcSheet = 0 then { t with nlc1 := sh, nlcSheet := 1 } else { t with nlc0 := sh, nlcSheet := 0 })
  else s

/-- What a carrier's stages take up of an applied edition: `old` is the state before (02 R48, R70, R73; 03 R92; 05 R150 to
R152; 08 R230). An edition that contains 21.010, 21.011 or 21.012 is one that changes them, whatever its values (log entry 118). -/
def State.appliedCarrier (s old : State) (e : Edition) (c : Carrier) : State :=
  let ks := e.elems.map Prod.fst
  let s := if changes ks c [(0x23, 0x040), (0x23, 0x041)] then s.wr (K.txEditedTag c) (e.id % 65536 : Nat) else s
  let s := if s.rd (K.carState c) = carService && (s.car c).tx.pend.any (fun p => p.edId = e.id) then s.loadSwitch c 1 else s
  let s := if changes ks c [(0x23, 0x044), (0x23, 0x045)] && s.rd (K.carState c) ≠ carService then s.toFallback c else s
  let s := if changes ks c [(0x21, 0x010), (0x21, 0x011), (0x21, 0x012)] then s.swapRequest c (s.cdApplied c) else s
  let s := s.appliedRate old ks c
  let s := if s.rd (K.txScale c) ≠ old.rd (K.txScale c) then
      s.modTx c (fun t => { t with slew := some (old.scaleNow c, s.rdN (K.txScale c), 0) }) else s
  (s.appliedNlc ks c).evalShortfall c

/-- The elements of an edition whose values differ from those applied. -/
def State.realChanges (s : State) (es : List (Key × Val)) : List Key := (es.filter (fun e => s.applied e.1 ≠ e.2)).map Prod.fst

/-- An edition has passed its rules at its instant and applies (09 R273, R278, R279). -/
def State.applyValues (s : State) (e : Edition) : State :=
  let old := s
  let s := s.putElems e.elems
  let s := s.appliedCarrier old e .a
  let s := if s.present .b then s.appliedCarrier old e .b else s
  let s := s.hostApplied old (old.realChanges e.elems)
  let s := (e.elems.filter (fun x => x.1.area = 0x68)).foldl (fun s x => s.fbDescChanged (ringOf x.1)) s
  let s := ((s.wr K.lastAppliedId (e.id : Nat)).wr K.lastAppliedTime (s.datum : Nat)).raise Ev.edApplied noKey
  (s.journal (.edition e.mode e.src e.id e.instant s.datum e.elems)).addHist ⟨e.id, e.src, 0, 0, s.datum, e.mode, e.elems.length, e.instant, 0⟩

/-- An edition breaks a rule at its instant: nothing of it applies, and its announced switch does not take place (09 R274;
05 R154). -/
def State.applyRejected (s : State) (e : Edition) (bad : List (Nat × Key)) : State :=
  let r := (lowestRule bad).getD (0, ⟨0, 0, 0⟩)
  let s := s.addHist ⟨e.id, e.src, 2, r.1, s.datum, e.mode, e.elems.length, e.instant, keyCode r.2⟩
  let drop := fun (s : State) (c : Carrier) => if (s.car c).tx.pend.any (fun p => p.edId = e.id) then s.cancelPending c else s
  (drop (drop s .a) .b).raise Ev.edApplyRejected noKey

/-- The exchange whose edition reaches its superframe enters COMMITTING (05 R162 step 4). -/
def State.lxAtN (s : State) (e : Edition) (c : Carrier) : State :=
  if s.rd (K.lxState c) = 2 && (s.car c).lx.edId = e.id then s.wr (K.lxState c) 3 else s

/-- An armed edition leaves the list and is checked and applied (09 R273, R274). -/
def State.applyEdition (s : State) (e : Edition) : State :=
  let s := { s with ed := { s.ed with armed := s.ed.armed.filter (fun x => x.seq ≠ e.seq) } }
  let bad := (s.putElems e.elems).editionRules e.elems
  let s := if bad.isEmpty then s.applyValues e else s.applyRejected e bad
  (s.lxAtN e .a).lxAtN e .b

/-- The instant of an armed edition is reached: the datum, or the carrier's TX_SFC, is at it or past it. -/
def State.editionDue (s : State) (e : Edition) : Bool :=
  if e.mode < 2 then e.instant ≤ s.datum
  else (s.rdN (K.txSfc (modeCarrier e.mode)) + (max48 + 1) - e.instant % (max48 + 1)) % (max48 + 1) < (max48 + 1) / 2

/-- EDITION_APPLY: the first armed edition whose instant is reached applies (09 R273 to R275). -/
def execEditionApply (s : State) : Out :=
  .next (match s.ed.armed.find? s.editionDue with
    | none => s
    | some e => s.applyEdition e)

/-- Editions armed at superframes of a carrier that enters OFF apply at once, in order (09 R272). -/
def State.applyAtOff (s : State) (c : Carrier) : State :=
  (s.ed.armed.filter (fun e => e.mode = 2 + c.num)).foldl (fun s e => s.applyEdition e) s

/-! ### Group arming (10 R303, R304) -/

/-- GROUP_ARM_SEND: 50.051 broadcasts GROUP_ARM with the instant of 50.052. -/
def execGroupArmSend (src : Nat) (v : Int) (s : State) : Out :=
  .next (s.request src K.groupArmSend fun s =>
    let g := (clampKey K.groupArmSend v).toNat
    (({ s with tv := { s.tv with groupOut := g } } : State).originate 6 true 1 0 0 (beBytes 2 g ++ [1, 0] ++ beBytes 8 (s.rdN K.groupArmTime)),
      .ok))

/-- GROUP_DISARM of a group is broadcast. -/
def State.groupDisarm (s : State) (g : Nat) : State :=
  let s : State := { s with tv := { s.tv with groupOut := if s.tv.groupOut = g then 0 else s.tv.groupOut } }
  s.originate 7 true 1 0 0 (beBytes 2 g)

/-- GROUP_DISARM_SEND: 50.054 broadcasts GROUP_DISARM. -/
def execGroupDisarmSend (src : Nat) (v : Int) (s : State) : Out :=
  .next (s.request src K.groupDisarmSend fun s => (s.groupDisarm (clampKey K.groupDisarmSend v).toNat, .ok))

/-- A GROUP_ARM finds a validated draft of its group: 02.014 and 02.015 take its instant, the draft is armed as by its owner,
and the outcome goes to the sender. -/
def State.groupArm (s : State) (d : Draft) (sender group instant : Nat) : State :=
  let s := (s.rwStore d.owner K.armMode 1).rwStore d.owner K.armTime (instant : Nat)
  let p := s.armDraft d.owner group
  let ok := p.2 = .ok
  p.1.originate 8 false 2 sender 0 (beBytes 2 group ++ [if ok then 0 else 1] ++ beBytes 1 (if ok then 0 else p.1.rdN K.rejectReason) ++
    beBytes 4 d.id)

/-- GROUP_ARM_RX: the oldest delivered GROUP_ARM. -/
def execGroupArmRx (s : State) : Out :=
  .next (s.serve 6 fun x s =>
    let p := x.frame.payload
    let group := beNat (p.take 2)
    match s.ed.draft with
    | none => s
    | some d =>
      if d.validated && group ≠ 0 && s.rdN K.draftGroup = group && (nth p 2 (0 : Byte)).toNat = 1 then
        s.groupArm d x.frame.src group (beNat ((p.drop 4).take 8))
      else s)

/-- GROUP_DISARM_RX: the oldest delivered GROUP_DISARM disarms what its group armed. -/
def execGroupDisarmRx (s : State) : Out :=
  .next (s.serve 7 fun x s =>
    let group := beNat (x.frame.payload.take 2)
    (s.ed.armed.filter (fun e => e.group = group && group ≠ 0)).foldl (fun s e => s.disarm e 0) s)

/-- GROUP_RESULT_RX: the oldest delivered GROUP_RESULT is kept for its sender; on the first REFUSED of the group this station armed last,
the standard firmware disarms the others (10 R304). -/
def execGroupResultRx (s : State) : Out :=
  .next (s.serve 8 fun x s =>
    let p := x.frame.payload
    let g := beNat (p.take 2)
    let s := s.wr (K.groupResult x.frame.src) (beNat ((p.drop 2).take 2) : Nat)
    if s.firmware && nth p 2 (0 : Byte) = 1 && g ≠ 0 && s.tv.groupOut = g then s.groupDisarm g else s)

end Sys2Proof.Machine
end

