-- ==== Sys2Proof/Machine/Exchange.lean ====
section
/-! DEFINITION. The standard firmware's loading policy and end-to-end exchange (spec 05 R161 to R168, 15 R385): messages, the near
and the far end, and the choice of a set. -/

namespace Sys2Proof.Machine

/-- The source code of the core that runs the standard firmware's exchanges: plotter core 0 (PRESUMED: the spec says a plotter
core). -/
abbrev fwSource : Nat := 0x1000

/-! ### Messages (05 R161) -/

/-- A message to the far station of a carrier: an APP frame. -/
def State.sendLx (s : State) (c : Carrier) (bytes : List Byte) : State := s.originate 5 false 2 (s.rdN (K.farStation c)) 0 bytes

/-- The common header. -/
def lxHead (type carrier seq tag : Nat) : List Byte := beBytes 1 type ++ beBytes 1 carrier ++ beBytes 2 seq ++ beBytes 2 tag

/-- 23.046: CRC-32C of the fallback set image. -/
def State.fbCrcOf (s : State) (c : Carrier) : Nat := crc32c (s.fallbackSet c).image

/-- STAGE of the exchange in progress. -/
def State.stageMessage (s : State) (c : Carrier) : List Byte :=
  let x := (s.car c).lx
  lxHead 1 c.num x.seq x.tag ++ beBytes 1 (s.subs c) ++ beBytes 4 (s.fbCrcOf c) ++
    (x.run.recs.take (s.subs c)).flatMap (fun r => beBytes 2 r.1 ++ beBytes 1 r.2)

/-- Bytes 6 to 10 of an ACK: the slots of the receiver. -/
def State.slotBytes (s : State) (c : Carrier) : List Byte :=
  let r := (s.car c).rx
  beBytes 2 r.slot0.tag ++ beBytes 2 r.slot1.tag

/-- Byte 10 of an ACK. -/
def RxState.slotBits (r : RxState) : Nat := b2n r.slot0.held + b2n r.slot1.held * 2 + b2n r.inUse.isNone * 4

/-- The oldest APP frame held whose payload is a message of a type: its station, its payload, and the frames left. -/
def takeLx (q : List (List Byte)) (type : Nat) : Option (Nat × List Byte × List (List Byte)) :=
  match q.findIdx? (fun f => 22 ≤ f.length && (nth f 16 (0 : Byte)).toNat = type) with
  | none => none
  | some i =>
    let f := nth q i []
    some (bitsOf (beNat (f.take 16)) 107 96, f.drop 16, q.eraseIdx i)

/-- The standard firmware takes a message; with none waiting, or no firmware running, nothing changes. -/
def State.serveLx (s : State) (type : Nat) (f : Nat → List Byte → State → State) : State :=
  if !s.firmware then s
  else
    match takeLx s.cores.appRx type with
    | none => s
    | some (src, p, rest) => f src p { s with cores := { s.cores with appRx := rest } }

/-- The carrier that receives what a far station's carrier sends. -/
def State.receiverOf (s : State) (src far : Nat) : Option Carrier :=
  [Carrier.a, Carrier.b].find? (fun c => s.present c && s.rdN (K.farStation c) = src && s.rdN (K.farCarrier c) = far)

/-- The carrier a message's TX_CARRIER bit names. -/
def carrierOf (p : List Byte) : Carrier := if (nth p 1 (0 : Byte)).toNat % 2 = 1 then .b else .a

/-- SEQ and TAG of a message. -/
def lxSeq (p : List Byte) : Nat := beNat ((p.drop 2).take 2)
/-- TAG. -/
def lxTag (p : List Byte) : Nat := beNat ((p.drop 4).take 2)

/-! ### The near end (05 R162 to R165) -/

/-- The elements of an exchange's edition: none for the early check. -/
def State.lxElems (s : State) (c : Carrier) : List (Key × Val) :=
  let x := (s.car c).lx
  if x.run.check then []
  else (List.range (s.subs c)).flatMap (fun k =>
    let r := nth x.run.recs k (128, 0)
    [(K.txLoading c k, Val.num (r.1 : Nat)), (K.txGrid c k, Val.num (r.2 : Nat))])

/-- An exchange ends with a result: IDLE, and a further request held takes its place. -/
def State.lxEnd (s : State) (c : Carrier) (result : Int) : State :=
  let s := (s.wr (K.lxState c) 0).wr (K.lxResult c) result
  s.modLx c (fun x => match x.held with
    | some r => { x with held := none, run := r, waiting := true, askedAt := s.datum }
    | none => x)

/-- A waiting exchange tries to start: draft, elements, validation, STAGE (05 R162 step 1, R165). A draft that another holds leaves
it waiting. SEQ is the firmware's choice. -/
def State.lxTry (s : State) (c : Carrier) : State :=
  let p := s.openDraft fwSource
  if p.2 ≠ .ok then s
  else
    let s := p.1.modLx c (fun x => { x with waiting := false })
    let s := (s.lxElems c).foldl (fun s e => (draftEffect fwSource e.1 e.2 s).1) s
    let v := s.validateDraft fwSource
    if v.2 ≠ .ok then (v.1.endDraft 4 0).lxEnd c 4
    else
      let s := v.1
      let id := (s.ed.draft.map (fun d => d.id)).getD 0
      let s := (s.modLx c (fun x => { x with seq := s.freeVal % 65536, tag := id % 65536, edId := id })).tookFree
      (s.wr (K.lxState c) 1).sendLx c (s.stageMessage c)

/-- An exchange of the device is in STAGING. -/
def State.staging (s : State) : Bool := s.rd (K.lxState .a) = 1 || (s.present .b && s.rd (K.lxState .b) = 1)

/-- The carriers whose exchange is ready to start, in order: step-downs, then the one requested first (05 R165); in HOLD none starts
(R166). -/
def State.lxReady (s : State) : List Carrier :=
  let ok := fun (c : Carrier) => s.present c && (s.car c).lx.waiting && s.rd (K.lxState c) = 0 && s.rd (K.lpMode c) ≠ 2
  let before := fun (c d : Carrier) =>
    let x := (s.car c).lx
    let y := (s.car d).lx
    (x.run.down && !y.run.down) || (x.run.down = y.run.down && x.askedAt ≤ y.askedAt)
  ([Carrier.a, Carrier.b].filter ok).mergeSort before

/-- The next waiting exchange starts if none is in STAGING (05 R165). -/
def State.lxPump (s : State) : State :=
  if !s.firmware || s.staging then s
  else
    match s.lxReady with
    | [] => s
    | c :: _ => s.lxTry c

/-- A request for an exchange (05 R164): it starts, preempts one in STAGING if it is for less than the current set carries, or is held; a later request replaces the one waiting or held. -/
def State.lxRequest (s : State) (c : Carrier) (r : LxReq) : State :=
  let ask := fun (s : State) => (s.modLx c (fun x => { x with run := r, held := none, waiting := true, askedAt := s.datum })).lxPump
  let st := s.rd (K.lxState c)
  if st = 0 then ask s
  else if st = 1 && !r.check && s.capacity c ⟨0, r.recs⟩ < s.capacity c (s.car c).tx.cur then
    let x := (s.car c).lx
    ask (((s.sendLx c (lxHead 5 c.num x.seq x.tag)).lxDiscard c).wr (K.lxState c) 0)
  else s.modLx c (fun x => { x with held := some r })

/-- What the retry rule of FB_MISMATCH and S_MISMATCH compares. -/
def State.lxSnapshot (s : State) (c : Carrier) : List (Nat × Nat) × Nat := ((s.fallbackSet c).recs, s.subs c)

/-- A set switched away from (05 R163): PREVIOUS if the far end was last seen to hold its tag, else FALLBACK, at the earliest legal
superframe. -/
def State.lxFallBack (s : State) (c : Carrier) : State :=
  let x := (s.car c).lx
  let tag := (s.car c).tx.prev.tag
  let held := !(s.car c).tx.prevEmpty && tag ≠ 0 && (tag = x.farTag0 || tag = x.farTag1)
  (s.switchTo c (if held then 2 else 3) (s.firstAfter c 250000)).1

/-- LX_ACK_RX: the held edition is armed at the first superframe at least 23.069 away (05 R162 step 3, R163). -/
def execLxAckRx (s : State) : Out :=
  .next (s.serveLx 2 fun _ p s =>
    let c := carrierOf p
    let x := (s.car c).lx
    if !s.present c || p.length ≠ 11 || s.rd (K.lxState c) ≠ 1 || lxSeq p ≠ x.seq then s
    else
      let s := s.modLx c (fun x => { x with
        farTag0 := beNat ((p.drop 6).take 2), farTag1 := beNat ((p.drop 8).take 2), farBits := (nth p 10 (0 : Byte)).toNat })
      if x.run.check then
        let s := (s.lxDiscard c).wr (K.lxState c) 0
        (s.lxEnd c (s.rd (K.lxResult c))).lxPump
      else
        let n := s.firstAfter c (1000 * s.rdN (K.lxLead c))
        let s := (s.rwStore fwSource K.armMode (2 + c.num : Nat)).rwStore fwSource K.armSfc (n : Nat)
        let a := s.armDraft fwSource 0
        if a.2 = .ok then ((a.1.modLx c (fun x => { x with n := n })).wr (K.lxState c) 2).lxPump
        else (((a.1.lxDiscard c).sendLx c (lxHead 5 c.num x.seq x.tag)).lxEnd c 4).lxPump)

/-- LX_NACK_RX (05 R163). -/
def execLxNackRx (s : State) : Out :=
  .next (s.serveLx 3 fun _ p s =>
    let c := carrierOf p
    if !s.present c || p.length ≠ 8 || s.rd (K.lxState c) ≠ 1 || lxSeq p ≠ (s.car c).lx.seq then s
    else
      let reason := (nth p 6 (0 : Byte)).toNat
      let s := (s.lxDiscard c).wr (K.lxNackReason c) (beNat ((p.drop 6).take 2) : Nat)
      let s := if reason = 2 || reason = 3 then
          (s.raise Ev.lxFbMismatch (K.fbCrc c)).modLx c (fun x => { x with blocked := some (s.lxSnapshot c) }) else s
      (s.lxEnd c 2).lxPump)

/-- LX_COMMIT_RX (05 R162 step 5, R163). -/
def execLxCommitRx (s : State) : Out :=
  .next (s.serveLx 4 fun _ p s =>
    let c := carrierOf p
    let st := s.rd (K.lxState c)
    if !s.present c || p.length ≠ 17 || !(st = 2 || st = 3) || lxSeq p ≠ (s.car c).lx.seq then s
    else
      let s := s.modLx c (fun x => { x with farTag0 := beNat ((p.drop 12).take 2), farTag1 := beNat ((p.drop 14).take 2) })
      let bits := (nth p 16 (0 : Byte)).toNat
      if bitOf bits 0 then (s.lxEnd c 1).lxPump
      else if bitOf bits 1 then ((s.lxFallBack c).lxEnd c 6).lxPump
      else s)

/-- LX_ACK_TIMEOUT: 23.067 ms pass in STAGING with no answer (05 R163). -/
def execLxAckTimeout (c : Carrier) (s : State) : Out :=
  .next (when (s.present c && s.firmware && s.rd (K.lxState c) = 1) s fun s => ((s.lxDiscard c).lxEnd c 3).lxPump)

/-- LX_COMMIT_TIMEOUT: 23.068 ms pass after N with no COMMIT (05 R163). -/
def execLxCommitTimeout (c : Carrier) (s : State) : Out :=
  .next (when (s.present c && s.firmware && s.rd (K.lxState c) = 3) s fun s => ((s.lxFallBack c).lxEnd c 5).lxPump)

/-- LX_RETRY_TIMER: 23.06A ms after a failure the exchange is tried again, unless what a mismatch named has not changed (05 R163). -/
def execLxRetryTimer (c : Carrier) (s : State) : Out :=
  .next (when (s.present c && s.firmware && s.rd (K.lxState c) = 0 && 2 ≤ s.rd (K.lxResult c) && s.rd (K.lxResult c) ≤ 6
      && s.rd (K.lpMode c) ≠ 2 && (s.car c).lx.blocked ≠ some (s.lxSnapshot c)) s fun s =>
    (s.modLx c (fun x => { x with blocked := none, waiting := true, askedAt := s.datum })).lxPump)

/-- LX_DRAFT_RETRY: every 10 ms a request that waits for the draft tries again (05 R165). -/
def execLxDraftRetry (c : Carrier) (s : State) : Out :=
  .next (when (s.present c && (s.car c).lx.waiting && s.rd (K.lxState c) = 0) s fun s => s.lxPump)

/-! ### The far end (05 R162 steps 2 and 4) -/

/-- A message of the far end for an exchange. -/
def State.farSend (s : State) (c : Carrier) (type seq tag : Nat) (rest : List Byte) : State :=
  s.sendLx c (lxHead type (s.rdN (K.farCarrier c)) seq tag ++ rest)

/-- The set of a STAGE is written to 23.050 to 23.052 and staged; a refusal is answered NACK. -/
def State.stageFrom (s : State) (c : Carrier) (p : List Byte) : State :=
  let seq := lxSeq p
  let tag := lxTag p
  let s := (List.range (s.subs c)).foldl (fun s k =>
    let r := (p.drop (11 + 3 * k)).take 3
    (s.rwStore fwSource (K.stageLoading c k) (clampKey (K.stageLoading c k) (beNat (r.take 2) : Nat))).rwStore fwSource (K.stageGrid c k)
      (clampKey (K.stageGrid c k) (beNat (r.drop 2) : Nat))) s
  let s := s.rwStore fwSource (K.stageTag c) (tag : Nat)
  let g := s.stage c
  if g.2 = .ok then g.1.modLx c (fun x => { x with rxSeq := seq, rxTag := tag, rxWait := 1 })
  else g.1.farSend c 3 seq tag ([1] ++ beBytes 1 (g.1.rdN (K.stageResult c)))

/-- What a message shows of the far end's S and fallback CRC (0 if it shows none): a change there lifts a stop of retries (05 R163). -/
def State.lxFarView (s : State) (c : Carrier) (subs crc : Nat) : State :=
  s.modLx c (fun x =>
    let moved := (x.farS ≠ 0 && x.farS ≠ subs) || (crc ≠ 0 && x.farCrc ≠ 0 && x.farCrc ≠ crc)
    { x with farS := subs, farCrc := if crc = 0 then x.farCrc else crc, blocked := if moved then none else x.blocked })

/-- LX_STAGE_RX: S, the fallback CRC and staging are checked in this order (05 R162 step 2). -/
def execLxStageRx (s : State) : Out :=
  .next (s.serveLx 1 fun src p s =>
    match s.receiverOf src ((nth p 1 (0 : Byte)).toNat % 2) with
    | none => s
    | some c =>
      let n := (nth p 6 (0 : Byte)).toNat
      if p.length ≠ 11 + 3 * n then s
      else
      let s := s.lxFarView c n (beNat ((p.drop 7).take 4))
      if n ≠ s.subs c then s.farSend c 3 (lxSeq p) (lxTag p) [3, 0]
      else if beNat ((p.drop 7).take 4) ≠ s.fbCrcOf c then s.farSend c 3 (lxSeq p) (lxTag p) [2, 0]
      else s.stageFrom c p)

/-- LX_CANCEL_RX: nothing more is awaited for that staging; its slot stays HELD (05 R161, R164). -/
def execLxCancelRx (s : State) : Out :=
  .next (s.serveLx 5 fun src p s =>
    match s.receiverOf src ((nth p 1 (0 : Byte)).toNat % 2) with
    | none => s
    | some c => if lxSeq p = (s.car c).lx.rxSeq then s.modLx c (fun x => { x with rxWait := 0 }) else s)

/-- RX_LOAD_STAGED: the slot is HELD (05 R157), and the standard firmware answers the STAGE that asked for it with ACK. -/
def execRxLoadStaged (c : Carrier) (s : State) : Out :=
  .next (
    let t := rxLoadStaged c s
    let x := (t.car c).lx
    if t.firmware && x.rxWait = 1 && (s.car c).rx.staging.isSome && (t.car c).rx.staging.isNone then
      (t.modLx c (fun x => { x with rxWait := 2 })).farSend c 2 x.rxSeq x.rxTag
        (t.slotBytes c ++ beBytes 1 ((t.car c).rx.slotBits))
    else t)

/-- The SFC of the received superframe: of its first good header, else of the last one and the superframes begun since. -/
def RxState.farSfcNow (r : RxState) : Nat :=
  match r.hdrSf, r.hdr with
  | some h, _ => h.sfc
  | none, some h => (h.sfc + r.sinceHdr) % (max48 + 1)
  | none, none => 0

/-- COMMIT at the first RX_LOAD_SWITCH or RX_LOAD_UNKNOWN after a staging; a switch starts the averaging window of R166. -/
def State.lxWatch (t : State) (c : Carrier) (old : State) : State :=
  let moved : Bool := (t.car c).rx.inUse ≠ (old.car c).rx.inUse
  let unknown : Bool := t.rd (K.rxUnknownCount c) ≠ old.rd (K.rxUnknownCount c)
  let x := (t.car c).lx
  let t := if moved then t.modLx c (fun x => { x with reportIn := 2 ^ t.rdN (K.snrAvg c) }) else t
  if t.firmware && x.rxWait = 2 && (moved || unknown) then
    let r := (t.car c).rx
    (t.modLx c (fun x => { x with rxWait := 0 })).farSend c 4 x.rxSeq r.tagInUse
      (beBytes 6 r.farSfcNow ++ t.slotBytes c ++ beBytes 1 (b2n (moved && r.tagInUse = x.rxTag) + b2n unknown * 2))
  else t

/-- RX_FRAME_HEADER (03 R111 to R113), and what the standard firmware does about a switch (05 R162). -/
def execRxFrameHeader (c : Carrier) (fi : Nat) (copies : List (Nat × Nat)) (s : State) : Out :=
  .next ((rxFrameHeader c fi copies s).lxWatch c s)

/-- REPORT (05 R166); its SEQ is the firmware's choice. -/
def State.sendReport (s : State) (c : Carrier) : State :=
  (s.tookFree).farSend c 6 (s.freeVal % 65536) ((s.car c).rx.tagInUse)
    (beBytes 1 (s.subs c) ++ (List.range (s.subs c)).flatMap (fun k => beBytes 2 (ofSigned 16 (s.rd (K.snrFw c k)))))

/-- RX_SUPERFRAME_BOUNDARY (05 R148; 06 R179); the averaging window after a switch ends with a REPORT (05 R166). -/
def execRxSuperframeBoundary (c : Carrier) (s : State) : Out :=
  .next (
    let t := rxSuperframeBoundary c s
    let n := (t.car c).lx.reportIn
    if s.present c && 0 < n && phLocked ≤ t.rd (K.acqPhase c) then
      let t := t.modLx c (fun x => { x with reportIn := n - 1 })
      if n = 1 && t.firmware then t.sendReport c else t
    else t)

/-! ### The policy (05 R166 to R168) -/

/-- The grid that follows from k (05 R167). -/
def gridOf (k : Nat) : Nat := if k ≤ 128 then 0 else if k ≤ 224 then 1 else 2

/-- 64 H for a signal-to-noise ratio less gap and margin, in 0.01 dB (05 R167). -/
def loadingFor (snr : Int) : Nat :=
  let x := 1 + pow10 ((snr : Rat) / 1000)
  max 64 (greatest (fun k => k ≤ 384 && pow2sixty4 k ≤ x) 9 0)

/-- The set of a margin in 0.01 dB. -/
def State.setFor (s : State) (c : Carrier) (delta : Nat) : List (Nat × Nat) :=
  (List.range 32).map (fun k =>
    if k < s.subs c then
      let h := loadingFor (s.rd (K.farSnr c k) - s.rd (K.lpGap c) - delta)
      (h, gridOf h)
    else (s.rdN (K.txLoading c k), s.rdN (K.txGrid c k)))

/-- The greatest margin, from 10.0 dB down in steps of 0.1 dB and not below 23.062, whose set carries 20.014. -/
def State.bestMargin (s : State) (c : Carrier) : Option Nat :=
  ((List.range 101).map (fun i => 1000 - 10 * i)).find? (fun d =>
    s.rdN (K.lpMinMargin c) ≤ d && 1000 * s.rdN (K.linePayload c) ≤ s.capacity c ⟨0, s.setFor c d⟩)

/-- The set of greatest capacity not above a limit, among those of margins from 23.062 up in steps of 0.1 dB (15 R386). -/
def State.cappedSet (s : State) (c : Carrier) (limit : Nat) : List (Nat × Nat) :=
  let d := ((List.range 600).map (fun i => s.rdN (K.lpMinMargin c) + 10 * i)).find? (fun d => s.capacity c ⟨0, s.setFor c d⟩ ≤ limit)
  match d with
  | some d => s.setFor c d
  | none => (List.range 32).map (fun _ => (64, 0))

/-- A set under the limit in force. -/
def State.underLimit (s : State) (c : Carrier) (recs : List (Nat × Nat)) : List (Nat × Nat) :=
  match (s.car c).lx.capLimit with
  | some l => if l < s.capacity c ⟨0, recs⟩ then s.cappedSet c l else recs
  | none => recs

/-- The margin m of the current set in 0.01 dB, rounded down (05 R167). -/
def State.marginNow (s : State) (c : Carrier) : Int :=
  let ms := (List.range (s.subs c)).map (fun k =>
    let v := pow2sixty4 (nth (s.car c).tx.cur.recs k (128, 0)).1 - 1
    let d := hundredthDb v.num.toNat v.den
    let up : Int := if pow10 ((d : Rat) / 1000) = v then d else d + 1
    s.rd (K.farSnr c k) - s.rd (K.lpGap c) - up)
  ms.foldl min 100000

/-- 23.065 follows the current set and the last report. -/
def State.reportMargin (s : State) (c : Carrier) : State := s.wr (K.lpMargin c) (clampInt (s.marginNow c) (-1000) 1000)

/-- The policy's set: the best, or where even the best margin is below 23.062 that of 23.062, with LP_SHORTFALL; and its margin. -/
def State.policySet (s : State) (c : Carrier) : State × List (Nat × Nat) × Nat :=
  match s.bestMargin c with
  | some d => (s, s.underLimit c (s.setFor c d), d)
  | none => (s.raise Ev.lpShortfall (K.lpMargin c), s.underLimit c (s.setFor c (s.rdN (K.lpMinMargin c))), s.rdN (K.lpMinMargin c))

/-- The policy asks for an exchange; the same set again is not asked for. -/
def State.lpStart (s : State) (c : Carrier) (down : Bool) : State :=
  let p := s.policySet c
  if p.2.1.take (s.subs c) = (s.car c).tx.cur.recs.take (s.subs c) then p.1 else p.1.lxRequest c ⟨p.2.1, down, false⟩

/-- LX_REPORT_RX: 23.004 takes a report; the first since LOCKED on the fallback set, or a margin below 23.062, starts an exchange in
AUTO (05 R166, R168). -/
def execLxReportRx (s : State) : Out :=
  .next (s.serveLx 6 fun _ p s =>
    let c := carrierOf p
    let n := (nth p 6 (0 : Byte)).toNat
    if !s.present c || p.length ≠ 7 + 2 * n then s
    else
      let s := (List.range (min n 32)).foldl (fun s k =>
        s.wr (K.farSnr c k) (clampInt (toSigned 16 (beNat ((p.drop (7 + 2 * k)).take 2))) (-1000) 4000)) s
      let s := (s.lxFarView c n 0).reportMargin c
      let first := (s.car c).lx.firstReport
      let s := s.modLx c (fun x => { x with firstReport := false })
      if s.rd (K.lpMode c) ≠ 0 || s.rd (K.carState c) ≠ carService then s
      else if first && (s.car c).tx.cur.tag = 0 then s.lpStart c false
      else if s.marginNow c < s.rd (K.lpMinMargin c) then s.lpStart c true
      else s)

/-- LP_PERIOD_TICK: each 23.064 the firmware sends a REPORT and, in AUTO, starts an exchange if the margin gained is at least 23.063
(05 R166, R168). -/
def execLpPeriodTick (c : Carrier) (s : State) : Out :=
  .next (when (s.present c && s.firmware) s fun s =>
    let s := if s.rd (K.acqPhase c) = phLocked || s.rd (K.acqPhase c) = phHold then s.sendReport c else s
    let s := s.reportMargin c
    if s.rd (K.lpMode c) ≠ 0 || s.rd (K.carState c) ≠ carService then s
    else
      let p := s.policySet c
      if s.marginNow c + s.rd (K.lpHyst c) ≤ p.2.2 then s.lpStart c false else p.1)

/-- LX_START: 23.066 runs an exchange on 23.070 and 23.071 in MANUAL (05 R166). -/
def execLxStart (src : Nat) (c : Carrier) (s : State) : Out :=
  .next (s.request src (K.lxStart c) fun s =>
    if s.firmware && s.rd (K.lpMode c) = 1 then
      let recs := s.underLimit c ((List.range 32).map (fun k => (s.rdN (K.reqLoading c k), s.rdN (K.reqGrid c k))))
      (s.lxRequest c ⟨recs, decide (s.capacity c ⟨0, recs⟩ < s.capacity c (s.car c).tx.cur), false⟩, .ok)
    else (s, .ok))

/-- CAP_LIMIT_RX: the far end's limit, in AUTO and MANUAL, steps the loading down at once (15 R385, R386). -/
def execCapLimitRx (s : State) : Out :=
  .next (s.serveLx 7 fun _ p s =>
    let c := carrierOf p
    if !s.present c || p.length ≠ 10 then s
    else
      let limit := beNat ((p.drop 6).take 4)
      let s := s.modLx c (fun x => { x with capLimit := if limit = 4294967295 then none else some limit })
      if limit ≠ 4294967295 && s.rd (K.lpMode c) ≠ 2 && limit < s.capacity c (s.car c).tx.cur then
        s.lxRequest c ⟨s.cappedSet c limit, true, false⟩
      else s)

end Sys2Proof.Machine
end

