-- ==== Sys2Proof/Machine/Carriers.lean ====
section
/-! DEFINITION. Carrier targets and states (spec 04 R121, R140; 09 R272), the standard firmware in acquisition (04 R142) and under
heat (15 R386), and the firmware restart (11 R326). -/

namespace Sys2Proof.Machine

/-! ### Targets (04 R121) -/

/-- CAR_TARGET_WRITE: 20.001; the moves that it asks for at once. -/
def execCarTargetWrite (src : Nat) (c : Carrier) (v : Int) (s : State) : Out :=
  .next (s.request src (K.carTarget c) fun s => (((rwEffect src (K.carTarget c) v s).1).carrierMove c, .ok))

/-- What stands still in OFF: PLL, superframe counter, search, transmitter; superframe-armed editions apply (02 R48, 03 R95,
09 R272). -/
def State.stopPipelines (s : State) (c : Carrier) : State :=
  let s := (s.wr (K.pllState c.num) 0).modDie c (fun d => { d with visiting := false, relock := false })
  let s := (s.modTx c (fun t => { t with sending := .nothing, relock := false, held := none })).toFallback c
  let s := ((s.wr (K.txSfc c) 0).abandonSearch c).modRx c (fun r => { r with cdDue := none })
  s.applyAtOff c

/-- CARRIER_STOP_COMPLETE: with the target OFF and the contour DARK, the pipelines and the line PLL stop, and the carrier reads OFF. -/
def execCarrierStopComplete (c : Carrier) (s : State) : Out :=
  .next (when (s.present c && s.rd (K.carState c) = carStandby && s.rd (K.carTarget c) = 0 && s.rd (K.contourState c) = 0) s fun s =>
    (s.setCar c carOff).stopPipelines c)

/-- FOREGROUND_CAL_DONE (08 R236); a carrier that a failed calibration takes from STANDBY to OFF stops. -/
def execForegroundCalDone (c : Carrier) (fails : List (List Nat)) (vals : List (List Byte)) (s : State) : Out :=
  .next (
    let t := foregroundCalDone c fails vals s
    if t.rd (K.carState c) = carOff && s.rd (K.carState c) ≠ carOff then t.stopPipelines c else t)

/-! ### Lock and its loss -/

/-- ACQ_LOCK: the third consecutive FAW pass in CONFIRM, with the deskew found for each sub-carrier (04 R130, 03 R100); the standard
firmware sends STAGE as an early check, except in HOLD, and an exchange that loss of lock broke off begins again after it (05 R162,
R163, R166). -/
def execAcqLock (c : Carrier) (deskews : List Int) (s : State) : Out :=
  .next (when (s.present c && s.rd (K.acqPhase c) = phConfirm && 3 ≤ (s.car c).rx.fawPass) s fun s =>
    let s := s.acqLock c deskews
    if s.firmware && s.rd (K.lpMode c) ≠ 2 then
      let s := (s.modLx c (fun x => { x with firstReport := true })).lxRequest c ⟨(s.fallbackSet c).recs, false, true⟩
      s.modLx c (fun x => { x with again := none, held := match x.again with
        | some r => some r
        | none => x.held })
    else s)

/-- SERVICE_TO_ACQUIRE: the superframe boundary after a final loss of lock (04 R121, R140); another carrier's exchange that waited for
the draft may start (05 R165). -/
def execServiceToAcquire (c : Carrier) (s : State) : Out :=
  .next (when (s.present c && s.rd (K.carState c) = carService && (s.car c).tx.returnPending) s fun s =>
    let s := s.serviceToAcquire c
    s.lxPump)

/-! ### Dispersion in acquisition (04 R142) -/

/-- The firmware handles dispersion: 22.006 is SEARCH and the carrier is in ACQUIRE (04 R142). -/
def State.cdPolicy (s : State) (c : Carrier) : Bool :=
  s.present c && s.firmware && s.rd (K.acqCdPolicy c) = 0 && s.rd (K.carState c) = carAcquire

/-- It also retries and searches again, the phase being HUNT (04 R142 steps 2 and 5). -/
def State.cdHunts (s : State) (c : Carrier) : Bool := s.cdPolicy c && s.rd (K.acqPhase c) = phHunt

/-- A result goes to 21.010 in one edition armed at once; a draft that another holds leaves it due (04 R142 step 2). -/
def State.cdApply (s : State) (c : Carrier) (v : Int) : State :=
  let p := s.openDraft fwSource
  if p.2 ≠ .ok then s.modRx c (fun r => { r with cdDue := some v })
  else
    let s := p.1.modRx c (fun r => { r with cdDue := none })
    let s := (draftEffect fwSource (K.cdValue c) (.num v) s).1
    let a := s.validateDraft fwSource
    let b := if a.2 = .ok then (a.1.rwStore fwSource K.armMode 0).armDraft fwSource 0 else a
    if b.2 = .ok then b.1 else (b.1.discardDraft fwSource).1

/-- The fine step: a quarter of the tolerance of 03 R120, rounded down, at least 1 ps/nm. -/
def State.fineStep (s : State) (c : Carrier) : Nat :=
  let kappa := kappaOf (s.rd (K.cdWavelength c))
  let r : Rat := (s.symRate c : Rat) / 1000
  max 1 (1000 * (s.subs c * s.subs c : Nat) / (r * r * (1 + (s.rdN (K.rolloff c) : Rat) / 1000) * kappa)).floor.toNat

/-- The fine search over two coarse steps on each side of a result (04 R142 step 3). -/
def State.fineSearch (s : State) (c : Carrier) (centre : Int) (coarse : Nat) : State :=
  let p := searchPlan (centre - (2 * coarse : Nat)) (centre + (2 * coarse : Nat)) (s.fineStep c)
  (s.wr (K.cdSearchState c) 1).modRx c (fun r => { r with search := some p, cdFine := true, trialMetrics := [], hops := 0 })

/-- CD_SEARCH_DONE: all trials are evaluated (03 R94); what the standard firmware does with the result (04 R142). -/
def execCdSearchDone (c : Carrier) (s : State) : Out :=
  .next (match (s.car c).rx.search with
    | none => s
    | some (_, step, _) =>
      let fine := (s.car c).rx.cdFine
      let s := (s.searchDone c).modRx c (fun r => { r with cdFine := false })
      if !s.cdPolicy c then s
      else if s.rd (K.cdSearchState c) = 3 then s.startSearch c
      else
        let v := s.rd (K.cdEst c)
        let s := s.cdApply c v
        if !fine && s.subs c ≤ 4 then s.fineSearch c v step else s)

/-- SF_CD_DRAFT_RETRY: every 10 ms while a result waits for the draft. -/
def execSfCdDraftRetry (c : Carrier) (s : State) : Out :=
  .next (match (s.car c).rx.cdDue with
    | none => s
    | some v => if s.cdHunts c then s.cdApply c v else s.modRx c (fun r => { r with cdDue := none }))

/-- SF_CD_HUNT_TIMEOUT: HUNT has not detected within 1 s of the last applied result. -/
def execSfCdHuntTimeout (c : Carrier) (s : State) : Out := .next (when (s.cdHunts c) s fun s => s.startSearch c)

/-! ### Level 3 (15 R386) -/

/-- Payload capacity of the set in use at the receiver, 23.059. -/
def State.rxCapacityOf (s : State) (c : Carrier) : Nat := s.capacity c (s.rxSet c)

/-- CAP_LIMIT (15 R385). -/
def State.sendCapLimit (s : State) (c : Carrier) (limit : Nat) : State :=
  s.tookFree.farSend c 7 (s.freeVal % 65536) 0 (beBytes 4 limit)

/-- A limit toward a carrier is in force, or none. -/
def State.setLimit (s : State) (c : Carrier) (l : Option Nat) : State :=
  ({ s with th := { s.th with limitSent := s.th.limitSent.set c.num l } } : State).wr (K.farCapLimit c.num) (l.getD 4294967295 : Nat)

/-- The limit in force toward a carrier. -/
def State.limitOf (s : State) (c : Carrier) : Option Nat := nth s.th.limitSent c.num none

/-- SF_L3_DWELL: T has been 2 for 70.040 s with the hottest value at or above throttle. -/
def execSfL3Dwell (s : State) : Out :=
  .next (when (s.firmware && s.rd K.thermalLevel = 2 && s.rd K.throttleThresh ≤ s.rd K.hottest) s fun s =>
    let s := (s.rwStore fwSource K.fwLevel 3).evalLevel
    s.carriersHere.foldl (fun s c =>
      if s.rd (K.carState c) = carService then
        let l := max (s.rxCapacityOf c - s.rdN K.l3Step) (s.capacity c (s.fallbackSet c))
        (s.setLimit c (some l)).sendCapLimit c l
      else s) s)

/-- SF_L3_RESEND: every 1 s the limit is sent again until 23.059 is at or below it. -/
def execSfL3Resend (c : Carrier) (s : State) : Out :=
  .next (match s.limitOf c with
    | none => s
    | some l => when (s.present c && s.firmware && l < s.rxCapacityOf c) s fun s => s.sendCapLimit c l)

/-- TH_L3_NO_RESPONSE: 70.042 s without 23.059 at or below the limit. -/
def execThL3NoResponse (c : Carrier) (s : State) : Out :=
  .next (match s.limitOf c with
    | none => s
    | some l => when (s.present c && s.firmware && l < s.rxCapacityOf c) s fun s => s.raise Ev.thL3NoResponse noKey)

/-- SF_L3_RELEASE: T has been 0 for 70.043 s; the limit is lifted. -/
def execSfL3Release (s : State) : Out :=
  .next (when (s.firmware && s.rd K.thermalLevel = 0 && s.rd K.fwLevel ≠ 0) s fun s =>
    let s := (s.rwStore fwSource K.fwLevel 0).evalLevel
    s.carriersHere.foldl (fun s c => if (s.limitOf c).isSome then (s.setLimit c none).sendCapLimit c 4294967295 else s) s)

/-! ### Firmware restart (11 R326) -/

/-- FW_RESTART_VERIFIED: the boot slot's bundle has been verified; every core restarts from it, or none does. -/
def execFwRestartVerified (s : State) : Out :=
  .next (when s.cores.restarting s fun s =>
    let s := { s with cores := { s.cores with restarting := false } }
    let slot := s.rdN K.bootSlot
    let r := if s.flash.present then s.verifyBundle slot else some (1, 1, 0)
    let s := s.verifyDetail r
    match r with
    | some f =>
      ((s.wr K.restartResult (f.1 : Nat)).wr K.fwState (if s.cores.running.isEmpty then 0 else 1)).raise Ev.fwRestartFailed noKey
    | none =>
      let s := (List.range 68).foldl (fun s c => s.stopCore c) s
      let s := (List.range 68).foldl (fun s c => s.startCore c) (s.loadBundle slot)
      let s := (s.lxAbandon .a).lxAbandon .b
      ((s.wr K.restartResult 0).wr K.fwState 1).raise Ev.fwRestarted noKey)

end Sys2Proof.Machine
end

