-- ==== Sys2Proof/Machine/Reads.lean ====
section
/-! DEFINITION. Reads of the Legend (spec 09 R246, R248 to R250): the value every entry reads, the entries that are computed when
they are read, event records and the per-view entries (R259 to R263), BLOB latches, and the checks of a read. -/

namespace Sys2Proof.Machine

/-! ### Events as a view reads them (09 R259 to R261) -/

/-- A record as a view reads it: its absolute number gives SEQ. -/
def EventRec.bytes (r : EventRec) (n : Nat) (lost : Bool) : List Byte :=
  beBytes 8 (r.time % 2 ^ 64) ++ beBytes 8 (r.code % 65536 * 2 ^ 48 + r.area % 256 * 2 ^ 40 + r.entry % 4096 * 2 ^ 28 + r.idx % 4096 * 2 ^ 16 +
    n % 256 * 256 + b2n lost * 128 + b2n r.holdover * 64 + severityOf r.code)

/-- Records as a view reads them; the first carries LOST where records were lost before it. -/
def eventBytes (lost : Bool) : List (Nat × EventRec) → List Byte
  | [] => []
  | p :: t => p.2.bytes p.1 lost ++ eventBytes false t

/-- A record enables INT_N (09 R260). -/
def State.enablesInt (s : State) (r : EventRec) : Bool :=
  bitOf (s.rdN (K.intAreaMask (r.area / 32))) (r.area % 32) && s.rdN K.intSeverity ≤ severityOf r.code

/-- INT_N is asserted (09 R260), in the states in which the pin follows it (18 R458). -/
def State.intN (s : State) : Bool :=
  (s.operational || (s.rd K.deviceState = devSafe && !s.th.shutdown)) &&
    (s.ev.unread (s.view (s.rdN K.intView))).any (fun p => s.enablesInt p.2)

/-- ALARM_N is asserted (09 R261, 18 R458). -/
def State.alarmN (s : State) : Bool := (s.operational && s.ev.alarm) || s.rd K.deviceState = devSafe

/-- A read of 03.000 at offset 0 by a view (09 R259): up to 16 unread records; the view moves past them, and its run of losses
ends. -/
def State.eventNext (s : State) (src : Nat) : State × List Byte :=
  match viewOf src with
  | none => (s, [])
  | some v =>
    let x := s.view v
    let recs := (s.ev.unread x).take 16
    let pos := match recs.getLast? with
      | some p => p.1 + 1
      | none => s.ev.total
    ({ s with ev := s.ev.modView v (fun y => { y with pos := pos, lost := y.lost && recs.isEmpty, run := false }) },
      eventBytes x.lost recs)

/-- A queue line fails its check at a read (16 R411): the record of that absolute number is dropped; each view that had not read it
counts a loss, and its next record carries LOST. -/
def State.dropRecord (s : State) (n : Nat) : State :=
  let e := s.ev
  let views := e.views.map (fun v =>
    if v.pos ≤ n then { v with lost := true, lostCount := min (v.lostCount + 1) max48 } else v)
  { s with ev := { e with recs := e.recs.modify (n - e.base) (fun r => { r with gone := true }), views := views } }

/-! ### Scalars -/

/-- An entry whose value is a counter of 09 R262, the datum among them. -/
def isCounter (k : Key) : Bool := (rowOf k).any (fun r => r.counter ≠ .none) || k = K.datum

/-- Carrier areas as areas of carrier A, with the carrier (00 R8). -/
def carrierArea (a : Nat) : Option (Nat × Carrier) :=
  if 0x20 ≤ a ∧ a ≤ 0x24 then some (a, .a) else if 0x30 ≤ a ∧ a ≤ 0x34 then some (a - 0x10, .b) else none

/-- The code of a receive slot's state (05 R156). -/
def RxState.slotCode (r : RxState) (i : Nat) : Nat := if r.inUse = some i then 2 else if (r.slot i).held then 1 else 0

/-- Entries of a carrier that are computed when they are read. -/
def State.carrierNum (s : State) (c : Carrier) (area entry idx : Nat) : Option Int :=
  let t := (s.car c).tx
  let r := (s.car c).rx
  match area, entry with
  | 0x20, 0x041 => some (s.squelchSrc c : Nat)
  | 0x21, 0x008 => some (s.iqPhase c idx)
  | 0x22, 0x041 => if s.subs c ≤ idx then some (-9000) else none
  | 0x23, 0x010 => some (t.cur.tag : Nat)
  | 0x23, 0x011 => some (if t.prevEmpty then 0 else (t.prev.tag : Nat))
  | 0x23, 0x014 => some (match t.pend with
    | some p => (p.target * 2 ^ 56 + p.n : Nat)
    | none => 0)
  | 0x23, 0x015 => some (s.capacity c t.cur : Nat)
  | 0x23, 0x042 => some (s.capacity c (s.editedSet c) : Nat)
  | 0x23, 0x046 => some (s.fbCrcOf c : Nat)
  | 0x23, 0x053 => some (if r.slotCode idx = 0 then 0 else ((r.slot idx).tag : Nat))
  | 0x23, 0x054 => some (r.slotCode idx : Nat)
  | 0x23, 0x056 => some (b2i r.inUse.isNone)
  | 0x23, 0x059 => some (s.rxCapacityOf c : Nat)
  | 0x24, 0x001 =>
    let q := codeRate (s.rdN (K.fecOh c))
    some (q.1 * 65536 / q.2 : Nat)
  | _, _ => none

/-- 58.012: thousands of instructions in the last whole millisecond (11 R316). -/
def State.coreRateNow (s : State) (c : Nat) : Int :=
  let x := s.core c
  let ms := s.datum / 1000000
  if ms = x.stepsFrom then s.rd (K.coreRate c) else if ms = x.stepsFrom + 1 then (min (x.steps / 1000) 4000 : Nat) else 0

/-- Entries of the device that are computed when they are read. -/
def State.deviceNum (s : State) (src : Nat) (k : Key) : Option Int :=
  let i := k.idx
  match k.area, k.entry with
  | 0x00, 0x001 => some (if s.fuse.fgv1608 then 2 else 1)
  | 0x00, 0x003 => some (if s.fuse.fgv1608 then 1 else 2)
  | 0x00, 0x005 => some (s.fuse.serial : Nat)
  | 0x00, 0x010 => some (s.fuse.lifecycle : Nat)
  | 0x01, 0x018 => some (s.boot.rails : Nat)
  | 0x02, 0x000 => some (match s.ed.draft with
    | none => 0
    | some d => if d.validated then 2 else 1)
  | 0x02, 0x001 => some (match s.ed.draft with
    | none => 0
    | some d => (d.owner : Nat))
  | 0x02, 0x002 => some (match s.ed.draft with
    | none => 0
    | some d => (d.id : Nat))
  | 0x02, 0x003 => some (match s.ed.draft with
    | none => 0
    | some d => (d.elems.length : Nat))
  | 0x02, 0x022 => some (s.ed.armed.length : Nat)
  | 0x02, 0x023 => some (match s.ed.armed[i]? with
    | some e => (e.id : Nat)
    | none => 0)
  | 0x02, 0x024 => some (match s.ed.armed[i]? with
    | some e => (e.instant : Nat)
    | none => 0)
  | 0x02, 0x025 => some (match s.ed.armed[i]? with
    | some e => (e.mode : Nat)
    | none => 0)
  | 0x02, 0x041 => some (b2n s.ed.journalA.good + b2n s.ed.journalB.good * 2 : Nat)
  | 0x03, 0x001 => some (match viewOf src with
    | some v => ((s.ev.unread (s.view v)).length : Nat)
    | none => 0)
  | 0x03, 0x002 => some (match viewOf src with
    | some v => ((s.view v).lostCount : Nat)
    | none => 0)
  | 0x03, 0x014 => some (b2i s.intN)
  | 0x03, 0x019 => some (b2i s.ev.alarm)
  | 0x03, 0x022 => some (match viewOf src with
    | some v => ((s.view v).snapTime : Nat)
    | none => 0)
  | 0x03, 0x023 => some (match viewOf src with
    | some v => ((s.view v).snapArea : Nat)
    | none => 0)
  | 0x08, 0x040 => some (s.ports.winQueue.length : Nat)
  | 0x11, 0x027 => some (s.clientStatusBits i : Nat)
  | 0x11, 0x031 => some (s.demand (if i = 0 then .a else .b) : Nat)
  | 0x50, 0x020 => some (s.datum : Nat)
  | 0x58, 0x004 => some (s.slotVersion i : Nat)
  | 0x58, 0x012 => some (s.coreRateNow i)
  | 0x58, 0x031 => some (s.cores.appRx.length : Nat)
  | 0x62, 0x00D => some (s.mfStateNow i : Nat)
  | 0x62, 0x00E => some (s.mfSettleLen i : Nat)
  | 0x62, 0x00F => some (s.mfOutRate i : Nat)
  | 0x62, 0x010 => some (s.mfSheetState i : Nat)
  | 0x62, 0x012 => some (s.mfFadePos i)
  | 0x68, 0x001 => some s.fbWriteRate
  | 0x68, 0x002 => some (s.ringsActive : Nat)
  | 0x68, 0x020 => some ((s.cursor src).1 : Nat)
  | 0x68, 0x021 => some ((s.cursor src).2 : Nat)
  | 0x70, 0x000 => if s.sensorPresent i then none else some (-5500)
  | 0x70, 0x001 => if s.sensorPresent i then none else some 2
  | 0x70, 0x026 => some s.blockRemain
  | 0x71, 0x019 => some s.idleRemain
  | 0x71, 0x026 => some (b2i s.pw.lpmode)
  | 0x78, 0x012 => some (s.integ.refetch.length : Nat)
  | 0x78, 0x040 => some (s.recentIntResets : Nat)
  | 0x7A, 0x000 => some ((s.root i).state : Nat)
  | 0x7A, 0x003 =>
    some ((List.range 4).foldl (fun m j => m + b2n ((s.root j).state = 1 && (s.rootKey j).isNone) * 2 ^ j) 0 : Nat)
  | 0x7A, 0x018 => some (s.fuse.secverMin : Nat)
  | 0x7A, 0x019 => some (s.fuse.ctrlVerMin : Nat)
  | 0x7A, 0x01A => some (b2i s.fuse.signPolicy)
  | _, _ => none

/-- The present value of a scalar entry, whatever a snapshot or a draft holds; absent keys of the FGV1608 read their defaults
(00 R3). -/
def State.liveNum (s : State) (src : Nat) (k : Key) : Int :=
  if s.absent k then s.rd k
  else
    let v := match carrierArea k.area with
      | some (a, c) => s.carrierNum c a k.entry k.idx
      | none => s.deviceNum src k
    v.getD (s.rd k)

/-- The value a source reads (09 R246, R263): a counter under its view's snapshot reads as latched; with the DRAFT flag an ED entry
reads as in the open draft. -/
def State.readNum (s : State) (src : Nat) (k : Key) (draft : Bool) : Int :=
  let inDraft := if draft && (rowOf k).any (fun r => r.access = .ed) then s.ed.draft.bind (fun d => kfind d.elems k) else none
  match inDraft with
  | some (.num v) => v
  | _ =>
    match if isCounter k then s.snapOf src k.area else none with
    | some m => legGet m k
    | none => s.liveNum src k

/-! ### BLOBs -/

/-- The bytes of a set's image (05 R150). -/
def State.carrierBlob (s : State) (c : Carrier) (area entry idx : Nat) : Option (List Byte) :=
  match area, entry with
  | 0x23, 0x016 => some (s.car c).tx.cur.image
  | 0x23, 0x017 => some (s.car c).tx.prev.image
  | 0x23, 0x055 => some ((s.car c).rx.slot idx).set.image
  | 0x24, 0x070 => some (fecCodeDef idx)
  | _, _ => none

/-- Bytes, or as many zeros where there are none. -/
def orZeros (n : Nat) (bs : List Byte) : List Byte := if bs = [] then List.replicate n 0 else bs

/-- BLOBs of the device that are not in the BLOB store. -/
def State.deviceBlob (s : State) (src : Nat) (k : Key) : Option (List Byte) :=
  let i := k.idx
  match k.area, k.entry with
  | 0x00, 0x020 => some (if s.flash.present then s.flash.idPub else [])
  | 0x00, 0x021 => some (orZeros 64 s.fuse.idDigest)
  | 0x00, 0x022 => some (if s.flash.present then s.flash.idCert else [])
  | 0x02, 0x040 => some (match s.ed.hist[i]? with
    | some h => h.bytes
    | none => List.replicate 32 0)
  | 0x03, 0x0F0 => some (cataloguePart i)
  | 0x70, 0x050 => some (orZeros 16 s.aon.record)
  | 0x78, 0x020 => some (match s.aon.log[i]? with
    | some f => f.bytes
    | none => [0xFF, 0xFF] ++ List.replicate 30 0)
  | 0x7A, 0x001 => some (orZeros 64 (s.root i).digest)
  | 0x7A, 0x002 => some (if s.flash.present then nth s.flash.rootKeys i [] else [])
  | 0x7A, 0x011 => some (if s.flash.present then nth s.flash.certs i [] else [])
  | _, _ =>
    if k.area = 0x68 && 0x200 ≤ k.entry then some (s.ringHeaderBytes src (ringOf k))
    else if k.area = 0x68 && 0x100 ≤ k.entry then some (orZeros 32 (s.blob k))
    else none

/-- The bytes a BLOB read at offset 0 latches, and what the read does (09 R250): 03.000 advances the view (R259), 62.032 empties its
queue (13 R363), 68.022 latches records and advances the cursor (14 R374), 00.011 makes a new nonce (17 R430). An absent carrier's BLOB
reads its default, which for 34.070 is the ROM's image (00 R3). -/
def State.readBlob (s : State) (src : Nat) (k : Key) (draft : Bool) : State × List Byte :=
  let inDraft := if draft && (rowOf k).any (fun r => r.access = .ed) then s.ed.draft.bind (fun d => kfind d.elems k) else none
  match inDraft with
  | some (.blob bs) => (s, bs)
  | _ =>
    match k.area, k.entry with
    | 0x03, 0x000 => s.eventNext src
    | 0x62, 0x032 => (s.modMf k.idx (fun c => { c with records := [] }), (s.mfc k.idx).records.flatMap (beBytes 8))
    | 0x68, 0x022 => s.rdLatch src
    | 0x00, 0x011 =>
      let n := freeBytes s.freeCtr 32
      ({ s with sec := { s.sec with nonce := n }, freeCtr := s.freeCtr + 32 }, n)
    | _, _ =>
      let v := if s.absent k then (if k.area = 0x34 && k.entry = 0x070 then some (fecCodeDef k.idx) else none)
        else
          match carrierArea k.area with
          | some (a, c) => s.carrierBlob c a k.entry k.idx
          | none => s.deviceBlob src k
      (s, v.getD (s.blob k))

/-- A read of a BLOB chunk (09 R250). -/
def State.readChunk (s : State) (src : Nat) (k : Key) (draft : Bool) (off len : Nat) : State :=
  let give := fun (s : State) (l : Latch) =>
    let others := s.ports.latches.filter (fun x => x.src ≠ src)
    ({ s with ports := { s.ports with latches := (l :: others).take 24 } } : State).reply src .ok ((l.bytes.drop off).take len)
      l.bytes.length
  if off = 0 then
    let r := s.readBlob src k draft
    give r.1 ⟨src, k, r.2.length, r.2⟩
  else
    match s.ports.latches.find? (fun x => x.src = src) with
    | some l => if l.key = k && off ≤ l.bytes.length then give s l else s.ack src .length
    | none => s.ack src .length

/-! ### A read request -/

/-- The entry is a BLOB. -/
def isBlob (k : Key) : Bool := (rowOf k).any (fun r => r.type = .blob)

/-- A read request that has passed its port's checks (09 R246, R249, R250). -/
def State.requestRead (s : State) (src : Nat) (k : Key) (draft : Bool) (off len : Nat) : State :=
  if s.portOpen src = false ∨ s.portsDead = true then s
  else if s.ports.ready = false then (if src = 3 then s.idleRestart src else (s.idleRestart src).ack src .busy)
  else
    let s1 := (s.idleRestart src).countReq src
    let k' := canonKey k
    match s1.gate k' false with
    | some st => s1.ack src st
    | none =>
      if 256 < len then s1.ack src .length
      else if isBlob k' then s1.readChunk src k' draft off len
      else if off ≠ 0 ∨ len ≠ wireWidth k' then s1.ack src .length
      else s1.reply src .ok (wireOf k' (s1.readNum src k' draft)) (wireWidth k')

/-- BLOB_READ_LATCH: a read at offset 0 latches the whole BLOB for the source. -/
def execBlobReadLatch (src : Nat) (k : Key) (draft : Bool) (len : Nat) (s : State) : Out :=
  .next (when (isBlob (canonKey k)) s fun s => s.requestRead src k draft 0 len)

/-- EVENT_NEXT_READ: a read of 03.000 (09 R259); the unread records whose queue line fails its check are given with the line, by
their place among the unread ones (16 R411). -/
def execEventNextRead (src len : Nat) (bad : List (Nat × Nat)) (s : State) : Out :=
  let drop := fun (s : State) =>
    match viewOf src with
    | none => s
    | some v =>
      let us := (s.ev.unread (s.view v)).take 16
      bad.foldl (fun s (b : Nat × Nat) =>
        match us[b.1]? with
        | some p => (s.mismatch 0x302 b.2 5).dropRecord p.1
        | none => s) s
  .next (if s.portOpen src = false ∨ s.portsDead = true ∨ s.ports.ready = false then s.requestRead src K.eventNext false 0 len
    else (drop s).requestRead src K.eventNext false 0 len)

/-- OUT_QUEUE_READ: a read of 62.032[y] returns and removes the queued records. -/
def execOutQueueRead (src y len : Nat) (s : State) : Out := .next (s.requestRead src (K.outQueue y) false 0 len)

/-- RD_DATA_READ: a read of 68.022 (14 R374). -/
def execRdDataRead (src len : Nat) (s : State) : Out := .next (s.requestRead src K.rdData false 0 len)

/-- NONCE_READ: a read of 00.011 makes a new nonce (17 R430). -/
def execNonceRead (src len : Nat) (s : State) : Out := .next (s.requestRead src K.nonce false 0 len)

end Sys2Proof.Machine
end

