-- ==== Sys2Proof/Machine/Writes.lean ====
section
/-! DEFINITION. Writes of the Legend: commands of areas 03, RW entries without behaviour of their own, BLOB chunks (spec 09 R245,
R246, R250, R261 to R264), and the effect of a write of any key. -/

namespace Sys2Proof.Machine

/-! ### Alarm, snapshots and clears (09 R261, R263, R264) -/

/-- ALARM_ACK: 03.018. -/
def execAlarmAck (src : Nat) (s : State) : Out :=
  .next (s.request src K.alarmAck fun s => ({ s with ev := { s.ev with alarm := false } }, .ok))

/-- The counters of an area, or of every area for 0xFF, that are not zero. -/
def State.countersOf (s : State) (view area : Nat) : List (Key × Int) :=
  let inArea := fun (a : Nat) => area = 0xFF || a = area
  let m := s.leg.filter (fun e => inArea e.1.area && isCounter e.1)
  let m := if inArea 0x03 then legPut m K.eventLost ((s.view view).lostCount : Nat) else m
  let m := if inArea 0x50 then legPut m K.datum (s.datum : Nat) else m
  if inArea 0x68 then
    s.fb.rings.foldl (fun m e => e.2.counters.zipIdx.foldl (fun m c => legPut m (ringCounterKey c.2 e.1) (c.1 : Nat)) m) m
  else m

/-- SNAPSHOT: 03.020 latches an area's counters for the writer's view; a surveyor core has none. -/
def execSnapshot (src : Nat) (v : Int) (s : State) : Out :=
  .next (s.request src K.snapshot fun s =>
    let a := (clampKey K.snapshot v).toNat
    match viewOf src with
    | none => (s, .ok)
    | some w => ({ s with ev := s.ev.modView w (fun x => { x with
        snapTime := s.datum, snapArea := a, snap := some (s.countersOf w a) }) }, .ok))

/-- SNAPSHOT_RELEASE: 03.021. -/
def execSnapshotRelease (src : Nat) (s : State) : Out :=
  .next (s.request src K.snapshotRelease fun s =>
    match viewOf src with
    | none => (s, .ok)
    | some w => ({ s with ev := s.ev.modView w (fun x => { x with snapTime := 0, snapArea := 0, snap := none }) }, .ok))

/-- The saturating counters of an area read 0. -/
def State.zeroed (s : State) (a : Nat) : State :=
  { s with leg := s.leg.filter (fun e => !(e.1.area = a && (rowOf e.1).any (fun r => r.counter = .saturating))) }

/-- COUNTER_CLEAR: 03.024 sets every saturating counter of an area to 0; of those held per view only the writer's. -/
def execCounterClear (src : Nat) (v : Int) (s : State) : Out :=
  .next (s.request src K.counterClear fun s =>
    let a := (clampKey K.counterClear v).toNat
    let s := s.zeroed a
    let s : State := if a = 0x03 then
        match viewOf src with
        | some w => { s with ev := s.ev.modView w (fun x => { x with lostCount := 0 }) }
        | none => s
      else s
    let s : State := if a = 0x68 then { s with fb := { s.fb with
        rings := s.fb.rings.map (fun e => (e.1, { e.2 with ignEarly := 0, ignRearm := 0, ignPost := 0, dropped := 0 })) } }
      else s
    (s, .ok))

/-! ### RW entries (09 R246, R257) -/

/-- A setting of a port comes into force. -/
def State.takePort (s : State) (entry : Nat) : State :=
  { s with ports := { s.ports with
    enableNow := if entry = 0x000 then s.rdN K.portEnable else s.ports.enableNow
    twiAddrNow := if entry = 0x010 then s.rdN K.twiAddr else s.ports.twiAddrNow
    prtadNow := if entry = 0x020 then s.rdN K.mdioPrtad else s.ports.prtadNow } }

/-- A record of 60.013 or 60.026 loses VALID (12 R334). -/
def State.notValid (s : State) (k : Key) : State := s.wr k (s.rd k - s.rd k % 2)

/-- What follows a write of an RW entry, given the state before it: filter channels that watch it (13 R349, R356, R360), the time
source (10 R298), the AVSBus enable (15 R391), records whose slot was written (12), links (10 R293), and the port settings,
which take effect once the response has been read (09 R257): over SPI that is a command of its own. -/
def State.rwAfter (s old : State) (src : Nat) (k : Key) : State :=
  let s := if k.area = 0x60 || k.area = 0x62 then s.mfWatch old k else s
  match k.area, k.entry with
  | 0x08, 0x000 | 0x08, 0x010 | 0x08, 0x020 => if src = 1 then s else s.takePort k.entry
  | 0x50, 0x013 => s.ibWatch
  | 0x50, 0x022 => s.timeSourceSet
  | 0x60, 0x012 => s.notValid (K.regResult k.idx)
  | 0x60, 0x020 => s.notValid (K.injResult k.idx)
  | 0x71, 0x00A => s.avsEnableSet
  | _, _ => s

/-- A write of a scalar RW entry without a command of its own: the arming entries only by the draft's owner (09 R266), a lane tap
(07 R215), a readout cursor of the source (14 R374), else the clamped value (09 R245). -/
def State.rwScalar (s : State) (src : Nat) (k : Key) (v : Int) : State × Status :=
  match k.area, k.entry with
  | 0x02, 0x014 | 0x02, 0x015 | 0x02, 0x016 | 0x50, 0x050 =>
    match s.ownerCheck src with
    | some st => (s, st)
    | none => rwEffect src k v s
  | 0x10, 0x005 => s.tapWrite src k.idx v
  | 0x68, 0x020 => (s.setCursor src (clampKey k v).toNat (s.cursor src).2, .ok)
  | 0x68, 0x021 => (s.setCursor src (s.cursor src).1 (clampKey k v).toNat, .ok)
  | _, _ => ((rwEffect src k v s).1.rwAfter s src k, .ok)

/-- RW entries whose write is a command of its own. -/
def ownWrite (k : Key) : Bool :=
  [(0x20, 0x001), (0x20, 0x040), (0x30, 0x001), (0x30, 0x040), (0x10, 0x000), (0x10, 0x020), (0x10, 0x030), (0x50, 0x000), (0x50, 0x003),
    (0x60, 0x000), (0x60, 0x028), (0x61, 0x000), (0x61, 0x001), (0x61, 0x010), (0x70, 0x022)].contains (k.area, k.entry)

/-- REGISTER_WRITE: a write to a scalar RW entry without behaviour of its own. -/
def execRegisterWrite (src : Nat) (k : Key) (v : Int) (s : State) : Out :=
  .next (when ((rowOf (canonKey k)).any (fun r => r.access = .rw) && !isBlob (canonKey k) && !ownWrite (canonKey k)) s fun s =>
    s.request src k fun s => s.rwScalar src (canonKey k) v)

/-! ### BLOBs (09 R245, R250) -/

/-- A whole BLOB is written: its length lies within the entry's range; 58.021 and 58.022 are loads (11 R328), 02.017 is the owner's
(09 R266), 00.022 is writable only in MANUFACTURE and stands in the key block (17 R441), and ED entries enter the draft. -/
def State.blobWrite (s : State) (src : Nat) (k : Key) (bs : List Byte) : State × Status :=
  match rowOf k with
  | none => (s, .noKey)
  | some r =>
    if (bs.length : Int) < r.lo ∨ r.hi < bs.length then (s, .length)
    else if r.access = .ed then draftEffect src k (.blob bs) s
    else
      match k.area, k.entry with
      | 0x00, 0x022 => if s.fuse.lifecycle = 1 then (s.keyBlock (fun f => { f with idCert := bs }), .ok) else (s, .access)
      | 0x02, 0x017 =>
        match s.ownerCheck src with
        | some st => (s, st)
        | none => (s.rwBlob src k bs, .ok)
      | 0x58, 0x021 => s.loadPart src k.idx bs
      | 0x58, 0x022 => s.loadSeg src k.idx bs
      | _, _ => (s.rwBlob src k bs, .ok)

/-- A chunk is gathered for the source, in order from offset 0; the chunk that ends at TOTAL writes the BLOB (09 R250). -/
def State.writeChunk (s : State) (src : Nat) (k : Key) (off total : Nat) (data : List Byte) : State × Status :=
  let others := s.ports.chunks.filter (fun x => x.src ≠ src)
  let dropped : State := { s with ports := { s.ports with chunks := others } }
  let before := if off = 0 then some []
    else (s.ports.chunks.find? (fun x => x.src = src && x.key = k && x.total = total && x.bytes.length = off)).map (fun x => x.bytes)
  match rowOf k, before with
  | some r, some b =>
    if 256 < data.length || total < off + data.length then (dropped, .length)
    else if r.hi < total then (s, .length)
    else if off + data.length = total then dropped.blobWrite src k (b ++ data)
    else ({ s with ports := { s.ports with chunks := ⟨src, k, total, b ++ data⟩ :: others } }, .ok)
  | _, _ => (dropped, .length)

/-- BLOB_CHUNK_WRITE: a chunk of a BLOB that may be written. -/
def execBlobChunkWrite (src : Nat) (k : Key) (off total : Nat) (data : List Byte) (s : State) : Out :=
  .next (when (isBlob (canonKey k)) s fun s => s.request src k fun s => s.writeChunk src (canonKey k) off total data)

/-! ### A write of any key -/

/-- The state after a meaning. -/
def nextOf (s : State) : Out → State
  | .next t => t
  | _ => s

/-- Writes of a carrier's keys that are commands of their own; `meas` is the filtered current in 0.1 A that 20.042 looks at. -/
def State.writeCarrier (s : State) (src : Nat) (c : Carrier) (area entry : Nat) (v : Int) (meas : Nat) : Option Out :=
  match area, entry with
  | 0x20, 0x001 => some (execCarTargetWrite src c v s)
  | 0x20, 0x040 => some (execSquelchSwWrite src c v s)
  | 0x20, 0x042 => some (execOcClear src c meas s)
  | 0x21, 0x01D => some (execCdSearchStart src c s)
  | 0x21, 0x046 => some (execEqReinit src c v s)
  | 0x21, 0x053 => some (execSopPeakClear src c s)
  | 0x23, 0x013 => some (execTxSwitch src c v s)
  | 0x23, 0x05A => some (execStageCommit src c s)
  | 0x23, 0x066 => some (execLxStart src c s)
  | 0x24, 0x022 => some (execDecPeakClear src c s)
  | _, _ => none

/-- The key operations of 7A.00A by code (17 R429); VAUX in mV. -/
def State.keyOperation (s : State) (src w vaux : Nat) : Out :=
  let slot := w % 256
  match w / 256 with
  | 1 => execEnrollRoot src slot vaux s
  | 2 => execRevokeRoot src slot vaux s
  | 3 => execInstallRootKey src slot s
  | 4 => execInstallController src slot s
  | 5 => execRemoveController src slot s
  | 6 => execCommitSecver src slot vaux s
  | 7 => execCommitCtrlVersion src slot vaux s
  | _ => execFuseSignPolicy src slot vaux s

/-- Writes of the device's keys that are commands of their own; `meas` is the reading the command looks at: VAUX in mV for those that
program fuses, the comparators that fail for 79.013. -/
def State.writeDevice (s : State) (src : Nat) (k : Key) (v : Int) (meas : Nat) : Option Out :=
  let i := k.idx
  let w := (clampKey k v).toNat
  match k.area, k.entry with
  | 0x00, 0x013 => some (execLcTransition src v meas s)
  | 0x01, 0x008 => some (execSwReset src s)
  | 0x01, 0x020 => some (execSvStart src s)
  | 0x02, 0x010 => some (execDraftOpen src s)
  | 0x02, 0x011 => some (execDraftDiscard src s)
  | 0x02, 0x012 => some (execDraftValidate src s)
  | 0x02, 0x013 => some (execDraftArm src s)
  | 0x02, 0x026 => some (execDisarm src v s)
  | 0x03, 0x018 => some (execAlarmAck src s)
  | 0x03, 0x020 => some (execSnapshot src v s)
  | 0x03, 0x021 => some (execSnapshotRelease src s)
  | 0x03, 0x024 => some (execCounterClear src v s)
  | 0x10, 0x000 => some (execLaneEnableWrite src i v s)
  | 0x10, 0x016 => some (execRetrain src i s)
  | 0x10, 0x020 => some (execLoopbackWrite src i v s)
  | 0x10, 0x030 => some (execPrbsGenWrite src i v s)
  | 0x10, 0x036 => some (execPrbsInject src i v s)
  | 0x40, 0x007 => some (execReband src (if i = 0 then .a else .b) s)
  | 0x50, 0x000 => some (execTvEnableWrite src v s)
  | 0x50, 0x003 => some (execPortLoopbackWrite src i v s)
  | 0x50, 0x023 => some (execDatumSet src v s)
  | 0x50, 0x051 => some (execGroupArmSend src v s)
  | 0x50, 0x054 => some (execGroupDisarmSend src v s)
  | 0x50, 0x058 => some (execTrigSend src v s)
  | 0x58, 0x013 => some (execCoreRestart src i s)
  | 0x58, 0x020 => some (execLoadBegin src v s)
  | 0x58, 0x026 => some (execLoadActivate src s)
  | 0x58, 0x027 => some (execLoadAbort src s)
  | 0x58, 0x028 => some (execFwRestart src s)
  | 0x60, 0x000 => some (execHkEnableWrite src i v s)
  | 0x60, 0x002 => some (execHkSelfCal src i s)
  | 0x60, 0x016 => some (execHkRegStart src i s)
  | 0x60, 0x025 => some (execInjStart src i s)
  | 0x60, 0x028 => some (execInjOverflowClear src i v s)
  | 0x60, 0x030 => some (.next (s.request src k fun s => s.benchCmd w))
  | 0x61, 0x000 => some (execAoutEnableWrite src i v s)
  | 0x61, 0x001 => some (execAoutRangeWrite src i v s)
  | 0x61, 0x010 => some (execWaveWrite src i v s)
  | 0x61, 0x013 => some (execWaveSync src v s)
  | 0x61, 0x034 => some (execRbClear src i s)
  | 0x62, 0x00C => some (execMfSync src v s)
  | 0x62, 0x011 => some (execMfSheetSwap src i s)
  | 0x68, 0x010 => some (.next (s.request src k fun s => s.ringCmdWrite w))
  | 0x70, 0x022 => some (execFwLevelWrite src v s)
  | 0x70, 0x051 => some (execShutdownClear src s)
  | 0x71, 0x01A => some (execSleepNow src s)
  | 0x71, 0x025 => some (execPadRelease src s)
  | 0x78, 0x022 => some (execFaultLogClear src s)
  | 0x79, 0x013 => some (execSliceRun src meas s)
  | 0x79, 0x020 => some (execTestRequest src v s)
  | 0x7A, 0x00A => some (s.keyOperation src w meas)
  | 0x7A, 0x020 => some (execIdGenerate src meas s)
  | 0x7A, 0x031 => some (execAttRequest src s)
  | _, _ => none

/-- A write request of any scalar key. -/
def State.writeNum (s : State) (src : Nat) (k : Key) (v : Int) (meas : Nat) : State :=
  let k' := canonKey k
  let own := match carrierArea k.area with
    | some (a, c) => s.writeCarrier src c a k.entry v meas
    | none => s.writeDevice src k v meas
  match own with
  | some o => nextOf s o
  | none =>
    s.request src k fun s =>
      if (rowOf k').any (fun r => r.access = .ed) then draftEffect src k' (.num v) s else s.rwScalar src k' v

/-- A write request that has passed its port's checks (09 R244 to R246, R249, R250). -/
def State.requestWrite (s : State) (src : Nat) (k : Key) (off total : Nat) (data : List Byte) (meas : Nat) : State :=
  let k' := canonKey k
  if (s.gate k' true).isSome then s.request src k fun s => (s, .ok)
  else if isBlob k' then s.request src k fun s => s.writeChunk src k' off total data
  else if off ≠ 0 ∨ data.length ≠ wireWidth k' ∨ total ≠ wireWidth k' then s.request src k fun s => (s, .length)
  else s.writeNum src k (ofWire k' data) meas

end Sys2Proof.Machine
end

