-- ==== Sys2Proof/Machine/Ports.lean ====
section
/-! DEFINITION. Requests in wire form and the ports that carry them (spec 09 R249, R251 to R257, R482; 10 R295; 11 R320, R322; 16
R411). -/

namespace Sys2Proof.Machine

/-! ### Wire form (09 R249, R482) -/

/-- A request's fields; `wr` is OP WRITE. -/
structure Request where
  wr : Bool
  key : Key
  draft : Bool
  offset : Nat
  length : Nat
  total : Nat
  data : List Byte
  deriving DecidableEq, Repr

/-- n bytes of a request from an offset, as a number. -/
def reqN (bs : List Byte) (at_ n : Nat) : Nat := beNat ((bs.drop at_).take n)

/-- The fields of a request. -/
def Request.ofBytes (bs : List Byte) : Request :=
  let e := reqN bs 2 2
  ⟨reqN bs 0 1 = 2, ⟨reqN bs 1 1, e / 16, reqN bs 4 2⟩, bitOf e 3, reqN bs 6 2, reqN bs 8 2, reqN bs 10 2, (bs.drop 12).take (reqN bs 8 2)⟩

/-- The first check of R482 a request fails; a core's request skips the CRC. -/
def requestFault (crc : Bool) (bs : List Byte) : Option Status :=
  if crc && (bs.length < 3 || crc16 (bs.take (bs.length - 2)) ≠ beNat (bs.drop (bs.length - 2))) then some .crc
  else if bs.length < 14 then some .length
  else if reqN bs 0 1 ≠ 1 && reqN bs 0 1 ≠ 2 then some .badOp
  else if (reqN bs 0 1 = 1 && 14 < bs.length) || (reqN bs 0 1 = 2 && bs.length ≠ 14 + reqN bs 8 2) then some .length
  else none

/-- The bytes of a response. -/
def Reply.bytes (r : Reply) : List Byte :=
  let b := beBytes 1 r.status.code ++ [0] ++ beBytes 2 r.data.length ++ beBytes 2 r.total ++ r.data
  b ++ beBytes 2 (crc16 b)

/-- A request that fails the checks of R482 is answered; one that fails its CRC at a port is counted in 08.031 (09 R257). -/
def State.answerBad (s : State) (src : Nat) (st : Status) : State :=
  let s := if st = .crc then
      match portOf src with
      | some p => (s.bump (K.crcErrCount p)).raise Ev.mgmtCrcError (K.crcErrCount p)
      | none => s
    else s
  s.ack src st

/-- A request in wire form is served and its response held for its source (09 R249, R482); `meas` as for State.writeNum. -/
def State.serveBytes (s : State) (src : Nat) (crc : Bool) (bs : List Byte) (meas : Nat) : State :=
  if s.portOpen src = false ∨ s.portsDead = true then s
  else
    match if s.ports.ready then requestFault crc bs else none with
    | some st => (s.idleRestart src).answerBad src st
    | none =>
      let q := Request.ofBytes bs
      if q.wr then s.requestWrite src q.key q.offset q.total q.data meas else s.requestRead src q.key q.draft q.offset q.length

/-- LEGEND_REQUEST_BAD: a management request that fails a check of R482; one that fails none has a command of its own. -/
def execLegendRequestBad (src : Nat) (bytes : List Byte) (s : State) : Out :=
  .next (when ((portOf src).isSome && (requestFault true bytes).isSome) s fun s => s.serveBytes src true bytes 0)

/-! ### SPI and MDIO (09 R252, R253, R257) -/

/-- SPI_RESPONSE_READ: the host clocks out the pending response; settings of the ports that were written take effect. A BUSY answer
leaves nothing to read. -/
def execSpiResponseRead (s : State) : Out :=
  .next (when (s.portOpen 1 && !s.portsDead && s.ports.spiPending && (s.replyOf 1).status ≠ .busy) s fun s =>
    let s : State := { s with ports := { s.ports with spiPending := false } }
    ((s.takePort 0x000).takePort 0x010).takePort 0x020)

/-- MDIO_SERVE: 0x0001 is written to register 0x80A0 of an MMD at a port address, with the buffer and the length (0x80A1) as the host
has written them. The response takes the place of the request in the buffer. -/
def execMdioServe (prtad mmd : Nat) (buf : List Byte) (len meas : Nat) (s : State) : Out :=
  .next (when (s.portOpen 2 && !s.portsDead && prtad = s.ports.prtadNow && mmd = 30) s fun s =>
    let b := (buf ++ List.replicate 288 0).take 288
    let t := s.serveBytes 2 true (b.take len) meas
    let r := (t.replyOf 2).bytes
    { t with ports := { t.ports with mdioBuf := r ++ b.drop r.length, mdioLen := len, mdioStatus := (t.replyOf 2).status.code } })

/-! ### The two-wire window (09 R255, R256; 16 R411) -/

/-- The window answers an address. -/
def State.windowAt (s : State) (addr : Nat) : Bool :=
  s.portOpen 3 && !s.portsDead && s.ports.ready && s.on K.twiWindowEnable && s.rdN K.twiWindowAddr = addr && s.ports.twiAddrNow ≠ addr

/-- The place in window memory of a byte of the map, if its page exists. -/
def State.winPlace (s : State) (p : Nat) : Option Nat :=
  if p < 128 then some p
  else
    let page := (s.winByte 127).toNat
    if page ≤ s.rdN K.twiWindowPages then some (128 * page + p) else none

/-- The byte pointer after a byte. -/
def winNext (p : Nat) : Nat := if p = 127 then 0 else if p = 255 then 128 else (p + 1) % 256

/-- The bytes of a read transfer, the pointer after it, and the bad lines it met. -/
def State.winRead (s : State) : Nat → Nat → List Byte × Nat × List Nat
  | 0, p => ([], p, [])
  | n + 1, p =>
    let r := s.winRead n (winNext p)
    match s.winPlace p with
    | none => (0xFF :: r.1, r.2)
    | some a => (s.winByte a :: r.1, r.2.1, if s.lineBad 0x320 (a / 32) then a / 32 :: r.2.2 else r.2.2)

/-- TWI_WINDOW_READ: a read transfer of n bytes at an address. -/
def execTwiWindowRead (addr n : Nat) (s : State) : Out :=
  .next (when (s.windowAt addr) s fun s =>
    let r := s.winRead n s.ports.winPtr
    let s := r.2.2.dedup.foldl (fun s line => s.mismatch 0x320 line 6) s
    { s with ports := { s.ports with winData := r.1, winPtr := r.2.1 } })

/-- A host byte that firmware has marked writable is stored and queued; the line of a bad byte becomes whole, its other bytes 0xFF. -/
def State.winStore (s : State) (p a : Nat) (b : Byte) : State :=
  let line := a / 32
  let s := if s.lineBad 0x320 line then
      ((List.range 32).foldl (fun s i => s.putWin (32 * line + i) 0xFF) (s.mismatch 0x320 line 6)).lineGood 0x320 line else s
  let page := if p < 128 then s.freeVal % 64 else (s.winByte 127).toNat % 64
  let s := (if p < 128 then s.tookFree else s).putWin a b
  ((({ s with ports := { s.ports with winQueue := s.ports.winQueue ++ [(page, p, b)] } } : State).coreEvent 5 isPlotterCore)).raise
    Ev.twiWindowWrite noKey

/-- The data bytes of a write transfer; a byte refused because the queue is full ends it. -/
def State.winWrite (s : State) : List Byte → State
  | [] => s
  | b :: t =>
    if 64 ≤ s.ports.winQueue.length then (s.bump K.windowNackCount).raise Ev.twiWindowFull noKey
    else
      let p := s.ports.winPtr
      let s := match s.winPlace p with
        | some a => if s.ports.winMark.contains a then s.winStore p a b else s
        | none => s
      ({ s with ports := { s.ports with winPtr := winNext p } } : State).winWrite t

/-- TWI_WINDOW_WRITE: a write transfer at an address: its first byte sets the pointer, the others are data. -/
def execTwiWindowWrite (addr ptr : Nat) (bytes : List Byte) (s : State) : Out :=
  .next (when (s.windowAt addr) s fun s =>
    ({ s with ports := { s.ports with winPtr := ptr % 256 } } : State).winWrite bytes)

/-! ### The Traverse (10 R295; 11 R322) -/

/-- The source code of a Traverse station. -/
def stationSource (id : Nat) : Nat := 0x3000 + id % 4096

/-- LEGEND_RSP to a station, of the class and SEQ of its request. -/
def State.sendRsp (s : State) (cls dst seq : Nat) (r : Reply) : State := s.originate 4 false cls dst seq r.bytes

/-- LEGEND_REQ_RX: the oldest delivered LEGEND_REQ is held, of at most 32; one more is answered BUSY, and one with BCAST is
discarded. -/
def execLegendReqRx (s : State) : Out :=
  .next (s.serve 3 fun x s =>
    if x.frame.bcast then (if x.link < 5 then s.bump (K.hdrDiscard x.link) else s)
    else if 32 ≤ s.tv.reqs.length then s.sendRsp x.frame.cls x.frame.src x.frame.seq ⟨.busy, [], 0⟩
    else { s with tv := { s.tv with reqs := s.tv.reqs ++ [⟨x.frame.src, x.frame.cls, x.frame.seq, x.frame.payload⟩] } })

/-- The device has entered RESET, so that nothing of the command's answer is left to do. -/
def State.justReset (s old : State) : Bool := s.rd K.deviceState = devReset && old.rd K.deviceState ≠ devReset

/-- Sources whose requests wait at the Legend store: cores, and the station of the oldest held Traverse request. A port's request is
served by its own command. -/
def State.waitingSources (s : State) : List Nat :=
  ((List.range 68).filter (fun c => (s.core c).lgBusy)).map coreSource ++ (s.tv.reqs.take 1).map (fun q => stationSource q.src)

/-- The store serves a source next: round-robin in source-code order among those that wait (09 R248). -/
def State.servedNext (s : State) (src : Nat) : Bool :=
  let ws := s.waitingSources
  let later := ws.filter (s.ports.lastSrc < ·)
  let first := (if later.isEmpty then ws else later).foldl min 65535
  first = src

/-- LEGEND_RSP_SEND: it is the turn of the oldest held request: it is served and its response sent; requests wait until the store is
ready. -/
def execLegendRspSend (meas : Nat) (s : State) : Out :=
  .next (match s.tv.reqs with
    | [] => s
    | q :: t =>
      if !s.ports.ready || !s.servedNext (stationSource q.src) then s
      else
        let s1 : State := { s with tv := { s.tv with reqs := t }, ports := { s.ports with lastSrc := stationSource q.src } }
        let s2 := s1.serveBytes (stationSource q.src) true q.bytes meas
        if s2.justReset s1 then s2 else s2.sendRsp q.cls q.src q.seq (s2.replyOf (stationSource q.src)))

/-- APP_FRAME_RX: the oldest delivered APP frame enters the plotters' queue of 32, or is dropped. -/
def execAppFrameRx (s : State) : Out :=
  .next (s.serve 5 fun x s =>
    if 32 ≤ s.cores.appRx.length then (s.bump K.appRxDrop).raise Ev.fwAppDrop noKey
    else ({ s with cores := { s.cores with appRx := s.cores.appRx ++ [x.frame.header ++ x.frame.payload] } } : State).coreEvent 3
      isPlotterCore)

/-- EVENT_SINK_SEND: up to 16 records queued for the TRAVERSE view are sent to the station of 50.05C. -/
def execEventSinkSend (s : State) : Out :=
  .next (when (bitOf (s.rdN K.eventSink) 31) s fun s =>
    let v := s.view 3
    let recs := (s.ev.unread { v with pos := max s.tv.sinkPos s.ev.base }).take 16
    match recs.getLast? with
    | none => { s with tv := { s.tv with sinkPos := s.ev.total } }
    | some l =>
      ({ s with tv := { s.tv with sinkPos := l.1 + 1 } } : State).originate 10 false 2 (s.rdN K.eventSink % 4096) 0
        (recs.flatMap (fun p => p.2.bytes p.1 (v.lost && p.1 = v.pos))))

/-! ### Cores (11 R320) -/

/-- CORE_LEGEND_DONE: it is the turn of a core's request, which is served; the response is written as whole lines with zeros after it, LG_CTRL bit 1 and
event bit 0 are set. The response of a request from before a restart is discarded (R325). -/
def execCoreLegendDone (c meas : Nat) (s : State) : Out :=
  .next (when ((s.core c).lgBusy && s.servedNext (coreSource c)) s fun s =>
    let src := coreSource c
    let s : State := { s with ports := { s.ports with lastSrc := src } }
    let t := s.serveBytes src false (s.core c).lgBytes meas
    if t.justReset s then t
    else if (t.core c).lgDiscard then t.modCore c (fun x => { x with lgBusy := false, lgDiscard := false })
    else
      (t.putBytes c ((t.core c).lgRspAddr / 32 * 32) (List.replicate 32 0) (t.replyOf src).bytes).modCore c (fun x => { x with
        lgBusy := false, lgDone := true, events := setBit x.events 0 true }))

end Sys2Proof.Machine
end

