-- ==== Sys2Proof/Machine/Dispatch.lean ====
section
/-! DEFINITION. The dispatch: one arm for each constructor of Instr, a direct call of its meaning, or a refusal by name. -/

namespace Sys2Proof.Machine

/-- The command's effect on everything but the queue. -/
def exec (i : Instr) (s : State) : Host.Outcome State Fault Refusal :=
  match i with
  | .carTargetWrite src c v => Sys2Proof.Machine.execCarTargetWrite src c v s
  | .carrierStopComplete c => Sys2Proof.Machine.execCarrierStopComplete c s
  | .txSuperframeBoundary c => Sys2Proof.Machine.execTxSuperframeBoundary c s
  | .switchAnnounce c => Sys2Proof.Machine.execSwitchAnnounce c s
  | .txFrameStart c => Sys2Proof.Machine.execTxFrameStart c s
  | .ibcCreditTick c => Sys2Proof.Machine.execIbcCreditTick c s
  | .lineBlockEmit c => Sys2Proof.Machine.execLineBlockEmit c s
  | .txSegmentEmit c => Sys2Proof.Machine.execTxSegmentEmit c s
  | .contourUpdate c => Sys2Proof.Machine.execContourUpdate c s
  | .contourRiseStart c => Sys2Proof.Machine.execContourRiseStart c s
  | .squelchSwWrite src c v => Sys2Proof.Machine.execSquelchSwWrite src c v s
  | .txdisAssert c width => Sys2Proof.Machine.execTxdisAssert c width s
  | .txdisDeassert c width => Sys2Proof.Machine.execTxdisDeassert c width s
  | .ocTrip c current => Sys2Proof.Machine.execOcTrip c current s
  | .ocClear src c current => Sys2Proof.Machine.execOcClear src c current s
  | .nlcBypassChange c => Sys2Proof.Machine.execNlcBypassChange c s
  | .xpmSquelchRemove c => Sys2Proof.Machine.execXpmSquelchRemove c s
  | .d2dBlockRx c rx j ok codes taken => Sys2Proof.Machine.execD2dBlockRx c rx j ok codes taken s
  | .lineDacSlip c j => Sys2Proof.Machine.execLineDacSlip c j s
  | .d2dDegradeCheck c => Sys2Proof.Machine.execD2dDegradeCheck c s
  | .feIlvWindow c j => Sys2Proof.Machine.execFeIlvWindow c j s
  | .feIqWindow c y => Sys2Proof.Machine.execFeIqWindow c y s
  | .cdSheetReady c => Sys2Proof.Machine.execCdSheetReady c s
  | .cdFadeStart c => Sys2Proof.Machine.execCdFadeStart c s
  | .cdFadeBlock c => Sys2Proof.Machine.execCdFadeBlock c s
  | .cdFadeCut c => Sys2Proof.Machine.execCdFadeCut c s
  | .cdSwapNofade c => Sys2Proof.Machine.execCdSwapNofade c s
  | .cdSearchStart src c => Sys2Proof.Machine.execCdSearchStart src c s
  | .cdSearchDone c => Sys2Proof.Machine.execCdSearchDone c s
  | .rxTimingLock c => Sys2Proof.Machine.execRxTimingLock c s
  | .rxTimingUnlock c => Sys2Proof.Machine.execRxTimingUnlock c s
  | .eqBlockUpdate c k => Sys2Proof.Machine.execEqBlockUpdate c k s
  | .rxEqSingular c k => Sys2Proof.Machine.execRxEqSingular c k s
  | .eqReinit src c v => Sys2Proof.Machine.execEqReinit src c v s
  | .eqTapShift c k => Sys2Proof.Machine.execEqTapShift c k s
  | .sopRateUpdate c => Sys2Proof.Machine.execSopRateUpdate c s
  | .rxSopNormal c => Sys2Proof.Machine.execRxSopNormal c s
  | .sopPeakClear src c => Sys2Proof.Machine.execSopPeakClear src c s
  | .rxPilotUpdate c k => Sys2Proof.Machine.execRxPilotUpdate c k s
  | .crLimitHoldExpiry c => Sys2Proof.Machine.execCrLimitHoldExpiry c s
  | .rxFrameHeader c fi copies => Sys2Proof.Machine.execRxFrameHeader c fi copies s
  | .rxSuperframeBoundary c => Sys2Proof.Machine.execRxSuperframeBoundary c s
  | .acqDetect c metric coarse => Sys2Proof.Machine.execAcqDetect c metric coarse s
  | .acqCapture c metric coarse nearStart => Sys2Proof.Machine.execAcqCapture c metric coarse nearStart s
  | .rxSounding c errs copies metric frameStart fawErrs => Sys2Proof.Machine.execRxSounding c errs copies metric frameStart fawErrs s
  | .settleExpiry c => Sys2Proof.Machine.execSettleExpiry c s
  | .syncLossCount c => Sys2Proof.Machine.execSyncLossCount c s
  | .rxFawTest c errs sndErrs => Sys2Proof.Machine.execRxFawTest c errs sndErrs s
  | .acqLock c deskews => Sys2Proof.Machine.execAcqLock c deskews s
  | .lofCountExpiry c => Sys2Proof.Machine.execLofCountExpiry c s
  | .acqHoldRecover c => Sys2Proof.Machine.execAcqHoldRecover c s
  | .holdTimeout c => Sys2Proof.Machine.execHoldTimeout c s
  | .frameWaitTimeout c => Sys2Proof.Machine.execFrameWaitTimeout c s
  | .serviceToAcquire c => Sys2Proof.Machine.execServiceToAcquire c s
  | .fecAcceptStart c => Sys2Proof.Machine.execFecAcceptStart c s
  | .rxDark c => Sys2Proof.Machine.execRxDark c s
  | .noiseFloorUpdate c => Sys2Proof.Machine.execNoiseFloorUpdate c s
  | .sfCdDraftRetry c => Sys2Proof.Machine.execSfCdDraftRetry c s
  | .sfCdHuntTimeout c => Sys2Proof.Machine.execSfCdHuntTimeout c s
  | .stageCommit src c => Sys2Proof.Machine.execStageCommit src c s
  | .rxLoadStaged c => Sys2Proof.Machine.execRxLoadStaged c s
  | .txSwitch src c v => Sys2Proof.Machine.execTxSwitch src c v s
  | .matcherTablesReady c => Sys2Proof.Machine.execMatcherTablesReady c s
  | .lxStageRx => Sys2Proof.Machine.execLxStageRx s
  | .lxAckRx => Sys2Proof.Machine.execLxAckRx s
  | .lxNackRx => Sys2Proof.Machine.execLxNackRx s
  | .lxCommitRx => Sys2Proof.Machine.execLxCommitRx s
  | .lxCancelRx => Sys2Proof.Machine.execLxCancelRx s
  | .lxReportRx => Sys2Proof.Machine.execLxReportRx s
  | .lxAckTimeout c => Sys2Proof.Machine.execLxAckTimeout c s
  | .lxCommitTimeout c => Sys2Proof.Machine.execLxCommitTimeout c s
  | .lxRetryTimer c => Sys2Proof.Machine.execLxRetryTimer c s
  | .lpPeriodTick c => Sys2Proof.Machine.execLpPeriodTick c s
  | .lxStart src c => Sys2Proof.Machine.execLxStart src c s
  | .lxDraftRetry c => Sys2Proof.Machine.execLxDraftRetry c s
  | .capLimitRx => Sys2Proof.Machine.execCapLimitRx s
  | .rxSegmentArrival c => Sys2Proof.Machine.execRxSegmentArrival c s
  | .decIteration c contended => Sys2Proof.Machine.execDecIteration c contended s
  | .decWindowSlide c => Sys2Proof.Machine.execDecWindowSlide c s
  | .outerDecodeDone c => Sys2Proof.Machine.execOuterDecodeDone c s
  | .rxFecCapChange => Sys2Proof.Machine.execRxFecCapChange s
  | .rxFecAligned c => Sys2Proof.Machine.execRxFecAligned c s
  | .fecAcceptStop c => Sys2Proof.Machine.execFecAcceptStop c s
  | .lineBlockRx c => Sys2Proof.Machine.execLineBlockRx c s
  | .pmIntervalEnd c => Sys2Proof.Machine.execPmIntervalEnd c s
  | .decPeakClear src c => Sys2Proof.Machine.execDecPeakClear src c s
  | .lxFecSuspect c => Sys2Proof.Machine.execLxFecSuspect c s
  | .laneEnableWrite src n v => Sys2Proof.Machine.execLaneEnableWrite src n v s
  | .laneSignalDetect n => Sys2Proof.Machine.execLaneSignalDetect n s
  | .hostTrainFrameRx n lv => Sys2Proof.Machine.execHostTrainFrameRx n lv s
  | .trainStepMeasure n fom => Sys2Proof.Machine.execTrainStepMeasure n fom s
  | .trainCountdownDone n => Sys2Proof.Machine.execTrainCountdownDone n s
  | .hostTrainTimeout n => Sys2Proof.Machine.execHostTrainTimeout n s
  | .hostLos n => Sys2Proof.Machine.execHostLos n s
  | .retrain src n => Sys2Proof.Machine.execRetrain src n s
  | .loopbackWrite src n v => Sys2Proof.Machine.execLoopbackWrite src n v s
  | .prbsGenWrite src n v => Sys2Proof.Machine.execPrbsGenWrite src n v s
  | .prbsInject src n v => Sys2Proof.Machine.execPrbsInject src n v s
  | .sfLaneRetry n => Sys2Proof.Machine.execSfLaneRetry n s
  | .hostBlockRx n corr uncorr slipIn slipOut aligned fault ber => Sys2Proof.Machine.execHostBlockRx n corr uncorr slipIn slipOut aligned fault ber s
  | .slotHeaderRx n hdr blocks => Sys2Proof.Machine.execSlotHeaderRx n hdr blocks s
  | .hostFrameIngress c frame errored => Sys2Proof.Machine.execHostFrameIngress c frame errored s
  | .slotBurstComplete slot => Sys2Proof.Machine.execSlotBurstComplete slot s
  | .clientStatusTick cl => Sys2Proof.Machine.execClientStatusTick cl s
  | .mapperPacketSend c => Sys2Proof.Machine.execMapperPacketSend c s
  | .demapWord c => Sys2Proof.Machine.execDemapWord c s
  | .egressFrameOut c full => Sys2Proof.Machine.execEgressFrameOut c full s
  | .egressSlotFrame n => Sys2Proof.Machine.execEgressSlotFrame n s
  | .clientPacketTimeout cl => Sys2Proof.Machine.execClientPacketTimeout cl s
  | .refclkEdgeTimeout => Sys2Proof.Machine.execRefclkEdgeTimeout s
  | .refclkWindow ppm => Sys2Proof.Machine.execRefclkWindow ppm s
  | .refclkOkTimer => Sys2Proof.Machine.execRefclkOkTimer s
  | .pllHoldoverReturn p => Sys2Proof.Machine.execPllHoldoverReturn p s
  | .lockSeqStep c band tune => Sys2Proof.Machine.execLockSeqStep c band tune s
  | .foregroundCalDone c fails vals => Sys2Proof.Machine.execForegroundCalDone c fails vals s
  | .vcoTcUpdate c tune => Sys2Proof.Machine.execVcoTcUpdate c tune s
  | .reband src c => Sys2Proof.Machine.execReband src c s
  | .linePllUnlock c => Sys2Proof.Machine.execLinePllUnlock c s
  | .refTcUpdate c => Sys2Proof.Machine.execRefTcUpdate c s
  | .spareVisitStart c => Sys2Proof.Machine.execSpareVisitStart c s
  | .spareVisitEnd c pass vals => Sys2Proof.Machine.execSpareVisitEnd c pass vals s
  | .spareSwap c t => Sys2Proof.Machine.execSpareSwap c t s
  | .legendRequestBad src bytes => Sys2Proof.Machine.execLegendRequestBad src bytes s
  | .registerWrite src k v => Sys2Proof.Machine.execRegisterWrite src k v s
  | .blobReadLatch src k draft len => Sys2Proof.Machine.execBlobReadLatch src k draft len s
  | .blobChunkWrite src k off total data => Sys2Proof.Machine.execBlobChunkWrite src k off total data s
  | .spiResponseRead => Sys2Proof.Machine.execSpiResponseRead s
  | .mdioServe prtad mmd buf len meas => Sys2Proof.Machine.execMdioServe prtad mmd buf len meas s
  | .twiWindowRead addr n => Sys2Proof.Machine.execTwiWindowRead addr n s
  | .twiWindowWrite addr ptr bytes => Sys2Proof.Machine.execTwiWindowWrite addr ptr bytes s
  | .eventNextRead src len bad => Sys2Proof.Machine.execEventNextRead src len bad s
  | .alarmAck src => Sys2Proof.Machine.execAlarmAck src s
  | .snapshot src v => Sys2Proof.Machine.execSnapshot src v s
  | .snapshotRelease src => Sys2Proof.Machine.execSnapshotRelease src s
  | .counterClear src v => Sys2Proof.Machine.execCounterClear src v s
  | .draftOpen src => Sys2Proof.Machine.execDraftOpen src s
  | .draftWrite src k v => Sys2Proof.Machine.execDraftWrite src k v s
  | .draftDiscard src => Sys2Proof.Machine.execDraftDiscard src s
  | .draftValidate src => Sys2Proof.Machine.execDraftValidate src s
  | .draftArm src => Sys2Proof.Machine.execDraftArm src s
  | .disarm src id => Sys2Proof.Machine.execDisarm src id s
  | .edDraftExpired => Sys2Proof.Machine.execEdDraftExpired s
  | .editionApply => Sys2Proof.Machine.execEditionApply s
  | .tvEnableWrite src v => Sys2Proof.Machine.execTvEnableWrite src v s
  | .tvTrainingSetRx l req resp eye0 eye1 => Sys2Proof.Machine.execTvTrainingSetRx l req resp eye0 eye1 s
  | .tvTrainingTimeout l => Sys2Proof.Machine.execTvTrainingTimeout l s
  | .tvPortUp l skew => Sys2Proof.Machine.execTvPortUp l skew s
  | .tvPortDown l => Sys2Proof.Machine.execTvPortDown l s
  | .portLoopbackWrite src l v => Sys2Proof.Machine.execPortLoopbackWrite src l v s
  | .tvIdleSetRx l b => Sys2Proof.Machine.execTvIdleSetRx l b s
  | .tvFrameRx l bytes killed => Sys2Proof.Machine.execTvFrameRx l bytes killed s
  | .helloSend => Sys2Proof.Machine.execHelloSend s
  | .helloRx => Sys2Proof.Machine.execHelloRx s
  | .neighbourTimeout l => Sys2Proof.Machine.execNeighbourTimeout l s
  | .dedupEntryExpire src => Sys2Proof.Machine.execDedupEntryExpire src s
  | .ibFrameRx m stamp => Sys2Proof.Machine.execIbFrameRx m stamp s
  | .timeExchangeStart pin => Sys2Proof.Machine.execTimeExchangeStart pin s
  | .timeReqRx pin => Sys2Proof.Machine.execTimeReqRx pin s
  | .timeRespRx => Sys2Proof.Machine.execTimeRespRx s
  | .datumHoldover => Sys2Proof.Machine.execDatumHoldover s
  | .datumSet src v => Sys2Proof.Machine.execDatumSet src v s
  | .ppsInEdge => Sys2Proof.Machine.execPpsInEdge s
  | .ppsMissed => Sys2Proof.Machine.execPpsMissed s
  | .ppsOutRise => Sys2Proof.Machine.execPpsOutRise s
  | .ppsOutFall => Sys2Proof.Machine.execPpsOutFall s
  | .legendReqRx => Sys2Proof.Machine.execLegendReqRx s
  | .legendRspSend meas => Sys2Proof.Machine.execLegendRspSend meas s
  | .appFrameRx => Sys2Proof.Machine.execAppFrameRx s
  | .eventSinkSend => Sys2Proof.Machine.execEventSinkSend s
  | .groupArmRx => Sys2Proof.Machine.execGroupArmRx s
  | .groupDisarmRx => Sys2Proof.Machine.execGroupDisarmRx s
  | .groupResultRx => Sys2Proof.Machine.execGroupResultRx s
  | .triggerRx => Sys2Proof.Machine.execTriggerRx s
  | .triggerFire id => Sys2Proof.Machine.execTriggerFire id s
  | .groupArmSend src v => Sys2Proof.Machine.execGroupArmSend src v s
  | .groupDisarmSend src v => Sys2Proof.Machine.execGroupDisarmSend src v s
  | .trigSend src v => Sys2Proof.Machine.execTrigSend src v s
  | .nop c => Sys2Proof.Machine.execNop c s
  | .add c t u v => Sys2Proof.Machine.execAdd c t u v s
  | .sub c t u v => Sys2Proof.Machine.execSub c t u v s
  | .mul c t u v => Sys2Proof.Machine.execMul c t u v s
  | .andd c t u v => Sys2Proof.Machine.execAndd c t u v s
  | .orr c t u v => Sys2Proof.Machine.execOrr c t u v s
  | .xorr c t u v => Sys2Proof.Machine.execXorr c t u v s
  | .shl c t u sh => Sys2Proof.Machine.execShl c t u sh s
  | .shr c t u sh => Sys2Proof.Machine.execShr c t u sh s
  | .addi c t u imm => Sys2Proof.Machine.execAddi c t u imm s
  | .lui c t imm => Sys2Proof.Machine.execLui c t imm s
  | .branch c cond disp => Sys2Proof.Machine.execBranch c cond disp s
  | .call c disp => Sys2Proof.Machine.execCall c disp s
  | .ret c => Sys2Proof.Machine.execRet c s
  | .loopi c t len => Sys2Proof.Machine.execLoopi c t len s
  | .ldw c t n m noPost => Sys2Proof.Machine.execLdw c t n m noPost s
  | .stw c t n m noPost => Sys2Proof.Machine.execStw c t n m noPost s
  | .ldc c t n m noPost => Sys2Proof.Machine.execLdc c t n m noPost s
  | .stc c t n m noPost => Sys2Proof.Machine.execStc c t n m noPost s
  | .zl c n count => Sys2Proof.Machine.execZl c n count s
  | .mgd c t u v => Sys2Proof.Machine.execMgd c t u v s
  | .mdg c t u im => Sys2Proof.Machine.execMdg c t u im s
  | .mvx c t u => Sys2Proof.Machine.execMvx c t u s
  | .cmul c t u v => Sys2Proof.Machine.execCmul c t u v s
  | .cmac c t u v => Sys2Proof.Machine.execCmac c t u v s
  | .cmacj c t u v => Sys2Proof.Machine.execCmacj c t u v s
  | .cmsu c t u v => Sys2Proof.Machine.execCmsu c t u v s
  | .cmacm c t => Sys2Proof.Machine.execCmacm c t s
  | .clra c t => Sys2Proof.Machine.execClra c t s
  | .sac c t u sh => Sys2Proof.Machine.execSac c t u sh s
  | .sacg c t u im sh => Sys2Proof.Machine.execSacg c t u im sh s
  | .inPort c t port => Sys2Proof.Machine.execInPort c t port s
  | .outPort c u port => Sys2Proof.Machine.execOutPort c u port s
  | .cbx c t n num wr => Sys2Proof.Machine.execCbx c t n num wr s
  | .cbxComplete c => Sys2Proof.Machine.execCbxComplete c s
  | .wait c u => Sys2Proof.Machine.execWait c u s
  | .coreWaitWake c => Sys2Proof.Machine.execCoreWaitWake c s
  | .halt c => Sys2Proof.Machine.execHalt c s
  | .illegalOpcode c => Sys2Proof.Machine.execIllegalOpcode c s
  | .faultExit c u => Sys2Proof.Machine.execFaultExit c u s
  | .flagsClear c u => Sys2Proof.Machine.execFlagsClear c u s
  | .wdogKick c u => Sys2Proof.Machine.execWdogKick c u s
  | .datumLoRead c t => Sys2Proof.Machine.execDatumLoRead c t s
  | .eventsRead c t => Sys2Proof.Machine.execEventsRead c t s
  | .coreTimerExpire c => Sys2Proof.Machine.execCoreTimerExpire c s
  | .lgSend c u => Sys2Proof.Machine.execLgSend c u s
  | .coreLegendDone c meas => Sys2Proof.Machine.execCoreLegendDone c meas s
  | .appRxPop c t => Sys2Proof.Machine.execAppRxPop c t s
  | .appTxGo c u => Sys2Proof.Machine.execAppTxGo c u s
  | .winDataWrite c u => Sys2Proof.Machine.execWinDataWrite c u s
  | .winWmask c u => Sys2Proof.Machine.execWinWmask c u s
  | .winQpop c t => Sys2Proof.Machine.execWinQpop c t s
  | .resGo c u => Sys2Proof.Machine.execResGo c u s
  | .resReadDone c => Sys2Proof.Machine.execResReadDone c s
  | .coreWdogExpire c => Sys2Proof.Machine.execCoreWdogExpire c s
  | .coreRestart src c => Sys2Proof.Machine.execCoreRestart src c s
  | .fwRestart src => Sys2Proof.Machine.execFwRestart src s
  | .fwRestartVerified => Sys2Proof.Machine.execFwRestartVerified s
  | .loadBegin src v => Sys2Proof.Machine.execLoadBegin src v s
  | .loadEraseDone ok => Sys2Proof.Machine.execLoadEraseDone ok s
  | .loadManifest src p bs => Sys2Proof.Machine.execLoadManifest src p bs s
  | .loadSegment src g bs => Sys2Proof.Machine.execLoadSegment src g bs s
  | .loadProgramDone ok => Sys2Proof.Machine.execLoadProgramDone ok s
  | .loadActivate src => Sys2Proof.Machine.execLoadActivate src s
  | .loadAbort src => Sys2Proof.Machine.execLoadAbort src s
  | .hkConversionBoundary v0 v1 internal board => Sys2Proof.Machine.execHkConversionBoundary v0 v1 internal board s
  | .hkRegStart src h => Sys2Proof.Machine.execHkRegStart src h s
  | .hkRegTimer h => Sys2Proof.Machine.execHkRegTimer h s
  | .trigInRise => Sys2Proof.Machine.execTrigInRise s
  | .injStart src h => Sys2Proof.Machine.execInjStart src h s
  | .injTimer h => Sys2Proof.Machine.execInjTimer h s
  | .gpioRise g => Sys2Proof.Machine.execGpioRise g s
  | .injOverflowClear src h v => Sys2Proof.Machine.execInjOverflowClear src h v s
  | .hkEnableWrite src h v => Sys2Proof.Machine.execHkEnableWrite src h v s
  | .hkSelfCal src h => Sys2Proof.Machine.execHkSelfCal src h s
  | .benchCancel src h => Sys2Proof.Machine.execBenchCancel src h s
  | .benchZero src h input => Sys2Proof.Machine.execBenchZero src h input s
  | .benchFull src h input => Sys2Proof.Machine.execBenchFull src h input s
  | .hkCalDone h => Sys2Proof.Machine.execHkCalDone h s
  | .aoutEnableWrite src k v => Sys2Proof.Machine.execAoutEnableWrite src k v s
  | .aoutRangeWrite src k v => Sys2Proof.Machine.execAoutRangeWrite src k v s
  | .aoutReconnect k => Sys2Proof.Machine.execAoutReconnect k s
  | .aoutUpdate compliance overload => Sys2Proof.Machine.execAoutUpdate compliance overload s
  | .aoutConditionClear k overload => Sys2Proof.Machine.execAoutConditionClear k overload s
  | .waveWrite src k v => Sys2Proof.Machine.execWaveWrite src k v s
  | .waveSync src v => Sys2Proof.Machine.execWaveSync src v s
  | .rbClear src k => Sys2Proof.Machine.execRbClear src k s
  | .mfChannelProcess y gap => Sys2Proof.Machine.execMfChannelProcess y gap s
  | .mfSheetSwap src y => Sys2Proof.Machine.execMfSheetSwap src y s
  | .mfSwapLoaded y => Sys2Proof.Machine.execMfSwapLoaded y s
  | .mfSync src v => Sys2Proof.Machine.execMfSync src v s
  | .outQueueRead src y len => Sys2Proof.Machine.execOutQueueRead src y len s
  | .ringArm src first last => Sys2Proof.Machine.execRingArm src first last s
  | .ringRearm src first last => Sys2Proof.Machine.execRingRearm src first last s
  | .ringForce src first last => Sys2Proof.Machine.execRingForce src first last s
  | .ringStop src first last => Sys2Proof.Machine.execRingStop src first last s
  | .ringDisarm src first last => Sys2Proof.Machine.execRingDisarm src first last s
  | .fbRingCleared r => Sys2Proof.Machine.execFbRingCleared r s
  | .probeUpdate probe sel v w => Sys2Proof.Machine.execProbeUpdate probe sel v w s
  | .fbRecordWrite => Sys2Proof.Machine.execFbRecordWrite s
  | .trigOutEnd => Sys2Proof.Machine.execTrigOutEnd s
  | .rdDataRead src len => Sys2Proof.Machine.execRdDataRead src len s
  | .thermalSample vals => Sys2Proof.Machine.execThermalSample vals s
  | .thermalBlockExpire => Sys2Proof.Machine.execThermalBlockExpire s
  | .fwLevelWrite src v => Sys2Proof.Machine.execFwLevelWrite src v s
  | .shutdownClear src => Sys2Proof.Machine.execShutdownClear src s
  | .sfL3Dwell => Sys2Proof.Machine.execSfL3Dwell s
  | .sfL3Resend c => Sys2Proof.Machine.execSfL3Resend c s
  | .thL3NoResponse c => Sys2Proof.Machine.execThL3NoResponse c s
  | .sfL3Release => Sys2Proof.Machine.execSfL3Release s
  | .xtalCompTick temp => Sys2Proof.Machine.execXtalCompTick temp s
  | .aonXtalFail => Sys2Proof.Machine.execAonXtalFail s
  | .xtalRestore => Sys2Proof.Machine.execXtalRestore s
  | .marginUpdate margins => Sys2Proof.Machine.execMarginUpdate margins s
  | .pwrCarrierDropped => Sys2Proof.Machine.execPwrCarrierDropped s
  | .pwrMarginRestored => Sys2Proof.Machine.execPwrMarginRestored s
  | .avsVoltageRead v => Sys2Proof.Machine.execAvsVoltageRead v s
  | .avsStatusRead fault => Sys2Proof.Machine.execAvsStatusRead fault s
  | .pwrAvsRestored => Sys2Proof.Machine.execPwrAvsRestored s
  | .idleTimerExpire => Sys2Proof.Machine.execIdleTimerExpire s
  | .sleepNow src => Sys2Proof.Machine.execSleepNow src s
  | .dormantLatch => Sys2Proof.Machine.execDormantLatch s
  | .wakeSourceFire code at_ v edges => Sys2Proof.Machine.execWakeSourceFire code at_ v edges s
  | .wakeTimerExpire edges => Sys2Proof.Machine.execWakeTimerExpire edges s
  | .aonBrownout => Sys2Proof.Machine.execAonBrownout s
  | .padRelease src => Sys2Proof.Machine.execPadRelease src s
  | .refetchDone => Sys2Proof.Machine.execRefetchDone s
  | .intLegendRebuilt keys => Sys2Proof.Machine.execIntLegendRebuilt keys s
  | .derivedRepairDone => Sys2Proof.Machine.execDerivedRepairDone s
  | .scrubPass found => Sys2Proof.Machine.execScrubPass found s
  | .faultLogClear src => Sys2Proof.Machine.execFaultLogClear src s
  | .sliceRound mask => Sys2Proof.Machine.execSliceRound mask s
  | .sliceRun src mask => Sys2Proof.Machine.execSliceRun src mask s
  | .testRequest src v => Sys2Proof.Machine.execTestRequest src v s
  | .testDone vals => Sys2Proof.Machine.execTestDone vals s
  | .lcTransition src v vaux => Sys2Proof.Machine.execLcTransition src v vaux s
  | .enrollRoot src slot vaux => Sys2Proof.Machine.execEnrollRoot src slot vaux s
  | .revokeRoot src slot vaux => Sys2Proof.Machine.execRevokeRoot src slot vaux s
  | .installRootKey src slot => Sys2Proof.Machine.execInstallRootKey src slot s
  | .installController src slot => Sys2Proof.Machine.execInstallController src slot s
  | .removeController src slot => Sys2Proof.Machine.execRemoveController src slot s
  | .commitSecver src slot vaux => Sys2Proof.Machine.execCommitSecver src slot vaux s
  | .commitCtrlVersion src slot vaux => Sys2Proof.Machine.execCommitCtrlVersion src slot vaux s
  | .fuseSignPolicy src slot vaux => Sys2Proof.Machine.execFuseSignPolicy src slot vaux s
  | .idGenerate src vaux => Sys2Proof.Machine.execIdGenerate src vaux s
  | .nonceRead src len => Sys2Proof.Machine.execNonceRead src len s
  | .nonceExpire => Sys2Proof.Machine.execNonceExpire s
  | .attRequest src => Sys2Proof.Machine.execAttRequest src s
  | .attReady => Sys2Proof.Machine.execAttReady s
  | .extest => Sys2Proof.Machine.execExtest s
  | .idcode => Sys2Proof.Machine.execIdcode s
  | .samplePreload => Sys2Proof.Machine.execSamplePreload s
  | .bypass => Sys2Proof.Machine.execBypass s
  | .testEngine op => Sys2Proof.Machine.execTestEngine op s
  | .coreSel c => Sys2Proof.Machine.execCoreSel c s
  | .coreHalt => Sys2Proof.Machine.execCoreHalt s
  | .coreStep => Sys2Proof.Machine.execCoreStep s
  | .coreResume => Sys2Proof.Machine.execCoreResume s
  | .coreAccess w => Sys2Proof.Machine.execCoreAccess w s
  | .supplyDip mask => Sys2Proof.Machine.execSupplyDip mask s
  | .suppliesStable => Sys2Proof.Machine.execSuppliesStable s
  | .supplyLoss => Sys2Proof.Machine.execSupplyLoss s
  | .resetNAssert edges => Sys2Proof.Machine.execResetNAssert edges s
  | .swReset src => Sys2Proof.Machine.execSwReset src s
  | .resetRelease => Sys2Proof.Machine.execResetRelease s
  | .resetDatumCapture => Sys2Proof.Machine.execResetDatumCapture s
  | .bootHkCalDone => Sys2Proof.Machine.execBootHkCalDone s
  | .strapReadDone uv => Sys2Proof.Machine.execStrapReadDone uv s
  | .selfTestDone vals time edges => Sys2Proof.Machine.execSelfTestDone vals time edges s
  | .fwVerifyDone => Sys2Proof.Machine.execFwVerifyDone s
  | .svStart src => Sys2Proof.Machine.execSvStart src s
  | .prbsLock n errs => Sys2Proof.Machine.execPrbsLock n errs s
  | .tvFrameSent l => Sys2Proof.Machine.execTvFrameSent l s
  | .sfHaltedLeadRestart c => Sys2Proof.Machine.execSfHaltedLeadRestart c s
  | .fuseProgrammingDone ok => Sys2Proof.Machine.execFuseProgrammingDone ok s

end Sys2Proof.Machine
end

