-- ==== Sys2Proof/Machine/Tick.lean ====
section
/-! DEFINITION. What the device does on its own while no command waits: one nanosecond passes (DESIGN CHOICE, log entry 5). -/

namespace Sys2Proof.Machine

/-- The datum stands while the device is OFF or Dormant (10 R296, R301; 15 R398). -/
def State.datumRuns (s : State) : Bool := s.rd K.deviceState ≠ devOff && s.rd K.deviceState ≠ devDormant

/-- One nanosecond: the clock and the datum advance, the host lanes and the Traverse ports send on, events reach the rings that wait for
them, in-band links and the idle timer follow their conditions, the ROM stage of boot ends, and a bad journal copy is repaired. -/
def State.tick (s : State) : State :=
  let s := if s.datumRuns then s.datumTick else s
  let s := { s with clock := s.clock + 1 }
  s.laneTick.portTick.fbEvents.ibWatch.idleWatch.bootTick.journalRepair

end Sys2Proof.Machine
end

