-- ==== Sys2Proof/Safety.lean ====
section
/-! DEFINITION. What every safe state keeps: the canonical form of the Legend and BLOB stores, so that equal contents are equal data,
and a fuse operation in progress that takes no fuse back; and what it means that a command changes some parts of the state only. -/

namespace Sys2Proof.Machine

/-- The stores stand in their canonical form, as does the retention checkpoint of the always-on domain: keys rise strictly and
nothing listed equals its default (00 R11). -/
def State.storesWf (s : State) : Bool :=
  legWf s.leg && blobWf s.blobs && s.aon.retention.all (fun r => legWf r.1 && blobWf r.2)

/-- Programming a fuse field takes no blown fuse back: versions do not fall and the lifecycle advances (17 R423, R427, R429, R440). -/
def FuseOp.legal (f : FuseState) : FuseOp → Bool
  | .secver v => f.secverMin ≤ v
  | .ctrlVer v => f.ctrlVerMin ≤ v
  | .lifecycle t _ => f.lifecycle ≤ t
  | _ => true

/-- What every step keeps: the stores in their canonical form, and a legal fuse operation in progress. -/
def State.wf (s : State) : Bool := s.storesWf && s.sec.fuseOp.all (fun op => op.legal s.fuse)

/-- No blown fuse of f is unblown in g (17 R423): digests, seals, revocations, policy and tweak stay, floors and the lifecycle do not fall;
the part and its serial number stay as they were made. -/
def FuseState.kept (f g : FuseState) : Prop :=
  g.fgv1608 = f.fgv1608 ∧ g.serial = f.serial ∧ f.lifecycle ≤ g.lifecycle ∧ f.secverMin ≤ g.secverMin ∧
    f.ctrlVerMin ≤ g.ctrlVerMin ∧ (f.signPolicy = true → g.signPolicy = true) ∧ (f.idSeal = true → g.idSeal = true) ∧
    (f.pufTweak = true → g.pufTweak = true) ∧
    g.roots.length = f.roots.length ∧ blownIn f.idDigest g.idDigest = true ∧
    ∀ j, blownIn (nth f.roots j ⟨[], false, false⟩).digest (nth g.roots j ⟨[], false, false⟩).digest = true ∧
      ((nth f.roots j ⟨[], false, false⟩).sealed = true → (nth g.roots j ⟨[], false, false⟩).sealed = true) ∧
      ((nth f.roots j ⟨[], false, false⟩).revoked = true → (nth g.roots j ⟨[], false, false⟩).revoked = true)

/-- A command and a state from which the device goes on: its next step neither faults nor is refused. -/
def State.goesOn (s : State) : Prop := ∃ t, step s = .next t

/-- A command completes: exec answers a next state, of which P holds. -/
def completes (i : Instr) (s : State) (P : State → Prop) : Prop := ∃ t, exec i s = .next t ∧ P t

/-- A write request of a source to a key is neither ignored nor turned away by the checks that every request meets: the port is open
(09 R257), the device is powered and its store ready, and lifecycle, key, index and class are in order (09 R246). -/
abbrev State.accepts (s : State) (src : Nat) (k : Key) : Prop :=
  s.portOpen src = true ∧ s.portsDead = false ∧ s.ports.ready = true ∧ s.gate (canonKey k) true = none ∧
    (s.absent (canonKey k) = true → (rowOf k).any (fun r => r.access ≠ .ed) = false)

/-- A read request of a source for a key meets an open port, a powered device with its store ready, and no failing check (09 R246). -/
abbrev State.reads (s : State) (src : Nat) (k : Key) : Prop :=
  s.portOpen src = true ∧ s.portsDead = false ∧ s.ports.ready = true ∧ s.gate (canonKey k) false = none

/-- The state on which an accepted request takes its effect: the idle timer restarts and the request is counted (15 R397; 09 R257). -/
def State.accepted (s : State) (src : Nat) : State := (s.idleRestart src).countReq src

/-- The answer a source is given is this status. -/
abbrev State.answered (t : State) (src : Nat) (st : Status) : Prop := t.replyOf src = ⟨st, [], 0⟩

/-! ### Frames inside a core and on the Traverse -/

/-- A core with the flow of control and the step counts of another: what every instruction may change (11 R312, R316, R323). -/
def Core.withFlow (x y : Core) : Core :=
  { x with pc := y.pc, loops := y.loops, steps := y.steps, stepsFrom := y.stepsFrom, wdogFrom := y.wdogFrom }

/-- Every core but one is as before. -/
def State.otherCores (s t : State) (c : Nat) : Prop := ∀ j, j ≠ c → t.core j = s.core j

/-- Every time-class frame on a link is of CLASS 0 (10 R286). -/
def State.timeClass (s : State) : Prop :=
  ∀ l, ∀ o ∈ (s.link l).queue ++ (s.link l).sending.toList, o.frame.type ≤ 2 → o.frame.cls = 0

/-! ### Parts of the state -/

/-- The parts of the state that a frame names: the Legend elements of one entry, of one area, all Legend elements, and every other
field. -/
inductive Part where
  | entry (area n : Nat)
  | area (n : Nat)
  | legend
  | blobs
  | ev
  | ports
  | ed
  | carA
  | carB
  | clk
  | host
  | hk
  | tv
  | fb
  | th
  | pw
  | aon
  | integ
  | boot
  | cores
  | fuse
  | flash
  | sec
  | dbg
  | datum
  | clock
  | freeCtr
  deriving DecidableEq, Repr

/-- Every part. -/
def Part.all : List Part :=
  [.legend, .blobs, .ev, .ports, .ed, .carA, .carB, .clk, .host, .hk, .tv, .fb, .th, .pw, .aon, .integ, .boot, .cores, .fuse, .flash,
    .sec, .dbg, .datum, .clock, .freeCtr]

/-- The internal state of a carrier, as a part. -/
def Part.car : Carrier → Part
  | .a => .carA
  | .b => .carB

/-- A list of parts takes in a part; an area takes in its entries, and all Legend elements take in every area. -/
def Part.within (ps : List Part) : Part → Bool
  | .entry a e => ps.contains (.entry a e) || ps.contains (.area a) || ps.contains .legend
  | .area n => ps.contains (.area n) || ps.contains .legend
  | p => ps.contains p

/-- A list of parts takes in another. -/
def covers (ps qs : List Part) : Bool := qs.all (Part.within ps)

/-- Two states agree on a part; areas and the whole Legend agree through their entries. -/
def Part.agrees (s t : State) : Part → Prop
  | .entry a e => ∀ k : Key, k.area = a → k.entry = e → t.rd k = s.rd k
  | .area _ => True
  | .legend => True
  | .blobs => t.blobs = s.blobs
  | .ev => t.ev = s.ev
  | .ports => t.ports = s.ports
  | .ed => t.ed = s.ed
  | .carA => t.carA = s.carA
  | .carB => t.carB = s.carB
  | .clk => t.clk = s.clk
  | .host => t.host = s.host
  | .hk => t.hk = s.hk
  | .tv => t.tv = s.tv
  | .fb => t.fb = s.fb
  | .th => t.th = s.th
  | .pw => t.pw = s.pw
  | .aon => t.aon = s.aon
  | .integ => t.integ = s.integ
  | .boot => t.boot = s.boot
  | .cores => t.cores = s.cores
  | .fuse => t.fuse = s.fuse
  | .flash => t.flash = s.flash
  | .sec => t.sec = s.sec
  | .dbg => t.dbg = s.dbg
  | .datum => t.datum = s.datum
  | .clock => t.clock = s.clock
  | .freeCtr => t.freeCtr = s.freeCtr

/-- Only these parts of the state change: the waiting commands and every other part are as before. -/
def State.within (ps : List Part) (s t : State) : Prop :=
  t.pending = s.pending ∧ ∀ p, Part.within ps p = false → p.agrees s t

/-- Parts, and entries by area. -/
def among (ps : List Part) (es : List (Nat × List Nat)) : List Part := ps ++ es.flatMap (fun e => e.2.map (Part.entry e.1))

/-- The parts of the state that each command may change (beside the queue, which step takes it from): what the rules of its chapter
and of every operation they call write. -/
def parts : Instr → List Part
  | .carTargetWrite _ c _ => among [.ed, .ev, .fb, .clk, .host, .carA, .carB, .blobs, .pw, .ports, .entry 0x02 0x042, .entry 0x20 0x054,
      .entry 0x30 0x054, .entry (0x22 + c.off) 0x001, .entry 0x08 0x030] [(0x20 + c.off, [0x001, 0x013, 0x000, 0x036]), (0x40, [0x002,
      0x011, 0x013, 0x017]), (0x21 + c.off, [0x000, 0x001, 0x031, 0x032, 0x062, 0x064, 0x01C, 0x01E]), (0x11, [0x030, 0x021, 0x040]),
      (0x24 + c.off, [0x020, 0x023])]
  | .carrierStopComplete _ => [.ev, .fb, .host, .carA, .carB, .clk, .ed, .legend, .blobs]
  | .txSuperframeBoundary c => among [.ev, .fb, .host, .carA, .carB, .clk, .cores, .entry 0x20 0x054, .entry 0x30 0x054,
      .entry (0x21 + c.off) 0x000, .entry 0x40 0x002] [(0x20 + c.off, [0x090, 0x000, 0x013, 0x054]), (0x11, [0x030, 0x021, 0x040])]
  | .switchAnnounce c => [.car c]
  | .txFrameStart c => [.car c]
  | .ibcCreditTick c => [.car c]
  | .lineBlockEmit c => [.car c, .ev, .fb, .entry (0x24 + c.off) 0x061]
  | .txSegmentEmit c => [.car c, .ev, .fb, .entry (0x24 + c.off) 0x060]
  | .contourUpdate c => among [.car c, .ev, .fb] [(0x20 + c.off, [0x037, 0x036])]
  | .contourRiseStart c => [.car c, .entry (0x20 + c.off) 0x036]
  | .squelchSwWrite _ c _ => among [.ed, .ev, .fb, .carA, .carB, .pw, .ports, .entry 0x02 0x042, .entry 0x20 0x054, .entry 0x30 0x054,
      .entry 0x08 0x030] [(0x20 + c.off, [0x040, 0x043, 0x036, 0x037])]
  | .txdisAssert c _ => among [.ev, .fb, .carA, .carB, .freeCtr, .entry 0x20 0x054, .entry 0x30 0x054] [(0x20 + c.off, [0x043, 0x036,
      0x037])]
  | .txdisDeassert c _ => among [.ev, .fb, .carA, .carB, .freeCtr, .entry 0x20 0x054, .entry 0x30 0x054] [(0x20 + c.off, [0x043, 0x036,
      0x037])]
  | .ocTrip c _ => among [.ev, .fb, .carA, .carB, .entry 0x20 0x054, .entry 0x30 0x054] [(0x20 + c.off, [0x043, 0x036, 0x037])]
  | .ocClear _ c _ => among [.ev, .fb, .carA, .carB, .pw, .ports, .entry 0x20 0x054, .entry 0x30 0x054,
      .entry 0x08 0x030] [(0x20 + c.off, [0x043, 0x036, 0x037])]
  | .nlcBypassChange c => [.car c, .ev, .fb, .entry (0x20 + c.off) 0x054]
  | .xpmSquelchRemove c => [.car c, .ev, .fb, .entry (0x20 + c.off) 0x054]
  | .d2dBlockRx c _ _ _ _ _ => among [.ev, .fb, .clk, .car c, .entry (0x20 + c.off) 0x077] [(0x40, [0x022, 0x020, 0x021, 0x018]),
      (0x21 + c.off, [0x00B, 0x031, 0x007])]
  | .lineDacSlip _ _ => [.clk, .ev, .fb, .entry 0x40 0x019]
  | .d2dDegradeCheck _ => [.clk, .ev, .fb]
  | .feIlvWindow c _ => [.car c]
  | .feIqWindow c _ => [.car c]
  | .cdSheetReady c => among [.car c] [(0x21 + c.off, [0x014, 0x001])]
  | .cdFadeStart c => among [.car c] [(0x21 + c.off, [0x015, 0x016, 0x014, 0x001])]
  | .cdFadeBlock c => among [.car c, .ev, .fb] [(0x21 + c.off, [0x015, 0x016, 0x014, 0x001])]
  | .cdFadeCut c => among [.car c, .ev, .fb] [(0x21 + c.off, [0x015, 0x016, 0x014, 0x001])]
  | .cdSwapNofade c => among [.car c] [(0x21 + c.off, [0x015, 0x016, 0x014, 0x001])]
  | .cdSearchStart _ c => among [.car c, .pw, .ports, .ev, .fb, .entry 0x08 0x030] [(0x21 + c.off, [0x01C, 0x01E])]
  | .cdSearchDone c => among [.ed, .ev, .fb, .blobs, .carA, .carB, .entry 0x50 0x050] [(0x21 + c.off, [0x01F, 0x020, 0x01E, 0x01C]),
      (0x02, [0x018, 0x019, 0x01A, 0x014, 0x042]), (0x21, [0x014, 0x001]), (0x31, [0x014, 0x001])]
  | .rxTimingLock c => among [.ev, .fb] [(0x21 + c.off, [0x032, 0x001])]
  | .rxTimingUnlock c => among [.ev, .fb, .host, .car c, .ed, .blobs, .entry 0x50 0x050] [(0x21 + c.off, [0x032, 0x001, 0x033, 0x062,
      0x064]), (0x22 + c.off, [0x036, 0x001, 0x032]), (0x11, [0x021, 0x040]), (0x24 + c.off, [0x020, 0x023]), (0x23 + c.off, [0x06B,
      0x06C])]
  | .eqBlockUpdate c _ => among [.blobs, .car c, .cores] [(0x21 + c.off, [0x063, 0x001])]
  | .rxEqSingular c _ => [.blobs, .car c, .ev, .fb, .entry (0x21 + c.off) 0x047]
  | .eqReinit _ c _ => [.car c, .pw, .ports, .ev, .fb, .entry 0x08 0x030]
  | .eqTapShift c _ => among [.car c, .ev, .fb, .host, .ed, .blobs, .entry 0x50 0x050] [(0x21 + c.off, [0x001, 0x062, 0x064, 0x038,
      0x044]), (0x22 + c.off, [0x036, 0x001, 0x032]), (0x11, [0x021, 0x040]), (0x24 + c.off, [0x020, 0x023]), (0x23 + c.off, [0x06B,
      0x06C])]
  | .sopRateUpdate c => among [.car c, .ev, .fb] [(0x21 + c.off, [0x051, 0x052, 0x001])]
  | .rxSopNormal c => [.ev, .fb, .entry (0x21 + c.off) 0x001]
  | .sopPeakClear _ c => [.pw, .ports, .ev, .fb, .entry (0x21 + c.off) 0x052, .entry 0x08 0x030]
  | .rxPilotUpdate c _ => among [.car c, .ev, .fb] [(0x21 + c.off, [0x063, 0x062, 0x064, 0x001, 0x065])]
  | .crLimitHoldExpiry c => among [.ev, .fb, .host, .car c, .ed, .blobs, .entry 0x50 0x050] [(0x22 + c.off, [0x036, 0x001, 0x032]),
      (0x11, [0x021, 0x040]), (0x24 + c.off, [0x020, 0x023]), (0x23 + c.off, [0x06B, 0x06C]), (0x21 + c.off, [0x062, 0x064, 0x001])]
  | .rxFrameHeader c _ _ => among [.ev, .fb, .host, .freeCtr, .tv, .carA, .carB] [(0x21 + c.off, [0x071, 0x072, 0x075, 0x074, 0x073,
      0x001]), (0x23 + c.off, [0x057, 0x058]), (0x24 + c.off, [0x020, 0x023, 0x053, 0x054, 0x055, 0x037, 0x021, 0x038, 0x050, 0x052]),
      (0x11, [0x021, 0x040]), (0x50, [0x019, 0x018, 0x017])]
  | .rxSuperframeBoundary c => among [.ev, .fb, .ed, .freeCtr, .tv, .carA, .carB, .entry (0x24 + c.off) 0x051,
      .entry 0x02 0x042] [(0x21 + c.off, [0x083, 0x001]), (0x23 + c.off, [0x001, 0x002, 0x003]), (0x50, [0x019, 0x018, 0x017])]
  | .acqDetect c _ _ => among [.blobs, .car c, .ev, .fb, .host] [(0x21 + c.off, [0x001, 0x062, 0x064]), (0x22 + c.off, [0x020, 0x021,
      0x022, 0x001, 0x040]), (0x11, [0x021, 0x040])]
  | .acqCapture c _ _ _ => among [.ev, .fb, .car c, .host] [(0x22 + c.off, [0x031, 0x020, 0x021, 0x022, 0x001]), (0x21 + c.off, [0x062,
      0x064, 0x001]), (0x11, [0x021, 0x040])]
  | .rxSounding c _ _ _ _ _ => among [.car c, .ev, .fb, .host, .ed, .blobs, .entry 0x50 0x050,
      .entry (0x21 + c.off) 0x001] [(0x22 + c.off, [0x027, 0x023, 0x024, 0x025, 0x026, 0x001, 0x021, 0x036, 0x032]), (0x11, [0x021,
      0x040]), (0x24 + c.off, [0x020, 0x023]), (0x23 + c.off, [0x06B, 0x06C])]
  | .settleExpiry c => among [.ev, .fb, .host, .car c] [(0x22 + c.off, [0x030, 0x001]), (0x11, [0x021, 0x040]), (0x21 + c.off, [0x062,
      0x064, 0x001])]
  | .syncLossCount c => among [.ev, .fb, .car c, .host, .ed, .blobs, .entry 0x50 0x050] [(0x22 + c.off, [0x036, 0x032, 0x001]),
      (0x24 + c.off, [0x020, 0x023]), (0x11, [0x021, 0x040]), (0x23 + c.off, [0x06B, 0x06C]), (0x21 + c.off, [0x062, 0x064, 0x001])]
  | .rxFawTest c _ _ => among [.ev, .fb, .host, .car c, .entry (0x24 + c.off) 0x052] [(0x22 + c.off, [0x001, 0x030]), (0x11, [0x021,
      0x040]), (0x21 + c.off, [0x062, 0x064, 0x001])]
  | .acqLock c _ => among [.ev, .fb, .host, .ed, .blobs, .carA, .carB, .freeCtr, .tv] [(0x22 + c.off, [0x033, 0x035, 0x001, 0x036,
      0x032]), (0x11, [0x021, 0x040]), (0x21 + c.off, [0x038, 0x001, 0x062, 0x064]), (0x24 + c.off, [0x020, 0x023]), (0x50, [0x050,
      0x019, 0x018, 0x017]), (0x23 + c.off, [0x06B, 0x06C]), (0x02, [0x018, 0x019, 0x01A]), (0x23, [0x06B, 0x06C]), (0x33, [0x06B, 0x06C])]
  | .lofCountExpiry c => among [.ev, .fb, .host, .car c, .ed, .blobs, .entry 0x50 0x050] [(0x22 + c.off, [0x036, 0x001, 0x032]), (0x11,
      [0x021, 0x040]), (0x24 + c.off, [0x020, 0x023]), (0x23 + c.off, [0x06B, 0x06C]), (0x21 + c.off, [0x062, 0x064, 0x001])]
  | .acqHoldRecover c => among [.ev, .fb, .host, .car c] [(0x22 + c.off, [0x034, 0x001]), (0x11, [0x021, 0x040])]
  | .holdTimeout c => among [.ev, .fb, .car c, .host, .ed, .blobs, .entry 0x50 0x050] [(0x22 + c.off, [0x032, 0x001]), (0x24 + c.off,
      [0x020, 0x023]), (0x11, [0x021, 0x040]), (0x23 + c.off, [0x06B, 0x06C]), (0x21 + c.off, [0x062, 0x064, 0x001])]
  | .frameWaitTimeout c => among [.ev, .fb, .car c, .host, .ed, .blobs, .entry 0x50 0x050] [(0x22 + c.off, [0x036, 0x032, 0x001]),
      (0x24 + c.off, [0x020, 0x023]), (0x11, [0x021, 0x040]), (0x23 + c.off, [0x06B, 0x06C]), (0x21 + c.off, [0x062, 0x064, 0x001])]
  | .serviceToAcquire c => among [.ev, .fb, .host, .carA, .carB, .ed, .blobs, .freeCtr, .tv, .entry (0x20 + c.off) 0x000,
      .entry 0x20 0x054, .entry 0x30 0x054] [(0x11, [0x021, 0x040, 0x030]), (0x21 + c.off, [0x01C, 0x01E]), (0x02, [0x018, 0x019,
      0x01A]), (0x50, [0x050, 0x019, 0x018, 0x017]), (0x23, [0x06B, 0x06C]), (0x33, [0x06B, 0x06C])]
  | .fecAcceptStart c => among [.freeCtr, .car c, .ev, .fb, .host] [(0x24 + c.off, [0x020, 0x021, 0x023]), (0x11, [0x021, 0x040])]
  | .rxDark c => [.car c, .ev, .fb, .entry (0x22 + c.off) 0x040]
  | .noiseFloorUpdate c => among [.car c] [(0x22 + c.off, [0x041, 0x042])]
  | .sfCdDraftRetry _ => among [.ed, .ev, .fb, .blobs, .carA, .carB, .entry 0x50 0x050] [(0x02, [0x018, 0x019, 0x01A, 0x014, 0x042]),
      (0x21, [0x014, 0x001]), (0x31, [0x014, 0x001])]
  | .sfCdHuntTimeout c => among [.car c] [(0x21 + c.off, [0x01C, 0x01E])]
  | .stageCommit _ c => [.car c, .ev, .fb, .pw, .ports, .entry (0x23 + c.off) 0x05B, .entry 0x08 0x030]
  | .rxLoadStaged c => among [.ev, .fb, .tv, .carA, .carB, .entry (0x23 + c.off) 0x05B] [(0x50, [0x019, 0x018, 0x017])]
  | .txSwitch _ c _ => [.car c, .ev, .fb, .pw, .ports, .entry (0x23 + c.off) 0x018, .entry 0x08 0x030]
  | .matcherTablesReady c => [.car c]
  | .lxStageRx => among [.carA, .carB, .tv, .ev, .fb, .ed, .cores, .entry 0x02 0x042] [(0x50, [0x019, 0x018, 0x017]), (0x23, [0x050,
      0x051, 0x052, 0x05B]), (0x33, [0x050, 0x051, 0x052, 0x05B])]
  | .lxAckRx => among [.carA, .carB, .ed, .blobs, .ev, .fb, .freeCtr, .tv, .cores] [(0x50, [0x050, 0x019, 0x018, 0x017]), (0x23, [0x06B,
      0x06C]), (0x33, [0x06B, 0x06C]), (0x02, [0x018, 0x019, 0x01A, 0x014, 0x042, 0x016]), (0x21, [0x014, 0x001]), (0x31, [0x014, 0x001])]
  | .lxNackRx => among [.ed, .blobs, .ev, .fb, .carA, .carB, .freeCtr, .tv, .cores] [(0x50, [0x050, 0x019, 0x018, 0x017]), (0x23, [0x06D,
      0x06B, 0x06C]), (0x33, [0x06D, 0x06B, 0x06C]), (0x02, [0x018, 0x019, 0x01A])]
  | .lxCommitRx => among [.carA, .carB, .ed, .ev, .fb, .blobs, .freeCtr, .tv, .cores] [(0x23, [0x06B, 0x06C, 0x018]), (0x33, [0x06B,
      0x06C, 0x018]), (0x02, [0x018, 0x019, 0x01A]), (0x50, [0x050, 0x019, 0x018, 0x017])]
  | .lxCancelRx => [.carA, .carB, .cores]
  | .lxReportRx => among [.carA, .carB, .ev, .fb, .ed, .blobs, .freeCtr, .tv, .cores] [(0x23, [0x004, 0x065, 0x06B, 0x06C]), (0x33,
      [0x004, 0x065, 0x06B, 0x06C]), (0x02, [0x018, 0x019, 0x01A]), (0x50, [0x050, 0x019, 0x018, 0x017])]
  | .lxAckTimeout c => among [.ed, .blobs, .ev, .fb, .carA, .carB, .freeCtr, .tv] [(0x50, [0x050, 0x019, 0x018, 0x017]), (0x23 + c.off,
      [0x06B, 0x06C]), (0x02, [0x018, 0x019, 0x01A]), (0x23, [0x06B, 0x06C]), (0x33, [0x06B, 0x06C])]
  | .lxCommitTimeout c => among [.ev, .fb, .ed, .carA, .carB, .blobs, .freeCtr, .tv] [(0x23 + c.off, [0x018, 0x06B, 0x06C]), (0x02,
      [0x018, 0x019, 0x01A]), (0x50, [0x050, 0x019, 0x018, 0x017]), (0x23, [0x06B, 0x06C]), (0x33, [0x06B, 0x06C])]
  | .lxRetryTimer _ => among [.ed, .ev, .fb, .carA, .carB, .blobs, .freeCtr, .tv] [(0x02, [0x018, 0x019, 0x01A]), (0x50, [0x050, 0x019,
      0x018, 0x017]), (0x23, [0x06B, 0x06C]), (0x33, [0x06B, 0x06C])]
  | .lpPeriodTick c => among [.freeCtr, .tv, .ev, .fb, .carA, .carB, .ed, .blobs] [(0x50, [0x019, 0x018, 0x017, 0x050]), (0x23 + c.off,
      [0x065, 0x06B]), (0x02, [0x018, 0x019, 0x01A]), (0x23, [0x06B, 0x06C]), (0x33, [0x06B, 0x06C])]
  | .lxStart _ c => among [.ed, .ev, .fb, .carA, .carB, .blobs, .freeCtr, .tv, .pw, .ports, .entry (0x23 + c.off) 0x06B,
      .entry 0x08 0x030] [(0x02, [0x018, 0x019, 0x01A]), (0x50, [0x050, 0x019, 0x018, 0x017]), (0x23, [0x06B, 0x06C]), (0x33, [0x06B,
      0x06C])]
  | .lxDraftRetry _ => among [.ed, .ev, .fb, .carA, .carB, .blobs, .freeCtr, .tv] [(0x02, [0x018, 0x019, 0x01A]), (0x50, [0x050, 0x019,
      0x018, 0x017]), (0x23, [0x06B, 0x06C]), (0x33, [0x06B, 0x06C])]
  | .capLimitRx => among [.carA, .carB, .ed, .ev, .fb, .blobs, .freeCtr, .tv, .cores] [(0x02, [0x018, 0x019, 0x01A]), (0x50, [0x050,
      0x019, 0x018, 0x017]), (0x23, [0x06B, 0x06C]), (0x33, [0x06B, 0x06C])]
  | .rxSegmentArrival c => among [.car c, .ev, .fb] [(0x24 + c.off, [0x035, 0x036, 0x020, 0x021])]
  | .decIteration _ _ => [.carA, .carB]
  | .decWindowSlide c => [.car c]
  | .outerDecodeDone c => among [.ev, .fb, .car c] [(0x24 + c.off, [0x030, 0x031, 0x032, 0x033, 0x034, 0x020, 0x021])]
  | .rxFecCapChange => [.ev, .fb, .entry 0x24 0x011]
  | .rxFecAligned c => among [.ev, .fb, .host, .entry (0x24 + c.off) 0x023] [(0x11, [0x021, 0x040])]
  | .fecAcceptStop c => among [.car c, .ev, .fb, .host] [(0x24 + c.off, [0x020, 0x023]), (0x11, [0x021, 0x040])]
  | .lineBlockRx c => among [.car c, .ev, .fb] [(0x24 + c.off, [0x042, 0x041, 0x043, 0x040])]
  | .pmIntervalEnd c => among [.ev, .fb, .car c] [(0x24 + c.off, [0x025, 0x026])]
  | .decPeakClear _ c => [.pw, .ports, .ev, .fb, .entry (0x24 + c.off) 0x021, .entry 0x08 0x030]
  | .lxFecSuspect _ => [.ev, .fb]
  | .laneEnableWrite _ _ _ => among [.ed, .ev, .fb, .host, .pw, .ports, .entry 0x02 0x042, .entry 0x08 0x030] [(0x10, [0x000, 0x041,
      0x010, 0x005])]
  | .laneSignalDetect _ => among [.host, .ev, .fb] [(0x10, [0x040, 0x010])]
  | .hostTrainFrameRx _ _ => among [.host, .ev, .fb] [(0x10, [0x005, 0x014, 0x010, 0x041])]
  | .trainStepMeasure _ _ => among [.host, .ev, .fb] [(0x10, [0x011, 0x010])]
  | .trainCountdownDone _ => among [.host, .ev, .fb] [(0x10, [0x013, 0x010])]
  | .hostTrainTimeout _ => among [.host, .ev, .fb] [(0x10, [0x005, 0x010, 0x019])]
  | .hostLos _ => among [.host, .ev, .fb] [(0x10, [0x040, 0x041, 0x010, 0x005])]
  | .retrain _ _ => among [.host, .ev, .fb, .pw, .ports, .entry 0x08 0x030] [(0x10, [0x041, 0x010, 0x005])]
  | .loopbackWrite _ _ _ => among [.ed, .ev, .fb, .host, .pw, .ports, .entry 0x02 0x042, .entry 0x08 0x030] [(0x10, [0x020, 0x041, 0x010,
      0x005])]
  | .prbsGenWrite _ _ _ => among [.ed, .ev, .fb, .host, .pw, .ports, .entry 0x02 0x042, .entry 0x08 0x030] [(0x10, [0x030, 0x041, 0x010,
      0x005])]
  | .prbsInject _ _ _ => [.host, .pw, .ports, .ev, .fb, .entry 0x08 0x030]
  | .sfLaneRetry _ => among [.host, .ev, .fb] [(0x10, [0x041, 0x010, 0x005])]
  | .hostBlockRx _ _ _ _ _ _ _ _ => among [.ev, .fb, .host] [(0x10, [0x042, 0x043, 0x044, 0x045, 0x041, 0x046])]
  | .slotHeaderRx _ _ _ => [.host, .ev, .fb, .entry 0x10 0x041, .entry 0x11 0x042]
  | .hostFrameIngress _ _ _ => among [.host, .ev, .fb] [(0x11, [0x023, 0x021])]
  | .slotBurstComplete _ => [.host, .ev, .fb, .entry 0x11 0x040]
  | .clientStatusTick _ => [.host]
  | .mapperPacketSend c => among [.host, .car c, .ev, .fb] [(0x11, [0x020, 0x022])]
  | .demapWord c => among [.car c, .host, .ev, .fb] [(0x11, [0x026, 0x041, 0x032, 0x021, 0x040])]
  | .egressFrameOut _ _ => among [.freeCtr, .host, .ev, .fb] [(0x11, [0x024, 0x025])]
  | .egressSlotFrame _ => [.host]
  | .clientPacketTimeout _ => [.host, .ev, .fb]
  | .refclkEdgeTimeout => among [.ev, .fb, .clk, .entry 0x50 0x021] [(0x40, [0x000, 0x001, 0x002])]
  | .refclkWindow _ => among [.ev, .fb, .clk, .entry 0x50 0x021] [(0x40, [0x000, 0x001, 0x002])]
  | .refclkOkTimer => among [.ev, .fb, .clk] [(0x40, [0x000, 0x002])]
  | .pllHoldoverReturn _ => [.clk, .entry 0x40 0x002, .entry 0x50 0x021]
  | .lockSeqStep _ _ _ => among [.clk] [(0x40, [0x002, 0x004, 0x005])]
  | .foregroundCalDone _ _ _ => [.boot, .ev, .fb, .blobs, .clk, .host, .carA, .carB, .ed, .legend]
  | .vcoTcUpdate _ _ => [.clk, .ev, .fb, .entry 0x40 0x005]
  | .reband _ c => [.clk, .ev, .fb, .pw, .ports, .entry (0x20 + c.off) 0x013, .entry (0x21 + c.off) 0x000, .entry 0x40 0x002,
      .entry 0x08 0x030]
  | .linePllUnlock c => among [.ev, .fb, .car c, .clk] [(0x40, [0x002, 0x003]), (0x20 + c.off, [0x036, 0x037])]
  | .refTcUpdate _ => [.clk]
  | .spareVisitStart _ => [.clk]
  | .spareVisitEnd _ _ _ => among [.blobs, .clk, .boot, .ev, .fb] [(0x40, [0x011, 0x017, 0x013, 0x014, 0x015])]
  | .spareSwap _ _ => [.clk, .entry 0x40 0x012]
  | .legendRequestBad _ _ => Part.all
  | .registerWrite _ k _ => among [.ed, .ev, .fb, .hk, .ports, .carA, .carB, .tv, .pw, .entry (canonKey k).area (canonKey k).entry,
      .entry 0x02 0x042, .entry 0x10 0x005, .entry 0x71 0x00C, .entry 0x08 0x030] [(0x50, [0x006, 0x021]), (0x60, [0x013, 0x026])]
  | .blobReadLatch _ _ _ _ => among [.pw, .ports, .ev, .fb, .hk, .tv, .carA, .carB, .freeCtr, .sec, .entry 0x08 0x030,
      .entry 0x68 0x003] [(0x50, [0x019, 0x018, 0x017])]
  | .blobChunkWrite _ _ _ _ _ => among [.ports, .ed, .flash, .blobs, .ev, .fb, .cores, .pw, .entry 0x02 0x042, .entry 0x08 0x030] [(0x58,
      [0x024, 0x023, 0x02B, 0x02A]), (0x7A, [0x004, 0x005])]
  | .spiResponseRead => [.ports]
  | .mdioServe _ _ _ _ _ => Part.all
  | .twiWindowRead _ _ => among [.ev, .fb, .aon, .integ, .ports] [(0x78, [0x000, 0x001, 0x002])]
  | .twiWindowWrite _ _ _ => among [.ports, .ev, .fb, .aon, .integ, .freeCtr, .cores, .entry 0x08 0x041] [(0x78, [0x000, 0x001, 0x002])]
  | .eventNextRead _ _ _ => among [.ev, .fb, .aon, .integ, .pw, .ports, .hk, .tv, .carA, .carB, .freeCtr, .sec, .entry 0x08 0x030,
      .entry 0x68 0x003] [(0x78, [0x000, 0x001, 0x002]), (0x50, [0x019, 0x018, 0x017])]
  | .alarmAck _ => [.ev, .pw, .ports, .fb, .entry 0x08 0x030]
  | .snapshot _ _ => [.ev, .pw, .ports, .fb, .entry 0x08 0x030]
  | .snapshotRelease _ => [.ev, .pw, .ports, .fb, .entry 0x08 0x030]
  | .counterClear _ _ => [.legend, .ev, .fb, .pw, .ports]
  | .draftOpen _ => [.ed, .ev, .fb, .pw, .ports, .entry 0x08 0x030]
  | .draftWrite _ _ _ => [.ed, .pw, .ports, .ev, .fb, .entry 0x08 0x030]
  | .draftDiscard _ => [.ed, .blobs, .ev, .fb, .pw, .ports, .entry 0x50 0x050, .entry 0x08 0x030]
  | .draftValidate _ => among [.ed, .ev, .fb, .pw, .ports, .entry 0x08 0x030] [(0x02, [0x018, 0x019, 0x01A])]
  | .draftArm _ => among [.ed, .blobs, .ev, .fb, .carA, .carB, .pw, .ports, .entry 0x50 0x050, .entry 0x08 0x030] [(0x02, [0x018, 0x019,
      0x01A]), (0x21, [0x014, 0x001]), (0x31, [0x014, 0x001])]
  | .disarm _ _ => [.ed, .carA, .carB, .ev, .fb, .pw, .ports, .entry 0x08 0x030]
  | .edDraftExpired => [.ed, .blobs, .ev, .fb, .entry 0x50 0x050]
  | .editionApply => [.ed, .legend, .blobs, .carA, .ev, .fb, .carB, .host]
  | .tvEnableWrite _ _ => among [.tv, .ev, .fb, .ed, .pw, .ports, .entry 0x02 0x042, .entry 0x08 0x030] [(0x50, [0x002, 0x006, 0x021,
      0x000])]
  | .tvTrainingSetRx _ _ _ _ _ => among [.tv, .ev, .fb] [(0x50, [0x002, 0x006, 0x021, 0x005, 0x007, 0x004])]
  | .tvTrainingTimeout _ => among [.ev, .fb, .tv] [(0x50, [0x007, 0x002, 0x006, 0x021])]
  | .tvPortUp _ _ => among [.tv, .ev, .fb] [(0x50, [0x002, 0x00C])]
  | .tvPortDown _ => among [.ev, .fb, .tv] [(0x50, [0x007, 0x002, 0x006, 0x021])]
  | .portLoopbackWrite _ _ _ => among [.ed, .ev, .fb, .tv, .pw, .ports, .entry 0x02 0x042, .entry 0x08 0x030] [(0x50, [0x003, 0x002,
      0x006, 0x021])]
  | .tvIdleSetRx _ _ => [.tv, .carA, .carB]
  | .tvFrameRx _ _ _ => among [.ev, .fb, .tv, .carA, .carB] [(0x50, [0x008, 0x00B, 0x00A, 0x019, 0x018, 0x017])]
  | .helloSend => [.tv, .carA, .carB, .ev, .fb, .entry 0x50 0x017]
  | .helloRx => [.tv, .ev, .fb, .entry 0x50 0x006]
  | .neighbourTimeout _ => [.entry 0x50 0x006]
  | .dedupEntryExpire _ => [.tv]
  | .ibFrameRx _ _ => among [.carA, .carB, .ev, .fb, .tv] [(0x50, [0x008, 0x016, 0x00B, 0x019, 0x018, 0x017])]
  | .timeExchangeStart _ => [.tv, .carA, .carB, .ev, .fb, .entry 0x50 0x017]
  | .timeReqRx _ => [.tv, .carA, .carB, .ev, .fb, .entry 0x50 0x017]
  | .timeRespRx => among [.freeCtr, .tv, .ev, .fb, .datum] [(0x50, [0x025, 0x024, 0x043, 0x05A, 0x02B, 0x02A, 0x021])]
  | .datumHoldover => [.ev, .fb, .entry 0x50 0x021]
  | .datumSet _ _ => among [.ev, .fb, .tv, .datum, .pw, .ports, .entry 0x08 0x030] [(0x50, [0x05A, 0x02B])]
  | .ppsInEdge => among [.tv, .ed, .ev, .fb, .freeCtr, .datum, .entry 0x02 0x042] [(0x50, [0x030, 0x031, 0x024, 0x043, 0x05A, 0x02B,
      0x02A, 0x021])]
  | .ppsMissed => among [.ev, .fb, .tv] [(0x50, [0x036, 0x021])]
  | .ppsOutRise => [.tv]
  | .ppsOutFall => [.tv]
  | .legendReqRx => among [.ev, .fb, .tv, .carA, .carB] [(0x50, [0x00B, 0x019, 0x018, 0x017])]
  | .legendRspSend _ => Part.all
  | .appFrameRx => [.ev, .fb, .cores, .tv, .entry 0x58 0x030]
  | .eventSinkSend => among [.tv, .ev, .fb, .carA, .carB] [(0x50, [0x019, 0x018, 0x017])]
  | .groupArmRx => among [.ed, .ev, .fb, .blobs, .carA, .carB, .tv] [(0x02, [0x014, 0x042, 0x015, 0x018, 0x019, 0x01A]), (0x50, [0x050,
      0x019, 0x018, 0x017]), (0x21, [0x014, 0x001]), (0x31, [0x014, 0x001])]
  | .groupDisarmRx => [.ed, .carA, .carB, .ev, .fb, .tv]
  | .groupResultRx => among [.tv, .ev, .fb, .carA, .carB] [(0x50, [0x053, 0x019, 0x018, 0x017])]
  | .triggerRx => among [.ev, .fb, .tv, .carA, .carB] [(0x50, [0x05A, 0x019, 0x018, 0x017])]
  | .triggerFire _ => among [.tv, .fb, .ev, .carA, .carB] [(0x50, [0x019, 0x018, 0x017])]
  | .groupArmSend _ _ => among [.tv, .ev, .fb, .carA, .carB, .pw, .ports, .entry 0x08 0x030] [(0x50, [0x019, 0x018, 0x017])]
  | .groupDisarmSend _ _ => among [.tv, .ev, .fb, .carA, .carB, .pw, .ports, .entry 0x08 0x030] [(0x50, [0x019, 0x018, 0x017])]
  | .trigSend _ _ => among [.tv, .ev, .fb, .carA, .carB, .pw, .ports, .entry 0x08 0x030] [(0x50, [0x019, 0x018, 0x017])]
  | .nop _ => among [.cores, .ev, .fb, .aon, .integ] [(0x58, [0x012, 0x010, 0x017, 0x018]), (0x78, [0x000, 0x001, 0x002])]
  | .add _ _ _ _ => among [.cores, .ev, .fb, .aon, .integ] [(0x58, [0x012, 0x010, 0x017, 0x018]), (0x78, [0x000, 0x001, 0x002])]
  | .sub _ _ _ _ => among [.cores, .ev, .fb, .aon, .integ] [(0x58, [0x012, 0x010, 0x017, 0x018]), (0x78, [0x000, 0x001, 0x002])]
  | .mul _ _ _ _ => among [.cores, .ev, .fb, .aon, .integ] [(0x58, [0x012, 0x010, 0x017, 0x018]), (0x78, [0x000, 0x001, 0x002])]
  | .andd _ _ _ _ => among [.cores, .ev, .fb, .aon, .integ] [(0x58, [0x012, 0x010, 0x017, 0x018]), (0x78, [0x000, 0x001, 0x002])]
  | .orr _ _ _ _ => among [.cores, .ev, .fb, .aon, .integ] [(0x58, [0x012, 0x010, 0x017, 0x018]), (0x78, [0x000, 0x001, 0x002])]
  | .xorr _ _ _ _ => among [.cores, .ev, .fb, .aon, .integ] [(0x58, [0x012, 0x010, 0x017, 0x018]), (0x78, [0x000, 0x001, 0x002])]
  | .shl _ _ _ _ => among [.cores, .ev, .fb, .aon, .integ] [(0x58, [0x012, 0x010, 0x017, 0x018]), (0x78, [0x000, 0x001, 0x002])]
  | .shr _ _ _ _ => among [.cores, .ev, .fb, .aon, .integ] [(0x58, [0x012, 0x010, 0x017, 0x018]), (0x78, [0x000, 0x001, 0x002])]
  | .addi _ _ _ _ => among [.cores, .ev, .fb, .aon, .integ] [(0x58, [0x012, 0x010, 0x017, 0x018]), (0x78, [0x000, 0x001, 0x002])]
  | .lui _ _ _ => among [.cores, .ev, .fb, .aon, .integ] [(0x58, [0x012, 0x010, 0x017, 0x018]), (0x78, [0x000, 0x001, 0x002])]
  | .branch _ _ _ => among [.cores, .ev, .fb, .aon, .integ] [(0x58, [0x012, 0x010, 0x017, 0x018]), (0x78, [0x000, 0x001, 0x002])]
  | .call _ _ => among [.cores, .ev, .fb, .aon, .integ] [(0x58, [0x012, 0x010, 0x017, 0x018]), (0x78, [0x000, 0x001, 0x002])]
  | .ret _ => among [.cores, .ev, .fb, .aon, .integ] [(0x58, [0x012, 0x010, 0x017, 0x018]), (0x78, [0x000, 0x001, 0x002])]
  | .loopi _ _ _ => among [.cores, .ev, .fb, .aon, .integ] [(0x58, [0x012, 0x010, 0x017, 0x018]), (0x78, [0x000, 0x001, 0x002])]
  | .ldw _ _ _ _ _ => Part.all
  | .stw _ _ _ _ _ => Part.all
  | .ldc _ _ _ _ _ => Part.all
  | .stc _ _ _ _ _ => Part.all
  | .zl _ _ _ => among [.integ, .cores, .ev, .fb, .aon] [(0x58, [0x012, 0x010, 0x017, 0x018]), (0x78, [0x000, 0x001, 0x002])]
  | .mgd _ _ _ _ => among [.cores, .ev, .fb, .aon, .integ] [(0x58, [0x012, 0x010, 0x017, 0x018]), (0x78, [0x000, 0x001, 0x002])]
  | .mdg _ _ _ _ => among [.cores, .ev, .fb, .aon, .integ] [(0x58, [0x012, 0x010, 0x017, 0x018]), (0x78, [0x000, 0x001, 0x002])]
  | .mvx _ _ _ => among [.cores, .ev, .fb, .aon, .integ] [(0x58, [0x012, 0x010, 0x017, 0x018]), (0x78, [0x000, 0x001, 0x002])]
  | .cmul _ _ _ _ => among [.cores, .ev, .fb, .aon, .integ] [(0x58, [0x012, 0x010, 0x017, 0x018]), (0x78, [0x000, 0x001, 0x002])]
  | .cmac _ _ _ _ => among [.cores, .ev, .fb, .aon, .integ] [(0x58, [0x012, 0x010, 0x017, 0x018]), (0x78, [0x000, 0x001, 0x002])]
  | .cmacj _ _ _ _ => among [.cores, .ev, .fb, .aon, .integ] [(0x58, [0x012, 0x010, 0x017, 0x018]), (0x78, [0x000, 0x001, 0x002])]
  | .cmsu _ _ _ _ => among [.cores, .ev, .fb, .aon, .integ] [(0x58, [0x012, 0x010, 0x017, 0x018]), (0x78, [0x000, 0x001, 0x002])]
  | .cmacm _ _ => Part.all
  | .clra _ _ => among [.cores, .ev, .fb, .aon, .integ] [(0x58, [0x012, 0x010, 0x017, 0x018]), (0x78, [0x000, 0x001, 0x002])]
  | .sac _ _ _ _ => among [.cores, .ev, .fb, .aon, .integ] [(0x58, [0x012, 0x010, 0x017, 0x018]), (0x78, [0x000, 0x001, 0x002])]
  | .sacg _ _ _ _ _ => among [.cores, .ev, .fb, .aon, .integ] [(0x58, [0x012, 0x010, 0x017, 0x018]), (0x78, [0x000, 0x001, 0x002])]
  | .inPort _ _ _ => among [.cores, .integ, .freeCtr, .ports, .ev, .fb, .aon] [(0x58, [0x012, 0x010, 0x017, 0x018]), (0x78, [0x000,
      0x001, 0x002])]
  | .outPort _ _ _ => Part.all
  | .cbx _ _ _ _ _ => among [.cores, .ev, .fb, .aon, .integ] [(0x58, [0x012, 0x010, 0x017, 0x018]), (0x78, [0x000, 0x001, 0x002])]
  | .cbxComplete _ => Part.all
  | .wait _ _ => among [.cores, .ev, .fb, .aon, .integ] [(0x58, [0x012, 0x010, 0x017, 0x018]), (0x78, [0x000, 0x001, 0x002])]
  | .coreWaitWake _ => among [.cores, .ev, .fb, .aon, .integ, .entry 0x58 0x010] [(0x78, [0x000, 0x001, 0x002])]
  | .halt _ => among [.cores, .ev, .fb, .aon, .integ] [(0x58, [0x010, 0x012, 0x017, 0x018]), (0x78, [0x000, 0x001, 0x002])]
  | .illegalOpcode _ => among [.cores, .ev, .fb, .aon, .integ] [(0x58, [0x012, 0x010, 0x017, 0x018]), (0x78, [0x000, 0x001, 0x002])]
  | .faultExit _ _ => Part.all
  | .flagsClear _ _ => Part.all
  | .wdogKick _ _ => Part.all
  | .datumLoRead _ _ => among [.cores, .integ, .freeCtr, .ports, .ev, .fb, .aon] [(0x58, [0x012, 0x010, 0x017, 0x018]), (0x78, [0x000,
      0x001, 0x002])]
  | .eventsRead _ _ => among [.cores, .integ, .freeCtr, .ports, .ev, .fb, .aon] [(0x58, [0x012, 0x010, 0x017, 0x018]), (0x78, [0x000,
      0x001, 0x002])]
  | .coreTimerExpire _ => [.cores]
  | .lgSend _ _ => Part.all
  | .coreLegendDone _ _ => Part.all
  | .appRxPop _ _ => among [.cores, .integ, .freeCtr, .ports, .ev, .fb, .aon] [(0x58, [0x012, 0x010, 0x017, 0x018]), (0x78, [0x000,
      0x001, 0x002])]
  | .appTxGo _ _ => Part.all
  | .winDataWrite _ _ => Part.all
  | .winWmask _ _ => Part.all
  | .winQpop _ _ => among [.cores, .integ, .freeCtr, .ports, .ev, .fb, .aon] [(0x58, [0x012, 0x010, 0x017, 0x018]), (0x78, [0x000, 0x001,
      0x002])]
  | .resGo _ _ => Part.all
  | .resReadDone _ => among [.cores, .integ, .ev, .fb, .aon] [(0x58, [0x010, 0x017, 0x018]), (0x78, [0x000, 0x001, 0x002])]
  | .coreWdogExpire _ => Part.all
  | .coreRestart _ _ => [.cores, .carA, .carB, .integ, .freeCtr, .ed, .blobs, .ev, .fb, .pw, .ports, .entry 0x50 0x050,
      .entry 0x58 0x010, .entry 0x08 0x030]
  | .fwRestart _ => [.cores, .pw, .ports, .ev, .fb, .entry 0x58 0x000, .entry 0x08 0x030]
  | .fwRestartVerified => among [.cores, .ev, .fb, .carA, .carB, .integ, .freeCtr, .ed, .blobs, .entry 0x50 0x050] [(0x7A, [0x004,
      0x005]), (0x58, [0x029, 0x000, 0x010, 0x003, 0x001, 0x011]), (0x23, [0x06B, 0x06C]), (0x33, [0x06B, 0x06C])]
  | .loadBegin _ _ => among [.flash, .cores, .ev, .fb, .pw, .ports, .entry 0x08 0x030] [(0x58, [0x024, 0x02B, 0x025, 0x023])]
  | .loadEraseDone _ => among [.ev, .fb, .cores, .flash] [(0x58, [0x023, 0x02B, 0x024])]
  | .loadManifest _ _ _ => among [.cores, .flash, .ev, .fb, .pw, .ports, .entry 0x08 0x030] [(0x58, [0x024, 0x023, 0x02B]), (0x7A,
      [0x004, 0x005])]
  | .loadSegment _ _ _ => [.cores, .ev, .fb, .pw, .ports, .entry 0x58 0x02A, .entry 0x08 0x030]
  | .loadProgramDone _ => among [.flash, .ev, .fb, .cores] [(0x58, [0x024, 0x023, 0x02B, 0x025])]
  | .loadActivate _ => among [.flash, .ev, .fb, .cores, .boot, .pw, .ports, .entry 0x01 0x013, .entry 0x08 0x030] [(0x58, [0x024, 0x002,
      0x023, 0x02B])]
  | .loadAbort _ => among [.flash, .ev, .fb, .cores, .pw, .ports, .entry 0x08 0x030] [(0x58, [0x024, 0x023, 0x02B])]
  | .hkConversionBoundary _ _ _ _ => among [.hk, .area 0x60, .ev, .fb, .blobs] [(0x61, [0x032, 0x033, 0x004])]
  | .hkRegStart _ _ => [.hk, .ev, .fb, .pw, .ports, .entry 0x60 0x01A, .entry 0x08 0x030]
  | .hkRegTimer _ => [.hk, .ev, .fb, .entry 0x60 0x01A]
  | .trigInRise => among [.fb, .tv, .ev, .carA, .carB, .hk] [(0x50, [0x019, 0x018, 0x017]), (0x60, [0x01A, 0x029, 0x028, 0x027])]
  | .injStart _ _ => among [.ev, .fb, .hk, .pw, .ports, .entry 0x08 0x030] [(0x60, [0x029, 0x028, 0x027])]
  | .injTimer _ => among [.ev, .fb, .hk] [(0x60, [0x029, 0x028, 0x027])]
  | .gpioRise _ => among [.ev, .fb, .hk] [(0x60, [0x029, 0x028, 0x027])]
  | .injOverflowClear _ _ _ => [.ed, .ev, .fb, .pw, .ports, .entry 0x60 0x028, .entry 0x02 0x042, .entry 0x08 0x030]
  | .hkEnableWrite _ _ _ => among [.ed, .ev, .fb, .hk, .pw, .ports, .entry 0x02 0x042, .entry 0x08 0x030] [(0x60, [0x000, 0x027, 0x031,
      0x003])]
  | .hkSelfCal _ _ => among [.ev, .fb, .hk, .pw, .ports, .entry 0x08 0x030] [(0x60, [0x031, 0x003])]
  | .benchCancel _ _ => among [.hk, .ev, .fb, .pw, .ports, .entry 0x08 0x030] [(0x60, [0x031, 0x003])]
  | .benchZero _ _ _ => among [.hk, .ev, .fb, .pw, .ports, .entry 0x08 0x030] [(0x60, [0x031, 0x003])]
  | .benchFull _ _ _ => among [.hk, .ev, .fb, .pw, .ports, .entry 0x08 0x030] [(0x60, [0x031, 0x003])]
  | .hkCalDone _ => among [.hk, .ev, .fb] [(0x60, [0x003, 0x031, 0x050, 0x051])]
  | .aoutEnableWrite _ _ _ => among [.ed, .ev, .fb, .hk, .pw, .ports, .entry 0x02 0x042, .entry 0x08 0x030] [(0x61, [0x000, 0x002, 0x004])]
  | .aoutRangeWrite _ _ _ => among [.ed, .ev, .fb, .pw, .ports, .entry 0x02 0x042, .entry 0x08 0x030] [(0x61, [0x001, 0x004])]
  | .aoutReconnect _ => [.hk, .entry 0x61 0x004]
  | .aoutUpdate _ _ => among [.hk, .ev, .fb] [(0x61, [0x014, 0x032])]
  | .aoutConditionClear _ _ => [.entry 0x61 0x032]
  | .waveWrite _ _ _ => [.ed, .ev, .fb, .hk, .pw, .ports, .entry 0x61 0x010, .entry 0x02 0x042, .entry 0x08 0x030]
  | .waveSync _ _ => [.hk, .pw, .ports, .ev, .fb, .entry 0x08 0x030]
  | .rbClear _ _ => among [.hk, .pw, .ports, .ev, .fb, .entry 0x08 0x030] [(0x61, [0x032, 0x002, 0x004])]
  | .mfChannelProcess _ _ => among [.hk, .ev, .fb] [(0x62, [0x035, 0x036, 0x030, 0x031, 0x033, 0x034, 0x021, 0x022])]
  | .mfSheetSwap _ _ => among [.hk, .ev, .fb, .pw, .ports, .entry 0x08 0x030] [(0x62, [0x021, 0x022, 0x014, 0x013])]
  | .mfSwapLoaded _ => [.hk]
  | .mfSync _ _ => [.hk, .pw, .ports, .ev, .fb, .entry 0x08 0x030]
  | .outQueueRead _ _ _ => among [.pw, .ports, .ev, .fb, .hk, .tv, .carA, .carB, .freeCtr, .sec, .entry 0x08 0x030,
      .entry 0x68 0x003] [(0x50, [0x019, 0x018, 0x017])]
  | .ringArm _ _ _ => among [.fb, .tv, .ev, .carA, .carB, .pw, .ports, .entry 0x68 0x011, .entry 0x08 0x030] [(0x50, [0x019, 0x018, 0x017])]
  | .ringRearm _ _ _ => among [.fb, .tv, .ev, .carA, .carB, .pw, .ports, .entry 0x68 0x011, .entry 0x08 0x030] [(0x50, [0x019, 0x018,
      0x017])]
  | .ringForce _ _ _ => among [.fb, .tv, .ev, .carA, .carB, .pw, .ports, .entry 0x68 0x011, .entry 0x08 0x030] [(0x50, [0x019, 0x018,
      0x017])]
  | .ringStop _ _ _ => among [.fb, .tv, .ev, .carA, .carB, .pw, .ports, .entry 0x68 0x011, .entry 0x08 0x030] [(0x50, [0x019, 0x018,
      0x017])]
  | .ringDisarm _ _ _ => among [.fb, .tv, .ev, .carA, .carB, .pw, .ports, .entry 0x68 0x011, .entry 0x08 0x030] [(0x50, [0x019, 0x018,
      0x017])]
  | .fbRingCleared _ => among [.fb, .tv, .ev, .carA, .carB] [(0x50, [0x019, 0x018, 0x017])]
  | .probeUpdate _ _ _ _ => among [.fb, .ev, .tv, .carA, .carB] [(0x50, [0x019, 0x018, 0x017])]
  | .fbRecordWrite => among [.fb, .tv, .ev, .carA, .carB] [(0x50, [0x019, 0x018, 0x017])]
  | .trigOutEnd => [.fb]
  | .rdDataRead _ _ => among [.pw, .ports, .ev, .fb, .hk, .tv, .carA, .carB, .freeCtr, .sec, .entry 0x08 0x030,
      .entry 0x68 0x003] [(0x50, [0x019, 0x018, 0x017])]
  | .thermalSample _ => among [.area 0x70, .ev, .fb, .boot, .th, .aon, .carA, .carB, .hk, .tv, .cores, .ports, .entry 0x10 0x010,
      .entry 0x61 0x004, .entry 0x58 0x010, .entry 0x01 0x000] [(0x20, [0x043, 0x036, 0x037, 0x054, 0x000]), (0x30, [0x043, 0x036, 0x037,
      0x054, 0x000]), (0x50, [0x002, 0x006, 0x021])]
  | .thermalBlockExpire => among [.th, .ev, .fb] [(0x70, [0x020, 0x021, 0x025])]
  | .fwLevelWrite _ _ => among [.ed, .ev, .fb, .pw, .ports, .entry 0x02 0x042, .entry 0x08 0x030] [(0x70, [0x022, 0x020, 0x021, 0x025])]
  | .shutdownClear _ => [.aon, .pw, .ports, .ev, .fb, .entry 0x08 0x030]
  | .sfL3Dwell => among [.ed, .ev, .fb, .th, .freeCtr, .tv, .carA, .carB, .entry 0x02 0x042] [(0x70, [0x022, 0x020, 0x021, 0x025,
      0x044]), (0x50, [0x019, 0x018, 0x017])]
  | .sfL3Resend _ => among [.freeCtr, .tv, .ev, .fb, .carA, .carB] [(0x50, [0x019, 0x018, 0x017])]
  | .thL3NoResponse _ => [.ev, .fb]
  | .sfL3Release => among [.ed, .ev, .fb, .th, .freeCtr, .tv, .carA, .carB, .entry 0x02 0x042] [(0x70, [0x022, 0x020, 0x021, 0x025,
      0x044]), (0x50, [0x019, 0x018, 0x017])]
  | .xtalCompTick _ => [.aon]
  | .aonXtalFail => [.ev, .fb, .entry 0x50 0x040]
  | .xtalRestore => [.entry 0x50 0x040]
  | .marginUpdate _ => among [.pw, .ev, .fb] [(0x71, [0x006, 0x000, 0x007, 0x008, 0x00E]), (0x70, [0x020, 0x021, 0x025])]
  | .pwrCarrierDropped => among [.pw, .ed, .ev, .fb, .clk, .carA, .carB, .host, .blobs, .entry 0x02 0x042, .entry 0x71 0x00F,
      .entry 0x22 0x001, .entry 0x32 0x001] [(0x20, [0x001, 0x013, 0x000, 0x054, 0x036]), (0x30, [0x001, 0x013, 0x000, 0x054, 0x036]),
      (0x40, [0x002, 0x011, 0x013, 0x017]), (0x21, [0x000, 0x001, 0x031, 0x032, 0x062, 0x064, 0x01C, 0x01E]), (0x31, [0x000, 0x001,
      0x031, 0x032, 0x062, 0x064, 0x01C, 0x01E]), (0x11, [0x030, 0x021, 0x040]), (0x24, [0x020, 0x023]), (0x34, [0x020, 0x023])]
  | .pwrMarginRestored => among [.pw, .ev, .fb, .entry 0x71 0x008] [(0x70, [0x020, 0x021, 0x025])]
  | .avsVoltageRead _ => among [.pw, .ev, .fb] [(0x71, [0x00C, 0x00D])]
  | .avsStatusRead _ => [.pw, .ev, .fb, .entry 0x71 0x00C]
  | .pwrAvsRestored => [.ev, .fb, .entry 0x71 0x00C]
  | .idleTimerExpire => [.ev, .fb, .pw, .ed, .carA, .carB, .blobs, .ports, .aon, .entry 0x50 0x050]
  | .sleepNow _ => [.ev, .fb, .pw, .ed, .carA, .carB, .blobs, .ports, .aon, .entry 0x50 0x050, .entry 0x08 0x030]
  | .dormantLatch => among [.hk, .tv, .ev, .fb, .pw, .cores, .carA, .carB, .entry 0x61 0x004, .entry 0x58 0x010,
      .entry 0x01 0x000] [(0x50, [0x002, 0x006, 0x021, 0x041]), (0x71, [0x023, 0x024, 0x027]), (0x20, [0x000, 0x043, 0x036, 0x037,
      0x054]), (0x30, [0x000, 0x054, 0x043, 0x036, 0x037])]
  | .wakeSourceFire _ _ _ _ => Part.all
  | .wakeTimerExpire _ => Part.all
  | .aonBrownout => Part.all
  | .padRelease _ => [.pw, .ports, .ev, .fb, .entry 0x71 0x024, .entry 0x08 0x030]
  | .refetchDone => Part.all
  | .intLegendRebuilt _ => Part.all
  | .derivedRepairDone => [.integ]
  | .scrubPass _ => Part.all
  | .faultLogClear _ => [.aon, .pw, .ports, .ev, .fb, .entry 0x08 0x030]
  | .sliceRound _ => among [.boot, .ev, .fb] [(0x79, [0x012, 0x011, 0x014])]
  | .sliceRun _ _ => among [.boot, .ev, .fb, .pw, .ports, .entry 0x08 0x030] [(0x79, [0x012, 0x011, 0x014])]
  | .testRequest _ _ => among [.boot, .ev, .fb, .pw, .ports, .entry 0x08 0x030] [(0x79, [0x021, 0x022])]
  | .testDone _ => among [.boot, .ev, .fb, .hk, .host, .tv, .clk, .carA, .carB, .blobs, .entry 0x22 0x001, .entry 0x32 0x001] [(0x79,
      [0x021, 0x023]), (0x61, [0x002, 0x004]), (0x10, [0x041, 0x010, 0x005]), (0x50, [0x002, 0x006, 0x021]), (0x40, [0x002, 0x011, 0x013,
      0x017]), (0x20, [0x013, 0x000, 0x054, 0x036]), (0x21, [0x000, 0x001, 0x031, 0x032, 0x062, 0x064, 0x01C, 0x01E]), (0x11, [0x030,
      0x021, 0x040]), (0x30, [0x054, 0x013, 0x000, 0x036]), (0x24, [0x020, 0x023]), (0x31, [0x000, 0x001, 0x031, 0x032, 0x062, 0x064,
      0x01C, 0x01E]), (0x34, [0x020, 0x023])]
  | .lcTransition _ _ _ => [.ev, .fb, .sec, .pw, .ports, .entry 0x7A 0x00B, .entry 0x00 0x014, .entry 0x08 0x030]
  | .enrollRoot _ _ _ => [.ev, .fb, .flash, .sec, .pw, .ports, .entry 0x7A 0x00B, .entry 0x08 0x030]
  | .revokeRoot _ _ _ => [.ev, .fb, .sec, .pw, .ports, .entry 0x7A 0x00B, .entry 0x08 0x030]
  | .installRootKey _ _ => [.ev, .fb, .flash, .pw, .ports, .entry 0x7A 0x00B, .entry 0x08 0x030]
  | .installController _ _ => among [.flash, .ev, .fb, .pw, .ports, .entry 0x08 0x030] [(0x7A, [0x010, 0x00B])]
  | .removeController _ _ => among [.flash, .ev, .fb, .sec, .pw, .ports, .entry 0x08 0x030] [(0x7A, [0x010, 0x00B])]
  | .commitSecver _ _ _ => [.ev, .fb, .sec, .pw, .ports, .entry 0x7A 0x00B, .entry 0x08 0x030]
  | .commitCtrlVersion _ _ _ => [.ev, .fb, .sec, .pw, .ports, .entry 0x7A 0x00B, .entry 0x08 0x030]
  | .fuseSignPolicy _ _ _ => [.ev, .fb, .sec, .pw, .ports, .entry 0x7A 0x00B, .entry 0x08 0x030]
  | .idGenerate _ _ => [.ev, .fb, .freeCtr, .flash, .sec, .pw, .ports, .entry 0x7A 0x00B, .entry 0x08 0x030]
  | .nonceRead _ _ => among [.pw, .ports, .ev, .fb, .hk, .tv, .carA, .carB, .freeCtr, .sec, .entry 0x08 0x030, .entry 0x68 0x003] [(0x50,
      [0x019, 0x018, 0x017])]
  | .nonceExpire => [.sec]
  | .attRequest _ => among [.sec, .pw, .ports, .ev, .fb, .entry 0x08 0x030] [(0x7A, [0x034, 0x032])]
  | .attReady => [.freeCtr, .sec, .blobs, .ev, .fb, .entry 0x7A 0x032]
  | .extest => [.dbg]
  | .idcode => [.dbg]
  | .samplePreload => [.dbg]
  | .bypass => [.dbg]
  | .testEngine _ => [.dbg, .entry 0x7A 0x038]
  | .coreSel _ => [.dbg]
  | .coreHalt => among [.cores, .carA, .carB, .integ, .freeCtr, .ev, .fb, .aon, .dbg, .entry 0x58 0x010, .entry 0x7A 0x038] [(0x78,
      [0x000, 0x001, 0x002])]
  | .coreStep => Part.all
  | .coreResume => [.dbg, .entry 0x58 0x010]
  | .coreAccess _ => Part.all
  | .supplyDip _ => Part.all
  | .suppliesStable => Part.all
  | .supplyLoss => Part.all
  | .resetNAssert _ => Part.all
  | .swReset _ => Part.all
  | .resetRelease => among [.freeCtr, .ed, .tv, .boot] [(0x01, [0x013, 0x000])]
  | .resetDatumCapture => [.tv, .entry 0x01 0x004]
  | .bootHkCalDone => [.entry 0x01 0x013]
  | .strapReadDone _ => among [.entry 0x50 0x001] [(0x60, [0x0F8, 0x0F0, 0x040]), (0x01, [0x010, 0x011, 0x012, 0x013]), (0x08, [0x010,
      0x020])]
  | .selfTestDone _ _ _ => [.tv, .datum, .legend, .blobs, .ed, .ev, .fb, .aon, .integ, .ports, .carA, .carB, .hk, .boot, .cores, .clk,
      .host]
  | .fwVerifyDone => among [.cores, .integ, .boot, .ev, .fb, .carA, .carB, .clk, .host, .blobs, .entry 0x22 0x001,
      .entry 0x32 0x001] [(0x7A, [0x004, 0x005]), (0x58, [0x003, 0x001, 0x011, 0x010, 0x000, 0x024]), (0x01, [0x013, 0x015, 0x014,
      0x000]), (0x20, [0x043, 0x036, 0x037, 0x054, 0x013, 0x000]), (0x30, [0x054, 0x043, 0x036, 0x037, 0x013, 0x000]), (0x40, [0x002,
      0x011, 0x013, 0x017]), (0x21, [0x000, 0x001, 0x031, 0x032, 0x062, 0x064, 0x01C, 0x01E]), (0x11, [0x030, 0x021, 0x040]), (0x24,
      [0x020, 0x023]), (0x31, [0x000, 0x001, 0x031, 0x032, 0x062, 0x064, 0x01C, 0x01E]), (0x34, [0x020, 0x023]), (0x10, [0x041, 0x010,
      0x005])]
  | .svStart _ => [.cores, .pw, .ports, .ev, .fb, .entry 0x58 0x010, .entry 0x08 0x030]
  | .prbsLock _ _ => among [.ev, .fb, .host] [(0x10, [0x033, 0x034, 0x035, 0x032])]
  | .tvFrameSent _ => [.tv, .carA, .carB, .ev, .fb, .entry 0x50 0x009]
  | .sfHaltedLeadRestart _ => [.cores, .carA, .carB, .integ, .freeCtr, .ed, .blobs, .ev, .fb, .pw, .ports, .entry 0x50 0x050,
      .entry 0x58 0x010, .entry 0x08 0x030]
  | .fuseProgrammingDone _ => Part.all

end Sys2Proof.Machine
end

