-- ==== Sys2Proof/Certificates/Slice0/Obligations.lean ====
section
/-! DEFINITION. The statements for the provers. -/

section

open Sys2Proof Sys2Proof.Machine

/-- (1) On a present carrier that is not OFF and whose line die is READY, a superframe boundary advances TX_SFC modulo 2^48 and begins frame
0. (2) In ACQUIRE, with no switch announced and the switch condition met, SWITCH_ANNOUNCE announces superframe TX_SFC + 22.003 modulo
2^48. (3) On a READY die a transmitter that sends frames or soundings starts the next one, numbered one higher. (4) An in-band credit tick
gives one byte of credit, up to 2S. (5) A transmitter that sends frames emits a line block: it takes the first 63 client words that wait
(all there are, if fewer), adds 4,096 information bits and counts in 24.061 modulo 2^48. (6) Once the payload bits of the next segment are
there, it is emitted: it is numbered, adds 16,384 coded bits and counts in 24.060 modulo 2^48. -/
def Obligations.TransmitterFramesComplete : Prop :=
  (∀ c s, s.present c = true → s.rd (K.carState c) ≠ carOff → s.dieReady c = true →
    ∃ t, exec (.txSuperframeBoundary c) s = .next t ∧
      t.rd (K.txSfc c) = ((s.rdN (K.txSfc c) + 1) % 2 ^ 48 : Nat) ∧
      (t.car c).tx.frameNo = 0) ∧
  (∀ c s, s.present c = true → s.rd (K.carState c) = carAcquire → (s.car c).tx.switchN = none → s.switchCondition c = true →
    ∃ t, exec (.switchAnnounce c) s = .next t ∧
      (t.car c).tx.switchN = some ((s.rdN (K.txSfc c) + s.rdN (K.switchLead c)) % 2 ^ 48)) ∧
  (∀ c s, s.present c = true → s.dieReady c = true → (s.car c).tx.sending ≠ .nothing →
    ∃ t, exec (.txFrameStart c) s = .next t ∧
      (t.car c).tx.frameNo = (s.car c).tx.frameNo + 1) ∧
  (∀ c s,
    ∃ t, exec (.ibcCreditTick c) s = .next t ∧
      (t.car c).tx.ibcCredit = min ((s.car c).tx.ibcCredit + 1) (2 * s.subs c)) ∧
  (∀ c s, s.present c = true → (s.car c).tx.sending = .frames →
    ∃ t, exec (.lineBlockEmit c) s = .next t ∧
      (t.car c).tx.clientQ = (s.car c).tx.clientQ.drop 63 ∧
      (t.car c).tx.infoLen = (s.car c).tx.infoLen + 4096 ∧
      t.rd (K.txLbCount c) = ((s.rdN (K.txLbCount c) + 1) % 2 ^ 48 : Nat)) ∧
  (∀ c s, s.present c = true → (s.car c).tx.sending = .frames → segPayload (s.rdN (K.fecOh c)) ((s.car c).tx.segNo % segCycle (s.rdN (K.fecOh c))) ≤ (s.car c).tx.infoLen →
    ∃ t, exec (.txSegmentEmit c) s = .next t ∧
      (t.car c).tx.segNo = (s.car c).tx.segNo + 1 ∧
      (t.car c).tx.codedLen = (s.car c).tx.codedLen + 16384 ∧
      t.rd (K.txSegCount c) = ((s.rdN (K.txSegCount c) + 1) % 2 ^ 48 : Nat))

/-- (1) Where the condition of the DARK row holds, the contour is RISING from position 0. (2) A RISING contour whose position reaches 1 is
STEADY with CONTOUR_GAIN 65,535 and position 1. (3) A write of 20.040 is answered OK and read back as 0 or 1; asserting it leaves the
contour DARK. (4) A TXDIS_x_N assertion of 4 ns or more asserts its squelch source and leaves the contour DARK at gain 0. (5) A TXDIS_x_N
assertion under 2 ns changes nothing. (6) A TXDIS_x_N release of 4 ns or more releases its squelch source. (7) A VLINE current above the
limit sets the over-current latch and darkens the contour. (8) An over-current clear is answered OK and releases the latch only where the
current is below the limit. (9) At a block boundary stage 9 is in bypass where its entry is 0 or the throttle level is 2 or more. (10)
While the companion is squelched its contribution is held at zero and 20.054 bit 4 shows it. -/
def Obligations.ContourAndSquelchComplete : Prop :=
  (∀ c s, s.riseCondition c = true →
    ∃ t, exec (.contourRiseStart c) s = .next t ∧
      t.rd (K.contourState c) = 1 ∧
      (t.car c).tx.pos = 0) ∧
  (∀ c s, s.present c = true → s.rd (K.contourState c) = 1 → 1 ≤ (s.car c).tx.pos + 1024 / (exactRate (s.symRate c) * s.rdN (K.contourRise c)) →
    ∃ t, exec (.contourUpdate c) s = .next t ∧
      t.rd (K.contourState c) = 2 ∧
      t.rd (K.contourGain c) = 65535 ∧
      (t.car c).tx.pos = 1) ∧
  (∀ src c v s, s.accepts src (K.squelchSw c) →
    ∃ t, exec (.squelchSwWrite src c v) s = .next t ∧
      t.answered src .ok ∧
      t.rd (K.squelchSw c) = b2i (v ≠ 0) ∧
      (v ≠ 0 → t.rd (K.contourState c) = 0)) ∧
  (∀ c width s, s.present c = true → (40 : Nat) ≤ width →
    ∃ t, exec (.txdisAssert c width) s = .next t ∧
      (t.car c).tx.txdis = true ∧
      t.rd (K.contourState c) = 0 ∧
      t.rd (K.contourGain c) = 0) ∧
  (∀ c width s, width < (20 : Nat) →
    ∃ t, exec (.txdisAssert c width) s = .next t ∧
      t = s) ∧
  (∀ c width s, s.present c = true → (40 : Nat) ≤ width →
    ∃ t, exec (.txdisDeassert c width) s = .next t ∧
      (t.car c).tx.txdis = false) ∧
  (∀ c cur s, s.present c = true → s.rdN (K.ocLimit c.num) < cur → (s.car c).tx.ocLatch = false →
    ∃ t, exec (.ocTrip c cur) s = .next t ∧
      (t.car c).tx.ocLatch = true ∧
      t.rd (K.contourState c) = 0) ∧
  (∀ src c cur s, s.accepts src (K.ocClear c) →
    ∃ t, exec (.ocClear src c cur) s = .next t ∧
      t.answered src .ok ∧
      (t.car c).tx.ocLatch = if cur < s.rdN (K.ocLimit c.num) then false else (s.car c).tx.ocLatch) ∧
  (∀ c s, s.present c = true →
    ∃ t, exec (.nlcBypassChange c) s = .next t ∧
      (t.car c).tx.nlcBypass = (decide (s.rd (K.nlcEnable c) = 0) || decide (2 ≤ s.rd K.throttleLevel))) ∧
  (∀ c s, s.present c = true → s.present c.other = true → s.squelched c.other = true →
    ∃ t, exec (.xpmSquelchRemove c) s = .next t ∧
      (t.car c).tx.xpmZero = true ∧
      bitOf (t.rdN (K.nlcStatus c)) 4 = true)

/-- (1) While 21.00A is 1, a window end gives each position of channel j that was sampled the offset and gain of its sums, and starts its sums
again. (2) While 21.00A is 0, the estimates stay. (3) In AUTO mode a window end gives a polarisation the IQ phase of its sums. (4) Timing
lock is declared in ACQUIRE or SERVICE on a READY die without lock: 21.032 and bit 5 of 21.001 read 1. (5) A loss of timing lock reads 0
in 21.032 and counts. (6) Each SOP update reports every measured rate to 100,000 krad/s, from SETTLE on and for k < S, else 0, and keeps
the peak. (7) When every rate is below 21.054, bit 3 of 21.001 clears. (8) A write of 21.053 is answered OK and clears 21.052. (9) At the
next known symbol, n symbols on, stage 7 takes those n symbols, its position moves by n within the frame, and the known and the received
symbol join the pilots. (10) f_common at its limit for 1 ms in LOCKED, with a hold time set, is the move to HOLD with cause bit 3
recorded. -/
def Obligations.ReceiverFrontEndComplete : Prop :=
  (∀ c j p s, s.present c = true → s.on (K.feIlvEnable c) = true → p < (128 : Nat) → (aget (s.car c).rx.ilvSum (128 * j + p) WinSum.zero).n ≠ 0 →
    ∃ t, exec (.feIlvWindow c j) s = .next t ∧
      aget (t.car c).rx.ilv (128 * j + p) (0, 1) = ilvEstimate ((List.range 128).map (fun q => aget (s.car c).rx.ilvSum (128 * j + q) WinSum.zero)) (aget (s.car c).rx.ilvSum (128 * j + p) WinSum.zero) ∧
      aget (t.car c).rx.ilvSum (128 * j + p) WinSum.zero = WinSum.zero) ∧
  (∀ c j s, s.present c = true → s.on (K.feIlvEnable c) = false →
    ∃ t, exec (.feIlvWindow c j) s = .next t ∧
      (t.car c).rx.ilv = (s.car c).rx.ilv) ∧
  (∀ c y s, s.present c = true → s.rd (K.feIqMode c) = 0 →
    ∃ t, exec (.feIqWindow c y) s = .next t ∧
      t.iqPhase c (b2n y) = iqEstimate (if y then (s.car c).rx.iqSumY else (s.car c).rx.iqSumX)) ∧
  (∀ c s, s.present c = true → s.emitting c = true → s.dieReady c = true → s.rd (K.trLock c) = 0 →
    ∃ t, exec (.rxTimingLock c) s = .next t ∧
      t.rd (K.trLock c) = 1 ∧
      bitOf (t.rdN (K.rxStatus c)) 5 = true) ∧
  (∀ c s, s.present c = true → s.rd (K.trLock c) = 1 →
    ∃ t, exec (.rxTimingUnlock c) s = .next t ∧
      t.rd (K.trLock c) = 0 ∧
      t.rd (K.trUnlockCount c) = (min (s.rdN (K.trUnlockCount c) + 1) max48 : Nat)) ∧
  (∀ c s, s.present c = true →
    ∃ t, exec (.sopRateUpdate c) s = .next t ∧
      (∀ k : Nat, k < 32 → t.rd (K.sopRate c k) = (if phSettle ≤ s.rd (K.acqPhase c) ∧ k < s.subs c then min (s.sopMeasured c k) 100000 else 0 : Nat)) ∧
      t.rd (K.sopRatePeak c) = ((s.sopRates c ((List.range 32).map (s.sopMeasured c))).foldl max (s.rdN (K.sopRatePeak c)) : Nat)) ∧
  (∀ c s, s.present c = true → bitOf (s.rdN (K.rxStatus c)) 3 = true → (List.range 32).all (fun k => s.rd (K.sopRate c k) < s.rd (K.sopAlarmRate c)) = true →
    ∃ t, exec (.rxSopNormal c) s = .next t ∧
      bitOf (t.rdN (K.rxStatus c)) 3 = false) ∧
  (∀ src c s, s.accepts src (K.sopPeakClear c) →
    ∃ t, exec (.sopPeakClear src c) s = .next t ∧
      t.answered src .ok ∧
      t.rd (K.sopRatePeak c) = 0) ∧
  (∀ c k n s, s.present c = true → s.emitting c = true → k < s.subs c → toPilot (s.car c).rx.cma (aget (s.car c).rx.outPos k 0) (aget (s.car c).rx.eqOut k []).length = some n →
    ∃ t, exec (.rxPilotUpdate c k) s = .next t ∧
      aget (t.car c).rx.eqOut k [] = (aget (s.car c).rx.eqOut k []).drop n ∧
      aget (t.car c).rx.outPos k 0 = (aget (s.car c).rx.outPos k 0 + n) % frameSpan (s.car c).rx.cma ∧
      (aget (t.car c).rx.cr k CrState.reset).pilots.head? = some ⟨pilotSymbol (s.car c).rx.cma k ((aget (s.car c).rx.outPos k 0 + n - 1) % frameSpan (s.car c).rx.cma), nth (aget (s.car c).rx.eqOut k []) (n - 1) Pol.zero⟩) ∧
  (∀ c s, s.present c = true → (s.car c).rx.crLimit = true → s.rd (K.acqPhase c) = phLocked → s.rd (K.lolHold c) ≠ 0 →
    ∃ t, exec (.crLimitHoldExpiry c) s = .next t ∧
      t.rd (K.acqPhase c) = phHold ∧
      t.rd (K.lolCause c) = 8)

/-- (1) A block boundary with a waiting reset, and no line written by a core, leaves the taps a centre spike and the reset done. (2) Without a
reset or written line the taps after a block are those of its adaptation, and with 21.042 at 1 they stay. (3) The first block boundary
from LOCKED on ends CMA and sets bit 4 of 21.001. (4) In CMA, after 4 blocks of high correlation, YX and YY become the conjugate
orthogonal of XX and XY, and the event is counted. (5) A write of 21.046 is answered OK and puts the sub-carrier it names, or at 32 each,
on the list for reset. (6) After 8 blocks off centre all paths shift one tap, the input pointer moves half a period, the deskew follows in
whole periods while it stays within 128, and the shift is counted. (7) A shift that would take the deskew past 128 is not made: bit 1 of
21.001 reads 0, and nothing is counted. -/
def Obligations.EqualiserComplete : Prop :=
  (∀ c k s, s.present c = true → s.emitting c = true → k < s.subs c → (s.car c).rx.reinit.contains k = true → (s.car c).rx.coefDue = [] →
    ∃ t, exec (.eqBlockUpdate c k) s = .next t ∧
      t.blob (K.eqTaps c k) = centreSpike ∧
      (t.car c).rx.reinit.contains k = false) ∧
  (∀ c k s, s.present c = true → s.emitting c = true → k < s.subs c → (s.car c).rx.reinit.contains k = false → (s.car c).rx.coefDue = [] →
    ∃ t, exec (.eqBlockUpdate c k) s = .next t ∧
      t.blob (K.eqTaps c k) = (s.eqBlock c k).blob (K.eqTaps c k) ∧
      (s.on (K.eqFreeze c) = true → t.blob (K.eqTaps c k) = s.blob (K.eqTaps c k))) ∧
  (∀ c k s, s.present c = true → s.emitting c = true → k < s.subs c → (s.car c).rx.cma = true → phLocked ≤ s.rd (K.acqPhase c) →
    ∃ t, exec (.eqBlockUpdate c k) s = .next t ∧
      (t.car c).rx.cma = false ∧
      bitOf (t.rdN (K.rxStatus c)) 4 = true) ∧
  (∀ c k s, s.present c = true → (s.car c).rx.cma = true → 4 ≤ aget (s.car c).rx.singRun k 0 →
    ∃ t, exec (.rxEqSingular c k) s = .next t ∧
      t.blob (K.eqTaps c k) = orthogonalTaps (s.blob (K.eqTaps c k)) ∧
      t.rd (K.eqSingularCount c k) = (min (s.rdN (K.eqSingularCount c k) + 1) max48 : Nat)) ∧
  (∀ src c v s, s.accepts src (K.eqReinit c) →
    ∃ t, exec (.eqReinit src c v) s = .next t ∧
      t.answered src .ok ∧
      (∀ k : Nat, k < 32 → (clampKey (K.eqReinit c) v = k ∨ clampKey (K.eqReinit c) v = 32) → (t.car c).rx.reinit.contains k = true)) ∧
  (∀ (c : Carrier) (k : Nat) (dsk : Int) (s : State), s.present c = true → (8 : Nat) ≤ (aget (s.car c).rx.shiftRun k (0, true)).1 → dsk = s.rd (K.scDeskew c k) + (aget (s.car c).rx.inPtr k 0 + (if (aget (s.car c).rx.shiftRun k (0, true)).2 then 1 else -1)) / 2 - aget (s.car c).rx.inPtr k 0 / 2 → (-128 : Int) ≤ dsk → dsk ≤ (128 : Int) →
    ∃ t, exec (.eqTapShift c k) s = .next t ∧
      t.blob (K.eqTaps c k) = shiftTaps (s.blob (K.eqTaps c k)) (aget (s.car c).rx.shiftRun k (0, true)).2 ∧
      (aget (t.car c).rx.inPtr k 0 = aget (s.car c).rx.inPtr k 0 + (if (aget (s.car c).rx.shiftRun k (0, true)).2 then 1 else -1)) ∧
      t.rd (K.scDeskew c k) = dsk ∧
      t.rd (K.eqShiftCount c k) = (min (s.rdN (K.eqShiftCount c k) + 1) max48 : Nat)) ∧
  (∀ c k s, s.present c = true → (8 : Nat) ≤ (aget (s.car c).rx.shiftRun k (0, true)).1 → s.rd (K.scDeskew c k) + (aget (s.car c).rx.inPtr k 0 + (if (aget (s.car c).rx.shiftRun k (0, true)).2 then 1 else -1)) / 2 - aget (s.car c).rx.inPtr k 0 / 2 = 129 ∨ s.rd (K.scDeskew c k) + (aget (s.car c).rx.inPtr k 0 + (if (aget (s.car c).rx.shiftRun k (0, true)).2 then 1 else -1)) / 2 - aget (s.car c).rx.inPtr k 0 / 2 = -129 →
    ∃ t, exec (.eqTapShift c k) s = .next t ∧
      bitOf (t.rdN (K.rxStatus c)) 1 = false ∧
      t.rd (K.eqShiftCount c k) = s.rd (K.eqShiftCount c k))

/-- (1) The generator completes the inactive sheet. (2) In ACQUIRE or SERVICE a fade begins on a ready swap with block 1 of 21.013: 21.015
reads (1 - 1/N) D0 + D1/N, rounding left open, and no swap is pending. (3) Each block before block N advances the fade and 21.015 by one
block; after block N the other sheet is active, no fade runs and 21.015 reads D1. (4) Outside ACQUIRE and SERVICE a running fade ends at
the boundary with the other sheet active. (5) Outside ACQUIRE and SERVICE a ready sheet becomes active at once, with its dispersion in
21.015. (6) Outside OFF a write of 21.01D is answered OK and starts a search over the plan of its entries. (7) A search whose trials are
in ends, and 21.01F takes the lowest trial of greatest metric. (8) In HUNT, with no draft open, the standard firmware opens one for a
result that waits. (9) In HUNT the standard firmware starts the search again when nothing was detected. -/
def Obligations.DispersionComplete : Prop :=
  (∀ c s, s.present c = true → (s.car c).rx.computing = true →
    ∃ t, exec (.cdSheetReady c) s = .next t ∧
      (t.car c).rx.inactive = (⟨(s.car c).rx.inactive.vals, true⟩ : Sheet) ∧
      (t.car c).rx.computing = false) ∧
  (∀ c v s, (s.car c).rx.readySwap = some v → s.present c = true → s.emitting c = true →
    ∃ t, exec (.cdFadeStart c) s = .next t ∧
      (t.car c).rx.fade = some (1, s.rdN (K.cdFadeBlocks c), ((s.car c).rx.sheet (s.car c).rx.active).vals, v) ∧
      (t.car c).rx.pendSwap = none ∧
      t.rd (K.cdApplied c) = openDiv (((s.car c).rx.sheet (s.car c).rx.active).vals.d * (s.rdN (K.cdFadeBlocks c) : Nat) + (v.d - ((s.car c).rx.sheet (s.car c).rx.active).vals.d)) (s.rdN (K.cdFadeBlocks c))) ∧
  (∀ (c : Carrier) (b n : Nat) (v0 v1 : CdVals) (s : State), (s.car c).rx.fade = some (b, n, v0, v1) → s.present c = true → s.emitting c = true →
    ∃ t, exec (.cdFadeBlock c) s = .next t ∧
      (b < n → (t.car c).rx.fade = some (b + 1, n, v0, v1) ∧ t.rd (K.cdApplied c) = openDiv (v0.d * n + (b + 1 : Nat) * (v1.d - v0.d)) n) ∧
      (n ≤ b → (t.car c).rx.fade = none ∧ (t.car c).rx.active = 1 - (s.car c).rx.active ∧ t.rd (K.cdApplied c) = v1.d)) ∧
  (∀ (c : Carrier) (b n : Nat) (v0 v1 : CdVals) (s : State), (s.car c).rx.fade = some (b, n, v0, v1) → s.present c = true → s.emitting c = false →
    ∃ t, exec (.cdFadeCut c) s = .next t ∧
      (t.car c).rx.fade = none ∧
      (t.car c).rx.active = 1 - (s.car c).rx.active ∧
      t.rd (K.cdApplied c) = v1.d) ∧
  (∀ (c : Carrier) (v : CdVals) (s : State), (s.car c).rx.readySwap = some v → s.present c = true → s.emitting c = false →
    ∃ t, exec (.cdSwapNofade c) s = .next t ∧
      (t.car c).rx.active = 1 - (s.car c).rx.active ∧
      t.rd (K.cdApplied c) = v.d) ∧
  (∀ src c s, s.accepts src (K.cdSearchStart c) → s.rd (K.carState c) ≠ carOff →
    ∃ t, exec (.cdSearchStart src c) s = .next t ∧
      t.answered src .ok ∧
      t.rd (K.cdSearchState c) = 1 ∧
      (t.car c).rx.search = some (searchPlan (s.rd (K.cdSearchMin c)) (s.rd (K.cdSearchMax c)) (s.rdN (K.cdSearchStep c)))) ∧
  (∀ (c : Carrier) (lo : Int) (step n : Nat) (s : State), (s.car c).rx.search = some (lo, step, n) → s.cdPolicy c = false →
    ∃ t, exec (.cdSearchDone c) s = .next t ∧
      (t.car c).rx.search = none ∧
      t.rd (K.cdEst c) = lo + (bestTrial (s.searchMetrics c lo step n) 0 (0, 0) * step : Nat)) ∧
  (∀ (c : Carrier) (v : Int) (s : State), (s.car c).rx.cdDue = some v → s.cdHunts c = true → s.ed.draft = none →
    ∃ t, exec (.sfCdDraftRetry c) s = .next t ∧
      (t.car c).rx.cdDue = none ∧
      t.ed.nextId = nextEditionId s.ed.nextId) ∧
  (∀ c s, s.cdHunts c = true →
    ∃ t, exec (.sfCdHuntTimeout c) s = .next t ∧
      t.rd (K.cdSearchState c) = 1 ∧
      (t.car c).rx.search = some (searchPlan (s.rd (K.cdSearchMin c)) (s.rd (K.cdSearchMax c)) (s.rdN (K.cdSearchStep c))))

/-- (1) In HUNT with timing locked, a metric of at least 22.010 within 3.6 GHz is a detection: SETTLE, the coarse frequency taken and frozen,
the metric, at most 1,000, reported and the dark flag clear. (2) In ACQUIRE with timing locked, from SETTLE to LOCKED, a detection off
every predicted start, over 100 MHz from 22.020 and over the capture margin, is a capture: SETTLE in CMA on the new coarse frequency, and
counted. (3) In SETTLE a sounding after the first that passes gives SYNC, its metric the first of the mean. (4) Without an accepted
sounding for 22.013 soundings SETTLE ends in HUNT as a false lock, and is counted. (5) A passing FAW with a failing sounding gives CONFIRM
from SYNC with no passes yet, and in CONFIRM one pass more. (6) After three passes, deskews within 128, CONFIRM gives LOCKED: it is
counted, and 21.038 holds each sub-carrier's deskew. (7) HUNT without a detection sets the dark flag. (8) While dark, samples having
arrived, 22.041 takes each band's mean power, -9,000 for k >= S, and 22.040 that of all bands. -/
def Obligations.AcquisitionComplete : Prop :=
  (∀ c metric coarse s, s.present c = true → s.rd (K.acqPhase c) = phHunt → s.rd (K.trLock c) = 1 → s.rdN (K.detThresh c) ≤ metric → coarse.natAbs ≤ 3600000 →
    ∃ t, exec (.acqDetect c metric coarse) s = .next t ∧
      t.rd (K.acqPhase c) = phSettle ∧
      t.rd (K.coarseFreq c) = coarse ∧
      t.rd (K.detMetric c) = (min metric 1000 : Nat) ∧
      t.rd (K.dark c) = 0 ∧
      (t.car c).rx.frozen = true) ∧
  (∀ c metric coarse s, s.present c = true → s.rd (K.carState c) = carAcquire → phSettle ≤ s.rd (K.acqPhase c) → s.rd (K.acqPhase c) ≤ phLocked → s.rdN (K.detThresh c) ≤ metric → coarse.natAbs ≤ 3600000 → s.rd (K.trLock c) = 1 → 100000 < (coarse - s.rd (K.coarseFreq c)).natAbs → captureQualifies metric (s.rdN (K.detMetric c)) (s.rdN (K.captureMargin c)) = true →
    ∃ t, exec (.acqCapture c metric coarse false) s = .next t ∧
      t.rd (K.acqPhase c) = phSettle ∧
      (t.car c).rx.cma = true ∧
      t.rd (K.coarseFreq c) = coarse ∧
      t.rd (K.captureCount c) = (min (s.rdN (K.captureCount c) + 1) max48 : Nat)) ∧
  (∀ c errs copies metric fs faw s, s.present c = true → s.rd (K.acqPhase c) = phSettle → (s.car c).rx.sinceDet ≠ 0 → testPasses (s.subs c) errs (s.rdN (K.syncErrMax c)) = true →
    ∃ t, exec (.rxSounding c errs copies metric fs faw) s = .next t ∧
      t.rd (K.acqPhase c) = phSync ∧
      (t.car c).rx.metrics = [metric]) ∧
  (∀ c s, s.present c = true → s.rd (K.acqPhase c) = phSettle → s.rdN (K.confirmSoundings c) ≤ (s.car c).rx.sinceDet →
    ∃ t, exec (.settleExpiry c) s = .next t ∧
      t.rd (K.acqPhase c) = phHunt ∧
      t.rd (K.falseLockCount c) = (min (s.rdN (K.falseLockCount c) + 1) max48 : Nat)) ∧
  (∀ c errs snd s, s.present c = true → s.rd (K.acqPhase c) = phSync ∨ s.rd (K.acqPhase c) = phConfirm → testPasses (s.subs c) errs (s.rdN (K.fawErrMax c)) = true → testPasses (s.subs c) snd (s.rdN (K.syncErrMax c)) = false →
    ∃ t, exec (.rxFawTest c errs snd) s = .next t ∧
      t.rd (K.acqPhase c) = phConfirm ∧
      (t.car c).rx.fawPass = if s.rd (K.acqPhase c) = phConfirm then (s.car c).rx.fawPass + 1 else 0) ∧
  (∀ c deskews s, s.present c = true → s.rd (K.acqPhase c) = phConfirm → 3 ≤ (s.car c).rx.fawPass → deskews.all (fun d => -128 ≤ d && d ≤ 128) = true →
    ∃ t, exec (.acqLock c deskews) s = .next t ∧
      t.rd (K.acqPhase c) = phLocked ∧
      t.rd (K.lockCount c) = (min (s.rdN (K.lockCount c) + 1) max48 : Nat) ∧
      (∀ k : Nat, k < min deskews.length (s.subs c) → t.rd (K.scDeskew c k) = nth deskews k 0)) ∧
  (∀ c s, s.present c = true → s.rd (K.acqPhase c) = phHunt → s.on (K.dark c) = false →
    ∃ t, exec (.rxDark c) s = .next t ∧
      t.rd (K.dark c) = 1) ∧
  (∀ c s, s.present c = true → s.on (K.dark c) = true → s.rd (K.carState c) ≠ carOff → s.dieReady c = true → (s.car c).rx.bandN ≠ 0 →
    ∃ t, exec (.noiseFloorUpdate c) s = .next t ∧
      (∀ k : Nat, k < 32 → t.rd (K.noiseFloor c k) = if k < s.subs c then powerFigure (nth (s.car c).rx.bandSum k 0 / (s.car c).rx.bandN) else -9000) ∧
      t.rd (K.rxPower c) = powerFigure ((List.range (s.subs c)).map (fun k => nth (s.car c).rx.bandSum k 0 / (s.car c).rx.bandN)).sum)

/-- (1) In SYNC, 2 x 22.015 failed soundings in a row end in HUNT with cause bit 0 alone recorded, and are counted. (2) In LOCKED with a hold
time set, 22.015 failed frames begin HOLD with cause bit 0 and stop the decoder's acceptance. (3) Three passes in HOLD give LOCKED and are
counted. (4) A hold that runs out ends in HUNT and is counted; in SERVICE the return to soundings is then due. (5) A frame wait that runs
out in SYNC ends in HUNT with cause bit 5, the return to soundings due. (6) At the boundary the carrier due to return is in ACQUIRE, sends
soundings numbered from the next whole one, and uses the fallback set. (7) In OFF, operational and not under test, with REFCLK good and
the PLL idle, a target above 0 is answered OK, stored as 1 or 3, and starts the line PLL. (8) From ACQUIRE or SERVICE a target of 1 is
answered OK and leads to STANDBY, IDLE, with the decoder's acceptance stopped. (9) A dark carrier in STANDBY whose target is OFF, no
edition armed for it, is OFF, its PLL off and nothing sent. -/
def Obligations.LossOfLockComplete : Prop :=
  (∀ c s, s.present c = true → s.rd (K.acqPhase c) = phSync → 2 * s.rdN (K.lofFrames c) ≤ (s.car c).rx.failRun →
    ∃ t, exec (.syncLossCount c) s = .next t ∧
      t.rd (K.acqPhase c) = phHunt ∧
      t.rd (K.lolCause c) = 1 ∧
      t.rd (K.lolCount c) = (min (s.rdN (K.lolCount c) + 1) max48 : Nat)) ∧
  (∀ c s, s.present c = true → s.rd (K.acqPhase c) = phLocked → s.rdN (K.lofFrames c) ≤ (s.car c).rx.fawFail → s.rd (K.lolHold c) ≠ 0 →
    ∃ t, exec (.lofCountExpiry c) s = .next t ∧
      t.rd (K.acqPhase c) = phHold ∧
      t.rd (K.lolCause c) = 1 ∧
      (t.car c).fec.accepting = false) ∧
  (∀ c s, s.present c = true → s.rd (K.acqPhase c) = phHold → 3 ≤ (s.car c).rx.fawPass →
    ∃ t, exec (.acqHoldRecover c) s = .next t ∧
      t.rd (K.acqPhase c) = phLocked ∧
      t.rd (K.holdRecoverCount c) = (min (s.rdN (K.holdRecoverCount c) + 1) max48 : Nat)) ∧
  (∀ c s, s.present c = true → s.rd (K.acqPhase c) = phHold →
    ∃ t, exec (.holdTimeout c) s = .next t ∧
      t.rd (K.acqPhase c) = phHunt ∧
      t.rd (K.lolCount c) = (min (s.rdN (K.lolCount c) + 1) max48 : Nat) ∧
      (s.rd (K.carState c) = carService → (t.car c).tx.returnPending = true)) ∧
  (∀ c s, s.present c = true → s.rd (K.acqPhase c) = phSync → s.rd (K.carState c) = carService → (s.car c).rx.frameWait = true →
    ∃ t, exec (.frameWaitTimeout c) s = .next t ∧
      t.rd (K.acqPhase c) = phHunt ∧
      t.rd (K.lolCause c) = 32 ∧
      (t.car c).tx.returnPending = true) ∧
  (∀ c s, s.present c = true → s.rd (K.carState c) = carService → (s.car c).tx.returnPending = true →
    ∃ t, exec (.serviceToAcquire c) s = .next t ∧
      t.rd (K.carState c) = carAcquire ∧
      (t.car c).tx.sending = Sending.soundings ∧
      (t.car c).tx.frameNo = s.nextSounding c ∧
      (t.car c).tx.cur = s.fallbackSet c) ∧
  (∀ src c v s, s.accepts src (K.carTarget c) → s.operational = true → s.underTest (5 + c.num) 0 = false → s.rd (K.carState c) = carOff → s.rd (K.pllState c.num) = 0 → (s.die c).waitRef = false → (s.die c).stopped = false → s.rd K.refclkStatus = 0 → 0 < v →
    ∃ t, exec (.carTargetWrite src c v) s = .next t ∧
      t.answered src .ok ∧
      (t.rd (K.carTarget c) = (if v ≤ 2 then 1 else 3)) ∧
      t.rd (K.pllState c.num) = 1) ∧
  (∀ src c s, s.accepts src (K.carTarget c) → s.operational = true → s.underTest (5 + c.num) 0 = false → s.emitting c = true →
    ∃ t, exec (.carTargetWrite src c 1) s = .next t ∧
      t.answered src .ok ∧
      t.rd (K.carState c) = carStandby ∧
      t.rd (K.acqPhase c) = phIdle ∧
      (t.car c).fec.accepting = false) ∧
  (∀ c s, s.present c = true → s.rd (K.carState c) = carStandby → s.rd (K.carTarget c) = 0 → s.rd (K.contourState c) = 0 → s.ed.armed.all (fun e => e.mode ≠ 2 + c.num) = true →
    ∃ t, exec (.carrierStopComplete c) s = .next t ∧
      t.rd (K.carState c) = carOff ∧
      t.rd (K.pllState c.num) = 0 ∧
      (t.car c).tx.sending = Sending.nothing)

/-- (1) In CONFIRM, LOCKED or HOLD a frame header with index fi makes the next frame fi + 1 expected; in LOCKED the frame counts in 24.050
modulo 2^48. (2) A receive superframe boundary begins frame 0 without a header or pilot errors; 21.083 takes the error power of each
sub-carrier and polarisation, if pilots were seen; in LOCKED the superframe counts. (3) In SERVICE and LOCKED since the superframe began,
with a good header and a held set, acceptance starts with W + 2 start-up segments, the line block offset of the header, and alignment
SEARCHING in 24.023. (4) Acceptance stops once the carrier is not in SERVICE or not LOCKED: no segment is in flight or in the outer
decoder, and 24.020 reads 0. (5) While accepting, the next 16,384 coded bits become the segment of the next number; 24.020 follows the
slots; below 1,024 slots one more segment is in flight, at 1,024 a forced release is counted. (6) An iteration without competition counts
once in every segment of the window and leaves the others. (7) When the oldest segment may be released it goes to the outer decoder, and a
new window length is taken. -/
def Obligations.HeadersAndSuperframesComplete : Prop :=
  (∀ c fi copies s, s.present c = true → phConfirm ≤ s.rd (K.acqPhase c) →
    ∃ t, exec (.rxFrameHeader c fi copies) s = .next t ∧
      (t.car c).rx.frameNo = fi + 1 ∧
      (s.rd (K.acqPhase c) = phLocked → t.rd (K.rxFrameCount c) = ((s.rdN (K.rxFrameCount c) + 1) % 2 ^ 48 : Nat))) ∧
  (∀ c s, s.present c = true →
    ∃ t, exec (.rxSuperframeBoundary c) s = .next t ∧
      (t.car c).rx.hdrSf = none ∧
      (t.car c).rx.frameNo = 0 ∧
      (t.car c).rx.pilotErr = [] ∧
      ((s.car c).rx.pilotErr ≠ [] → ∀ i : Nat, i < 2 * s.subs c → t.rd (K.noiseVarEst c i) = clampInt (openRat (65536 * pilotSigma (s.car c).rx.pilotErr i)) 0 65535) ∧
      (s.rd (K.acqPhase c) = phLocked → t.rd (K.rxSfCount c) = ((s.rdN (K.rxSfCount c) + 1) % 2 ^ 48 : Nat))) ∧
  (∀ c h s, s.present c = true → s.rd (K.carState c) = carService → s.rd (K.acqPhase c) = phLocked → (s.car c).fec.fromStart = true → (s.car c).fec.accepting = false → (s.car c).rx.unknown = false → (s.car c).rx.hdrSf = some h →
    ∃ t, exec (.fecAcceptStart c) s = .next t ∧
      (t.car c).fec.accepting = true ∧
      (t.car c).fec.startup = s.rdN (K.decWindow c) + 2 ∧
      (t.car c).fec.lbSkip = h.lbPtr ∧
      t.rd (K.decAlign c) = 1) ∧
  (∀ c s, s.present c = true → (s.car c).fec.accepting = true → s.rd (K.carState c) ≠ carService ∨ s.rd (K.acqPhase c) ≠ phLocked →
    ∃ t, exec (.fecAcceptStop c) s = .next t ∧
      (t.car c).fec.accepting = false ∧
      (t.car c).fec.segs = [] ∧
      (t.car c).fec.outer = [] ∧
      t.rd (K.decSlots c) = 0) ∧
  (∀ c s, s.present c = true → (s.car c).fec.accepting = true → (s.car c).fec.skip + 16384 ≤ (s.car c).rx.llrs.length →
    ∃ t, exec (.rxSegmentArrival c) s = .next t ∧
      (t.car c).rx.llrs = (s.car c).rx.llrs.drop ((s.car c).fec.skip + 16384) ∧
      (t.car c).fec.nextNo = (s.car c).fec.nextNo + 1 ∧
      t.rd (K.decSlots c) = ((t.car c).fec.slots : Nat) ∧
      ((s.car c).fec.slots < 1024 → (t.car c).fec.segs.length = (s.car c).fec.segs.length + 1) ∧
      (1024 ≤ (s.car c).fec.slots → t.rd (K.forcedSeg c) = (min (s.rdN (K.forcedSeg c) + 1) max48 : Nat))) ∧
  (∀ c s, s.present c = true → (s.car c).fec.window ≠ [] →
    ∃ t, exec (.decIteration c false) s = .next t ∧
      (t.car c).fec.segs.map Seg.iters = (s.car c).fec.window.map (fun g : Seg => g.iters + 1) ++ ((s.car c).fec.segs.drop (s.car c).fec.window.length).map Seg.iters) ∧
  (∀ c s, s.present c = true → s.mayRelease c = true →
    ∃ t, exec (.decWindowSlide c) s = .next t ∧
      (t.car c).fec.segs = (s.car c).fec.segs.drop 1 ∧
      (t.car c).fec.outer.map OutSeg.seg = (s.car c).fec.outer.map OutSeg.seg ++ (s.car c).fec.segs.take 1 ∧
      (t.car c).fec.wNow = s.rdN (K.decWindow c))

/-- (1) The outer decoder's oldest segment leaves it: its payload joins the queue, a start-up segment ticks off, and another counts in 24.030.
(2) Where the effective cap differs from what 24.010 and the throttle level allow, 24.011 takes the latter. (3) With the offset and 4,096
bits waiting, a line block is cut off; it counts unless start-up bits are in it. (4) At an interval's end the pre-FEC BER of its sums is
reported, its sums of coded bits and uncorrected segments start at 0, and the next has the length of its entry. (5) A write of 24.022 is
answered OK and makes the present number of slots the peak. (6) Running standard firmware, on a carrier LOCKED with no segment corrected,
raises LX_FEC_SUSPECT and does nothing else. -/
def Obligations.DecoderResultsComplete : Prop :=
  (∀ (c : Carrier) (o : OutSeg) (rest : List OutSeg) (s : State), s.present c = true → (s.car c).fec.outer = o :: rest →
    ∃ t, exec (.outerDecodeDone c) s = .next t ∧
      (t.car c).fec.outer = rest ∧
      (t.car c).fec.startup = (s.car c).fec.startup - 1 ∧
      (t.car c).fec.lbQ.length = (s.car c).fec.lbQ.length + 1 ∧
      (t.rd (K.segCount c) = (if 0 < (s.car c).fec.startup then s.rd (K.segCount c) else ((s.rdN (K.segCount c) + 1) % 2 ^ 48 : Nat)))) ∧
  (∀ s, s.capNow ≠ s.rdN K.iterCapEff →
    ∃ t, exec (.rxFecCapChange) s = .next t ∧
      t.rd K.iterCapEff = (s.capNow : Nat)) ∧
  (∀ (c : Carrier) (v0 : Nat) (e0 st0 : Bool) (q : List Chunk) (v : Nat) (errored starting : Bool) (rest : List Chunk) (s : State), s.present c = true → takeBits (s.car c).fec.lbQ (s.car c).fec.lbSkip 0 false false = some (v0, e0, st0, q) → takeBits q 4096 0 false false = some (v, errored, starting, rest) →
    ∃ t, exec (.lineBlockRx c) s = .next t ∧
      (t.car c).fec.lbQ = rest ∧
      (t.car c).fec.lbSkip = 0 ∧
      (t.rd (K.lbCount c) = (if starting then s.rd (K.lbCount c) else ((s.rdN (K.lbCount c) + 1) % 2 ^ 48 : Nat)))) ∧
  (∀ c s, s.present c = true →
    ∃ t, exec (.pmIntervalEnd c) s = .next t ∧
      (t.rd (K.preFecBer c) = clampInt (if (s.car c).fec.ivCoded = 0 then 0 else openDiv ((s.car c).fec.ivCorr * 1000000000 : Nat) (s.car c).fec.ivCoded) 0 500000000) ∧
      (t.car c).fec.ivCoded = 0 ∧
      (t.car c).fec.ivUncorr = 0 ∧
      (t.car c).fec.ivLen = s.rdN (K.pmInterval c)) ∧
  (∀ src c s, s.accepts src (K.decPeakClear c) →
    ∃ t, exec (.decPeakClear src c) s = .next t ∧
      t.answered src .ok ∧
      t.rd (K.decSlotsPeak c) = s.rd (K.decSlots c)) ∧
  (∀ c s, s.present c = true → s.firmware = true → s.rd (K.acqPhase c) = phLocked → (s.car c).fec.anyCorrected = false →
    ∃ t, exec (.lxFecSuspect c) s = .next t ∧
      t = s.raise Ev.lxFecSuspect (K.fecOh c))

/-- (1) A staging that no condition refuses is answered OK; its slot, chosen by 05 R157, is not HELD while the set of 23.050 to 23.052 is
prepared. (2) When a staging is ready its slot is HELD with its tag and set, and 23.05B reads 0. (3) A switch with a target that no
condition refuses is answered OK and is pending for its superframe, its tables not yet computed. (4) A switch with target 0 is answered OK
and leaves none pending. (5) The tables of a pending switch are computed for the set it will make current, and it stays pending. -/
def Obligations.LoadingSetsComplete : Prop :=
  (∀ src c s, s.accepts src (K.stageCommit c) → s.stageRefusal c = 0 →
    ∃ t, exec (.stageCommit src c) s = .next t ∧
      t.answered src .ok ∧
      (t.car c).rx.staging = some (⟨(s.car c).rx.stageSlot (s.stageSet c).tag, s.stageSet c⟩ : Staging) ∧
      ((t.car c).rx.slot ((s.car c).rx.stageSlot (s.stageSet c).tag)).held = false) ∧
  (∀ (c : Carrier) (g : Staging) (s : State), s.present c = true → (s.car c).rx.staging = some g →
    ∃ t, exec (.rxLoadStaged c) s = .next t ∧
      (t.car c).rx.staging = none ∧
      ((t.car c).rx.slot g.slot).held = true ∧
      ((t.car c).rx.slot g.slot).tag = g.set.tag ∧
      ((t.car c).rx.slot g.slot).set = g.set ∧
      t.rd (K.stageResult c) = 0) ∧
  (∀ src c v s, s.accepts src (K.txSwitch c) → (clampKey (K.txSwitch c) v).toNat / 2 ^ 56 ≠ 0 → s.switchRefusal c ((clampKey (K.txSwitch c) v).toNat / 2 ^ 56) ((clampKey (K.txSwitch c) v).toNat % 2 ^ 48) = 0 →
    ∃ t, exec (.txSwitch src c v) s = .next t ∧
      t.answered src .ok ∧
      (t.car c).tx.pend = some (⟨(clampKey (K.txSwitch c) v).toNat / 2 ^ 56, (clampKey (K.txSwitch c) v).toNat % 2 ^ 48, 0⟩ : PendSwitch) ∧
      (t.car c).tx.nextTables = none) ∧
  (∀ src c v s, s.accepts src (K.txSwitch c) → (clampKey (K.txSwitch c) v).toNat / 2 ^ 56 = 0 →
    ∃ t, exec (.txSwitch src c v) s = .next t ∧
      t.answered src .ok ∧
      (t.car c).tx.pend = none) ∧
  (∀ (c : Carrier) (p : PendSwitch) (s : State), s.present c = true → (s.car c).tx.pend = some p →
    ∃ t, exec (.matcherTablesReady c) s = .next t ∧
      (t.car c).tx.nextTables = some (s.pendingSet c p).matchTables ∧
      (t.car c).tx.pend = (s.car c).tx.pend)

/-- (1) STAGE from a far station's carrier, of the length its S gives, with this end's S and fallback CRC, is taken, and 23.050 gets its TAG.
(2) ACK of the exchange in STAGING, by its SEQ, is taken and gives the far slots' tags; but for an early check 02.014 then holds the
carrier's own superframe mode. (3) NACK of the exchange in STAGING is taken and the reason entry gets its two bytes; reason 2 blocks
retries on the present fallback set and S. (4) COMMIT of the exchange in ARMED or COMMITTING is taken and gives the far slots' tags; with
its bit 0, and an exchange in STAGING, IDLE with result 1 follows. (5) CANCEL of the staging last answered is taken, and nothing more is
awaited for it. (6) REPORT of its stated length is taken, and 23.004 gets each figure, limited to -1,000 and 4,000. (7) CAP_LIMIT is
taken, and sets the far end's limit, or lifts it at 0xFFFFFFFF. -/
def Obligations.ExchangeMessagesComplete : Prop :=
  (∀ (c : Carrier) (from_ : Nat) (p : List Byte) (rest : List (List Byte)) (s : State), s.firmware = true → takeLx s.cores.appRx 1 = some (from_, p, rest) → s.receiverOf from_ ((nth p 1 (0 : Byte)).toNat % 2) = some c → (nth p 6 (0 : Byte)).toNat = s.subs c → p.length = 11 + 3 * s.subs c → beNat ((p.drop 7).take 4) = s.fbCrcOf c →
    ∃ t, exec (.lxStageRx) s = .next t ∧
      t.cores.appRx = rest ∧
      t.rd (K.stageTag c) = (lxTag p : Nat)) ∧
  (∀ (from_ : Nat) (p : List Byte) (rest : List (List Byte)) (s : State), s.firmware = true → takeLx s.cores.appRx 2 = some (from_, p, rest) → s.present (carrierOf p) = true → p.length = 11 → s.rd (K.lxState (carrierOf p)) = 1 → lxSeq p = (s.car (carrierOf p)).lx.seq →
    ∃ t, exec (.lxAckRx) s = .next t ∧
      t.cores.appRx = rest ∧
      (t.car (carrierOf p)).lx.farTag0 = beNat ((p.drop 6).take 2) ∧
      (t.car (carrierOf p)).lx.farTag1 = beNat ((p.drop 8).take 2) ∧
      ((s.car (carrierOf p)).lx.run.check = false → t.rd K.armMode = (2 + (carrierOf p).num : Nat))) ∧
  (∀ (from_ : Nat) (p : List Byte) (rest : List (List Byte)) (s : State), s.firmware = true → takeLx s.cores.appRx 3 = some (from_, p, rest) → s.present (carrierOf p) = true → p.length = 8 → s.rd (K.lxState (carrierOf p)) = 1 → lxSeq p = (s.car (carrierOf p)).lx.seq →
    ∃ t, exec (.lxNackRx) s = .next t ∧
      t.cores.appRx = rest ∧
      t.rd (K.lxNackReason (carrierOf p)) = (beNat ((p.drop 6).take 2) : Nat) ∧
      ((nth p 6 (0 : Byte)).toNat = 2 → (t.car (carrierOf p)).lx.blocked = some (s.lxSnapshot (carrierOf p)))) ∧
  (∀ (from_ : Nat) (p : List Byte) (rest : List (List Byte)) (s : State), s.firmware = true → takeLx s.cores.appRx 4 = some (from_, p, rest) → s.present (carrierOf p) = true → p.length = 17 → s.rd (K.lxState (carrierOf p)) = 2 ∨ s.rd (K.lxState (carrierOf p)) = 3 → lxSeq p = (s.car (carrierOf p)).lx.seq →
    ∃ t, exec (.lxCommitRx) s = .next t ∧
      t.cores.appRx = rest ∧
      (t.car (carrierOf p)).lx.farTag0 = beNat ((p.drop 12).take 2) ∧
      (t.car (carrierOf p)).lx.farTag1 = beNat ((p.drop 14).take 2) ∧
      (bitOf (nth p 16 (0 : Byte)).toNat 0 = true → s.staging = true → t.rd (K.lxState (carrierOf p)) = 0 ∧ t.rd (K.lxResult (carrierOf p)) = 1)) ∧
  (∀ (c : Carrier) (from_ : Nat) (p : List Byte) (rest : List (List Byte)) (s : State), s.firmware = true → takeLx s.cores.appRx 5 = some (from_, p, rest) → s.receiverOf from_ ((nth p 1 (0 : Byte)).toNat % 2) = some c → lxSeq p = (s.car c).lx.rxSeq →
    ∃ t, exec (.lxCancelRx) s = .next t ∧
      t.cores.appRx = rest ∧
      (t.car c).lx.rxWait = 0) ∧
  (∀ (from_ : Nat) (p : List Byte) (rest : List (List Byte)) (s : State), s.firmware = true → takeLx s.cores.appRx 6 = some (from_, p, rest) → s.present (carrierOf p) = true → p.length = 7 + 2 * (nth p 6 (0 : Byte)).toNat →
    ∃ t, exec (.lxReportRx) s = .next t ∧
      t.cores.appRx = rest ∧
      (∀ k : Nat, k < min (nth p 6 (0 : Byte)).toNat 32 → t.rd (K.farSnr (carrierOf p) k) = clampInt (toSigned 16 (beNat ((p.drop (7 + 2 * k)).take 2))) (-1000) 4000)) ∧
  (∀ (from_ : Nat) (p : List Byte) (rest : List (List Byte)) (s : State), s.firmware = true → takeLx s.cores.appRx 7 = some (from_, p, rest) → s.present (carrierOf p) = true → p.length = 10 →
    ∃ t, exec (.capLimitRx) s = .next t ∧
      t.cores.appRx = rest ∧
      (t.car (carrierOf p)).lx.capLimit = if beNat ((p.drop 6).take 4) = 4294967295 then none else some (beNat ((p.drop 6).take 4)))

/-- (1) A missing ACK in STAGING gives result 3, or 4 where a further request that waits fails validation at once. (2) A missing COMMIT gives
result 5, or 4 where a further request that waits fails validation at once. (3) Not in HOLD, after a failed exchange and unless blocked on
what has not changed, the retry lifts the block and asks at the present datum. (4) Each period 23.065 gets the margin of the current set,
limited to -1,000 and 1,000. (5) 23.066 in MANUAL with an exchange in ARMED or COMMITTING is answered OK, and the requested set, under the
limit in force, is held. (6) 23.066 in MANUAL with the exchange IDLE is answered OK, and the requested set, under the limit in force, is
the one asked for at the present datum. (7) A request that waits, not in HOLD and with no exchange in STAGING, opens the draft once it is
free, with the next edition ID. -/
def Obligations.ExchangeTimersComplete : Prop :=
  (∀ c s, s.present c = true → s.firmware = true → s.rd (K.lxState c) = 1 →
    ∃ t, exec (.lxAckTimeout c) s = .next t ∧
      t.rd (K.lxResult c) = 3 ∨ ((s.car c).lx.held.isSome = true ∨ (s.car c).lx.waiting = true) ∧ t.rd (K.lxResult c) = 4) ∧
  (∀ c s, s.present c = true → s.firmware = true → s.rd (K.lxState c) = 3 →
    ∃ t, exec (.lxCommitTimeout c) s = .next t ∧
      t.rd (K.lxResult c) = 5 ∨ ((s.car c).lx.held.isSome = true ∨ (s.car c).lx.waiting = true) ∧ t.rd (K.lxResult c) = 4) ∧
  (∀ c s, s.present c = true → s.firmware = true → s.rd (K.lxState c) = 0 → 2 ≤ s.rd (K.lxResult c) → s.rd (K.lxResult c) ≤ 6 → s.rd (K.lpMode c) ≠ 2 → (s.car c).lx.blocked ≠ some (s.lxSnapshot c) →
    ∃ t, exec (.lxRetryTimer c) s = .next t ∧
      (t.car c).lx.blocked = none ∧
      (t.car c).lx.askedAt = s.datum) ∧
  (∀ c s, s.present c = true → s.firmware = true →
    ∃ t, exec (.lpPeriodTick c) s = .next t ∧
      t.rd (K.lpMargin c) = clampInt (s.marginNow c) (-1000) 1000) ∧
  (∀ src c s, s.accepts src (K.lxStart c) → s.firmware = true → s.rd (K.lpMode c) = 1 → s.rd (K.lxState c) = 2 ∨ s.rd (K.lxState c) = 3 →
    ∃ t, exec (.lxStart src c) s = .next t ∧
      t.answered src .ok ∧
      (t.car c).lx.held.map LxReq.recs = some (s.underLimit c ((List.range 32).map (fun k => (s.rdN (K.reqLoading c k), s.rdN (K.reqGrid c k)))))) ∧
  (∀ src c s, s.accepts src (K.lxStart c) → s.firmware = true → s.rd (K.lpMode c) = 1 → s.rd (K.lxState c) = 0 → (s.car c).lx.held = none →
    ∃ t, exec (.lxStart src c) s = .next t ∧
      t.answered src .ok ∧
      (t.car c).lx.run.recs = s.underLimit c ((List.range 32).map (fun k => (s.rdN (K.reqLoading c k), s.rdN (K.reqGrid c k)))) ∧
      (t.car c).lx.askedAt = s.datum) ∧
  (∀ c s, s.present c = true → s.firmware = true → (s.car c).lx.waiting = true → s.rd (K.lxState c) = 0 → s.rd (K.lpMode c) ≠ 2 → s.staging = false → s.ed.draft = none →
    ∃ t, exec (.lxDraftRetry c) s = .next t ∧
      t.ed.nextId = nextEditionId s.ed.nextId)

/-- (1) With no draft open, 02.010 is answered OK and opens one of the next ID for its source, and the ID after it is next. (2) An ED write by
the draft's owner, below 8,192 elements or to one it holds, is answered OK, makes the draft not validated, and the element holds the
value, clamped if a number. (3) 02.011 by the owner or a plotter core is answered OK, closes the draft and puts it in the history as
discarded. (4) An open draft expires: it is closed and in the history as expired. (5) 02.012 by the owner, with no rule broken over all
armed editions and the draft, is answered OK and validates the draft. (6) 02.013 by the owner of a validated draft that breaks no rule is
answered OK, closes the draft and puts its edition in its place among the armed. (7) 02.026 by its source or a plotter core is answered
OK, takes the edition from the armed and puts it in the history as disarmed. (8) The first edition due leaves the armed and is the last in
the history; if it breaks no rule, the entries of the last applied edition show its ID and the datum. -/
def Obligations.EditionsComplete : Prop :=
  (∀ src s, s.accepts src K.draftOpen → s.ed.draft = none →
    ∃ t, exec (.draftOpen src) s = .next t ∧
      t.answered src .ok ∧
      t.ed.draft = some ⟨s.ed.nextId, src, false, []⟩ ∧
      t.ed.nextId = nextEditionId s.ed.nextId) ∧
  (∀ (src : Nat) (k : Key) (v : Val) (d : Draft) (s : State), s.accepts src k → (rowOf (canonKey k)).any (fun r => r.access = .ed) = true → s.ed.draft = some d → d.owner = src → hasElem d.elems (canonKey k) = true ∨ d.elems.length < 8192 →
    ∃ t, exec (.draftWrite src k v) s = .next t ∧
      t.answered src .ok ∧
      t.ed.draft.map (fun d => (d.validated, kfind d.elems (canonKey k))) = some (false, some (match v with
      | .num n => .num (clampKey (canonKey k) n)
      | .blob b => .blob b))) ∧
  (∀ (src : Nat) (d : Draft) (s : State), s.accepts src K.draftDiscard → s.ed.draft = some d → d.owner = src ∨ isPlotter src = true →
    ∃ t, exec (.draftDiscard src) s = .next t ∧
      t.answered src .ok ∧
      t.ed.draft = none ∧
      t.ed.hist.head? = some ⟨d.id, d.owner, 4, 0, s.datum, 0xFF, d.elems.length, 0, 0⟩) ∧
  (∀ (d : Draft) (s : State), s.ed.draft = some d →
    ∃ t, exec (.edDraftExpired) s = .next t ∧
      t.ed.draft = none ∧
      t.ed.hist.head? = some ⟨d.id, d.owner, 5, 0, s.datum, 0xFF, d.elems.length, 0, 0⟩) ∧
  (∀ (src : Nat) (d : Draft) (s : State), s.accepts src K.draftValidate → s.ed.draft = some d → d.owner = src → (((s.accepted src).projected (fun _ => true)).putElems d.elems).editionRules d.elems = [] →
    ∃ t, exec (.draftValidate src) s = .next t ∧
      t.answered src .ok ∧
      t.ed.draft = some { d with validated := true }) ∧
  (∀ (src : Nat) (d : Draft) (s : State), s.accepts src K.draftArm → s.ed.draft = some d → d.owner = src → d.validated = true → (s.accepted src).armingFaults ((s.accepted src).asEdition d 0) = [] →
    ∃ t, exec (.draftArm src) s = .next t ∧
      t.answered src .ok ∧
      t.ed.draft = none ∧
      t.ed.armed = (s.accepted src).insertArmed ((s.accepted src).asEdition d 0) s.ed.armed) ∧
  (∀ (src : Nat) (id : Int) (e : Edition) (s : State), s.accepts src K.disarm → s.ed.armed.find? (fun e => e.id = (clampKey K.disarm id).toNat) = some e → e.src = src ∨ isPlotter src = true →
    ∃ t, exec (.disarm src id) s = .next t ∧
      t.answered src .ok ∧
      t.ed.armed = s.ed.armed.filter (fun x => x.seq ≠ e.seq) ∧
      t.ed.hist.head? = some ⟨e.id, e.src, 3, 0, s.datum, e.mode, e.elems.length, e.instant, 0⟩) ∧
  (∀ (e : Edition) (s : State), s.ed.armed.find? s.editionDue = some e →
    ∃ t, exec (.editionApply) s = .next t ∧
      t.ed.armed = s.ed.armed.filter (fun x => x.seq ≠ e.seq) ∧
      t.ed.hist.head?.map HistRec.id = some e.id ∧
      ((({ s with ed := { s.ed with armed := s.ed.armed.filter (fun x => x.seq ≠ e.seq) } } : State).putElems e.elems).editionRules e.elems = [] →
      t.rd K.lastAppliedId = (e.id : Nat) ∧ t.rd K.lastAppliedTime = (s.datum : Nat)))

/-- (1) 50.051 is answered OK and broadcasts GROUP_ARM with the group as stored and the instant of 50.050. (2) 50.054 is answered OK and
broadcasts GROUP_DISARM with the group as stored. (3) GROUP_ARM in the datum's form for the group of a validated draft is taken and acts
as the group's arming (State.groupArm). (4) GROUP_DISARM is taken and leaves no armed edition of its group, the group 0 apart. (5)
GROUP_RESULT is taken, and its sender's entry of results gets its two bytes. -/
def Obligations.GroupArmingComplete : Prop :=
  (∀ src v s, s.accepts src K.groupArmSend →
    ∃ t, exec (.groupArmSend src v) s = .next t ∧
      t = (({ (s.accepted src) with tv := { (s.accepted src).tv with groupOut := (clampKey K.groupArmSend v).toNat } } : State).originate 6 true 1 0 0 (beBytes 2 (clampKey K.groupArmSend v).toNat ++ [1, 0] ++ beBytes 8 (s.rdN K.groupArmTime))).ack src .ok) ∧
  (∀ src v s, s.accepts src K.groupDisarmSend →
    ∃ t, exec (.groupDisarmSend src v) s = .next t ∧
      t = ((s.accepted src).groupDisarm (clampKey K.groupDisarmSend v).toNat).ack src .ok) ∧
  (∀ (x : TvIn) (s' : State) (d : Draft) (s : State), s.takeIn 6 = some (x, s') → s.ed.draft = some d → d.validated = true → beNat (x.frame.payload.take 2) ≠ 0 → s.rdN K.draftGroup = beNat (x.frame.payload.take 2) → (nth x.frame.payload 2 (0 : Byte)).toNat = 1 →
    ∃ t, exec (.groupArmRx) s = .next t ∧
      t = s'.groupArm d x.frame.src (beNat (x.frame.payload.take 2)) (beNat ((x.frame.payload.drop 4).take 8))) ∧
  (∀ (x : TvIn) (s' : State) (s : State), s.takeIn 7 = some (x, s') →
    ∃ t, exec (.groupDisarmRx) s = .next t ∧
      t.tv.inbox = s'.tv.inbox ∧
      (∀ e ∈ t.ed.armed, e.group = beNat (x.frame.payload.take 2) → e.group = 0)) ∧
  (∀ (x : TvIn) (s' : State) (s : State), s.takeIn 8 = some (x, s') →
    ∃ t, exec (.groupResultRx) s = .next t ∧
      t.rd (K.groupResult x.frame.src) = (beNat ((x.frame.payload.drop 2).take 2) : Nat) ∧
      t.tv.inbox = s'.tv.inbox)

/-- (1) Where REFCLK is not yet ABSENT, the edge timeout makes it so; leaving OK is counted. (2) A deviation above 20,000 ppm makes REFCLK
OUT_OF_RANGE where it is not; leaving OK is counted. (3) Where REFCLK is not OK, 1 ms of it makes it OK. (4) With REFCLK OK a PLL in
HOLDOVER returns to READY. (5) A line PLL that bands goes to LOCKING with the band, at most 63, and the tuning word, at most 65,535,
found. (6) A LOCKING line PLL goes to calibration, or to READY for a relock. (7) With no edition armed for the carrier's superframe,
calibration ends READY and in rotation if no tile has FAILED; if one has, the PLL is off and stopped and the carrier OFF. (8) On a READY
die the tuning word, at most 65,535, is renewed unless in HOLDOVER, and with its entry on the compensation follows the mean of the good
sensors, if any. (9) 40.007 in STANDBY is answered OK: the PLL bands again, or with REFCLK not OK waits off, and the sample rate is that
of the symbol rate. (10) A READY line PLL's unlock reads UNLOCKED, is counted, leaves the contour DARK and makes the next lock a relock.
(11) Every ms the trims of the channels move toward their entries by at most 0.01 dB. -/
def Obligations.ClockingComplete : Prop :=
  (∀ s, s.rd K.refclkStatus ≠ 1 →
    ∃ t, exec (.refclkEdgeTimeout) s = .next t ∧
      t.rd K.refclkStatus = 1 ∧
      (s.rd K.refclkStatus = 0 → t.rd K.refclkLossCount = (min (s.rdN K.refclkLossCount + 1) max48 : Nat))) ∧
  (∀ ppm s, 20000 < ppm.natAbs → s.rd K.refclkStatus ≠ 2 →
    ∃ t, exec (.refclkWindow ppm) s = .next t ∧
      t.rd K.refclkStatus = 2 ∧
      (s.rd K.refclkStatus = 0 → t.rd K.refclkLossCount = (min (s.rdN K.refclkLossCount + 1) max48 : Nat))) ∧
  (∀ s, s.rd K.refclkStatus ≠ 0 →
    ∃ t, exec (.refclkOkTimer) s = .next t ∧
      t.rd K.refclkStatus = 0) ∧
  (∀ p s, p < 5 → s.rd (K.pllState p) = 5 → s.rd K.refclkStatus = 0 →
    ∃ t, exec (.pllHoldoverReturn p) s = .next t ∧
      t.rd (K.pllState p) = 4) ∧
  (∀ c band tune s, s.present c = true → s.rd (K.pllState c.num) = 1 →
    ∃ t, exec (.lockSeqStep c band tune) s = .next t ∧
      t.rd (K.pllState c.num) = 2 ∧
      t.rd (K.vcoBand c.num) = (min band 63 : Nat) ∧
      t.rd (K.vcoTune c.num) = (min tune 65535 : Nat)) ∧
  (∀ c band tune s, s.present c = true → s.rd (K.pllState c.num) = 2 →
    ∃ t, exec (.lockSeqStep c band tune) s = .next t ∧
      t.rd (K.pllState c.num) = (if (s.die c).relock then 4 else 3)) ∧
  (∀ c fails vals s, s.present c = true → s.rd (K.pllState c.num) = 3 → s.ed.armed.all (fun e => e.mode ≠ 2 + c.num) = true →
    ∃ t, exec (.foregroundCalDone c fails vals) s = .next t ∧
      ((List.range 16).all (fun i => t.rd (K.tileState (16 * c.num + i)) ≠ 2) = true → t.rd (K.pllState c.num) = 4 ∧ (t.die c).visiting = true) ∧
      ((List.range 16).all (fun i => t.rd (K.tileState (16 * c.num + i)) ≠ 2) = false → t.rd (K.pllState c.num) = 0 ∧ (t.die c).stopped = true ∧ t.rd (K.carState c) = carOff)) ∧
  (∀ c tune s, s.present c = true → s.dieReady c = true →
    ∃ t, exec (.vcoTcUpdate c tune) s = .next t ∧
      (s.rd (K.pllState c.num) = 4 → t.rd (K.vcoTune c.num) = (min tune 65535 : Nat)) ∧
      (s.on (K.vcoTcEnable c.num) = true → ∀ m ∈ s.dieMean c, (t.die c).vcoTemp = m)) ∧
  (∀ src c s, s.accepts src (K.reband c.num) → s.present c = true → s.rd (K.carState c) = carStandby →
    ∃ t, exec (.reband src c) s = .next t ∧
      t.answered src .ok ∧
      (t.rd (K.pllState c.num) = (if s.rd K.refclkStatus = 0 then 1 else 0)) ∧
      t.rd (K.txSampleRate c) = (sampleRate (s.symRate c) : Nat)) ∧
  (∀ c s, s.present c = true → s.rd (K.pllState c.num) = 4 →
    ∃ t, exec (.linePllUnlock c) s = .next t ∧
      t.rd (K.pllState c.num) = 6 ∧
      t.rd (K.pllUnlockCount c.num) = (min (s.rdN (K.pllUnlockCount c.num) + 1) max48 : Nat) ∧
      t.rd (K.contourState c) = 0 ∧
      (t.die c).relock = true) ∧
  (∀ c s, s.present c = true →
    ∃ t, exec (.refTcUpdate c) s = .next t ∧
      (t.die c).adcTrim = (List.range 4).map (fun j => slewTrim (nth (s.die c).adcTrim j 0) (s.rd (K.adcFsTrim (4 * c.num + j)))) ∧
      (t.die c).dacTrim = (List.range 4).map (fun j => slewTrim (nth (s.die c).dacTrim j 0) (s.rd (K.dacSwingTrim (4 * c.num + j)))))

/-- (1) On a READY die of a carrier not OFF a spare visit begins. (2) A visit's end goes on to the next tile, modulo 16, and after tile 15
counts a pass; a failed self-test in a NORMAL tile makes it SPARE_FAILED. (3) On a READY die of a carrier not OFF a tested spare takes the
next active place of its tile, and what it replaced is the spare. (4) A block over the die-to-die link counts, and counts as a CRC error
of its direction if it fails. (5) A block toward the core die that meets no overflow joins the elastic buffer, behind what is left after
the fabric's reading. (6) A block toward the line die while squelched leaves the DAC's output mid-code. (7) Samples that went out as
mid-code for want of data are counted. (8) Each second the degradation sums of both directions start again. -/
def Obligations.LineConvertersComplete : Prop :=
  (∀ c s, s.present c = true → s.dieReady c = true → s.rd (K.carState c) ≠ carOff →
    ∃ t, exec (.spareVisitStart c) s = .next t ∧
      (t.die c).visiting = true) ∧
  (∀ c pass vals s, s.present c = true → (s.die c).visiting = true →
    ∃ t, exec (.spareVisitEnd c pass vals) s = .next t ∧
      t.rd (K.calTile c.num) = ((s.rdN (K.calTile c.num) + 1) % 16 : Nat) ∧
      (s.rdN (K.calTile c.num) = 15 → t.rd (K.calPassCount c.num) = (min (s.rdN (K.calPassCount c.num) + 1) max48 : Nat)) ∧
      (s.rd (K.tileState (16 * c.num + s.rdN (K.calTile c.num))) = 0 → pass = false → t.rd (K.tileState (16 * c.num + s.rdN (K.calTile c.num))) = 1)) ∧
  (∀ c n s, s.present c = true → s.dieReady c = true → s.rd (K.carState c) ≠ carOff → n < 16 → n < (s.die c).tiles.length → (nth (s.die c).tiles n Tile.reset).tested = true →
    ∃ t, exec (.spareSwap c n) s = .next t ∧
      nth (t.die c).tiles n Tile.reset = ⟨(nth (s.die c).tiles n Tile.reset).active.set (nth (s.die c).tiles n Tile.reset).nextSlot (s.rdN (K.tileSpare (16 * c.num + n))), ((nth (s.die c).tiles n Tile.reset).nextSlot + 1) % 32, false⟩ ∧
      t.rd (K.tileSpare (16 * c.num + n)) = (nth (nth (s.die c).tiles n Tile.reset).active (nth (s.die c).tiles n Tile.reset).nextSlot 0 : Nat)) ∧
  (∀ c rx j ok codes taken s, s.present c = true → s.dieReady c = true → j < 4 →
    ∃ t, exec (.d2dBlockRx c rx j ok codes taken) s = .next t ∧
      t.rd (K.d2dBlocks c.num) = ((s.rdN (K.d2dBlocks c.num) + 1) % 2 ^ 48 : Nat) ∧
      (rx = true → ok = false → t.rd (K.d2dRxCrcErr c.num) = (min (s.rdN (K.d2dRxCrcErr c.num) + 1) max48 : Nat)) ∧
      (rx = false → ok = false → t.rd (K.d2dTxCrcErr c.num) = (min (s.rdN (K.d2dTxCrcErr c.num) + 1) max48 : Nat))) ∧
  (∀ (c : Carrier) (j : Nat) (ok : Bool) (codes : List Nat) (taken : Nat) (buf : List Nat) (s : State), s.present c = true → s.dieReady c = true → j < 4 → j < (s.die c).adcBuf.length → buf = (if nth (s.die c).adcOn j false then (nth (s.die c).adcBuf j []).drop taken else nth (s.die c).adcBuf j []) → adcOverflow (nth (s.die c).adcDrop j false) buf.length = false →
    ∃ t, exec (.d2dBlockRx c true j ok codes taken) s = .next t ∧
      nth (t.die c).adcBuf j [] = buf ++ (codes.take 512).map (· % 256)) ∧
  (∀ (c : Carrier) (j : Nat) (ok : Bool) (codes : List Nat) (taken : Nat) (s : State), s.present c = true → s.dieReady c = true → j < 4 → j < (s.die c).dacOut.length → s.squelched c = true →
    ∃ t, exec (.d2dBlockRx c false j ok codes taken) s = .next t ∧
      nth (t.die c).dacOut j [] = List.replicate taken 128) ∧
  (∀ c j s, s.present c = true → j < 4 → nth (s.die c).dacShort j 0 ≠ 0 →
    ∃ t, exec (.lineDacSlip c j) s = .next t ∧
      t.rd (K.dacSlipSamples (4 * c.num + j)) = (min (s.rdN (K.dacSlipSamples (4 * c.num + j)) + nth (s.die c).dacShort j 0) max48 : Nat)) ∧
  (∀ c s, s.present c = true →
    ∃ t, exec (.d2dDegradeCheck c) s = .next t ∧
      (t.die c).rxBlocks = 0 ∧
      (t.die c).rxBad = 0 ∧
      (t.die c).txBlocks = 0 ∧
      (t.die c).txBad = 0)

/-- (1) A write of 10.000, OPERATIONAL and not under test, is answered OK: 0 leaves the lane DISABLED, another value takes a DISABLED lane to
TEST, training or data by its entries. (2) A detected signal shows in its entry and takes WAIT_SIGNAL to FRAME_HUNT. (3) The third good
training frame in FRAME_HUNT leads to TRAINING with the requests at their start. (4) A measured step stores the figure of merit, at most
40.00 dB. (5) Once the frame with COUNT 0 has gone, COUNTDOWN ends TRAINED, with its time in us. (6) A training lane's timer ends it
TRAINED_PRESET and is counted. (7) Loss of signal clears signal and alignment, and takes FRAME_HUNT to WAIT_PARTNER back to WAIT_SIGNAL.
(8) 10.016 in a data state is answered OK and starts the lane by its entries. (9) A loopback other than 0 on a lane not DISABLED is
answered OK, stored as clamped, and leads to TEST. (10) A pattern other than 0 on a lane not DISABLED is answered OK, stored as clamped,
and leads to TEST. (11) An injection command is answered OK and adds as many errors, as clamped, behind those that wait. (12) The standard
firmware, its period set, starts a TRAINED_PRESET lane that is not aligned by its entries. (13) The checker counts two bits a symbol and
its bit errors while locked, and locks at the 64th clean symbol. -/
def Obligations.HostLanesComplete : Prop :=
  (∀ src n v s, s.accepts src (K.laneEnable n) → s.operational = true → s.underTest 3 n = false →
    ∃ t, exec (.laneEnableWrite src n v) s = .next t ∧
      t.answered src .ok ∧
      (v = 0 → t.rd (K.laneState n) = 0) ∧
      (v ≠ 0 → s.rd (K.laneState n) = 0 → t.rd (K.laneState n) = if s.rd (K.loopback n) ≠ 0 ∨ s.rd (K.prbsGen n) ≠ 0 then 9 else if s.on (K.trainEnable n) then 1 else 8)) ∧
  (∀ n s, n < 8 →
    ∃ t, exec (.laneSignalDetect n) s = .next t ∧
      t.rd (K.rxSignal n) = 1 ∧
      (s.rd (K.laneState n) = 1 → t.rd (K.laneState n) = 2)) ∧
  (∀ (n : Nat) (lv : List Int) (ctl : Nat) (s : State), n < 8 → n < s.host.lanes.length → s.rd (K.laneState n) = 2 → trainCtl (s.polar n 1 lv) = some ctl → bitsOf ctl 15 0 = crc16Bits ((bitList 48 ctl).take 32) → 2 ≤ (s.lane n).good →
    ∃ t, exec (.hostTrainFrameRx n lv) s = .next t ∧
      t.rd (K.laneState n) = 3 ∧
      (t.lane n).rq = Requester.start (s.rdN (K.trainStartPreset n))) ∧
  (∀ n fom s, n < 8 → s.rd (K.laneState n) = 3 → (s.lane n).rq.step = 3 →
    ∃ t, exec (.trainStepMeasure n fom) s = .next t ∧
      t.rd (K.laneFom n) = (min fom 4000 : Nat)) ∧
  (∀ n s, n < 8 → s.rd (K.laneState n) = 5 → (s.lane n).count = 0 →
    ∃ t, exec (.trainCountdownDone n) s = .next t ∧
      t.rd (K.laneState n) = 6 ∧
      t.rd (K.trainTime n) = (min ((s.datum - (s.lane n).timer) / 1000) 500000 : Nat)) ∧
  (∀ n s, n < 8 → s.training n = true →
    ∃ t, exec (.hostTrainTimeout n) s = .next t ∧
      t.rd (K.laneState n) = 7 ∧
      t.rd (K.trainTimeoutCount n) = (min (s.rdN (K.trainTimeoutCount n) + 1) max48 : Nat)) ∧
  (∀ n s, n < 8 →
    ∃ t, exec (.hostLos n) s = .next t ∧
      t.rd (K.rxSignal n) = 0 ∧
      t.rd (K.pcsAligned n) = 0 ∧
      (2 ≤ s.rd (K.laneState n) → s.rd (K.laneState n) ≤ 4 → t.rd (K.laneState n) = 1)) ∧
  (∀ src n s, s.accepts src (K.retrain n) → 6 ≤ s.rd (K.laneState n) → s.rd (K.laneState n) ≤ 8 →
    ∃ t, exec (.retrain src n) s = .next t ∧
      t.answered src .ok ∧
      (t.rd (K.laneState n) = if s.rd (K.loopback n) ≠ 0 ∨ s.rd (K.prbsGen n) ≠ 0 then 9 else if s.on (K.trainEnable n) then 1 else 8)) ∧
  (∀ src n v s, s.accepts src (K.loopback n) → s.rd (K.laneState n) ≠ 0 → clampKey (K.loopback n) v ≠ 0 →
    ∃ t, exec (.loopbackWrite src n v) s = .next t ∧
      t.answered src .ok ∧
      t.rd (K.loopback n) = clampKey (K.loopback n) v ∧
      t.rd (K.laneState n) = 9) ∧
  (∀ src n v s, s.accepts src (K.prbsGen n) → s.rd (K.laneState n) ≠ 0 → clampKey (K.prbsGen n) v ≠ 0 →
    ∃ t, exec (.prbsGenWrite src n v) s = .next t ∧
      t.answered src .ok ∧
      t.rd (K.prbsGen n) = clampKey (K.prbsGen n) v ∧
      t.rd (K.laneState n) = 9) ∧
  (∀ src n v s, s.accepts src (K.prbsInject n) → n < s.host.lanes.length →
    ∃ t, exec (.prbsInject src n v) s = .next t ∧
      t.answered src .ok ∧
      (t.lane n).injectAt.length = (s.lane n).injectAt.length + (clampKey (K.prbsInject n) v).toNat ∧
      (t.lane n).injectAt.take (s.lane n).injectAt.length = (s.lane n).injectAt) ∧
  (∀ n s, n < 8 → s.firmware = true → s.rd K.trainRetry ≠ 0 → s.rd (K.laneState n) = 7 → s.on (K.pcsAligned n) = false →
    ∃ t, exec (.sfLaneRetry n) s = .next t ∧
      t.rd (K.laneState n) = if s.rd (K.loopback n) ≠ 0 ∨ s.rd (K.prbsGen n) ≠ 0 then 9 else if s.on (K.trainEnable n) then 1 else 8) ∧
  (∀ n e s, n < 8 → n < s.host.lanes.length → s.rd (K.prbsChk n) ≠ 0 →
    ∃ t, exec (.prbsLock n [e]) s = .next t ∧
      (s.on (K.prbsLock n) = true → t.rd (K.prbsBits n) = ((s.rdN (K.prbsBits n) + 2) % 2 ^ 48 : Nat) ∧ t.rd (K.prbsErrBits n) = (min (s.rdN (K.prbsErrBits n) + min e 2) max48 : Nat)) ∧
      (s.on (K.prbsLock n) = false → e = 0 → 63 ≤ (s.lane n).clean → t.rd (K.prbsLock n) = 1))

/-- (1) Blocks of a lane that receives data add corrected symbols and uncorrectable codewords, at least one with an ingress slip, and the
pre-FEC BER, at most 0.5, is shown. (2) A slot lane that receives data and is in no near loopback counts good slot headers in a row, and
10.041 shows its lock. (3) A frame that fits, of a mapped Ethernet client whose lanes receive data and are in no near loopback, waits as a
packet with the client's SEQ, which goes on; a bad FCS is counted. (4) 256 words gathered for a mapped slot with fewer than 4 bursts
waiting are a burst that waits with the slot's SEQ, which goes on. (5) The status of a mapped client waits on its carrier, with the SEQ
last assigned and its present CODE. (6) In SERVICE the mapper sends the status packet that waits first. (7) In SERVICE, with no status
packet, the mapper sends the oldest packet of one of the ready clients. (8) In HUNT a good header takes the demapper to PRESYNC with that
header's length. (9) In SYNC within a packet the demapper takes the word; after the last it expects a header. (10) The egress of an
Ethernet client that presents no fault gives its oldest frame and counts it; lanes that all send data carry it behind preamble and SFD,
and without a full queue the idles are those of a gap of 12. (11) A slot lane's egress numbers its slot frame; a lane that sends data has
257 blocks of it. (12) Without a packet for 30 us a client's delivery is not alive. (13) Once the last start-up segment is released 24.023
reads ALIGNED, and the demapper hunts. -/
def Obligations.HostClientsComplete : Prop :=
  (∀ n corr uncorr slipIn slipOut aligned fault ber s, n < 8 → s.dataRx n = true →
    ∃ t, exec (.hostBlockRx n corr uncorr slipIn slipOut aligned fault ber) s = .next t ∧
      t.rd (K.fecCorrSymbols n) = (min (s.rdN (K.fecCorrSymbols n) + corr) max48 : Nat) ∧
      (t.rd (K.fecUncorrCw n) = (min (s.rdN (K.fecUncorrCw n) + (if slipIn then max uncorr 1 else uncorr)) max48 : Nat)) ∧
      t.rd (K.hostPreFecBer n) = (min ber 500000000 : Nat)) ∧
  (∀ n hdr blocks s, n < 8 → n < s.host.lanes.length → s.rd (K.clientType n) = 5 → s.dataRx n = true → s.nearLoop n = false →
    ∃ t, exec (.slotHeaderRx n hdr blocks) s = .next t ∧
      (t.lane n).slotGood = (if bitsOf hdr 63 48 = 0xC5A3 ∧ bitsOf hdr 7 0 = crc8 (beBytes 7 (hdr / 256)) then (s.lane n).slotGood + 1 else 0) ∧
      t.rd (K.pcsAligned n) = b2i (t.lane n).slotLock) ∧
  (∀ c frame errored s, c < 8 → c < s.host.clients.length → s.isEth c = true → frame ≠ [] → s.groupLanes c ≠ [] → (s.groupLanes c).all s.dataRx = true → (s.groupLanes c).any s.nearLoop = false → s.mapping c = true → (packWords (frame.take (s.rdN K.maxFrame)) 2000).length ≤ s.queueFree c →
    ∃ t, exec (.hostFrameIngress c frame errored) s = .next t ∧
      (t.client c).queue = (s.client c).queue ++ [⟨0, c, (s.client c).seq, ((frame.take (s.rdN K.maxFrame)).length + 7) % 8, errored || s.rdN K.maxFrame < frame.length, 0, packWords (frame.take (s.rdN K.maxFrame)) 2000⟩] ∧
      (t.client c).seq = ((s.client c).seq + 1) % 256 ∧
      (fcsOk frame = false → t.rd (K.inFcsErr c) = (min (s.rdN (K.inFcsErr c) + 1) max48 : Nat))) ∧
  (∀ i s, i < 128 → (s.clientCar (8 + i)).isSome = true → (256 : Nat) ≤ (s.client (8 + i)).part.length → s.mapping (8 + i) = true → (s.client (8 + i)).queue.length < 4 →
    ∃ t, exec (.slotBurstComplete i) s = .next t ∧
      (t.client (8 + i)).queue = (s.client (8 + i)).queue ++ [⟨1, i, (s.client (8 + i)).seq, 0, false, 0, (s.client (8 + i)).part.take 256⟩] ∧
      (t.client (8 + i)).part = (s.client (8 + i)).part.drop 256 ∧
      (t.client (8 + i)).seq = ((s.client (8 + i)).seq + 1) % 256) ∧
  (∀ (cl : Nat) (c : Carrier) (s : State), s.mapping cl = true → s.clientCar cl = some c →
    ∃ t, exec (.clientStatusTick cl) s = .next t ∧
      (if c = .a then t.host.statusA else t.host.statusB) = (if c = .a then s.host.statusA else s.host.statusB) ++ [⟨2, if cl < 8 then cl else cl - 8, ((s.client cl).seq + 255) % 256, 0, false, s.statusCode cl, []⟩]) ∧
  (∀ (c : Carrier) (p : Packet) (rest : List Packet) (s : State), s.present c = true → s.rd (K.carState c) = carService → (if c = .a then s.host.statusA else s.host.statusB) = p :: rest →
    ∃ t, exec (.mapperPacketSend c) s = .next t ∧
      (t.car c).tx.clientQ = (s.car c).tx.clientQ ++ p.wordsOf ∧
      (if c = .a then t.host.statusA else t.host.statusB) = rest) ∧
  (∀ c s, s.present c = true → s.rd (K.carState c) = carService → (if c = .a then s.host.statusA else s.host.statusB) = [] → s.readyClients c ≠ [] →
    ∃ t, exec (.mapperPacketSend c) s = .next t ∧
      (s.readyClients c).any (fun i => match (s.client i).queue with
      | p :: rest => (t.car c).tx.clientQ = (s.car c).tx.clientQ ++ p.wordsOf && (t.client i).queue = rest
      | [] => false) = true) ∧
  (∀ (c : Carrier) (w : Nat) (e : Bool) (rest : List (Nat × Bool)) (s : State), s.present c = true → (s.car c).fec.words = (w, e) :: rest → (if c = .a then s.host.demapA else s.host.demapB) = .hunt → hecOk w = true →
    ∃ t, exec (.demapWord c) s = .next t ∧
      (t.car c).fec.words = rest ∧
      (if c = .a then t.host.demapA else t.host.demapB) = .presync (packetOf w).2 []) ∧
  (∀ (c : Carrier) (w : Nat) (e : Bool) (rest : List (Nat × Bool)) (p : Packet) (left : Nat) (err : Bool) (s : State), s.present c = true → (s.car c).fec.words = (w, e) :: rest → (if c = .a then s.host.demapA else s.host.demapB) = .sync p left err →
    ∃ t, exec (.demapWord c) s = .next t ∧
      (t.car c).fec.words = rest ∧
      (if c = .a then t.host.demapA else t.host.demapB) = (if left ≤ 1 then .syncHeader else .sync { p with data := p.data ++ [w] } (left - 1) (err || e))) ∧
  (∀ (c : Nat) (full : Bool) (f : List Byte) (err : Bool) (rest : List (List Byte × Bool)) (s : State), c < 8 → s.isEth c = true → s.presented c = 0 → (s.client c).frames = (f, err) :: rest →
    ∃ t, exec (.egressFrameOut c full) s = .next t ∧
      (t.client c).frames = rest ∧
      ((s.groupLanes c).all s.sendsData = true → (t.client c).sent = List.replicate 7 0x55 ++ [0xD5] ++ f) ∧
      t.rd (K.outFrames c) = ((s.rdN (K.outFrames c) + 1) % 2 ^ 48 : Nat) ∧
      (full = false → (t.client c).idles = (idleGap 12 f.length (s.client c).dic).1)) ∧
  (∀ n s, n < 8 → n < s.host.lanes.length → s.rd (K.clientType n) = 5 →
    ∃ t, exec (.egressSlotFrame n) s = .next t ∧
      (t.lane n).fseq = ((s.lane n).fseq + 1) % 256 ∧
      (s.sendsData n = true → (t.lane n).slotFrame.length = 257)) ∧
  (∀ cl s,
    ∃ t, exec (.clientPacketTimeout cl) s = .next t ∧
      (t.client cl).alive = false) ∧
  (∀ c s, s.present c = true → (s.car c).fec.accepting = true → (s.car c).fec.startup = 0 → s.rd (K.decAlign c) = 1 →
    ∃ t, exec (.rxFecAligned c) s = .next t ∧
      t.rd (K.decAlign c) = 2 ∧
      (if c = .a then t.host.demapA else t.host.demapB) = .hunt)

/-- (1) While the converters run, a boundary counts the tick; a conversion of a regular slot of ADC 0 counts, and the slot's record holds the
calibrated value of its input's code against the reference 60.001 selects. (2) 60.016 with the SOFTWARE trigger, on an enabled ADC without
a pass, is answered OK and makes a pass due. (3) The TIMER, or the DATUM trigger at its phase, makes a pass due where none runs, and
counts an overrun where one does. (4) 60.025 with the SOFTWARE trigger, on an enabled ADC with fewer than 8 requests, is answered OK,
queues one and shows the number. (5) The injected TIMER on an enabled ADC queues a request below 8, and at 8 drops it, counted, with the
overflow flag set. (6) A rising edge of the GPIO selected queues a request on an enabled ADC with fewer than 8. (7) A write of 60.028 is
answered OK: 0 clears the flag, another value leaves it. (8) A write of 60.000 is answered OK and read back as 0 or 1; 0 empties the
injected queue. (9) 60.002 on an enabled ADC without a run is answered OK and asks for self-calibration, which then waits. (10) Bench
CANCEL is answered OK and forgets the stored zero. (11) Bench ZERO on an enabled ADC without a run is answered OK, asks for a run of its
input, at most 74, and forgets the stored zero. (12) Bench FULL on an enabled ADC without a run, with the zero of its input stored, is
answered OK and asks for a run of it. (13) A run whose last conversion is stored is over and idle; one of self-calibration or ZERO has
result 0. -/
def Obligations.HousekeepingAdcComplete : Prop :=
  (∀ (v0 v1 : Int) (internal board slot input e : Nat) (d : Bool) (s : State), s.hkRuns = true → s.hk.adc0.conv = some ⟨.regular slot, input, d, e⟩ → slot < 64 →
    ∃ t, exec (.hkConversionBoundary v0 v1 internal board) s = .next t ∧
      t.hk.tick = s.hk.tick + 1 ∧
      t.rd (K.convCount 0) = ((s.rdN (K.convCount 0) + 1) % 65536 : Nat) ∧
      (t.rdN (K.regResult slot) / 65536 = s.calValue 0 input (hkCode input v0 (if s.rd K.hkRef = 1 then board else internal)))) ∧
  (∀ src h s, s.accepts src (K.regStart h) → s.rd (K.regTrigger h) = 1 → s.on (K.hkEnable h) = true → (s.adc h).pass = none → (s.adc h).passDue = false →
    ∃ t, exec (.hkRegStart src h) s = .next t ∧
      t.answered src .ok ∧
      (t.adc h).passDue = true) ∧
  (∀ h s, h < 2 → s.rd (K.regTrigger h) = 3 ∨ s.rd (K.regTrigger h) = 4 ∧ s.datumPhase h = true → s.on (K.hkEnable h) = true →
    ∃ t, exec (.hkRegTimer h) s = .next t ∧
      ((s.adc h).pass = none → (s.adc h).passDue = false → (t.adc h).passDue = true) ∧
      ((s.adc h).pass.isSome = true → t.rd (K.regOverrun h) = (min (s.rdN (K.regOverrun h) + 1) max48 : Nat))) ∧
  (∀ src h s, s.accepts src (K.injStart h) → s.rd (K.injTrigger h) = 1 → s.on (K.hkEnable h) = true → (s.adc h).injQ.length < 8 →
    ∃ t, exec (.injStart src h) s = .next t ∧
      t.answered src .ok ∧
      (t.adc h).injQ = (s.adc h).injQ ++ [false] ∧
      t.rd (K.injQueue h) = ((s.adc h).injQ.length + 1 : Nat)) ∧
  (∀ h s, h < 2 → s.rd (K.injTrigger h) = 2 → s.on (K.hkEnable h) = true →
    ∃ t, exec (.injTimer h) s = .next t ∧
      ((s.adc h).injQ.length < 8 → (t.adc h).injQ = (s.adc h).injQ ++ [false]) ∧
      (8 ≤ (s.adc h).injQ.length → t.rd (K.injOverflow h) = 1 ∧ t.rd (K.injDrop h) = (min (s.rdN (K.injDrop h) + 1) max48 : Nat))) ∧
  (∀ (h g : Nat) (s : State), h < 2 → s.rd (K.injTrigger h) = 4 → s.rdN (K.injGpio h) = g → s.on (K.hkEnable h) = true → (s.adc h).injQ.length < 8 →
    ∃ t, exec (.gpioRise g) s = .next t ∧
      (t.adc h).injQ = (s.adc h).injQ ++ [false]) ∧
  (∀ src h v s, s.accepts src (K.injOverflow h) →
    ∃ t, exec (.injOverflowClear src h v) s = .next t ∧
      t.answered src .ok ∧
      (t.rd (K.injOverflow h) = (if v = 0 then 0 else s.rd (K.injOverflow h)))) ∧
  (∀ src h v s, s.accepts src (K.hkEnable h) →
    ∃ t, exec (.hkEnableWrite src h v) s = .next t ∧
      t.answered src .ok ∧
      t.rd (K.hkEnable h) = b2i (v ≠ 0) ∧
      (v = 0 → (t.adc h).injQ = [])) ∧
  (∀ src h s, s.accepts src (K.hkSelfCal h) → s.on (K.hkEnable h) = true → (s.adc h).cal = none →
    ∃ t, exec (.hkSelfCal src h) s = .next t ∧
      t.answered src .ok ∧
      (t.adc h).cal = some ⟨0, 0, 0, 0, false⟩ ∧
      t.rd (K.hkCalState h) = 1) ∧
  (∀ src h s, s.accepts src K.benchCmd →
    ∃ t, exec (.benchCancel src h) s = .next t ∧
      t.answered src .ok ∧
      (t.adc (h % 2)).zero = none) ∧
  (∀ src h input s, s.accepts src K.benchCmd → s.on (K.hkEnable (h % 2)) = true → (s.adc (h % 2)).cal = none →
    ∃ t, exec (.benchZero src h input) s = .next t ∧
      t.answered src .ok ∧
      (t.adc (h % 2)).cal = some ⟨1, min (input % 128) 74, 0, 0, false⟩ ∧
      (t.adc (h % 2)).zero = none) ∧
  (∀ src h input s, s.accepts src K.benchCmd → s.on (K.hkEnable (h % 2)) = true → (s.adc (h % 2)).cal = none → (s.adc (h % 2)).zero.any (fun z => z.1 = min (input % 128) 74) = true →
    ∃ t, exec (.benchFull src h input) s = .next t ∧
      t.answered src .ok ∧
      (t.adc (h % 2)).cal = some ⟨2, min (input % 128) 74, 0, 0, false⟩) ∧
  (∀ (h : Nat) (r : CalRun) (s : State), h < 2 → (s.adc h).cal = some r → r.length ≤ r.count →
    ∃ t, exec (.hkCalDone h) s = .next t ∧
      (t.adc h).cal = none ∧
      t.rd (K.hkCalState h) = 0 ∧
      (r.step ≤ 1 → t.rd (K.calResult h) = 0))

/-- (1) A write of 61.000, the channel not under test, is answered OK: 0 is OFF, another value DRIVING with the start code. (2) A new range
for a DRIVING channel is answered OK, stored as clamped, and disconnects it. (3) A disconnected channel reconnects DRIVING in the range of
61.001. (4) At an update a channel that does not drive puts out 0, and one that drives without a waveform its code, clamped to 16 bits.
(5) A condition absent for 1,000 updates clears its status bit. (6) A write of 61.010 is answered OK, stored as clamped, and starts phase
and noise again. (7) 61.013 is answered OK and takes the channels of its mask to phase 0. (8) 61.034 is answered OK, clears the read-back
fault, and takes a FAULT_OFF channel to DRIVING. -/
def Obligations.AnalogueOutputsComplete : Prop :=
  (∀ src k v s, s.accepts src (K.aoutEnable k) → s.underTest 2 k = false →
    ∃ t, exec (.aoutEnableWrite src k v) s = .next t ∧
      t.answered src .ok ∧
      t.rd (K.aoutState k) = b2i (v ≠ 0) ∧
      (v ≠ 0 → t.rd (K.aoutCode k) = s.rd (K.aoutStartCode k))) ∧
  (∀ src k v s, s.accepts src (K.aoutRange k) → s.rd (K.aoutState k) = 1 → clampKey (K.aoutRange k) v ≠ s.rd (K.aoutRange k) →
    ∃ t, exec (.aoutRangeWrite src k v) s = .next t ∧
      t.answered src .ok ∧
      t.rd (K.aoutRange k) = clampKey (K.aoutRange k) v ∧
      t.rd (K.aoutState k) = 2) ∧
  (∀ k s, k < 16 → s.rd (K.aoutState k) = 2 →
    ∃ t, exec (.aoutReconnect k) s = .next t ∧
      t.rd (K.aoutState k) = 1 ∧
      (k < s.hk.aouts.length → (t.aout k).range = s.rdN (K.aoutRange k))) ∧
  (∀ compliance overload s,
    ∃ t, exec (.aoutUpdate compliance overload) s = .next t ∧
      (∀ k : Nat, k < min 16 s.hk.aouts.length → s.rd (K.aoutState k) ≠ 1 → (t.aout k).outs = (0 :: (s.aout k).outs).take 4) ∧
      (∀ k : Nat, k < min 16 s.hk.aouts.length → s.rd (K.aoutState k) = 1 → s.rd (K.wave k) = 0 → (t.aout k).out = (clampInt (s.rd (K.aoutCode k)) 0 65535).toNat)) ∧
  (∀ k overload s, k < 16 → (1000 : Nat) ≤ (if overload then (s.aout k).overQuiet else (s.aout k).compQuiet) →
    ∃ t, exec (.aoutConditionClear k overload) s = .next t ∧
      bitOf (t.rdN (K.rbStatus k)) (if overload then 3 else 2) = false) ∧
  (∀ src k v s, s.accepts src (K.wave k) →
    ∃ t, exec (.waveWrite src k v) s = .next t ∧
      t.answered src .ok ∧
      t.rd (K.wave k) = clampKey (K.wave k) v ∧
      (k < s.hk.aouts.length → (t.aout k).phase = 0 ∧ (t.aout k).lfsr = noiseSeed k)) ∧
  (∀ src v s, s.accepts src K.waveSync →
    ∃ t, exec (.waveSync src v) s = .next t ∧
      t.answered src .ok ∧
      (∀ k : Nat, k < min 16 s.hk.aouts.length → bitOf (clampKey K.waveSync v).toNat k = true → (t.aout k).phase = 0)) ∧
  (∀ src k s, s.accepts src (K.rbClear k) →
    ∃ t, exec (.rbClear src k) s = .next t ∧
      t.answered src .ok ∧
      bitOf (t.rdN (K.rbStatus k)) 1 = false ∧
      (s.rd (K.aoutState k) = 3 → t.rd (K.aoutState k) = 1))

/-- (1) A running channel takes its slot's waiting result: it is the input, by 13 R352, counts from 0 if a reset takes effect with its pass,
and waits no more. (2) A running channel fills one missing pass with its previous input, which counts, and a gap is counted. (3) In a
channel that does not run, 62.011 is answered OK and the staged taps are active at once. (4) In a running channel 62.011 is answered OK:
with no fade and no copy running the staged taps go into the inactive sheet, which loads; during a fade they are queued. (5) The copy into
the inactive sheet completes. (6) 62.00C is answered OK and marks the channels of its mask for a reset. (7) A read of at most 256 bytes of
62.032 is answered OK and empties the queue. -/
def Obligations.MonitorFilterComplete : Prop :=
  (∀ (y : Nat) (f : Nat × Nat × Nat) (s : State), y < 32 → 3 ≤ s.mfStateNow y → (s.mfc y).fresh = some f →
    ∃ t, exec (.mfChannelProcess y false) s = .next t ∧
      (t.mfc y).inputs = (if (s.mfc y).syncFrom.any (fun n => n ≤ f.1) then 0 else (s.mfc y).inputs) + 1 ∧
      (t.mfc y).lastX = s.mfInput y (f.2.2 / 65536) f.1 ∧
      (t.mfc y).fresh = none) ∧
  (∀ y s, y < 32 → 3 ≤ s.mfStateNow y → (s.mfc y).missed ≠ 0 →
    ∃ t, exec (.mfChannelProcess y true) s = .next t ∧
      (t.mfc y).inputs = (s.mfc y).inputs + 1 ∧
      (t.mfc y).missed = (s.mfc y).missed - 1 ∧
      (t.mfc y).lastX = (s.mfc y).lastX ∧
      t.rd (K.gapCount y) = (min (s.rdN (K.gapCount y) + 1) max48 : Nat)) ∧
  (∀ src y s, s.accepts src (K.sheetSwap y) → y < s.hk.mf.length → s.mfStateNow y ≤ 2 →
    ∃ t, exec (.mfSheetSwap src y) s = .next t ∧
      t.answered src .ok ∧
      (t.mfc y).active = 1 - (s.mfc y).active ∧
      t.sheetTaps y (t.mfc y).active = s.stageTaps y) ∧
  (∀ src y s, s.accepts src (K.sheetSwap y) → y < s.hk.mf.length → 2 < s.mfStateNow y →
    ∃ t, exec (.mfSheetSwap src y) s = .next t ∧
      t.answered src .ok ∧
      ((s.mfc y).fade = none → (s.mfc y).loading = false → (t.mfc y).loading = true ∧ t.sheetTaps y (1 - (s.mfc y).active) = s.stageTaps y) ∧
      ((s.mfc y).fade.isSome = true → (t.mfc y).queuedTaps = some (s.stageTaps y))) ∧
  (∀ y s, y < 32 → (s.mfc y).loading = true →
    ∃ t, exec (.mfSwapLoaded y) s = .next t ∧
      (t.mfc y).loading = false ∧
      (t.mfc y).loaded = true) ∧
  (∀ src v s, s.accepts src K.mfSync →
    ∃ t, exec (.mfSync src v) s = .next t ∧
      t.answered src .ok ∧
      (∀ y : Nat, y < min 32 s.hk.mf.length → bitOf (clampKey K.mfSync v).toNat y = true → (t.mfc y).syncDue = true)) ∧
  (∀ src y len s, s.reads src (K.outQueue y) → len ≤ 256 → y < s.hk.mf.length →
    ∃ t, exec (.outQueueRead src y len) s = .next t ∧
      (t.replyOf src).status = .ok ∧
      (t.mfc y).records = [])

/-- (1) 50.000 is answered OK: a port whose bit is 0 is DISABLED, and a DISABLED one whose bit is 1 is in DOWN, or LOOPBACK by 50.003, unless
under test. (2) 50.003 other than 0 on a port not DISABLED is answered OK and leads to LOOPBACK. (3) The sixteenth good training set in
DOWN leads to TRAINING with the partner's taps at 0 and 4. (4) A training set in TRAINING shows the smaller eye, at most 1,020 mV. (5) 10
ms in TRAINING lead back to DOWN and are counted. (6) Aligned lanes in DESKEW lead to UP, with the skew, limited to 8, shown and the
initial credits. (7) A port in DESKEW or UP goes DOWN and is counted. (8) An idle set on an up port renews the credit count of its class. -/
def Obligations.TraversePortsComplete : Prop :=
  (∀ src v s, s.accepts src K.tvEnable →
    ∃ t, exec (.tvEnableWrite src v) s = .next t ∧
      t.answered src .ok ∧
      (∀ l : Nat, l < 3 → s.underTest 4 l = false → bitOf (clampKey K.tvEnable v).toNat l = false → t.rd (K.portState l) = 0) ∧
      (∀ l : Nat, l < 3 → s.underTest 4 l = false → bitOf (clampKey K.tvEnable v).toNat l = true → s.rd (K.portState l) = 0 → t.rd (K.portState l) = if s.rd (K.portLoopback l) ≠ 0 then 5 else 1)) ∧
  (∀ src l v s, s.accepts src (K.portLoopback l) → s.rd (K.portState l) ≠ 0 → clampKey (K.portLoopback l) v ≠ 0 →
    ∃ t, exec (.portLoopbackWrite src l v) s = .next t ∧
      t.answered src .ok ∧
      t.rd (K.portState l) = 5) ∧
  (∀ l req resp eye0 eye1 s, l < 3 → l < s.tv.links.length → s.rd (K.portState l) = 1 → 15 ≤ (s.link l).good →
    ∃ t, exec (.tvTrainingSetRx l req resp eye0 eye1) s = .next t ∧
      t.rd (K.portState l) = 2 ∧
      t.rd (K.portTaps l) = 4) ∧
  (∀ l req resp eye0 eye1 s, l < 3 → s.rd (K.portState l) = 2 →
    ∃ t, exec (.tvTrainingSetRx l req resp eye0 eye1) s = .next t ∧
      t.rd (K.portEye l) = (min (min eye0 eye1) 1020 : Nat)) ∧
  (∀ l s, l < 3 → s.rd (K.portState l) = 2 →
    ∃ t, exec (.tvTrainingTimeout l) s = .next t ∧
      t.rd (K.portState l) = 1 ∧
      t.rd (K.portDownCount l) = (min (s.rdN (K.portDownCount l) + 1) max48 : Nat)) ∧
  (∀ l skew s, l < 3 → s.rd (K.portState l) = 3 →
    ∃ t, exec (.tvPortUp l skew) s = .next t ∧
      t.rd (K.portState l) = 4 ∧
      t.rd (K.laneSkew50 l) = clampInt skew (-8) 8 ∧
      (l < s.tv.links.length → (t.link l).credits = [4, 8, 36, 16])) ∧
  (∀ l s, l < 3 → s.rd (K.portState l) = 3 ∨ s.rd (K.portState l) = 4 →
    ∃ t, exec (.tvPortDown l) s = .next t ∧
      t.rd (K.portState l) = 1 ∧
      t.rd (K.portDownCount l) = (min (s.rdN (K.portDownCount l) + 1) max48 : Nat)) ∧
  (∀ l b s, l < 3 → l < s.tv.links.length → s.linkUp l = true →
    ∃ t, exec (.tvIdleSetRx l b) s = .next t ∧
      (t.link l).seen = (s.link l).seen.set (b.toNat / 64) (b.toNat % 64))

/-- (1) A frame on an up port counts, and one with a bad header counts as discarded. (2) A frame that an enabled and delivering in-band link
holds counts, is taken from the stream, and counts as discarded if a byte of it is errored. (3) A frame in progress finishes and counts;
where the in-band link owes it a second time it is sent again instead. (4) HELLO starts on every link that is up, idle, with nothing
queued and, on a port, with a credit of class 0. (5) HELLO is taken and gives the neighbour of its link, by its first three bytes. (6) A
silent neighbour is forgotten. (7) A duplicate-control entry expires. -/
def Obligations.TraverseFramesComplete : Prop :=
  (∀ l bytes killed s, l < 3 → s.linkUp l = true →
    ∃ t, exec (.tvFrameRx l bytes killed) s = .next t ∧
      t.rd (K.framesRx l) = ((s.rdN (K.framesRx l) + 1) % 2 ^ 48 : Nat) ∧
      (parseFrame bytes = none → t.rd (K.hdrDiscard l) = (min (s.rdN (K.hdrDiscard l) + 1) max48 : Nat))) ∧
  (∀ (m stamp : Nat) (body rest : List (Byte × Bool)) (f : TvFrame) (s : State), m < 2 → s.linkUp (3 + m) = true → ibTake (ibHunt (s.car (ibCarrier (3 + m))).rx.ibc) = some (body, rest) → parseFrame (body.map Prod.fst) = some f →
    ∃ t, exec (.ibFrameRx m stamp) s = .next t ∧
      t.rd (K.framesRx (3 + m)) = ((s.rdN (K.framesRx (3 + m)) + 1) % 2 ^ 48 : Nat) ∧
      (body.any Prod.snd = true → t.rd (K.ibDiscard m) = (min (s.rdN (K.ibDiscard m) + 1) max48 : Nat)) ∧
      (t.car (ibCarrier (3 + m))).rx.ibc = rest) ∧
  (∀ (l : Nat) (o : TvOut) (s : State), l < 5 → (s.link l).sending = some o →
    ∃ t, exec (.tvFrameSent l) s = .next t ∧
      ((s.link l).repeatDue = false → t.rd (K.framesTx l) = ((s.rdN (K.framesTx l) + 1) % 2 ^ 48 : Nat)) ∧
      ((s.link l).repeatDue = true → (t.link l).repeatDue = false ∧ (t.car (ibCarrier l)).tx.ibcQueue = (s.car (ibCarrier l)).tx.ibcQueue ++ ibBytes o.frame)) ∧
  (∀ s,
    ∃ t, exec (.helloSend) s = .next t ∧
      ∀ l : Nat, l < min 5 s.tv.links.length → s.linkUp l = true ∧ (s.link l).sending = none ∧ (s.link l).queue = [] ∧ (3 ≤ l ∨ nth (s.link l).credits 0 0 ≠ 0) → (t.link l).sending.map (fun o => o.frame.type) = some 0) ∧
  (∀ (x : TvIn) (s' : State) (s : State), s.takeIn 0 = some (x, s') →
    ∃ t, exec (.helloRx) s = .next t ∧
      t.rd (K.neighbour x.link) = (2147483648 + (x.frame.payload.getD 2 0).toNat % 8 * 65536 + beNat (x.frame.payload.take 2) % 4096 : Nat) ∧
      t.tv.inbox = s'.tv.inbox) ∧
  (∀ l s, l < 5 →
    ∃ t, exec (.neighbourTimeout l) s = .next t ∧
      t.rd (K.neighbour l) = 0) ∧
  (∀ src s,
    ∃ t, exec (.dedupEntryExpire src) s = .next t ∧
      t.tv.dedup.any (fun e => e.1 = src) = false)

/-- (1) A read at offset 0 of a BLOB entry, of at most 256 bytes, is answered OK with the first bytes of what is latched and its whole length.
(2) A read of 03.000 through a view with unread records is answered OK with up to 16 of them after the view's loss mark, and the view goes
behind the last of them and leaves its run. (3) A read of 03.000 with records of bad check codes is answered OK too. (4) A read of 68.022
is answered OK with what the latch gives. (5) A read of 00.011 is answered OK with a new nonce of 32 free bytes, which is then the nonce
held. -/
def Obligations.LegendReadsComplete : Prop :=
  (∀ src k draft len s, s.reads src k → isBlob (canonKey k) = true → len ≤ 256 →
    ∃ t, exec (.blobReadLatch src k draft len) s = .next t ∧
      (t.replyOf src).status = .ok ∧
      (t.replyOf src).data = ((s.accepted src).readBlob src (canonKey k) draft).2.take len ∧
      (t.replyOf src).total = ((s.accepted src).readBlob src (canonKey k) draft).2.length) ∧
  (∀ (src v len : Nat) (p : Nat × EventRec) (s : State), s.reads src K.eventNext → len ≤ 256 → viewOf src = some v → v < s.ev.views.length → ((s.ev.unread (s.view v)).take 16).getLast? = some p →
    ∃ t, exec (.eventNextRead src len []) s = .next t ∧
      (t.replyOf src).status = .ok ∧
      (t.replyOf src).data = (eventBytes (s.view v).lost ((s.ev.unread (s.view v)).take 16)).take len ∧
      (t.view v).pos = p.1 + 1 ∧
      (t.view v).run = false) ∧
  (∀ src len bad s, s.reads src K.eventNext → len ≤ 256 →
    ∃ t, exec (.eventNextRead src len bad) s = .next t ∧
      (t.replyOf src).status = .ok) ∧
  (∀ src len s, s.reads src K.rdData → len ≤ 256 →
    ∃ t, exec (.rdDataRead src len) s = .next t ∧
      (t.replyOf src).status = .ok ∧
      (t.replyOf src).data = ((s.accepted src).rdLatch src).2.take len ∧
      t.fb = ((s.accepted src).rdLatch src).1.fb) ∧
  (∀ src len s, s.reads src K.nonce → len ≤ 256 →
    ∃ t, exec (.nonceRead src len) s = .next t ∧
      (t.replyOf src).status = .ok ∧
      (t.replyOf src).data = t.sec.nonce.take len ∧
      t.sec.nonce = freeBytes s.freeCtr 32)

/-- (1) A write of an RW entry that is no BLOB and has no write of its own is answered with the status, and leaves the Legend values, of the
entry's plain write. (2) Outside areas 02, 50, 60, 62, 68 and 71 and but for 10.005 such a write is answered OK and the element then holds
the clamped value. (3) A write of 02.014 to 02.016 or 50.050 by a source that the draft's owner check refuses is answered with that
check's status and changes nothing in the element. (4) The same write by the draft's owner is answered OK and the element holds the
clamped value. (5) A chunk that is the whole of an RW BLOB without checks of its own, of a length its row allows, is answered OK and is
the value. (6) Any other chunk of a BLOB is answered with the status, and leaves the chunk buffers, of the chunk rules. (7) An alarm
acknowledgement is answered OK and the alarm is off. (8) A snapshot through a view is answered OK: the view holds the area's counters, the
area and the datum. (9) A snapshot release through a view is answered OK and the view holds none. (10) A counter clear is answered OK and
every saturating counter of the area reads its default. -/
def Obligations.LegendWritesComplete : Prop :=
  (∀ src k v s, s.accepts src k → (rowOf (canonKey k)).any (fun r => r.access = .rw) = true → isBlob (canonKey k) = false → ownWrite (canonKey k) = false →
    ∃ t, exec (.registerWrite src k v) s = .next t ∧
      t.answered src ((s.accepted src).rwScalar src (canonKey k) v).2 ∧
      t.leg = ((s.accepted src).rwScalar src (canonKey k) v).1.leg) ∧
  (∀ src k v s, s.accepts src k → (rowOf (canonKey k)).any (fun r => r.access = .rw) = true → isBlob (canonKey k) = false → ownWrite (canonKey k) = false → ¬ k.area ∈ [0x02, 0x50, 0x60, 0x62, 0x68, 0x71] → (k.area, k.entry) ≠ (0x10, 0x005) →
    ∃ t, exec (.registerWrite src k v) s = .next t ∧
      t.answered src .ok ∧
      t.rd (canonKey k) = clampKey (canonKey k) v) ∧
  (∀ (src : Nat) (k : Key) (v : Int) (st : Status) (s : State), s.accepts src k → k ∈ [⟨0x02, 0x014, 0⟩, ⟨0x02, 0x015, 0⟩, ⟨0x02, 0x016, 0⟩, ⟨0x50, 0x050, 0⟩] → (s.accepted src).ownerCheck src = some st →
    ∃ t, exec (.registerWrite src k v) s = .next t ∧
      t.answered src st ∧
      t.rd k = s.rd k) ∧
  (∀ src k v s, s.accepts src k → k ∈ [⟨0x02, 0x014, 0⟩, ⟨0x02, 0x015, 0⟩, ⟨0x02, 0x016, 0⟩, ⟨0x50, 0x050, 0⟩] → s.ownerCheck src = none →
    ∃ t, exec (.registerWrite src k v) s = .next t ∧
      t.answered src .ok ∧
      t.rd k = clampKey k v) ∧
  (∀ src k data s, s.accepts src k → isBlob (canonKey k) = true → (rowOf (canonKey k)).any (fun r => r.access = .rw ∧ r.lo ≤ (data.length : Int) ∧ (data.length : Int) ≤ r.hi) = true → ¬ (k.area, k.entry) ∈ [(0x00, 0x022), (0x02, 0x017), (0x58, 0x021), (0x58, 0x022)] → data.length ≤ 256 →
    ∃ t, exec (.blobChunkWrite src k 0 data.length data) s = .next t ∧
      t.answered src .ok ∧
      t.blob (canonKey k) = data) ∧
  (∀ src k off total data s, s.accepts src k → isBlob (canonKey k) = true →
    ∃ t, exec (.blobChunkWrite src k off total data) s = .next t ∧
      t.answered src ((s.accepted src).writeChunk src (canonKey k) off total data).2 ∧
      t.ports.chunks = ((s.accepted src).writeChunk src (canonKey k) off total data).1.ports.chunks) ∧
  (∀ src s, s.accepts src K.alarmAck →
    ∃ t, exec (.alarmAck src) s = .next t ∧
      t.answered src .ok ∧
      t.ev.alarm = false) ∧
  (∀ (src w : Nat) (v : Int) (s : State), s.accepts src K.snapshot → viewOf src = some w → w < s.ev.views.length →
    ∃ t, exec (.snapshot src v) s = .next t ∧
      t.answered src .ok ∧
      (t.view w).snapTime = s.datum ∧
      (t.view w).snapArea = (clampKey K.snapshot v).toNat ∧
      (t.view w).snap = some ((s.accepted src).countersOf w (clampKey K.snapshot v).toNat)) ∧
  (∀ (src w : Nat) (s : State), s.accepts src K.snapshotRelease → viewOf src = some w → w < s.ev.views.length →
    ∃ t, exec (.snapshotRelease src) s = .next t ∧
      t.answered src .ok ∧
      (t.view w).snap = none) ∧
  (∀ (src : Nat) (v : Int) (k : Key) (s : State), s.accepts src K.counterClear → (k.area : Int) = clampKey K.counterClear v → (rowOf k).any (fun r => r.counter = .saturating) = true →
    ∃ t, exec (.counterClear src v) s = .next t ∧
      t.answered src .ok ∧
      t.rd k = defaultOf k)

/-- (1) A request whose bytes fail a check is answered with that check's status by a port that is ready. (2) Reading the SPI response ends its
wait and puts the written 08.000, two-wire address and MDIO port address in force. (3) A request written to the MDIO buffer at the port
address and MMD 30 is served: its length, status and response stand in the registers. (4) A two-wire window read gives the map's bytes
from the pointer and moves the pointer as the map's read says. (5) A window write of a pointer alone sets it. (6) A window write of one
byte to a place firmware marked, with room in the queue, stores and queues it and moves the pointer. (7) A window write with a full queue
stores and queues nothing and is counted. -/
def Obligations.ManagementPortsComplete : Prop :=
  (∀ (src : Nat) (bytes : List Byte) (st : Status) (s : State), (portOf src).isSome = true → s.portOpen src = true → s.portsDead = false → s.ports.ready = true → requestFault true bytes = some st →
    ∃ t, exec (.legendRequestBad src bytes) s = .next t ∧
      t.answered src st) ∧
  (∀ s, s.portOpen 1 = true → s.portsDead = false → s.ports.spiPending = true → (s.replyOf 1).status ≠ .busy →
    ∃ t, exec (.spiResponseRead) s = .next t ∧
      t.ports.spiPending = false ∧
      t.ports.enableNow = s.rdN K.portEnable ∧
      t.ports.twiAddrNow = s.rdN K.twiAddr ∧
      t.ports.prtadNow = s.rdN K.mdioPrtad) ∧
  (∀ prtad mmd buf len meas s, s.portOpen 2 = true → s.portsDead = false → prtad = s.ports.prtadNow → mmd = 30 →
    ∃ t, exec (.mdioServe prtad mmd buf len meas) s = .next t ∧
      t.ports.mdioLen = len ∧
      t.ports.mdioStatus = (t.replyOf 2).status.code ∧
      t.ports.mdioBuf.take (t.replyOf 2).bytes.length = (t.replyOf 2).bytes) ∧
  (∀ addr n s, s.windowAt addr = true →
    ∃ t, exec (.twiWindowRead addr n) s = .next t ∧
      t.ports.winData = (s.winRead n s.ports.winPtr).1 ∧
      t.ports.winPtr = (s.winRead n s.ports.winPtr).2.1) ∧
  (∀ addr ptr s, s.windowAt addr = true →
    ∃ t, exec (.twiWindowWrite addr ptr []) s = .next t ∧
      t.ports.winPtr = ptr % 256) ∧
  (∀ (addr ptr a : Nat) (b : Byte) (s : State), s.windowAt addr = true → ptr < 256 → s.winPlace ptr = some a → s.ports.winMark.contains a = true → s.ports.winQueue.length < 64 → s.lineBad 0x320 (a / 32) = false →
    ∃ t, exec (.twiWindowWrite addr ptr [b]) s = .next t ∧
      t.winByte a = b ∧
      t.ports.winQueue.length = s.ports.winQueue.length + 1 ∧
      t.ports.winPtr = winNext ptr) ∧
  (∀ (addr ptr : Nat) (b : Byte) (rest : List Byte) (s : State), s.windowAt addr = true → 64 ≤ s.ports.winQueue.length →
    ∃ t, exec (.twiWindowWrite addr ptr (b :: rest)) s = .next t ∧
      t.ports.winQueue = s.ports.winQueue ∧
      t.ports.winMem = s.ports.winMem ∧
      t.rd K.windowNackCount = (min (s.rdN K.windowNackCount + 1) max48 : Nat))

/-- (1) A delivered LEGEND_REQ from a station is held while fewer than 32 are. (2) The oldest held request, where its bytes fail a check, is
served: it is held no more, and the response has no data. (3) A delivered APP frame joins the plotters' queue while it holds fewer than
32; else it is counted as dropped. (4) With no unread record the event sink ends at the newest record. (5) With unread records it moves
behind the last of at most 16. (6) A delivered TRIGGER of 12 bytes or more waits for its instant; one that is late is counted. (7) A
trigger that fires waits no more. (8) A ring in ARMED that selects triggers of that id, with no broadcast wait, takes the trigger with its
instant. (9) 50.058 is answered OK and its frame takes the next sequence number. -/
def Obligations.TraverseServicesComplete : Prop :=
  (∀ (x : TvIn) (s' s : State), s.takeIn 3 = some (x, s') → x.frame.bcast = false → s'.tv.reqs.length < 32 →
    ∃ t, exec (.legendReqRx) s = .next t ∧
      t.tv.reqs = s'.tv.reqs ++ [⟨x.frame.src, x.frame.cls, x.frame.seq, x.frame.payload⟩] ∧
      t.tv.inbox = s'.tv.inbox) ∧
  (∀ (meas : Nat) (q : TvReq) (rest : List TvReq) (s : State), s.tv.reqs = q :: rest → s.ports.ready = true → s.portsDead = false → (requestFault true q.bytes).isSome = true →
    ∃ t, exec (.legendRspSend meas) s = .next t ∧
      t.tv.reqs = rest ∧
      (t.replyOf (stationSource q.src)).data = []) ∧
  (∀ (x : TvIn) (s' s : State), s.takeIn 5 = some (x, s') →
    ∃ t, exec (.appFrameRx) s = .next t ∧
      t.tv.inbox = s'.tv.inbox ∧
      (s'.cores.appRx.length < 32 → t.cores.appRx = s'.cores.appRx ++ [x.frame.header ++ x.frame.payload]) ∧
      (32 ≤ s'.cores.appRx.length → t.rd K.appRxDrop = (min (s'.rdN K.appRxDrop + 1) max48 : Nat))) ∧
  (∀ s, bitOf (s.rdN K.eventSink) 31 = true → s.ev.base ≤ s.tv.sinkPos → s.ev.total ≤ s.tv.sinkPos →
    ∃ t, exec (.eventSinkSend) s = .next t ∧
      t.tv.sinkPos = s.ev.total) ∧
  (∀ (p : Nat × EventRec) (s : State), bitOf (s.rdN K.eventSink) 31 = true → ((s.ev.unread { s.view 3 with pos := max s.tv.sinkPos s.ev.base }).take 16).getLast? = some p →
    ∃ t, exec (.eventSinkSend) s = .next t ∧
      t.tv.sinkPos = p.1 + 1) ∧
  (∀ (x : TvIn) (s' s : State), s.takeIn 9 = some (x, s') → 12 ≤ x.frame.payload.length →
    ∃ t, exec (.triggerRx) s = .next t ∧
      (s'.datum ≤ beNat ((x.frame.payload.drop 4).take 8) → t.tv.trigs = s'.tv.trigs ++ [(beNat (x.frame.payload.take 2), beNat ((x.frame.payload.drop 4).take 8), false)]) ∧
      (beNat ((x.frame.payload.drop 4).take 8) < s'.datum → s'.fb.evWait = [] → s'.rdN K.trigLateCount + 1 < max48 → t.rd K.trigLateCount = (s'.rdN K.trigLateCount + 1 : Nat))) ∧
  (∀ id s, s.fb.evWait = [] →
    ∃ t, exec (.triggerFire id) s = .next t ∧
      t.tv.trigs = s.tv.trigs.filter (fun e => !(e.1 = id && e.2.1 ≤ s.datum))) ∧
  (∀ (id r t0 : Nat) (late : Bool) (s : State), s.fb.evWait = [] → s.tv.trigs.filter (fun e => e.1 = id && e.2.1 ≤ s.datum) = [(id, t0, late)] → (s.fb.rings.map Prod.fst).count r = 1 → (s.ring r).state = 3 → bitOf (descSources (s.ring r).desc) 3 = true → descTrigId (s.ring r).desc = id → descRun (s.ring r).desc ≠ 2 →
    ∃ t, exec (.triggerFire id) s = .next t ∧
      (t.ring r).waiting = (s.ring r).waiting ++ [(4, t0, late)]) ∧
  (∀ src v s, s.accepts src K.trigSend →
    ∃ t, exec (.trigSend src v) s = .next t ∧
      t.answered src .ok ∧
      t.tv.seq = (s.tv.seq + 1) % 65536)

/-- (1) On a time source's link that is up, idle and, on a port, has a credit of class 0, an exchange starts by sending a TIME_REQ. (2) A
received TIME_REQ is answered by sending a TIME_RESP on its link, where that is up, idle and has a credit. (3) A TIME_RESP on the time
source's link gives the offset, in ps, where it is within the entry's range; one beyond the step threshold steps the datum by it and is
counted. (4) Without responses the quality is at least HOLDOVER. (5) A datum set while the source is NONE or ROOT is answered OK, steps
the datum and is counted. (6) With another source it is refused and the datum stays. (7) An edge of PPS_IN is stamped and ends the count
of missed ones. (8) A missed edge is counted, and the third in a row, with PPS_IN the source, makes the quality at least HOLDOVER. (9)
While enabled PPS_OUT rises. (10) PPS_OUT falls. -/
def Obligations.DatumComplete : Prop :=
  (∀ pin s, 1 ≤ s.rdN K.timeSource → s.rdN K.timeSource ≤ 5 → s.rdN K.timeSource ≤ s.tv.links.length → s.linkUp (s.rdN K.timeSource - 1) = true → (s.link (s.rdN K.timeSource - 1)).sending = none → (s.link (s.rdN K.timeSource - 1)).queue = [] → 4 ≤ s.rdN K.timeSource ∨ nth (s.link (s.rdN K.timeSource - 1)).credits 0 0 ≠ 0 →
    ∃ t, exec (.timeExchangeStart pin) s = .next t ∧
      (t.link (s.rdN K.timeSource - 1)).sending.map (fun o => o.frame.type) = some 1) ∧
  (∀ (pin : Nat) (x : TvIn) (s' s : State), s.takeIn 1 = some (x, s') → x.link < 5 → x.link < s.tv.links.length → s.linkUp x.link = true → (s.link x.link).sending = none → (s.link x.link).queue = [] → 3 ≤ x.link ∨ nth (s.link x.link).credits 0 0 ≠ 0 →
    ∃ t, exec (.timeReqRx pin) s = .next t ∧
      (t.link x.link).sending.map (fun o => o.frame.type) = some 2 ∧
      t.tv.inbox = s'.tv.inbox) ∧
  (∀ (x : TvIn) (th : Rat) (s' s : State), s.takeIn 2 = some (x, s') → s'.rdN K.timeSource = x.link + 1 → 30 ≤ x.frame.payload.length → th = ((stampTime ((x.frame.payload.drop 10).take 10) - stampTime (x.frame.payload.take 10)) - (x.time - stampTime ((x.frame.payload.drop 20).take 10)) + (s'.rd (K.delayAsym x.link) : Rat) / 1000) / 2 →
    ∃ t, exec (.timeRespRx) s = .next t ∧
      t.tv.inbox = s'.tv.inbox ∧
      (-2147483648 ≤ openRound (th * 1000) ∧ openRound (th * 1000) ≤ 2147483647 → t.rd K.datumOffset = openRound (th * 1000)) ∧
      ((s'.rdN K.stepThreshold : Rat) < th → t.datum = ((s'.now + th).floor % 2 ^ 64).toNat ∧ t.rd K.stepCount = (min (s'.rdN K.stepCount + 1) max48 : Nat))) ∧
  (∀ s, 1 ≤ s.rd K.timeSource → s.rd K.timeSource ≤ 5 →
    ∃ t, exec (.datumHoldover) s = .next t ∧
      t.rd K.datumQuality = max 2 (s.rd K.datumQuality)) ∧
  (∀ src v s, s.accepts src K.datumSet → s.rd K.timeSource = 0 ∨ s.rd K.timeSource = 7 →
    ∃ t, exec (.datumSet src v) s = .next t ∧
      t.answered src .ok ∧
      t.datum = (clampKey K.datumSet v % 2 ^ 64).toNat ∧
      t.rd K.stepCount = (min (s.rdN K.stepCount + 1) max48 : Nat)) ∧
  (∀ src v s, s.accepts src K.datumSet → s.rd K.timeSource ≠ 0 → s.rd K.timeSource ≠ 7 →
    ∃ t, exec (.datumSet src v) s = .next t ∧
      t.answered src .refused ∧
      t.datum = s.datum) ∧
  (∀ s,
    ∃ t, exec (.ppsInEdge) s = .next t ∧
      t.rd K.ppsInTime = (s.datum : Nat) ∧
      t.tv.ppsMissed = 0) ∧
  (∀ s,
    ∃ t, exec (.ppsMissed) s = .next t ∧
      t.rd K.ppsMissCount = (min (s.rdN K.ppsMissCount + 1) max48 : Nat) ∧
      t.tv.ppsMissed = s.tv.ppsMissed + 1 ∧
      (2 ≤ s.tv.ppsMissed → s.rd K.timeSource = 6 → t.rd K.datumQuality = max 2 (s.rd K.datumQuality))) ∧
  (∀ s, bitOf (s.rdN K.ppsCtrl) 0 = true →
    ∃ t, exec (.ppsOutRise) s = .next t ∧
      t.tv.ppsOut = true) ∧
  (∀ s,
    ∃ t, exec (.ppsOutFall) s = .next t ∧
      t.tv.ppsOut = false)

/-- (1) RING_ARM is answered OK: each ring of its range in IDLE or DONE goes to REARM with nothing in it, and their number is shown. (2)
RING_REARM is answered OK: each ring of its range in ARMED, POST or DONE goes to REARM with nothing in it. (3) RING_FORCE is answered OK:
each ARMED ring of its range with a trigger takes one of source FORCE, at once, or with broadcast after the lead of 50.059. (4) RING_STOP
is answered OK: each ring of its range in FILLING, ARMED or POST goes to DONE. (5) RING_DISARM is answered OK: each ring of its range is
IDLE. (6) A cleared ring in REARM is ARMED without records before the trigger, or in free run, else FILLING. (7) An update of a ring's
probe joins its group, begins one, or completes one: with room in the buffer a record waits there, without room the group doubles. (8) The
writer takes the next ring's oldest waiting record and writes it at its place in the field book. (9) A rise of TRIG_IN gives an ARMED ring
that selects it, with no broadcast, a trigger of that source. (10) The end of TRIG_OUT's pulse leaves it low. -/
def Obligations.FieldBookComplete : Prop :=
  (∀ src first last s, s.accepts src K.ringCmd → s.fb.evWait = [] → first < 2 ^ 15 → last < 2 ^ 15 →
    ∃ t, exec (.ringArm src first last) s = .next t ∧
      t.answered src .ok ∧
      (∀ r ∈ s.ringsIn first last, (s.ring r).state = 0 ∨ (s.ring r).state = 5 → t.ring r = { Ring.idle with state := 1, desc := s.ringDescOf r }) ∧
      t.rd K.ringCmdActed = ((s.ringsIn first last).countP (fun r => (s.ring r).state = 0 ∨ (s.ring r).state = 5) : Nat)) ∧
  (∀ src first last s, s.accepts src K.ringCmd → s.fb.evWait = [] → first < 2 ^ 15 → last < 2 ^ 15 →
    ∃ t, exec (.ringRearm src first last) s = .next t ∧
      t.answered src .ok ∧
      (∀ r ∈ s.ringsIn first last, 3 ≤ (s.ring r).state ∧ (s.ring r).state ≤ 5 → t.ring r = { Ring.idle with state := 1, desc := s.ringDescOf r })) ∧
  (∀ src first last s, s.accepts src K.ringCmd → s.fb.evWait = [] → first < 2 ^ 15 → last < 2 ^ 15 →
    ∃ t, exec (.ringForce src first last) s = .next t ∧
      t.answered src .ok ∧
      (∀ r ∈ s.ringsIn first last, (s.ring r).state = 3 ∧ descRun (s.ring r).desc ≠ 2 ∧ bitOf (descSources (s.ring r).desc) 6 = false → (t.ring r).waiting = (s.ring r).waiting ++ [(5, s.datum, false)]) ∧
      (∀ r ∈ s.ringsIn first last, (s.ring r).state = 3 ∧ descRun (s.ring r).desc ≠ 2 ∧ bitOf (descSources (s.ring r).desc) 6 = true ∧ (s.ring r).bcast = none → (t.ring r).bcast = some (s.datum + 1000 * s.rdN K.trigLead))) ∧
  (∀ src first last s, s.accepts src K.ringCmd → s.fb.evWait = [] → first < 2 ^ 15 → last < 2 ^ 15 →
    ∃ t, exec (.ringStop src first last) s = .next t ∧
      t.answered src .ok ∧
      (∀ r ∈ s.ringsIn first last, 2 ≤ (s.ring r).state ∧ (s.ring r).state ≤ 4 → (t.ring r).state = 5 ∧ (t.ring r).waiting = [])) ∧
  (∀ src first last s, s.accepts src K.ringCmd → s.fb.evWait = [] → first < 2 ^ 15 → last < 2 ^ 15 →
    ∃ t, exec (.ringDisarm src first last) s = .next t ∧
      t.answered src .ok ∧
      (∀ r ∈ s.ringsIn first last, t.ring r = Ring.idle)) ∧
  (∀ r s, s.fb.evWait = [] → (s.ring r).state = 1 →
    ∃ t, exec (.fbRingCleared r) s = .next t ∧
      (t.ring r).state = if descPre (s.ring r).desc = 0 ∨ descRun (s.ring r).desc = 2 then 3 else 2) ∧
  (∀ (probe sel r : Nat) (v w : Int) (form : ProbeForm) (s : State), s.on K.fbEnable = true → s.fb.evWait = [] → probeForm probe = some form → (s.fb.rings.map Prod.fst).count r = 1 → 2 ≤ (s.ring r).state → (s.ring r).state ≤ 4 → descProbe (s.ring r).desc = probe → descSel (s.ring r).desc = sel →
    ∃ t, exec (.probeUpdate probe sel v w) s = .next t ∧
      ((s.ring r).inGroup ≠ 0 → (s.ring r).inGroup + 1 < (s.ring r).groupLen → (t.ring r).inGroup = (s.ring r).inGroup + 1 ∧ (t.ring r).least = min (s.ring r).least v ∧ (t.ring r).greatest = max (s.ring r).greatest v) ∧
      ((s.ring r).inGroup = 0 → 1 < descK (s.ring r).desc * 2 ^ (s.ring r).shift → (t.ring r).inGroup = 1 ∧ (t.ring r).least = v ∧ (t.ring r).greatest = v) ∧
      ((s.ring r).inGroup ≠ 0 → (s.ring r).groupLen ≤ (s.ring r).inGroup + 1 → (s.ring r).buf.length < 4 → (t.ring r).inGroup = 0 ∧ (t.ring r).buf.length = (s.ring r).buf.length + 1) ∧
      ((s.ring r).inGroup ≠ 0 → (s.ring r).groupLen ≤ (s.ring r).inGroup + 1 → 4 ≤ (s.ring r).buf.length → (s.ring r).shift < 15 → (t.ring r).shift = (s.ring r).shift + 1 ∧ (t.ring r).buf = (s.ring r).buf)) ∧
  (∀ (r : Nat) (d : FbDue) (rest : List FbDue) (s : State), s.on K.fbEnable = true → s.fb.evWait = [] → s.fb.nextRing = some r → (s.ring r).buf = d :: rest →
    ∃ t, exec (.fbRecordWrite) s = .next t ∧
      t.fb.lastGrant = r ∧
      (t.ring r).count = (s.ring r).count + 1 ∧
      aget t.fb.trace (16 * descFirst (s.ring r).desc + (s.ring r).count % descCap (s.ring r).desc) 0 = recordWord d.data d.shift (s.ring r).count) ∧
  (∀ (r : Nat) (s : State), s.fb.evWait = [] → (s.fb.rings.map Prod.fst).count r = 1 → (s.ring r).state = 3 → bitOf (descSources (s.ring r).desc) 2 = true → bitOf (descSources (s.ring r).desc) 6 = false → descRun (s.ring r).desc ≠ 2 →
    ∃ t, exec (.trigInRise) s = .next t ∧
      (t.ring r).waiting = (s.ring r).waiting ++ [(3, s.datum, false)]) ∧
  (∀ s,
    ∃ t, exec (.trigOutEnd) s = .next t ∧
      t.fb.trigOut = false)

/-- (1) In each clause a running core that waits for nothing goes on at its next instruction, a loop's first at a loop's end. NOP changes no G
register. (2) ADD sets Gd to the sum, Z, N and C from it, and V where it leaves the signed range. (3) SUB sets Gd to the difference, with
Z, N and V; the sense of its C is the model's open value and not stated. (4) MUL sets Gd to the low 32 bits of the product, with Z and N;
C and V stay. (5) AND sets Gd, with Z and N; C and V stay. (6) OR sets Gd, with Z and N; C and V stay. (7) XOR sets Gd, with Z and N; C
and V stay. (8) SHL sets Gd to the value shifted left; Z stays. (9) SHR sets Gd to the signed value shifted right. (10) ADDI sets Gd to
the sum with the signed 18-bit immediate, with Z, N and C. (11) LUI sets Gd to the immediate shifted by 14; Z stays. -/
def Obligations.CoreArithmeticComplete : Prop :=
  (∀ c s, s.coreLive c = true → c < s.cores.cores.length →
    ∃ t, exec (.nop c) s = .next t ∧
      (t.core c).pc = (loopEnd (s.core c).pc (s.core c).loops).1 % 8192 ∧
      (t.core c).g = (s.core c).g) ∧
  (∀ c d u v s, s.coreLive c = true → c < s.cores.cores.length →
    ∃ t, exec (.add c d u v) s = .next t ∧
      (t.core c).g = (s.core c).g.set (d % 16) ((s.core c).gr u + (s.core c).gr v) ∧
      (t.core c).pc = (loopEnd (s.core c).pc (s.core c).loops).1 % 8192 ∧
      (t.core c).z = decide (((s.core c).gr u + (s.core c).gr v) = 0) ∧
      (t.core c).n = (((s.core c).gr u + (s.core c).gr v)).msb ∧
      (t.core c).c = decide (2 ^ 32 ≤ ((s.core c).gr u).toNat + ((s.core c).gr v).toNat) ∧
      (t.core c).v = decide (((s.core c).gr u + (s.core c).gr v).toInt ≠ ((s.core c).gr u).toInt + ((s.core c).gr v).toInt)) ∧
  (∀ c d u v s, s.coreLive c = true → c < s.cores.cores.length →
    ∃ t, exec (.sub c d u v) s = .next t ∧
      (t.core c).g = (s.core c).g.set (d % 16) ((s.core c).gr u - (s.core c).gr v) ∧
      (t.core c).pc = (loopEnd (s.core c).pc (s.core c).loops).1 % 8192 ∧
      (t.core c).z = decide (((s.core c).gr u - (s.core c).gr v) = 0) ∧
      (t.core c).n = (((s.core c).gr u - (s.core c).gr v)).msb ∧
      (t.core c).v = decide (((s.core c).gr u - (s.core c).gr v).toInt ≠ ((s.core c).gr u).toInt - ((s.core c).gr v).toInt)) ∧
  (∀ c d u v s, s.coreLive c = true → c < s.cores.cores.length →
    ∃ t, exec (.mul c d u v) s = .next t ∧
      (t.core c).g = (s.core c).g.set (d % 16) ((s.core c).gr u * (s.core c).gr v) ∧
      (t.core c).pc = (loopEnd (s.core c).pc (s.core c).loops).1 % 8192 ∧
      (t.core c).z = decide (((s.core c).gr u * (s.core c).gr v) = 0) ∧
      (t.core c).n = (((s.core c).gr u * (s.core c).gr v)).msb ∧
      (t.core c).c = (s.core c).c ∧
      (t.core c).v = (s.core c).v) ∧
  (∀ c d u v s, s.coreLive c = true → c < s.cores.cores.length →
    ∃ t, exec (.andd c d u v) s = .next t ∧
      (t.core c).g = (s.core c).g.set (d % 16) ((s.core c).gr u &&& (s.core c).gr v) ∧
      (t.core c).pc = (loopEnd (s.core c).pc (s.core c).loops).1 % 8192 ∧
      (t.core c).z = decide (((s.core c).gr u &&& (s.core c).gr v) = 0) ∧
      (t.core c).n = (((s.core c).gr u &&& (s.core c).gr v)).msb ∧
      (t.core c).c = (s.core c).c ∧
      (t.core c).v = (s.core c).v) ∧
  (∀ c d u v s, s.coreLive c = true → c < s.cores.cores.length →
    ∃ t, exec (.orr c d u v) s = .next t ∧
      (t.core c).g = (s.core c).g.set (d % 16) ((s.core c).gr u ||| (s.core c).gr v) ∧
      (t.core c).pc = (loopEnd (s.core c).pc (s.core c).loops).1 % 8192 ∧
      (t.core c).z = decide (((s.core c).gr u ||| (s.core c).gr v) = 0) ∧
      (t.core c).n = (((s.core c).gr u ||| (s.core c).gr v)).msb ∧
      (t.core c).c = (s.core c).c ∧
      (t.core c).v = (s.core c).v) ∧
  (∀ c d u v s, s.coreLive c = true → c < s.cores.cores.length →
    ∃ t, exec (.xorr c d u v) s = .next t ∧
      (t.core c).g = (s.core c).g.set (d % 16) ((s.core c).gr u ^^^ (s.core c).gr v) ∧
      (t.core c).pc = (loopEnd (s.core c).pc (s.core c).loops).1 % 8192 ∧
      (t.core c).z = decide (((s.core c).gr u ^^^ (s.core c).gr v) = 0) ∧
      (t.core c).n = (((s.core c).gr u ^^^ (s.core c).gr v)).msb ∧
      (t.core c).c = (s.core c).c ∧
      (t.core c).v = (s.core c).v) ∧
  (∀ c d u sh s, s.coreLive c = true → c < s.cores.cores.length →
    ∃ t, exec (.shl c d u sh) s = .next t ∧
      (t.core c).g = (s.core c).g.set (d % 16) (BitVec.ofNat 32 ((s.core c).gr u).toNat <<< (sh % 64)) ∧
      (t.core c).pc = (loopEnd (s.core c).pc (s.core c).loops).1 % 8192 ∧
      (t.core c).z = (s.core c).z) ∧
  (∀ c d u sh s, s.coreLive c = true → c < s.cores.cores.length →
    ∃ t, exec (.shr c d u sh) s = .next t ∧
      (t.core c).g = (s.core c).g.set (d % 16) (BitVec.ofInt 32 (((s.core c).gr u).toInt / 2 ^ (sh % 64))) ∧
      (t.core c).pc = (loopEnd (s.core c).pc (s.core c).loops).1 % 8192) ∧
  (∀ c d u imm s, s.coreLive c = true → c < s.cores.cores.length →
    ∃ t, exec (.addi c d u imm) s = .next t ∧
      (t.core c).g = (s.core c).g.set (d % 16) ((s.core c).gr u + BitVec.ofInt 32 (toSigned 18 (ofSigned 18 imm))) ∧
      (t.core c).pc = (loopEnd (s.core c).pc (s.core c).loops).1 % 8192 ∧
      (t.core c).z = decide (((s.core c).gr u + BitVec.ofInt 32 (toSigned 18 (ofSigned 18 imm))) = 0) ∧
      (t.core c).n = (((s.core c).gr u + BitVec.ofInt 32 (toSigned 18 (ofSigned 18 imm)))).msb ∧
      (t.core c).c = decide (2 ^ 32 ≤ ((s.core c).gr u).toNat + (BitVec.ofInt 32 (toSigned 18 (ofSigned 18 imm))).toNat)) ∧
  (∀ c d imm s, s.coreLive c = true → c < s.cores.cores.length →
    ∃ t, exec (.lui c d imm) s = .next t ∧
      (t.core c).g = (s.core c).g.set (d % 16) (BitVec.ofInt 32 (toSigned 18 (ofSigned 18 imm) * 2 ^ 14)) ∧
      (t.core c).pc = (loopEnd (s.core c).pc (s.core c).loops).1 % 8192 ∧
      (t.core c).z = (s.core c).z)

/-- (1) For a running core that waits for nothing: a branch goes to its displacement where its condition holds, else on at the next
instruction. (2) CALL, with fewer than 8 links, pushes the next index and goes to its displacement. (3) RET pops the latest link and goes
there. (4) LOOP with a count and fewer than 2 levels pushes a level and goes on in it. (5) LOOP with count 0 goes on behind its body. (6)
HALT leaves the core HALTED at its index. (7) WAIT with no selected event pending waits at its index. (8) WAIT with a selected event
pending goes on. (9) A waiting core with a selected event pending wakes and goes on. (10) An illegal instruction outside the fault handler
saves cause 1 and its index, and the core goes on at instruction 2 in FAULT. (11) One in the fault handler halts the core. -/
def Obligations.CoreControlComplete : Prop :=
  (∀ c cond disp s, s.coreLive c = true → c < s.cores.cores.length → cond % 16 < 8 →
    ∃ t, exec (.branch c cond disp) s = .next t ∧
      (condHolds (s.core c) (cond % 16) = some true → (t.core c).pc = displaced (s.core c).pc disp) ∧
      (condHolds (s.core c) (cond % 16) = some false → (t.core c).pc = (loopEnd (s.core c).pc (s.core c).loops).1 % 8192)) ∧
  (∀ c disp s, s.coreLive c = true → c < s.cores.cores.length → (s.core c).links.length < 8 →
    ∃ t, exec (.call c disp) s = .next t ∧
      (t.core c).pc = displaced (s.core c).pc disp ∧
      (t.core c).links = ((s.core c).pc + 1) % 8192 :: (s.core c).links) ∧
  (∀ (c p : Nat) (rest : List Nat) (s : State), s.coreLive c = true → c < s.cores.cores.length → (s.core c).links = p :: rest →
    ∃ t, exec (.ret c) s = .next t ∧
      (t.core c).pc = p % 8192 ∧
      (t.core c).links = rest) ∧
  (∀ c d len s, s.coreLive c = true → c < s.cores.cores.length → (s.core c).gr d ≠ 0 → (s.core c).loops.length < 2 →
    ∃ t, exec (.loopi c d len) s = .next t ∧
      (t.core c).pc = ((s.core c).pc + 1) % 8192 ∧
      (t.core c).loops = (((s.core c).pc + 1) % 8192, ((s.core c).pc + (len % 64 + 1)) % 8192, ((s.core c).gr d).toNat) :: (s.core c).loops) ∧
  (∀ c d len s, s.coreLive c = true → c < s.cores.cores.length → (s.core c).gr d = 0 →
    ∃ t, exec (.loopi c d len) s = .next t ∧
      (t.core c).pc = (loopEnd (((s.core c).pc + (len % 64 + 1)) % 8192) (s.core c).loops).1 % 8192) ∧
  (∀ c s, s.coreLive c = true → c < s.cores.cores.length →
    ∃ t, exec (.halt c) s = .next t ∧
      t.rd (K.coreState c) = 3 ∧
      (t.core c).pc = (s.core c).pc) ∧
  (∀ c u s, s.coreLive c = true → c < s.cores.cores.length → s.coreEvents c &&& ((s.core c).gr u).toNat % 128 = 0 →
    ∃ t, exec (.wait c u) s = .next t ∧
      (t.core c).waiting = some (((s.core c).gr u).toNat % 128) ∧
      (t.core c).pc = (s.core c).pc) ∧
  (∀ c u s, s.coreLive c = true → c < s.cores.cores.length → s.coreEvents c &&& ((s.core c).gr u).toNat % 128 ≠ 0 →
    ∃ t, exec (.wait c u) s = .next t ∧
      (t.core c).pc = (loopEnd (s.core c).pc (s.core c).loops).1 % 8192 ∧
      (t.core c).waiting = none) ∧
  (∀ (c m : Nat) (s : State), c < s.cores.cores.length → (s.core c).waiting = some m → s.coreEvents c &&& m ≠ 0 →
    ∃ t, exec (.coreWaitWake c) s = .next t ∧
      (t.core c).waiting = none ∧
      (t.core c).pc = (loopEnd (s.core c).pc (s.core c).loops).1 % 8192) ∧
  (∀ c s, s.coreLive c = true → c < s.cores.cores.length → (s.core c).fault = 0 →
    ∃ t, exec (.illegalOpcode c) s = .next t ∧
      (t.core c).pc = 2 ∧
      (t.core c).fault = 1 ∧
      (t.core c).faultPc = (s.core c).pc ∧
      t.rd (K.coreState c) = 2 ∧
      t.rd (K.lastFault c) = (2 ^ 24 + (s.core c).pc : Nat)) ∧
  (∀ c s, s.coreLive c = true → c < s.cores.cores.length → (s.core c).fault ≠ 0 →
    ∃ t, exec (.illegalOpcode c) s = .next t ∧
      t.rd (K.coreState c) = 3)

/-- (1) For a running core that waits for nothing: LDW sets Gd to the word at its aligned address and post-modifies An where asked. (2) LDC
sets Dd, d below 8, to the complex value at its aligned address. (3) STW stores Gd at its aligned address. (4) STC stores Dd, d below 8,
widened, at its aligned address. (5) ZL writes lines of zero and advances An past them. (6) MGD sets Dd to the upper halves of two G
registers. (7) MDG sets Gd to one part of a D register, widened. (8) MVX, with registers that exist and one of them a G, copies a value.
(9) CBX, where each line it would write is allowed, requests its burst and waits at its index. (10) A burst that has its grant and meets
no mismatch completes, and its core goes on. -/
def Obligations.CoreMemoryComplete : Prop :=
  (∀ (c d n m : Nat) (noPost : Bool) (v : Nat) (s : State), s.coreLive c = true → c < s.cores.cores.length → s.dload c ((s.core c).ar n / 4 * 4) 4 = some v →
    ∃ t, exec (.ldw c d n m noPost) s = .next t ∧
      (t.core c).g = (s.core c).g.set (d % 16) (BitVec.ofNat 32 v) ∧
      (t.core c).a = (if noPost then (s.core c).a else ((s.core c).postModify n m).a) ∧
      (t.core c).pc = (loopEnd (s.core c).pc (s.core c).loops).1 % 8192) ∧
  (∀ (c d n m : Nat) (noPost : Bool) (v : Nat) (s : State), s.coreLive c = true → c < s.cores.cores.length → d < 8 → s.dload c ((s.core c).ar n / 8 * 8) 8 = some v →
    ∃ t, exec (.ldc c d n m noPost) s = .next t ∧
      (t.core c).d = (s.core c).d.set d (operandOf v) ∧
      (t.core c).a = (if noPost then (s.core c).a else ((s.core c).postModify n m).a) ∧
      (t.core c).pc = (loopEnd (s.core c).pc (s.core c).loops).1 % 8192) ∧
  (∀ c d n m noPost s, s.coreLive c = true → c < s.cores.cores.length → (s.dline c (((s.core c).ar n / 4 * 4) / 32)).isSome = true →
    ∃ t, exec (.stw c d n m noPost) s = .next t ∧
      t.dload c ((s.core c).ar n / 4 * 4) 4 = some ((s.core c).gr d).toNat ∧
      (t.core c).a = (if noPost then (s.core c).a else ((s.core c).postModify n m).a) ∧
      (t.core c).pc = (loopEnd (s.core c).pc (s.core c).loops).1 % 8192) ∧
  (∀ c d n m noPost s, s.coreLive c = true → c < s.cores.cores.length → d < 8 → (s.dline c (((s.core c).ar n / 8 * 8) / 32)).isSome = true →
    ∃ t, exec (.stc c d n m noPost) s = .next t ∧
      t.dload c ((s.core c).ar n / 8 * 8) 8 = some ((widen ((s.core c).dr d).1).toNat * 2 ^ 32 + (widen ((s.core c).dr d).2).toNat) ∧
      (t.core c).a = (if noPost then (s.core c).a else ((s.core c).postModify n m).a) ∧
      (t.core c).pc = (loopEnd (s.core c).pc (s.core c).loops).1 % 8192) ∧
  (∀ c n count s, s.coreLive c = true → c < s.cores.cores.length →
    ∃ t, exec (.zl c n count) s = .next t ∧
      (∀ i : Nat, i < count % 64 + 1 → t.dline c (((s.core c).ar n / 32 + i) % 2048) = some 0) ∧
      (t.core c).a = (s.core c).a.set (n % 4) (BitVec.ofNat 16 ((s.core c).ar n + 32 * (count % 64 + 1))) ∧
      (t.core c).pc = (loopEnd (s.core c).pc (s.core c).loops).1 % 8192) ∧
  (∀ c d u v s, s.coreLive c = true → c < s.cores.cores.length → d < 8 →
    ∃ t, exec (.mgd c d u v) s = .next t ∧
      (t.core c).d = (s.core c).d.set d (topHalf ((s.core c).gr u), topHalf ((s.core c).gr v)) ∧
      (t.core c).pc = (loopEnd (s.core c).pc (s.core c).loops).1 % 8192) ∧
  (∀ c d u im s, s.coreLive c = true → c < s.cores.cores.length → u < 8 →
    ∃ t, exec (.mdg c d u im) s = .next t ∧
      (t.core c).g = (s.core c).g.set (d % 16) (widen (if im then ((s.core c).dr u).2 else ((s.core c).dr u).1)) ∧
      (t.core c).pc = (loopEnd (s.core c).pc (s.core c).loops).1 % 8192) ∧
  (∀ c d u s, s.coreLive c = true → c < s.cores.cores.length → d < 28 → u < 28 → d < 16 ∨ u < 16 →
    ∃ t, exec (.mvx c d u) s = .next t ∧
      (d < 16 → (t.core c).g = (s.core c).g.set (d % 16) ((s.core c).mvxGet u)) ∧
      (16 ≤ d → d < 20 → (t.core c).a = (s.core c).a.set (d % 4) (((s.core c).mvxGet u).setWidth 16)) ∧
      (20 ≤ d → d < 24 → (t.core c).o = (s.core c).o.set (d % 4) (((s.core c).mvxGet u).setWidth 16)) ∧
      (24 ≤ d → (t.core c).l = (s.core c).l.set (d % 4) (BitVec.ofNat 16 (circularLen ((s.core c).mvxGet u).toInt))) ∧
      (t.core c).pc = (loopEnd (s.core c).pc (s.core c).loops).1 % 8192) ∧
  (∀ c d n num wr s, s.coreLive c = true → c < s.cores.cores.length → (wr = true → ∀ i : Nat, i < num % 16 + 1 → s.coefAllowed c ((s.core c).gr d).toNat (((s.core c).gr d).toNat % 2 ^ 20 + i) = true) →
    ∃ t, exec (.cbx c d n num wr) s = .next t ∧
      (t.core c).burst = some ⟨(s.core c).ar n / 32 * 32, ((s.core c).gr d).toNat, num % 16 + 1, wr⟩ ∧
      (t.core c).pc = (s.core c).pc) ∧
  (∀ c s, c < s.cores.cores.length → s.hasGrant c = true → (s.doBurst c).2 = none →
    ∃ t, exec (.cbxComplete c) s = .next t ∧
      (t.core c).burst = none ∧
      (t.core c).pc = (loopEnd (s.core c).pc (s.core c).loops).1 % 8192)

/-- (1) For a running core that waits for nothing: CMUL puts the product into an accumulator, each part saturated to 48 bits, which sets AOV.
(2) CMAC adds it. (3) CMACJ adds the product with the conjugate. (4) CMSU subtracts it. (5) CMACM adds the product of two values in data
memory, which D6 and D7 take. (6) CLRA clears an accumulator. (7) SAC narrows an accumulator into Dd; saturation sets SOV. (8) SACG
narrows one part of an accumulator into Gd. -/
def Obligations.CoreComplexComplete : Prop :=
  (∀ c d u v s, s.coreLive c = true → c < s.cores.cores.length → d < 4 → u < 8 → v < 8 →
    ∃ t, exec (.cmul c d u v) s = .next t ∧
      (t.core c).ac = (s.core c).ac.set d ((saturate 48 ((cproduct ((s.core c).dr u) ((s.core c).dr v) false).1)).1, (saturate 48 ((cproduct ((s.core c).dr u) ((s.core c).dr v) false).2)).1) ∧
      (t.core c).aov = ((s.core c).aov || (saturate 48 ((cproduct ((s.core c).dr u) ((s.core c).dr v) false).1)).2 || (saturate 48 ((cproduct ((s.core c).dr u) ((s.core c).dr v) false).2)).2) ∧
      (t.core c).pc = (loopEnd (s.core c).pc (s.core c).loops).1 % 8192) ∧
  (∀ c d u v s, s.coreLive c = true → c < s.cores.cores.length → d < 4 → u < 8 → v < 8 →
    ∃ t, exec (.cmac c d u v) s = .next t ∧
      (t.core c).ac = (s.core c).ac.set d ((saturate 48 (((s.core c).acc d).1.toInt + (cproduct ((s.core c).dr u) ((s.core c).dr v) false).1)).1, (saturate 48 (((s.core c).acc d).2.toInt + (cproduct ((s.core c).dr u) ((s.core c).dr v) false).2)).1) ∧
      (t.core c).aov = ((s.core c).aov || (saturate 48 (((s.core c).acc d).1.toInt + (cproduct ((s.core c).dr u) ((s.core c).dr v) false).1)).2 || (saturate 48 (((s.core c).acc d).2.toInt + (cproduct ((s.core c).dr u) ((s.core c).dr v) false).2)).2) ∧
      (t.core c).pc = (loopEnd (s.core c).pc (s.core c).loops).1 % 8192) ∧
  (∀ c d u v s, s.coreLive c = true → c < s.cores.cores.length → d < 4 → u < 8 → v < 8 →
    ∃ t, exec (.cmacj c d u v) s = .next t ∧
      (t.core c).ac = (s.core c).ac.set d ((saturate 48 (((s.core c).acc d).1.toInt + (cproduct ((s.core c).dr u) ((s.core c).dr v) true).1)).1, (saturate 48 (((s.core c).acc d).2.toInt + (cproduct ((s.core c).dr u) ((s.core c).dr v) true).2)).1) ∧
      (t.core c).aov = ((s.core c).aov || (saturate 48 (((s.core c).acc d).1.toInt + (cproduct ((s.core c).dr u) ((s.core c).dr v) true).1)).2 || (saturate 48 (((s.core c).acc d).2.toInt + (cproduct ((s.core c).dr u) ((s.core c).dr v) true).2)).2) ∧
      (t.core c).pc = (loopEnd (s.core c).pc (s.core c).loops).1 % 8192) ∧
  (∀ c d u v s, s.coreLive c = true → c < s.cores.cores.length → d < 4 → u < 8 → v < 8 →
    ∃ t, exec (.cmsu c d u v) s = .next t ∧
      (t.core c).ac = (s.core c).ac.set d ((saturate 48 (((s.core c).acc d).1.toInt - (cproduct ((s.core c).dr u) ((s.core c).dr v) false).1)).1, (saturate 48 (((s.core c).acc d).2.toInt - (cproduct ((s.core c).dr u) ((s.core c).dr v) false).2)).1) ∧
      (t.core c).aov = ((s.core c).aov || (saturate 48 (((s.core c).acc d).1.toInt - (cproduct ((s.core c).dr u) ((s.core c).dr v) false).1)).2 || (saturate 48 (((s.core c).acc d).2.toInt - (cproduct ((s.core c).dr u) ((s.core c).dr v) false).2)).2) ∧
      (t.core c).pc = (loopEnd (s.core c).pc (s.core c).loops).1 % 8192) ∧
  (∀ (c d p q : Nat) (s : State), s.coreLive c = true → c < s.cores.cores.length → d < 4 → (s.core c).d.length = 8 → s.dload c ((s.core c).ar 0 / 8 * 8) 8 = some p → s.dload c ((s.core c).ar 1 / 8 * 8) 8 = some q →
    ∃ t, exec (.cmacm c d) s = .next t ∧
      (t.core c).ac = (s.core c).ac.set d ((saturate 48 (((s.core c).acc d).1.toInt + (cproduct (operandOf p) (operandOf q) false).1)).1, (saturate 48 (((s.core c).acc d).2.toInt + (cproduct (operandOf p) (operandOf q) false).2)).1) ∧
      (t.core c).dr 6 = operandOf p ∧
      (t.core c).dr 7 = operandOf q ∧
      (t.core c).pc = (loopEnd (s.core c).pc (s.core c).loops).1 % 8192) ∧
  (∀ c d s, s.coreLive c = true → c < s.cores.cores.length → d < 4 →
    ∃ t, exec (.clra c d) s = .next t ∧
      (t.core c).ac = (s.core c).ac.set d (0, 0) ∧
      (t.core c).pc = (loopEnd (s.core c).pc (s.core c).loops).1 % 8192) ∧
  (∀ c d u sh s, s.coreLive c = true → c < s.cores.cores.length → d < 8 → u < 4 →
    ∃ t, exec (.sac c d u sh) s = .next t ∧
      (t.core c).d = (s.core c).d.set d ((narrow 18 ((s.core c).acc u).1.toInt (sh % 64)).1, (narrow 18 ((s.core c).acc u).2.toInt (sh % 64)).1) ∧
      (t.core c).sov = ((s.core c).sov || (narrow 18 ((s.core c).acc u).1.toInt (sh % 64)).2 || (narrow 18 ((s.core c).acc u).2.toInt (sh % 64)).2) ∧
      (t.core c).pc = (loopEnd (s.core c).pc (s.core c).loops).1 % 8192) ∧
  (∀ c d u im sh s, s.coreLive c = true → c < s.cores.cores.length → u < 4 →
    ∃ t, exec (.sacg c d u im sh) s = .next t ∧
      (t.core c).g = (s.core c).g.set (d % 16) ((narrow 32 (if im then ((s.core c).acc u).2 else ((s.core c).acc u).1).toInt (sh % 64)).1) ∧
      (t.core c).pc = (loopEnd (s.core c).pc (s.core c).loops).1 % 8192)

/-- (1) For a running core that waits for nothing, which then goes on at its next instruction unless a clause says otherwise: IN sets Gd to
what the port gives. (2) OUT whose port action lets the core go on has that action. (3) OUT to port 0x10 sets the Legend request address.
(4) Leaving the fault handler clears the fault, and the core runs. (5) A write of the flags port clears the chosen ones of AOV and SOV.
(6) A watchdog kick with 0xA5C3 starts its time anew. (7) Reading DATUM_LO gives the low 32 bits of the datum and latches the high ones.
(8) Reading the events gives them and clears the latched ones. (9) A Legend request sent while none is in flight takes its bytes from data
memory. (10) One sent while another is in flight is ignored, and that is shown. (11) A Legend request in flight whose length is wrong is
answered LENGTH and is done. (12) A plotter core pops the oldest APP frame and gets its length. (13) A plotter core sends an APP frame,
with the next sequence number. (14) A plotter core writes four bytes of the two-wire window. (15) A plotter core sets the marks of four
window bytes. (16) A plotter core pops the oldest write that the window queued. (17) A plotter core starts a resource read while none is
under way. (18) A core's timer that ends sets event 4. (19) A resource read ends; without flash it fails, with fault cause 4. -/
def Obligations.CorePortsComplete : Prop :=
  (∀ c d port s, s.coreLive c = true → c < s.cores.cores.length →
    ∃ t, exec (.inPort c d port) s = .next t ∧
      (t.core c).g = (s.core c).g.set (d % 16) (BitVec.ofNat 32 ((s.countSteps c 1).portIn c (port % 65536)).2) ∧
      (t.core c).pc = (loopEnd (s.core c).pc (s.core c).loops).1 % 8192) ∧
  (∀ c u port s, s.coreLive c = true → c < s.cores.cores.length → ((s.countSteps c 1).portOut c (port % 65536) ((s.core c).gr u).toNat).2 = .next →
    ∃ t, exec (.outPort c u port) s = .next t ∧
      t = ((s.countSteps c 1).portOut c (port % 65536) ((s.core c).gr u).toNat).1.coreNext c) ∧
  (∀ c u s, s.coreLive c = true → c < s.cores.cores.length →
    ∃ t, exec (.outPort c u 0x10) s = .next t ∧
      (t.core c).lgReqAddr = ((s.core c).gr u).toNat ∧
      (t.core c).pc = (loopEnd (s.core c).pc (s.core c).loops).1 % 8192) ∧
  (∀ c u s, s.coreLive c = true → c < s.cores.cores.length → (s.core c).gr u = 0 → (s.core c).fault ≠ 0 →
    ∃ t, exec (.faultExit c u) s = .next t ∧
      (t.core c).fault = 0 ∧
      t.rd (K.coreState c) = 1 ∧
      (t.core c).pc = (loopEnd (s.core c).pc (s.core c).loops).1 % 8192) ∧
  (∀ c u s, s.coreLive c = true → c < s.cores.cores.length →
    ∃ t, exec (.flagsClear c u) s = .next t ∧
      (t.core c).aov = ((s.core c).aov && !bitOf ((s.core c).gr u).toNat 1) ∧
      (t.core c).sov = ((s.core c).sov && !bitOf ((s.core c).gr u).toNat 0) ∧
      (t.core c).pc = (loopEnd (s.core c).pc (s.core c).loops).1 % 8192) ∧
  (∀ c u s, s.coreLive c = true → c < s.cores.cores.length → ((s.core c).gr u).toNat = 0xA5C3 →
    ∃ t, exec (.wdogKick c u) s = .next t ∧
      (t.core c).wdogFrom = some s.datum ∧
      (t.core c).pc = (loopEnd (s.core c).pc (s.core c).loops).1 % 8192) ∧
  (∀ c d s, s.coreLive c = true → c < s.cores.cores.length →
    ∃ t, exec (.datumLoRead c d) s = .next t ∧
      (t.core c).g = (s.core c).g.set (d % 16) (BitVec.ofNat 32 s.datum) ∧
      (t.core c).datumHi = s.datum / 2 ^ 32 % 2 ^ 32 ∧
      (t.core c).pc = (loopEnd (s.core c).pc (s.core c).loops).1 % 8192) ∧
  (∀ c d s, s.coreLive c = true → c < s.cores.cores.length →
    ∃ t, exec (.eventsRead c d) s = .next t ∧
      (t.core c).g = (s.core c).g.set (d % 16) (BitVec.ofNat 32 (s.coreEvents c)) ∧
      (t.core c).events = 0 ∧
      (t.core c).pc = (loopEnd (s.core c).pc (s.core c).loops).1 % 8192) ∧
  (∀ (c u : Nat) (bs : List Byte) (s : State), s.coreLive c = true → c < s.cores.cores.length → ((s.core c).gr u).toNat = 1 → (s.core c).lgBusy = false → s.dbytes c 2049 ((s.core c).lgReqAddr / 32 * 32) ((s.core c).lgReqLen % 65536) = .inl bs →
    ∃ t, exec (.lgSend c u) s = .next t ∧
      (t.core c).lgBusy = true ∧
      (t.core c).lgBytes = bs ∧
      (t.core c).lgDone = false ∧
      (t.core c).pc = (loopEnd (s.core c).pc (s.core c).loops).1 % 8192) ∧
  (∀ c u s, s.coreLive c = true → c < s.cores.cores.length → ((s.core c).gr u).toNat = 1 → (s.core c).lgBusy = true →
    ∃ t, exec (.lgSend c u) s = .next t ∧
      (t.core c).lgIgnored = true ∧
      (t.core c).lgBytes = (s.core c).lgBytes ∧
      (t.core c).pc = (loopEnd (s.core c).pc (s.core c).loops).1 % 8192) ∧
  (∀ c meas s, c < s.cores.cores.length → (s.core c).lgBusy = true → (s.core c).lgDiscard = false → requestFault false (s.core c).lgBytes = some .length → s.ports.ready = true → s.portsDead = false →
    ∃ t, exec (.coreLegendDone c meas) s = .next t ∧
      (t.core c).lgBusy = false ∧
      (t.core c).lgDone = true ∧
      t.answered (coreSource c) .length) ∧
  (∀ (c d : Nat) (bs : List Byte) (rest : List (List Byte)) (s : State), s.coreLive c = true → c < s.cores.cores.length → 64 ≤ c → s.cores.appRx = bs :: rest →
    ∃ t, exec (.appRxPop c d) s = .next t ∧
      (t.core c).g = (s.core c).g.set (d % 16) (BitVec.ofNat 32 bs.length) ∧
      t.cores.appRx = rest ∧
      (t.core c).pc = (loopEnd (s.core c).pc (s.core c).loops).1 % 8192) ∧
  (∀ (c u : Nat) (bs : List Byte) (s : State), s.coreLive c = true → c < s.cores.cores.length → 64 ≤ c → s.dbytes c 2049 ((s.core c).appTxAddr / 32 * 32) (((s.core c).gr u).toNat % 65536) = .inl bs →
    ∃ t, exec (.appTxGo c u) s = .next t ∧
      t.tv.seq = (s.tv.seq + 1) % 65536 ∧
      (t.core c).appSeq = some s.tv.seq ∧
      (t.core c).pc = (loopEnd (s.core c).pc (s.core c).loops).1 % 8192) ∧
  (∀ c u s, s.coreLive c = true → c < s.cores.cores.length → 64 ≤ c →
    ∃ t, exec (.winDataWrite c u) s = .next t ∧
      (∀ i : Nat, i < 4 → t.winByte ((s.core c).winAt + i) = nth (beBytes 4 ((s.core c).gr u).toNat) i 0) ∧
      (t.core c).pc = (loopEnd (s.core c).pc (s.core c).loops).1 % 8192) ∧
  (∀ c u s, s.coreLive c = true → c < s.cores.cores.length → 64 ≤ c →
    ∃ t, exec (.winWmask c u) s = .next t ∧
      (∀ i : Nat, i < 4 → t.ports.winMark.contains ((s.core c).winAt + i) = bitOf ((s.core c).gr u).toNat i) ∧
      (t.core c).pc = (loopEnd (s.core c).pc (s.core c).loops).1 % 8192) ∧
  (∀ (c d p o : Nat) (v : Byte) (rest : List (Nat × Nat × Byte)) (s : State), s.coreLive c = true → c < s.cores.cores.length → 64 ≤ c → s.ports.winQueue = (p, o, v) :: rest →
    ∃ t, exec (.winQpop c d) s = .next t ∧
      (t.core c).g = (s.core c).g.set (d % 16) (BitVec.ofNat 32 (2 ^ 31 + p * 2 ^ 24 + o * 256 + v.toNat)) ∧
      t.ports.winQueue = rest ∧
      (t.core c).pc = (loopEnd (s.core c).pc (s.core c).loops).1 % 8192) ∧
  (∀ c u s, s.coreLive c = true → c < s.cores.cores.length → 64 ≤ c → ((s.core c).gr u).toNat = 1 → (s.core c).resBusy = false →
    ∃ t, exec (.resGo c u) s = .next t ∧
      (t.core c).resBusy = true ∧
      (t.core c).resFailed = false ∧
      (t.core c).pc = (loopEnd (s.core c).pc (s.core c).loops).1 % 8192) ∧
  (∀ c s, c < s.cores.cores.length → (s.core c).timer ≠ 0 →
    ∃ t, exec (.coreTimerExpire c) s = .next t ∧
      (t.core c).timer = 0 ∧
      bitOf (t.core c).events 4 = true) ∧
  (∀ c s, c < s.cores.cores.length → (s.core c).resBusy = true →
    ∃ t, exec (.resReadDone c) s = .next t ∧
      (t.core c).resBusy = false ∧
      (s.flash.present = false → (s.core c).fault = 0 → (t.core c).fault = 4 ∧ (t.core c).resFailed = true))

/-- (1) A surveyor core whose watchdog expires is counted; it restarts at instruction 0, or stays HALTED where it restarted twice in the last
second. (2) A plotter core's watchdog resets the device with cause 5 and the core as detail. (3) 58.013 is answered OK and restarts a core
that has an image and is not in debug, at instruction 0. (4) The standard firmware restarts a HALTED core that leads a cluster. (5) 58.028
is answered OK in a lifecycle but BLANK and starts a firmware restart. (6) It ends: a verified bundle runs; without flash the result says
so and what runs stays. (7) 58.020 from IDLE, by a source that may load, for a slot that does not run, is answered OK, takes the owner and
empties the slot. (8) The erase ends in the manifest state, or, failed, in IDLE with result 6. (9) A part of the manifest that does not
complete it is answered OK and joins the parts. (10) A segment is answered OK and queued where the manifest's digest fits, and again where
it is known; one of wrong size is refused and counted. (11) The oldest queued segment is programmed, or the load ends with result 6 and
the slot empty. (12) An activation by the owner in the last state is answered OK where the manifest's root key is known, and records the
slot; else it is refused with result 2. (13) An abort by the owner is answered OK and ends the load with result 8 and the slot empty. -/
def Obligations.FirmwareComplete : Prop :=
  (∀ c s, c < 64 → c < s.cores.cores.length → s.rd (K.coreState c) = 1 ∨ s.rd (K.coreState c) = 2 → (s.core c).wdogFrom.isSome = true → s.integ.refetch.any (fun e => e.1 = c) = false → s.rd K.svWdog ≠ 0 →
    ∃ t, exec (.coreWdogExpire c) s = .next t ∧
      t.rd (K.wdogCount c) = (min (s.rdN (K.wdogCount c) + 1) max48 : Nat) ∧
      (((s.core c).restarts.filter (fun x => s.datum < x + 1000000000)).length < 2 → t.rd (K.coreState c) = 1 ∧ (t.core c).pc = 0) ∧
      (2 ≤ ((s.core c).restarts.filter (fun x => s.datum < x + 1000000000)).length → t.rd (K.coreState c) = 3)) ∧
  (∀ c s, 64 ≤ c → c < 68 → s.rd (K.coreState c) = 1 ∨ s.rd (K.coreState c) = 2 → (s.core c).wdogFrom.isSome = true → s.integ.refetch.any (fun e => e.1 = c) = false →
    ∃ t, exec (.coreWdogExpire c) s = .next t ∧
      t.rd K.deviceState = devReset ∧
      t.rd K.resetCause = 5 ∧
      t.rd K.resetDetail = (c - 64 : Nat)) ∧
  (∀ src c s, s.accepts src (K.coreRestart c) → c < 64 → c < s.cores.cores.length → s.rd (K.coreState c) ≠ 0 → s.rd (K.coreState c) ≠ 4 →
    ∃ t, exec (.coreRestart src c) s = .next t ∧
      t.answered src .ok ∧
      t.rd (K.coreState c) = 1 ∧
      (t.core c).pc = 0) ∧
  (∀ c s, s.accepts 0x1000 (K.coreRestart c) → c < 64 → s.firmware = true → s.rd (K.coreState c) = 3 → (s.leadOf (coreCarrier c) (c % 32)).isSome = true →
    ∃ t, exec (.sfHaltedLeadRestart c) s = .next t ∧
      t.answered 0x1000 .ok ∧
      t.rd (K.coreState c) = 1) ∧
  (∀ src s, s.accepts src K.fwRestart → s.fuse.lifecycle ≠ 0 → s.operational = true →
    ∃ t, exec (.fwRestart src) s = .next t ∧
      t.answered src .ok ∧
      t.rd K.fwState = 2 ∧
      t.cores.restarting = true) ∧
  (∀ s, s.cores.restarting = true →
    ∃ t, exec (.fwRestartVerified) s = .next t ∧
      t.cores.restarting = false ∧
      (s.flash.present = true → s.verifyBundle (s.rdN K.bootSlot) = none → t.rd K.restartResult = 0 ∧ t.rd K.fwState = 1 ∧ t.cores.running = (s.slot (s.rdN K.bootSlot)).manifest) ∧
      (s.flash.present = false → t.rd K.restartResult = 1 ∧ t.cores.running = s.cores.running)) ∧
  (∀ src v s, s.accepts src K.loadBegin → s.rd K.loadState = 0 → s.loadSource src = true → s.cores.running = [] ∨ s.rd K.runSlot ≠ clampKey K.loadBegin v →
    ∃ t, exec (.loadBegin src v) s = .next t ∧
      t.answered src .ok ∧
      t.rd K.loadState = 1 ∧
      t.rd K.loadOwner = (src : Nat) ∧
      t.slot (clampKey K.loadBegin v).toNat = ⟨[], []⟩) ∧
  (∀ (ok : Bool) (l : LoadRun) (s : State), s.cores.load = some l → s.rd K.loadState = 1 →
    ∃ t, exec (.loadEraseDone ok) s = .next t ∧
      (ok = true → s.flash.present = true → t.rd K.loadState = 2) ∧
      (ok = false → t.rd K.loadState = 0 ∧ t.rd K.loadResult = 6)) ∧
  (∀ (src p : Nat) (bs : List Byte) (l : LoadRun) (s : State), s.accepts src (K.loadManifest p) → bs.length ≤ 4096 → s.cores.load = some l → s.loadGate src [2] = none → (joinParts (aput l.parts p bs) 9 0).length < 88 →
    ∃ t, exec (.loadManifest src p bs) s = .next t ∧
      t.answered src .ok ∧
      t.cores.load = some { l with parts := aput l.parts p bs, manifest := joinParts (aput l.parts p bs) 9 0 }) ∧
  (∀ (src g : Nat) (bs : List Byte) (l : LoadRun) (s : State), s.accepts src (K.loadSegment g) → bs.length ≤ 4096 → s.cores.load = some l → s.loadGate src [3, 4] = none →
    ∃ t, exec (.loadSegment src g bs) s = .next t ∧
      ((l.queue ++ l.done).any (fun e => e.1 = g) = true → t.answered src .ok ∧ t.cores.load = some l) ∧
      ((l.queue ++ l.done).any (fun e => e.1 = g) = false → segmentOk l.manifest g bs = true → t.answered src .ok ∧ t.cores.load = some { l with queue := l.queue ++ [(g, bs)] }) ∧
      ((l.queue ++ l.done).any (fun e => e.1 = g) = false → bs.length ≠ 4096 → t.answered src .refused ∧ t.rd K.segRejectCount = (min (s.rdN K.segRejectCount + 1) max48 : Nat))) ∧
  (∀ (ok : Bool) (e : Nat × List Byte) (rest : List (Nat × List Byte)) (l : LoadRun) (s : State), s.cores.load = some l → l.queue = e :: rest →
    ∃ t, exec (.loadProgramDone ok) s = .next t ∧
      (ok = true → s.flash.present = true → t.rd K.loadSegDone = (l.done.length + 1 : Nat) ∧ (t.slot l.slot).seg e.1 = e.2) ∧
      (ok = false → t.rd K.loadState = 0 ∧ t.rd K.loadResult = 6 ∧ t.slot l.slot = ⟨[], []⟩)) ∧
  (∀ (src : Nat) (l : LoadRun) (s : State), s.accepts src K.loadActivate → s.cores.load = some l → s.rdN K.loadOwner = src → s.loadSource src = true → s.rd K.loadState = 4 →
    ∃ t, exec (.loadActivate src) s = .next t ∧
      ((s.rootKey (mfest l.manifest (signedPart l.manifest) 1)).isSome = true → t.answered src .ok ∧ t.rd K.bootSlot = (l.slot : Nat) ∧ t.rd K.loadResult = 0 ∧ t.flash.record = ((s.flash.record.1 + 1, l.slot) : Nat × Nat)) ∧
      (s.rootKey (mfest l.manifest (signedPart l.manifest) 1) = none → t.answered src .refused ∧ t.rd K.loadResult = 2 ∧ t.flash = s.flash)) ∧
  (∀ (src : Nat) (l : LoadRun) (s : State), s.accepts src K.loadAbort → s.cores.load = some l → s.rdN K.loadOwner = src → s.loadSource src = true →
    ∃ t, exec (.loadAbort src) s = .next t ∧
      t.answered src .ok ∧
      t.rd K.loadState = 0 ∧
      t.rd K.loadResult = 8 ∧
      t.slot l.slot = ⟨[], []⟩)

/-- (1) The oldest waiting refetch ends: its line is whole, or the device resets with cause 4. (2) With journal copy A good the oldest line
being rebuilt is whole, and each ED or RW number it holds has the copy's value. (3) The oldest waiting repair ends: its line is whole, or
for a whole table all its lines. (4) A scrub pass without findings is counted. (5) A scrub pass that finds a line of journal copy B counts
it and marks the copy bad. (6) 78.022 is answered OK and empties the fault log. -/
def Obligations.IntegrityComplete : Prop :=
  (∀ (c line : Nat) (rest : List (Nat × Nat)) (s : State), s.integ.refetch = (c, line) :: rest →
    ∃ t, exec (.refetchDone) s = .next t ∧
      ((({ s with integ := { s.integ with refetch := rest } } : State).refetchLine c line).isSome = true → t.integ.refetch = rest ∧ t.lineBad c line = false) ∧
      ((({ s with integ := { s.integ with refetch := rest } } : State).refetchLine c line) = none → t.rd K.deviceState = devReset ∧ t.rd K.resetCause = 4)) ∧
  (∀ (keys : List Key) (line : Nat) (rest : List Nat) (s : State), s.integ.rebuilding = line :: rest → s.ed.journalA.good = true →
    ∃ t, exec (.intLegendRebuilt keys) s = .next t ∧
      t.integ.rebuilding = rest ∧
      t.lineBad 0x300 line = false ∧
      (∀ k ∈ keys, (rowOf k).any (fun r => decide (k.idx < r.count) && (r.access = .ed || r.access = .rw) && r.type ≠ .blob) = true → t.rd k = s.ed.journalA.value k)) ∧
  (∀ (mem line : Nat) (rest : List (Nat × Nat)) (s : State), s.integ.repairs = (mem, line) :: rest →
    ∃ t, exec (.derivedRepairDone) s = .next t ∧
      t.integ.repairs = rest ∧
      t.lineBad mem line = false ∧
      (line = 2 ^ 24 → t.integ.bad.any (fun b => b.1 = mem) = false)) ∧
  (∀ s, s.operational = true →
    ∃ t, exec (.scrubPass []) s = .next t ∧
      t.rd K.scrubPasses = ((s.rdN K.scrubPasses + 1) % 2 ^ 48 : Nat)) ∧
  (∀ line item s, s.operational = true →
    ∃ t, exec (.scrubPass [(0x311, line, item)]) s = .next t ∧
      t.rd K.scrubPasses = ((s.rdN K.scrubPasses + 1) % 2 ^ 48 : Nat) ∧
      t.rd K.scrubFound = (min (s.rdN K.scrubFound + 1) max48 : Nat) ∧
      t.ed.journalB.good = false) ∧
  (∀ src s, s.accepts src K.faultLogClear →
    ∃ t, exec (.faultLogClear src) s = .next t ∧
      t.answered src .ok ∧
      t.aon.log = [])

/-- (1) In BOOT or OPERATIONAL a valid reading of a good sensor is its last one, and one at the shutdown threshold or above leads to SAFE. (2)
The restart block ends. (3) 70.022 is answered OK, holds the clamped level and counts in the throttle level. (4) 70.051 is answered OK and
empties the shutdown record. (5) The standard firmware sets level 3 while level 2 holds at the throttle threshold. (6) Where a sent
capacity limit is not met it sends it again. (7) Or raises TH_L3_NO_RESPONSE. (8) At level 0 it sets its level to 0 and takes back its
limits. (9) In Dormant, with the crystal and its compensation in use, a tick adds the correction to the sum. (10) A failure of the crystal
leads to the RC source. (11) Its restoration leads back. -/
def Obligations.ThermalComplete : Prop :=
  (∀ (vals : List (Option Int)) (m : Nat) (v : Int) (s : State), s.rd K.deviceState = devBoot ∨ s.rd K.deviceState = devOperational → m < 24 → m < s.th.sensors.length → s.sensorGood m = true → nth vals m none = some v → -5500 ≤ v → v ≤ 15000 →
    ∃ t, exec (.thermalSample vals) s = .next t ∧
      t.reading m = v ∧
      (s.rd K.shutdownThresh ≤ v → t.rd K.deviceState = devSafe ∧ t.th.shutdown = true)) ∧
  (∀ s, s.blocked = true →
    ∃ t, exec (.thermalBlockExpire) s = .next t ∧
      t.blocked = false) ∧
  (∀ src v s, s.accepts src K.fwLevel →
    ∃ t, exec (.fwLevelWrite src v) s = .next t ∧
      t.answered src .ok ∧
      t.rd K.fwLevel = clampKey K.fwLevel v ∧
      (t.rd K.throttleLevel = max (s.rd K.thermalLevel) (max (if s.sensorsForced || s.rd K.marginState = 1 then 2 else 0) (clampKey K.fwLevel v)))) ∧
  (∀ src s, s.accepts src K.shutdownClear →
    ∃ t, exec (.shutdownClear src) s = .next t ∧
      t.answered src .ok ∧
      t.aon.record = []) ∧
  (∀ s, s.firmware = true → s.rd K.thermalLevel = 2 → s.rd K.throttleThresh ≤ s.rd K.hottest →
    ∃ t, exec (.sfL3Dwell) s = .next t ∧
      t.rd K.fwLevel = 3) ∧
  (∀ (c : Carrier) (l : Nat) (s : State), s.present c = true → s.firmware = true → s.limitOf c = some l → l < s.rxCapacityOf c →
    ∃ t, exec (.sfL3Resend c) s = .next t ∧
      t = s.sendCapLimit c l) ∧
  (∀ (c : Carrier) (l : Nat) (s : State), s.present c = true → s.firmware = true → s.limitOf c = some l → l < s.rxCapacityOf c →
    ∃ t, exec (.thL3NoResponse c) s = .next t ∧
      t = s.raise Ev.thL3NoResponse noKey) ∧
  (∀ s, s.firmware = true → s.rd K.thermalLevel = 0 → s.rd K.fwLevel ≠ 0 →
    ∃ t, exec (.sfL3Release) s = .next t ∧
      t.rd K.fwLevel = 0 ∧
      (∀ c ∈ s.carriersHere, t.limitOf c = none)) ∧
  (∀ temp s, s.rd K.deviceState = devDormant → s.on K.xtalTcEnable = true → s.rd K.aonSource = 0 →
    ∃ t, exec (.xtalCompTick temp) s = .next t ∧
      t.aon.corr = s.aon.corr + openRound (-((s.rd K.xtalOffset : Rat) - (s.rd K.xtalCurve : Rat) / 10 * (((temp - s.rd K.xtalTurnover : Int) : Rat) / 100) * (((temp - s.rd K.xtalTurnover : Int) : Rat) / 100)) * 64)) ∧
  (∀ s, s.rd K.deviceState ≠ devOff → s.rd K.aonSource = 0 →
    ∃ t, exec (.aonXtalFail) s = .next t ∧
      t.rd K.aonSource = 1) ∧
  (∀ s, s.operational = true →
    ∃ t, exec (.xtalRestore) s = .next t ∧
      t.rd K.aonSource = 0)

/-- (1) Margins are shown, limited to ±100 %; with no engine active and no AVS fault the request is the lowest. (2) Lost margin in ALARM drops
the carrier of the first lost engine to STANDBY, which is counted; which of several goes first is the model's choice. (3) Margin at the
target ends ALARM. (4) A voltage read without answer counts, and the third in a row is fault 1; one with answer is shown, at most 1 V. (5)
A status read without answer counts; one that shows a fault is fault 2. (6) AVS faults end. (7) With the idle conditions and no wake
source enabled Dormant entry does not begin; with one it does, requests end and every ring is IDLE. (8) 71.01A is refused without the idle
conditions, else answered OK, and with a wake source enabled Dormant entry begins. (9) The edge that latches enters Dormant, with the
datum shown and the pads held. (10) A wake source that is enabled and matches aborts an entry under way. (11) In Dormant it wakes the
device into BOOT with its code and the datum from the always-on count. (12) The wake timer does so with code 7. (13) A brown-out in
Dormant resets the device with cause 2. (14) 71.025 is answered OK and releases the pads. -/
def Obligations.PowerComplete : Prop :=
  (∀ margins s,
    ∃ t, exec (.marginUpdate margins) s = .next t ∧
      (∀ m : Nat, m < 16 → t.rd (K.paceMargin m) = clampInt (nth margins m 0) (-10000) 10000) ∧
      (s.engines.all (fun e => !e.active) = true → s.rd K.avsState = 0 → t.rd K.vcoreReq = s.voltLow ∧ t.pw.low = 0)) ∧
  (∀ (c : Carrier) (e : Engine) (s : State), s.rd K.marginState = 1 → s.pw.dropped = none → (s.engines.filter (fun e => e.active && e.mons.any (fun m => s.rd (K.paceMargin m) < s.rd K.marginAlarm))).head? = some e → s.dropFor e = some c →
    ∃ t, exec (.pwrCarrierDropped) s = .next t ∧
      t.rd (K.carTarget c) = 1 ∧
      t.pw.dropped = some c ∧
      t.rd K.carrierDropCount = (min (s.rdN K.carrierDropCount + 1) max48 : Nat)) ∧
  (∀ s, s.rd K.marginState = 1 → s.rd K.marginTarget ≤ s.rd K.marginMin →
    ∃ t, exec (.pwrMarginRestored) s = .next t ∧
      t.rd K.marginState = 0 ∧
      t.pw.low = 0) ∧
  (∀ v s, s.on K.avsEnable = true →
    ∃ t, exec (.avsVoltageRead v) s = .next t ∧
      (v = none → t.pw.noAnswer = s.pw.noAnswer + 1) ∧
      (v = none → 2 ≤ s.pw.noAnswer → s.rd K.avsState = 0 → t.rd K.avsState = 1) ∧
      (∀ u ∈ v, t.pw.noAnswer = 0 ∧ t.rd K.vcoreRead = (min u 10000 : Nat))) ∧
  (∀ fault s, s.on K.avsEnable = true →
    ∃ t, exec (.avsStatusRead fault) s = .next t ∧
      (fault = none → t.pw.noAnswer = s.pw.noAnswer + 1) ∧
      (fault = some false → t.pw.noAnswer = 0 ∧ t.rd K.avsState = s.rd K.avsState) ∧
      (fault = some true → s.rd K.avsState ≠ 4 → t.pw.noAnswer = 0 ∧ t.rd K.avsState = 2)) ∧
  (∀ s, 1 ≤ s.rd K.avsState → s.rd K.avsState ≤ 3 →
    ∃ t, exec (.pwrAvsRestored) s = .next t ∧
      t.rd K.avsState = 0) ∧
  (∀ s, s.idleCond = true → 0 < s.rd K.idleTimeout → s.pw.entering = false →
    ∃ t, exec (.idleTimerExpire) s = .next t ∧
      (s.rd K.wakeEnable = 0 → t.pw.entering = false) ∧
      (s.rd K.wakeEnable ≠ 0 → t.pw.entering = true ∧ t.ports.ready = false ∧ t.fb.rings = [] ∧ t.aon.corr = 0)) ∧
  (∀ src s, s.accepts src K.sleepNow →
    ∃ t, exec (.sleepNow src) s = .next t ∧
      (((s.idleRestart src).countReq src).idleCond = false → t.answered src .refused) ∧
      (((s.idleRestart src).countReq src).idleCond = true → t.answered src .ok) ∧
      (((s.idleRestart src).countReq src).idleCond = true → s.rd K.wakeEnable ≠ 0 → t.pw.entering = true)) ∧
  (∀ s, s.pw.entering = true → s.operational = true →
    ∃ t, exec (.dormantLatch) s = .next t ∧
      t.rd K.deviceState = devDormant ∧
      t.rd K.dormantEntry = (s.datum : Nat) ∧
      t.rd K.padsHeld = 1 ∧
      t.pw.entering = false) ∧
  (∀ code at_ v edges s, s.wakeMatches code at_ v = true → s.wakeEnabled code = true → s.pw.entering = true →
    ∃ t, exec (.wakeSourceFire code at_ v edges) s = .next t ∧
      t.rd K.lastWakeSource = (code : Nat) ∧
      t.pw.entering = false ∧
      t.ports.ready = true) ∧
  (∀ code at_ v edges s, s.wakeMatches code at_ v = true → s.wakeEnabled code = true → s.pw.entering = false → s.rd K.deviceState = devDormant →
    ∃ t, exec (.wakeSourceFire code at_ v edges) s = .next t ∧
      t.rd K.deviceState = devBoot ∧
      t.rd K.lastWakeSource = (code : Nat) ∧
      t.rd K.lastWakeFlags = 2 ∧
      t.datum = (s.aonTime edges).floor.toNat % 2 ^ 64) ∧
  (∀ edges s, s.wakeEnabled 7 = true → s.pw.entering = false → s.rd K.deviceState = devDormant →
    ∃ t, exec (.wakeTimerExpire edges) s = .next t ∧
      t.rd K.deviceState = devBoot ∧
      t.rd K.lastWakeSource = 7 ∧
      t.datum = (s.aonTime edges).floor.toNat % 2 ^ 64) ∧
  (∀ s, s.rd K.deviceState = devDormant →
    ∃ t, exec (.aonBrownout) s = .next t ∧
      t.rd K.deviceState = devReset ∧
      t.rd K.resetCause = 2) ∧
  (∀ src s, s.accepts src K.padRelease →
    ∃ t, exec (.padRelease src) s = .next t ∧
      t.answered src .ok ∧
      t.rd K.padsHeld = 0)

/-- (1) In OPERATIONAL a round of the slices is counted modulo 2^48 and its verdicts are shown. (2) 79.013 is answered OK and has a round. (3)
79.020 is answered OK and the test runs where nothing refuses it; else it is refused with the reason. (4) A test that runs ends with its
verdict and detail, computed from what it measured. -/
def Obligations.SelfTestComplete : Prop :=
  (∀ mask s, s.operational = true →
    ∃ t, exec (.sliceRound mask) s = .next t ∧
      t.rd K.sliceRounds = ((s.rdN K.sliceRounds + 1) % 2 ^ 48 : Nat) ∧
      t.rd K.sliceStatus = (b2n (bitOf mask 0) + b2n s.boot.spareFailed * 2 + b2n s.boot.sensorFailed * 4 + b2n (bitOf mask 3) * 8 + b2n (bitOf mask 4 && s.rd K.aonSource = 0) * 16 : Nat)) ∧
  (∀ src mask s, s.accepts src K.sliceRun → s.operational = true →
    ∃ t, exec (.sliceRun src mask) s = .next t ∧
      t.answered src .ok ∧
      t.rd K.sliceRounds = ((s.rdN K.sliceRounds + 1) % 2 ^ 48 : Nat)) ∧
  (∀ (src : Nat) (v : Int) (code target : Nat) (s : State), s.accepts src K.testRequest → code = (clampKey K.testRequest v).toNat / 256 → target = (if code ≤ 4 then (clampKey K.testRequest v).toNat % 256 else 0) →
    ∃ t, exec (.testRequest src v) s = .next t ∧
      (s.testRefusal code target = 0 → t.answered src .ok ∧ t.boot.test = some (code, target) ∧ t.rd K.testState = 1) ∧
      (s.testRefusal code target ≠ 0 → t.answered src .refused ∧ t.boot.test = s.boot.test ∧ t.rd K.testState = 4 ∧ t.rd K.testRefusal = (s.testRefusal code target : Nat))) ∧
  (∀ (vals : List Int) (code target : Nat) (s : State), s.boot.test = some (code, target) →
    ∃ t, exec (.testDone vals) s = .next t ∧
      t.boot.test = none ∧
      (t.rd K.testState = (if (targetFault code target vals).isNone then 2 else 3)) ∧
      t.rd K.testDetail = ((targetFault code target vals).getD 0 : Nat))

/-- (1) In BLANK or MANUFACTURE a root key of 1,793 bytes for a slot EMPTY or failed starts programming its digest, or, where the fuses cannot
take it, is refused with result 4. (2) In them a failed root, or an enrolled one beside another enrolled one, is revoked. (3) A root key
for an enrolled slot, with flash, is installed where its digest fits, else refused with result 4. (4) A controller certificate, with
flash, is installed where it verifies, else refused with result 8. (5) In BLANK or MANUFACTURE a certificate is removed. (6) A higher
security version is committed with a valid token, else refused with the token's fault; either way the nonce is gone. (7) A higher
controller version is committed in BLANK or MANUFACTURE. (8) With a VALID controller in MANUFACTURE or FIELD the signing policy is fused
with a valid token, else refused. (9) Programming ends: its fuses are blown, or it was cut and they are as a cut leaves them. -/
def Obligations.KeyOperationsComplete : Prop :=
  (∀ src slot vaux s, s.accepts src K.keyCmd → s.sec.fuseOp = none → s.fuse.lifecycle ≤ 1 → slot < 4 → (s.root slot).state = 0 ∨ (s.root slot).state = 3 → (s.blob K.keyStage).length = 1793 → 3200 ≤ vaux →
    ∃ t, exec (.enrollRoot src slot vaux) s = .next t ∧
      (blownIn (s.root slot).digest (Config.shake256 (s.blob K.keyStage) 64) = true → t.answered src .ok ∧ t.sec.fuseOp = some (.enroll slot (Config.shake256 (s.blob K.keyStage) 64))) ∧
      (blownIn (s.root slot).digest (Config.shake256 (s.blob K.keyStage) 64) = false → t.answered src .refused ∧ t.rd K.keyResult = 4 ∧ t.fuse = s.fuse)) ∧
  (∀ src slot vaux s, s.accepts src K.keyCmd → s.sec.fuseOp = none → s.fuse.lifecycle ≤ 1 → slot < 4 → (s.root slot).state = 3 ∨ ((s.root slot).state = 1 ∧ (List.range 4).any (fun i => i ≠ slot && (s.root i).state = 1) = true) → 3200 ≤ vaux →
    ∃ t, exec (.revokeRoot src slot vaux) s = .next t ∧
      t.answered src .ok ∧
      t.sec.fuseOp = some (.revoke slot)) ∧
  (∀ src slot s, s.accepts src K.keyCmd → slot < 4 → (s.root slot).state = 1 → s.flash.present = true →
    ∃ t, exec (.installRootKey src slot) s = .next t ∧
      (Config.shake256 (s.blob K.keyStage) 64 = (s.root slot).digest → t.answered src .ok ∧ t.flash.rootKeys = s.flash.rootKeys.set slot (s.blob K.keyStage) ∧ t.rd K.keyResult = 0) ∧
      (Config.shake256 (s.blob K.keyStage) 64 ≠ (s.root slot).digest → t.answered src .refused ∧ t.flash = s.flash ∧ t.rd K.keyResult = 4)) ∧
  (∀ src slot s, s.accepts src K.keyCmd → slot < 8 → s.flash.present = true →
    ∃ t, exec (.installController src slot) s = .next t ∧
      (s.certOk (s.blob K.ctrlStage) slot = true → t.answered src .ok ∧ t.flash.certs = s.flash.certs.set slot (s.blob K.ctrlStage) ∧ t.rd (K.ctrlState slot) = 1) ∧
      (s.certOk (s.blob K.ctrlStage) slot = false → t.answered src .refused ∧ t.flash = s.flash ∧ t.rd K.keyResult = 8)) ∧
  (∀ src slot s, s.accepts src K.keyCmd → slot < 8 → s.fuse.lifecycle ≤ 1 → s.flash.present = true →
    ∃ t, exec (.removeController src slot) s = .next t ∧
      t.answered src .ok ∧
      t.flash.certs = s.flash.certs.set slot [] ∧
      t.rd (K.ctrlState slot) = 0) ∧
  (∀ src slot vaux s, s.accepts src K.keyCmd → s.sec.fuseOp = none → slot < 8 → s.fuse.secverMin < min (mfest s.cores.running 12 4) 63 → 3200 ≤ vaux →
    ∃ t, exec (.commitSecver src slot vaux) s = .next t ∧
      (s.tokenFault (s.blob K.keyAuth) 6 slot [] = 0 → t.answered src .ok ∧ t.sec.fuseOp = some (.secver (min (mfest s.cores.running 12 4) 63)) ∧ t.sec.nonce = []) ∧
      (s.tokenFault (s.blob K.keyAuth) 6 slot [] ≠ 0 → t.answered src .refused ∧ t.rd K.keyResult = (4 + s.tokenFault (s.blob K.keyAuth) 6 slot [] : Nat) ∧ t.sec.nonce = [])) ∧
  (∀ src slot vaux s, s.accepts src K.keyCmd → s.sec.fuseOp = none → slot < 8 → s.fuse.lifecycle ≤ 1 → s.fuse.ctrlVerMin < min (beNat ((s.blob K.keyStage).take 4)) 31 → 3200 ≤ vaux →
    ∃ t, exec (.commitCtrlVersion src slot vaux) s = .next t ∧
      t.answered src .ok ∧
      t.sec.fuseOp = some (.ctrlVer (min (beNat ((s.blob K.keyStage).take 4)) 31))) ∧
  (∀ src slot vaux s, s.accepts src K.keyCmd → s.sec.fuseOp = none → slot < 8 → s.fuse.lifecycle = 1 ∨ s.fuse.lifecycle = 2 → (List.range 8).any (fun i => s.rd (K.ctrlState i) = 1) = true → 3200 ≤ vaux →
    ∃ t, exec (.fuseSignPolicy src slot vaux) s = .next t ∧
      (s.tokenFault (s.blob K.keyAuth) 8 slot [] = 0 → t.answered src .ok ∧ t.sec.fuseOp = some .signPolicy) ∧
      (s.tokenFault (s.blob K.keyAuth) 8 slot [] ≠ 0 → t.answered src .refused ∧ t.fuse = s.fuse)) ∧
  (∀ (ok : Bool) (op : FuseOp) (s : State), s.sec.fuseOp = some op →
    ∃ t, exec (.fuseProgrammingDone ok) s = .next t ∧
      t.sec.fuseOp = none ∧
      (ok = true → t.fuse = s.fuse.blown s.flash.idPub op) ∧
      (ok = false → t.fuse = s.cutFuses))

/-- (1) A lifecycle transition that nothing refuses is answered OK and starts its programming; else it is refused with its reason. (2) In
MANUFACTURE, unsealed and with VAUX up, an identity is generated and its programming starts. (3) A nonce expires. (4) An attestation is
refused while one is busy, or without an identity, with its reason; else it is answered OK and latches its report. (5) A busy attestation
with an identity is ready, with that report first in its BLOB. -/
def Obligations.LifecycleAndIdentityComplete : Prop :=
  (∀ (src : Nat) (v : Int) (vaux target : Nat) (s : State), s.accepts src K.lcTransition → s.sec.fuseOp = none → target = (if 1 ≤ v ∧ v ≤ 4 then v.toNat else 0) →
    ∃ t, exec (.lcTransition src v vaux) s = .next t ∧
      ((s.lcRefusal target vaux).1 = 0 → t.answered src .ok ∧ t.sec.fuseOp = some (.lifecycle target src)) ∧
      ((s.lcRefusal target vaux).1 ≠ 0 → t.answered src .refused ∧ t.rd K.lcResult = ((s.lcRefusal target vaux).1 : Nat) ∧ t.fuse = s.fuse)) ∧
  (∀ src vaux s, s.accepts src K.idGenerate → s.sec.fuseOp = none → s.fuse.idSeal = false → s.fuse.lifecycle = 1 → 3200 ≤ vaux →
    ∃ t, exec (.idGenerate src vaux) s = .next t ∧
      t.answered src .ok ∧
      t.sec.fuseOp = some .identity ∧
      (s.flash.present = true → s.flash.identity = none → t.flash.identity.isSome = true)) ∧
  (∀ s,
    ∃ t, exec (.nonceExpire) s = .next t ∧
      t.sec.nonce = []) ∧
  (∀ src s, s.accepts src K.attRequest →
    ∃ t, exec (.attRequest src) s = .next t ∧
      (s.rd K.attState = 1 → t.answered src .refused ∧ t.rd K.attRefusal = 1) ∧
      (s.rd K.attState ≠ 1 → s.rd K.idState ≠ 1 → t.answered src .refused ∧ t.rd K.attState = 3 ∧ t.rd K.attRefusal = 2) ∧
      (s.rd K.attState ≠ 1 → s.rd K.idState = 1 → t.answered src .ok ∧ t.rd K.attState = 1 ∧ t.sec.att = (s.accepted src).attReport)) ∧
  (∀ (seed : Nat) (tweak : Bool) (s : State), s.rd K.attState = 1 → s.flash.identity = some (seed, tweak) →
    ∃ t, exec (.attReady) s = .next t ∧
      t.rd K.attState = 2 ∧
      (t.blob K.attReport).take s.sec.att.length = s.sec.att)

/-- (1) While the debug port answers: EXTEST is selected. (2) IDCODE is selected, with the code of the device. (3) SAMPLE_PRELOAD is selected.
(4) BYPASS is selected, with 0. (5) A test engine's instruction is selected and recorded in MANUFACTURE and RETURN; elsewhere it is
BYPASS. (6) CORE_SEL is selected and takes the core. (7) CORE_HALT halts a running selected core, with 64 its data. (8) CORE_STEP of a
core held without fault, wait or burst, at a NOP, goes to the next instruction and holds the core. (9) CORE_RESUME lets a held core run,
in FAULT where it has a fault. (10) CORE_ACCESS of a G register of a held or HALTED core writes it, or gives it and changes none, and is
recorded. -/
def Obligations.DebugPortComplete : Prop :=
  (∀ s, s.debugOpen = true →
    ∃ t, exec (.extest) s = .next t ∧
      t.dbg.ir = 0) ∧
  (∀ s, s.debugOpen = true →
    ∃ t, exec (.idcode) s = .next t ∧
      t.dbg.ir = 1 ∧
      (t.dbg.data = (if s.fuse.fgv1608 then 0x11608A4F else 0x13208A4F))) ∧
  (∀ s, s.debugOpen = true →
    ∃ t, exec (.samplePreload) s = .next t ∧
      t.dbg.ir = 2) ∧
  (∀ s, s.debugOpen = true →
    ∃ t, exec (.bypass) s = .next t ∧
      t.dbg.ir = 0xFF ∧
      t.dbg.data = 0) ∧
  (∀ op s, s.debugOpen = true →
    ∃ t, exec (.testEngine op) s = .next t ∧
      ((s.fuse.lifecycle = 1 ∨ s.fuse.lifecycle = 3) → t.dbg.ir = 0x40 + op % 64 ∧ bitOf (t.rdN K.debugSeen) 1 = true) ∧
      (¬(s.fuse.lifecycle = 1 ∨ s.fuse.lifecycle = 3) → t.dbg.ir = 0xFF ∧ t.rd K.debugSeen = s.rd K.debugSeen)) ∧
  (∀ c s, s.debugOpen = true →
    ∃ t, exec (.coreSel c) s = .next t ∧
      t.dbg.ir = 0x20 ∧
      t.dbg.sel = c % 256) ∧
  (∀ s, s.debugOpen = true → s.dbg.sel < 68 → s.rd (K.coreState s.dbg.sel) = 1 ∨ s.rd (K.coreState s.dbg.sel) = 2 →
    ∃ t, exec (.coreHalt) s = .next t ∧
      t.rd (K.coreState s.dbg.sel) = 4 ∧
      t.dbg.ir = 0x21 ∧
      t.dbg.data = 64) ∧
  (∀ s, s.debugOpen = true → s.dbg.sel < 68 → s.dbg.sel < s.cores.cores.length → s.rd (K.coreState s.dbg.sel) = 4 → (s.core s.dbg.sel).fault = 0 → (s.core s.dbg.sel).waiting = none → (s.core s.dbg.sel).burst = none → s.integ.refetch.any (fun e => e.1 = s.dbg.sel) = false → (s.core s.dbg.sel).word (s.core s.dbg.sel).pc = 0 →
    ∃ t, exec (.coreStep) s = .next t ∧
      t.rd (K.coreState s.dbg.sel) = 4 ∧
      (t.core s.dbg.sel).pc = (loopEnd (s.core s.dbg.sel).pc (s.core s.dbg.sel).loops).1 % 8192 ∧
      (t.core s.dbg.sel).g = (s.core s.dbg.sel).g) ∧
  (∀ s, s.debugOpen = true → s.dbg.sel < 68 → s.rd (K.coreState s.dbg.sel) = 4 →
    ∃ t, exec (.coreResume) s = .next t ∧
      t.rd (K.coreState s.dbg.sel) = (if (s.core s.dbg.sel).fault ≠ 0 then 2 else 1)) ∧
  (∀ w s, s.debugOpen = true → s.dbg.sel < 68 → s.dbg.sel < s.cores.cores.length → s.rd (K.coreState s.dbg.sel) = 3 ∨ s.rd (K.coreState s.dbg.sel) = 4 → bitsOf w 62 60 = 0 →
    ∃ t, exec (.coreAccess w) s = .next t ∧
      (bitOf w 63 = true → (t.core s.dbg.sel).g = (s.core s.dbg.sel).g.set (bitsOf w 47 32 % 16) (BitVec.ofNat 32 w)) ∧
      (bitOf w 63 = false → t.dbg.data = ((s.core s.dbg.sel).gr (bitsOf w 47 32)).toNat ∧ (t.core s.dbg.sel).g = (s.core s.dbg.sel).g) ∧
      bitOf (t.rdN K.debugSeen) 0 = true)

/-- (1) Stable supplies take the device from OFF into RESET with cause 1. (2) A loss of the supplies leads to OFF. (3) A dip of some supply
but VAUX resets the device with cause 1 and the supplies as detail. (4) A dip of VAUX leads to OFF. (5) RESET_N resets it with cause 3,
and the datum stays. (6) 01.008 is answered OK and resets it with cause 6 and the source as detail. (7) The datum of a reset is captured
once, and the always-on count begins from it, to 1/64 ns. (8) With all supplies up release leads from RESET to BOOT, stage 0. (9) The end
of calibration leads to stage 2, or 3 on a wake. (10) The strap read shows each strap's level and leads to stage 3. (11) A self-test with
a failure leaves the device in SAFE, shows the failures and the first, and the ports are ready. (12) One without, with flash as boot
source, leads to the verification of the recorded slot, or without flash to FW_WAIT with result 3. (13) Verification ends: its bundle runs
and the device is OPERATIONAL; without flash the other slot follows, and then FW_WAIT with result 2. (14) 01.020 is answered OK and every
surveyor core with an image that is not loaded into a state runs. -/
def Obligations.StartupComplete : Prop :=
  (∀ s, s.rd K.deviceState = devOff →
    ∃ t, exec (.suppliesStable) s = .next t ∧
      t.rd K.deviceState = devReset ∧
      t.rd K.resetCause = 1 ∧
      t.boot.rails = 31) ∧
  (∀ s,
    ∃ t, exec (.supplyLoss) s = .next t ∧
      t.rd K.deviceState = devOff ∧
      t.boot.vauxUp = false) ∧
  (∀ mask s, bitOf (mask % 32) 4 = false → mask % 32 ≠ 0 → s.resettable = true →
    ∃ t, exec (.supplyDip mask) s = .next t ∧
      t.rd K.deviceState = devReset ∧
      t.rd K.resetCause = 1 ∧
      t.rd K.resetDetail = (mask % 32 : Nat) ∧
      t.boot.rails = s.boot.rails &&& (31 - mask % 32)) ∧
  (∀ mask s, bitOf (mask % 32) 4 = true →
    ∃ t, exec (.supplyDip mask) s = .next t ∧
      t.rd K.deviceState = devOff) ∧
  (∀ edges s, s.resettable = true → s.rd K.deviceState ≠ devReset → s.rd K.deviceState ≠ devDormant →
    ∃ t, exec (.resetNAssert edges) s = .next t ∧
      t.rd K.deviceState = devReset ∧
      t.rd K.resetCause = 3 ∧
      t.datum = s.datum) ∧
  (∀ src s, s.accepts src K.swReset →
    ∃ t, exec (.swReset src) s = .next t ∧
      t.answered src .ok ∧
      t.rd K.deviceState = devReset ∧
      t.rd K.resetCause = 6 ∧
      t.rd K.resetDetail = (src : Nat)) ∧
  (∀ s, s.boot.capture = true → s.rd K.resetTime = 0 →
    ∃ t, exec (.resetDatumCapture) s = .next t ∧
      t.rd K.resetTime = (s.datum : Nat) ∧
      t.tv.aonAcc = ((s.now * 64).floor : Rat) / 64) ∧
  (∀ s, s.rd K.deviceState = devReset → s.boot.rails % 32 = 31 →
    ∃ t, exec (.resetRelease) s = .next t ∧
      t.rd K.deviceState = devBoot ∧
      t.rd K.bootStage = 0 ∧
      t.boot.released = s.datum) ∧
  (∀ s, s.rd K.deviceState = devBoot → s.rd K.bootStage ≤ 1 →
    ∃ t, exec (.bootHkCalDone) s = .next t ∧
      t.rd K.bootStage = (if s.boot.waking then 3 else 2)) ∧
  (∀ uv s, s.rd K.deviceState = devBoot → s.rd K.bootStage = 2 →
    ∃ t, exec (.strapReadDone uv) s = .next t ∧
      t.rd K.bootStage = 3 ∧
      (∀ q : Nat, q < 8 → t.rd (K.strapLevel q) = (strapLevelOf (nth uv q 0) : Nat)) ∧
      t.rd K.straps = (((List.range 8).map (fun q => strapLevelOf (nth uv q 0) * 8 ^ q)).sum : Nat)) ∧
  (∀ vals time edges s, s.rd K.deviceState = devBoot → s.rd K.bootStage = 3 → s.testsFailed vals ≠ 0 →
    ∃ t, exec (.selfTestDone vals time edges) s = .next t ∧
      t.rd K.deviceState = devSafe ∧
      t.rd K.bistResult = (s.testsFailed vals : Nat) ∧
      t.rd K.bistFirst = (lowestBit (s.testsFailed vals) : Nat) ∧
      t.ports.ready = true) ∧
  (∀ vals time edges s, s.rd K.deviceState = devBoot → s.rd K.bootStage = 3 → s.testsFailed vals = 0 → s.boot.waking = false → s.fuse.lifecycle ≠ 0 → s.fuse.lifecycle ≠ 4 → s.rd K.bootSource = 1 →
    ∃ t, exec (.selfTestDone vals time edges) s = .next t ∧
      (s.flash.present = true → t.rd K.bootStage = 4 ∧ t.boot.verify = some s.flash.record.2) ∧
      (s.flash.present = false → t.rd K.bootStage = 5 ∧ t.rd K.bootResult = 3) ∧
      t.ports.ready = true) ∧
  (∀ (slot : Nat) (s : State), s.boot.verify = some slot → s.rd K.deviceState = devBoot → s.rd K.bootStage = 4 →
    ∃ t, exec (.fwVerifyDone) s = .next t ∧
      (s.flash.present = true → s.verifyBundle slot = none → t.rd K.deviceState = devOperational ∧ t.cores.running = (s.slot slot).manifest ∧ t.rd K.bootResult = (if s.boot.fellBack then 1 else 0)) ∧
      (s.flash.present = false → s.boot.fromWait = false → s.boot.fellBack = false → t.boot.verify = some (1 - slot) ∧ t.boot.fellBack = true) ∧
      (s.flash.present = false → s.boot.fromWait = false → s.boot.fellBack = true → t.rd K.bootStage = 5 ∧ t.rd K.bootResult = 2)) ∧
  (∀ src s, s.accepts src K.svStart → s.operational = true →
    ∃ t, exec (.svStart src) s = .next t ∧
      t.answered src .ok ∧
      (∀ c : Nat, c < 64 → s.rd (K.coreState c) = 0 → s.rd (K.coreImage c) ≠ 255 → t.rd (K.coreState c) = 1))

/-- A step takes the command at the front of the queue and is exec of it on the state with the queue's rest; on an empty queue it is one tick.
That one nanosecond passes in an idle step is the model's choice (log entry 5). -/
def Obligations.StepRunsTheFrontCommand : Prop :=
  (∀ (s : State) (c : Instr) (rest : List Instr), s.pending = c :: rest → step s = exec c { s with pending := rest }) ∧
  (∀ s : State, s.pending = [] → step s = .next s.tick)

/-- The table's commands have no bits: the decoder of table words answers none, and a state with a fetch word is unchanged. -/
def Obligations.NoWordSpellsACommand : Prop :=
  ∀ (nbits w : Nat) (s : State), decodeTableWord nbits w = none ∧ s.withFetchWord nbits w = s

/-- Whatever command is at the front of the queue and whatever the state, the step answers a next state: a request that a check fails is
answered, a command whose conditions do not hold changes nothing. That a command whose row's condition does not hold changes nothing is the
model's choice (log entry 9). -/
def Obligations.EveryCommandGoesOn : Prop := ∀ s : State, s.goesOn

/-- After reset the Legend and BLOB stores stand in their canonical form and no fuse is being programmed. -/
def Obligations.ResetMeetsTheInvariant : Prop := State.reset.wf = true

/-- From any state whose stores, and whose retention checkpoint, are in their canonical form and whose fuse operation in progress takes no
fuse back, every step, of any command or an idle one, leads to such a state. -/
def Obligations.EveryStepKeepsTheInvariant : Prop :=
  ∀ s t : State, s.wf = true → step s = .next t → t.wf = true

/-- From any state that meets the invariant no step unblows a fuse: digests, seals, revocations, the signing policy and the key tweak stay
blown, the version floors and the lifecycle do not fall, and the part and its serial number stay. -/
def Obligations.NoStepUnblowsAFuse : Prop :=
  ∀ s t : State, s.wf = true → step s = .next t → s.fuse.kept t.fuse

/-- The frame of every command: when exec gives a next state, every Legend element outside the listed entries, every other listed kind of
state (stores, events, ports, editions, carriers, clocks, host, converters, Traverse, field book, thermal, power, always-on, integrity, boot,
cores, fuses, flash, security, debug, datum) and the waiting commands are as before. -/
def Obligations.CommandsChangeOnlyTheirParts : Prop :=
  ∀ (i : Instr) (s t : State), exec i s = .next t → State.within (parts i) s t

/-- An RW write that no other rule acts on leaves every other Legend element as it was, but the number of journal records and the request
counter of the port it came by; and no BLOB entry changes. -/
def Obligations.PlainWriteFrame : Prop :=
  ∀ (src : Nat) (k : Key) (v : Int) (s t : State),
    ¬ k.area ∈ [0x02, 0x10, 0x50, 0x60, 0x62, 0x68, 0x71] → exec (.registerWrite src k v) s = .next t →
      t.blobs = s.blobs ∧
      ∀ j, j ≠ canonKey k → j ≠ K.journalRecords → (∀ p, portOf src = some p → j ≠ K.requestCount p) → t.rd j = s.rd j

/-- Read and write requests that reach the store: a key that no chapter's table lists is answered NO_KEY, an index beyond an entry's last
element INDEX (a non-array entry has one element), and keys of carrier B exist on both parts. The lifecycle has the say before the table does in
END and for area 7F (17 R425), which the hypotheses leave out. -/
def Obligations.UnknownKeysAndIndices : Prop :=
  (∀ (src : Nat) (k : Key) (s : State),
    s.portOpen src = true → s.portsDead = false → s.ports.ready = true → s.fuse.lifecycle ≠ 4 → k.area ≠ 0x7F → rowOf (canonKey k) = none →
      (∀ (draft : Bool) (off len : Nat), (s.requestRead src k draft off len).answered src .noKey) ∧
      (∀ (off total meas : Nat) (data : List Byte), (s.requestWrite src k off total data meas).answered src .noKey)) ∧
  (∀ (src : Nat) (k : Key) (r : Row) (s : State),
    s.portOpen src = true → s.portsDead = false → s.ports.ready = true → s.fuse.lifecycle ≠ 4 → k.area ≠ 0x7F →
    rowOf (canonKey k) = some r → r.count ≤ k.idx →
      (∀ (draft : Bool) (off len : Nat), (s.requestRead src k draft off len).answered src .index) ∧
      (∀ (off total meas : Nat) (data : List Byte), (s.requestWrite src k off total data meas).answered src .index)) ∧
  (∀ (k : Key) (w b : Bool) (s : State), ({ s with fuse := { s.fuse with fgv1608 := b } } : State).gate k w = s.gate k w)

/-- The value that 20.060[i] or 20.061[i] takes from a written value: each half of a coefficient is within its range whatever it is, and each
half of an index entry goes to the nearest of -1,023 to 1,023, whatever the other half holds. -/
def Obligations.PackedFieldsClamp : Prop :=
  ∀ (c : Carrier) (i hi lo : Nat), hi < 2 ^ 16 → lo < 2 ^ 16 →
    clampKey (K.nlcCoef c i) (hi * 2 ^ 16 + lo : Nat) = (hi * 2 ^ 16 + lo : Nat) ∧
    clampKey (K.nlcIndex c i) (hi * 2 ^ 16 + lo : Nat) =
      (ofSigned 16 (clampInt (toSigned 16 hi) (-1023) 1023) * 2 ^ 16 + ofSigned 16 (clampInt (toSigned 16 lo) (-1023) 1023) : Nat)

/-- An accepted swap request of a channel that reads OFF, STOPPED or NO_INPUT: the sheet that was inactive holds the staging taps and is active,
and no fade runs. -/
def Obligations.SwapWithoutFade : Prop :=
  ∀ src y s, s.accepts src (K.sheetSwap y) → y < s.hk.mf.length → s.mfStateNow y = 0 ∨ s.mfStateNow y = 1 ∨ s.mfStateNow y = 2 →
    ∃ t, exec (.mfSheetSwap src y) s = .next t ∧
      t.sheetTaps y (1 - (s.mfc y).active) = s.stageTaps y ∧
      (t.mfc y).active = 1 - (s.mfc y).active ∧
      (t.mfc y).fade = none

/-- FUSE_SIGN_POLICY outside MANUFACTURE and FIELD, or with no controller slot VALID, is refused and starts no programming; with a token that
R431 accepts the code in 7A.00B is LIFECYCLE or NO_CONTROLLER (a token that fails gives its own code, 17 R429). -/
def Obligations.SignPolicyConditions : Prop :=
  (∀ src slot vaux s, s.accepts src K.keyCmd → s.sec.fuseOp = none → slot < 8 → s.fuse.lifecycle ≠ 1 → s.fuse.lifecycle ≠ 2 →
    ∃ t, exec (.fuseSignPolicy src slot vaux) s = .next t ∧
      t.answered src .refused ∧
      t.sec.fuseOp = none ∧
      (s.tokenFault (s.blob K.keyAuth) 8 slot [] = 0 → t.rd K.keyResult = 0x0B)) ∧
  (∀ src slot vaux s, s.accepts src K.keyCmd → s.sec.fuseOp = none → slot < 8 → s.fuse.lifecycle = 1 ∨ s.fuse.lifecycle = 2 → (List.range 8).any (fun i => s.rd (K.ctrlState i) = 1) = false →
    ∃ t, exec (.fuseSignPolicy src slot vaux) s = .next t ∧
      t.answered src .refused ∧
      t.sec.fuseOp = none ∧
      (s.tokenFault (s.blob K.keyAuth) 8 slot [] = 0 → t.rd K.keyResult = 0x0A))

/-- The addressing of memory instructions: LDW and STW drop address bits 1:0, LDC and STC bits 2:0, ZL bits 4:0; the post-modify adds Om modulo
65,536 while Ln is 0 and wraps inside the aligned block of Ln bytes otherwise; MVX rounds a length down to a power of two from 8 to 32,768, or
to 0 below 8; CMACM uses A0 with O0 and A1 with O1. -/
def Obligations.CircularAddressing : Prop :=
  (∀ (x : Core) (n m : Nat), n < 4 → m < 4 → x.a.length = 4 → nth x.l n 0 = 0 →
    (nth (x.postModify n m).a n 0).toNat = (x.ar n + (nth x.o m (0 : BitVec 16)).toNat) % 65536) ∧
  (∀ (x : Core) (n m k : Nat), n < 4 → m < 4 → x.a.length = 4 → 3 ≤ k → k ≤ 15 → nth x.l n 0 = BitVec.ofNat 16 (2 ^ k) →
    nth (x.postModify n m).a n 0 =
      (nth x.a n 0 &&& ~~~(nth x.l n 0 - 1)) ||| ((nth x.a n 0 + nth x.o m 0) &&& (nth x.l n 0 - 1)) ∧
    (nth (x.postModify n m).a n 0).toNat =
      x.ar n / 2 ^ k * 2 ^ k + (x.ar n + (nth x.o m (0 : BitVec 16)).toNat) % 2 ^ k) ∧
  (∀ (c n u : Nat) (s : State), s.coreLive c = true → c < s.cores.cores.length → n < 4 → u < 16 →
    ∃ t, exec (.mvx c (24 + n) u) s = .next t ∧
      (t.core c).l = (s.core c).l.set n (BitVec.ofNat 16 (circularLen ((s.core c).gr u).toInt))) ∧
  (∀ v : Int, v < 8 → circularLen v = 0) ∧
  (∀ v : Int, 8 ≤ v → ∃ k, 3 ≤ k ∧ k ≤ 15 ∧ circularLen v = 2 ^ k ∧ (2 ^ k : Int) ≤ v ∧ (v < 2 ^ (k + 1) ∨ k = 15)) ∧
  (∀ (c d n m v : Nat) (noPost : Bool) (s : State), s.coreLive c = true → c < s.cores.cores.length →
    s.dload c ((s.core c).ar n / 4 * 4) 4 = some v →
    ∃ t, exec (.ldw c d n m noPost) s = .next t ∧ (t.core c).g = (s.core c).g.set (d % 16) (BitVec.ofNat 32 v) ∧
      (t.core c).a = (if noPost then (s.core c).a else ((s.core c).postModify n m).a)) ∧
  (∀ (c d n m v : Nat) (noPost : Bool) (s : State), s.coreLive c = true → c < s.cores.cores.length → d < 8 →
    s.dload c ((s.core c).ar n / 8 * 8) 8 = some v →
    ∃ t, exec (.ldc c d n m noPost) s = .next t ∧ (t.core c).d = (s.core c).d.set d (operandOf v) ∧
      (t.core c).a = (if noPost then (s.core c).a else ((s.core c).postModify n m).a)) ∧
  (∀ (c d n m : Nat) (noPost : Bool) (s : State), s.coreLive c = true → c < s.cores.cores.length →
    (s.dline c ((s.core c).ar n / 4 * 4 / 32)).isSome = true →
    ∃ t, exec (.stw c d n m noPost) s = .next t ∧ t.dload c ((s.core c).ar n / 4 * 4) 4 = some ((s.core c).gr d).toNat ∧
      (t.core c).a = (if noPost then (s.core c).a else ((s.core c).postModify n m).a)) ∧
  (∀ (c d n m : Nat) (noPost : Bool) (s : State), s.coreLive c = true → c < s.cores.cores.length → d < 8 →
    (s.dline c ((s.core c).ar n / 8 * 8 / 32)).isSome = true →
    ∃ t, exec (.stc c d n m noPost) s = .next t ∧ t.dload c ((s.core c).ar n / 8 * 8) 8 =
        some ((widen ((s.core c).dr d).1).toNat * 2 ^ 32 + (widen ((s.core c).dr d).2).toNat) ∧
      (t.core c).a = (if noPost then (s.core c).a else ((s.core c).postModify n m).a)) ∧
  (∀ (c n count i : Nat) (s : State), s.coreLive c = true → c < s.cores.cores.length → i < count % 64 + 1 →
    ∃ t, exec (.zl c n count) s = .next t ∧ t.dline c (((s.core c).ar n / 32 + i) % 2048) = some 0) ∧
  (∀ (c d : Nat) (s : State), s.coreLive c = true → d < 4 → c < s.cores.cores.length →
    (s.dload c ((s.core c).ar 0 / 8 * 8) 8).isSome = true → (s.dload c ((s.core c).ar 1 / 8 * 8) 8).isSome = true →
    ∃ t, exec (.cmacm c d) s = .next t ∧ (t.core c).a = (((s.core c).postModify 0 0).postModify 1 1).a) ∧
  (∀ x : Core, x.a = [0x0478, 0, 0, 0] → x.o = [16, 0, 0, 0] → x.l = [64, 0, 0, 0] → (x.postModify 0 0).a = [0x0448, 0, 0, 0])

/-- A frame of a time-class TYPE whose header is read has CLASS 0 whatever its header says; and the commands that originate HELLO, TIME_REQ and
TIME_RESP, and the one that starts a link's next frame, keep every time-class frame on a link at CLASS 0. -/
def Obligations.TimeClassFramesAreClassZero : Prop :=
  (∀ (bs : List Byte) (f : TvFrame), parseFrame bs = some f → f.type ≤ 2 → f.cls = 0) ∧
  (∀ (pin l : Nat) (i : Instr) (s t : State), i ∈ [.helloSend, .timeExchangeStart pin, .timeReqRx pin, .tvFrameSent l] →
    s.timeClass → exec i s = .next t → t.timeClass)

/-- Frames inside a core: an instruction that writes a G register, a D register or an accumulator leaves every other register of that kind,
every register and flag that it does not name, and all of its data memory as they were, and every other core entirely; one whose D or AC
field is undefined acts as an illegal instruction. -/
def Obligations.CoreRegisterFrames : Prop :=
  (∀ (c d u v : Nat) (imm : Int) (i : Instr) (s t : State), i ∈ [.add c d u v, .sub c d u v, .addi c d u imm] → exec i s = .next t →
    s.otherCores t c ∧ (∀ j, j ≠ d % 16 → nth (t.core c).g j 0 = nth (s.core c).g j 0) ∧
    t.core c = { (s.core c).withFlow (t.core c) with
      g := (t.core c).g, z := (t.core c).z, n := (t.core c).n, c := (t.core c).c, v := (t.core c).v }) ∧
  (∀ (c d u v : Nat) (i : Instr) (s t : State), i ∈ [.mul c d u v, .andd c d u v, .orr c d u v, .xorr c d u v] → exec i s = .next t →
    s.otherCores t c ∧ (∀ j, j ≠ d % 16 → nth (t.core c).g j 0 = nth (s.core c).g j 0) ∧
    t.core c = { (s.core c).withFlow (t.core c) with g := (t.core c).g, z := (t.core c).z, n := (t.core c).n }) ∧
  (∀ (c d u sh : Nat) (imm : Int) (i : Instr) (s t : State), i ∈ [.shl c d u sh, .shr c d u sh, .lui c d imm] → exec i s = .next t →
    s.otherCores t c ∧ (∀ j, j ≠ d % 16 → nth (t.core c).g j 0 = nth (s.core c).g j 0) ∧
    t.core c = { (s.core c).withFlow (t.core c) with g := (t.core c).g, sov := (t.core c).sov }) ∧
  (∀ (c : Nat) (s t : State), exec (.nop c) s = .next t → s.otherCores t c ∧ t.core c = (s.core c).withFlow (t.core c)) ∧
  (∀ (c d u v : Nat) (s t : State), d < 8 → exec (.mgd c d u v) s = .next t →
    s.otherCores t c ∧ (∀ j, j ≠ d → (t.core c).dr j = (s.core c).dr j) ∧
    t.core c = { (s.core c).withFlow (t.core c) with d := (t.core c).d }) ∧
  (∀ (c d u : Nat) (im : Bool) (s t : State), u < 8 → exec (.mdg c d u im) s = .next t →
    s.otherCores t c ∧ (∀ j, j ≠ d % 16 → nth (t.core c).g j 0 = nth (s.core c).g j 0) ∧
    t.core c = { (s.core c).withFlow (t.core c) with g := (t.core c).g }) ∧
  (∀ (c d u v : Nat) (i : Instr) (s t : State), d < 4 → u < 8 → v < 8 →
    i ∈ [.cmul c d u v, .cmac c d u v, .cmacj c d u v, .cmsu c d u v, .clra c d] → exec i s = .next t →
    s.otherCores t c ∧ (∀ j, j ≠ d → (t.core c).acc j = (s.core c).acc j) ∧
    t.core c = { (s.core c).withFlow (t.core c) with ac := (t.core c).ac, aov := (t.core c).aov }) ∧
  (∀ (c d u sh : Nat) (s t : State), d < 8 → u < 4 → exec (.sac c d u sh) s = .next t →
    s.otherCores t c ∧ (∀ j, j ≠ d → (t.core c).dr j = (s.core c).dr j) ∧
    t.core c = { (s.core c).withFlow (t.core c) with d := (t.core c).d, sov := (t.core c).sov }) ∧
  (∀ (c d u v sh : Nat) (im : Bool) (s : State), 8 ≤ d →
    exec (.mgd c d u v) s = exec (.illegalOpcode c) s ∧ exec (.cmul c d u v) s = exec (.illegalOpcode c) s ∧
    exec (.sac c d u sh) s = exec (.illegalOpcode c) s ∧ exec (.mdg c u d im) s = exec (.illegalOpcode c) s)

/-- Frames of memory instructions of a running core whose lines check: LDW and LDC change one register and the address register they
post-modify; STW and STC leave every byte outside their four or eight, and ZL every line outside its own, as it was; no instruction of a core
changes the data memory of another. -/
def Obligations.CoreMemoryFrames : Prop :=
  (∀ (c d n m : Nat) (noPost : Bool) (s t : State), (s.dload c ((s.core c).ar n / 4 * 4) 4).isSome = true →
    exec (.ldw c d n m noPost) s = .next t →
    s.otherCores t c ∧ (∀ j, j ≠ d % 16 → nth (t.core c).g j 0 = nth (s.core c).g j 0) ∧
    (∀ j, j ≠ n % 4 ∨ noPost = true → nth (t.core c).a j 0 = nth (s.core c).a j 0) ∧
    t.core c = { (s.core c).withFlow (t.core c) with g := (t.core c).g, a := (t.core c).a }) ∧
  (∀ (c d n m : Nat) (noPost : Bool) (s t : State), d < 8 → (s.dload c ((s.core c).ar n / 8 * 8) 8).isSome = true →
    exec (.ldc c d n m noPost) s = .next t →
    s.otherCores t c ∧ (∀ j, j ≠ d → (t.core c).dr j = (s.core c).dr j) ∧
    (∀ j, j ≠ n % 4 ∨ noPost = true → nth (t.core c).a j 0 = nth (s.core c).a j 0) ∧
    t.core c = { (s.core c).withFlow (t.core c) with d := (t.core c).d, a := (t.core c).a }) ∧
  (∀ (c d n m : Nat) (noPost : Bool) (s t : State), (s.dline c ((s.core c).ar n / 4 * 4 / 32)).isSome = true →
    exec (.stw c d n m noPost) s = .next t →
    s.otherCores t c ∧
    (∀ b, b < (s.core c).ar n / 4 * 4 ∨ (s.core c).ar n / 4 * 4 + 4 ≤ b → t.dload c b 1 = s.dload c b 1) ∧
    t.core c = { (s.core c).withFlow (t.core c) with dmem := (t.core c).dmem, a := (t.core c).a }) ∧
  (∀ (c d n m : Nat) (noPost : Bool) (s t : State), d < 8 → (s.dline c ((s.core c).ar n / 8 * 8 / 32)).isSome = true →
    exec (.stc c d n m noPost) s = .next t →
    s.otherCores t c ∧
    (∀ b, b < (s.core c).ar n / 8 * 8 ∨ (s.core c).ar n / 8 * 8 + 8 ≤ b → t.dload c b 1 = s.dload c b 1) ∧
    t.core c = { (s.core c).withFlow (t.core c) with dmem := (t.core c).dmem, a := (t.core c).a }) ∧
  (∀ (c n count line : Nat) (s t : State), exec (.zl c n count) s = .next t →
    (∀ i, i < count % 64 + 1 → line ≠ ((s.core c).ar n / 32 + i) % 2048) →
    s.otherCores t c ∧ t.dline c line = s.dline c line ∧
    t.core c = { (s.core c).withFlow (t.core c) with dmem := (t.core c).dmem, a := (t.core c).a })

end
end

