-- ==== Sys2Proof/Laws/State.lean ====
section
/-! SUPPORT. One lemma per field of State per basic update: what the update leaves, and what the field it changes becomes. -/

namespace Sys2Proof.Machine

variable (s : State)

/-! ### State.wr -/

@[simp] theorem State.wr_blobs (k : Key) (v : Int) : (s.wr k v).blobs = s.blobs := rfl
@[simp] theorem State.wr_ev (k : Key) (v : Int) : (s.wr k v).ev = s.ev := rfl
@[simp] theorem State.wr_ports (k : Key) (v : Int) : (s.wr k v).ports = s.ports := rfl
@[simp] theorem State.wr_ed (k : Key) (v : Int) : (s.wr k v).ed = s.ed := rfl
@[simp] theorem State.wr_carA (k : Key) (v : Int) : (s.wr k v).carA = s.carA := rfl
@[simp] theorem State.wr_carB (k : Key) (v : Int) : (s.wr k v).carB = s.carB := rfl
@[simp] theorem State.wr_clk (k : Key) (v : Int) : (s.wr k v).clk = s.clk := rfl
@[simp] theorem State.wr_host (k : Key) (v : Int) : (s.wr k v).host = s.host := rfl
@[simp] theorem State.wr_hk (k : Key) (v : Int) : (s.wr k v).hk = s.hk := rfl
@[simp] theorem State.wr_tv (k : Key) (v : Int) : (s.wr k v).tv = s.tv := rfl
@[simp] theorem State.wr_fb (k : Key) (v : Int) : (s.wr k v).fb = s.fb := rfl
@[simp] theorem State.wr_th (k : Key) (v : Int) : (s.wr k v).th = s.th := rfl
@[simp] theorem State.wr_pw (k : Key) (v : Int) : (s.wr k v).pw = s.pw := rfl
@[simp] theorem State.wr_aon (k : Key) (v : Int) : (s.wr k v).aon = s.aon := rfl
@[simp] theorem State.wr_integ (k : Key) (v : Int) : (s.wr k v).integ = s.integ := rfl
@[simp] theorem State.wr_boot (k : Key) (v : Int) : (s.wr k v).boot = s.boot := rfl
@[simp] theorem State.wr_cores (k : Key) (v : Int) : (s.wr k v).cores = s.cores := rfl
@[simp] theorem State.wr_fuse (k : Key) (v : Int) : (s.wr k v).fuse = s.fuse := rfl
@[simp] theorem State.wr_flash (k : Key) (v : Int) : (s.wr k v).flash = s.flash := rfl
@[simp] theorem State.wr_sec (k : Key) (v : Int) : (s.wr k v).sec = s.sec := rfl
@[simp] theorem State.wr_dbg (k : Key) (v : Int) : (s.wr k v).dbg = s.dbg := rfl
@[simp] theorem State.wr_datum (k : Key) (v : Int) : (s.wr k v).datum = s.datum := rfl
@[simp] theorem State.wr_freeCtr (k : Key) (v : Int) : (s.wr k v).freeCtr = s.freeCtr := rfl
@[simp] theorem State.wr_pending (k : Key) (v : Int) : (s.wr k v).pending = s.pending := rfl

/-! ### State.setBlob -/

@[simp] theorem State.setBlob_leg (k : Key) (bs : List Byte) : (s.setBlob k bs).leg = s.leg := rfl
@[simp] theorem State.setBlob_ev (k : Key) (bs : List Byte) : (s.setBlob k bs).ev = s.ev := rfl
@[simp] theorem State.setBlob_ports (k : Key) (bs : List Byte) : (s.setBlob k bs).ports = s.ports := rfl
@[simp] theorem State.setBlob_ed (k : Key) (bs : List Byte) : (s.setBlob k bs).ed = s.ed := rfl
@[simp] theorem State.setBlob_carA (k : Key) (bs : List Byte) : (s.setBlob k bs).carA = s.carA := rfl
@[simp] theorem State.setBlob_carB (k : Key) (bs : List Byte) : (s.setBlob k bs).carB = s.carB := rfl
@[simp] theorem State.setBlob_clk (k : Key) (bs : List Byte) : (s.setBlob k bs).clk = s.clk := rfl
@[simp] theorem State.setBlob_host (k : Key) (bs : List Byte) : (s.setBlob k bs).host = s.host := rfl
@[simp] theorem State.setBlob_hk (k : Key) (bs : List Byte) : (s.setBlob k bs).hk = s.hk := rfl
@[simp] theorem State.setBlob_tv (k : Key) (bs : List Byte) : (s.setBlob k bs).tv = s.tv := rfl
@[simp] theorem State.setBlob_fb (k : Key) (bs : List Byte) : (s.setBlob k bs).fb = s.fb := rfl
@[simp] theorem State.setBlob_th (k : Key) (bs : List Byte) : (s.setBlob k bs).th = s.th := rfl
@[simp] theorem State.setBlob_pw (k : Key) (bs : List Byte) : (s.setBlob k bs).pw = s.pw := rfl
@[simp] theorem State.setBlob_aon (k : Key) (bs : List Byte) : (s.setBlob k bs).aon = s.aon := rfl
@[simp] theorem State.setBlob_integ (k : Key) (bs : List Byte) : (s.setBlob k bs).integ = s.integ := rfl
@[simp] theorem State.setBlob_boot (k : Key) (bs : List Byte) : (s.setBlob k bs).boot = s.boot := rfl
@[simp] theorem State.setBlob_cores (k : Key) (bs : List Byte) : (s.setBlob k bs).cores = s.cores := rfl
@[simp] theorem State.setBlob_fuse (k : Key) (bs : List Byte) : (s.setBlob k bs).fuse = s.fuse := rfl
@[simp] theorem State.setBlob_flash (k : Key) (bs : List Byte) : (s.setBlob k bs).flash = s.flash := rfl
@[simp] theorem State.setBlob_sec (k : Key) (bs : List Byte) : (s.setBlob k bs).sec = s.sec := rfl
@[simp] theorem State.setBlob_dbg (k : Key) (bs : List Byte) : (s.setBlob k bs).dbg = s.dbg := rfl
@[simp] theorem State.setBlob_datum (k : Key) (bs : List Byte) : (s.setBlob k bs).datum = s.datum := rfl
@[simp] theorem State.setBlob_freeCtr (k : Key) (bs : List Byte) : (s.setBlob k bs).freeCtr = s.freeCtr := rfl
@[simp] theorem State.setBlob_pending (k : Key) (bs : List Byte) : (s.setBlob k bs).pending = s.pending := rfl

/-! ### State.tookFree -/

@[simp] theorem State.tookFree_leg : (s.tookFree).leg = s.leg := rfl
@[simp] theorem State.tookFree_blobs : (s.tookFree).blobs = s.blobs := rfl
@[simp] theorem State.tookFree_ev : (s.tookFree).ev = s.ev := rfl
@[simp] theorem State.tookFree_ports : (s.tookFree).ports = s.ports := rfl
@[simp] theorem State.tookFree_ed : (s.tookFree).ed = s.ed := rfl
@[simp] theorem State.tookFree_carA : (s.tookFree).carA = s.carA := rfl
@[simp] theorem State.tookFree_carB : (s.tookFree).carB = s.carB := rfl
@[simp] theorem State.tookFree_clk : (s.tookFree).clk = s.clk := rfl
@[simp] theorem State.tookFree_host : (s.tookFree).host = s.host := rfl
@[simp] theorem State.tookFree_hk : (s.tookFree).hk = s.hk := rfl
@[simp] theorem State.tookFree_tv : (s.tookFree).tv = s.tv := rfl
@[simp] theorem State.tookFree_fb : (s.tookFree).fb = s.fb := rfl
@[simp] theorem State.tookFree_th : (s.tookFree).th = s.th := rfl
@[simp] theorem State.tookFree_pw : (s.tookFree).pw = s.pw := rfl
@[simp] theorem State.tookFree_aon : (s.tookFree).aon = s.aon := rfl
@[simp] theorem State.tookFree_integ : (s.tookFree).integ = s.integ := rfl
@[simp] theorem State.tookFree_boot : (s.tookFree).boot = s.boot := rfl
@[simp] theorem State.tookFree_cores : (s.tookFree).cores = s.cores := rfl
@[simp] theorem State.tookFree_fuse : (s.tookFree).fuse = s.fuse := rfl
@[simp] theorem State.tookFree_flash : (s.tookFree).flash = s.flash := rfl
@[simp] theorem State.tookFree_sec : (s.tookFree).sec = s.sec := rfl
@[simp] theorem State.tookFree_dbg : (s.tookFree).dbg = s.dbg := rfl
@[simp] theorem State.tookFree_datum : (s.tookFree).datum = s.datum := rfl
@[simp] theorem State.tookFree_pending : (s.tookFree).pending = s.pending := rfl

/-! ### State.modCore -/

@[simp] theorem State.modCore_leg (c : Nat) (f : Core → Core) : (s.modCore c f).leg = s.leg := rfl
@[simp] theorem State.modCore_blobs (c : Nat) (f : Core → Core) : (s.modCore c f).blobs = s.blobs := rfl
@[simp] theorem State.modCore_ev (c : Nat) (f : Core → Core) : (s.modCore c f).ev = s.ev := rfl
@[simp] theorem State.modCore_ports (c : Nat) (f : Core → Core) : (s.modCore c f).ports = s.ports := rfl
@[simp] theorem State.modCore_ed (c : Nat) (f : Core → Core) : (s.modCore c f).ed = s.ed := rfl
@[simp] theorem State.modCore_carA (c : Nat) (f : Core → Core) : (s.modCore c f).carA = s.carA := rfl
@[simp] theorem State.modCore_carB (c : Nat) (f : Core → Core) : (s.modCore c f).carB = s.carB := rfl
@[simp] theorem State.modCore_clk (c : Nat) (f : Core → Core) : (s.modCore c f).clk = s.clk := rfl
@[simp] theorem State.modCore_host (c : Nat) (f : Core → Core) : (s.modCore c f).host = s.host := rfl
@[simp] theorem State.modCore_hk (c : Nat) (f : Core → Core) : (s.modCore c f).hk = s.hk := rfl
@[simp] theorem State.modCore_tv (c : Nat) (f : Core → Core) : (s.modCore c f).tv = s.tv := rfl
@[simp] theorem State.modCore_fb (c : Nat) (f : Core → Core) : (s.modCore c f).fb = s.fb := rfl
@[simp] theorem State.modCore_th (c : Nat) (f : Core → Core) : (s.modCore c f).th = s.th := rfl
@[simp] theorem State.modCore_pw (c : Nat) (f : Core → Core) : (s.modCore c f).pw = s.pw := rfl
@[simp] theorem State.modCore_aon (c : Nat) (f : Core → Core) : (s.modCore c f).aon = s.aon := rfl
@[simp] theorem State.modCore_integ (c : Nat) (f : Core → Core) : (s.modCore c f).integ = s.integ := rfl
@[simp] theorem State.modCore_boot (c : Nat) (f : Core → Core) : (s.modCore c f).boot = s.boot := rfl
@[simp] theorem State.modCore_fuse (c : Nat) (f : Core → Core) : (s.modCore c f).fuse = s.fuse := rfl
@[simp] theorem State.modCore_flash (c : Nat) (f : Core → Core) : (s.modCore c f).flash = s.flash := rfl
@[simp] theorem State.modCore_sec (c : Nat) (f : Core → Core) : (s.modCore c f).sec = s.sec := rfl
@[simp] theorem State.modCore_dbg (c : Nat) (f : Core → Core) : (s.modCore c f).dbg = s.dbg := rfl
@[simp] theorem State.modCore_datum (c : Nat) (f : Core → Core) : (s.modCore c f).datum = s.datum := rfl
@[simp] theorem State.modCore_freeCtr (c : Nat) (f : Core → Core) : (s.modCore c f).freeCtr = s.freeCtr := rfl
@[simp] theorem State.modCore_pending (c : Nat) (f : Core → Core) : (s.modCore c f).pending = s.pending := rfl

/-! ### State.reply -/

@[simp] theorem State.reply_leg (src : Nat) (st : Status) (d : List Byte) (n : Nat) : (s.reply src st d n).leg = s.leg := rfl
@[simp] theorem State.reply_blobs (src : Nat) (st : Status) (d : List Byte) (n : Nat) : (s.reply src st d n).blobs = s.blobs := rfl
@[simp] theorem State.reply_ev (src : Nat) (st : Status) (d : List Byte) (n : Nat) : (s.reply src st d n).ev = s.ev := rfl
@[simp] theorem State.reply_ed (src : Nat) (st : Status) (d : List Byte) (n : Nat) : (s.reply src st d n).ed = s.ed := rfl
@[simp] theorem State.reply_carA (src : Nat) (st : Status) (d : List Byte) (n : Nat) : (s.reply src st d n).carA = s.carA := rfl
@[simp] theorem State.reply_carB (src : Nat) (st : Status) (d : List Byte) (n : Nat) : (s.reply src st d n).carB = s.carB := rfl
@[simp] theorem State.reply_clk (src : Nat) (st : Status) (d : List Byte) (n : Nat) : (s.reply src st d n).clk = s.clk := rfl
@[simp] theorem State.reply_host (src : Nat) (st : Status) (d : List Byte) (n : Nat) : (s.reply src st d n).host = s.host := rfl
@[simp] theorem State.reply_hk (src : Nat) (st : Status) (d : List Byte) (n : Nat) : (s.reply src st d n).hk = s.hk := rfl
@[simp] theorem State.reply_tv (src : Nat) (st : Status) (d : List Byte) (n : Nat) : (s.reply src st d n).tv = s.tv := rfl
@[simp] theorem State.reply_fb (src : Nat) (st : Status) (d : List Byte) (n : Nat) : (s.reply src st d n).fb = s.fb := rfl
@[simp] theorem State.reply_th (src : Nat) (st : Status) (d : List Byte) (n : Nat) : (s.reply src st d n).th = s.th := rfl
@[simp] theorem State.reply_pw (src : Nat) (st : Status) (d : List Byte) (n : Nat) : (s.reply src st d n).pw = s.pw := rfl
@[simp] theorem State.reply_aon (src : Nat) (st : Status) (d : List Byte) (n : Nat) : (s.reply src st d n).aon = s.aon := rfl
@[simp] theorem State.reply_integ (src : Nat) (st : Status) (d : List Byte) (n : Nat) : (s.reply src st d n).integ = s.integ := rfl
@[simp] theorem State.reply_boot (src : Nat) (st : Status) (d : List Byte) (n : Nat) : (s.reply src st d n).boot = s.boot := rfl
@[simp] theorem State.reply_cores (src : Nat) (st : Status) (d : List Byte) (n : Nat) : (s.reply src st d n).cores = s.cores := rfl
@[simp] theorem State.reply_fuse (src : Nat) (st : Status) (d : List Byte) (n : Nat) : (s.reply src st d n).fuse = s.fuse := rfl
@[simp] theorem State.reply_flash (src : Nat) (st : Status) (d : List Byte) (n : Nat) : (s.reply src st d n).flash = s.flash := rfl
@[simp] theorem State.reply_sec (src : Nat) (st : Status) (d : List Byte) (n : Nat) : (s.reply src st d n).sec = s.sec := rfl
@[simp] theorem State.reply_dbg (src : Nat) (st : Status) (d : List Byte) (n : Nat) : (s.reply src st d n).dbg = s.dbg := rfl
@[simp] theorem State.reply_datum (src : Nat) (st : Status) (d : List Byte) (n : Nat) : (s.reply src st d n).datum = s.datum := rfl
@[simp] theorem State.reply_freeCtr (src : Nat) (st : Status) (d : List Byte) (n : Nat) : (s.reply src st d n).freeCtr = s.freeCtr := rfl
@[simp] theorem State.reply_pending (src : Nat) (st : Status) (d : List Byte) (n : Nat) : (s.reply src st d n).pending = s.pending := rfl

/-! ### State.ack -/

@[simp] theorem State.ack_leg (src : Nat) (st : Status) : (s.ack src st).leg = s.leg := rfl
@[simp] theorem State.ack_blobs (src : Nat) (st : Status) : (s.ack src st).blobs = s.blobs := rfl
@[simp] theorem State.ack_ev (src : Nat) (st : Status) : (s.ack src st).ev = s.ev := rfl
@[simp] theorem State.ack_ed (src : Nat) (st : Status) : (s.ack src st).ed = s.ed := rfl
@[simp] theorem State.ack_carA (src : Nat) (st : Status) : (s.ack src st).carA = s.carA := rfl
@[simp] theorem State.ack_carB (src : Nat) (st : Status) : (s.ack src st).carB = s.carB := rfl
@[simp] theorem State.ack_clk (src : Nat) (st : Status) : (s.ack src st).clk = s.clk := rfl
@[simp] theorem State.ack_host (src : Nat) (st : Status) : (s.ack src st).host = s.host := rfl
@[simp] theorem State.ack_hk (src : Nat) (st : Status) : (s.ack src st).hk = s.hk := rfl
@[simp] theorem State.ack_tv (src : Nat) (st : Status) : (s.ack src st).tv = s.tv := rfl
@[simp] theorem State.ack_fb (src : Nat) (st : Status) : (s.ack src st).fb = s.fb := rfl
@[simp] theorem State.ack_th (src : Nat) (st : Status) : (s.ack src st).th = s.th := rfl
@[simp] theorem State.ack_pw (src : Nat) (st : Status) : (s.ack src st).pw = s.pw := rfl
@[simp] theorem State.ack_aon (src : Nat) (st : Status) : (s.ack src st).aon = s.aon := rfl
@[simp] theorem State.ack_integ (src : Nat) (st : Status) : (s.ack src st).integ = s.integ := rfl
@[simp] theorem State.ack_boot (src : Nat) (st : Status) : (s.ack src st).boot = s.boot := rfl
@[simp] theorem State.ack_cores (src : Nat) (st : Status) : (s.ack src st).cores = s.cores := rfl
@[simp] theorem State.ack_fuse (src : Nat) (st : Status) : (s.ack src st).fuse = s.fuse := rfl
@[simp] theorem State.ack_flash (src : Nat) (st : Status) : (s.ack src st).flash = s.flash := rfl
@[simp] theorem State.ack_sec (src : Nat) (st : Status) : (s.ack src st).sec = s.sec := rfl
@[simp] theorem State.ack_dbg (src : Nat) (st : Status) : (s.ack src st).dbg = s.dbg := rfl
@[simp] theorem State.ack_datum (src : Nat) (st : Status) : (s.ack src st).datum = s.datum := rfl
@[simp] theorem State.ack_freeCtr (src : Nat) (st : Status) : (s.ack src st).freeCtr = s.freeCtr := rfl
@[simp] theorem State.ack_pending (src : Nat) (st : Status) : (s.ack src st).pending = s.pending := rfl

/-! ### State.raise -/

@[simp] theorem State.raise_leg (code : Nat) (k : Key) : (s.raise code k).leg = s.leg := rfl
@[simp] theorem State.raise_blobs (code : Nat) (k : Key) : (s.raise code k).blobs = s.blobs := rfl
@[simp] theorem State.raise_ports (code : Nat) (k : Key) : (s.raise code k).ports = s.ports := rfl
@[simp] theorem State.raise_ed (code : Nat) (k : Key) : (s.raise code k).ed = s.ed := rfl
@[simp] theorem State.raise_carA (code : Nat) (k : Key) : (s.raise code k).carA = s.carA := rfl
@[simp] theorem State.raise_carB (code : Nat) (k : Key) : (s.raise code k).carB = s.carB := rfl
@[simp] theorem State.raise_clk (code : Nat) (k : Key) : (s.raise code k).clk = s.clk := rfl
@[simp] theorem State.raise_host (code : Nat) (k : Key) : (s.raise code k).host = s.host := rfl
@[simp] theorem State.raise_hk (code : Nat) (k : Key) : (s.raise code k).hk = s.hk := rfl
@[simp] theorem State.raise_tv (code : Nat) (k : Key) : (s.raise code k).tv = s.tv := rfl
@[simp] theorem State.raise_th (code : Nat) (k : Key) : (s.raise code k).th = s.th := rfl
@[simp] theorem State.raise_pw (code : Nat) (k : Key) : (s.raise code k).pw = s.pw := rfl
@[simp] theorem State.raise_aon (code : Nat) (k : Key) : (s.raise code k).aon = s.aon := rfl
@[simp] theorem State.raise_integ (code : Nat) (k : Key) : (s.raise code k).integ = s.integ := rfl
@[simp] theorem State.raise_boot (code : Nat) (k : Key) : (s.raise code k).boot = s.boot := rfl
@[simp] theorem State.raise_cores (code : Nat) (k : Key) : (s.raise code k).cores = s.cores := rfl
@[simp] theorem State.raise_fuse (code : Nat) (k : Key) : (s.raise code k).fuse = s.fuse := rfl
@[simp] theorem State.raise_flash (code : Nat) (k : Key) : (s.raise code k).flash = s.flash := rfl
@[simp] theorem State.raise_sec (code : Nat) (k : Key) : (s.raise code k).sec = s.sec := rfl
@[simp] theorem State.raise_dbg (code : Nat) (k : Key) : (s.raise code k).dbg = s.dbg := rfl
@[simp] theorem State.raise_datum (code : Nat) (k : Key) : (s.raise code k).datum = s.datum := rfl
@[simp] theorem State.raise_freeCtr (code : Nat) (k : Key) : (s.raise code k).freeCtr = s.freeCtr := rfl
@[simp] theorem State.raise_pending (code : Nat) (k : Key) : (s.raise code k).pending = s.pending := rfl

/-! ### State.modCar -/

@[simp] theorem State.modCar_leg (c : Carrier) (f : CarrierState → CarrierState) : (s.modCar c f).leg = s.leg := by cases c <;> rfl
@[simp] theorem State.modCar_blobs (c : Carrier) (f : CarrierState → CarrierState) : (s.modCar c f).blobs = s.blobs := by cases c <;> rfl
@[simp] theorem State.modCar_ev (c : Carrier) (f : CarrierState → CarrierState) : (s.modCar c f).ev = s.ev := by cases c <;> rfl
@[simp] theorem State.modCar_ports (c : Carrier) (f : CarrierState → CarrierState) : (s.modCar c f).ports = s.ports := by cases c <;> rfl
@[simp] theorem State.modCar_ed (c : Carrier) (f : CarrierState → CarrierState) : (s.modCar c f).ed = s.ed := by cases c <;> rfl
@[simp] theorem State.modCar_clk (c : Carrier) (f : CarrierState → CarrierState) : (s.modCar c f).clk = s.clk := by cases c <;> rfl
@[simp] theorem State.modCar_host (c : Carrier) (f : CarrierState → CarrierState) : (s.modCar c f).host = s.host := by cases c <;> rfl
@[simp] theorem State.modCar_hk (c : Carrier) (f : CarrierState → CarrierState) : (s.modCar c f).hk = s.hk := by cases c <;> rfl
@[simp] theorem State.modCar_tv (c : Carrier) (f : CarrierState → CarrierState) : (s.modCar c f).tv = s.tv := by cases c <;> rfl
@[simp] theorem State.modCar_fb (c : Carrier) (f : CarrierState → CarrierState) : (s.modCar c f).fb = s.fb := by cases c <;> rfl
@[simp] theorem State.modCar_th (c : Carrier) (f : CarrierState → CarrierState) : (s.modCar c f).th = s.th := by cases c <;> rfl
@[simp] theorem State.modCar_pw (c : Carrier) (f : CarrierState → CarrierState) : (s.modCar c f).pw = s.pw := by cases c <;> rfl
@[simp] theorem State.modCar_aon (c : Carrier) (f : CarrierState → CarrierState) : (s.modCar c f).aon = s.aon := by cases c <;> rfl
@[simp] theorem State.modCar_integ (c : Carrier) (f : CarrierState → CarrierState) : (s.modCar c f).integ = s.integ := by cases c <;> rfl
@[simp] theorem State.modCar_boot (c : Carrier) (f : CarrierState → CarrierState) : (s.modCar c f).boot = s.boot := by cases c <;> rfl
@[simp] theorem State.modCar_cores (c : Carrier) (f : CarrierState → CarrierState) : (s.modCar c f).cores = s.cores := by cases c <;> rfl
@[simp] theorem State.modCar_fuse (c : Carrier) (f : CarrierState → CarrierState) : (s.modCar c f).fuse = s.fuse := by cases c <;> rfl
@[simp] theorem State.modCar_flash (c : Carrier) (f : CarrierState → CarrierState) : (s.modCar c f).flash = s.flash := by cases c <;> rfl
@[simp] theorem State.modCar_sec (c : Carrier) (f : CarrierState → CarrierState) : (s.modCar c f).sec = s.sec := by cases c <;> rfl
@[simp] theorem State.modCar_dbg (c : Carrier) (f : CarrierState → CarrierState) : (s.modCar c f).dbg = s.dbg := by cases c <;> rfl
@[simp] theorem State.modCar_datum (c : Carrier) (f : CarrierState → CarrierState) : (s.modCar c f).datum = s.datum := by cases c <;> rfl
@[simp] theorem State.modCar_freeCtr (c : Carrier) (f : CarrierState → CarrierState) : (s.modCar c f).freeCtr = s.freeCtr := by cases c <;> rfl
@[simp] theorem State.modCar_pending (c : Carrier) (f : CarrierState → CarrierState) : (s.modCar c f).pending = s.pending := by cases c <;> rfl

/-! ### State.modTx -/

@[simp] theorem State.modTx_leg (c : Carrier) (f : TxState → TxState) : (s.modTx c f).leg = s.leg := by cases c <;> rfl
@[simp] theorem State.modTx_blobs (c : Carrier) (f : TxState → TxState) : (s.modTx c f).blobs = s.blobs := by cases c <;> rfl
@[simp] theorem State.modTx_ev (c : Carrier) (f : TxState → TxState) : (s.modTx c f).ev = s.ev := by cases c <;> rfl
@[simp] theorem State.modTx_ports (c : Carrier) (f : TxState → TxState) : (s.modTx c f).ports = s.ports := by cases c <;> rfl
@[simp] theorem State.modTx_ed (c : Carrier) (f : TxState → TxState) : (s.modTx c f).ed = s.ed := by cases c <;> rfl
@[simp] theorem State.modTx_clk (c : Carrier) (f : TxState → TxState) : (s.modTx c f).clk = s.clk := by cases c <;> rfl
@[simp] theorem State.modTx_host (c : Carrier) (f : TxState → TxState) : (s.modTx c f).host = s.host := by cases c <;> rfl
@[simp] theorem State.modTx_hk (c : Carrier) (f : TxState → TxState) : (s.modTx c f).hk = s.hk := by cases c <;> rfl
@[simp] theorem State.modTx_tv (c : Carrier) (f : TxState → TxState) : (s.modTx c f).tv = s.tv := by cases c <;> rfl
@[simp] theorem State.modTx_fb (c : Carrier) (f : TxState → TxState) : (s.modTx c f).fb = s.fb := by cases c <;> rfl
@[simp] theorem State.modTx_th (c : Carrier) (f : TxState → TxState) : (s.modTx c f).th = s.th := by cases c <;> rfl
@[simp] theorem State.modTx_pw (c : Carrier) (f : TxState → TxState) : (s.modTx c f).pw = s.pw := by cases c <;> rfl
@[simp] theorem State.modTx_aon (c : Carrier) (f : TxState → TxState) : (s.modTx c f).aon = s.aon := by cases c <;> rfl
@[simp] theorem State.modTx_integ (c : Carrier) (f : TxState → TxState) : (s.modTx c f).integ = s.integ := by cases c <;> rfl
@[simp] theorem State.modTx_boot (c : Carrier) (f : TxState → TxState) : (s.modTx c f).boot = s.boot := by cases c <;> rfl
@[simp] theorem State.modTx_cores (c : Carrier) (f : TxState → TxState) : (s.modTx c f).cores = s.cores := by cases c <;> rfl
@[simp] theorem State.modTx_fuse (c : Carrier) (f : TxState → TxState) : (s.modTx c f).fuse = s.fuse := by cases c <;> rfl
@[simp] theorem State.modTx_flash (c : Carrier) (f : TxState → TxState) : (s.modTx c f).flash = s.flash := by cases c <;> rfl
@[simp] theorem State.modTx_sec (c : Carrier) (f : TxState → TxState) : (s.modTx c f).sec = s.sec := by cases c <;> rfl
@[simp] theorem State.modTx_dbg (c : Carrier) (f : TxState → TxState) : (s.modTx c f).dbg = s.dbg := by cases c <;> rfl
@[simp] theorem State.modTx_datum (c : Carrier) (f : TxState → TxState) : (s.modTx c f).datum = s.datum := by cases c <;> rfl
@[simp] theorem State.modTx_freeCtr (c : Carrier) (f : TxState → TxState) : (s.modTx c f).freeCtr = s.freeCtr := by cases c <;> rfl
@[simp] theorem State.modTx_pending (c : Carrier) (f : TxState → TxState) : (s.modTx c f).pending = s.pending := by cases c <;> rfl

/-! ### State.modRx -/

@[simp] theorem State.modRx_leg (c : Carrier) (f : RxState → RxState) : (s.modRx c f).leg = s.leg := by cases c <;> rfl
@[simp] theorem State.modRx_blobs (c : Carrier) (f : RxState → RxState) : (s.modRx c f).blobs = s.blobs := by cases c <;> rfl
@[simp] theorem State.modRx_ev (c : Carrier) (f : RxState → RxState) : (s.modRx c f).ev = s.ev := by cases c <;> rfl
@[simp] theorem State.modRx_ports (c : Carrier) (f : RxState → RxState) : (s.modRx c f).ports = s.ports := by cases c <;> rfl
@[simp] theorem State.modRx_ed (c : Carrier) (f : RxState → RxState) : (s.modRx c f).ed = s.ed := by cases c <;> rfl
@[simp] theorem State.modRx_clk (c : Carrier) (f : RxState → RxState) : (s.modRx c f).clk = s.clk := by cases c <;> rfl
@[simp] theorem State.modRx_host (c : Carrier) (f : RxState → RxState) : (s.modRx c f).host = s.host := by cases c <;> rfl
@[simp] theorem State.modRx_hk (c : Carrier) (f : RxState → RxState) : (s.modRx c f).hk = s.hk := by cases c <;> rfl
@[simp] theorem State.modRx_tv (c : Carrier) (f : RxState → RxState) : (s.modRx c f).tv = s.tv := by cases c <;> rfl
@[simp] theorem State.modRx_fb (c : Carrier) (f : RxState → RxState) : (s.modRx c f).fb = s.fb := by cases c <;> rfl
@[simp] theorem State.modRx_th (c : Carrier) (f : RxState → RxState) : (s.modRx c f).th = s.th := by cases c <;> rfl
@[simp] theorem State.modRx_pw (c : Carrier) (f : RxState → RxState) : (s.modRx c f).pw = s.pw := by cases c <;> rfl
@[simp] theorem State.modRx_aon (c : Carrier) (f : RxState → RxState) : (s.modRx c f).aon = s.aon := by cases c <;> rfl
@[simp] theorem State.modRx_integ (c : Carrier) (f : RxState → RxState) : (s.modRx c f).integ = s.integ := by cases c <;> rfl
@[simp] theorem State.modRx_boot (c : Carrier) (f : RxState → RxState) : (s.modRx c f).boot = s.boot := by cases c <;> rfl
@[simp] theorem State.modRx_cores (c : Carrier) (f : RxState → RxState) : (s.modRx c f).cores = s.cores := by cases c <;> rfl
@[simp] theorem State.modRx_fuse (c : Carrier) (f : RxState → RxState) : (s.modRx c f).fuse = s.fuse := by cases c <;> rfl
@[simp] theorem State.modRx_flash (c : Carrier) (f : RxState → RxState) : (s.modRx c f).flash = s.flash := by cases c <;> rfl
@[simp] theorem State.modRx_sec (c : Carrier) (f : RxState → RxState) : (s.modRx c f).sec = s.sec := by cases c <;> rfl
@[simp] theorem State.modRx_dbg (c : Carrier) (f : RxState → RxState) : (s.modRx c f).dbg = s.dbg := by cases c <;> rfl
@[simp] theorem State.modRx_datum (c : Carrier) (f : RxState → RxState) : (s.modRx c f).datum = s.datum := by cases c <;> rfl
@[simp] theorem State.modRx_freeCtr (c : Carrier) (f : RxState → RxState) : (s.modRx c f).freeCtr = s.freeCtr := by cases c <;> rfl
@[simp] theorem State.modRx_pending (c : Carrier) (f : RxState → RxState) : (s.modRx c f).pending = s.pending := by cases c <;> rfl

/-! ### State.modFec -/

@[simp] theorem State.modFec_leg (c : Carrier) (f : FecState → FecState) : (s.modFec c f).leg = s.leg := by cases c <;> rfl
@[simp] theorem State.modFec_blobs (c : Carrier) (f : FecState → FecState) : (s.modFec c f).blobs = s.blobs := by cases c <;> rfl
@[simp] theorem State.modFec_ev (c : Carrier) (f : FecState → FecState) : (s.modFec c f).ev = s.ev := by cases c <;> rfl
@[simp] theorem State.modFec_ports (c : Carrier) (f : FecState → FecState) : (s.modFec c f).ports = s.ports := by cases c <;> rfl
@[simp] theorem State.modFec_ed (c : Carrier) (f : FecState → FecState) : (s.modFec c f).ed = s.ed := by cases c <;> rfl
@[simp] theorem State.modFec_clk (c : Carrier) (f : FecState → FecState) : (s.modFec c f).clk = s.clk := by cases c <;> rfl
@[simp] theorem State.modFec_host (c : Carrier) (f : FecState → FecState) : (s.modFec c f).host = s.host := by cases c <;> rfl
@[simp] theorem State.modFec_hk (c : Carrier) (f : FecState → FecState) : (s.modFec c f).hk = s.hk := by cases c <;> rfl
@[simp] theorem State.modFec_tv (c : Carrier) (f : FecState → FecState) : (s.modFec c f).tv = s.tv := by cases c <;> rfl
@[simp] theorem State.modFec_fb (c : Carrier) (f : FecState → FecState) : (s.modFec c f).fb = s.fb := by cases c <;> rfl
@[simp] theorem State.modFec_th (c : Carrier) (f : FecState → FecState) : (s.modFec c f).th = s.th := by cases c <;> rfl
@[simp] theorem State.modFec_pw (c : Carrier) (f : FecState → FecState) : (s.modFec c f).pw = s.pw := by cases c <;> rfl
@[simp] theorem State.modFec_aon (c : Carrier) (f : FecState → FecState) : (s.modFec c f).aon = s.aon := by cases c <;> rfl
@[simp] theorem State.modFec_integ (c : Carrier) (f : FecState → FecState) : (s.modFec c f).integ = s.integ := by cases c <;> rfl
@[simp] theorem State.modFec_boot (c : Carrier) (f : FecState → FecState) : (s.modFec c f).boot = s.boot := by cases c <;> rfl
@[simp] theorem State.modFec_cores (c : Carrier) (f : FecState → FecState) : (s.modFec c f).cores = s.cores := by cases c <;> rfl
@[simp] theorem State.modFec_fuse (c : Carrier) (f : FecState → FecState) : (s.modFec c f).fuse = s.fuse := by cases c <;> rfl
@[simp] theorem State.modFec_flash (c : Carrier) (f : FecState → FecState) : (s.modFec c f).flash = s.flash := by cases c <;> rfl
@[simp] theorem State.modFec_sec (c : Carrier) (f : FecState → FecState) : (s.modFec c f).sec = s.sec := by cases c <;> rfl
@[simp] theorem State.modFec_dbg (c : Carrier) (f : FecState → FecState) : (s.modFec c f).dbg = s.dbg := by cases c <;> rfl
@[simp] theorem State.modFec_datum (c : Carrier) (f : FecState → FecState) : (s.modFec c f).datum = s.datum := by cases c <;> rfl
@[simp] theorem State.modFec_freeCtr (c : Carrier) (f : FecState → FecState) : (s.modFec c f).freeCtr = s.freeCtr := by cases c <;> rfl
@[simp] theorem State.modFec_pending (c : Carrier) (f : FecState → FecState) : (s.modFec c f).pending = s.pending := by cases c <;> rfl

/-! ### State.modLx -/

@[simp] theorem State.modLx_leg (c : Carrier) (f : LxState → LxState) : (s.modLx c f).leg = s.leg := by cases c <;> rfl
@[simp] theorem State.modLx_blobs (c : Carrier) (f : LxState → LxState) : (s.modLx c f).blobs = s.blobs := by cases c <;> rfl
@[simp] theorem State.modLx_ev (c : Carrier) (f : LxState → LxState) : (s.modLx c f).ev = s.ev := by cases c <;> rfl
@[simp] theorem State.modLx_ports (c : Carrier) (f : LxState → LxState) : (s.modLx c f).ports = s.ports := by cases c <;> rfl
@[simp] theorem State.modLx_ed (c : Carrier) (f : LxState → LxState) : (s.modLx c f).ed = s.ed := by cases c <;> rfl
@[simp] theorem State.modLx_clk (c : Carrier) (f : LxState → LxState) : (s.modLx c f).clk = s.clk := by cases c <;> rfl
@[simp] theorem State.modLx_host (c : Carrier) (f : LxState → LxState) : (s.modLx c f).host = s.host := by cases c <;> rfl
@[simp] theorem State.modLx_hk (c : Carrier) (f : LxState → LxState) : (s.modLx c f).hk = s.hk := by cases c <;> rfl
@[simp] theorem State.modLx_tv (c : Carrier) (f : LxState → LxState) : (s.modLx c f).tv = s.tv := by cases c <;> rfl
@[simp] theorem State.modLx_fb (c : Carrier) (f : LxState → LxState) : (s.modLx c f).fb = s.fb := by cases c <;> rfl
@[simp] theorem State.modLx_th (c : Carrier) (f : LxState → LxState) : (s.modLx c f).th = s.th := by cases c <;> rfl
@[simp] theorem State.modLx_pw (c : Carrier) (f : LxState → LxState) : (s.modLx c f).pw = s.pw := by cases c <;> rfl
@[simp] theorem State.modLx_aon (c : Carrier) (f : LxState → LxState) : (s.modLx c f).aon = s.aon := by cases c <;> rfl
@[simp] theorem State.modLx_integ (c : Carrier) (f : LxState → LxState) : (s.modLx c f).integ = s.integ := by cases c <;> rfl
@[simp] theorem State.modLx_boot (c : Carrier) (f : LxState → LxState) : (s.modLx c f).boot = s.boot := by cases c <;> rfl
@[simp] theorem State.modLx_cores (c : Carrier) (f : LxState → LxState) : (s.modLx c f).cores = s.cores := by cases c <;> rfl
@[simp] theorem State.modLx_fuse (c : Carrier) (f : LxState → LxState) : (s.modLx c f).fuse = s.fuse := by cases c <;> rfl
@[simp] theorem State.modLx_flash (c : Carrier) (f : LxState → LxState) : (s.modLx c f).flash = s.flash := by cases c <;> rfl
@[simp] theorem State.modLx_sec (c : Carrier) (f : LxState → LxState) : (s.modLx c f).sec = s.sec := by cases c <;> rfl
@[simp] theorem State.modLx_dbg (c : Carrier) (f : LxState → LxState) : (s.modLx c f).dbg = s.dbg := by cases c <;> rfl
@[simp] theorem State.modLx_datum (c : Carrier) (f : LxState → LxState) : (s.modLx c f).datum = s.datum := by cases c <;> rfl
@[simp] theorem State.modLx_freeCtr (c : Carrier) (f : LxState → LxState) : (s.modLx c f).freeCtr = s.freeCtr := by cases c <;> rfl
@[simp] theorem State.modLx_pending (c : Carrier) (f : LxState → LxState) : (s.modLx c f).pending = s.pending := by cases c <;> rfl

/-! ### State.modDie -/

@[simp] theorem State.modDie_leg (c : Carrier) (f : DieState → DieState) : (s.modDie c f).leg = s.leg := by cases c <;> rfl
@[simp] theorem State.modDie_blobs (c : Carrier) (f : DieState → DieState) : (s.modDie c f).blobs = s.blobs := by cases c <;> rfl
@[simp] theorem State.modDie_ev (c : Carrier) (f : DieState → DieState) : (s.modDie c f).ev = s.ev := by cases c <;> rfl
@[simp] theorem State.modDie_ports (c : Carrier) (f : DieState → DieState) : (s.modDie c f).ports = s.ports := by cases c <;> rfl
@[simp] theorem State.modDie_ed (c : Carrier) (f : DieState → DieState) : (s.modDie c f).ed = s.ed := by cases c <;> rfl
@[simp] theorem State.modDie_carA (c : Carrier) (f : DieState → DieState) : (s.modDie c f).carA = s.carA := by cases c <;> rfl
@[simp] theorem State.modDie_carB (c : Carrier) (f : DieState → DieState) : (s.modDie c f).carB = s.carB := by cases c <;> rfl
@[simp] theorem State.modDie_host (c : Carrier) (f : DieState → DieState) : (s.modDie c f).host = s.host := by cases c <;> rfl
@[simp] theorem State.modDie_hk (c : Carrier) (f : DieState → DieState) : (s.modDie c f).hk = s.hk := by cases c <;> rfl
@[simp] theorem State.modDie_tv (c : Carrier) (f : DieState → DieState) : (s.modDie c f).tv = s.tv := by cases c <;> rfl
@[simp] theorem State.modDie_fb (c : Carrier) (f : DieState → DieState) : (s.modDie c f).fb = s.fb := by cases c <;> rfl
@[simp] theorem State.modDie_th (c : Carrier) (f : DieState → DieState) : (s.modDie c f).th = s.th := by cases c <;> rfl
@[simp] theorem State.modDie_pw (c : Carrier) (f : DieState → DieState) : (s.modDie c f).pw = s.pw := by cases c <;> rfl
@[simp] theorem State.modDie_aon (c : Carrier) (f : DieState → DieState) : (s.modDie c f).aon = s.aon := by cases c <;> rfl
@[simp] theorem State.modDie_integ (c : Carrier) (f : DieState → DieState) : (s.modDie c f).integ = s.integ := by cases c <;> rfl
@[simp] theorem State.modDie_boot (c : Carrier) (f : DieState → DieState) : (s.modDie c f).boot = s.boot := by cases c <;> rfl
@[simp] theorem State.modDie_cores (c : Carrier) (f : DieState → DieState) : (s.modDie c f).cores = s.cores := by cases c <;> rfl
@[simp] theorem State.modDie_fuse (c : Carrier) (f : DieState → DieState) : (s.modDie c f).fuse = s.fuse := by cases c <;> rfl
@[simp] theorem State.modDie_flash (c : Carrier) (f : DieState → DieState) : (s.modDie c f).flash = s.flash := by cases c <;> rfl
@[simp] theorem State.modDie_sec (c : Carrier) (f : DieState → DieState) : (s.modDie c f).sec = s.sec := by cases c <;> rfl
@[simp] theorem State.modDie_dbg (c : Carrier) (f : DieState → DieState) : (s.modDie c f).dbg = s.dbg := by cases c <;> rfl
@[simp] theorem State.modDie_datum (c : Carrier) (f : DieState → DieState) : (s.modDie c f).datum = s.datum := by cases c <;> rfl
@[simp] theorem State.modDie_freeCtr (c : Carrier) (f : DieState → DieState) : (s.modDie c f).freeCtr = s.freeCtr := by cases c <;> rfl
@[simp] theorem State.modDie_pending (c : Carrier) (f : DieState → DieState) : (s.modDie c f).pending = s.pending := by cases c <;> rfl

/-! ### What the updates write -/

@[simp] theorem State.wr_leg (k : Key) (v : Int) : (s.wr k v).leg = legPut s.leg k v := rfl
@[simp] theorem State.setBlob_blobs (k : Key) (bs : List Byte) :
    (s.setBlob k bs).blobs = if bs = [] then kdel s.blobs k else kins s.blobs k bs := rfl
@[simp] theorem State.tookFree_freeCtr : s.tookFree.freeCtr = s.freeCtr + 1 := rfl
@[simp] theorem State.modCar_car (c : Carrier) (f : CarrierState → CarrierState) : (s.modCar c f).car c = f (s.car c) := by
  cases c <;> rfl
@[simp] theorem State.modCar_other (c : Carrier) (f : CarrierState → CarrierState) : (s.modCar c f).car c.other = s.car c.other := by
  cases c <;> rfl
@[simp] theorem State.modDie_die (c : Carrier) (f : DieState → DieState) : (s.modDie c f).die c = f (s.die c) := by
  cases c <;> rfl
@[simp] theorem State.modDie_other (c : Carrier) (f : DieState → DieState) : (s.modDie c f).die c.other = s.die c.other := by
  cases c <;> rfl
@[simp] theorem State.raise_alarm (code : Nat) (k : Key) : (s.raise code k).ev.alarm = (s.ev.alarm || severityOf code = 2) := rfl

end Sys2Proof.Machine
end

