-- ==== Sys2Proof/Laws/Fuses.lean ====
section
/-! SUPPORT. Fuses only ever blow: what programming a field, in full or cut short, leaves. -/

namespace Sys2Proof.Machine

theorem byte_subset_trans {a b c : Byte} (h : a &&& ~~~b = 0) (g : b &&& ~~~c = 0) : a &&& ~~~c = 0 := by
  ext i hi
  have h' : (a &&& ~~~b)[i] = (0 : Byte)[i] := by rw [h]
  have g' : (b &&& ~~~c)[i] = (0 : Byte)[i] := by rw [g]
  simp at h' g' ⊢
  intro ha
  exact g' (h' ha)

theorem byte_subset_or (a b : Byte) : a &&& ~~~(a ||| b) = 0 := by
  ext i; simp; intro h; simp [h]

theorem blownIn_refl (d : List Byte) : blownIn d d = true := by
  simp [blownIn, List.all_eq_true]

theorem blownIn_trans {a b c : List Byte} (h : blownIn a b = true) (g : blownIn b c = true) : blownIn a c = true := by
  simp only [blownIn, List.all_eq_true, decide_eq_true_eq] at *
  exact fun i hi => byte_subset_trans (h i hi) (g i hi)

theorem blownIn_partialDigest (old d free : List Byte) : blownIn old (partialDigest old d free) = true := by
  simp only [blownIn, List.all_eq_true, decide_eq_true_eq, List.mem_range]
  intro i hi
  have : nth (partialDigest old d free) i 0 = nth old i 0 ||| (nth d i 0 &&& nth free i 0) := by
    simp [partialDigest, nth, List.getD_eq_getElem?_getD, hi]
  rw [this]
  exact byte_subset_or _ _

theorem blownIn_of_zero {old d : List Byte} (h : old.all (fun b => b = 0) = true) : blownIn old d = true := by
  simp only [blownIn, List.all_eq_true, decide_eq_true_eq, List.mem_range] at *
  intro i hi
  have : nth old i 0#8 = 0#8 := by
    simp only [nth, List.getD_eq_getElem?_getD]
    cases hh : old[i]? with
    | none => rfl
    | some b => exact h b (List.mem_of_getElem? hh)
  simp [this]

theorem blownIn_blownWith (old d : List Byte) : blownIn old (blownWith old d) = true := by
  unfold blownWith
  split_ifs with h
  · exact blownIn_of_zero h
  · exact blownIn_partialDigest _ _ _

/-- A slot's fuses only blow. -/
def RootFuse.le (r q : RootFuse) : Prop :=
  blownIn r.digest q.digest = true ∧ (r.sealed = true → q.sealed = true) ∧ (r.revoked = true → q.revoked = true)

theorem RootFuse.le_refl (r : RootFuse) : r.le r := ⟨blownIn_refl _, id, id⟩

theorem RootFuse.le_trans {a b c : RootFuse} (h : a.le b) (g : b.le c) : a.le c :=
  ⟨blownIn_trans h.1 g.1, g.2.1 ∘ h.2.1, g.2.2 ∘ h.2.2⟩

theorem roots_modify (l : List RootFuse) (i : Nat) (f : RootFuse → RootFuse) (hf : ∀ r : RootFuse, r.le (f r)) (j : Nat) :
    (nth l j ⟨[], false, false⟩).le (nth (l.modify i f) j ⟨[], false, false⟩) := by
  simp only [nth, List.getD_eq_getElem?_getD, List.getElem?_modify]
  cases l[j]? with
  | none => simpa using RootFuse.le_refl _
  | some r =>
    simp only [Option.map_eq_map, Option.map_some, Option.getD_some]
    split_ifs
    · exact hf r
    · exact RootFuse.le_refl r

theorem FuseState.kept_refl (f : FuseState) : f.kept f :=
  ⟨rfl, rfl, Nat.le_refl _, Nat.le_refl _, Nat.le_refl _, id, id, id, rfl, blownIn_refl _, fun _ => RootFuse.le_refl _⟩

theorem FuseState.kept_trans {f g h : FuseState} (a : f.kept g) (b : g.kept h) : f.kept h := by
  obtain ⟨a1, a2, a3, a4, a5, a6, a7, a8, a9, a10, a11⟩ := a
  obtain ⟨b1, b2, b3, b4, b5, b6, b7, b8, b9, b10, b11⟩ := b
  exact ⟨b1.trans a1, b2.trans a2, a3.trans b3, a4.trans b4, a5.trans b5, b6 ∘ a6, b7 ∘ a7, b8 ∘ a8, b9.trans a9,
    blownIn_trans a10 b10, fun j => RootFuse.le_trans (a11 j) (b11 j)⟩

/-- Programming a field in full takes no fuse back. -/
theorem FuseState.kept_blown (f : FuseState) (pub : List Byte) (op : FuseOp) (h : op.legal f = true) : f.kept (f.blown pub op) := by
  cases op <;> simp only [FuseOp.legal, decide_eq_true_eq] at h <;> simp only [FuseState.blown]
  case enroll j d =>
    refine ⟨rfl, rfl, Nat.le_refl _, Nat.le_refl _, Nat.le_refl _, id, id, id, by simp, blownIn_refl _, ?_⟩
    exact roots_modify _ _ _ (fun r => ⟨blownIn_blownWith _ _, fun _ => rfl, id⟩)
  case revoke j =>
    refine ⟨rfl, rfl, Nat.le_refl _, Nat.le_refl _, Nat.le_refl _, id, id, id, by simp, blownIn_refl _, ?_⟩
    exact roots_modify _ _ _ (fun r => ⟨blownIn_refl _, id, fun _ => rfl⟩)
  case secver v =>
    exact ⟨rfl, rfl, Nat.le_refl _, h, Nat.le_refl _, id, id, id, rfl, blownIn_refl _, fun _ => RootFuse.le_refl _⟩
  case ctrlVer v =>
    exact ⟨rfl, rfl, Nat.le_refl _, Nat.le_refl _, h, id, id, id, rfl, blownIn_refl _, fun _ => RootFuse.le_refl _⟩
  case signPolicy =>
    exact ⟨rfl, rfl, Nat.le_refl _, Nat.le_refl _, Nat.le_refl _, fun _ => rfl, id, id, rfl, blownIn_refl _, fun _ => RootFuse.le_refl _⟩
  case lifecycle t src =>
    exact ⟨rfl, rfl, h, Nat.le_refl _, Nat.le_refl _, id, id, fun g => by simp [g], rfl, blownIn_refl _, fun _ => RootFuse.le_refl _⟩
  case identity =>
    exact ⟨rfl, rfl, Nat.le_refl _, Nat.le_refl _, Nat.le_refl _, id, fun _ => rfl, id, rfl, blownIn_blownWith _ _, fun _ => RootFuse.le_refl _⟩

/-- Programming cut short takes no fuse back. -/
theorem State.kept_cutFuses (s : State) (h : s.sec.fuseOp.all (fun op => op.legal s.fuse) = true) : s.fuse.kept s.cutFuses := by
  unfold State.cutFuses
  cases ho : s.sec.fuseOp with
  | none => exact FuseState.kept_refl _
  | some op =>
    rw [ho] at h
    cases op <;> simp only [Option.all_some, FuseOp.legal, decide_eq_true_eq] at h <;> simp only
    case enroll j d =>
      refine ⟨rfl, rfl, Nat.le_refl _, Nat.le_refl _, Nat.le_refl _, id, id, id, by simp, blownIn_refl _, ?_⟩
      refine roots_modify _ _ _ (fun r => ?_)
      split_ifs
      · exact ⟨blownIn_partialDigest _ _ _, id, id⟩
      · exact ⟨blownIn_blownWith _ _, fun g => by simp [g], id⟩
    case revoke j =>
      refine ⟨rfl, rfl, Nat.le_refl _, Nat.le_refl _, Nat.le_refl _, id, id, id, by simp, blownIn_refl _, ?_⟩
      exact roots_modify _ _ _ (fun r => ⟨blownIn_refl _, id, fun g => by simp [g]⟩)
    case secver v =>
      exact ⟨rfl, rfl, Nat.le_refl _, Nat.le_add_right _ _, Nat.le_refl _, id, id, id, rfl, blownIn_refl _, fun _ => RootFuse.le_refl _⟩
    case ctrlVer v =>
      exact ⟨rfl, rfl, Nat.le_refl _, Nat.le_refl _, Nat.le_add_right _ _, id, id, id, rfl, blownIn_refl _, fun _ => RootFuse.le_refl _⟩
    case signPolicy =>
      exact ⟨rfl, rfl, Nat.le_refl _, Nat.le_refl _, Nat.le_refl _, fun g => by simp [g], id, id, rfl, blownIn_refl _, fun _ => RootFuse.le_refl _⟩
    case lifecycle t src =>
      split_ifs
      · exact ⟨rfl, rfl, h, Nat.le_refl _, Nat.le_refl _, id, id, fun g => by simp [g], rfl, blownIn_refl _, fun _ => RootFuse.le_refl _⟩
      · exact ⟨rfl, rfl, Nat.le_refl _, Nat.le_refl _, Nat.le_refl _, id, id, fun g => by simp [g], rfl, blownIn_refl _, fun _ => RootFuse.le_refl _⟩
    case identity =>
      split_ifs
      · exact ⟨rfl, rfl, Nat.le_refl _, Nat.le_refl _, Nat.le_refl _, id, id, id, rfl, blownIn_partialDigest _ _ _, fun _ => RootFuse.le_refl _⟩
      · exact ⟨rfl, rfl, Nat.le_refl _, Nat.le_refl _, Nat.le_refl _, id, fun g => by simp [g], id, rfl, blownIn_blownWith _ _, fun _ => RootFuse.le_refl _⟩

end Sys2Proof.Machine
end

