-- ==== Sys2Proof/Laws/Store.lean ====
section
/-! SUPPORT. The Legend store as a map: reading after writing, and the canonical form that every write keeps. -/

namespace Sys2Proof.Machine

/-! ### The order of keys -/

theorem keyLt_irrefl (a : Key) : keyLt a a = false := by simp [keyLt]

theorem keyLt_trans {a b c : Key} (h : keyLt a b = true) (g : keyLt b c = true) : keyLt a c = true := by
  simp only [keyLt, Bool.or_eq_true, Bool.and_eq_true, decide_eq_true_eq] at *
  omega

theorem keyLt_total {a b : Key} (h : a ≠ b) (g : keyLt a b = false) : keyLt b a = true := by
  obtain ⟨a1, a2, a3⟩ := a
  obtain ⟨b1, b2, b3⟩ := b
  simp only [keyLt, Bool.or_eq_false_iff, Bool.and_eq_false_iff, decide_eq_false_iff_not, Bool.or_eq_true, Bool.and_eq_true,
    decide_eq_true_eq, ne_eq, Key.mk.injEq] at *
  omega

theorem keyLt_ne {a b : Key} (h : keyLt a b = true) : a ≠ b := by
  intro e
  rw [e, keyLt_irrefl] at h
  cases h

/-! ### Lookup after insertion and deletion -/

theorem kfind_kins_same {α : Type} (m : List (Key × α)) (k : Key) (v : α) : kfind (kins m k v) k = some v := by
  induction m with
  | nil => simp [kins, kfind]
  | cons e t ih => simp only [kins]; split_ifs <;> simp_all [kfind]

theorem kfind_kins_other {α : Type} (m : List (Key × α)) {k j : Key} (v : α) (h : j ≠ k) : kfind (kins m k v) j = kfind m j := by
  induction m with
  | nil => simp [kins, kfind, h.symm]
  | cons e t ih =>
    simp only [kins]
    split_ifs with h1 h2
    · subst h1; simp [kfind, h.symm]
    · simp [kfind, h.symm]
    · simp [kfind, ih]

theorem kfind_kdel_same {α : Type} (m : List (Key × α)) (k : Key) : kfind (kdel m k) k = none := by
  induction m with
  | nil => rfl
  | cons e t ih => simp only [kdel, List.filter_cons] at *; split_ifs with h <;> simp_all [kfind]

theorem kfind_kdel_other {α : Type} (m : List (Key × α)) {k j : Key} (h : j ≠ k) : kfind (kdel m k) j = kfind m j := by
  induction m with
  | nil => rfl
  | cons e t ih =>
    unfold kdel at *
    by_cases h1 : e.1 = k
    · have : ¬ (e.1 = j) := fun g => h (g.symm.trans h1)
      rw [List.filter_cons_of_neg (by simp [h1]), ih]
      simp [kfind, this]
    · rw [List.filter_cons_of_pos (by simp [h1])]
      simp only [kfind, ih]

@[simp] theorem legGet_legPut_same (m : List (Key × Int)) (k : Key) (v : Int) : legGet (legPut m k v) k = v := by
  unfold legGet legPut
  split_ifs with h
  · simp [kfind_kdel_same, h]
  · simp [kfind_kins_same]

theorem legGet_legPut_other (m : List (Key × Int)) {k j : Key} (v : Int) (h : j ≠ k) : legGet (legPut m k v) j = legGet m j := by
  unfold legGet legPut
  split_ifs
  · rw [kfind_kdel_other m h]
  · rw [kfind_kins_other m v h]

/-- A Legend element reads as it was written. -/
@[simp] theorem State.rd_wr_same (s : State) (k : Key) (v : Int) : (s.wr k v).rd k = v := legGet_legPut_same s.leg k v

/-- A write leaves every other element alone. -/
theorem State.rd_wr_other (s : State) {k j : Key} (v : Int) (h : j ≠ k) : (s.wr k v).rd j = s.rd j := legGet_legPut_other s.leg v h

/-- A BLOB reads as it was written. -/
@[simp] theorem State.blob_setBlob_same (s : State) (k : Key) (bs : List Byte) : (s.setBlob k bs).blob k = bs := by
  simp only [State.blob, State.setBlob_blobs]
  split_ifs with h
  · simp [kfind_kdel_same, h]
  · simp [kfind_kins_same]

/-- A write of a BLOB leaves every other BLOB alone. -/
theorem State.blob_setBlob_other (s : State) {k j : Key} (bs : List Byte) (h : j ≠ k) : (s.setBlob k bs).blob j = s.blob j := by
  simp only [State.blob, State.setBlob_blobs]
  split_ifs
  · rw [kfind_kdel_other _ h]
  · rw [kfind_kins_other _ bs h]

@[simp] theorem State.raise_rd (s : State) (code : Nat) (k j : Key) : (s.raise code k).rd j = s.rd j := rfl
@[simp] theorem State.tookFree_rd (s : State) (j : Key) : s.tookFree.rd j = s.rd j := rfl
@[simp] theorem State.ack_rd (s : State) (src : Nat) (st : Status) (j : Key) : (s.ack src st).rd j = s.rd j := rfl
@[simp] theorem State.setBlob_rd (s : State) (k : Key) (bs : List Byte) (j : Key) : (s.setBlob k bs).rd j = s.rd j := rfl

/-! ### The canonical form -/

/-- Sorted keys as a pairwise property. -/
theorem kSorted_iff {α : Type} (m : List (Key × α)) : kSorted m = true ↔ m.Pairwise (fun a b => keyLt a.1 b.1 = true) := by
  induction m with
  | nil => simp [kSorted]
  | cons a t ih =>
    cases t with
    | nil => simp [kSorted]
    | cons b t =>
      simp only [kSorted, Bool.and_eq_true, ih, List.pairwise_cons]
      constructor
      · rintro ⟨h, hb, ht⟩
        refine ⟨fun x hx => ?_, hb, ht⟩
        rcases List.mem_cons.1 hx with rfl | hx
        · exact h
        · exact keyLt_trans h (hb x hx)
      · rintro ⟨h, hb, ht⟩
        exact ⟨h b (by simp), hb, ht⟩

theorem kSorted_filter {α : Type} (m : List (Key × α)) (p : Key × α → Bool) (h : kSorted m = true) : kSorted (m.filter p) = true := by
  rw [kSorted_iff] at *
  exact h.filter p

theorem kins_mem {α : Type} (m : List (Key × α)) (k : Key) (v : α) (e : Key × α) (h : e ∈ kins m k v) : e = (k, v) ∨ e ∈ m := by
  induction m with
  | nil => simpa [kins] using h
  | cons a t ih =>
    simp only [kins] at h
    split_ifs at h with h1 h2
    · rcases List.mem_cons.1 h with h | h
      · exact .inl h
      · exact .inr (List.mem_cons_of_mem _ h)
    · rcases List.mem_cons.1 h with h | h
      · exact .inl h
      · exact .inr h
    · rcases List.mem_cons.1 h with h | h
      · exact .inr (h ▸ List.mem_cons_self)
      · exact (ih h).imp id (List.mem_cons_of_mem _)

theorem kSorted_kins {α : Type} (m : List (Key × α)) (k : Key) (v : α) (h : kSorted m = true) : kSorted (kins m k v) = true := by
  rw [kSorted_iff] at *
  induction m with
  | nil => simp [kins]
  | cons a t ih =>
    rw [List.pairwise_cons] at h
    simp only [kins]
    split_ifs with h1 h2
    · subst h1; exact List.pairwise_cons.2 ⟨h.1, h.2⟩
    · refine List.pairwise_cons.2 ⟨fun x hx => ?_, List.pairwise_cons.2 h⟩
      rcases List.mem_cons.1 hx with rfl | hx
      · exact h2
      · exact keyLt_trans h2 (h.1 x hx)
    · refine List.pairwise_cons.2 ⟨fun x hx => ?_, ih h.2⟩
      rcases kins_mem t k v x hx with rfl | hx
      · exact keyLt_total (fun e => h1 e.symm) (by simpa using h2)
      · exact h.1 x hx

theorem legWf_filter (m : List (Key × Int)) (p : Key × Int → Bool) (h : legWf m = true) : legWf (m.filter p) = true := by
  simp only [legWf, Bool.and_eq_true, List.all_eq_true] at *
  exact ⟨kSorted_filter m p h.1, fun e he => h.2 e (List.mem_filter.1 he).1⟩

/-- A write keeps the canonical form of the Legend store. -/
theorem legWf_legPut (m : List (Key × Int)) (k : Key) (v : Int) (h : legWf m = true) : legWf (legPut m k v) = true := by
  unfold legPut
  split_ifs with hd
  · exact legWf_filter m _ h
  · simp only [legWf, Bool.and_eq_true, List.all_eq_true] at *
    refine ⟨kSorted_kins m k v h.1, fun e he => ?_⟩
    rcases kins_mem m k v e he with rfl | he
    · simpa using hd
    · exact h.2 e he

theorem blobWf_filter (m : List (Key × List Byte)) (p : Key × List Byte → Bool) (h : blobWf m = true) : blobWf (m.filter p) = true := by
  simp only [blobWf, Bool.and_eq_true, List.all_eq_true] at *
  exact ⟨kSorted_filter m p h.1, fun e he => h.2 e (List.mem_filter.1 he).1⟩

theorem blobWf_kins (m : List (Key × List Byte)) (k : Key) (bs : List Byte) (hb : bs ≠ []) (h : blobWf m = true) :
    blobWf (kins m k bs) = true := by
  simp only [blobWf, Bool.and_eq_true, List.all_eq_true] at *
  refine ⟨kSorted_kins m k bs h.1, fun e he => ?_⟩
  rcases kins_mem m k bs e he with rfl | he
  · simpa using hb
  · exact h.2 e he

/-- Writes one after the other keep the canonical form. -/
theorem legWf_foldl_legPut (es m : List (Key × Int)) (h : legWf m = true) :
    legWf (es.foldl (fun (m : List (Key × Int)) (e : Key × Int) => legPut m e.1 e.2) m) = true := by
  induction es generalizing m with
  | nil => exact h
  | cons e t ih => exact ih _ (legWf_legPut m e.1 e.2 h)

end Sys2Proof.Machine
end

