-- ==== Sys2Proof/Laws/Frame.lean ====
section
/-! SUPPORT. Which parts of the state an operation changes, and that it keeps what every step keeps: the relation `Leads`, and one lemma
for each basic update. -/

namespace Sys2Proof.Machine

/-- From s an operation leads to t: only the parts ps change, well-formed stores stay so, and no blown fuse is unblown. -/
def Leads (ps : List Part) (s t : State) : Prop :=
  State.within ps s t ∧ (s.wf = true → t.wf = true ∧ s.fuse.kept t.fuse)

theorem within_iff (ps : List Part) (p : Part) :
    Part.within ps p = true ↔
      p ∈ ps ∨ (∃ a e, p = .entry a e ∧ Part.area a ∈ ps) ∨ (((∃ a e, p = .entry a e) ∨ ∃ n, p = .area n) ∧ Part.legend ∈ ps) := by
  cases p <;> simp [Part.within, or_assoc]

theorem covers_within {ps qs : List Part} (h : covers ps qs = true) {p : Part} (hp : Part.within qs p = true) : Part.within ps p = true := by
  have h : ∀ q ∈ qs, Part.within ps q = true := List.all_eq_true.1 h
  cases p <;> simp only [Part.within, Bool.or_eq_true, List.contains_iff_mem] at hp ⊢
  · rcases hp with (hp | hp) | hp
    · simpa [Part.within] using h _ hp
    · have := h _ hp; simp [Part.within] at this; tauto
    · have := h _ hp; simp [Part.within] at this; tauto
  · rcases hp with hp | hp
    · simpa [Part.within] using h _ hp
    · have := h _ hp; simp [Part.within] at this; tauto
  all_goals (have := h _ hp; simpa [Part.within] using this)

theorem covers_trans {ps qs rs : List Part} (h : covers ps qs = true) (g : covers qs rs = true) : covers ps rs = true := by
  have g : ∀ q ∈ rs, Part.within qs q = true := List.all_eq_true.1 g
  exact List.all_eq_true.2 (fun p hp => covers_within h (g p hp))

theorem covers_refl (ps : List Part) : covers ps ps = true := by
  exact List.all_eq_true.2 (fun p hp => (within_iff ps p).2 (.inl hp))

theorem covers_one {ps : List Part} {p : Part} (h : Part.within ps p = true) : covers ps [p] = true := by simp [covers, h]

theorem within_of_covers {ps : List Part} {p : Part} (h : covers ps [p] = true) : Part.within ps p = true := by simpa [covers] using h

theorem Part.agrees_refl (s : State) (p : Part) : p.agrees s s := by cases p <;> simp [Part.agrees]

theorem Part.agrees_trans {s t u : State} {p : Part} (h : p.agrees s t) (g : p.agrees t u) : p.agrees s u := by
  cases p <;> simp only [Part.agrees] at * <;> first
    | exact g.trans h
    | exact fun k ha he => (g k ha he).trans (h k ha he)
    | trivial

theorem Leads.refl (ps : List Part) (s : State) : Leads ps s s :=
  ⟨⟨rfl, fun p _ => p.agrees_refl s⟩, fun h => ⟨h, FuseState.kept_refl _⟩⟩

theorem Leads.trans {ps : List Part} {s t u : State} (h : Leads ps s t) (g : Leads ps t u) : Leads ps s u :=
  ⟨⟨g.1.1.trans h.1.1, fun p hp => Part.agrees_trans (h.1.2 p hp) (g.1.2 p hp)⟩,
   fun w => ⟨(g.2 (h.2 w).1).1, FuseState.kept_trans (h.2 w).2 (g.2 (h.2 w).1).2⟩⟩

theorem Leads.mono {ps qs : List Part} {s t : State} (hp : covers ps qs = true) (h : Leads qs s t) : Leads ps s t :=
  ⟨⟨h.1.1, fun p hq => h.1.2 p (by
      cases hw : Part.within qs p with
      | false => rfl
      | true => rw [covers_within hp hw] at hq; exact hq)⟩, h.2⟩

variable {ps : List Part} {s0 s t : State}

/-- An update of fields that leaves the stores, the retention checkpoint and the fuses alone. -/
theorem Leads.upd {ev' : EventState} {ports' : PortState} {ed' : EditionState} {carA' : CarrierState} {carB' : CarrierState} {clk' : ClockState} {host' : HostState} {hk' : HkState} {tv' : TvState} {fb' : FbState} {th' : ThermalState} {pw' : PowerState} {aon' : AonState} {integ' : IntegrityState} {boot' : BootState} {cores' : CoreState} {flash' : FlashState} {sec' : SecState} {dbg' : DebugState} {datum' : Nat} {clock' : Nat} {freeCtr' : Nat} 
    (hret : aon'.retention = s.aon.retention) (hop : sec'.fuseOp = s.sec.fuseOp)
    (h_ev : Part.within ps .ev = true ∨ ev' = s.ev)
    (h_ports : Part.within ps .ports = true ∨ ports' = s.ports)
    (h_ed : Part.within ps .ed = true ∨ ed' = s.ed)
    (h_carA : Part.within ps .carA = true ∨ carA' = s.carA)
    (h_carB : Part.within ps .carB = true ∨ carB' = s.carB)
    (h_clk : Part.within ps .clk = true ∨ clk' = s.clk)
    (h_host : Part.within ps .host = true ∨ host' = s.host)
    (h_hk : Part.within ps .hk = true ∨ hk' = s.hk)
    (h_tv : Part.within ps .tv = true ∨ tv' = s.tv)
    (h_fb : Part.within ps .fb = true ∨ fb' = s.fb)
    (h_th : Part.within ps .th = true ∨ th' = s.th)
    (h_pw : Part.within ps .pw = true ∨ pw' = s.pw)
    (h_aon : Part.within ps .aon = true ∨ aon' = s.aon)
    (h_integ : Part.within ps .integ = true ∨ integ' = s.integ)
    (h_boot : Part.within ps .boot = true ∨ boot' = s.boot)
    (h_cores : Part.within ps .cores = true ∨ cores' = s.cores)
    (h_flash : Part.within ps .flash = true ∨ flash' = s.flash)
    (h_sec : Part.within ps .sec = true ∨ sec' = s.sec)
    (h_dbg : Part.within ps .dbg = true ∨ dbg' = s.dbg)
    (h_datum : Part.within ps .datum = true ∨ datum' = s.datum)
    (h_clock : Part.within ps .clock = true ∨ clock' = s.clock)
    (h_freeCtr : Part.within ps .freeCtr = true ∨ freeCtr' = s.freeCtr)
    (h : Leads ps s0 s) : Leads ps s0 ⟨s.leg, s.blobs, ev', ports', ed', carA', carB', clk', host', hk', tv', fb', th', pw', aon', integ', boot', cores', s.fuse, flash', sec', dbg', datum', clock', freeCtr', s.pending⟩ := by
  refine h.trans ⟨⟨rfl, fun p hp => ?_⟩, fun w => ⟨?_, FuseState.kept_refl _⟩⟩
  · cases p <;> simp only [Part.agrees] <;> simp_all [State.rd]
  · simpa [State.wf, State.storesWf, hret, hop] using w

theorem State.wf_parts (s : State) : s.wf = true ↔ legWf s.leg = true ∧ blobWf s.blobs = true ∧
    s.aon.retention.all (fun r => legWf r.1 && blobWf r.2) = true ∧ s.sec.fuseOp.all (fun op => op.legal s.fuse) = true := by
  simp [State.wf, State.storesWf, and_assoc]

/-- A Legend element changes. -/
theorem wr_leads (k : Key) (v : Int) (hp : covers ps [.entry k.area k.entry] = true) (h : Leads ps s0 s) : Leads ps s0 (s.wr k v) := by
  refine h.trans ⟨⟨rfl, fun p hq => ?_⟩, fun w => ⟨?_, FuseState.kept_refl _⟩⟩
  · cases p <;> simp only [Part.agrees, State.wr] <;> try rfl
    intro j hj he
    refine State.rd_wr_other s v (fun e => ?_)
    subst e
    rw [← hj, ← he, within_of_covers hp] at hq
    cases hq
  · rw [State.wf_parts] at *
    exact ⟨legWf_legPut _ _ _ w.1, w.2⟩

/-- A BLOB changes. -/
theorem setBlob_leads (k : Key) (bs : List Byte) (hp : covers ps [.blobs] = true) (h : Leads ps s0 s) : Leads ps s0 (s.setBlob k bs) := by
  refine h.trans ⟨⟨rfl, fun p hq => ?_⟩, fun w => ⟨?_, FuseState.kept_refl _⟩⟩
  · cases p <;> simp only [Part.agrees] <;> try rfl
    · intro j _ _; rfl
    · rw [within_of_covers hp] at hq; cases hq
  · rw [State.wf_parts] at *
    refine ⟨w.1, ?_, w.2.2⟩
    simp only [State.setBlob_blobs]
    split_ifs with hb
    · exact blobWf_filter _ _ w.2.1
    · exact blobWf_kins _ _ _ hb w.2.1

/-- Any change of the stores that keeps their form, with one of the editions. -/
theorem stores_leads {ed' : EditionState} {leg : List (Key × Int)} {blobs : List (Key × List Byte)} (hp : covers ps [.legend, .blobs, .ed] = true)
    (hl : legWf s.leg = true → legWf leg = true) (hb : blobWf s.blobs = true → blobWf blobs = true) (h : Leads ps s0 s) :
    Leads ps s0 ({ s with leg := leg, blobs := blobs, ed := ed' } : State) := by
  refine h.trans ⟨⟨rfl, fun p hq => ?_⟩, fun w => ⟨?_, FuseState.kept_refl _⟩⟩
  · simp only [covers, List.all_cons, List.all_nil, Bool.and_true, Bool.and_eq_true] at hp
    cases p <;> simp only [Part.agrees] <;> simp_all [Part.within]
  · rw [State.wf_parts] at *
    exact ⟨hl w.1, hb w.2.1, w.2.2⟩

/-- The always-on domain changes; its retention checkpoint stays in canonical form. -/
theorem aon_leads {s : State} {ports' : PortState} {pw' : PowerState} {a : AonState} (hp : covers ps [.ports, .pw, .aon] = true)
    (hr : s.wf = true → a.retention.all (fun r => legWf r.1 && blobWf r.2) = true) (h : Leads ps s0 s) :
    Leads ps s0 { s with ports := ports', pw := pw', aon := a } := by
  refine h.trans ⟨⟨rfl, fun p hq => ?_⟩, fun w => ⟨?_, FuseState.kept_refl _⟩⟩
  · simp only [covers, List.all_cons, List.all_nil, Bool.and_true, Bool.and_eq_true] at hp
    cases p <;> simp only [Part.agrees] <;> simp_all [State.rd]
  · have hr := hr w
    rw [State.wf_parts] at *
    exact ⟨w.1, w.2.1, hr, w.2.2.2⟩

theorem ite_leads {p : Prop} {_inst : Decidable p} {a b : State} (ha : Leads ps s0 a) (hb : Leads ps s0 b) : Leads ps s0 (if p then a else b) := by
  split
  · exact ha
  · exact hb

theorem ite_fst_leads {α : Type} {p : Prop} {_inst : Decidable p} {a b : State × α} (ha : Leads ps s0 a.1) (hb : Leads ps s0 b.1) :
    Leads ps s0 (if p then a else b).1 := by
  split
  · exact ha
  · exact hb

theorem ite_fst_of {α : Type} {p : Prop} {_inst : Decidable p} {a b : State × α} (ha : p → Leads ps s0 a.1) (hb : ¬p → Leads ps s0 b.1) :
    Leads ps s0 (if p then a else b).1 := by
  split
  · exact ha (by assumption)
  · exact hb (by assumption)

theorem when_leads {p : Bool} {f : State → State} (h : Leads ps s0 s) (hf : Leads ps s0 s → Leads ps s0 (f s)) : Leads ps s0 (when p s f) :=
  ite_leads (hf h) h

theorem foldl_leads {α : Type} {f : State → α → State} {l : List α} (h : Leads ps s0 s)
    (hf : ∀ x a, Leads ps s0 x → Leads ps s0 (f x a)) : Leads ps s0 (l.foldl f s) := by
  induction l generalizing s with
  | nil => exact h
  | cons a t ih => exact ih (hf s a h)

theorem iter_leads {f : State → State} {n : Nat} (h : Leads ps s0 s)
    (hf : ∀ x, Leads ps s0 x → Leads ps s0 (f x)) : Leads ps s0 (iter f n s) := by
  induction n generalizing s with
  | zero => exact h
  | succ n ih => exact ih (hf s h)

theorem modCar_leads (c : Carrier) (f : CarrierState → CarrierState) (hp : covers ps [.car c] = true) (h : Leads ps s0 s) :
    Leads ps s0 (s.modCar c f) := by
  cases c <;> refine Leads.upd rfl rfl ?_ ?_ ?_ ?_ ?_ ?_ ?_ ?_ ?_ ?_ ?_ ?_ ?_ ?_ ?_ ?_ ?_ ?_ ?_ ?_ ?_ ?_ h <;>
    first | exact .inl (within_of_covers hp) | exact .inr rfl

/-- A meaning answers a next state, to which it leads. -/
def Out.leads (ps : List Part) (s : State) (x : Out) : Prop := ∃ t, x = .next t ∧ Leads ps s t

theorem out_intro {s : State} {x : Out} (h : covers ps ps = true → Leads ps s s → Out.leads ps s x) : Out.leads ps s x :=
  h (covers_refl ps) (Leads.refl ps s)

/-- A meaning that starts from where an operation leads. -/
theorem out_leads {qs : List Part} {x : Out} (hx : Out.leads qs s x) (hp : covers ps qs = true)
    (h : Leads ps s0 s) : Out.leads ps s0 x := by
  obtain ⟨t, rfl, ht⟩ := hx
  exact ⟨t, rfl, h.trans (ht.mono hp)⟩

theorem canonKey_idem (k : Key) : canonKey (canonKey k) = canonKey k := by
  unfold canonKey
  split
  · simp
  · rfl

theorem Leads.of_pair {α : Type} {p : State × α} {a : α} (e : p = (t, a)) (h : Leads ps s0 p.1) : Leads ps s0 t := by
  rw [e] at h
  exact h

end Sys2Proof.Machine
end

