-- ==== Sys2Proof/Laws/FrameOps.lean ====
section
/-! SUPPORT. Frames of the operations and meanings of Machine/Ops.lean. -/

namespace Sys2Proof.Machine

variable {ps : List Part} {s0 : State}

theorem State.tookFree_leads (s : State)
    (hp : covers ps [.freeCtr] = true) (h : Leads ps s0 s) : Leads ps s0 (State.tookFree s) := by
  unfold State.tookFree
  repeat' first
    | with_reducible (first
        | assumption | (apply Or.inr; rfl) | rfl)
    | ((with_reducible apply covers_trans hp); decide) | ((with_reducible apply covers_trans hp); (casesm* Carrier <;> decide))
    | ((with_reducible apply covers_trans hp); exact rfl) | ((with_reducible apply covers_trans hp); (casesm* Carrier <;> exact rfl))
    | ((with_reducible (apply Or.inl; apply within_of_covers; apply covers_trans hp)); decide) | with_reducible apply Leads.upd | rfl

theorem State.raise_leads (s : State) (code : Nat) (k : Key)
    (hp : covers ps [.ev, .fb] = true) (h : Leads ps s0 s) : Leads ps s0 (State.raise s code k) := by
  unfold State.raise
  repeat' first
    | with_reducible (first
        | assumption | (apply Or.inr; rfl) | rfl)
    | ((with_reducible apply covers_trans hp); decide) | ((with_reducible apply covers_trans hp); (casesm* Carrier <;> decide))
    | ((with_reducible apply covers_trans hp); exact rfl) | ((with_reducible apply covers_trans hp); (casesm* Carrier <;> exact rfl))
    | ((with_reducible (apply Or.inl; apply within_of_covers; apply covers_trans hp)); decide) | dsimp only
    | with_reducible apply Leads.upd | rfl

theorem State.bumpN_leads (s : State) (k : Key) (n : Nat)
    (hp : covers ps [.entry k.area k.entry, .ev, .fb] = true) (h : Leads ps s0 s) : Leads ps s0 (State.bumpN s k n) := by
  unfold State.bumpN
  repeat' first
    | with_reducible (first
        | assumption | apply ite_leads | apply wr_leads | apply State.raise_leads)
    | ((with_reducible apply covers_trans hp); decide) | ((with_reducible apply covers_trans hp); (casesm* Carrier <;> decide))
    | ((with_reducible apply covers_trans hp); exact rfl) | ((with_reducible apply covers_trans hp); (casesm* Carrier <;> exact rfl))
    | ((with_reducible apply covers_trans hp); ((try casesm* Carrier) <;> (repeat' split) <;> first | decide | rfl))
    | ((with_reducible apply covers_trans hp); simp [covers, Part.within, Part.car, canonKey_idem]) | rfl

theorem State.bump_leads (s : State) (k : Key)
    (hp : covers ps [.entry k.area k.entry, .ev, .fb] = true) (h : Leads ps s0 s) : Leads ps s0 (State.bump s k) := by
  unfold State.bump
  repeat' first
    | with_reducible (first
        | assumption | apply State.bumpN_leads)
    | ((with_reducible apply covers_trans hp); decide) | ((with_reducible apply covers_trans hp); (casesm* Carrier <;> decide))
    | ((with_reducible apply covers_trans hp); exact rfl) | ((with_reducible apply covers_trans hp); (casesm* Carrier <;> exact rfl))
    | rfl

theorem State.wrapN_leads (s : State) (k : Key) (n : Nat)
    (hp : covers ps [.entry k.area k.entry, .ev, .fb] = true) (h : Leads ps s0 s) : Leads ps s0 (State.wrapN s k n) := by
  unfold State.wrapN
  repeat' first
    | with_reducible (first
        | assumption | apply ite_leads | apply wr_leads | apply State.raise_leads)
    | ((with_reducible apply covers_trans hp); decide) | ((with_reducible apply covers_trans hp); (casesm* Carrier <;> decide))
    | ((with_reducible apply covers_trans hp); exact rfl) | ((with_reducible apply covers_trans hp); (casesm* Carrier <;> exact rfl))
    | ((with_reducible apply covers_trans hp); ((try casesm* Carrier) <;> (repeat' split) <;> first | decide | rfl))
    | ((with_reducible apply covers_trans hp); simp [covers, Part.within, Part.car, canonKey_idem]) | rfl

theorem State.wrap16_leads (s : State) (k : Key)
    (hp : covers ps [.entry k.area k.entry] = true) (h : Leads ps s0 s) : Leads ps s0 (State.wrap16 s k) := by
  unfold State.wrap16
  repeat' first
    | with_reducible (first
        | assumption | apply wr_leads)
    | ((with_reducible apply covers_trans hp); decide) | ((with_reducible apply covers_trans hp); (casesm* Carrier <;> decide))
    | ((with_reducible apply covers_trans hp); exact rfl) | ((with_reducible apply covers_trans hp); (casesm* Carrier <;> exact rfl))
    | rfl

theorem State.modTx_leads (s : State) (c : Carrier) (f : TxState → TxState)
    (hp : covers ps [.car c] = true) (h : Leads ps s0 s) : Leads ps s0 (State.modTx s c f) := by
  unfold State.modTx
  repeat' first
    | with_reducible (first
        | assumption | apply modCar_leads)
    | ((with_reducible apply covers_trans hp); decide) | ((with_reducible apply covers_trans hp); (casesm* Carrier <;> decide))
    | ((with_reducible apply covers_trans hp); exact rfl) | ((with_reducible apply covers_trans hp); (casesm* Carrier <;> exact rfl))
    | rfl

theorem State.modRx_leads (s : State) (c : Carrier) (f : RxState → RxState)
    (hp : covers ps [.car c] = true) (h : Leads ps s0 s) : Leads ps s0 (State.modRx s c f) := by
  unfold State.modRx
  repeat' first
    | with_reducible (first
        | assumption | apply modCar_leads)
    | ((with_reducible apply covers_trans hp); decide) | ((with_reducible apply covers_trans hp); (casesm* Carrier <;> decide))
    | ((with_reducible apply covers_trans hp); exact rfl) | ((with_reducible apply covers_trans hp); (casesm* Carrier <;> exact rfl))
    | rfl

theorem State.modFec_leads (s : State) (c : Carrier) (f : FecState → FecState)
    (hp : covers ps [.car c] = true) (h : Leads ps s0 s) : Leads ps s0 (State.modFec s c f) := by
  unfold State.modFec
  repeat' first
    | with_reducible (first
        | assumption | apply modCar_leads)
    | ((with_reducible apply covers_trans hp); decide) | ((with_reducible apply covers_trans hp); (casesm* Carrier <;> decide))
    | ((with_reducible apply covers_trans hp); exact rfl) | ((with_reducible apply covers_trans hp); (casesm* Carrier <;> exact rfl))
    | rfl

theorem State.modLx_leads (s : State) (c : Carrier) (f : LxState → LxState)
    (hp : covers ps [.car c] = true) (h : Leads ps s0 s) : Leads ps s0 (State.modLx s c f) := by
  unfold State.modLx
  repeat' first
    | with_reducible (first
        | assumption | apply modCar_leads)
    | ((with_reducible apply covers_trans hp); decide) | ((with_reducible apply covers_trans hp); (casesm* Carrier <;> decide))
    | ((with_reducible apply covers_trans hp); exact rfl) | ((with_reducible apply covers_trans hp); (casesm* Carrier <;> exact rfl))
    | rfl

theorem State.modDie_leads (s : State) (c : Carrier) (f : DieState → DieState)
    (hp : covers ps [.clk] = true) (h : Leads ps s0 s) : Leads ps s0 (State.modDie s c f) := by
  unfold State.modDie
  repeat' first
    | with_reducible (first
        | assumption | (apply Or.inr; rfl) | rfl)
    | ((with_reducible apply covers_trans hp); decide) | ((with_reducible apply covers_trans hp); (casesm* Carrier <;> decide))
    | ((with_reducible apply covers_trans hp); exact rfl) | ((with_reducible apply covers_trans hp); (casesm* Carrier <;> exact rfl))
    | ((with_reducible (apply Or.inl; apply within_of_covers; apply covers_trans hp)); decide) | dsimp only | split
    | with_reducible apply Leads.upd | rfl

theorem State.modCore_leads (s : State) (c : Nat) (f : Core → Core)
    (hp : covers ps [.cores] = true) (h : Leads ps s0 s) : Leads ps s0 (State.modCore s c f) := by
  unfold State.modCore
  repeat' first
    | with_reducible (first
        | assumption | (apply Or.inr; rfl) | rfl)
    | ((with_reducible apply covers_trans hp); decide) | ((with_reducible apply covers_trans hp); (casesm* Carrier <;> decide))
    | ((with_reducible apply covers_trans hp); exact rfl) | ((with_reducible apply covers_trans hp); (casesm* Carrier <;> exact rfl))
    | ((with_reducible (apply Or.inl; apply within_of_covers; apply covers_trans hp)); decide) | dsimp only
    | with_reducible apply Leads.upd | rfl

theorem State.coreEvent_leads (s : State) (bit : Nat) (who : Nat → Bool)
    (hp : covers ps [.cores] = true) (h : Leads ps s0 s) : Leads ps s0 (State.coreEvent s bit who) := by
  unfold State.coreEvent
  repeat' first
    | with_reducible (first
        | intro _ | assumption | apply ite_leads | apply State.modCore_leads | apply foldl_leads)
    | ((with_reducible apply covers_trans hp); decide) | ((with_reducible apply covers_trans hp); (casesm* Carrier <;> decide))
    | ((with_reducible apply covers_trans hp); exact rfl) | ((with_reducible apply covers_trans hp); (casesm* Carrier <;> exact rfl))
    | rfl

end Sys2Proof.Machine
end

