-- ==== Sys2Proof/Laws/FrameRequests.lean ====
section
/-! SUPPORT. Frames of the operations and meanings of Machine/Requests.lean. -/

namespace Sys2Proof.Machine

variable {ps : List Part} {s0 : State}

theorem State.reply_leads (s : State) (src : Nat) (st : Status) (data : List Byte) (total : Nat)
    (hp : covers ps [.ports] = true) (h : Leads ps s0 s) : Leads ps s0 (State.reply s src st data total) := by
  unfold State.reply
  repeat' first
    | with_reducible (first
        | assumption | (apply Or.inr; rfl) | rfl)
    | ((with_reducible apply covers_trans hp); decide) | ((with_reducible apply covers_trans hp); (casesm* Carrier <;> decide))
    | ((with_reducible apply covers_trans hp); exact rfl) | ((with_reducible apply covers_trans hp); (casesm* Carrier <;> exact rfl))
    | ((with_reducible (apply Or.inl; apply within_of_covers; apply covers_trans hp)); decide) | dsimp only
    | with_reducible apply Leads.upd | rfl

theorem State.ack_leads (s : State) (src : Nat) (st : Status)
    (hp : covers ps [.ports] = true) (h : Leads ps s0 s) : Leads ps s0 (State.ack s src st) := by
  unfold State.ack
  repeat' first
    | with_reducible (first
        | assumption | apply State.reply_leads)
    | ((with_reducible apply covers_trans hp); decide) | ((with_reducible apply covers_trans hp); (casesm* Carrier <;> decide))
    | ((with_reducible apply covers_trans hp); exact rfl) | ((with_reducible apply covers_trans hp); (casesm* Carrier <;> exact rfl))
    | rfl

theorem State.countReq_leads (s : State) (src : Nat)
    (hp : covers ps [.ports, .entry 0x08 0x030, .ev, .fb] = true) (h : Leads ps s0 s) : Leads ps s0 (State.countReq s src) := by
  unfold State.countReq
  repeat' first
    | with_reducible (first
        | assumption | apply State.wrapN_leads | (apply Or.inr; rfl) | rfl)
    | ((with_reducible apply covers_trans hp); decide) | ((with_reducible apply covers_trans hp); (casesm* Carrier <;> decide))
    | ((with_reducible apply covers_trans hp); exact rfl) | ((with_reducible apply covers_trans hp); (casesm* Carrier <;> exact rfl))
    | ((with_reducible (apply Or.inl; apply within_of_covers; apply covers_trans hp)); decide) | dsimp only | split
    | with_reducible apply Leads.upd | rfl

theorem State.idleRestart_leads (s : State) (src : Nat)
    (hp : covers ps [.pw] = true) (h : Leads ps s0 s) : Leads ps s0 (State.idleRestart s src) := by
  unfold State.idleRestart
  repeat' first
    | with_reducible (first
        | assumption | apply ite_leads | (apply Or.inr; rfl) | rfl)
    | ((with_reducible apply covers_trans hp); decide) | ((with_reducible apply covers_trans hp); (casesm* Carrier <;> decide))
    | ((with_reducible apply covers_trans hp); exact rfl) | ((with_reducible apply covers_trans hp); (casesm* Carrier <;> exact rfl))
    | ((with_reducible (apply Or.inl; apply within_of_covers; apply covers_trans hp)); decide) | dsimp only
    | with_reducible apply Leads.upd | rfl

theorem State.request_leads (s : State) (src : Nat) (k : Key) (eff : State → State × Status)
    (hf3 : ∀ a0, Leads ps s0 a0 → Leads ps s0 (eff a0).1)
    (hp : covers ps [.pw, .ports, .entry 0x08 0x030, .ev, .fb] = true) (h : Leads ps s0 s) : Leads ps s0 (State.request s src k eff) := by
  unfold State.request
  repeat' first
    | with_reducible (first
        | assumption | apply ite_leads | apply State.idleRestart_leads | apply State.ack_leads | apply State.countReq_leads | apply hf3)
    | ((with_reducible apply covers_trans hp); decide) | ((with_reducible apply covers_trans hp); (casesm* Carrier <;> decide))
    | ((with_reducible apply covers_trans hp); exact rfl) | ((with_reducible apply covers_trans hp); (casesm* Carrier <;> exact rfl))
    | dsimp only | split | rfl

theorem State.checkpoint_leads (s : State)
    (hp : covers ps [.ed, .entry 0x02 0x042] = true) (h : Leads ps s0 s) : Leads ps s0 (State.checkpoint s) := by
  unfold State.checkpoint
  repeat' first
    | with_reducible (first
        | assumption | apply wr_leads | (apply Or.inr; rfl) | rfl)
    | ((with_reducible apply covers_trans hp); decide) | ((with_reducible apply covers_trans hp); (casesm* Carrier <;> decide))
    | ((with_reducible apply covers_trans hp); exact rfl) | ((with_reducible apply covers_trans hp); (casesm* Carrier <;> exact rfl))
    | ((with_reducible (apply Or.inl; apply within_of_covers; apply covers_trans hp)); decide) | dsimp only
    | with_reducible apply Leads.upd | rfl

theorem State.journal_leads (s : State) (r : JRec)
    (hp : covers ps [.ed, .entry 0x02 0x042, .ev, .fb] = true) (h : Leads ps s0 s) : Leads ps s0 (State.journal s r) := by
  unfold State.journal
  repeat' first
    | with_reducible (first
        | assumption | apply ite_leads | apply State.checkpoint_leads | apply State.raise_leads | apply wr_leads | (apply Or.inr; rfl)
        | rfl)
    | ((with_reducible apply covers_trans hp); decide) | ((with_reducible apply covers_trans hp); (casesm* Carrier <;> decide))
    | ((with_reducible apply covers_trans hp); exact rfl) | ((with_reducible apply covers_trans hp); (casesm* Carrier <;> exact rfl))
    | ((with_reducible (apply Or.inl; apply within_of_covers; apply covers_trans hp)); decide) | dsimp only
    | with_reducible apply Leads.upd | rfl

theorem State.rwStore_leads (s : State) (src : Nat) (k : Key) (v : Int)
    (hp : covers ps [.entry k.area k.entry, .ed, .entry 0x02 0x042, .ev, .fb] = true) (h : Leads ps s0 s) : Leads ps s0 (State.rwStore s src k v) := by
  unfold State.rwStore
  repeat' first
    | with_reducible (first
        | assumption | apply wr_leads | apply State.journal_leads)
    | ((with_reducible apply covers_trans hp); decide) | ((with_reducible apply covers_trans hp); (casesm* Carrier <;> decide))
    | ((with_reducible apply covers_trans hp); exact rfl) | ((with_reducible apply covers_trans hp); (casesm* Carrier <;> exact rfl))
    | ((with_reducible apply covers_trans hp); simp [covers, Part.within, Part.car, canonKey_idem]) | rfl

theorem State.rwBlob_leads (s : State) (src : Nat) (k : Key) (bs : List Byte)
    (hp : covers ps [.blobs, .ed, .entry 0x02 0x042, .ev, .fb] = true) (h : Leads ps s0 s) : Leads ps s0 (State.rwBlob s src k bs) := by
  unfold State.rwBlob
  repeat' first
    | with_reducible (first
        | assumption | apply setBlob_leads | apply State.journal_leads)
    | ((with_reducible apply covers_trans hp); decide) | ((with_reducible apply covers_trans hp); (casesm* Carrier <;> decide))
    | ((with_reducible apply covers_trans hp); exact rfl) | ((with_reducible apply covers_trans hp); (casesm* Carrier <;> exact rfl))
    | rfl

theorem rwEffect_leads (src : Nat) (k : Key) (v : Int) (s : State)
    (hp : covers ps [.entry (canonKey k).area (canonKey k).entry, .ed, .entry 0x02 0x042, .ev, .fb] = true) (h : Leads ps s0 s) : Leads ps s0 (rwEffect src k v s).1 := by
  unfold rwEffect
  repeat' first
    | with_reducible (first
        | assumption | apply State.rwStore_leads)
    | ((with_reducible apply covers_trans hp); decide) | ((with_reducible apply covers_trans hp); (casesm* Carrier <;> decide))
    | ((with_reducible apply covers_trans hp); exact rfl) | ((with_reducible apply covers_trans hp); (casesm* Carrier <;> exact rfl))
    | rfl

theorem draftEffect_leads (src : Nat) (k : Key) (v : Val) (s : State)
    (hp : covers ps [.ed] = true) (h : Leads ps s0 s) : Leads ps s0 (draftEffect src k v s).1 := by
  unfold draftEffect
  repeat' first
    | with_reducible (first
        | assumption | apply ite_fst_leads | (apply Or.inr; rfl) | rfl)
    | ((with_reducible apply covers_trans hp); decide) | ((with_reducible apply covers_trans hp); (casesm* Carrier <;> decide))
    | ((with_reducible apply covers_trans hp); exact rfl) | ((with_reducible apply covers_trans hp); (casesm* Carrier <;> exact rfl))
    | ((with_reducible (apply Or.inl; apply within_of_covers; apply covers_trans hp)); decide) | dsimp only | split
    | with_reducible apply Leads.upd | rfl

theorem State.addHist_leads (s : State) (x1 : HistRec)
    (hp : covers ps [.ed] = true) (h : Leads ps s0 s) : Leads ps s0 (State.addHist s x1) := by
  unfold State.addHist
  repeat' first
    | with_reducible (first
        | assumption | (apply Or.inr; rfl) | rfl)
    | ((with_reducible apply covers_trans hp); decide) | ((with_reducible apply covers_trans hp); (casesm* Carrier <;> decide))
    | ((with_reducible apply covers_trans hp); exact rfl) | ((with_reducible apply covers_trans hp); (casesm* Carrier <;> exact rfl))
    | ((with_reducible (apply Or.inl; apply within_of_covers; apply covers_trans hp)); decide) | dsimp only
    | with_reducible apply Leads.upd | rfl

theorem State.dropDraft_leads (s : State)
    (hp : covers ps [.ed, .blobs, .entry 0x50 0x050] = true) (h : Leads ps s0 s) : Leads ps s0 (State.dropDraft s) := by
  unfold State.dropDraft
  repeat' first
    | with_reducible (first
        | assumption | apply setBlob_leads | apply wr_leads | (apply Or.inr; rfl) | rfl)
    | ((with_reducible apply covers_trans hp); decide) | ((with_reducible apply covers_trans hp); (casesm* Carrier <;> decide))
    | ((with_reducible apply covers_trans hp); exact rfl) | ((with_reducible apply covers_trans hp); (casesm* Carrier <;> exact rfl))
    | ((with_reducible (apply Or.inl; apply within_of_covers; apply covers_trans hp)); decide) | dsimp only
    | with_reducible apply Leads.upd | rfl

theorem State.endDraft_leads (s : State) (result : Nat) (reason : Nat)
    (hp : covers ps [.ed, .blobs, .entry 0x50 0x050, .ev, .fb] = true) (h : Leads ps s0 s) : Leads ps s0 (State.endDraft s result reason) := by
  unfold State.endDraft
  repeat' first
    | with_reducible (first
        | assumption | apply State.addHist_leads | apply State.dropDraft_leads | apply State.raise_leads)
    | ((with_reducible apply covers_trans hp); decide) | ((with_reducible apply covers_trans hp); (casesm* Carrier <;> decide))
    | ((with_reducible apply covers_trans hp); exact rfl) | ((with_reducible apply covers_trans hp); (casesm* Carrier <;> exact rfl))
    | split | rfl

theorem State.discardOwned_leads (s : State) (src : Nat)
    (hp : covers ps [.ed, .blobs, .entry 0x50 0x050, .ev, .fb] = true) (h : Leads ps s0 s) : Leads ps s0 (State.discardOwned s src) := by
  unfold State.discardOwned
  repeat' first
    | with_reducible (first
        | assumption | apply ite_leads | apply State.endDraft_leads)
    | ((with_reducible apply covers_trans hp); decide) | ((with_reducible apply covers_trans hp); (casesm* Carrier <;> decide))
    | ((with_reducible apply covers_trans hp); exact rfl) | ((with_reducible apply covers_trans hp); (casesm* Carrier <;> exact rfl))
    | rfl

theorem State.putElems_leads (s : State) (es : List (Key × Val))
    (hp : covers ps [.legend, .blobs] = true) (h : Leads ps s0 s) : Leads ps s0 (State.putElems s es) := by
  unfold State.putElems
  repeat' first
    | with_reducible (first
        | intro _ | assumption | apply wr_leads | apply setBlob_leads | apply foldl_leads)
    | ((with_reducible apply covers_trans hp); decide) | ((with_reducible apply covers_trans hp); (casesm* Carrier <;> decide))
    | ((with_reducible apply covers_trans hp); exact rfl) | ((with_reducible apply covers_trans hp); (casesm* Carrier <;> exact rfl))
    | ((with_reducible apply covers_trans hp); ((try casesm* Carrier) <;> (repeat' split) <;> first | decide | rfl)) | split | rfl

theorem State.settled_leads (s : State)
    (hp : covers ps [.carA, .carB] = true) (h : Leads ps s0 s) : Leads ps s0 (State.settled s) := by
  unfold State.settled
  repeat' first
    | with_reducible (first
        | assumption | apply State.modTx_leads)
    | ((with_reducible apply covers_trans hp); decide) | ((with_reducible apply covers_trans hp); (casesm* Carrier <;> decide))
    | ((with_reducible apply covers_trans hp); exact rfl) | ((with_reducible apply covers_trans hp); (casesm* Carrier <;> exact rfl))
    | rfl

end Sys2Proof.Machine
end

