-- ==== Sys2Proof/Laws/Accept.lean ====
section
/-! SUPPORT. What an accepted request does, and what its state before the effect leaves as it was. -/

namespace Sys2Proof.Machine

variable (s : State) (src : Nat)

theorem aget_aput {α : Type} (m : List (Nat × α)) (k : Nat) (v d : α) : aget (aput m k v) k d = v := by
  induction m with
  | nil => simp [aput, aget]
  | cons e t ih => simp only [aput]; split_ifs <;> simp_all [aget]

/-- What the acceptance of a request may change. -/
theorem accepted_leads : Leads [.pw, .ports, .area 0x08, .ev, .fb] s (s.accepted src) :=
  State.countReq_leads _ _ (by decide) (State.idleRestart_leads _ _ (by decide) (Leads.refl _ _))

@[simp] theorem accepted_rd (k : Key) (h : k.area ≠ 0x08) : (s.accepted src).rd k = s.rd k :=
  (accepted_leads s src).1.2 (.entry k.area k.entry) (by simp [Part.within, h]) k rfl rfl

@[simp] theorem accepted_rdN (k : Key) (h : k.area ≠ 0x08) : (s.accepted src).rdN k = s.rdN k := by
  unfold State.rdN; rw [accepted_rd s src k h]

@[simp] theorem accepted_on (k : Key) (h : k.area ≠ 0x08) : (s.accepted src).on k = s.on k := by
  unfold State.on; rw [accepted_rd s src k h]

@[simp] theorem accepted_blobs : (s.accepted src).blobs = s.blobs := (accepted_leads s src).1.2 .blobs (by decide)
@[simp] theorem accepted_ports : (s.accepted src).ports = { s.ports with lastSrc := src } := by
  have h : (s.idleRestart src).ports = s.ports := by unfold State.idleRestart; split <;> rfl
  unfold State.accepted State.countReq
  simp only [h]
  split
  · exact (State.wrapN_leads _ _ _ (ps := [.area 0x08, .ev, .fb]) rfl (Leads.refl _ _)).1.2 .ports (by decide)
  · rfl
@[simp] theorem accepted_ed : (s.accepted src).ed = s.ed := (accepted_leads s src).1.2 .ed (by decide)
@[simp] theorem accepted_carA : (s.accepted src).carA = s.carA := (accepted_leads s src).1.2 .carA (by decide)
@[simp] theorem accepted_carB : (s.accepted src).carB = s.carB := (accepted_leads s src).1.2 .carB (by decide)
@[simp] theorem accepted_clk : (s.accepted src).clk = s.clk := (accepted_leads s src).1.2 .clk (by decide)
@[simp] theorem accepted_host : (s.accepted src).host = s.host := (accepted_leads s src).1.2 .host (by decide)
@[simp] theorem accepted_hk : (s.accepted src).hk = s.hk := (accepted_leads s src).1.2 .hk (by decide)
@[simp] theorem accepted_tv : (s.accepted src).tv = s.tv := (accepted_leads s src).1.2 .tv (by decide)
@[simp] theorem accepted_th : (s.accepted src).th = s.th := (accepted_leads s src).1.2 .th (by decide)
@[simp] theorem accepted_aon : (s.accepted src).aon = s.aon := (accepted_leads s src).1.2 .aon (by decide)
@[simp] theorem accepted_integ : (s.accepted src).integ = s.integ := (accepted_leads s src).1.2 .integ (by decide)
@[simp] theorem accepted_boot : (s.accepted src).boot = s.boot := (accepted_leads s src).1.2 .boot (by decide)
@[simp] theorem accepted_cores : (s.accepted src).cores = s.cores := (accepted_leads s src).1.2 .cores (by decide)
@[simp] theorem accepted_fuse : (s.accepted src).fuse = s.fuse := (accepted_leads s src).1.2 .fuse (by decide)
@[simp] theorem accepted_flash : (s.accepted src).flash = s.flash := (accepted_leads s src).1.2 .flash (by decide)
@[simp] theorem accepted_sec : (s.accepted src).sec = s.sec := (accepted_leads s src).1.2 .sec (by decide)
@[simp] theorem accepted_dbg : (s.accepted src).dbg = s.dbg := (accepted_leads s src).1.2 .dbg (by decide)
@[simp] theorem accepted_datum : (s.accepted src).datum = s.datum := (accepted_leads s src).1.2 .datum (by decide)
@[simp] theorem accepted_freeCtr : (s.accepted src).freeCtr = s.freeCtr := (accepted_leads s src).1.2 .freeCtr (by decide)
@[simp] theorem accepted_car (c : Carrier) : (s.accepted src).car c = s.car c := by cases c <;> simp [State.car]

theorem accepted_gate (k : Key) (w : Bool) : (s.accepted src).gate k w = s.gate k w := by simp only [State.gate, accepted_fuse]

theorem accepted_absent (k : Key) : (s.accepted src).absent k = s.absent k := by simp only [State.absent, accepted_fuse]

/-- An accepted request takes its effect, and the effect's status is the answer. -/
theorem request_accepted {k : Key} {eff : State → State × Status} (h : s.accepts src k) :
    s.request src k eff = (eff (s.accepted src)).1.ack src (eff (s.accepted src)).2 := by
  obtain ⟨h1, h2, h3, h4, h5⟩ := h
  have h4' : ((s.idleRestart src).countReq src).gate (canonKey k) true = none := (accepted_gate s src _ _).trans h4
  have h5' : ¬(((s.idleRestart src).countReq src).absent (canonKey k) = true ∧ (rowOf k).any (fun r => r.access ≠ .ed) = true) := by
    rintro ⟨ha, hb⟩
    have := h5 ((accepted_absent s src _).symm.trans ha)
    simp_all
  unfold State.request
  rw [if_neg (by simp [h1, h2]), if_neg (by simp [h3])]
  simp only [h4']
  rw [if_neg h5']
  rfl

@[simp] theorem ack_answered (st : Status) : (s.ack src st).answered src st := by
  simp [State.answered, State.replyOf, State.ack, State.reply, aget_aput]

end Sys2Proof.Machine
end

