-- ==== Sys2Proof/Laws/Basics.lean ====
section
/-! SUPPORT. What reads see after the basic updates: Legend elements, counters and the parts of a carrier. -/

namespace Sys2Proof.Machine

@[simp] theorem modCar_car (s : State) (c f) : (s.modCar c f).car c = f (s.car c) := by cases c <;> rfl
@[simp] theorem modTx_tx (s : State) (c f) : ((s.modTx c f).car c).tx = f (s.car c).tx := by cases c <;> rfl
@[simp] theorem modRx_rx (s : State) (c f) : ((s.modRx c f).car c).rx = f (s.car c).rx := by cases c <;> rfl
@[simp] theorem modFec_fec (s : State) (c f) : ((s.modFec c f).car c).fec = f (s.car c).fec := by cases c <;> rfl
@[simp] theorem modLx_lx (s : State) (c f) : ((s.modLx c f).car c).lx = f (s.car c).lx := by cases c <;> rfl
@[simp] theorem modRx_tx (s : State) (c f) : ((s.modRx c f).car c).tx = (s.car c).tx := by cases c <;> rfl
@[simp] theorem modFec_tx (s : State) (c f) : ((s.modFec c f).car c).tx = (s.car c).tx := by cases c <;> rfl
@[simp] theorem modTx_rx (s : State) (c f) : ((s.modTx c f).car c).rx = (s.car c).rx := by cases c <;> rfl
@[simp] theorem wr_car (s : State) (k v c) : (s.wr k v).car c = s.car c := by cases c <;> rfl
@[simp] theorem raise_car (s : State) (k v c) : (s.raise k v).car c = s.car c := by cases c <;> rfl
@[simp] theorem ack_car (s : State) (k v c) : (s.ack k v).car c = s.car c := by cases c <;> rfl
@[simp] theorem modCar_rd (s : State) (c f k) : (s.modCar c f).rd k = s.rd k := by cases c <;> rfl
@[simp] theorem modTx_rd (s : State) (c f k) : (s.modTx c f).rd k = s.rd k := by cases c <;> rfl
@[simp] theorem modRx_rd (s : State) (c f k) : (s.modRx c f).rd k = s.rd k := by cases c <;> rfl
@[simp] theorem modFec_rd (s : State) (c f k) : (s.modFec c f).rd k = s.rd k := by cases c <;> rfl
@[simp] theorem modLx_rd (s : State) (c f k) : (s.modLx c f).rd k = s.rd k := by cases c <;> rfl
theorem wr_rd (s : State) (k v j) : (s.wr k v).rd j = if j = k then v else s.rd j := by
  split
  · subst_vars; simp
  · exact State.rd_wr_other s v ‹_›
@[simp] theorem raise_rdN (s : State) (a k j) : (s.raise a k).rdN j = s.rdN j := rfl
@[simp] theorem raise_on (s : State) (a k j) : (s.raise a k).on j = s.on j := rfl
@[simp] theorem modCore_rd (s : State) (c f k) : (s.modCore c f).rd k = s.rd k := rfl
theorem wrapN_rd (s : State) (k n j) : (s.wrapN k n).rd j = if j = k then (((s.rdN k + n) % 2 ^ 48 : Nat) : Int) else s.rd j := by
  unfold State.wrapN; dsimp only; split <;> simp [wr_rd, max48]
theorem bumpN_rd (s : State) (k n j) : (s.bumpN k n).rd j = if j = k then ((min (s.rdN k + n) max48 : Nat) : Int) else s.rd j := by
  unfold State.bumpN; dsimp only; split <;> simp [wr_rd, max48]
theorem bump_rd (s : State) (k j) : (s.bump k).rd j = if j = k then ((min (s.rdN k + 1) max48 : Nat) : Int) else s.rd j := bumpN_rd ..
@[simp] theorem wrapN_car (s : State) (k n c) : (s.wrapN k n).car c = s.car c := by
  unfold State.wrapN; dsimp only; split <;> simp
@[simp] theorem bumpN_car (s : State) (k n c) : (s.bumpN k n).car c = s.car c := by
  unfold State.bumpN; dsimp only; split <;> simp
@[simp] theorem bump_car (s : State) (k c) : (s.bump k).car c = s.car c := bumpN_car ..
@[simp] theorem coreEvent_rd (s : State) (b w k) : (s.coreEvent b w).rd k = s.rd k :=
  (State.coreEvent_leads s b w (ps := [.cores]) (by decide) (Leads.refl _ s)).1.2 (.entry k.area k.entry) (by simp [Part.within]) k rfl rfl
@[simp] theorem coreEvent_car (s : State) (b w c) : (s.coreEvent b w).car c = s.car c := by
  have h := (State.coreEvent_leads s b w (ps := [.cores]) (by decide) (Leads.refl _ s)).1.2
  cases c
  · exact h .carA (by decide)
  · exact h .carB (by decide)

end Sys2Proof.Machine
end

