-- ==== Sys2Proof/Laws/FrameHostView.lean ====
section
/-! SUPPORT. Frames of the operations and meanings of Machine/HostView.lean. -/

namespace Sys2Proof.Machine

variable {ps : List Part} {s0 : State}

theorem State.modLane_leads (s : State) (n : Nat) (f : Lane → Lane)
    (hp : covers ps [.host] = true) (h : Leads ps s0 s) : Leads ps s0 (State.modLane s n f) := by
  unfold State.modLane
  repeat' first
    | with_reducible (first
        | assumption | (apply Or.inr; rfl) | rfl)
    | ((with_reducible apply covers_trans hp); decide) | ((with_reducible apply covers_trans hp); (casesm* Carrier <;> decide))
    | ((with_reducible apply covers_trans hp); exact rfl) | ((with_reducible apply covers_trans hp); (casesm* Carrier <;> exact rfl))
    | ((with_reducible (apply Or.inl; apply within_of_covers; apply covers_trans hp)); decide) | dsimp only
    | with_reducible apply Leads.upd | rfl

theorem State.modClient_leads (s : State) (i : Nat) (f : Client → Client)
    (hp : covers ps [.host] = true) (h : Leads ps s0 s) : Leads ps s0 (State.modClient s i f) := by
  unfold State.modClient
  repeat' first
    | with_reducible (first
        | assumption | (apply Or.inr; rfl) | rfl)
    | ((with_reducible apply covers_trans hp); decide) | ((with_reducible apply covers_trans hp); (casesm* Carrier <;> decide))
    | ((with_reducible apply covers_trans hp); exact rfl) | ((with_reducible apply covers_trans hp); (casesm* Carrier <;> exact rfl))
    | ((with_reducible (apply Or.inl; apply within_of_covers; apply covers_trans hp)); decide) | dsimp only
    | with_reducible apply Leads.upd | rfl

theorem State.queueStatus_leads (s : State) (c : Carrier) (p : Packet)
    (hp : covers ps [.host] = true) (h : Leads ps s0 s) : Leads ps s0 (State.queueStatus s c p) := by
  unfold State.queueStatus
  repeat' first
    | with_reducible (first
        | assumption | (apply Or.inr; rfl) | rfl)
    | ((with_reducible apply covers_trans hp); decide) | ((with_reducible apply covers_trans hp); (casesm* Carrier <;> decide))
    | ((with_reducible apply covers_trans hp); exact rfl) | ((with_reducible apply covers_trans hp); (casesm* Carrier <;> exact rfl))
    | ((with_reducible (apply Or.inl; apply within_of_covers; apply covers_trans hp)); decide) | dsimp only | split
    | with_reducible apply Leads.upd | rfl

theorem State.sendStatus_leads (s : State) (i : Nat)
    (hp : covers ps [.host] = true) (h : Leads ps s0 s) : Leads ps s0 (State.sendStatus s i) := by
  unfold State.sendStatus
  repeat' first
    | with_reducible (first
        | assumption | apply ite_leads | apply State.modClient_leads | apply State.queueStatus_leads)
    | ((with_reducible apply covers_trans hp); decide) | ((with_reducible apply covers_trans hp); (casesm* Carrier <;> decide))
    | ((with_reducible apply covers_trans hp); exact rfl) | ((with_reducible apply covers_trans hp); (casesm* Carrier <;> exact rfl))
    | dsimp only | split | rfl

theorem State.watchCode_leads (s : State) (i : Nat)
    (hp : covers ps [.host] = true) (h : Leads ps s0 s) : Leads ps s0 (State.watchCode s i) := by
  unfold State.watchCode
  repeat' first
    | with_reducible (first
        | assumption | apply ite_leads | apply State.sendStatus_leads)
    | ((with_reducible apply covers_trans hp); decide) | ((with_reducible apply covers_trans hp); (casesm* Carrier <;> decide))
    | ((with_reducible apply covers_trans hp); exact rfl) | ((with_reducible apply covers_trans hp); (casesm* Carrier <;> exact rfl))
    | rfl

theorem State.laneFollow_leads (s : State) (n : Nat)
    (hp : covers ps [.host] = true) (h : Leads ps s0 s) : Leads ps s0 (State.laneFollow s n) := by
  unfold State.laneFollow
  repeat' first
    | with_reducible (first
        | intro _ | assumption | apply State.watchCode_leads | apply foldl_leads)
    | ((with_reducible apply covers_trans hp); decide) | ((with_reducible apply covers_trans hp); (casesm* Carrier <;> decide))
    | ((with_reducible apply covers_trans hp); exact rfl) | ((with_reducible apply covers_trans hp); (casesm* Carrier <;> exact rfl))
    | rfl

theorem State.evalFault_leads (s : State) (i : Nat)
    (hp : covers ps [.host, .ev, .fb] = true) (h : Leads ps s0 s) : Leads ps s0 (State.evalFault s i) := by
  unfold State.evalFault
  repeat' first
    | with_reducible (first
        | assumption | apply ite_leads | apply State.modClient_leads | apply State.raise_leads)
    | ((with_reducible apply covers_trans hp); decide) | ((with_reducible apply covers_trans hp); (casesm* Carrier <;> decide))
    | ((with_reducible apply covers_trans hp); exact rfl) | ((with_reducible apply covers_trans hp); (casesm* Carrier <;> exact rfl))
    | rfl

theorem State.dropQueue_leads (s : State) (i : Nat)
    (hp : covers ps [.entry 0x11 0x021, .ev, .fb, .entry 0x11 0x040, .host] = true) (h : Leads ps s0 s) : Leads ps s0 (State.dropQueue s i) := by
  unfold State.dropQueue
  repeat' first
    | with_reducible (first
        | assumption | apply ite_leads | apply State.bumpN_leads | apply State.modClient_leads)
    | ((with_reducible apply covers_trans hp); decide) | ((with_reducible apply covers_trans hp); (casesm* Carrier <;> decide))
    | ((with_reducible apply covers_trans hp); exact rfl) | ((with_reducible apply covers_trans hp); (casesm* Carrier <;> exact rfl))
    | rfl

theorem State.hostFollow_leads (s : State) (c : Carrier)
    (hp : covers ps [.entry 0x11 0x021, .ev, .fb, .entry 0x11 0x040, .host] = true) (h : Leads ps s0 s) : Leads ps s0 (State.hostFollow s c) := by
  unfold State.hostFollow
  repeat' first
    | with_reducible (first
        | intro _ | assumption | apply ite_leads | apply State.dropQueue_leads | apply State.evalFault_leads | apply foldl_leads
        | (apply Or.inr; rfl) | rfl)
    | ((with_reducible apply covers_trans hp); decide) | ((with_reducible apply covers_trans hp); (casesm* Carrier <;> decide))
    | ((with_reducible apply covers_trans hp); exact rfl) | ((with_reducible apply covers_trans hp); (casesm* Carrier <;> exact rfl))
    | ((with_reducible (apply Or.inl; apply within_of_covers; apply covers_trans hp)); decide) | dsimp only
    | with_reducible apply Leads.upd | rfl

end Sys2Proof.Machine
end

