-- ==== Sys2Proof/Laws/FrameCarrier.lean ====
section
/-! SUPPORT. Frames of the operations and meanings of Machine/Carrier.lean. -/

namespace Sys2Proof.Machine

variable {ps : List Part} {s0 : State}

theorem State.evalShortfall_leads (s : State) (c : Carrier)
    (hp : covers ps [.entry 0x11 0x030, .ev, .fb] = true) (h : Leads ps s0 s) : Leads ps s0 (State.evalShortfall s c) := by
  unfold State.evalShortfall
  repeat' first
    | with_reducible (first
        | assumption | apply ite_leads | apply wr_leads | apply State.raise_leads)
    | ((with_reducible apply covers_trans hp); decide) | ((with_reducible apply covers_trans hp); (casesm* Carrier <;> decide))
    | ((with_reducible apply covers_trans hp); exact rfl) | ((with_reducible apply covers_trans hp); (casesm* Carrier <;> exact rfl))
    | rfl

theorem State.contourDark_leads (s : State) (c : Carrier)
    (hp : covers ps [.car c, .entry (0x20 + c.off) 0x036, .entry (0x20 + c.off) 0x037] = true) (h : Leads ps s0 s) : Leads ps s0 (State.contourDark s c) := by
  unfold State.contourDark
  repeat' first
    | with_reducible (first
        | assumption | apply State.modTx_leads | apply wr_leads)
    | ((with_reducible apply covers_trans hp); decide) | ((with_reducible apply covers_trans hp); (casesm* Carrier <;> decide))
    | ((with_reducible apply covers_trans hp); exact rfl) | ((with_reducible apply covers_trans hp); (casesm* Carrier <;> exact rfl))
    | rfl

theorem State.nlcShow_leads (s : State) (c : Carrier) (bypass : Bool) (throttle : Bool)
    (hp : covers ps [.car c, .entry (0x20 + c.off) 0x054, .ev, .fb] = true) (h : Leads ps s0 s) : Leads ps s0 (State.nlcShow s c bypass throttle) := by
  unfold State.nlcShow
  repeat' first
    | with_reducible (first
        | assumption | apply ite_leads | apply State.modTx_leads | apply wr_leads | apply State.raise_leads)
    | ((with_reducible apply covers_trans hp); decide) | ((with_reducible apply covers_trans hp); (casesm* Carrier <;> decide))
    | ((with_reducible apply covers_trans hp); exact rfl) | ((with_reducible apply covers_trans hp); (casesm* Carrier <;> exact rfl))
    | rfl

theorem State.evalNlc_leads (s : State) (c : Carrier)
    (hp : covers ps [.car c, .entry (0x20 + c.off) 0x054, .ev, .fb] = true) (h : Leads ps s0 s) : Leads ps s0 (State.evalNlc s c) := by
  unfold State.evalNlc
  repeat' first
    | with_reducible (first
        | assumption | apply State.nlcShow_leads)
    | ((with_reducible apply covers_trans hp); decide) | ((with_reducible apply covers_trans hp); (casesm* Carrier <;> decide))
    | ((with_reducible apply covers_trans hp); exact rfl) | ((with_reducible apply covers_trans hp); (casesm* Carrier <;> exact rfl))
    | rfl

theorem State.evalXpm_leads (s : State) (c : Carrier)
    (hp : covers ps [.car c, .entry (0x20 + c.off) 0x054, .ev, .fb] = true) (h : Leads ps s0 s) : Leads ps s0 (State.evalXpm s c) := by
  unfold State.evalXpm
  repeat' first
    | with_reducible (first
        | assumption | apply ite_leads | apply State.nlcShow_leads)
    | ((with_reducible apply covers_trans hp); decide) | ((with_reducible apply covers_trans hp); (casesm* Carrier <;> decide))
    | ((with_reducible apply covers_trans hp); exact rfl) | ((with_reducible apply covers_trans hp); (casesm* Carrier <;> exact rfl))
    | rfl

theorem State.afterSquelch_leads (s : State) (c : Carrier) (old : Bool)
    (hp : covers ps [.entry (0x20 + c.off) 0x043, .ev, .fb, .entry (0x20 + c.off) 0x036, .entry (0x20 + c.off) 0x037, .carA, .carB, .entry 0x20 0x054, .entry 0x30 0x054] = true) (h : Leads ps s0 s) : Leads ps s0 (State.afterSquelch s c old) := by
  unfold State.afterSquelch
  repeat' first
    | with_reducible (first
        | assumption | apply ite_leads | apply State.bump_leads | apply State.raise_leads | apply State.contourDark_leads
        | apply State.evalXpm_leads)
    | ((with_reducible apply covers_trans hp); decide) | ((with_reducible apply covers_trans hp); (casesm* Carrier <;> decide))
    | ((with_reducible apply covers_trans hp); exact rfl) | ((with_reducible apply covers_trans hp); (casesm* Carrier <;> exact rfl))
    | rfl

theorem State.withDeviceState_leads (s : State) (st : Int)
    (hp : covers ps [.entry 0x01 0x000, .entry 0x20 0x043, .ev, .fb, .carA, .entry 0x20 0x036, .entry 0x20 0x037, .carB, .entry 0x20 0x054, .entry 0x30 0x054, .entry 0x30 0x043, .entry 0x30 0x036, .entry 0x30 0x037] = true) (h : Leads ps s0 s) : Leads ps s0 (State.withDeviceState s st) := by
  unfold State.withDeviceState
  repeat' first
    | with_reducible (first
        | assumption | apply ite_leads | apply wr_leads | apply State.afterSquelch_leads)
    | ((with_reducible apply covers_trans hp); decide) | ((with_reducible apply covers_trans hp); (casesm* Carrier <;> decide))
    | ((with_reducible apply covers_trans hp); exact rfl) | ((with_reducible apply covers_trans hp); (casesm* Carrier <;> exact rfl))
    | rfl

theorem State.startSearch_leads (s : State) (c : Carrier)
    (hp : covers ps [.entry (0x21 + c.off) 0x01C, .entry (0x21 + c.off) 0x01E, .car c] = true) (h : Leads ps s0 s) : Leads ps s0 (State.startSearch s c) := by
  unfold State.startSearch
  repeat' first
    | with_reducible (first
        | assumption | apply wr_leads | apply State.modRx_leads)
    | ((with_reducible apply covers_trans hp); decide) | ((with_reducible apply covers_trans hp); (casesm* Carrier <;> decide))
    | ((with_reducible apply covers_trans hp); exact rfl) | ((with_reducible apply covers_trans hp); (casesm* Carrier <;> exact rfl))
    | rfl

theorem State.setPhase_leads (s : State) (c : Carrier) (p : Int)
    (hp : covers ps [.entry (0x22 + c.off) 0x001, .entry 0x11 0x021, .ev, .fb, .entry 0x11 0x040, .host] = true) (h : Leads ps s0 s) : Leads ps s0 (State.setPhase s c p) := by
  unfold State.setPhase
  repeat' first
    | with_reducible (first
        | assumption | apply wr_leads | apply State.hostFollow_leads)
    | ((with_reducible apply covers_trans hp); decide) | ((with_reducible apply covers_trans hp); (casesm* Carrier <;> decide))
    | ((with_reducible apply covers_trans hp); exact rfl) | ((with_reducible apply covers_trans hp); (casesm* Carrier <;> exact rfl))
    | rfl

theorem State.rxStatusBit_leads (s : State) (c : Carrier) (b : Nat) (v : Bool)
    (hp : covers ps [.entry (0x21 + c.off) 0x001] = true) (h : Leads ps s0 s) : Leads ps s0 (State.rxStatusBit s c b v) := by
  unfold State.rxStatusBit
  repeat' first
    | with_reducible (first
        | assumption | apply wr_leads)
    | ((with_reducible apply covers_trans hp); decide) | ((with_reducible apply covers_trans hp); (casesm* Carrier <;> decide))
    | ((with_reducible apply covers_trans hp); exact rfl) | ((with_reducible apply covers_trans hp); (casesm* Carrier <;> exact rfl))
    | rfl

theorem State.setCommon_leads (s : State) (c : Carrier) (f : Int)
    (hp : covers ps [.entry (0x21 + c.off) 0x062, .entry (0x21 + c.off) 0x064] = true) (h : Leads ps s0 s) : Leads ps s0 (State.setCommon s c f) := by
  unfold State.setCommon
  repeat' first
    | with_reducible (first
        | assumption | apply wr_leads)
    | ((with_reducible apply covers_trans hp); decide) | ((with_reducible apply covers_trans hp); (casesm* Carrier <;> decide))
    | ((with_reducible apply covers_trans hp); exact rfl) | ((with_reducible apply covers_trans hp); (casesm* Carrier <;> exact rfl))
    | rfl

theorem State.zeroCommon_leads (s : State) (c : Carrier)
    (hp : covers ps [.car c, .entry (0x21 + c.off) 0x062, .entry (0x21 + c.off) 0x064, .entry (0x21 + c.off) 0x001] = true) (h : Leads ps s0 s) : Leads ps s0 (State.zeroCommon s c) := by
  unfold State.zeroCommon
  repeat' first
    | with_reducible (first
        | assumption | apply State.modRx_leads | apply State.setCommon_leads | apply State.rxStatusBit_leads)
    | ((with_reducible apply covers_trans hp); decide) | ((with_reducible apply covers_trans hp); (casesm* Carrier <;> decide))
    | ((with_reducible apply covers_trans hp); exact rfl) | ((with_reducible apply covers_trans hp); (casesm* Carrier <;> exact rfl))
    | rfl

theorem State.toCma_leads (s : State) (c : Carrier)
    (hp : covers ps [.car c, .entry (0x21 + c.off) 0x001] = true) (h : Leads ps s0 s) : Leads ps s0 (State.toCma s c) := by
  unfold State.toCma
  repeat' first
    | with_reducible (first
        | assumption | apply State.modRx_leads | apply State.rxStatusBit_leads)
    | ((with_reducible apply covers_trans hp); decide) | ((with_reducible apply covers_trans hp); (casesm* Carrier <;> decide))
    | ((with_reducible apply covers_trans hp); exact rfl) | ((with_reducible apply covers_trans hp); (casesm* Carrier <;> exact rfl))
    | rfl

theorem State.resetTaps_leads (s : State) (c : Carrier) (k : Nat)
    (hp : covers ps [.blobs, .car c] = true) (h : Leads ps s0 s) : Leads ps s0 (State.resetTaps s c k) := by
  unfold State.resetTaps
  repeat' first
    | with_reducible (first
        | assumption | apply setBlob_leads | apply State.modRx_leads)
    | ((with_reducible apply covers_trans hp); decide) | ((with_reducible apply covers_trans hp); (casesm* Carrier <;> decide))
    | ((with_reducible apply covers_trans hp); exact rfl) | ((with_reducible apply covers_trans hp); (casesm* Carrier <;> exact rfl))
    | rfl

theorem State.resetAllTaps_leads (s : State) (c : Carrier)
    (hp : covers ps [.blobs, .car c, .entry (0x21 + c.off) 0x001] = true) (h : Leads ps s0 s) : Leads ps s0 (State.resetAllTaps s c) := by
  unfold State.resetAllTaps
  repeat' first
    | with_reducible (first
        | intro _ | assumption | apply State.resetTaps_leads | apply State.toCma_leads | apply foldl_leads)
    | ((with_reducible apply covers_trans hp); decide) | ((with_reducible apply covers_trans hp); (casesm* Carrier <;> decide))
    | ((with_reducible apply covers_trans hp); exact rfl) | ((with_reducible apply covers_trans hp); (casesm* Carrier <;> exact rfl))
    | rfl

theorem State.toHunt_leads (s : State) (c : Carrier)
    (hp : covers ps [.entry (0x22 + c.off) 0x001, .entry 0x11 0x021, .ev, .fb, .entry 0x11 0x040, .host, .car c, .entry (0x21 + c.off) 0x062, .entry (0x21 + c.off) 0x064, .entry (0x21 + c.off) 0x001] = true) (h : Leads ps s0 s) : Leads ps s0 (State.toHunt s c) := by
  unfold State.toHunt
  repeat' first
    | with_reducible (first
        | assumption | apply State.setPhase_leads | apply State.zeroCommon_leads | apply State.modRx_leads | apply State.toCma_leads)
    | ((with_reducible apply covers_trans hp); decide) | ((with_reducible apply covers_trans hp); (casesm* Carrier <;> decide))
    | ((with_reducible apply covers_trans hp); exact rfl) | ((with_reducible apply covers_trans hp); (casesm* Carrier <;> exact rfl))
    | rfl

theorem State.fecStop_leads (s : State) (c : Carrier)
    (hp : covers ps [.car c, .entry (0x24 + c.off) 0x020, .entry (0x24 + c.off) 0x023, .entry 0x11 0x021, .ev, .fb, .entry 0x11 0x040, .host] = true) (h : Leads ps s0 s) : Leads ps s0 (State.fecStop s c) := by
  unfold State.fecStop
  repeat' first
    | with_reducible (first
        | assumption | apply State.modFec_leads | apply wr_leads | apply State.hostFollow_leads)
    | ((with_reducible apply covers_trans hp); decide) | ((with_reducible apply covers_trans hp); (casesm* Carrier <;> decide))
    | ((with_reducible apply covers_trans hp); exact rfl) | ((with_reducible apply covers_trans hp); (casesm* Carrier <;> exact rfl))
    | rfl

theorem State.setCar_leads (s : State) (c : Carrier) (st : Int)
    (hp : covers ps [.entry (0x20 + c.off) 0x000, .ev, .fb, .entry 0x11 0x021, .entry 0x11 0x040, .host, .carA, .carB, .entry 0x20 0x054, .entry 0x30 0x054] = true) (h : Leads ps s0 s) : Leads ps s0 (State.setCar s c st) := by
  unfold State.setCar
  repeat' first
    | with_reducible (first
        | assumption | apply ite_leads | apply wr_leads | apply State.raise_leads | apply State.hostFollow_leads
        | apply State.evalXpm_leads)
    | ((with_reducible apply covers_trans hp); decide) | ((with_reducible apply covers_trans hp); (casesm* Carrier <;> decide))
    | ((with_reducible apply covers_trans hp); exact rfl) | ((with_reducible apply covers_trans hp); (casesm* Carrier <;> exact rfl))
    | rfl

theorem State.cancelPending_leads (s : State) (c : Carrier)
    (hp : covers ps [.car c] = true) (h : Leads ps s0 s) : Leads ps s0 (State.cancelPending s c) := by
  unfold State.cancelPending
  repeat' first
    | with_reducible (first
        | assumption | apply State.modTx_leads)
    | ((with_reducible apply covers_trans hp); decide) | ((with_reducible apply covers_trans hp); (casesm* Carrier <;> decide))
    | ((with_reducible apply covers_trans hp); exact rfl) | ((with_reducible apply covers_trans hp); (casesm* Carrier <;> exact rfl))
    | rfl

theorem State.toFallback_leads (s : State) (c : Carrier)
    (hp : covers ps [.car c, .entry 0x11 0x030, .ev, .fb] = true) (h : Leads ps s0 s) : Leads ps s0 (State.toFallback s c) := by
  unfold State.toFallback
  repeat' first
    | with_reducible (first
        | assumption | apply State.modTx_leads | apply State.evalShortfall_leads)
    | ((with_reducible apply covers_trans hp); decide) | ((with_reducible apply covers_trans hp); (casesm* Carrier <;> decide))
    | ((with_reducible apply covers_trans hp); exact rfl) | ((with_reducible apply covers_trans hp); (casesm* Carrier <;> exact rfl))
    | rfl

theorem State.enterAcquire_leads (s : State) (c : Carrier)
    (hp : covers ps [.entry (0x20 + c.off) 0x000, .ev, .fb, .entry 0x11 0x021, .entry 0x11 0x040, .host, .carA, .carB, .entry 0x20 0x054, .entry 0x30 0x054, .blobs, .entry (0x21 + c.off) 0x001, .entry (0x21 + c.off) 0x031, .entry (0x21 + c.off) 0x032, .entry (0x22 + c.off) 0x001, .entry (0x21 + c.off) 0x062, .entry (0x21 + c.off) 0x064, .entry (0x20 + c.off) 0x036, .entry (0x21 + c.off) 0x01C, .entry (0x21 + c.off) 0x01E] = true) (h : Leads ps s0 s) : Leads ps s0 (State.enterAcquire s c) := by
  unfold State.enterAcquire
  repeat' first
    | with_reducible (first
        | assumption | apply ite_leads | apply State.setCar_leads | apply State.resetAllTaps_leads | apply wr_leads
        | apply State.rxStatusBit_leads | apply State.toHunt_leads | apply State.modRx_leads | apply State.modTx_leads
        | apply State.startSearch_leads)
    | ((with_reducible apply covers_trans hp); decide) | ((with_reducible apply covers_trans hp); (casesm* Carrier <;> decide))
    | ((with_reducible apply covers_trans hp); exact rfl) | ((with_reducible apply covers_trans hp); (casesm* Carrier <;> exact rfl))
    | rfl

theorem State.leaveLine_leads (s : State) (c : Carrier)
    (hp : covers ps [.entry (0x20 + c.off) 0x000, .ev, .fb, .entry 0x11 0x021, .entry 0x11 0x040, .host, .carA, .carB, .entry 0x20 0x054, .entry 0x30 0x054, .entry 0x11 0x030, .entry (0x20 + c.off) 0x036, .entry (0x24 + c.off) 0x020, .entry (0x24 + c.off) 0x023, .entry (0x22 + c.off) 0x001, .entry (0x21 + c.off) 0x032, .entry (0x21 + c.off) 0x001] = true) (h : Leads ps s0 s) : Leads ps s0 (State.leaveLine s c) := by
  unfold State.leaveLine
  repeat' first
    | with_reducible (first
        | assumption | apply ite_leads | apply State.setCar_leads | apply State.cancelPending_leads | apply State.modTx_leads
        | apply State.toFallback_leads | apply wr_leads | apply State.fecStop_leads | apply State.setPhase_leads
        | apply State.modRx_leads | apply State.rxStatusBit_leads)
    | ((with_reducible apply covers_trans hp); decide) | ((with_reducible apply covers_trans hp); (casesm* Carrier <;> decide))
    | ((with_reducible apply covers_trans hp); exact rfl) | ((with_reducible apply covers_trans hp); (casesm* Carrier <;> exact rfl))
    | rfl

theorem State.startLock_leads (s : State) (c : Carrier)
    (hp : covers ps [.clk, .entry 0x40 0x002] = true) (h : Leads ps s0 s) : Leads ps s0 (State.startLock s c) := by
  unfold State.startLock
  repeat' first
    | with_reducible (first
        | assumption | apply State.modDie_leads | apply wr_leads)
    | ((with_reducible apply covers_trans hp); decide) | ((with_reducible apply covers_trans hp); (casesm* Carrier <;> decide))
    | ((with_reducible apply covers_trans hp); exact rfl) | ((with_reducible apply covers_trans hp); (casesm* Carrier <;> exact rfl))
    | rfl

theorem State.clearTiles_leads (s : State) (c : Carrier)
    (hp : covers ps [.entry 0x40 0x011, .entry 0x40 0x013, .entry 0x40 0x017] = true) (h : Leads ps s0 s) : Leads ps s0 (State.clearTiles s c) := by
  unfold State.clearTiles
  repeat' first
    | with_reducible (first
        | intro _ | assumption | apply wr_leads | apply foldl_leads)
    | ((with_reducible apply covers_trans hp); decide) | ((with_reducible apply covers_trans hp); (casesm* Carrier <;> decide))
    | ((with_reducible apply covers_trans hp); exact rfl) | ((with_reducible apply covers_trans hp); (casesm* Carrier <;> exact rfl))
    | rfl

theorem State.refit_leads (s : State) (c : Carrier)
    (hp : covers ps [.entry (0x20 + c.off) 0x013, .entry (0x21 + c.off) 0x000, .clk, .entry 0x40 0x002] = true) (h : Leads ps s0 s) : Leads ps s0 (State.refit s c) := by
  unfold State.refit
  repeat' first
    | with_reducible (first
        | assumption | apply wr_leads | apply State.modDie_leads | apply State.startLock_leads)
    | ((with_reducible apply covers_trans hp); decide) | ((with_reducible apply covers_trans hp); (casesm* Carrier <;> decide))
    | ((with_reducible apply covers_trans hp); exact rfl) | ((with_reducible apply covers_trans hp); (casesm* Carrier <;> exact rfl))
    | rfl

theorem State.leaveOff_leads (s : State) (c : Carrier)
    (hp : covers ps [.entry (0x20 + c.off) 0x013, .entry (0x21 + c.off) 0x000, .car c, .entry 0x11 0x030, .ev, .fb, .entry 0x40 0x011, .entry 0x40 0x013, .entry 0x40 0x017, .clk, .entry 0x40 0x002] = true) (h : Leads ps s0 s) : Leads ps s0 (State.leaveOff s c) := by
  unfold State.leaveOff
  repeat' first
    | with_reducible (first
        | assumption | apply wr_leads | apply State.modTx_leads | apply State.toFallback_leads | apply State.clearTiles_leads
        | apply State.modDie_leads | apply State.startLock_leads)
    | ((with_reducible apply covers_trans hp); decide) | ((with_reducible apply covers_trans hp); (casesm* Carrier <;> decide))
    | ((with_reducible apply covers_trans hp); exact rfl) | ((with_reducible apply covers_trans hp); (casesm* Carrier <;> exact rfl))
    | rfl

theorem State.carrierMove_leads (s : State) (c : Carrier)
    (hp : covers ps [.clk, .entry 0x40 0x002, .entry (0x20 + c.off) 0x013, .entry (0x21 + c.off) 0x000, .entry 0x11 0x030, .ev, .fb, .entry 0x40 0x011, .entry 0x40 0x013, .entry 0x40 0x017, .entry (0x20 + c.off) 0x000, .entry 0x11 0x021, .entry 0x11 0x040, .host, .carA, .carB, .entry 0x20 0x054, .entry 0x30 0x054, .blobs, .entry (0x21 + c.off) 0x001, .entry (0x21 + c.off) 0x031, .entry (0x21 + c.off) 0x032, .entry (0x22 + c.off) 0x001, .entry (0x21 + c.off) 0x062, .entry (0x21 + c.off) 0x064, .entry (0x20 + c.off) 0x036, .entry (0x21 + c.off) 0x01C, .entry (0x21 + c.off) 0x01E, .entry (0x24 + c.off) 0x020, .entry (0x24 + c.off) 0x023] = true) (h : Leads ps s0 s) : Leads ps s0 (State.carrierMove s c) := by
  unfold State.carrierMove
  repeat' first
    | with_reducible (first
        | assumption | apply ite_leads | apply State.modDie_leads | apply wr_leads | apply State.leaveOff_leads
        | apply State.enterAcquire_leads | apply State.leaveLine_leads)
    | ((with_reducible apply covers_trans hp); decide) | ((with_reducible apply covers_trans hp); (casesm* Carrier <;> decide))
    | ((with_reducible apply covers_trans hp); exact rfl) | ((with_reducible apply covers_trans hp); (casesm* Carrier <;> exact rfl))
    | rfl

theorem State.lxDiscard_leads (s : State) (c : Carrier)
    (hp : covers ps [.ed, .blobs, .entry 0x50 0x050, .ev, .fb] = true) (h : Leads ps s0 s) : Leads ps s0 (State.lxDiscard s c) := by
  unfold State.lxDiscard
  repeat' first
    | with_reducible (first
        | assumption | apply ite_leads | apply State.endDraft_leads)
    | ((with_reducible apply covers_trans hp); decide) | ((with_reducible apply covers_trans hp); (casesm* Carrier <;> decide))
    | ((with_reducible apply covers_trans hp); exact rfl) | ((with_reducible apply covers_trans hp); (casesm* Carrier <;> exact rfl))
    | rfl

theorem State.lxAbandon_leads (s : State) (c : Carrier)
    (hp : covers ps [.car c, .ed, .blobs, .entry 0x50 0x050, .ev, .fb, .entry (0x23 + c.off) 0x06B, .entry (0x23 + c.off) 0x06C] = true) (h : Leads ps s0 s) : Leads ps s0 (State.lxAbandon s c) := by
  unfold State.lxAbandon
  repeat' first
    | with_reducible (first
        | assumption | apply ite_leads | apply State.modLx_leads | apply State.lxDiscard_leads | apply wr_leads)
    | ((with_reducible apply covers_trans hp); decide) | ((with_reducible apply covers_trans hp); (casesm* Carrier <;> decide))
    | ((with_reducible apply covers_trans hp); exact rfl) | ((with_reducible apply covers_trans hp); (casesm* Carrier <;> exact rfl))
    | rfl

theorem State.finalLoss_leads (s : State) (c : Carrier)
    (hp : covers ps [.car c, .entry (0x24 + c.off) 0x020, .entry (0x24 + c.off) 0x023, .entry 0x11 0x021, .ev, .fb, .entry 0x11 0x040, .host, .ed, .blobs, .entry 0x50 0x050, .entry (0x23 + c.off) 0x06B, .entry (0x23 + c.off) 0x06C] = true) (h : Leads ps s0 s) : Leads ps s0 (State.finalLoss s c) := by
  unfold State.finalLoss
  repeat' first
    | with_reducible (first
        | assumption | apply ite_leads | apply State.modRx_leads | apply State.fecStop_leads | apply State.lxAbandon_leads
        | apply State.modTx_leads)
    | ((with_reducible apply covers_trans hp); decide) | ((with_reducible apply covers_trans hp); (casesm* Carrier <;> decide))
    | ((with_reducible apply covers_trans hp); exact rfl) | ((with_reducible apply covers_trans hp); (casesm* Carrier <;> exact rfl))
    | rfl

theorem State.lolCause_leads (s : State) (c : Carrier) (bit : Nat) (fresh : Bool)
    (hp : covers ps [.entry (0x22 + c.off) 0x036] = true) (h : Leads ps s0 s) : Leads ps s0 (State.lolCause s c bit fresh) := by
  unfold State.lolCause
  repeat' first
    | with_reducible (first
        | assumption | apply wr_leads)
    | ((with_reducible apply covers_trans hp); decide) | ((with_reducible apply covers_trans hp); (casesm* Carrier <;> decide))
    | ((with_reducible apply covers_trans hp); exact rfl) | ((with_reducible apply covers_trans hp); (casesm* Carrier <;> exact rfl))
    | rfl

theorem State.lolEvent_leads (s : State) (c : Carrier)
    (hp : covers ps [.entry (0x22 + c.off) 0x032, .ev, .fb] = true) (h : Leads ps s0 s) : Leads ps s0 (State.lolEvent s c) := by
  unfold State.lolEvent
  repeat' first
    | with_reducible (first
        | assumption | apply State.bump_leads | apply State.raise_leads)
    | ((with_reducible apply covers_trans hp); decide) | ((with_reducible apply covers_trans hp); (casesm* Carrier <;> decide))
    | ((with_reducible apply covers_trans hp); exact rfl) | ((with_reducible apply covers_trans hp); (casesm* Carrier <;> exact rfl))
    | rfl

theorem State.holdLost_leads (s : State) (c : Carrier)
    (hp : covers ps [.entry (0x22 + c.off) 0x032, .ev, .fb, .car c, .entry (0x24 + c.off) 0x020, .entry (0x24 + c.off) 0x023, .entry 0x11 0x021, .entry 0x11 0x040, .host, .ed, .blobs, .entry 0x50 0x050, .entry (0x23 + c.off) 0x06B, .entry (0x23 + c.off) 0x06C, .entry (0x22 + c.off) 0x001, .entry (0x21 + c.off) 0x062, .entry (0x21 + c.off) 0x064, .entry (0x21 + c.off) 0x001] = true) (h : Leads ps s0 s) : Leads ps s0 (State.holdLost s c) := by
  unfold State.holdLost
  repeat' first
    | with_reducible (first
        | assumption | apply State.lolEvent_leads | apply State.finalLoss_leads | apply State.toHunt_leads)
    | ((with_reducible apply covers_trans hp); decide) | ((with_reducible apply covers_trans hp); (casesm* Carrier <;> decide))
    | ((with_reducible apply covers_trans hp); exact rfl) | ((with_reducible apply covers_trans hp); (casesm* Carrier <;> exact rfl))
    | rfl

theorem State.lossCause_leads (s : State) (c : Carrier) (bit : Nat)
    (hp : covers ps [.entry (0x22 + c.off) 0x036, .entry (0x22 + c.off) 0x001, .entry 0x11 0x021, .ev, .fb, .entry 0x11 0x040, .host, .car c, .entry (0x24 + c.off) 0x020, .entry (0x24 + c.off) 0x023, .entry (0x22 + c.off) 0x032, .ed, .blobs, .entry 0x50 0x050, .entry (0x23 + c.off) 0x06B, .entry (0x23 + c.off) 0x06C, .entry (0x21 + c.off) 0x062, .entry (0x21 + c.off) 0x064, .entry (0x21 + c.off) 0x001] = true) (h : Leads ps s0 s) : Leads ps s0 (State.lossCause s c bit) := by
  unfold State.lossCause
  repeat' first
    | with_reducible (first
        | assumption | apply ite_leads | apply State.lolCause_leads | apply State.setPhase_leads | apply State.raise_leads
        | apply State.modRx_leads | apply State.fecStop_leads | apply State.holdLost_leads)
    | ((with_reducible apply covers_trans hp); decide) | ((with_reducible apply covers_trans hp); (casesm* Carrier <;> decide))
    | ((with_reducible apply covers_trans hp); exact rfl) | ((with_reducible apply covers_trans hp); (casesm* Carrier <;> exact rfl))
    | rfl

end Sys2Proof.Machine
end

