-- ==== Sys2Proof/Laws/FrameLineTx.lean ====
section
/-! SUPPORT. Frames of the operations and meanings of Machine/LineTx.lean. -/

namespace Sys2Proof.Machine

variable {ps : List Part} {s0 : State}

theorem State.loadSwitch_leads (s : State) (c : Carrier) (target : Nat)
    (hp : covers ps [.car c, .ev, .fb] = true) (h : Leads ps s0 s) : Leads ps s0 (State.loadSwitch s c target) := by
  unfold State.loadSwitch
  repeat' first
    | with_reducible (first
        | assumption | apply State.modTx_leads | apply State.raise_leads)
    | ((with_reducible apply covers_trans hp); decide) | ((with_reducible apply covers_trans hp); (casesm* Carrier <;> decide))
    | ((with_reducible apply covers_trans hp); exact rfl) | ((with_reducible apply covers_trans hp); (casesm* Carrier <;> exact rfl))
    | rfl

theorem State.switchToFrames_leads (s : State) (c : Carrier)
    (hp : covers ps [.entry 0x11 0x030, .ev, .fb, .entry (0x20 + c.off) 0x000, .entry 0x11 0x021, .entry 0x11 0x040, .host, .carA, .carB, .entry 0x20 0x054, .entry 0x30 0x054] = true) (h : Leads ps s0 s) : Leads ps s0 (State.switchToFrames s c) := by
  unfold State.switchToFrames
  repeat' first
    | with_reducible (first
        | assumption | apply State.toFallback_leads | apply State.modTx_leads | apply State.modRx_leads | apply State.setCar_leads)
    | ((with_reducible apply covers_trans hp); decide) | ((with_reducible apply covers_trans hp); (casesm* Carrier <;> decide))
    | ((with_reducible apply covers_trans hp); exact rfl) | ((with_reducible apply covers_trans hp); (casesm* Carrier <;> exact rfl))
    | rfl

theorem State.rateBoundary_leads (s : State) (c : Carrier)
    (hp : covers ps [.entry (0x20 + c.off) 0x013, .entry (0x21 + c.off) 0x000, .clk, .entry 0x40 0x002, .entry (0x20 + c.off) 0x054, .ev, .fb, .carA, .carB, .entry 0x20 0x054, .entry 0x30 0x054, .entry 0x11 0x030] = true) (h : Leads ps s0 s) : Leads ps s0 (State.rateBoundary s c) := by
  unfold State.rateBoundary
  repeat' first
    | with_reducible (first
        | assumption | apply ite_leads | apply State.modTx_leads | apply State.refit_leads | apply State.evalXpm_leads
        | apply State.evalShortfall_leads)
    | ((with_reducible apply covers_trans hp); decide) | ((with_reducible apply covers_trans hp); (casesm* Carrier <;> decide))
    | ((with_reducible apply covers_trans hp); exact rfl) | ((with_reducible apply covers_trans hp); (casesm* Carrier <;> exact rfl))
    | rfl

theorem txSuperframeBoundary_leads (c : Carrier) (s : State)
    (hp : covers ps [.entry (0x20 + c.off) 0x090, .ev, .fb, .entry 0x11 0x030, .entry (0x20 + c.off) 0x000, .entry 0x11 0x021, .entry 0x11 0x040, .host, .carA, .carB, .entry 0x20 0x054, .entry 0x30 0x054, .entry (0x20 + c.off) 0x013, .entry (0x21 + c.off) 0x000, .clk, .entry 0x40 0x002, .entry (0x20 + c.off) 0x054, .cores] = true) (h : Leads ps s0 s) : Leads ps s0 (txSuperframeBoundary c s) := by
  unfold txSuperframeBoundary
  repeat' first
    | with_reducible (first
        | intro _ | assumption | apply ite_leads | apply State.wrapN_leads | apply State.modTx_leads | apply State.switchToFrames_leads
        | apply State.loadSwitch_leads | apply State.rateBoundary_leads | apply State.evalShortfall_leads | apply State.coreEvent_leads
        | apply when_leads)
    | ((with_reducible apply covers_trans hp); decide) | ((with_reducible apply covers_trans hp); (casesm* Carrier <;> decide))
    | ((with_reducible apply covers_trans hp); exact rfl) | ((with_reducible apply covers_trans hp); (casesm* Carrier <;> exact rfl))
    | split | rfl

theorem execTxSuperframeBoundary_leads (c : Carrier) (s : State) :
    Out.leads [.entry (0x20 + c.off) 0x090, .ev, .fb, .entry 0x11 0x030, .entry (0x20 + c.off) 0x000, .entry 0x11 0x021, .entry 0x11 0x040, .host, .carA, .carB, .entry 0x20 0x054, .entry 0x30 0x054, .entry (0x20 + c.off) 0x013, .entry (0x21 + c.off) 0x000, .clk, .entry 0x40 0x002, .entry (0x20 + c.off) 0x054, .cores] s (execTxSuperframeBoundary c s) := by
  refine out_intro fun hp h => ?_
  unfold execTxSuperframeBoundary
  refine ⟨_, rfl, ?_⟩
  all_goals repeat' first
    | with_reducible (first
        | assumption | apply txSuperframeBoundary_leads)
    | ((with_reducible apply covers_trans hp); decide) | ((with_reducible apply covers_trans hp); (casesm* Carrier <;> decide))
    | ((with_reducible apply covers_trans hp); exact rfl) | ((with_reducible apply covers_trans hp); (casesm* Carrier <;> exact rfl))
    | rfl

theorem switchAnnounce_leads (c : Carrier) (s : State)
    (hp : covers ps [.car c] = true) (h : Leads ps s0 s) : Leads ps s0 (switchAnnounce c s) := by
  unfold switchAnnounce
  repeat' first
    | with_reducible (first
        | intro _ | assumption | apply State.modTx_leads | apply when_leads)
    | ((with_reducible apply covers_trans hp); decide) | ((with_reducible apply covers_trans hp); (casesm* Carrier <;> decide))
    | ((with_reducible apply covers_trans hp); exact rfl) | ((with_reducible apply covers_trans hp); (casesm* Carrier <;> exact rfl))
    | rfl

theorem execSwitchAnnounce_leads (c : Carrier) (s : State) :
    Out.leads [.car c] s (execSwitchAnnounce c s) := by
  refine out_intro fun hp h => ?_
  unfold execSwitchAnnounce
  refine ⟨_, rfl, ?_⟩
  all_goals repeat' first
    | with_reducible (first
        | assumption | apply switchAnnounce_leads)
    | ((with_reducible apply covers_trans hp); decide) | ((with_reducible apply covers_trans hp); (casesm* Carrier <;> decide))
    | ((with_reducible apply covers_trans hp); exact rfl) | ((with_reducible apply covers_trans hp); (casesm* Carrier <;> exact rfl))
    | rfl

theorem State.sendFrame_leads (s : State) (c : Carrier)
    (hp : covers ps [.car c] = true) (h : Leads ps s0 s) : Leads ps s0 (State.sendFrame s c) := by
  unfold State.sendFrame
  repeat' first
    | with_reducible (first
        | assumption | apply State.modTx_leads)
    | ((with_reducible apply covers_trans hp); decide) | ((with_reducible apply covers_trans hp); (casesm* Carrier <;> decide))
    | ((with_reducible apply covers_trans hp); exact rfl) | ((with_reducible apply covers_trans hp); (casesm* Carrier <;> exact rfl))
    | rfl

theorem State.sendSounding_leads (s : State) (c : Carrier)
    (hp : covers ps [.car c] = true) (h : Leads ps s0 s) : Leads ps s0 (State.sendSounding s c) := by
  unfold State.sendSounding
  repeat' first
    | with_reducible (first
        | assumption | apply State.modTx_leads)
    | ((with_reducible apply covers_trans hp); decide) | ((with_reducible apply covers_trans hp); (casesm* Carrier <;> decide))
    | ((with_reducible apply covers_trans hp); exact rfl) | ((with_reducible apply covers_trans hp); (casesm* Carrier <;> exact rfl))
    | rfl

theorem txFrameStart_leads (c : Carrier) (s : State)
    (hp : covers ps [.car c] = true) (h : Leads ps s0 s) : Leads ps s0 (txFrameStart c s) := by
  unfold txFrameStart
  repeat' first
    | with_reducible (first
        | intro _ | assumption | apply State.sendSounding_leads | apply State.sendFrame_leads | apply when_leads)
    | ((with_reducible apply covers_trans hp); decide) | ((with_reducible apply covers_trans hp); (casesm* Carrier <;> decide))
    | ((with_reducible apply covers_trans hp); exact rfl) | ((with_reducible apply covers_trans hp); (casesm* Carrier <;> exact rfl))
    | split | rfl

theorem execTxFrameStart_leads (c : Carrier) (s : State) :
    Out.leads [.car c] s (execTxFrameStart c s) := by
  refine out_intro fun hp h => ?_
  unfold execTxFrameStart
  refine ⟨_, rfl, ?_⟩
  all_goals repeat' first
    | with_reducible (first
        | assumption | apply txFrameStart_leads)
    | ((with_reducible apply covers_trans hp); decide) | ((with_reducible apply covers_trans hp); (casesm* Carrier <;> decide))
    | ((with_reducible apply covers_trans hp); exact rfl) | ((with_reducible apply covers_trans hp); (casesm* Carrier <;> exact rfl))
    | rfl

theorem execIbcCreditTick_leads (c : Carrier) (s : State) :
    Out.leads [.car c] s (execIbcCreditTick c s) := by
  refine out_intro fun hp h => ?_
  unfold execIbcCreditTick
  refine ⟨_, rfl, ?_⟩
  all_goals repeat' first
    | with_reducible (first
        | assumption | apply State.modTx_leads)
    | ((with_reducible apply covers_trans hp); decide) | ((with_reducible apply covers_trans hp); (casesm* Carrier <;> decide))
    | ((with_reducible apply covers_trans hp); exact rfl) | ((with_reducible apply covers_trans hp); (casesm* Carrier <;> exact rfl))
    | rfl

theorem lineBlockEmit_leads (c : Carrier) (s : State)
    (hp : covers ps [.car c, .entry (0x24 + c.off) 0x061, .ev, .fb] = true) (h : Leads ps s0 s) : Leads ps s0 (lineBlockEmit c s) := by
  unfold lineBlockEmit
  repeat' first
    | with_reducible (first
        | intro _ | assumption | apply State.modTx_leads | apply State.wrapN_leads | apply when_leads)
    | ((with_reducible apply covers_trans hp); decide) | ((with_reducible apply covers_trans hp); (casesm* Carrier <;> decide))
    | ((with_reducible apply covers_trans hp); exact rfl) | ((with_reducible apply covers_trans hp); (casesm* Carrier <;> exact rfl))
    | rfl

theorem execLineBlockEmit_leads (c : Carrier) (s : State) :
    Out.leads [.car c, .entry (0x24 + c.off) 0x061, .ev, .fb] s (execLineBlockEmit c s) := by
  refine out_intro fun hp h => ?_
  unfold execLineBlockEmit
  refine ⟨_, rfl, ?_⟩
  all_goals repeat' first
    | with_reducible (first
        | assumption | apply lineBlockEmit_leads)
    | ((with_reducible apply covers_trans hp); decide) | ((with_reducible apply covers_trans hp); (casesm* Carrier <;> decide))
    | ((with_reducible apply covers_trans hp); exact rfl) | ((with_reducible apply covers_trans hp); (casesm* Carrier <;> exact rfl))
    | rfl

theorem txSegmentEmit_leads (c : Carrier) (s : State)
    (hp : covers ps [.car c, .entry (0x24 + c.off) 0x060, .ev, .fb] = true) (h : Leads ps s0 s) : Leads ps s0 (txSegmentEmit c s) := by
  unfold txSegmentEmit
  repeat' first
    | with_reducible (first
        | intro _ | assumption | apply State.modTx_leads | apply State.wrapN_leads | apply when_leads)
    | ((with_reducible apply covers_trans hp); decide) | ((with_reducible apply covers_trans hp); (casesm* Carrier <;> decide))
    | ((with_reducible apply covers_trans hp); exact rfl) | ((with_reducible apply covers_trans hp); (casesm* Carrier <;> exact rfl))
    | rfl

theorem execTxSegmentEmit_leads (c : Carrier) (s : State) :
    Out.leads [.car c, .entry (0x24 + c.off) 0x060, .ev, .fb] s (execTxSegmentEmit c s) := by
  refine out_intro fun hp h => ?_
  unfold execTxSegmentEmit
  refine ⟨_, rfl, ?_⟩
  all_goals repeat' first
    | with_reducible (first
        | assumption | apply txSegmentEmit_leads)
    | ((with_reducible apply covers_trans hp); decide) | ((with_reducible apply covers_trans hp); (casesm* Carrier <;> decide))
    | ((with_reducible apply covers_trans hp); exact rfl) | ((with_reducible apply covers_trans hp); (casesm* Carrier <;> exact rfl))
    | rfl

theorem contourUpdate_leads (c : Carrier) (s : State)
    (hp : covers ps [.car c, .entry (0x20 + c.off) 0x037, .entry (0x20 + c.off) 0x036, .ev, .fb] = true) (h : Leads ps s0 s) : Leads ps s0 (contourUpdate c s) := by
  unfold contourUpdate
  repeat' first
    | with_reducible (first
        | intro _ | assumption | apply ite_leads | apply State.modTx_leads | apply wr_leads | apply State.raise_leads
        | apply State.contourDark_leads | apply when_leads)
    | ((with_reducible apply covers_trans hp); decide) | ((with_reducible apply covers_trans hp); (casesm* Carrier <;> decide))
    | ((with_reducible apply covers_trans hp); exact rfl) | ((with_reducible apply covers_trans hp); (casesm* Carrier <;> exact rfl))
    | rfl

theorem execContourUpdate_leads (c : Carrier) (s : State) :
    Out.leads [.car c, .entry (0x20 + c.off) 0x037, .entry (0x20 + c.off) 0x036, .ev, .fb] s (execContourUpdate c s) := by
  refine out_intro fun hp h => ?_
  unfold execContourUpdate
  refine ⟨_, rfl, ?_⟩
  all_goals repeat' first
    | with_reducible (first
        | assumption | apply contourUpdate_leads)
    | ((with_reducible apply covers_trans hp); decide) | ((with_reducible apply covers_trans hp); (casesm* Carrier <;> decide))
    | ((with_reducible apply covers_trans hp); exact rfl) | ((with_reducible apply covers_trans hp); (casesm* Carrier <;> exact rfl))
    | rfl

theorem execContourRiseStart_leads (c : Carrier) (s : State) :
    Out.leads [.car c, .entry (0x20 + c.off) 0x036] s (execContourRiseStart c s) := by
  refine out_intro fun hp h => ?_
  unfold execContourRiseStart
  refine ⟨_, rfl, ?_⟩
  all_goals repeat' first
    | with_reducible (first
        | intro _ | assumption | apply State.modTx_leads | apply wr_leads | apply when_leads)
    | ((with_reducible apply covers_trans hp); decide) | ((with_reducible apply covers_trans hp); (casesm* Carrier <;> decide))
    | ((with_reducible apply covers_trans hp); exact rfl) | ((with_reducible apply covers_trans hp); (casesm* Carrier <;> exact rfl))
    | rfl

theorem execSquelchSwWrite_leads (src : Nat) (c : Carrier) (v : Int) (s : State) :
    Out.leads [.entry (0x20 + c.off) 0x040, .ed, .entry 0x02 0x042, .ev, .fb, .entry (0x20 + c.off) 0x043, .entry (0x20 + c.off) 0x036, .entry (0x20 + c.off) 0x037, .carA, .carB, .entry 0x20 0x054, .entry 0x30 0x054, .pw, .ports, .entry 0x08 0x030] s (execSquelchSwWrite src c v s) := by
  refine out_intro fun hp h => ?_
  unfold execSquelchSwWrite
  refine ⟨_, rfl, ?_⟩
  all_goals repeat' first
    | with_reducible (first
        | intro _ | assumption | apply rwEffect_leads | apply State.afterSquelch_leads | apply State.request_leads)
    | ((with_reducible apply covers_trans hp); decide) | ((with_reducible apply covers_trans hp); (casesm* Carrier <;> decide))
    | ((with_reducible apply covers_trans hp); exact rfl) | ((with_reducible apply covers_trans hp); (casesm* Carrier <;> exact rfl))
    | rfl

theorem State.setSquelchPin_leads (s : State) (c : Carrier) (f : TxState → TxState)
    (hp : covers ps [.entry (0x20 + c.off) 0x043, .ev, .fb, .entry (0x20 + c.off) 0x036, .entry (0x20 + c.off) 0x037, .carA, .carB, .entry 0x20 0x054, .entry 0x30 0x054] = true) (h : Leads ps s0 s) : Leads ps s0 (State.setSquelchPin s c f) := by
  unfold State.setSquelchPin
  repeat' first
    | with_reducible (first
        | assumption | apply State.modTx_leads | apply State.afterSquelch_leads)
    | ((with_reducible apply covers_trans hp); decide) | ((with_reducible apply covers_trans hp); (casesm* Carrier <;> decide))
    | ((with_reducible apply covers_trans hp); exact rfl) | ((with_reducible apply covers_trans hp); (casesm* Carrier <;> exact rfl))
    | rfl

theorem State.txdisPasses_leads (s : State) (width : Nat) (f : State → State)
    (hf2 : ∀ a0, Leads ps s0 a0 → Leads ps s0 (f a0))
    (hp : covers ps [.freeCtr] = true) (h : Leads ps s0 s) : Leads ps s0 (State.txdisPasses s width f) := by
  unfold State.txdisPasses
  repeat' first
    | with_reducible (first
        | assumption | apply ite_leads | apply State.tookFree_leads | apply hf2)
    | ((with_reducible apply covers_trans hp); decide) | ((with_reducible apply covers_trans hp); (casesm* Carrier <;> decide))
    | ((with_reducible apply covers_trans hp); exact rfl) | ((with_reducible apply covers_trans hp); (casesm* Carrier <;> exact rfl))
    | rfl

theorem execTxdisAssert_leads (c : Carrier) (width : Nat) (s : State) :
    Out.leads [.entry (0x20 + c.off) 0x043, .ev, .fb, .entry (0x20 + c.off) 0x036, .entry (0x20 + c.off) 0x037, .carA, .carB, .entry 0x20 0x054, .entry 0x30 0x054, .freeCtr] s (execTxdisAssert c width s) := by
  refine out_intro fun hp h => ?_
  unfold execTxdisAssert
  refine ⟨_, rfl, ?_⟩
  all_goals repeat' first
    | with_reducible (first
        | intro _ | assumption | apply State.setSquelchPin_leads | apply when_leads | apply State.txdisPasses_leads)
    | ((with_reducible apply covers_trans hp); decide) | ((with_reducible apply covers_trans hp); (casesm* Carrier <;> decide))
    | ((with_reducible apply covers_trans hp); exact rfl) | ((with_reducible apply covers_trans hp); (casesm* Carrier <;> exact rfl))
    | rfl

theorem execTxdisDeassert_leads (c : Carrier) (width : Nat) (s : State) :
    Out.leads [.entry (0x20 + c.off) 0x043, .ev, .fb, .entry (0x20 + c.off) 0x036, .entry (0x20 + c.off) 0x037, .carA, .carB, .entry 0x20 0x054, .entry 0x30 0x054, .freeCtr] s (execTxdisDeassert c width s) := by
  refine out_intro fun hp h => ?_
  unfold execTxdisDeassert
  refine ⟨_, rfl, ?_⟩
  all_goals repeat' first
    | with_reducible (first
        | intro _ | assumption | apply State.setSquelchPin_leads | apply when_leads | apply State.txdisPasses_leads)
    | ((with_reducible apply covers_trans hp); decide) | ((with_reducible apply covers_trans hp); (casesm* Carrier <;> decide))
    | ((with_reducible apply covers_trans hp); exact rfl) | ((with_reducible apply covers_trans hp); (casesm* Carrier <;> exact rfl))
    | rfl

theorem execOcTrip_leads (c : Carrier) (current : Nat) (s : State) :
    Out.leads [.entry (0x20 + c.off) 0x043, .ev, .fb, .entry (0x20 + c.off) 0x036, .entry (0x20 + c.off) 0x037, .carA, .carB, .entry 0x20 0x054, .entry 0x30 0x054] s (execOcTrip c current s) := by
  refine out_intro fun hp h => ?_
  unfold execOcTrip
  refine ⟨_, rfl, ?_⟩
  all_goals repeat' first
    | with_reducible (first
        | intro _ | assumption | apply State.setSquelchPin_leads | apply State.raise_leads | apply when_leads)
    | ((with_reducible apply covers_trans hp); decide) | ((with_reducible apply covers_trans hp); (casesm* Carrier <;> decide))
    | ((with_reducible apply covers_trans hp); exact rfl) | ((with_reducible apply covers_trans hp); (casesm* Carrier <;> exact rfl))
    | rfl

theorem execOcClear_leads (src : Nat) (c : Carrier) (current : Nat) (s : State) :
    Out.leads [.entry (0x20 + c.off) 0x043, .ev, .fb, .entry (0x20 + c.off) 0x036, .entry (0x20 + c.off) 0x037, .carA, .carB, .entry 0x20 0x054, .entry 0x30 0x054, .pw, .ports, .entry 0x08 0x030] s (execOcClear src c current s) := by
  refine out_intro fun hp h => ?_
  unfold execOcClear
  refine ⟨_, rfl, ?_⟩
  all_goals repeat' first
    | with_reducible (first
        | intro _ | assumption | apply ite_leads | apply State.setSquelchPin_leads | apply State.request_leads)
    | ((with_reducible apply covers_trans hp); decide) | ((with_reducible apply covers_trans hp); (casesm* Carrier <;> decide))
    | ((with_reducible apply covers_trans hp); exact rfl) | ((with_reducible apply covers_trans hp); (casesm* Carrier <;> exact rfl))
    | rfl

theorem execNlcBypassChange_leads (c : Carrier) (s : State) :
    Out.leads [.car c, .entry (0x20 + c.off) 0x054, .ev, .fb] s (execNlcBypassChange c s) := by
  refine out_intro fun hp h => ?_
  unfold execNlcBypassChange
  refine ⟨_, rfl, ?_⟩
  all_goals repeat' first
    | with_reducible (first
        | intro _ | assumption | apply State.evalNlc_leads | apply when_leads)
    | ((with_reducible apply covers_trans hp); decide) | ((with_reducible apply covers_trans hp); (casesm* Carrier <;> decide))
    | ((with_reducible apply covers_trans hp); exact rfl) | ((with_reducible apply covers_trans hp); (casesm* Carrier <;> exact rfl))
    | rfl

theorem execXpmSquelchRemove_leads (c : Carrier) (s : State) :
    Out.leads [.car c, .entry (0x20 + c.off) 0x054, .ev, .fb] s (execXpmSquelchRemove c s) := by
  refine out_intro fun hp h => ?_
  unfold execXpmSquelchRemove
  refine ⟨_, rfl, ?_⟩
  all_goals repeat' first
    | with_reducible (first
        | intro _ | assumption | apply State.modTx_leads | apply State.evalNlc_leads | apply when_leads)
    | ((with_reducible apply covers_trans hp); decide) | ((with_reducible apply covers_trans hp); (casesm* Carrier <;> decide))
    | ((with_reducible apply covers_trans hp); exact rfl) | ((with_reducible apply covers_trans hp); (casesm* Carrier <;> exact rfl))
    | rfl

end Sys2Proof.Machine
end

