-- ==== Sys2Proof/Laws/FrameRxFront.lean ====
section
/-! SUPPORT. Frames of the operations and meanings of Machine/RxFront.lean. -/

namespace Sys2Proof.Machine

variable {ps : List Part} {s0 : State}

theorem State.frontBlock_leads (s : State) (c : Carrier)
    (hp : covers ps [.car c, .entry (0x21 + c.off) 0x007] = true) (h : Leads ps s0 s) : Leads ps s0 (State.frontBlock s c) := by
  unfold State.frontBlock
  repeat' first
    | with_reducible (first
        | intro _ | assumption | apply ite_leads | apply State.modRx_leads | apply wr_leads | apply foldl_leads)
    | ((with_reducible apply covers_trans hp); decide) | ((with_reducible apply covers_trans hp); (casesm* Carrier <;> decide))
    | ((with_reducible apply covers_trans hp); exact rfl) | ((with_reducible apply covers_trans hp); (casesm* Carrier <;> exact rfl))
    | rfl

theorem State.searchHop_leads (s : State) (c : Carrier)
    (hp : covers ps [.car c] = true) (h : Leads ps s0 s) : Leads ps s0 (State.searchHop s c) := by
  unfold State.searchHop
  repeat' first
    | with_reducible (first
        | assumption | apply ite_leads | apply State.modRx_leads)
    | ((with_reducible apply covers_trans hp); decide) | ((with_reducible apply covers_trans hp); (casesm* Carrier <;> decide))
    | ((with_reducible apply covers_trans hp); exact rfl) | ((with_reducible apply covers_trans hp); (casesm* Carrier <;> exact rfl))
    | dsimp only | split | rfl

theorem State.resample_leads (s : State) (c : Carrier) (xs : List Pol)
    (hp : covers ps [.car c, .entry (0x21 + c.off) 0x031] = true) (h : Leads ps s0 s) : Leads ps s0 (State.resample s c xs) := by
  unfold State.resample
  repeat' first
    | with_reducible (first
        | assumption | apply State.modRx_leads | apply wr_leads)
    | ((with_reducible apply covers_trans hp); decide) | ((with_reducible apply covers_trans hp); (casesm* Carrier <;> decide))
    | ((with_reducible apply covers_trans hp); exact rfl) | ((with_reducible apply covers_trans hp); (casesm* Carrier <;> exact rfl))
    | rfl

theorem State.filterBank_leads (s : State) (c : Carrier)
    (hp : covers ps [.car c] = true) (h : Leads ps s0 s) : Leads ps s0 (State.filterBank s c) := by
  unfold State.filterBank
  repeat' first
    | with_reducible (first
        | assumption | apply State.modRx_leads)
    | ((with_reducible apply covers_trans hp); decide) | ((with_reducible apply covers_trans hp); (casesm* Carrier <;> decide))
    | ((with_reducible apply covers_trans hp); exact rfl) | ((with_reducible apply covers_trans hp); (casesm* Carrier <;> exact rfl))
    | rfl

theorem State.hop_leads (s : State) (c : Carrier)
    (hp : covers ps [.car c, .entry (0x21 + c.off) 0x031] = true) (h : Leads ps s0 s) : Leads ps s0 (State.hop s c) := by
  unfold State.hop
  repeat' first
    | with_reducible (first
        | assumption | apply ite_leads | apply State.modRx_leads | apply State.searchHop_leads | apply State.resample_leads
        | apply State.filterBank_leads)
    | ((with_reducible apply covers_trans hp); decide) | ((with_reducible apply covers_trans hp); (casesm* Carrier <;> decide))
    | ((with_reducible apply covers_trans hp); exact rfl) | ((with_reducible apply covers_trans hp); (casesm* Carrier <;> exact rfl))
    | rfl

theorem State.adcSamples_leads (s : State) (c : Carrier) (j : Nat) (codes : List Nat)
    (hp : covers ps [.entry (0x21 + c.off) 0x00B, .ev, .fb, .car c, .entry (0x21 + c.off) 0x031, .entry (0x21 + c.off) 0x007] = true) (h : Leads ps s0 s) : Leads ps s0 (State.adcSamples s c j codes) := by
  unfold State.adcSamples
  repeat' first
    | with_reducible (first
        | intro _ | assumption | apply State.bumpN_leads | apply State.modRx_leads | apply State.hop_leads
        | apply State.frontBlock_leads | apply iter_leads)
    | ((with_reducible apply covers_trans hp); decide) | ((with_reducible apply covers_trans hp); (casesm* Carrier <;> decide))
    | ((with_reducible apply covers_trans hp); exact rfl) | ((with_reducible apply covers_trans hp); (casesm* Carrier <;> exact rfl))
    | rfl

theorem execFeIlvWindow_leads (c : Carrier) (j : Nat) (s : State) :
    Out.leads [.car c] s (execFeIlvWindow c j s) := by
  refine out_intro fun hp h => ?_
  unfold execFeIlvWindow
  refine ⟨_, rfl, ?_⟩
  all_goals repeat' first
    | with_reducible (first
        | intro _ | assumption | apply State.modRx_leads | apply when_leads)
    | ((with_reducible apply covers_trans hp); decide) | ((with_reducible apply covers_trans hp); (casesm* Carrier <;> decide))
    | ((with_reducible apply covers_trans hp); exact rfl) | ((with_reducible apply covers_trans hp); (casesm* Carrier <;> exact rfl))
    | rfl

theorem execFeIqWindow_leads (c : Carrier) (y : Bool) (s : State) :
    Out.leads [.car c] s (execFeIqWindow c y s) := by
  refine out_intro fun hp h => ?_
  unfold execFeIqWindow
  refine ⟨_, rfl, ?_⟩
  all_goals repeat' first
    | with_reducible (first
        | intro _ | assumption | apply State.modRx_leads | apply when_leads)
    | ((with_reducible apply covers_trans hp); decide) | ((with_reducible apply covers_trans hp); (casesm* Carrier <;> decide))
    | ((with_reducible apply covers_trans hp); exact rfl) | ((with_reducible apply covers_trans hp); (casesm* Carrier <;> exact rfl))
    | rfl

end Sys2Proof.Machine
end

