-- ==== Sys2Proof/Laws/FrameCoefficients.lean ====
section
/-! SUPPORT. Frames of the operations and meanings of Machine/Coefficients.lean. -/

namespace Sys2Proof.Machine

variable {ps : List Part} {s0 : State}

theorem State.coefHold_leads (s : State) (c : Carrier) (line : Nat) (v : Nat)
    (hp : covers ps [.cores] = true) (h : Leads ps s0 s) : Leads ps s0 (State.coefHold s c line v) := by
  unfold State.coefHold
  repeat' first
    | with_reducible (first
        | assumption | (apply Or.inr; rfl) | rfl)
    | ((with_reducible apply covers_trans hp); decide) | ((with_reducible apply covers_trans hp); (casesm* Carrier <;> decide))
    | ((with_reducible apply covers_trans hp); exact rfl) | ((with_reducible apply covers_trans hp); (casesm* Carrier <;> exact rfl))
    | ((with_reducible (apply Or.inl; apply within_of_covers; apply covers_trans hp)); decide) | dsimp only | split
    | with_reducible apply Leads.upd | rfl

theorem State.coefApply_leads (s : State) (c : Carrier) (line : Nat) (v : Nat)
    (hp : covers ps [.blobs, .car c, .cores, .entry (0x21 + c.off) 0x063] = true) (h : Leads ps s0 s) : Leads ps s0 (State.coefApply s c line v) := by
  unfold State.coefApply
  repeat' first
    | with_reducible (first
        | assumption | apply ite_leads | apply setBlob_leads | apply State.modRx_leads | apply State.coefHold_leads | apply wr_leads)
    | ((with_reducible apply covers_trans hp); decide) | ((with_reducible apply covers_trans hp); (casesm* Carrier <;> decide))
    | ((with_reducible apply covers_trans hp); exact rfl) | ((with_reducible apply covers_trans hp); (casesm* Carrier <;> exact rfl))
    | dsimp only | split | rfl

theorem State.coefWrite_leads (s : State) (c : Carrier) (line : Nat) (v : Nat)
    (hp : covers ps [.car c] = true) (h : Leads ps s0 s) : Leads ps s0 (State.coefWrite s c line v) := by
  unfold State.coefWrite
  repeat' first
    | with_reducible (first
        | assumption | apply State.modRx_leads)
    | ((with_reducible apply covers_trans hp); decide) | ((with_reducible apply covers_trans hp); (casesm* Carrier <;> decide))
    | ((with_reducible apply covers_trans hp); exact rfl) | ((with_reducible apply covers_trans hp); (casesm* Carrier <;> exact rfl))
    | rfl

theorem State.coefBoundary_leads (s : State) (c : Carrier) (k : Nat)
    (hp : covers ps [.car c, .blobs, .cores, .entry (0x21 + c.off) 0x063] = true) (h : Leads ps s0 s) : Leads ps s0 (State.coefBoundary s c k) := by
  unfold State.coefBoundary
  repeat' first
    | with_reducible (first
        | intro _ | assumption | apply State.modRx_leads | apply State.coefApply_leads | apply foldl_leads)
    | ((with_reducible apply covers_trans hp); decide) | ((with_reducible apply covers_trans hp); (casesm* Carrier <;> decide))
    | ((with_reducible apply covers_trans hp); exact rfl) | ((with_reducible apply covers_trans hp); (casesm* Carrier <;> exact rfl))
    | rfl

end Sys2Proof.Machine
end

