-- ==== Sys2Proof/Laws/FrameRxSymbols.lean ====
section
/-! SUPPORT. Frames of the operations and meanings of Machine/RxSymbols.lean. -/

namespace Sys2Proof.Machine

variable {ps : List Part} {s0 : State}

theorem State.eqBlock_leads (s : State) (c : Carrier) (k : Nat)
    (hp : covers ps [.blobs, .car c] = true) (h : Leads ps s0 s) : Leads ps s0 (State.eqBlock s c k) := by
  unfold State.eqBlock
  repeat' first
    | with_reducible (first
        | assumption | apply ite_leads | apply setBlob_leads | apply State.modRx_leads)
    | ((with_reducible apply covers_trans hp); decide) | ((with_reducible apply covers_trans hp); (casesm* Carrier <;> decide))
    | ((with_reducible apply covers_trans hp); exact rfl) | ((with_reducible apply covers_trans hp); (casesm* Carrier <;> exact rfl))
    | rfl

theorem State.rotatorLoop_leads (s : State) (c : Carrier) (k : Nat) (y : Pol) (d : Pol)
    (hp : covers ps [.car c] = true) (h : Leads ps s0 s) : Leads ps s0 (State.rotatorLoop s c k y d) := by
  unfold State.rotatorLoop
  repeat' first
    | with_reducible (first
        | assumption | apply State.modRx_leads)
    | ((with_reducible apply covers_trans hp); decide) | ((with_reducible apply covers_trans hp); (casesm* Carrier <;> decide))
    | ((with_reducible apply covers_trans hp); exact rfl) | ((with_reducible apply covers_trans hp); (casesm* Carrier <;> exact rfl))
    | rfl

theorem State.commonLoop_leads (s : State) (c : Carrier) (err : Rat)
    (hp : covers ps [.car c] = true) (h : Leads ps s0 s) : Leads ps s0 (State.commonLoop s c err) := by
  unfold State.commonLoop
  repeat' first
    | with_reducible (first
        | assumption | apply State.modRx_leads)
    | ((with_reducible apply covers_trans hp); decide) | ((with_reducible apply covers_trans hp); (casesm* Carrier <;> decide))
    | ((with_reducible apply covers_trans hp); exact rfl) | ((with_reducible apply covers_trans hp); (casesm* Carrier <;> exact rfl))
    | rfl

theorem State.commonReport_leads (s : State) (c : Carrier)
    (hp : covers ps [.entry (0x21 + c.off) 0x062, .entry (0x21 + c.off) 0x064, .entry (0x21 + c.off) 0x001, .ev, .fb, .entry (0x21 + c.off) 0x065] = true) (h : Leads ps s0 s) : Leads ps s0 (State.commonReport s c) := by
  unfold State.commonReport
  repeat' first
    | with_reducible (first
        | assumption | apply ite_leads | apply State.setCommon_leads | apply State.rxStatusBit_leads | apply State.raise_leads
        | apply State.bump_leads)
    | ((with_reducible apply covers_trans hp); decide) | ((with_reducible apply covers_trans hp); (casesm* Carrier <;> decide))
    | ((with_reducible apply covers_trans hp); exact rfl) | ((with_reducible apply covers_trans hp); (casesm* Carrier <;> exact rfl))
    | rfl

theorem State.freqLoops_leads (s : State) (c : Carrier) (k : Nat) (before : Option Rat)
    (hp : covers ps [.car c, .entry (0x21 + c.off) 0x063, .entry (0x21 + c.off) 0x062, .entry (0x21 + c.off) 0x064, .entry (0x21 + c.off) 0x001, .ev, .fb, .entry (0x21 + c.off) 0x065] = true) (h : Leads ps s0 s) : Leads ps s0 (State.freqLoops s c k before) := by
  unfold State.freqLoops
  repeat' first
    | with_reducible (first
        | assumption | apply State.modRx_leads | apply wr_leads | apply State.commonLoop_leads | apply State.commonReport_leads)
    | ((with_reducible apply covers_trans hp); decide) | ((with_reducible apply covers_trans hp); (casesm* Carrier <;> decide))
    | ((with_reducible apply covers_trans hp); exact rfl) | ((with_reducible apply covers_trans hp); (casesm* Carrier <;> exact rfl))
    | dsimp only | split | rfl

theorem State.pilotStep_leads (s : State) (c : Carrier) (k : Nat)
    (hp : covers ps [.car c, .entry (0x21 + c.off) 0x063, .entry (0x21 + c.off) 0x062, .entry (0x21 + c.off) 0x064, .entry (0x21 + c.off) 0x001, .ev, .fb, .entry (0x21 + c.off) 0x065] = true) (h : Leads ps s0 s) : Leads ps s0 (State.pilotStep s c k) := by
  unfold State.pilotStep
  repeat' first
    | with_reducible (first
        | assumption | apply State.rotatorLoop_leads | apply State.modRx_leads | apply State.freqLoops_leads)
    | ((with_reducible apply covers_trans hp); decide) | ((with_reducible apply covers_trans hp); (casesm* Carrier <;> decide))
    | ((with_reducible apply covers_trans hp); exact rfl) | ((with_reducible apply covers_trans hp); (casesm* Carrier <;> exact rfl))
    | dsimp only | split | rfl

end Sys2Proof.Machine
end

