-- ==== Sys2Proof/Laws/FrameRxSoft.lean ====
section
/-! SUPPORT. Frames of the operations and meanings of Machine/RxSoft.lean. -/

namespace Sys2Proof.Machine

variable {ps : List Part} {s0 : State}

theorem State.takePayload_leads (s : State) (c : Carrier) (fi : Nat) (lost : Bool)
    (hp : covers ps [.car c] = true) (h : Leads ps s0 s) : Leads ps s0 (State.takePayload s c fi lost) := by
  unfold State.takePayload
  repeat' first
    | with_reducible (first
        | assumption | apply State.modRx_leads)
    | ((with_reducible apply covers_trans hp); decide) | ((with_reducible apply covers_trans hp); (casesm* Carrier <;> decide))
    | ((with_reducible apply covers_trans hp); exact rfl) | ((with_reducible apply covers_trans hp); (casesm* Carrier <;> exact rfl))
    | rfl

end Sys2Proof.Machine
end

