-- ==== Sys2Proof/Laws/FrameLineRx.lean ====
section
/-! SUPPORT. Frames of the operations and meanings of Machine/LineRx.lean. -/

namespace Sys2Proof.Machine

variable {ps : List Part} {s0 : State}

theorem execRxTimingLock_leads (c : Carrier) (s : State) :
    Out.leads [.entry (0x21 + c.off) 0x032, .entry (0x21 + c.off) 0x001, .ev, .fb] s (execRxTimingLock c s) := by
  refine out_intro fun hp h => ?_
  unfold execRxTimingLock
  refine ⟨_, rfl, ?_⟩
  all_goals repeat' first
    | with_reducible (first
        | intro _ | assumption | apply wr_leads | apply State.rxStatusBit_leads | apply State.raise_leads | apply when_leads)
    | ((with_reducible apply covers_trans hp); decide) | ((with_reducible apply covers_trans hp); (casesm* Carrier <;> decide))
    | ((with_reducible apply covers_trans hp); exact rfl) | ((with_reducible apply covers_trans hp); (casesm* Carrier <;> exact rfl))
    | rfl

theorem execRxTimingUnlock_leads (c : Carrier) (s : State) :
    Out.leads [.entry (0x21 + c.off) 0x032, .entry (0x21 + c.off) 0x001, .entry (0x21 + c.off) 0x033, .ev, .fb, .entry (0x22 + c.off) 0x036, .entry (0x22 + c.off) 0x001, .entry 0x11 0x021, .entry 0x11 0x040, .host, .car c, .entry (0x24 + c.off) 0x020, .entry (0x24 + c.off) 0x023, .entry (0x22 + c.off) 0x032, .ed, .blobs, .entry 0x50 0x050, .entry (0x23 + c.off) 0x06B, .entry (0x23 + c.off) 0x06C, .entry (0x21 + c.off) 0x062, .entry (0x21 + c.off) 0x064] s (execRxTimingUnlock c s) := by
  refine out_intro fun hp h => ?_
  unfold execRxTimingUnlock
  refine ⟨_, rfl, ?_⟩
  all_goals repeat' first
    | with_reducible (first
        | intro _ | assumption | apply wr_leads | apply State.rxStatusBit_leads | apply State.bump_leads | apply State.raise_leads
        | apply State.lossCause_leads | apply when_leads)
    | ((with_reducible apply covers_trans hp); decide) | ((with_reducible apply covers_trans hp); (casesm* Carrier <;> decide))
    | ((with_reducible apply covers_trans hp); exact rfl) | ((with_reducible apply covers_trans hp); (casesm* Carrier <;> exact rfl))
    | rfl

theorem eqBlockUpdate_leads (c : Carrier) (k : Nat) (s : State)
    (hp : covers ps [.blobs, .car c, .cores, .entry (0x21 + c.off) 0x063, .entry (0x21 + c.off) 0x001] = true) (h : Leads ps s0 s) : Leads ps s0 (eqBlockUpdate c k s) := by
  unfold eqBlockUpdate
  repeat' first
    | with_reducible (first
        | intro _ | assumption | apply ite_leads | apply State.eqBlock_leads | apply State.resetTaps_leads | apply State.modRx_leads
        | apply State.coefBoundary_leads | apply State.rxStatusBit_leads | apply when_leads)
    | ((with_reducible apply covers_trans hp); decide) | ((with_reducible apply covers_trans hp); (casesm* Carrier <;> decide))
    | ((with_reducible apply covers_trans hp); exact rfl) | ((with_reducible apply covers_trans hp); (casesm* Carrier <;> exact rfl))
    | rfl

theorem execEqBlockUpdate_leads (c : Carrier) (k : Nat) (s : State) :
    Out.leads [.blobs, .car c, .cores, .entry (0x21 + c.off) 0x063, .entry (0x21 + c.off) 0x001] s (execEqBlockUpdate c k s) := by
  refine out_intro fun hp h => ?_
  unfold execEqBlockUpdate
  refine ⟨_, rfl, ?_⟩
  all_goals repeat' first
    | with_reducible (first
        | assumption | apply eqBlockUpdate_leads)
    | ((with_reducible apply covers_trans hp); decide) | ((with_reducible apply covers_trans hp); (casesm* Carrier <;> decide))
    | ((with_reducible apply covers_trans hp); exact rfl) | ((with_reducible apply covers_trans hp); (casesm* Carrier <;> exact rfl))
    | rfl

theorem execRxEqSingular_leads (c : Carrier) (k : Nat) (s : State) :
    Out.leads [.blobs, .car c, .entry (0x21 + c.off) 0x047, .ev, .fb] s (execRxEqSingular c k s) := by
  refine out_intro fun hp h => ?_
  unfold execRxEqSingular
  refine ⟨_, rfl, ?_⟩
  all_goals repeat' first
    | with_reducible (first
        | intro _ | assumption | apply setBlob_leads | apply State.modRx_leads | apply State.bump_leads | apply State.raise_leads
        | apply when_leads)
    | ((with_reducible apply covers_trans hp); decide) | ((with_reducible apply covers_trans hp); (casesm* Carrier <;> decide))
    | ((with_reducible apply covers_trans hp); exact rfl) | ((with_reducible apply covers_trans hp); (casesm* Carrier <;> exact rfl))
    | ((with_reducible apply covers_trans hp); ((try casesm* Carrier) <;> (repeat' split) <;> first | decide | rfl)) | rfl

theorem execEqReinit_leads (src : Nat) (c : Carrier) (v : Int) (s : State) :
    Out.leads [.car c, .pw, .ports, .entry 0x08 0x030, .ev, .fb] s (execEqReinit src c v s) := by
  refine out_intro fun hp h => ?_
  unfold execEqReinit
  refine ⟨_, rfl, ?_⟩
  all_goals repeat' first
    | with_reducible (first
        | intro _ | assumption | apply State.modRx_leads | apply State.request_leads)
    | ((with_reducible apply covers_trans hp); decide) | ((with_reducible apply covers_trans hp); (casesm* Carrier <;> decide))
    | ((with_reducible apply covers_trans hp); exact rfl) | ((with_reducible apply covers_trans hp); (casesm* Carrier <;> exact rfl))
    | rfl

theorem State.deskewLimit_leads (s : State) (c : Carrier) (k : Nat)
    (hp : covers ps [.entry (0x21 + c.off) 0x001, .ev, .fb, .entry (0x22 + c.off) 0x036, .entry (0x22 + c.off) 0x001, .entry 0x11 0x021, .entry 0x11 0x040, .host, .car c, .entry (0x24 + c.off) 0x020, .entry (0x24 + c.off) 0x023, .entry (0x22 + c.off) 0x032, .ed, .blobs, .entry 0x50 0x050, .entry (0x23 + c.off) 0x06B, .entry (0x23 + c.off) 0x06C, .entry (0x21 + c.off) 0x062, .entry (0x21 + c.off) 0x064] = true) (h : Leads ps s0 s) : Leads ps s0 (State.deskewLimit s c k) := by
  unfold State.deskewLimit
  repeat' first
    | with_reducible (first
        | assumption | apply State.rxStatusBit_leads | apply State.raise_leads | apply State.lossCause_leads)
    | ((with_reducible apply covers_trans hp); decide) | ((with_reducible apply covers_trans hp); (casesm* Carrier <;> decide))
    | ((with_reducible apply covers_trans hp); exact rfl) | ((with_reducible apply covers_trans hp); (casesm* Carrier <;> exact rfl))
    | rfl

theorem eqTapShift_leads (c : Carrier) (k : Nat) (s : State)
    (hp : covers ps [.car c, .entry (0x21 + c.off) 0x001, .ev, .fb, .entry (0x22 + c.off) 0x036, .entry (0x22 + c.off) 0x001, .entry 0x11 0x021, .entry 0x11 0x040, .host, .entry (0x24 + c.off) 0x020, .entry (0x24 + c.off) 0x023, .entry (0x22 + c.off) 0x032, .ed, .blobs, .entry 0x50 0x050, .entry (0x23 + c.off) 0x06B, .entry (0x23 + c.off) 0x06C, .entry (0x21 + c.off) 0x062, .entry (0x21 + c.off) 0x064, .entry (0x21 + c.off) 0x038, .entry (0x21 + c.off) 0x044] = true) (h : Leads ps s0 s) : Leads ps s0 (eqTapShift c k s) := by
  unfold eqTapShift
  repeat' first
    | with_reducible (first
        | intro _ | assumption | apply ite_leads | apply State.modRx_leads | apply State.deskewLimit_leads | apply setBlob_leads
        | apply wr_leads | apply State.bump_leads | apply when_leads)
    | ((with_reducible apply covers_trans hp); decide) | ((with_reducible apply covers_trans hp); (casesm* Carrier <;> decide))
    | ((with_reducible apply covers_trans hp); exact rfl) | ((with_reducible apply covers_trans hp); (casesm* Carrier <;> exact rfl))
    | rfl

theorem execEqTapShift_leads (c : Carrier) (k : Nat) (s : State) :
    Out.leads [.car c, .entry (0x21 + c.off) 0x001, .ev, .fb, .entry (0x22 + c.off) 0x036, .entry (0x22 + c.off) 0x001, .entry 0x11 0x021, .entry 0x11 0x040, .host, .entry (0x24 + c.off) 0x020, .entry (0x24 + c.off) 0x023, .entry (0x22 + c.off) 0x032, .ed, .blobs, .entry 0x50 0x050, .entry (0x23 + c.off) 0x06B, .entry (0x23 + c.off) 0x06C, .entry (0x21 + c.off) 0x062, .entry (0x21 + c.off) 0x064, .entry (0x21 + c.off) 0x038, .entry (0x21 + c.off) 0x044] s (execEqTapShift c k s) := by
  refine out_intro fun hp h => ?_
  unfold execEqTapShift
  refine ⟨_, rfl, ?_⟩
  all_goals repeat' first
    | with_reducible (first
        | assumption | apply eqTapShift_leads)
    | ((with_reducible apply covers_trans hp); decide) | ((with_reducible apply covers_trans hp); (casesm* Carrier <;> decide))
    | ((with_reducible apply covers_trans hp); exact rfl) | ((with_reducible apply covers_trans hp); (casesm* Carrier <;> exact rfl))
    | rfl

theorem sopRateUpdate_leads (c : Carrier) (s : State)
    (hp : covers ps [.car c, .entry (0x21 + c.off) 0x051, .entry (0x21 + c.off) 0x052, .entry (0x21 + c.off) 0x001, .ev, .fb] = true) (h : Leads ps s0 s) : Leads ps s0 (sopRateUpdate c s) := by
  unfold sopRateUpdate
  repeat' first
    | with_reducible (first
        | intro _ | assumption | apply ite_leads | apply State.modRx_leads | apply wr_leads | apply State.rxStatusBit_leads
        | apply State.raise_leads | apply when_leads | apply foldl_leads)
    | ((with_reducible apply covers_trans hp); decide) | ((with_reducible apply covers_trans hp); (casesm* Carrier <;> decide))
    | ((with_reducible apply covers_trans hp); exact rfl) | ((with_reducible apply covers_trans hp); (casesm* Carrier <;> exact rfl))
    | dsimp only | split | rfl

theorem execSopRateUpdate_leads (c : Carrier) (s : State) :
    Out.leads [.car c, .entry (0x21 + c.off) 0x051, .entry (0x21 + c.off) 0x052, .entry (0x21 + c.off) 0x001, .ev, .fb] s (execSopRateUpdate c s) := by
  refine out_intro fun hp h => ?_
  unfold execSopRateUpdate
  refine ⟨_, rfl, ?_⟩
  all_goals repeat' first
    | with_reducible (first
        | assumption | apply sopRateUpdate_leads)
    | ((with_reducible apply covers_trans hp); decide) | ((with_reducible apply covers_trans hp); (casesm* Carrier <;> decide))
    | ((with_reducible apply covers_trans hp); exact rfl) | ((with_reducible apply covers_trans hp); (casesm* Carrier <;> exact rfl))
    | rfl

theorem execRxSopNormal_leads (c : Carrier) (s : State) :
    Out.leads [.entry (0x21 + c.off) 0x001, .ev, .fb] s (execRxSopNormal c s) := by
  refine out_intro fun hp h => ?_
  unfold execRxSopNormal
  refine ⟨_, rfl, ?_⟩
  all_goals repeat' first
    | with_reducible (first
        | intro _ | assumption | apply State.rxStatusBit_leads | apply State.raise_leads | apply when_leads)
    | ((with_reducible apply covers_trans hp); decide) | ((with_reducible apply covers_trans hp); (casesm* Carrier <;> decide))
    | ((with_reducible apply covers_trans hp); exact rfl) | ((with_reducible apply covers_trans hp); (casesm* Carrier <;> exact rfl))
    | rfl

theorem execSopPeakClear_leads (src : Nat) (c : Carrier) (s : State) :
    Out.leads [.entry (0x21 + c.off) 0x052, .pw, .ports, .entry 0x08 0x030, .ev, .fb] s (execSopPeakClear src c s) := by
  refine out_intro fun hp h => ?_
  unfold execSopPeakClear
  refine ⟨_, rfl, ?_⟩
  all_goals repeat' first
    | with_reducible (first
        | intro _ | assumption | apply wr_leads | apply State.request_leads)
    | ((with_reducible apply covers_trans hp); decide) | ((with_reducible apply covers_trans hp); (casesm* Carrier <;> decide))
    | ((with_reducible apply covers_trans hp); exact rfl) | ((with_reducible apply covers_trans hp); (casesm* Carrier <;> exact rfl))
    | rfl

theorem rxPilotUpdate_leads (c : Carrier) (k : Nat) (s : State)
    (hp : covers ps [.car c, .entry (0x21 + c.off) 0x063, .entry (0x21 + c.off) 0x062, .entry (0x21 + c.off) 0x064, .entry (0x21 + c.off) 0x001, .ev, .fb, .entry (0x21 + c.off) 0x065] = true) (h : Leads ps s0 s) : Leads ps s0 (rxPilotUpdate c k s) := by
  unfold rxPilotUpdate
  repeat' first
    | with_reducible (first
        | intro _ | assumption | apply State.pilotStep_leads | apply when_leads)
    | ((with_reducible apply covers_trans hp); decide) | ((with_reducible apply covers_trans hp); (casesm* Carrier <;> decide))
    | ((with_reducible apply covers_trans hp); exact rfl) | ((with_reducible apply covers_trans hp); (casesm* Carrier <;> exact rfl))
    | rfl

theorem execRxPilotUpdate_leads (c : Carrier) (k : Nat) (s : State) :
    Out.leads [.car c, .entry (0x21 + c.off) 0x063, .entry (0x21 + c.off) 0x062, .entry (0x21 + c.off) 0x064, .entry (0x21 + c.off) 0x001, .ev, .fb, .entry (0x21 + c.off) 0x065] s (execRxPilotUpdate c k s) := by
  refine out_intro fun hp h => ?_
  unfold execRxPilotUpdate
  refine ⟨_, rfl, ?_⟩
  all_goals repeat' first
    | with_reducible (first
        | assumption | apply rxPilotUpdate_leads)
    | ((with_reducible apply covers_trans hp); decide) | ((with_reducible apply covers_trans hp); (casesm* Carrier <;> decide))
    | ((with_reducible apply covers_trans hp); exact rfl) | ((with_reducible apply covers_trans hp); (casesm* Carrier <;> exact rfl))
    | rfl

theorem execCrLimitHoldExpiry_leads (c : Carrier) (s : State) :
    Out.leads [.entry (0x22 + c.off) 0x036, .entry (0x22 + c.off) 0x001, .entry 0x11 0x021, .ev, .fb, .entry 0x11 0x040, .host, .car c, .entry (0x24 + c.off) 0x020, .entry (0x24 + c.off) 0x023, .entry (0x22 + c.off) 0x032, .ed, .blobs, .entry 0x50 0x050, .entry (0x23 + c.off) 0x06B, .entry (0x23 + c.off) 0x06C, .entry (0x21 + c.off) 0x062, .entry (0x21 + c.off) 0x064, .entry (0x21 + c.off) 0x001] s (execCrLimitHoldExpiry c s) := by
  refine out_intro fun hp h => ?_
  unfold execCrLimitHoldExpiry
  refine ⟨_, rfl, ?_⟩
  all_goals repeat' first
    | with_reducible (first
        | intro _ | assumption | apply State.lossCause_leads | apply when_leads)
    | ((with_reducible apply covers_trans hp); decide) | ((with_reducible apply covers_trans hp); (casesm* Carrier <;> decide))
    | ((with_reducible apply covers_trans hp); exact rfl) | ((with_reducible apply covers_trans hp); (casesm* Carrier <;> exact rfl))
    | rfl

theorem State.useSet_leads (s : State) (c : Carrier) (which : Option Nat)
    (hp : covers ps [.car c, .entry (0x21 + c.off) 0x075, .ev, .fb] = true) (h : Leads ps s0 s) : Leads ps s0 (State.useSet s c which) := by
  unfold State.useSet
  repeat' first
    | with_reducible (first
        | assumption | apply ite_leads | apply State.modRx_leads | apply wr_leads | apply State.raise_leads)
    | ((with_reducible apply covers_trans hp); decide) | ((with_reducible apply covers_trans hp); (casesm* Carrier <;> decide))
    | ((with_reducible apply covers_trans hp); exact rfl) | ((with_reducible apply covers_trans hp); (casesm* Carrier <;> exact rfl))
    | rfl

theorem State.selectTag_leads (s : State) (c : Carrier) (tag : Nat)
    (hp : covers ps [.car c, .entry (0x21 + c.off) 0x075, .ev, .fb, .entry (0x23 + c.off) 0x057, .entry (0x23 + c.off) 0x058, .entry (0x24 + c.off) 0x020, .entry (0x24 + c.off) 0x023, .entry 0x11 0x021, .entry 0x11 0x040, .host] = true) (h : Leads ps s0 s) : Leads ps s0 (State.selectTag s c tag) := by
  unfold State.selectTag
  repeat' first
    | with_reducible (first
        | assumption | apply State.useSet_leads | apply State.modRx_leads | apply State.bump_leads | apply wr_leads
        | apply State.raise_leads | apply State.fecStop_leads)
    | ((with_reducible apply covers_trans hp); decide) | ((with_reducible apply covers_trans hp); (casesm* Carrier <;> decide))
    | ((with_reducible apply covers_trans hp); exact rfl) | ((with_reducible apply covers_trans hp); (casesm* Carrier <;> exact rfl))
    | dsimp only | split | rfl

theorem State.predictSet_leads (s : State) (c : Carrier)
    (hp : covers ps [.entry (0x21 + c.off) 0x073, .ev, .fb, .car c, .entry (0x21 + c.off) 0x075, .entry (0x23 + c.off) 0x057, .entry (0x23 + c.off) 0x058, .entry (0x24 + c.off) 0x020, .entry (0x24 + c.off) 0x023, .entry 0x11 0x021, .entry 0x11 0x040, .host] = true) (h : Leads ps s0 s) : Leads ps s0 (State.predictSet s c) := by
  unfold State.predictSet
  repeat' first
    | with_reducible (first
        | assumption | apply ite_leads | apply State.bump_leads | apply State.useSet_leads | apply State.selectTag_leads)
    | ((with_reducible apply covers_trans hp); decide) | ((with_reducible apply covers_trans hp); (casesm* Carrier <;> decide))
    | ((with_reducible apply covers_trans hp); exact rfl) | ((with_reducible apply covers_trans hp); (casesm* Carrier <;> exact rfl))
    | split | rfl

theorem State.farHeader_leads (s : State) (c : Carrier) (x2 : Header)
    (hp : covers ps [.entry (0x24 + c.off) 0x053, .entry (0x24 + c.off) 0x054, .entry (0x24 + c.off) 0x055, .ev, .fb] = true) (h : Leads ps s0 s) : Leads ps s0 (State.farHeader s c x2) := by
  unfold State.farHeader
  repeat' first
    | with_reducible (first
        | assumption | apply ite_leads | apply wr_leads | apply State.bump_leads | apply State.raise_leads)
    | ((with_reducible apply covers_trans hp); decide) | ((with_reducible apply covers_trans hp); (casesm* Carrier <;> decide))
    | ((with_reducible apply covers_trans hp); exact rfl) | ((with_reducible apply covers_trans hp); (casesm* Carrier <;> exact rfl))
    | rfl

theorem State.hdrMismatch_leads (s : State) (c : Carrier) (tag : Nat)
    (hp : covers ps [.ev, .fb, .entry (0x21 + c.off) 0x074] = true) (h : Leads ps s0 s) : Leads ps s0 (State.hdrMismatch s c tag) := by
  unfold State.hdrMismatch
  repeat' first
    | with_reducible (first
        | assumption | apply ite_leads | apply State.raise_leads | apply State.bump_leads)
    | ((with_reducible apply covers_trans hp); decide) | ((with_reducible apply covers_trans hp); (casesm* Carrier <;> decide))
    | ((with_reducible apply covers_trans hp); exact rfl) | ((with_reducible apply covers_trans hp); (casesm* Carrier <;> exact rfl))
    | rfl

end Sys2Proof.Machine
end

