-- ==== Sys2Proof/Laws/FrameDispersion.lean ====
section
/-! SUPPORT. Frames of the operations and meanings of Machine/Dispersion.lean. -/

namespace Sys2Proof.Machine

variable {ps : List Part} {s0 : State}

theorem State.cdStatus_leads (s : State) (c : Carrier)
    (hp : covers ps [.entry (0x21 + c.off) 0x014, .entry (0x21 + c.off) 0x001] = true) (h : Leads ps s0 s) : Leads ps s0 (State.cdStatus s c) := by
  unfold State.cdStatus
  repeat' first
    | with_reducible (first
        | assumption | apply wr_leads | apply State.rxStatusBit_leads)
    | ((with_reducible apply covers_trans hp); decide) | ((with_reducible apply covers_trans hp); (casesm* Carrier <;> decide))
    | ((with_reducible apply covers_trans hp); exact rfl) | ((with_reducible apply covers_trans hp); (casesm* Carrier <;> exact rfl))
    | rfl

theorem State.takeUp_leads (s : State) (c : Carrier) (v : CdVals) (release : Bool)
    (hp : covers ps [.car c, .entry (0x21 + c.off) 0x014, .entry (0x21 + c.off) 0x001] = true) (h : Leads ps s0 s) : Leads ps s0 (State.takeUp s c v release) := by
  unfold State.takeUp
  repeat' first
    | with_reducible (first
        | assumption | apply State.modRx_leads | apply State.cdStatus_leads)
    | ((with_reducible apply covers_trans hp); decide) | ((with_reducible apply covers_trans hp); (casesm* Carrier <;> decide))
    | ((with_reducible apply covers_trans hp); exact rfl) | ((with_reducible apply covers_trans hp); (casesm* Carrier <;> exact rfl))
    | rfl

theorem State.swapRequest_leads (s : State) (c : Carrier) (v : CdVals)
    (hp : covers ps [.car c, .ev, .fb, .entry (0x21 + c.off) 0x018, .entry (0x21 + c.off) 0x014, .entry (0x21 + c.off) 0x001, .entry (0x21 + c.off) 0x017] = true) (h : Leads ps s0 s) : Leads ps s0 (State.swapRequest s c v) := by
  unfold State.swapRequest
  repeat' first
    | with_reducible (first
        | assumption | apply ite_leads | apply State.modRx_leads | apply State.raise_leads | apply State.bump_leads
        | apply State.cdStatus_leads | apply State.takeUp_leads)
    | ((with_reducible apply covers_trans hp); decide) | ((with_reducible apply covers_trans hp); (casesm* Carrier <;> decide))
    | ((with_reducible apply covers_trans hp); exact rfl) | ((with_reducible apply covers_trans hp); (casesm* Carrier <;> exact rfl))
    | rfl

theorem State.prepareSheet_leads (s : State) (c : Carrier)
    (hp : covers ps [.car c, .entry (0x21 + c.off) 0x014, .entry (0x21 + c.off) 0x001] = true) (h : Leads ps s0 s) : Leads ps s0 (State.prepareSheet s c) := by
  unfold State.prepareSheet
  repeat' first
    | with_reducible (first
        | assumption | apply ite_leads | apply State.modRx_leads | apply State.cdStatus_leads)
    | ((with_reducible apply covers_trans hp); decide) | ((with_reducible apply covers_trans hp); (casesm* Carrier <;> decide))
    | ((with_reducible apply covers_trans hp); exact rfl) | ((with_reducible apply covers_trans hp); (casesm* Carrier <;> exact rfl))
    | split | rfl

theorem execCdSheetReady_leads (c : Carrier) (s : State) :
    Out.leads [.car c, .entry (0x21 + c.off) 0x014, .entry (0x21 + c.off) 0x001] s (execCdSheetReady c s) := by
  refine out_intro fun hp h => ?_
  unfold execCdSheetReady
  refine ⟨_, rfl, ?_⟩
  all_goals repeat' first
    | with_reducible (first
        | intro _ | assumption | apply State.modRx_leads | apply State.cdStatus_leads | apply when_leads)
    | ((with_reducible apply covers_trans hp); decide) | ((with_reducible apply covers_trans hp); (casesm* Carrier <;> decide))
    | ((with_reducible apply covers_trans hp); exact rfl) | ((with_reducible apply covers_trans hp); (casesm* Carrier <;> exact rfl))
    | rfl

theorem State.fadeShow_leads (s : State) (c : Carrier)
    (hp : covers ps [.entry (0x21 + c.off) 0x015, .entry (0x21 + c.off) 0x016, .entry (0x21 + c.off) 0x014, .entry (0x21 + c.off) 0x001] = true) (h : Leads ps s0 s) : Leads ps s0 (State.fadeShow s c) := by
  unfold State.fadeShow
  repeat' first
    | with_reducible (first
        | assumption | apply wr_leads | apply State.cdStatus_leads)
    | ((with_reducible apply covers_trans hp); decide) | ((with_reducible apply covers_trans hp); (casesm* Carrier <;> decide))
    | ((with_reducible apply covers_trans hp); exact rfl) | ((with_reducible apply covers_trans hp); (casesm* Carrier <;> exact rfl))
    | split | rfl

theorem cdFadeStart_leads (c : Carrier) (s : State)
    (hp : covers ps [.car c, .entry (0x21 + c.off) 0x015, .entry (0x21 + c.off) 0x016, .entry (0x21 + c.off) 0x014, .entry (0x21 + c.off) 0x001] = true) (h : Leads ps s0 s) : Leads ps s0 (cdFadeStart c s) := by
  unfold cdFadeStart
  repeat' first
    | with_reducible (first
        | intro _ | assumption | apply State.modRx_leads | apply State.fadeShow_leads | apply when_leads)
    | ((with_reducible apply covers_trans hp); decide) | ((with_reducible apply covers_trans hp); (casesm* Carrier <;> decide))
    | ((with_reducible apply covers_trans hp); exact rfl) | ((with_reducible apply covers_trans hp); (casesm* Carrier <;> exact rfl))
    | dsimp only | split | rfl

theorem execCdFadeStart_leads (c : Carrier) (s : State) :
    Out.leads [.car c, .entry (0x21 + c.off) 0x015, .entry (0x21 + c.off) 0x016, .entry (0x21 + c.off) 0x014, .entry (0x21 + c.off) 0x001] s (execCdFadeStart c s) := by
  refine out_intro fun hp h => ?_
  unfold execCdFadeStart
  refine ⟨_, rfl, ?_⟩
  all_goals repeat' first
    | with_reducible (first
        | assumption | apply cdFadeStart_leads)
    | ((with_reducible apply covers_trans hp); decide) | ((with_reducible apply covers_trans hp); (casesm* Carrier <;> decide))
    | ((with_reducible apply covers_trans hp); exact rfl) | ((with_reducible apply covers_trans hp); (casesm* Carrier <;> exact rfl))
    | rfl

theorem State.releaseQueue_leads (s : State) (c : Carrier)
    (hp : covers ps [.car c, .entry (0x21 + c.off) 0x014, .entry (0x21 + c.off) 0x001] = true) (h : Leads ps s0 s) : Leads ps s0 (State.releaseQueue s c) := by
  unfold State.releaseQueue
  repeat' first
    | with_reducible (first
        | assumption | apply State.modRx_leads | apply State.takeUp_leads | apply State.cdStatus_leads)
    | ((with_reducible apply covers_trans hp); decide) | ((with_reducible apply covers_trans hp); (casesm* Carrier <;> decide))
    | ((with_reducible apply covers_trans hp); exact rfl) | ((with_reducible apply covers_trans hp); (casesm* Carrier <;> exact rfl))
    | split | rfl

theorem State.activate_leads (s : State) (c : Carrier) (v : CdVals)
    (hp : covers ps [.car c, .entry (0x21 + c.off) 0x015, .entry (0x21 + c.off) 0x016] = true) (h : Leads ps s0 s) : Leads ps s0 (State.activate s c v) := by
  unfold State.activate
  repeat' first
    | with_reducible (first
        | assumption | apply State.modRx_leads | apply wr_leads)
    | ((with_reducible apply covers_trans hp); decide) | ((with_reducible apply covers_trans hp); (casesm* Carrier <;> decide))
    | ((with_reducible apply covers_trans hp); exact rfl) | ((with_reducible apply covers_trans hp); (casesm* Carrier <;> exact rfl))
    | rfl

theorem State.fadeDone_leads (s : State) (c : Carrier) (v : CdVals)
    (hp : covers ps [.car c, .entry (0x21 + c.off) 0x015, .entry (0x21 + c.off) 0x016, .ev, .fb, .entry (0x21 + c.off) 0x014, .entry (0x21 + c.off) 0x001] = true) (h : Leads ps s0 s) : Leads ps s0 (State.fadeDone s c v) := by
  unfold State.fadeDone
  repeat' first
    | with_reducible (first
        | assumption | apply State.activate_leads | apply State.raise_leads | apply State.releaseQueue_leads
        | apply State.prepareSheet_leads)
    | ((with_reducible apply covers_trans hp); decide) | ((with_reducible apply covers_trans hp); (casesm* Carrier <;> decide))
    | ((with_reducible apply covers_trans hp); exact rfl) | ((with_reducible apply covers_trans hp); (casesm* Carrier <;> exact rfl))
    | rfl

theorem cdFadeBlock_leads (c : Carrier) (s : State)
    (hp : covers ps [.car c, .entry (0x21 + c.off) 0x015, .entry (0x21 + c.off) 0x016, .ev, .fb, .entry (0x21 + c.off) 0x014, .entry (0x21 + c.off) 0x001] = true) (h : Leads ps s0 s) : Leads ps s0 (cdFadeBlock c s) := by
  unfold cdFadeBlock
  repeat' first
    | with_reducible (first
        | intro _ | assumption | apply ite_leads | apply State.fadeDone_leads | apply State.modRx_leads | apply State.fadeShow_leads
        | apply when_leads)
    | ((with_reducible apply covers_trans hp); decide) | ((with_reducible apply covers_trans hp); (casesm* Carrier <;> decide))
    | ((with_reducible apply covers_trans hp); exact rfl) | ((with_reducible apply covers_trans hp); (casesm* Carrier <;> exact rfl))
    | split | rfl

theorem execCdFadeBlock_leads (c : Carrier) (s : State) :
    Out.leads [.car c, .entry (0x21 + c.off) 0x015, .entry (0x21 + c.off) 0x016, .ev, .fb, .entry (0x21 + c.off) 0x014, .entry (0x21 + c.off) 0x001] s (execCdFadeBlock c s) := by
  refine out_intro fun hp h => ?_
  unfold execCdFadeBlock
  refine ⟨_, rfl, ?_⟩
  all_goals repeat' first
    | with_reducible (first
        | assumption | apply cdFadeBlock_leads)
    | ((with_reducible apply covers_trans hp); decide) | ((with_reducible apply covers_trans hp); (casesm* Carrier <;> decide))
    | ((with_reducible apply covers_trans hp); exact rfl) | ((with_reducible apply covers_trans hp); (casesm* Carrier <;> exact rfl))
    | rfl

theorem cdFadeCut_leads (c : Carrier) (s : State)
    (hp : covers ps [.car c, .entry (0x21 + c.off) 0x015, .entry (0x21 + c.off) 0x016, .ev, .fb, .entry (0x21 + c.off) 0x014, .entry (0x21 + c.off) 0x001] = true) (h : Leads ps s0 s) : Leads ps s0 (cdFadeCut c s) := by
  unfold cdFadeCut
  repeat' first
    | with_reducible (first
        | intro _ | assumption | apply State.fadeDone_leads | apply when_leads)
    | ((with_reducible apply covers_trans hp); decide) | ((with_reducible apply covers_trans hp); (casesm* Carrier <;> decide))
    | ((with_reducible apply covers_trans hp); exact rfl) | ((with_reducible apply covers_trans hp); (casesm* Carrier <;> exact rfl))
    | split | rfl

theorem execCdFadeCut_leads (c : Carrier) (s : State) :
    Out.leads [.car c, .entry (0x21 + c.off) 0x015, .entry (0x21 + c.off) 0x016, .ev, .fb, .entry (0x21 + c.off) 0x014, .entry (0x21 + c.off) 0x001] s (execCdFadeCut c s) := by
  refine out_intro fun hp h => ?_
  unfold execCdFadeCut
  refine ⟨_, rfl, ?_⟩
  all_goals repeat' first
    | with_reducible (first
        | assumption | apply cdFadeCut_leads)
    | ((with_reducible apply covers_trans hp); decide) | ((with_reducible apply covers_trans hp); (casesm* Carrier <;> decide))
    | ((with_reducible apply covers_trans hp); exact rfl) | ((with_reducible apply covers_trans hp); (casesm* Carrier <;> exact rfl))
    | rfl

theorem cdSwapNofade_leads (c : Carrier) (s : State)
    (hp : covers ps [.car c, .entry (0x21 + c.off) 0x015, .entry (0x21 + c.off) 0x016, .entry (0x21 + c.off) 0x014, .entry (0x21 + c.off) 0x001] = true) (h : Leads ps s0 s) : Leads ps s0 (cdSwapNofade c s) := by
  unfold cdSwapNofade
  repeat' first
    | with_reducible (first
        | intro _ | assumption | apply State.modRx_leads | apply State.activate_leads | apply State.releaseQueue_leads
        | apply when_leads)
    | ((with_reducible apply covers_trans hp); decide) | ((with_reducible apply covers_trans hp); (casesm* Carrier <;> decide))
    | ((with_reducible apply covers_trans hp); exact rfl) | ((with_reducible apply covers_trans hp); (casesm* Carrier <;> exact rfl))
    | split | rfl

theorem execCdSwapNofade_leads (c : Carrier) (s : State) :
    Out.leads [.car c, .entry (0x21 + c.off) 0x015, .entry (0x21 + c.off) 0x016, .entry (0x21 + c.off) 0x014, .entry (0x21 + c.off) 0x001] s (execCdSwapNofade c s) := by
  refine out_intro fun hp h => ?_
  unfold execCdSwapNofade
  refine ⟨_, rfl, ?_⟩
  all_goals repeat' first
    | with_reducible (first
        | assumption | apply cdSwapNofade_leads)
    | ((with_reducible apply covers_trans hp); decide) | ((with_reducible apply covers_trans hp); (casesm* Carrier <;> decide))
    | ((with_reducible apply covers_trans hp); exact rfl) | ((with_reducible apply covers_trans hp); (casesm* Carrier <;> exact rfl))
    | rfl

theorem execCdSearchStart_leads (src : Nat) (c : Carrier) (s : State) :
    Out.leads [.entry (0x21 + c.off) 0x01C, .entry (0x21 + c.off) 0x01E, .car c, .pw, .ports, .entry 0x08 0x030, .ev, .fb] s (execCdSearchStart src c s) := by
  refine out_intro fun hp h => ?_
  unfold execCdSearchStart
  refine ⟨_, rfl, ?_⟩
  all_goals repeat' first
    | with_reducible (first
        | intro _ | assumption | apply State.startSearch_leads | apply State.request_leads | apply ite_fst_leads)
    | ((with_reducible apply covers_trans hp); decide) | ((with_reducible apply covers_trans hp); (casesm* Carrier <;> decide))
    | ((with_reducible apply covers_trans hp); exact rfl) | ((with_reducible apply covers_trans hp); (casesm* Carrier <;> exact rfl))
    | rfl

theorem State.searchDone_leads (s : State) (c : Carrier)
    (hp : covers ps [.car c, .entry (0x21 + c.off) 0x01F, .entry (0x21 + c.off) 0x020, .entry (0x21 + c.off) 0x01E] = true) (h : Leads ps s0 s) : Leads ps s0 (State.searchDone s c) := by
  unfold State.searchDone
  repeat' first
    | with_reducible (first
        | assumption | apply State.modRx_leads | apply wr_leads)
    | ((with_reducible apply covers_trans hp); decide) | ((with_reducible apply covers_trans hp); (casesm* Carrier <;> decide))
    | ((with_reducible apply covers_trans hp); exact rfl) | ((with_reducible apply covers_trans hp); (casesm* Carrier <;> exact rfl))
    | dsimp only | split | rfl

theorem State.abandonSearch_leads (s : State) (c : Carrier)
    (hp : covers ps [.car c, .entry (0x21 + c.off) 0x01E] = true) (h : Leads ps s0 s) : Leads ps s0 (State.abandonSearch s c) := by
  unfold State.abandonSearch
  repeat' first
    | with_reducible (first
        | assumption | apply State.modRx_leads | apply wr_leads)
    | ((with_reducible apply covers_trans hp); decide) | ((with_reducible apply covers_trans hp); (casesm* Carrier <;> decide))
    | ((with_reducible apply covers_trans hp); exact rfl) | ((with_reducible apply covers_trans hp); (casesm* Carrier <;> exact rfl))
    | split | rfl

end Sys2Proof.Machine
end

