-- ==== Sys2Proof/Laws/FrameAcquisition.lean ====
section
/-! SUPPORT. Frames of the operations and meanings of Machine/Acquisition.lean. -/

namespace Sys2Proof.Machine

variable {ps : List Part} {s0 : State}

theorem State.takeDetection_leads (s : State) (c : Carrier) (metric : Nat) (coarse : Int)
    (hp : covers ps [.entry (0x22 + c.off) 0x020, .entry (0x22 + c.off) 0x021, .entry (0x22 + c.off) 0x022, .entry (0x21 + c.off) 0x062, .entry (0x21 + c.off) 0x064, .car c, .entry (0x22 + c.off) 0x001, .entry 0x11 0x021, .ev, .fb, .entry 0x11 0x040, .host, .entry (0x21 + c.off) 0x001] = true) (h : Leads ps s0 s) : Leads ps s0 (State.takeDetection s c metric coarse) := by
  unfold State.takeDetection
  repeat' first
    | with_reducible (first
        | assumption | apply wr_leads | apply State.setCommon_leads | apply State.modRx_leads | apply State.setPhase_leads
        | apply State.toCma_leads)
    | ((with_reducible apply covers_trans hp); decide) | ((with_reducible apply covers_trans hp); (casesm* Carrier <;> decide))
    | ((with_reducible apply covers_trans hp); exact rfl) | ((with_reducible apply covers_trans hp); (casesm* Carrier <;> exact rfl))
    | rfl

theorem acqDetect_leads (c : Carrier) (metric : Nat) (coarse : Int) (s : State)
    (hp : covers ps [.blobs, .car c, .entry (0x21 + c.off) 0x001, .entry (0x22 + c.off) 0x020, .entry (0x22 + c.off) 0x021, .entry (0x22 + c.off) 0x022, .entry (0x21 + c.off) 0x062, .entry (0x21 + c.off) 0x064, .entry (0x22 + c.off) 0x001, .entry 0x11 0x021, .ev, .fb, .entry 0x11 0x040, .host, .entry (0x22 + c.off) 0x040] = true) (h : Leads ps s0 s) : Leads ps s0 (acqDetect c metric coarse s) := by
  unfold acqDetect
  repeat' first
    | with_reducible (first
        | intro _ | assumption | apply ite_leads | apply State.resetAllTaps_leads | apply State.takeDetection_leads
        | apply State.raise_leads | apply wr_leads | apply when_leads)
    | ((with_reducible apply covers_trans hp); decide) | ((with_reducible apply covers_trans hp); (casesm* Carrier <;> decide))
    | ((with_reducible apply covers_trans hp); exact rfl) | ((with_reducible apply covers_trans hp); (casesm* Carrier <;> exact rfl))
    | rfl

theorem execAcqDetect_leads (c : Carrier) (metric : Nat) (coarse : Int) (s : State) :
    Out.leads [.blobs, .car c, .entry (0x21 + c.off) 0x001, .entry (0x22 + c.off) 0x020, .entry (0x22 + c.off) 0x021, .entry (0x22 + c.off) 0x022, .entry (0x21 + c.off) 0x062, .entry (0x21 + c.off) 0x064, .entry (0x22 + c.off) 0x001, .entry 0x11 0x021, .ev, .fb, .entry 0x11 0x040, .host, .entry (0x22 + c.off) 0x040] s (execAcqDetect c metric coarse s) := by
  refine out_intro fun hp h => ?_
  unfold execAcqDetect
  refine ⟨_, rfl, ?_⟩
  all_goals repeat' first
    | with_reducible (first
        | assumption | apply acqDetect_leads)
    | ((with_reducible apply covers_trans hp); decide) | ((with_reducible apply covers_trans hp); (casesm* Carrier <;> decide))
    | ((with_reducible apply covers_trans hp); exact rfl) | ((with_reducible apply covers_trans hp); (casesm* Carrier <;> exact rfl))
    | rfl

theorem acqCapture_leads (c : Carrier) (metric : Nat) (coarse : Int) (nearStart : Bool) (s : State)
    (hp : covers ps [.entry (0x22 + c.off) 0x031, .ev, .fb, .entry (0x22 + c.off) 0x020, .entry (0x22 + c.off) 0x021, .entry (0x22 + c.off) 0x022, .entry (0x21 + c.off) 0x062, .entry (0x21 + c.off) 0x064, .car c, .entry (0x22 + c.off) 0x001, .entry 0x11 0x021, .entry 0x11 0x040, .host, .entry (0x21 + c.off) 0x001] = true) (h : Leads ps s0 s) : Leads ps s0 (acqCapture c metric coarse nearStart s) := by
  unfold acqCapture
  repeat' first
    | with_reducible (first
        | intro _ | assumption | apply State.bump_leads | apply State.takeDetection_leads | apply State.raise_leads | apply when_leads)
    | ((with_reducible apply covers_trans hp); decide) | ((with_reducible apply covers_trans hp); (casesm* Carrier <;> decide))
    | ((with_reducible apply covers_trans hp); exact rfl) | ((with_reducible apply covers_trans hp); (casesm* Carrier <;> exact rfl))
    | rfl

theorem execAcqCapture_leads (c : Carrier) (metric : Nat) (coarse : Int) (nearStart : Bool) (s : State) :
    Out.leads [.entry (0x22 + c.off) 0x031, .ev, .fb, .entry (0x22 + c.off) 0x020, .entry (0x22 + c.off) 0x021, .entry (0x22 + c.off) 0x022, .entry (0x21 + c.off) 0x062, .entry (0x21 + c.off) 0x064, .car c, .entry (0x22 + c.off) 0x001, .entry 0x11 0x021, .entry 0x11 0x040, .host, .entry (0x21 + c.off) 0x001] s (execAcqCapture c metric coarse nearStart s) := by
  refine out_intro fun hp h => ?_
  unfold execAcqCapture
  refine ⟨_, rfl, ?_⟩
  all_goals repeat' first
    | with_reducible (first
        | assumption | apply acqCapture_leads)
    | ((with_reducible apply covers_trans hp); decide) | ((with_reducible apply covers_trans hp); (casesm* Carrier <;> decide))
    | ((with_reducible apply covers_trans hp); exact rfl) | ((with_reducible apply covers_trans hp); (casesm* Carrier <;> exact rfl))
    | rfl

theorem State.takeSoundingWord_leads (s : State) (c : Carrier) (copies : List (Nat × Nat))
    (hp : covers ps [.entry (0x22 + c.off) 0x023, .entry (0x22 + c.off) 0x024, .entry (0x22 + c.off) 0x025, .entry (0x22 + c.off) 0x026] = true) (h : Leads ps s0 s) : Leads ps s0 (State.takeSoundingWord s c copies) := by
  unfold State.takeSoundingWord
  repeat' first
    | with_reducible (first
        | assumption | apply wr_leads)
    | ((with_reducible apply covers_trans hp); decide) | ((with_reducible apply covers_trans hp); (casesm* Carrier <;> decide))
    | ((with_reducible apply covers_trans hp); exact rfl) | ((with_reducible apply covers_trans hp); (casesm* Carrier <;> exact rfl))
    | dsimp only | split | rfl

theorem rxSounding_leads (c : Carrier) (errs : List Nat) (copies : List (Nat × Nat)) (metric : Nat) (frameStart : Bool) (fawErrs : List Nat) (s : State)
    (hp : covers ps [.entry (0x22 + c.off) 0x027, .entry (0x22 + c.off) 0x023, .entry (0x22 + c.off) 0x024, .entry (0x22 + c.off) 0x025, .entry (0x22 + c.off) 0x026, .car c, .entry (0x22 + c.off) 0x001, .entry 0x11 0x021, .ev, .fb, .entry 0x11 0x040, .host, .entry (0x22 + c.off) 0x021, .entry (0x22 + c.off) 0x036, .entry (0x22 + c.off) 0x032, .entry (0x24 + c.off) 0x020, .entry (0x24 + c.off) 0x023, .ed, .blobs, .entry 0x50 0x050, .entry (0x23 + c.off) 0x06B, .entry (0x23 + c.off) 0x06C, .entry (0x21 + c.off) 0x001] = true) (h : Leads ps s0 s) : Leads ps s0 (rxSounding c errs copies metric frameStart fawErrs s) := by
  unfold rxSounding
  repeat' first
    | with_reducible (first
        | intro _ | assumption | apply ite_leads | apply wr_leads | apply State.takeSoundingWord_leads | apply State.modRx_leads
        | apply State.setPhase_leads | apply State.raise_leads | apply State.lolCause_leads | apply State.lolEvent_leads
        | apply State.finalLoss_leads | apply State.toCma_leads | apply when_leads)
    | ((with_reducible apply covers_trans hp); decide) | ((with_reducible apply covers_trans hp); (casesm* Carrier <;> decide))
    | ((with_reducible apply covers_trans hp); exact rfl) | ((with_reducible apply covers_trans hp); (casesm* Carrier <;> exact rfl))
    | rfl

theorem execRxSounding_leads (c : Carrier) (errs : List Nat) (copies : List (Nat × Nat)) (metric : Nat) (frameStart : Bool) (fawErrs : List Nat) (s : State) :
    Out.leads [.entry (0x22 + c.off) 0x027, .entry (0x22 + c.off) 0x023, .entry (0x22 + c.off) 0x024, .entry (0x22 + c.off) 0x025, .entry (0x22 + c.off) 0x026, .car c, .entry (0x22 + c.off) 0x001, .entry 0x11 0x021, .ev, .fb, .entry 0x11 0x040, .host, .entry (0x22 + c.off) 0x021, .entry (0x22 + c.off) 0x036, .entry (0x22 + c.off) 0x032, .entry (0x24 + c.off) 0x020, .entry (0x24 + c.off) 0x023, .ed, .blobs, .entry 0x50 0x050, .entry (0x23 + c.off) 0x06B, .entry (0x23 + c.off) 0x06C, .entry (0x21 + c.off) 0x001] s (execRxSounding c errs copies metric frameStart fawErrs s) := by
  refine out_intro fun hp h => ?_
  unfold execRxSounding
  refine ⟨_, rfl, ?_⟩
  all_goals repeat' first
    | with_reducible (first
        | assumption | apply rxSounding_leads)
    | ((with_reducible apply covers_trans hp); decide) | ((with_reducible apply covers_trans hp); (casesm* Carrier <;> decide))
    | ((with_reducible apply covers_trans hp); exact rfl) | ((with_reducible apply covers_trans hp); (casesm* Carrier <;> exact rfl))
    | rfl

theorem State.falseLock_leads (s : State) (c : Carrier)
    (hp : covers ps [.entry (0x22 + c.off) 0x030, .ev, .fb, .entry (0x22 + c.off) 0x001, .entry 0x11 0x021, .entry 0x11 0x040, .host, .car c, .entry (0x21 + c.off) 0x062, .entry (0x21 + c.off) 0x064, .entry (0x21 + c.off) 0x001] = true) (h : Leads ps s0 s) : Leads ps s0 (State.falseLock s c) := by
  unfold State.falseLock
  repeat' first
    | with_reducible (first
        | assumption | apply State.bump_leads | apply State.raise_leads | apply State.toHunt_leads)
    | ((with_reducible apply covers_trans hp); decide) | ((with_reducible apply covers_trans hp); (casesm* Carrier <;> decide))
    | ((with_reducible apply covers_trans hp); exact rfl) | ((with_reducible apply covers_trans hp); (casesm* Carrier <;> exact rfl))
    | rfl

theorem execSettleExpiry_leads (c : Carrier) (s : State) :
    Out.leads [.entry (0x22 + c.off) 0x030, .ev, .fb, .entry (0x22 + c.off) 0x001, .entry 0x11 0x021, .entry 0x11 0x040, .host, .car c, .entry (0x21 + c.off) 0x062, .entry (0x21 + c.off) 0x064, .entry (0x21 + c.off) 0x001] s (execSettleExpiry c s) := by
  refine out_intro fun hp h => ?_
  unfold execSettleExpiry
  refine ⟨_, rfl, ?_⟩
  all_goals repeat' first
    | with_reducible (first
        | intro _ | assumption | apply State.falseLock_leads | apply when_leads)
    | ((with_reducible apply covers_trans hp); decide) | ((with_reducible apply covers_trans hp); (casesm* Carrier <;> decide))
    | ((with_reducible apply covers_trans hp); exact rfl) | ((with_reducible apply covers_trans hp); (casesm* Carrier <;> exact rfl))
    | rfl

theorem execSyncLossCount_leads (c : Carrier) (s : State) :
    Out.leads [.entry (0x22 + c.off) 0x036, .entry (0x22 + c.off) 0x032, .ev, .fb, .car c, .entry (0x24 + c.off) 0x020, .entry (0x24 + c.off) 0x023, .entry 0x11 0x021, .entry 0x11 0x040, .host, .ed, .blobs, .entry 0x50 0x050, .entry (0x23 + c.off) 0x06B, .entry (0x23 + c.off) 0x06C, .entry (0x22 + c.off) 0x001, .entry (0x21 + c.off) 0x062, .entry (0x21 + c.off) 0x064, .entry (0x21 + c.off) 0x001] s (execSyncLossCount c s) := by
  refine out_intro fun hp h => ?_
  unfold execSyncLossCount
  refine ⟨_, rfl, ?_⟩
  all_goals repeat' first
    | with_reducible (first
        | intro _ | assumption | apply State.lolCause_leads | apply State.lolEvent_leads | apply State.finalLoss_leads
        | apply State.toHunt_leads | apply when_leads)
    | ((with_reducible apply covers_trans hp); decide) | ((with_reducible apply covers_trans hp); (casesm* Carrier <;> decide))
    | ((with_reducible apply covers_trans hp); exact rfl) | ((with_reducible apply covers_trans hp); (casesm* Carrier <;> exact rfl))
    | rfl

theorem rxFawTest_leads (c : Carrier) (errs : List Nat) (sndErrs : List Nat) (s : State)
    (hp : covers ps [.entry (0x22 + c.off) 0x001, .entry 0x11 0x021, .ev, .fb, .entry 0x11 0x040, .host, .car c, .entry (0x22 + c.off) 0x030, .entry (0x21 + c.off) 0x062, .entry (0x21 + c.off) 0x064, .entry (0x21 + c.off) 0x001, .entry (0x24 + c.off) 0x052] = true) (h : Leads ps s0 s) : Leads ps s0 (rxFawTest c errs sndErrs s) := by
  unfold rxFawTest
  repeat' first
    | with_reducible (first
        | intro _ | assumption | apply ite_leads | apply State.setPhase_leads | apply State.modRx_leads | apply State.falseLock_leads
        | apply State.bump_leads | apply when_leads)
    | ((with_reducible apply covers_trans hp); decide) | ((with_reducible apply covers_trans hp); (casesm* Carrier <;> decide))
    | ((with_reducible apply covers_trans hp); exact rfl) | ((with_reducible apply covers_trans hp); (casesm* Carrier <;> exact rfl))
    | rfl

theorem execRxFawTest_leads (c : Carrier) (errs : List Nat) (sndErrs : List Nat) (s : State) :
    Out.leads [.entry (0x22 + c.off) 0x001, .entry 0x11 0x021, .ev, .fb, .entry 0x11 0x040, .host, .car c, .entry (0x22 + c.off) 0x030, .entry (0x21 + c.off) 0x062, .entry (0x21 + c.off) 0x064, .entry (0x21 + c.off) 0x001, .entry (0x24 + c.off) 0x052] s (execRxFawTest c errs sndErrs s) := by
  refine out_intro fun hp h => ?_
  unfold execRxFawTest
  refine ⟨_, rfl, ?_⟩
  all_goals repeat' first
    | with_reducible (first
        | assumption | apply rxFawTest_leads)
    | ((with_reducible apply covers_trans hp); decide) | ((with_reducible apply covers_trans hp); (casesm* Carrier <;> decide))
    | ((with_reducible apply covers_trans hp); exact rfl) | ((with_reducible apply covers_trans hp); (casesm* Carrier <;> exact rfl))
    | rfl

theorem State.acqLock_leads (s : State) (c : Carrier) (deskews : List Int)
    (hp : covers ps [.entry (0x22 + c.off) 0x033, .ev, .fb, .entry (0x22 + c.off) 0x035, .entry (0x22 + c.off) 0x001, .entry 0x11 0x021, .entry 0x11 0x040, .host, .car c, .entry (0x21 + c.off) 0x038, .entry (0x21 + c.off) 0x001, .entry (0x22 + c.off) 0x036, .entry (0x24 + c.off) 0x020, .entry (0x24 + c.off) 0x023, .entry (0x22 + c.off) 0x032, .ed, .blobs, .entry 0x50 0x050, .entry (0x23 + c.off) 0x06B, .entry (0x23 + c.off) 0x06C, .entry (0x21 + c.off) 0x062, .entry (0x21 + c.off) 0x064] = true) (h : Leads ps s0 s) : Leads ps s0 (State.acqLock s c deskews) := by
  unfold State.acqLock
  repeat' first
    | with_reducible (first
        | intro _ | assumption | apply State.bump_leads | apply wr_leads | apply State.setPhase_leads | apply State.raise_leads
        | apply State.modRx_leads | apply State.modFec_leads | apply State.deskewLimit_leads | apply State.rxStatusBit_leads
        | apply foldl_leads)
    | ((with_reducible apply covers_trans hp); decide) | ((with_reducible apply covers_trans hp); (casesm* Carrier <;> decide))
    | ((with_reducible apply covers_trans hp); exact rfl) | ((with_reducible apply covers_trans hp); (casesm* Carrier <;> exact rfl))
    | dsimp only | split | rfl

theorem execLofCountExpiry_leads (c : Carrier) (s : State) :
    Out.leads [.entry (0x22 + c.off) 0x036, .entry (0x22 + c.off) 0x001, .entry 0x11 0x021, .ev, .fb, .entry 0x11 0x040, .host, .car c, .entry (0x24 + c.off) 0x020, .entry (0x24 + c.off) 0x023, .entry (0x22 + c.off) 0x032, .ed, .blobs, .entry 0x50 0x050, .entry (0x23 + c.off) 0x06B, .entry (0x23 + c.off) 0x06C, .entry (0x21 + c.off) 0x062, .entry (0x21 + c.off) 0x064, .entry (0x21 + c.off) 0x001] s (execLofCountExpiry c s) := by
  refine out_intro fun hp h => ?_
  unfold execLofCountExpiry
  refine ⟨_, rfl, ?_⟩
  all_goals repeat' first
    | with_reducible (first
        | intro _ | assumption | apply State.lossCause_leads | apply when_leads)
    | ((with_reducible apply covers_trans hp); decide) | ((with_reducible apply covers_trans hp); (casesm* Carrier <;> decide))
    | ((with_reducible apply covers_trans hp); exact rfl) | ((with_reducible apply covers_trans hp); (casesm* Carrier <;> exact rfl))
    | rfl

theorem execAcqHoldRecover_leads (c : Carrier) (s : State) :
    Out.leads [.entry (0x22 + c.off) 0x034, .ev, .fb, .entry (0x22 + c.off) 0x001, .entry 0x11 0x021, .entry 0x11 0x040, .host, .car c] s (execAcqHoldRecover c s) := by
  refine out_intro fun hp h => ?_
  unfold execAcqHoldRecover
  refine ⟨_, rfl, ?_⟩
  all_goals repeat' first
    | with_reducible (first
        | intro _ | assumption | apply State.bump_leads | apply State.setPhase_leads | apply State.modRx_leads | apply State.raise_leads
        | apply when_leads)
    | ((with_reducible apply covers_trans hp); decide) | ((with_reducible apply covers_trans hp); (casesm* Carrier <;> decide))
    | ((with_reducible apply covers_trans hp); exact rfl) | ((with_reducible apply covers_trans hp); (casesm* Carrier <;> exact rfl))
    | rfl

theorem execHoldTimeout_leads (c : Carrier) (s : State) :
    Out.leads [.entry (0x22 + c.off) 0x032, .ev, .fb, .car c, .entry (0x24 + c.off) 0x020, .entry (0x24 + c.off) 0x023, .entry 0x11 0x021, .entry 0x11 0x040, .host, .ed, .blobs, .entry 0x50 0x050, .entry (0x23 + c.off) 0x06B, .entry (0x23 + c.off) 0x06C, .entry (0x22 + c.off) 0x001, .entry (0x21 + c.off) 0x062, .entry (0x21 + c.off) 0x064, .entry (0x21 + c.off) 0x001] s (execHoldTimeout c s) := by
  refine out_intro fun hp h => ?_
  unfold execHoldTimeout
  refine ⟨_, rfl, ?_⟩
  all_goals repeat' first
    | with_reducible (first
        | intro _ | assumption | apply State.holdLost_leads | apply when_leads)
    | ((with_reducible apply covers_trans hp); decide) | ((with_reducible apply covers_trans hp); (casesm* Carrier <;> decide))
    | ((with_reducible apply covers_trans hp); exact rfl) | ((with_reducible apply covers_trans hp); (casesm* Carrier <;> exact rfl))
    | rfl

theorem execFrameWaitTimeout_leads (c : Carrier) (s : State) :
    Out.leads [.entry (0x22 + c.off) 0x036, .entry (0x22 + c.off) 0x032, .ev, .fb, .car c, .entry (0x24 + c.off) 0x020, .entry (0x24 + c.off) 0x023, .entry 0x11 0x021, .entry 0x11 0x040, .host, .ed, .blobs, .entry 0x50 0x050, .entry (0x23 + c.off) 0x06B, .entry (0x23 + c.off) 0x06C, .entry (0x22 + c.off) 0x001, .entry (0x21 + c.off) 0x062, .entry (0x21 + c.off) 0x064, .entry (0x21 + c.off) 0x001] s (execFrameWaitTimeout c s) := by
  refine out_intro fun hp h => ?_
  unfold execFrameWaitTimeout
  refine ⟨_, rfl, ?_⟩
  all_goals repeat' first
    | with_reducible (first
        | intro _ | assumption | apply State.lolCause_leads | apply State.lolEvent_leads | apply State.finalLoss_leads
        | apply State.toHunt_leads | apply when_leads)
    | ((with_reducible apply covers_trans hp); decide) | ((with_reducible apply covers_trans hp); (casesm* Carrier <;> decide))
    | ((with_reducible apply covers_trans hp); exact rfl) | ((with_reducible apply covers_trans hp); (casesm* Carrier <;> exact rfl))
    | rfl

theorem State.serviceToAcquire_leads (s : State) (c : Carrier)
    (hp : covers ps [.entry (0x20 + c.off) 0x000, .ev, .fb, .entry 0x11 0x021, .entry 0x11 0x040, .host, .carA, .carB, .entry 0x20 0x054, .entry 0x30 0x054, .entry 0x11 0x030, .entry (0x21 + c.off) 0x01C, .entry (0x21 + c.off) 0x01E] = true) (h : Leads ps s0 s) : Leads ps s0 (State.serviceToAcquire s c) := by
  unfold State.serviceToAcquire
  repeat' first
    | with_reducible (first
        | assumption | apply ite_leads | apply State.setCar_leads | apply State.cancelPending_leads | apply State.toFallback_leads
        | apply State.modTx_leads | apply State.modRx_leads | apply State.startSearch_leads)
    | ((with_reducible apply covers_trans hp); decide) | ((with_reducible apply covers_trans hp); (casesm* Carrier <;> decide))
    | ((with_reducible apply covers_trans hp); exact rfl) | ((with_reducible apply covers_trans hp); (casesm* Carrier <;> exact rfl))
    | rfl

theorem execRxDark_leads (c : Carrier) (s : State) :
    Out.leads [.entry (0x22 + c.off) 0x040, .car c, .ev, .fb] s (execRxDark c s) := by
  refine out_intro fun hp h => ?_
  unfold execRxDark
  refine ⟨_, rfl, ?_⟩
  all_goals repeat' first
    | with_reducible (first
        | intro _ | assumption | apply wr_leads | apply State.modRx_leads | apply State.raise_leads | apply when_leads)
    | ((with_reducible apply covers_trans hp); decide) | ((with_reducible apply covers_trans hp); (casesm* Carrier <;> decide))
    | ((with_reducible apply covers_trans hp); exact rfl) | ((with_reducible apply covers_trans hp); (casesm* Carrier <;> exact rfl))
    | rfl

theorem execNoiseFloorUpdate_leads (c : Carrier) (s : State) :
    Out.leads [.entry (0x22 + c.off) 0x041, .entry (0x22 + c.off) 0x042, .car c] s (execNoiseFloorUpdate c s) := by
  refine out_intro fun hp h => ?_
  unfold execNoiseFloorUpdate
  refine ⟨_, rfl, ?_⟩
  all_goals repeat' first
    | with_reducible (first
        | intro _ | assumption | apply wr_leads | apply State.modRx_leads | apply when_leads | apply foldl_leads)
    | ((with_reducible apply covers_trans hp); decide) | ((with_reducible apply covers_trans hp); (casesm* Carrier <;> decide))
    | ((with_reducible apply covers_trans hp); exact rfl) | ((with_reducible apply covers_trans hp); (casesm* Carrier <;> exact rfl))
    | rfl

end Sys2Proof.Machine
end

