-- ==== Sys2Proof/Laws/FrameFec.lean ====
section
/-! SUPPORT. Frames of the operations and meanings of Machine/Fec.lean. -/

namespace Sys2Proof.Machine

variable {ps : List Part} {s0 : State}

theorem State.slotsChanged_leads (s : State) (c : Carrier)
    (hp : covers ps [.entry (0x24 + c.off) 0x020, .entry (0x24 + c.off) 0x021] = true) (h : Leads ps s0 s) : Leads ps s0 (State.slotsChanged s c) := by
  unfold State.slotsChanged
  repeat' first
    | with_reducible (first
        | assumption | apply ite_leads | apply wr_leads)
    | ((with_reducible apply covers_trans hp); decide) | ((with_reducible apply covers_trans hp); (casesm* Carrier <;> decide))
    | ((with_reducible apply covers_trans hp); exact rfl) | ((with_reducible apply covers_trans hp); (casesm* Carrier <;> exact rfl))
    | rfl

theorem State.releaseOldest_leads (s : State) (c : Carrier) (forced : Bool)
    (hp : covers ps [.car c] = true) (h : Leads ps s0 s) : Leads ps s0 (State.releaseOldest s c forced) := by
  unfold State.releaseOldest
  repeat' first
    | with_reducible (first
        | assumption | apply State.modFec_leads)
    | ((with_reducible apply covers_trans hp); decide) | ((with_reducible apply covers_trans hp); (casesm* Carrier <;> decide))
    | ((with_reducible apply covers_trans hp); exact rfl) | ((with_reducible apply covers_trans hp); (casesm* Carrier <;> exact rfl))
    | dsimp only | split | rfl

theorem State.alignStream_leads (s : State) (c : Carrier) (segPtr : Nat)
    (hp : covers ps [.car c] = true) (h : Leads ps s0 s) : Leads ps s0 (State.alignStream s c segPtr) := by
  unfold State.alignStream
  repeat' first
    | with_reducible (first
        | assumption | apply State.modRx_leads | apply State.modFec_leads)
    | ((with_reducible apply covers_trans hp); decide) | ((with_reducible apply covers_trans hp); (casesm* Carrier <;> decide))
    | ((with_reducible apply covers_trans hp); exact rfl) | ((with_reducible apply covers_trans hp); (casesm* Carrier <;> exact rfl))
    | rfl

theorem State.acceptStart_leads (s : State) (c : Carrier) (x2 : Header)
    (hp : covers ps [.freeCtr, .car c, .entry (0x24 + c.off) 0x020, .entry (0x24 + c.off) 0x021, .entry (0x24 + c.off) 0x023, .entry 0x11 0x021, .ev, .fb, .entry 0x11 0x040, .host] = true) (h : Leads ps s0 s) : Leads ps s0 (State.acceptStart s c x2) := by
  unfold State.acceptStart
  repeat' first
    | with_reducible (first
        | assumption | apply ite_leads | apply State.tookFree_leads | apply State.modFec_leads | apply State.alignStream_leads
        | apply State.slotsChanged_leads | apply wr_leads | apply State.hostFollow_leads)
    | ((with_reducible apply covers_trans hp); decide) | ((with_reducible apply covers_trans hp); (casesm* Carrier <;> decide))
    | ((with_reducible apply covers_trans hp); exact rfl) | ((with_reducible apply covers_trans hp); (casesm* Carrier <;> exact rfl))
    | rfl

theorem execFecAcceptStart_leads (c : Carrier) (s : State) :
    Out.leads [.freeCtr, .car c, .entry (0x24 + c.off) 0x020, .entry (0x24 + c.off) 0x021, .entry (0x24 + c.off) 0x023, .entry 0x11 0x021, .ev, .fb, .entry 0x11 0x040, .host] s (execFecAcceptStart c s) := by
  refine out_intro fun hp h => ?_
  unfold execFecAcceptStart
  repeat' first | refine ⟨_, rfl, ?_⟩ | dsimp only | split
  all_goals repeat' first
    | with_reducible (first
        | intro _ | assumption | apply State.acceptStart_leads | apply when_leads)
    | ((with_reducible apply covers_trans hp); decide) | ((with_reducible apply covers_trans hp); (casesm* Carrier <;> decide))
    | ((with_reducible apply covers_trans hp); exact rfl) | ((with_reducible apply covers_trans hp); (casesm* Carrier <;> exact rfl))
    | split | rfl

theorem execFecAcceptStop_leads (c : Carrier) (s : State) :
    Out.leads [.car c, .entry (0x24 + c.off) 0x020, .entry (0x24 + c.off) 0x023, .entry 0x11 0x021, .ev, .fb, .entry 0x11 0x040, .host] s (execFecAcceptStop c s) := by
  refine out_intro fun hp h => ?_
  unfold execFecAcceptStop
  refine ⟨_, rfl, ?_⟩
  all_goals repeat' first
    | with_reducible (first
        | intro _ | assumption | apply State.fecStop_leads | apply when_leads)
    | ((with_reducible apply covers_trans hp); decide) | ((with_reducible apply covers_trans hp); (casesm* Carrier <;> decide))
    | ((with_reducible apply covers_trans hp); exact rfl) | ((with_reducible apply covers_trans hp); (casesm* Carrier <;> exact rfl))
    | rfl

theorem rxSegmentArrival_leads (c : Carrier) (s : State)
    (hp : covers ps [.car c, .entry (0x24 + c.off) 0x035, .ev, .fb, .entry (0x24 + c.off) 0x036, .entry (0x24 + c.off) 0x020, .entry (0x24 + c.off) 0x021] = true) (h : Leads ps s0 s) : Leads ps s0 (rxSegmentArrival c s) := by
  unfold rxSegmentArrival
  repeat' first
    | with_reducible (first
        | intro _ | assumption | apply ite_leads | apply State.modRx_leads | apply State.modFec_leads | apply State.releaseOldest_leads
        | apply State.bump_leads | apply State.raise_leads | apply State.slotsChanged_leads | apply when_leads)
    | ((with_reducible apply covers_trans hp); decide) | ((with_reducible apply covers_trans hp); (casesm* Carrier <;> decide))
    | ((with_reducible apply covers_trans hp); exact rfl) | ((with_reducible apply covers_trans hp); (casesm* Carrier <;> exact rfl))
    | rfl

theorem execRxSegmentArrival_leads (c : Carrier) (s : State) :
    Out.leads [.car c, .entry (0x24 + c.off) 0x035, .ev, .fb, .entry (0x24 + c.off) 0x036, .entry (0x24 + c.off) 0x020, .entry (0x24 + c.off) 0x021] s (execRxSegmentArrival c s) := by
  refine out_intro fun hp h => ?_
  unfold execRxSegmentArrival
  refine ⟨_, rfl, ?_⟩
  all_goals repeat' first
    | with_reducible (first
        | assumption | apply rxSegmentArrival_leads)
    | ((with_reducible apply covers_trans hp); decide) | ((with_reducible apply covers_trans hp); (casesm* Carrier <;> decide))
    | ((with_reducible apply covers_trans hp); exact rfl) | ((with_reducible apply covers_trans hp); (casesm* Carrier <;> exact rfl))
    | rfl

theorem execDecIteration_leads (c : Carrier) (contended : Bool) (s : State) :
    Out.leads [.carA, .carB] s (execDecIteration c contended s) := by
  refine out_intro fun hp h => ?_
  unfold execDecIteration
  refine ⟨_, rfl, ?_⟩
  all_goals repeat' first
    | with_reducible (first
        | intro _ | assumption | apply ite_leads | apply State.modFec_leads | apply when_leads)
    | ((with_reducible apply covers_trans hp); decide) | ((with_reducible apply covers_trans hp); (casesm* Carrier <;> decide))
    | ((with_reducible apply covers_trans hp); exact rfl) | ((with_reducible apply covers_trans hp); (casesm* Carrier <;> exact rfl))
    | rfl

theorem execDecWindowSlide_leads (c : Carrier) (s : State) :
    Out.leads [.car c] s (execDecWindowSlide c s) := by
  refine out_intro fun hp h => ?_
  unfold execDecWindowSlide
  refine ⟨_, rfl, ?_⟩
  all_goals repeat' first
    | with_reducible (first
        | intro _ | assumption | apply State.releaseOldest_leads | apply when_leads)
    | ((with_reducible apply covers_trans hp); decide) | ((with_reducible apply covers_trans hp); (casesm* Carrier <;> decide))
    | ((with_reducible apply covers_trans hp); exact rfl) | ((with_reducible apply covers_trans hp); (casesm* Carrier <;> exact rfl))
    | rfl

theorem State.countSegment_leads (s : State) (c : Carrier) (g : Seg) (corrected : Bool) (outerFlips : Nat)
    (hp : covers ps [.entry (0x24 + c.off) 0x030, .ev, .fb, .entry (0x24 + c.off) 0x031, .entry (0x24 + c.off) 0x032, .entry (0x24 + c.off) 0x033, .entry (0x24 + c.off) 0x034, .car c] = true) (h : Leads ps s0 s) : Leads ps s0 (State.countSegment s c g corrected outerFlips) := by
  unfold State.countSegment
  repeat' first
    | with_reducible (first
        | assumption | apply ite_leads | apply State.wrapN_leads | apply State.bumpN_leads | apply State.bump_leads
        | apply State.modFec_leads)
    | ((with_reducible apply covers_trans hp); decide) | ((with_reducible apply covers_trans hp); (casesm* Carrier <;> decide))
    | ((with_reducible apply covers_trans hp); exact rfl) | ((with_reducible apply covers_trans hp); (casesm* Carrier <;> exact rfl))
    | rfl

theorem outerDecodeDone_leads (c : Carrier) (s : State)
    (hp : covers ps [.entry (0x24 + c.off) 0x030, .ev, .fb, .entry (0x24 + c.off) 0x031, .entry (0x24 + c.off) 0x032, .entry (0x24 + c.off) 0x033, .entry (0x24 + c.off) 0x034, .car c, .entry (0x24 + c.off) 0x020, .entry (0x24 + c.off) 0x021] = true) (h : Leads ps s0 s) : Leads ps s0 (outerDecodeDone c s) := by
  unfold outerDecodeDone
  repeat' first
    | with_reducible (first
        | intro _ | assumption | apply ite_leads | apply State.countSegment_leads | apply State.modFec_leads
        | apply State.slotsChanged_leads | apply when_leads)
    | ((with_reducible apply covers_trans hp); decide) | ((with_reducible apply covers_trans hp); (casesm* Carrier <;> decide))
    | ((with_reducible apply covers_trans hp); exact rfl) | ((with_reducible apply covers_trans hp); (casesm* Carrier <;> exact rfl))
    | dsimp only | split | rfl

theorem execOuterDecodeDone_leads (c : Carrier) (s : State) :
    Out.leads [.entry (0x24 + c.off) 0x030, .ev, .fb, .entry (0x24 + c.off) 0x031, .entry (0x24 + c.off) 0x032, .entry (0x24 + c.off) 0x033, .entry (0x24 + c.off) 0x034, .car c, .entry (0x24 + c.off) 0x020, .entry (0x24 + c.off) 0x021] s (execOuterDecodeDone c s) := by
  refine out_intro fun hp h => ?_
  unfold execOuterDecodeDone
  refine ⟨_, rfl, ?_⟩
  all_goals repeat' first
    | with_reducible (first
        | assumption | apply outerDecodeDone_leads)
    | ((with_reducible apply covers_trans hp); decide) | ((with_reducible apply covers_trans hp); (casesm* Carrier <;> decide))
    | ((with_reducible apply covers_trans hp); exact rfl) | ((with_reducible apply covers_trans hp); (casesm* Carrier <;> exact rfl))
    | rfl

theorem execRxFecCapChange_leads (s : State) :
    Out.leads [.entry 0x24 0x011, .ev, .fb] s (execRxFecCapChange s) := by
  refine out_intro fun hp h => ?_
  unfold execRxFecCapChange
  refine ⟨_, rfl, ?_⟩
  all_goals repeat' first
    | with_reducible (first
        | intro _ | assumption | apply ite_leads | apply wr_leads | apply State.raise_leads | apply when_leads)
    | ((with_reducible apply covers_trans hp); decide) | ((with_reducible apply covers_trans hp); (casesm* Carrier <;> decide))
    | ((with_reducible apply covers_trans hp); exact rfl) | ((with_reducible apply covers_trans hp); (casesm* Carrier <;> exact rfl))
    | rfl

theorem execDecPeakClear_leads (src : Nat) (c : Carrier) (s : State) :
    Out.leads [.entry (0x24 + c.off) 0x021, .pw, .ports, .entry 0x08 0x030, .ev, .fb] s (execDecPeakClear src c s) := by
  refine out_intro fun hp h => ?_
  unfold execDecPeakClear
  refine ⟨_, rfl, ?_⟩
  all_goals repeat' first
    | with_reducible (first
        | intro _ | assumption | apply wr_leads | apply State.request_leads)
    | ((with_reducible apply covers_trans hp); decide) | ((with_reducible apply covers_trans hp); (casesm* Carrier <;> decide))
    | ((with_reducible apply covers_trans hp); exact rfl) | ((with_reducible apply covers_trans hp); (casesm* Carrier <;> exact rfl))
    | rfl

theorem execPmIntervalEnd_leads (c : Carrier) (s : State) :
    Out.leads [.entry (0x24 + c.off) 0x025, .entry (0x24 + c.off) 0x026, .ev, .fb, .car c] s (execPmIntervalEnd c s) := by
  refine out_intro fun hp h => ?_
  unfold execPmIntervalEnd
  refine ⟨_, rfl, ?_⟩
  all_goals repeat' first
    | with_reducible (first
        | intro _ | assumption | apply ite_leads | apply wr_leads | apply State.raise_leads | apply State.modFec_leads
        | apply when_leads)
    | ((with_reducible apply covers_trans hp); decide) | ((with_reducible apply covers_trans hp); (casesm* Carrier <;> decide))
    | ((with_reducible apply covers_trans hp); exact rfl) | ((with_reducible apply covers_trans hp); (casesm* Carrier <;> exact rfl))
    | rfl

theorem execLxFecSuspect_leads (c : Carrier) (s : State) :
    Out.leads [.ev, .fb] s (execLxFecSuspect c s) := by
  refine out_intro fun hp h => ?_
  unfold execLxFecSuspect
  refine ⟨_, rfl, ?_⟩
  all_goals repeat' first
    | with_reducible (first
        | intro _ | assumption | apply State.raise_leads | apply when_leads)
    | ((with_reducible apply covers_trans hp); decide) | ((with_reducible apply covers_trans hp); (casesm* Carrier <;> decide))
    | ((with_reducible apply covers_trans hp); exact rfl) | ((with_reducible apply covers_trans hp); (casesm* Carrier <;> exact rfl))
    | rfl

theorem State.takeBlock_leads (s : State) (c : Carrier) (v : Nat) (errored : Bool)
    (hp : covers ps [.entry (0x24 + c.off) 0x042, .ev, .fb, .entry (0x24 + c.off) 0x041, .entry (0x24 + c.off) 0x043, .car c, .entry (0x24 + c.off) 0x040] = true) (h : Leads ps s0 s) : Leads ps s0 (State.takeBlock s c v errored) := by
  unfold State.takeBlock
  repeat' first
    | with_reducible (first
        | assumption | apply ite_leads | apply State.bump_leads | apply State.modFec_leads | apply State.wrapN_leads)
    | ((with_reducible apply covers_trans hp); decide) | ((with_reducible apply covers_trans hp); (casesm* Carrier <;> decide))
    | ((with_reducible apply covers_trans hp); exact rfl) | ((with_reducible apply covers_trans hp); (casesm* Carrier <;> exact rfl))
    | rfl

theorem lineBlockRx_leads (c : Carrier) (s : State)
    (hp : covers ps [.car c, .entry (0x24 + c.off) 0x042, .ev, .fb, .entry (0x24 + c.off) 0x041, .entry (0x24 + c.off) 0x043, .entry (0x24 + c.off) 0x040] = true) (h : Leads ps s0 s) : Leads ps s0 (lineBlockRx c s) := by
  unfold lineBlockRx
  repeat' first
    | with_reducible (first
        | intro _ | assumption | apply ite_leads | apply State.modFec_leads | apply State.takeBlock_leads | apply when_leads)
    | ((with_reducible apply covers_trans hp); decide) | ((with_reducible apply covers_trans hp); (casesm* Carrier <;> decide))
    | ((with_reducible apply covers_trans hp); exact rfl) | ((with_reducible apply covers_trans hp); (casesm* Carrier <;> exact rfl))
    | dsimp only | split | rfl

theorem execLineBlockRx_leads (c : Carrier) (s : State) :
    Out.leads [.car c, .entry (0x24 + c.off) 0x042, .ev, .fb, .entry (0x24 + c.off) 0x041, .entry (0x24 + c.off) 0x043, .entry (0x24 + c.off) 0x040] s (execLineBlockRx c s) := by
  refine out_intro fun hp h => ?_
  unfold execLineBlockRx
  refine ⟨_, rfl, ?_⟩
  all_goals repeat' first
    | with_reducible (first
        | assumption | apply lineBlockRx_leads)
    | ((with_reducible apply covers_trans hp); decide) | ((with_reducible apply covers_trans hp); (casesm* Carrier <;> decide))
    | ((with_reducible apply covers_trans hp); exact rfl) | ((with_reducible apply covers_trans hp); (casesm* Carrier <;> exact rfl))
    | rfl

theorem State.checkPointers_leads (s : State) (c : Carrier) (x2 : Header)
    (hp : covers ps [.entry (0x24 + c.off) 0x037, .ev, .fb, .car c, .entry (0x24 + c.off) 0x020, .entry (0x24 + c.off) 0x023, .entry 0x11 0x021, .entry 0x11 0x040, .host, .freeCtr, .entry (0x24 + c.off) 0x021, .entry (0x24 + c.off) 0x038] = true) (h : Leads ps s0 s) : Leads ps s0 (State.checkPointers s c x2) := by
  unfold State.checkPointers
  repeat' first
    | with_reducible (first
        | assumption | apply ite_leads | apply State.bump_leads | apply State.fecStop_leads | apply State.acceptStart_leads
        | apply State.raise_leads | apply State.modFec_leads)
    | ((with_reducible apply covers_trans hp); decide) | ((with_reducible apply covers_trans hp); (casesm* Carrier <;> decide))
    | ((with_reducible apply covers_trans hp); exact rfl) | ((with_reducible apply covers_trans hp); (casesm* Carrier <;> exact rfl))
    | rfl

theorem State.chooseSet_leads (s : State) (c : Carrier) (fi : Nat) (x3 : Option Header)
    (hp : covers ps [.car c, .entry (0x21 + c.off) 0x075, .ev, .fb, .entry (0x23 + c.off) 0x057, .entry (0x23 + c.off) 0x058, .entry (0x24 + c.off) 0x020, .entry (0x24 + c.off) 0x023, .entry 0x11 0x021, .entry 0x11 0x040, .host, .entry (0x21 + c.off) 0x074, .entry (0x21 + c.off) 0x073] = true) (h : Leads ps s0 s) : Leads ps s0 (State.chooseSet s c fi x3) := by
  unfold State.chooseSet
  repeat' first
    | with_reducible (first
        | assumption | apply ite_leads | apply State.selectTag_leads | apply State.hdrMismatch_leads | apply State.predictSet_leads)
    | ((with_reducible apply covers_trans hp); decide) | ((with_reducible apply covers_trans hp); (casesm* Carrier <;> decide))
    | ((with_reducible apply covers_trans hp); exact rfl) | ((with_reducible apply covers_trans hp); (casesm* Carrier <;> exact rfl))
    | split | rfl

theorem rxFrameHeader_leads (c : Carrier) (fi : Nat) (copies : List (Nat × Nat)) (s : State)
    (hp : covers ps [.entry (0x21 + c.off) 0x071, .ev, .fb, .entry (0x21 + c.off) 0x072, .car c, .entry (0x21 + c.off) 0x075, .entry (0x23 + c.off) 0x057, .entry (0x23 + c.off) 0x058, .entry (0x24 + c.off) 0x020, .entry (0x24 + c.off) 0x023, .entry 0x11 0x021, .entry 0x11 0x040, .host, .entry (0x21 + c.off) 0x074, .entry (0x21 + c.off) 0x073, .entry (0x21 + c.off) 0x001, .entry (0x24 + c.off) 0x053, .entry (0x24 + c.off) 0x054, .entry (0x24 + c.off) 0x055, .entry (0x24 + c.off) 0x037, .freeCtr, .entry (0x24 + c.off) 0x021, .entry (0x24 + c.off) 0x038, .entry (0x24 + c.off) 0x050, .entry (0x24 + c.off) 0x052] = true) (h : Leads ps s0 s) : Leads ps s0 (rxFrameHeader c fi copies s) := by
  unfold rxFrameHeader
  repeat' first
    | with_reducible (first
        | intro _ | assumption | apply ite_leads | apply State.bumpN_leads | apply State.modRx_leads | apply State.chooseSet_leads
        | apply State.rxStatusBit_leads | apply State.farHeader_leads | apply State.checkPointers_leads | apply State.wrapN_leads
        | apply State.bump_leads | apply State.takePayload_leads | apply when_leads)
    | ((with_reducible apply covers_trans hp); decide) | ((with_reducible apply covers_trans hp); (casesm* Carrier <;> decide))
    | ((with_reducible apply covers_trans hp); exact rfl) | ((with_reducible apply covers_trans hp); (casesm* Carrier <;> exact rfl))
    | dsimp only | split | rfl

theorem State.snrFigures_leads (s : State) (c : Carrier) (hist : List (List Rat))
    (hp : covers ps [.entry (0x23 + c.off) 0x001, .entry (0x23 + c.off) 0x002] = true) (h : Leads ps s0 s) : Leads ps s0 (State.snrFigures s c hist) := by
  unfold State.snrFigures
  repeat' first
    | with_reducible (first
        | intro _ | assumption | apply wr_leads | apply foldl_leads)
    | ((with_reducible apply covers_trans hp); decide) | ((with_reducible apply covers_trans hp); (casesm* Carrier <;> decide))
    | ((with_reducible apply covers_trans hp); exact rfl) | ((with_reducible apply covers_trans hp); (casesm* Carrier <;> exact rfl))
    | rfl

theorem State.windowSnr_leads (s : State) (c : Carrier)
    (hp : covers ps [.entry (0x23 + c.off) 0x003, .ed, .entry 0x02 0x042, .ev, .fb] = true) (h : Leads ps s0 s) : Leads ps s0 (State.windowSnr s c) := by
  unfold State.windowSnr
  repeat' first
    | with_reducible (first
        | intro _ | assumption | apply ite_leads | apply State.rwStore_leads | apply foldl_leads)
    | ((with_reducible apply covers_trans hp); decide) | ((with_reducible apply covers_trans hp); (casesm* Carrier <;> decide))
    | ((with_reducible apply covers_trans hp); exact rfl) | ((with_reducible apply covers_trans hp); (casesm* Carrier <;> exact rfl))
    | rfl

theorem rxSuperframeBoundary_leads (c : Carrier) (s : State)
    (hp : covers ps [.entry (0x21 + c.off) 0x083, .entry (0x21 + c.off) 0x001, .car c, .entry (0x24 + c.off) 0x051, .ev, .fb, .entry (0x23 + c.off) 0x001, .entry (0x23 + c.off) 0x002, .entry (0x23 + c.off) 0x003, .ed, .entry 0x02 0x042] = true) (h : Leads ps s0 s) : Leads ps s0 (rxSuperframeBoundary c s) := by
  unfold rxSuperframeBoundary
  repeat' first
    | with_reducible (first
        | intro _ | assumption | apply ite_leads | apply wr_leads | apply State.rxStatusBit_leads | apply State.modFec_leads
        | apply State.modRx_leads | apply State.wrapN_leads | apply State.snrFigures_leads | apply State.windowSnr_leads
        | apply when_leads | apply foldl_leads)
    | ((with_reducible apply covers_trans hp); decide) | ((with_reducible apply covers_trans hp); (casesm* Carrier <;> decide))
    | ((with_reducible apply covers_trans hp); exact rfl) | ((with_reducible apply covers_trans hp); (casesm* Carrier <;> exact rfl))
    | rfl

end Sys2Proof.Machine
end

