-- ==== Sys2Proof/Laws/FrameLoading.lean ====
section
/-! SUPPORT. Frames of the operations and meanings of Machine/Loading.lean. -/

namespace Sys2Proof.Machine

variable {ps : List Part} {s0 : State}

theorem State.switchTo_leads (s : State) (c : Carrier) (target : Nat) (n : Nat)
    (hp : covers ps [.car c, .entry (0x23 + c.off) 0x018, .ev, .fb] = true) (h : Leads ps s0 s) : Leads ps s0 (State.switchTo s c target n).1 := by
  unfold State.switchTo
  repeat' first
    | with_reducible (first
        | assumption | apply State.cancelPending_leads | apply State.modTx_leads | apply wr_leads | apply State.raise_leads
        | apply ite_fst_leads)
    | ((with_reducible apply covers_trans hp); decide) | ((with_reducible apply covers_trans hp); (casesm* Carrier <;> decide))
    | ((with_reducible apply covers_trans hp); exact rfl) | ((with_reducible apply covers_trans hp); (casesm* Carrier <;> exact rfl))
    | rfl

theorem State.txSwitch_leads (s : State) (c : Carrier) (v : Nat)
    (hp : covers ps [.car c, .entry (0x23 + c.off) 0x018, .ev, .fb] = true) (h : Leads ps s0 s) : Leads ps s0 (State.txSwitch s c v).1 := by
  unfold State.txSwitch
  repeat' first
    | with_reducible (first
        | assumption | apply State.switchTo_leads)
    | ((with_reducible apply covers_trans hp); decide) | ((with_reducible apply covers_trans hp); (casesm* Carrier <;> decide))
    | ((with_reducible apply covers_trans hp); exact rfl) | ((with_reducible apply covers_trans hp); (casesm* Carrier <;> exact rfl))
    | rfl

theorem execTxSwitch_leads (src : Nat) (c : Carrier) (v : Int) (s : State) :
    Out.leads [.car c, .entry (0x23 + c.off) 0x018, .ev, .fb, .pw, .ports, .entry 0x08 0x030] s (execTxSwitch src c v s) := by
  refine out_intro fun hp h => ?_
  unfold execTxSwitch
  refine ⟨_, rfl, ?_⟩
  all_goals repeat' first
    | with_reducible (first
        | intro _ | assumption | apply State.txSwitch_leads | apply State.request_leads)
    | ((with_reducible apply covers_trans hp); decide) | ((with_reducible apply covers_trans hp); (casesm* Carrier <;> decide))
    | ((with_reducible apply covers_trans hp); exact rfl) | ((with_reducible apply covers_trans hp); (casesm* Carrier <;> exact rfl))
    | rfl

theorem execMatcherTablesReady_leads (c : Carrier) (s : State) :
    Out.leads [.car c] s (execMatcherTablesReady c s) := by
  refine out_intro fun hp h => ?_
  unfold execMatcherTablesReady
  repeat' first | refine ⟨_, rfl, ?_⟩ | dsimp only | split
  all_goals repeat' first
    | with_reducible (first
        | intro _ | assumption | apply State.modTx_leads | apply when_leads)
    | ((with_reducible apply covers_trans hp); decide) | ((with_reducible apply covers_trans hp); (casesm* Carrier <;> decide))
    | ((with_reducible apply covers_trans hp); exact rfl) | ((with_reducible apply covers_trans hp); (casesm* Carrier <;> exact rfl))
    | rfl

theorem State.stage_leads (s : State) (c : Carrier)
    (hp : covers ps [.car c, .entry (0x23 + c.off) 0x05B, .ev, .fb] = true) (h : Leads ps s0 s) : Leads ps s0 (State.stage s c).1 := by
  unfold State.stage
  repeat' first
    | with_reducible (first
        | assumption | apply State.modRx_leads | apply wr_leads | apply State.raise_leads | apply ite_fst_leads)
    | ((with_reducible apply covers_trans hp); decide) | ((with_reducible apply covers_trans hp); (casesm* Carrier <;> decide))
    | ((with_reducible apply covers_trans hp); exact rfl) | ((with_reducible apply covers_trans hp); (casesm* Carrier <;> exact rfl))
    | rfl

theorem execStageCommit_leads (src : Nat) (c : Carrier) (s : State) :
    Out.leads [.car c, .entry (0x23 + c.off) 0x05B, .ev, .fb, .pw, .ports, .entry 0x08 0x030] s (execStageCommit src c s) := by
  refine out_intro fun hp h => ?_
  unfold execStageCommit
  refine ⟨_, rfl, ?_⟩
  all_goals repeat' first
    | with_reducible (first
        | intro _ | assumption | apply State.stage_leads | apply State.request_leads)
    | ((with_reducible apply covers_trans hp); decide) | ((with_reducible apply covers_trans hp); (casesm* Carrier <;> decide))
    | ((with_reducible apply covers_trans hp); exact rfl) | ((with_reducible apply covers_trans hp); (casesm* Carrier <;> exact rfl))
    | rfl

theorem rxLoadStaged_leads (c : Carrier) (s : State)
    (hp : covers ps [.car c, .entry (0x23 + c.off) 0x05B, .ev, .fb] = true) (h : Leads ps s0 s) : Leads ps s0 (rxLoadStaged c s) := by
  unfold rxLoadStaged
  repeat' first
    | with_reducible (first
        | intro _ | assumption | apply State.modRx_leads | apply wr_leads | apply State.raise_leads | apply when_leads)
    | ((with_reducible apply covers_trans hp); decide) | ((with_reducible apply covers_trans hp); (casesm* Carrier <;> decide))
    | ((with_reducible apply covers_trans hp); exact rfl) | ((with_reducible apply covers_trans hp); (casesm* Carrier <;> exact rfl))
    | dsimp only | split | rfl

end Sys2Proof.Machine
end

