-- ==== Sys2Proof/Laws/FrameClocking.lean ====
section
/-! SUPPORT. Frames of the operations and meanings of Machine/Clocking.lean. -/

namespace Sys2Proof.Machine

variable {ps : List Part} {s0 : State}

theorem State.pllRefLost_leads (s : State) (c : Carrier)
    (hp : covers ps [.entry 0x40 0x002, .clk] = true) (h : Leads ps s0 s) : Leads ps s0 (State.pllRefLost s c) := by
  unfold State.pllRefLost
  repeat' first
    | with_reducible (first
        | assumption | apply ite_leads | apply wr_leads | apply State.modDie_leads)
    | ((with_reducible apply covers_trans hp); decide) | ((with_reducible apply covers_trans hp); (casesm* Carrier <;> decide))
    | ((with_reducible apply covers_trans hp); exact rfl) | ((with_reducible apply covers_trans hp); (casesm* Carrier <;> exact rfl))
    | rfl

theorem State.datumPllHold_leads (s : State)
    (hp : covers ps [.entry 0x50 0x021, .clk] = true) (h : Leads ps s0 s) : Leads ps s0 (State.datumPllHold s) := by
  unfold State.datumPllHold
  repeat' first
    | with_reducible (first
        | assumption | apply ite_leads | apply wr_leads | (apply Or.inr; rfl) | rfl)
    | ((with_reducible apply covers_trans hp); decide) | ((with_reducible apply covers_trans hp); (casesm* Carrier <;> decide))
    | ((with_reducible apply covers_trans hp); exact rfl) | ((with_reducible apply covers_trans hp); (casesm* Carrier <;> exact rfl))
    | ((with_reducible (apply Or.inl; apply within_of_covers; apply covers_trans hp)); decide) | dsimp only
    | with_reducible apply Leads.upd | rfl

theorem State.refVerdict_leads (s : State) (v : Int)
    (hp : covers ps [.entry 0x40 0x000, .entry 0x40 0x001, .ev, .fb, .clk, .entry 0x40 0x002, .entry 0x50 0x021] = true) (h : Leads ps s0 s) : Leads ps s0 (State.refVerdict s v) := by
  unfold State.refVerdict
  repeat' first
    | with_reducible (first
        | intro _ | assumption | apply ite_leads | apply wr_leads | apply State.bump_leads | apply State.raise_leads
        | apply State.pllRefLost_leads | apply State.datumPllHold_leads | apply foldl_leads | (apply Or.inr; rfl) | rfl)
    | ((with_reducible apply covers_trans hp); decide) | ((with_reducible apply covers_trans hp); (casesm* Carrier <;> decide))
    | ((with_reducible apply covers_trans hp); exact rfl) | ((with_reducible apply covers_trans hp); (casesm* Carrier <;> exact rfl))
    | ((with_reducible apply covers_trans hp); ((try casesm* Carrier) <;> (repeat' split) <;> first | decide | rfl))
    | ((with_reducible (apply Or.inl; apply within_of_covers; apply covers_trans hp)); decide) | dsimp only
    | with_reducible apply Leads.upd | rfl

theorem execRefclkEdgeTimeout_leads (s : State) :
    Out.leads [.entry 0x40 0x000, .entry 0x40 0x001, .ev, .fb, .clk, .entry 0x40 0x002, .entry 0x50 0x021] s (execRefclkEdgeTimeout s) := by
  refine out_intro fun hp h => ?_
  unfold execRefclkEdgeTimeout
  refine ⟨_, rfl, ?_⟩
  all_goals repeat' first
    | with_reducible (first
        | intro _ | assumption | apply State.refVerdict_leads | apply when_leads)
    | ((with_reducible apply covers_trans hp); decide) | ((with_reducible apply covers_trans hp); (casesm* Carrier <;> decide))
    | ((with_reducible apply covers_trans hp); exact rfl) | ((with_reducible apply covers_trans hp); (casesm* Carrier <;> exact rfl))
    | rfl

theorem execRefclkWindow_leads (ppm : Int) (s : State) :
    Out.leads [.entry 0x40 0x000, .entry 0x40 0x001, .ev, .fb, .clk, .entry 0x40 0x002, .entry 0x50 0x021] s (execRefclkWindow ppm s) := by
  refine out_intro fun hp h => ?_
  unfold execRefclkWindow
  refine ⟨_, rfl, ?_⟩
  all_goals repeat' first
    | with_reducible (first
        | intro _ | assumption | apply State.refVerdict_leads | apply when_leads)
    | ((with_reducible apply covers_trans hp); decide) | ((with_reducible apply covers_trans hp); (casesm* Carrier <;> decide))
    | ((with_reducible apply covers_trans hp); exact rfl) | ((with_reducible apply covers_trans hp); (casesm* Carrier <;> exact rfl))
    | rfl

theorem execRefclkOkTimer_leads (s : State) :
    Out.leads [.entry 0x40 0x000, .ev, .fb, .clk, .entry 0x40 0x002] s (execRefclkOkTimer s) := by
  refine out_intro fun hp h => ?_
  unfold execRefclkOkTimer
  refine ⟨_, rfl, ?_⟩
  all_goals repeat' first
    | with_reducible (first
        | intro _ | assumption | apply ite_leads | apply wr_leads | apply State.raise_leads | apply State.startLock_leads
        | apply when_leads | apply foldl_leads)
    | ((with_reducible apply covers_trans hp); decide) | ((with_reducible apply covers_trans hp); (casesm* Carrier <;> decide))
    | ((with_reducible apply covers_trans hp); exact rfl) | ((with_reducible apply covers_trans hp); (casesm* Carrier <;> exact rfl))
    | rfl

theorem execPllHoldoverReturn_leads (p : Nat) (s : State) :
    Out.leads [.entry 0x40 0x002, .clk, .entry 0x50 0x021] s (execPllHoldoverReturn p s) := by
  refine out_intro fun hp h => ?_
  unfold execPllHoldoverReturn
  refine ⟨_, rfl, ?_⟩
  all_goals repeat' first
    | with_reducible (first
        | intro _ | assumption | apply ite_leads | apply wr_leads | apply when_leads | (apply Or.inr; rfl) | rfl)
    | ((with_reducible apply covers_trans hp); decide) | ((with_reducible apply covers_trans hp); (casesm* Carrier <;> decide))
    | ((with_reducible apply covers_trans hp); exact rfl) | ((with_reducible apply covers_trans hp); (casesm* Carrier <;> exact rfl))
    | ((with_reducible apply covers_trans hp); ((try casesm* Carrier) <;> (repeat' split) <;> first | decide | rfl))
    | ((with_reducible (apply Or.inl; apply within_of_covers; apply covers_trans hp)); decide) | dsimp only
    | with_reducible apply Leads.upd | rfl

theorem lockSeqStep_leads (c : Carrier) (band : Nat) (tune : Nat) (s : State)
    (hp : covers ps [.entry 0x40 0x002, .entry 0x40 0x004, .entry 0x40 0x005, .clk] = true) (h : Leads ps s0 s) : Leads ps s0 (lockSeqStep c band tune s) := by
  unfold lockSeqStep
  repeat' first
    | with_reducible (first
        | intro _ | assumption | apply ite_leads | apply wr_leads | apply State.modDie_leads | apply when_leads)
    | ((with_reducible apply covers_trans hp); decide) | ((with_reducible apply covers_trans hp); (casesm* Carrier <;> decide))
    | ((with_reducible apply covers_trans hp); exact rfl) | ((with_reducible apply covers_trans hp); (casesm* Carrier <;> exact rfl))
    | rfl

theorem execLockSeqStep_leads (c : Carrier) (band : Nat) (tune : Nat) (s : State) :
    Out.leads [.entry 0x40 0x002, .entry 0x40 0x004, .entry 0x40 0x005, .clk] s (execLockSeqStep c band tune s) := by
  refine out_intro fun hp h => ?_
  unfold execLockSeqStep
  refine ⟨_, rfl, ?_⟩
  all_goals repeat' first
    | with_reducible (first
        | assumption | apply lockSeqStep_leads)
    | ((with_reducible apply covers_trans hp); decide) | ((with_reducible apply covers_trans hp); (casesm* Carrier <;> decide))
    | ((with_reducible apply covers_trans hp); exact rfl) | ((with_reducible apply covers_trans hp); (casesm* Carrier <;> exact rfl))
    | rfl

theorem State.markFailed_leads (s : State) (c : Carrier) (t : Nat) (q : Nat)
    (hp : covers ps [.boot, .entry 0x40 0x011, .entry 0x40 0x017, .ev, .fb] = true) (h : Leads ps s0 s) : Leads ps s0 (State.markFailed s c t q) := by
  unfold State.markFailed
  repeat' first
    | with_reducible (first
        | assumption | apply ite_leads | apply wr_leads | apply State.raise_leads | (apply Or.inr; rfl) | rfl)
    | ((with_reducible apply covers_trans hp); decide) | ((with_reducible apply covers_trans hp); (casesm* Carrier <;> decide))
    | ((with_reducible apply covers_trans hp); exact rfl) | ((with_reducible apply covers_trans hp); (casesm* Carrier <;> exact rfl))
    | ((with_reducible apply covers_trans hp); ((try casesm* Carrier) <;> (repeat' split) <;> first | decide | rfl))
    | ((with_reducible (apply Or.inl; apply within_of_covers; apply covers_trans hp)); decide) | dsimp only
    | with_reducible apply Leads.upd | rfl

theorem State.gradeTile_leads (s : State) (c : Carrier) (t : Nat) (fails : List Nat) (vals : List Byte)
    (hp : covers ps [.boot, .entry 0x40 0x011, .entry 0x40 0x017, .ev, .fb, .blobs, .clk, .entry 0x40 0x012, .entry 0x40 0x013] = true) (h : Leads ps s0 s) : Leads ps s0 (State.gradeTile s c t fails vals) := by
  unfold State.gradeTile
  repeat' first
    | with_reducible (first
        | intro _ | assumption | apply State.markFailed_leads | apply setBlob_leads | apply State.modDie_leads | apply wr_leads
        | apply State.raise_leads | apply foldl_leads)
    | ((with_reducible apply covers_trans hp); decide) | ((with_reducible apply covers_trans hp); (casesm* Carrier <;> decide))
    | ((with_reducible apply covers_trans hp); exact rfl) | ((with_reducible apply covers_trans hp); (casesm* Carrier <;> exact rfl))
    | ((with_reducible apply covers_trans hp); ((try casesm* Carrier) <;> (repeat' split) <;> first | decide | rfl)) | dsimp only
    | split | rfl

theorem State.startSuperframes_leads (s : State) (c : Carrier)
    (hp : covers ps [.car c] = true) (h : Leads ps s0 s) : Leads ps s0 (State.startSuperframes s c) := by
  unfold State.startSuperframes
  repeat' first
    | with_reducible (first
        | assumption | apply State.modTx_leads)
    | ((with_reducible apply covers_trans hp); decide) | ((with_reducible apply covers_trans hp); (casesm* Carrier <;> decide))
    | ((with_reducible apply covers_trans hp); exact rfl) | ((with_reducible apply covers_trans hp); (casesm* Carrier <;> exact rfl))
    | rfl

theorem foregroundCalDone_leads (c : Carrier) (fails : List (List Nat)) (vals : List (List Byte)) (s : State)
    (hp : covers ps [.boot, .entry 0x40 0x011, .entry 0x40 0x017, .ev, .fb, .blobs, .clk, .entry 0x40 0x012, .entry 0x40 0x013, .entry 0x40 0x002, .entry (0x20 + c.off) 0x000, .entry 0x11 0x021, .entry 0x11 0x040, .host, .carA, .carB, .entry 0x20 0x054, .entry 0x30 0x054, .entry 0x40 0x014, .entry (0x20 + c.off) 0x013, .entry (0x21 + c.off) 0x000, .entry 0x11 0x030, .entry (0x21 + c.off) 0x001, .entry (0x21 + c.off) 0x031, .entry (0x21 + c.off) 0x032, .entry (0x22 + c.off) 0x001, .entry (0x21 + c.off) 0x062, .entry (0x21 + c.off) 0x064, .entry (0x20 + c.off) 0x036, .entry (0x21 + c.off) 0x01C, .entry (0x21 + c.off) 0x01E, .entry (0x24 + c.off) 0x020, .entry (0x24 + c.off) 0x023] = true) (h : Leads ps s0 s) : Leads ps s0 (foregroundCalDone c fails vals s) := by
  unfold foregroundCalDone
  repeat' first
    | with_reducible (first
        | intro _ | assumption | apply ite_leads | apply State.gradeTile_leads | apply wr_leads | apply State.modDie_leads
        | apply State.setCar_leads | apply State.startSuperframes_leads | apply State.carrierMove_leads | apply when_leads
        | apply foldl_leads)
    | ((with_reducible apply covers_trans hp); decide) | ((with_reducible apply covers_trans hp); (casesm* Carrier <;> decide))
    | ((with_reducible apply covers_trans hp); exact rfl) | ((with_reducible apply covers_trans hp); (casesm* Carrier <;> exact rfl))
    | rfl

theorem vcoTcUpdate_leads (c : Carrier) (tune : Nat) (s : State)
    (hp : covers ps [.clk, .ev, .fb, .entry 0x40 0x005] = true) (h : Leads ps s0 s) : Leads ps s0 (vcoTcUpdate c tune s) := by
  unfold vcoTcUpdate
  repeat' first
    | with_reducible (first
        | intro _ | assumption | apply ite_leads | apply State.modDie_leads | apply State.raise_leads | apply wr_leads
        | apply when_leads)
    | ((with_reducible apply covers_trans hp); decide) | ((with_reducible apply covers_trans hp); (casesm* Carrier <;> decide))
    | ((with_reducible apply covers_trans hp); exact rfl) | ((with_reducible apply covers_trans hp); (casesm* Carrier <;> exact rfl))
    | split | rfl

theorem execVcoTcUpdate_leads (c : Carrier) (tune : Nat) (s : State) :
    Out.leads [.clk, .ev, .fb, .entry 0x40 0x005] s (execVcoTcUpdate c tune s) := by
  refine out_intro fun hp h => ?_
  unfold execVcoTcUpdate
  refine ⟨_, rfl, ?_⟩
  all_goals repeat' first
    | with_reducible (first
        | assumption | apply vcoTcUpdate_leads)
    | ((with_reducible apply covers_trans hp); decide) | ((with_reducible apply covers_trans hp); (casesm* Carrier <;> decide))
    | ((with_reducible apply covers_trans hp); exact rfl) | ((with_reducible apply covers_trans hp); (casesm* Carrier <;> exact rfl))
    | rfl

theorem State.rebandCmd_leads (s : State) (c : Carrier)
    (hp : covers ps [.entry (0x20 + c.off) 0x013, .entry (0x21 + c.off) 0x000, .clk, .entry 0x40 0x002, .ev, .fb] = true) (h : Leads ps s0 s) : Leads ps s0 (State.rebandCmd s c).1 := by
  unfold State.rebandCmd
  repeat' first
    | with_reducible (first
        | assumption | apply State.refit_leads | apply State.raise_leads | apply ite_fst_leads)
    | ((with_reducible apply covers_trans hp); decide) | ((with_reducible apply covers_trans hp); (casesm* Carrier <;> decide))
    | ((with_reducible apply covers_trans hp); exact rfl) | ((with_reducible apply covers_trans hp); (casesm* Carrier <;> exact rfl))
    | rfl

theorem execReband_leads (src : Nat) (c : Carrier) (s : State) :
    Out.leads [.entry (0x20 + c.off) 0x013, .entry (0x21 + c.off) 0x000, .clk, .entry 0x40 0x002, .ev, .fb, .pw, .ports, .entry 0x08 0x030] s (execReband src c s) := by
  refine out_intro fun hp h => ?_
  unfold execReband
  refine ⟨_, rfl, ?_⟩
  all_goals repeat' first
    | with_reducible (first
        | intro _ | assumption | apply State.rebandCmd_leads | apply State.request_leads)
    | ((with_reducible apply covers_trans hp); decide) | ((with_reducible apply covers_trans hp); (casesm* Carrier <;> decide))
    | ((with_reducible apply covers_trans hp); exact rfl) | ((with_reducible apply covers_trans hp); (casesm* Carrier <;> exact rfl))
    | rfl

theorem linePllUnlock_leads (c : Carrier) (s : State)
    (hp : covers ps [.entry 0x40 0x002, .entry 0x40 0x003, .ev, .fb, .car c, .entry (0x20 + c.off) 0x036, .entry (0x20 + c.off) 0x037, .clk] = true) (h : Leads ps s0 s) : Leads ps s0 (linePllUnlock c s) := by
  unfold linePllUnlock
  repeat' first
    | with_reducible (first
        | intro _ | assumption | apply ite_leads | apply wr_leads | apply State.bump_leads | apply State.raise_leads
        | apply State.contourDark_leads | apply State.modDie_leads | apply State.modRx_leads | apply when_leads)
    | ((with_reducible apply covers_trans hp); decide) | ((with_reducible apply covers_trans hp); (casesm* Carrier <;> decide))
    | ((with_reducible apply covers_trans hp); exact rfl) | ((with_reducible apply covers_trans hp); (casesm* Carrier <;> exact rfl))
    | rfl

theorem execLinePllUnlock_leads (c : Carrier) (s : State) :
    Out.leads [.entry 0x40 0x002, .entry 0x40 0x003, .ev, .fb, .car c, .entry (0x20 + c.off) 0x036, .entry (0x20 + c.off) 0x037, .clk] s (execLinePllUnlock c s) := by
  refine out_intro fun hp h => ?_
  unfold execLinePllUnlock
  refine ⟨_, rfl, ?_⟩
  all_goals repeat' first
    | with_reducible (first
        | assumption | apply linePllUnlock_leads)
    | ((with_reducible apply covers_trans hp); decide) | ((with_reducible apply covers_trans hp); (casesm* Carrier <;> decide))
    | ((with_reducible apply covers_trans hp); exact rfl) | ((with_reducible apply covers_trans hp); (casesm* Carrier <;> exact rfl))
    | rfl

theorem execRefTcUpdate_leads (c : Carrier) (s : State) :
    Out.leads [.clk] s (execRefTcUpdate c s) := by
  refine out_intro fun hp h => ?_
  unfold execRefTcUpdate
  refine ⟨_, rfl, ?_⟩
  all_goals repeat' first
    | with_reducible (first
        | intro _ | assumption | apply State.modDie_leads | apply when_leads)
    | ((with_reducible apply covers_trans hp); decide) | ((with_reducible apply covers_trans hp); (casesm* Carrier <;> decide))
    | ((with_reducible apply covers_trans hp); exact rfl) | ((with_reducible apply covers_trans hp); (casesm* Carrier <;> exact rfl))
    | rfl

theorem execSpareVisitStart_leads (c : Carrier) (s : State) :
    Out.leads [.clk] s (execSpareVisitStart c s) := by
  refine out_intro fun hp h => ?_
  unfold execSpareVisitStart
  refine ⟨_, rfl, ?_⟩
  all_goals repeat' first
    | with_reducible (first
        | intro _ | assumption | apply State.modDie_leads | apply when_leads)
    | ((with_reducible apply covers_trans hp); decide) | ((with_reducible apply covers_trans hp); (casesm* Carrier <;> decide))
    | ((with_reducible apply covers_trans hp); exact rfl) | ((with_reducible apply covers_trans hp); (casesm* Carrier <;> exact rfl))
    | rfl

theorem spareVisitEnd_leads (c : Carrier) (pass : Bool) (vals : List Byte) (s : State)
    (hp : covers ps [.blobs, .clk, .boot, .entry 0x40 0x011, .entry 0x40 0x017, .ev, .fb, .entry 0x40 0x013, .entry 0x40 0x014, .entry 0x40 0x015] = true) (h : Leads ps s0 s) : Leads ps s0 (spareVisitEnd c pass vals s) := by
  unfold spareVisitEnd
  repeat' first
    | with_reducible (first
        | intro _ | assumption | apply ite_leads | apply setBlob_leads | apply State.modDie_leads | apply State.markFailed_leads
        | apply wr_leads | apply State.bump_leads | apply when_leads)
    | ((with_reducible apply covers_trans hp); decide) | ((with_reducible apply covers_trans hp); (casesm* Carrier <;> decide))
    | ((with_reducible apply covers_trans hp); exact rfl) | ((with_reducible apply covers_trans hp); (casesm* Carrier <;> exact rfl))
    | ((with_reducible apply covers_trans hp); ((try casesm* Carrier) <;> (repeat' split) <;> first | decide | rfl)) | rfl

theorem execSpareVisitEnd_leads (c : Carrier) (pass : Bool) (vals : List Byte) (s : State) :
    Out.leads [.blobs, .clk, .boot, .entry 0x40 0x011, .entry 0x40 0x017, .ev, .fb, .entry 0x40 0x013, .entry 0x40 0x014, .entry 0x40 0x015] s (execSpareVisitEnd c pass vals s) := by
  refine out_intro fun hp h => ?_
  unfold execSpareVisitEnd
  refine ⟨_, rfl, ?_⟩
  all_goals repeat' first
    | with_reducible (first
        | assumption | apply spareVisitEnd_leads)
    | ((with_reducible apply covers_trans hp); decide) | ((with_reducible apply covers_trans hp); (casesm* Carrier <;> decide))
    | ((with_reducible apply covers_trans hp); exact rfl) | ((with_reducible apply covers_trans hp); (casesm* Carrier <;> exact rfl))
    | rfl

theorem spareSwap_leads (c : Carrier) (t : Nat) (s : State)
    (hp : covers ps [.clk, .entry 0x40 0x012] = true) (h : Leads ps s0 s) : Leads ps s0 (spareSwap c t s) := by
  unfold spareSwap
  repeat' first
    | with_reducible (first
        | intro _ | assumption | apply State.modDie_leads | apply wr_leads | apply when_leads)
    | ((with_reducible apply covers_trans hp); decide) | ((with_reducible apply covers_trans hp); (casesm* Carrier <;> decide))
    | ((with_reducible apply covers_trans hp); exact rfl) | ((with_reducible apply covers_trans hp); (casesm* Carrier <;> exact rfl))
    | rfl

theorem execSpareSwap_leads (c : Carrier) (t : Nat) (s : State) :
    Out.leads [.clk, .entry 0x40 0x012] s (execSpareSwap c t s) := by
  refine out_intro fun hp h => ?_
  unfold execSpareSwap
  refine ⟨_, rfl, ?_⟩
  all_goals repeat' first
    | with_reducible (first
        | assumption | apply spareSwap_leads)
    | ((with_reducible apply covers_trans hp); decide) | ((with_reducible apply covers_trans hp); (casesm* Carrier <;> decide))
    | ((with_reducible apply covers_trans hp); exact rfl) | ((with_reducible apply covers_trans hp); (casesm* Carrier <;> exact rfl))
    | rfl

theorem State.takeMarks_leads (s : State) (c : Carrier) (j : Nat)
    (hp : covers ps [.car c, .clk] = true) (h : Leads ps s0 s) : Leads ps s0 (State.takeMarks s c j) := by
  unfold State.takeMarks
  repeat' first
    | with_reducible (first
        | assumption | apply State.modRx_leads | apply State.modDie_leads)
    | ((with_reducible apply covers_trans hp); decide) | ((with_reducible apply covers_trans hp); (casesm* Carrier <;> decide))
    | ((with_reducible apply covers_trans hp); exact rfl) | ((with_reducible apply covers_trans hp); (casesm* Carrier <;> exact rfl))
    | rfl

theorem State.adcRead_leads (s : State) (c : Carrier) (j : Nat) (n : Nat)
    (hp : covers ps [.clk, .entry (0x21 + c.off) 0x00B, .ev, .fb, .car c, .entry (0x21 + c.off) 0x031, .entry (0x21 + c.off) 0x007] = true) (h : Leads ps s0 s) : Leads ps s0 (State.adcRead s c j n) := by
  unfold State.adcRead
  repeat' first
    | with_reducible (first
        | assumption | apply ite_leads | apply State.modDie_leads | apply State.adcSamples_leads)
    | ((with_reducible apply covers_trans hp); decide) | ((with_reducible apply covers_trans hp); (casesm* Carrier <;> decide))
    | ((with_reducible apply covers_trans hp); exact rfl) | ((with_reducible apply covers_trans hp); (casesm* Carrier <;> exact rfl))
    | rfl

theorem State.adcArrive_leads (s : State) (c : Carrier) (j : Nat) (codes : List Nat)
    (hp : covers ps [.clk, .car c, .entry 0x40 0x018, .ev, .fb] = true) (h : Leads ps s0 s) : Leads ps s0 (State.adcArrive s c j codes) := by
  unfold State.adcArrive
  repeat' first
    | with_reducible (first
        | assumption | apply ite_leads | apply State.modDie_leads | apply State.modRx_leads | apply State.bump_leads
        | apply State.raise_leads | apply State.takeMarks_leads)
    | ((with_reducible apply covers_trans hp); decide) | ((with_reducible apply covers_trans hp); (casesm* Carrier <;> decide))
    | ((with_reducible apply covers_trans hp); exact rfl) | ((with_reducible apply covers_trans hp); (casesm* Carrier <;> exact rfl))
    | rfl

theorem State.dacSend_leads (s : State) (c : Carrier) (j : Nat) (n : Nat)
    (hp : covers ps [.clk] = true) (h : Leads ps s0 s) : Leads ps s0 (State.dacSend s c j n) := by
  unfold State.dacSend
  repeat' first
    | with_reducible (first
        | assumption | apply State.modDie_leads)
    | ((with_reducible apply covers_trans hp); decide) | ((with_reducible apply covers_trans hp); (casesm* Carrier <;> decide))
    | ((with_reducible apply covers_trans hp); exact rfl) | ((with_reducible apply covers_trans hp); (casesm* Carrier <;> exact rfl))
    | rfl

theorem State.dacFill_leads (s : State) (c : Carrier) (j : Nat)
    (hp : covers ps [.entry (0x20 + c.off) 0x077, .ev, .fb, .car c, .clk] = true) (h : Leads ps s0 s) : Leads ps s0 (State.dacFill s c j) := by
  unfold State.dacFill
  repeat' first
    | with_reducible (first
        | assumption | apply State.bumpN_leads | apply State.modTx_leads | apply State.modDie_leads)
    | ((with_reducible apply covers_trans hp); decide) | ((with_reducible apply covers_trans hp); (casesm* Carrier <;> decide))
    | ((with_reducible apply covers_trans hp); exact rfl) | ((with_reducible apply covers_trans hp); (casesm* Carrier <;> exact rfl))
    | rfl

theorem d2dBlockRx_leads (c : Carrier) (rx : Bool) (j : Nat) (ok : Bool) (codes : List Nat) (taken : Nat) (s : State)
    (hp : covers ps [.entry 0x40 0x022, .ev, .fb, .clk, .entry 0x40 0x020, .entry 0x40 0x021, .entry (0x21 + c.off) 0x00B, .car c, .entry (0x21 + c.off) 0x031, .entry (0x21 + c.off) 0x007, .entry 0x40 0x018, .entry (0x20 + c.off) 0x077] = true) (h : Leads ps s0 s) : Leads ps s0 (d2dBlockRx c rx j ok codes taken s) := by
  unfold d2dBlockRx
  repeat' first
    | with_reducible (first
        | intro _ | assumption | apply ite_leads | apply State.wrapN_leads | apply State.modDie_leads | apply State.bump_leads
        | apply State.adcRead_leads | apply State.adcArrive_leads | apply State.dacSend_leads | apply State.dacFill_leads
        | apply when_leads)
    | ((with_reducible apply covers_trans hp); decide) | ((with_reducible apply covers_trans hp); (casesm* Carrier <;> decide))
    | ((with_reducible apply covers_trans hp); exact rfl) | ((with_reducible apply covers_trans hp); (casesm* Carrier <;> exact rfl))
    | ((with_reducible apply covers_trans hp); ((try casesm* Carrier) <;> (repeat' split) <;> first | decide | rfl)) | rfl

theorem execD2dBlockRx_leads (c : Carrier) (rx : Bool) (j : Nat) (ok : Bool) (codes : List Nat) (taken : Nat) (s : State) :
    Out.leads [.entry 0x40 0x022, .ev, .fb, .clk, .entry 0x40 0x020, .entry 0x40 0x021, .entry (0x21 + c.off) 0x00B, .car c, .entry (0x21 + c.off) 0x031, .entry (0x21 + c.off) 0x007, .entry 0x40 0x018, .entry (0x20 + c.off) 0x077] s (execD2dBlockRx c rx j ok codes taken s) := by
  refine out_intro fun hp h => ?_
  unfold execD2dBlockRx
  refine ⟨_, rfl, ?_⟩
  all_goals repeat' first
    | with_reducible (first
        | assumption | apply d2dBlockRx_leads)
    | ((with_reducible apply covers_trans hp); decide) | ((with_reducible apply covers_trans hp); (casesm* Carrier <;> decide))
    | ((with_reducible apply covers_trans hp); exact rfl) | ((with_reducible apply covers_trans hp); (casesm* Carrier <;> exact rfl))
    | rfl

theorem execLineDacSlip_leads (c : Carrier) (j : Nat) (s : State) :
    Out.leads [.clk, .entry 0x40 0x019, .ev, .fb] s (execLineDacSlip c j s) := by
  refine out_intro fun hp h => ?_
  unfold execLineDacSlip
  refine ⟨_, rfl, ?_⟩
  all_goals repeat' first
    | with_reducible (first
        | intro _ | assumption | apply State.modDie_leads | apply State.bumpN_leads | apply State.raise_leads | apply when_leads)
    | ((with_reducible apply covers_trans hp); decide) | ((with_reducible apply covers_trans hp); (casesm* Carrier <;> decide))
    | ((with_reducible apply covers_trans hp); exact rfl) | ((with_reducible apply covers_trans hp); (casesm* Carrier <;> exact rfl))
    | rfl

theorem execD2dDegradeCheck_leads (c : Carrier) (s : State) :
    Out.leads [.clk, .ev, .fb] s (execD2dDegradeCheck c s) := by
  refine out_intro fun hp h => ?_
  unfold execD2dDegradeCheck
  refine ⟨_, rfl, ?_⟩
  all_goals repeat' first
    | with_reducible (first
        | intro _ | assumption | apply ite_leads | apply State.modDie_leads | apply State.raise_leads | apply when_leads)
    | ((with_reducible apply covers_trans hp); decide) | ((with_reducible apply covers_trans hp); (casesm* Carrier <;> decide))
    | ((with_reducible apply covers_trans hp); exact rfl) | ((with_reducible apply covers_trans hp); (casesm* Carrier <;> exact rfl))
    | rfl

end Sys2Proof.Machine
end

