-- ==== Sys2Proof/Laws/FrameLanes.lean ====
section
/-! SUPPORT. Frames of the operations and meanings of Machine/Lanes.lean. -/

namespace Sys2Proof.Machine

variable {ps : List Part} {s0 : State}

theorem State.setLane_leads (s : State) (n : Nat) (st : Int)
    (hp : covers ps [.entry 0x10 0x010, .ev, .fb] = true) (h : Leads ps s0 s) : Leads ps s0 (State.setLane s n st) := by
  unfold State.setLane
  repeat' first
    | with_reducible (first
        | assumption | apply ite_leads | apply wr_leads | apply State.raise_leads)
    | ((with_reducible apply covers_trans hp); decide) | ((with_reducible apply covers_trans hp); (casesm* Carrier <;> decide))
    | ((with_reducible apply covers_trans hp); exact rfl) | ((with_reducible apply covers_trans hp); (casesm* Carrier <;> exact rfl))
    | ((with_reducible apply covers_trans hp); ((try casesm* Carrier) <;> (repeat' split) <;> first | decide | rfl)) | rfl

theorem State.ownPreset_leads (s : State) (n : Nat) (p : Nat)
    (hp : covers ps [.entry 0x10 0x005] = true) (h : Leads ps s0 s) : Leads ps s0 (State.ownPreset s n p) := by
  unfold State.ownPreset
  repeat' first
    | with_reducible (first
        | intro _ | assumption | apply wr_leads | apply foldl_leads)
    | ((with_reducible apply covers_trans hp); decide) | ((with_reducible apply covers_trans hp); (casesm* Carrier <;> decide))
    | ((with_reducible apply covers_trans hp); exact rfl) | ((with_reducible apply covers_trans hp); (casesm* Carrier <;> exact rfl))
    | rfl

theorem State.setTap_leads (s : State) (k : Nat → Key) (n t : Nat) (v : Int)
    (hk : ∀ i, Part.within [.entry 0x10 0x005, .entry 0x10 0x014] (.entry (k i).area (k i).entry) = true)
    (hp : covers ps [.entry 0x10 0x005, .entry 0x10 0x014] = true) (h : Leads ps s0 s) : Leads ps s0 (State.setTap s k n t v) :=
  wr_leads _ _ (covers_trans hp (covers_one (hk _))) (wr_leads _ _ (covers_trans hp (covers_one (hk _))) h)

theorem State.untrainLane_leads (s : State) (n : Nat)
    (hp : covers ps [.host, .entry 0x10 0x041] = true) (h : Leads ps s0 s) : Leads ps s0 (State.untrainLane s n) := by
  unfold State.untrainLane
  repeat' first
    | with_reducible (first
        | assumption | apply State.modLane_leads | apply wr_leads | apply State.laneFollow_leads)
    | ((with_reducible apply covers_trans hp); decide) | ((with_reducible apply covers_trans hp); (casesm* Carrier <;> decide))
    | ((with_reducible apply covers_trans hp); exact rfl) | ((with_reducible apply covers_trans hp); (casesm* Carrier <;> exact rfl))
    | rfl

theorem State.startLane_leads (s : State) (n : Nat)
    (hp : covers ps [.host, .entry 0x10 0x041, .entry 0x10 0x010, .ev, .fb, .entry 0x10 0x005] = true) (h : Leads ps s0 s) : Leads ps s0 (State.startLane s n) := by
  unfold State.startLane
  repeat' first
    | with_reducible (first
        | assumption | apply ite_leads | apply State.untrainLane_leads | apply State.setLane_leads | apply State.ownPreset_leads
        | apply State.modLane_leads)
    | ((with_reducible apply covers_trans hp); decide) | ((with_reducible apply covers_trans hp); (casesm* Carrier <;> decide))
    | ((with_reducible apply covers_trans hp); exact rfl) | ((with_reducible apply covers_trans hp); (casesm* Carrier <;> exact rfl))
    | rfl

theorem State.laneEnable_leads (s : State) (n : Nat)
    (hp : covers ps [.host, .entry 0x10 0x041, .entry 0x10 0x010, .ev, .fb, .entry 0x10 0x005] = true) (h : Leads ps s0 s) : Leads ps s0 (State.laneEnable s n) := by
  unfold State.laneEnable
  repeat' first
    | with_reducible (first
        | assumption | apply ite_leads | apply State.startLane_leads | apply State.untrainLane_leads | apply State.setLane_leads)
    | ((with_reducible apply covers_trans hp); decide) | ((with_reducible apply covers_trans hp); (casesm* Carrier <;> decide))
    | ((with_reducible apply covers_trans hp); exact rfl) | ((with_reducible apply covers_trans hp); (casesm* Carrier <;> exact rfl))
    | rfl

theorem execLaneEnableWrite_leads (src : Nat) (n : Nat) (v : Int) (s : State) :
    Out.leads [.entry 0x10 0x000, .ed, .entry 0x02 0x042, .ev, .fb, .host, .entry 0x10 0x041, .entry 0x10 0x010, .entry 0x10 0x005, .pw, .ports, .entry 0x08 0x030] s (execLaneEnableWrite src n v s) := by
  refine out_intro fun hp h => ?_
  unfold execLaneEnableWrite
  refine ⟨_, rfl, ?_⟩
  all_goals repeat' first
    | with_reducible (first
        | intro _ | assumption | apply rwEffect_leads | apply State.laneEnable_leads | apply State.request_leads)
    | ((with_reducible apply covers_trans hp); decide) | ((with_reducible apply covers_trans hp); (casesm* Carrier <;> decide))
    | ((with_reducible apply covers_trans hp); exact rfl) | ((with_reducible apply covers_trans hp); (casesm* Carrier <;> exact rfl))
    | ((with_reducible apply covers_trans hp); ((try casesm* Carrier) <;> (repeat' split) <;> first | decide | rfl)) | rfl

theorem execLaneSignalDetect_leads (n : Nat) (s : State) :
    Out.leads [.entry 0x10 0x040, .host, .entry 0x10 0x010, .ev, .fb] s (execLaneSignalDetect n s) := by
  refine out_intro fun hp h => ?_
  unfold execLaneSignalDetect
  refine ⟨_, rfl, ?_⟩
  all_goals repeat' first
    | with_reducible (first
        | intro _ | assumption | apply ite_leads | apply wr_leads | apply State.laneFollow_leads | apply State.modLane_leads
        | apply State.setLane_leads | apply when_leads)
    | ((with_reducible apply covers_trans hp); decide) | ((with_reducible apply covers_trans hp); (casesm* Carrier <;> decide))
    | ((with_reducible apply covers_trans hp); exact rfl) | ((with_reducible apply covers_trans hp); (casesm* Carrier <;> exact rfl))
    | rfl

theorem State.waitPartner_leads (s : State) (n : Nat)
    (hp : covers ps [.host, .entry 0x10 0x010, .ev, .fb] = true) (h : Leads ps s0 s) : Leads ps s0 (State.waitPartner s n) := by
  unfold State.waitPartner
  repeat' first
    | with_reducible (first
        | assumption | apply ite_leads | apply State.modLane_leads | apply State.setLane_leads)
    | ((with_reducible apply covers_trans hp); decide) | ((with_reducible apply covers_trans hp); (casesm* Carrier <;> decide))
    | ((with_reducible apply covers_trans hp); exact rfl) | ((with_reducible apply covers_trans hp); (casesm* Carrier <;> exact rfl))
    | rfl

theorem State.requestsEnd_leads (s : State) (n : Nat)
    (hp : covers ps [.host, .ev, .fb, .entry 0x10 0x010] = true) (h : Leads ps s0 s) : Leads ps s0 (State.requestsEnd s n) := by
  unfold State.requestsEnd
  repeat' first
    | with_reducible (first
        | assumption | apply ite_leads | apply State.modLane_leads | apply State.raise_leads | apply State.waitPartner_leads)
    | ((with_reducible apply covers_trans hp); decide) | ((with_reducible apply covers_trans hp); (casesm* Carrier <;> decide))
    | ((with_reducible apply covers_trans hp); exact rfl) | ((with_reducible apply covers_trans hp); (casesm* Carrier <;> exact rfl))
    | rfl

theorem State.nextTap_leads (s : State) (n : Nat) (fom : Int)
    (hp : covers ps [.host, .ev, .fb, .entry 0x10 0x010] = true) (h : Leads ps s0 s) : Leads ps s0 (State.nextTap s n fom) := by
  unfold State.nextTap
  repeat' first
    | with_reducible (first
        | assumption | apply ite_leads | apply State.modLane_leads | apply State.requestsEnd_leads)
    | ((with_reducible apply covers_trans hp); decide) | ((with_reducible apply covers_trans hp); (casesm* Carrier <;> decide))
    | ((with_reducible apply covers_trans hp); exact rfl) | ((with_reducible apply covers_trans hp); (casesm* Carrier <;> exact rfl))
    | rfl

theorem trainStepMeasure_leads (n : Nat) (fom : Nat) (s : State)
    (hp : covers ps [.entry 0x10 0x011, .host, .ev, .fb, .entry 0x10 0x010] = true) (h : Leads ps s0 s) : Leads ps s0 (trainStepMeasure n fom s) := by
  unfold trainStepMeasure
  repeat' first
    | with_reducible (first
        | intro _ | assumption | apply ite_leads | apply wr_leads | apply State.modLane_leads | apply State.nextTap_leads
        | apply when_leads)
    | ((with_reducible apply covers_trans hp); decide) | ((with_reducible apply covers_trans hp); (casesm* Carrier <;> decide))
    | ((with_reducible apply covers_trans hp); exact rfl) | ((with_reducible apply covers_trans hp); (casesm* Carrier <;> exact rfl))
    | ((with_reducible apply covers_trans hp); ((try casesm* Carrier) <;> (repeat' split) <;> first | decide | rfl)) | rfl

theorem execTrainStepMeasure_leads (n : Nat) (fom : Nat) (s : State) :
    Out.leads [.entry 0x10 0x011, .host, .ev, .fb, .entry 0x10 0x010] s (execTrainStepMeasure n fom s) := by
  refine out_intro fun hp h => ?_
  unfold execTrainStepMeasure
  refine ⟨_, rfl, ?_⟩
  all_goals repeat' first
    | with_reducible (first
        | assumption | apply trainStepMeasure_leads)
    | ((with_reducible apply covers_trans hp); decide) | ((with_reducible apply covers_trans hp); (casesm* Carrier <;> decide))
    | ((with_reducible apply covers_trans hp); exact rfl) | ((with_reducible apply covers_trans hp); (casesm* Carrier <;> exact rfl))
    | rfl

theorem State.takeStatus_leads (s : State) (n : Nat) (status : Nat)
    (hp : covers ps [.entry 0x10 0x014, .entry 0x10 0x005, .host] = true) (h : Leads ps s0 s) : Leads ps s0 (State.takeStatus s n status) := by
  unfold State.takeStatus
  repeat' first
    | with_reducible (first
        | intro _ | assumption | apply ite_leads | apply wr_leads | apply State.setTap_leads | apply State.modLane_leads
        | apply foldl_leads | rfl)
    | ((with_reducible apply covers_trans hp); decide) | ((with_reducible apply covers_trans hp); (casesm* Carrier <;> decide))
    | ((with_reducible apply covers_trans hp); exact rfl) | ((with_reducible apply covers_trans hp); (casesm* Carrier <;> exact rfl))
    | ((with_reducible apply covers_trans hp); ((try casesm* Carrier) <;> (repeat' split) <;> first | decide | rfl)) | rfl

theorem State.answer_leads (s : State) (n : Nat) (req : Nat)
    (hp : covers ps [.host, .entry 0x10 0x005, .entry 0x10 0x014] = true) (h : Leads ps s0 s) : Leads ps s0 (State.answer s n req) := by
  unfold State.answer
  repeat' first
    | with_reducible (first
        | intro _ | assumption | apply ite_leads | apply State.modLane_leads | apply State.ownPreset_leads | apply State.setTap_leads
        | rfl)
    | ((with_reducible apply covers_trans hp); decide) | ((with_reducible apply covers_trans hp); (casesm* Carrier <;> decide))
    | ((with_reducible apply covers_trans hp); exact rfl) | ((with_reducible apply covers_trans hp); (casesm* Carrier <;> exact rfl))
    | rfl

theorem State.sendTrain_leads (s : State) (n : Nat)
    (hp : covers ps [.host] = true) (h : Leads ps s0 s) : Leads ps s0 (State.sendTrain s n) := by
  unfold State.sendTrain
  repeat' first
    | with_reducible (first
        | assumption | apply State.modLane_leads)
    | ((with_reducible apply covers_trans hp); decide) | ((with_reducible apply covers_trans hp); (casesm* Carrier <;> decide))
    | ((with_reducible apply covers_trans hp); exact rfl) | ((with_reducible apply covers_trans hp); (casesm* Carrier <;> exact rfl))
    | rfl

theorem State.trainTick_leads (s : State) (n : Nat)
    (hp : covers ps [.host] = true) (h : Leads ps s0 s) : Leads ps s0 (State.trainTick s n) := by
  unfold State.trainTick
  repeat' first
    | with_reducible (first
        | assumption | apply ite_leads | apply State.modLane_leads | apply State.sendTrain_leads)
    | ((with_reducible apply covers_trans hp); decide) | ((with_reducible apply covers_trans hp); (casesm* Carrier <;> decide))
    | ((with_reducible apply covers_trans hp); exact rfl) | ((with_reducible apply covers_trans hp); (casesm* Carrier <;> exact rfl))
    | rfl

theorem State.trainGood_leads (s : State) (n : Nat) (req : Nat) (status : Nat)
    (hp : covers ps [.host, .entry 0x10 0x005, .entry 0x10 0x014, .entry 0x10 0x010, .ev, .fb] = true) (h : Leads ps s0 s) : Leads ps s0 (State.trainGood s n req status) := by
  unfold State.trainGood
  repeat' first
    | with_reducible (first
        | assumption | apply ite_leads | apply State.modLane_leads | apply State.answer_leads | apply State.setLane_leads
        | apply State.takeStatus_leads)
    | ((with_reducible apply covers_trans hp); decide) | ((with_reducible apply covers_trans hp); (casesm* Carrier <;> decide))
    | ((with_reducible apply covers_trans hp); exact rfl) | ((with_reducible apply covers_trans hp); (casesm* Carrier <;> exact rfl))
    | rfl

theorem State.backToWait_leads (s : State) (n : Nat)
    (hp : covers ps [.host, .entry 0x10 0x041, .entry 0x10 0x010, .ev, .fb] = true) (h : Leads ps s0 s) : Leads ps s0 (State.backToWait s n) := by
  unfold State.backToWait
  repeat' first
    | with_reducible (first
        | assumption | apply State.untrainLane_leads | apply State.setLane_leads)
    | ((with_reducible apply covers_trans hp); decide) | ((with_reducible apply covers_trans hp); (casesm* Carrier <;> decide))
    | ((with_reducible apply covers_trans hp); exact rfl) | ((with_reducible apply covers_trans hp); (casesm* Carrier <;> exact rfl))
    | rfl

theorem hostTrainFrameRx_leads (n : Nat) (lv : List Int) (s : State)
    (hp : covers ps [.host, .entry 0x10 0x005, .entry 0x10 0x014, .entry 0x10 0x010, .ev, .fb, .entry 0x10 0x041] = true) (h : Leads ps s0 s) : Leads ps s0 (hostTrainFrameRx n lv s) := by
  unfold hostTrainFrameRx
  repeat' first
    | with_reducible (first
        | intro _ | assumption | apply ite_leads | apply State.modLane_leads | apply State.trainGood_leads
        | apply State.backToWait_leads | apply State.untrainLane_leads | apply State.ownPreset_leads | apply State.setLane_leads
        | apply when_leads)
    | ((with_reducible apply covers_trans hp); decide) | ((with_reducible apply covers_trans hp); (casesm* Carrier <;> decide))
    | ((with_reducible apply covers_trans hp); exact rfl) | ((with_reducible apply covers_trans hp); (casesm* Carrier <;> exact rfl))
    | rfl

theorem execHostTrainFrameRx_leads (n : Nat) (lv : List Int) (s : State) :
    Out.leads [.host, .entry 0x10 0x005, .entry 0x10 0x014, .entry 0x10 0x010, .ev, .fb, .entry 0x10 0x041] s (execHostTrainFrameRx n lv s) := by
  refine out_intro fun hp h => ?_
  unfold execHostTrainFrameRx
  refine ⟨_, rfl, ?_⟩
  all_goals repeat' first
    | with_reducible (first
        | assumption | apply hostTrainFrameRx_leads)
    | ((with_reducible apply covers_trans hp); decide) | ((with_reducible apply covers_trans hp); (casesm* Carrier <;> decide))
    | ((with_reducible apply covers_trans hp); exact rfl) | ((with_reducible apply covers_trans hp); (casesm* Carrier <;> exact rfl))
    | rfl

theorem execTrainCountdownDone_leads (n : Nat) (s : State) :
    Out.leads [.entry 0x10 0x013, .host, .entry 0x10 0x010, .ev, .fb] s (execTrainCountdownDone n s) := by
  refine out_intro fun hp h => ?_
  unfold execTrainCountdownDone
  refine ⟨_, rfl, ?_⟩
  all_goals repeat' first
    | with_reducible (first
        | intro _ | assumption | apply wr_leads | apply State.modLane_leads | apply State.setLane_leads | apply when_leads)
    | ((with_reducible apply covers_trans hp); decide) | ((with_reducible apply covers_trans hp); (casesm* Carrier <;> decide))
    | ((with_reducible apply covers_trans hp); exact rfl) | ((with_reducible apply covers_trans hp); (casesm* Carrier <;> exact rfl))
    | rfl

theorem execHostTrainTimeout_leads (n : Nat) (s : State) :
    Out.leads [.entry 0x10 0x005, .host, .entry 0x10 0x010, .ev, .fb, .entry 0x10 0x019] s (execHostTrainTimeout n s) := by
  refine out_intro fun hp h => ?_
  unfold execHostTrainTimeout
  refine ⟨_, rfl, ?_⟩
  all_goals repeat' first
    | with_reducible (first
        | intro _ | assumption | apply State.ownPreset_leads | apply State.modLane_leads | apply State.setLane_leads
        | apply State.bump_leads | apply State.raise_leads | apply when_leads)
    | ((with_reducible apply covers_trans hp); decide) | ((with_reducible apply covers_trans hp); (casesm* Carrier <;> decide))
    | ((with_reducible apply covers_trans hp); exact rfl) | ((with_reducible apply covers_trans hp); (casesm* Carrier <;> exact rfl))
    | ((with_reducible apply covers_trans hp); ((try casesm* Carrier) <;> (repeat' split) <;> first | decide | rfl)) | rfl

theorem execHostLos_leads (n : Nat) (s : State) :
    Out.leads [.entry 0x10 0x040, .entry 0x10 0x041, .host, .entry 0x10 0x010, .ev, .fb, .entry 0x10 0x005] s (execHostLos n s) := by
  refine out_intro fun hp h => ?_
  unfold execHostLos
  refine ⟨_, rfl, ?_⟩
  all_goals repeat' first
    | with_reducible (first
        | intro _ | assumption | apply ite_leads | apply wr_leads | apply State.modLane_leads | apply State.laneFollow_leads
        | apply State.backToWait_leads | apply State.raise_leads | apply State.ownPreset_leads | apply when_leads)
    | ((with_reducible apply covers_trans hp); decide) | ((with_reducible apply covers_trans hp); (casesm* Carrier <;> decide))
    | ((with_reducible apply covers_trans hp); exact rfl) | ((with_reducible apply covers_trans hp); (casesm* Carrier <;> exact rfl))
    | rfl

theorem State.retrainLane_leads (s : State) (n : Nat)
    (hp : covers ps [.host, .entry 0x10 0x041, .entry 0x10 0x010, .ev, .fb, .entry 0x10 0x005] = true) (h : Leads ps s0 s) : Leads ps s0 (State.retrainLane s n) := by
  unfold State.retrainLane
  repeat' first
    | with_reducible (first
        | assumption | apply ite_leads | apply State.startLane_leads)
    | ((with_reducible apply covers_trans hp); decide) | ((with_reducible apply covers_trans hp); (casesm* Carrier <;> decide))
    | ((with_reducible apply covers_trans hp); exact rfl) | ((with_reducible apply covers_trans hp); (casesm* Carrier <;> exact rfl))
    | rfl

theorem execRetrain_leads (src : Nat) (n : Nat) (s : State) :
    Out.leads [.host, .entry 0x10 0x041, .entry 0x10 0x010, .ev, .fb, .entry 0x10 0x005, .pw, .ports, .entry 0x08 0x030] s (execRetrain src n s) := by
  refine out_intro fun hp h => ?_
  unfold execRetrain
  refine ⟨_, rfl, ?_⟩
  all_goals repeat' first
    | with_reducible (first
        | intro _ | assumption | apply State.retrainLane_leads | apply State.request_leads)
    | ((with_reducible apply covers_trans hp); decide) | ((with_reducible apply covers_trans hp); (casesm* Carrier <;> decide))
    | ((with_reducible apply covers_trans hp); exact rfl) | ((with_reducible apply covers_trans hp); (casesm* Carrier <;> exact rfl))
    | rfl

theorem execSfLaneRetry_leads (n : Nat) (s : State) :
    Out.leads [.host, .entry 0x10 0x041, .entry 0x10 0x010, .ev, .fb, .entry 0x10 0x005] s (execSfLaneRetry n s) := by
  refine out_intro fun hp h => ?_
  unfold execSfLaneRetry
  refine ⟨_, rfl, ?_⟩
  all_goals repeat' first
    | with_reducible (first
        | intro _ | assumption | apply State.retrainLane_leads | apply when_leads)
    | ((with_reducible apply covers_trans hp); decide) | ((with_reducible apply covers_trans hp); (casesm* Carrier <;> decide))
    | ((with_reducible apply covers_trans hp); exact rfl) | ((with_reducible apply covers_trans hp); (casesm* Carrier <;> exact rfl))
    | rfl

theorem State.testChange_leads (s : State) (n : Nat)
    (hp : covers ps [.host, .entry 0x10 0x041, .entry 0x10 0x010, .ev, .fb, .entry 0x10 0x005] = true) (h : Leads ps s0 s) : Leads ps s0 (State.testChange s n) := by
  unfold State.testChange
  repeat' first
    | with_reducible (first
        | assumption | apply ite_leads | apply State.untrainLane_leads | apply State.setLane_leads | apply State.startLane_leads)
    | ((with_reducible apply covers_trans hp); decide) | ((with_reducible apply covers_trans hp); (casesm* Carrier <;> decide))
    | ((with_reducible apply covers_trans hp); exact rfl) | ((with_reducible apply covers_trans hp); (casesm* Carrier <;> exact rfl))
    | rfl

theorem execLoopbackWrite_leads (src : Nat) (n : Nat) (v : Int) (s : State) :
    Out.leads [.entry 0x10 0x020, .ed, .entry 0x02 0x042, .ev, .fb, .host, .entry 0x10 0x041, .entry 0x10 0x010, .entry 0x10 0x005, .pw, .ports, .entry 0x08 0x030] s (execLoopbackWrite src n v s) := by
  refine out_intro fun hp h => ?_
  unfold execLoopbackWrite
  refine ⟨_, rfl, ?_⟩
  all_goals repeat' first
    | with_reducible (first
        | intro _ | assumption | apply rwEffect_leads | apply State.testChange_leads | apply State.request_leads)
    | ((with_reducible apply covers_trans hp); decide) | ((with_reducible apply covers_trans hp); (casesm* Carrier <;> decide))
    | ((with_reducible apply covers_trans hp); exact rfl) | ((with_reducible apply covers_trans hp); (casesm* Carrier <;> exact rfl))
    | ((with_reducible apply covers_trans hp); ((try casesm* Carrier) <;> (repeat' split) <;> first | decide | rfl)) | rfl

theorem execPrbsGenWrite_leads (src : Nat) (n : Nat) (v : Int) (s : State) :
    Out.leads [.entry 0x10 0x030, .ed, .entry 0x02 0x042, .ev, .fb, .host, .entry 0x10 0x041, .entry 0x10 0x010, .entry 0x10 0x005, .pw, .ports, .entry 0x08 0x030] s (execPrbsGenWrite src n v s) := by
  refine out_intro fun hp h => ?_
  unfold execPrbsGenWrite
  refine ⟨_, rfl, ?_⟩
  all_goals repeat' first
    | with_reducible (first
        | intro _ | assumption | apply rwEffect_leads | apply State.modLane_leads | apply State.testChange_leads
        | apply State.request_leads)
    | ((with_reducible apply covers_trans hp); decide) | ((with_reducible apply covers_trans hp); (casesm* Carrier <;> decide))
    | ((with_reducible apply covers_trans hp); exact rfl) | ((with_reducible apply covers_trans hp); (casesm* Carrier <;> exact rfl))
    | rfl

theorem State.genTick_leads (s : State) (n : Nat)
    (hp : covers ps [.host] = true) (h : Leads ps s0 s) : Leads ps s0 (State.genTick s n) := by
  unfold State.genTick
  repeat' first
    | with_reducible (first
        | assumption | apply ite_leads | apply State.modLane_leads)
    | ((with_reducible apply covers_trans hp); decide) | ((with_reducible apply covers_trans hp); (casesm* Carrier <;> decide))
    | ((with_reducible apply covers_trans hp); exact rfl) | ((with_reducible apply covers_trans hp); (casesm* Carrier <;> exact rfl))
    | rfl

theorem State.laneTick_leads (s : State)
    (hp : covers ps [.host] = true) (h : Leads ps s0 s) : Leads ps s0 (State.laneTick s) := by
  unfold State.laneTick
  repeat' first
    | with_reducible (first
        | intro _ | assumption | apply State.trainTick_leads | apply State.genTick_leads | apply foldl_leads)
    | ((with_reducible apply covers_trans hp); decide) | ((with_reducible apply covers_trans hp); (casesm* Carrier <;> decide))
    | ((with_reducible apply covers_trans hp); exact rfl) | ((with_reducible apply covers_trans hp); (casesm* Carrier <;> exact rfl))
    | rfl

theorem execPrbsInject_leads (src : Nat) (n : Nat) (v : Int) (s : State) :
    Out.leads [.host, .pw, .ports, .entry 0x08 0x030, .ev, .fb] s (execPrbsInject src n v s) := by
  refine out_intro fun hp h => ?_
  unfold execPrbsInject
  refine ⟨_, rfl, ?_⟩
  all_goals repeat' first
    | with_reducible (first
        | intro _ | assumption | apply State.modLane_leads | apply State.request_leads)
    | ((with_reducible apply covers_trans hp); decide) | ((with_reducible apply covers_trans hp); (casesm* Carrier <;> decide))
    | ((with_reducible apply covers_trans hp); exact rfl) | ((with_reducible apply covers_trans hp); (casesm* Carrier <;> exact rfl))
    | rfl

theorem prbsLock_leads (n : Nat) (errs : List Nat) (s : State)
    (hp : covers ps [.entry 0x10 0x033, .ev, .fb, .entry 0x10 0x034, .entry 0x10 0x035, .host, .entry 0x10 0x032] = true) (h : Leads ps s0 s) : Leads ps s0 (prbsLock n errs s) := by
  unfold prbsLock
  repeat' first
    | with_reducible (first
        | intro _ | assumption | apply ite_leads | apply State.wrapN_leads | apply State.bumpN_leads | apply State.bump_leads
        | apply State.modLane_leads | apply wr_leads | apply when_leads | apply foldl_leads)
    | ((with_reducible apply covers_trans hp); decide) | ((with_reducible apply covers_trans hp); (casesm* Carrier <;> decide))
    | ((with_reducible apply covers_trans hp); exact rfl) | ((with_reducible apply covers_trans hp); (casesm* Carrier <;> exact rfl))
    | ((with_reducible apply covers_trans hp); ((try casesm* Carrier) <;> (repeat' split) <;> first | decide | rfl)) | rfl

theorem execPrbsLock_leads (n : Nat) (errs : List Nat) (s : State) :
    Out.leads [.entry 0x10 0x033, .ev, .fb, .entry 0x10 0x034, .entry 0x10 0x035, .host, .entry 0x10 0x032] s (execPrbsLock n errs s) := by
  refine out_intro fun hp h => ?_
  unfold execPrbsLock
  refine ⟨_, rfl, ?_⟩
  all_goals repeat' first
    | with_reducible (first
        | assumption | apply prbsLock_leads)
    | ((with_reducible apply covers_trans hp); decide) | ((with_reducible apply covers_trans hp); (casesm* Carrier <;> decide))
    | ((with_reducible apply covers_trans hp); exact rfl) | ((with_reducible apply covers_trans hp); (casesm* Carrier <;> exact rfl))
    | rfl

theorem State.tapWrite_leads (s : State) (src : Nat) (i : Nat) (v : Int)
    (hp : covers ps [.entry 0x10 0x005, .ed, .entry 0x02 0x042, .ev, .fb] = true) (h : Leads ps s0 s) : Leads ps s0 (State.tapWrite s src i v).1 := by
  unfold State.tapWrite
  repeat' first
    | with_reducible (first
        | assumption | apply rwEffect_leads | apply wr_leads | apply ite_fst_leads)
    | ((with_reducible apply covers_trans hp); decide) | ((with_reducible apply covers_trans hp); (casesm* Carrier <;> decide))
    | ((with_reducible apply covers_trans hp); exact rfl) | ((with_reducible apply covers_trans hp); (casesm* Carrier <;> exact rfl))
    | ((with_reducible apply covers_trans hp); ((try casesm* Carrier) <;> (repeat' split) <;> first | decide | rfl)) | rfl

end Sys2Proof.Machine
end

