-- ==== Sys2Proof/Laws/FrameClients.lean ====
section
/-! SUPPORT. Frames of the operations and meanings of Machine/Clients.lean. -/

namespace Sys2Proof.Machine

variable {ps : List Part} {s0 : State}

theorem hostBlockRx_leads (n : Nat) (corr : Nat) (uncorr : Nat) (slipIn : Bool) (slipOut : Bool) (aligned : Bool) (fault : Nat) (ber : Nat) (s : State)
    (hp : covers ps [.entry 0x10 0x042, .ev, .fb, .entry 0x10 0x043, .entry 0x10 0x044, .entry 0x10 0x045, .entry 0x10 0x041, .host, .entry 0x10 0x046] = true) (h : Leads ps s0 s) : Leads ps s0 (hostBlockRx n corr uncorr slipIn slipOut aligned fault ber s) := by
  unfold hostBlockRx
  repeat' first
    | with_reducible (first
        | intro _ | assumption | apply ite_leads | apply State.bumpN_leads | apply State.bump_leads | apply State.raise_leads
        | apply wr_leads | apply State.modLane_leads | apply State.laneFollow_leads | apply when_leads)
    | ((with_reducible apply covers_trans hp); decide) | ((with_reducible apply covers_trans hp); (casesm* Carrier <;> decide))
    | ((with_reducible apply covers_trans hp); exact rfl) | ((with_reducible apply covers_trans hp); (casesm* Carrier <;> exact rfl))
    | rfl

theorem execHostBlockRx_leads (n : Nat) (corr : Nat) (uncorr : Nat) (slipIn : Bool) (slipOut : Bool) (aligned : Bool) (fault : Nat) (ber : Nat) (s : State) :
    Out.leads [.entry 0x10 0x042, .ev, .fb, .entry 0x10 0x043, .entry 0x10 0x044, .entry 0x10 0x045, .entry 0x10 0x041, .host, .entry 0x10 0x046] s (execHostBlockRx n corr uncorr slipIn slipOut aligned fault ber s) := by
  refine out_intro fun hp h => ?_
  unfold execHostBlockRx
  refine ⟨_, rfl, ?_⟩
  all_goals repeat' first
    | with_reducible (first
        | assumption | apply hostBlockRx_leads)
    | ((with_reducible apply covers_trans hp); decide) | ((with_reducible apply covers_trans hp); (casesm* Carrier <;> decide))
    | ((with_reducible apply covers_trans hp); exact rfl) | ((with_reducible apply covers_trans hp); (casesm* Carrier <;> exact rfl))
    | rfl

theorem State.takeSlotBits_leads (s : State) (n : Nat) (empty : Nat) (fail : Nat)
    (hp : covers ps [.host, .entry 0x11 0x042, .ev, .fb] = true) (h : Leads ps s0 s) : Leads ps s0 (State.takeSlotBits s n empty fail) := by
  unfold State.takeSlotBits
  repeat' first
    | with_reducible (first
        | intro _ | assumption | apply ite_leads | apply State.modLane_leads | apply State.bump_leads | apply foldl_leads)
    | ((with_reducible apply covers_trans hp); decide) | ((with_reducible apply covers_trans hp); (casesm* Carrier <;> decide))
    | ((with_reducible apply covers_trans hp); exact rfl) | ((with_reducible apply covers_trans hp); (casesm* Carrier <;> exact rfl))
    | ((with_reducible apply covers_trans hp); ((try casesm* Carrier) <;> (repeat' split) <;> first | decide | rfl)) | rfl

theorem State.dealSlots_leads (s : State) (n : Nat) (empty : Nat) (blocks : List Nat)
    (hp : covers ps [.host] = true) (h : Leads ps s0 s) : Leads ps s0 (State.dealSlots s n empty blocks) := by
  unfold State.dealSlots
  repeat' first
    | with_reducible (first
        | intro _ | assumption | apply ite_leads | apply State.modClient_leads | apply foldl_leads)
    | ((with_reducible apply covers_trans hp); decide) | ((with_reducible apply covers_trans hp); (casesm* Carrier <;> decide))
    | ((with_reducible apply covers_trans hp); exact rfl) | ((with_reducible apply covers_trans hp); (casesm* Carrier <;> exact rfl))
    | rfl

theorem slotHeaderRx_leads (n : Nat) (hdr : Nat) (blocks : List Nat) (s : State)
    (hp : covers ps [.host, .entry 0x10 0x041, .entry 0x11 0x042, .ev, .fb] = true) (h : Leads ps s0 s) : Leads ps s0 (slotHeaderRx n hdr blocks s) := by
  unfold slotHeaderRx
  repeat' first
    | with_reducible (first
        | intro _ | assumption | apply ite_leads | apply State.modLane_leads | apply wr_leads | apply State.takeSlotBits_leads
        | apply State.dealSlots_leads | apply State.laneFollow_leads | apply when_leads)
    | ((with_reducible apply covers_trans hp); decide) | ((with_reducible apply covers_trans hp); (casesm* Carrier <;> decide))
    | ((with_reducible apply covers_trans hp); exact rfl) | ((with_reducible apply covers_trans hp); (casesm* Carrier <;> exact rfl))
    | rfl

theorem execSlotHeaderRx_leads (n : Nat) (hdr : Nat) (blocks : List Nat) (s : State) :
    Out.leads [.host, .entry 0x10 0x041, .entry 0x11 0x042, .ev, .fb] s (execSlotHeaderRx n hdr blocks s) := by
  refine out_intro fun hp h => ?_
  unfold execSlotHeaderRx
  refine ⟨_, rfl, ?_⟩
  all_goals repeat' first
    | with_reducible (first
        | assumption | apply slotHeaderRx_leads)
    | ((with_reducible apply covers_trans hp); decide) | ((with_reducible apply covers_trans hp); (casesm* Carrier <;> decide))
    | ((with_reducible apply covers_trans hp); exact rfl) | ((with_reducible apply covers_trans hp); (casesm* Carrier <;> exact rfl))
    | rfl

theorem State.takeSeq_leads (s : State) (i : Nat)
    (hp : covers ps [.host] = true) (h : Leads ps s0 s) : Leads ps s0 (State.takeSeq s i) := by
  unfold State.takeSeq
  repeat' first
    | with_reducible (first
        | assumption | apply State.modClient_leads)
    | ((with_reducible apply covers_trans hp); decide) | ((with_reducible apply covers_trans hp); (casesm* Carrier <;> decide))
    | ((with_reducible apply covers_trans hp); exact rfl) | ((with_reducible apply covers_trans hp); (casesm* Carrier <;> exact rfl))
    | rfl

theorem State.frameIn_leads (s : State) (c : Nat) (frame : List Byte) (errored : Bool)
    (hp : covers ps [.entry 0x11 0x023, .ev, .fb, .host, .entry 0x11 0x021] = true) (h : Leads ps s0 s) : Leads ps s0 (State.frameIn s c frame errored) := by
  unfold State.frameIn
  repeat' first
    | with_reducible (first
        | assumption | apply ite_leads | apply State.bump_leads | apply State.takeSeq_leads | apply State.modClient_leads)
    | ((with_reducible apply covers_trans hp); decide) | ((with_reducible apply covers_trans hp); (casesm* Carrier <;> decide))
    | ((with_reducible apply covers_trans hp); exact rfl) | ((with_reducible apply covers_trans hp); (casesm* Carrier <;> exact rfl))
    | rfl

theorem hostFrameIngress_leads (c : Nat) (frame : List Byte) (errored : Bool) (s : State)
    (hp : covers ps [.host, .entry 0x11 0x023, .ev, .fb, .entry 0x11 0x021] = true) (h : Leads ps s0 s) : Leads ps s0 (hostFrameIngress c frame errored s) := by
  unfold hostFrameIngress
  repeat' first
    | with_reducible (first
        | intro _ | assumption | apply ite_leads | apply State.modClient_leads | apply State.frameIn_leads | apply when_leads)
    | ((with_reducible apply covers_trans hp); decide) | ((with_reducible apply covers_trans hp); (casesm* Carrier <;> decide))
    | ((with_reducible apply covers_trans hp); exact rfl) | ((with_reducible apply covers_trans hp); (casesm* Carrier <;> exact rfl))
    | split | rfl

theorem execHostFrameIngress_leads (c : Nat) (frame : List Byte) (errored : Bool) (s : State) :
    Out.leads [.host, .entry 0x11 0x023, .ev, .fb, .entry 0x11 0x021] s (execHostFrameIngress c frame errored s) := by
  refine out_intro fun hp h => ?_
  unfold execHostFrameIngress
  refine ⟨_, rfl, ?_⟩
  all_goals repeat' first
    | with_reducible (first
        | assumption | apply hostFrameIngress_leads)
    | ((with_reducible apply covers_trans hp); decide) | ((with_reducible apply covers_trans hp); (casesm* Carrier <;> decide))
    | ((with_reducible apply covers_trans hp); exact rfl) | ((with_reducible apply covers_trans hp); (casesm* Carrier <;> exact rfl))
    | rfl

theorem slotBurstComplete_leads (i : Nat) (s : State)
    (hp : covers ps [.host, .entry 0x11 0x040, .ev, .fb] = true) (h : Leads ps s0 s) : Leads ps s0 (slotBurstComplete i s) := by
  unfold slotBurstComplete
  repeat' first
    | with_reducible (first
        | intro _ | assumption | apply ite_leads | apply State.modClient_leads | apply State.takeSeq_leads | apply State.bump_leads
        | apply when_leads)
    | ((with_reducible apply covers_trans hp); decide) | ((with_reducible apply covers_trans hp); (casesm* Carrier <;> decide))
    | ((with_reducible apply covers_trans hp); exact rfl) | ((with_reducible apply covers_trans hp); (casesm* Carrier <;> exact rfl))
    | rfl

theorem execSlotBurstComplete_leads (slot : Nat) (s : State) :
    Out.leads [.host, .entry 0x11 0x040, .ev, .fb] s (execSlotBurstComplete slot s) := by
  refine out_intro fun hp h => ?_
  unfold execSlotBurstComplete
  refine ⟨_, rfl, ?_⟩
  all_goals repeat' first
    | with_reducible (first
        | assumption | apply slotBurstComplete_leads)
    | ((with_reducible apply covers_trans hp); decide) | ((with_reducible apply covers_trans hp); (casesm* Carrier <;> decide))
    | ((with_reducible apply covers_trans hp); exact rfl) | ((with_reducible apply covers_trans hp); (casesm* Carrier <;> exact rfl))
    | rfl

theorem execClientStatusTick_leads (cl : Nat) (s : State) :
    Out.leads [.host] s (execClientStatusTick cl s) := by
  refine out_intro fun hp h => ?_
  unfold execClientStatusTick
  refine ⟨_, rfl, ?_⟩
  all_goals repeat' first
    | with_reducible (first
        | intro _ | assumption | apply State.sendStatus_leads | apply when_leads)
    | ((with_reducible apply covers_trans hp); decide) | ((with_reducible apply covers_trans hp); (casesm* Carrier <;> decide))
    | ((with_reducible apply covers_trans hp); exact rfl) | ((with_reducible apply covers_trans hp); (casesm* Carrier <;> exact rfl))
    | rfl

theorem State.sendPacket_leads (s : State) (c : Carrier) (p : Packet)
    (hp : covers ps [.car c, .entry 0x11 0x020, .ev, .fb, .entry 0x11 0x022] = true) (h : Leads ps s0 s) : Leads ps s0 (State.sendPacket s c p) := by
  unfold State.sendPacket
  repeat' first
    | with_reducible (first
        | assumption | apply ite_leads | apply State.modTx_leads | apply State.wrapN_leads | apply State.bump_leads)
    | ((with_reducible apply covers_trans hp); decide) | ((with_reducible apply covers_trans hp); (casesm* Carrier <;> decide))
    | ((with_reducible apply covers_trans hp); exact rfl) | ((with_reducible apply covers_trans hp); (casesm* Carrier <;> exact rfl))
    | ((with_reducible apply covers_trans hp); ((try casesm* Carrier) <;> (repeat' split) <;> first | decide | rfl)) | rfl

theorem State.drr_leads (s : State) (ready : List Nat) (n turn : Nat)
    (hp : covers ps [.host] = true) (h : Leads ps s0 s) : Leads ps s0 (State.drr s ready n turn).1 := by
  induction n generalizing s turn with
  | zero => exact h
  | succ n ih =>
    unfold State.drr
    split
    · split
      · exact h
      · exact ih _ _ (State.modClient_leads _ _ _ hp h)
    · exact ih _ _ (State.modClient_leads _ _ _ hp (State.modClient_leads _ _ _ hp h))

theorem mapperPacketSend_leads (c : Carrier) (s : State)
    (hp : covers ps [.host, .car c, .entry 0x11 0x020, .ev, .fb, .entry 0x11 0x022] = true) (h : Leads ps s0 s) : Leads ps s0 (mapperPacketSend c s) := by
  unfold mapperPacketSend
  repeat' first
    | with_reducible (first
        | intro _ | assumption | apply ite_leads | apply State.sendPacket_leads | apply State.drr_leads | apply State.modClient_leads
        | apply when_leads | (apply Or.inr; rfl) | rfl)
    | ((with_reducible apply covers_trans hp); decide) | ((with_reducible apply covers_trans hp); (casesm* Carrier <;> decide))
    | ((with_reducible apply covers_trans hp); exact rfl) | ((with_reducible apply covers_trans hp); (casesm* Carrier <;> exact rfl))
    | ((with_reducible (apply Or.inl; apply within_of_covers; apply covers_trans hp)); (casesm* Carrier <;> decide)) | dsimp only
    | split | with_reducible apply Leads.upd | rfl

theorem execMapperPacketSend_leads (c : Carrier) (s : State) :
    Out.leads [.host, .car c, .entry 0x11 0x020, .ev, .fb, .entry 0x11 0x022] s (execMapperPacketSend c s) := by
  refine out_intro fun hp h => ?_
  unfold execMapperPacketSend
  refine ⟨_, rfl, ?_⟩
  all_goals repeat' first
    | with_reducible (first
        | assumption | apply mapperPacketSend_leads)
    | ((with_reducible apply covers_trans hp); decide) | ((with_reducible apply covers_trans hp); (casesm* Carrier <;> decide))
    | ((with_reducible apply covers_trans hp); exact rfl) | ((with_reducible apply covers_trans hp); (casesm* Carrier <;> exact rfl))
    | rfl

theorem State.setDemap_leads (s : State) (c : Carrier) (d : Demap)
    (hp : covers ps [.host] = true) (h : Leads ps s0 s) : Leads ps s0 (State.setDemap s c d) := by
  unfold State.setDemap
  repeat' first
    | with_reducible (first
        | assumption | (apply Or.inr; rfl) | rfl)
    | ((with_reducible apply covers_trans hp); decide) | ((with_reducible apply covers_trans hp); (casesm* Carrier <;> decide))
    | ((with_reducible apply covers_trans hp); exact rfl) | ((with_reducible apply covers_trans hp); (casesm* Carrier <;> exact rfl))
    | ((with_reducible (apply Or.inl; apply within_of_covers; apply covers_trans hp)); decide) | dsimp only | split
    | with_reducible apply Leads.upd | rfl

theorem State.checkSeq_leads (s : State) (i : Nat) (seq : Nat)
    (hp : covers ps [.host, .entry 0x11 0x026, .entry 0x11 0x041, .ev, .fb] = true) (h : Leads ps s0 s) : Leads ps s0 (State.checkSeq s i seq) := by
  unfold State.checkSeq
  repeat' first
    | with_reducible (first
        | assumption | apply ite_leads | apply State.modClient_leads | apply State.bump_leads)
    | ((with_reducible apply covers_trans hp); decide) | ((with_reducible apply covers_trans hp); (casesm* Carrier <;> decide))
    | ((with_reducible apply covers_trans hp); exact rfl) | ((with_reducible apply covers_trans hp); (casesm* Carrier <;> exact rfl))
    | ((with_reducible apply covers_trans hp); ((try casesm* Carrier) <;> (repeat' split) <;> first | decide | rfl)) | rfl

theorem State.deliver_leads (s : State) (c : Carrier) (p : Packet) (err : Bool)
    (hp : covers ps [.host, .entry 0x11 0x026, .entry 0x11 0x041, .ev, .fb] = true) (h : Leads ps s0 s) : Leads ps s0 (State.deliver s c p err) := by
  unfold State.deliver
  repeat' first
    | with_reducible (first
        | assumption | apply ite_leads | apply State.modClient_leads | apply State.checkSeq_leads | apply State.evalFault_leads)
    | ((with_reducible apply covers_trans hp); decide) | ((with_reducible apply covers_trans hp); (casesm* Carrier <;> decide))
    | ((with_reducible apply covers_trans hp); exact rfl) | ((with_reducible apply covers_trans hp); (casesm* Carrier <;> exact rfl))
    | rfl

theorem State.syncHead_leads (s : State) (c : Carrier) (w : Nat)
    (hp : covers ps [.host, .entry 0x11 0x026, .entry 0x11 0x041, .ev, .fb, .entry 0x11 0x032, .entry 0x11 0x021, .entry 0x11 0x040] = true) (h : Leads ps s0 s) : Leads ps s0 (State.syncHead s c w) := by
  unfold State.syncHead
  repeat' first
    | with_reducible (first
        | assumption | apply ite_leads | apply State.setDemap_leads | apply State.deliver_leads | apply State.bump_leads
        | apply State.raise_leads | apply State.hostFollow_leads)
    | ((with_reducible apply covers_trans hp); decide) | ((with_reducible apply covers_trans hp); (casesm* Carrier <;> decide))
    | ((with_reducible apply covers_trans hp); exact rfl) | ((with_reducible apply covers_trans hp); (casesm* Carrier <;> exact rfl))
    | rfl

theorem demapWord_leads (c : Carrier) (s : State)
    (hp : covers ps [.car c, .host, .entry 0x11 0x026, .entry 0x11 0x041, .ev, .fb, .entry 0x11 0x032, .entry 0x11 0x021, .entry 0x11 0x040] = true) (h : Leads ps s0 s) : Leads ps s0 (demapWord c s) := by
  unfold demapWord
  repeat' first
    | with_reducible (first
        | intro _ | assumption | apply ite_leads | apply State.modFec_leads | apply State.setDemap_leads | apply State.syncHead_leads
        | apply State.hostFollow_leads | apply State.deliver_leads | apply when_leads)
    | ((with_reducible apply covers_trans hp); decide) | ((with_reducible apply covers_trans hp); (casesm* Carrier <;> decide))
    | ((with_reducible apply covers_trans hp); exact rfl) | ((with_reducible apply covers_trans hp); (casesm* Carrier <;> exact rfl))
    | dsimp only | split | rfl

theorem execDemapWord_leads (c : Carrier) (s : State) :
    Out.leads [.car c, .host, .entry 0x11 0x026, .entry 0x11 0x041, .ev, .fb, .entry 0x11 0x032, .entry 0x11 0x021, .entry 0x11 0x040] s (execDemapWord c s) := by
  refine out_intro fun hp h => ?_
  unfold execDemapWord
  refine ⟨_, rfl, ?_⟩
  all_goals repeat' first
    | with_reducible (first
        | assumption | apply demapWord_leads)
    | ((with_reducible apply covers_trans hp); decide) | ((with_reducible apply covers_trans hp); (casesm* Carrier <;> decide))
    | ((with_reducible apply covers_trans hp); exact rfl) | ((with_reducible apply covers_trans hp); (casesm* Carrier <;> exact rfl))
    | rfl

theorem State.demapHunt_leads (s : State) (c : Carrier)
    (hp : covers ps [.host] = true) (h : Leads ps s0 s) : Leads ps s0 (State.demapHunt s c) := by
  unfold State.demapHunt
  repeat' first
    | with_reducible (first
        | assumption | apply State.setDemap_leads)
    | ((with_reducible apply covers_trans hp); decide) | ((with_reducible apply covers_trans hp); (casesm* Carrier <;> decide))
    | ((with_reducible apply covers_trans hp); exact rfl) | ((with_reducible apply covers_trans hp); (casesm* Carrier <;> exact rfl))
    | rfl

theorem execRxFecAligned_leads (c : Carrier) (s : State) :
    Out.leads [.entry (0x24 + c.off) 0x023, .ev, .fb, .host, .entry 0x11 0x021, .entry 0x11 0x040] s (execRxFecAligned c s) := by
  refine out_intro fun hp h => ?_
  unfold execRxFecAligned
  refine ⟨_, rfl, ?_⟩
  all_goals repeat' first
    | with_reducible (first
        | intro _ | assumption | apply wr_leads | apply State.raise_leads | apply State.demapHunt_leads | apply State.hostFollow_leads
        | apply when_leads)
    | ((with_reducible apply covers_trans hp); decide) | ((with_reducible apply covers_trans hp); (casesm* Carrier <;> decide))
    | ((with_reducible apply covers_trans hp); exact rfl) | ((with_reducible apply covers_trans hp); (casesm* Carrier <;> exact rfl))
    | rfl

theorem egressFrameOut_leads (c : Nat) (full : Bool) (s : State)
    (hp : covers ps [.freeCtr, .host, .entry 0x11 0x024, .ev, .fb, .entry 0x11 0x025] = true) (h : Leads ps s0 s) : Leads ps s0 (egressFrameOut c full s) := by
  unfold egressFrameOut
  repeat' first
    | with_reducible (first
        | intro _ | assumption | apply ite_leads | apply State.tookFree_leads | apply State.modClient_leads | apply State.wrapN_leads
        | apply State.bump_leads | apply State.modLane_leads | apply when_leads | apply foldl_leads)
    | ((with_reducible apply covers_trans hp); decide) | ((with_reducible apply covers_trans hp); (casesm* Carrier <;> decide))
    | ((with_reducible apply covers_trans hp); exact rfl) | ((with_reducible apply covers_trans hp); (casesm* Carrier <;> exact rfl))
    | dsimp only | split | rfl

theorem execEgressFrameOut_leads (c : Nat) (full : Bool) (s : State) :
    Out.leads [.freeCtr, .host, .entry 0x11 0x024, .ev, .fb, .entry 0x11 0x025] s (execEgressFrameOut c full s) := by
  refine out_intro fun hp h => ?_
  unfold execEgressFrameOut
  refine ⟨_, rfl, ?_⟩
  all_goals repeat' first
    | with_reducible (first
        | assumption | apply egressFrameOut_leads)
    | ((with_reducible apply covers_trans hp); decide) | ((with_reducible apply covers_trans hp); (casesm* Carrier <;> decide))
    | ((with_reducible apply covers_trans hp); exact rfl) | ((with_reducible apply covers_trans hp); (casesm* Carrier <;> exact rfl))
    | rfl

theorem egressSlotFrame_leads (n : Nat) (s : State)
    (hp : covers ps [.host] = true) (h : Leads ps s0 s) : Leads ps s0 (egressSlotFrame n s) := by
  unfold egressSlotFrame
  repeat' first
    | with_reducible (first
        | intro _ | assumption | apply ite_leads | apply State.modLane_leads | apply State.modClient_leads | apply when_leads
        | apply foldl_leads)
    | ((with_reducible apply covers_trans hp); decide) | ((with_reducible apply covers_trans hp); (casesm* Carrier <;> decide))
    | ((with_reducible apply covers_trans hp); exact rfl) | ((with_reducible apply covers_trans hp); (casesm* Carrier <;> exact rfl))
    | rfl

theorem execEgressSlotFrame_leads (n : Nat) (s : State) :
    Out.leads [.host] s (execEgressSlotFrame n s) := by
  refine out_intro fun hp h => ?_
  unfold execEgressSlotFrame
  refine ⟨_, rfl, ?_⟩
  all_goals repeat' first
    | with_reducible (first
        | assumption | apply egressSlotFrame_leads)
    | ((with_reducible apply covers_trans hp); decide) | ((with_reducible apply covers_trans hp); (casesm* Carrier <;> decide))
    | ((with_reducible apply covers_trans hp); exact rfl) | ((with_reducible apply covers_trans hp); (casesm* Carrier <;> exact rfl))
    | rfl

theorem execClientPacketTimeout_leads (cl : Nat) (s : State) :
    Out.leads [.host, .ev, .fb] s (execClientPacketTimeout cl s) := by
  refine out_intro fun hp h => ?_
  unfold execClientPacketTimeout
  refine ⟨_, rfl, ?_⟩
  all_goals repeat' first
    | with_reducible (first
        | assumption | apply State.modClient_leads | apply State.evalFault_leads)
    | ((with_reducible apply covers_trans hp); decide) | ((with_reducible apply covers_trans hp); (casesm* Carrier <;> decide))
    | ((with_reducible apply covers_trans hp); exact rfl) | ((with_reducible apply covers_trans hp); (casesm* Carrier <;> exact rfl))
    | rfl

theorem State.flushClient_leads (s : State) (c : Nat)
    (hp : covers ps [.entry 0x11 0x021, .ev, .fb, .entry 0x11 0x040, .host] = true) (h : Leads ps s0 s) : Leads ps s0 (State.flushClient s c) := by
  unfold State.flushClient
  repeat' first
    | with_reducible (first
        | intro _ | assumption | apply ite_leads | apply State.bumpN_leads | apply State.modClient_leads | apply foldl_leads)
    | ((with_reducible apply covers_trans hp); decide) | ((with_reducible apply covers_trans hp); (casesm* Carrier <;> decide))
    | ((with_reducible apply covers_trans hp); exact rfl) | ((with_reducible apply covers_trans hp); (casesm* Carrier <;> exact rfl))
    | rfl

theorem State.hostApplied_leads (s : State) (old : State) (keys : List Key)
    (hp : covers ps [.entry 0x11 0x021, .ev, .fb, .entry 0x11 0x040, .host, .entry 0x10 0x041, .entry 0x10 0x010, .entry 0x10 0x005] = true) (h : Leads ps s0 s) : Leads ps s0 (State.hostApplied s old keys) := by
  unfold State.hostApplied
  repeat' first
    | with_reducible (first
        | intro _ | assumption | apply ite_leads | apply State.flushClient_leads | apply State.startLane_leads
        | apply State.evalFault_leads | apply State.laneFollow_leads | apply foldl_leads)
    | ((with_reducible apply covers_trans hp); decide) | ((with_reducible apply covers_trans hp); (casesm* Carrier <;> decide))
    | ((with_reducible apply covers_trans hp); exact rfl) | ((with_reducible apply covers_trans hp); (casesm* Carrier <;> exact rfl))
    | rfl

end Sys2Proof.Machine
end

