-- ==== Sys2Proof/Laws/FrameHousekeeping.lean ====
section
/-! SUPPORT. Frames of the operations and meanings of Machine/Housekeeping.lean. -/

namespace Sys2Proof.Machine

variable {ps : List Part} {s0 : State}

theorem State.modAdc_leads (s : State) (x1 : Nat) (f : HkAdc → HkAdc)
    (hp : covers ps [.hk] = true) (h : Leads ps s0 s) : Leads ps s0 (State.modAdc s x1 f) := by
  unfold State.modAdc
  repeat' first
    | with_reducible (first
        | assumption | apply ite_leads | (apply Or.inr; rfl) | rfl)
    | ((with_reducible apply covers_trans hp); decide) | ((with_reducible apply covers_trans hp); (casesm* Carrier <;> decide))
    | ((with_reducible apply covers_trans hp); exact rfl) | ((with_reducible apply covers_trans hp); (casesm* Carrier <;> exact rfl))
    | ((with_reducible (apply Or.inl; apply within_of_covers; apply covers_trans hp)); decide) | dsimp only
    | with_reducible apply Leads.upd | rfl

theorem State.modAout_leads (s : State) (k : Nat) (f : Aout → Aout)
    (hp : covers ps [.hk] = true) (h : Leads ps s0 s) : Leads ps s0 (State.modAout s k f) := by
  unfold State.modAout
  repeat' first
    | with_reducible (first
        | assumption | (apply Or.inr; rfl) | rfl)
    | ((with_reducible apply covers_trans hp); decide) | ((with_reducible apply covers_trans hp); (casesm* Carrier <;> decide))
    | ((with_reducible apply covers_trans hp); exact rfl) | ((with_reducible apply covers_trans hp); (casesm* Carrier <;> exact rfl))
    | ((with_reducible (apply Or.inl; apply within_of_covers; apply covers_trans hp)); decide) | dsimp only
    | with_reducible apply Leads.upd | rfl

theorem State.modMf_leads (s : State) (y : Nat) (f : MfChan → MfChan)
    (hp : covers ps [.hk] = true) (h : Leads ps s0 s) : Leads ps s0 (State.modMf s y f) := by
  unfold State.modMf
  repeat' first
    | with_reducible (first
        | assumption | (apply Or.inr; rfl) | rfl)
    | ((with_reducible apply covers_trans hp); decide) | ((with_reducible apply covers_trans hp); (casesm* Carrier <;> decide))
    | ((with_reducible apply covers_trans hp); exact rfl) | ((with_reducible apply covers_trans hp); (casesm* Carrier <;> exact rfl))
    | ((with_reducible (apply Or.inl; apply within_of_covers; apply covers_trans hp)); decide) | dsimp only
    | with_reducible apply Leads.upd | rfl

theorem State.openWire_leads (s : State) (p : Nat) (code : Nat)
    (hp : covers ps [.hk, .entry 0x60 0x043, .ev, .fb] = true) (h : Leads ps s0 s) : Leads ps s0 (State.openWire s p code) := by
  unfold State.openWire
  repeat' first
    | with_reducible (first
        | assumption | apply ite_leads | apply wr_leads | apply State.raise_leads | (apply Or.inr; rfl) | rfl)
    | ((with_reducible apply covers_trans hp); decide) | ((with_reducible apply covers_trans hp); (casesm* Carrier <;> decide))
    | ((with_reducible apply covers_trans hp); exact rfl) | ((with_reducible apply covers_trans hp); (casesm* Carrier <;> exact rfl))
    | ((with_reducible (apply Or.inl; apply within_of_covers; apply covers_trans hp)); decide) | dsimp only
    | with_reducible apply Leads.upd | rfl

theorem State.readBack_leads (s : State) (input : Nat) (v : Nat) (out : Nat)
    (hp : covers ps [.hk, .entry 0x61 0x032, .entry 0x61 0x033, .ev, .fb, .entry 0x61 0x004] = true) (h : Leads ps s0 s) : Leads ps s0 (State.readBack s input v out) := by
  unfold State.readBack
  repeat' first
    | with_reducible (first
        | assumption | apply ite_leads | apply State.modAout_leads | apply wr_leads | apply State.bump_leads | apply State.raise_leads)
    | ((with_reducible apply covers_trans hp); decide) | ((with_reducible apply covers_trans hp); (casesm* Carrier <;> decide))
    | ((with_reducible apply covers_trans hp); exact rfl) | ((with_reducible apply covers_trans hp); (casesm* Carrier <;> exact rfl))
    | ((with_reducible apply covers_trans hp); ((try casesm* Carrier) <;> (repeat' split) <;> first | decide | rfl)) | dsimp only
    | split | rfl

theorem State.checkLimit_leads (s : State) (x1 : Nat) (slot : Nat) (v : Nat)
    (hp : covers ps [.hk, .ev, .fb] = true) (h : Leads ps s0 s) : Leads ps s0 (State.checkLimit s x1 slot v) := by
  unfold State.checkLimit
  repeat' first
    | with_reducible (first
        | assumption | apply ite_leads | apply State.modAdc_leads | apply State.raise_leads)
    | ((with_reducible apply covers_trans hp); decide) | ((with_reducible apply covers_trans hp); (casesm* Carrier <;> decide))
    | ((with_reducible apply covers_trans hp); exact rfl) | ((with_reducible apply covers_trans hp); (casesm* Carrier <;> exact rfl))
    | rfl

theorem State.passEnd_leads (s : State) (x1 : Nat)
    (hp : covers ps [.blobs, .entry 0x60 0x018, .hk] = true) (h : Leads ps s0 s) : Leads ps s0 (State.passEnd s x1) := by
  unfold State.passEnd
  repeat' first
    | with_reducible (first
        | assumption | apply ite_leads | apply setBlob_leads | apply State.wrap16_leads | apply State.modAdc_leads)
    | ((with_reducible apply covers_trans hp); decide) | ((with_reducible apply covers_trans hp); (casesm* Carrier <;> decide))
    | ((with_reducible apply covers_trans hp); exact rfl) | ((with_reducible apply covers_trans hp); (casesm* Carrier <;> exact rfl))
    | ((with_reducible apply covers_trans hp); ((try casesm* Carrier) <;> (repeat' split) <;> first | decide | rfl)) | rfl

theorem State.mfFresh_leads (s : State) (x1 : Nat) (slot : Nat)
    (hp : covers ps [.hk] = true) (h : Leads ps s0 s) : Leads ps s0 (State.mfFresh s x1 slot) := by
  unfold State.mfFresh
  repeat' first
    | with_reducible (first
        | intro _ | assumption | apply State.modMf_leads | apply foldl_leads)
    | ((with_reducible apply covers_trans hp); decide) | ((with_reducible apply covers_trans hp); (casesm* Carrier <;> decide))
    | ((with_reducible apply covers_trans hp); exact rfl) | ((with_reducible apply covers_trans hp); (casesm* Carrier <;> exact rfl))
    | rfl

theorem State.storeConv_leads (s : State) (x1 : Nat) (code : Nat)
    (hp : covers ps [.hk, .entry 0x60 0x019, .entry 0x60 0x043, .ev, .fb, .entry 0x61 0x032, .entry 0x61 0x033, .entry 0x61 0x004, .entry 0x60 0x013, .blobs, .entry 0x60 0x018, .entry 0x60 0x026, .entry 0x60 0x02A] = true) (h : Leads ps s0 s) : Leads ps s0 (State.storeConv s x1 code) := by
  unfold State.storeConv
  repeat' first
    | with_reducible (first
        | assumption | apply ite_leads | apply State.modAdc_leads | apply State.wrap16_leads | apply State.openWire_leads
        | apply State.readBack_leads | apply State.checkLimit_leads | apply wr_leads | apply State.mfFresh_leads
        | apply State.passEnd_leads)
    | ((with_reducible apply covers_trans hp); decide) | ((with_reducible apply covers_trans hp); (casesm* Carrier <;> decide))
    | ((with_reducible apply covers_trans hp); exact rfl) | ((with_reducible apply covers_trans hp); (casesm* Carrier <;> exact rfl))
    | dsimp only | split | rfl

theorem State.startConv_leads (s : State) (x1 : Nat) (kind : ConvKind) (input : Nat) (delayed : Bool)
    (hp : covers ps [.hk] = true) (h : Leads ps s0 s) : Leads ps s0 (State.startConv s x1 kind input delayed) := by
  unfold State.startConv
  repeat' first
    | with_reducible (first
        | assumption | apply State.modAdc_leads)
    | ((with_reducible apply covers_trans hp); decide) | ((with_reducible apply covers_trans hp); (casesm* Carrier <;> decide))
    | ((with_reducible apply covers_trans hp); exact rfl) | ((with_reducible apply covers_trans hp); (casesm* Carrier <;> exact rfl))
    | rfl

theorem State.startInjected_leads (s : State) (x1 : Nat)
    (hp : covers ps [.hk, .entry 0x60 0x027] = true) (h : Leads ps s0 s) : Leads ps s0 (State.startInjected s x1) := by
  unfold State.startInjected
  repeat' first
    | with_reducible (first
        | assumption | apply State.modAdc_leads | apply wr_leads | apply State.startConv_leads)
    | ((with_reducible apply covers_trans hp); decide) | ((with_reducible apply covers_trans hp); (casesm* Carrier <;> decide))
    | ((with_reducible apply covers_trans hp); exact rfl) | ((with_reducible apply covers_trans hp); (casesm* Carrier <;> exact rfl))
    | ((with_reducible apply covers_trans hp); ((try casesm* Carrier) <;> (repeat' split) <;> first | decide | rfl)) | dsimp only
    | split | rfl

theorem State.startRegular_leads (s : State) (x1 : Nat)
    (hp : covers ps [.hk] = true) (h : Leads ps s0 s) : Leads ps s0 (State.startRegular s x1) := by
  unfold State.startRegular
  repeat' first
    | with_reducible (first
        | assumption | apply ite_leads | apply State.modAdc_leads | apply State.startConv_leads)
    | ((with_reducible apply covers_trans hp); decide) | ((with_reducible apply covers_trans hp); (casesm* Carrier <;> decide))
    | ((with_reducible apply covers_trans hp); exact rfl) | ((with_reducible apply covers_trans hp); (casesm* Carrier <;> exact rfl))
    | split | rfl

theorem State.startPass_leads (s : State) (x1 : Nat)
    (hp : covers ps [.hk] = true) (h : Leads ps s0 s) : Leads ps s0 (State.startPass s x1) := by
  unfold State.startPass
  repeat' first
    | with_reducible (first
        | intro _ | assumption | apply ite_leads | apply State.modAdc_leads | apply State.modMf_leads | apply foldl_leads)
    | ((with_reducible apply covers_trans hp); decide) | ((with_reducible apply covers_trans hp); (casesm* Carrier <;> decide))
    | ((with_reducible apply covers_trans hp); exact rfl) | ((with_reducible apply covers_trans hp); (casesm* Carrier <;> exact rfl))
    | rfl

theorem State.finishCal_leads (s : State) (x1 : Nat)
    (hp : covers ps [.hk, .entry 0x60 0x003, .entry 0x60 0x031, .entry 0x60 0x050, .entry 0x60 0x051, .ev, .fb] = true) (h : Leads ps s0 s) : Leads ps s0 (State.finishCal s x1) := by
  unfold State.finishCal
  repeat' first
    | with_reducible (first
        | assumption | apply ite_leads | apply State.modAdc_leads | apply wr_leads | apply State.raise_leads)
    | ((with_reducible apply covers_trans hp); decide) | ((with_reducible apply covers_trans hp); (casesm* Carrier <;> decide))
    | ((with_reducible apply covers_trans hp); exact rfl) | ((with_reducible apply covers_trans hp); (casesm* Carrier <;> exact rfl))
    | ((with_reducible apply covers_trans hp); ((try casesm* Carrier) <;> (repeat' split) <;> first | decide | rfl)) | dsimp only
    | split | rfl

theorem State.startNext_leads (s : State) (x1 : Nat)
    (hp : covers ps [.hk, .entry 0x60 0x027, .entry 0x60 0x003] = true) (h : Leads ps s0 s) : Leads ps s0 (State.startNext s x1) := by
  unfold State.startNext
  repeat' first
    | with_reducible (first
        | assumption | apply ite_leads | apply State.startConv_leads | apply State.startInjected_leads | apply State.modAdc_leads
        | apply wr_leads | apply State.startPass_leads | apply State.startRegular_leads)
    | ((with_reducible apply covers_trans hp); decide) | ((with_reducible apply covers_trans hp); (casesm* Carrier <;> decide))
    | ((with_reducible apply covers_trans hp); exact rfl) | ((with_reducible apply covers_trans hp); (casesm* Carrier <;> exact rfl))
    | ((with_reducible apply covers_trans hp); ((try casesm* Carrier) <;> (repeat' split) <;> first | decide | rfl)) | dsimp only
    | split | rfl

theorem State.stopAdc_leads (s : State) (x1 : Nat)
    (hp : covers ps [.entry 0x60 0x031, .entry 0x60 0x003, .hk, .entry 0x60 0x027] = true) (h : Leads ps s0 s) : Leads ps s0 (State.stopAdc s x1) := by
  unfold State.stopAdc
  repeat' first
    | with_reducible (first
        | assumption | apply ite_leads | apply wr_leads | apply State.modAdc_leads)
    | ((with_reducible apply covers_trans hp); decide) | ((with_reducible apply covers_trans hp); (casesm* Carrier <;> decide))
    | ((with_reducible apply covers_trans hp); exact rfl) | ((with_reducible apply covers_trans hp); (casesm* Carrier <;> exact rfl))
    | ((with_reducible apply covers_trans hp); ((try casesm* Carrier) <;> (repeat' split) <;> first | decide | rfl)) | rfl

theorem State.boundary_leads (s : State) (x1 : Nat) (code : Nat)
    (hp : covers ps [.hk, .area 0x60, .ev, .fb, .entry 0x61 0x032, .entry 0x61 0x033, .entry 0x61 0x004, .blobs] = true) (h : Leads ps s0 s) : Leads ps s0 (State.boundary s x1 code) := by
  unfold State.boundary
  repeat' first
    | with_reducible (first
        | assumption | apply ite_leads | apply State.storeConv_leads | apply State.finishCal_leads | apply State.startPass_leads
        | apply State.startNext_leads | apply State.stopAdc_leads)
    | ((with_reducible apply covers_trans hp); decide) | ((with_reducible apply covers_trans hp); (casesm* Carrier <;> decide))
    | ((with_reducible apply covers_trans hp); exact rfl) | ((with_reducible apply covers_trans hp); (casesm* Carrier <;> exact rfl))
    | rfl

theorem execHkConversionBoundary_leads (v0 : Int) (v1 : Int) (internal : Nat) (board : Nat) (s : State) :
    Out.leads [.hk, .area 0x60, .ev, .fb, .entry 0x61 0x032, .entry 0x61 0x033, .entry 0x61 0x004, .blobs] s (execHkConversionBoundary v0 v1 internal board s) := by
  refine out_intro fun hp h => ?_
  unfold execHkConversionBoundary
  refine ⟨_, rfl, ?_⟩
  all_goals repeat' first
    | with_reducible (first
        | intro _ | assumption | apply State.boundary_leads | apply when_leads | (apply Or.inr; rfl) | rfl)
    | ((with_reducible apply covers_trans hp); decide) | ((with_reducible apply covers_trans hp); (casesm* Carrier <;> decide))
    | ((with_reducible apply covers_trans hp); exact rfl) | ((with_reducible apply covers_trans hp); (casesm* Carrier <;> exact rfl))
    | ((with_reducible (apply Or.inl; apply within_of_covers; apply covers_trans hp)); decide) | dsimp only
    | with_reducible apply Leads.upd | rfl

theorem execHkCalDone_leads (x0 : Nat) (s : State) :
    Out.leads [.hk, .entry 0x60 0x003, .entry 0x60 0x031, .entry 0x60 0x050, .entry 0x60 0x051, .ev, .fb] s (execHkCalDone x0 s) := by
  refine out_intro fun hp h => ?_
  unfold execHkCalDone
  refine ⟨_, rfl, ?_⟩
  all_goals repeat' first
    | with_reducible (first
        | intro _ | assumption | apply State.finishCal_leads | apply when_leads)
    | ((with_reducible apply covers_trans hp); decide) | ((with_reducible apply covers_trans hp); (casesm* Carrier <;> decide))
    | ((with_reducible apply covers_trans hp); exact rfl) | ((with_reducible apply covers_trans hp); (casesm* Carrier <;> exact rfl))
    | rfl

theorem State.regTriggered_leads (s : State) (x1 : Nat)
    (hp : covers ps [.hk, .entry 0x60 0x01A, .ev, .fb] = true) (h : Leads ps s0 s) : Leads ps s0 (State.regTriggered s x1) := by
  unfold State.regTriggered
  repeat' first
    | with_reducible (first
        | intro _ | assumption | apply ite_leads | apply State.modMf_leads | apply State.bump_leads | apply State.modAdc_leads
        | apply State.raise_leads | apply foldl_leads)
    | ((with_reducible apply covers_trans hp); decide) | ((with_reducible apply covers_trans hp); (casesm* Carrier <;> decide))
    | ((with_reducible apply covers_trans hp); exact rfl) | ((with_reducible apply covers_trans hp); (casesm* Carrier <;> exact rfl))
    | rfl

theorem execHkRegStart_leads (src : Nat) (x1 : Nat) (s : State) :
    Out.leads [.hk, .entry 0x60 0x01A, .ev, .fb, .pw, .ports, .entry 0x08 0x030] s (execHkRegStart src x1 s) := by
  refine out_intro fun hp h => ?_
  unfold execHkRegStart
  refine ⟨_, rfl, ?_⟩
  all_goals repeat' first
    | with_reducible (first
        | intro _ | assumption | apply ite_leads | apply State.regTriggered_leads | apply State.request_leads)
    | ((with_reducible apply covers_trans hp); decide) | ((with_reducible apply covers_trans hp); (casesm* Carrier <;> decide))
    | ((with_reducible apply covers_trans hp); exact rfl) | ((with_reducible apply covers_trans hp); (casesm* Carrier <;> exact rfl))
    | rfl

theorem execHkRegTimer_leads (x0 : Nat) (s : State) :
    Out.leads [.hk, .entry 0x60 0x01A, .ev, .fb] s (execHkRegTimer x0 s) := by
  refine out_intro fun hp h => ?_
  unfold execHkRegTimer
  refine ⟨_, rfl, ?_⟩
  all_goals repeat' first
    | with_reducible (first
        | intro _ | assumption | apply State.regTriggered_leads | apply when_leads)
    | ((with_reducible apply covers_trans hp); decide) | ((with_reducible apply covers_trans hp); (casesm* Carrier <;> decide))
    | ((with_reducible apply covers_trans hp); exact rfl) | ((with_reducible apply covers_trans hp); (casesm* Carrier <;> exact rfl))
    | rfl

theorem State.injRequest_leads (s : State) (x1 : Nat)
    (hp : covers ps [.entry 0x60 0x029, .ev, .fb, .entry 0x60 0x028, .hk, .entry 0x60 0x027] = true) (h : Leads ps s0 s) : Leads ps s0 (State.injRequest s x1) := by
  unfold State.injRequest
  repeat' first
    | with_reducible (first
        | assumption | apply ite_leads | apply State.bump_leads | apply wr_leads | apply State.raise_leads | apply State.modAdc_leads)
    | ((with_reducible apply covers_trans hp); decide) | ((with_reducible apply covers_trans hp); (casesm* Carrier <;> decide))
    | ((with_reducible apply covers_trans hp); exact rfl) | ((with_reducible apply covers_trans hp); (casesm* Carrier <;> exact rfl))
    | ((with_reducible apply covers_trans hp); ((try casesm* Carrier) <;> (repeat' split) <;> first | decide | rfl)) | rfl

theorem execInjStart_leads (src : Nat) (x1 : Nat) (s : State) :
    Out.leads [.entry 0x60 0x029, .ev, .fb, .entry 0x60 0x028, .hk, .entry 0x60 0x027, .pw, .ports, .entry 0x08 0x030] s (execInjStart src x1 s) := by
  refine out_intro fun hp h => ?_
  unfold execInjStart
  refine ⟨_, rfl, ?_⟩
  all_goals repeat' first
    | with_reducible (first
        | intro _ | assumption | apply ite_leads | apply State.injRequest_leads | apply State.request_leads)
    | ((with_reducible apply covers_trans hp); decide) | ((with_reducible apply covers_trans hp); (casesm* Carrier <;> decide))
    | ((with_reducible apply covers_trans hp); exact rfl) | ((with_reducible apply covers_trans hp); (casesm* Carrier <;> exact rfl))
    | rfl

theorem execInjTimer_leads (x0 : Nat) (s : State) :
    Out.leads [.entry 0x60 0x029, .ev, .fb, .entry 0x60 0x028, .hk, .entry 0x60 0x027] s (execInjTimer x0 s) := by
  refine out_intro fun hp h => ?_
  unfold execInjTimer
  refine ⟨_, rfl, ?_⟩
  all_goals repeat' first
    | with_reducible (first
        | intro _ | assumption | apply State.injRequest_leads | apply when_leads)
    | ((with_reducible apply covers_trans hp); decide) | ((with_reducible apply covers_trans hp); (casesm* Carrier <;> decide))
    | ((with_reducible apply covers_trans hp); exact rfl) | ((with_reducible apply covers_trans hp); (casesm* Carrier <;> exact rfl))
    | rfl

theorem execGpioRise_leads (g : Nat) (s : State) :
    Out.leads [.entry 0x60 0x029, .ev, .fb, .entry 0x60 0x028, .hk, .entry 0x60 0x027] s (execGpioRise g s) := by
  refine out_intro fun hp h => ?_
  unfold execGpioRise
  refine ⟨_, rfl, ?_⟩
  all_goals repeat' first
    | with_reducible (first
        | intro _ | assumption | apply ite_leads | apply State.injRequest_leads | apply foldl_leads)
    | ((with_reducible apply covers_trans hp); decide) | ((with_reducible apply covers_trans hp); (casesm* Carrier <;> decide))
    | ((with_reducible apply covers_trans hp); exact rfl) | ((with_reducible apply covers_trans hp); (casesm* Carrier <;> exact rfl))
    | rfl

theorem State.hkTrigIn_leads (s : State)
    (hp : covers ps [.hk, .entry 0x60 0x01A, .ev, .fb, .entry 0x60 0x029, .entry 0x60 0x028, .entry 0x60 0x027] = true) (h : Leads ps s0 s) : Leads ps s0 (State.hkTrigIn s) := by
  unfold State.hkTrigIn
  repeat' first
    | with_reducible (first
        | intro _ | assumption | apply ite_leads | apply State.regTriggered_leads | apply State.injRequest_leads | apply foldl_leads)
    | ((with_reducible apply covers_trans hp); decide) | ((with_reducible apply covers_trans hp); (casesm* Carrier <;> decide))
    | ((with_reducible apply covers_trans hp); exact rfl) | ((with_reducible apply covers_trans hp); (casesm* Carrier <;> exact rfl))
    | rfl

theorem execInjOverflowClear_leads (src : Nat) (x1 : Nat) (v : Int) (s : State) :
    Out.leads [.entry 0x60 0x028, .ed, .entry 0x02 0x042, .ev, .fb, .pw, .ports, .entry 0x08 0x030] s (execInjOverflowClear src x1 v s) := by
  refine out_intro fun hp h => ?_
  unfold execInjOverflowClear
  refine ⟨_, rfl, ?_⟩
  all_goals repeat' first
    | with_reducible (first
        | intro _ | assumption | apply ite_leads | apply State.rwStore_leads | apply State.request_leads)
    | ((with_reducible apply covers_trans hp); decide) | ((with_reducible apply covers_trans hp); (casesm* Carrier <;> decide))
    | ((with_reducible apply covers_trans hp); exact rfl) | ((with_reducible apply covers_trans hp); (casesm* Carrier <;> exact rfl))
    | ((with_reducible apply covers_trans hp); ((try casesm* Carrier) <;> (repeat' split) <;> first | decide | rfl)) | rfl

theorem State.hkEnableEffect_leads (s : State) (x1 : Nat)
    (hp : covers ps [.hk, .entry 0x60 0x027, .entry 0x60 0x031, .entry 0x60 0x003] = true) (h : Leads ps s0 s) : Leads ps s0 (State.hkEnableEffect s x1) := by
  unfold State.hkEnableEffect
  repeat' first
    | with_reducible (first
        | assumption | apply ite_leads | apply State.modAdc_leads | apply wr_leads)
    | ((with_reducible apply covers_trans hp); decide) | ((with_reducible apply covers_trans hp); (casesm* Carrier <;> decide))
    | ((with_reducible apply covers_trans hp); exact rfl) | ((with_reducible apply covers_trans hp); (casesm* Carrier <;> exact rfl))
    | ((with_reducible apply covers_trans hp); ((try casesm* Carrier) <;> (repeat' split) <;> first | decide | rfl)) | rfl

theorem State.calRefused_leads (s : State) (x1 : Nat) (code : Int)
    (hp : covers ps [.entry 0x60 0x031, .ev, .fb] = true) (h : Leads ps s0 s) : Leads ps s0 (State.calRefused s x1 code).1 := by
  unfold State.calRefused
  repeat' first
    | with_reducible (first
        | assumption | apply wr_leads | apply State.raise_leads)
    | ((with_reducible apply covers_trans hp); decide) | ((with_reducible apply covers_trans hp); (casesm* Carrier <;> decide))
    | ((with_reducible apply covers_trans hp); exact rfl) | ((with_reducible apply covers_trans hp); (casesm* Carrier <;> exact rfl))
    | ((with_reducible apply covers_trans hp); ((try casesm* Carrier) <;> (repeat' split) <;> first | decide | rfl)) | rfl

theorem State.calRequest_leads (s : State) (x1 : Nat) (step : Nat) (input : Nat)
    (hp : covers ps [.entry 0x60 0x031, .ev, .fb, .hk, .entry 0x60 0x003] = true) (h : Leads ps s0 s) : Leads ps s0 (State.calRequest s x1 step input).1 := by
  unfold State.calRequest
  repeat' first
    | with_reducible (first
        | assumption | apply State.calRefused_leads | apply State.modAdc_leads | apply wr_leads | apply ite_fst_leads)
    | ((with_reducible apply covers_trans hp); decide) | ((with_reducible apply covers_trans hp); (casesm* Carrier <;> decide))
    | ((with_reducible apply covers_trans hp); exact rfl) | ((with_reducible apply covers_trans hp); (casesm* Carrier <;> exact rfl))
    | ((with_reducible apply covers_trans hp); ((try casesm* Carrier) <;> (repeat' split) <;> first | decide | rfl)) | rfl

theorem execHkSelfCal_leads (src : Nat) (x1 : Nat) (s : State) :
    Out.leads [.entry 0x60 0x031, .ev, .fb, .hk, .entry 0x60 0x003, .pw, .ports, .entry 0x08 0x030] s (execHkSelfCal src x1 s) := by
  refine out_intro fun hp h => ?_
  unfold execHkSelfCal
  refine ⟨_, rfl, ?_⟩
  all_goals repeat' first
    | with_reducible (first
        | intro _ | assumption | apply State.calRequest_leads | apply State.request_leads)
    | ((with_reducible apply covers_trans hp); decide) | ((with_reducible apply covers_trans hp); (casesm* Carrier <;> decide))
    | ((with_reducible apply covers_trans hp); exact rfl) | ((with_reducible apply covers_trans hp); (casesm* Carrier <;> exact rfl))
    | rfl

theorem State.benchCmd_leads (s : State) (v : Nat)
    (hp : covers ps [.hk, .entry 0x60 0x031, .ev, .fb, .entry 0x60 0x003] = true) (h : Leads ps s0 s) : Leads ps s0 (State.benchCmd s v).1 := by
  unfold State.benchCmd
  repeat' first
    | with_reducible (first
        | assumption | apply State.modAdc_leads | apply State.calRequest_leads | apply ite_fst_leads)
    | ((with_reducible apply covers_trans hp); decide) | ((with_reducible apply covers_trans hp); (casesm* Carrier <;> decide))
    | ((with_reducible apply covers_trans hp); exact rfl) | ((with_reducible apply covers_trans hp); (casesm* Carrier <;> exact rfl))
    | rfl

theorem execBenchCancel_leads (src : Nat) (x1 : Nat) (s : State) :
    Out.leads [.hk, .entry 0x60 0x031, .ev, .fb, .entry 0x60 0x003, .pw, .ports, .entry 0x08 0x030] s (execBenchCancel src x1 s) := by
  refine out_intro fun hp h => ?_
  unfold execBenchCancel
  refine ⟨_, rfl, ?_⟩
  all_goals repeat' first
    | with_reducible (first
        | intro _ | assumption | apply State.benchCmd_leads | apply State.request_leads)
    | ((with_reducible apply covers_trans hp); decide) | ((with_reducible apply covers_trans hp); (casesm* Carrier <;> decide))
    | ((with_reducible apply covers_trans hp); exact rfl) | ((with_reducible apply covers_trans hp); (casesm* Carrier <;> exact rfl))
    | rfl

theorem execBenchZero_leads (src : Nat) (x1 : Nat) (input : Nat) (s : State) :
    Out.leads [.hk, .entry 0x60 0x031, .ev, .fb, .entry 0x60 0x003, .pw, .ports, .entry 0x08 0x030] s (execBenchZero src x1 input s) := by
  refine out_intro fun hp h => ?_
  unfold execBenchZero
  refine ⟨_, rfl, ?_⟩
  all_goals repeat' first
    | with_reducible (first
        | intro _ | assumption | apply State.benchCmd_leads | apply State.request_leads)
    | ((with_reducible apply covers_trans hp); decide) | ((with_reducible apply covers_trans hp); (casesm* Carrier <;> decide))
    | ((with_reducible apply covers_trans hp); exact rfl) | ((with_reducible apply covers_trans hp); (casesm* Carrier <;> exact rfl))
    | rfl

theorem execBenchFull_leads (src : Nat) (x1 : Nat) (input : Nat) (s : State) :
    Out.leads [.hk, .entry 0x60 0x031, .ev, .fb, .entry 0x60 0x003, .pw, .ports, .entry 0x08 0x030] s (execBenchFull src x1 input s) := by
  refine out_intro fun hp h => ?_
  unfold execBenchFull
  refine ⟨_, rfl, ?_⟩
  all_goals repeat' first
    | with_reducible (first
        | intro _ | assumption | apply State.benchCmd_leads | apply State.request_leads)
    | ((with_reducible apply covers_trans hp); decide) | ((with_reducible apply covers_trans hp); (casesm* Carrier <;> decide))
    | ((with_reducible apply covers_trans hp); exact rfl) | ((with_reducible apply covers_trans hp); (casesm* Carrier <;> exact rfl))
    | rfl

theorem State.aoutOn_leads (s : State) (k : Nat)
    (hp : covers ps [.entry 0x61 0x002, .hk, .entry 0x61 0x004] = true) (h : Leads ps s0 s) : Leads ps s0 (State.aoutOn s k) := by
  unfold State.aoutOn
  repeat' first
    | with_reducible (first
        | assumption | apply wr_leads | apply State.modAout_leads)
    | ((with_reducible apply covers_trans hp); decide) | ((with_reducible apply covers_trans hp); (casesm* Carrier <;> decide))
    | ((with_reducible apply covers_trans hp); exact rfl) | ((with_reducible apply covers_trans hp); (casesm* Carrier <;> exact rfl))
    | ((with_reducible apply covers_trans hp); ((try casesm* Carrier) <;> (repeat' split) <;> first | decide | rfl)) | rfl

theorem State.aoutEnable_leads (s : State) (k : Nat)
    (hp : covers ps [.entry 0x61 0x002, .hk, .entry 0x61 0x004] = true) (h : Leads ps s0 s) : Leads ps s0 (State.aoutEnable s k) := by
  unfold State.aoutEnable
  repeat' first
    | with_reducible (first
        | assumption | apply ite_leads | apply State.aoutOn_leads | apply State.modAout_leads | apply wr_leads)
    | ((with_reducible apply covers_trans hp); decide) | ((with_reducible apply covers_trans hp); (casesm* Carrier <;> decide))
    | ((with_reducible apply covers_trans hp); exact rfl) | ((with_reducible apply covers_trans hp); (casesm* Carrier <;> exact rfl))
    | ((with_reducible apply covers_trans hp); ((try casesm* Carrier) <;> (repeat' split) <;> first | decide | rfl)) | rfl

theorem execAoutEnableWrite_leads (src : Nat) (k : Nat) (v : Int) (s : State) :
    Out.leads [.entry 0x61 0x000, .ed, .entry 0x02 0x042, .ev, .fb, .entry 0x61 0x002, .hk, .entry 0x61 0x004, .pw, .ports, .entry 0x08 0x030] s (execAoutEnableWrite src k v s) := by
  refine out_intro fun hp h => ?_
  unfold execAoutEnableWrite
  refine ⟨_, rfl, ?_⟩
  all_goals repeat' first
    | with_reducible (first
        | intro _ | assumption | apply rwEffect_leads | apply State.aoutEnable_leads | apply State.request_leads)
    | ((with_reducible apply covers_trans hp); decide) | ((with_reducible apply covers_trans hp); (casesm* Carrier <;> decide))
    | ((with_reducible apply covers_trans hp); exact rfl) | ((with_reducible apply covers_trans hp); (casesm* Carrier <;> exact rfl))
    | ((with_reducible apply covers_trans hp); ((try casesm* Carrier) <;> (repeat' split) <;> first | decide | rfl)) | rfl

theorem State.aoutRangeWrite_leads (s : State) (src : Nat) (k : Nat) (v : Int)
    (hp : covers ps [.entry 0x61 0x001, .ed, .entry 0x02 0x042, .ev, .fb, .entry 0x61 0x004] = true) (h : Leads ps s0 s) : Leads ps s0 (State.aoutRangeWrite s src k v) := by
  unfold State.aoutRangeWrite
  repeat' first
    | with_reducible (first
        | assumption | apply ite_leads | apply rwEffect_leads | apply wr_leads)
    | ((with_reducible apply covers_trans hp); decide) | ((with_reducible apply covers_trans hp); (casesm* Carrier <;> decide))
    | ((with_reducible apply covers_trans hp); exact rfl) | ((with_reducible apply covers_trans hp); (casesm* Carrier <;> exact rfl))
    | ((with_reducible apply covers_trans hp); ((try casesm* Carrier) <;> (repeat' split) <;> first | decide | rfl)) | rfl

theorem execAoutRangeWrite_leads (src : Nat) (k : Nat) (v : Int) (s : State) :
    Out.leads [.entry 0x61 0x001, .ed, .entry 0x02 0x042, .ev, .fb, .entry 0x61 0x004, .pw, .ports, .entry 0x08 0x030] s (execAoutRangeWrite src k v s) := by
  refine out_intro fun hp h => ?_
  unfold execAoutRangeWrite
  refine ⟨_, rfl, ?_⟩
  all_goals repeat' first
    | with_reducible (first
        | intro _ | assumption | apply State.aoutRangeWrite_leads | apply State.request_leads)
    | ((with_reducible apply covers_trans hp); decide) | ((with_reducible apply covers_trans hp); (casesm* Carrier <;> decide))
    | ((with_reducible apply covers_trans hp); exact rfl) | ((with_reducible apply covers_trans hp); (casesm* Carrier <;> exact rfl))
    | rfl

theorem execAoutReconnect_leads (k : Nat) (s : State) :
    Out.leads [.hk, .entry 0x61 0x004] s (execAoutReconnect k s) := by
  refine out_intro fun hp h => ?_
  unfold execAoutReconnect
  refine ⟨_, rfl, ?_⟩
  all_goals repeat' first
    | with_reducible (first
        | intro _ | assumption | apply State.modAout_leads | apply wr_leads | apply when_leads)
    | ((with_reducible apply covers_trans hp); decide) | ((with_reducible apply covers_trans hp); (casesm* Carrier <;> decide))
    | ((with_reducible apply covers_trans hp); exact rfl) | ((with_reducible apply covers_trans hp); (casesm* Carrier <;> exact rfl))
    | ((with_reducible apply covers_trans hp); ((try casesm* Carrier) <;> (repeat' split) <;> first | decide | rfl)) | rfl

theorem State.aoutUpdate_leads (s : State) (k : Nat) (compliance : Bool) (overload : Bool)
    (hp : covers ps [.hk, .entry 0x61 0x014, .entry 0x61 0x032, .ev, .fb] = true) (h : Leads ps s0 s) : Leads ps s0 (State.aoutUpdate s k compliance overload) := by
  unfold State.aoutUpdate
  repeat' first
    | with_reducible (first
        | assumption | apply ite_leads | apply State.modAout_leads | apply State.wrap16_leads | apply wr_leads | apply State.raise_leads)
    | ((with_reducible apply covers_trans hp); decide) | ((with_reducible apply covers_trans hp); (casesm* Carrier <;> decide))
    | ((with_reducible apply covers_trans hp); exact rfl) | ((with_reducible apply covers_trans hp); (casesm* Carrier <;> exact rfl))
    | rfl

theorem execAoutUpdate_leads (compliance : Nat) (overload : Nat) (s : State) :
    Out.leads [.hk, .entry 0x61 0x014, .entry 0x61 0x032, .ev, .fb] s (execAoutUpdate compliance overload s) := by
  refine out_intro fun hp h => ?_
  unfold execAoutUpdate
  refine ⟨_, rfl, ?_⟩
  all_goals repeat' first
    | with_reducible (first
        | intro _ | assumption | apply State.aoutUpdate_leads | apply foldl_leads)
    | ((with_reducible apply covers_trans hp); decide) | ((with_reducible apply covers_trans hp); (casesm* Carrier <;> decide))
    | ((with_reducible apply covers_trans hp); exact rfl) | ((with_reducible apply covers_trans hp); (casesm* Carrier <;> exact rfl))
    | rfl

theorem execAoutConditionClear_leads (k : Nat) (overload : Bool) (s : State) :
    Out.leads [.entry 0x61 0x032] s (execAoutConditionClear k overload s) := by
  refine out_intro fun hp h => ?_
  unfold execAoutConditionClear
  refine ⟨_, rfl, ?_⟩
  all_goals repeat' first
    | with_reducible (first
        | intro _ | assumption | apply wr_leads | apply when_leads)
    | ((with_reducible apply covers_trans hp); decide) | ((with_reducible apply covers_trans hp); (casesm* Carrier <;> decide))
    | ((with_reducible apply covers_trans hp); exact rfl) | ((with_reducible apply covers_trans hp); (casesm* Carrier <;> exact rfl))
    | rfl

theorem execWaveWrite_leads (src : Nat) (k : Nat) (v : Int) (s : State) :
    Out.leads [.entry 0x61 0x010, .ed, .entry 0x02 0x042, .ev, .fb, .hk, .pw, .ports, .entry 0x08 0x030] s (execWaveWrite src k v s) := by
  refine out_intro fun hp h => ?_
  unfold execWaveWrite
  refine ⟨_, rfl, ?_⟩
  all_goals repeat' first
    | with_reducible (first
        | intro _ | assumption | apply rwEffect_leads | apply State.modAout_leads | apply State.request_leads)
    | ((with_reducible apply covers_trans hp); decide) | ((with_reducible apply covers_trans hp); (casesm* Carrier <;> decide))
    | ((with_reducible apply covers_trans hp); exact rfl) | ((with_reducible apply covers_trans hp); (casesm* Carrier <;> exact rfl))
    | ((with_reducible apply covers_trans hp); ((try casesm* Carrier) <;> (repeat' split) <;> first | decide | rfl)) | rfl

theorem State.waveSync_leads (s : State) (mask : Nat)
    (hp : covers ps [.hk] = true) (h : Leads ps s0 s) : Leads ps s0 (State.waveSync s mask) := by
  unfold State.waveSync
  repeat' first
    | with_reducible (first
        | intro _ | assumption | apply ite_leads | apply State.modAout_leads | apply foldl_leads)
    | ((with_reducible apply covers_trans hp); decide) | ((with_reducible apply covers_trans hp); (casesm* Carrier <;> decide))
    | ((with_reducible apply covers_trans hp); exact rfl) | ((with_reducible apply covers_trans hp); (casesm* Carrier <;> exact rfl))
    | rfl

theorem execWaveSync_leads (src : Nat) (v : Int) (s : State) :
    Out.leads [.hk, .pw, .ports, .entry 0x08 0x030, .ev, .fb] s (execWaveSync src v s) := by
  refine out_intro fun hp h => ?_
  unfold execWaveSync
  refine ⟨_, rfl, ?_⟩
  all_goals repeat' first
    | with_reducible (first
        | intro _ | assumption | apply State.waveSync_leads | apply State.request_leads)
    | ((with_reducible apply covers_trans hp); decide) | ((with_reducible apply covers_trans hp); (casesm* Carrier <;> decide))
    | ((with_reducible apply covers_trans hp); exact rfl) | ((with_reducible apply covers_trans hp); (casesm* Carrier <;> exact rfl))
    | rfl

theorem State.rbClearCmd_leads (s : State) (k : Nat)
    (hp : covers ps [.entry 0x61 0x032, .hk, .entry 0x61 0x002, .entry 0x61 0x004] = true) (h : Leads ps s0 s) : Leads ps s0 (State.rbClearCmd s k) := by
  unfold State.rbClearCmd
  repeat' first
    | with_reducible (first
        | assumption | apply ite_leads | apply wr_leads | apply State.modAout_leads | apply State.aoutOn_leads)
    | ((with_reducible apply covers_trans hp); decide) | ((with_reducible apply covers_trans hp); (casesm* Carrier <;> decide))
    | ((with_reducible apply covers_trans hp); exact rfl) | ((with_reducible apply covers_trans hp); (casesm* Carrier <;> exact rfl))
    | ((with_reducible apply covers_trans hp); ((try casesm* Carrier) <;> (repeat' split) <;> first | decide | rfl)) | rfl

theorem execRbClear_leads (src : Nat) (k : Nat) (s : State) :
    Out.leads [.entry 0x61 0x032, .hk, .entry 0x61 0x002, .entry 0x61 0x004, .pw, .ports, .entry 0x08 0x030, .ev, .fb] s (execRbClear src k s) := by
  refine out_intro fun hp h => ?_
  unfold execRbClear
  refine ⟨_, rfl, ?_⟩
  all_goals repeat' first
    | with_reducible (first
        | intro _ | assumption | apply State.rbClearCmd_leads | apply State.request_leads)
    | ((with_reducible apply covers_trans hp); decide) | ((with_reducible apply covers_trans hp); (casesm* Carrier <;> decide))
    | ((with_reducible apply covers_trans hp); exact rfl) | ((with_reducible apply covers_trans hp); (casesm* Carrier <;> exact rfl))
    | rfl

theorem State.aoutDormant_leads (s : State)
    (hp : covers ps [.hk, .entry 0x61 0x004] = true) (h : Leads ps s0 s) : Leads ps s0 (State.aoutDormant s) := by
  unfold State.aoutDormant
  repeat' first
    | with_reducible (first
        | intro _ | assumption | apply State.modAout_leads | apply wr_leads | apply foldl_leads)
    | ((with_reducible apply covers_trans hp); decide) | ((with_reducible apply covers_trans hp); (casesm* Carrier <;> decide))
    | ((with_reducible apply covers_trans hp); exact rfl) | ((with_reducible apply covers_trans hp); (casesm* Carrier <;> exact rfl))
    | ((with_reducible apply covers_trans hp); ((try casesm* Carrier) <;> (repeat' split) <;> first | decide | rfl)) | rfl

theorem State.aoutWake_leads (s : State)
    (hp : covers ps [.hk, .entry 0x61 0x004] = true) (h : Leads ps s0 s) : Leads ps s0 (State.aoutWake s) := by
  unfold State.aoutWake
  repeat' first
    | with_reducible (first
        | intro _ | assumption | apply ite_leads | apply State.modAout_leads | apply wr_leads | apply foldl_leads)
    | ((with_reducible apply covers_trans hp); decide) | ((with_reducible apply covers_trans hp); (casesm* Carrier <;> decide))
    | ((with_reducible apply covers_trans hp); exact rfl) | ((with_reducible apply covers_trans hp); (casesm* Carrier <;> exact rfl))
    | ((with_reducible apply covers_trans hp); ((try casesm* Carrier) <;> (repeat' split) <;> first | decide | rfl)) | rfl

end Sys2Proof.Machine
end

