-- ==== Sys2Proof/Laws/FrameMonitorFilter.lean ====
section
/-! SUPPORT. Frames of the operations and meanings of Machine/MonitorFilter.lean. -/

namespace Sys2Proof.Machine

variable {ps : List Part} {s0 : State}

theorem State.putSheet_leads (s : State) (y sheet : Nat) (taps : List Int)
    (hp : covers ps [.entry 0x62 0x021, .entry 0x62 0x022] = true) (h : Leads ps s0 s) : Leads ps s0 (State.putSheet s y sheet taps) := by
  refine foldl_leads h (fun x a hx => wr_leads _ _ ?_ hx)
  refine covers_trans hp ?_
  unfold sheetTap
  split <;> rfl

theorem State.mfLoad_leads (s : State) (y : Nat) (taps : List Int) (released : Bool)
    (hp : covers ps [.entry 0x62 0x021, .entry 0x62 0x022, .hk] = true) (h : Leads ps s0 s) : Leads ps s0 (State.mfLoad s y taps released) := by
  unfold State.mfLoad
  repeat' first
    | with_reducible (first
        | assumption | apply State.putSheet_leads | apply State.modMf_leads)
    | ((with_reducible apply covers_trans hp); decide) | ((with_reducible apply covers_trans hp); (casesm* Carrier <;> decide))
    | ((with_reducible apply covers_trans hp); exact rfl) | ((with_reducible apply covers_trans hp); (casesm* Carrier <;> exact rfl))
    | rfl

theorem State.mfActivate_leads (s : State) (y : Nat) (taps : List Int)
    (hp : covers ps [.entry 0x62 0x021, .entry 0x62 0x022, .hk] = true) (h : Leads ps s0 s) : Leads ps s0 (State.mfActivate s y taps) := by
  unfold State.mfActivate
  repeat' first
    | with_reducible (first
        | assumption | apply State.putSheet_leads | apply State.modMf_leads)
    | ((with_reducible apply covers_trans hp); decide) | ((with_reducible apply covers_trans hp); (casesm* Carrier <;> decide))
    | ((with_reducible apply covers_trans hp); exact rfl) | ((with_reducible apply covers_trans hp); (casesm* Carrier <;> exact rfl))
    | rfl

theorem State.mfSwap_leads (s : State) (y : Nat)
    (hp : covers ps [.entry 0x62 0x021, .entry 0x62 0x022, .hk, .entry 0x62 0x014, .ev, .fb, .entry 0x62 0x013] = true) (h : Leads ps s0 s) : Leads ps s0 (State.mfSwap s y) := by
  unfold State.mfSwap
  repeat' first
    | with_reducible (first
        | assumption | apply ite_leads | apply State.mfActivate_leads | apply State.modMf_leads | apply State.bump_leads
        | apply State.raise_leads | apply State.mfLoad_leads)
    | ((with_reducible apply covers_trans hp); decide) | ((with_reducible apply covers_trans hp); (casesm* Carrier <;> decide))
    | ((with_reducible apply covers_trans hp); exact rfl) | ((with_reducible apply covers_trans hp); (casesm* Carrier <;> exact rfl))
    | rfl

theorem execMfSheetSwap_leads (src : Nat) (y : Nat) (s : State) :
    Out.leads [.entry 0x62 0x021, .entry 0x62 0x022, .hk, .entry 0x62 0x014, .ev, .fb, .entry 0x62 0x013, .pw, .ports, .entry 0x08 0x030] s (execMfSheetSwap src y s) := by
  refine out_intro fun hp h => ?_
  unfold execMfSheetSwap
  refine ⟨_, rfl, ?_⟩
  all_goals repeat' first
    | with_reducible (first
        | intro _ | assumption | apply State.mfSwap_leads | apply State.request_leads)
    | ((with_reducible apply covers_trans hp); decide) | ((with_reducible apply covers_trans hp); (casesm* Carrier <;> decide))
    | ((with_reducible apply covers_trans hp); exact rfl) | ((with_reducible apply covers_trans hp); (casesm* Carrier <;> exact rfl))
    | rfl

theorem execMfSwapLoaded_leads (y : Nat) (s : State) :
    Out.leads [.hk] s (execMfSwapLoaded y s) := by
  refine out_intro fun hp h => ?_
  unfold execMfSwapLoaded
  refine ⟨_, rfl, ?_⟩
  all_goals repeat' first
    | with_reducible (first
        | intro _ | assumption | apply State.modMf_leads | apply when_leads)
    | ((with_reducible apply covers_trans hp); decide) | ((with_reducible apply covers_trans hp); (casesm* Carrier <;> decide))
    | ((with_reducible apply covers_trans hp); exact rfl) | ((with_reducible apply covers_trans hp); (casesm* Carrier <;> exact rfl))
    | rfl

theorem State.mfFadeEnd_leads (s : State) (y : Nat)
    (hp : covers ps [.hk, .ev, .fb] = true) (h : Leads ps s0 s) : Leads ps s0 (State.mfFadeEnd s y) := by
  unfold State.mfFadeEnd
  repeat' first
    | with_reducible (first
        | assumption | apply State.modMf_leads | apply State.raise_leads)
    | ((with_reducible apply covers_trans hp); decide) | ((with_reducible apply covers_trans hp); (casesm* Carrier <;> decide))
    | ((with_reducible apply covers_trans hp); exact rfl) | ((with_reducible apply covers_trans hp); (casesm* Carrier <;> exact rfl))
    | rfl

theorem State.mfReset_leads (s : State) (y : Nat)
    (hp : covers ps [.hk, .ev, .fb, .entry 0x62 0x021, .entry 0x62 0x022] = true) (h : Leads ps s0 s) : Leads ps s0 (State.mfReset s y) := by
  unfold State.mfReset
  repeat' first
    | with_reducible (first
        | assumption | apply ite_leads | apply State.mfFadeEnd_leads | apply State.mfActivate_leads | apply State.modMf_leads)
    | ((with_reducible apply covers_trans hp); decide) | ((with_reducible apply covers_trans hp); (casesm* Carrier <;> decide))
    | ((with_reducible apply covers_trans hp); exact rfl) | ((with_reducible apply covers_trans hp); (casesm* Carrier <;> exact rfl))
    | split | rfl

theorem State.mfSyncDue_leads (s : State) (y : Nat)
    (hp : covers ps [.hk] = true) (h : Leads ps s0 s) : Leads ps s0 (State.mfSyncDue s y) := by
  unfold State.mfSyncDue
  repeat' first
    | with_reducible (first
        | assumption | apply State.modMf_leads)
    | ((with_reducible apply covers_trans hp); decide) | ((with_reducible apply covers_trans hp); (casesm* Carrier <;> decide))
    | ((with_reducible apply covers_trans hp); exact rfl) | ((with_reducible apply covers_trans hp); (casesm* Carrier <;> exact rfl))
    | rfl

theorem State.mfSyncAll_leads (s : State) (x1 : Nat)
    (hp : covers ps [.hk] = true) (h : Leads ps s0 s) : Leads ps s0 (State.mfSyncAll s x1) := by
  unfold State.mfSyncAll
  repeat' first
    | with_reducible (first
        | intro _ | assumption | apply State.mfSyncDue_leads | apply foldl_leads)
    | ((with_reducible apply covers_trans hp); decide) | ((with_reducible apply covers_trans hp); (casesm* Carrier <;> decide))
    | ((with_reducible apply covers_trans hp); exact rfl) | ((with_reducible apply covers_trans hp); (casesm* Carrier <;> exact rfl))
    | rfl

theorem execMfSync_leads (src : Nat) (v : Int) (s : State) :
    Out.leads [.hk, .pw, .ports, .entry 0x08 0x030, .ev, .fb] s (execMfSync src v s) := by
  refine out_intro fun hp h => ?_
  unfold execMfSync
  refine ⟨_, rfl, ?_⟩
  all_goals repeat' first
    | with_reducible (first
        | intro _ | assumption | apply ite_leads | apply State.mfSyncDue_leads | apply State.request_leads | apply foldl_leads)
    | ((with_reducible apply covers_trans hp); decide) | ((with_reducible apply covers_trans hp); (casesm* Carrier <;> decide))
    | ((with_reducible apply covers_trans hp); exact rfl) | ((with_reducible apply covers_trans hp); (casesm* Carrier <;> exact rfl))
    | rfl

theorem State.mfWatch_leads (s : State) (old : State) (k : Key)
    (hp : covers ps [.hk] = true) (h : Leads ps s0 s) : Leads ps s0 (State.mfWatch s old k) := by
  unfold State.mfWatch
  repeat' first
    | with_reducible (first
        | assumption | apply ite_leads | apply State.mfSyncAll_leads | apply State.mfSyncDue_leads)
    | ((with_reducible apply covers_trans hp); decide) | ((with_reducible apply covers_trans hp); (casesm* Carrier <;> decide))
    | ((with_reducible apply covers_trans hp); exact rfl) | ((with_reducible apply covers_trans hp); (casesm* Carrier <;> exact rfl))
    | rfl

theorem execHkEnableWrite_leads (src : Nat) (x1 : Nat) (v : Int) (s : State) :
    Out.leads [.entry 0x60 0x000, .ed, .entry 0x02 0x042, .ev, .fb, .hk, .entry 0x60 0x027, .entry 0x60 0x031, .entry 0x60 0x003, .pw, .ports, .entry 0x08 0x030] s (execHkEnableWrite src x1 v s) := by
  refine out_intro fun hp h => ?_
  unfold execHkEnableWrite
  refine ⟨_, rfl, ?_⟩
  all_goals repeat' first
    | with_reducible (first
        | intro _ | assumption | apply rwEffect_leads | apply State.hkEnableEffect_leads | apply State.mfWatch_leads
        | apply State.request_leads)
    | ((with_reducible apply covers_trans hp); decide) | ((with_reducible apply covers_trans hp); (casesm* Carrier <;> decide))
    | ((with_reducible apply covers_trans hp); exact rfl) | ((with_reducible apply covers_trans hp); (casesm* Carrier <;> exact rfl))
    | ((with_reducible apply covers_trans hp); ((try casesm* Carrier) <;> (repeat' split) <;> first | decide | rfl)) | rfl

theorem State.mfRecord_leads (s : State) (y : Nat) (word : Nat)
    (hp : covers ps [.entry 0x62 0x030, .entry 0x62 0x031, .entry 0x62 0x033, .hk, .entry 0x62 0x034, .ev, .fb] = true) (h : Leads ps s0 s) : Leads ps s0 (State.mfRecord s y word) := by
  unfold State.mfRecord
  repeat' first
    | with_reducible (first
        | assumption | apply ite_leads | apply wr_leads | apply State.wrap16_leads | apply State.modMf_leads | apply State.bump_leads
        | apply State.raise_leads)
    | ((with_reducible apply covers_trans hp); decide) | ((with_reducible apply covers_trans hp); (casesm* Carrier <;> decide))
    | ((with_reducible apply covers_trans hp); exact rfl) | ((with_reducible apply covers_trans hp); (casesm* Carrier <;> exact rfl))
    | ((with_reducible apply covers_trans hp); ((try casesm* Carrier) <;> (repeat' split) <;> first | decide | rfl)) | rfl

theorem State.mfDeliver_leads (s : State) (y : Nat) (fine : Int)
    (hp : covers ps [.hk, .ev, .fb, .entry 0x62 0x030, .entry 0x62 0x031, .entry 0x62 0x033, .entry 0x62 0x034, .entry 0x62 0x021, .entry 0x62 0x022] = true) (h : Leads ps s0 s) : Leads ps s0 (State.mfDeliver s y fine) := by
  unfold State.mfDeliver
  repeat' first
    | with_reducible (first
        | assumption | apply ite_leads | apply State.modMf_leads | apply State.raise_leads | apply State.mfRecord_leads
        | apply State.mfFadeEnd_leads | apply State.mfLoad_leads)
    | ((with_reducible apply covers_trans hp); decide) | ((with_reducible apply covers_trans hp); (casesm* Carrier <;> decide))
    | ((with_reducible apply covers_trans hp); exact rfl) | ((with_reducible apply covers_trans hp); (casesm* Carrier <;> exact rfl))
    | dsimp only | split | rfl

theorem State.mfFir_leads (s : State) (y : Nat) (u : Int)
    (hp : covers ps [.hk, .entry 0x62 0x036, .ev, .fb, .entry 0x62 0x030, .entry 0x62 0x031, .entry 0x62 0x033, .entry 0x62 0x034, .entry 0x62 0x021, .entry 0x62 0x022] = true) (h : Leads ps s0 s) : Leads ps s0 (State.mfFir s y u) := by
  unfold State.mfFir
  repeat' first
    | with_reducible (first
        | assumption | apply ite_leads | apply State.modMf_leads | apply State.bump_leads | apply State.mfDeliver_leads)
    | ((with_reducible apply covers_trans hp); decide) | ((with_reducible apply covers_trans hp); (casesm* Carrier <;> decide))
    | ((with_reducible apply covers_trans hp); exact rfl) | ((with_reducible apply covers_trans hp); (casesm* Carrier <;> exact rfl))
    | ((with_reducible apply covers_trans hp); ((try casesm* Carrier) <;> (repeat' split) <;> first | decide | rfl)) | rfl

theorem State.mfEnter_leads (s : State) (y : Nat) (x : Int) (t : Nat)
    (hp : covers ps [.hk, .entry 0x62 0x036, .ev, .fb, .entry 0x62 0x030, .entry 0x62 0x031, .entry 0x62 0x033, .entry 0x62 0x034, .entry 0x62 0x021, .entry 0x62 0x022] = true) (h : Leads ps s0 s) : Leads ps s0 (State.mfEnter s y x t) := by
  unfold State.mfEnter
  repeat' first
    | with_reducible (first
        | assumption | apply State.modMf_leads | apply State.mfFir_leads)
    | ((with_reducible apply covers_trans hp); decide) | ((with_reducible apply covers_trans hp); (casesm* Carrier <;> decide))
    | ((with_reducible apply covers_trans hp); exact rfl) | ((with_reducible apply covers_trans hp); (casesm* Carrier <;> exact rfl))
    | dsimp only | split | rfl

theorem State.mfProcess_leads (s : State) (y : Nat) (f : Nat × Nat × Nat)
    (hp : covers ps [.hk, .ev, .fb, .entry 0x62 0x021, .entry 0x62 0x022, .entry 0x62 0x036, .entry 0x62 0x030, .entry 0x62 0x031, .entry 0x62 0x033, .entry 0x62 0x034] = true) (h : Leads ps s0 s) : Leads ps s0 (State.mfProcess s y f) := by
  unfold State.mfProcess
  repeat' first
    | with_reducible (first
        | assumption | apply ite_leads | apply State.mfReset_leads | apply State.modMf_leads | apply State.mfEnter_leads)
    | ((with_reducible apply covers_trans hp); decide) | ((with_reducible apply covers_trans hp); (casesm* Carrier <;> decide))
    | ((with_reducible apply covers_trans hp); exact rfl) | ((with_reducible apply covers_trans hp); (casesm* Carrier <;> exact rfl))
    | rfl

theorem State.mfFill_leads (s : State) (y : Nat)
    (hp : covers ps [.hk, .entry 0x62 0x035, .ev, .fb, .entry 0x62 0x036, .entry 0x62 0x030, .entry 0x62 0x031, .entry 0x62 0x033, .entry 0x62 0x034, .entry 0x62 0x021, .entry 0x62 0x022] = true) (h : Leads ps s0 s) : Leads ps s0 (State.mfFill s y) := by
  unfold State.mfFill
  repeat' first
    | with_reducible (first
        | assumption | apply State.modMf_leads | apply State.bump_leads | apply State.raise_leads | apply State.mfEnter_leads)
    | ((with_reducible apply covers_trans hp); decide) | ((with_reducible apply covers_trans hp); (casesm* Carrier <;> decide))
    | ((with_reducible apply covers_trans hp); exact rfl) | ((with_reducible apply covers_trans hp); (casesm* Carrier <;> exact rfl))
    | rfl

theorem execMfChannelProcess_leads (y : Nat) (gap : Bool) (s : State) :
    Out.leads [.hk, .entry 0x62 0x035, .ev, .fb, .entry 0x62 0x036, .entry 0x62 0x030, .entry 0x62 0x031, .entry 0x62 0x033, .entry 0x62 0x034, .entry 0x62 0x021, .entry 0x62 0x022] s (execMfChannelProcess y gap s) := by
  refine out_intro fun hp h => ?_
  unfold execMfChannelProcess
  repeat' first | refine ⟨_, rfl, ?_⟩ | dsimp only | split
  all_goals repeat' first
    | with_reducible (first
        | intro _ | assumption | apply State.mfFill_leads | apply when_leads | apply State.mfProcess_leads)
    | ((with_reducible apply covers_trans hp); decide) | ((with_reducible apply covers_trans hp); (casesm* Carrier <;> decide))
    | ((with_reducible apply covers_trans hp); exact rfl) | ((with_reducible apply covers_trans hp); (casesm* Carrier <;> exact rfl))
    | split | rfl

end Sys2Proof.Machine
end

