-- ==== Sys2Proof/Laws/FrameTraverse.lean ====
section
/-! SUPPORT. Frames of the operations and meanings of Machine/Traverse.lean. -/

namespace Sys2Proof.Machine

variable {ps : List Part} {s0 : State}

theorem State.modLink_leads (s : State) (l : Nat) (f : TvLink → TvLink)
    (hp : covers ps [.tv] = true) (h : Leads ps s0 s) : Leads ps s0 (State.modLink s l f) := by
  unfold State.modLink
  repeat' first
    | with_reducible (first
        | assumption | (apply Or.inr; rfl) | rfl)
    | ((with_reducible apply covers_trans hp); decide) | ((with_reducible apply covers_trans hp); (casesm* Carrier <;> decide))
    | ((with_reducible apply covers_trans hp); exact rfl) | ((with_reducible apply covers_trans hp); (casesm* Carrier <;> exact rfl))
    | ((with_reducible (apply Or.inl; apply within_of_covers; apply covers_trans hp)); decide) | dsimp only
    | with_reducible apply Leads.upd | rfl

theorem State.returnCredit_leads (s : State) (b : Option (Nat × Nat × Nat))
    (hp : covers ps [.tv] = true) (h : Leads ps s0 s) : Leads ps s0 (State.returnCredit s b) := by
  unfold State.returnCredit
  repeat' first
    | with_reducible (first
        | assumption | apply ite_leads | apply State.modLink_leads)
    | ((with_reducible apply covers_trans hp); decide) | ((with_reducible apply covers_trans hp); (casesm* Carrier <;> decide))
    | ((with_reducible apply covers_trans hp); exact rfl) | ((with_reducible apply covers_trans hp); (casesm* Carrier <;> exact rfl))
    | split | rfl

theorem State.startLink_leads (s : State) (l : Nat) (t : Rat)
    (hp : covers ps [.tv, .carA, .carB] = true) (h : Leads ps s0 s) : Leads ps s0 (State.startLink s l t) := by
  unfold State.startLink
  repeat' first
    | with_reducible (first
        | assumption | apply ite_leads | apply State.modLink_leads | apply State.modTx_leads)
    | ((with_reducible apply covers_trans hp); decide) | ((with_reducible apply covers_trans hp); (casesm* Carrier <;> decide))
    | ((with_reducible apply covers_trans hp); exact rfl) | ((with_reducible apply covers_trans hp); (casesm* Carrier <;> exact rfl))
    | ((with_reducible apply covers_trans hp); (generalize ibCarrier _ = c; cases c <;> first | decide | rfl)) | dsimp only | split
    | rfl

theorem State.enqueue_leads (s : State) (l : Nat) (o : TvOut) (t : Rat)
    (hp : covers ps [.tv, .carA, .carB, .entry 0x50 0x017, .ev, .fb] = true) (h : Leads ps s0 s) : Leads ps s0 (State.enqueue s l o t) := by
  unfold State.enqueue
  repeat' first
    | with_reducible (first
        | intro _ | assumption | apply ite_leads | apply State.modLink_leads | apply State.startLink_leads | apply State.bump_leads
        | apply State.returnCredit_leads | apply foldl_leads)
    | ((with_reducible apply covers_trans hp); decide) | ((with_reducible apply covers_trans hp); (casesm* Carrier <;> decide))
    | ((with_reducible apply covers_trans hp); exact rfl) | ((with_reducible apply covers_trans hp); (casesm* Carrier <;> exact rfl))
    | ((with_reducible apply covers_trans hp); ((try casesm* Carrier) <;> (repeat' split) <;> first | decide | rfl)) | rfl

theorem State.sendIdle_leads (s : State) (l : Nat)
    (hp : covers ps [.tv] = true) (h : Leads ps s0 s) : Leads ps s0 (State.sendIdle s l) := by
  unfold State.sendIdle
  repeat' first
    | with_reducible (first
        | assumption | apply State.modLink_leads)
    | ((with_reducible apply covers_trans hp); decide) | ((with_reducible apply covers_trans hp); (casesm* Carrier <;> decide))
    | ((with_reducible apply covers_trans hp); exact rfl) | ((with_reducible apply covers_trans hp); (casesm* Carrier <;> exact rfl))
    | rfl

theorem execTvFrameSent_leads (l : Nat) (s : State) :
    Out.leads [.tv, .carA, .carB, .entry 0x50 0x009, .ev, .fb] s (execTvFrameSent l s) := by
  refine out_intro fun hp h => ?_
  unfold execTvFrameSent
  repeat' first | refine ⟨_, rfl, ?_⟩ | dsimp only | split
  all_goals repeat' first
    | with_reducible (first
        | intro _ | assumption | apply ite_leads | apply State.modLink_leads | apply State.modTx_leads | apply State.wrapN_leads
        | apply State.sendIdle_leads | apply State.returnCredit_leads | apply State.startLink_leads | apply when_leads)
    | ((with_reducible apply covers_trans hp); decide) | ((with_reducible apply covers_trans hp); (casesm* Carrier <;> decide))
    | ((with_reducible apply covers_trans hp); exact rfl) | ((with_reducible apply covers_trans hp); (casesm* Carrier <;> exact rfl))
    | ((with_reducible apply covers_trans hp); (generalize ibCarrier _ = c; cases c <;> first | decide | rfl)) | split | rfl

theorem State.datumHold_leads (s : State)
    (hp : covers ps [.entry 0x50 0x021, .ev, .fb] = true) (h : Leads ps s0 s) : Leads ps s0 (State.datumHold s) := by
  unfold State.datumHold
  repeat' first
    | with_reducible (first
        | assumption | apply ite_leads | apply wr_leads | apply State.raise_leads)
    | ((with_reducible apply covers_trans hp); decide) | ((with_reducible apply covers_trans hp); (casesm* Carrier <;> decide))
    | ((with_reducible apply covers_trans hp); exact rfl) | ((with_reducible apply covers_trans hp); (casesm* Carrier <;> exact rfl))
    | rfl

theorem State.linkLost_leads (s : State) (l : Nat)
    (hp : covers ps [.tv, .entry 0x50 0x006, .entry 0x50 0x021, .ev, .fb] = true) (h : Leads ps s0 s) : Leads ps s0 (State.linkLost s l) := by
  unfold State.linkLost
  repeat' first
    | with_reducible (first
        | intro _ | assumption | apply ite_leads | apply State.modLink_leads | apply wr_leads | apply State.returnCredit_leads
        | apply State.datumHold_leads | apply foldl_leads)
    | ((with_reducible apply covers_trans hp); decide) | ((with_reducible apply covers_trans hp); (casesm* Carrier <;> decide))
    | ((with_reducible apply covers_trans hp); exact rfl) | ((with_reducible apply covers_trans hp); (casesm* Carrier <;> exact rfl))
    | ((with_reducible apply covers_trans hp); ((try casesm* Carrier) <;> (repeat' split) <;> first | decide | rfl)) | rfl

theorem State.portTo_leads (s : State) (l : Nat) (st : Int)
    (hp : covers ps [.entry 0x50 0x002, .tv, .entry 0x50 0x006, .entry 0x50 0x021, .ev, .fb] = true) (h : Leads ps s0 s) : Leads ps s0 (State.portTo s l st) := by
  unfold State.portTo
  repeat' first
    | with_reducible (first
        | assumption | apply ite_leads | apply wr_leads | apply State.linkLost_leads | apply State.modLink_leads)
    | ((with_reducible apply covers_trans hp); decide) | ((with_reducible apply covers_trans hp); (casesm* Carrier <;> decide))
    | ((with_reducible apply covers_trans hp); exact rfl) | ((with_reducible apply covers_trans hp); (casesm* Carrier <;> exact rfl))
    | ((with_reducible apply covers_trans hp); ((try casesm* Carrier) <;> (repeat' split) <;> first | decide | rfl)) | rfl

theorem State.tvEnable_leads (s : State) (l : Nat)
    (hp : covers ps [.entry 0x50 0x002, .tv, .entry 0x50 0x006, .entry 0x50 0x021, .ev, .fb] = true) (h : Leads ps s0 s) : Leads ps s0 (State.tvEnable s l) := by
  unfold State.tvEnable
  repeat' first
    | with_reducible (first
        | assumption | apply ite_leads | apply State.portTo_leads)
    | ((with_reducible apply covers_trans hp); decide) | ((with_reducible apply covers_trans hp); (casesm* Carrier <;> decide))
    | ((with_reducible apply covers_trans hp); exact rfl) | ((with_reducible apply covers_trans hp); (casesm* Carrier <;> exact rfl))
    | rfl

theorem execTvEnableWrite_leads (src : Nat) (v : Int) (s : State) :
    Out.leads [.entry 0x50 0x002, .tv, .entry 0x50 0x006, .entry 0x50 0x021, .ev, .fb, .entry 0x50 0x000, .ed, .entry 0x02 0x042, .pw, .ports, .entry 0x08 0x030] s (execTvEnableWrite src v s) := by
  refine out_intro fun hp h => ?_
  unfold execTvEnableWrite
  refine ⟨_, rfl, ?_⟩
  all_goals repeat' first
    | with_reducible (first
        | intro _ | assumption | apply State.tvEnable_leads | apply rwEffect_leads | apply State.request_leads | apply foldl_leads)
    | ((with_reducible apply covers_trans hp); decide) | ((with_reducible apply covers_trans hp); (casesm* Carrier <;> decide))
    | ((with_reducible apply covers_trans hp); exact rfl) | ((with_reducible apply covers_trans hp); (casesm* Carrier <;> exact rfl))
    | rfl

theorem execPortLoopbackWrite_leads (src : Nat) (l : Nat) (v : Int) (s : State) :
    Out.leads [.entry 0x50 0x003, .ed, .entry 0x02 0x042, .ev, .fb, .entry 0x50 0x002, .tv, .entry 0x50 0x006, .entry 0x50 0x021, .pw, .ports, .entry 0x08 0x030] s (execPortLoopbackWrite src l v s) := by
  refine out_intro fun hp h => ?_
  unfold execPortLoopbackWrite
  refine ⟨_, rfl, ?_⟩
  all_goals repeat' first
    | with_reducible (first
        | intro _ | assumption | apply ite_leads | apply rwEffect_leads | apply State.portTo_leads | apply State.request_leads
        | apply ite_fst_leads)
    | ((with_reducible apply covers_trans hp); decide) | ((with_reducible apply covers_trans hp); (casesm* Carrier <;> decide))
    | ((with_reducible apply covers_trans hp); exact rfl) | ((with_reducible apply covers_trans hp); (casesm* Carrier <;> exact rfl))
    | ((with_reducible apply covers_trans hp); ((try casesm* Carrier) <;> (repeat' split) <;> first | decide | rfl)) | rfl

theorem State.portTrain_leads (s : State) (l : Nat)
    (hp : covers ps [.entry 0x50 0x002, .tv, .entry 0x50 0x006, .entry 0x50 0x021, .ev, .fb, .entry 0x50 0x005] = true) (h : Leads ps s0 s) : Leads ps s0 (State.portTrain s l) := by
  unfold State.portTrain
  repeat' first
    | with_reducible (first
        | assumption | apply State.portTo_leads | apply State.modLink_leads | apply wr_leads)
    | ((with_reducible apply covers_trans hp); decide) | ((with_reducible apply covers_trans hp); (casesm* Carrier <;> decide))
    | ((with_reducible apply covers_trans hp); exact rfl) | ((with_reducible apply covers_trans hp); (casesm* Carrier <;> exact rfl))
    | ((with_reducible apply covers_trans hp); ((try casesm* Carrier) <;> (repeat' split) <;> first | decide | rfl)) | rfl

theorem execTvTrainingSetRx_leads (l : Nat) (req : Nat) (resp : Nat) (eye0 : Nat) (eye1 : Nat) (s : State) :
    Out.leads [.tv, .entry 0x50 0x002, .entry 0x50 0x006, .entry 0x50 0x021, .ev, .fb, .entry 0x50 0x005, .entry 0x50 0x007, .entry 0x50 0x004] s (execTvTrainingSetRx l req resp eye0 eye1 s) := by
  refine out_intro fun hp h => ?_
  unfold execTvTrainingSetRx
  refine ⟨_, rfl, ?_⟩
  all_goals repeat' first
    | with_reducible (first
        | intro _ | assumption | apply ite_leads | apply State.modLink_leads | apply State.portTrain_leads | apply State.bump_leads
        | apply State.raise_leads | apply wr_leads | apply when_leads)
    | ((with_reducible apply covers_trans hp); decide) | ((with_reducible apply covers_trans hp); (casesm* Carrier <;> decide))
    | ((with_reducible apply covers_trans hp); exact rfl) | ((with_reducible apply covers_trans hp); (casesm* Carrier <;> exact rfl))
    | rfl

theorem State.portTick_leads (s : State)
    (hp : covers ps [.tv] = true) (h : Leads ps s0 s) : Leads ps s0 (State.portTick s) := by
  unfold State.portTick
  repeat' first
    | with_reducible (first
        | intro _ | assumption | apply ite_leads | apply State.sendIdle_leads | apply State.modLink_leads | apply foldl_leads)
    | ((with_reducible apply covers_trans hp); decide) | ((with_reducible apply covers_trans hp); (casesm* Carrier <;> decide))
    | ((with_reducible apply covers_trans hp); exact rfl) | ((with_reducible apply covers_trans hp); (casesm* Carrier <;> exact rfl))
    | rfl

theorem execTvTrainingTimeout_leads (l : Nat) (s : State) :
    Out.leads [.entry 0x50 0x007, .ev, .fb, .entry 0x50 0x002, .tv, .entry 0x50 0x006, .entry 0x50 0x021] s (execTvTrainingTimeout l s) := by
  refine out_intro fun hp h => ?_
  unfold execTvTrainingTimeout
  refine ⟨_, rfl, ?_⟩
  all_goals repeat' first
    | with_reducible (first
        | intro _ | assumption | apply State.bump_leads | apply State.portTo_leads | apply when_leads)
    | ((with_reducible apply covers_trans hp); decide) | ((with_reducible apply covers_trans hp); (casesm* Carrier <;> decide))
    | ((with_reducible apply covers_trans hp); exact rfl) | ((with_reducible apply covers_trans hp); (casesm* Carrier <;> exact rfl))
    | ((with_reducible apply covers_trans hp); ((try casesm* Carrier) <;> (repeat' split) <;> first | decide | rfl)) | rfl

theorem execTvPortUp_leads (l : Nat) (skew : Int) (s : State) :
    Out.leads [.entry 0x50 0x002, .entry 0x50 0x00C, .tv, .ev, .fb] s (execTvPortUp l skew s) := by
  refine out_intro fun hp h => ?_
  unfold execTvPortUp
  refine ⟨_, rfl, ?_⟩
  all_goals repeat' first
    | with_reducible (first
        | intro _ | assumption | apply wr_leads | apply State.modLink_leads | apply State.raise_leads | apply when_leads)
    | ((with_reducible apply covers_trans hp); decide) | ((with_reducible apply covers_trans hp); (casesm* Carrier <;> decide))
    | ((with_reducible apply covers_trans hp); exact rfl) | ((with_reducible apply covers_trans hp); (casesm* Carrier <;> exact rfl))
    | ((with_reducible apply covers_trans hp); ((try casesm* Carrier) <;> (repeat' split) <;> first | decide | rfl)) | rfl

theorem execTvPortDown_leads (l : Nat) (s : State) :
    Out.leads [.entry 0x50 0x007, .ev, .fb, .entry 0x50 0x002, .tv, .entry 0x50 0x006, .entry 0x50 0x021] s (execTvPortDown l s) := by
  refine out_intro fun hp h => ?_
  unfold execTvPortDown
  refine ⟨_, rfl, ?_⟩
  all_goals repeat' first
    | with_reducible (first
        | intro _ | assumption | apply State.bump_leads | apply State.raise_leads | apply State.portTo_leads | apply when_leads)
    | ((with_reducible apply covers_trans hp); decide) | ((with_reducible apply covers_trans hp); (casesm* Carrier <;> decide))
    | ((with_reducible apply covers_trans hp); exact rfl) | ((with_reducible apply covers_trans hp); (casesm* Carrier <;> exact rfl))
    | ((with_reducible apply covers_trans hp); ((try casesm* Carrier) <;> (repeat' split) <;> first | decide | rfl)) | rfl

theorem execTvIdleSetRx_leads (l : Nat) (b : Byte) (s : State) :
    Out.leads [.tv, .carA, .carB] s (execTvIdleSetRx l b s) := by
  refine out_intro fun hp h => ?_
  unfold execTvIdleSetRx
  refine ⟨_, rfl, ?_⟩
  all_goals repeat' first
    | with_reducible (first
        | intro _ | assumption | apply State.modLink_leads | apply State.startLink_leads | apply when_leads)
    | ((with_reducible apply covers_trans hp); decide) | ((with_reducible apply covers_trans hp); (casesm* Carrier <;> decide))
    | ((with_reducible apply covers_trans hp); exact rfl) | ((with_reducible apply covers_trans hp); (casesm* Carrier <;> exact rfl))
    | rfl

theorem State.dedupPut_leads (s : State) (f : TvFrame)
    (hp : covers ps [.tv] = true) (h : Leads ps s0 s) : Leads ps s0 (State.dedupPut s f) := by
  unfold State.dedupPut
  repeat' first
    | with_reducible (first
        | assumption | (apply Or.inr; rfl) | rfl)
    | ((with_reducible apply covers_trans hp); decide) | ((with_reducible apply covers_trans hp); (casesm* Carrier <;> decide))
    | ((with_reducible apply covers_trans hp); exact rfl) | ((with_reducible apply covers_trans hp); (casesm* Carrier <;> exact rfl))
    | ((with_reducible (apply Or.inl; apply within_of_covers; apply covers_trans hp)); decide) | dsimp only
    | with_reducible apply Leads.upd | rfl

theorem execDedupEntryExpire_leads (src : Nat) (s : State) :
    Out.leads [.tv] s (execDedupEntryExpire src s) := by
  refine out_intro fun hp h => ?_
  unfold execDedupEntryExpire
  refine ⟨_, rfl, ?_⟩
  all_goals repeat' first
    | with_reducible (first
        | assumption | (apply Or.inr; rfl) | rfl)
    | ((with_reducible apply covers_trans hp); decide) | ((with_reducible apply covers_trans hp); (casesm* Carrier <;> decide))
    | ((with_reducible apply covers_trans hp); exact rfl) | ((with_reducible apply covers_trans hp); (casesm* Carrier <;> exact rfl))
    | ((with_reducible (apply Or.inl; apply within_of_covers; apply covers_trans hp)); decide) | dsimp only
    | with_reducible apply Leads.upd | rfl

theorem State.tvDeliver_leads (s : State) (f : TvFrame) (l : Nat) (t : Rat)
    (hp : covers ps [.tv] = true) (h : Leads ps s0 s) : Leads ps s0 (State.tvDeliver s f l t) := by
  unfold State.tvDeliver
  repeat' first
    | with_reducible (first
        | assumption | (apply Or.inr; rfl) | rfl)
    | ((with_reducible apply covers_trans hp); decide) | ((with_reducible apply covers_trans hp); (casesm* Carrier <;> decide))
    | ((with_reducible apply covers_trans hp); exact rfl) | ((with_reducible apply covers_trans hp); (casesm* Carrier <;> exact rfl))
    | ((with_reducible (apply Or.inl; apply within_of_covers; apply covers_trans hp)); decide) | dsimp only
    | with_reducible apply Leads.upd | rfl

theorem State.sendOn_leads (s : State) (ls : List Nat) (o : TvOut)
    (hp : covers ps [.tv, .carA, .carB, .entry 0x50 0x017, .ev, .fb] = true) (h : Leads ps s0 s) : Leads ps s0 (State.sendOn s ls o) := by
  unfold State.sendOn
  repeat' first
    | with_reducible (first
        | intro _ | assumption | apply State.enqueue_leads | apply foldl_leads)
    | ((with_reducible apply covers_trans hp); decide) | ((with_reducible apply covers_trans hp); (casesm* Carrier <;> decide))
    | ((with_reducible apply covers_trans hp); exact rfl) | ((with_reducible apply covers_trans hp); (casesm* Carrier <;> exact rfl))
    | rfl

theorem State.tvFlood_leads (s : State) (f : TvFrame) (from_ : Nat) (o : TvOut) (good : Bool) (t : Rat)
    (hp : covers ps [.entry 0x50 0x019, .ev, .fb, .tv, .entry 0x50 0x018, .carA, .carB, .entry 0x50 0x017] = true) (h : Leads ps s0 s) : Leads ps s0 (State.tvFlood s f from_ o good t) := by
  unfold State.tvFlood
  repeat' first
    | with_reducible (first
        | assumption | apply ite_leads | apply State.bump_leads | apply State.dedupPut_leads | apply State.sendOn_leads
        | apply State.tvDeliver_leads)
    | ((with_reducible apply covers_trans hp); decide) | ((with_reducible apply covers_trans hp); (casesm* Carrier <;> decide))
    | ((with_reducible apply covers_trans hp); exact rfl) | ((with_reducible apply covers_trans hp); (casesm* Carrier <;> exact rfl))
    | rfl

theorem State.tvRoute_leads (s : State) (f : TvFrame) (from_ : Nat) (o : TvOut) (good : Bool) (t : Rat)
    (hp : covers ps [.entry 0x50 0x019, .ev, .fb, .tv, .entry 0x50 0x018, .carA, .carB, .entry 0x50 0x017] = true) (h : Leads ps s0 s) : Leads ps s0 (State.tvRoute s f from_ o good t) := by
  unfold State.tvRoute
  repeat' first
    | with_reducible (first
        | assumption | apply ite_leads | apply State.tvFlood_leads | apply State.tvDeliver_leads | apply State.bump_leads
        | apply State.enqueue_leads)
    | ((with_reducible apply covers_trans hp); decide) | ((with_reducible apply covers_trans hp); (casesm* Carrier <;> decide))
    | ((with_reducible apply covers_trans hp); exact rfl) | ((with_reducible apply covers_trans hp); (casesm* Carrier <;> exact rfl))
    | split | rfl

theorem State.tvArrive_leads (s : State) (f : TvFrame) (l : Nat) (good : Bool) (buf : Option (Nat × Nat × Nat)) (t : Rat)
    (hp : covers ps [.entry 0x50 0x00B, .ev, .fb, .tv, .entry 0x50 0x019, .entry 0x50 0x018, .carA, .carB, .entry 0x50 0x017] = true) (h : Leads ps s0 s) : Leads ps s0 (State.tvArrive s f l good buf t) := by
  unfold State.tvArrive
  repeat' first
    | with_reducible (first
        | assumption | apply ite_leads | apply State.bump_leads | apply State.tvDeliver_leads | apply State.tvRoute_leads
        | (apply Or.inr; rfl) | rfl)
    | ((with_reducible apply covers_trans hp); decide) | ((with_reducible apply covers_trans hp); (casesm* Carrier <;> decide))
    | ((with_reducible apply covers_trans hp); exact rfl) | ((with_reducible apply covers_trans hp); (casesm* Carrier <;> exact rfl))
    | ((with_reducible apply covers_trans hp); ((try casesm* Carrier) <;> (repeat' split) <;> first | decide | rfl))
    | ((with_reducible (apply Or.inl; apply within_of_covers; apply covers_trans hp)); decide) | dsimp only
    | with_reducible apply Leads.upd | rfl

theorem execTvFrameRx_leads (l : Nat) (bytes : List Byte) (killed : Bool) (s : State) :
    Out.leads [.entry 0x50 0x008, .ev, .fb, .entry 0x50 0x00B, .entry 0x50 0x00A, .tv, .entry 0x50 0x019, .entry 0x50 0x018, .carA, .carB, .entry 0x50 0x017] s (execTvFrameRx l bytes killed s) := by
  refine out_intro fun hp h => ?_
  unfold execTvFrameRx
  repeat' first | refine ⟨_, rfl, ?_⟩ | dsimp only | split
  all_goals repeat' first
    | with_reducible (first
        | intro _ | assumption | apply State.wrapN_leads | apply State.bump_leads | apply State.modLink_leads
        | apply State.tvArrive_leads | apply State.returnCredit_leads | apply when_leads)
    | ((with_reducible apply covers_trans hp); decide) | ((with_reducible apply covers_trans hp); (casesm* Carrier <;> decide))
    | ((with_reducible apply covers_trans hp); exact rfl) | ((with_reducible apply covers_trans hp); (casesm* Carrier <;> exact rfl))
    | ((with_reducible apply covers_trans hp); ((try casesm* Carrier) <;> (repeat' split) <;> first | decide | rfl)) | rfl

theorem execIbFrameRx_leads (m : Nat) (stamp : Nat) (s : State) :
    Out.leads [.carA, .carB, .entry 0x50 0x008, .ev, .fb, .tv, .entry 0x50 0x016, .entry 0x50 0x00B, .entry 0x50 0x019, .entry 0x50 0x018, .entry 0x50 0x017] s (execIbFrameRx m stamp s) := by
  refine out_intro fun hp h => ?_
  unfold execIbFrameRx
  repeat' first | refine ⟨_, rfl, ?_⟩ | dsimp only | split
  all_goals repeat' first
    | with_reducible (first
        | intro _ | assumption | apply ite_leads | apply State.modRx_leads | apply State.wrapN_leads | apply State.modLink_leads
        | apply State.bump_leads | apply State.tvArrive_leads | apply when_leads)
    | ((with_reducible apply covers_trans hp); decide) | ((with_reducible apply covers_trans hp); (casesm* Carrier <;> decide))
    | ((with_reducible apply covers_trans hp); exact rfl) | ((with_reducible apply covers_trans hp); (casesm* Carrier <;> exact rfl))
    | ((with_reducible apply covers_trans hp); (generalize ibCarrier _ = c; cases c <;> first | decide | rfl)) | split | rfl

theorem State.originate_leads (s : State) (type : Nat) (bcast : Bool) (cls : Nat) (dst : Nat) (aux : Nat) (payload : List Byte)
    (hp : covers ps [.tv, .entry 0x50 0x019, .ev, .fb, .entry 0x50 0x018, .carA, .carB, .entry 0x50 0x017] = true) (h : Leads ps s0 s) : Leads ps s0 (State.originate s type bcast cls dst aux payload) := by
  unfold State.originate
  repeat' first
    | with_reducible (first
        | assumption | apply State.tvRoute_leads | (apply Or.inr; rfl) | rfl)
    | ((with_reducible apply covers_trans hp); decide) | ((with_reducible apply covers_trans hp); (casesm* Carrier <;> decide))
    | ((with_reducible apply covers_trans hp); exact rfl) | ((with_reducible apply covers_trans hp); (casesm* Carrier <;> exact rfl))
    | ((with_reducible (apply Or.inl; apply within_of_covers; apply covers_trans hp)); decide) | dsimp only
    | with_reducible apply Leads.upd | rfl

theorem State.oneLink_leads (s : State) (type : Nat) (l : Nat) (payload : List Byte) (t : Rat)
    (hp : covers ps [.tv, .carA, .carB, .entry 0x50 0x017, .ev, .fb] = true) (h : Leads ps s0 s) : Leads ps s0 (State.oneLink s type l payload t) := by
  unfold State.oneLink
  repeat' first
    | with_reducible (first
        | assumption | apply State.enqueue_leads)
    | ((with_reducible apply covers_trans hp); decide) | ((with_reducible apply covers_trans hp); (casesm* Carrier <;> decide))
    | ((with_reducible apply covers_trans hp); exact rfl) | ((with_reducible apply covers_trans hp); (casesm* Carrier <;> exact rfl))
    | rfl

theorem State.takeIn_leads (s : State) (type : Nat) {x : TvIn} {t : State}
    (e : State.takeIn s type = some (x, t))
    (hp : covers ps [.tv] = true) (h : Leads ps s0 s) : Leads ps s0 t := by
  unfold State.takeIn at e
  split at e
  · rw [Option.map_eq_some_iff] at e
    obtain ⟨y, -, e⟩ := e
    cases e
    repeat' first
      | with_reducible (first
          | assumption | (apply Or.inr; rfl) | rfl)
      | ((with_reducible apply covers_trans hp); decide) | ((with_reducible apply covers_trans hp); (casesm* Carrier <;> decide))
      | ((with_reducible apply covers_trans hp); exact rfl) | ((with_reducible apply covers_trans hp); (casesm* Carrier <;> exact rfl))
      | ((with_reducible (apply Or.inl; apply within_of_covers; apply covers_trans hp)); decide) | dsimp only
      | with_reducible apply Leads.upd | rfl
  · cases e

theorem State.serve_leads (s : State) (type : Nat) (f : TvIn → State → State)
    (hf2 : ∀ a0 a1, Leads ps s0 a1 → Leads ps s0 (f a0 a1))
    (hp : covers ps [.tv] = true) (h : Leads ps s0 s) : Leads ps s0 (State.serve s type f) := by
  unfold State.serve
  split
  · exact hf2 _ _ (State.takeIn_leads _ _ (by assumption) hp h)
  · exact h

theorem execHelloSend_leads (s : State) :
    Out.leads [.tv, .carA, .carB, .entry 0x50 0x017, .ev, .fb] s (execHelloSend s) := by
  refine out_intro fun hp h => ?_
  unfold execHelloSend
  refine ⟨_, rfl, ?_⟩
  all_goals repeat' first
    | with_reducible (first
        | intro _ | assumption | apply State.oneLink_leads | apply foldl_leads)
    | ((with_reducible apply covers_trans hp); decide) | ((with_reducible apply covers_trans hp); (casesm* Carrier <;> decide))
    | ((with_reducible apply covers_trans hp); exact rfl) | ((with_reducible apply covers_trans hp); (casesm* Carrier <;> exact rfl))
    | rfl

theorem execHelloRx_leads (s : State) :
    Out.leads [.entry 0x50 0x006, .tv, .ev, .fb] s (execHelloRx s) := by
  refine out_intro fun hp h => ?_
  unfold execHelloRx
  refine ⟨_, rfl, ?_⟩
  all_goals repeat' first
    | with_reducible (first
        | intro _ | assumption | apply ite_leads | apply wr_leads | apply State.modLink_leads | apply State.raise_leads
        | apply State.serve_leads)
    | ((with_reducible apply covers_trans hp); decide) | ((with_reducible apply covers_trans hp); (casesm* Carrier <;> decide))
    | ((with_reducible apply covers_trans hp); exact rfl) | ((with_reducible apply covers_trans hp); (casesm* Carrier <;> exact rfl))
    | ((with_reducible apply covers_trans hp); ((try casesm* Carrier) <;> (repeat' split) <;> first | decide | rfl)) | rfl

theorem execNeighbourTimeout_leads (l : Nat) (s : State) :
    Out.leads [.entry 0x50 0x006] s (execNeighbourTimeout l s) := by
  refine out_intro fun hp h => ?_
  unfold execNeighbourTimeout
  refine ⟨_, rfl, ?_⟩
  all_goals repeat' first
    | with_reducible (first
        | intro _ | assumption | apply wr_leads | apply when_leads)
    | ((with_reducible apply covers_trans hp); decide) | ((with_reducible apply covers_trans hp); (casesm* Carrier <;> decide))
    | ((with_reducible apply covers_trans hp); exact rfl) | ((with_reducible apply covers_trans hp); (casesm* Carrier <;> exact rfl))
    | rfl

theorem State.ibWatch_leads (s : State)
    (hp : covers ps [.carA, .carB, .tv, .entry 0x50 0x006, .entry 0x50 0x021, .ev, .fb] = true) (h : Leads ps s0 s) : Leads ps s0 (State.ibWatch s) := by
  unfold State.ibWatch
  repeat' first
    | with_reducible (first
        | intro _ | assumption | apply ite_leads | apply State.modRx_leads | apply State.linkLost_leads | apply foldl_leads)
    | ((with_reducible apply covers_trans hp); decide) | ((with_reducible apply covers_trans hp); (casesm* Carrier <;> decide))
    | ((with_reducible apply covers_trans hp); exact rfl) | ((with_reducible apply covers_trans hp); (casesm* Carrier <;> exact rfl))
    | ((with_reducible apply covers_trans hp); (generalize ibCarrier _ = c; cases c <;> first | decide | rfl)) | rfl

end Sys2Proof.Machine
end

