-- ==== Sys2Proof/Laws/FrameDatum.lean ====
section
/-! SUPPORT. Frames of the operations and meanings of Machine/Datum.lean. -/

namespace Sys2Proof.Machine

variable {ps : List Part} {s0 : State}

theorem State.wrS32_leads (s : State) (k : Key) (v : Int)
    (hp : covers ps [.entry k.area k.entry, .freeCtr] = true) (h : Leads ps s0 s) : Leads ps s0 (State.wrS32 s k v) := by
  unfold State.wrS32
  repeat' first
    | with_reducible (first
        | assumption | apply ite_leads | apply wr_leads | apply State.tookFree_leads)
    | ((with_reducible apply covers_trans hp); decide) | ((with_reducible apply covers_trans hp); (casesm* Carrier <;> decide))
    | ((with_reducible apply covers_trans hp); exact rfl) | ((with_reducible apply covers_trans hp); (casesm* Carrier <;> exact rfl))
    | ((with_reducible apply covers_trans hp); ((try casesm* Carrier) <;> (repeat' split) <;> first | decide | rfl))
    | ((with_reducible apply covers_trans hp); simp [covers, Part.within, Part.car, canonKey_idem]) | rfl

theorem State.wrU32_leads (s : State) (k : Key) (v : Int)
    (hp : covers ps [.entry k.area k.entry, .freeCtr] = true) (h : Leads ps s0 s) : Leads ps s0 (State.wrU32 s k v) := by
  unfold State.wrU32
  repeat' first
    | with_reducible (first
        | assumption | apply ite_leads | apply wr_leads | apply State.tookFree_leads)
    | ((with_reducible apply covers_trans hp); decide) | ((with_reducible apply covers_trans hp); (casesm* Carrier <;> decide))
    | ((with_reducible apply covers_trans hp); exact rfl) | ((with_reducible apply covers_trans hp); (casesm* Carrier <;> exact rfl))
    | ((with_reducible apply covers_trans hp); ((try casesm* Carrier) <;> (repeat' split) <;> first | decide | rfl))
    | ((with_reducible apply covers_trans hp); simp [covers, Part.within, Part.car, canonKey_idem]) | rfl

theorem State.datumMove_leads (s : State) (d : Rat)
    (hp : covers ps [.entry 0x50 0x05A, .ev, .fb, .tv, .datum] = true) (h : Leads ps s0 s) : Leads ps s0 (State.datumMove s d) := by
  unfold State.datumMove
  repeat' first
    | with_reducible (first
        | assumption | apply State.bumpN_leads | (apply Or.inr; rfl) | rfl)
    | ((with_reducible apply covers_trans hp); decide) | ((with_reducible apply covers_trans hp); (casesm* Carrier <;> decide))
    | ((with_reducible apply covers_trans hp); exact rfl) | ((with_reducible apply covers_trans hp); (casesm* Carrier <;> exact rfl))
    | ((with_reducible (apply Or.inl; apply within_of_covers; apply covers_trans hp)); decide) | dsimp only
    | with_reducible apply Leads.upd | rfl

theorem State.datumStep_leads (s : State) (d : Rat)
    (hp : covers ps [.entry 0x50 0x05A, .ev, .fb, .tv, .datum, .entry 0x50 0x02B] = true) (h : Leads ps s0 s) : Leads ps s0 (State.datumStep s d) := by
  unfold State.datumStep
  repeat' first
    | with_reducible (first
        | assumption | apply State.datumMove_leads | apply State.bump_leads | apply State.raise_leads)
    | ((with_reducible apply covers_trans hp); decide) | ((with_reducible apply covers_trans hp); (casesm* Carrier <;> decide))
    | ((with_reducible apply covers_trans hp); exact rfl) | ((with_reducible apply covers_trans hp); (casesm* Carrier <;> exact rfl))
    | rfl

theorem State.datumTick_leads (s : State)
    (hp : covers ps [.tv, .datum] = true) (h : Leads ps s0 s) : Leads ps s0 (State.datumTick s) := by
  unfold State.datumTick
  repeat' first
    | with_reducible (first
        | assumption | (apply Or.inr; rfl) | rfl)
    | ((with_reducible apply covers_trans hp); decide) | ((with_reducible apply covers_trans hp); (casesm* Carrier <;> decide))
    | ((with_reducible apply covers_trans hp); exact rfl) | ((with_reducible apply covers_trans hp); (casesm* Carrier <;> exact rfl))
    | ((with_reducible (apply Or.inl; apply within_of_covers; apply covers_trans hp)); decide) | dsimp only
    | with_reducible apply Leads.upd | rfl

theorem State.datumJudge_leads (s : State) (th : Rat)
    (hp : covers ps [.tv, .entry 0x50 0x021, .ev, .fb] = true) (h : Leads ps s0 s) : Leads ps s0 (State.datumJudge s th) := by
  unfold State.datumJudge
  repeat' first
    | with_reducible (first
        | assumption | apply ite_leads | apply wr_leads | apply State.raise_leads | (apply Or.inr; rfl) | rfl)
    | ((with_reducible apply covers_trans hp); decide) | ((with_reducible apply covers_trans hp); (casesm* Carrier <;> decide))
    | ((with_reducible apply covers_trans hp); exact rfl) | ((with_reducible apply covers_trans hp); (casesm* Carrier <;> exact rfl))
    | ((with_reducible (apply Or.inl; apply within_of_covers; apply covers_trans hp)); decide) | dsimp only
    | with_reducible apply Leads.upd | rfl

theorem State.datumLoop_leads (s : State) (th : Rat)
    (hp : covers ps [.tv, .entry 0x50 0x02A] = true) (h : Leads ps s0 s) : Leads ps s0 (State.datumLoop s th) := by
  unfold State.datumLoop
  repeat' first
    | with_reducible (first
        | assumption | apply wr_leads | (apply Or.inr; rfl) | rfl)
    | ((with_reducible apply covers_trans hp); decide) | ((with_reducible apply covers_trans hp); (casesm* Carrier <;> decide))
    | ((with_reducible apply covers_trans hp); exact rfl) | ((with_reducible apply covers_trans hp); (casesm* Carrier <;> exact rfl))
    | ((with_reducible (apply Or.inl; apply within_of_covers; apply covers_trans hp)); decide) | dsimp only
    | with_reducible apply Leads.upd | rfl

theorem State.exchanged_leads (s : State) (th : Rat)
    (hp : covers ps [.tv, .entry 0x50 0x024, .freeCtr, .entry 0x50 0x043, .entry 0x50 0x05A, .ev, .fb, .datum, .entry 0x50 0x02B, .entry 0x50 0x02A, .entry 0x50 0x021] = true) (h : Leads ps s0 s) : Leads ps s0 (State.exchanged s th) := by
  unfold State.exchanged
  repeat' first
    | with_reducible (first
        | assumption | apply ite_leads | apply State.wrS32_leads | apply State.datumStep_leads | apply State.datumLoop_leads
        | apply State.datumJudge_leads | (apply Or.inr; rfl) | rfl)
    | ((with_reducible apply covers_trans hp); decide) | ((with_reducible apply covers_trans hp); (casesm* Carrier <;> decide))
    | ((with_reducible apply covers_trans hp); exact rfl) | ((with_reducible apply covers_trans hp); (casesm* Carrier <;> exact rfl))
    | ((with_reducible (apply Or.inl; apply within_of_covers; apply covers_trans hp)); decide) | dsimp only
    | with_reducible apply Leads.upd | rfl

theorem execTimeExchangeStart_leads (pin : Nat) (s : State) :
    Out.leads [.tv, .carA, .carB, .entry 0x50 0x017, .ev, .fb] s (execTimeExchangeStart pin s) := by
  refine out_intro fun hp h => ?_
  unfold execTimeExchangeStart
  refine ⟨_, rfl, ?_⟩
  all_goals repeat' first
    | with_reducible (first
        | intro _ | assumption | apply State.oneLink_leads | apply when_leads)
    | ((with_reducible apply covers_trans hp); decide) | ((with_reducible apply covers_trans hp); (casesm* Carrier <;> decide))
    | ((with_reducible apply covers_trans hp); exact rfl) | ((with_reducible apply covers_trans hp); (casesm* Carrier <;> exact rfl))
    | rfl

theorem execTimeReqRx_leads (pin : Nat) (s : State) :
    Out.leads [.tv, .carA, .carB, .entry 0x50 0x017, .ev, .fb] s (execTimeReqRx pin s) := by
  refine out_intro fun hp h => ?_
  unfold execTimeReqRx
  refine ⟨_, rfl, ?_⟩
  all_goals repeat' first
    | with_reducible (first
        | intro _ | assumption | apply State.oneLink_leads | apply State.serve_leads)
    | ((with_reducible apply covers_trans hp); decide) | ((with_reducible apply covers_trans hp); (casesm* Carrier <;> decide))
    | ((with_reducible apply covers_trans hp); exact rfl) | ((with_reducible apply covers_trans hp); (casesm* Carrier <;> exact rfl))
    | rfl

theorem execTimeRespRx_leads (s : State) :
    Out.leads [.entry 0x50 0x025, .freeCtr, .tv, .entry 0x50 0x024, .entry 0x50 0x043, .entry 0x50 0x05A, .ev, .fb, .datum, .entry 0x50 0x02B, .entry 0x50 0x02A, .entry 0x50 0x021] s (execTimeRespRx s) := by
  refine out_intro fun hp h => ?_
  unfold execTimeRespRx
  refine ⟨_, rfl, ?_⟩
  all_goals repeat' first
    | with_reducible (first
        | intro _ | assumption | apply ite_leads | apply State.wrU32_leads | apply State.exchanged_leads | apply State.serve_leads)
    | ((with_reducible apply covers_trans hp); decide) | ((with_reducible apply covers_trans hp); (casesm* Carrier <;> decide))
    | ((with_reducible apply covers_trans hp); exact rfl) | ((with_reducible apply covers_trans hp); (casesm* Carrier <;> exact rfl))
    | ((with_reducible apply covers_trans hp); ((try casesm* Carrier) <;> (repeat' split) <;> first | decide | rfl)) | rfl

theorem execDatumHoldover_leads (s : State) :
    Out.leads [.entry 0x50 0x021, .ev, .fb] s (execDatumHoldover s) := by
  refine out_intro fun hp h => ?_
  unfold execDatumHoldover
  refine ⟨_, rfl, ?_⟩
  all_goals repeat' first
    | with_reducible (first
        | intro _ | assumption | apply State.datumHold_leads | apply when_leads)
    | ((with_reducible apply covers_trans hp); decide) | ((with_reducible apply covers_trans hp); (casesm* Carrier <;> decide))
    | ((with_reducible apply covers_trans hp); exact rfl) | ((with_reducible apply covers_trans hp); (casesm* Carrier <;> exact rfl))
    | rfl

theorem execDatumSet_leads (src : Nat) (v : Int) (s : State) :
    Out.leads [.entry 0x50 0x05A, .ev, .fb, .tv, .datum, .entry 0x50 0x02B, .pw, .ports, .entry 0x08 0x030] s (execDatumSet src v s) := by
  refine out_intro fun hp h => ?_
  unfold execDatumSet
  refine ⟨_, rfl, ?_⟩
  all_goals repeat' first
    | with_reducible (first
        | intro _ | assumption | apply State.datumStep_leads | apply State.request_leads | apply ite_fst_leads)
    | ((with_reducible apply covers_trans hp); decide) | ((with_reducible apply covers_trans hp); (casesm* Carrier <;> decide))
    | ((with_reducible apply covers_trans hp); exact rfl) | ((with_reducible apply covers_trans hp); (casesm* Carrier <;> exact rfl))
    | rfl

theorem State.timeSourceSet_leads (s : State)
    (hp : covers ps [.entry 0x50 0x021] = true) (h : Leads ps s0 s) : Leads ps s0 (State.timeSourceSet s) := by
  unfold State.timeSourceSet
  repeat' first
    | with_reducible (first
        | assumption | apply ite_leads | apply wr_leads)
    | ((with_reducible apply covers_trans hp); decide) | ((with_reducible apply covers_trans hp); (casesm* Carrier <;> decide))
    | ((with_reducible apply covers_trans hp); exact rfl) | ((with_reducible apply covers_trans hp); (casesm* Carrier <;> exact rfl))
    | rfl

theorem execPpsInEdge_leads (s : State) :
    Out.leads [.entry 0x50 0x030, .tv, .entry 0x50 0x031, .ed, .entry 0x02 0x042, .ev, .fb, .entry 0x50 0x024, .freeCtr, .entry 0x50 0x043, .entry 0x50 0x05A, .datum, .entry 0x50 0x02B, .entry 0x50 0x02A, .entry 0x50 0x021] s (execPpsInEdge s) := by
  refine out_intro fun hp h => ?_
  unfold execPpsInEdge
  refine ⟨_, rfl, ?_⟩
  all_goals repeat' first
    | with_reducible (first
        | intro _ | assumption | apply wr_leads | apply State.rwStore_leads | apply State.exchanged_leads | apply when_leads
        | (apply Or.inr; rfl) | rfl)
    | ((with_reducible apply covers_trans hp); decide) | ((with_reducible apply covers_trans hp); (casesm* Carrier <;> decide))
    | ((with_reducible apply covers_trans hp); exact rfl) | ((with_reducible apply covers_trans hp); (casesm* Carrier <;> exact rfl))
    | ((with_reducible (apply Or.inl; apply within_of_covers; apply covers_trans hp)); decide) | dsimp only
    | with_reducible apply Leads.upd | rfl

theorem execPpsMissed_leads (s : State) :
    Out.leads [.entry 0x50 0x036, .ev, .fb, .tv, .entry 0x50 0x021] s (execPpsMissed s) := by
  refine out_intro fun hp h => ?_
  unfold execPpsMissed
  refine ⟨_, rfl, ?_⟩
  all_goals repeat' first
    | with_reducible (first
        | intro _ | assumption | apply State.bump_leads | apply State.raise_leads | apply State.datumHold_leads | apply when_leads
        | (apply Or.inr; rfl) | rfl)
    | ((with_reducible apply covers_trans hp); decide) | ((with_reducible apply covers_trans hp); (casesm* Carrier <;> decide))
    | ((with_reducible apply covers_trans hp); exact rfl) | ((with_reducible apply covers_trans hp); (casesm* Carrier <;> exact rfl))
    | ((with_reducible (apply Or.inl; apply within_of_covers; apply covers_trans hp)); decide) | dsimp only
    | with_reducible apply Leads.upd | rfl

theorem execPpsOutRise_leads (s : State) :
    Out.leads [.tv] s (execPpsOutRise s) := by
  refine out_intro fun hp h => ?_
  unfold execPpsOutRise
  refine ⟨_, rfl, ?_⟩
  all_goals repeat' first
    | with_reducible (first
        | intro _ | assumption | apply when_leads | (apply Or.inr; rfl) | rfl)
    | ((with_reducible apply covers_trans hp); decide) | ((with_reducible apply covers_trans hp); (casesm* Carrier <;> decide))
    | ((with_reducible apply covers_trans hp); exact rfl) | ((with_reducible apply covers_trans hp); (casesm* Carrier <;> exact rfl))
    | ((with_reducible (apply Or.inl; apply within_of_covers; apply covers_trans hp)); decide) | dsimp only
    | with_reducible apply Leads.upd | rfl

theorem execPpsOutFall_leads (s : State) :
    Out.leads [.tv] s (execPpsOutFall s) := by
  refine out_intro fun hp h => ?_
  unfold execPpsOutFall
  refine ⟨_, rfl, ?_⟩
  all_goals repeat' first
    | with_reducible (first
        | assumption | (apply Or.inr; rfl) | rfl)
    | ((with_reducible apply covers_trans hp); decide) | ((with_reducible apply covers_trans hp); (casesm* Carrier <;> decide))
    | ((with_reducible apply covers_trans hp); exact rfl) | ((with_reducible apply covers_trans hp); (casesm* Carrier <;> exact rfl))
    | ((with_reducible (apply Or.inl; apply within_of_covers; apply covers_trans hp)); decide) | dsimp only
    | with_reducible apply Leads.upd | rfl

end Sys2Proof.Machine
end

