-- ==== Sys2Proof/Laws/FrameFieldBook.lean ====
section
/-! SUPPORT. Frames of the operations and meanings of Machine/FieldBook.lean. -/

namespace Sys2Proof.Machine

variable {ps : List Part} {s0 : State}

theorem State.setRing_leads (s : State) (r : Nat) (x : Ring)
    (hp : covers ps [.fb] = true) (h : Leads ps s0 s) : Leads ps s0 (State.setRing s r x) := by
  unfold State.setRing
  repeat' first
    | with_reducible (first
        | assumption | (apply Or.inr; rfl) | rfl)
    | ((with_reducible apply covers_trans hp); decide) | ((with_reducible apply covers_trans hp); (casesm* Carrier <;> decide))
    | ((with_reducible apply covers_trans hp); exact rfl) | ((with_reducible apply covers_trans hp); (casesm* Carrier <;> exact rfl))
    | ((with_reducible (apply Or.inl; apply within_of_covers; apply covers_trans hp)); decide) | dsimp only
    | with_reducible apply Leads.upd | rfl

theorem State.modRing_leads (s : State) (r : Nat) (f : Ring → Ring)
    (hp : covers ps [.fb] = true) (h : Leads ps s0 s) : Leads ps s0 (State.modRing s r f) := by
  unfold State.modRing
  repeat' first
    | with_reducible (first
        | assumption | apply State.setRing_leads)
    | ((with_reducible apply covers_trans hp); decide) | ((with_reducible apply covers_trans hp); (casesm* Carrier <;> decide))
    | ((with_reducible apply covers_trans hp); exact rfl) | ((with_reducible apply covers_trans hp); (casesm* Carrier <;> exact rfl))
    | rfl

theorem State.sendTrigger_leads (s : State) (id : Nat) (instant : Nat)
    (hp : covers ps [.tv, .entry 0x50 0x019, .ev, .fb, .entry 0x50 0x018, .carA, .carB, .entry 0x50 0x017] = true) (h : Leads ps s0 s) : Leads ps s0 (State.sendTrigger s id instant) := by
  unfold State.sendTrigger
  repeat' first
    | with_reducible (first
        | assumption | apply State.originate_leads)
    | ((with_reducible apply covers_trans hp); decide) | ((with_reducible apply covers_trans hp); (casesm* Carrier <;> decide))
    | ((with_reducible apply covers_trans hp); exact rfl) | ((with_reducible apply covers_trans hp); (casesm* Carrier <;> exact rfl))
    | rfl

theorem State.ringAccept_leads (s : State) (r : Nat) (src : Nat) (time : Nat) (late : Bool)
    (hp : covers ps [.fb] = true) (h : Leads ps s0 s) : Leads ps s0 (State.ringAccept s r src time late) := by
  unfold State.ringAccept
  repeat' first
    | with_reducible (first
        | assumption | apply ite_leads | apply State.modRing_leads | (apply Or.inr; rfl) | rfl)
    | ((with_reducible apply covers_trans hp); decide) | ((with_reducible apply covers_trans hp); (casesm* Carrier <;> decide))
    | ((with_reducible apply covers_trans hp); exact rfl) | ((with_reducible apply covers_trans hp); (casesm* Carrier <;> exact rfl))
    | ((with_reducible (apply Or.inl; apply within_of_covers; apply covers_trans hp)); decide) | dsimp only
    | with_reducible apply Leads.upd | rfl

theorem State.ringTrigger_leads (s : State) (r : Nat) (src : Nat) (time : Nat) (late : Bool)
    (hp : covers ps [.fb, .tv, .entry 0x50 0x019, .ev, .entry 0x50 0x018, .carA, .carB, .entry 0x50 0x017] = true) (h : Leads ps s0 s) : Leads ps s0 (State.ringTrigger s r src time late) := by
  unfold State.ringTrigger
  repeat' first
    | with_reducible (first
        | assumption | apply ite_leads | apply State.modRing_leads | apply State.sendTrigger_leads | apply State.ringAccept_leads)
    | ((with_reducible apply covers_trans hp); decide) | ((with_reducible apply covers_trans hp); (casesm* Carrier <;> decide))
    | ((with_reducible apply covers_trans hp); exact rfl) | ((with_reducible apply covers_trans hp); (casesm* Carrier <;> exact rfl))
    | rfl

theorem State.fbEvents_leads (s : State)
    (hp : covers ps [.fb, .tv, .entry 0x50 0x019, .ev, .entry 0x50 0x018, .carA, .carB, .entry 0x50 0x017] = true) (h : Leads ps s0 s) : Leads ps s0 (State.fbEvents s) := by
  unfold State.fbEvents
  repeat' first
    | with_reducible (first
        | intro _ | assumption | apply ite_leads | apply State.ringTrigger_leads | apply foldl_leads | (apply Or.inr; rfl) | rfl)
    | ((with_reducible apply covers_trans hp); decide) | ((with_reducible apply covers_trans hp); (casesm* Carrier <;> decide))
    | ((with_reducible apply covers_trans hp); exact rfl) | ((with_reducible apply covers_trans hp); (casesm* Carrier <;> exact rfl))
    | ((with_reducible (apply Or.inl; apply within_of_covers; apply covers_trans hp)); decide) | dsimp only
    | with_reducible apply Leads.upd | rfl

theorem State.fbTriggerAll_leads (s : State) (bit : Nat) (src : Nat) (time : Nat) (late : Bool) (p : List Byte → Bool)
    (hp : covers ps [.fb, .tv, .entry 0x50 0x019, .ev, .entry 0x50 0x018, .carA, .carB, .entry 0x50 0x017] = true) (h : Leads ps s0 s) : Leads ps s0 (State.fbTriggerAll s bit src time late p) := by
  unfold State.fbTriggerAll
  repeat' first
    | with_reducible (first
        | intro _ | assumption | apply ite_leads | apply State.ringTrigger_leads | apply foldl_leads)
    | ((with_reducible apply covers_trans hp); decide) | ((with_reducible apply covers_trans hp); (casesm* Carrier <;> decide))
    | ((with_reducible apply covers_trans hp); exact rfl) | ((with_reducible apply covers_trans hp); (casesm* Carrier <;> exact rfl))
    | rfl

theorem execTrigInRise_leads (s : State) :
    Out.leads [.fb, .tv, .entry 0x50 0x019, .ev, .entry 0x50 0x018, .carA, .carB, .entry 0x50 0x017, .hk, .entry 0x60 0x01A, .entry 0x60 0x029, .entry 0x60 0x028, .entry 0x60 0x027] s (execTrigInRise s) := by
  refine out_intro fun hp h => ?_
  unfold execTrigInRise
  refine ⟨_, rfl, ?_⟩
  all_goals repeat' first
    | with_reducible (first
        | assumption | apply State.fbEvents_leads | apply State.hkTrigIn_leads | apply State.fbTriggerAll_leads)
    | ((with_reducible apply covers_trans hp); decide) | ((with_reducible apply covers_trans hp); (casesm* Carrier <;> decide))
    | ((with_reducible apply covers_trans hp); exact rfl) | ((with_reducible apply covers_trans hp); (casesm* Carrier <;> exact rfl))
    | rfl

theorem execTrigOutEnd_leads (s : State) :
    Out.leads [.fb] s (execTrigOutEnd s) := by
  refine out_intro fun hp h => ?_
  unfold execTrigOutEnd
  refine ⟨_, rfl, ?_⟩
  all_goals repeat' first
    | with_reducible (first
        | assumption | (apply Or.inr; rfl) | rfl)
    | ((with_reducible apply covers_trans hp); decide) | ((with_reducible apply covers_trans hp); (casesm* Carrier <;> decide))
    | ((with_reducible apply covers_trans hp); exact rfl) | ((with_reducible apply covers_trans hp); (casesm* Carrier <;> exact rfl))
    | ((with_reducible (apply Or.inl; apply within_of_covers; apply covers_trans hp)); decide) | dsimp only
    | with_reducible apply Leads.upd | rfl

theorem State.fireTrigger_leads (s : State) (id : Nat) (time : Nat) (late : Bool)
    (hp : covers ps [.fb, .tv, .entry 0x50 0x019, .ev, .entry 0x50 0x018, .carA, .carB, .entry 0x50 0x017] = true) (h : Leads ps s0 s) : Leads ps s0 (State.fireTrigger s id time late) := by
  unfold State.fireTrigger
  repeat' first
    | with_reducible (first
        | assumption | apply State.fbEvents_leads | apply State.fbTriggerAll_leads)
    | ((with_reducible apply covers_trans hp); decide) | ((with_reducible apply covers_trans hp); (casesm* Carrier <;> decide))
    | ((with_reducible apply covers_trans hp); exact rfl) | ((with_reducible apply covers_trans hp); (casesm* Carrier <;> exact rfl))
    | rfl

theorem execTriggerRx_leads (s : State) :
    Out.leads [.entry 0x50 0x05A, .ev, .fb, .tv, .entry 0x50 0x019, .entry 0x50 0x018, .carA, .carB, .entry 0x50 0x017] s (execTriggerRx s) := by
  refine out_intro fun hp h => ?_
  unfold execTriggerRx
  refine ⟨_, rfl, ?_⟩
  all_goals repeat' first
    | with_reducible (first
        | intro _ | assumption | apply ite_leads | apply State.bump_leads | apply State.fireTrigger_leads | apply State.serve_leads
        | (apply Or.inr; rfl) | rfl)
    | ((with_reducible apply covers_trans hp); decide) | ((with_reducible apply covers_trans hp); (casesm* Carrier <;> decide))
    | ((with_reducible apply covers_trans hp); exact rfl) | ((with_reducible apply covers_trans hp); (casesm* Carrier <;> exact rfl))
    | ((with_reducible (apply Or.inl; apply within_of_covers; apply covers_trans hp)); decide) | dsimp only
    | with_reducible apply Leads.upd | rfl

theorem execTriggerFire_leads (id : Nat) (s : State) :
    Out.leads [.tv, .fb, .entry 0x50 0x019, .ev, .entry 0x50 0x018, .carA, .carB, .entry 0x50 0x017] s (execTriggerFire id s) := by
  refine out_intro fun hp h => ?_
  unfold execTriggerFire
  refine ⟨_, rfl, ?_⟩
  all_goals repeat' first
    | with_reducible (first
        | intro _ | assumption | apply State.fireTrigger_leads | apply foldl_leads | (apply Or.inr; rfl) | rfl)
    | ((with_reducible apply covers_trans hp); decide) | ((with_reducible apply covers_trans hp); (casesm* Carrier <;> decide))
    | ((with_reducible apply covers_trans hp); exact rfl) | ((with_reducible apply covers_trans hp); (casesm* Carrier <;> exact rfl))
    | ((with_reducible (apply Or.inl; apply within_of_covers; apply covers_trans hp)); decide) | dsimp only
    | with_reducible apply Leads.upd | rfl

theorem execTrigSend_leads (src : Nat) (v : Int) (s : State) :
    Out.leads [.tv, .entry 0x50 0x019, .ev, .fb, .entry 0x50 0x018, .carA, .carB, .entry 0x50 0x017, .pw, .ports, .entry 0x08 0x030] s (execTrigSend src v s) := by
  refine out_intro fun hp h => ?_
  unfold execTrigSend
  refine ⟨_, rfl, ?_⟩
  all_goals repeat' first
    | with_reducible (first
        | intro _ | assumption | apply State.sendTrigger_leads | apply State.request_leads)
    | ((with_reducible apply covers_trans hp); decide) | ((with_reducible apply covers_trans hp); (casesm* Carrier <;> decide))
    | ((with_reducible apply covers_trans hp); exact rfl) | ((with_reducible apply covers_trans hp); (casesm* Carrier <;> exact rfl))
    | rfl

theorem State.ringRearm_leads (s : State) (r : Nat)
    (hp : covers ps [.fb] = true) (h : Leads ps s0 s) : Leads ps s0 (State.ringRearm s r) := by
  unfold State.ringRearm
  repeat' first
    | with_reducible (first
        | assumption | apply State.setRing_leads)
    | ((with_reducible apply covers_trans hp); decide) | ((with_reducible apply covers_trans hp); (casesm* Carrier <;> decide))
    | ((with_reducible apply covers_trans hp); exact rfl) | ((with_reducible apply covers_trans hp); (casesm* Carrier <;> exact rfl))
    | rfl

theorem State.ringDone_leads (s : State) (r : Nat)
    (hp : covers ps [.fb, .ev] = true) (h : Leads ps s0 s) : Leads ps s0 (State.ringDone s r) := by
  unfold State.ringDone
  repeat' first
    | with_reducible (first
        | assumption | apply State.modRing_leads | apply State.raise_leads)
    | ((with_reducible apply covers_trans hp); decide) | ((with_reducible apply covers_trans hp); (casesm* Carrier <;> decide))
    | ((with_reducible apply covers_trans hp); exact rfl) | ((with_reducible apply covers_trans hp); (casesm* Carrier <;> exact rfl))
    | rfl

theorem State.ringCmd_leads (s : State) (op : Nat) (first : Nat) (last : Nat)
    (hp : covers ps [.fb, .tv, .entry 0x50 0x019, .ev, .entry 0x50 0x018, .carA, .carB, .entry 0x50 0x017, .entry 0x68 0x011] = true) (h : Leads ps s0 s) : Leads ps s0 (State.ringCmd s op first last).1 := by
  unfold State.ringCmd
  repeat' first
    | with_reducible (first
        | intro _ | assumption | apply ite_leads | apply State.fbEvents_leads | apply State.ringRearm_leads
        | apply State.ringTrigger_leads | apply State.ringDone_leads | apply State.setRing_leads | apply wr_leads | apply foldl_leads)
    | ((with_reducible apply covers_trans hp); decide) | ((with_reducible apply covers_trans hp); (casesm* Carrier <;> decide))
    | ((with_reducible apply covers_trans hp); exact rfl) | ((with_reducible apply covers_trans hp); (casesm* Carrier <;> exact rfl))
    | rfl

theorem State.ringCmdWrite_leads (s : State) (w : Nat)
    (hp : covers ps [.fb, .tv, .entry 0x50 0x019, .ev, .entry 0x50 0x018, .carA, .carB, .entry 0x50 0x017, .entry 0x68 0x011] = true) (h : Leads ps s0 s) : Leads ps s0 (State.ringCmdWrite s w).1 := by
  unfold State.ringCmdWrite
  repeat' first
    | with_reducible (first
        | assumption | apply State.ringCmd_leads)
    | ((with_reducible apply covers_trans hp); decide) | ((with_reducible apply covers_trans hp); (casesm* Carrier <;> decide))
    | ((with_reducible apply covers_trans hp); exact rfl) | ((with_reducible apply covers_trans hp); (casesm* Carrier <;> exact rfl))
    | rfl

theorem execRingArm_leads (src : Nat) (first : Nat) (last : Nat) (s : State) :
    Out.leads [.fb, .tv, .entry 0x50 0x019, .ev, .entry 0x50 0x018, .carA, .carB, .entry 0x50 0x017, .entry 0x68 0x011, .pw, .ports, .entry 0x08 0x030] s (execRingArm src first last s) := by
  refine out_intro fun hp h => ?_
  unfold execRingArm
  refine ⟨_, rfl, ?_⟩
  all_goals repeat' first
    | with_reducible (first
        | intro _ | assumption | apply State.ringCmdWrite_leads | apply State.request_leads)
    | ((with_reducible apply covers_trans hp); decide) | ((with_reducible apply covers_trans hp); (casesm* Carrier <;> decide))
    | ((with_reducible apply covers_trans hp); exact rfl) | ((with_reducible apply covers_trans hp); (casesm* Carrier <;> exact rfl))
    | rfl

theorem execRingRearm_leads (src : Nat) (first : Nat) (last : Nat) (s : State) :
    Out.leads [.fb, .tv, .entry 0x50 0x019, .ev, .entry 0x50 0x018, .carA, .carB, .entry 0x50 0x017, .entry 0x68 0x011, .pw, .ports, .entry 0x08 0x030] s (execRingRearm src first last s) := by
  refine out_intro fun hp h => ?_
  unfold execRingRearm
  refine ⟨_, rfl, ?_⟩
  all_goals repeat' first
    | with_reducible (first
        | intro _ | assumption | apply State.ringCmdWrite_leads | apply State.request_leads)
    | ((with_reducible apply covers_trans hp); decide) | ((with_reducible apply covers_trans hp); (casesm* Carrier <;> decide))
    | ((with_reducible apply covers_trans hp); exact rfl) | ((with_reducible apply covers_trans hp); (casesm* Carrier <;> exact rfl))
    | rfl

theorem execRingForce_leads (src : Nat) (first : Nat) (last : Nat) (s : State) :
    Out.leads [.fb, .tv, .entry 0x50 0x019, .ev, .entry 0x50 0x018, .carA, .carB, .entry 0x50 0x017, .entry 0x68 0x011, .pw, .ports, .entry 0x08 0x030] s (execRingForce src first last s) := by
  refine out_intro fun hp h => ?_
  unfold execRingForce
  refine ⟨_, rfl, ?_⟩
  all_goals repeat' first
    | with_reducible (first
        | intro _ | assumption | apply State.ringCmdWrite_leads | apply State.request_leads)
    | ((with_reducible apply covers_trans hp); decide) | ((with_reducible apply covers_trans hp); (casesm* Carrier <;> decide))
    | ((with_reducible apply covers_trans hp); exact rfl) | ((with_reducible apply covers_trans hp); (casesm* Carrier <;> exact rfl))
    | rfl

theorem execRingStop_leads (src : Nat) (first : Nat) (last : Nat) (s : State) :
    Out.leads [.fb, .tv, .entry 0x50 0x019, .ev, .entry 0x50 0x018, .carA, .carB, .entry 0x50 0x017, .entry 0x68 0x011, .pw, .ports, .entry 0x08 0x030] s (execRingStop src first last s) := by
  refine out_intro fun hp h => ?_
  unfold execRingStop
  refine ⟨_, rfl, ?_⟩
  all_goals repeat' first
    | with_reducible (first
        | intro _ | assumption | apply State.ringCmdWrite_leads | apply State.request_leads)
    | ((with_reducible apply covers_trans hp); decide) | ((with_reducible apply covers_trans hp); (casesm* Carrier <;> decide))
    | ((with_reducible apply covers_trans hp); exact rfl) | ((with_reducible apply covers_trans hp); (casesm* Carrier <;> exact rfl))
    | rfl

theorem execRingDisarm_leads (src : Nat) (first : Nat) (last : Nat) (s : State) :
    Out.leads [.fb, .tv, .entry 0x50 0x019, .ev, .entry 0x50 0x018, .carA, .carB, .entry 0x50 0x017, .entry 0x68 0x011, .pw, .ports, .entry 0x08 0x030] s (execRingDisarm src first last s) := by
  refine out_intro fun hp h => ?_
  unfold execRingDisarm
  refine ⟨_, rfl, ?_⟩
  all_goals repeat' first
    | with_reducible (first
        | intro _ | assumption | apply State.ringCmdWrite_leads | apply State.request_leads)
    | ((with_reducible apply covers_trans hp); decide) | ((with_reducible apply covers_trans hp); (casesm* Carrier <;> decide))
    | ((with_reducible apply covers_trans hp); exact rfl) | ((with_reducible apply covers_trans hp); (casesm* Carrier <;> exact rfl))
    | rfl

theorem execFbRingCleared_leads (r : Nat) (s : State) :
    Out.leads [.fb, .tv, .entry 0x50 0x019, .ev, .entry 0x50 0x018, .carA, .carB, .entry 0x50 0x017] s (execFbRingCleared r s) := by
  refine out_intro fun hp h => ?_
  unfold execFbRingCleared
  refine ⟨_, rfl, ?_⟩
  all_goals repeat' first
    | with_reducible (first
        | intro _ | assumption | apply State.fbEvents_leads | apply State.modRing_leads | apply when_leads)
    | ((with_reducible apply covers_trans hp); decide) | ((with_reducible apply covers_trans hp); (casesm* Carrier <;> decide))
    | ((with_reducible apply covers_trans hp); exact rfl) | ((with_reducible apply covers_trans hp); (casesm* Carrier <;> exact rfl))
    | rfl

theorem State.ringDue_leads (s : State) (r : Nat) (d : FbDue)
    (hp : covers ps [.fb, .ev] = true) (h : Leads ps s0 s) : Leads ps s0 (State.ringDue s r d) := by
  unfold State.ringDue
  repeat' first
    | with_reducible (first
        | assumption | apply ite_leads | apply State.modRing_leads | apply State.raise_leads)
    | ((with_reducible apply covers_trans hp); decide) | ((with_reducible apply covers_trans hp); (casesm* Carrier <;> decide))
    | ((with_reducible apply covers_trans hp); exact rfl) | ((with_reducible apply covers_trans hp); (casesm* Carrier <;> exact rfl))
    | rfl

theorem State.ringUpdate_leads (s : State) (r : Nat) (form : ProbeForm) (v : Int) (w : Int)
    (hp : covers ps [.fb, .ev] = true) (h : Leads ps s0 s) : Leads ps s0 (State.ringUpdate s r form v w) := by
  unfold State.ringUpdate
  repeat' first
    | with_reducible (first
        | assumption | apply ite_leads | apply State.modRing_leads | apply State.ringDue_leads)
    | ((with_reducible apply covers_trans hp); decide) | ((with_reducible apply covers_trans hp); (casesm* Carrier <;> decide))
    | ((with_reducible apply covers_trans hp); exact rfl) | ((with_reducible apply covers_trans hp); (casesm* Carrier <;> exact rfl))
    | rfl

theorem execProbeUpdate_leads (probe : Nat) (sel : Nat) (v : Int) (w : Int) (s : State) :
    Out.leads [.fb, .ev, .tv, .entry 0x50 0x019, .entry 0x50 0x018, .carA, .carB, .entry 0x50 0x017] s (execProbeUpdate probe sel v w s) := by
  refine out_intro fun hp h => ?_
  unfold execProbeUpdate
  repeat' first | refine ⟨_, rfl, ?_⟩ | dsimp only | split
  all_goals repeat' first
    | with_reducible (first
        | intro _ | assumption | apply ite_leads | apply State.ringUpdate_leads | apply State.fbEvents_leads | apply when_leads
        | apply foldl_leads)
    | ((with_reducible apply covers_trans hp); decide) | ((with_reducible apply covers_trans hp); (casesm* Carrier <;> decide))
    | ((with_reducible apply covers_trans hp); exact rfl) | ((with_reducible apply covers_trans hp); (casesm* Carrier <;> exact rfl))
    | rfl

theorem State.ringWrite_leads (s : State) (r : Nat)
    (hp : covers ps [.fb, .tv, .entry 0x50 0x019, .ev, .entry 0x50 0x018, .carA, .carB, .entry 0x50 0x017] = true) (h : Leads ps s0 s) : Leads ps s0 (State.ringWrite s r) := by
  unfold State.ringWrite
  repeat' first
    | with_reducible (first
        | assumption | apply ite_leads | apply State.modRing_leads | apply State.ringTrigger_leads | apply State.raise_leads
        | (apply Or.inr; rfl) | rfl)
    | ((with_reducible apply covers_trans hp); decide) | ((with_reducible apply covers_trans hp); (casesm* Carrier <;> decide))
    | ((with_reducible apply covers_trans hp); exact rfl) | ((with_reducible apply covers_trans hp); (casesm* Carrier <;> exact rfl))
    | ((with_reducible (apply Or.inl; apply within_of_covers; apply covers_trans hp)); decide) | dsimp only | split
    | with_reducible apply Leads.upd | rfl

theorem State.ringAfter_leads (s : State) (r : Nat)
    (hp : covers ps [.fb, .ev] = true) (h : Leads ps s0 s) : Leads ps s0 (State.ringAfter s r) := by
  unfold State.ringAfter
  repeat' first
    | with_reducible (first
        | assumption | apply ite_leads | apply State.modRing_leads | apply State.ringDone_leads)
    | ((with_reducible apply covers_trans hp); decide) | ((with_reducible apply covers_trans hp); (casesm* Carrier <;> decide))
    | ((with_reducible apply covers_trans hp); exact rfl) | ((with_reducible apply covers_trans hp); (casesm* Carrier <;> exact rfl))
    | split | rfl

theorem execFbRecordWrite_leads (s : State) :
    Out.leads [.fb, .tv, .entry 0x50 0x019, .ev, .entry 0x50 0x018, .carA, .carB, .entry 0x50 0x017] s (execFbRecordWrite s) := by
  refine out_intro fun hp h => ?_
  unfold execFbRecordWrite
  repeat' first | refine ⟨_, rfl, ?_⟩ | dsimp only | split
  all_goals repeat' first
    | with_reducible (first
        | intro _ | assumption | apply State.fbEvents_leads | apply State.ringWrite_leads | apply State.ringAfter_leads
        | apply when_leads | (apply Or.inr; rfl) | rfl)
    | ((with_reducible apply covers_trans hp); decide) | ((with_reducible apply covers_trans hp); (casesm* Carrier <;> decide))
    | ((with_reducible apply covers_trans hp); exact rfl) | ((with_reducible apply covers_trans hp); (casesm* Carrier <;> exact rfl))
    | ((with_reducible (apply Or.inl; apply within_of_covers; apply covers_trans hp)); decide) | split | with_reducible apply Leads.upd
    | rfl

theorem State.fbReset_leads (s : State) (keep : Bool)
    (hp : covers ps [.fb] = true) (h : Leads ps s0 s) : Leads ps s0 (State.fbReset s keep) := by
  unfold State.fbReset
  repeat' first
    | with_reducible (first
        | assumption | apply ite_leads | (apply Or.inr; rfl) | rfl)
    | ((with_reducible apply covers_trans hp); decide) | ((with_reducible apply covers_trans hp); (casesm* Carrier <;> decide))
    | ((with_reducible apply covers_trans hp); exact rfl) | ((with_reducible apply covers_trans hp); (casesm* Carrier <;> exact rfl))
    | ((with_reducible (apply Or.inl; apply within_of_covers; apply covers_trans hp)); decide) | dsimp only
    | with_reducible apply Leads.upd | rfl

theorem State.fbDormant_leads (s : State)
    (hp : covers ps [.fb] = true) (h : Leads ps s0 s) : Leads ps s0 (State.fbDormant s) := by
  unfold State.fbDormant
  repeat' first
    | with_reducible (first
        | assumption | (apply Or.inr; rfl) | rfl)
    | ((with_reducible apply covers_trans hp); decide) | ((with_reducible apply covers_trans hp); (casesm* Carrier <;> decide))
    | ((with_reducible apply covers_trans hp); exact rfl) | ((with_reducible apply covers_trans hp); (casesm* Carrier <;> exact rfl))
    | ((with_reducible (apply Or.inl; apply within_of_covers; apply covers_trans hp)); decide) | dsimp only
    | with_reducible apply Leads.upd | rfl

theorem State.fbDescChanged_leads (s : State) (r : Nat)
    (hp : covers ps [.fb] = true) (h : Leads ps s0 s) : Leads ps s0 (State.fbDescChanged s r) := by
  unfold State.fbDescChanged
  repeat' first
    | with_reducible (first
        | assumption | apply State.setRing_leads)
    | ((with_reducible apply covers_trans hp); decide) | ((with_reducible apply covers_trans hp); (casesm* Carrier <;> decide))
    | ((with_reducible apply covers_trans hp); exact rfl) | ((with_reducible apply covers_trans hp); (casesm* Carrier <;> exact rfl))
    | rfl

theorem State.setCursor_leads (s : State) (src : Nat) (ring : Nat) (record : Nat)
    (hp : covers ps [.fb] = true) (h : Leads ps s0 s) : Leads ps s0 (State.setCursor s src ring record) := by
  unfold State.setCursor
  repeat' first
    | with_reducible (first
        | assumption | (apply Or.inr; rfl) | rfl)
    | ((with_reducible apply covers_trans hp); decide) | ((with_reducible apply covers_trans hp); (casesm* Carrier <;> decide))
    | ((with_reducible apply covers_trans hp); exact rfl) | ((with_reducible apply covers_trans hp); (casesm* Carrier <;> exact rfl))
    | ((with_reducible (apply Or.inl; apply within_of_covers; apply covers_trans hp)); decide) | dsimp only
    | with_reducible apply Leads.upd | rfl

theorem State.rdLatch_leads (s : State) (src : Nat)
    (hp : covers ps [.fb, .tv, .entry 0x50 0x019, .ev, .entry 0x50 0x018, .carA, .carB, .entry 0x50 0x017, .entry 0x68 0x003, .freeCtr] = true) (h : Leads ps s0 s) : Leads ps s0 (State.rdLatch s src).1 := by
  unfold State.rdLatch
  repeat' first
    | with_reducible (first
        | assumption | apply ite_leads | apply State.fbEvents_leads | apply State.bumpN_leads | apply State.raise_leads
        | apply State.setCursor_leads | apply State.ringRearm_leads | (apply Or.inr; rfl) | rfl)
    | ((with_reducible apply covers_trans hp); decide) | ((with_reducible apply covers_trans hp); (casesm* Carrier <;> decide))
    | ((with_reducible apply covers_trans hp); exact rfl) | ((with_reducible apply covers_trans hp); (casesm* Carrier <;> exact rfl))
    | ((with_reducible (apply Or.inl; apply within_of_covers; apply covers_trans hp)); decide) | dsimp only
    | with_reducible apply Leads.upd | rfl

end Sys2Proof.Machine
end

