-- ==== Sys2Proof/Laws/FrameDrafts.lean ====
section
/-! SUPPORT. Frames of the operations and meanings of Machine/Drafts.lean. -/

namespace Sys2Proof.Machine

variable {ps : List Part} {s0 : State}

theorem State.disarm_leads (s : State) (e : Edition) (reason : Nat)
    (hp : covers ps [.ed, .carA, .carB, .ev, .fb] = true) (h : Leads ps s0 s) : Leads ps s0 (State.disarm s e reason) := by
  unfold State.disarm
  repeat' first
    | with_reducible (first
        | assumption | apply ite_leads | apply State.addHist_leads | apply State.cancelPending_leads | apply State.raise_leads
        | (apply Or.inr; rfl) | rfl)
    | ((with_reducible apply covers_trans hp); decide) | ((with_reducible apply covers_trans hp); (casesm* Carrier <;> decide))
    | ((with_reducible apply covers_trans hp); exact rfl) | ((with_reducible apply covers_trans hp); (casesm* Carrier <;> exact rfl))
    | ((with_reducible (apply Or.inl; apply within_of_covers; apply covers_trans hp)); decide) | dsimp only
    | with_reducible apply Leads.upd | rfl

theorem State.dropEditions_leads (s : State)
    (hp : covers ps [.ed, .carA, .carB, .ev, .fb, .blobs, .entry 0x50 0x050] = true) (h : Leads ps s0 s) : Leads ps s0 (State.dropEditions s) := by
  unfold State.dropEditions
  repeat' first
    | with_reducible (first
        | intro _ | assumption | apply State.disarm_leads | apply State.endDraft_leads | apply foldl_leads)
    | ((with_reducible apply covers_trans hp); decide) | ((with_reducible apply covers_trans hp); (casesm* Carrier <;> decide))
    | ((with_reducible apply covers_trans hp); exact rfl) | ((with_reducible apply covers_trans hp); (casesm* Carrier <;> exact rfl))
    | rfl

theorem State.wiped_leads (s : State) (power : Nat)
    (hp : covers ps Part.all = true) (h : Leads ps s0 s) : Leads ps s0 (State.wiped s power) := by
  refine h.trans ⟨⟨rfl, fun p hq => ?_⟩, fun w => ?_⟩
  · have : Part.within ps p = true := covers_within hp (by cases p <;> simp [Part.within, Part.all])
    rw [this] at hq
    cases hq
  · rw [State.wf_parts] at w
    refine ⟨(State.wf_parts _).2 ⟨?_, rfl, ?_, rfl⟩, State.kept_cutFuses s w.2.2.2⟩
    · show legWf (if power = 2 then s.leg.filter (fun e => keptKey e.1) else []) = true
      split
      · exact legWf_filter _ _ w.1
      · rfl
    · show Option.all _ (AonState.retention (if power = 2 then s.aon else _)) = true
      split
      · exact w.2.2.1
      · rfl

theorem State.enterReset_leads (s : State) (cause : Nat) (detail : Nat)
    (hp : covers ps Part.all = true) (h : Leads ps s0 s) : Leads ps s0 (State.enterReset s cause detail) := by
  unfold State.enterReset
  repeat' first
    | with_reducible (first
        | assumption | apply State.wiped_leads | apply wr_leads)
    | ((with_reducible apply covers_trans hp); decide) | ((with_reducible apply covers_trans hp); (casesm* Carrier <;> decide))
    | ((with_reducible apply covers_trans hp); exact rfl) | ((with_reducible apply covers_trans hp); (casesm* Carrier <;> exact rfl))
    | ((with_reducible apply covers_trans hp); ((try casesm* Carrier) <;> (repeat' split) <;> first | decide | rfl)) | rfl

theorem State.integrityReset_leads (s : State) (mem : Nat) (line : Nat)
    (hp : covers ps Part.all = true) (h : Leads ps s0 s) : Leads ps s0 (State.integrityReset s mem line) := by
  unfold State.integrityReset
  repeat' first
    | with_reducible (first
        | assumption | apply State.enterReset_leads | (apply Or.inr; rfl) | rfl)
    | ((with_reducible apply covers_trans hp); decide) | ((with_reducible apply covers_trans hp); (casesm* Carrier <;> decide))
    | ((with_reducible apply covers_trans hp); exact rfl) | ((with_reducible apply covers_trans hp); (casesm* Carrier <;> exact rfl))
    | ((with_reducible (apply Or.inl; apply within_of_covers; apply covers_trans hp)); decide) | dsimp only
    | with_reducible apply Leads.upd | rfl

end Sys2Proof.Machine
end

