-- ==== Sys2Proof/Laws/FrameIntegrity.lean ====
section
/-! SUPPORT. Frames of the operations and meanings of Machine/Integrity.lean. -/

namespace Sys2Proof.Machine

variable {ps : List Part} {s0 : State}

theorem State.lineGood_leads (s : State) (mem : Nat) (line : Nat)
    (hp : covers ps [.integ] = true) (h : Leads ps s0 s) : Leads ps s0 (State.lineGood s mem line) := by
  unfold State.lineGood
  repeat' first
    | with_reducible (first
        | assumption | (apply Or.inr; rfl) | rfl)
    | ((with_reducible apply covers_trans hp); decide) | ((with_reducible apply covers_trans hp); (casesm* Carrier <;> decide))
    | ((with_reducible apply covers_trans hp); exact rfl) | ((with_reducible apply covers_trans hp); (casesm* Carrier <;> exact rfl))
    | ((with_reducible (apply Or.inl; apply within_of_covers; apply covers_trans hp)); decide) | dsimp only
    | with_reducible apply Leads.upd | rfl

theorem State.mismatch_leads (s : State) (mem : Nat) (line : Nat) (cls : Nat)
    (hp : covers ps [.entry 0x78 0x000, .ev, .fb, .entry 0x78 0x001, .entry 0x78 0x002, .aon, .integ] = true) (h : Leads ps s0 s) : Leads ps s0 (State.mismatch s mem line cls) := by
  unfold State.mismatch
  repeat' first
    | with_reducible (first
        | assumption | apply ite_leads | apply State.bump_leads | apply wr_leads | apply State.raise_leads | (apply Or.inr; rfl) | rfl)
    | ((with_reducible apply covers_trans hp); decide) | ((with_reducible apply covers_trans hp); (casesm* Carrier <;> decide))
    | ((with_reducible apply covers_trans hp); exact rfl) | ((with_reducible apply covers_trans hp); (casesm* Carrier <;> exact rfl))
    | ((with_reducible apply covers_trans hp); ((try casesm* Carrier) <;> (repeat' split) <;> first | decide | rfl))
    | ((with_reducible (apply Or.inl; apply within_of_covers; apply covers_trans hp)); decide) | dsimp only | split
    | with_reducible apply Leads.upd | rfl

theorem State.putLine_leads (s : State) (c : Nat) (line : Nat) (v : Nat)
    (hp : covers ps [.integ, .cores] = true) (h : Leads ps s0 s) : Leads ps s0 (State.putLine s c line v) := by
  unfold State.putLine
  repeat' first
    | with_reducible (first
        | assumption | apply State.lineGood_leads | apply State.modCore_leads)
    | ((with_reducible apply covers_trans hp); decide) | ((with_reducible apply covers_trans hp); (casesm* Carrier <;> decide))
    | ((with_reducible apply covers_trans hp); exact rfl) | ((with_reducible apply covers_trans hp); (casesm* Carrier <;> exact rfl))
    | rfl

theorem State.putLines_leads (s : State) (c line : Nat) (l : List (List Byte))
    (hp : covers ps [.cores, .integ] = true) (h : Leads ps s0 s) : Leads ps s0 (State.putLines s c line l) := by
  induction l generalizing s line with
  | nil => exact h
  | cons b t ih => exact ih _ _ (State.putLine_leads _ _ _ _ (covers_trans hp (by decide)) h)

theorem State.burstLines_leads (s : State) (c addr line gt : Nat) (wr : Bool) (n : Nat)
    (hp : covers ps [.carA, .carB, .cores, .integ, .freeCtr] = true) (h : Leads ps s0 s) :
    Leads ps s0 (State.burstLines s c addr line gt wr n).1 := by
  induction n generalizing s addr line with
  | zero => exact h
  | succ n ih =>
    unfold State.burstLines
    repeat' first
      | with_reducible (first
          | assumption | apply ite_leads | apply State.coefWrite_leads | apply State.putLine_leads | apply State.tookFree_leads | apply ih
          | apply ite_fst_leads)
      | ((with_reducible apply covers_trans hp); decide) | ((with_reducible apply covers_trans hp); (casesm* Carrier <;> decide))
      | ((with_reducible apply covers_trans hp); exact rfl) | ((with_reducible apply covers_trans hp); (casesm* Carrier <;> exact rfl))
      | ((with_reducible apply covers_trans hp); (generalize burstCarrier _ _ = c; cases c <;> first | decide | rfl)) | split | rfl

theorem State.setBus_leads (s : State) (car : Carrier) (b : BusArb)
    (hp : covers ps [.cores] = true) (h : Leads ps s0 s) : Leads ps s0 (State.setBus s car b) := by
  unfold State.setBus
  repeat' first
    | with_reducible (first
        | assumption | (apply Or.inr; rfl) | rfl)
    | ((with_reducible apply covers_trans hp); decide) | ((with_reducible apply covers_trans hp); (casesm* Carrier <;> decide))
    | ((with_reducible apply covers_trans hp); exact rfl) | ((with_reducible apply covers_trans hp); (casesm* Carrier <;> exact rfl))
    | ((with_reducible (apply Or.inl; apply within_of_covers; apply covers_trans hp)); decide) | dsimp only | split
    | with_reducible apply Leads.upd | rfl

theorem State.arbitrate_leads (s : State) (car : Carrier)
    (hp : covers ps [.cores] = true) (h : Leads ps s0 s) : Leads ps s0 (State.arbitrate s car) := by
  unfold State.arbitrate
  repeat' first
    | with_reducible (first
        | assumption | apply ite_leads | apply State.setBus_leads)
    | ((with_reducible apply covers_trans hp); decide) | ((with_reducible apply covers_trans hp); (casesm* Carrier <;> decide))
    | ((with_reducible apply covers_trans hp); exact rfl) | ((with_reducible apply covers_trans hp); (casesm* Carrier <;> exact rfl))
    | split | rfl

theorem State.doBurst_leads (s : State) (c : Nat)
    (hp : covers ps [.cores, .carA, .carB, .integ, .freeCtr] = true) (h : Leads ps s0 s) : Leads ps s0 (State.doBurst s c).1 := by
  unfold State.doBurst
  repeat' first
    | with_reducible (first
        | assumption | apply State.modCore_leads | apply State.burstLines_leads | apply State.arbitrate_leads)
    | ((with_reducible apply covers_trans hp); decide) | ((with_reducible apply covers_trans hp); (casesm* Carrier <;> decide))
    | ((with_reducible apply covers_trans hp); exact rfl) | ((with_reducible apply covers_trans hp); (casesm* Carrier <;> exact rfl))
    | dsimp only | split | rfl

theorem State.stopCore_leads (s : State) (c : Nat)
    (hp : covers ps [.cores, .carA, .carB, .integ, .freeCtr, .ed, .blobs, .entry 0x50 0x050, .ev, .fb] = true) (h : Leads ps s0 s) : Leads ps s0 (State.stopCore s c) := by
  unfold State.stopCore
  repeat' first
    | with_reducible (first
        | assumption | apply State.doBurst_leads | apply State.modCore_leads | apply State.discardOwned_leads | (apply Or.inr; rfl)
        | rfl)
    | ((with_reducible apply covers_trans hp); decide) | ((with_reducible apply covers_trans hp); (casesm* Carrier <;> decide))
    | ((with_reducible apply covers_trans hp); exact rfl) | ((with_reducible apply covers_trans hp); (casesm* Carrier <;> exact rfl))
    | ((with_reducible (apply Or.inl; apply within_of_covers; apply covers_trans hp)); decide) | dsimp only
    | with_reducible apply Leads.upd | rfl

theorem State.restartCore_leads (s : State) (c : Nat)
    (hp : covers ps [.cores, .carA, .carB, .integ, .freeCtr, .ed, .blobs, .entry 0x50 0x050, .ev, .fb, .entry 0x58 0x010] = true) (h : Leads ps s0 s) : Leads ps s0 (State.restartCore s c) := by
  unfold State.restartCore
  repeat' first
    | with_reducible (first
        | assumption | apply State.stopCore_leads | apply wr_leads)
    | ((with_reducible apply covers_trans hp); decide) | ((with_reducible apply covers_trans hp); (casesm* Carrier <;> decide))
    | ((with_reducible apply covers_trans hp); exact rfl) | ((with_reducible apply covers_trans hp); (casesm* Carrier <;> exact rfl))
    | ((with_reducible apply covers_trans hp); ((try casesm* Carrier) <;> (repeat' split) <;> first | decide | rfl)) | rfl

theorem State.haltCore_leads (s : State) (c : Nat)
    (hp : covers ps [.entry 0x58 0x010, .ev, .fb] = true) (h : Leads ps s0 s) : Leads ps s0 (State.haltCore s c) := by
  unfold State.haltCore
  repeat' first
    | with_reducible (first
        | assumption | apply wr_leads | apply State.raise_leads)
    | ((with_reducible apply covers_trans hp); decide) | ((with_reducible apply covers_trans hp); (casesm* Carrier <;> decide))
    | ((with_reducible apply covers_trans hp); exact rfl) | ((with_reducible apply covers_trans hp); (casesm* Carrier <;> exact rfl))
    | ((with_reducible apply covers_trans hp); ((try casesm* Carrier) <;> (repeat' split) <;> first | decide | rfl)) | rfl

theorem State.autoRestart_leads (s : State) (c : Nat)
    (hp : covers ps [.cores, .entry 0x58 0x010, .ev, .fb, .carA, .carB, .integ, .freeCtr, .ed, .blobs, .entry 0x50 0x050] = true) (h : Leads ps s0 s) : Leads ps s0 (State.autoRestart s c) := by
  unfold State.autoRestart
  repeat' first
    | with_reducible (first
        | assumption | apply ite_leads | apply State.modCore_leads | apply State.haltCore_leads | apply State.restartCore_leads)
    | ((with_reducible apply covers_trans hp); decide) | ((with_reducible apply covers_trans hp); (casesm* Carrier <;> decide))
    | ((with_reducible apply covers_trans hp); exact rfl) | ((with_reducible apply covers_trans hp); (casesm* Carrier <;> exact rfl))
    | rfl

theorem State.dataMismatch_leads (s : State) (c : Nat) (line : Nat)
    (hp : covers ps Part.all = true) (h : Leads ps s0 s) : Leads ps s0 (State.dataMismatch s c line) := by
  unfold State.dataMismatch
  repeat' first
    | with_reducible (first
        | assumption | apply ite_leads | apply State.mismatch_leads | apply State.bump_leads | apply State.raise_leads
        | apply State.autoRestart_leads | apply State.integrityReset_leads)
    | ((with_reducible apply covers_trans hp); decide) | ((with_reducible apply covers_trans hp); (casesm* Carrier <;> decide))
    | ((with_reducible apply covers_trans hp); exact rfl) | ((with_reducible apply covers_trans hp); (casesm* Carrier <;> exact rfl))
    | ((with_reducible apply covers_trans hp); ((try casesm* Carrier) <;> (repeat' split) <;> first | decide | rfl)) | rfl

theorem State.coreGoto_leads (s : State) (c : Nat) (pc : Nat)
    (hp : covers ps [.cores, .entry 0x78 0x000, .ev, .fb, .entry 0x78 0x001, .entry 0x78 0x002, .aon, .integ] = true) (h : Leads ps s0 s) : Leads ps s0 (State.coreGoto s c pc) := by
  unfold State.coreGoto
  repeat' first
    | with_reducible (first
        | assumption | apply ite_leads | apply State.modCore_leads | apply State.mismatch_leads | (apply Or.inr; rfl) | rfl)
    | ((with_reducible apply covers_trans hp); decide) | ((with_reducible apply covers_trans hp); (casesm* Carrier <;> decide))
    | ((with_reducible apply covers_trans hp); exact rfl) | ((with_reducible apply covers_trans hp); (casesm* Carrier <;> exact rfl))
    | ((with_reducible (apply Or.inl; apply within_of_covers; apply covers_trans hp)); decide) | dsimp only
    | with_reducible apply Leads.upd | rfl

end Sys2Proof.Machine
end

