-- ==== Sys2Proof/Laws/FrameCoreOps.lean ====
section
/-! SUPPORT. Frames of the operations and meanings of Machine/CoreOps.lean. -/

namespace Sys2Proof.Machine

variable {ps : List Part} {s0 : State}

theorem State.coreFault_leads (s : State) (c : Nat) (cause : Nat)
    (hp : covers ps [.entry 0x58 0x010, .ev, .fb, .cores, .entry 0x58 0x017, .entry 0x58 0x018, .entry 0x78 0x000, .entry 0x78 0x001, .entry 0x78 0x002, .aon, .integ] = true) (h : Leads ps s0 s) : Leads ps s0 (State.coreFault s c cause) := by
  unfold State.coreFault
  repeat' first
    | with_reducible (first
        | assumption | apply ite_leads | apply State.haltCore_leads | apply State.modCore_leads | apply State.bump_leads
        | apply wr_leads | apply State.raise_leads | apply State.coreGoto_leads)
    | ((with_reducible apply covers_trans hp); decide) | ((with_reducible apply covers_trans hp); (casesm* Carrier <;> decide))
    | ((with_reducible apply covers_trans hp); exact rfl) | ((with_reducible apply covers_trans hp); (casesm* Carrier <;> exact rfl))
    | ((with_reducible apply covers_trans hp); ((try casesm* Carrier) <;> (repeat' split) <;> first | decide | rfl)) | rfl

theorem State.coreNext_leads (s : State) (c : Nat)
    (hp : covers ps [.cores, .entry 0x78 0x000, .ev, .fb, .entry 0x78 0x001, .entry 0x78 0x002, .aon, .integ] = true) (h : Leads ps s0 s) : Leads ps s0 (State.coreNext s c) := by
  unfold State.coreNext
  repeat' first
    | with_reducible (first
        | assumption | apply State.modCore_leads | apply State.coreGoto_leads)
    | ((with_reducible apply covers_trans hp); decide) | ((with_reducible apply covers_trans hp); (casesm* Carrier <;> decide))
    | ((with_reducible apply covers_trans hp); exact rfl) | ((with_reducible apply covers_trans hp); (casesm* Carrier <;> exact rfl))
    | rfl

theorem State.coreEnd_leads (s : State) (c : Nat) (x2 : StepEnd)
    (hp : covers ps [.cores, .entry 0x78 0x000, .ev, .fb, .entry 0x78 0x001, .entry 0x78 0x002, .aon, .integ, .entry 0x58 0x010, .entry 0x58 0x017, .entry 0x58 0x018] = true) (h : Leads ps s0 s) : Leads ps s0 (State.coreEnd s c x2) := by
  unfold State.coreEnd
  repeat' first
    | with_reducible (first
        | assumption | apply State.coreNext_leads | apply State.coreGoto_leads | apply State.coreFault_leads)
    | ((with_reducible apply covers_trans hp); decide) | ((with_reducible apply covers_trans hp); (casesm* Carrier <;> decide))
    | ((with_reducible apply covers_trans hp); exact rfl) | ((with_reducible apply covers_trans hp); (casesm* Carrier <;> exact rfl))
    | split | rfl

theorem State.countSteps_leads (s : State) (c : Nat) (n : Nat)
    (hp : covers ps [.entry 0x58 0x012, .cores] = true) (h : Leads ps s0 s) : Leads ps s0 (State.countSteps s c n) := by
  unfold State.countSteps
  repeat' first
    | with_reducible (first
        | assumption | apply ite_leads | apply wr_leads | apply State.modCore_leads)
    | ((with_reducible apply covers_trans hp); decide) | ((with_reducible apply covers_trans hp); (casesm* Carrier <;> decide))
    | ((with_reducible apply covers_trans hp); exact rfl) | ((with_reducible apply covers_trans hp); (casesm* Carrier <;> exact rfl))
    | ((with_reducible apply covers_trans hp); ((try casesm* Carrier) <;> (repeat' split) <;> first | decide | rfl)) | rfl

theorem State.coreInstr_leads (s : State) (c : Nat) (n : Nat) (f : State → State × StepEnd)
    (hf3 : ∀ a0, Leads ps s0 a0 → Leads ps s0 (f a0).1)
    (hp : covers ps [.entry 0x58 0x012, .cores, .entry 0x78 0x000, .ev, .fb, .entry 0x78 0x001, .entry 0x78 0x002, .aon, .integ, .entry 0x58 0x010, .entry 0x58 0x017, .entry 0x58 0x018] = true) (h : Leads ps s0 s) : Leads ps s0 (State.coreInstr s c n f) := by
  unfold State.coreInstr
  repeat' first
    | with_reducible (first
        | intro _ | assumption | apply State.countSteps_leads | apply State.coreEnd_leads | apply when_leads | apply hf3)
    | ((with_reducible apply covers_trans hp); decide) | ((with_reducible apply covers_trans hp); (casesm* Carrier <;> decide))
    | ((with_reducible apply covers_trans hp); exact rfl) | ((with_reducible apply covers_trans hp); (casesm* Carrier <;> exact rfl))
    | rfl

theorem State.coreReg_leads (s : State) (c : Nat) (f : Core → Core)
    (hp : covers ps [.cores] = true) (h : Leads ps s0 s) : Leads ps s0 (State.coreReg s c f).1 := by
  unfold State.coreReg
  repeat' first
    | with_reducible (first
        | assumption | apply State.modCore_leads)
    | ((with_reducible apply covers_trans hp); decide) | ((with_reducible apply covers_trans hp); (casesm* Carrier <;> decide))
    | ((with_reducible apply covers_trans hp); exact rfl) | ((with_reducible apply covers_trans hp); (casesm* Carrier <;> exact rfl))
    | rfl

theorem State.dstore_leads (s : State) (c : Nat) (addr : Nat) (n : Nat) (v : Nat)
    (hp : covers ps Part.all = true) (h : Leads ps s0 s) : Leads ps s0 (State.dstore s c addr n v).1 := by
  unfold State.dstore
  repeat' first
    | with_reducible (first
        | assumption | apply State.dataMismatch_leads | apply State.modCore_leads)
    | ((with_reducible apply covers_trans hp); decide) | ((with_reducible apply covers_trans hp); (casesm* Carrier <;> decide))
    | ((with_reducible apply covers_trans hp); exact rfl) | ((with_reducible apply covers_trans hp); (casesm* Carrier <;> exact rfl))
    | split | rfl

theorem State.withLoad_leads (s : State) (c : Nat) (addr : Nat) (n : Nat) (f : Nat → State × StepEnd)
    (hf4 : ∀ a0, Leads ps s0 (f a0).1)
    (hp : covers ps Part.all = true) (h : Leads ps s0 s) : Leads ps s0 (State.withLoad s c addr n f).1 := by
  unfold State.withLoad
  repeat' first
    | with_reducible (first
        | assumption | apply State.dataMismatch_leads | apply hf4)
    | ((with_reducible apply covers_trans hp); decide) | ((with_reducible apply covers_trans hp); (casesm* Carrier <;> decide))
    | ((with_reducible apply covers_trans hp); exact rfl) | ((with_reducible apply covers_trans hp); (casesm* Carrier <;> exact rfl))
    | split | rfl

theorem State.postMod_leads (s : State) (c : Nat) (n : Nat) (m : Nat) (noPost : Bool)
    (hp : covers ps [.cores] = true) (h : Leads ps s0 s) : Leads ps s0 (State.postMod s c n m noPost) := by
  unfold State.postMod
  repeat' first
    | with_reducible (first
        | assumption | apply ite_leads | apply State.modCore_leads)
    | ((with_reducible apply covers_trans hp); decide) | ((with_reducible apply covers_trans hp); (casesm* Carrier <;> decide))
    | ((with_reducible apply covers_trans hp); exact rfl) | ((with_reducible apply covers_trans hp); (casesm* Carrier <;> exact rfl))
    | rfl

end Sys2Proof.Machine
end

