-- ==== Sys2Proof/Laws/FrameCoreInstr.lean ====
section
/-! SUPPORT. Frames of the operations and meanings of Machine/CoreInstr.lean. -/

namespace Sys2Proof.Machine

variable {ps : List Part} {s0 : State}

theorem fieldsOk_leads (p : Bool) (s : State) (f : State → State × StepEnd)
    (hf2 : ∀ a0, Leads ps s0 a0 → Leads ps s0 (f a0).1)
    (hp : covers ps [] = true) (h : Leads ps s0 s) : Leads ps s0 (fieldsOk p s f).1 := by
  unfold fieldsOk
  repeat' first
    | with_reducible (first
        | assumption | apply hf2 | apply ite_fst_leads)
    | ((with_reducible apply covers_trans hp); decide) | ((with_reducible apply covers_trans hp); (casesm* Carrier <;> decide))
    | ((with_reducible apply covers_trans hp); exact rfl) | ((with_reducible apply covers_trans hp); (casesm* Carrier <;> exact rfl))
    | rfl

theorem gLogic_leads (c : Nat) (t : Nat) (r : Core → BitVec 32) (s : State)
    (hp : covers ps [.cores] = true) (h : Leads ps s0 s) : Leads ps s0 (gLogic c t r s).1 := by
  unfold gLogic
  repeat' first
    | with_reducible (first
        | assumption | apply State.coreReg_leads)
    | ((with_reducible apply covers_trans hp); decide) | ((with_reducible apply covers_trans hp); (casesm* Carrier <;> decide))
    | ((with_reducible apply covers_trans hp); exact rfl) | ((with_reducible apply covers_trans hp); (casesm* Carrier <;> exact rfl))
    | rfl

theorem coreNop_leads (s : State)
    (hp : covers ps [] = true) (h : Leads ps s0 s) : Leads ps s0 (coreNop s).1 := by
  unfold coreNop
  repeat' first
    | with_reducible (first
        | assumption)
    | ((with_reducible apply covers_trans hp); decide) | ((with_reducible apply covers_trans hp); (casesm* Carrier <;> decide))
    | ((with_reducible apply covers_trans hp); exact rfl) | ((with_reducible apply covers_trans hp); (casesm* Carrier <;> exact rfl))
    | rfl

theorem coreAdd_leads (c : Nat) (t : Nat) (u : Nat) (v : Nat) (s : State)
    (hp : covers ps [.cores] = true) (h : Leads ps s0 s) : Leads ps s0 (coreAdd c t u v s).1 := by
  unfold coreAdd
  repeat' first
    | with_reducible (first
        | assumption | apply State.coreReg_leads)
    | ((with_reducible apply covers_trans hp); decide) | ((with_reducible apply covers_trans hp); (casesm* Carrier <;> decide))
    | ((with_reducible apply covers_trans hp); exact rfl) | ((with_reducible apply covers_trans hp); (casesm* Carrier <;> exact rfl))
    | rfl

theorem coreSub_leads (c : Nat) (t : Nat) (u : Nat) (v : Nat) (s : State)
    (hp : covers ps [.cores] = true) (h : Leads ps s0 s) : Leads ps s0 (coreSub c t u v s).1 := by
  unfold coreSub
  repeat' first
    | with_reducible (first
        | assumption | apply State.coreReg_leads)
    | ((with_reducible apply covers_trans hp); decide) | ((with_reducible apply covers_trans hp); (casesm* Carrier <;> decide))
    | ((with_reducible apply covers_trans hp); exact rfl) | ((with_reducible apply covers_trans hp); (casesm* Carrier <;> exact rfl))
    | rfl

theorem coreMul_leads (c : Nat) (t : Nat) (u : Nat) (v : Nat) (s : State)
    (hp : covers ps [.cores] = true) (h : Leads ps s0 s) : Leads ps s0 (coreMul c t u v s).1 := by
  unfold coreMul
  repeat' first
    | with_reducible (first
        | assumption | apply gLogic_leads)
    | ((with_reducible apply covers_trans hp); decide) | ((with_reducible apply covers_trans hp); (casesm* Carrier <;> decide))
    | ((with_reducible apply covers_trans hp); exact rfl) | ((with_reducible apply covers_trans hp); (casesm* Carrier <;> exact rfl))
    | rfl

theorem coreAnd_leads (c : Nat) (t : Nat) (u : Nat) (v : Nat) (s : State)
    (hp : covers ps [.cores] = true) (h : Leads ps s0 s) : Leads ps s0 (coreAnd c t u v s).1 := by
  unfold coreAnd
  repeat' first
    | with_reducible (first
        | assumption | apply gLogic_leads)
    | ((with_reducible apply covers_trans hp); decide) | ((with_reducible apply covers_trans hp); (casesm* Carrier <;> decide))
    | ((with_reducible apply covers_trans hp); exact rfl) | ((with_reducible apply covers_trans hp); (casesm* Carrier <;> exact rfl))
    | rfl

theorem coreOr_leads (c : Nat) (t : Nat) (u : Nat) (v : Nat) (s : State)
    (hp : covers ps [.cores] = true) (h : Leads ps s0 s) : Leads ps s0 (coreOr c t u v s).1 := by
  unfold coreOr
  repeat' first
    | with_reducible (first
        | assumption | apply gLogic_leads)
    | ((with_reducible apply covers_trans hp); decide) | ((with_reducible apply covers_trans hp); (casesm* Carrier <;> decide))
    | ((with_reducible apply covers_trans hp); exact rfl) | ((with_reducible apply covers_trans hp); (casesm* Carrier <;> exact rfl))
    | rfl

theorem coreXor_leads (c : Nat) (t : Nat) (u : Nat) (v : Nat) (s : State)
    (hp : covers ps [.cores] = true) (h : Leads ps s0 s) : Leads ps s0 (coreXor c t u v s).1 := by
  unfold coreXor
  repeat' first
    | with_reducible (first
        | assumption | apply gLogic_leads)
    | ((with_reducible apply covers_trans hp); decide) | ((with_reducible apply covers_trans hp); (casesm* Carrier <;> decide))
    | ((with_reducible apply covers_trans hp); exact rfl) | ((with_reducible apply covers_trans hp); (casesm* Carrier <;> exact rfl))
    | rfl

theorem coreShl_leads (c : Nat) (t : Nat) (u : Nat) (sh : Nat) (s : State)
    (hp : covers ps [.cores] = true) (h : Leads ps s0 s) : Leads ps s0 (coreShl c t u sh s).1 := by
  unfold coreShl
  repeat' first
    | with_reducible (first
        | assumption | apply State.coreReg_leads)
    | ((with_reducible apply covers_trans hp); decide) | ((with_reducible apply covers_trans hp); (casesm* Carrier <;> decide))
    | ((with_reducible apply covers_trans hp); exact rfl) | ((with_reducible apply covers_trans hp); (casesm* Carrier <;> exact rfl))
    | rfl

theorem coreShr_leads (c : Nat) (t : Nat) (u : Nat) (sh : Nat) (s : State)
    (hp : covers ps [.cores] = true) (h : Leads ps s0 s) : Leads ps s0 (coreShr c t u sh s).1 := by
  unfold coreShr
  repeat' first
    | with_reducible (first
        | assumption | apply State.coreReg_leads)
    | ((with_reducible apply covers_trans hp); decide) | ((with_reducible apply covers_trans hp); (casesm* Carrier <;> decide))
    | ((with_reducible apply covers_trans hp); exact rfl) | ((with_reducible apply covers_trans hp); (casesm* Carrier <;> exact rfl))
    | rfl

theorem coreAddi_leads (c : Nat) (t : Nat) (u : Nat) (imm : Int) (s : State)
    (hp : covers ps [.cores] = true) (h : Leads ps s0 s) : Leads ps s0 (coreAddi c t u imm s).1 := by
  unfold coreAddi
  repeat' first
    | with_reducible (first
        | assumption | apply State.coreReg_leads)
    | ((with_reducible apply covers_trans hp); decide) | ((with_reducible apply covers_trans hp); (casesm* Carrier <;> decide))
    | ((with_reducible apply covers_trans hp); exact rfl) | ((with_reducible apply covers_trans hp); (casesm* Carrier <;> exact rfl))
    | rfl

theorem coreLui_leads (c : Nat) (t : Nat) (imm : Int) (s : State)
    (hp : covers ps [.cores] = true) (h : Leads ps s0 s) : Leads ps s0 (coreLui c t imm s).1 := by
  unfold coreLui
  repeat' first
    | with_reducible (first
        | assumption | apply State.coreReg_leads)
    | ((with_reducible apply covers_trans hp); decide) | ((with_reducible apply covers_trans hp); (casesm* Carrier <;> decide))
    | ((with_reducible apply covers_trans hp); exact rfl) | ((with_reducible apply covers_trans hp); (casesm* Carrier <;> exact rfl))
    | rfl

theorem coreB_leads (c : Nat) (cond : Nat) (disp : Int) (s : State)
    (hp : covers ps [.entry 0x58 0x012, .cores] = true) (h : Leads ps s0 s) : Leads ps s0 (coreB c cond disp s).1 := by
  unfold coreB
  repeat' first
    | with_reducible (first
        | assumption | apply State.countSteps_leads)
    | ((with_reducible apply covers_trans hp); decide) | ((with_reducible apply covers_trans hp); (casesm* Carrier <;> decide))
    | ((with_reducible apply covers_trans hp); exact rfl) | ((with_reducible apply covers_trans hp); (casesm* Carrier <;> exact rfl))
    | split | rfl

theorem coreCall_leads (c : Nat) (disp : Int) (s : State)
    (hp : covers ps [.cores] = true) (h : Leads ps s0 s) : Leads ps s0 (coreCall c disp s).1 := by
  unfold coreCall
  repeat' first
    | with_reducible (first
        | assumption | apply State.modCore_leads | apply ite_fst_leads)
    | ((with_reducible apply covers_trans hp); decide) | ((with_reducible apply covers_trans hp); (casesm* Carrier <;> decide))
    | ((with_reducible apply covers_trans hp); exact rfl) | ((with_reducible apply covers_trans hp); (casesm* Carrier <;> exact rfl))
    | rfl

theorem coreRet_leads (c : Nat) (s : State)
    (hp : covers ps [.cores] = true) (h : Leads ps s0 s) : Leads ps s0 (coreRet c s).1 := by
  unfold coreRet
  repeat' first
    | with_reducible (first
        | assumption | apply State.modCore_leads)
    | ((with_reducible apply covers_trans hp); decide) | ((with_reducible apply covers_trans hp); (casesm* Carrier <;> decide))
    | ((with_reducible apply covers_trans hp); exact rfl) | ((with_reducible apply covers_trans hp); (casesm* Carrier <;> exact rfl))
    | split | rfl

theorem coreLoop_leads (c : Nat) (t : Nat) (len : Nat) (s : State)
    (hp : covers ps [.cores] = true) (h : Leads ps s0 s) : Leads ps s0 (coreLoop c t len s).1 := by
  unfold coreLoop
  repeat' first
    | with_reducible (first
        | assumption | apply State.modCore_leads | apply ite_fst_leads)
    | ((with_reducible apply covers_trans hp); decide) | ((with_reducible apply covers_trans hp); (casesm* Carrier <;> decide))
    | ((with_reducible apply covers_trans hp); exact rfl) | ((with_reducible apply covers_trans hp); (casesm* Carrier <;> exact rfl))
    | rfl

theorem coreHalt_leads (c : Nat) (s : State)
    (hp : covers ps [.entry 0x58 0x010] = true) (h : Leads ps s0 s) : Leads ps s0 (coreHalt c s).1 := by
  unfold coreHalt
  repeat' first
    | with_reducible (first
        | assumption | apply wr_leads)
    | ((with_reducible apply covers_trans hp); decide) | ((with_reducible apply covers_trans hp); (casesm* Carrier <;> decide))
    | ((with_reducible apply covers_trans hp); exact rfl) | ((with_reducible apply covers_trans hp); (casesm* Carrier <;> exact rfl))
    | rfl

theorem coreWait_leads (c : Nat) (u : Nat) (s : State)
    (hp : covers ps [.cores] = true) (h : Leads ps s0 s) : Leads ps s0 (coreWait c u s).1 := by
  unfold coreWait
  repeat' first
    | with_reducible (first
        | assumption | apply State.modCore_leads | apply ite_fst_leads)
    | ((with_reducible apply covers_trans hp); decide) | ((with_reducible apply covers_trans hp); (casesm* Carrier <;> decide))
    | ((with_reducible apply covers_trans hp); exact rfl) | ((with_reducible apply covers_trans hp); (casesm* Carrier <;> exact rfl))
    | rfl

theorem coreLdw_leads (c : Nat) (t : Nat) (n : Nat) (m : Nat) (noPost : Bool) (s : State)
    (hp : covers ps Part.all = true) (h : Leads ps s0 s) : Leads ps s0 (coreLdw c t n m noPost s).1 := by
  unfold coreLdw
  repeat' first
    | with_reducible (first
        | intro _ | assumption | apply State.modCore_leads | apply State.postMod_leads | apply State.withLoad_leads)
    | ((with_reducible apply covers_trans hp); decide) | ((with_reducible apply covers_trans hp); (casesm* Carrier <;> decide))
    | ((with_reducible apply covers_trans hp); exact rfl) | ((with_reducible apply covers_trans hp); (casesm* Carrier <;> exact rfl))
    | rfl

theorem storeThen_leads (c : Nat) (addr : Nat) (k : Nat) (v : Nat) (n : Nat) (m : Nat) (noPost : Bool) (s : State)
    (hp : covers ps Part.all = true) (h : Leads ps s0 s) : Leads ps s0 (storeThen c addr k v n m noPost s).1 := by
  unfold storeThen
  repeat' first
    | with_reducible (first
        | assumption | apply State.dstore_leads | apply State.postMod_leads | apply Leads.of_pair (by with_reducible assumption))
    | ((with_reducible apply covers_trans hp); decide) | ((with_reducible apply covers_trans hp); (casesm* Carrier <;> decide))
    | ((with_reducible apply covers_trans hp); exact rfl) | ((with_reducible apply covers_trans hp); (casesm* Carrier <;> exact rfl))
    | split | rfl

theorem coreStw_leads (c : Nat) (t : Nat) (n : Nat) (m : Nat) (noPost : Bool) (s : State)
    (hp : covers ps Part.all = true) (h : Leads ps s0 s) : Leads ps s0 (coreStw c t n m noPost s).1 := by
  unfold coreStw
  repeat' first
    | with_reducible (first
        | assumption | apply storeThen_leads)
    | ((with_reducible apply covers_trans hp); decide) | ((with_reducible apply covers_trans hp); (casesm* Carrier <;> decide))
    | ((with_reducible apply covers_trans hp); exact rfl) | ((with_reducible apply covers_trans hp); (casesm* Carrier <;> exact rfl))
    | rfl

theorem coreLdc_leads (c : Nat) (t : Nat) (n : Nat) (m : Nat) (noPost : Bool) (s : State)
    (hp : covers ps Part.all = true) (h : Leads ps s0 s) : Leads ps s0 (coreLdc c t n m noPost s).1 := by
  unfold coreLdc
  repeat' first
    | with_reducible (first
        | intro _ | assumption | apply State.modCore_leads | apply State.postMod_leads | apply State.withLoad_leads
        | apply fieldsOk_leads)
    | ((with_reducible apply covers_trans hp); decide) | ((with_reducible apply covers_trans hp); (casesm* Carrier <;> decide))
    | ((with_reducible apply covers_trans hp); exact rfl) | ((with_reducible apply covers_trans hp); (casesm* Carrier <;> exact rfl))
    | rfl

theorem coreStc_leads (c : Nat) (t : Nat) (n : Nat) (m : Nat) (noPost : Bool) (s : State)
    (hp : covers ps Part.all = true) (h : Leads ps s0 s) : Leads ps s0 (coreStc c t n m noPost s).1 := by
  unfold coreStc
  repeat' first
    | with_reducible (first
        | intro _ | assumption | apply storeThen_leads | apply fieldsOk_leads)
    | ((with_reducible apply covers_trans hp); decide) | ((with_reducible apply covers_trans hp); (casesm* Carrier <;> decide))
    | ((with_reducible apply covers_trans hp); exact rfl) | ((with_reducible apply covers_trans hp); (casesm* Carrier <;> exact rfl))
    | rfl

theorem State.zeroLines_leads (s : State) (c line n : Nat)
    (hp : covers ps [.cores, .integ] = true) (h : Leads ps s0 s) : Leads ps s0 (State.zeroLines s c line n) := by
  induction n generalizing s line with
  | zero => exact h
  | succ n ih => exact ih _ _ (State.putLine_leads _ _ _ _ (covers_trans hp (by decide)) h)

theorem coreZl_leads (c : Nat) (n : Nat) (count : Nat) (s : State)
    (hp : covers ps [.integ, .cores] = true) (h : Leads ps s0 s) : Leads ps s0 (coreZl c n count s).1 := by
  unfold coreZl
  repeat' first
    | with_reducible (first
        | assumption | apply State.zeroLines_leads | apply State.modCore_leads)
    | ((with_reducible apply covers_trans hp); decide) | ((with_reducible apply covers_trans hp); (casesm* Carrier <;> decide))
    | ((with_reducible apply covers_trans hp); exact rfl) | ((with_reducible apply covers_trans hp); (casesm* Carrier <;> exact rfl))
    | rfl

theorem coreMgd_leads (c : Nat) (t : Nat) (u : Nat) (v : Nat) (s : State)
    (hp : covers ps [.cores] = true) (h : Leads ps s0 s) : Leads ps s0 (coreMgd c t u v s).1 := by
  unfold coreMgd
  repeat' first
    | with_reducible (first
        | intro _ | assumption | apply State.coreReg_leads | apply fieldsOk_leads)
    | ((with_reducible apply covers_trans hp); decide) | ((with_reducible apply covers_trans hp); (casesm* Carrier <;> decide))
    | ((with_reducible apply covers_trans hp); exact rfl) | ((with_reducible apply covers_trans hp); (casesm* Carrier <;> exact rfl))
    | rfl

theorem coreMdg_leads (c : Nat) (t : Nat) (u : Nat) (im : Bool) (s : State)
    (hp : covers ps [.cores] = true) (h : Leads ps s0 s) : Leads ps s0 (coreMdg c t u im s).1 := by
  unfold coreMdg
  repeat' first
    | with_reducible (first
        | intro _ | assumption | apply State.coreReg_leads | apply fieldsOk_leads)
    | ((with_reducible apply covers_trans hp); decide) | ((with_reducible apply covers_trans hp); (casesm* Carrier <;> decide))
    | ((with_reducible apply covers_trans hp); exact rfl) | ((with_reducible apply covers_trans hp); (casesm* Carrier <;> exact rfl))
    | rfl

theorem coreMvx_leads (c : Nat) (t : Nat) (u : Nat) (s : State)
    (hp : covers ps [.cores] = true) (h : Leads ps s0 s) : Leads ps s0 (coreMvx c t u s).1 := by
  unfold coreMvx
  repeat' first
    | with_reducible (first
        | intro _ | assumption | apply State.coreReg_leads | apply fieldsOk_leads)
    | ((with_reducible apply covers_trans hp); decide) | ((with_reducible apply covers_trans hp); (casesm* Carrier <;> decide))
    | ((with_reducible apply covers_trans hp); exact rfl) | ((with_reducible apply covers_trans hp); (casesm* Carrier <;> exact rfl))
    | rfl

theorem coreProduct_leads (c : Nat) (t : Nat) (u : Nat) (v : Nat) (conj : Bool) (how : Int) (s : State)
    (hp : covers ps [.cores] = true) (h : Leads ps s0 s) : Leads ps s0 (coreProduct c t u v conj how s).1 := by
  unfold coreProduct
  repeat' first
    | with_reducible (first
        | intro _ | assumption | apply State.coreReg_leads | apply fieldsOk_leads)
    | ((with_reducible apply covers_trans hp); decide) | ((with_reducible apply covers_trans hp); (casesm* Carrier <;> decide))
    | ((with_reducible apply covers_trans hp); exact rfl) | ((with_reducible apply covers_trans hp); (casesm* Carrier <;> exact rfl))
    | rfl

theorem coreCmacm_leads (c : Nat) (t : Nat) (s : State)
    (hp : covers ps Part.all = true) (h : Leads ps s0 s) : Leads ps s0 (coreCmacm c t s).1 := by
  unfold coreCmacm
  repeat' first
    | with_reducible (first
        | intro _ | assumption | apply State.coreReg_leads | apply State.withLoad_leads | apply fieldsOk_leads)
    | ((with_reducible apply covers_trans hp); decide) | ((with_reducible apply covers_trans hp); (casesm* Carrier <;> decide))
    | ((with_reducible apply covers_trans hp); exact rfl) | ((with_reducible apply covers_trans hp); (casesm* Carrier <;> exact rfl))
    | rfl

theorem coreClra_leads (c : Nat) (t : Nat) (s : State)
    (hp : covers ps [.cores] = true) (h : Leads ps s0 s) : Leads ps s0 (coreClra c t s).1 := by
  unfold coreClra
  repeat' first
    | with_reducible (first
        | intro _ | assumption | apply State.coreReg_leads | apply fieldsOk_leads)
    | ((with_reducible apply covers_trans hp); decide) | ((with_reducible apply covers_trans hp); (casesm* Carrier <;> decide))
    | ((with_reducible apply covers_trans hp); exact rfl) | ((with_reducible apply covers_trans hp); (casesm* Carrier <;> exact rfl))
    | rfl

theorem coreSac_leads (c : Nat) (t : Nat) (u : Nat) (sh : Nat) (s : State)
    (hp : covers ps [.cores] = true) (h : Leads ps s0 s) : Leads ps s0 (coreSac c t u sh s).1 := by
  unfold coreSac
  repeat' first
    | with_reducible (first
        | intro _ | assumption | apply State.coreReg_leads | apply fieldsOk_leads)
    | ((with_reducible apply covers_trans hp); decide) | ((with_reducible apply covers_trans hp); (casesm* Carrier <;> decide))
    | ((with_reducible apply covers_trans hp); exact rfl) | ((with_reducible apply covers_trans hp); (casesm* Carrier <;> exact rfl))
    | rfl

theorem coreSacg_leads (c : Nat) (t : Nat) (u : Nat) (im : Bool) (sh : Nat) (s : State)
    (hp : covers ps [.cores] = true) (h : Leads ps s0 s) : Leads ps s0 (coreSacg c t u im sh s).1 := by
  unfold coreSacg
  repeat' first
    | with_reducible (first
        | intro _ | assumption | apply State.coreReg_leads | apply fieldsOk_leads)
    | ((with_reducible apply covers_trans hp); decide) | ((with_reducible apply covers_trans hp); (casesm* Carrier <;> decide))
    | ((with_reducible apply covers_trans hp); exact rfl) | ((with_reducible apply covers_trans hp); (casesm* Carrier <;> exact rfl))
    | rfl

theorem coreCbx_leads (c : Nat) (t : Nat) (n : Nat) (num : Nat) (wr : Bool) (s : State)
    (hp : covers ps [.cores] = true) (h : Leads ps s0 s) : Leads ps s0 (coreCbx c t n num wr s).1 := by
  unfold coreCbx
  repeat' first
    | with_reducible (first
        | assumption | apply State.modCore_leads | apply State.arbitrate_leads | apply ite_fst_leads)
    | ((with_reducible apply covers_trans hp); decide) | ((with_reducible apply covers_trans hp); (casesm* Carrier <;> decide))
    | ((with_reducible apply covers_trans hp); exact rfl) | ((with_reducible apply covers_trans hp); (casesm* Carrier <;> exact rfl))
    | rfl

theorem execNop_leads (c : Nat) (s : State) :
    Out.leads [.entry 0x58 0x012, .cores, .entry 0x78 0x000, .ev, .fb, .entry 0x78 0x001, .entry 0x78 0x002, .aon, .integ, .entry 0x58 0x010, .entry 0x58 0x017, .entry 0x58 0x018] s (execNop c s) := by
  refine out_intro fun hp h => ?_
  unfold execNop
  refine ⟨_, rfl, ?_⟩
  all_goals repeat' first
    | with_reducible (first
        | intro _ | assumption | apply coreNop_leads | apply State.coreInstr_leads)
    | ((with_reducible apply covers_trans hp); decide) | ((with_reducible apply covers_trans hp); (casesm* Carrier <;> decide))
    | ((with_reducible apply covers_trans hp); exact rfl) | ((with_reducible apply covers_trans hp); (casesm* Carrier <;> exact rfl))
    | rfl

theorem execAdd_leads (c : Nat) (t : Nat) (u : Nat) (v : Nat) (s : State) :
    Out.leads [.cores, .entry 0x58 0x012, .entry 0x78 0x000, .ev, .fb, .entry 0x78 0x001, .entry 0x78 0x002, .aon, .integ, .entry 0x58 0x010, .entry 0x58 0x017, .entry 0x58 0x018] s (execAdd c t u v s) := by
  refine out_intro fun hp h => ?_
  unfold execAdd
  refine ⟨_, rfl, ?_⟩
  all_goals repeat' first
    | with_reducible (first
        | intro _ | assumption | apply coreAdd_leads | apply State.coreInstr_leads)
    | ((with_reducible apply covers_trans hp); decide) | ((with_reducible apply covers_trans hp); (casesm* Carrier <;> decide))
    | ((with_reducible apply covers_trans hp); exact rfl) | ((with_reducible apply covers_trans hp); (casesm* Carrier <;> exact rfl))
    | rfl

theorem execSub_leads (c : Nat) (t : Nat) (u : Nat) (v : Nat) (s : State) :
    Out.leads [.cores, .entry 0x58 0x012, .entry 0x78 0x000, .ev, .fb, .entry 0x78 0x001, .entry 0x78 0x002, .aon, .integ, .entry 0x58 0x010, .entry 0x58 0x017, .entry 0x58 0x018] s (execSub c t u v s) := by
  refine out_intro fun hp h => ?_
  unfold execSub
  refine ⟨_, rfl, ?_⟩
  all_goals repeat' first
    | with_reducible (first
        | intro _ | assumption | apply coreSub_leads | apply State.coreInstr_leads)
    | ((with_reducible apply covers_trans hp); decide) | ((with_reducible apply covers_trans hp); (casesm* Carrier <;> decide))
    | ((with_reducible apply covers_trans hp); exact rfl) | ((with_reducible apply covers_trans hp); (casesm* Carrier <;> exact rfl))
    | rfl

theorem execMul_leads (c : Nat) (t : Nat) (u : Nat) (v : Nat) (s : State) :
    Out.leads [.cores, .entry 0x58 0x012, .entry 0x78 0x000, .ev, .fb, .entry 0x78 0x001, .entry 0x78 0x002, .aon, .integ, .entry 0x58 0x010, .entry 0x58 0x017, .entry 0x58 0x018] s (execMul c t u v s) := by
  refine out_intro fun hp h => ?_
  unfold execMul
  refine ⟨_, rfl, ?_⟩
  all_goals repeat' first
    | with_reducible (first
        | intro _ | assumption | apply coreMul_leads | apply State.coreInstr_leads)
    | ((with_reducible apply covers_trans hp); decide) | ((with_reducible apply covers_trans hp); (casesm* Carrier <;> decide))
    | ((with_reducible apply covers_trans hp); exact rfl) | ((with_reducible apply covers_trans hp); (casesm* Carrier <;> exact rfl))
    | rfl

theorem execAndd_leads (c : Nat) (t : Nat) (u : Nat) (v : Nat) (s : State) :
    Out.leads [.cores, .entry 0x58 0x012, .entry 0x78 0x000, .ev, .fb, .entry 0x78 0x001, .entry 0x78 0x002, .aon, .integ, .entry 0x58 0x010, .entry 0x58 0x017, .entry 0x58 0x018] s (execAndd c t u v s) := by
  refine out_intro fun hp h => ?_
  unfold execAndd
  refine ⟨_, rfl, ?_⟩
  all_goals repeat' first
    | with_reducible (first
        | intro _ | assumption | apply coreAnd_leads | apply State.coreInstr_leads)
    | ((with_reducible apply covers_trans hp); decide) | ((with_reducible apply covers_trans hp); (casesm* Carrier <;> decide))
    | ((with_reducible apply covers_trans hp); exact rfl) | ((with_reducible apply covers_trans hp); (casesm* Carrier <;> exact rfl))
    | rfl

theorem execOrr_leads (c : Nat) (t : Nat) (u : Nat) (v : Nat) (s : State) :
    Out.leads [.cores, .entry 0x58 0x012, .entry 0x78 0x000, .ev, .fb, .entry 0x78 0x001, .entry 0x78 0x002, .aon, .integ, .entry 0x58 0x010, .entry 0x58 0x017, .entry 0x58 0x018] s (execOrr c t u v s) := by
  refine out_intro fun hp h => ?_
  unfold execOrr
  refine ⟨_, rfl, ?_⟩
  all_goals repeat' first
    | with_reducible (first
        | intro _ | assumption | apply coreOr_leads | apply State.coreInstr_leads)
    | ((with_reducible apply covers_trans hp); decide) | ((with_reducible apply covers_trans hp); (casesm* Carrier <;> decide))
    | ((with_reducible apply covers_trans hp); exact rfl) | ((with_reducible apply covers_trans hp); (casesm* Carrier <;> exact rfl))
    | rfl

theorem execXorr_leads (c : Nat) (t : Nat) (u : Nat) (v : Nat) (s : State) :
    Out.leads [.cores, .entry 0x58 0x012, .entry 0x78 0x000, .ev, .fb, .entry 0x78 0x001, .entry 0x78 0x002, .aon, .integ, .entry 0x58 0x010, .entry 0x58 0x017, .entry 0x58 0x018] s (execXorr c t u v s) := by
  refine out_intro fun hp h => ?_
  unfold execXorr
  refine ⟨_, rfl, ?_⟩
  all_goals repeat' first
    | with_reducible (first
        | intro _ | assumption | apply coreXor_leads | apply State.coreInstr_leads)
    | ((with_reducible apply covers_trans hp); decide) | ((with_reducible apply covers_trans hp); (casesm* Carrier <;> decide))
    | ((with_reducible apply covers_trans hp); exact rfl) | ((with_reducible apply covers_trans hp); (casesm* Carrier <;> exact rfl))
    | rfl

theorem execShl_leads (c : Nat) (t : Nat) (u : Nat) (sh : Nat) (s : State) :
    Out.leads [.cores, .entry 0x58 0x012, .entry 0x78 0x000, .ev, .fb, .entry 0x78 0x001, .entry 0x78 0x002, .aon, .integ, .entry 0x58 0x010, .entry 0x58 0x017, .entry 0x58 0x018] s (execShl c t u sh s) := by
  refine out_intro fun hp h => ?_
  unfold execShl
  refine ⟨_, rfl, ?_⟩
  all_goals repeat' first
    | with_reducible (first
        | intro _ | assumption | apply coreShl_leads | apply State.coreInstr_leads)
    | ((with_reducible apply covers_trans hp); decide) | ((with_reducible apply covers_trans hp); (casesm* Carrier <;> decide))
    | ((with_reducible apply covers_trans hp); exact rfl) | ((with_reducible apply covers_trans hp); (casesm* Carrier <;> exact rfl))
    | rfl

theorem execShr_leads (c : Nat) (t : Nat) (u : Nat) (sh : Nat) (s : State) :
    Out.leads [.cores, .entry 0x58 0x012, .entry 0x78 0x000, .ev, .fb, .entry 0x78 0x001, .entry 0x78 0x002, .aon, .integ, .entry 0x58 0x010, .entry 0x58 0x017, .entry 0x58 0x018] s (execShr c t u sh s) := by
  refine out_intro fun hp h => ?_
  unfold execShr
  refine ⟨_, rfl, ?_⟩
  all_goals repeat' first
    | with_reducible (first
        | intro _ | assumption | apply coreShr_leads | apply State.coreInstr_leads)
    | ((with_reducible apply covers_trans hp); decide) | ((with_reducible apply covers_trans hp); (casesm* Carrier <;> decide))
    | ((with_reducible apply covers_trans hp); exact rfl) | ((with_reducible apply covers_trans hp); (casesm* Carrier <;> exact rfl))
    | rfl

theorem execAddi_leads (c : Nat) (t : Nat) (u : Nat) (imm : Int) (s : State) :
    Out.leads [.cores, .entry 0x58 0x012, .entry 0x78 0x000, .ev, .fb, .entry 0x78 0x001, .entry 0x78 0x002, .aon, .integ, .entry 0x58 0x010, .entry 0x58 0x017, .entry 0x58 0x018] s (execAddi c t u imm s) := by
  refine out_intro fun hp h => ?_
  unfold execAddi
  refine ⟨_, rfl, ?_⟩
  all_goals repeat' first
    | with_reducible (first
        | intro _ | assumption | apply coreAddi_leads | apply State.coreInstr_leads)
    | ((with_reducible apply covers_trans hp); decide) | ((with_reducible apply covers_trans hp); (casesm* Carrier <;> decide))
    | ((with_reducible apply covers_trans hp); exact rfl) | ((with_reducible apply covers_trans hp); (casesm* Carrier <;> exact rfl))
    | rfl

theorem execLui_leads (c : Nat) (t : Nat) (imm : Int) (s : State) :
    Out.leads [.cores, .entry 0x58 0x012, .entry 0x78 0x000, .ev, .fb, .entry 0x78 0x001, .entry 0x78 0x002, .aon, .integ, .entry 0x58 0x010, .entry 0x58 0x017, .entry 0x58 0x018] s (execLui c t imm s) := by
  refine out_intro fun hp h => ?_
  unfold execLui
  refine ⟨_, rfl, ?_⟩
  all_goals repeat' first
    | with_reducible (first
        | intro _ | assumption | apply coreLui_leads | apply State.coreInstr_leads)
    | ((with_reducible apply covers_trans hp); decide) | ((with_reducible apply covers_trans hp); (casesm* Carrier <;> decide))
    | ((with_reducible apply covers_trans hp); exact rfl) | ((with_reducible apply covers_trans hp); (casesm* Carrier <;> exact rfl))
    | rfl

theorem execBranch_leads (c : Nat) (cond : Nat) (disp : Int) (s : State) :
    Out.leads [.entry 0x58 0x012, .cores, .entry 0x78 0x000, .ev, .fb, .entry 0x78 0x001, .entry 0x78 0x002, .aon, .integ, .entry 0x58 0x010, .entry 0x58 0x017, .entry 0x58 0x018] s (execBranch c cond disp s) := by
  refine out_intro fun hp h => ?_
  unfold execBranch
  refine ⟨_, rfl, ?_⟩
  all_goals repeat' first
    | with_reducible (first
        | intro _ | assumption | apply coreB_leads | apply State.coreInstr_leads)
    | ((with_reducible apply covers_trans hp); decide) | ((with_reducible apply covers_trans hp); (casesm* Carrier <;> decide))
    | ((with_reducible apply covers_trans hp); exact rfl) | ((with_reducible apply covers_trans hp); (casesm* Carrier <;> exact rfl))
    | rfl

theorem execCall_leads (c : Nat) (disp : Int) (s : State) :
    Out.leads [.cores, .entry 0x58 0x012, .entry 0x78 0x000, .ev, .fb, .entry 0x78 0x001, .entry 0x78 0x002, .aon, .integ, .entry 0x58 0x010, .entry 0x58 0x017, .entry 0x58 0x018] s (execCall c disp s) := by
  refine out_intro fun hp h => ?_
  unfold execCall
  refine ⟨_, rfl, ?_⟩
  all_goals repeat' first
    | with_reducible (first
        | intro _ | assumption | apply coreCall_leads | apply State.coreInstr_leads)
    | ((with_reducible apply covers_trans hp); decide) | ((with_reducible apply covers_trans hp); (casesm* Carrier <;> decide))
    | ((with_reducible apply covers_trans hp); exact rfl) | ((with_reducible apply covers_trans hp); (casesm* Carrier <;> exact rfl))
    | rfl

theorem execRet_leads (c : Nat) (s : State) :
    Out.leads [.cores, .entry 0x58 0x012, .entry 0x78 0x000, .ev, .fb, .entry 0x78 0x001, .entry 0x78 0x002, .aon, .integ, .entry 0x58 0x010, .entry 0x58 0x017, .entry 0x58 0x018] s (execRet c s) := by
  refine out_intro fun hp h => ?_
  unfold execRet
  refine ⟨_, rfl, ?_⟩
  all_goals repeat' first
    | with_reducible (first
        | intro _ | assumption | apply coreRet_leads | apply State.coreInstr_leads)
    | ((with_reducible apply covers_trans hp); decide) | ((with_reducible apply covers_trans hp); (casesm* Carrier <;> decide))
    | ((with_reducible apply covers_trans hp); exact rfl) | ((with_reducible apply covers_trans hp); (casesm* Carrier <;> exact rfl))
    | rfl

theorem execLoopi_leads (c : Nat) (t : Nat) (len : Nat) (s : State) :
    Out.leads [.cores, .entry 0x58 0x012, .entry 0x78 0x000, .ev, .fb, .entry 0x78 0x001, .entry 0x78 0x002, .aon, .integ, .entry 0x58 0x010, .entry 0x58 0x017, .entry 0x58 0x018] s (execLoopi c t len s) := by
  refine out_intro fun hp h => ?_
  unfold execLoopi
  refine ⟨_, rfl, ?_⟩
  all_goals repeat' first
    | with_reducible (first
        | intro _ | assumption | apply coreLoop_leads | apply State.coreInstr_leads)
    | ((with_reducible apply covers_trans hp); decide) | ((with_reducible apply covers_trans hp); (casesm* Carrier <;> decide))
    | ((with_reducible apply covers_trans hp); exact rfl) | ((with_reducible apply covers_trans hp); (casesm* Carrier <;> exact rfl))
    | rfl

theorem execLdw_leads (c : Nat) (t : Nat) (n : Nat) (m : Nat) (noPost : Bool) (s : State) :
    Out.leads Part.all s (execLdw c t n m noPost s) := by
  refine out_intro fun hp h => ?_
  unfold execLdw
  refine ⟨_, rfl, ?_⟩
  all_goals repeat' first
    | with_reducible (first
        | intro _ | assumption | apply coreLdw_leads | apply State.coreInstr_leads)
    | ((with_reducible apply covers_trans hp); decide) | ((with_reducible apply covers_trans hp); (casesm* Carrier <;> decide))
    | ((with_reducible apply covers_trans hp); exact rfl) | ((with_reducible apply covers_trans hp); (casesm* Carrier <;> exact rfl))
    | rfl

theorem execStw_leads (c : Nat) (t : Nat) (n : Nat) (m : Nat) (noPost : Bool) (s : State) :
    Out.leads Part.all s (execStw c t n m noPost s) := by
  refine out_intro fun hp h => ?_
  unfold execStw
  refine ⟨_, rfl, ?_⟩
  all_goals repeat' first
    | with_reducible (first
        | intro _ | assumption | apply coreStw_leads | apply State.coreInstr_leads)
    | ((with_reducible apply covers_trans hp); decide) | ((with_reducible apply covers_trans hp); (casesm* Carrier <;> decide))
    | ((with_reducible apply covers_trans hp); exact rfl) | ((with_reducible apply covers_trans hp); (casesm* Carrier <;> exact rfl))
    | rfl

theorem execLdc_leads (c : Nat) (t : Nat) (n : Nat) (m : Nat) (noPost : Bool) (s : State) :
    Out.leads Part.all s (execLdc c t n m noPost s) := by
  refine out_intro fun hp h => ?_
  unfold execLdc
  refine ⟨_, rfl, ?_⟩
  all_goals repeat' first
    | with_reducible (first
        | intro _ | assumption | apply coreLdc_leads | apply State.coreInstr_leads)
    | ((with_reducible apply covers_trans hp); decide) | ((with_reducible apply covers_trans hp); (casesm* Carrier <;> decide))
    | ((with_reducible apply covers_trans hp); exact rfl) | ((with_reducible apply covers_trans hp); (casesm* Carrier <;> exact rfl))
    | rfl

theorem execStc_leads (c : Nat) (t : Nat) (n : Nat) (m : Nat) (noPost : Bool) (s : State) :
    Out.leads Part.all s (execStc c t n m noPost s) := by
  refine out_intro fun hp h => ?_
  unfold execStc
  refine ⟨_, rfl, ?_⟩
  all_goals repeat' first
    | with_reducible (first
        | intro _ | assumption | apply coreStc_leads | apply State.coreInstr_leads)
    | ((with_reducible apply covers_trans hp); decide) | ((with_reducible apply covers_trans hp); (casesm* Carrier <;> decide))
    | ((with_reducible apply covers_trans hp); exact rfl) | ((with_reducible apply covers_trans hp); (casesm* Carrier <;> exact rfl))
    | rfl

theorem execZl_leads (c : Nat) (n : Nat) (count : Nat) (s : State) :
    Out.leads [.integ, .cores, .entry 0x58 0x012, .entry 0x78 0x000, .ev, .fb, .entry 0x78 0x001, .entry 0x78 0x002, .aon, .entry 0x58 0x010, .entry 0x58 0x017, .entry 0x58 0x018] s (execZl c n count s) := by
  refine out_intro fun hp h => ?_
  unfold execZl
  refine ⟨_, rfl, ?_⟩
  all_goals repeat' first
    | with_reducible (first
        | intro _ | assumption | apply coreZl_leads | apply State.coreInstr_leads)
    | ((with_reducible apply covers_trans hp); decide) | ((with_reducible apply covers_trans hp); (casesm* Carrier <;> decide))
    | ((with_reducible apply covers_trans hp); exact rfl) | ((with_reducible apply covers_trans hp); (casesm* Carrier <;> exact rfl))
    | rfl

theorem execMgd_leads (c : Nat) (t : Nat) (u : Nat) (v : Nat) (s : State) :
    Out.leads [.cores, .entry 0x58 0x012, .entry 0x78 0x000, .ev, .fb, .entry 0x78 0x001, .entry 0x78 0x002, .aon, .integ, .entry 0x58 0x010, .entry 0x58 0x017, .entry 0x58 0x018] s (execMgd c t u v s) := by
  refine out_intro fun hp h => ?_
  unfold execMgd
  refine ⟨_, rfl, ?_⟩
  all_goals repeat' first
    | with_reducible (first
        | intro _ | assumption | apply coreMgd_leads | apply State.coreInstr_leads)
    | ((with_reducible apply covers_trans hp); decide) | ((with_reducible apply covers_trans hp); (casesm* Carrier <;> decide))
    | ((with_reducible apply covers_trans hp); exact rfl) | ((with_reducible apply covers_trans hp); (casesm* Carrier <;> exact rfl))
    | rfl

theorem execMdg_leads (c : Nat) (t : Nat) (u : Nat) (im : Bool) (s : State) :
    Out.leads [.cores, .entry 0x58 0x012, .entry 0x78 0x000, .ev, .fb, .entry 0x78 0x001, .entry 0x78 0x002, .aon, .integ, .entry 0x58 0x010, .entry 0x58 0x017, .entry 0x58 0x018] s (execMdg c t u im s) := by
  refine out_intro fun hp h => ?_
  unfold execMdg
  refine ⟨_, rfl, ?_⟩
  all_goals repeat' first
    | with_reducible (first
        | intro _ | assumption | apply coreMdg_leads | apply State.coreInstr_leads)
    | ((with_reducible apply covers_trans hp); decide) | ((with_reducible apply covers_trans hp); (casesm* Carrier <;> decide))
    | ((with_reducible apply covers_trans hp); exact rfl) | ((with_reducible apply covers_trans hp); (casesm* Carrier <;> exact rfl))
    | rfl

theorem execMvx_leads (c : Nat) (t : Nat) (u : Nat) (s : State) :
    Out.leads [.cores, .entry 0x58 0x012, .entry 0x78 0x000, .ev, .fb, .entry 0x78 0x001, .entry 0x78 0x002, .aon, .integ, .entry 0x58 0x010, .entry 0x58 0x017, .entry 0x58 0x018] s (execMvx c t u s) := by
  refine out_intro fun hp h => ?_
  unfold execMvx
  refine ⟨_, rfl, ?_⟩
  all_goals repeat' first
    | with_reducible (first
        | intro _ | assumption | apply coreMvx_leads | apply State.coreInstr_leads)
    | ((with_reducible apply covers_trans hp); decide) | ((with_reducible apply covers_trans hp); (casesm* Carrier <;> decide))
    | ((with_reducible apply covers_trans hp); exact rfl) | ((with_reducible apply covers_trans hp); (casesm* Carrier <;> exact rfl))
    | rfl

theorem execCmul_leads (c : Nat) (t : Nat) (u : Nat) (v : Nat) (s : State) :
    Out.leads [.cores, .entry 0x58 0x012, .entry 0x78 0x000, .ev, .fb, .entry 0x78 0x001, .entry 0x78 0x002, .aon, .integ, .entry 0x58 0x010, .entry 0x58 0x017, .entry 0x58 0x018] s (execCmul c t u v s) := by
  refine out_intro fun hp h => ?_
  unfold execCmul
  refine ⟨_, rfl, ?_⟩
  all_goals repeat' first
    | with_reducible (first
        | intro _ | assumption | apply coreProduct_leads | apply State.coreInstr_leads)
    | ((with_reducible apply covers_trans hp); decide) | ((with_reducible apply covers_trans hp); (casesm* Carrier <;> decide))
    | ((with_reducible apply covers_trans hp); exact rfl) | ((with_reducible apply covers_trans hp); (casesm* Carrier <;> exact rfl))
    | rfl

theorem execCmac_leads (c : Nat) (t : Nat) (u : Nat) (v : Nat) (s : State) :
    Out.leads [.cores, .entry 0x58 0x012, .entry 0x78 0x000, .ev, .fb, .entry 0x78 0x001, .entry 0x78 0x002, .aon, .integ, .entry 0x58 0x010, .entry 0x58 0x017, .entry 0x58 0x018] s (execCmac c t u v s) := by
  refine out_intro fun hp h => ?_
  unfold execCmac
  refine ⟨_, rfl, ?_⟩
  all_goals repeat' first
    | with_reducible (first
        | intro _ | assumption | apply coreProduct_leads | apply State.coreInstr_leads)
    | ((with_reducible apply covers_trans hp); decide) | ((with_reducible apply covers_trans hp); (casesm* Carrier <;> decide))
    | ((with_reducible apply covers_trans hp); exact rfl) | ((with_reducible apply covers_trans hp); (casesm* Carrier <;> exact rfl))
    | rfl

theorem execCmacj_leads (c : Nat) (t : Nat) (u : Nat) (v : Nat) (s : State) :
    Out.leads [.cores, .entry 0x58 0x012, .entry 0x78 0x000, .ev, .fb, .entry 0x78 0x001, .entry 0x78 0x002, .aon, .integ, .entry 0x58 0x010, .entry 0x58 0x017, .entry 0x58 0x018] s (execCmacj c t u v s) := by
  refine out_intro fun hp h => ?_
  unfold execCmacj
  refine ⟨_, rfl, ?_⟩
  all_goals repeat' first
    | with_reducible (first
        | intro _ | assumption | apply coreProduct_leads | apply State.coreInstr_leads)
    | ((with_reducible apply covers_trans hp); decide) | ((with_reducible apply covers_trans hp); (casesm* Carrier <;> decide))
    | ((with_reducible apply covers_trans hp); exact rfl) | ((with_reducible apply covers_trans hp); (casesm* Carrier <;> exact rfl))
    | rfl

theorem execCmsu_leads (c : Nat) (t : Nat) (u : Nat) (v : Nat) (s : State) :
    Out.leads [.cores, .entry 0x58 0x012, .entry 0x78 0x000, .ev, .fb, .entry 0x78 0x001, .entry 0x78 0x002, .aon, .integ, .entry 0x58 0x010, .entry 0x58 0x017, .entry 0x58 0x018] s (execCmsu c t u v s) := by
  refine out_intro fun hp h => ?_
  unfold execCmsu
  refine ⟨_, rfl, ?_⟩
  all_goals repeat' first
    | with_reducible (first
        | intro _ | assumption | apply coreProduct_leads | apply State.coreInstr_leads)
    | ((with_reducible apply covers_trans hp); decide) | ((with_reducible apply covers_trans hp); (casesm* Carrier <;> decide))
    | ((with_reducible apply covers_trans hp); exact rfl) | ((with_reducible apply covers_trans hp); (casesm* Carrier <;> exact rfl))
    | rfl

theorem execCmacm_leads (c : Nat) (t : Nat) (s : State) :
    Out.leads Part.all s (execCmacm c t s) := by
  refine out_intro fun hp h => ?_
  unfold execCmacm
  refine ⟨_, rfl, ?_⟩
  all_goals repeat' first
    | with_reducible (first
        | intro _ | assumption | apply coreCmacm_leads | apply State.coreInstr_leads)
    | ((with_reducible apply covers_trans hp); decide) | ((with_reducible apply covers_trans hp); (casesm* Carrier <;> decide))
    | ((with_reducible apply covers_trans hp); exact rfl) | ((with_reducible apply covers_trans hp); (casesm* Carrier <;> exact rfl))
    | rfl

theorem execClra_leads (c : Nat) (t : Nat) (s : State) :
    Out.leads [.cores, .entry 0x58 0x012, .entry 0x78 0x000, .ev, .fb, .entry 0x78 0x001, .entry 0x78 0x002, .aon, .integ, .entry 0x58 0x010, .entry 0x58 0x017, .entry 0x58 0x018] s (execClra c t s) := by
  refine out_intro fun hp h => ?_
  unfold execClra
  refine ⟨_, rfl, ?_⟩
  all_goals repeat' first
    | with_reducible (first
        | intro _ | assumption | apply coreClra_leads | apply State.coreInstr_leads)
    | ((with_reducible apply covers_trans hp); decide) | ((with_reducible apply covers_trans hp); (casesm* Carrier <;> decide))
    | ((with_reducible apply covers_trans hp); exact rfl) | ((with_reducible apply covers_trans hp); (casesm* Carrier <;> exact rfl))
    | rfl

theorem execSac_leads (c : Nat) (t : Nat) (u : Nat) (sh : Nat) (s : State) :
    Out.leads [.cores, .entry 0x58 0x012, .entry 0x78 0x000, .ev, .fb, .entry 0x78 0x001, .entry 0x78 0x002, .aon, .integ, .entry 0x58 0x010, .entry 0x58 0x017, .entry 0x58 0x018] s (execSac c t u sh s) := by
  refine out_intro fun hp h => ?_
  unfold execSac
  refine ⟨_, rfl, ?_⟩
  all_goals repeat' first
    | with_reducible (first
        | intro _ | assumption | apply coreSac_leads | apply State.coreInstr_leads)
    | ((with_reducible apply covers_trans hp); decide) | ((with_reducible apply covers_trans hp); (casesm* Carrier <;> decide))
    | ((with_reducible apply covers_trans hp); exact rfl) | ((with_reducible apply covers_trans hp); (casesm* Carrier <;> exact rfl))
    | rfl

theorem execSacg_leads (c : Nat) (t : Nat) (u : Nat) (im : Bool) (sh : Nat) (s : State) :
    Out.leads [.cores, .entry 0x58 0x012, .entry 0x78 0x000, .ev, .fb, .entry 0x78 0x001, .entry 0x78 0x002, .aon, .integ, .entry 0x58 0x010, .entry 0x58 0x017, .entry 0x58 0x018] s (execSacg c t u im sh s) := by
  refine out_intro fun hp h => ?_
  unfold execSacg
  refine ⟨_, rfl, ?_⟩
  all_goals repeat' first
    | with_reducible (first
        | intro _ | assumption | apply coreSacg_leads | apply State.coreInstr_leads)
    | ((with_reducible apply covers_trans hp); decide) | ((with_reducible apply covers_trans hp); (casesm* Carrier <;> decide))
    | ((with_reducible apply covers_trans hp); exact rfl) | ((with_reducible apply covers_trans hp); (casesm* Carrier <;> exact rfl))
    | rfl

theorem execCbx_leads (c : Nat) (t : Nat) (n : Nat) (num : Nat) (wr : Bool) (s : State) :
    Out.leads [.cores, .entry 0x58 0x012, .entry 0x78 0x000, .ev, .fb, .entry 0x78 0x001, .entry 0x78 0x002, .aon, .integ, .entry 0x58 0x010, .entry 0x58 0x017, .entry 0x58 0x018] s (execCbx c t n num wr s) := by
  refine out_intro fun hp h => ?_
  unfold execCbx
  refine ⟨_, rfl, ?_⟩
  all_goals repeat' first
    | with_reducible (first
        | intro _ | assumption | apply coreCbx_leads | apply State.coreInstr_leads)
    | ((with_reducible apply covers_trans hp); decide) | ((with_reducible apply covers_trans hp); (casesm* Carrier <;> decide))
    | ((with_reducible apply covers_trans hp); exact rfl) | ((with_reducible apply covers_trans hp); (casesm* Carrier <;> exact rfl))
    | rfl

theorem execWait_leads (c : Nat) (u : Nat) (s : State) :
    Out.leads [.cores, .entry 0x58 0x012, .entry 0x78 0x000, .ev, .fb, .entry 0x78 0x001, .entry 0x78 0x002, .aon, .integ, .entry 0x58 0x010, .entry 0x58 0x017, .entry 0x58 0x018] s (execWait c u s) := by
  refine out_intro fun hp h => ?_
  unfold execWait
  refine ⟨_, rfl, ?_⟩
  all_goals repeat' first
    | with_reducible (first
        | intro _ | assumption | apply coreWait_leads | apply State.coreInstr_leads)
    | ((with_reducible apply covers_trans hp); decide) | ((with_reducible apply covers_trans hp); (casesm* Carrier <;> decide))
    | ((with_reducible apply covers_trans hp); exact rfl) | ((with_reducible apply covers_trans hp); (casesm* Carrier <;> exact rfl))
    | rfl

theorem execHalt_leads (c : Nat) (s : State) :
    Out.leads [.entry 0x58 0x010, .entry 0x58 0x012, .cores, .entry 0x78 0x000, .ev, .fb, .entry 0x78 0x001, .entry 0x78 0x002, .aon, .integ, .entry 0x58 0x017, .entry 0x58 0x018] s (execHalt c s) := by
  refine out_intro fun hp h => ?_
  unfold execHalt
  refine ⟨_, rfl, ?_⟩
  all_goals repeat' first
    | with_reducible (first
        | intro _ | assumption | apply coreHalt_leads | apply State.coreInstr_leads)
    | ((with_reducible apply covers_trans hp); decide) | ((with_reducible apply covers_trans hp); (casesm* Carrier <;> decide))
    | ((with_reducible apply covers_trans hp); exact rfl) | ((with_reducible apply covers_trans hp); (casesm* Carrier <;> exact rfl))
    | rfl

theorem execCbxComplete_leads (c : Nat) (s : State) :
    Out.leads Part.all s (execCbxComplete c s) := by
  refine out_intro fun hp h => ?_
  unfold execCbxComplete
  repeat' first | refine ⟨_, rfl, ?_⟩ | dsimp only | split
  all_goals repeat' first
    | with_reducible (first
        | intro _ | assumption | apply State.doBurst_leads | apply State.coreNext_leads | apply State.dataMismatch_leads
        | apply when_leads | apply Leads.of_pair (by with_reducible assumption))
    | ((with_reducible apply covers_trans hp); decide) | ((with_reducible apply covers_trans hp); (casesm* Carrier <;> decide))
    | ((with_reducible apply covers_trans hp); exact rfl) | ((with_reducible apply covers_trans hp); (casesm* Carrier <;> exact rfl))
    | split | rfl

theorem execCoreWaitWake_leads (c : Nat) (s : State) :
    Out.leads [.cores, .entry 0x78 0x000, .ev, .fb, .entry 0x78 0x001, .entry 0x78 0x002, .aon, .integ, .entry 0x58 0x010] s (execCoreWaitWake c s) := by
  refine out_intro fun hp h => ?_
  unfold execCoreWaitWake
  repeat' first | refine ⟨_, rfl, ?_⟩ | dsimp only | split
  all_goals repeat' first
    | with_reducible (first
        | intro _ | assumption | apply ite_leads | apply State.modCore_leads | apply State.coreNext_leads | apply wr_leads
        | apply when_leads)
    | ((with_reducible apply covers_trans hp); decide) | ((with_reducible apply covers_trans hp); (casesm* Carrier <;> decide))
    | ((with_reducible apply covers_trans hp); exact rfl) | ((with_reducible apply covers_trans hp); (casesm* Carrier <;> exact rfl))
    | ((with_reducible apply covers_trans hp); ((try casesm* Carrier) <;> (repeat' split) <;> first | decide | rfl)) | rfl

theorem execIllegalOpcode_leads (c : Nat) (s : State) :
    Out.leads [.entry 0x58 0x012, .cores, .entry 0x78 0x000, .ev, .fb, .entry 0x78 0x001, .entry 0x78 0x002, .aon, .integ, .entry 0x58 0x010, .entry 0x58 0x017, .entry 0x58 0x018] s (execIllegalOpcode c s) := by
  refine out_intro fun hp h => ?_
  unfold execIllegalOpcode
  refine ⟨_, rfl, ?_⟩
  all_goals repeat' first
    | with_reducible (first
        | intro _ | assumption | apply State.coreInstr_leads)
    | ((with_reducible apply covers_trans hp); decide) | ((with_reducible apply covers_trans hp); (casesm* Carrier <;> decide))
    | ((with_reducible apply covers_trans hp); exact rfl) | ((with_reducible apply covers_trans hp); (casesm* Carrier <;> exact rfl))
    | rfl

end Sys2Proof.Machine
end

