-- ==== Sys2Proof/Laws/FrameCorePorts.lean ====
section
/-! SUPPORT. Frames of the operations and meanings of Machine/CorePorts.lean. -/

namespace Sys2Proof.Machine

variable {ps : List Part} {s0 : State}

theorem State.putBytes_leads (s : State) (c : Nat) (addr : Nat) (fill : List Byte) (bs : List Byte)
    (hp : covers ps [.integ, .cores] = true) (h : Leads ps s0 s) : Leads ps s0 (State.putBytes s c addr fill bs) := by
  unfold State.putBytes
  repeat' first
    | with_reducible (first
        | assumption | apply State.putLines_leads)
    | ((with_reducible apply covers_trans hp); decide) | ((with_reducible apply covers_trans hp); (casesm* Carrier <;> decide))
    | ((with_reducible apply covers_trans hp); exact rfl) | ((with_reducible apply covers_trans hp); (casesm* Carrier <;> exact rfl))
    | rfl

theorem State.putWin_leads (s : State) (a : Nat) (b : Byte)
    (hp : covers ps [.ports] = true) (h : Leads ps s0 s) : Leads ps s0 (State.putWin s a b) := by
  unfold State.putWin
  repeat' first
    | with_reducible (first
        | assumption | (apply Or.inr; rfl) | rfl)
    | ((with_reducible apply covers_trans hp); decide) | ((with_reducible apply covers_trans hp); (casesm* Carrier <;> decide))
    | ((with_reducible apply covers_trans hp); exact rfl) | ((with_reducible apply covers_trans hp); (casesm* Carrier <;> exact rfl))
    | ((with_reducible (apply Or.inl; apply within_of_covers; apply covers_trans hp)); decide) | dsimp only
    | with_reducible apply Leads.upd | rfl

theorem State.putWinWord_leads (s : State) (a : Nat) (v : Nat)
    (hp : covers ps [.ports, .entry 0x78 0x000, .ev, .fb, .entry 0x78 0x001, .entry 0x78 0x002, .aon, .integ] = true) (h : Leads ps s0 s) : Leads ps s0 (State.putWinWord s a v) := by
  unfold State.putWinWord
  repeat' first
    | with_reducible (first
        | intro _ | assumption | apply ite_leads | apply State.putWin_leads | apply State.mismatch_leads | apply State.lineGood_leads
        | apply foldl_leads)
    | ((with_reducible apply covers_trans hp); decide) | ((with_reducible apply covers_trans hp); (casesm* Carrier <;> decide))
    | ((with_reducible apply covers_trans hp); exact rfl) | ((with_reducible apply covers_trans hp); (casesm* Carrier <;> exact rfl))
    | rfl

theorem State.appPop_leads (s : State) (c : Nat)
    (hp : covers ps [.cores, .integ, .freeCtr] = true) (h : Leads ps s0 s) : Leads ps s0 (State.appPop s c).1 := by
  unfold State.appPop
  repeat' first
    | with_reducible (first
        | assumption | apply State.putBytes_leads | (apply Or.inr; rfl) | rfl)
    | ((with_reducible apply covers_trans hp); decide) | ((with_reducible apply covers_trans hp); (casesm* Carrier <;> decide))
    | ((with_reducible apply covers_trans hp); exact rfl) | ((with_reducible apply covers_trans hp); (casesm* Carrier <;> exact rfl))
    | ((with_reducible (apply Or.inl; apply within_of_covers; apply covers_trans hp)); decide) | dsimp only | split
    | with_reducible apply Leads.upd | rfl

theorem State.winPop_leads (s : State)
    (hp : covers ps [.ports] = true) (h : Leads ps s0 s) : Leads ps s0 (State.winPop s).1 := by
  unfold State.winPop
  repeat' first
    | with_reducible (first
        | assumption | (apply Or.inr; rfl) | rfl)
    | ((with_reducible apply covers_trans hp); decide) | ((with_reducible apply covers_trans hp); (casesm* Carrier <;> decide))
    | ((with_reducible apply covers_trans hp); exact rfl) | ((with_reducible apply covers_trans hp); (casesm* Carrier <;> exact rfl))
    | ((with_reducible (apply Or.inl; apply within_of_covers; apply covers_trans hp)); decide) | dsimp only | split
    | with_reducible apply Leads.upd | rfl

theorem State.portIn_leads (s : State) (c : Nat) (port : Nat)
    (hp : covers ps [.cores, .integ, .freeCtr, .ports] = true) (h : Leads ps s0 s) : Leads ps s0 (State.portIn s c port).1 := by
  unfold State.portIn
  repeat' first
    | with_reducible (first
        | assumption | apply State.modCore_leads | apply State.appPop_leads | apply State.winPop_leads | apply ite_fst_leads)
    | ((with_reducible apply covers_trans hp); decide) | ((with_reducible apply covers_trans hp); (casesm* Carrier <;> decide))
    | ((with_reducible apply covers_trans hp); exact rfl) | ((with_reducible apply covers_trans hp); (casesm* Carrier <;> exact rfl))
    | dsimp only | split | rfl

theorem State.lgSend_leads (s : State) (c : Nat)
    (hp : covers ps Part.all = true) (h : Leads ps s0 s) : Leads ps s0 (State.lgSend s c).1 := by
  unfold State.lgSend
  repeat' first
    | with_reducible (first
        | assumption | apply State.modCore_leads | apply State.dataMismatch_leads | apply ite_fst_leads)
    | ((with_reducible apply covers_trans hp); decide) | ((with_reducible apply covers_trans hp); (casesm* Carrier <;> decide))
    | ((with_reducible apply covers_trans hp); exact rfl) | ((with_reducible apply covers_trans hp); (casesm* Carrier <;> exact rfl))
    | split | rfl

theorem State.appSend_leads (s : State) (c : Nat) (len : Nat)
    (hp : covers ps Part.all = true) (h : Leads ps s0 s) : Leads ps s0 (State.appSend s c len).1 := by
  unfold State.appSend
  repeat' first
    | with_reducible (first
        | assumption | apply State.dataMismatch_leads | apply State.originate_leads | apply State.modCore_leads)
    | ((with_reducible apply covers_trans hp); decide) | ((with_reducible apply covers_trans hp); (casesm* Carrier <;> decide))
    | ((with_reducible apply covers_trans hp); exact rfl) | ((with_reducible apply covers_trans hp); (casesm* Carrier <;> exact rfl))
    | dsimp only | split | rfl

theorem State.portOut_leads (s : State) (c : Nat) (port : Nat) (v : Nat)
    (hp : covers ps Part.all = true) (h : Leads ps s0 s) : Leads ps s0 (State.portOut s c port v).1 := by
  unfold State.portOut
  repeat' first
    | with_reducible (first
        | assumption | apply State.modCore_leads | apply wr_leads | apply State.lgSend_leads | apply State.appSend_leads
        | apply State.putWinWord_leads | apply ite_fst_leads | (apply Or.inr; rfl) | rfl)
    | ((with_reducible apply covers_trans hp); decide) | ((with_reducible apply covers_trans hp); (casesm* Carrier <;> decide))
    | ((with_reducible apply covers_trans hp); exact rfl) | ((with_reducible apply covers_trans hp); (casesm* Carrier <;> exact rfl))
    | ((with_reducible apply covers_trans hp); ((try casesm* Carrier) <;> (repeat' split) <;> first | decide | rfl))
    | ((with_reducible (apply Or.inl; apply within_of_covers; apply covers_trans hp)); decide) | dsimp only | split
    | with_reducible apply Leads.upd | rfl

theorem coreIn_leads (c : Nat) (t : Nat) (port : Nat) (s : State)
    (hp : covers ps [.cores, .integ, .freeCtr, .ports] = true) (h : Leads ps s0 s) : Leads ps s0 (coreIn c t port s).1 := by
  unfold coreIn
  repeat' first
    | with_reducible (first
        | assumption | apply State.portIn_leads | apply State.modCore_leads)
    | ((with_reducible apply covers_trans hp); decide) | ((with_reducible apply covers_trans hp); (casesm* Carrier <;> decide))
    | ((with_reducible apply covers_trans hp); exact rfl) | ((with_reducible apply covers_trans hp); (casesm* Carrier <;> exact rfl))
    | rfl

theorem coreOut_leads (c : Nat) (u : Nat) (port : Nat) (s : State)
    (hp : covers ps Part.all = true) (h : Leads ps s0 s) : Leads ps s0 (coreOut c u port s).1 := by
  unfold coreOut
  repeat' first
    | with_reducible (first
        | assumption | apply State.portOut_leads)
    | ((with_reducible apply covers_trans hp); decide) | ((with_reducible apply covers_trans hp); (casesm* Carrier <;> decide))
    | ((with_reducible apply covers_trans hp); exact rfl) | ((with_reducible apply covers_trans hp); (casesm* Carrier <;> exact rfl))
    | rfl

theorem execInPort_leads (c : Nat) (t : Nat) (port : Nat) (s : State) :
    Out.leads [.cores, .integ, .freeCtr, .ports, .entry 0x58 0x012, .entry 0x78 0x000, .ev, .fb, .entry 0x78 0x001, .entry 0x78 0x002, .aon, .entry 0x58 0x010, .entry 0x58 0x017, .entry 0x58 0x018] s (execInPort c t port s) := by
  refine out_intro fun hp h => ?_
  unfold execInPort
  refine ⟨_, rfl, ?_⟩
  all_goals repeat' first
    | with_reducible (first
        | intro _ | assumption | apply coreIn_leads | apply State.coreInstr_leads)
    | ((with_reducible apply covers_trans hp); decide) | ((with_reducible apply covers_trans hp); (casesm* Carrier <;> decide))
    | ((with_reducible apply covers_trans hp); exact rfl) | ((with_reducible apply covers_trans hp); (casesm* Carrier <;> exact rfl))
    | rfl

theorem execOutPort_leads (c : Nat) (u : Nat) (port : Nat) (s : State) :
    Out.leads Part.all s (execOutPort c u port s) := by
  refine out_intro fun hp h => ?_
  unfold execOutPort
  refine ⟨_, rfl, ?_⟩
  all_goals repeat' first
    | with_reducible (first
        | intro _ | assumption | apply coreOut_leads | apply State.coreInstr_leads)
    | ((with_reducible apply covers_trans hp); decide) | ((with_reducible apply covers_trans hp); (casesm* Carrier <;> decide))
    | ((with_reducible apply covers_trans hp); exact rfl) | ((with_reducible apply covers_trans hp); (casesm* Carrier <;> exact rfl))
    | rfl

theorem execFaultExit_leads (c : Nat) (u : Nat) (s : State) :
    Out.leads Part.all s (execFaultExit c u s) := by
  refine out_intro fun hp h => ?_
  unfold execFaultExit
  refine ⟨_, rfl, ?_⟩
  all_goals repeat' first
    | with_reducible (first
        | intro _ | assumption | apply coreOut_leads | apply State.coreInstr_leads)
    | ((with_reducible apply covers_trans hp); decide) | ((with_reducible apply covers_trans hp); (casesm* Carrier <;> decide))
    | ((with_reducible apply covers_trans hp); exact rfl) | ((with_reducible apply covers_trans hp); (casesm* Carrier <;> exact rfl))
    | rfl

theorem execFlagsClear_leads (c : Nat) (u : Nat) (s : State) :
    Out.leads Part.all s (execFlagsClear c u s) := by
  refine out_intro fun hp h => ?_
  unfold execFlagsClear
  refine ⟨_, rfl, ?_⟩
  all_goals repeat' first
    | with_reducible (first
        | intro _ | assumption | apply coreOut_leads | apply State.coreInstr_leads)
    | ((with_reducible apply covers_trans hp); decide) | ((with_reducible apply covers_trans hp); (casesm* Carrier <;> decide))
    | ((with_reducible apply covers_trans hp); exact rfl) | ((with_reducible apply covers_trans hp); (casesm* Carrier <;> exact rfl))
    | rfl

theorem execWdogKick_leads (c : Nat) (u : Nat) (s : State) :
    Out.leads Part.all s (execWdogKick c u s) := by
  refine out_intro fun hp h => ?_
  unfold execWdogKick
  refine ⟨_, rfl, ?_⟩
  all_goals repeat' first
    | with_reducible (first
        | intro _ | assumption | apply coreOut_leads | apply State.coreInstr_leads)
    | ((with_reducible apply covers_trans hp); decide) | ((with_reducible apply covers_trans hp); (casesm* Carrier <;> decide))
    | ((with_reducible apply covers_trans hp); exact rfl) | ((with_reducible apply covers_trans hp); (casesm* Carrier <;> exact rfl))
    | rfl

theorem execDatumLoRead_leads (c : Nat) (t : Nat) (s : State) :
    Out.leads [.cores, .integ, .freeCtr, .ports, .entry 0x58 0x012, .entry 0x78 0x000, .ev, .fb, .entry 0x78 0x001, .entry 0x78 0x002, .aon, .entry 0x58 0x010, .entry 0x58 0x017, .entry 0x58 0x018] s (execDatumLoRead c t s) := by
  refine out_intro fun hp h => ?_
  unfold execDatumLoRead
  refine ⟨_, rfl, ?_⟩
  all_goals repeat' first
    | with_reducible (first
        | intro _ | assumption | apply coreIn_leads | apply State.coreInstr_leads)
    | ((with_reducible apply covers_trans hp); decide) | ((with_reducible apply covers_trans hp); (casesm* Carrier <;> decide))
    | ((with_reducible apply covers_trans hp); exact rfl) | ((with_reducible apply covers_trans hp); (casesm* Carrier <;> exact rfl))
    | rfl

theorem execEventsRead_leads (c : Nat) (t : Nat) (s : State) :
    Out.leads [.cores, .integ, .freeCtr, .ports, .entry 0x58 0x012, .entry 0x78 0x000, .ev, .fb, .entry 0x78 0x001, .entry 0x78 0x002, .aon, .entry 0x58 0x010, .entry 0x58 0x017, .entry 0x58 0x018] s (execEventsRead c t s) := by
  refine out_intro fun hp h => ?_
  unfold execEventsRead
  refine ⟨_, rfl, ?_⟩
  all_goals repeat' first
    | with_reducible (first
        | intro _ | assumption | apply coreIn_leads | apply State.coreInstr_leads)
    | ((with_reducible apply covers_trans hp); decide) | ((with_reducible apply covers_trans hp); (casesm* Carrier <;> decide))
    | ((with_reducible apply covers_trans hp); exact rfl) | ((with_reducible apply covers_trans hp); (casesm* Carrier <;> exact rfl))
    | rfl

theorem execLgSend_leads (c : Nat) (u : Nat) (s : State) :
    Out.leads Part.all s (execLgSend c u s) := by
  refine out_intro fun hp h => ?_
  unfold execLgSend
  refine ⟨_, rfl, ?_⟩
  all_goals repeat' first
    | with_reducible (first
        | intro _ | assumption | apply coreOut_leads | apply State.coreInstr_leads)
    | ((with_reducible apply covers_trans hp); decide) | ((with_reducible apply covers_trans hp); (casesm* Carrier <;> decide))
    | ((with_reducible apply covers_trans hp); exact rfl) | ((with_reducible apply covers_trans hp); (casesm* Carrier <;> exact rfl))
    | rfl

theorem execAppRxPop_leads (c : Nat) (t : Nat) (s : State) :
    Out.leads [.cores, .integ, .freeCtr, .ports, .entry 0x58 0x012, .entry 0x78 0x000, .ev, .fb, .entry 0x78 0x001, .entry 0x78 0x002, .aon, .entry 0x58 0x010, .entry 0x58 0x017, .entry 0x58 0x018] s (execAppRxPop c t s) := by
  refine out_intro fun hp h => ?_
  unfold execAppRxPop
  refine ⟨_, rfl, ?_⟩
  all_goals repeat' first
    | with_reducible (first
        | intro _ | assumption | apply coreIn_leads | apply State.coreInstr_leads)
    | ((with_reducible apply covers_trans hp); decide) | ((with_reducible apply covers_trans hp); (casesm* Carrier <;> decide))
    | ((with_reducible apply covers_trans hp); exact rfl) | ((with_reducible apply covers_trans hp); (casesm* Carrier <;> exact rfl))
    | rfl

theorem execAppTxGo_leads (c : Nat) (u : Nat) (s : State) :
    Out.leads Part.all s (execAppTxGo c u s) := by
  refine out_intro fun hp h => ?_
  unfold execAppTxGo
  refine ⟨_, rfl, ?_⟩
  all_goals repeat' first
    | with_reducible (first
        | intro _ | assumption | apply coreOut_leads | apply State.coreInstr_leads)
    | ((with_reducible apply covers_trans hp); decide) | ((with_reducible apply covers_trans hp); (casesm* Carrier <;> decide))
    | ((with_reducible apply covers_trans hp); exact rfl) | ((with_reducible apply covers_trans hp); (casesm* Carrier <;> exact rfl))
    | rfl

theorem execWinDataWrite_leads (c : Nat) (u : Nat) (s : State) :
    Out.leads Part.all s (execWinDataWrite c u s) := by
  refine out_intro fun hp h => ?_
  unfold execWinDataWrite
  refine ⟨_, rfl, ?_⟩
  all_goals repeat' first
    | with_reducible (first
        | intro _ | assumption | apply coreOut_leads | apply State.coreInstr_leads)
    | ((with_reducible apply covers_trans hp); decide) | ((with_reducible apply covers_trans hp); (casesm* Carrier <;> decide))
    | ((with_reducible apply covers_trans hp); exact rfl) | ((with_reducible apply covers_trans hp); (casesm* Carrier <;> exact rfl))
    | rfl

theorem execWinWmask_leads (c : Nat) (u : Nat) (s : State) :
    Out.leads Part.all s (execWinWmask c u s) := by
  refine out_intro fun hp h => ?_
  unfold execWinWmask
  refine ⟨_, rfl, ?_⟩
  all_goals repeat' first
    | with_reducible (first
        | intro _ | assumption | apply coreOut_leads | apply State.coreInstr_leads)
    | ((with_reducible apply covers_trans hp); decide) | ((with_reducible apply covers_trans hp); (casesm* Carrier <;> decide))
    | ((with_reducible apply covers_trans hp); exact rfl) | ((with_reducible apply covers_trans hp); (casesm* Carrier <;> exact rfl))
    | rfl

theorem execWinQpop_leads (c : Nat) (t : Nat) (s : State) :
    Out.leads [.cores, .integ, .freeCtr, .ports, .entry 0x58 0x012, .entry 0x78 0x000, .ev, .fb, .entry 0x78 0x001, .entry 0x78 0x002, .aon, .entry 0x58 0x010, .entry 0x58 0x017, .entry 0x58 0x018] s (execWinQpop c t s) := by
  refine out_intro fun hp h => ?_
  unfold execWinQpop
  refine ⟨_, rfl, ?_⟩
  all_goals repeat' first
    | with_reducible (first
        | intro _ | assumption | apply coreIn_leads | apply State.coreInstr_leads)
    | ((with_reducible apply covers_trans hp); decide) | ((with_reducible apply covers_trans hp); (casesm* Carrier <;> decide))
    | ((with_reducible apply covers_trans hp); exact rfl) | ((with_reducible apply covers_trans hp); (casesm* Carrier <;> exact rfl))
    | rfl

theorem execResGo_leads (c : Nat) (u : Nat) (s : State) :
    Out.leads Part.all s (execResGo c u s) := by
  refine out_intro fun hp h => ?_
  unfold execResGo
  refine ⟨_, rfl, ?_⟩
  all_goals repeat' first
    | with_reducible (first
        | intro _ | assumption | apply coreOut_leads | apply State.coreInstr_leads)
    | ((with_reducible apply covers_trans hp); decide) | ((with_reducible apply covers_trans hp); (casesm* Carrier <;> decide))
    | ((with_reducible apply covers_trans hp); exact rfl) | ((with_reducible apply covers_trans hp); (casesm* Carrier <;> exact rfl))
    | rfl

theorem execCoreTimerExpire_leads (c : Nat) (s : State) :
    Out.leads [.cores] s (execCoreTimerExpire c s) := by
  refine out_intro fun hp h => ?_
  unfold execCoreTimerExpire
  refine ⟨_, rfl, ?_⟩
  all_goals repeat' first
    | with_reducible (first
        | intro _ | assumption | apply State.modCore_leads | apply when_leads)
    | ((with_reducible apply covers_trans hp); decide) | ((with_reducible apply covers_trans hp); (casesm* Carrier <;> decide))
    | ((with_reducible apply covers_trans hp); exact rfl) | ((with_reducible apply covers_trans hp); (casesm* Carrier <;> exact rfl))
    | rfl

theorem execResReadDone_leads (c : Nat) (s : State) :
    Out.leads [.cores, .integ, .entry 0x58 0x010, .ev, .fb, .entry 0x58 0x017, .entry 0x58 0x018, .entry 0x78 0x000, .entry 0x78 0x001, .entry 0x78 0x002, .aon] s (execResReadDone c s) := by
  refine out_intro fun hp h => ?_
  unfold execResReadDone
  refine ⟨_, rfl, ?_⟩
  all_goals repeat' first
    | with_reducible (first
        | intro _ | assumption | apply ite_leads | apply State.modCore_leads | apply State.putBytes_leads | apply State.coreFault_leads
        | apply when_leads)
    | ((with_reducible apply covers_trans hp); decide) | ((with_reducible apply covers_trans hp); (casesm* Carrier <;> decide))
    | ((with_reducible apply covers_trans hp); exact rfl) | ((with_reducible apply covers_trans hp); (casesm* Carrier <;> exact rfl))
    | rfl

end Sys2Proof.Machine
end

