-- ==== Sys2Proof/Laws/FrameBundles.lean ====
section
/-! SUPPORT. Frames of the operations and meanings of Machine/Bundles.lean. -/

namespace Sys2Proof.Machine

variable {ps : List Part} {s0 : State}

theorem State.verifyDetail_leads (s : State) (x1 : Option (Nat × Nat × Nat))
    (hp : covers ps [.entry 0x7A 0x004, .entry 0x7A 0x005] = true) (h : Leads ps s0 s) : Leads ps s0 (State.verifyDetail s x1) := by
  unfold State.verifyDetail
  repeat' first
    | with_reducible (first
        | assumption | apply wr_leads)
    | ((with_reducible apply covers_trans hp); decide) | ((with_reducible apply covers_trans hp); (casesm* Carrier <;> decide))
    | ((with_reducible apply covers_trans hp); exact rfl) | ((with_reducible apply covers_trans hp); (casesm* Carrier <;> exact rfl))
    | split | rfl

theorem State.modSlot_leads (s : State) (i : Nat) (f : FlashSlot → FlashSlot)
    (hp : covers ps [.flash] = true) (h : Leads ps s0 s) : Leads ps s0 (State.modSlot s i f) := by
  unfold State.modSlot
  repeat' first
    | with_reducible (first
        | assumption | (apply Or.inr; rfl) | rfl)
    | ((with_reducible apply covers_trans hp); decide) | ((with_reducible apply covers_trans hp); (casesm* Carrier <;> decide))
    | ((with_reducible apply covers_trans hp); exact rfl) | ((with_reducible apply covers_trans hp); (casesm* Carrier <;> exact rfl))
    | ((with_reducible (apply Or.inl; apply within_of_covers; apply covers_trans hp)); decide) | dsimp only
    | with_reducible apply Leads.upd | rfl

theorem State.loadBundle_leads (s : State) (slot : Nat)
    (hp : covers ps [.entry 0x58 0x003, .entry 0x58 0x001, .cores, .integ, .entry 0x58 0x011, .entry 0x58 0x010] = true) (h : Leads ps s0 s) : Leads ps s0 (State.loadBundle s slot) := by
  unfold State.loadBundle
  repeat' first
    | with_reducible (first
        | intro _ | assumption | apply ite_leads | apply wr_leads | apply State.modCore_leads | apply foldl_leads | (apply Or.inr; rfl)
        | rfl)
    | ((with_reducible apply covers_trans hp); decide) | ((with_reducible apply covers_trans hp); (casesm* Carrier <;> decide))
    | ((with_reducible apply covers_trans hp); exact rfl) | ((with_reducible apply covers_trans hp); (casesm* Carrier <;> exact rfl))
    | ((with_reducible apply covers_trans hp); ((try casesm* Carrier) <;> (repeat' split) <;> first | decide | rfl))
    | ((with_reducible (apply Or.inl; apply within_of_covers; apply covers_trans hp)); decide) | dsimp only
    | with_reducible apply Leads.upd | rfl

theorem State.startCore_leads (s : State) (c : Nat)
    (hp : covers ps [.cores, .entry 0x58 0x010] = true) (h : Leads ps s0 s) : Leads ps s0 (State.startCore s c) := by
  unfold State.startCore
  repeat' first
    | with_reducible (first
        | assumption | apply ite_leads | apply State.modCore_leads | apply wr_leads)
    | ((with_reducible apply covers_trans hp); decide) | ((with_reducible apply covers_trans hp); (casesm* Carrier <;> decide))
    | ((with_reducible apply covers_trans hp); exact rfl) | ((with_reducible apply covers_trans hp); (casesm* Carrier <;> exact rfl))
    | ((with_reducible apply covers_trans hp); ((try casesm* Carrier) <;> (repeat' split) <;> first | decide | rfl)) | rfl

theorem execCoreWdogExpire_leads (c : Nat) (s : State) :
    Out.leads Part.all s (execCoreWdogExpire c s) := by
  refine out_intro fun hp h => ?_
  unfold execCoreWdogExpire
  refine ⟨_, rfl, ?_⟩
  all_goals repeat' first
    | with_reducible (first
        | intro _ | assumption | apply ite_leads | apply State.bump_leads | apply State.raise_leads | apply State.autoRestart_leads
        | apply State.enterReset_leads | apply when_leads)
    | ((with_reducible apply covers_trans hp); decide) | ((with_reducible apply covers_trans hp); (casesm* Carrier <;> decide))
    | ((with_reducible apply covers_trans hp); exact rfl) | ((with_reducible apply covers_trans hp); (casesm* Carrier <;> exact rfl))
    | ((with_reducible apply covers_trans hp); ((try casesm* Carrier) <;> (repeat' split) <;> first | decide | rfl)) | rfl

theorem State.restartCmd_leads (s : State) (c : Nat)
    (hp : covers ps [.cores, .carA, .carB, .integ, .freeCtr, .ed, .blobs, .entry 0x50 0x050, .ev, .fb, .entry 0x58 0x010] = true) (h : Leads ps s0 s) : Leads ps s0 (State.restartCmd s c).1 := by
  unfold State.restartCmd
  repeat' first
    | with_reducible (first
        | assumption | apply State.stopCore_leads | apply State.restartCore_leads | apply ite_fst_leads)
    | ((with_reducible apply covers_trans hp); decide) | ((with_reducible apply covers_trans hp); (casesm* Carrier <;> decide))
    | ((with_reducible apply covers_trans hp); exact rfl) | ((with_reducible apply covers_trans hp); (casesm* Carrier <;> exact rfl))
    | rfl

theorem execCoreRestart_leads (src : Nat) (c : Nat) (s : State) :
    Out.leads [.cores, .carA, .carB, .integ, .freeCtr, .ed, .blobs, .entry 0x50 0x050, .ev, .fb, .entry 0x58 0x010, .pw, .ports, .entry 0x08 0x030] s (execCoreRestart src c s) := by
  refine out_intro fun hp h => ?_
  unfold execCoreRestart
  refine ⟨_, rfl, ?_⟩
  all_goals repeat' first
    | with_reducible (first
        | intro _ | assumption | apply State.restartCmd_leads | apply State.request_leads)
    | ((with_reducible apply covers_trans hp); decide) | ((with_reducible apply covers_trans hp); (casesm* Carrier <;> decide))
    | ((with_reducible apply covers_trans hp); exact rfl) | ((with_reducible apply covers_trans hp); (casesm* Carrier <;> exact rfl))
    | rfl

theorem execSfHaltedLeadRestart_leads (c : Nat) (s : State) :
    Out.leads [.cores, .carA, .carB, .integ, .freeCtr, .ed, .blobs, .entry 0x50 0x050, .ev, .fb, .entry 0x58 0x010, .pw, .ports, .entry 0x08 0x030] s (execSfHaltedLeadRestart c s) := by
  refine out_intro fun hp h => ?_
  unfold execSfHaltedLeadRestart
  refine ⟨_, rfl, ?_⟩
  all_goals repeat' first
    | with_reducible (first
        | intro _ | assumption | apply State.restartCmd_leads | apply State.request_leads | apply when_leads)
    | ((with_reducible apply covers_trans hp); decide) | ((with_reducible apply covers_trans hp); (casesm* Carrier <;> decide))
    | ((with_reducible apply covers_trans hp); exact rfl) | ((with_reducible apply covers_trans hp); (casesm* Carrier <;> exact rfl))
    | rfl

theorem execFwRestart_leads (src : Nat) (s : State) :
    Out.leads [.cores, .entry 0x58 0x000, .pw, .ports, .entry 0x08 0x030, .ev, .fb] s (execFwRestart src s) := by
  refine out_intro fun hp h => ?_
  unfold execFwRestart
  refine ⟨_, rfl, ?_⟩
  all_goals repeat' first
    | with_reducible (first
        | intro _ | assumption | apply wr_leads | apply State.request_leads | apply ite_fst_leads | (apply Or.inr; rfl) | rfl)
    | ((with_reducible apply covers_trans hp); decide) | ((with_reducible apply covers_trans hp); (casesm* Carrier <;> decide))
    | ((with_reducible apply covers_trans hp); exact rfl) | ((with_reducible apply covers_trans hp); (casesm* Carrier <;> exact rfl))
    | ((with_reducible (apply Or.inl; apply within_of_covers; apply covers_trans hp)); decide) | dsimp only
    | with_reducible apply Leads.upd | rfl

theorem State.setLoad_leads (s : State) (st : Int)
    (hp : covers ps [.entry 0x58 0x023, .ev, .fb, .cores, .entry 0x58 0x02B] = true) (h : Leads ps s0 s) : Leads ps s0 (State.setLoad s st) := by
  unfold State.setLoad
  repeat' first
    | with_reducible (first
        | assumption | apply ite_leads | apply wr_leads | apply State.raise_leads | (apply Or.inr; rfl) | rfl)
    | ((with_reducible apply covers_trans hp); decide) | ((with_reducible apply covers_trans hp); (casesm* Carrier <;> decide))
    | ((with_reducible apply covers_trans hp); exact rfl) | ((with_reducible apply covers_trans hp); (casesm* Carrier <;> exact rfl))
    | ((with_reducible (apply Or.inl; apply within_of_covers; apply covers_trans hp)); decide) | dsimp only
    | with_reducible apply Leads.upd | rfl

theorem State.loadFail_leads (s : State) (l : LoadRun) (result : Nat)
    (hp : covers ps [.flash, .entry 0x58 0x024, .entry 0x58 0x023, .ev, .fb, .cores, .entry 0x58 0x02B] = true) (h : Leads ps s0 s) : Leads ps s0 (State.loadFail s l result) := by
  unfold State.loadFail
  repeat' first
    | with_reducible (first
        | assumption | apply State.modSlot_leads | apply wr_leads | apply State.setLoad_leads)
    | ((with_reducible apply covers_trans hp); decide) | ((with_reducible apply covers_trans hp); (casesm* Carrier <;> decide))
    | ((with_reducible apply covers_trans hp); exact rfl) | ((with_reducible apply covers_trans hp); (casesm* Carrier <;> exact rfl))
    | rfl

theorem State.putLoad_leads (s : State) (l : LoadRun)
    (hp : covers ps [.cores] = true) (h : Leads ps s0 s) : Leads ps s0 (State.putLoad s l) := by
  unfold State.putLoad
  repeat' first
    | with_reducible (first
        | assumption | (apply Or.inr; rfl) | rfl)
    | ((with_reducible apply covers_trans hp); decide) | ((with_reducible apply covers_trans hp); (casesm* Carrier <;> decide))
    | ((with_reducible apply covers_trans hp); exact rfl) | ((with_reducible apply covers_trans hp); (casesm* Carrier <;> exact rfl))
    | ((with_reducible (apply Or.inl; apply within_of_covers; apply covers_trans hp)); decide) | dsimp only
    | with_reducible apply Leads.upd | rfl

theorem execLoadBegin_leads (src : Nat) (v : Int) (s : State) :
    Out.leads [.entry 0x58 0x024, .flash, .cores, .entry 0x58 0x02B, .entry 0x58 0x025, .entry 0x58 0x023, .ev, .fb, .pw, .ports, .entry 0x08 0x030] s (execLoadBegin src v s) := by
  refine out_intro fun hp h => ?_
  unfold execLoadBegin
  refine ⟨_, rfl, ?_⟩
  all_goals repeat' first
    | with_reducible (first
        | intro _ | assumption | apply wr_leads | apply State.modSlot_leads | apply State.putLoad_leads | apply State.setLoad_leads
        | apply State.request_leads | apply ite_fst_leads)
    | ((with_reducible apply covers_trans hp); decide) | ((with_reducible apply covers_trans hp); (casesm* Carrier <;> decide))
    | ((with_reducible apply covers_trans hp); exact rfl) | ((with_reducible apply covers_trans hp); (casesm* Carrier <;> exact rfl))
    | rfl

theorem execLoadEraseDone_leads (ok : Bool) (s : State) :
    Out.leads [.entry 0x58 0x023, .ev, .fb, .cores, .entry 0x58 0x02B, .flash, .entry 0x58 0x024] s (execLoadEraseDone ok s) := by
  refine out_intro fun hp h => ?_
  unfold execLoadEraseDone
  repeat' first | refine ⟨_, rfl, ?_⟩ | dsimp only | split
  all_goals repeat' first
    | with_reducible (first
        | intro _ | assumption | apply ite_leads | apply State.setLoad_leads | apply State.loadFail_leads | apply when_leads)
    | ((with_reducible apply covers_trans hp); decide) | ((with_reducible apply covers_trans hp); (casesm* Carrier <;> decide))
    | ((with_reducible apply covers_trans hp); exact rfl) | ((with_reducible apply covers_trans hp); (casesm* Carrier <;> exact rfl))
    | rfl

theorem State.loadPart_leads (s : State) (src : Nat) (p : Nat) (bs : List Byte)
    (hp : covers ps [.cores, .flash, .entry 0x58 0x024, .entry 0x58 0x023, .ev, .fb, .entry 0x58 0x02B, .entry 0x7A 0x004, .entry 0x7A 0x005] = true) (h : Leads ps s0 s) : Leads ps s0 (State.loadPart s src p bs).1 := by
  unfold State.loadPart
  repeat' first
    | with_reducible (first
        | assumption | apply State.putLoad_leads | apply State.loadFail_leads | apply State.verifyDetail_leads
        | apply State.modSlot_leads | apply State.setLoad_leads | apply ite_fst_leads)
    | ((with_reducible apply covers_trans hp); decide) | ((with_reducible apply covers_trans hp); (casesm* Carrier <;> decide))
    | ((with_reducible apply covers_trans hp); exact rfl) | ((with_reducible apply covers_trans hp); (casesm* Carrier <;> exact rfl))
    | dsimp only | split | rfl

theorem execLoadManifest_leads (src : Nat) (p : Nat) (bs : List Byte) (s : State) :
    Out.leads [.cores, .flash, .entry 0x58 0x024, .entry 0x58 0x023, .ev, .fb, .entry 0x58 0x02B, .entry 0x7A 0x004, .entry 0x7A 0x005, .pw, .ports, .entry 0x08 0x030] s (execLoadManifest src p bs s) := by
  refine out_intro fun hp h => ?_
  unfold execLoadManifest
  refine ⟨_, rfl, ?_⟩
  all_goals repeat' first
    | with_reducible (first
        | intro _ | assumption | apply State.loadPart_leads | apply State.request_leads | apply ite_fst_leads)
    | ((with_reducible apply covers_trans hp); decide) | ((with_reducible apply covers_trans hp); (casesm* Carrier <;> decide))
    | ((with_reducible apply covers_trans hp); exact rfl) | ((with_reducible apply covers_trans hp); (casesm* Carrier <;> exact rfl))
    | rfl

theorem State.loadSeg_leads (s : State) (src : Nat) (g : Nat) (bs : List Byte)
    (hp : covers ps [.cores, .entry 0x58 0x02A, .ev, .fb] = true) (h : Leads ps s0 s) : Leads ps s0 (State.loadSeg s src g bs).1 := by
  unfold State.loadSeg
  repeat' first
    | with_reducible (first
        | assumption | apply State.putLoad_leads | apply State.bump_leads | apply State.raise_leads | apply ite_fst_leads)
    | ((with_reducible apply covers_trans hp); decide) | ((with_reducible apply covers_trans hp); (casesm* Carrier <;> decide))
    | ((with_reducible apply covers_trans hp); exact rfl) | ((with_reducible apply covers_trans hp); (casesm* Carrier <;> exact rfl))
    | split | rfl

theorem execLoadSegment_leads (src : Nat) (g : Nat) (bs : List Byte) (s : State) :
    Out.leads [.cores, .entry 0x58 0x02A, .ev, .fb, .pw, .ports, .entry 0x08 0x030] s (execLoadSegment src g bs s) := by
  refine out_intro fun hp h => ?_
  unfold execLoadSegment
  refine ⟨_, rfl, ?_⟩
  all_goals repeat' first
    | with_reducible (first
        | intro _ | assumption | apply State.loadSeg_leads | apply State.request_leads | apply ite_fst_leads)
    | ((with_reducible apply covers_trans hp); decide) | ((with_reducible apply covers_trans hp); (casesm* Carrier <;> decide))
    | ((with_reducible apply covers_trans hp); exact rfl) | ((with_reducible apply covers_trans hp); (casesm* Carrier <;> exact rfl))
    | rfl

theorem execLoadProgramDone_leads (ok : Bool) (s : State) :
    Out.leads [.flash, .entry 0x58 0x024, .entry 0x58 0x023, .ev, .fb, .cores, .entry 0x58 0x02B, .entry 0x58 0x025] s (execLoadProgramDone ok s) := by
  refine out_intro fun hp h => ?_
  unfold execLoadProgramDone
  repeat' first | refine ⟨_, rfl, ?_⟩ | dsimp only | split
  all_goals repeat' first
    | with_reducible (first
        | assumption | apply State.loadFail_leads | apply State.putLoad_leads | apply State.modSlot_leads | apply wr_leads
        | apply State.setLoad_leads)
    | ((with_reducible apply covers_trans hp); decide) | ((with_reducible apply covers_trans hp); (casesm* Carrier <;> decide))
    | ((with_reducible apply covers_trans hp); exact rfl) | ((with_reducible apply covers_trans hp); (casesm* Carrier <;> exact rfl))
    | rfl

theorem State.loadActivate_leads (s : State) (src : Nat)
    (hp : covers ps [.entry 0x58 0x024, .flash, .entry 0x58 0x002, .entry 0x58 0x023, .ev, .fb, .cores, .entry 0x58 0x02B, .boot, .entry 0x01 0x013] = true) (h : Leads ps s0 s) : Leads ps s0 (State.loadActivate s src).1 := by
  unfold State.loadActivate
  repeat' first
    | with_reducible (first
        | assumption | apply wr_leads | apply State.setLoad_leads | apply ite_fst_leads | (apply Or.inr; rfl) | rfl)
    | ((with_reducible apply covers_trans hp); decide) | ((with_reducible apply covers_trans hp); (casesm* Carrier <;> decide))
    | ((with_reducible apply covers_trans hp); exact rfl) | ((with_reducible apply covers_trans hp); (casesm* Carrier <;> exact rfl))
    | ((with_reducible (apply Or.inl; apply within_of_covers; apply covers_trans hp)); decide) | dsimp only | split
    | with_reducible apply Leads.upd | rfl

theorem execLoadActivate_leads (src : Nat) (s : State) :
    Out.leads [.entry 0x58 0x024, .flash, .entry 0x58 0x002, .entry 0x58 0x023, .ev, .fb, .cores, .entry 0x58 0x02B, .boot, .entry 0x01 0x013, .pw, .ports, .entry 0x08 0x030] s (execLoadActivate src s) := by
  refine out_intro fun hp h => ?_
  unfold execLoadActivate
  refine ⟨_, rfl, ?_⟩
  all_goals repeat' first
    | with_reducible (first
        | intro _ | assumption | apply State.loadActivate_leads | apply State.request_leads)
    | ((with_reducible apply covers_trans hp); decide) | ((with_reducible apply covers_trans hp); (casesm* Carrier <;> decide))
    | ((with_reducible apply covers_trans hp); exact rfl) | ((with_reducible apply covers_trans hp); (casesm* Carrier <;> exact rfl))
    | rfl

theorem execLoadAbort_leads (src : Nat) (s : State) :
    Out.leads [.flash, .entry 0x58 0x024, .entry 0x58 0x023, .ev, .fb, .cores, .entry 0x58 0x02B, .pw, .ports, .entry 0x08 0x030] s (execLoadAbort src s) := by
  refine out_intro fun hp h => ?_
  unfold execLoadAbort
  repeat' first | refine ⟨_, rfl, ?_⟩ | dsimp only | split
  all_goals repeat' first
    | with_reducible (first
        | intro _ | assumption | apply State.loadFail_leads | apply State.request_leads | apply ite_fst_leads)
    | ((with_reducible apply covers_trans hp); decide) | ((with_reducible apply covers_trans hp); (casesm* Carrier <;> decide))
    | ((with_reducible apply covers_trans hp); exact rfl) | ((with_reducible apply covers_trans hp); (casesm* Carrier <;> exact rfl))
    | split | rfl

end Sys2Proof.Machine
end

