-- ==== Sys2Proof/Laws/FrameThermal.lean ====
section
/-! SUPPORT. Frames of the operations and meanings of Machine/Thermal.lean. -/

namespace Sys2Proof.Machine

variable {ps : List Part} {s0 : State}

theorem State.failSensor_leads (s : State) (m : Nat)
    (hp : covers ps [.entry 0x70 0x001, .entry 0x70 0x005, .ev, .fb, .boot, .th] = true) (h : Leads ps s0 s) : Leads ps s0 (State.failSensor s m) := by
  unfold State.failSensor
  repeat' first
    | with_reducible (first
        | assumption | apply ite_leads | apply wr_leads | apply State.raise_leads | (apply Or.inr; rfl) | rfl)
    | ((with_reducible apply covers_trans hp); decide) | ((with_reducible apply covers_trans hp); (casesm* Carrier <;> decide))
    | ((with_reducible apply covers_trans hp); exact rfl) | ((with_reducible apply covers_trans hp); (casesm* Carrier <;> exact rfl))
    | ((with_reducible apply covers_trans hp); ((try casesm* Carrier) <;> (repeat' split) <;> first | decide | rfl))
    | ((with_reducible (apply Or.inl; apply within_of_covers; apply covers_trans hp)); decide) | dsimp only
    | with_reducible apply Leads.upd | rfl

theorem State.takeReading_leads (s : State) (m : Nat) (v : Option Int)
    (hp : covers ps [.entry 0x70 0x001, .entry 0x70 0x005, .ev, .fb, .boot, .th] = true) (h : Leads ps s0 s) : Leads ps s0 (State.takeReading s m v) := by
  unfold State.takeReading
  repeat' first
    | with_reducible (first
        | assumption | apply ite_leads | apply State.failSensor_leads | (apply Or.inr; rfl) | rfl)
    | ((with_reducible apply covers_trans hp); decide) | ((with_reducible apply covers_trans hp); (casesm* Carrier <;> decide))
    | ((with_reducible apply covers_trans hp); exact rfl) | ((with_reducible apply covers_trans hp); (casesm* Carrier <;> exact rfl))
    | ((with_reducible (apply Or.inl; apply within_of_covers; apply covers_trans hp)); decide) | dsimp only | split
    | with_reducible apply Leads.upd | rfl

theorem State.judgeApart_leads (s : State)
    (hp : covers ps [.th, .entry 0x70 0x001, .entry 0x70 0x005, .ev, .fb, .boot] = true) (h : Leads ps s0 s) : Leads ps s0 (State.judgeApart s) := by
  unfold State.judgeApart
  repeat' first
    | with_reducible (first
        | intro _ | assumption | apply State.failSensor_leads | apply foldl_leads | (apply Or.inr; rfl) | rfl)
    | ((with_reducible apply covers_trans hp); decide) | ((with_reducible apply covers_trans hp); (casesm* Carrier <;> decide))
    | ((with_reducible apply covers_trans hp); exact rfl) | ((with_reducible apply covers_trans hp); (casesm* Carrier <;> exact rfl))
    | ((with_reducible (apply Or.inl; apply within_of_covers; apply covers_trans hp)); decide) | dsimp only
    | with_reducible apply Leads.upd | rfl

theorem State.evalLevel_leads (s : State)
    (hp : covers ps [.entry 0x70 0x020, .entry 0x70 0x021, .entry 0x70 0x025, .ev, .fb] = true) (h : Leads ps s0 s) : Leads ps s0 (State.evalLevel s) := by
  unfold State.evalLevel
  repeat' first
    | with_reducible (first
        | assumption | apply ite_leads | apply wr_leads | apply State.bump_leads | apply State.raise_leads)
    | ((with_reducible apply covers_trans hp); decide) | ((with_reducible apply covers_trans hp); (casesm* Carrier <;> decide))
    | ((with_reducible apply covers_trans hp); exact rfl) | ((with_reducible apply covers_trans hp); (casesm* Carrier <;> exact rfl))
    | rfl

theorem State.setT_leads (s : State) (t : Int)
    (hp : covers ps [.th, .entry 0x70 0x023] = true) (h : Leads ps s0 s) : Leads ps s0 (State.setT s t) := by
  unfold State.setT
  repeat' first
    | with_reducible (first
        | assumption | apply wr_leads | (apply Or.inr; rfl) | rfl)
    | ((with_reducible apply covers_trans hp); decide) | ((with_reducible apply covers_trans hp); (casesm* Carrier <;> decide))
    | ((with_reducible apply covers_trans hp); exact rfl) | ((with_reducible apply covers_trans hp); (casesm* Carrier <;> exact rfl))
    | ((with_reducible (apply Or.inl; apply within_of_covers; apply covers_trans hp)); decide) | dsimp only
    | with_reducible apply Leads.upd | rfl

theorem State.thRuns_leads (s : State) (hot : Int)
    (hp : covers ps [.th] = true) (h : Leads ps s0 s) : Leads ps s0 (State.thRuns s hot) := by
  unfold State.thRuns
  repeat' first
    | with_reducible (first
        | assumption | (apply Or.inr; rfl) | rfl)
    | ((with_reducible apply covers_trans hp); decide) | ((with_reducible apply covers_trans hp); (casesm* Carrier <;> decide))
    | ((with_reducible apply covers_trans hp); exact rfl) | ((with_reducible apply covers_trans hp); (casesm* Carrier <;> exact rfl))
    | ((with_reducible (apply Or.inl; apply within_of_covers; apply covers_trans hp)); decide) | dsimp only
    | with_reducible apply Leads.upd | rfl

theorem State.thWarn_leads (s : State)
    (hp : covers ps [.entry 0x70 0x024, .ev, .fb] = true) (h : Leads ps s0 s) : Leads ps s0 (State.thWarn s) := by
  unfold State.thWarn
  repeat' first
    | with_reducible (first
        | assumption | apply ite_leads | apply wr_leads | apply State.raise_leads)
    | ((with_reducible apply covers_trans hp); decide) | ((with_reducible apply covers_trans hp); (casesm* Carrier <;> decide))
    | ((with_reducible apply covers_trans hp); exact rfl) | ((with_reducible apply covers_trans hp); (casesm* Carrier <;> exact rfl))
    | rfl

theorem State.thLevel_leads (s : State)
    (hp : covers ps [.th, .entry 0x70 0x023] = true) (h : Leads ps s0 s) : Leads ps s0 (State.thLevel s) := by
  unfold State.thLevel
  repeat' first
    | with_reducible (first
        | assumption | apply ite_leads | apply State.setT_leads)
    | ((with_reducible apply covers_trans hp); decide) | ((with_reducible apply covers_trans hp); (casesm* Carrier <;> decide))
    | ((with_reducible apply covers_trans hp); exact rfl) | ((with_reducible apply covers_trans hp); (casesm* Carrier <;> exact rfl))
    | rfl

theorem State.gateDies_leads (s : State)
    (hp : covers ps [.entry 0x58 0x010, .cores, .entry 0x20 0x000, .entry 0x30 0x000, .carA, .carB] = true) (h : Leads ps s0 s) : Leads ps s0 (State.gateDies s) := by
  unfold State.gateDies
  repeat' first
    | with_reducible (first
        | intro _ | assumption | apply wr_leads | apply foldl_leads | (apply Or.inr; rfl) | rfl)
    | ((with_reducible apply covers_trans hp); decide) | ((with_reducible apply covers_trans hp); (casesm* Carrier <;> decide))
    | ((with_reducible apply covers_trans hp); exact rfl) | ((with_reducible apply covers_trans hp); (casesm* Carrier <;> exact rfl))
    | ((with_reducible (apply Or.inl; apply within_of_covers; apply covers_trans hp)); decide) | dsimp only
    | with_reducible apply Leads.upd | rfl

theorem State.shutdownTrip_leads (s : State) (m : Nat) (v : Int)
    (hp : covers ps [.th, .aon, .carA, .carB, .entry 0x20 0x043, .entry 0x30 0x043, .ev, .fb, .entry 0x20 0x036, .entry 0x30 0x036, .entry 0x20 0x037, .entry 0x30 0x037, .entry 0x20 0x054, .entry 0x30 0x054, .entry 0x10 0x010, .hk, .entry 0x61 0x004, .entry 0x50 0x002, .tv, .entry 0x50 0x006, .entry 0x50 0x021, .entry 0x58 0x010, .cores, .entry 0x20 0x000, .entry 0x30 0x000, .ports, .entry 0x01 0x000] = true) (h : Leads ps s0 s) : Leads ps s0 (State.shutdownTrip s m v) := by
  unfold State.shutdownTrip
  repeat' first
    | with_reducible (first
        | intro _ | assumption | apply State.setSquelchPin_leads | apply State.setLane_leads | apply State.modAout_leads
        | apply wr_leads | apply State.portTo_leads | apply State.gateDies_leads | apply State.withDeviceState_leads | apply foldl_leads
        | (apply Or.inr; rfl) | rfl)
    | ((with_reducible apply covers_trans hp); decide) | ((with_reducible apply covers_trans hp); (casesm* Carrier <;> decide))
    | ((with_reducible apply covers_trans hp); exact rfl) | ((with_reducible apply covers_trans hp); (casesm* Carrier <;> exact rfl))
    | ((with_reducible (apply Or.inl; apply within_of_covers; apply covers_trans hp)); decide) | dsimp only
    | with_reducible apply Leads.upd | rfl

theorem State.thermalSample_leads (s : State) (vals : List (Option Int))
    (hp : covers ps [.area 0x70, .ev, .fb, .boot, .th, .aon, .carA, .carB, .entry 0x20 0x043, .entry 0x30 0x043, .entry 0x20 0x036, .entry 0x30 0x036, .entry 0x20 0x037, .entry 0x30 0x037, .entry 0x20 0x054, .entry 0x30 0x054, .entry 0x10 0x010, .hk, .entry 0x61 0x004, .entry 0x50 0x002, .tv, .entry 0x50 0x006, .entry 0x50 0x021, .entry 0x58 0x010, .cores, .entry 0x20 0x000, .entry 0x30 0x000, .ports, .entry 0x01 0x000] = true) (h : Leads ps s0 s) : Leads ps s0 (State.thermalSample s vals) := by
  unfold State.thermalSample
  repeat' first
    | with_reducible (first
        | intro _ | assumption | apply ite_leads | apply State.takeReading_leads | apply State.judgeApart_leads | apply wr_leads
        | apply State.thRuns_leads | apply State.thWarn_leads | apply State.thLevel_leads | apply State.evalLevel_leads
        | apply State.shutdownTrip_leads | apply foldl_leads | (apply Or.inr; rfl) | rfl)
    | ((with_reducible apply covers_trans hp); decide) | ((with_reducible apply covers_trans hp); (casesm* Carrier <;> decide))
    | ((with_reducible apply covers_trans hp); exact rfl) | ((with_reducible apply covers_trans hp); (casesm* Carrier <;> exact rfl))
    | ((with_reducible apply covers_trans hp); ((try casesm* Carrier) <;> (repeat' split) <;> first | decide | rfl))
    | ((with_reducible (apply Or.inl; apply within_of_covers; apply covers_trans hp)); decide) | dsimp only | split
    | with_reducible apply Leads.upd | rfl

theorem execThermalSample_leads (vals : List (Option Int)) (s : State) :
    Out.leads [.area 0x70, .ev, .fb, .boot, .th, .aon, .carA, .carB, .entry 0x20 0x043, .entry 0x30 0x043, .entry 0x20 0x036, .entry 0x30 0x036, .entry 0x20 0x037, .entry 0x30 0x037, .entry 0x20 0x054, .entry 0x30 0x054, .entry 0x10 0x010, .hk, .entry 0x61 0x004, .entry 0x50 0x002, .tv, .entry 0x50 0x006, .entry 0x50 0x021, .entry 0x58 0x010, .cores, .entry 0x20 0x000, .entry 0x30 0x000, .ports, .entry 0x01 0x000] s (execThermalSample vals s) := by
  refine out_intro fun hp h => ?_
  unfold execThermalSample
  refine ⟨_, rfl, ?_⟩
  all_goals repeat' first
    | with_reducible (first
        | intro _ | assumption | apply State.thermalSample_leads | apply when_leads)
    | ((with_reducible apply covers_trans hp); decide) | ((with_reducible apply covers_trans hp); (casesm* Carrier <;> decide))
    | ((with_reducible apply covers_trans hp); exact rfl) | ((with_reducible apply covers_trans hp); (casesm* Carrier <;> exact rfl))
    | rfl

theorem execThermalBlockExpire_leads (s : State) :
    Out.leads [.th, .entry 0x70 0x020, .entry 0x70 0x021, .entry 0x70 0x025, .ev, .fb] s (execThermalBlockExpire s) := by
  refine out_intro fun hp h => ?_
  unfold execThermalBlockExpire
  refine ⟨_, rfl, ?_⟩
  all_goals repeat' first
    | with_reducible (first
        | intro _ | assumption | apply State.evalLevel_leads | apply when_leads | (apply Or.inr; rfl) | rfl)
    | ((with_reducible apply covers_trans hp); decide) | ((with_reducible apply covers_trans hp); (casesm* Carrier <;> decide))
    | ((with_reducible apply covers_trans hp); exact rfl) | ((with_reducible apply covers_trans hp); (casesm* Carrier <;> exact rfl))
    | ((with_reducible (apply Or.inl; apply within_of_covers; apply covers_trans hp)); decide) | dsimp only
    | with_reducible apply Leads.upd | rfl

theorem execFwLevelWrite_leads (src : Nat) (v : Int) (s : State) :
    Out.leads [.entry 0x70 0x022, .ed, .entry 0x02 0x042, .ev, .fb, .entry 0x70 0x020, .entry 0x70 0x021, .entry 0x70 0x025, .pw, .ports, .entry 0x08 0x030] s (execFwLevelWrite src v s) := by
  refine out_intro fun hp h => ?_
  unfold execFwLevelWrite
  refine ⟨_, rfl, ?_⟩
  all_goals repeat' first
    | with_reducible (first
        | intro _ | assumption | apply rwEffect_leads | apply State.evalLevel_leads | apply State.request_leads)
    | ((with_reducible apply covers_trans hp); decide) | ((with_reducible apply covers_trans hp); (casesm* Carrier <;> decide))
    | ((with_reducible apply covers_trans hp); exact rfl) | ((with_reducible apply covers_trans hp); (casesm* Carrier <;> exact rfl))
    | rfl

theorem execShutdownClear_leads (src : Nat) (s : State) :
    Out.leads [.aon, .pw, .ports, .entry 0x08 0x030, .ev, .fb] s (execShutdownClear src s) := by
  refine out_intro fun hp h => ?_
  unfold execShutdownClear
  refine ⟨_, rfl, ?_⟩
  all_goals repeat' first
    | with_reducible (first
        | intro _ | assumption | apply State.request_leads | (apply Or.inr; rfl) | rfl)
    | ((with_reducible apply covers_trans hp); decide) | ((with_reducible apply covers_trans hp); (casesm* Carrier <;> decide))
    | ((with_reducible apply covers_trans hp); exact rfl) | ((with_reducible apply covers_trans hp); (casesm* Carrier <;> exact rfl))
    | ((with_reducible (apply Or.inl; apply within_of_covers; apply covers_trans hp)); decide) | dsimp only
    | with_reducible apply Leads.upd | rfl

theorem execXtalCompTick_leads (temp : Int) (s : State) :
    Out.leads [.aon] s (execXtalCompTick temp s) := by
  refine out_intro fun hp h => ?_
  unfold execXtalCompTick
  refine ⟨_, rfl, ?_⟩
  all_goals repeat' first
    | with_reducible (first
        | intro _ | assumption | apply when_leads | (apply Or.inr; rfl) | rfl)
    | ((with_reducible apply covers_trans hp); decide) | ((with_reducible apply covers_trans hp); (casesm* Carrier <;> decide))
    | ((with_reducible apply covers_trans hp); exact rfl) | ((with_reducible apply covers_trans hp); (casesm* Carrier <;> exact rfl))
    | ((with_reducible (apply Or.inl; apply within_of_covers; apply covers_trans hp)); decide) | dsimp only
    | with_reducible apply Leads.upd | rfl

theorem execAonXtalFail_leads (s : State) :
    Out.leads [.entry 0x50 0x040, .ev, .fb] s (execAonXtalFail s) := by
  refine out_intro fun hp h => ?_
  unfold execAonXtalFail
  refine ⟨_, rfl, ?_⟩
  all_goals repeat' first
    | with_reducible (first
        | intro _ | assumption | apply wr_leads | apply State.raise_leads | apply when_leads)
    | ((with_reducible apply covers_trans hp); decide) | ((with_reducible apply covers_trans hp); (casesm* Carrier <;> decide))
    | ((with_reducible apply covers_trans hp); exact rfl) | ((with_reducible apply covers_trans hp); (casesm* Carrier <;> exact rfl))
    | rfl

theorem execXtalRestore_leads (s : State) :
    Out.leads [.entry 0x50 0x040] s (execXtalRestore s) := by
  refine out_intro fun hp h => ?_
  unfold execXtalRestore
  refine ⟨_, rfl, ?_⟩
  all_goals repeat' first
    | with_reducible (first
        | intro _ | assumption | apply wr_leads | apply when_leads)
    | ((with_reducible apply covers_trans hp); decide) | ((with_reducible apply covers_trans hp); (casesm* Carrier <;> decide))
    | ((with_reducible apply covers_trans hp); exact rfl) | ((with_reducible apply covers_trans hp); (casesm* Carrier <;> exact rfl))
    | rfl

end Sys2Proof.Machine
end

