-- ==== Sys2Proof/Laws/FramePower.lean ====
section
/-! SUPPORT. Frames of the operations and meanings of Machine/Power.lean. -/

namespace Sys2Proof.Machine

variable {ps : List Part} {s0 : State}

theorem State.requestVolt_leads (s : State) (v : Int)
    (hp : covers ps [.entry 0x71 0x000, .pw] = true) (h : Leads ps s0 s) : Leads ps s0 (State.requestVolt s v) := by
  unfold State.requestVolt
  repeat' first
    | with_reducible (first
        | assumption | apply ite_leads | apply wr_leads | (apply Or.inr; rfl) | rfl)
    | ((with_reducible apply covers_trans hp); decide) | ((with_reducible apply covers_trans hp); (casesm* Carrier <;> decide))
    | ((with_reducible apply covers_trans hp); exact rfl) | ((with_reducible apply covers_trans hp); (casesm* Carrier <;> exact rfl))
    | ((with_reducible (apply Or.inl; apply within_of_covers; apply covers_trans hp)); decide) | dsimp only
    | with_reducible apply Leads.upd | rfl

theorem execMarginUpdate_leads (margins : List Int) (s : State) :
    Out.leads [.entry 0x71 0x006, .pw, .entry 0x71 0x000, .entry 0x71 0x007, .entry 0x71 0x008, .entry 0x71 0x00E, .ev, .fb, .entry 0x70 0x020, .entry 0x70 0x021, .entry 0x70 0x025] s (execMarginUpdate margins s) := by
  refine out_intro fun hp h => ?_
  unfold execMarginUpdate
  repeat' first | refine ⟨_, rfl, ?_⟩ | dsimp only | split
  all_goals repeat' first
    | with_reducible (first
        | intro _ | assumption | apply wr_leads | apply State.requestVolt_leads | apply State.bump_leads | apply State.raise_leads
        | apply State.evalLevel_leads | apply foldl_leads | (apply Or.inr; rfl) | rfl)
    | ((with_reducible apply covers_trans hp); decide) | ((with_reducible apply covers_trans hp); (casesm* Carrier <;> decide))
    | ((with_reducible apply covers_trans hp); exact rfl) | ((with_reducible apply covers_trans hp); (casesm* Carrier <;> exact rfl))
    | ((with_reducible apply covers_trans hp); ((try casesm* Carrier) <;> (repeat' split) <;> first | decide | rfl))
    | ((with_reducible (apply Or.inl; apply within_of_covers; apply covers_trans hp)); decide) | with_reducible apply Leads.upd | rfl

theorem execPwrCarrierDropped_leads (s : State) :
    Out.leads [.pw, .entry 0x20 0x001, .entry 0x30 0x001, .ed, .entry 0x02 0x042, .ev, .fb, .entry 0x71 0x00F, .clk, .entry 0x40 0x002, .entry 0x20 0x013, .entry 0x30 0x013, .entry 0x21 0x000, .entry 0x31 0x000, .carA, .carB, .entry 0x11 0x030, .entry 0x40 0x011, .entry 0x40 0x013, .entry 0x40 0x017, .entry 0x20 0x000, .entry 0x30 0x000, .entry 0x11 0x021, .entry 0x11 0x040, .host, .entry 0x20 0x054, .entry 0x30 0x054, .blobs, .entry 0x21 0x001, .entry 0x31 0x001, .entry 0x21 0x031, .entry 0x31 0x031, .entry 0x21 0x032, .entry 0x31 0x032, .entry 0x22 0x001, .entry 0x32 0x001, .entry 0x21 0x062, .entry 0x31 0x062, .entry 0x21 0x064, .entry 0x31 0x064, .entry 0x20 0x036, .entry 0x30 0x036, .entry 0x21 0x01C, .entry 0x31 0x01C, .entry 0x21 0x01E, .entry 0x31 0x01E, .entry 0x24 0x020, .entry 0x34 0x020, .entry 0x24 0x023, .entry 0x34 0x023] s (execPwrCarrierDropped s) := by
  refine out_intro fun hp h => ?_
  unfold execPwrCarrierDropped
  repeat' first | refine ⟨_, rfl, ?_⟩ | dsimp only | split
  all_goals repeat' first
    | with_reducible (first
        | intro _ | assumption | apply State.rwStore_leads | apply State.bump_leads | apply State.raise_leads
        | apply State.carrierMove_leads | apply when_leads | (apply Or.inr; rfl) | rfl)
    | ((with_reducible apply covers_trans hp); decide) | ((with_reducible apply covers_trans hp); (casesm* Carrier <;> decide))
    | ((with_reducible apply covers_trans hp); exact rfl) | ((with_reducible apply covers_trans hp); (casesm* Carrier <;> exact rfl))
    | ((with_reducible (apply Or.inl; apply within_of_covers; apply covers_trans hp)); decide) | split | with_reducible apply Leads.upd
    | rfl

theorem execPwrMarginRestored_leads (s : State) :
    Out.leads [.pw, .entry 0x71 0x008, .entry 0x70 0x020, .entry 0x70 0x021, .entry 0x70 0x025, .ev, .fb] s (execPwrMarginRestored s) := by
  refine out_intro fun hp h => ?_
  unfold execPwrMarginRestored
  refine ⟨_, rfl, ?_⟩
  all_goals repeat' first
    | with_reducible (first
        | intro _ | assumption | apply wr_leads | apply State.evalLevel_leads | apply State.raise_leads | apply when_leads
        | (apply Or.inr; rfl) | rfl)
    | ((with_reducible apply covers_trans hp); decide) | ((with_reducible apply covers_trans hp); (casesm* Carrier <;> decide))
    | ((with_reducible apply covers_trans hp); exact rfl) | ((with_reducible apply covers_trans hp); (casesm* Carrier <;> exact rfl))
    | ((with_reducible (apply Or.inl; apply within_of_covers; apply covers_trans hp)); decide) | dsimp only
    | with_reducible apply Leads.upd | rfl

theorem State.avsFault_leads (s : State) (code : Int)
    (hp : covers ps [.entry 0x71 0x00C, .ev, .fb] = true) (h : Leads ps s0 s) : Leads ps s0 (State.avsFault s code) := by
  unfold State.avsFault
  repeat' first
    | with_reducible (first
        | assumption | apply ite_leads | apply wr_leads | apply State.raise_leads)
    | ((with_reducible apply covers_trans hp); decide) | ((with_reducible apply covers_trans hp); (casesm* Carrier <;> decide))
    | ((with_reducible apply covers_trans hp); exact rfl) | ((with_reducible apply covers_trans hp); (casesm* Carrier <;> exact rfl))
    | rfl

theorem State.avsAttempt_leads (s : State) (answered : Bool)
    (hp : covers ps [.pw, .entry 0x71 0x00C, .ev, .fb] = true) (h : Leads ps s0 s) : Leads ps s0 (State.avsAttempt s answered) := by
  unfold State.avsAttempt
  repeat' first
    | with_reducible (first
        | assumption | apply ite_leads | apply State.avsFault_leads | (apply Or.inr; rfl) | rfl)
    | ((with_reducible apply covers_trans hp); decide) | ((with_reducible apply covers_trans hp); (casesm* Carrier <;> decide))
    | ((with_reducible apply covers_trans hp); exact rfl) | ((with_reducible apply covers_trans hp); (casesm* Carrier <;> exact rfl))
    | ((with_reducible (apply Or.inl; apply within_of_covers; apply covers_trans hp)); decide) | dsimp only
    | with_reducible apply Leads.upd | rfl

theorem execAvsVoltageRead_leads (v : Option Nat) (s : State) :
    Out.leads [.pw, .entry 0x71 0x00C, .ev, .fb, .entry 0x71 0x00D] s (execAvsVoltageRead v s) := by
  refine out_intro fun hp h => ?_
  unfold execAvsVoltageRead
  repeat' first | refine ⟨_, rfl, ?_⟩ | dsimp only | split
  all_goals repeat' first
    | with_reducible (first
        | intro _ | assumption | apply ite_leads | apply State.avsAttempt_leads | apply wr_leads | apply State.avsFault_leads
        | apply when_leads | (apply Or.inr; rfl) | rfl)
    | ((with_reducible apply covers_trans hp); decide) | ((with_reducible apply covers_trans hp); (casesm* Carrier <;> decide))
    | ((with_reducible apply covers_trans hp); exact rfl) | ((with_reducible apply covers_trans hp); (casesm* Carrier <;> exact rfl))
    | ((with_reducible (apply Or.inl; apply within_of_covers; apply covers_trans hp)); decide) | split | with_reducible apply Leads.upd
    | rfl

theorem execAvsStatusRead_leads (fault : Option Bool) (s : State) :
    Out.leads [.pw, .entry 0x71 0x00C, .ev, .fb] s (execAvsStatusRead fault s) := by
  refine out_intro fun hp h => ?_
  unfold execAvsStatusRead
  repeat' first | refine ⟨_, rfl, ?_⟩ | dsimp only | split
  all_goals repeat' first
    | with_reducible (first
        | intro _ | assumption | apply State.avsAttempt_leads | apply State.avsFault_leads | apply when_leads)
    | ((with_reducible apply covers_trans hp); decide) | ((with_reducible apply covers_trans hp); (casesm* Carrier <;> decide))
    | ((with_reducible apply covers_trans hp); exact rfl) | ((with_reducible apply covers_trans hp); (casesm* Carrier <;> exact rfl))
    | rfl

theorem execPwrAvsRestored_leads (s : State) :
    Out.leads [.entry 0x71 0x00C, .ev, .fb] s (execPwrAvsRestored s) := by
  refine out_intro fun hp h => ?_
  unfold execPwrAvsRestored
  refine ⟨_, rfl, ?_⟩
  all_goals repeat' first
    | with_reducible (first
        | intro _ | assumption | apply wr_leads | apply State.raise_leads | apply when_leads)
    | ((with_reducible apply covers_trans hp); decide) | ((with_reducible apply covers_trans hp); (casesm* Carrier <;> decide))
    | ((with_reducible apply covers_trans hp); exact rfl) | ((with_reducible apply covers_trans hp); (casesm* Carrier <;> exact rfl))
    | rfl

theorem State.avsEnableSet_leads (s : State)
    (hp : covers ps [.entry 0x71 0x00C] = true) (h : Leads ps s0 s) : Leads ps s0 (State.avsEnableSet s) := by
  unfold State.avsEnableSet
  repeat' first
    | with_reducible (first
        | assumption | apply ite_leads | apply wr_leads)
    | ((with_reducible apply covers_trans hp); decide) | ((with_reducible apply covers_trans hp); (casesm* Carrier <;> decide))
    | ((with_reducible apply covers_trans hp); exact rfl) | ((with_reducible apply covers_trans hp); (casesm* Carrier <;> exact rfl))
    | rfl

theorem State.idleWatch_leads (s : State)
    (hp : covers ps [.pw] = true) (h : Leads ps s0 s) : Leads ps s0 (State.idleWatch s) := by
  unfold State.idleWatch
  repeat' first
    | with_reducible (first
        | assumption | (apply Or.inr; rfl) | rfl)
    | ((with_reducible apply covers_trans hp); decide) | ((with_reducible apply covers_trans hp); (casesm* Carrier <;> decide))
    | ((with_reducible apply covers_trans hp); exact rfl) | ((with_reducible apply covers_trans hp); (casesm* Carrier <;> exact rfl))
    | ((with_reducible (apply Or.inl; apply within_of_covers; apply covers_trans hp)); decide) | dsimp only
    | with_reducible apply Leads.upd | rfl

theorem State.idleFull_leads (s : State)
    (hp : covers ps [.pw] = true) (h : Leads ps s0 s) : Leads ps s0 (State.idleFull s) := by
  unfold State.idleFull
  repeat' first
    | with_reducible (first
        | assumption | (apply Or.inr; rfl) | rfl)
    | ((with_reducible apply covers_trans hp); decide) | ((with_reducible apply covers_trans hp); (casesm* Carrier <;> decide))
    | ((with_reducible apply covers_trans hp); exact rfl) | ((with_reducible apply covers_trans hp); (casesm* Carrier <;> exact rfl))
    | ((with_reducible (apply Or.inl; apply within_of_covers; apply covers_trans hp)); decide) | dsimp only
    | with_reducible apply Leads.upd | rfl

theorem State.dormantEntry_leads (s : State)
    (hp : covers ps [.fb, .ed, .carA, .carB, .ev, .blobs, .entry 0x50 0x050, .ports, .pw, .aon] = true) (h : Leads ps s0 s) : Leads ps s0 (State.dormantEntry s) := by
  unfold State.dormantEntry
  dsimp only
  refine aon_leads (covers_trans hp (by decide)) (fun w => ?_) ?_
  · rw [State.wf_parts] at w
    exact Bool.and_eq_true_iff.2 ⟨legWf_filter _ _ w.1, blobWf_filter _ _ w.2.1⟩
  repeat' first
    | with_reducible (first
        | assumption | apply State.fbDormant_leads | apply State.dropEditions_leads)
    | ((with_reducible apply covers_trans hp); decide) | ((with_reducible apply covers_trans hp); (casesm* Carrier <;> decide))
    | ((with_reducible apply covers_trans hp); exact rfl) | ((with_reducible apply covers_trans hp); (casesm* Carrier <;> exact rfl))
    | rfl

theorem State.tryDormant_leads (s : State)
    (hp : covers ps [.ev, .fb, .pw, .ed, .carA, .carB, .blobs, .entry 0x50 0x050, .ports, .aon] = true) (h : Leads ps s0 s) : Leads ps s0 (State.tryDormant s) := by
  unfold State.tryDormant
  repeat' first
    | with_reducible (first
        | assumption | apply ite_leads | apply State.raise_leads | apply State.idleFull_leads | apply State.dormantEntry_leads)
    | ((with_reducible apply covers_trans hp); decide) | ((with_reducible apply covers_trans hp); (casesm* Carrier <;> decide))
    | ((with_reducible apply covers_trans hp); exact rfl) | ((with_reducible apply covers_trans hp); (casesm* Carrier <;> exact rfl))
    | rfl

theorem execIdleTimerExpire_leads (s : State) :
    Out.leads [.ev, .fb, .pw, .ed, .carA, .carB, .blobs, .entry 0x50 0x050, .ports, .aon] s (execIdleTimerExpire s) := by
  refine out_intro fun hp h => ?_
  unfold execIdleTimerExpire
  refine ⟨_, rfl, ?_⟩
  all_goals repeat' first
    | with_reducible (first
        | intro _ | assumption | apply State.tryDormant_leads | apply when_leads)
    | ((with_reducible apply covers_trans hp); decide) | ((with_reducible apply covers_trans hp); (casesm* Carrier <;> decide))
    | ((with_reducible apply covers_trans hp); exact rfl) | ((with_reducible apply covers_trans hp); (casesm* Carrier <;> exact rfl))
    | rfl

theorem State.sleepCmd_leads (s : State)
    (hp : covers ps [.ev, .fb, .pw, .ed, .carA, .carB, .blobs, .entry 0x50 0x050, .ports, .aon] = true) (h : Leads ps s0 s) : Leads ps s0 (State.sleepCmd s).1 := by
  unfold State.sleepCmd
  repeat' first
    | with_reducible (first
        | assumption | apply State.tryDormant_leads | apply ite_fst_leads)
    | ((with_reducible apply covers_trans hp); decide) | ((with_reducible apply covers_trans hp); (casesm* Carrier <;> decide))
    | ((with_reducible apply covers_trans hp); exact rfl) | ((with_reducible apply covers_trans hp); (casesm* Carrier <;> exact rfl))
    | rfl

theorem execSleepNow_leads (src : Nat) (s : State) :
    Out.leads [.ev, .fb, .pw, .ed, .carA, .carB, .blobs, .entry 0x50 0x050, .ports, .aon, .entry 0x08 0x030] s (execSleepNow src s) := by
  refine out_intro fun hp h => ?_
  unfold execSleepNow
  refine ⟨_, rfl, ?_⟩
  all_goals repeat' first
    | with_reducible (first
        | intro _ | assumption | apply State.sleepCmd_leads | apply State.request_leads)
    | ((with_reducible apply covers_trans hp); decide) | ((with_reducible apply covers_trans hp); (casesm* Carrier <;> decide))
    | ((with_reducible apply covers_trans hp); exact rfl) | ((with_reducible apply covers_trans hp); (casesm* Carrier <;> exact rfl))
    | rfl

theorem execDormantLatch_leads (s : State) :
    Out.leads [.hk, .entry 0x61 0x004, .entry 0x50 0x002, .tv, .entry 0x50 0x006, .entry 0x50 0x021, .ev, .fb, .pw, .entry 0x71 0x023, .entry 0x50 0x041, .entry 0x71 0x024, .entry 0x71 0x027, .entry 0x58 0x010, .cores, .entry 0x20 0x000, .entry 0x30 0x000, .carA, .carB, .entry 0x01 0x000, .entry 0x20 0x043, .entry 0x20 0x036, .entry 0x20 0x037, .entry 0x20 0x054, .entry 0x30 0x054, .entry 0x30 0x043, .entry 0x30 0x036, .entry 0x30 0x037] s (execDormantLatch s) := by
  refine out_intro fun hp h => ?_
  unfold execDormantLatch
  refine ⟨_, rfl, ?_⟩
  all_goals repeat' first
    | with_reducible (first
        | intro _ | assumption | apply State.aoutDormant_leads | apply State.portTo_leads | apply State.bump_leads | apply wr_leads
        | apply State.gateDies_leads | apply State.withDeviceState_leads | apply when_leads | apply foldl_leads | (apply Or.inr; rfl)
        | rfl)
    | ((with_reducible apply covers_trans hp); decide) | ((with_reducible apply covers_trans hp); (casesm* Carrier <;> decide))
    | ((with_reducible apply covers_trans hp); exact rfl) | ((with_reducible apply covers_trans hp); (casesm* Carrier <;> exact rfl))
    | ((with_reducible (apply Or.inl; apply within_of_covers; apply covers_trans hp)); decide) | dsimp only
    | with_reducible apply Leads.upd | rfl

theorem State.restored_leads (s : State) (t : Rat)
    (hp : covers ps Part.all = true) (h : Leads ps s0 s) : Leads ps s0 (State.restored s t) := by
  refine h.trans ⟨⟨rfl, fun p hq => ?_⟩, fun w => ?_⟩
  · have : Part.within ps p = true := covers_within hp (by cases p <;> simp [Part.within, Part.all])
    rw [this] at hq
    cases hq
  · rw [State.wf_parts] at w
    have hr := w.2.2.1
    refine ⟨(State.wf_parts _).2 ⟨legWf_foldl_legPut _ _ ?_, ?_, w.2.2.1, rfl⟩, State.kept_cutFuses s w.2.2.2⟩
    · cases e : s.aon.retention with
      | none => rfl
      | some r => rw [e] at hr; exact (Bool.and_eq_true_iff.1 hr).1
    · show blobWf (match s.aon.retention with | some r => r.2 | none => []) = true
      cases e : s.aon.retention with
      | none => rfl
      | some r => rw [e] at hr; exact (Bool.and_eq_true_iff.1 hr).2

theorem State.wake_leads (s : State) (code : Nat) (edges : Nat)
    (hp : covers ps Part.all = true) (h : Leads ps s0 s) : Leads ps s0 (State.wake s code edges) := by
  unfold State.wake
  repeat' first
    | with_reducible (first
        | assumption | apply State.restored_leads | apply wr_leads)
    | ((with_reducible apply covers_trans hp); decide) | ((with_reducible apply covers_trans hp); (casesm* Carrier <;> decide))
    | ((with_reducible apply covers_trans hp); exact rfl) | ((with_reducible apply covers_trans hp); (casesm* Carrier <;> exact rfl))
    | rfl

theorem State.abortEntry_leads (s : State) (code : Nat)
    (hp : covers ps [.entry 0x71 0x020, .entry 0x71 0x021, .entry 0x71 0x022, .ports, .pw, .ev, .fb] = true) (h : Leads ps s0 s) : Leads ps s0 (State.abortEntry s code) := by
  unfold State.abortEntry
  repeat' first
    | with_reducible (first
        | assumption | apply wr_leads | apply State.idleFull_leads | apply State.raise_leads | (apply Or.inr; rfl) | rfl)
    | ((with_reducible apply covers_trans hp); decide) | ((with_reducible apply covers_trans hp); (casesm* Carrier <;> decide))
    | ((with_reducible apply covers_trans hp); exact rfl) | ((with_reducible apply covers_trans hp); (casesm* Carrier <;> exact rfl))
    | ((with_reducible (apply Or.inl; apply within_of_covers; apply covers_trans hp)); decide) | dsimp only
    | with_reducible apply Leads.upd | rfl

theorem State.wakeFire_leads (s : State) (code : Nat) (edges : Nat)
    (hp : covers ps Part.all = true) (h : Leads ps s0 s) : Leads ps s0 (State.wakeFire s code edges) := by
  unfold State.wakeFire
  repeat' first
    | with_reducible (first
        | assumption | apply ite_leads | apply State.abortEntry_leads | apply State.wake_leads)
    | ((with_reducible apply covers_trans hp); decide) | ((with_reducible apply covers_trans hp); (casesm* Carrier <;> decide))
    | ((with_reducible apply covers_trans hp); exact rfl) | ((with_reducible apply covers_trans hp); (casesm* Carrier <;> exact rfl))
    | rfl

theorem execWakeSourceFire_leads (code : Nat) (at_ : Nat) (v : Nat) (edges : Nat) (s : State) :
    Out.leads Part.all s (execWakeSourceFire code at_ v edges s) := by
  refine out_intro fun hp h => ?_
  unfold execWakeSourceFire
  refine ⟨_, rfl, ?_⟩
  all_goals repeat' first
    | with_reducible (first
        | intro _ | assumption | apply ite_leads | apply State.wakeFire_leads | apply when_leads | (apply Or.inr; rfl) | rfl)
    | ((with_reducible apply covers_trans hp); decide) | ((with_reducible apply covers_trans hp); (casesm* Carrier <;> decide))
    | ((with_reducible apply covers_trans hp); exact rfl) | ((with_reducible apply covers_trans hp); (casesm* Carrier <;> exact rfl))
    | ((with_reducible (apply Or.inl; apply within_of_covers; apply covers_trans hp)); decide) | dsimp only
    | with_reducible apply Leads.upd | rfl

theorem execWakeTimerExpire_leads (edges : Nat) (s : State) :
    Out.leads Part.all s (execWakeTimerExpire edges s) := by
  refine out_intro fun hp h => ?_
  unfold execWakeTimerExpire
  refine ⟨_, rfl, ?_⟩
  all_goals repeat' first
    | with_reducible (first
        | assumption | apply State.wakeFire_leads)
    | ((with_reducible apply covers_trans hp); decide) | ((with_reducible apply covers_trans hp); (casesm* Carrier <;> decide))
    | ((with_reducible apply covers_trans hp); exact rfl) | ((with_reducible apply covers_trans hp); (casesm* Carrier <;> exact rfl))
    | rfl

theorem execAonBrownout_leads (s : State) :
    Out.leads Part.all s (execAonBrownout s) := by
  refine out_intro fun hp h => ?_
  unfold execAonBrownout
  refine ⟨_, rfl, ?_⟩
  all_goals repeat' first
    | with_reducible (first
        | intro _ | assumption | apply State.enterReset_leads | apply when_leads)
    | ((with_reducible apply covers_trans hp); decide) | ((with_reducible apply covers_trans hp); (casesm* Carrier <;> decide))
    | ((with_reducible apply covers_trans hp); exact rfl) | ((with_reducible apply covers_trans hp); (casesm* Carrier <;> exact rfl))
    | rfl

theorem execPadRelease_leads (src : Nat) (s : State) :
    Out.leads [.entry 0x71 0x024, .pw, .ports, .entry 0x08 0x030, .ev, .fb] s (execPadRelease src s) := by
  refine out_intro fun hp h => ?_
  unfold execPadRelease
  refine ⟨_, rfl, ?_⟩
  all_goals repeat' first
    | with_reducible (first
        | intro _ | assumption | apply wr_leads | apply State.request_leads)
    | ((with_reducible apply covers_trans hp); decide) | ((with_reducible apply covers_trans hp); (casesm* Carrier <;> decide))
    | ((with_reducible apply covers_trans hp); exact rfl) | ((with_reducible apply covers_trans hp); (casesm* Carrier <;> exact rfl))
    | rfl

end Sys2Proof.Machine
end

