-- ==== Sys2Proof/Laws/FrameSelfTest.lean ====
section
/-! SUPPORT. Frames of the operations and meanings of Machine/SelfTest.lean. -/

namespace Sys2Proof.Machine

variable {ps : List Part} {s0 : State}

theorem State.refetchLine_leads (s : State) (c : Nat) (line : Nat) {t : State}
    (e : State.refetchLine s c line = some t)
    (hp : covers ps [.cores, .integ, .entry 0x78 0x010, .ev, .fb] = true) (h : Leads ps s0 s) : Leads ps s0 t := by
  unfold State.refetchLine at e
  dsimp only at e
  split at e
  · cases e
    repeat' first
      | with_reducible (first
          | assumption | apply State.modCore_leads | apply State.lineGood_leads | apply State.bump_leads)
      | ((with_reducible apply covers_trans hp); decide) | ((with_reducible apply covers_trans hp); (casesm* Carrier <;> decide))
      | ((with_reducible apply covers_trans hp); exact rfl) | ((with_reducible apply covers_trans hp); (casesm* Carrier <;> exact rfl))
      | ((with_reducible apply covers_trans hp); ((try casesm* Carrier) <;> (repeat' split) <;> first | decide | rfl)) | rfl
  · split at e
    · cases e
      repeat' first
        | with_reducible (first
            | assumption | apply State.modCore_leads | apply State.lineGood_leads | apply State.bump_leads)
        | ((with_reducible apply covers_trans hp); decide) | ((with_reducible apply covers_trans hp); (casesm* Carrier <;> decide))
        | ((with_reducible apply covers_trans hp); exact rfl) | ((with_reducible apply covers_trans hp); (casesm* Carrier <;> exact rfl))
        | ((with_reducible apply covers_trans hp); ((try casesm* Carrier) <;> (repeat' split) <;> first | decide | rfl)) | rfl
    · cases e

theorem State.refetchBad_leads (s : State) (c : Nat) (line : Nat)
    (hp : covers ps Part.all = true) (h : Leads ps s0 s) : Leads ps s0 (State.refetchBad s c line) := by
  unfold State.refetchBad
  repeat' first
    | with_reducible (first
        | assumption | apply State.raise_leads | apply State.integrityReset_leads)
    | ((with_reducible apply covers_trans hp); decide) | ((with_reducible apply covers_trans hp); (casesm* Carrier <;> decide))
    | ((with_reducible apply covers_trans hp); exact rfl) | ((with_reducible apply covers_trans hp); (casesm* Carrier <;> exact rfl))
    | rfl

theorem execRefetchDone_leads (s : State) :
    Out.leads Part.all s (execRefetchDone s) := by
  refine out_intro fun hp h => ?_
  unfold execRefetchDone
  repeat' first | refine ⟨_, rfl, ?_⟩ | dsimp only | split
  all_goals repeat' first
    | with_reducible (first
        | assumption | apply State.refetchLine_leads _ _ _ (by with_reducible assumption) | apply State.refetchBad_leads
        | (apply Or.inr; rfl) | rfl)
    | ((with_reducible apply covers_trans hp); decide) | ((with_reducible apply covers_trans hp); (casesm* Carrier <;> decide))
    | ((with_reducible apply covers_trans hp); exact rfl) | ((with_reducible apply covers_trans hp); (casesm* Carrier <;> exact rfl))
    | ((with_reducible (apply Or.inl; apply within_of_covers; apply covers_trans hp)); decide) | with_reducible apply Leads.upd | rfl

theorem State.journalRepair_leads (s : State)
    (hp : covers ps [.ed, .entry 0x02 0x042, .ev, .fb] = true) (h : Leads ps s0 s) : Leads ps s0 (State.journalRepair s) := by
  unfold State.journalRepair
  repeat' first
    | with_reducible (first
        | assumption | apply ite_leads | apply State.checkpoint_leads | apply State.raise_leads | (apply Or.inr; rfl) | rfl)
    | ((with_reducible apply covers_trans hp); decide) | ((with_reducible apply covers_trans hp); (casesm* Carrier <;> decide))
    | ((with_reducible apply covers_trans hp); exact rfl) | ((with_reducible apply covers_trans hp); (casesm* Carrier <;> exact rfl))
    | ((with_reducible (apply Or.inl; apply within_of_covers; apply covers_trans hp)); decide) | dsimp only
    | with_reducible apply Leads.upd | rfl

theorem execIntLegendRebuilt_leads (keys : List Key) (s : State) :
    Out.leads Part.all s (execIntLegendRebuilt keys s) := by
  refine out_intro fun hp h => ?_
  unfold execIntLegendRebuilt
  repeat' first | refine ⟨_, rfl, ?_⟩ | dsimp only | split
  all_goals repeat' first
    | with_reducible (first
        | intro _ | assumption | apply State.integrityReset_leads | apply wr_leads | apply State.lineGood_leads
        | apply State.raise_leads | apply foldl_leads | (apply Or.inr; rfl) | rfl)
    | ((with_reducible apply covers_trans hp); decide) | ((with_reducible apply covers_trans hp); (casesm* Carrier <;> decide))
    | ((with_reducible apply covers_trans hp); exact rfl) | ((with_reducible apply covers_trans hp); (casesm* Carrier <;> exact rfl))
    | ((with_reducible apply covers_trans hp); ((try casesm* Carrier) <;> (repeat' split) <;> first | decide | rfl))
    | ((with_reducible (apply Or.inl; apply within_of_covers; apply covers_trans hp)); decide) | with_reducible apply Leads.upd | rfl

theorem State.queueRepair_leads (s : State) (mem : Nat) (line : Nat)
    (hp : covers ps [.integ] = true) (h : Leads ps s0 s) : Leads ps s0 (State.queueRepair s mem line) := by
  unfold State.queueRepair
  repeat' first
    | with_reducible (first
        | assumption | (apply Or.inr; rfl) | rfl)
    | ((with_reducible apply covers_trans hp); decide) | ((with_reducible apply covers_trans hp); (casesm* Carrier <;> decide))
    | ((with_reducible apply covers_trans hp); exact rfl) | ((with_reducible apply covers_trans hp); (casesm* Carrier <;> exact rfl))
    | ((with_reducible (apply Or.inl; apply within_of_covers; apply covers_trans hp)); decide) | dsimp only
    | with_reducible apply Leads.upd | rfl

theorem execDerivedRepairDone_leads (s : State) :
    Out.leads [.integ] s (execDerivedRepairDone s) := by
  refine out_intro fun hp h => ?_
  unfold execDerivedRepairDone
  repeat' first | refine ⟨_, rfl, ?_⟩ | dsimp only | split
  all_goals repeat' first
    | with_reducible (first
        | assumption | apply State.lineGood_leads | (apply Or.inr; rfl) | rfl)
    | ((with_reducible apply covers_trans hp); decide) | ((with_reducible apply covers_trans hp); (casesm* Carrier <;> decide))
    | ((with_reducible apply covers_trans hp); exact rfl) | ((with_reducible apply covers_trans hp); (casesm* Carrier <;> exact rfl))
    | ((with_reducible (apply Or.inl; apply within_of_covers; apply covers_trans hp)); decide) | with_reducible apply Leads.upd | rfl

theorem State.dropItem_leads (s : State) (item : Nat)
    (hp : covers ps [.ed, .blobs, .entry 0x50 0x050, .ev, .fb, .carA, .carB, .ports] = true) (h : Leads ps s0 s) : Leads ps s0 (State.dropItem s item) := by
  unfold State.dropItem
  repeat' first
    | with_reducible (first
        | assumption | apply State.endDraft_leads | apply State.disarm_leads | (apply Or.inr; rfl) | rfl)
    | ((with_reducible apply covers_trans hp); decide) | ((with_reducible apply covers_trans hp); (casesm* Carrier <;> decide))
    | ((with_reducible apply covers_trans hp); exact rfl) | ((with_reducible apply covers_trans hp); (casesm* Carrier <;> exact rfl))
    | ((with_reducible (apply Or.inl; apply within_of_covers; apply covers_trans hp)); decide) | dsimp only | split
    | with_reducible apply Leads.upd | rfl

theorem State.scrubbed_leads (s : State) (f : Nat × Nat × Nat)
    (hp : covers ps Part.all = true) (h : Leads ps s0 s) : Leads ps s0 (State.scrubbed s f) := by
  unfold State.scrubbed
  repeat' first
    | with_reducible (first
        | assumption | apply ite_leads | apply State.mismatch_leads | apply State.bump_leads
        | apply State.refetchLine_leads _ _ _ (by with_reducible assumption) | apply State.refetchBad_leads
        | apply State.queueRepair_leads | apply State.dropItem_leads | (apply Or.inr; rfl) | rfl)
    | ((with_reducible apply covers_trans hp); decide) | ((with_reducible apply covers_trans hp); (casesm* Carrier <;> decide))
    | ((with_reducible apply covers_trans hp); exact rfl) | ((with_reducible apply covers_trans hp); (casesm* Carrier <;> exact rfl))
    | ((with_reducible (apply Or.inl; apply within_of_covers; apply covers_trans hp)); decide) | dsimp only | split
    | with_reducible apply Leads.upd | rfl

theorem execScrubPass_leads (found : List (Nat × Nat × Nat)) (s : State) :
    Out.leads Part.all s (execScrubPass found s) := by
  refine out_intro fun hp h => ?_
  unfold execScrubPass
  refine ⟨_, rfl, ?_⟩
  all_goals repeat' first
    | with_reducible (first
        | intro _ | assumption | apply State.scrubbed_leads | apply State.wrapN_leads | apply when_leads | apply foldl_leads)
    | ((with_reducible apply covers_trans hp); decide) | ((with_reducible apply covers_trans hp); (casesm* Carrier <;> decide))
    | ((with_reducible apply covers_trans hp); exact rfl) | ((with_reducible apply covers_trans hp); (casesm* Carrier <;> exact rfl))
    | rfl

theorem execFaultLogClear_leads (src : Nat) (s : State) :
    Out.leads [.aon, .pw, .ports, .entry 0x08 0x030, .ev, .fb] s (execFaultLogClear src s) := by
  refine out_intro fun hp h => ?_
  unfold execFaultLogClear
  refine ⟨_, rfl, ?_⟩
  all_goals repeat' first
    | with_reducible (first
        | intro _ | assumption | apply State.request_leads | (apply Or.inr; rfl) | rfl)
    | ((with_reducible apply covers_trans hp); decide) | ((with_reducible apply covers_trans hp); (casesm* Carrier <;> decide))
    | ((with_reducible apply covers_trans hp); exact rfl) | ((with_reducible apply covers_trans hp); (casesm* Carrier <;> exact rfl))
    | ((with_reducible (apply Or.inl; apply within_of_covers; apply covers_trans hp)); decide) | dsimp only
    | with_reducible apply Leads.upd | rfl

theorem State.sliceRound_leads (s : State) (mask : Nat)
    (hp : covers ps [.boot, .entry 0x79 0x012, .ev, .fb, .entry 0x79 0x011, .entry 0x79 0x014] = true) (h : Leads ps s0 s) : Leads ps s0 (State.sliceRound s mask) := by
  unfold State.sliceRound
  repeat' first
    | with_reducible (first
        | intro _ | assumption | apply ite_leads | apply State.bump_leads | apply State.raise_leads | apply wr_leads
        | apply State.wrapN_leads | apply foldl_leads | (apply Or.inr; rfl) | rfl)
    | ((with_reducible apply covers_trans hp); decide) | ((with_reducible apply covers_trans hp); (casesm* Carrier <;> decide))
    | ((with_reducible apply covers_trans hp); exact rfl) | ((with_reducible apply covers_trans hp); (casesm* Carrier <;> exact rfl))
    | ((with_reducible apply covers_trans hp); ((try casesm* Carrier) <;> (repeat' split) <;> first | decide | rfl))
    | ((with_reducible (apply Or.inl; apply within_of_covers; apply covers_trans hp)); decide) | dsimp only
    | with_reducible apply Leads.upd | rfl

theorem execSliceRound_leads (mask : Nat) (s : State) :
    Out.leads [.boot, .entry 0x79 0x012, .ev, .fb, .entry 0x79 0x011, .entry 0x79 0x014] s (execSliceRound mask s) := by
  refine out_intro fun hp h => ?_
  unfold execSliceRound
  refine ⟨_, rfl, ?_⟩
  all_goals repeat' first
    | with_reducible (first
        | intro _ | assumption | apply State.sliceRound_leads | apply when_leads)
    | ((with_reducible apply covers_trans hp); decide) | ((with_reducible apply covers_trans hp); (casesm* Carrier <;> decide))
    | ((with_reducible apply covers_trans hp); exact rfl) | ((with_reducible apply covers_trans hp); (casesm* Carrier <;> exact rfl))
    | rfl

theorem execSliceRun_leads (src : Nat) (mask : Nat) (s : State) :
    Out.leads [.boot, .entry 0x79 0x012, .ev, .fb, .entry 0x79 0x011, .entry 0x79 0x014, .pw, .ports, .entry 0x08 0x030] s (execSliceRun src mask s) := by
  refine out_intro fun hp h => ?_
  unfold execSliceRun
  refine ⟨_, rfl, ?_⟩
  all_goals repeat' first
    | with_reducible (first
        | intro _ | assumption | apply ite_leads | apply State.sliceRound_leads | apply State.request_leads)
    | ((with_reducible apply covers_trans hp); decide) | ((with_reducible apply covers_trans hp); (casesm* Carrier <;> decide))
    | ((with_reducible apply covers_trans hp); exact rfl) | ((with_reducible apply covers_trans hp); (casesm* Carrier <;> exact rfl))
    | rfl

theorem execTestRequest_leads (src : Nat) (v : Int) (s : State) :
    Out.leads [.boot, .entry 0x79 0x021, .entry 0x79 0x022, .ev, .fb, .pw, .ports, .entry 0x08 0x030] s (execTestRequest src v s) := by
  refine out_intro fun hp h => ?_
  unfold execTestRequest
  repeat' first | refine ⟨_, rfl, ?_⟩ | dsimp only | split
  all_goals repeat' first
    | with_reducible (first
        | intro _ | assumption | apply wr_leads | apply State.raise_leads | apply State.request_leads | (apply Or.inr; rfl) | rfl)
    | ((with_reducible apply covers_trans hp); decide) | ((with_reducible apply covers_trans hp); (casesm* Carrier <;> decide))
    | ((with_reducible apply covers_trans hp); exact rfl) | ((with_reducible apply covers_trans hp); (casesm* Carrier <;> exact rfl))
    | ((with_reducible (apply Or.inl; apply within_of_covers; apply covers_trans hp)); decide) | split | with_reducible apply Leads.upd
    | rfl

theorem execTestDone_leads (vals : List Int) (s : State) :
    Out.leads [.boot, .entry 0x79 0x021, .entry 0x79 0x023, .ev, .fb, .entry 0x61 0x002, .hk, .entry 0x61 0x004, .host, .entry 0x10 0x041, .entry 0x10 0x010, .entry 0x10 0x005, .entry 0x50 0x002, .tv, .entry 0x50 0x006, .entry 0x50 0x021, .clk, .entry 0x40 0x002, .entry 0x20 0x013, .entry 0x21 0x000, .carA, .entry 0x11 0x030, .entry 0x40 0x011, .entry 0x40 0x013, .entry 0x40 0x017, .entry 0x20 0x000, .entry 0x11 0x021, .entry 0x11 0x040, .carB, .entry 0x20 0x054, .entry 0x30 0x054, .blobs, .entry 0x21 0x001, .entry 0x21 0x031, .entry 0x21 0x032, .entry 0x22 0x001, .entry 0x21 0x062, .entry 0x21 0x064, .entry 0x20 0x036, .entry 0x21 0x01C, .entry 0x21 0x01E, .entry 0x24 0x020, .entry 0x24 0x023, .entry 0x30 0x013, .entry 0x31 0x000, .entry 0x30 0x000, .entry 0x31 0x001, .entry 0x31 0x031, .entry 0x31 0x032, .entry 0x32 0x001, .entry 0x31 0x062, .entry 0x31 0x064, .entry 0x30 0x036, .entry 0x31 0x01C, .entry 0x31 0x01E, .entry 0x34 0x020, .entry 0x34 0x023] s (execTestDone vals s) := by
  refine out_intro fun hp h => ?_
  unfold execTestDone
  repeat' first | refine ⟨_, rfl, ?_⟩ | dsimp only | split
  all_goals repeat' first
    | with_reducible (first
        | assumption | apply wr_leads | apply State.raise_leads | apply State.aoutEnable_leads | apply State.laneEnable_leads
        | apply State.tvEnable_leads | apply State.carrierMove_leads | (apply Or.inr; rfl) | rfl)
    | ((with_reducible apply covers_trans hp); decide) | ((with_reducible apply covers_trans hp); (casesm* Carrier <;> decide))
    | ((with_reducible apply covers_trans hp); exact rfl) | ((with_reducible apply covers_trans hp); (casesm* Carrier <;> exact rfl))
    | ((with_reducible (apply Or.inl; apply within_of_covers; apply covers_trans hp)); decide) | with_reducible apply Leads.upd | rfl

end Sys2Proof.Machine
end

