-- ==== Sys2Proof/Laws/FrameSecurity.lean ====
section
/-! SUPPORT. Frames of the operations and meanings of Machine/Security.lean. -/

namespace Sys2Proof.Machine

variable {ps : List Part} {s0 : State}

theorem State.dropNonce_leads (s : State)
    (hp : covers ps [.sec] = true) (h : Leads ps s0 s) : Leads ps s0 (State.dropNonce s) := by
  unfold State.dropNonce
  repeat' first
    | with_reducible (first
        | assumption | (apply Or.inr; rfl) | rfl)
    | ((with_reducible apply covers_trans hp); decide) | ((with_reducible apply covers_trans hp); (casesm* Carrier <;> decide))
    | ((with_reducible apply covers_trans hp); exact rfl) | ((with_reducible apply covers_trans hp); (casesm* Carrier <;> exact rfl))
    | ((with_reducible (apply Or.inl; apply within_of_covers; apply covers_trans hp)); decide) | dsimp only
    | with_reducible apply Leads.upd | rfl

theorem execNonceExpire_leads (s : State) :
    Out.leads [.sec] s (execNonceExpire s) := by
  refine out_intro fun hp h => ?_
  unfold execNonceExpire
  refine ⟨_, rfl, ?_⟩
  all_goals repeat' first
    | with_reducible (first
        | assumption | apply State.dropNonce_leads)
    | ((with_reducible apply covers_trans hp); decide) | ((with_reducible apply covers_trans hp); (casesm* Carrier <;> decide))
    | ((with_reducible apply covers_trans hp); exact rfl) | ((with_reducible apply covers_trans hp); (casesm* Carrier <;> exact rfl))
    | rfl

theorem State.checkCerts_leads (s : State)
    (hp : covers ps [.entry 0x7A 0x010] = true) (h : Leads ps s0 s) : Leads ps s0 (State.checkCerts s) := by
  unfold State.checkCerts
  repeat' first
    | with_reducible (first
        | intro _ | assumption | apply wr_leads | apply foldl_leads)
    | ((with_reducible apply covers_trans hp); decide) | ((with_reducible apply covers_trans hp); (casesm* Carrier <;> decide))
    | ((with_reducible apply covers_trans hp); exact rfl) | ((with_reducible apply covers_trans hp); (casesm* Carrier <;> exact rfl))
    | rfl

theorem State.keyEnd_leads (s : State) (code : Nat)
    (hp : covers ps [.entry 0x7A 0x00B, .ev, .fb] = true) (h : Leads ps s0 s) : Leads ps s0 (State.keyEnd s code).1 := by
  unfold State.keyEnd
  repeat' first
    | with_reducible (first
        | assumption | apply wr_leads | apply State.raise_leads | apply ite_fst_leads)
    | ((with_reducible apply covers_trans hp); decide) | ((with_reducible apply covers_trans hp); (casesm* Carrier <;> decide))
    | ((with_reducible apply covers_trans hp); exact rfl) | ((with_reducible apply covers_trans hp); (casesm* Carrier <;> exact rfl))
    | rfl

theorem State.program_leads (s : State) (op : FuseOp) (hl : op.legal s.fuse = true)
    (hp : covers ps [.sec] = true) (h : Leads ps s0 s) : Leads ps s0 (State.program s op).1 := by
  refine h.trans ⟨⟨rfl, fun p hq => ?_⟩, fun w => ⟨?_, FuseState.kept_refl _⟩⟩
  · cases p <;> simp only [Part.agrees] <;> try rfl
    · exact fun _ _ _ => rfl
    · rw [within_of_covers hp] at hq; cases hq
  · rw [State.wf_parts] at *
    exact ⟨w.1, w.2.1, w.2.2.1, by simpa [State.program] using hl⟩

theorem State.keyAuth_leads (s : State) (op : Nat) (slot : Nat) (free : Bool) (extra : List Byte) (f : State → State × Status)
    (hf5 : ∀ a0, Leads ps s0 a0 → Leads ps s0 (f a0).1)
    (hp : covers ps [.sec, .entry 0x7A 0x00B, .ev, .fb] = true) (h : Leads ps s0 s) : Leads ps s0 (State.keyAuth s op slot free extra f).1 := by
  unfold State.keyAuth
  repeat' first
    | with_reducible (first
        | assumption | apply State.dropNonce_leads | apply State.keyEnd_leads | apply hf5 | apply ite_fst_leads)
    | ((with_reducible apply covers_trans hp); decide) | ((with_reducible apply covers_trans hp); (casesm* Carrier <;> decide))
    | ((with_reducible apply covers_trans hp); exact rfl) | ((with_reducible apply covers_trans hp); (casesm* Carrier <;> exact rfl))
    | split | rfl

theorem State.keyFuse_leads (s : State) (f : State → State × Status)
    (hf1 : ∀ a0, Leads ps s0 a0 → Leads ps s0 (f a0).1)
    (hp : covers ps [.entry 0x7A 0x00B, .ev, .fb] = true) (h : Leads ps s0 s) : Leads ps s0 (State.keyFuse s f).1 := by
  unfold State.keyFuse
  repeat' first
    | with_reducible (first
        | assumption | apply State.keyEnd_leads | apply hf1 | apply ite_fst_leads)
    | ((with_reducible apply covers_trans hp); decide) | ((with_reducible apply covers_trans hp); (casesm* Carrier <;> decide))
    | ((with_reducible apply covers_trans hp); exact rfl) | ((with_reducible apply covers_trans hp); (casesm* Carrier <;> exact rfl))
    | rfl

theorem State.programAt_leads (s : State) (vaux : Nat) (op : FuseOp) (hl : op.legal s.fuse = true)
    (hp : covers ps [.entry 0x7A 0x00B, .ev, .fb, .sec] = true) (h : Leads ps s0 s) : Leads ps s0 (State.programAt s vaux op).1 := by
  unfold State.programAt
  split
  · exact State.keyEnd_leads _ _ (covers_trans hp (by decide)) h
  · exact State.program_leads _ _ hl (covers_trans hp (by decide)) h

theorem keyCmd_leads (src : Nat) (op : Nat) (slot : Nat) (f : Nat → State → State × Status) (s : State)
    (hf3 : ∀ a0 a1, Leads ps s0 a1 → Leads ps s0 (f a0 a1).1)
    (hp : covers ps [.pw, .ports, .entry 0x08 0x030, .ev, .fb] = true) (h : Leads ps s0 s) : Leads ps s0 (keyCmd src op slot f s) := by
  unfold keyCmd
  repeat' first
    | with_reducible (first
        | intro _ | assumption | apply State.request_leads | apply hf3)
    | ((with_reducible apply covers_trans hp); decide) | ((with_reducible apply covers_trans hp); (casesm* Carrier <;> decide))
    | ((with_reducible apply covers_trans hp); exact rfl) | ((with_reducible apply covers_trans hp); (casesm* Carrier <;> exact rfl))
    | rfl

theorem State.keyBlock_leads (s : State) (f : FlashState → FlashState)
    (hp : covers ps [.flash] = true) (h : Leads ps s0 s) : Leads ps s0 (State.keyBlock s f) := by
  unfold State.keyBlock
  repeat' first
    | with_reducible (first
        | assumption | apply ite_leads | (apply Or.inr; rfl) | rfl)
    | ((with_reducible apply covers_trans hp); decide) | ((with_reducible apply covers_trans hp); (casesm* Carrier <;> decide))
    | ((with_reducible apply covers_trans hp); exact rfl) | ((with_reducible apply covers_trans hp); (casesm* Carrier <;> exact rfl))
    | ((with_reducible (apply Or.inl; apply within_of_covers; apply covers_trans hp)); decide) | with_reducible apply Leads.upd | rfl

theorem execEnrollRoot_leads (src : Nat) (slot : Nat) (vaux : Nat) (s : State) :
    Out.leads [.entry 0x7A 0x00B, .ev, .fb, .flash, .sec, .pw, .ports, .entry 0x08 0x030] s (execEnrollRoot src slot vaux s) := by
  refine out_intro fun hp h => ?_
  unfold execEnrollRoot
  refine ⟨_, rfl, ?_⟩
  all_goals repeat' first
    | with_reducible (first
        | intro _ | assumption | apply State.keyEnd_leads | apply State.keyBlock_leads | apply State.program_leads
        | apply State.keyAuth_leads | apply State.keyFuse_leads | apply keyCmd_leads | apply ite_fst_leads)
    | ((with_reducible apply covers_trans hp); decide) | ((with_reducible apply covers_trans hp); (casesm* Carrier <;> decide))
    | ((with_reducible apply covers_trans hp); exact rfl) | ((with_reducible apply covers_trans hp); (casesm* Carrier <;> exact rfl))
    | rfl

theorem execRevokeRoot_leads (src : Nat) (slot : Nat) (vaux : Nat) (s : State) :
    Out.leads [.entry 0x7A 0x00B, .ev, .fb, .sec, .pw, .ports, .entry 0x08 0x030] s (execRevokeRoot src slot vaux s) := by
  refine out_intro fun hp h => ?_
  unfold execRevokeRoot
  refine ⟨_, rfl, ?_⟩
  all_goals repeat' first
    | with_reducible (first
        | intro _ | assumption | apply State.keyEnd_leads | apply State.programAt_leads | apply State.keyAuth_leads
        | apply State.keyFuse_leads | apply keyCmd_leads | apply ite_fst_leads)
    | ((with_reducible apply covers_trans hp); decide) | ((with_reducible apply covers_trans hp); (casesm* Carrier <;> decide))
    | ((with_reducible apply covers_trans hp); exact rfl) | ((with_reducible apply covers_trans hp); (casesm* Carrier <;> exact rfl))
    | rfl

theorem execInstallRootKey_leads (src : Nat) (slot : Nat) (s : State) :
    Out.leads [.entry 0x7A 0x00B, .ev, .fb, .flash, .pw, .ports, .entry 0x08 0x030] s (execInstallRootKey src slot s) := by
  refine out_intro fun hp h => ?_
  unfold execInstallRootKey
  refine ⟨_, rfl, ?_⟩
  all_goals repeat' first
    | with_reducible (first
        | intro _ | assumption | apply State.keyEnd_leads | apply State.keyBlock_leads | apply keyCmd_leads | apply ite_fst_leads)
    | ((with_reducible apply covers_trans hp); decide) | ((with_reducible apply covers_trans hp); (casesm* Carrier <;> decide))
    | ((with_reducible apply covers_trans hp); exact rfl) | ((with_reducible apply covers_trans hp); (casesm* Carrier <;> exact rfl))
    | rfl

theorem execInstallController_leads (src : Nat) (slot : Nat) (s : State) :
    Out.leads [.flash, .entry 0x7A 0x010, .entry 0x7A 0x00B, .ev, .fb, .pw, .ports, .entry 0x08 0x030] s (execInstallController src slot s) := by
  refine out_intro fun hp h => ?_
  unfold execInstallController
  refine ⟨_, rfl, ?_⟩
  all_goals repeat' first
    | with_reducible (first
        | intro _ | assumption | apply State.keyBlock_leads | apply wr_leads | apply State.keyEnd_leads | apply keyCmd_leads
        | apply ite_fst_leads)
    | ((with_reducible apply covers_trans hp); decide) | ((with_reducible apply covers_trans hp); (casesm* Carrier <;> decide))
    | ((with_reducible apply covers_trans hp); exact rfl) | ((with_reducible apply covers_trans hp); (casesm* Carrier <;> exact rfl))
    | ((with_reducible apply covers_trans hp); ((try casesm* Carrier) <;> (repeat' split) <;> first | decide | rfl)) | rfl

theorem execRemoveController_leads (src : Nat) (slot : Nat) (s : State) :
    Out.leads [.flash, .entry 0x7A 0x010, .entry 0x7A 0x00B, .ev, .fb, .sec, .pw, .ports, .entry 0x08 0x030] s (execRemoveController src slot s) := by
  refine out_intro fun hp h => ?_
  unfold execRemoveController
  refine ⟨_, rfl, ?_⟩
  all_goals repeat' first
    | with_reducible (first
        | intro _ | assumption | apply State.keyBlock_leads | apply wr_leads | apply State.keyEnd_leads | apply State.keyAuth_leads
        | apply keyCmd_leads)
    | ((with_reducible apply covers_trans hp); decide) | ((with_reducible apply covers_trans hp); (casesm* Carrier <;> decide))
    | ((with_reducible apply covers_trans hp); exact rfl) | ((with_reducible apply covers_trans hp); (casesm* Carrier <;> exact rfl))
    | ((with_reducible apply covers_trans hp); ((try casesm* Carrier) <;> (repeat' split) <;> first | decide | rfl)) | rfl

theorem execCommitSecver_leads (src : Nat) (slot : Nat) (vaux : Nat) (s : State) :
    Out.leads [.entry 0x7A 0x00B, .ev, .fb, .sec, .pw, .ports, .entry 0x08 0x030] s (execCommitSecver src slot vaux s) := by
  refine out_intro fun hp h => ?_
  unfold execCommitSecver
  refine ⟨_, rfl, ?_⟩
  all_goals repeat' first
    | with_reducible (first
        | intro _ | assumption | apply State.keyEnd_leads | apply State.programAt_leads | apply State.keyAuth_leads
        | apply State.keyFuse_leads | apply keyCmd_leads)
    | ((with_reducible apply covers_trans hp); decide) | ((with_reducible apply covers_trans hp); (casesm* Carrier <;> decide))
    | ((with_reducible apply covers_trans hp); exact rfl) | ((with_reducible apply covers_trans hp); (casesm* Carrier <;> exact rfl))
    | split | (simp only [FuseOp.legal, decide_eq_true_eq]; omega) | dsimp only | rfl

theorem execCommitCtrlVersion_leads (src : Nat) (slot : Nat) (vaux : Nat) (s : State) :
    Out.leads [.entry 0x7A 0x00B, .ev, .fb, .sec, .pw, .ports, .entry 0x08 0x030] s (execCommitCtrlVersion src slot vaux s) := by
  refine out_intro fun hp h => ?_
  unfold execCommitCtrlVersion
  refine ⟨_, rfl, ?_⟩
  all_goals repeat' first
    | with_reducible (first
        | intro _ | assumption | apply State.keyEnd_leads | apply State.programAt_leads | apply State.keyAuth_leads
        | apply State.keyFuse_leads | apply keyCmd_leads)
    | ((with_reducible apply covers_trans hp); decide) | ((with_reducible apply covers_trans hp); (casesm* Carrier <;> decide))
    | ((with_reducible apply covers_trans hp); exact rfl) | ((with_reducible apply covers_trans hp); (casesm* Carrier <;> exact rfl))
    | split | (simp only [FuseOp.legal, decide_eq_true_eq]; omega) | dsimp only | rfl

theorem execFuseSignPolicy_leads (src : Nat) (slot : Nat) (vaux : Nat) (s : State) :
    Out.leads [.entry 0x7A 0x00B, .ev, .fb, .sec, .pw, .ports, .entry 0x08 0x030] s (execFuseSignPolicy src slot vaux s) := by
  refine out_intro fun hp h => ?_
  unfold execFuseSignPolicy
  refine ⟨_, rfl, ?_⟩
  all_goals repeat' first
    | with_reducible (first
        | intro _ | assumption | apply State.keyEnd_leads | apply State.programAt_leads | apply State.keyAuth_leads
        | apply State.keyFuse_leads | apply keyCmd_leads | apply ite_fst_leads)
    | ((with_reducible apply covers_trans hp); decide) | ((with_reducible apply covers_trans hp); (casesm* Carrier <;> decide))
    | ((with_reducible apply covers_trans hp); exact rfl) | ((with_reducible apply covers_trans hp); (casesm* Carrier <;> exact rfl))
    | rfl

/-- A transition that is not refused leads on: the lifecycle advances (17 R426). -/
theorem State.lcRefusal_legal {s : State} {target vaux : Nat} (h : (s.lcRefusal target vaux).1 = 0) : s.fuse.lifecycle ≤ target := by
  unfold State.lcRefusal at h
  dsimp only at h
  split at h
  · cases h
  · rename_i ha
    simp only [lcAllowed, Bool.not_eq_true', Bool.or_eq_false_iff, not_and, Bool.not_eq_false, Bool.and_eq_true, decide_eq_true_eq,
      Bool.and_eq_false_iff, decide_eq_false_iff_not] at ha
    by_contra hc
    exact absurd ha (by omega)

theorem execLcTransition_leads (src : Nat) (v : Int) (vaux : Nat) (s : State) :
    Out.leads [.entry 0x7A 0x00B, .ev, .fb, .sec, .entry 0x00 0x014, .pw, .ports, .entry 0x08 0x030] s (execLcTransition src v vaux s) := by
  refine out_intro fun hp h => ?_
  refine ⟨_, rfl, ?_⟩
  refine State.request_leads _ _ _ _ (fun a ha => ?_) (covers_trans hp (by decide)) h
  dsimp only
  split
  · exact State.keyEnd_leads _ _ (covers_trans hp (by decide)) ha
  · have hd : Leads [.entry 0x7A 0x00B, .ev, .fb, .sec, .entry 0x00 0x014, .pw, .ports, .entry 0x08 0x030] s (if (a.lcRefusal (if (1 ≤ v && v ≤ 4) = true then v.toNat else 0) vaux).2 = true then a.dropNonce else a) :=
      ite_leads (State.dropNonce_leads _ (covers_trans hp (by decide)) ha) ha
    generalize ht : (if (1 ≤ v && v ≤ 4) = true then v.toNat else 0) = target at hd ⊢
    refine ite_fst_of (fun h0 => ?_) (fun _ => ?_)
    · refine State.program_leads _ _ ?_ (covers_trans hp (by decide)) (State.raise_leads _ _ _ (covers_trans hp (by decide)) hd)
      have := State.lcRefusal_legal h0
      simp only [FuseOp.legal, decide_eq_true_eq]
      refine le_trans (le_of_eq ?_) this
      split <;> rfl
    · exact State.raise_leads _ _ _ (covers_trans hp (by decide)) (wr_leads _ _ (covers_trans hp (by decide)) hd)

theorem execIdGenerate_leads (src : Nat) (vaux : Nat) (s : State) :
    Out.leads [.entry 0x7A 0x00B, .ev, .fb, .freeCtr, .flash, .sec, .pw, .ports, .entry 0x08 0x030] s (execIdGenerate src vaux s) := by
  refine out_intro fun hp h => ?_
  unfold execIdGenerate
  refine ⟨_, rfl, ?_⟩
  all_goals repeat' first
    | with_reducible (first
        | intro _ | assumption | apply State.keyEnd_leads | apply State.tookFree_leads | apply State.keyBlock_leads
        | apply State.program_leads | apply State.request_leads | apply ite_fst_leads)
    | ((with_reducible apply covers_trans hp); decide) | ((with_reducible apply covers_trans hp); (casesm* Carrier <;> decide))
    | ((with_reducible apply covers_trans hp); exact rfl) | ((with_reducible apply covers_trans hp); (casesm* Carrier <;> exact rfl))
    | rfl

/-- Fuses blow, and the operation is over. -/
theorem fuse_leads {s : State} {f : FuseState} {sec' : SecState} {ctr : Nat}
    (hp : covers ps [.fuse, .sec, .freeCtr] = true) (hk : s.wf = true → s.fuse.kept f) (ho : sec'.fuseOp = none) (h : Leads ps s0 s) :
    Leads ps s0 { s with fuse := f, sec := sec', freeCtr := ctr } := by
  refine h.trans ⟨⟨rfl, fun p hq => ?_⟩, fun w => ⟨?_, hk w⟩⟩
  · simp only [covers, List.all_cons, List.all_nil, Bool.and_true, Bool.and_eq_true] at hp
    cases p <;> simp only [Part.agrees] <;> simp_all [State.rd]
  · rw [State.wf_parts] at *
    exact ⟨w.1, w.2.1, w.2.2.1, by simp [ho]⟩

theorem execFuseProgrammingDone_leads (ok : Bool) (s : State) :
    Out.leads Part.all s (execFuseProgrammingDone ok s) := by
  refine out_intro fun hp h => ?_
  refine ⟨_, rfl, ?_⟩
  split
  · exact h
  · rename_i op ho
    split
    · have hb : Leads Part.all s { s with fuse := s.fuse.blown s.flash.idPub op, sec := { s.sec with fuseOp := none } } := by
        refine fuse_leads (covers_trans hp (by decide)) (fun w => FuseState.kept_blown _ _ _ ?_) rfl h
        have := ((State.wf_parts s).1 w).2.2.2
        rw [ho] at this
        exact this
      dsimp only
      generalize ({ s with fuse := s.fuse.blown s.flash.idPub op, sec := { s.sec with fuseOp := none } } : State) = u at hb
      repeat' first
        | with_reducible (first
            | assumption | apply wr_leads | apply State.enterReset_leads | apply State.checkCerts_leads | apply State.keyEnd_leads)
        | ((with_reducible apply covers_trans hp); decide) | ((with_reducible apply covers_trans hp); (casesm* Carrier <;> decide))
        | ((with_reducible apply covers_trans hp); exact rfl) | ((with_reducible apply covers_trans hp); (casesm* Carrier <;> exact rfl))
        | split | rfl
    · have hb : Leads Part.all s { s with fuse := s.cutFuses, sec := { s.sec with fuseOp := none }, freeCtr := s.freeCtr + 65 } :=
        fuse_leads (covers_trans hp (by decide)) (fun w => State.kept_cutFuses _ ((State.wf_parts s).1 w).2.2.2) rfl h
      dsimp only
      generalize ({ s with fuse := s.cutFuses, sec := { s.sec with fuseOp := none }, freeCtr := s.freeCtr + 65 } : State) = u at hb
      repeat' first
        | with_reducible (first
            | assumption | apply wr_leads | apply State.enterReset_leads | apply State.checkCerts_leads | apply State.keyEnd_leads)
        | ((with_reducible apply covers_trans hp); decide) | ((with_reducible apply covers_trans hp); (casesm* Carrier <;> decide))
        | ((with_reducible apply covers_trans hp); exact rfl) | ((with_reducible apply covers_trans hp); (casesm* Carrier <;> exact rfl))
        | split | rfl

theorem execAttRequest_leads (src : Nat) (s : State) :
    Out.leads [.entry 0x7A 0x034, .entry 0x7A 0x032, .sec, .pw, .ports, .entry 0x08 0x030, .ev, .fb] s (execAttRequest src s) := by
  refine out_intro fun hp h => ?_
  unfold execAttRequest
  refine ⟨_, rfl, ?_⟩
  all_goals repeat' first
    | with_reducible (first
        | intro _ | assumption | apply wr_leads | apply State.request_leads | apply ite_fst_leads | (apply Or.inr; rfl) | rfl)
    | ((with_reducible apply covers_trans hp); decide) | ((with_reducible apply covers_trans hp); (casesm* Carrier <;> decide))
    | ((with_reducible apply covers_trans hp); exact rfl) | ((with_reducible apply covers_trans hp); (casesm* Carrier <;> exact rfl))
    | ((with_reducible (apply Or.inl; apply within_of_covers; apply covers_trans hp)); decide) | dsimp only
    | with_reducible apply Leads.upd | rfl

theorem execAttReady_leads (s : State) :
    Out.leads [.freeCtr, .sec, .blobs, .entry 0x7A 0x032, .ev, .fb] s (execAttReady s) := by
  refine out_intro fun hp h => ?_
  unfold execAttReady
  repeat' first | refine ⟨_, rfl, ?_⟩ | dsimp only | split
  all_goals repeat' first
    | with_reducible (first
        | intro _ | assumption | apply State.tookFree_leads | apply setBlob_leads | apply wr_leads | apply State.raise_leads
        | apply when_leads | (apply Or.inr; rfl) | rfl)
    | ((with_reducible apply covers_trans hp); decide) | ((with_reducible apply covers_trans hp); (casesm* Carrier <;> decide))
    | ((with_reducible apply covers_trans hp); exact rfl) | ((with_reducible apply covers_trans hp); (casesm* Carrier <;> exact rfl))
    | ((with_reducible (apply Or.inl; apply within_of_covers; apply covers_trans hp)); decide) | dsimp only | split
    | with_reducible apply Leads.upd | rfl

end Sys2Proof.Machine
end

