-- ==== Sys2Proof/Laws/FrameDebug.lean ====
section
/-! SUPPORT. Frames of the operations and meanings of Machine/Debug.lean. -/

namespace Sys2Proof.Machine

variable {ps : List Part} {s0 : State}

theorem coreWord_leads (c w : Nat) (s : State)
    (hp : covers ps Part.all = true) (h : Leads ps s0 s) : Leads ps s0 ((coreWord c w).2 s).1 := by
  unfold coreWord
  repeat' first
    | with_reducible (first
        | assumption | apply coreNop_leads | apply coreAdd_leads | apply coreSub_leads | apply coreMul_leads | apply coreAnd_leads
        | apply coreOr_leads | apply coreXor_leads | apply coreShl_leads | apply coreShr_leads | apply coreAddi_leads
        | apply coreLui_leads | apply coreB_leads | apply coreCall_leads | apply coreRet_leads | apply coreLoop_leads
        | apply coreLdw_leads | apply coreStw_leads | apply coreLdc_leads | apply coreStc_leads | apply coreZl_leads
        | apply coreMgd_leads | apply coreMdg_leads | apply coreMvx_leads | apply coreProduct_leads | apply coreCmacm_leads
        | apply coreClra_leads | apply coreSac_leads | apply coreSacg_leads | apply coreIn_leads | apply coreOut_leads
        | apply coreCbx_leads | apply coreWait_leads | apply coreHalt_leads)
    | ((with_reducible apply covers_trans hp); decide) | ((with_reducible apply covers_trans hp); (casesm* Carrier <;> decide))
    | ((with_reducible apply covers_trans hp); exact rfl) | ((with_reducible apply covers_trans hp); (casesm* Carrier <;> exact rfl))
    | dsimp only | split | rfl

theorem State.jtag_leads (s : State) (ir : Nat) (data : Nat)
    (hp : covers ps [.dbg] = true) (h : Leads ps s0 s) : Leads ps s0 (State.jtag s ir data) := by
  unfold State.jtag
  repeat' first
    | with_reducible (first
        | intro _ | assumption | apply when_leads | (apply Or.inr; rfl) | rfl)
    | ((with_reducible apply covers_trans hp); decide) | ((with_reducible apply covers_trans hp); (casesm* Carrier <;> decide))
    | ((with_reducible apply covers_trans hp); exact rfl) | ((with_reducible apply covers_trans hp); (casesm* Carrier <;> exact rfl))
    | ((with_reducible (apply Or.inl; apply within_of_covers; apply covers_trans hp)); decide) | dsimp only
    | with_reducible apply Leads.upd | rfl

theorem execExtest_leads (s : State) :
    Out.leads [.dbg] s (execExtest s) := by
  refine out_intro fun hp h => ?_
  unfold execExtest
  refine ⟨_, rfl, ?_⟩
  all_goals repeat' first
    | with_reducible (first
        | assumption | apply State.jtag_leads)
    | ((with_reducible apply covers_trans hp); decide) | ((with_reducible apply covers_trans hp); (casesm* Carrier <;> decide))
    | ((with_reducible apply covers_trans hp); exact rfl) | ((with_reducible apply covers_trans hp); (casesm* Carrier <;> exact rfl))
    | rfl

theorem execIdcode_leads (s : State) :
    Out.leads [.dbg] s (execIdcode s) := by
  refine out_intro fun hp h => ?_
  unfold execIdcode
  refine ⟨_, rfl, ?_⟩
  all_goals repeat' first
    | with_reducible (first
        | assumption | apply State.jtag_leads)
    | ((with_reducible apply covers_trans hp); decide) | ((with_reducible apply covers_trans hp); (casesm* Carrier <;> decide))
    | ((with_reducible apply covers_trans hp); exact rfl) | ((with_reducible apply covers_trans hp); (casesm* Carrier <;> exact rfl))
    | rfl

theorem execSamplePreload_leads (s : State) :
    Out.leads [.dbg] s (execSamplePreload s) := by
  refine out_intro fun hp h => ?_
  unfold execSamplePreload
  refine ⟨_, rfl, ?_⟩
  all_goals repeat' first
    | with_reducible (first
        | assumption | apply State.jtag_leads)
    | ((with_reducible apply covers_trans hp); decide) | ((with_reducible apply covers_trans hp); (casesm* Carrier <;> decide))
    | ((with_reducible apply covers_trans hp); exact rfl) | ((with_reducible apply covers_trans hp); (casesm* Carrier <;> exact rfl))
    | rfl

theorem execBypass_leads (s : State) :
    Out.leads [.dbg] s (execBypass s) := by
  refine out_intro fun hp h => ?_
  unfold execBypass
  refine ⟨_, rfl, ?_⟩
  all_goals repeat' first
    | with_reducible (first
        | assumption | apply State.jtag_leads)
    | ((with_reducible apply covers_trans hp); decide) | ((with_reducible apply covers_trans hp); (casesm* Carrier <;> decide))
    | ((with_reducible apply covers_trans hp); exact rfl) | ((with_reducible apply covers_trans hp); (casesm* Carrier <;> exact rfl))
    | rfl

theorem execTestEngine_leads (op : Nat) (s : State) :
    Out.leads [.dbg, .entry 0x7A 0x038] s (execTestEngine op s) := by
  refine out_intro fun hp h => ?_
  unfold execTestEngine
  refine ⟨_, rfl, ?_⟩
  all_goals repeat' first
    | with_reducible (first
        | intro _ | assumption | apply ite_leads | apply State.jtag_leads | apply wr_leads | apply when_leads)
    | ((with_reducible apply covers_trans hp); decide) | ((with_reducible apply covers_trans hp); (casesm* Carrier <;> decide))
    | ((with_reducible apply covers_trans hp); exact rfl) | ((with_reducible apply covers_trans hp); (casesm* Carrier <;> exact rfl))
    | rfl

theorem execCoreSel_leads (c : Nat) (s : State) :
    Out.leads [.dbg] s (execCoreSel c s) := by
  refine out_intro fun hp h => ?_
  unfold execCoreSel
  refine ⟨_, rfl, ?_⟩
  all_goals repeat' first
    | with_reducible (first
        | intro _ | assumption | apply when_leads | (apply Or.inr; rfl) | rfl)
    | ((with_reducible apply covers_trans hp); decide) | ((with_reducible apply covers_trans hp); (casesm* Carrier <;> decide))
    | ((with_reducible apply covers_trans hp); exact rfl) | ((with_reducible apply covers_trans hp); (casesm* Carrier <;> exact rfl))
    | ((with_reducible (apply Or.inl; apply within_of_covers; apply covers_trans hp)); decide) | dsimp only
    | with_reducible apply Leads.upd | rfl

theorem State.debugSeen_leads (s : State)
    (hp : covers ps [.entry 0x7A 0x038, .ev, .fb] = true) (h : Leads ps s0 s) : Leads ps s0 (State.debugSeen s) := by
  unfold State.debugSeen
  repeat' first
    | with_reducible (first
        | assumption | apply ite_leads | apply wr_leads | apply State.raise_leads)
    | ((with_reducible apply covers_trans hp); decide) | ((with_reducible apply covers_trans hp); (casesm* Carrier <;> decide))
    | ((with_reducible apply covers_trans hp); exact rfl) | ((with_reducible apply covers_trans hp); (casesm* Carrier <;> exact rfl))
    | rfl

theorem State.coreCtrl_leads (s : State) (f : Nat → State → State)
    (hf1 : ∀ a0 a1, Leads ps s0 a1 → Leads ps s0 (f a0 a1))
    (hp : covers ps [.dbg] = true) (h : Leads ps s0 s) : Leads ps s0 (State.coreCtrl s f) := by
  unfold State.coreCtrl
  repeat' first
    | with_reducible (first
        | intro _ | assumption | apply ite_leads | apply State.jtag_leads | apply when_leads | apply hf1)
    | ((with_reducible apply covers_trans hp); decide) | ((with_reducible apply covers_trans hp); (casesm* Carrier <;> decide))
    | ((with_reducible apply covers_trans hp); exact rfl) | ((with_reducible apply covers_trans hp); (casesm* Carrier <;> exact rfl))
    | rfl

theorem execCoreHalt_leads (s : State) :
    Out.leads [.cores, .carA, .carB, .integ, .freeCtr, .entry 0x78 0x000, .ev, .fb, .entry 0x78 0x001, .entry 0x78 0x002, .aon, .entry 0x58 0x010, .entry 0x7A 0x038, .dbg] s (execCoreHalt s) := by
  refine out_intro fun hp h => ?_
  unfold execCoreHalt
  refine ⟨_, rfl, ?_⟩
  all_goals repeat' first
    | with_reducible (first
        | intro _ | assumption | apply ite_leads | apply State.doBurst_leads | apply State.coreNext_leads | apply State.modCore_leads
        | apply wr_leads | apply State.debugSeen_leads | apply State.coreCtrl_leads)
    | ((with_reducible apply covers_trans hp); decide) | ((with_reducible apply covers_trans hp); (casesm* Carrier <;> decide))
    | ((with_reducible apply covers_trans hp); exact rfl) | ((with_reducible apply covers_trans hp); (casesm* Carrier <;> exact rfl))
    | ((with_reducible apply covers_trans hp); ((try casesm* Carrier) <;> (repeat' split) <;> first | decide | rfl)) | rfl

theorem State.unhalt_leads (s : State) (c : Nat)
    (hp : covers ps [.entry 0x58 0x010] = true) (h : Leads ps s0 s) : Leads ps s0 (State.unhalt s c) := by
  unfold State.unhalt
  repeat' first
    | with_reducible (first
        | assumption | apply wr_leads)
    | ((with_reducible apply covers_trans hp); decide) | ((with_reducible apply covers_trans hp); (casesm* Carrier <;> decide))
    | ((with_reducible apply covers_trans hp); exact rfl) | ((with_reducible apply covers_trans hp); (casesm* Carrier <;> exact rfl))
    | rfl

theorem execCoreStep_leads (s : State) :
    Out.leads Part.all s (execCoreStep s) := by
  refine out_intro fun hp h => ?_
  unfold execCoreStep
  repeat' first | refine ⟨_, rfl, ?_⟩ | dsimp only | split
  all_goals repeat' first
    | with_reducible (first
        | intro _ | assumption | apply ite_leads | apply coreWord_leads | apply State.unhalt_leads | apply State.coreInstr_leads
        | apply State.doBurst_leads | apply State.coreNext_leads | apply State.dataMismatch_leads | apply State.modCore_leads
        | apply wr_leads | apply State.coreCtrl_leads | apply Leads.of_pair (by with_reducible assumption))
    | ((with_reducible apply covers_trans hp); decide) | ((with_reducible apply covers_trans hp); (casesm* Carrier <;> decide))
    | ((with_reducible apply covers_trans hp); exact rfl) | ((with_reducible apply covers_trans hp); (casesm* Carrier <;> exact rfl))
    | ((with_reducible apply covers_trans hp); ((try casesm* Carrier) <;> (repeat' split) <;> first | decide | rfl)) | split | rfl

theorem execCoreResume_leads (s : State) :
    Out.leads [.entry 0x58 0x010, .dbg] s (execCoreResume s) := by
  refine out_intro fun hp h => ?_
  unfold execCoreResume
  refine ⟨_, rfl, ?_⟩
  all_goals repeat' first
    | with_reducible (first
        | intro _ | assumption | apply ite_leads | apply State.unhalt_leads | apply State.coreCtrl_leads)
    | ((with_reducible apply covers_trans hp); decide) | ((with_reducible apply covers_trans hp); (casesm* Carrier <;> decide))
    | ((with_reducible apply covers_trans hp); exact rfl) | ((with_reducible apply covers_trans hp); (casesm* Carrier <;> exact rfl))
    | rfl

theorem State.debugRead_leads (s : State) (c : Nat) (space : Nat) (addr : Nat)
    (hp : covers ps Part.all = true) (h : Leads ps s0 s) : Leads ps s0 (State.debugRead s c space addr).1 := by
  unfold State.debugRead
  repeat' first
    | with_reducible (first
        | assumption | apply State.tookFree_leads | apply State.dataMismatch_leads)
    | ((with_reducible apply covers_trans hp); decide) | ((with_reducible apply covers_trans hp); (casesm* Carrier <;> decide))
    | ((with_reducible apply covers_trans hp); exact rfl) | ((with_reducible apply covers_trans hp); (casesm* Carrier <;> exact rfl))
    | dsimp only | split | rfl

theorem State.debugWrite_leads (s : State) (c : Nat) (space : Nat) (addr : Nat) (v : Nat)
    (hp : covers ps Part.all = true) (h : Leads ps s0 s) : Leads ps s0 (State.debugWrite s c space addr v) := by
  unfold State.debugWrite
  repeat' first
    | with_reducible (first
        | assumption | apply ite_leads | apply State.modCore_leads | apply State.tookFree_leads | apply State.dstore_leads)
    | ((with_reducible apply covers_trans hp); decide) | ((with_reducible apply covers_trans hp); (casesm* Carrier <;> decide))
    | ((with_reducible apply covers_trans hp); exact rfl) | ((with_reducible apply covers_trans hp); (casesm* Carrier <;> exact rfl))
    | dsimp only | split | rfl

theorem execCoreAccess_leads (w : Nat) (s : State) :
    Out.leads Part.all s (execCoreAccess w s) := by
  refine out_intro fun hp h => ?_
  unfold execCoreAccess
  refine ⟨_, rfl, ?_⟩
  all_goals repeat' first
    | with_reducible (first
        | intro _ | assumption | apply ite_leads | apply State.jtag_leads | apply State.debugSeen_leads | apply State.debugWrite_leads
        | apply State.debugRead_leads | apply when_leads | (apply Or.inr; rfl) | rfl)
    | ((with_reducible apply covers_trans hp); decide) | ((with_reducible apply covers_trans hp); (casesm* Carrier <;> decide))
    | ((with_reducible apply covers_trans hp); exact rfl) | ((with_reducible apply covers_trans hp); (casesm* Carrier <;> exact rfl))
    | ((with_reducible (apply Or.inl; apply within_of_covers; apply covers_trans hp)); decide) | dsimp only
    | with_reducible apply Leads.upd | rfl

end Sys2Proof.Machine
end

