-- ==== Sys2Proof/Laws/FrameStartup.lean ====
section
/-! SUPPORT. Frames of the operations and meanings of Machine/Startup.lean. -/

namespace Sys2Proof.Machine

variable {ps : List Part} {s0 : State}

theorem State.resetBy_leads (s : State) (cause : Nat) (detail : Nat)
    (hp : covers ps Part.all = true) (h : Leads ps s0 s) : Leads ps s0 (State.resetBy s cause detail) := by
  unfold State.resetBy
  repeat' first
    | with_reducible (first
        | assumption | apply ite_leads | apply wr_leads | apply State.enterReset_leads)
    | ((with_reducible apply covers_trans hp); decide) | ((with_reducible apply covers_trans hp); (casesm* Carrier <;> decide))
    | ((with_reducible apply covers_trans hp); exact rfl) | ((with_reducible apply covers_trans hp); (casesm* Carrier <;> exact rfl))
    | ((with_reducible apply covers_trans hp); ((try casesm* Carrier) <;> (repeat' split) <;> first | decide | rfl)) | rfl

theorem State.supplyOff_leads (s : State)
    (hp : covers ps Part.all = true) (h : Leads ps s0 s) : Leads ps s0 (State.supplyOff s) := by
  unfold State.supplyOff
  repeat' first
    | with_reducible (first
        | assumption | apply State.wiped_leads | (apply Or.inr; rfl) | rfl)
    | ((with_reducible apply covers_trans hp); decide) | ((with_reducible apply covers_trans hp); (casesm* Carrier <;> decide))
    | ((with_reducible apply covers_trans hp); exact rfl) | ((with_reducible apply covers_trans hp); (casesm* Carrier <;> exact rfl))
    | ((with_reducible (apply Or.inl; apply within_of_covers; apply covers_trans hp)); decide) | dsimp only
    | with_reducible apply Leads.upd | rfl

theorem execSupplyLoss_leads (s : State) :
    Out.leads Part.all s (execSupplyLoss s) := by
  refine out_intro fun hp h => ?_
  unfold execSupplyLoss
  refine ⟨_, rfl, ?_⟩
  all_goals repeat' first
    | with_reducible (first
        | assumption | apply State.supplyOff_leads)
    | ((with_reducible apply covers_trans hp); decide) | ((with_reducible apply covers_trans hp); (casesm* Carrier <;> decide))
    | ((with_reducible apply covers_trans hp); exact rfl) | ((with_reducible apply covers_trans hp); (casesm* Carrier <;> exact rfl))
    | rfl

theorem execSupplyDip_leads (mask : Nat) (s : State) :
    Out.leads Part.all s (execSupplyDip mask s) := by
  refine out_intro fun hp h => ?_
  unfold execSupplyDip
  refine ⟨_, rfl, ?_⟩
  all_goals repeat' first
    | with_reducible (first
        | assumption | apply ite_leads | apply State.supplyOff_leads | apply State.enterReset_leads | (apply Or.inr; rfl) | rfl)
    | ((with_reducible apply covers_trans hp); decide) | ((with_reducible apply covers_trans hp); (casesm* Carrier <;> decide))
    | ((with_reducible apply covers_trans hp); exact rfl) | ((with_reducible apply covers_trans hp); (casesm* Carrier <;> exact rfl))
    | ((with_reducible (apply Or.inl; apply within_of_covers; apply covers_trans hp)); decide) | dsimp only
    | with_reducible apply Leads.upd | rfl

theorem execSuppliesStable_leads (s : State) :
    Out.leads Part.all s (execSuppliesStable s) := by
  refine out_intro fun hp h => ?_
  unfold execSuppliesStable
  refine ⟨_, rfl, ?_⟩
  all_goals repeat' first
    | with_reducible (first
        | assumption | apply ite_leads | apply State.enterReset_leads | (apply Or.inr; rfl) | rfl)
    | ((with_reducible apply covers_trans hp); decide) | ((with_reducible apply covers_trans hp); (casesm* Carrier <;> decide))
    | ((with_reducible apply covers_trans hp); exact rfl) | ((with_reducible apply covers_trans hp); (casesm* Carrier <;> exact rfl))
    | ((with_reducible (apply Or.inl; apply within_of_covers; apply covers_trans hp)); decide) | dsimp only
    | with_reducible apply Leads.upd | rfl

theorem execResetNAssert_leads (edges : Nat) (s : State) :
    Out.leads Part.all s (execResetNAssert edges s) := by
  refine out_intro fun hp h => ?_
  unfold execResetNAssert
  refine ⟨_, rfl, ?_⟩
  all_goals repeat' first
    | with_reducible (first
        | intro _ | assumption | apply ite_leads | apply State.resetBy_leads | apply when_leads | (apply Or.inr; rfl) | rfl)
    | ((with_reducible apply covers_trans hp); decide) | ((with_reducible apply covers_trans hp); (casesm* Carrier <;> decide))
    | ((with_reducible apply covers_trans hp); exact rfl) | ((with_reducible apply covers_trans hp); (casesm* Carrier <;> exact rfl))
    | ((with_reducible (apply Or.inl; apply within_of_covers; apply covers_trans hp)); decide) | with_reducible apply Leads.upd | rfl

theorem execSwReset_leads (src : Nat) (s : State) :
    Out.leads Part.all s (execSwReset src s) := by
  refine out_intro fun hp h => ?_
  unfold execSwReset
  refine ⟨_, rfl, ?_⟩
  all_goals repeat' first
    | with_reducible (first
        | intro _ | assumption | apply State.enterReset_leads | apply State.request_leads)
    | ((with_reducible apply covers_trans hp); decide) | ((with_reducible apply covers_trans hp); (casesm* Carrier <;> decide))
    | ((with_reducible apply covers_trans hp); exact rfl) | ((with_reducible apply covers_trans hp); (casesm* Carrier <;> exact rfl))
    | rfl

theorem execResetDatumCapture_leads (s : State) :
    Out.leads [.tv, .entry 0x01 0x004] s (execResetDatumCapture s) := by
  refine out_intro fun hp h => ?_
  unfold execResetDatumCapture
  refine ⟨_, rfl, ?_⟩
  all_goals repeat' first
    | with_reducible (first
        | intro _ | assumption | apply wr_leads | apply when_leads | (apply Or.inr; rfl) | rfl)
    | ((with_reducible apply covers_trans hp); decide) | ((with_reducible apply covers_trans hp); (casesm* Carrier <;> decide))
    | ((with_reducible apply covers_trans hp); exact rfl) | ((with_reducible apply covers_trans hp); (casesm* Carrier <;> exact rfl))
    | ((with_reducible (apply Or.inl; apply within_of_covers; apply covers_trans hp)); decide) | dsimp only
    | with_reducible apply Leads.upd | rfl

theorem State.bootSeeds_leads (s : State)
    (hp : covers ps [.freeCtr, .ed, .tv] = true) (h : Leads ps s0 s) : Leads ps s0 (State.bootSeeds s) := by
  unfold State.bootSeeds
  repeat' first
    | with_reducible (first
        | assumption | apply State.tookFree_leads | (apply Or.inr; rfl) | rfl)
    | ((with_reducible apply covers_trans hp); decide) | ((with_reducible apply covers_trans hp); (casesm* Carrier <;> decide))
    | ((with_reducible apply covers_trans hp); exact rfl) | ((with_reducible apply covers_trans hp); (casesm* Carrier <;> exact rfl))
    | ((with_reducible (apply Or.inl; apply within_of_covers; apply covers_trans hp)); decide) | dsimp only
    | with_reducible apply Leads.upd | rfl

theorem execResetRelease_leads (s : State) :
    Out.leads [.freeCtr, .ed, .tv, .boot, .entry 0x01 0x013, .entry 0x01 0x000] s (execResetRelease s) := by
  refine out_intro fun hp h => ?_
  unfold execResetRelease
  refine ⟨_, rfl, ?_⟩
  all_goals repeat' first
    | with_reducible (first
        | intro _ | assumption | apply State.bootSeeds_leads | apply wr_leads | apply when_leads | (apply Or.inr; rfl) | rfl)
    | ((with_reducible apply covers_trans hp); decide) | ((with_reducible apply covers_trans hp); (casesm* Carrier <;> decide))
    | ((with_reducible apply covers_trans hp); exact rfl) | ((with_reducible apply covers_trans hp); (casesm* Carrier <;> exact rfl))
    | ((with_reducible (apply Or.inl; apply within_of_covers; apply covers_trans hp)); decide) | dsimp only
    | with_reducible apply Leads.upd | rfl

theorem State.bootTick_leads (s : State)
    (hp : covers ps [.entry 0x01 0x013] = true) (h : Leads ps s0 s) : Leads ps s0 (State.bootTick s) := by
  unfold State.bootTick
  repeat' first
    | with_reducible (first
        | assumption | apply ite_leads | apply wr_leads)
    | ((with_reducible apply covers_trans hp); decide) | ((with_reducible apply covers_trans hp); (casesm* Carrier <;> decide))
    | ((with_reducible apply covers_trans hp); exact rfl) | ((with_reducible apply covers_trans hp); (casesm* Carrier <;> exact rfl))
    | rfl

theorem execBootHkCalDone_leads (s : State) :
    Out.leads [.entry 0x01 0x013] s (execBootHkCalDone s) := by
  refine out_intro fun hp h => ?_
  unfold execBootHkCalDone
  refine ⟨_, rfl, ?_⟩
  all_goals repeat' first
    | with_reducible (first
        | intro _ | assumption | apply wr_leads | apply when_leads)
    | ((with_reducible apply covers_trans hp); decide) | ((with_reducible apply covers_trans hp); (casesm* Carrier <;> decide))
    | ((with_reducible apply covers_trans hp); exact rfl) | ((with_reducible apply covers_trans hp); (casesm* Carrier <;> exact rfl))
    | rfl

theorem execStrapReadDone_leads (uv : List Nat) (s : State) :
    Out.leads [.entry 0x60 0x0F8, .entry 0x60 0x0F0, .entry 0x60 0x040, .entry 0x01 0x010, .entry 0x01 0x011, .entry 0x01 0x012, .entry 0x08 0x010, .entry 0x08 0x020, .entry 0x50 0x001, .entry 0x01 0x013] s (execStrapReadDone uv s) := by
  refine out_intro fun hp h => ?_
  unfold execStrapReadDone
  refine ⟨_, rfl, ?_⟩
  all_goals repeat' first
    | with_reducible (first
        | intro _ | assumption | apply wr_leads | apply when_leads | apply foldl_leads)
    | ((with_reducible apply covers_trans hp); decide) | ((with_reducible apply covers_trans hp); (casesm* Carrier <;> decide))
    | ((with_reducible apply covers_trans hp); exact rfl) | ((with_reducible apply covers_trans hp); (casesm* Carrier <;> exact rfl))
    | ((with_reducible apply covers_trans hp); ((try casesm* Carrier) <;> (repeat' split) <;> first | decide | rfl)) | rfl

theorem State.portSettings_leads (s : State)
    (hp : covers ps [.ports] = true) (h : Leads ps s0 s) : Leads ps s0 (State.portSettings s) := by
  unfold State.portSettings
  repeat' first
    | with_reducible (first
        | assumption | (apply Or.inr; rfl) | rfl)
    | ((with_reducible apply covers_trans hp); decide) | ((with_reducible apply covers_trans hp); (casesm* Carrier <;> decide))
    | ((with_reducible apply covers_trans hp); exact rfl) | ((with_reducible apply covers_trans hp); (casesm* Carrier <;> exact rfl))
    | ((with_reducible (apply Or.inl; apply within_of_covers; apply covers_trans hp)); decide) | dsimp only
    | with_reducible apply Leads.upd | rfl

theorem State.datumReload_leads (s : State) (edges : Nat)
    (hp : covers ps [.tv, .datum, .entry 0x50 0x042, .entry 0x50 0x021] = true) (h : Leads ps s0 s) : Leads ps s0 (State.datumReload s edges) := by
  unfold State.datumReload
  repeat' first
    | with_reducible (first
        | assumption | apply ite_leads | apply wr_leads | (apply Or.inr; rfl) | rfl)
    | ((with_reducible apply covers_trans hp); decide) | ((with_reducible apply covers_trans hp); (casesm* Carrier <;> decide))
    | ((with_reducible apply covers_trans hp); exact rfl) | ((with_reducible apply covers_trans hp); (casesm* Carrier <;> exact rfl))
    | ((with_reducible (apply Or.inl; apply within_of_covers; apply covers_trans hp)); decide) | dsimp only
    | with_reducible apply Leads.upd | rfl

theorem State.retentionCheck_leads (s : State)
    (hp : covers ps [.legend, .blobs, .ed, .ev, .fb, .aon, .integ] = true) (h : Leads ps s0 s) : Leads ps s0 (State.retentionCheck s) := by
  unfold State.retentionCheck
  split
  · exact h
  · dsimp only
    refine State.raise_leads _ _ _ (covers_trans hp (by decide)) (State.mismatch_leads _ _ _ _ (covers_trans hp (by decide)) ?_)
    exact stores_leads (covers_trans hp (by decide)) (fun w => legWf_filter _ _ w) (fun _ => rfl) h

theorem State.storeReady_leads (s : State)
    (hp : covers ps [.entry 0x02 0x030, .entry 0x7A 0x010, .entry 0x00 0x023, .entry 0x58 0x002, .ports] = true) (h : Leads ps s0 s) : Leads ps s0 (State.storeReady s) := by
  unfold State.storeReady
  repeat' first
    | with_reducible (first
        | assumption | apply ite_leads | apply wr_leads | apply State.checkCerts_leads | apply State.portSettings_leads)
    | ((with_reducible apply covers_trans hp); decide) | ((with_reducible apply covers_trans hp); (casesm* Carrier <;> decide))
    | ((with_reducible apply covers_trans hp); exact rfl) | ((with_reducible apply covers_trans hp); (casesm* Carrier <;> exact rfl))
    | rfl

theorem State.safeServing_leads (s : State)
    (hp : covers ps [.entry 0x01 0x015, .entry 0x01 0x000, .entry 0x20 0x043, .ev, .fb, .carA, .entry 0x20 0x036, .entry 0x20 0x037, .carB, .entry 0x20 0x054, .entry 0x30 0x054, .entry 0x30 0x043, .entry 0x30 0x036, .entry 0x30 0x037] = true) (h : Leads ps s0 s) : Leads ps s0 (State.safeServing s) := by
  unfold State.safeServing
  repeat' first
    | with_reducible (first
        | assumption | apply wr_leads | apply State.withDeviceState_leads)
    | ((with_reducible apply covers_trans hp); decide) | ((with_reducible apply covers_trans hp); (casesm* Carrier <;> decide))
    | ((with_reducible apply covers_trans hp); exact rfl) | ((with_reducible apply covers_trans hp); (casesm* Carrier <;> exact rfl))
    | rfl

theorem State.bootDone_leads (s : State) (result : Int)
    (hp : covers ps [.entry 0x01 0x013, .entry 0x01 0x015, .entry 0x01 0x014, .boot, .cores, .entry 0x58 0x010, .entry 0x58 0x000, .entry 0x01 0x000, .entry 0x20 0x043, .ev, .fb, .carA, .entry 0x20 0x036, .entry 0x20 0x037, .carB, .entry 0x20 0x054, .entry 0x30 0x054, .entry 0x30 0x043, .entry 0x30 0x036, .entry 0x30 0x037, .clk, .entry 0x40 0x002, .entry 0x20 0x013, .entry 0x21 0x000, .entry 0x11 0x030, .entry 0x40 0x011, .entry 0x40 0x013, .entry 0x40 0x017, .entry 0x20 0x000, .entry 0x11 0x021, .entry 0x11 0x040, .host, .blobs, .entry 0x21 0x001, .entry 0x21 0x031, .entry 0x21 0x032, .entry 0x22 0x001, .entry 0x21 0x062, .entry 0x21 0x064, .entry 0x21 0x01C, .entry 0x21 0x01E, .entry 0x24 0x020, .entry 0x24 0x023, .entry 0x30 0x013, .entry 0x31 0x000, .entry 0x30 0x000, .entry 0x31 0x001, .entry 0x31 0x031, .entry 0x31 0x032, .entry 0x32 0x001, .entry 0x31 0x062, .entry 0x31 0x064, .entry 0x31 0x01C, .entry 0x31 0x01E, .entry 0x34 0x020, .entry 0x34 0x023, .entry 0x10 0x041, .entry 0x10 0x010, .entry 0x10 0x005] = true) (h : Leads ps s0 s) : Leads ps s0 (State.bootDone s result) := by
  unfold State.bootDone
  repeat' first
    | with_reducible (first
        | intro _ | assumption | apply ite_leads | apply wr_leads | apply State.startCore_leads | apply State.withDeviceState_leads
        | apply State.raise_leads | apply State.carrierMove_leads | apply State.laneEnable_leads | apply foldl_leads
        | (apply Or.inr; rfl) | rfl)
    | ((with_reducible apply covers_trans hp); decide) | ((with_reducible apply covers_trans hp); (casesm* Carrier <;> decide))
    | ((with_reducible apply covers_trans hp); exact rfl) | ((with_reducible apply covers_trans hp); (casesm* Carrier <;> exact rfl))
    | ((with_reducible (apply Or.inl; apply within_of_covers; apply covers_trans hp)); decide) | dsimp only
    | with_reducible apply Leads.upd | rfl

theorem State.noFirmware_leads (s : State) (result : Int)
    (hp : covers ps [.entry 0x01 0x015, .ev, .fb, .entry 0x01 0x013] = true) (h : Leads ps s0 s) : Leads ps s0 (State.noFirmware s result) := by
  unfold State.noFirmware
  repeat' first
    | with_reducible (first
        | assumption | apply wr_leads | apply State.raise_leads)
    | ((with_reducible apply covers_trans hp); decide) | ((with_reducible apply covers_trans hp); (casesm* Carrier <;> decide))
    | ((with_reducible apply covers_trans hp); exact rfl) | ((with_reducible apply covers_trans hp); (casesm* Carrier <;> exact rfl))
    | rfl

theorem State.afterSelfTest_leads (s : State)
    (hp : covers ps [.entry 0x01 0x015, .entry 0x01 0x000, .entry 0x20 0x043, .ev, .fb, .carA, .entry 0x20 0x036, .entry 0x20 0x037, .carB, .entry 0x20 0x054, .entry 0x30 0x054, .entry 0x30 0x043, .entry 0x30 0x036, .entry 0x30 0x037, .entry 0x01 0x013, .entry 0x01 0x014, .boot, .cores, .entry 0x58 0x010, .entry 0x58 0x000, .clk, .entry 0x40 0x002, .entry 0x20 0x013, .entry 0x21 0x000, .entry 0x11 0x030, .entry 0x40 0x011, .entry 0x40 0x013, .entry 0x40 0x017, .entry 0x20 0x000, .entry 0x11 0x021, .entry 0x11 0x040, .host, .blobs, .entry 0x21 0x001, .entry 0x21 0x031, .entry 0x21 0x032, .entry 0x22 0x001, .entry 0x21 0x062, .entry 0x21 0x064, .entry 0x21 0x01C, .entry 0x21 0x01E, .entry 0x24 0x020, .entry 0x24 0x023, .entry 0x30 0x013, .entry 0x31 0x000, .entry 0x30 0x000, .entry 0x31 0x001, .entry 0x31 0x031, .entry 0x31 0x032, .entry 0x32 0x001, .entry 0x31 0x062, .entry 0x31 0x064, .entry 0x31 0x01C, .entry 0x31 0x01E, .entry 0x34 0x020, .entry 0x34 0x023, .entry 0x10 0x041, .entry 0x10 0x010, .entry 0x10 0x005] = true) (h : Leads ps s0 s) : Leads ps s0 (State.afterSelfTest s) := by
  unfold State.afterSelfTest
  repeat' first
    | with_reducible (first
        | assumption | apply ite_leads | apply State.safeServing_leads | apply State.bootDone_leads | apply wr_leads
        | apply State.noFirmware_leads | (apply Or.inr; rfl) | rfl)
    | ((with_reducible apply covers_trans hp); decide) | ((with_reducible apply covers_trans hp); (casesm* Carrier <;> decide))
    | ((with_reducible apply covers_trans hp); exact rfl) | ((with_reducible apply covers_trans hp); (casesm* Carrier <;> exact rfl))
    | ((with_reducible (apply Or.inl; apply within_of_covers; apply covers_trans hp)); decide) | dsimp only
    | with_reducible apply Leads.upd | rfl

theorem execSelfTestDone_leads (vals : List (List Int)) (time : Nat) (edges : Nat) (s : State) :
    Out.leads [.tv, .datum, .legend, .blobs, .ed, .ev, .fb, .aon, .integ, .ports, .carA, .carB, .hk, .boot, .cores, .clk, .host] s (execSelfTestDone vals time edges s) := by
  refine out_intro fun hp h => ?_
  unfold execSelfTestDone
  refine ⟨_, rfl, ?_⟩
  all_goals repeat' first
    | with_reducible (first
        | intro _ | assumption | apply ite_leads | apply wr_leads | apply State.datumReload_leads | apply State.retentionCheck_leads
        | apply State.storeReady_leads | apply State.tvEnable_leads | apply State.raise_leads | apply State.safeServing_leads
        | apply State.aoutWake_leads | apply State.afterSelfTest_leads | apply when_leads | apply foldl_leads)
    | ((with_reducible apply covers_trans hp); decide) | ((with_reducible apply covers_trans hp); (casesm* Carrier <;> decide))
    | ((with_reducible apply covers_trans hp); exact rfl) | ((with_reducible apply covers_trans hp); (casesm* Carrier <;> exact rfl))
    | rfl

theorem execFwVerifyDone_leads (s : State) :
    Out.leads [.entry 0x7A 0x004, .entry 0x7A 0x005, .entry 0x58 0x003, .entry 0x58 0x001, .cores, .integ, .entry 0x58 0x011, .entry 0x58 0x010, .entry 0x01 0x013, .entry 0x01 0x015, .entry 0x01 0x014, .boot, .entry 0x58 0x000, .entry 0x01 0x000, .entry 0x20 0x043, .ev, .fb, .carA, .entry 0x20 0x036, .entry 0x20 0x037, .carB, .entry 0x20 0x054, .entry 0x30 0x054, .entry 0x30 0x043, .entry 0x30 0x036, .entry 0x30 0x037, .clk, .entry 0x40 0x002, .entry 0x20 0x013, .entry 0x21 0x000, .entry 0x11 0x030, .entry 0x40 0x011, .entry 0x40 0x013, .entry 0x40 0x017, .entry 0x20 0x000, .entry 0x11 0x021, .entry 0x11 0x040, .host, .blobs, .entry 0x21 0x001, .entry 0x21 0x031, .entry 0x21 0x032, .entry 0x22 0x001, .entry 0x21 0x062, .entry 0x21 0x064, .entry 0x21 0x01C, .entry 0x21 0x01E, .entry 0x24 0x020, .entry 0x24 0x023, .entry 0x30 0x013, .entry 0x31 0x000, .entry 0x30 0x000, .entry 0x31 0x001, .entry 0x31 0x031, .entry 0x31 0x032, .entry 0x32 0x001, .entry 0x31 0x062, .entry 0x31 0x064, .entry 0x31 0x01C, .entry 0x31 0x01E, .entry 0x34 0x020, .entry 0x34 0x023, .entry 0x10 0x041, .entry 0x10 0x010, .entry 0x10 0x005, .entry 0x58 0x024] s (execFwVerifyDone s) := by
  refine out_intro fun hp h => ?_
  unfold execFwVerifyDone
  repeat' first | refine ⟨_, rfl, ?_⟩ | dsimp only | split
  all_goals repeat' first
    | with_reducible (first
        | intro _ | assumption | apply ite_leads | apply State.verifyDetail_leads | apply State.loadBundle_leads
        | apply State.bootDone_leads | apply wr_leads | apply State.noFirmware_leads | apply when_leads | (apply Or.inr; rfl) | rfl)
    | ((with_reducible apply covers_trans hp); decide) | ((with_reducible apply covers_trans hp); (casesm* Carrier <;> decide))
    | ((with_reducible apply covers_trans hp); exact rfl) | ((with_reducible apply covers_trans hp); (casesm* Carrier <;> exact rfl))
    | ((with_reducible (apply Or.inl; apply within_of_covers; apply covers_trans hp)); decide) | split | with_reducible apply Leads.upd
    | rfl

theorem execSvStart_leads (src : Nat) (s : State) :
    Out.leads [.cores, .entry 0x58 0x010, .pw, .ports, .entry 0x08 0x030, .ev, .fb] s (execSvStart src s) := by
  refine out_intro fun hp h => ?_
  unfold execSvStart
  refine ⟨_, rfl, ?_⟩
  all_goals repeat' first
    | with_reducible (first
        | intro _ | assumption | apply ite_leads | apply State.startCore_leads | apply State.request_leads | apply foldl_leads)
    | ((with_reducible apply covers_trans hp); decide) | ((with_reducible apply covers_trans hp); (casesm* Carrier <;> decide))
    | ((with_reducible apply covers_trans hp); exact rfl) | ((with_reducible apply covers_trans hp); (casesm* Carrier <;> exact rfl))
    | rfl

end Sys2Proof.Machine
end

