-- ==== Sys2Proof/Laws/FrameValidation.lean ====
section
/-! SUPPORT. Frames of the operations and meanings of Machine/Validation.lean. -/

namespace Sys2Proof.Machine

variable {ps : List Part} {s0 : State}

theorem State.recordRules_leads (s : State) (l : List (Nat × Key))
    (hp : covers ps [.entry 0x02 0x018, .entry 0x02 0x019, .entry 0x02 0x01A] = true) (h : Leads ps s0 s) : Leads ps s0 (State.recordRules s l) := by
  unfold State.recordRules
  repeat' first
    | with_reducible (first
        | assumption | apply wr_leads)
    | ((with_reducible apply covers_trans hp); decide) | ((with_reducible apply covers_trans hp); (casesm* Carrier <;> decide))
    | ((with_reducible apply covers_trans hp); exact rfl) | ((with_reducible apply covers_trans hp); (casesm* Carrier <;> exact rfl))
    | rfl

end Sys2Proof.Machine
end

