-- ==== Sys2Proof/Laws/FrameEditions.lean ====
section
/-! SUPPORT. Frames of the operations and meanings of Machine/Editions.lean. -/

namespace Sys2Proof.Machine

variable {ps : List Part} {s0 : State}

theorem State.openDraft_leads (s : State) (src : Nat)
    (hp : covers ps [.ed, .ev, .fb] = true) (h : Leads ps s0 s) : Leads ps s0 (State.openDraft s src).1 := by
  unfold State.openDraft
  repeat' first
    | with_reducible (first
        | assumption | apply State.raise_leads | (apply Or.inr; rfl) | rfl)
    | ((with_reducible apply covers_trans hp); decide) | ((with_reducible apply covers_trans hp); (casesm* Carrier <;> decide))
    | ((with_reducible apply covers_trans hp); exact rfl) | ((with_reducible apply covers_trans hp); (casesm* Carrier <;> exact rfl))
    | ((with_reducible (apply Or.inl; apply within_of_covers; apply covers_trans hp)); decide) | dsimp only | split
    | with_reducible apply Leads.upd | rfl

theorem execDraftOpen_leads (src : Nat) (s : State) :
    Out.leads [.ed, .ev, .fb, .pw, .ports, .entry 0x08 0x030] s (execDraftOpen src s) := by
  refine out_intro fun hp h => ?_
  unfold execDraftOpen
  refine ⟨_, rfl, ?_⟩
  all_goals repeat' first
    | with_reducible (first
        | intro _ | assumption | apply State.openDraft_leads | apply State.request_leads)
    | ((with_reducible apply covers_trans hp); decide) | ((with_reducible apply covers_trans hp); (casesm* Carrier <;> decide))
    | ((with_reducible apply covers_trans hp); exact rfl) | ((with_reducible apply covers_trans hp); (casesm* Carrier <;> exact rfl))
    | rfl

theorem execDraftWrite_leads (src : Nat) (k : Key) (v : Val) (s : State) :
    Out.leads [.ed, .pw, .ports, .entry 0x08 0x030, .ev, .fb] s (execDraftWrite src k v s) := by
  refine out_intro fun hp h => ?_
  unfold execDraftWrite
  refine ⟨_, rfl, ?_⟩
  all_goals repeat' first
    | with_reducible (first
        | intro _ | assumption | apply draftEffect_leads | apply State.request_leads | apply when_leads)
    | ((with_reducible apply covers_trans hp); decide) | ((with_reducible apply covers_trans hp); (casesm* Carrier <;> decide))
    | ((with_reducible apply covers_trans hp); exact rfl) | ((with_reducible apply covers_trans hp); (casesm* Carrier <;> exact rfl))
    | rfl

theorem State.discardDraft_leads (s : State) (src : Nat)
    (hp : covers ps [.ed, .blobs, .entry 0x50 0x050, .ev, .fb] = true) (h : Leads ps s0 s) : Leads ps s0 (State.discardDraft s src).1 := by
  unfold State.discardDraft
  repeat' first
    | with_reducible (first
        | assumption | apply State.endDraft_leads | apply ite_fst_leads)
    | ((with_reducible apply covers_trans hp); decide) | ((with_reducible apply covers_trans hp); (casesm* Carrier <;> decide))
    | ((with_reducible apply covers_trans hp); exact rfl) | ((with_reducible apply covers_trans hp); (casesm* Carrier <;> exact rfl))
    | split | rfl

theorem execDraftDiscard_leads (src : Nat) (s : State) :
    Out.leads [.ed, .blobs, .entry 0x50 0x050, .ev, .fb, .pw, .ports, .entry 0x08 0x030] s (execDraftDiscard src s) := by
  refine out_intro fun hp h => ?_
  unfold execDraftDiscard
  refine ⟨_, rfl, ?_⟩
  all_goals repeat' first
    | with_reducible (first
        | intro _ | assumption | apply State.discardDraft_leads | apply State.request_leads)
    | ((with_reducible apply covers_trans hp); decide) | ((with_reducible apply covers_trans hp); (casesm* Carrier <;> decide))
    | ((with_reducible apply covers_trans hp); exact rfl) | ((with_reducible apply covers_trans hp); (casesm* Carrier <;> exact rfl))
    | rfl

theorem execEdDraftExpired_leads (s : State) :
    Out.leads [.ed, .blobs, .entry 0x50 0x050, .ev, .fb] s (execEdDraftExpired s) := by
  refine out_intro fun hp h => ?_
  unfold execEdDraftExpired
  refine ⟨_, rfl, ?_⟩
  all_goals repeat' first
    | with_reducible (first
        | assumption | apply State.endDraft_leads)
    | ((with_reducible apply covers_trans hp); decide) | ((with_reducible apply covers_trans hp); (casesm* Carrier <;> decide))
    | ((with_reducible apply covers_trans hp); exact rfl) | ((with_reducible apply covers_trans hp); (casesm* Carrier <;> exact rfl))
    | rfl

theorem State.rejectDraft_leads (s : State) (d : Draft) (l : List (Nat × Key))
    (hp : covers ps [.entry 0x02 0x018, .entry 0x02 0x019, .entry 0x02 0x01A, .ed, .ev, .fb] = true) (h : Leads ps s0 s) : Leads ps s0 (State.rejectDraft s d l) := by
  unfold State.rejectDraft
  repeat' first
    | with_reducible (first
        | assumption | apply State.recordRules_leads | apply State.addHist_leads | apply State.raise_leads)
    | ((with_reducible apply covers_trans hp); decide) | ((with_reducible apply covers_trans hp); (casesm* Carrier <;> decide))
    | ((with_reducible apply covers_trans hp); exact rfl) | ((with_reducible apply covers_trans hp); (casesm* Carrier <;> exact rfl))
    | rfl

theorem State.setDraft_leads (s : State) (d : Draft)
    (hp : covers ps [.ed] = true) (h : Leads ps s0 s) : Leads ps s0 (State.setDraft s d) := by
  unfold State.setDraft
  repeat' first
    | with_reducible (first
        | assumption | (apply Or.inr; rfl) | rfl)
    | ((with_reducible apply covers_trans hp); decide) | ((with_reducible apply covers_trans hp); (casesm* Carrier <;> decide))
    | ((with_reducible apply covers_trans hp); exact rfl) | ((with_reducible apply covers_trans hp); (casesm* Carrier <;> exact rfl))
    | ((with_reducible (apply Or.inl; apply within_of_covers; apply covers_trans hp)); decide) | dsimp only
    | with_reducible apply Leads.upd | rfl

theorem State.projected_leads (s : State) (p : Edition → Bool)
    (hp : covers ps [.legend, .blobs] = true) (h : Leads ps s0 s) : Leads ps s0 (State.projected s p) := by
  unfold State.projected
  repeat' first
    | with_reducible (first
        | intro _ | assumption | apply State.putElems_leads | apply foldl_leads)
    | ((with_reducible apply covers_trans hp); decide) | ((with_reducible apply covers_trans hp); (casesm* Carrier <;> decide))
    | ((with_reducible apply covers_trans hp); exact rfl) | ((with_reducible apply covers_trans hp); (casesm* Carrier <;> exact rfl))
    | rfl

theorem State.validateDraft_leads (s : State) (src : Nat)
    (hp : covers ps [.entry 0x02 0x018, .entry 0x02 0x019, .entry 0x02 0x01A, .ed, .ev, .fb] = true) (h : Leads ps s0 s) : Leads ps s0 (State.validateDraft s src).1 := by
  unfold State.validateDraft
  repeat' first
    | with_reducible (first
        | assumption | apply State.recordRules_leads | apply State.setDraft_leads | apply State.raise_leads
        | apply State.rejectDraft_leads | apply ite_fst_leads)
    | ((with_reducible apply covers_trans hp); decide) | ((with_reducible apply covers_trans hp); (casesm* Carrier <;> decide))
    | ((with_reducible apply covers_trans hp); exact rfl) | ((with_reducible apply covers_trans hp); (casesm* Carrier <;> exact rfl))
    | dsimp only | split | rfl

theorem execDraftValidate_leads (src : Nat) (s : State) :
    Out.leads [.entry 0x02 0x018, .entry 0x02 0x019, .entry 0x02 0x01A, .ed, .ev, .fb, .pw, .ports, .entry 0x08 0x030] s (execDraftValidate src s) := by
  refine out_intro fun hp h => ?_
  unfold execDraftValidate
  refine ⟨_, rfl, ?_⟩
  all_goals repeat' first
    | with_reducible (first
        | intro _ | assumption | apply State.validateDraft_leads | apply State.request_leads)
    | ((with_reducible apply covers_trans hp); decide) | ((with_reducible apply covers_trans hp); (casesm* Carrier <;> decide))
    | ((with_reducible apply covers_trans hp); exact rfl) | ((with_reducible apply covers_trans hp); (casesm* Carrier <;> exact rfl))
    | rfl

theorem State.announce_leads (s : State) (e : Edition) (c : Carrier)
    (hp : covers ps [.car c] = true) (h : Leads ps s0 s) : Leads ps s0 (State.announce s e c) := by
  unfold State.announce
  repeat' first
    | with_reducible (first
        | assumption | apply ite_leads | apply State.modTx_leads)
    | ((with_reducible apply covers_trans hp); decide) | ((with_reducible apply covers_trans hp); (casesm* Carrier <;> decide))
    | ((with_reducible apply covers_trans hp); exact rfl) | ((with_reducible apply covers_trans hp); (casesm* Carrier <;> exact rfl))
    | rfl

theorem State.armEdition_leads (s : State) (e : Edition)
    (hp : covers ps [.ed, .entry 0x02 0x018, .entry 0x02 0x019, .entry 0x02 0x01A, .blobs, .entry 0x50 0x050, .ev, .fb, .carA, .carB, .entry 0x21 0x014, .entry 0x21 0x001, .entry 0x31 0x014, .entry 0x31 0x001] = true) (h : Leads ps s0 s) : Leads ps s0 (State.armEdition s e) := by
  unfold State.armEdition
  repeat' first
    | with_reducible (first
        | assumption | apply State.recordRules_leads | apply State.dropDraft_leads | apply State.raise_leads
        | apply State.announce_leads | apply State.prepareSheet_leads | (apply Or.inr; rfl) | rfl)
    | ((with_reducible apply covers_trans hp); decide) | ((with_reducible apply covers_trans hp); (casesm* Carrier <;> decide))
    | ((with_reducible apply covers_trans hp); exact rfl) | ((with_reducible apply covers_trans hp); (casesm* Carrier <;> exact rfl))
    | ((with_reducible (apply Or.inl; apply within_of_covers; apply covers_trans hp)); decide) | dsimp only
    | with_reducible apply Leads.upd | rfl

theorem State.armDraft_leads (s : State) (src : Nat) (group : Nat)
    (hp : covers ps [.entry 0x02 0x018, .entry 0x02 0x019, .entry 0x02 0x01A, .ed, .blobs, .entry 0x50 0x050, .ev, .fb, .carA, .carB, .entry 0x21 0x014, .entry 0x21 0x001, .entry 0x31 0x014, .entry 0x31 0x001] = true) (h : Leads ps s0 s) : Leads ps s0 (State.armDraft s src group).1 := by
  unfold State.armDraft
  repeat' first
    | with_reducible (first
        | assumption | apply wr_leads | apply State.addHist_leads | apply State.armEdition_leads | apply State.rejectDraft_leads
        | apply ite_fst_leads)
    | ((with_reducible apply covers_trans hp); decide) | ((with_reducible apply covers_trans hp); (casesm* Carrier <;> decide))
    | ((with_reducible apply covers_trans hp); exact rfl) | ((with_reducible apply covers_trans hp); (casesm* Carrier <;> exact rfl))
    | dsimp only | split | rfl

theorem execDraftArm_leads (src : Nat) (s : State) :
    Out.leads [.entry 0x02 0x018, .entry 0x02 0x019, .entry 0x02 0x01A, .ed, .blobs, .entry 0x50 0x050, .ev, .fb, .carA, .carB, .entry 0x21 0x014, .entry 0x21 0x001, .entry 0x31 0x014, .entry 0x31 0x001, .pw, .ports, .entry 0x08 0x030] s (execDraftArm src s) := by
  refine out_intro fun hp h => ?_
  unfold execDraftArm
  refine ⟨_, rfl, ?_⟩
  all_goals repeat' first
    | with_reducible (first
        | intro _ | assumption | apply State.armDraft_leads | apply State.request_leads)
    | ((with_reducible apply covers_trans hp); decide) | ((with_reducible apply covers_trans hp); (casesm* Carrier <;> decide))
    | ((with_reducible apply covers_trans hp); exact rfl) | ((with_reducible apply covers_trans hp); (casesm* Carrier <;> exact rfl))
    | rfl

theorem State.disarmCmd_leads (s : State) (src : Nat) (id : Nat)
    (hp : covers ps [.ed, .carA, .carB, .ev, .fb] = true) (h : Leads ps s0 s) : Leads ps s0 (State.disarmCmd s src id).1 := by
  unfold State.disarmCmd
  repeat' first
    | with_reducible (first
        | assumption | apply State.disarm_leads | apply ite_fst_leads)
    | ((with_reducible apply covers_trans hp); decide) | ((with_reducible apply covers_trans hp); (casesm* Carrier <;> decide))
    | ((with_reducible apply covers_trans hp); exact rfl) | ((with_reducible apply covers_trans hp); (casesm* Carrier <;> exact rfl))
    | split | rfl

theorem execDisarm_leads (src : Nat) (id : Int) (s : State) :
    Out.leads [.ed, .carA, .carB, .ev, .fb, .pw, .ports, .entry 0x08 0x030] s (execDisarm src id s) := by
  refine out_intro fun hp h => ?_
  unfold execDisarm
  refine ⟨_, rfl, ?_⟩
  all_goals repeat' first
    | with_reducible (first
        | intro _ | assumption | apply State.disarmCmd_leads | apply State.request_leads)
    | ((with_reducible apply covers_trans hp); decide) | ((with_reducible apply covers_trans hp); (casesm* Carrier <;> decide))
    | ((with_reducible apply covers_trans hp); exact rfl) | ((with_reducible apply covers_trans hp); (casesm* Carrier <;> exact rfl))
    | rfl

theorem State.appliedRate_leads (s : State) (old : State) (ks : List Key) (c : Carrier)
    (hp : covers ps [.entry (0x20 + c.off) 0x054, .ev, .fb, .carA, .carB, .entry 0x20 0x054, .entry 0x30 0x054] = true) (h : Leads ps s0 s) : Leads ps s0 (State.appliedRate s old ks c) := by
  unfold State.appliedRate
  repeat' first
    | with_reducible (first
        | assumption | apply ite_leads | apply State.modTx_leads | apply State.evalXpm_leads)
    | ((with_reducible apply covers_trans hp); decide) | ((with_reducible apply covers_trans hp); (casesm* Carrier <;> decide))
    | ((with_reducible apply covers_trans hp); exact rfl) | ((with_reducible apply covers_trans hp); (casesm* Carrier <;> exact rfl))
    | rfl

theorem State.appliedNlc_leads (s : State) (ks : List Key) (c : Carrier)
    (hp : covers ps [.car c] = true) (h : Leads ps s0 s) : Leads ps s0 (State.appliedNlc s ks c) := by
  unfold State.appliedNlc
  repeat' first
    | with_reducible (first
        | assumption | apply ite_leads | apply State.modTx_leads)
    | ((with_reducible apply covers_trans hp); decide) | ((with_reducible apply covers_trans hp); (casesm* Carrier <;> decide))
    | ((with_reducible apply covers_trans hp); exact rfl) | ((with_reducible apply covers_trans hp); (casesm* Carrier <;> exact rfl))
    | rfl

theorem State.appliedCarrier_leads (s : State) (old : State) (e : Edition) (c : Carrier)
    (hp : covers ps [.entry (0x23 + c.off) 0x012, .ev, .fb, .entry 0x11 0x030, .entry (0x21 + c.off) 0x018, .entry (0x21 + c.off) 0x014, .entry (0x21 + c.off) 0x001, .entry (0x21 + c.off) 0x017, .entry (0x20 + c.off) 0x054, .carA, .carB, .entry 0x20 0x054, .entry 0x30 0x054] = true) (h : Leads ps s0 s) : Leads ps s0 (State.appliedCarrier s old e c) := by
  unfold State.appliedCarrier
  repeat' first
    | with_reducible (first
        | assumption | apply ite_leads | apply wr_leads | apply State.loadSwitch_leads | apply State.toFallback_leads
        | apply State.swapRequest_leads | apply State.appliedRate_leads | apply State.modTx_leads | apply State.appliedNlc_leads
        | apply State.evalShortfall_leads)
    | ((with_reducible apply covers_trans hp); decide) | ((with_reducible apply covers_trans hp); (casesm* Carrier <;> decide))
    | ((with_reducible apply covers_trans hp); exact rfl) | ((with_reducible apply covers_trans hp); (casesm* Carrier <;> exact rfl))
    | rfl

theorem State.applyValues_leads (s : State) (e : Edition)
    (hp : covers ps [.legend, .blobs, .carA, .ev, .fb, .carB, .host, .ed] = true) (h : Leads ps s0 s) : Leads ps s0 (State.applyValues s e) := by
  unfold State.applyValues
  repeat' first
    | with_reducible (first
        | intro _ | assumption | apply ite_leads | apply State.putElems_leads | apply State.appliedCarrier_leads
        | apply State.hostApplied_leads | apply State.fbDescChanged_leads | apply wr_leads | apply State.raise_leads
        | apply State.journal_leads | apply State.addHist_leads | apply foldl_leads)
    | ((with_reducible apply covers_trans hp); decide) | ((with_reducible apply covers_trans hp); (casesm* Carrier <;> decide))
    | ((with_reducible apply covers_trans hp); exact rfl) | ((with_reducible apply covers_trans hp); (casesm* Carrier <;> exact rfl))
    | rfl

theorem State.applyRejected_leads (s : State) (e : Edition) (bad : List (Nat × Key))
    (hp : covers ps [.ed, .carA, .carB, .ev, .fb] = true) (h : Leads ps s0 s) : Leads ps s0 (State.applyRejected s e bad) := by
  unfold State.applyRejected
  repeat' first
    | with_reducible (first
        | assumption | apply ite_leads | apply State.addHist_leads | apply State.cancelPending_leads | apply State.raise_leads)
    | ((with_reducible apply covers_trans hp); decide) | ((with_reducible apply covers_trans hp); (casesm* Carrier <;> decide))
    | ((with_reducible apply covers_trans hp); exact rfl) | ((with_reducible apply covers_trans hp); (casesm* Carrier <;> exact rfl))
    | rfl

theorem State.lxAtN_leads (s : State) (e : Edition) (c : Carrier)
    (hp : covers ps [.entry (0x23 + c.off) 0x06B] = true) (h : Leads ps s0 s) : Leads ps s0 (State.lxAtN s e c) := by
  unfold State.lxAtN
  repeat' first
    | with_reducible (first
        | assumption | apply ite_leads | apply wr_leads)
    | ((with_reducible apply covers_trans hp); decide) | ((with_reducible apply covers_trans hp); (casesm* Carrier <;> decide))
    | ((with_reducible apply covers_trans hp); exact rfl) | ((with_reducible apply covers_trans hp); (casesm* Carrier <;> exact rfl))
    | rfl

theorem State.applyEdition_leads (s : State) (e : Edition)
    (hp : covers ps [.ed, .legend, .blobs, .carA, .ev, .fb, .carB, .host] = true) (h : Leads ps s0 s) : Leads ps s0 (State.applyEdition s e) := by
  unfold State.applyEdition
  repeat' first
    | with_reducible (first
        | assumption | apply ite_leads | apply State.applyValues_leads | apply State.applyRejected_leads | apply State.lxAtN_leads
        | (apply Or.inr; rfl) | rfl)
    | ((with_reducible apply covers_trans hp); decide) | ((with_reducible apply covers_trans hp); (casesm* Carrier <;> decide))
    | ((with_reducible apply covers_trans hp); exact rfl) | ((with_reducible apply covers_trans hp); (casesm* Carrier <;> exact rfl))
    | ((with_reducible (apply Or.inl; apply within_of_covers; apply covers_trans hp)); decide) | dsimp only
    | with_reducible apply Leads.upd | rfl

theorem execEditionApply_leads (s : State) :
    Out.leads [.ed, .legend, .blobs, .carA, .ev, .fb, .carB, .host] s (execEditionApply s) := by
  refine out_intro fun hp h => ?_
  unfold execEditionApply
  repeat' first | refine ⟨_, rfl, ?_⟩ | dsimp only | split
  all_goals repeat' first
    | with_reducible (first
        | assumption | apply State.applyEdition_leads)
    | ((with_reducible apply covers_trans hp); decide) | ((with_reducible apply covers_trans hp); (casesm* Carrier <;> decide))
    | ((with_reducible apply covers_trans hp); exact rfl) | ((with_reducible apply covers_trans hp); (casesm* Carrier <;> exact rfl))
    | rfl

theorem State.applyAtOff_leads (s : State) (c : Carrier)
    (hp : covers ps [.ed, .legend, .blobs, .carA, .ev, .fb, .carB, .host] = true) (h : Leads ps s0 s) : Leads ps s0 (State.applyAtOff s c) := by
  unfold State.applyAtOff
  repeat' first
    | with_reducible (first
        | intro _ | assumption | apply State.applyEdition_leads | apply foldl_leads)
    | ((with_reducible apply covers_trans hp); decide) | ((with_reducible apply covers_trans hp); (casesm* Carrier <;> decide))
    | ((with_reducible apply covers_trans hp); exact rfl) | ((with_reducible apply covers_trans hp); (casesm* Carrier <;> exact rfl))
    | rfl

theorem execGroupArmSend_leads (src : Nat) (v : Int) (s : State) :
    Out.leads [.tv, .entry 0x50 0x019, .ev, .fb, .entry 0x50 0x018, .carA, .carB, .entry 0x50 0x017, .pw, .ports, .entry 0x08 0x030] s (execGroupArmSend src v s) := by
  refine out_intro fun hp h => ?_
  unfold execGroupArmSend
  refine ⟨_, rfl, ?_⟩
  all_goals repeat' first
    | with_reducible (first
        | intro _ | assumption | apply State.originate_leads | apply State.request_leads | (apply Or.inr; rfl) | rfl)
    | ((with_reducible apply covers_trans hp); decide) | ((with_reducible apply covers_trans hp); (casesm* Carrier <;> decide))
    | ((with_reducible apply covers_trans hp); exact rfl) | ((with_reducible apply covers_trans hp); (casesm* Carrier <;> exact rfl))
    | ((with_reducible (apply Or.inl; apply within_of_covers; apply covers_trans hp)); decide) | dsimp only
    | with_reducible apply Leads.upd | rfl

theorem State.groupDisarm_leads (s : State) (g : Nat)
    (hp : covers ps [.tv, .entry 0x50 0x019, .ev, .fb, .entry 0x50 0x018, .carA, .carB, .entry 0x50 0x017] = true) (h : Leads ps s0 s) : Leads ps s0 (State.groupDisarm s g) := by
  unfold State.groupDisarm
  repeat' first
    | with_reducible (first
        | assumption | apply State.originate_leads | (apply Or.inr; rfl) | rfl)
    | ((with_reducible apply covers_trans hp); decide) | ((with_reducible apply covers_trans hp); (casesm* Carrier <;> decide))
    | ((with_reducible apply covers_trans hp); exact rfl) | ((with_reducible apply covers_trans hp); (casesm* Carrier <;> exact rfl))
    | ((with_reducible (apply Or.inl; apply within_of_covers; apply covers_trans hp)); decide) | dsimp only
    | with_reducible apply Leads.upd | rfl

theorem execGroupDisarmSend_leads (src : Nat) (v : Int) (s : State) :
    Out.leads [.tv, .entry 0x50 0x019, .ev, .fb, .entry 0x50 0x018, .carA, .carB, .entry 0x50 0x017, .pw, .ports, .entry 0x08 0x030] s (execGroupDisarmSend src v s) := by
  refine out_intro fun hp h => ?_
  unfold execGroupDisarmSend
  refine ⟨_, rfl, ?_⟩
  all_goals repeat' first
    | with_reducible (first
        | intro _ | assumption | apply State.groupDisarm_leads | apply State.request_leads)
    | ((with_reducible apply covers_trans hp); decide) | ((with_reducible apply covers_trans hp); (casesm* Carrier <;> decide))
    | ((with_reducible apply covers_trans hp); exact rfl) | ((with_reducible apply covers_trans hp); (casesm* Carrier <;> exact rfl))
    | rfl

theorem State.groupArm_leads (s : State) (d : Draft) (sender : Nat) (group : Nat) (instant : Nat)
    (hp : covers ps [.entry 0x02 0x014, .ed, .entry 0x02 0x042, .ev, .fb, .entry 0x02 0x015, .entry 0x02 0x018, .entry 0x02 0x019, .entry 0x02 0x01A, .blobs, .entry 0x50 0x050, .carA, .carB, .entry 0x21 0x014, .entry 0x21 0x001, .entry 0x31 0x014, .entry 0x31 0x001, .tv, .entry 0x50 0x019, .entry 0x50 0x018, .entry 0x50 0x017] = true) (h : Leads ps s0 s) : Leads ps s0 (State.groupArm s d sender group instant) := by
  unfold State.groupArm
  repeat' first
    | with_reducible (first
        | assumption | apply State.rwStore_leads | apply State.armDraft_leads | apply State.originate_leads)
    | ((with_reducible apply covers_trans hp); decide) | ((with_reducible apply covers_trans hp); (casesm* Carrier <;> decide))
    | ((with_reducible apply covers_trans hp); exact rfl) | ((with_reducible apply covers_trans hp); (casesm* Carrier <;> exact rfl))
    | rfl

theorem execGroupArmRx_leads (s : State) :
    Out.leads [.entry 0x02 0x014, .ed, .entry 0x02 0x042, .ev, .fb, .entry 0x02 0x015, .entry 0x02 0x018, .entry 0x02 0x019, .entry 0x02 0x01A, .blobs, .entry 0x50 0x050, .carA, .carB, .entry 0x21 0x014, .entry 0x21 0x001, .entry 0x31 0x014, .entry 0x31 0x001, .tv, .entry 0x50 0x019, .entry 0x50 0x018, .entry 0x50 0x017] s (execGroupArmRx s) := by
  refine out_intro fun hp h => ?_
  unfold execGroupArmRx
  repeat' first | refine ⟨_, rfl, ?_⟩ | dsimp only | split
  all_goals repeat' first
    | with_reducible (first
        | intro _ | assumption | apply ite_leads | apply State.groupArm_leads | apply State.serve_leads)
    | ((with_reducible apply covers_trans hp); decide) | ((with_reducible apply covers_trans hp); (casesm* Carrier <;> decide))
    | ((with_reducible apply covers_trans hp); exact rfl) | ((with_reducible apply covers_trans hp); (casesm* Carrier <;> exact rfl))
    | split | rfl

theorem execGroupDisarmRx_leads (s : State) :
    Out.leads [.ed, .carA, .carB, .ev, .fb, .tv] s (execGroupDisarmRx s) := by
  refine out_intro fun hp h => ?_
  unfold execGroupDisarmRx
  refine ⟨_, rfl, ?_⟩
  all_goals repeat' first
    | with_reducible (first
        | intro _ | assumption | apply State.disarm_leads | apply State.serve_leads | apply foldl_leads)
    | ((with_reducible apply covers_trans hp); decide) | ((with_reducible apply covers_trans hp); (casesm* Carrier <;> decide))
    | ((with_reducible apply covers_trans hp); exact rfl) | ((with_reducible apply covers_trans hp); (casesm* Carrier <;> exact rfl))
    | rfl

theorem execGroupResultRx_leads (s : State) :
    Out.leads [.entry 0x50 0x053, .tv, .entry 0x50 0x019, .ev, .fb, .entry 0x50 0x018, .carA, .carB, .entry 0x50 0x017] s (execGroupResultRx s) := by
  refine out_intro fun hp h => ?_
  unfold execGroupResultRx
  refine ⟨_, rfl, ?_⟩
  all_goals repeat' first
    | with_reducible (first
        | intro _ | assumption | apply ite_leads | apply wr_leads | apply State.groupDisarm_leads | apply State.serve_leads)
    | ((with_reducible apply covers_trans hp); decide) | ((with_reducible apply covers_trans hp); (casesm* Carrier <;> decide))
    | ((with_reducible apply covers_trans hp); exact rfl) | ((with_reducible apply covers_trans hp); (casesm* Carrier <;> exact rfl))
    | rfl

end Sys2Proof.Machine
end

