-- ==== Sys2Proof/Laws/FrameExchange.lean ====
section
/-! SUPPORT. Frames of the operations and meanings of Machine/Exchange.lean. -/

namespace Sys2Proof.Machine

variable {ps : List Part} {s0 : State}

theorem State.sendLx_leads (s : State) (c : Carrier) (bytes : List Byte)
    (hp : covers ps [.tv, .entry 0x50 0x019, .ev, .fb, .entry 0x50 0x018, .carA, .carB, .entry 0x50 0x017] = true) (h : Leads ps s0 s) : Leads ps s0 (State.sendLx s c bytes) := by
  unfold State.sendLx
  repeat' first
    | with_reducible (first
        | assumption | apply State.originate_leads)
    | ((with_reducible apply covers_trans hp); decide) | ((with_reducible apply covers_trans hp); (casesm* Carrier <;> decide))
    | ((with_reducible apply covers_trans hp); exact rfl) | ((with_reducible apply covers_trans hp); (casesm* Carrier <;> exact rfl))
    | rfl

theorem State.serveLx_leads (s : State) (type : Nat) (f : Nat → List Byte → State → State)
    (hf2 : ∀ a0 a1 a2, Leads ps s0 a2 → Leads ps s0 (f a0 a1 a2))
    (hp : covers ps [.cores] = true) (h : Leads ps s0 s) : Leads ps s0 (State.serveLx s type f) := by
  unfold State.serveLx
  repeat' first
    | with_reducible (first
        | assumption | apply ite_leads | apply hf2 | (apply Or.inr; rfl) | rfl)
    | ((with_reducible apply covers_trans hp); decide) | ((with_reducible apply covers_trans hp); (casesm* Carrier <;> decide))
    | ((with_reducible apply covers_trans hp); exact rfl) | ((with_reducible apply covers_trans hp); (casesm* Carrier <;> exact rfl))
    | ((with_reducible (apply Or.inl; apply within_of_covers; apply covers_trans hp)); decide) | dsimp only | split
    | with_reducible apply Leads.upd | rfl

theorem State.lxEnd_leads (s : State) (c : Carrier) (result : Int)
    (hp : covers ps [.entry (0x23 + c.off) 0x06B, .entry (0x23 + c.off) 0x06C, .car c] = true) (h : Leads ps s0 s) : Leads ps s0 (State.lxEnd s c result) := by
  unfold State.lxEnd
  repeat' first
    | with_reducible (first
        | assumption | apply wr_leads | apply State.modLx_leads)
    | ((with_reducible apply covers_trans hp); decide) | ((with_reducible apply covers_trans hp); (casesm* Carrier <;> decide))
    | ((with_reducible apply covers_trans hp); exact rfl) | ((with_reducible apply covers_trans hp); (casesm* Carrier <;> exact rfl))
    | rfl

theorem State.lxTry_leads (s : State) (c : Carrier)
    (hp : covers ps [.ed, .ev, .fb, .entry 0x02 0x018, .entry 0x02 0x019, .entry 0x02 0x01A, .blobs, .entry 0x50 0x050, .entry (0x23 + c.off) 0x06B, .entry (0x23 + c.off) 0x06C, .freeCtr, .tv, .entry 0x50 0x019, .entry 0x50 0x018, .carA, .carB, .entry 0x50 0x017] = true) (h : Leads ps s0 s) : Leads ps s0 (State.lxTry s c) := by
  unfold State.lxTry
  repeat' first
    | with_reducible (first
        | intro _ | assumption | apply ite_leads | apply State.openDraft_leads | apply State.modLx_leads | apply draftEffect_leads
        | apply State.validateDraft_leads | apply State.endDraft_leads | apply State.lxEnd_leads | apply State.tookFree_leads
        | apply wr_leads | apply State.sendLx_leads | apply foldl_leads)
    | ((with_reducible apply covers_trans hp); decide) | ((with_reducible apply covers_trans hp); (casesm* Carrier <;> decide))
    | ((with_reducible apply covers_trans hp); exact rfl) | ((with_reducible apply covers_trans hp); (casesm* Carrier <;> exact rfl))
    | rfl

theorem State.lxPump_leads (s : State)
    (hp : covers ps [.ed, .ev, .fb, .carA, .carB, .entry 0x02 0x018, .entry 0x02 0x019, .entry 0x02 0x01A, .blobs, .entry 0x50 0x050, .entry 0x23 0x06B, .entry 0x33 0x06B, .entry 0x23 0x06C, .entry 0x33 0x06C, .freeCtr, .tv, .entry 0x50 0x019, .entry 0x50 0x018, .entry 0x50 0x017] = true) (h : Leads ps s0 s) : Leads ps s0 (State.lxPump s) := by
  unfold State.lxPump
  repeat' first
    | with_reducible (first
        | assumption | apply ite_leads | apply State.lxTry_leads)
    | ((with_reducible apply covers_trans hp); decide) | ((with_reducible apply covers_trans hp); (casesm* Carrier <;> decide))
    | ((with_reducible apply covers_trans hp); exact rfl) | ((with_reducible apply covers_trans hp); (casesm* Carrier <;> exact rfl))
    | split | rfl

theorem State.lxRequest_leads (s : State) (c : Carrier) (r : LxReq)
    (hp : covers ps [.ed, .ev, .fb, .carA, .carB, .entry 0x02 0x018, .entry 0x02 0x019, .entry 0x02 0x01A, .blobs, .entry 0x50 0x050, .entry 0x23 0x06B, .entry 0x33 0x06B, .entry 0x23 0x06C, .entry 0x33 0x06C, .freeCtr, .tv, .entry 0x50 0x019, .entry 0x50 0x018, .entry 0x50 0x017, .entry (0x23 + c.off) 0x06B] = true) (h : Leads ps s0 s) : Leads ps s0 (State.lxRequest s c r) := by
  unfold State.lxRequest
  repeat' first
    | with_reducible (first
        | assumption | apply ite_leads | apply State.modLx_leads | apply State.lxPump_leads | apply State.sendLx_leads
        | apply State.lxDiscard_leads | apply wr_leads)
    | ((with_reducible apply covers_trans hp); decide) | ((with_reducible apply covers_trans hp); (casesm* Carrier <;> decide))
    | ((with_reducible apply covers_trans hp); exact rfl) | ((with_reducible apply covers_trans hp); (casesm* Carrier <;> exact rfl))
    | rfl

theorem State.lxFallBack_leads (s : State) (c : Carrier)
    (hp : covers ps [.car c, .entry (0x23 + c.off) 0x018, .ev, .fb] = true) (h : Leads ps s0 s) : Leads ps s0 (State.lxFallBack s c) :=
  State.switchTo_leads s c _ _ hp h

theorem execLxAckRx_leads (s : State) :
    Out.leads [.carA, .carB, .ed, .blobs, .entry 0x50 0x050, .ev, .fb, .entry 0x23 0x06B, .entry 0x33 0x06B, .entry 0x23 0x06C, .entry 0x33 0x06C, .entry 0x02 0x018, .entry 0x02 0x019, .entry 0x02 0x01A, .freeCtr, .tv, .entry 0x50 0x019, .entry 0x50 0x018, .entry 0x50 0x017, .entry 0x02 0x014, .entry 0x02 0x042, .entry 0x02 0x016, .entry 0x21 0x014, .entry 0x21 0x001, .entry 0x31 0x014, .entry 0x31 0x001, .cores] s (execLxAckRx s) := by
  refine out_intro fun hp h => ?_
  unfold execLxAckRx
  refine ⟨_, rfl, ?_⟩
  all_goals repeat' first
    | with_reducible (first
        | intro _ | assumption | apply ite_leads | apply State.modLx_leads | apply State.lxDiscard_leads | apply wr_leads
        | apply State.lxEnd_leads | apply State.lxPump_leads | apply State.rwStore_leads | apply State.armDraft_leads
        | apply State.sendLx_leads | apply State.serveLx_leads)
    | ((with_reducible apply covers_trans hp); decide) | ((with_reducible apply covers_trans hp); (casesm* Carrier <;> decide))
    | ((with_reducible apply covers_trans hp); exact rfl) | ((with_reducible apply covers_trans hp); (casesm* Carrier <;> exact rfl))
    | ((with_reducible apply covers_trans hp); (generalize carrierOf _ = c; cases c <;> first | decide | rfl)) | rfl

theorem execLxNackRx_leads (s : State) :
    Out.leads [.ed, .blobs, .entry 0x50 0x050, .ev, .fb, .entry 0x23 0x06D, .entry 0x33 0x06D, .carA, .carB, .entry 0x23 0x06B, .entry 0x33 0x06B, .entry 0x23 0x06C, .entry 0x33 0x06C, .entry 0x02 0x018, .entry 0x02 0x019, .entry 0x02 0x01A, .freeCtr, .tv, .entry 0x50 0x019, .entry 0x50 0x018, .entry 0x50 0x017, .cores] s (execLxNackRx s) := by
  refine out_intro fun hp h => ?_
  unfold execLxNackRx
  refine ⟨_, rfl, ?_⟩
  all_goals repeat' first
    | with_reducible (first
        | intro _ | assumption | apply ite_leads | apply State.lxDiscard_leads | apply wr_leads | apply State.raise_leads
        | apply State.modLx_leads | apply State.lxEnd_leads | apply State.lxPump_leads | apply State.serveLx_leads)
    | ((with_reducible apply covers_trans hp); decide) | ((with_reducible apply covers_trans hp); (casesm* Carrier <;> decide))
    | ((with_reducible apply covers_trans hp); exact rfl) | ((with_reducible apply covers_trans hp); (casesm* Carrier <;> exact rfl))
    | ((with_reducible apply covers_trans hp); (generalize carrierOf _ = c; cases c <;> first | decide | rfl)) | rfl

theorem execLxCommitRx_leads (s : State) :
    Out.leads [.carA, .carB, .entry 0x23 0x06B, .entry 0x33 0x06B, .entry 0x23 0x06C, .entry 0x33 0x06C, .ed, .ev, .fb, .entry 0x02 0x018, .entry 0x02 0x019, .entry 0x02 0x01A, .blobs, .entry 0x50 0x050, .freeCtr, .tv, .entry 0x50 0x019, .entry 0x50 0x018, .entry 0x50 0x017, .entry 0x23 0x018, .entry 0x33 0x018, .cores] s (execLxCommitRx s) := by
  refine out_intro fun hp h => ?_
  unfold execLxCommitRx
  refine ⟨_, rfl, ?_⟩
  all_goals repeat' first
    | with_reducible (first
        | intro _ | assumption | apply ite_leads | apply State.modLx_leads | apply State.lxEnd_leads | apply State.lxPump_leads
        | apply State.lxFallBack_leads | apply State.serveLx_leads)
    | ((with_reducible apply covers_trans hp); decide) | ((with_reducible apply covers_trans hp); (casesm* Carrier <;> decide))
    | ((with_reducible apply covers_trans hp); exact rfl) | ((with_reducible apply covers_trans hp); (casesm* Carrier <;> exact rfl))
    | ((with_reducible apply covers_trans hp); (generalize carrierOf _ = c; cases c <;> first | decide | rfl)) | rfl

theorem execLxAckTimeout_leads (c : Carrier) (s : State) :
    Out.leads [.ed, .blobs, .entry 0x50 0x050, .ev, .fb, .entry (0x23 + c.off) 0x06B, .entry (0x23 + c.off) 0x06C, .carA, .carB, .entry 0x02 0x018, .entry 0x02 0x019, .entry 0x02 0x01A, .entry 0x23 0x06B, .entry 0x33 0x06B, .entry 0x23 0x06C, .entry 0x33 0x06C, .freeCtr, .tv, .entry 0x50 0x019, .entry 0x50 0x018, .entry 0x50 0x017] s (execLxAckTimeout c s) := by
  refine out_intro fun hp h => ?_
  unfold execLxAckTimeout
  refine ⟨_, rfl, ?_⟩
  all_goals repeat' first
    | with_reducible (first
        | intro _ | assumption | apply State.lxDiscard_leads | apply State.lxEnd_leads | apply State.lxPump_leads | apply when_leads)
    | ((with_reducible apply covers_trans hp); decide) | ((with_reducible apply covers_trans hp); (casesm* Carrier <;> decide))
    | ((with_reducible apply covers_trans hp); exact rfl) | ((with_reducible apply covers_trans hp); (casesm* Carrier <;> exact rfl))
    | rfl

theorem execLxCommitTimeout_leads (c : Carrier) (s : State) :
    Out.leads [.entry (0x23 + c.off) 0x018, .ev, .fb, .entry (0x23 + c.off) 0x06B, .entry (0x23 + c.off) 0x06C, .ed, .carA, .carB, .entry 0x02 0x018, .entry 0x02 0x019, .entry 0x02 0x01A, .blobs, .entry 0x50 0x050, .entry 0x23 0x06B, .entry 0x33 0x06B, .entry 0x23 0x06C, .entry 0x33 0x06C, .freeCtr, .tv, .entry 0x50 0x019, .entry 0x50 0x018, .entry 0x50 0x017] s (execLxCommitTimeout c s) := by
  refine out_intro fun hp h => ?_
  unfold execLxCommitTimeout
  refine ⟨_, rfl, ?_⟩
  all_goals repeat' first
    | with_reducible (first
        | intro _ | assumption | apply State.lxFallBack_leads | apply State.lxEnd_leads | apply State.lxPump_leads | apply when_leads)
    | ((with_reducible apply covers_trans hp); decide) | ((with_reducible apply covers_trans hp); (casesm* Carrier <;> decide))
    | ((with_reducible apply covers_trans hp); exact rfl) | ((with_reducible apply covers_trans hp); (casesm* Carrier <;> exact rfl))
    | rfl

theorem execLxRetryTimer_leads (c : Carrier) (s : State) :
    Out.leads [.ed, .ev, .fb, .carA, .carB, .entry 0x02 0x018, .entry 0x02 0x019, .entry 0x02 0x01A, .blobs, .entry 0x50 0x050, .entry 0x23 0x06B, .entry 0x33 0x06B, .entry 0x23 0x06C, .entry 0x33 0x06C, .freeCtr, .tv, .entry 0x50 0x019, .entry 0x50 0x018, .entry 0x50 0x017] s (execLxRetryTimer c s) := by
  refine out_intro fun hp h => ?_
  unfold execLxRetryTimer
  refine ⟨_, rfl, ?_⟩
  all_goals repeat' first
    | with_reducible (first
        | intro _ | assumption | apply State.modLx_leads | apply State.lxPump_leads | apply when_leads)
    | ((with_reducible apply covers_trans hp); decide) | ((with_reducible apply covers_trans hp); (casesm* Carrier <;> decide))
    | ((with_reducible apply covers_trans hp); exact rfl) | ((with_reducible apply covers_trans hp); (casesm* Carrier <;> exact rfl))
    | rfl

theorem execLxDraftRetry_leads (c : Carrier) (s : State) :
    Out.leads [.ed, .ev, .fb, .carA, .carB, .entry 0x02 0x018, .entry 0x02 0x019, .entry 0x02 0x01A, .blobs, .entry 0x50 0x050, .entry 0x23 0x06B, .entry 0x33 0x06B, .entry 0x23 0x06C, .entry 0x33 0x06C, .freeCtr, .tv, .entry 0x50 0x019, .entry 0x50 0x018, .entry 0x50 0x017] s (execLxDraftRetry c s) := by
  refine out_intro fun hp h => ?_
  unfold execLxDraftRetry
  refine ⟨_, rfl, ?_⟩
  all_goals repeat' first
    | with_reducible (first
        | intro _ | assumption | apply State.lxPump_leads | apply when_leads)
    | ((with_reducible apply covers_trans hp); decide) | ((with_reducible apply covers_trans hp); (casesm* Carrier <;> decide))
    | ((with_reducible apply covers_trans hp); exact rfl) | ((with_reducible apply covers_trans hp); (casesm* Carrier <;> exact rfl))
    | rfl

theorem State.farSend_leads (s : State) (c : Carrier) (type : Nat) (seq : Nat) (tag : Nat) (rest : List Byte)
    (hp : covers ps [.tv, .entry 0x50 0x019, .ev, .fb, .entry 0x50 0x018, .carA, .carB, .entry 0x50 0x017] = true) (h : Leads ps s0 s) : Leads ps s0 (State.farSend s c type seq tag rest) := by
  unfold State.farSend
  repeat' first
    | with_reducible (first
        | assumption | apply State.sendLx_leads)
    | ((with_reducible apply covers_trans hp); decide) | ((with_reducible apply covers_trans hp); (casesm* Carrier <;> decide))
    | ((with_reducible apply covers_trans hp); exact rfl) | ((with_reducible apply covers_trans hp); (casesm* Carrier <;> exact rfl))
    | rfl

theorem State.stageFrom_leads (s : State) (c : Carrier) (p : List Byte)
    (hp : covers ps [.entry (0x23 + c.off) 0x050, .ed, .entry 0x02 0x042, .ev, .fb, .entry (0x23 + c.off) 0x051, .entry (0x23 + c.off) 0x052, .entry (0x23 + c.off) 0x05B, .tv, .entry 0x50 0x019, .entry 0x50 0x018, .carA, .carB, .entry 0x50 0x017] = true) (h : Leads ps s0 s) : Leads ps s0 (State.stageFrom s c p) := by
  unfold State.stageFrom
  repeat' first
    | with_reducible (first
        | intro _ | assumption | apply ite_leads | apply State.rwStore_leads | apply State.stage_leads | apply State.modLx_leads
        | apply State.farSend_leads | apply foldl_leads)
    | ((with_reducible apply covers_trans hp); decide) | ((with_reducible apply covers_trans hp); (casesm* Carrier <;> decide))
    | ((with_reducible apply covers_trans hp); exact rfl) | ((with_reducible apply covers_trans hp); (casesm* Carrier <;> exact rfl))
    | ((with_reducible apply covers_trans hp); ((try casesm* Carrier) <;> (repeat' split) <;> first | decide | rfl)) | rfl

theorem State.lxFarView_leads (s : State) (c : Carrier) (subs : Nat) (crc : Nat)
    (hp : covers ps [.car c] = true) (h : Leads ps s0 s) : Leads ps s0 (State.lxFarView s c subs crc) := by
  unfold State.lxFarView
  repeat' first
    | with_reducible (first
        | assumption | apply State.modLx_leads)
    | ((with_reducible apply covers_trans hp); decide) | ((with_reducible apply covers_trans hp); (casesm* Carrier <;> decide))
    | ((with_reducible apply covers_trans hp); exact rfl) | ((with_reducible apply covers_trans hp); (casesm* Carrier <;> exact rfl))
    | rfl

theorem execLxStageRx_leads (s : State) :
    Out.leads [.carA, .carB, .tv, .entry 0x50 0x019, .ev, .fb, .entry 0x50 0x018, .entry 0x50 0x017, .entry 0x23 0x050, .entry 0x33 0x050, .ed, .entry 0x02 0x042, .entry 0x23 0x051, .entry 0x33 0x051, .entry 0x23 0x052, .entry 0x33 0x052, .entry 0x23 0x05B, .entry 0x33 0x05B, .cores] s (execLxStageRx s) := by
  refine out_intro fun hp h => ?_
  unfold execLxStageRx
  repeat' first | refine ⟨_, rfl, ?_⟩ | dsimp only | split
  all_goals repeat' first
    | with_reducible (first
        | intro _ | assumption | apply ite_leads | apply State.lxFarView_leads | apply State.farSend_leads | apply State.stageFrom_leads
        | apply State.serveLx_leads)
    | ((with_reducible apply covers_trans hp); decide) | ((with_reducible apply covers_trans hp); (casesm* Carrier <;> decide))
    | ((with_reducible apply covers_trans hp); exact rfl) | ((with_reducible apply covers_trans hp); (casesm* Carrier <;> exact rfl))
    | split | rfl

theorem execLxCancelRx_leads (s : State) :
    Out.leads [.carA, .carB, .cores] s (execLxCancelRx s) := by
  refine out_intro fun hp h => ?_
  unfold execLxCancelRx
  repeat' first | refine ⟨_, rfl, ?_⟩ | dsimp only | split
  all_goals repeat' first
    | with_reducible (first
        | intro _ | assumption | apply ite_leads | apply State.modLx_leads | apply State.serveLx_leads)
    | ((with_reducible apply covers_trans hp); decide) | ((with_reducible apply covers_trans hp); (casesm* Carrier <;> decide))
    | ((with_reducible apply covers_trans hp); exact rfl) | ((with_reducible apply covers_trans hp); (casesm* Carrier <;> exact rfl))
    | split | rfl

theorem execRxLoadStaged_leads (c : Carrier) (s : State) :
    Out.leads [.entry (0x23 + c.off) 0x05B, .ev, .fb, .tv, .entry 0x50 0x019, .entry 0x50 0x018, .carA, .carB, .entry 0x50 0x017] s (execRxLoadStaged c s) := by
  refine out_intro fun hp h => ?_
  unfold execRxLoadStaged
  refine ⟨_, rfl, ?_⟩
  all_goals repeat' first
    | with_reducible (first
        | assumption | apply ite_leads | apply rxLoadStaged_leads | apply State.modLx_leads | apply State.farSend_leads)
    | ((with_reducible apply covers_trans hp); decide) | ((with_reducible apply covers_trans hp); (casesm* Carrier <;> decide))
    | ((with_reducible apply covers_trans hp); exact rfl) | ((with_reducible apply covers_trans hp); (casesm* Carrier <;> exact rfl))
    | rfl

theorem State.lxWatch_leads (t : State) (c : Carrier) (old : State)
    (hp : covers ps [.tv, .entry 0x50 0x019, .ev, .fb, .entry 0x50 0x018, .carA, .carB, .entry 0x50 0x017] = true) (h : Leads ps s0 t) : Leads ps s0 (State.lxWatch t c old) := by
  unfold State.lxWatch
  repeat' first
    | with_reducible (first
        | assumption | apply ite_leads | apply State.modLx_leads | apply State.farSend_leads)
    | ((with_reducible apply covers_trans hp); decide) | ((with_reducible apply covers_trans hp); (casesm* Carrier <;> decide))
    | ((with_reducible apply covers_trans hp); exact rfl) | ((with_reducible apply covers_trans hp); (casesm* Carrier <;> exact rfl))
    | rfl

theorem execRxFrameHeader_leads (c : Carrier) (fi : Nat) (copies : List (Nat × Nat)) (s : State) :
    Out.leads [.entry (0x21 + c.off) 0x071, .ev, .fb, .entry (0x21 + c.off) 0x072, .entry (0x21 + c.off) 0x075, .entry (0x23 + c.off) 0x057, .entry (0x23 + c.off) 0x058, .entry (0x24 + c.off) 0x020, .entry (0x24 + c.off) 0x023, .entry 0x11 0x021, .entry 0x11 0x040, .host, .entry (0x21 + c.off) 0x074, .entry (0x21 + c.off) 0x073, .entry (0x21 + c.off) 0x001, .entry (0x24 + c.off) 0x053, .entry (0x24 + c.off) 0x054, .entry (0x24 + c.off) 0x055, .entry (0x24 + c.off) 0x037, .freeCtr, .entry (0x24 + c.off) 0x021, .entry (0x24 + c.off) 0x038, .entry (0x24 + c.off) 0x050, .entry (0x24 + c.off) 0x052, .tv, .entry 0x50 0x019, .entry 0x50 0x018, .carA, .carB, .entry 0x50 0x017] s (execRxFrameHeader c fi copies s) := by
  refine out_intro fun hp h => ?_
  unfold execRxFrameHeader
  refine ⟨_, rfl, ?_⟩
  all_goals repeat' first
    | with_reducible (first
        | assumption | apply rxFrameHeader_leads | apply State.lxWatch_leads)
    | ((with_reducible apply covers_trans hp); decide) | ((with_reducible apply covers_trans hp); (casesm* Carrier <;> decide))
    | ((with_reducible apply covers_trans hp); exact rfl) | ((with_reducible apply covers_trans hp); (casesm* Carrier <;> exact rfl))
    | rfl

theorem State.sendReport_leads (s : State) (c : Carrier)
    (hp : covers ps [.freeCtr, .tv, .entry 0x50 0x019, .ev, .fb, .entry 0x50 0x018, .carA, .carB, .entry 0x50 0x017] = true) (h : Leads ps s0 s) : Leads ps s0 (State.sendReport s c) := by
  unfold State.sendReport
  repeat' first
    | with_reducible (first
        | assumption | apply State.tookFree_leads | apply State.farSend_leads)
    | ((with_reducible apply covers_trans hp); decide) | ((with_reducible apply covers_trans hp); (casesm* Carrier <;> decide))
    | ((with_reducible apply covers_trans hp); exact rfl) | ((with_reducible apply covers_trans hp); (casesm* Carrier <;> exact rfl))
    | rfl

theorem execRxSuperframeBoundary_leads (c : Carrier) (s : State) :
    Out.leads [.entry (0x21 + c.off) 0x083, .entry (0x21 + c.off) 0x001, .entry (0x24 + c.off) 0x051, .ev, .fb, .entry (0x23 + c.off) 0x001, .entry (0x23 + c.off) 0x002, .entry (0x23 + c.off) 0x003, .ed, .entry 0x02 0x042, .freeCtr, .tv, .entry 0x50 0x019, .entry 0x50 0x018, .carA, .carB, .entry 0x50 0x017] s (execRxSuperframeBoundary c s) := by
  refine out_intro fun hp h => ?_
  unfold execRxSuperframeBoundary
  refine ⟨_, rfl, ?_⟩
  all_goals repeat' first
    | with_reducible (first
        | assumption | apply ite_leads | apply rxSuperframeBoundary_leads | apply State.modLx_leads | apply State.sendReport_leads)
    | ((with_reducible apply covers_trans hp); decide) | ((with_reducible apply covers_trans hp); (casesm* Carrier <;> decide))
    | ((with_reducible apply covers_trans hp); exact rfl) | ((with_reducible apply covers_trans hp); (casesm* Carrier <;> exact rfl))
    | rfl

theorem State.reportMargin_leads (s : State) (c : Carrier)
    (hp : covers ps [.entry (0x23 + c.off) 0x065] = true) (h : Leads ps s0 s) : Leads ps s0 (State.reportMargin s c) := by
  unfold State.reportMargin
  repeat' first
    | with_reducible (first
        | assumption | apply wr_leads)
    | ((with_reducible apply covers_trans hp); decide) | ((with_reducible apply covers_trans hp); (casesm* Carrier <;> decide))
    | ((with_reducible apply covers_trans hp); exact rfl) | ((with_reducible apply covers_trans hp); (casesm* Carrier <;> exact rfl))
    | rfl

theorem State.policySet_leads (s : State) (c : Carrier)
    (hp : covers ps [.ev, .fb] = true) (h : Leads ps s0 s) : Leads ps s0 (State.policySet s c).1 := by
  unfold State.policySet
  repeat' first
    | with_reducible (first
        | assumption | apply State.raise_leads)
    | ((with_reducible apply covers_trans hp); decide) | ((with_reducible apply covers_trans hp); (casesm* Carrier <;> decide))
    | ((with_reducible apply covers_trans hp); exact rfl) | ((with_reducible apply covers_trans hp); (casesm* Carrier <;> exact rfl))
    | split | rfl

theorem State.lpStart_leads (s : State) (c : Carrier) (down : Bool)
    (hp : covers ps [.ev, .fb, .ed, .carA, .carB, .entry 0x02 0x018, .entry 0x02 0x019, .entry 0x02 0x01A, .blobs, .entry 0x50 0x050, .entry 0x23 0x06B, .entry 0x33 0x06B, .entry 0x23 0x06C, .entry 0x33 0x06C, .freeCtr, .tv, .entry 0x50 0x019, .entry 0x50 0x018, .entry 0x50 0x017, .entry (0x23 + c.off) 0x06B] = true) (h : Leads ps s0 s) : Leads ps s0 (State.lpStart s c down) := by
  unfold State.lpStart
  repeat' first
    | with_reducible (first
        | assumption | apply ite_leads | apply State.policySet_leads | apply State.lxRequest_leads)
    | ((with_reducible apply covers_trans hp); decide) | ((with_reducible apply covers_trans hp); (casesm* Carrier <;> decide))
    | ((with_reducible apply covers_trans hp); exact rfl) | ((with_reducible apply covers_trans hp); (casesm* Carrier <;> exact rfl))
    | rfl

theorem execLxReportRx_leads (s : State) :
    Out.leads [.entry 0x23 0x004, .entry 0x33 0x004, .carA, .carB, .entry 0x23 0x065, .entry 0x33 0x065, .ev, .fb, .ed, .entry 0x02 0x018, .entry 0x02 0x019, .entry 0x02 0x01A, .blobs, .entry 0x50 0x050, .entry 0x23 0x06B, .entry 0x33 0x06B, .entry 0x23 0x06C, .entry 0x33 0x06C, .freeCtr, .tv, .entry 0x50 0x019, .entry 0x50 0x018, .entry 0x50 0x017, .cores] s (execLxReportRx s) := by
  refine out_intro fun hp h => ?_
  unfold execLxReportRx
  refine ⟨_, rfl, ?_⟩
  all_goals repeat' first
    | with_reducible (first
        | intro _ | assumption | apply ite_leads | apply wr_leads | apply State.lxFarView_leads | apply State.reportMargin_leads
        | apply State.modLx_leads | apply State.lpStart_leads | apply State.serveLx_leads | apply foldl_leads)
    | ((with_reducible apply covers_trans hp); decide) | ((with_reducible apply covers_trans hp); (casesm* Carrier <;> decide))
    | ((with_reducible apply covers_trans hp); exact rfl) | ((with_reducible apply covers_trans hp); (casesm* Carrier <;> exact rfl))
    | ((with_reducible apply covers_trans hp); (generalize carrierOf _ = c; cases c <;> first | decide | rfl)) | rfl

theorem execLpPeriodTick_leads (c : Carrier) (s : State) :
    Out.leads [.freeCtr, .tv, .entry 0x50 0x019, .ev, .fb, .entry 0x50 0x018, .carA, .carB, .entry 0x50 0x017, .entry (0x23 + c.off) 0x065, .ed, .entry 0x02 0x018, .entry 0x02 0x019, .entry 0x02 0x01A, .blobs, .entry 0x50 0x050, .entry 0x23 0x06B, .entry 0x33 0x06B, .entry 0x23 0x06C, .entry 0x33 0x06C, .entry (0x23 + c.off) 0x06B] s (execLpPeriodTick c s) := by
  refine out_intro fun hp h => ?_
  unfold execLpPeriodTick
  refine ⟨_, rfl, ?_⟩
  all_goals repeat' first
    | with_reducible (first
        | intro _ | assumption | apply ite_leads | apply State.sendReport_leads | apply State.reportMargin_leads
        | apply State.policySet_leads | apply State.lpStart_leads | apply when_leads)
    | ((with_reducible apply covers_trans hp); decide) | ((with_reducible apply covers_trans hp); (casesm* Carrier <;> decide))
    | ((with_reducible apply covers_trans hp); exact rfl) | ((with_reducible apply covers_trans hp); (casesm* Carrier <;> exact rfl))
    | rfl

theorem execLxStart_leads (src : Nat) (c : Carrier) (s : State) :
    Out.leads [.ed, .ev, .fb, .carA, .carB, .entry 0x02 0x018, .entry 0x02 0x019, .entry 0x02 0x01A, .blobs, .entry 0x50 0x050, .entry 0x23 0x06B, .entry 0x33 0x06B, .entry 0x23 0x06C, .entry 0x33 0x06C, .freeCtr, .tv, .entry 0x50 0x019, .entry 0x50 0x018, .entry 0x50 0x017, .entry (0x23 + c.off) 0x06B, .pw, .ports, .entry 0x08 0x030] s (execLxStart src c s) := by
  refine out_intro fun hp h => ?_
  unfold execLxStart
  refine ⟨_, rfl, ?_⟩
  all_goals repeat' first
    | with_reducible (first
        | intro _ | assumption | apply State.lxRequest_leads | apply State.request_leads | apply ite_fst_leads)
    | ((with_reducible apply covers_trans hp); decide) | ((with_reducible apply covers_trans hp); (casesm* Carrier <;> decide))
    | ((with_reducible apply covers_trans hp); exact rfl) | ((with_reducible apply covers_trans hp); (casesm* Carrier <;> exact rfl))
    | rfl

theorem execCapLimitRx_leads (s : State) :
    Out.leads [.carA, .carB, .ed, .ev, .fb, .entry 0x02 0x018, .entry 0x02 0x019, .entry 0x02 0x01A, .blobs, .entry 0x50 0x050, .entry 0x23 0x06B, .entry 0x33 0x06B, .entry 0x23 0x06C, .entry 0x33 0x06C, .freeCtr, .tv, .entry 0x50 0x019, .entry 0x50 0x018, .entry 0x50 0x017, .cores] s (execCapLimitRx s) := by
  refine out_intro fun hp h => ?_
  unfold execCapLimitRx
  refine ⟨_, rfl, ?_⟩
  all_goals repeat' first
    | with_reducible (first
        | intro _ | assumption | apply ite_leads | apply State.modLx_leads | apply State.lxRequest_leads | apply State.serveLx_leads)
    | ((with_reducible apply covers_trans hp); decide) | ((with_reducible apply covers_trans hp); (casesm* Carrier <;> decide))
    | ((with_reducible apply covers_trans hp); exact rfl) | ((with_reducible apply covers_trans hp); (casesm* Carrier <;> exact rfl))
    | ((with_reducible apply covers_trans hp); (generalize carrierOf _ = c; cases c <;> first | decide | rfl)) | rfl

end Sys2Proof.Machine
end

