-- ==== Sys2Proof/Laws/FrameCarriers.lean ====
section
/-! SUPPORT. Frames of the operations and meanings of Machine/Carriers.lean. -/

namespace Sys2Proof.Machine

variable {ps : List Part} {s0 : State}

theorem execCarTargetWrite_leads (src : Nat) (c : Carrier) (v : Int) (s : State) :
    Out.leads [.entry (0x20 + c.off) 0x001, .ed, .entry 0x02 0x042, .ev, .fb, .clk, .entry 0x40 0x002, .entry (0x20 + c.off) 0x013, .entry (0x21 + c.off) 0x000, .entry 0x11 0x030, .entry 0x40 0x011, .entry 0x40 0x013, .entry 0x40 0x017, .entry (0x20 + c.off) 0x000, .entry 0x11 0x021, .entry 0x11 0x040, .host, .carA, .carB, .entry 0x20 0x054, .entry 0x30 0x054, .blobs, .entry (0x21 + c.off) 0x001, .entry (0x21 + c.off) 0x031, .entry (0x21 + c.off) 0x032, .entry (0x22 + c.off) 0x001, .entry (0x21 + c.off) 0x062, .entry (0x21 + c.off) 0x064, .entry (0x20 + c.off) 0x036, .entry (0x21 + c.off) 0x01C, .entry (0x21 + c.off) 0x01E, .entry (0x24 + c.off) 0x020, .entry (0x24 + c.off) 0x023, .pw, .ports, .entry 0x08 0x030] s (execCarTargetWrite src c v s) := by
  refine out_intro fun hp h => ?_
  unfold execCarTargetWrite
  refine ⟨_, rfl, ?_⟩
  all_goals repeat' first
    | with_reducible (first
        | intro _ | assumption | apply rwEffect_leads | apply State.carrierMove_leads | apply State.request_leads)
    | ((with_reducible apply covers_trans hp); decide) | ((with_reducible apply covers_trans hp); (casesm* Carrier <;> decide))
    | ((with_reducible apply covers_trans hp); exact rfl) | ((with_reducible apply covers_trans hp); (casesm* Carrier <;> exact rfl))
    | rfl

theorem State.stopPipelines_leads (s : State) (c : Carrier)
    (hp : covers ps [.clk, .ev, .fb, .ed, .legend, .blobs, .carA, .carB, .host] = true) (h : Leads ps s0 s) : Leads ps s0 (State.stopPipelines s c) := by
  unfold State.stopPipelines
  repeat' first
    | with_reducible (first
        | assumption | apply wr_leads | apply State.modDie_leads | apply State.modTx_leads | apply State.toFallback_leads
        | apply State.abandonSearch_leads | apply State.modRx_leads | apply State.applyAtOff_leads)
    | ((with_reducible apply covers_trans hp); decide) | ((with_reducible apply covers_trans hp); (casesm* Carrier <;> decide))
    | ((with_reducible apply covers_trans hp); exact rfl) | ((with_reducible apply covers_trans hp); (casesm* Carrier <;> exact rfl))
    | rfl

theorem execCarrierStopComplete_leads (c : Carrier) (s : State) :
    Out.leads [.ev, .fb, .host, .carA, .carB, .clk, .ed, .legend, .blobs] s (execCarrierStopComplete c s) := by
  refine out_intro fun hp h => ?_
  unfold execCarrierStopComplete
  refine ⟨_, rfl, ?_⟩
  all_goals repeat' first
    | with_reducible (first
        | intro _ | assumption | apply State.setCar_leads | apply State.stopPipelines_leads | apply when_leads)
    | ((with_reducible apply covers_trans hp); decide) | ((with_reducible apply covers_trans hp); (casesm* Carrier <;> decide))
    | ((with_reducible apply covers_trans hp); exact rfl) | ((with_reducible apply covers_trans hp); (casesm* Carrier <;> exact rfl))
    | rfl

theorem execForegroundCalDone_leads (c : Carrier) (fails : List (List Nat)) (vals : List (List Byte)) (s : State) :
    Out.leads [.boot, .ev, .fb, .blobs, .clk, .host, .carA, .carB, .ed, .legend] s (execForegroundCalDone c fails vals s) := by
  refine out_intro fun hp h => ?_
  unfold execForegroundCalDone
  refine ⟨_, rfl, ?_⟩
  all_goals repeat' first
    | with_reducible (first
        | assumption | apply ite_leads | apply foregroundCalDone_leads | apply State.stopPipelines_leads)
    | ((with_reducible apply covers_trans hp); decide) | ((with_reducible apply covers_trans hp); (casesm* Carrier <;> decide))
    | ((with_reducible apply covers_trans hp); exact rfl) | ((with_reducible apply covers_trans hp); (casesm* Carrier <;> exact rfl))
    | rfl

theorem execAcqLock_leads (c : Carrier) (deskews : List Int) (s : State) :
    Out.leads [.entry (0x22 + c.off) 0x033, .ev, .fb, .entry (0x22 + c.off) 0x035, .entry (0x22 + c.off) 0x001, .entry 0x11 0x021, .entry 0x11 0x040, .host, .entry (0x21 + c.off) 0x038, .entry (0x21 + c.off) 0x001, .entry (0x22 + c.off) 0x036, .entry (0x24 + c.off) 0x020, .entry (0x24 + c.off) 0x023, .entry (0x22 + c.off) 0x032, .ed, .blobs, .entry 0x50 0x050, .entry (0x23 + c.off) 0x06B, .entry (0x23 + c.off) 0x06C, .entry (0x21 + c.off) 0x062, .entry (0x21 + c.off) 0x064, .carA, .carB, .entry 0x02 0x018, .entry 0x02 0x019, .entry 0x02 0x01A, .entry 0x23 0x06B, .entry 0x33 0x06B, .entry 0x23 0x06C, .entry 0x33 0x06C, .freeCtr, .tv, .entry 0x50 0x019, .entry 0x50 0x018, .entry 0x50 0x017] s (execAcqLock c deskews s) := by
  refine out_intro fun hp h => ?_
  unfold execAcqLock
  refine ⟨_, rfl, ?_⟩
  all_goals repeat' first
    | with_reducible (first
        | intro _ | assumption | apply ite_leads | apply State.acqLock_leads | apply State.modLx_leads | apply State.lxRequest_leads
        | apply when_leads)
    | ((with_reducible apply covers_trans hp); decide) | ((with_reducible apply covers_trans hp); (casesm* Carrier <;> decide))
    | ((with_reducible apply covers_trans hp); exact rfl) | ((with_reducible apply covers_trans hp); (casesm* Carrier <;> exact rfl))
    | rfl

theorem execServiceToAcquire_leads (c : Carrier) (s : State) :
    Out.leads [.entry (0x20 + c.off) 0x000, .ev, .fb, .entry 0x11 0x021, .entry 0x11 0x040, .host, .carA, .carB, .entry 0x20 0x054, .entry 0x30 0x054, .entry 0x11 0x030, .entry (0x21 + c.off) 0x01C, .entry (0x21 + c.off) 0x01E, .ed, .entry 0x02 0x018, .entry 0x02 0x019, .entry 0x02 0x01A, .blobs, .entry 0x50 0x050, .entry 0x23 0x06B, .entry 0x33 0x06B, .entry 0x23 0x06C, .entry 0x33 0x06C, .freeCtr, .tv, .entry 0x50 0x019, .entry 0x50 0x018, .entry 0x50 0x017] s (execServiceToAcquire c s) := by
  refine out_intro fun hp h => ?_
  unfold execServiceToAcquire
  refine ⟨_, rfl, ?_⟩
  all_goals repeat' first
    | with_reducible (first
        | intro _ | assumption | apply State.serviceToAcquire_leads | apply State.lxPump_leads | apply when_leads)
    | ((with_reducible apply covers_trans hp); decide) | ((with_reducible apply covers_trans hp); (casesm* Carrier <;> decide))
    | ((with_reducible apply covers_trans hp); exact rfl) | ((with_reducible apply covers_trans hp); (casesm* Carrier <;> exact rfl))
    | rfl

theorem State.cdApply_leads (s : State) (c : Carrier) (v : Int)
    (hp : covers ps [.ed, .ev, .fb, .entry 0x02 0x018, .entry 0x02 0x019, .entry 0x02 0x01A, .entry 0x02 0x014, .entry 0x02 0x042, .blobs, .entry 0x50 0x050, .carA, .carB, .entry 0x21 0x014, .entry 0x21 0x001, .entry 0x31 0x014, .entry 0x31 0x001] = true) (h : Leads ps s0 s) : Leads ps s0 (State.cdApply s c v) := by
  unfold State.cdApply
  repeat' first
    | with_reducible (first
        | assumption | apply ite_leads | apply State.openDraft_leads | apply State.modRx_leads | apply draftEffect_leads
        | apply State.validateDraft_leads | apply State.rwStore_leads | apply State.armDraft_leads | apply State.discardDraft_leads
        | apply ite_fst_leads)
    | ((with_reducible apply covers_trans hp); decide) | ((with_reducible apply covers_trans hp); (casesm* Carrier <;> decide))
    | ((with_reducible apply covers_trans hp); exact rfl) | ((with_reducible apply covers_trans hp); (casesm* Carrier <;> exact rfl))
    | rfl

theorem State.fineSearch_leads (s : State) (c : Carrier) (centre : Int) (coarse : Nat)
    (hp : covers ps [.entry (0x21 + c.off) 0x01E, .car c] = true) (h : Leads ps s0 s) : Leads ps s0 (State.fineSearch s c centre coarse) := by
  unfold State.fineSearch
  repeat' first
    | with_reducible (first
        | assumption | apply wr_leads | apply State.modRx_leads)
    | ((with_reducible apply covers_trans hp); decide) | ((with_reducible apply covers_trans hp); (casesm* Carrier <;> decide))
    | ((with_reducible apply covers_trans hp); exact rfl) | ((with_reducible apply covers_trans hp); (casesm* Carrier <;> exact rfl))
    | rfl

theorem execCdSearchDone_leads (c : Carrier) (s : State) :
    Out.leads [.entry (0x21 + c.off) 0x01F, .entry (0x21 + c.off) 0x020, .entry (0x21 + c.off) 0x01E, .entry (0x21 + c.off) 0x01C, .ed, .ev, .fb, .entry 0x02 0x018, .entry 0x02 0x019, .entry 0x02 0x01A, .entry 0x02 0x014, .entry 0x02 0x042, .blobs, .entry 0x50 0x050, .carA, .carB, .entry 0x21 0x014, .entry 0x21 0x001, .entry 0x31 0x014, .entry 0x31 0x001] s (execCdSearchDone c s) := by
  refine out_intro fun hp h => ?_
  unfold execCdSearchDone
  repeat' first | refine ⟨_, rfl, ?_⟩ | dsimp only | split
  all_goals repeat' first
    | with_reducible (first
        | assumption | apply State.searchDone_leads | apply State.modRx_leads | apply State.startSearch_leads
        | apply State.cdApply_leads | apply State.fineSearch_leads)
    | ((with_reducible apply covers_trans hp); decide) | ((with_reducible apply covers_trans hp); (casesm* Carrier <;> decide))
    | ((with_reducible apply covers_trans hp); exact rfl) | ((with_reducible apply covers_trans hp); (casesm* Carrier <;> exact rfl))
    | rfl

theorem execSfCdDraftRetry_leads (c : Carrier) (s : State) :
    Out.leads [.ed, .ev, .fb, .entry 0x02 0x018, .entry 0x02 0x019, .entry 0x02 0x01A, .entry 0x02 0x014, .entry 0x02 0x042, .blobs, .entry 0x50 0x050, .carA, .carB, .entry 0x21 0x014, .entry 0x21 0x001, .entry 0x31 0x014, .entry 0x31 0x001] s (execSfCdDraftRetry c s) := by
  refine out_intro fun hp h => ?_
  unfold execSfCdDraftRetry
  repeat' first | refine ⟨_, rfl, ?_⟩ | dsimp only | split
  all_goals repeat' first
    | with_reducible (first
        | assumption | apply State.cdApply_leads | apply State.modRx_leads)
    | ((with_reducible apply covers_trans hp); decide) | ((with_reducible apply covers_trans hp); (casesm* Carrier <;> decide))
    | ((with_reducible apply covers_trans hp); exact rfl) | ((with_reducible apply covers_trans hp); (casesm* Carrier <;> exact rfl))
    | rfl

theorem execSfCdHuntTimeout_leads (c : Carrier) (s : State) :
    Out.leads [.entry (0x21 + c.off) 0x01C, .entry (0x21 + c.off) 0x01E, .car c] s (execSfCdHuntTimeout c s) := by
  refine out_intro fun hp h => ?_
  unfold execSfCdHuntTimeout
  refine ⟨_, rfl, ?_⟩
  all_goals repeat' first
    | with_reducible (first
        | intro _ | assumption | apply State.startSearch_leads | apply when_leads)
    | ((with_reducible apply covers_trans hp); decide) | ((with_reducible apply covers_trans hp); (casesm* Carrier <;> decide))
    | ((with_reducible apply covers_trans hp); exact rfl) | ((with_reducible apply covers_trans hp); (casesm* Carrier <;> exact rfl))
    | rfl

theorem State.sendCapLimit_leads (s : State) (c : Carrier) (limit : Nat)
    (hp : covers ps [.freeCtr, .tv, .entry 0x50 0x019, .ev, .fb, .entry 0x50 0x018, .carA, .carB, .entry 0x50 0x017] = true) (h : Leads ps s0 s) : Leads ps s0 (State.sendCapLimit s c limit) := by
  unfold State.sendCapLimit
  repeat' first
    | with_reducible (first
        | assumption | apply State.tookFree_leads | apply State.farSend_leads)
    | ((with_reducible apply covers_trans hp); decide) | ((with_reducible apply covers_trans hp); (casesm* Carrier <;> decide))
    | ((with_reducible apply covers_trans hp); exact rfl) | ((with_reducible apply covers_trans hp); (casesm* Carrier <;> exact rfl))
    | rfl

theorem State.setLimit_leads (s : State) (c : Carrier) (l : Option Nat)
    (hp : covers ps [.th, .entry 0x70 0x044] = true) (h : Leads ps s0 s) : Leads ps s0 (State.setLimit s c l) := by
  unfold State.setLimit
  repeat' first
    | with_reducible (first
        | assumption | apply wr_leads | (apply Or.inr; rfl) | rfl)
    | ((with_reducible apply covers_trans hp); decide) | ((with_reducible apply covers_trans hp); (casesm* Carrier <;> decide))
    | ((with_reducible apply covers_trans hp); exact rfl) | ((with_reducible apply covers_trans hp); (casesm* Carrier <;> exact rfl))
    | ((with_reducible (apply Or.inl; apply within_of_covers; apply covers_trans hp)); decide) | dsimp only
    | with_reducible apply Leads.upd | rfl

theorem execSfL3Dwell_leads (s : State) :
    Out.leads [.entry 0x70 0x022, .ed, .entry 0x02 0x042, .ev, .fb, .entry 0x70 0x020, .entry 0x70 0x021, .entry 0x70 0x025, .th, .entry 0x70 0x044, .freeCtr, .tv, .entry 0x50 0x019, .entry 0x50 0x018, .carA, .carB, .entry 0x50 0x017] s (execSfL3Dwell s) := by
  refine out_intro fun hp h => ?_
  unfold execSfL3Dwell
  refine ⟨_, rfl, ?_⟩
  all_goals repeat' first
    | with_reducible (first
        | intro _ | assumption | apply ite_leads | apply State.rwStore_leads | apply State.evalLevel_leads | apply State.setLimit_leads
        | apply State.sendCapLimit_leads | apply when_leads | apply foldl_leads)
    | ((with_reducible apply covers_trans hp); decide) | ((with_reducible apply covers_trans hp); (casesm* Carrier <;> decide))
    | ((with_reducible apply covers_trans hp); exact rfl) | ((with_reducible apply covers_trans hp); (casesm* Carrier <;> exact rfl))
    | rfl

theorem execSfL3Resend_leads (c : Carrier) (s : State) :
    Out.leads [.freeCtr, .tv, .entry 0x50 0x019, .ev, .fb, .entry 0x50 0x018, .carA, .carB, .entry 0x50 0x017] s (execSfL3Resend c s) := by
  refine out_intro fun hp h => ?_
  unfold execSfL3Resend
  repeat' first | refine ⟨_, rfl, ?_⟩ | dsimp only | split
  all_goals repeat' first
    | with_reducible (first
        | intro _ | assumption | apply State.sendCapLimit_leads | apply when_leads)
    | ((with_reducible apply covers_trans hp); decide) | ((with_reducible apply covers_trans hp); (casesm* Carrier <;> decide))
    | ((with_reducible apply covers_trans hp); exact rfl) | ((with_reducible apply covers_trans hp); (casesm* Carrier <;> exact rfl))
    | rfl

theorem execThL3NoResponse_leads (c : Carrier) (s : State) :
    Out.leads [.ev, .fb] s (execThL3NoResponse c s) := by
  refine out_intro fun hp h => ?_
  unfold execThL3NoResponse
  repeat' first | refine ⟨_, rfl, ?_⟩ | dsimp only | split
  all_goals repeat' first
    | with_reducible (first
        | intro _ | assumption | apply State.raise_leads | apply when_leads)
    | ((with_reducible apply covers_trans hp); decide) | ((with_reducible apply covers_trans hp); (casesm* Carrier <;> decide))
    | ((with_reducible apply covers_trans hp); exact rfl) | ((with_reducible apply covers_trans hp); (casesm* Carrier <;> exact rfl))
    | rfl

theorem execSfL3Release_leads (s : State) :
    Out.leads [.entry 0x70 0x022, .ed, .entry 0x02 0x042, .ev, .fb, .entry 0x70 0x020, .entry 0x70 0x021, .entry 0x70 0x025, .th, .entry 0x70 0x044, .freeCtr, .tv, .entry 0x50 0x019, .entry 0x50 0x018, .carA, .carB, .entry 0x50 0x017] s (execSfL3Release s) := by
  refine out_intro fun hp h => ?_
  unfold execSfL3Release
  refine ⟨_, rfl, ?_⟩
  all_goals repeat' first
    | with_reducible (first
        | intro _ | assumption | apply ite_leads | apply State.rwStore_leads | apply State.evalLevel_leads | apply State.setLimit_leads
        | apply State.sendCapLimit_leads | apply when_leads | apply foldl_leads)
    | ((with_reducible apply covers_trans hp); decide) | ((with_reducible apply covers_trans hp); (casesm* Carrier <;> decide))
    | ((with_reducible apply covers_trans hp); exact rfl) | ((with_reducible apply covers_trans hp); (casesm* Carrier <;> exact rfl))
    | rfl

theorem execFwRestartVerified_leads (s : State) :
    Out.leads [.cores, .entry 0x7A 0x004, .entry 0x7A 0x005, .entry 0x58 0x029, .entry 0x58 0x000, .ev, .fb, .carA, .carB, .integ, .freeCtr, .ed, .blobs, .entry 0x50 0x050, .entry 0x58 0x010, .entry 0x58 0x003, .entry 0x58 0x001, .entry 0x58 0x011, .entry 0x23 0x06B, .entry 0x23 0x06C, .entry 0x33 0x06B, .entry 0x33 0x06C] s (execFwRestartVerified s) := by
  refine out_intro fun hp h => ?_
  unfold execFwRestartVerified
  repeat' first | refine ⟨_, rfl, ?_⟩ | dsimp only | split
  all_goals repeat' first
    | with_reducible (first
        | intro _ | assumption | apply State.verifyDetail_leads | apply wr_leads | apply State.raise_leads | apply State.stopCore_leads
        | apply State.startCore_leads | apply State.loadBundle_leads | apply State.lxAbandon_leads | apply when_leads
        | apply foldl_leads | (apply Or.inr; rfl) | rfl)
    | ((with_reducible apply covers_trans hp); decide) | ((with_reducible apply covers_trans hp); (casesm* Carrier <;> decide))
    | ((with_reducible apply covers_trans hp); exact rfl) | ((with_reducible apply covers_trans hp); (casesm* Carrier <;> exact rfl))
    | ((with_reducible (apply Or.inl; apply within_of_covers; apply covers_trans hp)); decide) | split | with_reducible apply Leads.upd
    | rfl

end Sys2Proof.Machine
end

