-- ==== Sys2Proof/Laws/FrameReads.lean ====
section
/-! SUPPORT. Frames of the operations and meanings of Machine/Reads.lean. -/

namespace Sys2Proof.Machine

variable {ps : List Part} {s0 : State}

theorem State.eventNext_leads (s : State) (src : Nat)
    (hp : covers ps [.ev] = true) (h : Leads ps s0 s) : Leads ps s0 (State.eventNext s src).1 := by
  unfold State.eventNext
  repeat' first
    | with_reducible (first
        | assumption | (apply Or.inr; rfl) | rfl)
    | ((with_reducible apply covers_trans hp); decide) | ((with_reducible apply covers_trans hp); (casesm* Carrier <;> decide))
    | ((with_reducible apply covers_trans hp); exact rfl) | ((with_reducible apply covers_trans hp); (casesm* Carrier <;> exact rfl))
    | ((with_reducible (apply Or.inl; apply within_of_covers; apply covers_trans hp)); decide) | dsimp only | split
    | with_reducible apply Leads.upd | rfl

theorem State.dropRecord_leads (s : State) (n : Nat)
    (hp : covers ps [.ev] = true) (h : Leads ps s0 s) : Leads ps s0 (State.dropRecord s n) := by
  unfold State.dropRecord
  repeat' first
    | with_reducible (first
        | assumption | (apply Or.inr; rfl) | rfl)
    | ((with_reducible apply covers_trans hp); decide) | ((with_reducible apply covers_trans hp); (casesm* Carrier <;> decide))
    | ((with_reducible apply covers_trans hp); exact rfl) | ((with_reducible apply covers_trans hp); (casesm* Carrier <;> exact rfl))
    | ((with_reducible (apply Or.inl; apply within_of_covers; apply covers_trans hp)); decide) | dsimp only
    | with_reducible apply Leads.upd | rfl

theorem State.readBlob_leads (s : State) (src : Nat) (k : Key) (draft : Bool)
    (hp : covers ps [.ev, .hk, .fb, .tv, .entry 0x50 0x019, .entry 0x50 0x018, .carA, .carB, .entry 0x50 0x017, .entry 0x68 0x003, .freeCtr, .sec] = true) (h : Leads ps s0 s) : Leads ps s0 (State.readBlob s src k draft).1 := by
  unfold State.readBlob
  repeat' first
    | with_reducible (first
        | assumption | apply State.eventNext_leads | apply State.modMf_leads | apply State.rdLatch_leads | (apply Or.inr; rfl) | rfl)
    | ((with_reducible apply covers_trans hp); decide) | ((with_reducible apply covers_trans hp); (casesm* Carrier <;> decide))
    | ((with_reducible apply covers_trans hp); exact rfl) | ((with_reducible apply covers_trans hp); (casesm* Carrier <;> exact rfl))
    | ((with_reducible (apply Or.inl; apply within_of_covers; apply covers_trans hp)); decide) | dsimp only | split
    | with_reducible apply Leads.upd | rfl

theorem State.readChunk_leads (s : State) (src : Nat) (k : Key) (draft : Bool) (off : Nat) (len : Nat)
    (hp : covers ps [.ports, .ev, .hk, .fb, .tv, .entry 0x50 0x019, .entry 0x50 0x018, .carA, .carB, .entry 0x50 0x017, .entry 0x68 0x003, .freeCtr, .sec] = true) (h : Leads ps s0 s) : Leads ps s0 (State.readChunk s src k draft off len) := by
  unfold State.readChunk
  repeat' first
    | with_reducible (first
        | assumption | apply ite_leads | apply State.reply_leads | apply State.readBlob_leads | apply State.ack_leads
        | (apply Or.inr; rfl) | rfl)
    | ((with_reducible apply covers_trans hp); decide) | ((with_reducible apply covers_trans hp); (casesm* Carrier <;> decide))
    | ((with_reducible apply covers_trans hp); exact rfl) | ((with_reducible apply covers_trans hp); (casesm* Carrier <;> exact rfl))
    | ((with_reducible (apply Or.inl; apply within_of_covers; apply covers_trans hp)); decide) | dsimp only | split
    | with_reducible apply Leads.upd | rfl

theorem State.requestRead_leads (s : State) (src : Nat) (k : Key) (draft : Bool) (off : Nat) (len : Nat)
    (hp : covers ps [.pw, .ports, .entry 0x08 0x030, .ev, .fb, .hk, .tv, .entry 0x50 0x019, .entry 0x50 0x018, .carA, .carB, .entry 0x50 0x017, .entry 0x68 0x003, .freeCtr, .sec] = true) (h : Leads ps s0 s) : Leads ps s0 (State.requestRead s src k draft off len) := by
  unfold State.requestRead
  repeat' first
    | with_reducible (first
        | assumption | apply ite_leads | apply State.idleRestart_leads | apply State.ack_leads | apply State.countReq_leads
        | apply State.readChunk_leads | apply State.reply_leads)
    | ((with_reducible apply covers_trans hp); decide) | ((with_reducible apply covers_trans hp); (casesm* Carrier <;> decide))
    | ((with_reducible apply covers_trans hp); exact rfl) | ((with_reducible apply covers_trans hp); (casesm* Carrier <;> exact rfl))
    | dsimp only | split | rfl

theorem execBlobReadLatch_leads (src : Nat) (k : Key) (draft : Bool) (len : Nat) (s : State) :
    Out.leads [.pw, .ports, .entry 0x08 0x030, .ev, .fb, .hk, .tv, .entry 0x50 0x019, .entry 0x50 0x018, .carA, .carB, .entry 0x50 0x017, .entry 0x68 0x003, .freeCtr, .sec] s (execBlobReadLatch src k draft len s) := by
  refine out_intro fun hp h => ?_
  unfold execBlobReadLatch
  refine ⟨_, rfl, ?_⟩
  all_goals repeat' first
    | with_reducible (first
        | intro _ | assumption | apply State.requestRead_leads | apply when_leads)
    | ((with_reducible apply covers_trans hp); decide) | ((with_reducible apply covers_trans hp); (casesm* Carrier <;> decide))
    | ((with_reducible apply covers_trans hp); exact rfl) | ((with_reducible apply covers_trans hp); (casesm* Carrier <;> exact rfl))
    | rfl

theorem execEventNextRead_leads (src : Nat) (len : Nat) (bad : List (Nat × Nat)) (s : State) :
    Out.leads [.entry 0x78 0x000, .ev, .fb, .entry 0x78 0x001, .entry 0x78 0x002, .aon, .integ, .pw, .ports, .entry 0x08 0x030, .hk, .tv, .entry 0x50 0x019, .entry 0x50 0x018, .carA, .carB, .entry 0x50 0x017, .entry 0x68 0x003, .freeCtr, .sec] s (execEventNextRead src len bad s) := by
  refine out_intro fun hp h => ?_
  unfold execEventNextRead
  repeat' first | refine ⟨_, rfl, ?_⟩ | dsimp only | split
  all_goals repeat' first
    | with_reducible (first
        | intro _ | assumption | apply State.mismatch_leads | apply State.dropRecord_leads | apply State.requestRead_leads
        | apply foldl_leads)
    | ((with_reducible apply covers_trans hp); decide) | ((with_reducible apply covers_trans hp); (casesm* Carrier <;> decide))
    | ((with_reducible apply covers_trans hp); exact rfl) | ((with_reducible apply covers_trans hp); (casesm* Carrier <;> exact rfl))
    | split | rfl

theorem execOutQueueRead_leads (src : Nat) (y : Nat) (len : Nat) (s : State) :
    Out.leads [.pw, .ports, .entry 0x08 0x030, .ev, .fb, .hk, .tv, .entry 0x50 0x019, .entry 0x50 0x018, .carA, .carB, .entry 0x50 0x017, .entry 0x68 0x003, .freeCtr, .sec] s (execOutQueueRead src y len s) := by
  refine out_intro fun hp h => ?_
  unfold execOutQueueRead
  refine ⟨_, rfl, ?_⟩
  all_goals repeat' first
    | with_reducible (first
        | assumption | apply State.requestRead_leads)
    | ((with_reducible apply covers_trans hp); decide) | ((with_reducible apply covers_trans hp); (casesm* Carrier <;> decide))
    | ((with_reducible apply covers_trans hp); exact rfl) | ((with_reducible apply covers_trans hp); (casesm* Carrier <;> exact rfl))
    | rfl

theorem execRdDataRead_leads (src : Nat) (len : Nat) (s : State) :
    Out.leads [.pw, .ports, .entry 0x08 0x030, .ev, .fb, .hk, .tv, .entry 0x50 0x019, .entry 0x50 0x018, .carA, .carB, .entry 0x50 0x017, .entry 0x68 0x003, .freeCtr, .sec] s (execRdDataRead src len s) := by
  refine out_intro fun hp h => ?_
  unfold execRdDataRead
  refine ⟨_, rfl, ?_⟩
  all_goals repeat' first
    | with_reducible (first
        | assumption | apply State.requestRead_leads)
    | ((with_reducible apply covers_trans hp); decide) | ((with_reducible apply covers_trans hp); (casesm* Carrier <;> decide))
    | ((with_reducible apply covers_trans hp); exact rfl) | ((with_reducible apply covers_trans hp); (casesm* Carrier <;> exact rfl))
    | rfl

theorem execNonceRead_leads (src : Nat) (len : Nat) (s : State) :
    Out.leads [.pw, .ports, .entry 0x08 0x030, .ev, .fb, .hk, .tv, .entry 0x50 0x019, .entry 0x50 0x018, .carA, .carB, .entry 0x50 0x017, .entry 0x68 0x003, .freeCtr, .sec] s (execNonceRead src len s) := by
  refine out_intro fun hp h => ?_
  unfold execNonceRead
  refine ⟨_, rfl, ?_⟩
  all_goals repeat' first
    | with_reducible (first
        | assumption | apply State.requestRead_leads)
    | ((with_reducible apply covers_trans hp); decide) | ((with_reducible apply covers_trans hp); (casesm* Carrier <;> decide))
    | ((with_reducible apply covers_trans hp); exact rfl) | ((with_reducible apply covers_trans hp); (casesm* Carrier <;> exact rfl))
    | rfl

end Sys2Proof.Machine
end

