-- ==== Sys2Proof/Laws/FrameWrites.lean ====
section
/-! SUPPORT. Frames of the operations and meanings of Machine/Writes.lean. -/

namespace Sys2Proof.Machine

variable {ps : List Part} {s0 : State}

theorem execAlarmAck_leads (src : Nat) (s : State) :
    Out.leads [.ev, .pw, .ports, .entry 0x08 0x030, .fb] s (execAlarmAck src s) := by
  refine out_intro fun hp h => ?_
  unfold execAlarmAck
  refine ⟨_, rfl, ?_⟩
  all_goals repeat' first
    | with_reducible (first
        | intro _ | assumption | apply State.request_leads | (apply Or.inr; rfl) | rfl)
    | ((with_reducible apply covers_trans hp); decide) | ((with_reducible apply covers_trans hp); (casesm* Carrier <;> decide))
    | ((with_reducible apply covers_trans hp); exact rfl) | ((with_reducible apply covers_trans hp); (casesm* Carrier <;> exact rfl))
    | ((with_reducible (apply Or.inl; apply within_of_covers; apply covers_trans hp)); decide) | dsimp only
    | with_reducible apply Leads.upd | rfl

theorem execSnapshot_leads (src : Nat) (v : Int) (s : State) :
    Out.leads [.ev, .pw, .ports, .entry 0x08 0x030, .fb] s (execSnapshot src v s) := by
  refine out_intro fun hp h => ?_
  unfold execSnapshot
  repeat' first | refine ⟨_, rfl, ?_⟩ | dsimp only | split
  all_goals repeat' first
    | with_reducible (first
        | intro _ | assumption | apply State.request_leads | (apply Or.inr; rfl) | rfl)
    | ((with_reducible apply covers_trans hp); decide) | ((with_reducible apply covers_trans hp); (casesm* Carrier <;> decide))
    | ((with_reducible apply covers_trans hp); exact rfl) | ((with_reducible apply covers_trans hp); (casesm* Carrier <;> exact rfl))
    | ((with_reducible (apply Or.inl; apply within_of_covers; apply covers_trans hp)); decide) | dsimp only
    | with_reducible apply Leads.upd | rfl

theorem execSnapshotRelease_leads (src : Nat) (s : State) :
    Out.leads [.ev, .pw, .ports, .entry 0x08 0x030, .fb] s (execSnapshotRelease src s) := by
  refine out_intro fun hp h => ?_
  unfold execSnapshotRelease
  repeat' first | refine ⟨_, rfl, ?_⟩ | dsimp only | split
  all_goals repeat' first
    | with_reducible (first
        | intro _ | assumption | apply State.request_leads | (apply Or.inr; rfl) | rfl)
    | ((with_reducible apply covers_trans hp); decide) | ((with_reducible apply covers_trans hp); (casesm* Carrier <;> decide))
    | ((with_reducible apply covers_trans hp); exact rfl) | ((with_reducible apply covers_trans hp); (casesm* Carrier <;> exact rfl))
    | ((with_reducible (apply Or.inl; apply within_of_covers; apply covers_trans hp)); decide) | dsimp only
    | with_reducible apply Leads.upd | rfl

theorem State.zeroed_leads (s : State) (a : Nat)
    (hp : covers ps [.legend] = true) (h : Leads ps s0 s) : Leads ps s0 (State.zeroed s a) := by
  refine h.trans ⟨⟨rfl, fun p hq => ?_⟩, fun w => ⟨?_, FuseState.kept_refl _⟩⟩
  · have hl := within_of_covers hp
    cases p <;> simp only [Part.agrees, State.zeroed] <;> simp_all [Part.within]
  · rw [State.wf_parts] at *
    exact ⟨legWf_filter _ _ w.1, w.2⟩

theorem execCounterClear_leads (src : Nat) (v : Int) (s : State) :
    Out.leads [.legend, .ev, .fb, .pw, .ports] s (execCounterClear src v s) := by
  refine out_intro fun hp h => ?_
  unfold execCounterClear
  repeat' first | refine ⟨_, rfl, ?_⟩ | dsimp only | split
  all_goals repeat' first
    | with_reducible (first
        | intro _ | assumption | apply State.zeroed_leads | apply State.request_leads | (apply Or.inr; rfl) | rfl)
    | ((with_reducible apply covers_trans hp); decide) | ((with_reducible apply covers_trans hp); (casesm* Carrier <;> decide))
    | ((with_reducible apply covers_trans hp); exact rfl) | ((with_reducible apply covers_trans hp); (casesm* Carrier <;> exact rfl))
    | ((with_reducible (apply Or.inl; apply within_of_covers; apply covers_trans hp)); decide) | dsimp only
    | with_reducible apply Leads.upd | rfl

theorem State.takePort_leads (s : State) (entry : Nat)
    (hp : covers ps [.ports] = true) (h : Leads ps s0 s) : Leads ps s0 (State.takePort s entry) := by
  unfold State.takePort
  repeat' first
    | with_reducible (first
        | assumption | (apply Or.inr; rfl) | rfl)
    | ((with_reducible apply covers_trans hp); decide) | ((with_reducible apply covers_trans hp); (casesm* Carrier <;> decide))
    | ((with_reducible apply covers_trans hp); exact rfl) | ((with_reducible apply covers_trans hp); (casesm* Carrier <;> exact rfl))
    | ((with_reducible (apply Or.inl; apply within_of_covers; apply covers_trans hp)); decide) | dsimp only
    | with_reducible apply Leads.upd | rfl

theorem State.notValid_leads (s : State) (k : Key)
    (hp : covers ps [.entry k.area k.entry] = true) (h : Leads ps s0 s) : Leads ps s0 (State.notValid s k) := by
  unfold State.notValid
  repeat' first
    | with_reducible (first
        | assumption | apply wr_leads)
    | ((with_reducible apply covers_trans hp); decide) | ((with_reducible apply covers_trans hp); (casesm* Carrier <;> decide))
    | ((with_reducible apply covers_trans hp); exact rfl) | ((with_reducible apply covers_trans hp); (casesm* Carrier <;> exact rfl))
    | rfl

theorem State.rwAfter_leads (s : State) (old : State) (src : Nat) (k : Key)
    (hp : covers ps [.hk, .ports, .carA, .carB, .tv, .entry 0x50 0x006, .entry 0x50 0x021, .ev, .fb, .entry 0x60 0x013, .entry 0x60 0x026, .entry 0x71 0x00C] = true) (h : Leads ps s0 s) : Leads ps s0 (State.rwAfter s old src k) := by
  unfold State.rwAfter
  repeat' first
    | with_reducible (first
        | assumption | apply ite_leads | apply State.mfWatch_leads | apply State.takePort_leads | apply State.ibWatch_leads
        | apply State.timeSourceSet_leads | apply State.notValid_leads | apply State.avsEnableSet_leads)
    | ((with_reducible apply covers_trans hp); decide) | ((with_reducible apply covers_trans hp); (casesm* Carrier <;> decide))
    | ((with_reducible apply covers_trans hp); exact rfl) | ((with_reducible apply covers_trans hp); (casesm* Carrier <;> exact rfl))
    | ((with_reducible apply covers_trans hp); ((try casesm* Carrier) <;> (repeat' split) <;> first | decide | rfl)) | dsimp only
    | split | rfl

theorem State.rwScalar_leads (s : State) (src : Nat) (k : Key) (v : Int)
    (hp : covers ps [.entry (canonKey k).area (canonKey k).entry, .ed, .entry 0x02 0x042, .ev, .fb, .entry 0x10 0x005, .hk, .ports, .carA, .carB, .tv, .entry 0x50 0x006, .entry 0x50 0x021, .entry 0x60 0x013, .entry 0x60 0x026, .entry 0x71 0x00C] = true) (h : Leads ps s0 s) : Leads ps s0 (State.rwScalar s src k v).1 := by
  unfold State.rwScalar
  repeat' first
    | with_reducible (first
        | assumption | apply rwEffect_leads | apply State.tapWrite_leads | apply State.setCursor_leads | apply State.rwAfter_leads)
    | ((with_reducible apply covers_trans hp); decide) | ((with_reducible apply covers_trans hp); (casesm* Carrier <;> decide))
    | ((with_reducible apply covers_trans hp); exact rfl) | ((with_reducible apply covers_trans hp); (casesm* Carrier <;> exact rfl))
    | ((with_reducible apply covers_trans hp); ((try casesm* Carrier) <;> (repeat' split) <;> first | decide | rfl))
    | ((with_reducible apply covers_trans hp); simp [covers, Part.within, Part.car, canonKey_idem]) | split | rfl

theorem execRegisterWrite_leads (src : Nat) (k : Key) (v : Int) (s : State) :
    Out.leads [.entry (canonKey k).area (canonKey k).entry, .ed, .entry 0x02 0x042, .ev, .fb, .entry 0x10 0x005, .hk, .ports, .carA, .carB, .tv, .entry 0x50 0x006, .entry 0x50 0x021, .entry 0x60 0x013, .entry 0x60 0x026, .entry 0x71 0x00C, .pw, .entry 0x08 0x030] s (execRegisterWrite src k v s) := by
  refine out_intro fun hp h => ?_
  unfold execRegisterWrite
  refine ⟨_, rfl, ?_⟩
  all_goals repeat' first
    | with_reducible (first
        | intro _ | assumption | apply State.rwScalar_leads | apply State.request_leads | apply when_leads)
    | ((with_reducible apply covers_trans hp); decide) | ((with_reducible apply covers_trans hp); (casesm* Carrier <;> decide))
    | ((with_reducible apply covers_trans hp); exact rfl) | ((with_reducible apply covers_trans hp); (casesm* Carrier <;> exact rfl))
    | ((with_reducible apply covers_trans hp); simp [covers, Part.within, Part.car, canonKey_idem]) | rfl

theorem State.blobWrite_leads (s : State) (src : Nat) (k : Key) (bs : List Byte)
    (hp : covers ps [.ed, .flash, .blobs, .entry 0x02 0x042, .ev, .fb, .cores, .entry 0x58 0x024, .entry 0x58 0x023, .entry 0x58 0x02B, .entry 0x7A 0x004, .entry 0x7A 0x005, .entry 0x58 0x02A] = true) (h : Leads ps s0 s) : Leads ps s0 (State.blobWrite s src k bs).1 := by
  unfold State.blobWrite
  repeat' first
    | with_reducible (first
        | assumption | apply draftEffect_leads | apply State.keyBlock_leads | apply State.rwBlob_leads | apply State.loadPart_leads
        | apply State.loadSeg_leads | apply ite_fst_leads)
    | ((with_reducible apply covers_trans hp); decide) | ((with_reducible apply covers_trans hp); (casesm* Carrier <;> decide))
    | ((with_reducible apply covers_trans hp); exact rfl) | ((with_reducible apply covers_trans hp); (casesm* Carrier <;> exact rfl))
    | split | rfl

theorem State.writeChunk_leads (s : State) (src : Nat) (k : Key) (off : Nat) (total : Nat) (data : List Byte)
    (hp : covers ps [.ports, .ed, .flash, .blobs, .entry 0x02 0x042, .ev, .fb, .cores, .entry 0x58 0x024, .entry 0x58 0x023, .entry 0x58 0x02B, .entry 0x7A 0x004, .entry 0x7A 0x005, .entry 0x58 0x02A] = true) (h : Leads ps s0 s) : Leads ps s0 (State.writeChunk s src k off total data).1 := by
  unfold State.writeChunk
  repeat' first
    | with_reducible (first
        | assumption | apply State.blobWrite_leads | apply ite_fst_leads | (apply Or.inr; rfl) | rfl)
    | ((with_reducible apply covers_trans hp); decide) | ((with_reducible apply covers_trans hp); (casesm* Carrier <;> decide))
    | ((with_reducible apply covers_trans hp); exact rfl) | ((with_reducible apply covers_trans hp); (casesm* Carrier <;> exact rfl))
    | ((with_reducible (apply Or.inl; apply within_of_covers; apply covers_trans hp)); decide) | dsimp only | split
    | with_reducible apply Leads.upd | rfl

theorem execBlobChunkWrite_leads (src : Nat) (k : Key) (off : Nat) (total : Nat) (data : List Byte) (s : State) :
    Out.leads [.ports, .ed, .flash, .blobs, .entry 0x02 0x042, .ev, .fb, .cores, .entry 0x58 0x024, .entry 0x58 0x023, .entry 0x58 0x02B, .entry 0x7A 0x004, .entry 0x7A 0x005, .entry 0x58 0x02A, .pw, .entry 0x08 0x030] s (execBlobChunkWrite src k off total data s) := by
  refine out_intro fun hp h => ?_
  unfold execBlobChunkWrite
  refine ⟨_, rfl, ?_⟩
  all_goals repeat' first
    | with_reducible (first
        | intro _ | assumption | apply State.writeChunk_leads | apply State.request_leads | apply when_leads)
    | ((with_reducible apply covers_trans hp); decide) | ((with_reducible apply covers_trans hp); (casesm* Carrier <;> decide))
    | ((with_reducible apply covers_trans hp); exact rfl) | ((with_reducible apply covers_trans hp); (casesm* Carrier <;> exact rfl))
    | rfl

theorem nextOf_leads (s : State) {x : Out} (hx : Out.leads ps s0 x) :
    Leads ps s0 (nextOf s x) := by
  obtain ⟨t, rfl, ht⟩ := hx
  exact ht

theorem State.keyOperation_leads (s : State) (src w vaux : Nat)
    (hp : covers ps [.entry 0x7A 0x00B, .ev, .fb, .flash, .sec, .pw, .ports, .entry 0x08 0x030, .entry 0x7A 0x010] = true) (h : Leads ps s0 s) :
    Out.leads ps s0 (State.keyOperation s src w vaux) := by
  unfold State.keyOperation
  dsimp only
  split
  · exact out_leads (execEnrollRoot_leads ..) (covers_trans hp (by decide)) h
  · exact out_leads (execRevokeRoot_leads ..) (covers_trans hp (by decide)) h
  · exact out_leads (execInstallRootKey_leads ..) (covers_trans hp (by decide)) h
  · exact out_leads (execInstallController_leads ..) (covers_trans hp (by decide)) h
  · exact out_leads (execRemoveController_leads ..) (covers_trans hp (by decide)) h
  · exact out_leads (execCommitSecver_leads ..) (covers_trans hp (by decide)) h
  · exact out_leads (execCommitCtrlVersion_leads ..) (covers_trans hp (by decide)) h
  · exact out_leads (execFuseSignPolicy_leads ..) (covers_trans hp (by decide)) h

theorem State.writeCarrier_leads (s : State) (src : Nat) (c : Carrier) (area entry : Nat) (v : Int) (meas : Nat)
    (hp : covers ps Part.all = true) (h : Leads ps s0 s) {x : Out} (e : State.writeCarrier s src c area entry v meas = some x) :
    Out.leads ps s0 x := by
  unfold State.writeCarrier at e
  split at e <;> cases e
  · exact out_leads (execCarTargetWrite_leads ..) (covers_trans hp (by first | decide | (cases c <;> decide))) h
  · exact out_leads (execSquelchSwWrite_leads ..) (covers_trans hp (by first | decide | (cases c <;> decide))) h
  · exact out_leads (execOcClear_leads ..) (covers_trans hp (by first | decide | (cases c <;> decide))) h
  · exact out_leads (execCdSearchStart_leads ..) (covers_trans hp (by first | decide | (cases c <;> decide))) h
  · exact out_leads (execEqReinit_leads ..) (covers_trans hp (by first | decide | (cases c <;> decide))) h
  · exact out_leads (execSopPeakClear_leads ..) (covers_trans hp (by first | decide | (cases c <;> decide))) h
  · exact out_leads (execTxSwitch_leads ..) (covers_trans hp (by first | decide | (cases c <;> decide))) h
  · exact out_leads (execStageCommit_leads ..) (covers_trans hp (by first | decide | (cases c <;> decide))) h
  · exact out_leads (execLxStart_leads ..) (covers_trans hp (by first | decide | (cases c <;> decide))) h
  · exact out_leads (execDecPeakClear_leads ..) (covers_trans hp (by first | decide | (cases c <;> decide))) h

theorem State.writeDevice_leads (s : State) (src : Nat) (k : Key) (v : Int) (meas : Nat)
    (hp : covers ps Part.all = true) (h : Leads ps s0 s) {x : Out} (e : State.writeDevice s src k v meas = some x) :
    Out.leads ps s0 x := by
  unfold State.writeDevice at e
  dsimp only at e
  split at e <;> cases e
  · exact out_leads (execLcTransition_leads ..) (covers_trans hp (by first | decide | (cases c <;> decide))) h
  · exact out_leads (execSwReset_leads ..) (covers_trans hp (by first | decide | (cases c <;> decide))) h
  · exact out_leads (execSvStart_leads ..) (covers_trans hp (by first | decide | (cases c <;> decide))) h
  · exact out_leads (execDraftOpen_leads ..) (covers_trans hp (by first | decide | (cases c <;> decide))) h
  · exact out_leads (execDraftDiscard_leads ..) (covers_trans hp (by first | decide | (cases c <;> decide))) h
  · exact out_leads (execDraftValidate_leads ..) (covers_trans hp (by first | decide | (cases c <;> decide))) h
  · exact out_leads (execDraftArm_leads ..) (covers_trans hp (by first | decide | (cases c <;> decide))) h
  · exact out_leads (execDisarm_leads ..) (covers_trans hp (by first | decide | (cases c <;> decide))) h
  · exact out_leads (execAlarmAck_leads ..) (covers_trans hp (by first | decide | (cases c <;> decide))) h
  · exact out_leads (execSnapshot_leads ..) (covers_trans hp (by first | decide | (cases c <;> decide))) h
  · exact out_leads (execSnapshotRelease_leads ..) (covers_trans hp (by first | decide | (cases c <;> decide))) h
  · exact out_leads (execCounterClear_leads ..) (covers_trans hp (by first | decide | (cases c <;> decide))) h
  · exact out_leads (execLaneEnableWrite_leads ..) (covers_trans hp (by first | decide | (cases c <;> decide))) h
  · exact out_leads (execRetrain_leads ..) (covers_trans hp (by first | decide | (cases c <;> decide))) h
  · exact out_leads (execLoopbackWrite_leads ..) (covers_trans hp (by first | decide | (cases c <;> decide))) h
  · exact out_leads (execPrbsGenWrite_leads ..) (covers_trans hp (by first | decide | (cases c <;> decide))) h
  · exact out_leads (execPrbsInject_leads ..) (covers_trans hp (by first | decide | (cases c <;> decide))) h
  · split <;> exact out_leads (execReband_leads ..) (covers_trans hp (by decide)) h
  · exact out_leads (execTvEnableWrite_leads ..) (covers_trans hp (by first | decide | (cases c <;> decide))) h
  · exact out_leads (execPortLoopbackWrite_leads ..) (covers_trans hp (by first | decide | (cases c <;> decide))) h
  · exact out_leads (execDatumSet_leads ..) (covers_trans hp (by first | decide | (cases c <;> decide))) h
  · exact out_leads (execGroupArmSend_leads ..) (covers_trans hp (by first | decide | (cases c <;> decide))) h
  · exact out_leads (execGroupDisarmSend_leads ..) (covers_trans hp (by first | decide | (cases c <;> decide))) h
  · exact out_leads (execTrigSend_leads ..) (covers_trans hp (by first | decide | (cases c <;> decide))) h
  · exact out_leads (execCoreRestart_leads ..) (covers_trans hp (by first | decide | (cases c <;> decide))) h
  · exact out_leads (execLoadBegin_leads ..) (covers_trans hp (by first | decide | (cases c <;> decide))) h
  · exact out_leads (execLoadActivate_leads ..) (covers_trans hp (by first | decide | (cases c <;> decide))) h
  · exact out_leads (execLoadAbort_leads ..) (covers_trans hp (by first | decide | (cases c <;> decide))) h
  · exact out_leads (execFwRestart_leads ..) (covers_trans hp (by first | decide | (cases c <;> decide))) h
  · exact out_leads (execHkEnableWrite_leads ..) (covers_trans hp (by first | decide | (cases c <;> decide))) h
  · exact out_leads (execHkSelfCal_leads ..) (covers_trans hp (by first | decide | (cases c <;> decide))) h
  · exact out_leads (execHkRegStart_leads ..) (covers_trans hp (by first | decide | (cases c <;> decide))) h
  · exact out_leads (execInjStart_leads ..) (covers_trans hp (by first | decide | (cases c <;> decide))) h
  · exact out_leads (execInjOverflowClear_leads ..) (covers_trans hp (by first | decide | (cases c <;> decide))) h
  · exact ⟨_, rfl, State.request_leads _ _ _ _ (fun a ha => State.benchCmd_leads _ _ (covers_trans hp (by decide)) ha) (covers_trans hp (by decide)) h⟩
  · exact out_leads (execAoutEnableWrite_leads ..) (covers_trans hp (by first | decide | (cases c <;> decide))) h
  · exact out_leads (execAoutRangeWrite_leads ..) (covers_trans hp (by first | decide | (cases c <;> decide))) h
  · exact out_leads (execWaveWrite_leads ..) (covers_trans hp (by first | decide | (cases c <;> decide))) h
  · exact out_leads (execWaveSync_leads ..) (covers_trans hp (by first | decide | (cases c <;> decide))) h
  · exact out_leads (execRbClear_leads ..) (covers_trans hp (by first | decide | (cases c <;> decide))) h
  · exact out_leads (execMfSync_leads ..) (covers_trans hp (by first | decide | (cases c <;> decide))) h
  · exact out_leads (execMfSheetSwap_leads ..) (covers_trans hp (by first | decide | (cases c <;> decide))) h
  · exact ⟨_, rfl, State.request_leads _ _ _ _ (fun a ha => State.ringCmdWrite_leads _ _ (covers_trans hp (by decide)) ha) (covers_trans hp (by decide)) h⟩
  · exact out_leads (execFwLevelWrite_leads ..) (covers_trans hp (by first | decide | (cases c <;> decide))) h
  · exact out_leads (execShutdownClear_leads ..) (covers_trans hp (by first | decide | (cases c <;> decide))) h
  · exact out_leads (execSleepNow_leads ..) (covers_trans hp (by first | decide | (cases c <;> decide))) h
  · exact out_leads (execPadRelease_leads ..) (covers_trans hp (by first | decide | (cases c <;> decide))) h
  · exact out_leads (execFaultLogClear_leads ..) (covers_trans hp (by first | decide | (cases c <;> decide))) h
  · exact out_leads (execSliceRun_leads ..) (covers_trans hp (by first | decide | (cases c <;> decide))) h
  · exact out_leads (execTestRequest_leads ..) (covers_trans hp (by first | decide | (cases c <;> decide))) h
  · exact State.keyOperation_leads _ _ _ _ (covers_trans hp (by decide)) h
  · exact out_leads (execIdGenerate_leads ..) (covers_trans hp (by first | decide | (cases c <;> decide))) h
  · exact out_leads (execAttRequest_leads ..) (covers_trans hp (by first | decide | (cases c <;> decide))) h

theorem State.writeNum_leads (s : State) (src : Nat) (k : Key) (v : Int) (meas : Nat)
    (hp : covers ps Part.all = true) (h : Leads ps s0 s) : Leads ps s0 (State.writeNum s src k v meas) := by
  unfold State.writeNum
  dsimp only
  split
  · rename_i o e
    refine nextOf_leads _ ?_
    split at e
    · exact State.writeCarrier_leads _ _ _ _ _ _ _ hp h e
    · exact State.writeDevice_leads _ _ _ _ _ hp h e
  · refine State.request_leads _ _ _ _ (fun a ha => ?_) (covers_trans hp (by decide)) h
    refine ite_fst_leads (draftEffect_leads _ _ _ _ (covers_trans hp (by decide)) ha) ?_
    exact State.rwScalar_leads _ _ _ _ (covers_trans hp (by simp [covers, Part.within, Part.all])) ha

theorem State.requestWrite_leads (s : State) (src : Nat) (k : Key) (off : Nat) (total : Nat) (data : List Byte) (meas : Nat)
    (hp : covers ps Part.all = true) (h : Leads ps s0 s) : Leads ps s0 (State.requestWrite s src k off total data meas) := by
  unfold State.requestWrite
  repeat' first
    | with_reducible (first
        | intro _ | assumption | apply ite_leads | apply State.request_leads | apply State.writeChunk_leads | apply State.writeNum_leads)
    | ((with_reducible apply covers_trans hp); decide) | ((with_reducible apply covers_trans hp); (casesm* Carrier <;> decide))
    | ((with_reducible apply covers_trans hp); exact rfl) | ((with_reducible apply covers_trans hp); (casesm* Carrier <;> exact rfl))
    | rfl

end Sys2Proof.Machine
end

