-- ==== Sys2Proof/Laws/FramePorts.lean ====
section
/-! SUPPORT. Frames of the operations and meanings of Machine/Ports.lean. -/

namespace Sys2Proof.Machine

variable {ps : List Part} {s0 : State}

theorem State.answerBad_leads (s : State) (src : Nat) (st : Status)
    (hp : covers ps [.entry 0x08 0x031, .ev, .fb, .ports] = true) (h : Leads ps s0 s) : Leads ps s0 (State.answerBad s src st) := by
  unfold State.answerBad
  repeat' first
    | with_reducible (first
        | assumption | apply ite_leads | apply State.bump_leads | apply State.raise_leads | apply State.ack_leads)
    | ((with_reducible apply covers_trans hp); decide) | ((with_reducible apply covers_trans hp); (casesm* Carrier <;> decide))
    | ((with_reducible apply covers_trans hp); exact rfl) | ((with_reducible apply covers_trans hp); (casesm* Carrier <;> exact rfl))
    | ((with_reducible apply covers_trans hp); ((try casesm* Carrier) <;> (repeat' split) <;> first | decide | rfl)) | split | rfl

theorem State.serveBytes_leads (s : State) (src : Nat) (crc : Bool) (bs : List Byte) (meas : Nat)
    (hp : covers ps Part.all = true) (h : Leads ps s0 s) : Leads ps s0 (State.serveBytes s src crc bs meas) := by
  unfold State.serveBytes
  repeat' first
    | with_reducible (first
        | assumption | apply ite_leads | apply State.idleRestart_leads | apply State.answerBad_leads | apply State.requestWrite_leads
        | apply State.requestRead_leads)
    | ((with_reducible apply covers_trans hp); decide) | ((with_reducible apply covers_trans hp); (casesm* Carrier <;> decide))
    | ((with_reducible apply covers_trans hp); exact rfl) | ((with_reducible apply covers_trans hp); (casesm* Carrier <;> exact rfl))
    | dsimp only | split | rfl

theorem execLegendRequestBad_leads (src : Nat) (bytes : List Byte) (s : State) :
    Out.leads Part.all s (execLegendRequestBad src bytes s) := by
  refine out_intro fun hp h => ?_
  unfold execLegendRequestBad
  refine ⟨_, rfl, ?_⟩
  all_goals repeat' first
    | with_reducible (first
        | intro _ | assumption | apply State.serveBytes_leads | apply when_leads)
    | ((with_reducible apply covers_trans hp); decide) | ((with_reducible apply covers_trans hp); (casesm* Carrier <;> decide))
    | ((with_reducible apply covers_trans hp); exact rfl) | ((with_reducible apply covers_trans hp); (casesm* Carrier <;> exact rfl))
    | rfl

theorem execSpiResponseRead_leads (s : State) :
    Out.leads [.ports] s (execSpiResponseRead s) := by
  refine out_intro fun hp h => ?_
  unfold execSpiResponseRead
  refine ⟨_, rfl, ?_⟩
  all_goals repeat' first
    | with_reducible (first
        | intro _ | assumption | apply State.takePort_leads | apply when_leads | (apply Or.inr; rfl) | rfl)
    | ((with_reducible apply covers_trans hp); decide) | ((with_reducible apply covers_trans hp); (casesm* Carrier <;> decide))
    | ((with_reducible apply covers_trans hp); exact rfl) | ((with_reducible apply covers_trans hp); (casesm* Carrier <;> exact rfl))
    | ((with_reducible (apply Or.inl; apply within_of_covers; apply covers_trans hp)); decide) | dsimp only
    | with_reducible apply Leads.upd | rfl

theorem execMdioServe_leads (prtad : Nat) (mmd : Nat) (buf : List Byte) (len : Nat) (meas : Nat) (s : State) :
    Out.leads Part.all s (execMdioServe prtad mmd buf len meas s) := by
  refine out_intro fun hp h => ?_
  unfold execMdioServe
  refine ⟨_, rfl, ?_⟩
  all_goals repeat' first
    | with_reducible (first
        | intro _ | assumption | apply State.serveBytes_leads | apply when_leads | (apply Or.inr; rfl) | rfl)
    | ((with_reducible apply covers_trans hp); decide) | ((with_reducible apply covers_trans hp); (casesm* Carrier <;> decide))
    | ((with_reducible apply covers_trans hp); exact rfl) | ((with_reducible apply covers_trans hp); (casesm* Carrier <;> exact rfl))
    | ((with_reducible (apply Or.inl; apply within_of_covers; apply covers_trans hp)); decide) | dsimp only
    | with_reducible apply Leads.upd | rfl

theorem execTwiWindowRead_leads (addr : Nat) (n : Nat) (s : State) :
    Out.leads [.entry 0x78 0x000, .ev, .fb, .entry 0x78 0x001, .entry 0x78 0x002, .aon, .integ, .ports] s (execTwiWindowRead addr n s) := by
  refine out_intro fun hp h => ?_
  unfold execTwiWindowRead
  refine ⟨_, rfl, ?_⟩
  all_goals repeat' first
    | with_reducible (first
        | intro _ | assumption | apply State.mismatch_leads | apply when_leads | apply foldl_leads | (apply Or.inr; rfl) | rfl)
    | ((with_reducible apply covers_trans hp); decide) | ((with_reducible apply covers_trans hp); (casesm* Carrier <;> decide))
    | ((with_reducible apply covers_trans hp); exact rfl) | ((with_reducible apply covers_trans hp); (casesm* Carrier <;> exact rfl))
    | ((with_reducible (apply Or.inl; apply within_of_covers; apply covers_trans hp)); decide) | dsimp only
    | with_reducible apply Leads.upd | rfl

theorem State.winStore_leads (s : State) (p : Nat) (a : Nat) (b : Byte)
    (hp : covers ps [.ports, .entry 0x78 0x000, .ev, .fb, .entry 0x78 0x001, .entry 0x78 0x002, .aon, .integ, .freeCtr, .cores] = true) (h : Leads ps s0 s) : Leads ps s0 (State.winStore s p a b) := by
  unfold State.winStore
  repeat' first
    | with_reducible (first
        | intro _ | assumption | apply ite_leads | apply State.putWin_leads | apply State.mismatch_leads | apply State.lineGood_leads
        | apply State.tookFree_leads | apply State.coreEvent_leads | apply State.raise_leads | apply foldl_leads | (apply Or.inr; rfl)
        | rfl)
    | ((with_reducible apply covers_trans hp); decide) | ((with_reducible apply covers_trans hp); (casesm* Carrier <;> decide))
    | ((with_reducible apply covers_trans hp); exact rfl) | ((with_reducible apply covers_trans hp); (casesm* Carrier <;> exact rfl))
    | ((with_reducible (apply Or.inl; apply within_of_covers; apply covers_trans hp)); decide) | dsimp only
    | with_reducible apply Leads.upd | rfl

theorem State.winWrite_leads (s : State) (l : List Byte)
    (hp : covers ps [.entry 0x08 0x041, .ev, .fb, .ports, .entry 0x78 0x000, .entry 0x78 0x001, .entry 0x78 0x002, .aon, .integ, .freeCtr, .cores] = true) (h : Leads ps s0 s) :
    Leads ps s0 (State.winWrite s l) := by
  induction l generalizing s with
  | nil => exact h
  | cons b t ih =>
    unfold State.winWrite
    repeat' first
      | with_reducible (first
          | assumption | apply ite_leads | apply State.bump_leads | apply State.raise_leads | apply State.winStore_leads | apply ih
          | (apply Or.inr; rfl) | rfl)
      | ((with_reducible apply covers_trans hp); decide) | ((with_reducible apply covers_trans hp); (casesm* Carrier <;> decide))
      | ((with_reducible apply covers_trans hp); exact rfl) | ((with_reducible apply covers_trans hp); (casesm* Carrier <;> exact rfl))
      | ((with_reducible (apply Or.inl; apply within_of_covers; apply covers_trans hp)); decide) | dsimp only | split
      | with_reducible apply Leads.upd | rfl

theorem execTwiWindowWrite_leads (addr : Nat) (ptr : Nat) (bytes : List Byte) (s : State) :
    Out.leads [.ports, .entry 0x08 0x041, .ev, .fb, .entry 0x78 0x000, .entry 0x78 0x001, .entry 0x78 0x002, .aon, .integ, .freeCtr, .cores] s (execTwiWindowWrite addr ptr bytes s) := by
  refine out_intro fun hp h => ?_
  unfold execTwiWindowWrite
  refine ⟨_, rfl, ?_⟩
  all_goals repeat' first
    | with_reducible (first
        | intro _ | assumption | apply State.winWrite_leads | apply when_leads | (apply Or.inr; rfl) | rfl)
    | ((with_reducible apply covers_trans hp); decide) | ((with_reducible apply covers_trans hp); (casesm* Carrier <;> decide))
    | ((with_reducible apply covers_trans hp); exact rfl) | ((with_reducible apply covers_trans hp); (casesm* Carrier <;> exact rfl))
    | ((with_reducible (apply Or.inl; apply within_of_covers; apply covers_trans hp)); decide) | dsimp only
    | with_reducible apply Leads.upd | rfl

theorem State.sendRsp_leads (s : State) (cls : Nat) (dst : Nat) (seq : Nat) (r : Reply)
    (hp : covers ps [.tv, .entry 0x50 0x019, .ev, .fb, .entry 0x50 0x018, .carA, .carB, .entry 0x50 0x017] = true) (h : Leads ps s0 s) : Leads ps s0 (State.sendRsp s cls dst seq r) := by
  unfold State.sendRsp
  repeat' first
    | with_reducible (first
        | assumption | apply State.originate_leads)
    | ((with_reducible apply covers_trans hp); decide) | ((with_reducible apply covers_trans hp); (casesm* Carrier <;> decide))
    | ((with_reducible apply covers_trans hp); exact rfl) | ((with_reducible apply covers_trans hp); (casesm* Carrier <;> exact rfl))
    | rfl

theorem execLegendReqRx_leads (s : State) :
    Out.leads [.entry 0x50 0x00B, .ev, .fb, .tv, .entry 0x50 0x019, .entry 0x50 0x018, .carA, .carB, .entry 0x50 0x017] s (execLegendReqRx s) := by
  refine out_intro fun hp h => ?_
  unfold execLegendReqRx
  refine ⟨_, rfl, ?_⟩
  all_goals repeat' first
    | with_reducible (first
        | intro _ | assumption | apply ite_leads | apply State.bump_leads | apply State.sendRsp_leads | apply State.serve_leads
        | (apply Or.inr; rfl) | rfl)
    | ((with_reducible apply covers_trans hp); decide) | ((with_reducible apply covers_trans hp); (casesm* Carrier <;> decide))
    | ((with_reducible apply covers_trans hp); exact rfl) | ((with_reducible apply covers_trans hp); (casesm* Carrier <;> exact rfl))
    | ((with_reducible apply covers_trans hp); ((try casesm* Carrier) <;> (repeat' split) <;> first | decide | rfl))
    | ((with_reducible (apply Or.inl; apply within_of_covers; apply covers_trans hp)); decide) | dsimp only
    | with_reducible apply Leads.upd | rfl

theorem execLegendRspSend_leads (meas : Nat) (s : State) :
    Out.leads Part.all s (execLegendRspSend meas s) := by
  refine out_intro fun hp h => ?_
  unfold execLegendRspSend
  repeat' first | refine ⟨_, rfl, ?_⟩ | dsimp only | split
  all_goals repeat' first
    | with_reducible (first
        | assumption | apply State.serveBytes_leads | apply State.sendRsp_leads | (apply Or.inr; rfl) | rfl)
    | ((with_reducible apply covers_trans hp); decide) | ((with_reducible apply covers_trans hp); (casesm* Carrier <;> decide))
    | ((with_reducible apply covers_trans hp); exact rfl) | ((with_reducible apply covers_trans hp); (casesm* Carrier <;> exact rfl))
    | ((with_reducible (apply Or.inl; apply within_of_covers; apply covers_trans hp)); decide) | with_reducible apply Leads.upd | rfl

theorem execAppFrameRx_leads (s : State) :
    Out.leads [.entry 0x58 0x030, .ev, .fb, .cores, .tv] s (execAppFrameRx s) := by
  refine out_intro fun hp h => ?_
  unfold execAppFrameRx
  refine ⟨_, rfl, ?_⟩
  all_goals repeat' first
    | with_reducible (first
        | intro _ | assumption | apply ite_leads | apply State.bump_leads | apply State.raise_leads | apply State.coreEvent_leads
        | apply State.serve_leads | (apply Or.inr; rfl) | rfl)
    | ((with_reducible apply covers_trans hp); decide) | ((with_reducible apply covers_trans hp); (casesm* Carrier <;> decide))
    | ((with_reducible apply covers_trans hp); exact rfl) | ((with_reducible apply covers_trans hp); (casesm* Carrier <;> exact rfl))
    | ((with_reducible (apply Or.inl; apply within_of_covers; apply covers_trans hp)); decide) | dsimp only
    | with_reducible apply Leads.upd | rfl

theorem execEventSinkSend_leads (s : State) :
    Out.leads [.tv, .entry 0x50 0x019, .ev, .fb, .entry 0x50 0x018, .carA, .carB, .entry 0x50 0x017] s (execEventSinkSend s) := by
  refine out_intro fun hp h => ?_
  unfold execEventSinkSend
  repeat' first | refine ⟨_, rfl, ?_⟩ | dsimp only | split
  all_goals repeat' first
    | with_reducible (first
        | intro _ | assumption | apply State.originate_leads | apply when_leads | (apply Or.inr; rfl) | rfl)
    | ((with_reducible apply covers_trans hp); decide) | ((with_reducible apply covers_trans hp); (casesm* Carrier <;> decide))
    | ((with_reducible apply covers_trans hp); exact rfl) | ((with_reducible apply covers_trans hp); (casesm* Carrier <;> exact rfl))
    | ((with_reducible (apply Or.inl; apply within_of_covers; apply covers_trans hp)); decide) | split | with_reducible apply Leads.upd
    | rfl

theorem execCoreLegendDone_leads (c : Nat) (meas : Nat) (s : State) :
    Out.leads Part.all s (execCoreLegendDone c meas s) := by
  refine out_intro fun hp h => ?_
  unfold execCoreLegendDone
  refine ⟨_, rfl, ?_⟩
  all_goals repeat' first
    | with_reducible (first
        | intro _ | assumption | apply ite_leads | apply State.serveBytes_leads | apply State.modCore_leads | apply State.putBytes_leads
        | apply when_leads | (apply Or.inr; rfl) | rfl)
    | ((with_reducible apply covers_trans hp); decide) | ((with_reducible apply covers_trans hp); (casesm* Carrier <;> decide))
    | ((with_reducible apply covers_trans hp); exact rfl) | ((with_reducible apply covers_trans hp); (casesm* Carrier <;> exact rfl))
    | ((with_reducible (apply Or.inl; apply within_of_covers; apply covers_trans hp)); decide) | dsimp only
    | with_reducible apply Leads.upd | rfl

end Sys2Proof.Machine
end

