-- ==== Sys2Proof/Laws/FrameTick.lean ====
section
/-! SUPPORT. Frames of the operations and meanings of Machine/Tick.lean. -/

namespace Sys2Proof.Machine

variable {ps : List Part} {s0 : State}

theorem State.tick_leads (s : State)
    (hp : covers ps [.tv, .datum, .clock, .host, .fb, .entry 0x50 0x019, .ev, .entry 0x50 0x018, .carA, .carB, .entry 0x50 0x017, .entry 0x50 0x006, .entry 0x50 0x021, .pw, .entry 0x01 0x013, .ed, .entry 0x02 0x042] = true) (h : Leads ps s0 s) : Leads ps s0 (State.tick s) := by
  unfold State.tick
  repeat' first
    | with_reducible (first
        | assumption | apply ite_leads | apply State.datumTick_leads | apply State.laneTick_leads | apply State.portTick_leads
        | apply State.fbEvents_leads | apply State.ibWatch_leads | apply State.idleWatch_leads | apply State.bootTick_leads
        | apply State.journalRepair_leads | (apply Or.inr; rfl) | rfl)
    | ((with_reducible apply covers_trans hp); decide) | ((with_reducible apply covers_trans hp); (casesm* Carrier <;> decide))
    | ((with_reducible apply covers_trans hp); exact rfl) | ((with_reducible apply covers_trans hp); (casesm* Carrier <;> exact rfl))
    | ((with_reducible (apply Or.inl; apply within_of_covers; apply covers_trans hp)); decide) | with_reducible apply Leads.upd | rfl

end Sys2Proof.Machine
end

