-- ==== Sys2Proof/WellFormed.lean ====
section
/-! DEFINITION. Well-formed commands: operands name things the device has: source codes (09 R247), keys (09 R244), lanes, clients,
links, cores and their registers, converters, rings, key slots. Meanings are total and take ill-formed commands too. -/

namespace Sys2Proof

/-- A source code of 09 R247. -/
def isSource (src : Nat) : Bool :=
  (1 ≤ src && src ≤ 3) || (0x1000 ≤ src && src ≤ 0x1003) || (0x2000 ≤ src && src ≤ 0x203F) || (0x3000 ≤ src && src ≤ 0x3FFF)

/-- A key fits a request (09 R249): 8 bits of area, 12 of entry, 16 of index. -/
def isKey (k : Key) : Bool := k.area < 256 && k.entry < 4096 && k.idx < 65536

/-- The command is well-formed. -/
def Instr.wf : Instr → Bool
  | .carTargetWrite src _ _ => isSource src
  | .carrierStopComplete _ => true
  | .txSuperframeBoundary _ => true
  | .switchAnnounce _ => true
  | .txFrameStart _ => true
  | .ibcCreditTick _ => true
  | .lineBlockEmit _ => true
  | .txSegmentEmit _ => true
  | .contourUpdate _ => true
  | .contourRiseStart _ => true
  | .squelchSwWrite src _ _ => isSource src
  | .txdisAssert _ _ => true
  | .txdisDeassert _ _ => true
  | .ocTrip _ _ => true
  | .ocClear src _ _ => isSource src
  | .nlcBypassChange _ => true
  | .xpmSquelchRemove _ => true
  | .d2dBlockRx _ _ j _ _ _ => j < 4
  | .lineDacSlip _ j => j < 4
  | .d2dDegradeCheck _ => true
  | .feIlvWindow _ j => j < 4
  | .feIqWindow _ _ => true
  | .cdSheetReady _ => true
  | .cdFadeStart _ => true
  | .cdFadeBlock _ => true
  | .cdFadeCut _ => true
  | .cdSwapNofade _ => true
  | .cdSearchStart src _ => isSource src
  | .cdSearchDone _ => true
  | .rxTimingLock _ => true
  | .rxTimingUnlock _ => true
  | .eqBlockUpdate _ k => k < 32
  | .rxEqSingular _ k => k < 32
  | .eqReinit src _ _ => isSource src
  | .eqTapShift _ k => k < 32
  | .sopRateUpdate _ => true
  | .rxSopNormal _ => true
  | .sopPeakClear src _ => isSource src
  | .rxPilotUpdate _ k => k < 32
  | .crLimitHoldExpiry _ => true
  | .rxFrameHeader _ fi _ => fi < 64
  | .rxSuperframeBoundary _ => true
  | .acqDetect _ _ _ => true
  | .acqCapture _ _ _ _ => true
  | .rxSounding _ _ _ _ _ _ => true
  | .settleExpiry _ => true
  | .syncLossCount _ => true
  | .rxFawTest _ _ _ => true
  | .acqLock _ _ => true
  | .lofCountExpiry _ => true
  | .acqHoldRecover _ => true
  | .holdTimeout _ => true
  | .frameWaitTimeout _ => true
  | .serviceToAcquire _ => true
  | .fecAcceptStart _ => true
  | .rxDark _ => true
  | .noiseFloorUpdate _ => true
  | .sfCdDraftRetry _ => true
  | .sfCdHuntTimeout _ => true
  | .stageCommit src _ => isSource src
  | .rxLoadStaged _ => true
  | .txSwitch src _ _ => isSource src
  | .matcherTablesReady _ => true
  | .lxStageRx => true
  | .lxAckRx => true
  | .lxNackRx => true
  | .lxCommitRx => true
  | .lxCancelRx => true
  | .lxReportRx => true
  | .lxAckTimeout _ => true
  | .lxCommitTimeout _ => true
  | .lxRetryTimer _ => true
  | .lpPeriodTick _ => true
  | .lxStart src _ => isSource src
  | .lxDraftRetry _ => true
  | .capLimitRx => true
  | .rxSegmentArrival _ => true
  | .decIteration _ _ => true
  | .decWindowSlide _ => true
  | .outerDecodeDone _ => true
  | .rxFecCapChange => true
  | .rxFecAligned _ => true
  | .fecAcceptStop _ => true
  | .lineBlockRx _ => true
  | .pmIntervalEnd _ => true
  | .decPeakClear src _ => isSource src
  | .lxFecSuspect _ => true
  | .laneEnableWrite src n _ => isSource src && n < 8
  | .laneSignalDetect n => n < 8
  | .hostTrainFrameRx n _ => n < 8
  | .trainStepMeasure n fom => n < 8 && fom ≤ 4000
  | .trainCountdownDone n => n < 8
  | .hostTrainTimeout n => n < 8
  | .hostLos n => n < 8
  | .retrain src n => isSource src && n < 8
  | .loopbackWrite src n _ => isSource src && n < 8
  | .prbsGenWrite src n _ => isSource src && n < 8
  | .prbsInject src n _ => isSource src && n < 8
  | .sfLaneRetry n => n < 8
  | .hostBlockRx n _ _ _ _ _ _ _ => n < 8
  | .slotHeaderRx n _ _ => n < 8
  | .hostFrameIngress c _ _ => c < 8
  | .slotBurstComplete slot => slot < 128
  | .clientStatusTick cl => cl < 136
  | .mapperPacketSend _ => true
  | .demapWord _ => true
  | .egressFrameOut c _ => c < 8
  | .egressSlotFrame n => n < 8
  | .clientPacketTimeout cl => cl < 136
  | .refclkEdgeTimeout => true
  | .refclkWindow _ => true
  | .refclkOkTimer => true
  | .pllHoldoverReturn p => p < 5
  | .lockSeqStep _ _ _ => true
  | .foregroundCalDone _ _ _ => true
  | .vcoTcUpdate _ _ => true
  | .reband src _ => isSource src
  | .linePllUnlock _ => true
  | .refTcUpdate _ => true
  | .spareVisitStart _ => true
  | .spareVisitEnd _ _ _ => true
  | .spareSwap _ t => t < 16
  | .legendRequestBad src _ => isSource src
  | .registerWrite src k _ => isSource src && isKey k
  | .blobReadLatch src k _ len => isSource src && isKey k && len ≤ 256
  | .blobChunkWrite src k off total data => isSource src && isKey k && off < 65536 && total < 65536 && data.length ≤ 256
  | .spiResponseRead => true
  | .mdioServe prtad mmd _ len _ => prtad < 32 && mmd < 32 && len ≤ 288
  | .twiWindowRead addr _ => addr < 128
  | .twiWindowWrite addr ptr _ => addr < 128 && ptr < 256
  | .eventNextRead src len _ => isSource src && len ≤ 256
  | .alarmAck src => isSource src
  | .snapshot src _ => isSource src
  | .snapshotRelease src => isSource src
  | .counterClear src _ => isSource src
  | .draftOpen src => isSource src
  | .draftWrite src k _ => isSource src && isKey k
  | .draftDiscard src => isSource src
  | .draftValidate src => isSource src
  | .draftArm src => isSource src
  | .disarm src _ => isSource src
  | .edDraftExpired => true
  | .editionApply => true
  | .tvEnableWrite src _ => isSource src
  | .tvTrainingSetRx l _ _ _ _ => l < 3
  | .tvTrainingTimeout l => l < 3
  | .tvPortUp l _ => l < 3
  | .tvPortDown l => l < 3
  | .portLoopbackWrite src l _ => isSource src && l < 3
  | .tvIdleSetRx l _ => l < 3
  | .tvFrameRx l _ _ => l < 3
  | .helloSend => true
  | .helloRx => true
  | .neighbourTimeout l => l < 5
  | .dedupEntryExpire src => src < 4096
  | .ibFrameRx m _ => m < 2
  | .timeExchangeStart _ => true
  | .timeReqRx _ => true
  | .timeRespRx => true
  | .datumHoldover => true
  | .datumSet src _ => isSource src
  | .ppsInEdge => true
  | .ppsMissed => true
  | .ppsOutRise => true
  | .ppsOutFall => true
  | .legendReqRx => true
  | .legendRspSend _ => true
  | .appFrameRx => true
  | .eventSinkSend => true
  | .groupArmRx => true
  | .groupDisarmRx => true
  | .groupResultRx => true
  | .triggerRx => true
  | .triggerFire id => id < 65536
  | .groupArmSend src _ => isSource src
  | .groupDisarmSend src _ => isSource src
  | .trigSend src _ => isSource src
  | .nop c => c < 68
  | .add c t u v => c < 68 && t < 16 && u < 16 && v < 16
  | .sub c t u v => c < 68 && t < 16 && u < 16 && v < 16
  | .mul c t u v => c < 68 && t < 16 && u < 16 && v < 16
  | .andd c t u v => c < 68 && t < 16 && u < 16 && v < 16
  | .orr c t u v => c < 68 && t < 16 && u < 16 && v < 16
  | .xorr c t u v => c < 68 && t < 16 && u < 16 && v < 16
  | .shl c t u sh => c < 68 && t < 16 && u < 16 && sh < 64
  | .shr c t u sh => c < 68 && t < 16 && u < 16 && sh < 64
  | .addi c t u imm => c < 68 && t < 16 && u < 16 && (-32768 ≤ imm && imm < 65536)
  | .lui c t imm => c < 68 && t < 16 && (-32768 ≤ imm && imm < 65536)
  | .branch c cond disp => c < 68 && cond < 16 && (-32768 ≤ disp && disp < 32768)
  | .call c disp => c < 68 && (-32768 ≤ disp && disp < 32768)
  | .ret c => c < 68
  | .loopi c t _ => c < 68 && t < 16
  | .ldw c t n m _ => c < 68 && t < 16 && n < 4 && m < 4
  | .stw c t n m _ => c < 68 && t < 16 && n < 4 && m < 4
  | .ldc c t n m _ => c < 68 && t < 16 && n < 4 && m < 4
  | .stc c t n m _ => c < 68 && t < 16 && n < 4 && m < 4
  | .zl c n _ => c < 68 && n < 4
  | .mgd c t u v => c < 68 && t < 16 && u < 16 && v < 16
  | .mdg c t u _ => c < 68 && t < 16 && u < 16
  | .mvx c t u => c < 68 && t < 16 && u < 16
  | .cmul c t u v => c < 68 && t < 16 && u < 16 && v < 16
  | .cmac c t u v => c < 68 && t < 16 && u < 16 && v < 16
  | .cmacj c t u v => c < 68 && t < 16 && u < 16 && v < 16
  | .cmsu c t u v => c < 68 && t < 16 && u < 16 && v < 16
  | .cmacm c t => c < 68 && t < 16
  | .clra c t => c < 68 && t < 16
  | .sac c t u sh => c < 68 && t < 16 && u < 16 && sh < 64
  | .sacg c t u _ sh => c < 68 && t < 16 && u < 16 && sh < 64
  | .inPort c t port => c < 68 && t < 16 && port < 65536
  | .outPort c u port => c < 68 && u < 16 && port < 65536
  | .cbx c t n _ _ => c < 68 && t < 16 && n < 4
  | .cbxComplete c => c < 68
  | .wait c u => c < 68 && u < 16
  | .coreWaitWake c => c < 68
  | .halt c => c < 68
  | .illegalOpcode c => c < 68
  | .faultExit c u => c < 68 && u < 16
  | .flagsClear c u => c < 68 && u < 16
  | .wdogKick c u => c < 68 && u < 16
  | .datumLoRead c t => c < 68 && t < 16
  | .eventsRead c t => c < 68 && t < 16
  | .coreTimerExpire c => c < 68
  | .lgSend c u => c < 68 && u < 16
  | .coreLegendDone c _ => c < 68
  | .appRxPop c t => c < 68 && t < 16
  | .appTxGo c u => c < 68 && u < 16
  | .winDataWrite c u => c < 68 && u < 16
  | .winWmask c u => c < 68 && u < 16
  | .winQpop c t => c < 68 && t < 16
  | .resGo c u => c < 68 && u < 16
  | .resReadDone c => c < 68
  | .coreWdogExpire c => c < 68
  | .coreRestart src c => isSource src && c < 68
  | .fwRestart src => isSource src
  | .fwRestartVerified => true
  | .loadBegin src _ => isSource src
  | .loadEraseDone _ => true
  | .loadManifest src p _ => isSource src && p < 9
  | .loadSegment src g _ => isSource src && g < 1024
  | .loadProgramDone _ => true
  | .loadActivate src => isSource src
  | .loadAbort src => isSource src
  | .hkConversionBoundary _ _ _ _ => true
  | .hkRegStart src h => isSource src && h < 2
  | .hkRegTimer h => h < 2
  | .trigInRise => true
  | .injStart src h => isSource src && h < 2
  | .injTimer h => h < 2
  | .gpioRise g => g < 16
  | .injOverflowClear src h _ => isSource src && h < 2
  | .hkEnableWrite src h _ => isSource src && h < 2
  | .hkSelfCal src h => isSource src && h < 2
  | .benchCancel src h => isSource src && h < 2
  | .benchZero src h input => isSource src && h < 2 && input < 75
  | .benchFull src h input => isSource src && h < 2 && input < 75
  | .hkCalDone h => h < 2
  | .aoutEnableWrite src k _ => isSource src && k < 16
  | .aoutRangeWrite src k _ => isSource src && k < 16
  | .aoutReconnect k => k < 16
  | .aoutUpdate _ _ => true
  | .aoutConditionClear k _ => k < 16
  | .waveWrite src k _ => isSource src && k < 16
  | .waveSync src _ => isSource src
  | .rbClear src k => isSource src && k < 16
  | .mfChannelProcess y _ => y < 32
  | .mfSheetSwap src y => isSource src && y < 32
  | .mfSwapLoaded y => y < 32
  | .mfSync src _ => isSource src
  | .outQueueRead src y len => isSource src && y < 32 && len ≤ 256
  | .ringArm src first last => isSource src && first < 32768 && last < 32768
  | .ringRearm src first last => isSource src && first < 32768 && last < 32768
  | .ringForce src first last => isSource src && first < 32768 && last < 32768
  | .ringStop src first last => isSource src && first < 32768 && last < 32768
  | .ringDisarm src first last => isSource src && first < 32768 && last < 32768
  | .fbRingCleared r => r < 32768
  | .probeUpdate probe sel _ _ => probe < 65536 && sel < 256
  | .fbRecordWrite => true
  | .trigOutEnd => true
  | .rdDataRead src len => isSource src && len ≤ 256
  | .thermalSample _ => true
  | .thermalBlockExpire => true
  | .fwLevelWrite src _ => isSource src
  | .shutdownClear src => isSource src
  | .sfL3Dwell => true
  | .sfL3Resend _ => true
  | .thL3NoResponse _ => true
  | .sfL3Release => true
  | .xtalCompTick _ => true
  | .aonXtalFail => true
  | .xtalRestore => true
  | .marginUpdate _ => true
  | .pwrCarrierDropped => true
  | .pwrMarginRestored => true
  | .avsVoltageRead _ => true
  | .avsStatusRead _ => true
  | .pwrAvsRestored => true
  | .idleTimerExpire => true
  | .sleepNow src => isSource src
  | .dormantLatch => true
  | .wakeSourceFire _ _ _ _ => true
  | .wakeTimerExpire _ => true
  | .aonBrownout => true
  | .padRelease src => isSource src
  | .refetchDone => true
  | .intLegendRebuilt _ => true
  | .derivedRepairDone => true
  | .scrubPass _ => true
  | .faultLogClear src => isSource src
  | .sliceRound _ => true
  | .sliceRun src _ => isSource src
  | .testRequest src _ => isSource src
  | .testDone _ => true
  | .lcTransition src _ _ => isSource src
  | .enrollRoot src slot _ => isSource src && slot < 4
  | .revokeRoot src slot _ => isSource src && slot < 4
  | .installRootKey src slot => isSource src && slot < 4
  | .installController src slot => isSource src && slot < 8
  | .removeController src slot => isSource src && slot < 8
  | .commitSecver src slot _ => isSource src && slot < 8
  | .commitCtrlVersion src slot _ => isSource src && slot < 8
  | .fuseSignPolicy src slot _ => isSource src && slot < 8
  | .idGenerate src _ => isSource src
  | .nonceRead src len => isSource src && len ≤ 256
  | .nonceExpire => true
  | .attRequest src => isSource src
  | .attReady => true
  | .extest => true
  | .idcode => true
  | .samplePreload => true
  | .bypass => true
  | .testEngine _ => true
  | .coreSel c => c < 68
  | .coreHalt => true
  | .coreStep => true
  | .coreResume => true
  | .coreAccess _ => true
  | .supplyDip _ => true
  | .suppliesStable => true
  | .supplyLoss => true
  | .resetNAssert _ => true
  | .swReset src => isSource src
  | .resetRelease => true
  | .resetDatumCapture => true
  | .bootHkCalDone => true
  | .strapReadDone uv => uv.length = 8
  | .selfTestDone _ _ _ => true
  | .fwVerifyDone => true
  | .svStart src => isSource src
  | .prbsLock n _ => n < 8
  | .tvFrameSent l => l < 5
  | .sfHaltedLeadRestart c => c < 64
  | .fuseProgrammingDone _ => true

end Sys2Proof
end

