-- ==== Sys2Proof/Tests/Slice0.lean ====
section
/-! SUPPORT. Tests: each check of well-formedness refuses an ill-formed term; single steps on small states; for every obligation, states
and operands that meet the hypotheses of each of its clauses. -/

open Sys2Proof Sys2Proof.Machine

namespace Sys2Proof.Tests

set_option Elab.async false

/-- A state with these Legend values, its other parts as after reset. -/
def st (l : List (Key × Int)) : State := { State.reset with leg := l }

/-- One that is OPERATIONAL and whose ports serve requests. -/
def up (l : List (Key × Int)) : State :=
  { State.reset with leg := (K.deviceState, 3) :: l, ports := { PortState.reset with ready := true } }

/-- Carrier A of such a state with another transmitter, receiver or decoder. -/
def upTx (l : List (Key × Int)) (f : TxState → TxState) : State := (up l).modTx .a f
def upRx (l : List (Key × Int)) (f : RxState → RxState) : State := (up l).modRx .a f
def upFec (l : List (Key × Int)) (f : FecState → FecState) : State := (up l).modFec .a f

/-- The standard firmware runs, with one APP frame from station 0 waiting that carries this message. -/
def msg (l : List (Key × Int)) (m : List Byte) : State :=
  let s := up ((K.fwState, 1) :: l)
  { s with cores := { s.cores with appRx := [List.replicate 16 (0 : Byte) ++ (m ++ List.replicate (6 - m.length) 0)] } }

/-- A draft is open. -/
def drafted (d : Draft) : State :=
  let s := up []
  { s with ed := { s.ed with draft := some d } }

/-- An edition is armed. -/
def armedWith (e : Edition) : State :=
  let s := up []
  { s with ed := { s.ed with armed := [e] } }

/-- Client 0 of carrier A delivers, with a frame waiting. -/
def egress : State :=
  let s := (up [(K.clientType 0, 2), (K.carState .a, 3), (K.acqPhase .a, 5), (K.decAlign .a, 2), (K.laneState 0, 8), (K.laneState 1, 8)]).modClient 0 (fun x =>
    { x with alive := true, frames := [([7], true)] })
  { s with host := { s.host with demapA := .syncHeader } }


/-- A descriptor: probe 0x120, a MODE, SOURCES and TRIG_ID, one page. -/
def desc (first mode sources id : Nat) : List Byte :=
  beBytes 2 first ++ beBytes 2 1 ++ beBytes 2 0x120 ++ beBytes 1 0 ++ beBytes 1 mode ++ beBytes 4 1 ++ beBytes 4 4 ++ beBytes 1 sources ++
    beBytes 3 0 ++ beBytes 2 id ++ beBytes 10 0

/-- A ring of a descriptor is in a state. -/
def ringed (r : Nat) (d : List Byte) (st : Nat) : State :=
  ((up [(K.fbEnable, 1)]).setBlob (K.ringDesc r) d).setRing r { Ring.idle with state := st, desc := d }

/-- A delivered Traverse frame waits. -/
def inboxed (l : List (Key × Int)) (x : TvIn) : State :=
  { (up l) with tv := { TvState.reset with inbox := [x] } }

/-- Core c runs, changed by f. -/
def live (c : Nat) (f : Core → Core) : State := (up [(K.coreState c, 1)]).modCore c f

/-- The key block and fuses as f makes them, in a state that serves. -/
def fused (l : List (Key × Int)) (f : FuseState → FuseState) : State := { (up l) with fuse := f FuseState.reset }

/-- A load of source 1 in a state of 58.023. -/
def loading (st : Int) (l : LoadRun) : State :=
  let s := up [(K.loadState, st), (K.loadOwner, 1)]
  { s with cores := { s.cores with load := some l } }

/-- Each command breaks one check of its well-formedness and is refused by it. -/
theorem test_ill_formed_1 :
    List.all ([.carTargetWrite 0 .a 0, .squelchSwWrite 0 .a 0, .ocClear 0 .a 0, .d2dBlockRx .a false 4 false [] 0,
    .lineDacSlip .a 4, .feIlvWindow .a 4, .cdSearchStart 0 .a, .eqBlockUpdate .a 32, .rxEqSingular .a 32,
    .eqReinit 0 .a 0, .eqTapShift .a 32, .sopPeakClear 0 .a, .rxPilotUpdate .a 32, .rxFrameHeader .a 64 [],
    .stageCommit 0 .a, .txSwitch 0 .a 0, .lxStart 0 .a, .decPeakClear 0 .a, .laneEnableWrite 0 0 0,
    .laneEnableWrite 1 8 0, .laneSignalDetect 8, .hostTrainFrameRx 8 [], .trainStepMeasure 8 0, .trainStepMeasure 0 4001,
    .trainCountdownDone 8, .hostTrainTimeout 8, .hostLos 8, .retrain 0 0, .retrain 1 8, .loopbackWrite 0 0 0,
    .loopbackWrite 1 8 0, .prbsGenWrite 0 0 0, .prbsGenWrite 1 8 0, .prbsInject 0 0 0, .prbsInject 1 8 0, .sfLaneRetry 8,
    .hostBlockRx 8 0 0 false false false 0 0, .slotHeaderRx 8 0 [], .hostFrameIngress 8 [] false, .slotBurstComplete 128,
    .clientStatusTick 136, .egressFrameOut 8 false, .egressSlotFrame 8, .clientPacketTimeout 136, .pllHoldoverReturn 5,
    .reband 0 .a, .spareSwap .a 16, .legendRequestBad 0 [], .registerWrite 0 ⟨0, 0, 0⟩ 0, .registerWrite 1 ⟨256, 0, 0⟩ 0,
    .blobReadLatch 0 ⟨0, 0, 0⟩ false 0, .blobReadLatch 1 ⟨256, 0, 0⟩ false 0, .blobReadLatch 1 ⟨0, 0, 0⟩ false 257,
    .blobChunkWrite 0 ⟨0, 0, 0⟩ 0 0 [], .blobChunkWrite 1 ⟨256, 0, 0⟩ 0 0 [], .blobChunkWrite 1 ⟨0, 0, 0⟩ 65536 0 [],
    .blobChunkWrite 1 ⟨0, 0, 0⟩ 0 65536 [], .blobChunkWrite 1 ⟨0, 0, 0⟩ 0 0 (List.replicate 257 0),
    .mdioServe 32 0 [] 0 0, .mdioServe 0 32 [] 0 0, .mdioServe 0 0 [] 289 0, .twiWindowRead 128 0,
    .twiWindowWrite 128 0 [], .twiWindowWrite 0 256 [], .eventNextRead 0 0 [], .eventNextRead 1 257 [], .alarmAck 0,
    .snapshot 0 0, .snapshotRelease 0, .counterClear 0 0, .draftOpen 0, .draftWrite 0 ⟨0, 0, 0⟩ (.num 0),
    .draftWrite 1 ⟨256, 0, 0⟩ (.num 0), .draftDiscard 0, .draftValidate 0, .draftArm 0, .disarm 0 0, .tvEnableWrite 0 0,
    .tvTrainingSetRx 3 0 0 0 0, .tvTrainingTimeout 3, .tvPortUp 3 0, .tvPortDown 3, .portLoopbackWrite 0 0 0,
    .portLoopbackWrite 1 3 0, .tvIdleSetRx 3 0, .tvFrameRx 3 [] false, .neighbourTimeout 5, .dedupEntryExpire 4096,
    .ibFrameRx 2 0, .datumSet 0 0, .triggerFire 65536, .groupArmSend 0 0, .groupDisarmSend 0 0, .trigSend 0 0, .nop 68,
    .add 68 0 0 0, .add 0 16 0 0, .add 0 0 16 0, .add 0 0 0 16, .sub 68 0 0 0] : List Instr) (fun i => !i.wf) = true := by
  decide +kernel

/-- Each command breaks one check of its well-formedness and is refused by it. -/
theorem test_ill_formed_2 :
    List.all ([.sub 0 16 0 0, .sub 0 0 16 0, .sub 0 0 0 16, .mul 68 0 0 0, .mul 0 16 0 0, .mul 0 0 16 0, .mul 0 0 0 16,
    .andd 68 0 0 0, .andd 0 16 0 0, .andd 0 0 16 0, .andd 0 0 0 16, .orr 68 0 0 0, .orr 0 16 0 0, .orr 0 0 16 0,
    .orr 0 0 0 16, .xorr 68 0 0 0, .xorr 0 16 0 0, .xorr 0 0 16 0, .xorr 0 0 0 16, .shl 68 0 0 0, .shl 0 16 0 0,
    .shl 0 0 16 0, .shl 0 0 0 64, .shr 68 0 0 0, .shr 0 16 0 0, .shr 0 0 16 0, .shr 0 0 0 64, .addi 68 0 0 0,
    .addi 0 16 0 0, .addi 0 0 16 0, .addi 0 0 0 (-32769), .addi 0 0 0 65536, .lui 68 0 0, .lui 0 16 0, .lui 0 0 (-32769),
    .lui 0 0 65536, .branch 68 0 0, .branch 0 16 0, .branch 0 0 (-32769), .branch 0 0 32768, .call 68 0,
    .call 0 (-32769), .call 0 32768, .ret 68, .loopi 68 0 0, .loopi 0 16 0, .ldw 68 0 0 0 false, .ldw 0 16 0 0 false,
    .ldw 0 0 4 0 false, .ldw 0 0 0 4 false, .stw 68 0 0 0 false, .stw 0 16 0 0 false, .stw 0 0 4 0 false,
    .stw 0 0 0 4 false, .ldc 68 0 0 0 false, .ldc 0 16 0 0 false, .ldc 0 0 4 0 false, .ldc 0 0 0 4 false,
    .stc 68 0 0 0 false, .stc 0 16 0 0 false, .stc 0 0 4 0 false, .stc 0 0 0 4 false, .zl 68 0 0, .zl 0 4 0,
    .mgd 68 0 0 0, .mgd 0 16 0 0, .mgd 0 0 16 0, .mgd 0 0 0 16, .mdg 68 0 0 false, .mdg 0 16 0 false, .mdg 0 0 16 false,
    .mvx 68 0 0, .mvx 0 16 0, .mvx 0 0 16, .cmul 68 0 0 0, .cmul 0 16 0 0, .cmul 0 0 16 0, .cmul 0 0 0 16,
    .cmac 68 0 0 0, .cmac 0 16 0 0, .cmac 0 0 16 0, .cmac 0 0 0 16, .cmacj 68 0 0 0, .cmacj 0 16 0 0, .cmacj 0 0 16 0,
    .cmacj 0 0 0 16, .cmsu 68 0 0 0, .cmsu 0 16 0 0, .cmsu 0 0 16 0, .cmsu 0 0 0 16, .cmacm 68 0, .cmacm 0 16,
    .clra 68 0, .clra 0 16, .sac 68 0 0 0, .sac 0 16 0 0, .sac 0 0 16 0, .sac 0 0 0 64, .sacg 68 0 0 false 0,
    .sacg 0 16 0 false 0] : List Instr) (fun i => !i.wf) = true := by
  decide +kernel

/-- Each command breaks one check of its well-formedness and is refused by it. -/
theorem test_ill_formed_3 :
    List.all ([.sacg 0 0 16 false 0, .sacg 0 0 0 false 64, .inPort 68 0 0, .inPort 0 16 0, .inPort 0 0 65536, .outPort 68 0 0,
    .outPort 0 16 0, .outPort 0 0 65536, .cbx 68 0 0 0 false, .cbx 0 16 0 0 false, .cbx 0 0 4 0 false, .cbxComplete 68,
    .wait 68 0, .wait 0 16, .coreWaitWake 68, .halt 68, .illegalOpcode 68, .faultExit 68 0, .faultExit 0 16,
    .flagsClear 68 0, .flagsClear 0 16, .wdogKick 68 0, .wdogKick 0 16, .datumLoRead 68 0, .datumLoRead 0 16,
    .eventsRead 68 0, .eventsRead 0 16, .coreTimerExpire 68, .lgSend 68 0, .lgSend 0 16, .coreLegendDone 68 0,
    .appRxPop 68 0, .appRxPop 0 16, .appTxGo 68 0, .appTxGo 0 16, .winDataWrite 68 0, .winDataWrite 0 16, .winWmask 68 0,
    .winWmask 0 16, .winQpop 68 0, .winQpop 0 16, .resGo 68 0, .resGo 0 16, .resReadDone 68, .coreWdogExpire 68,
    .coreRestart 0 0, .coreRestart 1 68, .fwRestart 0, .loadBegin 0 0, .loadManifest 0 0 [], .loadManifest 1 9 [],
    .loadSegment 0 0 [], .loadSegment 1 1024 [], .loadActivate 0, .loadAbort 0, .hkRegStart 0 0, .hkRegStart 1 2,
    .hkRegTimer 2, .injStart 0 0, .injStart 1 2, .injTimer 2, .gpioRise 16, .injOverflowClear 0 0 0,
    .injOverflowClear 1 2 0, .hkEnableWrite 0 0 0, .hkEnableWrite 1 2 0, .hkSelfCal 0 0, .hkSelfCal 1 2,
    .benchCancel 0 0, .benchCancel 1 2, .benchZero 0 0 0, .benchZero 1 2 0, .benchZero 1 0 75, .benchFull 0 0 0,
    .benchFull 1 2 0, .benchFull 1 0 75, .hkCalDone 2, .aoutEnableWrite 0 0 0, .aoutEnableWrite 1 16 0,
    .aoutRangeWrite 0 0 0, .aoutRangeWrite 1 16 0, .aoutReconnect 16, .aoutConditionClear 16 false, .waveWrite 0 0 0,
    .waveWrite 1 16 0, .waveSync 0 0, .rbClear 0 0, .rbClear 1 16, .mfChannelProcess 32 false, .mfSheetSwap 0 0,
    .mfSheetSwap 1 32, .mfSwapLoaded 32, .mfSync 0 0, .outQueueRead 0 0 0, .outQueueRead 1 32 0, .outQueueRead 1 0 257,
    .ringArm 0 0 0, .ringArm 1 32768 0, .ringArm 1 0 32768, .ringRearm 0 0 0] : List Instr) (fun i => !i.wf) = true := by
  decide +kernel

/-- Each command breaks one check of its well-formedness and is refused by it. -/
theorem test_ill_formed_4 :
    List.all ([.ringRearm 1 32768 0, .ringRearm 1 0 32768, .ringForce 0 0 0, .ringForce 1 32768 0, .ringForce 1 0 32768,
    .ringStop 0 0 0, .ringStop 1 32768 0, .ringStop 1 0 32768, .ringDisarm 0 0 0, .ringDisarm 1 32768 0,
    .ringDisarm 1 0 32768, .fbRingCleared 32768, .probeUpdate 65536 0 0 0, .probeUpdate 0 256 0 0, .rdDataRead 0 0,
    .rdDataRead 1 257, .fwLevelWrite 0 0, .shutdownClear 0, .sleepNow 0, .padRelease 0, .faultLogClear 0, .sliceRun 0 0,
    .testRequest 0 0, .lcTransition 0 0 0, .enrollRoot 0 0 0, .enrollRoot 1 4 0, .revokeRoot 0 0 0, .revokeRoot 1 4 0,
    .installRootKey 0 0, .installRootKey 1 4, .installController 0 0, .installController 1 8, .removeController 0 0,
    .removeController 1 8, .commitSecver 0 0 0, .commitSecver 1 8 0, .commitCtrlVersion 0 0 0, .commitCtrlVersion 1 8 0,
    .fuseSignPolicy 0 0 0, .fuseSignPolicy 1 8 0, .idGenerate 0 0, .nonceRead 0 0, .nonceRead 1 257, .attRequest 0,
    .coreSel 68, .swReset 0, .strapReadDone [], .svStart 0, .prbsLock 8 [], .tvFrameSent 5, .sfHaltedLeadRestart 64] : List Instr) (fun i => !i.wf) = true := by
  decide +kernel

/-- Their well-formed neighbours pass. -/
theorem test_well_formed_1 :
    List.all ([.carTargetWrite 1 .a 0, .squelchSwWrite 1 .a 0, .ocClear 1 .a 0, .d2dBlockRx .a false 0 false [] 0,
    .lineDacSlip .a 0, .feIlvWindow .a 0, .cdSearchStart 1 .a, .eqBlockUpdate .a 0, .rxEqSingular .a 0, .eqReinit 1 .a 0,
    .eqTapShift .a 0, .sopPeakClear 1 .a, .rxPilotUpdate .a 0, .rxFrameHeader .a 0 [], .stageCommit 1 .a,
    .txSwitch 1 .a 0, .lxStart 1 .a, .decPeakClear 1 .a, .laneEnableWrite 1 0 0, .laneSignalDetect 0,
    .hostTrainFrameRx 0 [], .trainStepMeasure 0 0, .trainCountdownDone 0, .hostTrainTimeout 0, .hostLos 0, .retrain 1 0,
    .loopbackWrite 1 0 0, .prbsGenWrite 1 0 0, .prbsInject 1 0 0, .sfLaneRetry 0,
    .hostBlockRx 0 0 0 false false false 0 0, .slotHeaderRx 0 0 [], .hostFrameIngress 0 [] false, .slotBurstComplete 0,
    .clientStatusTick 0, .egressFrameOut 0 false, .egressSlotFrame 0, .clientPacketTimeout 0, .pllHoldoverReturn 0,
    .reband 1 .a, .spareSwap .a 0, .legendRequestBad 1 [], .registerWrite 1 ⟨0, 0, 0⟩ 0,
    .blobReadLatch 1 ⟨0, 0, 0⟩ false 0, .blobChunkWrite 1 ⟨0, 0, 0⟩ 0 0 [], .mdioServe 0 0 [] 0 0, .twiWindowRead 0 0,
    .twiWindowWrite 0 0 [], .eventNextRead 1 0 [], .alarmAck 1, .snapshot 1 0, .snapshotRelease 1, .counterClear 1 0,
    .draftOpen 1, .draftWrite 1 ⟨0, 0, 0⟩ (.num 0), .draftDiscard 1, .draftValidate 1, .draftArm 1, .disarm 1 0,
    .tvEnableWrite 1 0, .tvTrainingSetRx 0 0 0 0 0, .tvTrainingTimeout 0, .tvPortUp 0 0, .tvPortDown 0,
    .portLoopbackWrite 1 0 0, .tvIdleSetRx 0 0, .tvFrameRx 0 [] false, .neighbourTimeout 0, .dedupEntryExpire 0,
    .ibFrameRx 0 0, .datumSet 1 0, .triggerFire 0, .groupArmSend 1 0, .groupDisarmSend 1 0, .trigSend 1 0, .nop 0,
    .add 0 0 0 0, .sub 0 0 0 0, .mul 0 0 0 0, .andd 0 0 0 0, .orr 0 0 0 0, .xorr 0 0 0 0, .shl 0 0 0 0, .shr 0 0 0 0,
    .addi 0 0 0 0, .lui 0 0 0, .branch 0 0 0, .call 0 0, .ret 0, .loopi 0 0 0, .ldw 0 0 0 0 false, .stw 0 0 0 0 false,
    .ldc 0 0 0 0 false, .stc 0 0 0 0 false, .zl 0 0 0, .mgd 0 0 0 0, .mdg 0 0 0 false, .mvx 0 0 0, .cmul 0 0 0 0,
    .cmac 0 0 0 0] : List Instr) Instr.wf = true := by
  decide +kernel

/-- Their well-formed neighbours pass. -/
theorem test_well_formed_2 :
    List.all ([.cmacj 0 0 0 0, .cmsu 0 0 0 0, .cmacm 0 0, .clra 0 0, .sac 0 0 0 0, .sacg 0 0 0 false 0, .inPort 0 0 0,
    .outPort 0 0 0, .cbx 0 0 0 0 false, .cbxComplete 0, .wait 0 0, .coreWaitWake 0, .halt 0, .illegalOpcode 0,
    .faultExit 0 0, .flagsClear 0 0, .wdogKick 0 0, .datumLoRead 0 0, .eventsRead 0 0, .coreTimerExpire 0, .lgSend 0 0,
    .coreLegendDone 0 0, .appRxPop 0 0, .appTxGo 0 0, .winDataWrite 0 0, .winWmask 0 0, .winQpop 0 0, .resGo 0 0,
    .resReadDone 0, .coreWdogExpire 0, .coreRestart 1 0, .fwRestart 1, .loadBegin 1 0, .loadManifest 1 0 [],
    .loadSegment 1 0 [], .loadActivate 1, .loadAbort 1, .hkRegStart 1 0, .hkRegTimer 0, .injStart 1 0, .injTimer 0,
    .gpioRise 0, .injOverflowClear 1 0 0, .hkEnableWrite 1 0 0, .hkSelfCal 1 0, .benchCancel 1 0, .benchZero 1 0 0,
    .benchFull 1 0 0, .hkCalDone 0, .aoutEnableWrite 1 0 0, .aoutRangeWrite 1 0 0, .aoutReconnect 0,
    .aoutConditionClear 0 false, .waveWrite 1 0 0, .waveSync 1 0, .rbClear 1 0, .mfChannelProcess 0 false,
    .mfSheetSwap 1 0, .mfSwapLoaded 0, .mfSync 1 0, .outQueueRead 1 0 0, .ringArm 1 0 0, .ringRearm 1 0 0,
    .ringForce 1 0 0, .ringStop 1 0 0, .ringDisarm 1 0 0, .fbRingCleared 0, .probeUpdate 0 0 0 0, .rdDataRead 1 0,
    .fwLevelWrite 1 0, .shutdownClear 1, .sleepNow 1, .padRelease 1, .faultLogClear 1, .sliceRun 1 0, .testRequest 1 0,
    .lcTransition 1 0 0, .enrollRoot 1 0 0, .revokeRoot 1 0 0, .installRootKey 1 0, .installController 1 0,
    .removeController 1 0, .commitSecver 1 0 0, .commitCtrlVersion 1 0 0, .fuseSignPolicy 1 0 0, .idGenerate 1 0,
    .nonceRead 1 0, .attRequest 1, .coreSel 0, .swReset 1, .strapReadDone (List.replicate 8 0), .svStart 1,
    .prbsLock 0 [], .tvFrameSent 0, .sfHaltedLeadRestart 0] : List Instr) Instr.wf = true := by
  decide +kernel

/-- The state after a command. -/
def after (i : Instr) (s : State) : State :=
  match exec i s with
  | .next t => t
  | _ => s

/-- ADD of 0xFFFFFFFF and 1 wraps to 0 with carry and without overflow (11 R308, R312). -/
theorem test_add_wraps :
    let t := after (.add 0 3 1 2) (live 0 (fun x => { x with g := [0, 0xFFFFFFFF, 1, 9] ++ List.replicate 12 0 }))
    (t.core 0).gr 3 = 0 ∧ (t.core 0).c = true ∧ (t.core 0).z = true ∧ (t.core 0).v = false := by decide +kernel

/-- ADD of the largest positive value and 1 overflows (11 R308). -/
theorem test_add_overflows :
    let t := after (.add 0 1 1 2) (live 0 (fun x => { x with g := [0, 0x7FFFFFFF, 1] ++ List.replicate 13 0 }))
    (t.core 0).gr 1 = 0x80000000 ∧ (t.core 0).v = true ∧ (t.core 0).n = true := by decide +kernel

/-- LUI places its immediate at bit 14 (11 R312). -/
theorem test_lui_shifts :
    ((after (.lui 0 5 3) (live 0 id)).core 0).gr 5 = 0xC000 := by decide +kernel

/-- The last unsigned-frame carry: TX_SFC wraps modulo 2^48 (02 R48). -/
theorem test_sfc_wraps :
    (after (.txSuperframeBoundary .a) (up [(K.carState .a, 2), (K.pllState 0, 4), (K.txSfc .a, 281474976710655)])).rd (K.txSfc .a) = 0 := by
  decide +kernel

/-- A command on a halted core leaves its registers (11 R310). -/
theorem test_halted_core_keeps_registers :
    ((after (.addi 0 5 5 1) (up [(K.coreState 0, 4)])).core 0).gr 5 = 0 := by decide +kernel

/-- An unknown key is answered with its code (09 R244). -/
theorem test_unknown_key :
    ((after (.registerWrite 1 ⟨0xFE, 0, 0⟩ 1) (up [])).replyOf 1).status ≠ .ok := by decide +kernel

/-- A lane's state shown after an enabling write with training off is DATA's first (07 R213). -/
theorem test_lane_enable_trains :
    (after (.laneEnableWrite 1 2 1) (up [(K.trainEnable 2, 1)])).rd (K.laneState 2) = 1 := by decide +kernel

/-- A new pass metric above the threshold freezes the coarse frequency (04 R132). -/
theorem test_detection_settles :
    (after (.acqDetect .a 500 (-77)) (up [(K.acqPhase .a, 1), (K.trLock .a, 1), (K.detThresh .a, 500)])).rd (K.coarseFreq .a) = -77 := by
  decide +kernel

/-- One below it does not (04 R132). -/
theorem test_no_detection_below :
    (after (.acqDetect .a 499 (-77)) (up [(K.acqPhase .a, 1), (K.trLock .a, 1), (K.detThresh .a, 500)])).rd (K.acqPhase .a) = 1 := by
  decide +kernel

/-- CRC-8 of 08 R201's header field is zero for zero bytes, and CRC-32C of nothing is 0 (Codes). -/
theorem test_crc_of_nothing : crc32c [] = 0 ∧ crc8 [0, 0, 0] = 0 := by decide +kernel

/-- CRC-32C of the ASCII digits 1 to 9 is the code's published check value. -/
theorem test_crc32c_check_value : crc32c [49, 50, 51, 52, 53, 54, 55, 56, 57] = 0xE3069283 := by decide +kernel

/-- An idle step of a running device adds a nanosecond to the datum. -/
theorem test_idle_step :
    step (up []) = .next (up []).tick ∧ (up []).tick.datum = (up []).datum + 1 := by
  exact ⟨rfl, by decide +kernel⟩

/-- A queued command runs first in, first out. -/
theorem test_queue_order :
    step { (up []) with pending := [.nop 0, .nop 1] } = exec (.nop 0) { (up []) with pending := [.nop 1] } := rfl

/-- The PLL of a line die at 200 GBd: P = 1, N = 106, F = 11,184,811 (08, the worked example). -/
theorem test_pll_worked_example :
    pllRatio (800000 / 3) = 1 ∧ pllWord (800000 / 3) / 2 ^ 24 = 106 ∧ pllWord (800000 / 3) % 2 ^ 24 = 11184811 := by decide +kernel

/-- The complex product of 11's worked example. -/
theorem test_complex_product_worked_example :
    cproduct (operandOf 0x40000000DFFFFFFF) (operandOf 0x26667FFF0CCCFFFF) false = (3006444339, -429529497) := by decide +kernel

/-- Its narrowing by 17, with the floor of a negative part. -/
theorem test_narrow_worked_example :
    (narrow 18 3006444339 17).1.toInt = 22937 ∧ (narrow 18 (-429529497) 17).1.toInt = -3278 := by decide +kernel

/-- SEG_PTR of the superframes of 02's worked example, 87,994,368 coded bits each. -/
theorem test_seg_ptr_worked_example :
    (List.range 5).map (fun n => segPtrOf (87994368 * n)) = [0, 4096, 8192, 12288, 0] := by decide +kernel

/-- States and operands that meet the hypotheses of Obligations.TransmitterFramesComplete, clause by clause. -/
theorem hyps_TransmitterFramesComplete :
    (∃ (c : Carrier) (s : State), s.present c = true ∧ s.rd (K.carState c) ≠ carOff ∧ s.dieReady c = true) ∧
    (∃ (c : Carrier) (s : State), s.present c = true ∧ s.rd (K.carState c) = carAcquire ∧ (s.car c).tx.switchN = none ∧ s.switchCondition c = true) ∧
    (∃ (c : Carrier) (s : State), s.present c = true ∧ s.dieReady c = true ∧ (s.car c).tx.sending ≠ .nothing) ∧
    (∃ (c : Carrier) (s : State), s.present c = true ∧ (s.car c).tx.sending = .frames) ∧
    (∃ (c : Carrier) (s : State), s.present c = true ∧ (s.car c).tx.sending = .frames ∧ segPayload (s.rdN (K.fecOh c)) ((s.car c).tx.segNo % segCycle (s.rdN (K.fecOh c))) ≤ (s.car c).tx.infoLen) :=
  ⟨⟨.a, up [(K.carState .a, 2), (K.pllState 0, 4), (K.txSfc .a, 281474976710655)], by decide +kernel⟩,
   ⟨.a, up [(K.carState .a, 2), (K.acqPhase .a, 3), (K.farRxSync .a, 1)], by decide +kernel⟩,
   ⟨.a, upTx [(K.carState .a, 2), (K.pllState 0, 4)] (fun x => { x with sending := .soundings }), by decide +kernel⟩,
   ⟨.a, upTx [] (fun x => { x with sending := .frames, clientQ := [5] }), by decide +kernel⟩,
   ⟨.a, upTx [] (fun x => { x with sending := .frames, infoLen := 20000 }), by decide +kernel⟩⟩

/-- States and operands that meet the hypotheses of Obligations.ContourAndSquelchComplete, clause by clause. -/
theorem hyps_ContourAndSquelchComplete :
    (∃ (c : Carrier) (s : State), s.riseCondition c = true) ∧
    (∃ (c : Carrier) (s : State), s.present c = true ∧ s.rd (K.contourState c) = 1 ∧ 1 ≤ (s.car c).tx.pos + 1024 / (exactRate (s.symRate c) * s.rdN (K.contourRise c))) ∧
    (∃ (src : Nat) (c : Carrier) (s : State), s.accepts src (K.squelchSw c)) ∧
    (∃ (c : Carrier) (width : Nat) (s : State), s.present c = true ∧ (40 : Nat) ≤ width) ∧
    (∃ (width : Nat), width < (20 : Nat)) ∧
    (∃ (c : Carrier) (width : Nat) (s : State), s.present c = true ∧ (40 : Nat) ≤ width) ∧
    (∃ (c : Carrier) (cur : Nat) (s : State), s.present c = true ∧ s.rdN (K.ocLimit c.num) < cur ∧ (s.car c).tx.ocLatch = false) ∧
    (∃ (src : Nat) (c : Carrier) (s : State), s.accepts src (K.ocClear c)) ∧
    (∃ (c : Carrier) (s : State), s.present c = true) ∧
    (∃ (c : Carrier) (s : State), s.present c = true ∧ s.present c.other = true ∧ s.squelched c.other = true) :=
  ⟨⟨.a, upTx [(K.carState .a, 2), (K.pllState 0, 4)] (fun x => { x with sending := .soundings }), by decide +kernel⟩,
   ⟨.a, upTx [(K.contourState .a, 1)] (fun x => { x with pos := 1 }), by decide +kernel⟩,
   ⟨1, .a, up [], by decide +kernel⟩,
   ⟨.b, 40, up [(K.contourState .b, 2)], by decide +kernel⟩,
   ⟨19, by decide +kernel⟩,
   ⟨.a, 41, upTx [] (fun x => { x with txdis := true }), by decide +kernel⟩,
   ⟨.a, 100000, up [], by decide +kernel⟩,
   ⟨1, .a, upTx [] (fun x => { x with ocLatch := true }), by decide +kernel⟩,
   ⟨.a, up [], by decide +kernel⟩,
   ⟨.a, up [(K.squelchSw .b, 1)], by decide +kernel⟩⟩

/-- States and operands that meet the hypotheses of Obligations.ReceiverFrontEndComplete, clause by clause. -/
theorem hyps_ReceiverFrontEndComplete :
    (∃ (c : Carrier) (j : Nat) (p : _) (s : State), s.present c = true ∧ s.on (K.feIlvEnable c) = true ∧ p < (128 : Nat) ∧ (aget (s.car c).rx.ilvSum (128 * j + p) WinSum.zero).n ≠ 0) ∧
    (∃ (c : Carrier) (s : State), s.present c = true ∧ s.on (K.feIlvEnable c) = false) ∧
    (∃ (c : Carrier) (s : State), s.present c = true ∧ s.rd (K.feIqMode c) = 0) ∧
    (∃ (c : Carrier) (s : State), s.present c = true ∧ s.emitting c = true ∧ s.dieReady c = true ∧ s.rd (K.trLock c) = 0) ∧
    (∃ (c : Carrier) (s : State), s.present c = true ∧ s.rd (K.trLock c) = 1) ∧
    (∃ (c : Carrier) (s : State), s.present c = true) ∧
    (∃ (c : Carrier) (s : State), s.present c = true ∧ bitOf (s.rdN (K.rxStatus c)) 3 = true ∧ ((List.range 32).all (fun k => s.rd (K.sopRate c k) < s.rd (K.sopAlarmRate c)) = true)) ∧
    (∃ (src : Nat) (c : Carrier) (s : State), s.accepts src (K.sopPeakClear c)) ∧
    (∃ (c : Carrier) (k : Nat) (n : _) (s : State), s.present c = true ∧ s.emitting c = true ∧ k < s.subs c ∧ toPilot (s.car c).rx.cma (aget (s.car c).rx.outPos k 0) (aget (s.car c).rx.eqOut k []).length = some n) ∧
    (∃ (c : Carrier) (s : State), s.present c = true ∧ (s.car c).rx.crLimit = true ∧ s.rd (K.acqPhase c) = phLocked ∧ s.rd (K.lolHold c) ≠ 0) :=
  ⟨⟨.a, 1, 127, upRx [(K.feIlvEnable .a, 1)] (fun x => { x with ilvSum := [(255, ⟨4, 2, 3, 0⟩)] }), by decide +kernel⟩,
   ⟨.a, up [(K.feIlvEnable .a, 0)], by decide +kernel⟩,
   ⟨.a, upRx [(K.feIqMode .a, 0)] (fun x => { x with iqSumY := ⟨4, 1, 2, 2⟩ }), by decide +kernel⟩,
   ⟨.a, up [(K.carState .a, 2), (K.pllState 0, 4)], by decide +kernel⟩,
   ⟨.a, up [(K.trLock .a, 1), (K.acqPhase .a, 5), (K.trUnlockCount .a, 281474976710655)], by decide +kernel⟩,
   ⟨.a, upRx [(K.acqPhase .a, 2), (K.subcarriers .a, 5)] (fun x => { x with cr := [(31, { CrState.reset with angle := 3, periods := 32 })] }), by decide +kernel⟩,
   ⟨.a, up [(K.rxStatus .a, 8)], by decide +kernel⟩,
   ⟨2, .a, up [(K.sopRatePeak .a, 5)], by decide +kernel⟩,
   ⟨.a, 0, 1, upRx [(K.carState .a, 2)] (fun x => { x with cma := false, outPos := [(0, 8160)], eqOut := [(0, [⟨⟨1, 0⟩, ⟨0, 1⟩⟩, Pol.zero])] }), by decide +kernel⟩,
   ⟨.a, upRx [(K.acqPhase .a, 5), (K.lolHold .a, 10)] (fun x => { x with crLimit := true }), by decide +kernel⟩⟩

/-- States and operands that meet the hypotheses of Obligations.EqualiserComplete, clause by clause. -/
theorem hyps_EqualiserComplete :
    (∃ (c : Carrier) (k : Nat) (s : State), s.present c = true ∧ s.emitting c = true ∧ k < s.subs c ∧ (s.car c).rx.reinit.contains k = true ∧ (s.car c).rx.coefDue = []) ∧
    (∃ (c : Carrier) (k : Nat) (s : State), s.present c = true ∧ s.emitting c = true ∧ k < s.subs c ∧ (s.car c).rx.reinit.contains k = false ∧ (s.car c).rx.coefDue = []) ∧
    (∃ (c : Carrier) (k : Nat) (s : State), s.present c = true ∧ s.emitting c = true ∧ k < s.subs c ∧ (s.car c).rx.reinit.contains k = false ∧ (s.car c).rx.coefDue = []) ∧
    (∃ (c : Carrier) (k : Nat) (s : State), s.present c = true ∧ s.emitting c = true ∧ k < s.subs c ∧ (s.car c).rx.cma = true ∧ phLocked ≤ s.rd (K.acqPhase c)) ∧
    (∃ (c : Carrier) (k : Nat) (s : State), s.present c = true ∧ (s.car c).rx.cma = true ∧ 4 ≤ aget (s.car c).rx.singRun k 0) ∧
    (∃ (src : Nat) (c : Carrier) (s : State), s.accepts src (K.eqReinit c)) ∧
    (∃ (c : Carrier) (k : Nat) (dsk : Int) (s : State), s.present c = true ∧ (8 : Nat) ≤ (aget (s.car c).rx.shiftRun k (0, true)).1 ∧ dsk = s.rd (K.scDeskew c k) + (aget (s.car c).rx.inPtr k 0 + (if (aget (s.car c).rx.shiftRun k (0, true)).2 then 1 else -1)) / 2 - aget (s.car c).rx.inPtr k 0 / 2 ∧ (-128 : Int) ≤ dsk ∧ dsk ≤ (128 : Int)) ∧
    (∃ (c : Carrier) (k : Nat) (dsk : Int) (s : State), s.present c = true ∧ (8 : Nat) ≤ (aget (s.car c).rx.shiftRun k (0, true)).1 ∧ dsk = s.rd (K.scDeskew c k) + (aget (s.car c).rx.inPtr k 0 + (if (aget (s.car c).rx.shiftRun k (0, true)).2 then 1 else -1)) / 2 - aget (s.car c).rx.inPtr k 0 / 2 ∧ (-128 : Int) ≤ dsk ∧ dsk ≤ (128 : Int)) ∧
    (∃ (c : Carrier) (k : Nat) (s : State), s.present c = true ∧ (8 : Nat) ≤ (aget (s.car c).rx.shiftRun k (0, true)).1 ∧ (s.rd (K.scDeskew c k) + (aget (s.car c).rx.inPtr k 0 + (if (aget (s.car c).rx.shiftRun k (0, true)).2 then 1 else -1)) / 2 - aget (s.car c).rx.inPtr k 0 / 2 = 129 ∨ s.rd (K.scDeskew c k) + (aget (s.car c).rx.inPtr k 0 + (if (aget (s.car c).rx.shiftRun k (0, true)).2 then 1 else -1)) / 2 - aget (s.car c).rx.inPtr k 0 / 2 = -129)) ∧
    (∃ (c : Carrier) (k : Nat) (s : State), s.present c = true ∧ (8 : Nat) ≤ (aget (s.car c).rx.shiftRun k (0, true)).1 ∧ (s.rd (K.scDeskew c k) + (aget (s.car c).rx.inPtr k 0 + (if (aget (s.car c).rx.shiftRun k (0, true)).2 then 1 else -1)) / 2 - aget (s.car c).rx.inPtr k 0 / 2 = 129 ∨ s.rd (K.scDeskew c k) + (aget (s.car c).rx.inPtr k 0 + (if (aget (s.car c).rx.shiftRun k (0, true)).2 then 1 else -1)) / 2 - aget (s.car c).rx.inPtr k 0 / 2 = -129)) :=
  ⟨⟨.a, 0, upRx [(K.carState .a, 2)] (fun x => { x with reinit := [0] }), by decide +kernel⟩,
   ⟨.a, 0, up [(K.carState .a, 2)], by decide +kernel⟩,
   ⟨.a, 1, up [(K.carState .a, 3), (K.eqFreeze .a, 1)], by decide +kernel⟩,
   ⟨.a, 0, upRx [(K.carState .a, 3), (K.acqPhase .a, 5)] (fun x => { x with cma := true }), by decide +kernel⟩,
   ⟨.a, 3, upRx [] (fun x => { x with cma := true, singRun := [(3, 4)] }), by decide +kernel⟩,
   ⟨1, .a, up [], by decide +kernel⟩,
   ⟨.a, 0, 128, upRx [(K.scDeskew .a 0, 127)] (fun x => { x with shiftRun := [(0, 8, true)], inPtr := [(0, 1)] }), by decide +kernel⟩,
   ⟨.a, 0, -128, upRx [(K.scDeskew .a 0, -127)] (fun x => { x with shiftRun := [(0, 8, false)] }), by decide +kernel⟩,
   ⟨.a, 0, upRx [(K.scDeskew .a 0, 128)] (fun x => { x with shiftRun := [(0, 8, true)], inPtr := [(0, 1)] }), by decide +kernel⟩,
   ⟨.a, 0, upRx [(K.scDeskew .a 0, -128)] (fun x => { x with shiftRun := [(0, 8, false)] }), by decide +kernel⟩⟩

/-- States and operands that meet the hypotheses of Obligations.DispersionComplete, clause by clause. -/
theorem hyps_DispersionComplete :
    (∃ (c : Carrier) (s : State), s.present c = true ∧ (s.car c).rx.computing = true) ∧
    (∃ (c : Carrier) (v : _) (s : State), (s.car c).rx.readySwap = some v ∧ s.present c = true ∧ s.emitting c = true) ∧
    (∃ (c : Carrier) (b : Nat) (n : Nat) (v0 : CdVals) (v1 : CdVals) (s : State), (s.car c).rx.fade = some (b, n, v0, v1) ∧ s.present c = true ∧ s.emitting c = true) ∧
    (∃ (c : Carrier) (b : Nat) (n : Nat) (v0 : CdVals) (v1 : CdVals) (s : State), (s.car c).rx.fade = some (b, n, v0, v1) ∧ s.present c = true ∧ s.emitting c = true) ∧
    (∃ (c : Carrier) (b : Nat) (n : Nat) (v0 : CdVals) (v1 : CdVals) (s : State), (s.car c).rx.fade = some (b, n, v0, v1) ∧ s.present c = true ∧ s.emitting c = false) ∧
    (∃ (c : Carrier) (v : CdVals) (s : State), (s.car c).rx.readySwap = some v ∧ s.present c = true ∧ s.emitting c = false) ∧
    (∃ (src : Nat) (c : Carrier) (s : State), s.accepts src (K.cdSearchStart c) ∧ s.rd (K.carState c) ≠ carOff) ∧
    (∃ (c : Carrier) (lo : Int) (step : Nat) (n : Nat) (s : State), (s.car c).rx.search = some (lo, step, n) ∧ s.cdPolicy c = false) ∧
    (∃ (c : Carrier) (v : Int) (s : State), (s.car c).rx.cdDue = some v ∧ s.cdHunts c = true ∧ s.ed.draft = none) ∧
    (∃ (c : Carrier) (s : State), s.cdHunts c = true) :=
  ⟨⟨.a, upRx [] (fun x => { x with computing := true }), by decide +kernel⟩,
   ⟨.a, ⟨7, 0, 1550000⟩, upRx [(K.carState .a, 2)] (fun x => { x with sheet1 := ⟨⟨7, 0, 1550000⟩, true⟩, pendSwap := some ⟨7, 0, 1550000⟩ }), by decide +kernel⟩,
   ⟨.a, 1, 2, ⟨7, 0, 1⟩, ⟨9, 0, 1⟩, upRx [(K.carState .a, 2)] (fun x => { x with fade := some (1, 2, ⟨7, 0, 1⟩, ⟨9, 0, 1⟩) }), by decide +kernel⟩,
   ⟨.a, 2, 2, ⟨7, 0, 1⟩, ⟨9, 0, 1⟩, upRx [(K.carState .a, 3)] (fun x => { x with fade := some (2, 2, ⟨7, 0, 1⟩, ⟨9, 0, 1⟩) }), by decide +kernel⟩,
   ⟨.a, 0, 2, ⟨7, 0, 1⟩, ⟨9, 0, 1⟩, upRx [(K.carState .a, 1)] (fun x => { x with fade := some (0, 2, ⟨7, 0, 1⟩, ⟨9, 0, 1⟩) }), by decide +kernel⟩,
   ⟨.a, ⟨7, 0, 1550000⟩, upRx [(K.carState .a, 1)] (fun x => { x with sheet1 := ⟨⟨7, 0, 1550000⟩, true⟩, pendSwap := some ⟨7, 0, 1550000⟩ }), by decide +kernel⟩,
   ⟨1, .a, up [(K.carState .a, 1)], by decide +kernel⟩,
   ⟨.a, -5, 4, 3, upRx [] (fun x => { x with search := some (-5, 4, 3), trialMetrics := [1, 9, 2] }), by decide +kernel⟩,
   ⟨.a, 40, upRx [(K.fwState, 1), (K.acqCdPolicy .a, 0), (K.carState .a, 2), (K.acqPhase .a, 1)] (fun x => { x with cdDue := some 40 }), by decide +kernel⟩,
   ⟨.a, up [(K.fwState, 1), (K.acqCdPolicy .a, 0), (K.carState .a, 2), (K.acqPhase .a, 1)], by decide +kernel⟩⟩

/-- States and operands that meet the hypotheses of Obligations.AcquisitionComplete, clause by clause. -/
theorem hyps_AcquisitionComplete :
    (∃ (c : Carrier) (metric : Nat) (coarse : Int) (s : State), s.present c = true ∧ s.rd (K.acqPhase c) = phHunt ∧ s.rd (K.trLock c) = 1 ∧ s.rdN (K.detThresh c) ≤ metric ∧ coarse.natAbs ≤ 3600000) ∧
    (∃ (c : Carrier) (metric : Nat) (coarse : Int) (s : State), s.present c = true ∧ s.rd (K.carState c) = carAcquire ∧ phSettle ≤ s.rd (K.acqPhase c) ∧ s.rd (K.acqPhase c) ≤ phLocked ∧ s.rdN (K.detThresh c) ≤ metric ∧ coarse.natAbs ≤ 3600000 ∧ s.rd (K.trLock c) = 1 ∧ 100000 < (coarse - s.rd (K.coarseFreq c)).natAbs ∧ captureQualifies metric (s.rdN (K.detMetric c)) (s.rdN (K.captureMargin c)) = true) ∧
    (∃ (c : Carrier) (errs : List Nat) (s : State), s.present c = true ∧ s.rd (K.acqPhase c) = phSettle ∧ (s.car c).rx.sinceDet ≠ 0 ∧ testPasses (s.subs c) errs (s.rdN (K.syncErrMax c)) = true) ∧
    (∃ (c : Carrier) (s : State), s.present c = true ∧ s.rd (K.acqPhase c) = phSettle ∧ s.rdN (K.confirmSoundings c) ≤ (s.car c).rx.sinceDet) ∧
    (∃ (c : Carrier) (errs : List Nat) (snd : List Nat) (s : State), s.present c = true ∧ (s.rd (K.acqPhase c) = phSync ∨ s.rd (K.acqPhase c) = phConfirm) ∧ testPasses (s.subs c) errs (s.rdN (K.fawErrMax c)) = true ∧ testPasses (s.subs c) snd (s.rdN (K.syncErrMax c)) = false) ∧
    (∃ (c : Carrier) (errs : List Nat) (snd : List Nat) (s : State), s.present c = true ∧ (s.rd (K.acqPhase c) = phSync ∨ s.rd (K.acqPhase c) = phConfirm) ∧ testPasses (s.subs c) errs (s.rdN (K.fawErrMax c)) = true ∧ testPasses (s.subs c) snd (s.rdN (K.syncErrMax c)) = false) ∧
    (∃ (c : Carrier) (deskews : List Int) (s : State), s.present c = true ∧ s.rd (K.acqPhase c) = phConfirm ∧ 3 ≤ (s.car c).rx.fawPass ∧ (deskews.all (fun d => -128 ≤ d && d ≤ 128) = true)) ∧
    (∃ (c : Carrier) (s : State), s.present c = true ∧ s.rd (K.acqPhase c) = phHunt ∧ s.on (K.dark c) = false) ∧
    (∃ (c : Carrier) (s : State), s.present c = true ∧ s.on (K.dark c) = true ∧ s.rd (K.carState c) ≠ carOff ∧ s.dieReady c = true ∧ (s.car c).rx.bandN ≠ 0) :=
  ⟨⟨.a, 1001, -3600000, up [(K.acqPhase .a, 1), (K.trLock .a, 1), (K.dark .a, 1)], by decide +kernel⟩,
   ⟨.a, 900, 3600000, up [(K.carState .a, 2), (K.acqPhase .a, 5), (K.trLock .a, 1), (K.coarseFreq .a, 3499999)], by decide +kernel⟩,
   ⟨.a, List.replicate 32 0, upRx [(K.acqPhase .a, 2)] (fun x => { x with sinceDet := 1 }), by decide +kernel⟩,
   ⟨.a, upRx [(K.acqPhase .a, 2)] (fun x => { x with sinceDet := 1000 }), by decide +kernel⟩,
   ⟨.a, List.replicate 32 0, List.replicate 32 999, up [(K.acqPhase .a, 3)], by decide +kernel⟩,
   ⟨.a, List.replicate 32 0, List.replicate 32 999, up [(K.acqPhase .a, 4)], by decide +kernel⟩,
   ⟨.a, [-128, 128], upRx [(K.fwState, 1), (K.acqPhase .a, 4)] (fun x => { x with fawPass := 3 }), by decide +kernel⟩,
   ⟨.a, up [(K.acqPhase .a, 1)], by decide +kernel⟩,
   ⟨.a, upRx [(K.dark .a, 1), (K.carState .a, 2), (K.pllState 0, 4)] (fun x => { x with bandSum := [1, 2], bandN := 2 }), by decide +kernel⟩⟩

/-- States and operands that meet the hypotheses of Obligations.LossOfLockComplete, clause by clause. -/
theorem hyps_LossOfLockComplete :
    (∃ (c : Carrier) (s : State), s.present c = true ∧ s.rd (K.acqPhase c) = phSync ∧ 2 * s.rdN (K.lofFrames c) ≤ (s.car c).rx.failRun) ∧
    (∃ (c : Carrier) (s : State), s.present c = true ∧ s.rd (K.acqPhase c) = phLocked ∧ s.rdN (K.lofFrames c) ≤ (s.car c).rx.fawFail ∧ s.rd (K.lolHold c) ≠ 0) ∧
    (∃ (c : Carrier) (s : State), s.present c = true ∧ s.rd (K.acqPhase c) = phHold ∧ 3 ≤ (s.car c).rx.fawPass) ∧
    (∃ (c : Carrier) (s : State), s.present c = true ∧ s.rd (K.acqPhase c) = phHold) ∧
    (∃ (c : Carrier) (s : State), s.present c = true ∧ s.rd (K.acqPhase c) = phSync ∧ s.rd (K.carState c) = carService ∧ (s.car c).rx.frameWait = true) ∧
    (∃ (c : Carrier) (s : State), s.present c = true ∧ s.rd (K.carState c) = carService ∧ (s.car c).tx.returnPending = true) ∧
    (∃ (src : Nat) (c : Carrier) (v : Int) (s : State), s.accepts src (K.carTarget c) ∧ s.operational = true ∧ s.underTest (5 + c.num) 0 = false ∧ s.rd (K.carState c) = carOff ∧ s.rd (K.pllState c.num) = 0 ∧ (s.die c).waitRef = false ∧ (s.die c).stopped = false ∧ s.rd K.refclkStatus = 0 ∧ 0 < v) ∧
    (∃ (src : Nat) (c : Carrier) (v : Int) (s : State), s.accepts src (K.carTarget c) ∧ s.operational = true ∧ s.underTest (5 + c.num) 0 = false ∧ s.rd (K.carState c) = carOff ∧ s.rd (K.pllState c.num) = 0 ∧ (s.die c).waitRef = false ∧ (s.die c).stopped = false ∧ s.rd K.refclkStatus = 0 ∧ 0 < v) ∧
    (∃ (src : Nat) (c : Carrier) (s : State), s.accepts src (K.carTarget c) ∧ s.operational = true ∧ s.underTest (5 + c.num) 0 = false ∧ s.emitting c = true) ∧
    (∃ (c : Carrier) (s : State), s.present c = true ∧ s.rd (K.carState c) = carStandby ∧ s.rd (K.carTarget c) = 0 ∧ s.rd (K.contourState c) = 0 ∧ (s.ed.armed.all (fun e => e.mode ≠ 2 + c.num) = true)) :=
  ⟨⟨.a, upRx [(K.acqPhase .a, 3), (K.lofFrames .a, 8)] (fun x => { x with failRun := 16 }), by decide +kernel⟩,
   ⟨.a, upRx [(K.acqPhase .a, 5), (K.lofFrames .a, 8), (K.lolHold .a, 1)] (fun x => { x with fawFail := 8 }), by decide +kernel⟩,
   ⟨.a, upRx [(K.acqPhase .a, 6)] (fun x => { x with fawPass := 3 }), by decide +kernel⟩,
   ⟨.a, up [(K.acqPhase .a, 6), (K.carState .a, 3)], by decide +kernel⟩,
   ⟨.a, upRx [(K.acqPhase .a, 3), (K.carState .a, 3)] (fun x => { x with frameWait := true }), by decide +kernel⟩,
   ⟨.a, upTx [(K.fwState, 1), (K.carState .a, 3)] (fun x => { x with returnPending := true, frameNo := 9 }), by decide +kernel⟩,
   ⟨1, .a, 2, up [(K.refclkStatus, 0)], by decide +kernel⟩,
   ⟨3, .a, 3, up [(K.refclkStatus, 0)], by decide +kernel⟩,
   ⟨1, .a, up [(K.carState .a, 3), (K.acqPhase .a, 5)], by decide +kernel⟩,
   ⟨.a, up [(K.carState .a, 1), (K.pllState 0, 4)], by decide +kernel⟩⟩

/-- States and operands that meet the hypotheses of Obligations.HeadersAndSuperframesComplete, clause by clause. -/
theorem hyps_HeadersAndSuperframesComplete :
    (∃ (c : Carrier) (s : State), s.present c = true ∧ phConfirm ≤ s.rd (K.acqPhase c)) ∧
    (∃ (c : Carrier) (s : State), s.present c = true ∧ phConfirm ≤ s.rd (K.acqPhase c)) ∧
    (∃ (c : Carrier) (s : State), s.present c = true ∧ phConfirm ≤ s.rd (K.acqPhase c)) ∧
    (∃ (c : Carrier) (s : State), s.present c = true) ∧
    (∃ (c : Carrier) (h : _) (s : State), s.present c = true ∧ s.rd (K.carState c) = carService ∧ s.rd (K.acqPhase c) = phLocked ∧ (s.car c).fec.fromStart = true ∧ (s.car c).fec.accepting = false ∧ (s.car c).rx.unknown = false ∧ (s.car c).rx.hdrSf = some h) ∧
    (∃ (c : Carrier) (s : State), s.present c = true ∧ (s.car c).fec.accepting = true ∧ (s.rd (K.carState c) ≠ carService ∨ s.rd (K.acqPhase c) ≠ phLocked)) ∧
    (∃ (c : Carrier) (s : State), s.present c = true ∧ (s.car c).fec.accepting = true ∧ (s.car c).fec.skip + 16384 ≤ (s.car c).rx.llrs.length) ∧
    (∃ (c : Carrier) (s : State), s.present c = true ∧ (s.car c).fec.window ≠ []) ∧
    (∃ (c : Carrier) (s : State), s.present c = true ∧ s.mayRelease c = true) :=
  ⟨⟨.a, up [(K.acqPhase .a, 5)], by decide +kernel⟩,
   ⟨.a, up [(K.acqPhase .a, 4)], by decide +kernel⟩,
   ⟨.a, up [(K.acqPhase .a, 6)], by decide +kernel⟩,
   ⟨.a, upRx [(K.acqPhase .a, 5)] (fun x => { x with pilotErr := [(0, ⟨2, 1, 0, 0⟩)] }), by decide +kernel⟩,
   ⟨.a, ⟨1, 0, 0, false, 5, 6⟩, (upRx [(K.carState .a, 3), (K.acqPhase .a, 5)] (fun x => { x with hdrSf := some ⟨1, 0, 0, false, 5, 6⟩ })).modFec .a (fun x => { x with fromStart := true }), by decide +kernel⟩,
   ⟨.a, upFec [(K.carState .a, 2)] (fun x => { x with accepting := true }), by decide +kernel⟩,
   ⟨.a, (upFec [] (fun x => { x with accepting := true, skip := 1 })).modRx .a (fun x => { x with llrs := List.replicate 16386 (some 5) }), by decide +kernel⟩,
   ⟨.a, upFec [] (fun x => { x with segs := [⟨0, 0, 0, 0, false, false, [], [], []⟩, ⟨1, 0, 0, 0, false, false, [], [], []⟩] }), by decide +kernel⟩,
   ⟨.a, upFec [] (fun x => { x with wNow := 0, segs := [⟨0, 0, 0, 30, false, false, [], [], []⟩, ⟨1, 0, 0, 0, false, false, [], [], []⟩] }), by decide +kernel⟩⟩

/-- States and operands that meet the hypotheses of Obligations.DecoderResultsComplete, clause by clause. -/
theorem hyps_DecoderResultsComplete :
    (∃ (c : Carrier) (o : OutSeg) (rest : List OutSeg) (s : State), s.present c = true ∧ (s.car c).fec.outer = o :: rest) ∧
    (∃ (c : Carrier) (o : OutSeg) (rest : List OutSeg) (s : State), s.present c = true ∧ (s.car c).fec.outer = o :: rest) ∧
    (∃ (s : State), s.capNow ≠ s.rdN K.iterCapEff) ∧
    (∃ (c : Carrier) (v0 : Nat) (e0 : Bool) (st0 : Bool) (q : List Chunk) (v : Nat) (errored : Bool) (starting : Bool) (rest : List Chunk) (s : State), s.present c = true ∧ takeBits (s.car c).fec.lbQ (s.car c).fec.lbSkip 0 false false = some (v0, e0, st0, q) ∧ takeBits q 4096 0 false false = some (v, errored, starting, rest)) ∧
    (∃ (c : Carrier) (s : State), s.present c = true) ∧
    (∃ (src : Nat) (c : Carrier) (s : State), s.accepts src (K.decPeakClear c)) ∧
    (∃ (c : Carrier) (s : State), s.present c = true ∧ s.firmware = true ∧ s.rd (K.acqPhase c) = phLocked ∧ (s.car c).fec.anyCorrected = false) :=
  ⟨⟨.a, ⟨⟨0, 0, 0, 0, false, false, [], [], []⟩, true⟩, [], upFec [] (fun x => { x with startup := 0, outer := [⟨⟨0, 0, 0, 0, false, false, [], [], []⟩, true⟩] }), by decide +kernel⟩,
   ⟨.a, ⟨⟨0, 0, 0, 0, false, false, [], [], []⟩, true⟩, [], upFec [] (fun x => { x with startup := 2, outer := [⟨⟨0, 0, 0, 0, false, false, [], [], []⟩, true⟩] }), by decide +kernel⟩,
   ⟨up [(K.throttleLevel, 2), (K.iterCap, 24), (K.iterCapEff, 24)], by decide +kernel⟩,
   ⟨.a, 0, false, false, [⟨7, 4097, false, false⟩], 3, false, false, [⟨1, 1, false, false⟩], upFec [] (fun x => { x with lbQ := [⟨7, 4097, false, false⟩] }), by decide +kernel⟩,
   ⟨.a, upFec [] (fun x => { x with ivCoded := 16384, ivCorr := 4 }), by decide +kernel⟩,
   ⟨1, .a, up [(K.decSlots .a, 3), (K.decSlotsPeak .a, 9)], by decide +kernel⟩,
   ⟨.a, up [(K.fwState, 1), (K.acqPhase .a, 5)], by decide +kernel⟩⟩

/-- States and operands that meet the hypotheses of Obligations.LoadingSetsComplete, clause by clause. -/
theorem hyps_LoadingSetsComplete :
    (∃ (src : Nat) (c : Carrier) (s : State), s.accepts src (K.stageCommit c) ∧ s.stageRefusal c = 0) ∧
    (∃ (c : Carrier) (g : Staging) (s : State), s.present c = true ∧ (s.car c).rx.staging = some g) ∧
    (∃ (src : Nat) (c : Carrier) (v : Int) (s : State), s.accepts src (K.txSwitch c) ∧ (clampKey (K.txSwitch c) v).toNat / 2 ^ 56 ≠ 0 ∧ s.switchRefusal c ((clampKey (K.txSwitch c) v).toNat / 2 ^ 56) ((clampKey (K.txSwitch c) v).toNat % 2 ^ 48) = 0) ∧
    (∃ (src : Nat) (c : Carrier) (v : Int) (s : State), s.accepts src (K.txSwitch c) ∧ (clampKey (K.txSwitch c) v).toNat / 2 ^ 56 = 0) ∧
    (∃ (c : Carrier) (p : PendSwitch) (s : State), s.present c = true ∧ (s.car c).tx.pend = some p) :=
  ⟨⟨1, .a, up [(K.stageTag .a, 7)], by decide +kernel⟩,
   ⟨.a, ⟨1, ⟨7, []⟩⟩, upRx [(K.stageResult .a, 5)] (fun x => { x with staging := some ⟨1, ⟨7, []⟩⟩ }), by decide +kernel⟩,
   ⟨1, .a, 216172782113793000, up [(K.carState .a, 3)], by decide +kernel⟩,
   ⟨1, .a, 5, upTx [] (fun x => { x with pend := some ⟨3, 5, 0⟩ }), by decide +kernel⟩,
   ⟨.a, ⟨3, 5, 0⟩, upTx [] (fun x => { x with pend := some ⟨3, 5, 0⟩ }), by decide +kernel⟩⟩

/-- States and operands that meet the hypotheses of Obligations.ExchangeMessagesComplete, clause by clause. -/
theorem hyps_ExchangeMessagesComplete :
    (∃ (c : Carrier) (from_ : Nat) (p : List Byte) (rest : List (List Byte)) (s : State), s.firmware = true ∧ takeLx s.cores.appRx 1 = some (from_, p, rest) ∧ s.receiverOf from_ ((nth p 1 (0 : Byte)).toNat % 2) = some c ∧ (nth p 6 (0 : Byte)).toNat = s.subs c ∧ p.length = 11 + 3 * s.subs c ∧ beNat ((p.drop 7).take 4) = s.fbCrcOf c) ∧
    (∃ (from_ : Nat) (p : List Byte) (rest : List (List Byte)) (s : State), s.firmware = true ∧ takeLx s.cores.appRx 2 = some (from_, p, rest) ∧ s.present (carrierOf p) = true ∧ p.length = 11 ∧ s.rd (K.lxState (carrierOf p)) = 1 ∧ lxSeq p = (s.car (carrierOf p)).lx.seq) ∧
    (∃ (from_ : Nat) (p : List Byte) (rest : List (List Byte)) (s : State), s.firmware = true ∧ takeLx s.cores.appRx 3 = some (from_, p, rest) ∧ s.present (carrierOf p) = true ∧ p.length = 8 ∧ s.rd (K.lxState (carrierOf p)) = 1 ∧ lxSeq p = (s.car (carrierOf p)).lx.seq) ∧
    (∃ (from_ : Nat) (p : List Byte) (rest : List (List Byte)) (s : State), s.firmware = true ∧ takeLx s.cores.appRx 4 = some (from_, p, rest) ∧ s.present (carrierOf p) = true ∧ p.length = 17 ∧ (s.rd (K.lxState (carrierOf p)) = 2 ∨ s.rd (K.lxState (carrierOf p)) = 3) ∧ lxSeq p = (s.car (carrierOf p)).lx.seq) ∧
    (∃ (c : Carrier) (from_ : Nat) (p : List Byte) (rest : List (List Byte)) (s : State), s.firmware = true ∧ takeLx s.cores.appRx 5 = some (from_, p, rest) ∧ s.receiverOf from_ ((nth p 1 (0 : Byte)).toNat % 2) = some c ∧ lxSeq p = (s.car c).lx.rxSeq) ∧
    (∃ (from_ : Nat) (p : List Byte) (rest : List (List Byte)) (s : State), s.firmware = true ∧ takeLx s.cores.appRx 6 = some (from_, p, rest) ∧ s.present (carrierOf p) = true ∧ p.length = 7 + 2 * (nth p 6 (0 : Byte)).toNat) ∧
    (∃ (from_ : Nat) (p : List Byte) (rest : List (List Byte)) (s : State), s.firmware = true ∧ takeLx s.cores.appRx 7 = some (from_, p, rest) ∧ s.present (carrierOf p) = true ∧ p.length = 10) ∧
    (∃ (from_ : Nat) (p : List Byte) (rest : List (List Byte)) (s : State), s.firmware = true ∧ takeLx s.cores.appRx 7 = some (from_, p, rest) ∧ s.present (carrierOf p) = true ∧ p.length = 10) :=
  ⟨⟨.a, 0, [1, 0, 0, 0, 0, 5, 1] ++ beBytes 4 (crc32c LoadSet.reset.image) ++ [0, 100, 0], [], msg [(K.subcarriers .a, 0)] ([1, 0, 0, 0, 0, 5, 1] ++ beBytes 4 (crc32c LoadSet.reset.image) ++ [0, 100, 0]), by decide +kernel⟩,
   ⟨0, [2, 0, 0, 0, 0, 5, 0, 9, 0, 8, 3], [], msg [(K.lxState .a, 1)] [2, 0, 0, 0, 0, 5, 0, 9, 0, 8, 3], by decide +kernel⟩,
   ⟨0, [3, 0, 0, 0, 0, 5, 2, 0], [], msg [(K.lxState .a, 1)] [3, 0, 0, 0, 0, 5, 2, 0], by decide +kernel⟩,
   ⟨0, [4, 0, 0, 0, 0, 5, 0, 0, 0, 0, 0, 9, 0, 9, 0, 8, 1], [], msg [(K.lxState .a, 3), (K.lxState .b, 1)] [4, 0, 0, 0, 0, 5, 0, 0, 0, 0, 0, 9, 0, 9, 0, 8, 1], by decide +kernel⟩,
   ⟨.a, 0, [5, 0, 0, 0, 0, 5], [], msg [] [5, 0, 0, 0, 0, 5], by decide +kernel⟩,
   ⟨0, [6, 0, 0, 0, 0, 5, 1, 255, 255], [], msg [] [6, 0, 0, 0, 0, 5, 1, 255, 255], by decide +kernel⟩,
   ⟨0, [7, 1, 0, 0, 0, 5, 255, 255, 255, 255], [], msg [] [7, 1, 0, 0, 0, 5, 255, 255, 255, 255], by decide +kernel⟩,
   ⟨0, [7, 0, 0, 0, 0, 5, 255, 0, 0, 9], [], msg [] [7, 0, 0, 0, 0, 5, 255, 0, 0, 9], by decide +kernel⟩⟩

/-- States and operands that meet the hypotheses of Obligations.ExchangeTimersComplete, clause by clause. -/
theorem hyps_ExchangeTimersComplete :
    (∃ (c : Carrier) (s : State), s.present c = true ∧ s.firmware = true ∧ s.rd (K.lxState c) = 1) ∧
    (∃ (c : Carrier) (s : State), s.present c = true ∧ s.firmware = true ∧ s.rd (K.lxState c) = 3) ∧
    (∃ (c : Carrier) (s : State), s.present c = true ∧ s.firmware = true ∧ s.rd (K.lxState c) = 0 ∧ 2 ≤ s.rd (K.lxResult c) ∧ s.rd (K.lxResult c) ≤ 6 ∧ s.rd (K.lpMode c) ≠ 2 ∧ (s.car c).lx.blocked ≠ some (s.lxSnapshot c)) ∧
    (∃ (c : Carrier) (s : State), s.present c = true ∧ s.firmware = true) ∧
    (∃ (src : Nat) (c : Carrier) (s : State), s.accepts src (K.lxStart c) ∧ s.firmware = true ∧ s.rd (K.lpMode c) = 1 ∧ (s.rd (K.lxState c) = 2 ∨ s.rd (K.lxState c) = 3)) ∧
    (∃ (src : Nat) (c : Carrier) (s : State), s.accepts src (K.lxStart c) ∧ s.firmware = true ∧ s.rd (K.lpMode c) = 1 ∧ s.rd (K.lxState c) = 0 ∧ (s.car c).lx.held = none) ∧
    (∃ (c : Carrier) (s : State), s.present c = true ∧ s.firmware = true ∧ (s.car c).lx.waiting = true ∧ s.rd (K.lxState c) = 0 ∧ s.rd (K.lpMode c) ≠ 2 ∧ s.staging = false ∧ s.ed.draft = none) :=
  ⟨⟨.a, up [(K.fwState, 1), (K.lxState .a, 1)], by decide +kernel⟩,
   ⟨.a, up [(K.fwState, 1), (K.lxState .a, 3)], by decide +kernel⟩,
   ⟨.a, up [(K.fwState, 1), (K.lxResult .a, 6)], by decide +kernel⟩,
   ⟨.a, up [(K.fwState, 1), (K.acqPhase .a, 5)], by decide +kernel⟩,
   ⟨1, .a, up [(K.fwState, 1), (K.lpMode .a, 1), (K.lxState .a, 2)], by decide +kernel⟩,
   ⟨1, .a, up [(K.fwState, 1), (K.lpMode .a, 1)], by decide +kernel⟩,
   ⟨.a, (up [(K.fwState, 1)]).modLx .a (fun x => { x with waiting := true }), by decide +kernel⟩⟩

/-- States and operands that meet the hypotheses of Obligations.EditionsComplete, clause by clause. -/
theorem hyps_EditionsComplete :
    (∃ (src : Nat) (s : State), s.accepts src K.draftOpen ∧ s.ed.draft = none) ∧
    (∃ (src : Nat) (k : Key) (d : Draft) (s : State), s.accepts src k ∧ ((rowOf (canonKey k)).any (fun r => r.access = .ed) = true) ∧ s.ed.draft = some d ∧ d.owner = src ∧ (hasElem d.elems (canonKey k) = true ∨ d.elems.length < 8192)) ∧
    (∃ (src : Nat) (d : Draft) (s : State), s.accepts src K.draftDiscard ∧ s.ed.draft = some d ∧ (d.owner = src ∨ isPlotter src = true)) ∧
    (∃ (d : Draft) (s : State), s.ed.draft = some d) ∧
    (∃ (src : Nat) (d : Draft) (s : State), s.accepts src K.draftValidate ∧ s.ed.draft = some d ∧ d.owner = src ∧ ((((s.accepted src).projected (fun _ => true)).putElems d.elems).editionRules d.elems = [])) ∧
    (∃ (src : Nat) (d : Draft) (s : State), s.accepts src K.draftArm ∧ s.ed.draft = some d ∧ d.owner = src ∧ d.validated = true ∧ (s.accepted src).armingFaults ((s.accepted src).asEdition d 0) = []) ∧
    (∃ (src : Nat) (id : Int) (e : Edition) (s : State), s.accepts src K.disarm ∧ (s.ed.armed.find? (fun e => e.id = (clampKey K.disarm id).toNat) = some e) ∧ (e.src = src ∨ isPlotter src = true)) ∧
    (∃ (e : Edition) (s : State), s.ed.armed.find? s.editionDue = some e) :=
  ⟨⟨1, up [], by decide +kernel⟩,
   ⟨1, K.cdValue .a, ⟨1, 1, true, []⟩, drafted ⟨1, 1, true, []⟩, by decide +kernel⟩,
   ⟨0x1003, ⟨1, 1, true, []⟩, drafted ⟨1, 1, true, []⟩, by decide +kernel⟩,
   ⟨⟨1, 1, true, []⟩, drafted ⟨1, 1, true, []⟩, by decide +kernel⟩,
   ⟨1, ⟨1, 1, false, []⟩, drafted ⟨1, 1, false, []⟩, by decide +kernel⟩,
   ⟨1, ⟨1, 1, true, []⟩, drafted ⟨1, 1, true, []⟩, by decide +kernel⟩,
   ⟨1, 4, ⟨4, 1, 1, 500, [], 0, 0⟩, armedWith ⟨4, 1, 1, 500, [], 0, 0⟩, by decide +kernel⟩,
   ⟨⟨4, 1, 1, 0, [], 0, 0⟩, armedWith ⟨4, 1, 1, 0, [], 0, 0⟩, by decide +kernel⟩⟩

/-- States and operands that meet the hypotheses of Obligations.GroupArmingComplete, clause by clause. -/
theorem hyps_GroupArmingComplete :
    (∃ (src : Nat) (s : State), s.accepts src K.groupArmSend) ∧
    (∃ (src : Nat) (s : State), s.accepts src K.groupDisarmSend) ∧
    (∃ (x : TvIn) (s' : State) (d : Draft) (s : State), s.takeIn 6 = some (x, s') ∧ s.ed.draft = some d ∧ d.validated = true ∧ beNat (x.frame.payload.take 2) ≠ 0 ∧ s.rdN K.draftGroup = beNat (x.frame.payload.take 2) ∧ (nth x.frame.payload 2 (0 : Byte)).toNat = 1) ∧
    (∃ (x : TvIn) (s' : State) (s : State), s.takeIn 7 = some (x, s')) ∧
    (∃ (x : TvIn) (s' : State) (s : State), s.takeIn 8 = some (x, s')) :=
  ⟨⟨1, up [], by decide +kernel⟩,
   ⟨1, up [], by decide +kernel⟩,
   ⟨⟨⟨6, true, false, 1, 0, 7, 0, 0, 0, 0, [0, 1, 1, 0, 0, 0, 0, 0, 0, 0, 0, 9]⟩, 5, 0⟩, { (drafted ⟨1, 1, true, []⟩) with leg := [(K.draftGroup, 1)] }, ⟨1, 1, true, []⟩, { (drafted ⟨1, 1, true, []⟩) with leg := [(K.draftGroup, 1)], tv := { TvState.reset with inbox := [⟨⟨6, true, false, 1, 0, 7, 0, 0, 0, 0, [0, 1, 1, 0, 0, 0, 0, 0, 0, 0, 0, 9]⟩, 5, 0⟩] } }, by decide +kernel⟩,
   ⟨⟨⟨7, true, false, 1, 0, 7, 0, 0, 0, 0, [0, 1]⟩, 5, 0⟩, armedWith ⟨4, 1, 1, 500, [], 0, 1⟩, { (armedWith ⟨4, 1, 1, 500, [], 0, 1⟩) with tv := { TvState.reset with inbox := [⟨⟨7, true, false, 1, 0, 7, 0, 0, 0, 0, [0, 1]⟩, 5, 0⟩] } }, by decide +kernel⟩,
   ⟨⟨⟨8, true, false, 1, 0, 7, 0, 0, 0, 0, [0, 1, 2, 3]⟩, 5, 0⟩, up [], { (up []) with tv := { TvState.reset with inbox := [⟨⟨8, true, false, 1, 0, 7, 0, 0, 0, 0, [0, 1, 2, 3]⟩, 5, 0⟩] } }, by decide +kernel⟩⟩

/-- States and operands that meet the hypotheses of Obligations.ClockingComplete, clause by clause. -/
theorem hyps_ClockingComplete :
    (∃ (s : State), s.rd K.refclkStatus ≠ 1) ∧
    (∃ (ppm : Int) (s : State), 20000 < ppm.natAbs ∧ s.rd K.refclkStatus ≠ 2) ∧
    (∃ (s : State), s.rd K.refclkStatus ≠ 0) ∧
    (∃ (p : Nat) (s : State), p < 5 ∧ s.rd (K.pllState p) = 5 ∧ s.rd K.refclkStatus = 0) ∧
    (∃ (c : Carrier) (s : State), s.present c = true ∧ s.rd (K.pllState c.num) = 1) ∧
    (∃ (c : Carrier) (s : State), s.present c = true ∧ s.rd (K.pllState c.num) = 2) ∧
    (∃ (c : Carrier) (s : State), s.present c = true ∧ s.rd (K.pllState c.num) = 3 ∧ (s.ed.armed.all (fun e => e.mode ≠ 2 + c.num) = true)) ∧
    (∃ (c : Carrier) (s : State), s.present c = true ∧ s.rd (K.pllState c.num) = 3 ∧ (s.ed.armed.all (fun e => e.mode ≠ 2 + c.num) = true)) ∧
    (∃ (c : Carrier) (s : State), s.present c = true ∧ s.dieReady c = true) ∧
    (∃ (src : Nat) (c : Carrier) (s : State), s.accepts src (K.reband c.num) ∧ s.present c = true ∧ s.rd (K.carState c) = carStandby) ∧
    (∃ (c : Carrier) (s : State), s.present c = true ∧ s.rd (K.pllState c.num) = 4) ∧
    (∃ (c : Carrier) (s : State), s.present c = true) :=
  ⟨⟨up [(K.refclkStatus, 0)], by decide +kernel⟩,
   ⟨-20001, up [(K.refclkStatus, 0)], by decide +kernel⟩,
   ⟨up [(K.refclkStatus, 1)], by decide +kernel⟩,
   ⟨4, up [(K.pllState 4, 5), (K.refclkStatus, 0)], by decide +kernel⟩,
   ⟨.a, up [(K.pllState 0, 1)], by decide +kernel⟩,
   ⟨.b, up [(K.pllState 1, 2)], by decide +kernel⟩,
   ⟨.a, up [(K.pllState 0, 3)], by decide +kernel⟩,
   ⟨.a, up [(K.pllState 0, 3), (K.carState .a, 1)], by decide +kernel⟩,
   ⟨.a, up [(K.pllState 0, 4), (K.vcoTcEnable 0, 1)], by decide +kernel⟩,
   ⟨1, .a, up [(K.carState .a, 1), (K.pllState 0, 4), (K.refclkStatus, 0)], by decide +kernel⟩,
   ⟨.a, up [(K.pllState 0, 4), (K.contourState .a, 2)], by decide +kernel⟩,
   ⟨.a, up [(K.adcFsTrim 0, 5)], by decide +kernel⟩⟩

/-- States and operands that meet the hypotheses of Obligations.LineConvertersComplete, clause by clause. -/
theorem hyps_LineConvertersComplete :
    (∃ (c : Carrier) (s : State), s.present c = true ∧ s.dieReady c = true ∧ s.rd (K.carState c) ≠ carOff) ∧
    (∃ (c : Carrier) (s : State), s.present c = true ∧ (s.die c).visiting = true) ∧
    (∃ (c : Carrier) (n : Nat) (s : State), s.present c = true ∧ s.dieReady c = true ∧ s.rd (K.carState c) ≠ carOff ∧ n < 16 ∧ n < (s.die c).tiles.length ∧ (nth (s.die c).tiles n Tile.reset).tested = true) ∧
    (∃ (c : Carrier) (j : Nat) (s : State), s.present c = true ∧ s.dieReady c = true ∧ j < 4) ∧
    (∃ (c : Carrier) (j : Nat) (s : State), s.present c = true ∧ s.dieReady c = true ∧ j < 4) ∧
    (∃ (c : Carrier) (j : Nat) (taken : Nat) (buf : List Nat) (s : State), s.present c = true ∧ s.dieReady c = true ∧ j < 4 ∧ j < (s.die c).adcBuf.length ∧ buf = (if nth (s.die c).adcOn j false then (nth (s.die c).adcBuf j []).drop taken else nth (s.die c).adcBuf j []) ∧ adcOverflow (nth (s.die c).adcDrop j false) buf.length = false) ∧
    (∃ (c : Carrier) (j : Nat) (s : State), s.present c = true ∧ s.dieReady c = true ∧ j < 4 ∧ j < (s.die c).dacOut.length ∧ s.squelched c = true) ∧
    (∃ (c : Carrier) (j : Nat) (s : State), s.present c = true ∧ j < 4 ∧ nth (s.die c).dacShort j 0 ≠ 0) ∧
    (∃ (c : Carrier) (s : State), s.present c = true) :=
  ⟨⟨.a, up [(K.pllState 0, 4), (K.carState .a, 1)], by decide +kernel⟩,
   ⟨.a, (up [(K.calTile 0, 15)]).modDie .a (fun d => { d with visiting := true }), by decide +kernel⟩,
   ⟨.a, 0, (up [(K.tileSpare 0, 32), (K.carState .a, 1), (K.pllState 0, 4)]).modDie .a (fun d => { d with tiles := d.tiles.modify 0 (fun x => { x with tested := true }) }), by decide +kernel⟩,
   ⟨.a, 3, up [(K.pllState 0, 4)], by decide +kernel⟩,
   ⟨.a, 0, up [(K.pllState 0, 5)], by decide +kernel⟩,
   ⟨.a, 3, 1, [6], (up [(K.pllState 0, 4)]).modDie .a (fun d => { d with adcBuf := [[], [], [], [6]] }), by decide +kernel⟩,
   ⟨.a, 3, up [(K.pllState 0, 4), (K.squelchSw .a, 1)], by decide +kernel⟩,
   ⟨.b, 3, (up []).modDie .b (fun d => { d with dacShort := [0, 0, 0, 512] }), by decide +kernel⟩,
   ⟨.a, up [], by decide +kernel⟩⟩

/-- States and operands that meet the hypotheses of Obligations.HostLanesComplete, clause by clause. -/
theorem hyps_HostLanesComplete :
    (∃ (src : Nat) (n : Nat) (s : State), s.accepts src (K.laneEnable n) ∧ s.operational = true ∧ s.underTest 3 n = false) ∧
    (∃ (src : Nat) (n : Nat) (s : State), s.accepts src (K.laneEnable n) ∧ s.operational = true ∧ s.underTest 3 n = false) ∧
    (∃ (n : Nat), n < 8) ∧
    (∃ (n : Nat) (lv : List Int) (ctl : Nat) (s : State), n < 8 ∧ n < s.host.lanes.length ∧ s.rd (K.laneState n) = 2 ∧ trainCtl (s.polar n 1 lv) = some ctl ∧ bitsOf ctl 15 0 = crc16Bits ((bitList 48 ctl).take 32) ∧ 2 ≤ (s.lane n).good) ∧
    (∃ (n : Nat) (s : State), n < 8 ∧ s.rd (K.laneState n) = 3 ∧ (s.lane n).rq.step = 3) ∧
    (∃ (n : Nat) (s : State), n < 8 ∧ s.rd (K.laneState n) = 5 ∧ (s.lane n).count = 0) ∧
    (∃ (n : Nat) (s : State), n < 8 ∧ s.training n = true) ∧
    (∃ (n : Nat), n < 8) ∧
    (∃ (src : Nat) (n : Nat) (s : State), s.accepts src (K.retrain n) ∧ 6 ≤ s.rd (K.laneState n) ∧ s.rd (K.laneState n) ≤ 8) ∧
    (∃ (src : Nat) (n : Nat) (v : Int) (s : State), s.accepts src (K.loopback n) ∧ s.rd (K.laneState n) ≠ 0 ∧ clampKey (K.loopback n) v ≠ 0) ∧
    (∃ (src : Nat) (n : Nat) (v : Int) (s : State), s.accepts src (K.prbsGen n) ∧ s.rd (K.laneState n) ≠ 0 ∧ clampKey (K.prbsGen n) v ≠ 0) ∧
    (∃ (src : Nat) (n : Nat) (s : State), s.accepts src (K.prbsInject n) ∧ n < s.host.lanes.length) ∧
    (∃ (n : Nat) (s : State), n < 8 ∧ s.firmware = true ∧ s.rd K.trainRetry ≠ 0 ∧ s.rd (K.laneState n) = 7 ∧ s.on (K.pcsAligned n) = false) ∧
    (∃ (n : Nat) (s : State), n < 8 ∧ n < s.host.lanes.length ∧ s.rd (K.prbsChk n) ≠ 0) ∧
    (∃ (n : Nat) (s : State), n < 8 ∧ n < s.host.lanes.length ∧ s.rd (K.prbsChk n) ≠ 0) :=
  ⟨⟨1, 7, up [(K.trainEnable 7, 1)], by decide +kernel⟩,
   ⟨2, 0, up [(K.laneState 0, 6)], by decide +kernel⟩,
   ⟨7, by decide +kernel⟩,
   ⟨1, trainHead (crc16Bits (List.replicate 32 false)), crc16Bits (List.replicate 32 false), (up [(K.laneState 1, 2)]).modLane 1 (fun l => { l with good := 2 }), by decide +kernel⟩,
   ⟨0, (up [(K.laneState 0, 3)]).modLane 0 (fun l => { l with rq := { l.rq with step := 3 } }), by decide +kernel⟩,
   ⟨7, (up [(K.laneState 7, 5)]).modLane 7 (fun l => { l with count := 0 }), by decide +kernel⟩,
   ⟨0, up [(K.laneState 0, 1)], by decide +kernel⟩,
   ⟨7, by decide +kernel⟩,
   ⟨1, 0, up [(K.laneState 0, 8), (K.trainEnable 0, 0)], by decide +kernel⟩,
   ⟨1, 0, 99, up [(K.laneState 0, 8)], by decide +kernel⟩,
   ⟨1, 7, 1, up [(K.laneState 7, 8)], by decide +kernel⟩,
   ⟨1, 7, up [], by decide +kernel⟩,
   ⟨7, up [(K.fwState, 1), (K.trainRetry, 10), (K.laneState 7, 7)], by decide +kernel⟩,
   ⟨0, up [(K.prbsChk 0, 1), (K.prbsLock 0, 1)], by decide +kernel⟩,
   ⟨7, (up [(K.prbsChk 7, 1)]).modLane 7 (fun l => { l with clean := 63 }), by decide +kernel⟩⟩

/-- States and operands that meet the hypotheses of Obligations.HostClientsComplete, clause by clause. -/
theorem hyps_HostClientsComplete :
    (∃ (n : Nat) (s : State), n < 8 ∧ s.dataRx n = true) ∧
    (∃ (n : Nat) (s : State), n < 8 ∧ n < s.host.lanes.length ∧ s.rd (K.clientType n) = 5 ∧ s.dataRx n = true ∧ s.nearLoop n = false) ∧
    (∃ (c : Nat) (frame : List Byte) (s : State), c < 8 ∧ c < s.host.clients.length ∧ s.isEth c = true ∧ frame ≠ [] ∧ s.groupLanes c ≠ [] ∧ (s.groupLanes c).all s.dataRx = true ∧ (s.groupLanes c).any s.nearLoop = false ∧ s.mapping c = true ∧ (packWords (frame.take (s.rdN K.maxFrame)) 2000).length ≤ s.queueFree c) ∧
    (∃ (i : Nat) (s : State), i < 128 ∧ (s.clientCar (8 + i)).isSome = true ∧ (256 : Nat) ≤ (s.client (8 + i)).part.length ∧ s.mapping (8 + i) = true ∧ (s.client (8 + i)).queue.length < 4) ∧
    (∃ (cl : Nat) (c : Carrier) (s : State), s.mapping cl = true ∧ s.clientCar cl = some c) ∧
    (∃ (c : Carrier) (p : Packet) (rest : List Packet) (s : State), s.present c = true ∧ s.rd (K.carState c) = carService ∧ (if c = .a then s.host.statusA else s.host.statusB) = p :: rest) ∧
    (∃ (c : Carrier) (s : State), s.present c = true ∧ s.rd (K.carState c) = carService ∧ (if c = .a then s.host.statusA else s.host.statusB) = [] ∧ s.readyClients c ≠ []) ∧
    (∃ (c : Carrier) (w : Nat) (e : Bool) (rest : List (Nat × Bool)) (s : State), s.present c = true ∧ (s.car c).fec.words = (w, e) :: rest ∧ (if c = .a then s.host.demapA else s.host.demapB) = .hunt ∧ hecOk w = true) ∧
    (∃ (c : Carrier) (w : Nat) (e : Bool) (rest : List (Nat × Bool)) (p : Packet) (left : Nat) (err : Bool) (s : State), s.present c = true ∧ (s.car c).fec.words = (w, e) :: rest ∧ (if c = .a then s.host.demapA else s.host.demapB) = .sync p left err) ∧
    (∃ (c : Carrier) (w : Nat) (e : Bool) (rest : List (Nat × Bool)) (p : Packet) (left : Nat) (err : Bool) (s : State), s.present c = true ∧ (s.car c).fec.words = (w, e) :: rest ∧ (if c = .a then s.host.demapA else s.host.demapB) = .sync p left err) ∧
    (∃ (c : Nat) (f : List Byte) (err : Bool) (rest : List (List Byte × Bool)) (s : State), c < 8 ∧ s.isEth c = true ∧ s.presented c = 0 ∧ (s.client c).frames = (f, err) :: rest) ∧
    (∃ (n : Nat) (s : State), n < 8 ∧ n < s.host.lanes.length ∧ s.rd (K.clientType n) = 5) ∧
    (∃ (c : Carrier) (s : State), s.present c = true ∧ (s.car c).fec.accepting = true ∧ (s.car c).fec.startup = 0 ∧ s.rd (K.decAlign c) = 1) :=
  ⟨⟨7, up [(K.laneState 7, 9)], by decide +kernel⟩,
   ⟨0, up [(K.clientType 0, 5), (K.laneState 0, 8)], by decide +kernel⟩,
   ⟨7, [1, 2, 3, 4, 5, 6, 7, 8, 9], up [(K.clientType 7, 1), (K.laneRate 7, 1), (K.carState .a, 3), (K.laneState 7, 8)], by decide +kernel⟩,
   ⟨127, (up [(K.slotMap 127, 1), (K.carState .a, 3)]).modClient 135 (fun x => { x with part := List.replicate 257 5 }), by decide +kernel⟩,
   ⟨0, .a, up [(K.clientType 0, 2), (K.carState .a, 3)], by decide +kernel⟩,
   ⟨.a, ⟨2, 0, 0, 0, false, 0, []⟩, [], { (up [(K.carState .a, 3)]) with host := { HostState.reset with statusA := [⟨2, 0, 0, 0, false, 0, []⟩] } }, by decide +kernel⟩,
   ⟨.a, (up [(K.clientType 0, 2), (K.carState .a, 3)]).modClient 0 (fun x => { x with queue := [⟨0, 0, 0, 0, false, 0, [5]⟩] }), by decide +kernel⟩,
   ⟨.a, Packet.header ⟨0, 0, 0, 0, false, 0, []⟩, false, [], upFec [] (fun x => { x with words := [(Packet.header ⟨0, 0, 0, 0, false, 0, []⟩, false)] }), by decide +kernel⟩,
   ⟨.a, 9, true, [], ⟨0, 0, 0, 0, false, 0, []⟩, 2, false, { (upFec [] (fun x => { x with words := [(9, true)] })) with host := { HostState.reset with demapA := .sync ⟨0, 0, 0, 0, false, 0, []⟩ 2 false } }, by decide +kernel⟩,
   ⟨.a, 9, true, [], ⟨0, 0, 0, 0, false, 0, []⟩, 1, false, { (upFec [] (fun x => { x with words := [(9, true)] })) with host := { HostState.reset with demapA := .sync ⟨0, 0, 0, 0, false, 0, []⟩ 1 false } }, by decide +kernel⟩,
   ⟨0, [7], true, [], egress, by decide +kernel⟩,
   ⟨7, up [(K.clientType 7, 5), (K.laneState 7, 8)], by decide +kernel⟩,
   ⟨.a, upFec [(K.decAlign .a, 1)] (fun x => { x with accepting := true }), by decide +kernel⟩⟩

/-- States and operands that meet the hypotheses of Obligations.HousekeepingAdcComplete, clause by clause. -/
theorem hyps_HousekeepingAdcComplete :
    (∃ (slot : Nat) (input : Nat) (e : Nat) (d : Bool) (s : State), s.hkRuns = true ∧ s.hk.adc0.conv = some ⟨.regular slot, input, d, e⟩ ∧ slot < 64) ∧
    (∃ (src : Nat) (h : Nat) (s : State), s.accepts src (K.regStart h) ∧ s.rd (K.regTrigger h) = 1 ∧ s.on (K.hkEnable h) = true ∧ (s.adc h).pass = none ∧ (s.adc h).passDue = false) ∧
    (∃ (h : Nat) (s : State), h < 2 ∧ (s.rd (K.regTrigger h) = 3 ∨ s.rd (K.regTrigger h) = 4 ∧ s.datumPhase h = true) ∧ s.on (K.hkEnable h) = true) ∧
    (∃ (h : Nat) (s : State), h < 2 ∧ (s.rd (K.regTrigger h) = 3 ∨ s.rd (K.regTrigger h) = 4 ∧ s.datumPhase h = true) ∧ s.on (K.hkEnable h) = true) ∧
    (∃ (src : Nat) (h : Nat) (s : State), s.accepts src (K.injStart h) ∧ s.rd (K.injTrigger h) = 1 ∧ s.on (K.hkEnable h) = true ∧ (s.adc h).injQ.length < 8) ∧
    (∃ (h : Nat) (s : State), h < 2 ∧ s.rd (K.injTrigger h) = 2 ∧ s.on (K.hkEnable h) = true) ∧
    (∃ (h : Nat) (s : State), h < 2 ∧ s.rd (K.injTrigger h) = 2 ∧ s.on (K.hkEnable h) = true) ∧
    (∃ (h : Nat) (g : Nat) (s : State), h < 2 ∧ s.rd (K.injTrigger h) = 4 ∧ s.rdN (K.injGpio h) = g ∧ s.on (K.hkEnable h) = true ∧ (s.adc h).injQ.length < 8) ∧
    (∃ (src : Nat) (h : Nat) (s : State), s.accepts src (K.injOverflow h)) ∧
    (∃ (src : Nat) (h : Nat) (s : State), s.accepts src (K.hkEnable h)) ∧
    (∃ (src : Nat) (h : Nat) (s : State), s.accepts src (K.hkSelfCal h) ∧ s.on (K.hkEnable h) = true ∧ (s.adc h).cal = none) ∧
    (∃ (src : Nat) (s : State), s.accepts src K.benchCmd) ∧
    (∃ (src : Nat) (h : Nat) (s : State), s.accepts src K.benchCmd ∧ s.on (K.hkEnable (h % 2)) = true ∧ (s.adc (h % 2)).cal = none) ∧
    (∃ (src : Nat) (h : Nat) (input : Nat) (s : State), s.accepts src K.benchCmd ∧ s.on (K.hkEnable (h % 2)) = true ∧ (s.adc (h % 2)).cal = none ∧ ((s.adc (h % 2)).zero.any (fun z => z.1 = min (input % 128) 74) = true)) ∧
    (∃ (h : Nat) (r : CalRun) (s : State), h < 2 ∧ (s.adc h).cal = some r ∧ r.length ≤ r.count) :=
  ⟨⟨63, 40, 0, true, { (up [(K.hkEnable 0, 1)]) with hk := { HkState.reset with adc0 := { HkState.reset.adc0 with conv := some ⟨.regular 63, 40, true, 0⟩ } } }, by decide +kernel⟩,
   ⟨1, 1, up [(K.regTrigger 1, 1), (K.hkEnable 1, 1)], by decide +kernel⟩,
   ⟨0, up [(K.regTrigger 0, 3), (K.hkEnable 0, 1)], by decide +kernel⟩,
   ⟨1, (up [(K.regTrigger 1, 4), (K.hkEnable 1, 1)]).modAdc 1 (fun a => { a with pass := some (3, 0, 0) }), by decide +kernel⟩,
   ⟨1, 0, up [(K.injTrigger 0, 1), (K.hkEnable 0, 1)], by decide +kernel⟩,
   ⟨1, up [(K.injTrigger 1, 2), (K.hkEnable 1, 1)], by decide +kernel⟩,
   ⟨0, (up [(K.injTrigger 0, 2), (K.hkEnable 0, 1)]).modAdc 0 (fun a => { a with injQ := List.replicate 8 false }), by decide +kernel⟩,
   ⟨1, 3, up [(K.injTrigger 1, 4), (K.injGpio 1, 3), (K.hkEnable 1, 1)], by decide +kernel⟩,
   ⟨1, 1, up [(K.injOverflow 1, 1)], by decide +kernel⟩,
   ⟨1, 0, (up [(K.hkEnable 0, 1)]).modAdc 0 (fun a => { a with injQ := [true] }), by decide +kernel⟩,
   ⟨1, 1, up [(K.hkEnable 1, 1)], by decide +kernel⟩,
   ⟨1, up [], by decide +kernel⟩,
   ⟨1, 1, up [(K.hkEnable 1, 1)], by decide +kernel⟩,
   ⟨1, 0, 40, (up [(K.hkEnable 0, 1)]).modAdc 0 (fun a => { a with zero := some (40, 7) }), by decide +kernel⟩,
   ⟨1, ⟨0, 0, 200, 0, true⟩, (up [(K.hkCalState 1, 2), (K.calResult 1, 3)]).modAdc 1 (fun a => { a with cal := some ⟨0, 0, 200, 0, true⟩ }), by decide +kernel⟩⟩

/-- States and operands that meet the hypotheses of Obligations.AnalogueOutputsComplete, clause by clause. -/
theorem hyps_AnalogueOutputsComplete :
    (∃ (src : Nat) (k : Nat) (s : State), s.accepts src (K.aoutEnable k) ∧ s.underTest 2 k = false) ∧
    (∃ (src : Nat) (k : Nat) (v : Int) (s : State), s.accepts src (K.aoutRange k) ∧ s.rd (K.aoutState k) = 1 ∧ clampKey (K.aoutRange k) v ≠ s.rd (K.aoutRange k)) ∧
    (∃ (k : Nat) (s : State), k < 16 ∧ s.rd (K.aoutState k) = 2) ∧
    (∃ (k : Nat) (overload : Bool) (s : State), k < 16 ∧ (1000 : Nat) ≤ (if overload then (s.aout k).overQuiet else (s.aout k).compQuiet)) ∧
    (∃ (src : Nat) (k : Nat) (s : State), s.accepts src (K.wave k)) ∧
    (∃ (src : Nat) (s : State), s.accepts src K.waveSync) ∧
    (∃ (src : Nat) (k : Nat) (s : State), s.accepts src (K.rbClear k)) :=
  ⟨⟨1, 15, up [(K.aoutStartCode 15, 7)], by decide +kernel⟩,
   ⟨1, 0, 9, up [(K.aoutState 0, 1), (K.aoutRange 0, 0)], by decide +kernel⟩,
   ⟨15, up [(K.aoutState 15, 2), (K.aoutRange 15, 2)], by decide +kernel⟩,
   ⟨15, true, (up [(K.rbStatus 15, 12)]).modAout 15 (fun a => { a with overQuiet := 1000 }), by decide +kernel⟩,
   ⟨1, 2, up [], by decide +kernel⟩,
   ⟨1, up [], by decide +kernel⟩,
   ⟨1, 15, up [(K.aoutState 15, 3), (K.rbStatus 15, 2)], by decide +kernel⟩⟩

/-- States and operands that meet the hypotheses of Obligations.MonitorFilterComplete, clause by clause. -/
theorem hyps_MonitorFilterComplete :
    (∃ (y : Nat) (f : Nat × Nat × Nat) (s : State), y < 32 ∧ 3 ≤ s.mfStateNow y ∧ (s.mfc y).fresh = some f) ∧
    (∃ (y : Nat) (s : State), y < 32 ∧ 3 ≤ s.mfStateNow y ∧ (s.mfc y).missed ≠ 0) ∧
    (∃ (src : Nat) (y : Nat) (s : State), s.accepts src (K.sheetSwap y) ∧ y < s.hk.mf.length ∧ s.mfStateNow y ≤ 2) ∧
    (∃ (src : Nat) (y : Nat) (s : State), s.accepts src (K.sheetSwap y) ∧ y < s.hk.mf.length ∧ 2 < s.mfStateNow y) ∧
    (∃ (y : Nat) (s : State), y < 32 ∧ (s.mfc y).loading = true) ∧
    (∃ (src : Nat) (s : State), s.accepts src K.mfSync) ∧
    (∃ (src : Nat) (y : Nat) (len : Nat) (s : State), s.reads src (K.outQueue y) ∧ len ≤ 256 ∧ y < s.hk.mf.length) :=
  ⟨⟨31, (7, 9, 655361), (up [(K.mfEnable 31, 1), (K.hkEnable 1, 1), (K.regTrigger 1, 2), (K.regLength 1, 64), (K.mfSlot 31, 3)]).modMf 31 (fun c => { c with fresh := some (7, 9, 655361), inputs := 4, syncFrom := some 7 }), by decide +kernel⟩,
   ⟨0, (up [(K.mfEnable 0, 1), (K.hkEnable 0, 1), (K.regTrigger 0, 3), (K.regLength 0, 64), (K.mfSlot 0, 3)]).modMf 0 (fun c => { c with missed := 2, lastX := 8 }), by decide +kernel⟩,
   ⟨1, 31, up [(K.stageTap (64 * 31 + 63), 9)], by decide +kernel⟩,
   ⟨1, 0, up [(K.mfEnable 0, 1), (K.hkEnable 0, 1), (K.regTrigger 0, 2), (K.regLength 0, 64), (K.mfSlot 0, 3)], by decide +kernel⟩,
   ⟨31, (up []).modMf 31 (fun c => { c with loading := true }), by decide +kernel⟩,
   ⟨1, up [], by decide +kernel⟩,
   ⟨1, 3, 256, (up []).modMf 3 (fun c => { c with records := [5] }), by decide +kernel⟩⟩

/-- States and operands that meet the hypotheses of Obligations.TraversePortsComplete, clause by clause. -/
theorem hyps_TraversePortsComplete :
    (∃ (src : Nat) (s : State), s.accepts src K.tvEnable) ∧
    (∃ (src : Nat) (l : Nat) (v : Int) (s : State), s.accepts src (K.portLoopback l) ∧ s.rd (K.portState l) ≠ 0 ∧ clampKey (K.portLoopback l) v ≠ 0) ∧
    (∃ (l : Nat) (s : State), l < 3 ∧ l < s.tv.links.length ∧ s.rd (K.portState l) = 1 ∧ 15 ≤ (s.link l).good) ∧
    (∃ (l : Nat) (s : State), l < 3 ∧ s.rd (K.portState l) = 2) ∧
    (∃ (l : Nat) (s : State), l < 3 ∧ s.rd (K.portState l) = 2) ∧
    (∃ (l : Nat) (s : State), l < 3 ∧ s.rd (K.portState l) = 3) ∧
    (∃ (l : Nat) (s : State), l < 3 ∧ (s.rd (K.portState l) = 3 ∨ s.rd (K.portState l) = 4)) ∧
    (∃ (l : Nat) (s : State), l < 3 ∧ (s.rd (K.portState l) = 3 ∨ s.rd (K.portState l) = 4)) ∧
    (∃ (l : Nat) (s : State), l < 3 ∧ l < s.tv.links.length ∧ s.linkUp l = true) :=
  ⟨⟨1, up [(K.portLoopback 2, 1), (K.portState 1, 4)], by decide +kernel⟩,
   ⟨1, 2, 1, up [(K.portState 2, 4)], by decide +kernel⟩,
   ⟨2, (up [(K.portState 2, 1)]).modLink 2 (fun x => { x with good := 15 }), by decide +kernel⟩,
   ⟨0, up [(K.portState 0, 2)], by decide +kernel⟩,
   ⟨2, up [(K.portState 2, 2)], by decide +kernel⟩,
   ⟨2, up [(K.portState 2, 3)], by decide +kernel⟩,
   ⟨0, up [(K.portState 0, 4)], by decide +kernel⟩,
   ⟨2, up [(K.portState 2, 3)], by decide +kernel⟩,
   ⟨2, up [(K.portState 2, 4)], by decide +kernel⟩⟩

/-- States and operands that meet the hypotheses of Obligations.TraverseFramesComplete, clause by clause. -/
theorem hyps_TraverseFramesComplete :
    (∃ (l : Nat) (s : State), l < 3 ∧ s.linkUp l = true) ∧
    (∃ (m : Nat) (body : List (Byte × Bool)) (rest : List (Byte × Bool)) (f : TvFrame) (s : State), m < 2 ∧ s.linkUp (3 + m) = true ∧ ibTake (ibHunt (s.car (ibCarrier (3 + m))).rx.ibc) = some (body, rest) ∧ parseFrame (body.map Prod.fst) = some f) ∧
    (∃ (l : Nat) (o : TvOut) (s : State), l < 5 ∧ (s.link l).sending = some o) ∧
    (∃ (l : Nat) (o : TvOut) (s : State), l < 5 ∧ (s.link l).sending = some o) ∧
    (∃ (x : TvIn) (s' : State) (s : State), s.takeIn 0 = some (x, s')) ∧
    (∃ (l : Nat), l < 5) :=
  ⟨⟨2, up [(K.portState 2, 4)], by decide +kernel⟩,
   ⟨0, (⟨0, false, false, 0, 0, 7, 0, 0, 0, 0, []⟩ : TvFrame).bytes.map (fun b => (b, true)), (⟨0, false, false, 0, 0, 7, 0, 0, 0, 0, []⟩ : TvFrame).bytes.map (fun b => (b, true)), ⟨0, false, false, 0, 0, 7, 0, 0, 0, 0, []⟩, (up [(K.ibEnable, 1), (K.carState .a, 3), (K.acqPhase .a, 5), (K.decAlign .a, 2)]).modRx .a (fun x => { x with ibc := (0x7E, false) :: (0xA5, false) :: (⟨0, false, false, 0, 0, 7, 0, 0, 0, 0, []⟩ : TvFrame).bytes.map (fun b => (b, true)) }), by decide +kernel⟩,
   ⟨4, ⟨⟨0, false, false, 0, 0, 7, 0, 0, 0, 0, []⟩, none, false⟩, (up []).modLink 4 (fun x => { x with sending := some ⟨⟨0, false, false, 0, 0, 7, 0, 0, 0, 0, []⟩, none, false⟩ }), by decide +kernel⟩,
   ⟨3, ⟨⟨0, false, false, 0, 0, 7, 0, 0, 0, 0, []⟩, none, false⟩, (up []).modLink 3 (fun x => { x with repeatDue := true, sending := some ⟨⟨0, false, false, 0, 0, 7, 0, 0, 0, 0, []⟩, none, false⟩ }), by decide +kernel⟩,
   ⟨⟨⟨0, false, false, 0, 0, 7, 0, 0, 0, 0, [0, 7, 2, 0, 9, 1, 0, 0]⟩, 4, 0⟩, up [], { (up []) with tv := { TvState.reset with inbox := [⟨⟨0, false, false, 0, 0, 7, 0, 0, 0, 0, [0, 7, 2, 0, 9, 1, 0, 0]⟩, 4, 0⟩] } }, by decide +kernel⟩,
   ⟨4, by decide +kernel⟩⟩

/-- States and operands that meet the hypotheses of Obligations.LegendReadsComplete, clause by clause. -/
theorem hyps_LegendReadsComplete :
    (∃ (src : Nat) (k : Key) (len : Nat) (s : State), s.reads src k ∧ isBlob (canonKey k) = true ∧ len ≤ 256) ∧
    (∃ (src : Nat) (v : Nat) (len : Nat) (p : Nat × EventRec) (s : State), s.reads src K.eventNext ∧ len ≤ 256 ∧ viewOf src = some v ∧ v < s.ev.views.length ∧ ((s.ev.unread (s.view v)).take 16).getLast? = some p) ∧
    (∃ (src : Nat) (len : Nat) (s : State), s.reads src K.eventNext ∧ len ≤ 256) ∧
    (∃ (src : Nat) (len : Nat) (s : State), s.reads src K.rdData ∧ len ≤ 256) ∧
    (∃ (src : Nat) (len : Nat) (s : State), s.reads src K.nonce ∧ len ≤ 256) :=
  ⟨⟨2, K.lcToken, 256, up [], by decide +kernel⟩,
   ⟨1, 0, 256, (0, ⟨0, 5, 1, 2, 3, false, false⟩), { (up []) with ev := { EventState.reset with recs := [⟨0, 5, 1, 2, 3, false, false⟩] } }, by decide +kernel⟩,
   ⟨1, 256, up [], by decide +kernel⟩,
   ⟨2, 256, up [], by decide +kernel⟩,
   ⟨1, 32, up [], by decide +kernel⟩⟩

/-- States and operands that meet the hypotheses of Obligations.LegendWritesComplete, clause by clause. -/
theorem hyps_LegendWritesComplete :
    (∃ (src : Nat) (k : Key) (s : State), s.accepts src k ∧ ((rowOf (canonKey k)).any (fun r => r.access = .rw) = true) ∧ isBlob (canonKey k) = false ∧ ownWrite (canonKey k) = false) ∧
    (∃ (src : Nat) (k : Key) (s : State), s.accepts src k ∧ ((rowOf (canonKey k)).any (fun r => r.access = .rw) = true) ∧ isBlob (canonKey k) = false ∧ ownWrite (canonKey k) = false) ∧
    (∃ (src : Nat) (k : Key) (s : State), s.accepts src k ∧ ((rowOf (canonKey k)).any (fun r => r.access = .rw) = true) ∧ isBlob (canonKey k) = false ∧ ownWrite (canonKey k) = false ∧ ¬ k.area ∈ [0x02, 0x50, 0x60, 0x62, 0x68, 0x71] ∧ (k.area, k.entry) ≠ (0x10, 0x005)) ∧
    (∃ (src : Nat) (k : Key) (st : Status) (s : State), s.accepts src k ∧ k ∈ [⟨0x02, 0x014, 0⟩, ⟨0x02, 0x015, 0⟩, ⟨0x02, 0x016, 0⟩, ⟨0x50, 0x050, 0⟩] ∧ (s.accepted src).ownerCheck src = some st) ∧
    (∃ (src : Nat) (k : Key) (s : State), s.accepts src k ∧ k ∈ [⟨0x02, 0x014, 0⟩, ⟨0x02, 0x015, 0⟩, ⟨0x02, 0x016, 0⟩, ⟨0x50, 0x050, 0⟩] ∧ s.ownerCheck src = none) ∧
    (∃ (src : Nat) (k : Key) (data : List Byte) (s : State), s.accepts src k ∧ isBlob (canonKey k) = true ∧ ((rowOf (canonKey k)).any (fun r => r.access = .rw ∧ r.lo ≤ (data.length : Int) ∧ (data.length : Int) ≤ r.hi) = true) ∧ ¬ (k.area, k.entry) ∈ [(0x00, 0x022), (0x02, 0x017), (0x58, 0x021), (0x58, 0x022)] ∧ data.length ≤ 256) ∧
    (∃ (src : Nat) (k : Key) (s : State), s.accepts src k ∧ isBlob (canonKey k) = true) ∧
    (∃ (src : Nat) (s : State), s.accepts src K.alarmAck) ∧
    (∃ (src : Nat) (w : Nat) (s : State), s.accepts src K.snapshot ∧ viewOf src = some w ∧ w < s.ev.views.length) ∧
    (∃ (src : Nat) (w : Nat) (s : State), s.accepts src K.snapshotRelease ∧ viewOf src = some w ∧ w < s.ev.views.length) ∧
    (∃ (src : Nat) (v : Int) (k : Key) (s : State), s.accepts src K.counterClear ∧ (k.area : Int) = clampKey K.counterClear v ∧ ((rowOf k).any (fun r => r.counter = .saturating) = true)) :=
  ⟨⟨1, K.portEnable, up [], by decide +kernel⟩,
   ⟨1, K.stationId, up [], by decide +kernel⟩,
   ⟨2, K.portEnable, up [], by decide +kernel⟩,
   ⟨1, ⟨0x50, 0x050, 0⟩, .noDraft, up [], by decide +kernel⟩,
   ⟨1, ⟨0x02, 0x014, 0⟩, drafted ⟨7, 1, false, []⟩, by decide +kernel⟩,
   ⟨1, K.lcToken, [1, 2, 3], up [], by decide +kernel⟩,
   ⟨1, K.keyAuth, up [], by decide +kernel⟩,
   ⟨1, up [], by decide +kernel⟩,
   ⟨3, 2, up [(K.stepCount, 3)], by decide +kernel⟩,
   ⟨3, 2, up [], by decide +kernel⟩,
   ⟨1, 80, K.stepCount, up [(K.stepCount, 3)], by decide +kernel⟩⟩

/-- States and operands that meet the hypotheses of Obligations.ManagementPortsComplete, clause by clause. -/
theorem hyps_ManagementPortsComplete :
    (∃ (src : Nat) (bytes : List Byte) (st : Status) (s : State), (portOf src).isSome = true ∧ s.portOpen src = true ∧ s.portsDead = false ∧ s.ports.ready = true ∧ requestFault true bytes = some st) ∧
    (∃ (s : State), s.portOpen 1 = true ∧ s.portsDead = false ∧ s.ports.spiPending = true ∧ (s.replyOf 1).status ≠ .busy) ∧
    (∃ (prtad : Nat) (mmd : Nat) (s : State), s.portOpen 2 = true ∧ s.portsDead = false ∧ prtad = s.ports.prtadNow ∧ mmd = 30) ∧
    (∃ (addr : Nat) (s : State), s.windowAt addr = true) ∧
    (∃ (addr : Nat) (s : State), s.windowAt addr = true) ∧
    (∃ (addr : Nat) (ptr : Nat) (a : Nat) (s : State), s.windowAt addr = true ∧ ptr < 256 ∧ s.winPlace ptr = some a ∧ s.ports.winMark.contains a = true ∧ s.ports.winQueue.length < 64 ∧ s.lineBad 0x320 (a / 32) = false) ∧
    (∃ (addr : Nat) (s : State), s.windowAt addr = true ∧ 64 ≤ s.ports.winQueue.length) :=
  ⟨⟨3, [1, 2], .crc, up [], by decide +kernel⟩,
   ⟨(up [(K.mdioPrtad, 5)]).reply 1 .ok [] 0, by decide +kernel⟩,
   ⟨0, 30, up [], by decide +kernel⟩,
   ⟨0x50, up [(K.twiWindowEnable, 1), (K.twiWindowAddr, 80)], by decide +kernel⟩,
   ⟨0x50, up [(K.twiWindowEnable, 1), (K.twiWindowAddr, 80)], by decide +kernel⟩,
   ⟨0x50, 127, 127, (fun (x : State) => ({ x with ports := { x.ports with winMark := [127] } } : State)) (up [(K.twiWindowEnable, 1), (K.twiWindowAddr, 80)]), by decide +kernel⟩,
   ⟨0x50, (fun (x : State) => ({ x with ports := { x.ports with winQueue := List.replicate 64 (0, 0, 0) } } : State)) (up [(K.twiWindowEnable, 1), (K.twiWindowAddr, 80)]), by decide +kernel⟩⟩

/-- States and operands that meet the hypotheses of Obligations.TraverseServicesComplete, clause by clause. -/
theorem hyps_TraverseServicesComplete :
    (∃ (x : TvIn) (s' : State) (s : State), s.takeIn 3 = some (x, s') ∧ x.frame.bcast = false ∧ s'.tv.reqs.length < 32) ∧
    (∃ (q : TvReq) (rest : List TvReq) (s : State), s.tv.reqs = q :: rest ∧ s.ports.ready = true ∧ s.portsDead = false ∧ (requestFault true q.bytes).isSome = true) ∧
    (∃ (x : TvIn) (s' : State) (s : State), s.takeIn 5 = some (x, s')) ∧
    (∃ (s : State), bitOf (s.rdN K.eventSink) 31 = true ∧ s.ev.base ≤ s.tv.sinkPos ∧ s.ev.total ≤ s.tv.sinkPos) ∧
    (∃ (p : Nat × EventRec) (s : State), bitOf (s.rdN K.eventSink) 31 = true ∧ ((s.ev.unread { s.view 3 with pos := max s.tv.sinkPos s.ev.base }).take 16).getLast? = some p) ∧
    (∃ (x : TvIn) (s' : State) (s : State), s.takeIn 9 = some (x, s') ∧ 12 ≤ x.frame.payload.length) ∧
    (∃ (s : State), s.fb.evWait = []) ∧
    (∃ (id : Nat) (r : Nat) (t0 : Nat) (late : Bool) (s : State), s.fb.evWait = [] ∧ (s.tv.trigs.filter (fun e => e.1 = id && e.2.1 ≤ s.datum) = [(id, t0, late)]) ∧ (s.fb.rings.map Prod.fst).count r = 1 ∧ (s.ring r).state = 3 ∧ bitOf (descSources (s.ring r).desc) 3 = true ∧ descTrigId (s.ring r).desc = id ∧ descRun (s.ring r).desc ≠ 2) ∧
    (∃ (src : Nat) (s : State), s.accepts src K.trigSend) :=
  ⟨⟨⟨⟨3, false, false, 2, 0, 7, 0, 0, 0, 0, [1, 2]⟩, 4, 0⟩, up [], { (up []) with tv := { TvState.reset with inbox := [⟨⟨3, false, false, 2, 0, 7, 0, 0, 0, 0, [1, 2]⟩, 4, 0⟩] } }, by decide +kernel⟩,
   ⟨⟨7, 2, 0, [1, 2, 3]⟩, [], { (up []) with tv := { TvState.reset with reqs := [⟨7, 2, 0, [1, 2, 3]⟩] } }, by decide +kernel⟩,
   ⟨⟨⟨5, false, false, 2, 0, 7, 0, 0, 0, 0, [1, 2]⟩, 4, 0⟩, up [], { (up []) with tv := { TvState.reset with inbox := [⟨⟨5, false, false, 2, 0, 7, 0, 0, 0, 0, [1, 2]⟩, 4, 0⟩] } }, by decide +kernel⟩,
   ⟨up [(K.eventSink, 2147483649)], by decide +kernel⟩,
   ⟨(0, ⟨0, 5, 1, 2, 3, false, false⟩), (fun (x : State) => ({ x with ev := { EventState.reset with recs := [⟨0, 5, 1, 2, 3, false, false⟩] } } : State)) (up [(K.eventSink, 2147483649)]), by decide +kernel⟩,
   ⟨⟨⟨9, false, false, 2, 0, 7, 0, 0, 0, 0, [1, 2, 0, 0, 0, 0, 0, 0, 0, 0, 0, 5]⟩, 4, 0⟩, up [], { (up []) with tv := { TvState.reset with inbox := [⟨⟨9, false, false, 2, 0, 7, 0, 0, 0, 0, [1, 2, 0, 0, 0, 0, 0, 0, 0, 0, 0, 5]⟩, 4, 0⟩] } }, by decide +kernel⟩,
   ⟨{ (up []) with tv := { TvState.reset with trigs := [(3, 0, false)] } }, by decide +kernel⟩,
   ⟨3, 5, 0, false, (fun (x : State) => ({ x with tv := { TvState.reset with trigs := [(3, 0, false)] } } : State)) (ringed 5 (desc 0 0x00 8 3) 3), by decide +kernel⟩,
   ⟨1, up [], by decide +kernel⟩⟩

/-- States and operands that meet the hypotheses of Obligations.DatumComplete, clause by clause. -/
theorem hyps_DatumComplete :
    (∃ (s : State), 1 ≤ s.rdN K.timeSource ∧ s.rdN K.timeSource ≤ 5 ∧ s.rdN K.timeSource ≤ s.tv.links.length ∧ s.linkUp (s.rdN K.timeSource - 1) = true ∧ (s.link (s.rdN K.timeSource - 1)).sending = none ∧ (s.link (s.rdN K.timeSource - 1)).queue = [] ∧ (4 ≤ s.rdN K.timeSource ∨ nth (s.link (s.rdN K.timeSource - 1)).credits 0 0 ≠ 0)) ∧
    (∃ (x : TvIn) (s' : State) (s : State), s.takeIn 1 = some (x, s') ∧ x.link < 5 ∧ x.link < s.tv.links.length ∧ s.linkUp x.link = true ∧ (s.link x.link).sending = none ∧ (s.link x.link).queue = [] ∧ (3 ≤ x.link ∨ nth (s.link x.link).credits 0 0 ≠ 0)) ∧
    (∃ (x : TvIn) (th : Rat) (s' : State) (s : State), s.takeIn 2 = some (x, s') ∧ s'.rdN K.timeSource = x.link + 1 ∧ 30 ≤ x.frame.payload.length ∧ th = ((stampTime ((x.frame.payload.drop 10).take 10) - stampTime (x.frame.payload.take 10)) - (x.time - stampTime ((x.frame.payload.drop 20).take 10)) + (s'.rd (K.delayAsym x.link) : Rat) / 1000) / 2) ∧
    (∃ (s : State), 1 ≤ s.rd K.timeSource ∧ s.rd K.timeSource ≤ 5) ∧
    (∃ (src : Nat) (s : State), s.accepts src K.datumSet ∧ (s.rd K.timeSource = 0 ∨ s.rd K.timeSource = 7)) ∧
    (∃ (src : Nat) (s : State), s.accepts src K.datumSet ∧ s.rd K.timeSource ≠ 0 ∧ s.rd K.timeSource ≠ 7) ∧
    (∃ (s : State), bitOf (s.rdN K.ppsCtrl) 0 = true) :=
  ⟨⟨(up [(K.portState 2, 4), (K.timeSource, 3)]).modLink 2 (fun x => { x with credits := [1, 1, 1, 1] }), by decide +kernel⟩,
   ⟨⟨⟨1, false, false, 0, 0, 7, 0, 0, 0, 0, List.replicate 10 0⟩, 2, 0⟩, (inboxed [(K.portState 2, 4)] ⟨⟨1, false, false, 0, 0, 7, 0, 0, 0, 0, List.replicate 10 0⟩, 2, 0⟩).modLink 2 (fun x => { x with credits := [1, 1, 1, 1] }) |> fun (y : State) => ({ y with tv := { y.tv with inbox := [] } } : State), (inboxed [(K.portState 2, 4)] ⟨⟨1, false, false, 0, 0, 7, 0, 0, 0, 0, List.replicate 10 0⟩, 2, 0⟩).modLink 2 (fun x => { x with credits := [1, 1, 1, 1] }), by decide +kernel⟩,
   ⟨⟨⟨2, false, false, 0, 0, 7, 0, 0, 0, 0, List.replicate 30 0⟩, 2, 8⟩, -4, (up [(K.timeSource, 3)]), inboxed [(K.timeSource, 3)] ⟨⟨2, false, false, 0, 0, 7, 0, 0, 0, 0, List.replicate 30 0⟩, 2, 8⟩, by decide +kernel⟩,
   ⟨up [(K.timeSource, 3), (K.datumQuality, 1)], by decide +kernel⟩,
   ⟨1, up [(K.timeSource, 7)], by decide +kernel⟩,
   ⟨1, up [(K.timeSource, 6)], by decide +kernel⟩,
   ⟨up [(K.ppsCtrl, 1)], by decide +kernel⟩⟩

/-- States and operands that meet the hypotheses of Obligations.FieldBookComplete, clause by clause. -/
theorem hyps_FieldBookComplete :
    (∃ (src : Nat) (first : Nat) (last : Nat) (s : State), s.accepts src K.ringCmd ∧ s.fb.evWait = [] ∧ first < 2 ^ 15 ∧ last < 2 ^ 15) ∧
    (∃ (src : Nat) (first : Nat) (last : Nat) (s : State), s.accepts src K.ringCmd ∧ s.fb.evWait = [] ∧ first < 2 ^ 15 ∧ last < 2 ^ 15) ∧
    (∃ (src : Nat) (first : Nat) (last : Nat) (s : State), s.accepts src K.ringCmd ∧ s.fb.evWait = [] ∧ first < 2 ^ 15 ∧ last < 2 ^ 15) ∧
    (∃ (src : Nat) (first : Nat) (last : Nat) (s : State), s.accepts src K.ringCmd ∧ s.fb.evWait = [] ∧ first < 2 ^ 15 ∧ last < 2 ^ 15) ∧
    (∃ (src : Nat) (first : Nat) (last : Nat) (s : State), s.accepts src K.ringCmd ∧ s.fb.evWait = [] ∧ first < 2 ^ 15 ∧ last < 2 ^ 15) ∧
    (∃ (src : Nat) (first : Nat) (last : Nat) (s : State), s.accepts src K.ringCmd ∧ s.fb.evWait = [] ∧ first < 2 ^ 15 ∧ last < 2 ^ 15) ∧
    (∃ (r : Nat) (s : State), s.fb.evWait = [] ∧ (s.ring r).state = 1) ∧
    (∃ (probe : Nat) (sel : Nat) (r : Nat) (form : ProbeForm) (s : State), s.on K.fbEnable = true ∧ s.fb.evWait = [] ∧ probeForm probe = some form ∧ (s.fb.rings.map Prod.fst).count r = 1 ∧ 2 ≤ (s.ring r).state ∧ (s.ring r).state ≤ 4 ∧ descProbe (s.ring r).desc = probe ∧ descSel (s.ring r).desc = sel) ∧
    (∃ (probe : Nat) (sel : Nat) (r : Nat) (form : ProbeForm) (s : State), s.on K.fbEnable = true ∧ s.fb.evWait = [] ∧ probeForm probe = some form ∧ (s.fb.rings.map Prod.fst).count r = 1 ∧ 2 ≤ (s.ring r).state ∧ (s.ring r).state ≤ 4 ∧ descProbe (s.ring r).desc = probe ∧ descSel (s.ring r).desc = sel) ∧
    (∃ (r : Nat) (d : FbDue) (rest : List FbDue) (s : State), s.on K.fbEnable = true ∧ s.fb.evWait = [] ∧ s.fb.nextRing = some r ∧ (s.ring r).buf = d :: rest) ∧
    (∃ (r : Nat) (s : State), s.fb.evWait = [] ∧ (s.fb.rings.map Prod.fst).count r = 1 ∧ (s.ring r).state = 3 ∧ bitOf (descSources (s.ring r).desc) 2 = true ∧ bitOf (descSources (s.ring r).desc) 6 = false ∧ descRun (s.ring r).desc ≠ 2) :=
  ⟨⟨1, 0, 32767, ringed 5 (desc 0 0 0 0) 5, by decide +kernel⟩,
   ⟨1, 5, 5, ringed 5 (desc 0 0 0 0) 3, by decide +kernel⟩,
   ⟨1, 5, 5, ringed 5 (desc 0 0 0x40 0) 3, by decide +kernel⟩,
   ⟨1, 5, 6, ringed 5 (desc 0 0 0 0) 3, by decide +kernel⟩,
   ⟨1, 0, 32767, ringed 5 (desc 0 0 0 0) 4, by decide +kernel⟩,
   ⟨1, 0, 32767, ringed 32767 (desc 0 0 0 0) 4, by decide +kernel⟩,
   ⟨5, ringed 5 (desc 0 0x20 0 0) 1, by decide +kernel⟩,
   ⟨0x120, 0, 5, .s48, ringed 5 (desc 0 0 0 0) 2, by decide +kernel⟩,
   ⟨0x120, 0, 5, .s48, (ringed 5 (desc 0 0 0 0) 4).modRing 5 (fun x => { x with inGroup := 1, groupLen := 2 }), by decide +kernel⟩,
   ⟨5, ⟨3, 0, 0, 3, 3⟩, [], (ringed 5 (desc 2 0 0 0) 3).modRing 5 (fun x => { x with buf := [⟨3, 0, 0, 3, 3⟩], count := 17 }), by decide +kernel⟩,
   ⟨5, ringed 5 (desc 0 0 4 0) 3, by decide +kernel⟩⟩

/-- States and operands that meet the hypotheses of Obligations.CoreArithmeticComplete, clause by clause. -/
theorem hyps_CoreArithmeticComplete :
    (∃ (c : Nat) (s : State), s.coreLive c = true ∧ c < s.cores.cores.length) ∧
    (∃ (c : Nat) (s : State), s.coreLive c = true ∧ c < s.cores.cores.length) ∧
    (∃ (c : Nat) (s : State), s.coreLive c = true ∧ c < s.cores.cores.length) ∧
    (∃ (c : Nat) (s : State), s.coreLive c = true ∧ c < s.cores.cores.length) ∧
    (∃ (c : Nat) (s : State), s.coreLive c = true ∧ c < s.cores.cores.length) ∧
    (∃ (c : Nat) (s : State), s.coreLive c = true ∧ c < s.cores.cores.length) ∧
    (∃ (c : Nat) (s : State), s.coreLive c = true ∧ c < s.cores.cores.length) ∧
    (∃ (c : Nat) (s : State), s.coreLive c = true ∧ c < s.cores.cores.length) ∧
    (∃ (c : Nat) (s : State), s.coreLive c = true ∧ c < s.cores.cores.length) ∧
    (∃ (c : Nat) (s : State), s.coreLive c = true ∧ c < s.cores.cores.length) ∧
    (∃ (c : Nat) (s : State), s.coreLive c = true ∧ c < s.cores.cores.length) :=
  ⟨⟨0, live 0 (fun x => { x with pc := 8191, loops := [(3, 5, 2)] }), by decide +kernel⟩,
   ⟨67, live 67 (fun x => { x with g := [0, 0, 0xFFFFFFFF, 7, 0, 0, 0, 0, 0, 0, 0, 0, 0, 0, 0, 0] }), by decide +kernel⟩,
   ⟨67, live 67 (fun x => { x with g := [0, 0, 0xFFFFFFFF, 7, 0, 0, 0, 0, 0, 0, 0, 0, 0, 0, 0, 0] }), by decide +kernel⟩,
   ⟨67, live 67 (fun x => { x with g := [0, 0, 0xFFFFFFFF, 7, 0, 0, 0, 0, 0, 0, 0, 0, 0, 0, 0, 0] }), by decide +kernel⟩,
   ⟨67, live 67 (fun x => { x with g := [0, 0, 0xFFFFFFFF, 7, 0, 0, 0, 0, 0, 0, 0, 0, 0, 0, 0, 0] }), by decide +kernel⟩,
   ⟨67, live 67 (fun x => { x with g := [0, 0, 0xFFFFFFFF, 7, 0, 0, 0, 0, 0, 0, 0, 0, 0, 0, 0, 0] }), by decide +kernel⟩,
   ⟨67, live 67 (fun x => { x with g := [0, 0, 0xFFFFFFFF, 7, 0, 0, 0, 0, 0, 0, 0, 0, 0, 0, 0, 0] }), by decide +kernel⟩,
   ⟨3, live 3 id, by decide +kernel⟩,
   ⟨3, live 3 (fun x => { x with g := [0, 0, 0x80000000, 7, 0, 0, 0, 0, 0, 0, 0, 0, 0, 0, 0, 0] }), by decide +kernel⟩,
   ⟨3, live 3 id, by decide +kernel⟩,
   ⟨3, live 3 id, by decide +kernel⟩⟩

/-- States and operands that meet the hypotheses of Obligations.CoreControlComplete, clause by clause. -/
theorem hyps_CoreControlComplete :
    (∃ (c : Nat) (cond : Nat) (s : State), s.coreLive c = true ∧ c < s.cores.cores.length ∧ cond % 16 < 8) ∧
    (∃ (c : Nat) (s : State), s.coreLive c = true ∧ c < s.cores.cores.length ∧ (s.core c).links.length < 8) ∧
    (∃ (c : Nat) (p : Nat) (rest : List Nat) (s : State), s.coreLive c = true ∧ c < s.cores.cores.length ∧ (s.core c).links = p :: rest) ∧
    (∃ (c : Nat) (d : Nat) (s : State), s.coreLive c = true ∧ c < s.cores.cores.length ∧ (s.core c).gr d ≠ 0 ∧ (s.core c).loops.length < 2) ∧
    (∃ (c : Nat) (d : Nat) (s : State), s.coreLive c = true ∧ c < s.cores.cores.length ∧ (s.core c).gr d = 0) ∧
    (∃ (c : Nat) (s : State), s.coreLive c = true ∧ c < s.cores.cores.length) ∧
    (∃ (c : Nat) (u : Nat) (s : State), s.coreLive c = true ∧ c < s.cores.cores.length ∧ s.coreEvents c &&& ((s.core c).gr u).toNat % 128 = 0) ∧
    (∃ (c : Nat) (u : Nat) (s : State), s.coreLive c = true ∧ c < s.cores.cores.length ∧ s.coreEvents c &&& ((s.core c).gr u).toNat % 128 ≠ 0) ∧
    (∃ (c : Nat) (m : Nat) (s : State), c < s.cores.cores.length ∧ (s.core c).waiting = some m ∧ s.coreEvents c &&& m ≠ 0) ∧
    (∃ (c : Nat) (s : State), s.coreLive c = true ∧ c < s.cores.cores.length ∧ (s.core c).fault = 0) ∧
    (∃ (c : Nat) (s : State), s.coreLive c = true ∧ c < s.cores.cores.length ∧ (s.core c).fault ≠ 0) :=
  ⟨⟨5, 2, live 5 (fun x => { x with pc := 2 }), by decide +kernel⟩,
   ⟨5, live 5 (fun x => { x with pc := 2, links := [1, 2, 3, 4, 5, 6, 7] }), by decide +kernel⟩,
   ⟨5, 9, [], live 5 (fun x => { x with links := [9] }), by decide +kernel⟩,
   ⟨5, 2, live 5 (fun x => { x with loops := [(1, 1, 1)], g := [0, 0, 3, 7, 0, 0, 0, 0, 0, 0, 0, 0, 0, 0, 0, 0] }), by decide +kernel⟩,
   ⟨5, 2, live 5 id, by decide +kernel⟩,
   ⟨67, live 67 id, by decide +kernel⟩,
   ⟨0, 2, live 0 id, by decide +kernel⟩,
   ⟨0, 2, live 0 (fun x => { x with events := 16, g := [0, 0, 16, 7, 0, 0, 0, 0, 0, 0, 0, 0, 0, 0, 0, 0] }), by decide +kernel⟩,
   ⟨0, 16, live 0 (fun x => { x with events := 16, waiting := some 16 }), by decide +kernel⟩,
   ⟨67, live 67 (fun x => { x with pc := 77 }), by decide +kernel⟩,
   ⟨67, live 67 (fun x => { x with fault := 3 }), by decide +kernel⟩⟩

/-- States and operands that meet the hypotheses of Obligations.CoreMemoryComplete, clause by clause. -/
theorem hyps_CoreMemoryComplete :
    (∃ (c : Nat) (n : Nat) (v : Nat) (s : State), s.coreLive c = true ∧ c < s.cores.cores.length ∧ s.dload c ((s.core c).ar n / 4 * 4) 4 = some v) ∧
    (∃ (c : Nat) (d : Nat) (n : Nat) (v : Nat) (s : State), s.coreLive c = true ∧ c < s.cores.cores.length ∧ d < 8 ∧ s.dload c ((s.core c).ar n / 8 * 8) 8 = some v) ∧
    (∃ (c : Nat) (n : Nat) (s : State), s.coreLive c = true ∧ c < s.cores.cores.length ∧ (s.dline c (((s.core c).ar n / 4 * 4) / 32)).isSome = true) ∧
    (∃ (c : Nat) (d : Nat) (n : Nat) (s : State), s.coreLive c = true ∧ c < s.cores.cores.length ∧ d < 8 ∧ (s.dline c (((s.core c).ar n / 8 * 8) / 32)).isSome = true) ∧
    (∃ (c : Nat) (s : State), s.coreLive c = true ∧ c < s.cores.cores.length) ∧
    (∃ (c : Nat) (d : Nat) (s : State), s.coreLive c = true ∧ c < s.cores.cores.length ∧ d < 8) ∧
    (∃ (c : Nat) (u : Nat) (s : State), s.coreLive c = true ∧ c < s.cores.cores.length ∧ u < 8) ∧
    (∃ (c : Nat) (d : Nat) (u : Nat) (s : State), s.coreLive c = true ∧ c < s.cores.cores.length ∧ d < 28 ∧ u < 28 ∧ (d < 16 ∨ u < 16)) ∧
    (∃ (c : Nat) (d : Nat) (u : Nat) (s : State), s.coreLive c = true ∧ c < s.cores.cores.length ∧ d < 28 ∧ u < 28 ∧ (d < 16 ∨ u < 16)) ∧
    (∃ (c : Nat) (d : Nat) (num : Nat) (wr : Bool) (s : State), s.coreLive c = true ∧ c < s.cores.cores.length ∧ ((wr = true → ∀ i : Nat, i < num % 16 + 1 → s.coefAllowed c ((s.core c).gr d).toNat (((s.core c).gr d).toNat % 2 ^ 20 + i) = true))) ∧
    (∃ (c : Nat) (d : Nat) (num : Nat) (wr : Bool) (s : State), s.coreLive c = true ∧ c < s.cores.cores.length ∧ ((wr = true → ∀ i : Nat, i < num % 16 + 1 → s.coefAllowed c ((s.core c).gr d).toNat (((s.core c).gr d).toNat % 2 ^ 20 + i) = true))) ∧
    (∃ (c : Nat) (s : State), c < s.cores.cores.length ∧ s.hasGrant c = true ∧ (s.doBurst c).2 = none) :=
  ⟨⟨9, 2, 0, live 9 (fun x => { x with dmem := [(2047, 5)], a := [0, 0, 0xFFFB, 0], o := [0, 0, 0, 8], l := [0, 0, 64, 0] }), by decide +kernel⟩,
   ⟨9, 7, 2, 5, live 9 (fun x => { x with dmem := [(2047, 5)], a := [0, 0, 0xFFFB, 0], o := [0, 0, 0, 8], l := [0, 0, 64, 0] }), by decide +kernel⟩,
   ⟨9, 2, live 9 (fun x => { x with dmem := [(2047, 5)], a := [0, 0, 0xFFFB, 0], o := [0, 0, 0, 8], l := [0, 0, 64, 0] }), by decide +kernel⟩,
   ⟨9, 7, 2, live 9 (fun x => { x with dmem := [(2047, 5)], a := [0, 0, 0xFFFB, 0], o := [0, 0, 0, 8], l := [0, 0, 64, 0] }), by decide +kernel⟩,
   ⟨9, live 9 (fun x => { x with dmem := [(2047, 5)], a := [0, 0, 0xFFFB, 0], o := [0, 0, 0, 8], l := [0, 0, 64, 0] }), by decide +kernel⟩,
   ⟨9, 7, live 9 id, by decide +kernel⟩,
   ⟨9, 7, live 9 id, by decide +kernel⟩,
   ⟨9, 27, 2, live 9 (fun x => { x with g := [0, 0, 33, 7, 0, 0, 0, 0, 0, 0, 0, 0, 0, 0, 0, 0] }), by decide +kernel⟩,
   ⟨9, 15, 16, live 9 id, by decide +kernel⟩,
   ⟨9, 1, 15, true, live 9 (fun x => { x with g := [0, 0x900, 0, 0, 0, 0, 0, 0, 0, 0, 0, 0, 0, 0, 0, 0] }), by decide +kernel⟩,
   ⟨9, 1, 15, false, live 9 id, by decide +kernel⟩,
   ⟨9, (fun (x : State) => ({ x with cores := { x.cores with busA := { BusArb.reset with granted := some 9 } } } : State)) (live 9 (fun x => { x with burst := some ⟨0, 0x900, 1, false⟩ })), by decide +kernel⟩⟩

/-- States and operands that meet the hypotheses of Obligations.CoreComplexComplete, clause by clause. -/
theorem hyps_CoreComplexComplete :
    (∃ (c : Nat) (d : Nat) (u : Nat) (v : Nat) (s : State), s.coreLive c = true ∧ c < s.cores.cores.length ∧ d < 4 ∧ u < 8 ∧ v < 8) ∧
    (∃ (c : Nat) (d : Nat) (u : Nat) (v : Nat) (s : State), s.coreLive c = true ∧ c < s.cores.cores.length ∧ d < 4 ∧ u < 8 ∧ v < 8) ∧
    (∃ (c : Nat) (d : Nat) (u : Nat) (v : Nat) (s : State), s.coreLive c = true ∧ c < s.cores.cores.length ∧ d < 4 ∧ u < 8 ∧ v < 8) ∧
    (∃ (c : Nat) (d : Nat) (u : Nat) (v : Nat) (s : State), s.coreLive c = true ∧ c < s.cores.cores.length ∧ d < 4 ∧ u < 8 ∧ v < 8) ∧
    (∃ (c : Nat) (d : Nat) (p : Nat) (q : Nat) (s : State), s.coreLive c = true ∧ c < s.cores.cores.length ∧ d < 4 ∧ (s.core c).d.length = 8 ∧ s.dload c ((s.core c).ar 0 / 8 * 8) 8 = some p ∧ s.dload c ((s.core c).ar 1 / 8 * 8) 8 = some q) ∧
    (∃ (c : Nat) (d : Nat) (s : State), s.coreLive c = true ∧ c < s.cores.cores.length ∧ d < 4) ∧
    (∃ (c : Nat) (d : Nat) (u : Nat) (s : State), s.coreLive c = true ∧ c < s.cores.cores.length ∧ d < 8 ∧ u < 4) ∧
    (∃ (c : Nat) (u : Nat) (s : State), s.coreLive c = true ∧ c < s.cores.cores.length ∧ u < 4) :=
  ⟨⟨9, 3, 0, 7, live 9 (fun x => { x with d := [(0x1FFFF, 0x20000), (5, 6), (0, 0), (0, 0), (0, 0), (0, 0), (0, 0), (7, 8)], ac := [(0, 0), (0, 0), (0, 0), (0x7FFFFFFFFFFF, 1)] }), by decide +kernel⟩,
   ⟨9, 3, 0, 7, live 9 (fun x => { x with d := [(0x1FFFF, 0x20000), (5, 6), (0, 0), (0, 0), (0, 0), (0, 0), (0, 0), (7, 8)], ac := [(0, 0), (0, 0), (0, 0), (0x7FFFFFFFFFFF, 1)] }), by decide +kernel⟩,
   ⟨9, 3, 0, 7, live 9 (fun x => { x with d := [(0x1FFFF, 0x20000), (5, 6), (0, 0), (0, 0), (0, 0), (0, 0), (0, 0), (7, 8)], ac := [(0, 0), (0, 0), (0, 0), (0x7FFFFFFFFFFF, 1)] }), by decide +kernel⟩,
   ⟨9, 3, 0, 7, live 9 (fun x => { x with d := [(0x1FFFF, 0x20000), (5, 6), (0, 0), (0, 0), (0, 0), (0, 0), (0, 0), (7, 8)], ac := [(0, 0), (0, 0), (0, 0), (0x7FFFFFFFFFFF, 1)] }), by decide +kernel⟩,
   ⟨9, 3, 0, 5, live 9 (fun x => { x with dmem := [(0, 5)], a := [7, 24, 0, 0] }), by decide +kernel⟩,
   ⟨9, 3, live 9 (fun x => { x with d := [(0x1FFFF, 0x20000), (5, 6), (0, 0), (0, 0), (0, 0), (0, 0), (0, 0), (7, 8)], ac := [(0, 0), (0, 0), (0, 0), (0x7FFFFFFFFFFF, 1)] }), by decide +kernel⟩,
   ⟨9, 7, 3, live 9 (fun x => { x with d := [(0x1FFFF, 0x20000), (5, 6), (0, 0), (0, 0), (0, 0), (0, 0), (0, 0), (7, 8)], ac := [(0, 0), (0, 0), (0, 0), (0x7FFFFFFFFFFF, 1)] }), by decide +kernel⟩,
   ⟨9, 3, live 9 (fun x => { x with d := [(0x1FFFF, 0x20000), (5, 6), (0, 0), (0, 0), (0, 0), (0, 0), (0, 0), (7, 8)], ac := [(0, 0), (0, 0), (0, 0), (0x7FFFFFFFFFFF, 1)] }), by decide +kernel⟩⟩

/-- States and operands that meet the hypotheses of Obligations.CorePortsComplete, clause by clause. -/
theorem hyps_CorePortsComplete :
    (∃ (c : Nat) (s : State), s.coreLive c = true ∧ c < s.cores.cores.length) ∧
    (∃ (c : Nat) (u : Nat) (port : Nat) (s : State), s.coreLive c = true ∧ c < s.cores.cores.length ∧ ((s.countSteps c 1).portOut c (port % 65536) ((s.core c).gr u).toNat).2 = .next) ∧
    (∃ (c : Nat) (s : State), s.coreLive c = true ∧ c < s.cores.cores.length) ∧
    (∃ (c : Nat) (u : Nat) (s : State), s.coreLive c = true ∧ c < s.cores.cores.length ∧ (s.core c).gr u = 0 ∧ (s.core c).fault ≠ 0) ∧
    (∃ (c : Nat) (s : State), s.coreLive c = true ∧ c < s.cores.cores.length) ∧
    (∃ (c : Nat) (u : Nat) (s : State), s.coreLive c = true ∧ c < s.cores.cores.length ∧ ((s.core c).gr u).toNat = 0xA5C3) ∧
    (∃ (c : Nat) (s : State), s.coreLive c = true ∧ c < s.cores.cores.length) ∧
    (∃ (c : Nat) (s : State), s.coreLive c = true ∧ c < s.cores.cores.length) ∧
    (∃ (c : Nat) (u : Nat) (bs : List Byte) (s : State), s.coreLive c = true ∧ c < s.cores.cores.length ∧ ((s.core c).gr u).toNat = 1 ∧ (s.core c).lgBusy = false ∧ s.dbytes c 2049 ((s.core c).lgReqAddr / 32 * 32) ((s.core c).lgReqLen % 65536) = .inl bs) ∧
    (∃ (c : Nat) (u : Nat) (s : State), s.coreLive c = true ∧ c < s.cores.cores.length ∧ ((s.core c).gr u).toNat = 1 ∧ (s.core c).lgBusy = true) ∧
    (∃ (c : Nat) (s : State), c < s.cores.cores.length ∧ (s.core c).lgBusy = true ∧ (s.core c).lgDiscard = false ∧ requestFault false (s.core c).lgBytes = some .length ∧ s.ports.ready = true ∧ s.portsDead = false) ∧
    (∃ (c : Nat) (bs : List Byte) (rest : List (List Byte)) (s : State), s.coreLive c = true ∧ c < s.cores.cores.length ∧ 64 ≤ c ∧ s.cores.appRx = bs :: rest) ∧
    (∃ (c : Nat) (u : Nat) (bs : List Byte) (s : State), s.coreLive c = true ∧ c < s.cores.cores.length ∧ 64 ≤ c ∧ s.dbytes c 2049 ((s.core c).appTxAddr / 32 * 32) (((s.core c).gr u).toNat % 65536) = .inl bs) ∧
    (∃ (c : Nat) (s : State), s.coreLive c = true ∧ c < s.cores.cores.length ∧ 64 ≤ c) ∧
    (∃ (c : Nat) (s : State), s.coreLive c = true ∧ c < s.cores.cores.length ∧ 64 ≤ c) ∧
    (∃ (c : Nat) (p : Nat) (o : Nat) (v : Byte) (rest : List (Nat × Nat × Byte)) (s : State), s.coreLive c = true ∧ c < s.cores.cores.length ∧ 64 ≤ c ∧ s.ports.winQueue = (p, o, v) :: rest) ∧
    (∃ (c : Nat) (u : Nat) (s : State), s.coreLive c = true ∧ c < s.cores.cores.length ∧ 64 ≤ c ∧ ((s.core c).gr u).toNat = 1 ∧ (s.core c).resBusy = false) ∧
    (∃ (c : Nat) (s : State), c < s.cores.cores.length ∧ (s.core c).timer ≠ 0) ∧
    (∃ (c : Nat) (s : State), c < s.cores.cores.length ∧ (s.core c).resBusy = true) :=
  ⟨⟨66, live 66 id, by decide +kernel⟩,
   ⟨66, 4, 0x12, live 66 id, by decide +kernel⟩,
   ⟨66, live 66 id, by decide +kernel⟩,
   ⟨66, 4, live 66 (fun x => { x with fault := 3 }), by decide +kernel⟩,
   ⟨66, live 66 (fun x => { x with aov := true }), by decide +kernel⟩,
   ⟨66, 0, live 66 (fun x => { x with g := [0xA5C3, 0, 0, 7, 0, 0, 0, 0, 0, 0, 0, 0, 0, 0, 0, 0] }), by decide +kernel⟩,
   ⟨66, live 66 id, by decide +kernel⟩,
   ⟨66, live 66 (fun x => { x with events := 17 }), by decide +kernel⟩,
   ⟨6, 1, [0], live 6 (fun x => { x with lgReqLen := 1, dmem := [(0, 5)], g := [0, 1, 0, 7, 0, 0, 0, 0, 0, 0, 0, 0, 0, 0, 0, 0] }), by decide +kernel⟩,
   ⟨6, 1, live 6 (fun x => { x with lgBusy := true, g := [0, 1, 0, 7, 0, 0, 0, 0, 0, 0, 0, 0, 0, 0, 0, 0] }), by decide +kernel⟩,
   ⟨6, live 6 (fun x => { x with lgBusy := true }), by decide +kernel⟩,
   ⟨66, [1, 2], [], (fun (y : State) => ({ y with cores := { y.cores with appRx := [[1, 2]] } } : State)) (live 66 id), by decide +kernel⟩,
   ⟨66, 1, [0], live 66 (fun x => { x with dmem := [(0, 5)], g := [0, 1, 0, 7, 0, 0, 0, 0, 0, 0, 0, 0, 0, 0, 0, 0] }), by decide +kernel⟩,
   ⟨66, live 66 (fun x => { x with winAddr := 9999, g := [0, 0x010203FF, 0, 7, 0, 0, 0, 0, 0, 0, 0, 0, 0, 0, 0, 0] }), by decide +kernel⟩,
   ⟨66, live 66 (fun x => { x with winAddr := 9999, g := [0, 9, 0, 7, 0, 0, 0, 0, 0, 0, 0, 0, 0, 0, 0, 0] }), by decide +kernel⟩,
   ⟨66, 3, 200, 255, [], (fun (y : State) => ({ y with ports := { y.ports with winQueue := [(3, 200, 255)] } } : State)) (live 66 id), by decide +kernel⟩,
   ⟨66, 1, live 66 (fun x => { x with g := [0, 1, 0, 7, 0, 0, 0, 0, 0, 0, 0, 0, 0, 0, 0, 0] }), by decide +kernel⟩,
   ⟨6, live 6 (fun x => { x with timer := 5 }), by decide +kernel⟩,
   ⟨66, live 66 (fun x => { x with resBusy := true }), by decide +kernel⟩⟩

/-- States and operands that meet the hypotheses of Obligations.FirmwareComplete, clause by clause. -/
theorem hyps_FirmwareComplete :
    (∃ (c : Nat) (s : State), c < 64 ∧ c < s.cores.cores.length ∧ (s.rd (K.coreState c) = 1 ∨ s.rd (K.coreState c) = 2) ∧ (s.core c).wdogFrom.isSome = true ∧ (s.integ.refetch.any (fun e => e.1 = c) = false) ∧ s.rd K.svWdog ≠ 0) ∧
    (∃ (c : Nat) (s : State), 64 ≤ c ∧ c < 68 ∧ (s.rd (K.coreState c) = 1 ∨ s.rd (K.coreState c) = 2) ∧ (s.core c).wdogFrom.isSome = true ∧ (s.integ.refetch.any (fun e => e.1 = c) = false)) ∧
    (∃ (src : Nat) (c : Nat) (s : State), s.accepts src (K.coreRestart c) ∧ c < 64 ∧ c < s.cores.cores.length ∧ s.rd (K.coreState c) ≠ 0 ∧ s.rd (K.coreState c) ≠ 4) ∧
    (∃ (c : Nat) (s : State), s.accepts 0x1000 (K.coreRestart c) ∧ c < 64 ∧ s.firmware = true ∧ s.rd (K.coreState c) = 3 ∧ (s.leadOf (coreCarrier c) (c % 32)).isSome = true) ∧
    (∃ (src : Nat) (s : State), s.accepts src K.fwRestart ∧ s.fuse.lifecycle ≠ 0 ∧ s.operational = true) ∧
    (∃ (s : State), s.cores.restarting = true) ∧
    (∃ (src : Nat) (v : Int) (s : State), s.accepts src K.loadBegin ∧ s.rd K.loadState = 0 ∧ s.loadSource src = true ∧ (s.cores.running = [] ∨ s.rd K.runSlot ≠ clampKey K.loadBegin v)) ∧
    (∃ (l : LoadRun) (s : State), s.cores.load = some l ∧ s.rd K.loadState = 1) ∧
    (∃ (src : Nat) (p : Nat) (bs : List Byte) (l : LoadRun) (s : State), s.accepts src (K.loadManifest p) ∧ bs.length ≤ 4096 ∧ s.cores.load = some l ∧ s.loadGate src [2] = none ∧ (joinParts (aput l.parts p bs) 9 0).length < 88) ∧
    (∃ (src : Nat) (g : Nat) (bs : List Byte) (l : LoadRun) (s : State), s.accepts src (K.loadSegment g) ∧ bs.length ≤ 4096 ∧ s.cores.load = some l ∧ s.loadGate src [3, 4] = none) ∧
    (∃ (e : Nat × List Byte) (rest : List (Nat × List Byte)) (l : LoadRun) (s : State), s.cores.load = some l ∧ l.queue = e :: rest) ∧
    (∃ (src : Nat) (l : LoadRun) (s : State), s.accepts src K.loadActivate ∧ s.cores.load = some l ∧ s.rdN K.loadOwner = src ∧ s.loadSource src = true ∧ s.rd K.loadState = 4) ∧
    (∃ (src : Nat) (l : LoadRun) (s : State), s.accepts src K.loadAbort ∧ s.cores.load = some l ∧ s.rdN K.loadOwner = src ∧ s.loadSource src = true) :=
  ⟨⟨63, live 63 (fun x => { x with wdogFrom := some 0, pc := 8 }), by decide +kernel⟩,
   ⟨67, live 67 (fun x => { x with wdogFrom := some 0, pc := 8 }), by decide +kernel⟩,
   ⟨1, 63, live 63 (fun x => { x with pc := 8 }), by decide +kernel⟩,
   ⟨0, up [(K.fwState, 1), (K.coreState 0, 3)], by decide +kernel⟩,
   ⟨1, fused [] (fun f => { f with lifecycle := 2 }), by decide +kernel⟩,
   ⟨(fun (x : State) => ({ x with cores := { x.cores with restarting := true }, flash := { FlashState.reset with present := false } } : State)) (up []), by decide +kernel⟩,
   ⟨1, 1, up [], by decide +kernel⟩,
   ⟨⟨0, [], [], [], []⟩, loading 1 ⟨0, [], [], [], []⟩, by decide +kernel⟩,
   ⟨1, 8, [7], ⟨1, [], [], [], []⟩, loading 2 ⟨1, [], [], [], []⟩, by decide +kernel⟩,
   ⟨1, 1023, [7], ⟨1, [], [], [], []⟩, loading 3 ⟨1, [], [], [], []⟩, by decide +kernel⟩,
   ⟨(3, [7]), [], ⟨1, [], [], [(3, [7])], []⟩, loading 3 ⟨1, [], [], [(3, [7])], []⟩, by decide +kernel⟩,
   ⟨1, ⟨1, [], [], [], []⟩, loading 4 ⟨1, [], [], [], []⟩, by decide +kernel⟩,
   ⟨1, ⟨1, [], [], [], []⟩, loading 3 ⟨1, [], [], [], []⟩, by decide +kernel⟩⟩

/-- States and operands that meet the hypotheses of Obligations.IntegrityComplete, clause by clause. -/
theorem hyps_IntegrityComplete :
    (∃ (c : Nat) (line : Nat) (rest : List (Nat × Nat)) (s : State), s.integ.refetch = (c, line) :: rest) ∧
    (∃ (line : Nat) (rest : List Nat) (s : State), s.integ.rebuilding = line :: rest ∧ s.ed.journalA.good = true) ∧
    (∃ (mem : Nat) (line : Nat) (rest : List (Nat × Nat)) (s : State), s.integ.repairs = (mem, line) :: rest) ∧
    (∃ (s : State), s.operational = true) ∧
    (∃ (s : State), s.operational = true) ∧
    (∃ (src : Nat) (s : State), s.accepts src K.faultLogClear) :=
  ⟨⟨3, 128, [], (fun (x : State) => ({ x with integ := { IntegrityState.reset with refetch := [(3, 128)], bad := [(3, 128)] } } : State)) (up []), by decide +kernel⟩,
   ⟨8, [9], (fun (x : State) => ({ x with integ := { IntegrityState.reset with rebuilding := [8, 9] } } : State)) (up [(K.carTarget .a, 2)]), by decide +kernel⟩,
   ⟨0x200, 16777216, [], (fun (x : State) => ({ x with integ := { IntegrityState.reset with repairs := [(0x200, 16777216)], bad := [(0x200, 5)] } } : State)) (up []), by decide +kernel⟩,
   ⟨up [(K.scrubPasses, 281474976710655)], by decide +kernel⟩,
   ⟨up [], by decide +kernel⟩,
   ⟨1, up [], by decide +kernel⟩⟩

/-- States and operands that meet the hypotheses of Obligations.ThermalComplete, clause by clause. -/
theorem hyps_ThermalComplete :
    (∃ (vals : List (Option Int)) (m : Nat) (v : Int) (s : State), (s.rd K.deviceState = devBoot ∨ s.rd K.deviceState = devOperational) ∧ m < 24 ∧ m < s.th.sensors.length ∧ s.sensorGood m = true ∧ nth vals m none = some v ∧ -5500 ≤ v ∧ v ≤ 15000) ∧
    (∃ (vals : List (Option Int)) (m : Nat) (v : Int) (s : State), (s.rd K.deviceState = devBoot ∨ s.rd K.deviceState = devOperational) ∧ m < 24 ∧ m < s.th.sensors.length ∧ s.sensorGood m = true ∧ nth vals m none = some v ∧ -5500 ≤ v ∧ v ≤ 15000) ∧
    (∃ (s : State), s.blocked = true) ∧
    (∃ (src : Nat) (s : State), s.accepts src K.fwLevel) ∧
    (∃ (src : Nat) (s : State), s.accepts src K.shutdownClear) ∧
    (∃ (s : State), s.firmware = true ∧ s.rd K.thermalLevel = 2 ∧ s.rd K.throttleThresh ≤ s.rd K.hottest) ∧
    (∃ (c : Carrier) (l : Nat) (s : State), s.present c = true ∧ s.firmware = true ∧ s.limitOf c = some l ∧ l < s.rxCapacityOf c) ∧
    (∃ (c : Carrier) (l : Nat) (s : State), s.present c = true ∧ s.firmware = true ∧ s.limitOf c = some l ∧ l < s.rxCapacityOf c) ∧
    (∃ (s : State), s.firmware = true ∧ s.rd K.thermalLevel = 0 ∧ s.rd K.fwLevel ≠ 0) ∧
    (∃ (s : State), s.rd K.deviceState = devDormant ∧ s.on K.xtalTcEnable = true ∧ s.rd K.aonSource = 0) ∧
    (∃ (s : State), s.rd K.deviceState ≠ devOff ∧ s.rd K.aonSource = 0) ∧
    (∃ (s : State), s.operational = true) :=
  ⟨⟨List.replicate 24 (some 2500), 23, 2500, up [], by decide +kernel⟩,
   ⟨[some 15000], 0, 15000, up [], by decide +kernel⟩,
   ⟨(fun (x : State) => ({ x with th := { ThermalState.reset with blockEnd := some 5 } } : State)) (up []), by decide +kernel⟩,
   ⟨0x1000, up [(K.marginState, 1)], by decide +kernel⟩,
   ⟨1, up [], by decide +kernel⟩,
   ⟨up [(K.fwState, 1), (K.thermalLevel, 2), (K.hottest, 15000), (K.carState .a, 3)], by decide +kernel⟩,
   ⟨.a, 0, (fun (x : State) => ({ x with th := { ThermalState.reset with limitSent := [some 0, none] } } : State)) (up [(K.fwState, 1)]), by decide +kernel⟩,
   ⟨.a, 0, (fun (x : State) => ({ x with th := { ThermalState.reset with limitSent := [some 0, none] } } : State)) (up [(K.fwState, 1)]), by decide +kernel⟩,
   ⟨up [(K.fwState, 1), (K.fwLevel, 3)], by decide +kernel⟩,
   ⟨st [(K.deviceState, 4), (K.xtalTcEnable, 1)], by decide +kernel⟩,
   ⟨up [], by decide +kernel⟩,
   ⟨up [(K.aonSource, 1)], by decide +kernel⟩⟩

/-- States and operands that meet the hypotheses of Obligations.PowerComplete, clause by clause. -/
theorem hyps_PowerComplete :
    (∃ (c : Carrier) (e : Engine) (s : State), s.rd K.marginState = 1 ∧ s.pw.dropped = none ∧ ((s.engines.filter (fun e => e.active && e.mons.any (fun m => s.rd (K.paceMargin m) < s.rd K.marginAlarm))).head? = some e) ∧ s.dropFor e = some c) ∧
    (∃ (s : State), s.rd K.marginState = 1 ∧ s.rd K.marginTarget ≤ s.rd K.marginMin) ∧
    (∃ (s : State), s.on K.avsEnable = true) ∧
    (∃ (s : State), s.on K.avsEnable = true) ∧
    (∃ (s : State), s.on K.avsEnable = true) ∧
    (∃ (s : State), 1 ≤ s.rd K.avsState ∧ s.rd K.avsState ≤ 3) ∧
    (∃ (s : State), s.idleCond = true ∧ 0 < s.rd K.idleTimeout ∧ s.pw.entering = false) ∧
    (∃ (src : Nat) (s : State), s.accepts src K.sleepNow) ∧
    (∃ (s : State), s.pw.entering = true ∧ s.operational = true) ∧
    (∃ (code : Nat) (at_ : Nat) (v : Nat) (s : State), s.wakeMatches code at_ v = true ∧ s.wakeEnabled code = true ∧ s.pw.entering = true) ∧
    (∃ (code : Nat) (at_ : Nat) (v : Nat) (s : State), s.wakeMatches code at_ v = true ∧ s.wakeEnabled code = true ∧ s.pw.entering = false ∧ s.rd K.deviceState = devDormant) ∧
    (∃ (s : State), s.wakeEnabled 7 = true ∧ s.pw.entering = false ∧ s.rd K.deviceState = devDormant) ∧
    (∃ (s : State), s.rd K.deviceState = devDormant) ∧
    (∃ (src : Nat) (s : State), s.accepts src K.padRelease) :=
  ⟨⟨.a, ⟨some .a, [0, 1, 2], true⟩, up [(K.marginState, 1), (K.carState .a, 3), (K.carTarget .a, 3), (K.paceMargin 2, -9000)], by decide +kernel⟩,
   ⟨up [(K.marginState, 1), (K.marginMin, 10000)], by decide +kernel⟩,
   ⟨up [(K.avsEnable, 1)], by decide +kernel⟩,
   ⟨up [(K.avsEnable, 1)], by decide +kernel⟩,
   ⟨up [(K.avsEnable, 1)], by decide +kernel⟩,
   ⟨up [(K.avsState, 3)], by decide +kernel⟩,
   ⟨up [(K.carState .a, 0), (K.idleTimeout, 5), (K.wakeEnable, 64)], by decide +kernel⟩,
   ⟨1, up [(K.wakeEnable, 64)], by decide +kernel⟩,
   ⟨(fun (x : State) => ({ x with pw := { PowerState.reset with entering := true } } : State)) (up []), by decide +kernel⟩,
   ⟨8, 15, 0, (fun (x : State) => ({ x with pw := { PowerState.reset with entering := true } } : State)) (up [(K.wakeEnable, 128), (K.wakeGpio, 32768)]), by decide +kernel⟩,
   ⟨5, 0, 0, st [(K.deviceState, 4), (K.wakeEnable, 16)], by decide +kernel⟩,
   ⟨st [(K.deviceState, 4), (K.wakeEnable, 64)], by decide +kernel⟩,
   ⟨st [(K.deviceState, 4)], by decide +kernel⟩,
   ⟨1, up [(K.padsHeld, 1)], by decide +kernel⟩⟩

/-- States and operands that meet the hypotheses of Obligations.SelfTestComplete, clause by clause. -/
theorem hyps_SelfTestComplete :
    (∃ (s : State), s.operational = true) ∧
    (∃ (src : Nat) (s : State), s.accepts src K.sliceRun ∧ s.operational = true) ∧
    (∃ (src : Nat) (v : Int) (code : Nat) (target : Nat) (s : State), s.accepts src K.testRequest ∧ code = (clampKey K.testRequest v).toNat / 256 ∧ target = (if code ≤ 4 then (clampKey K.testRequest v).toNat % 256 else 0)) ∧
    (∃ (code : Nat) (target : Nat) (s : State), s.boot.test = some (code, target)) :=
  ⟨⟨up [(K.sliceRounds, 281474976710655)], by decide +kernel⟩,
   ⟨1, up [], by decide +kernel⟩,
   ⟨1, 0x20F, 2, 15, up [], by decide +kernel⟩,
   ⟨4, 2, (fun (x : State) => ({ x with boot := { BootState.reset with test := some (4, 2) } } : State)) (up []), by decide +kernel⟩⟩

/-- States and operands that meet the hypotheses of Obligations.KeyOperationsComplete, clause by clause. -/
theorem hyps_KeyOperationsComplete :
    (∃ (src : Nat) (slot : Nat) (vaux : Nat) (s : State), s.accepts src K.keyCmd ∧ s.sec.fuseOp = none ∧ s.fuse.lifecycle ≤ 1 ∧ slot < 4 ∧ ((s.root slot).state = 0 ∨ (s.root slot).state = 3) ∧ (s.blob K.keyStage).length = 1793 ∧ 3200 ≤ vaux) ∧
    (∃ (src : Nat) (slot : Nat) (vaux : Nat) (s : State), s.accepts src K.keyCmd ∧ s.sec.fuseOp = none ∧ s.fuse.lifecycle ≤ 1 ∧ slot < 4 ∧ ((s.root slot).state = 3 ∨ ((s.root slot).state = 1 ∧ (List.range 4).any (fun i => i ≠ slot && (s.root i).state = 1) = true)) ∧ 3200 ≤ vaux) ∧
    (∃ (src : Nat) (slot : Nat) (s : State), s.accepts src K.keyCmd ∧ slot < 4 ∧ (s.root slot).state = 1 ∧ s.flash.present = true) ∧
    (∃ (src : Nat) (slot : Nat) (s : State), s.accepts src K.keyCmd ∧ slot < 8 ∧ s.flash.present = true) ∧
    (∃ (src : Nat) (slot : Nat) (s : State), s.accepts src K.keyCmd ∧ slot < 8 ∧ s.fuse.lifecycle ≤ 1 ∧ s.flash.present = true) ∧
    (∃ (src : Nat) (slot : Nat) (vaux : Nat) (s : State), s.accepts src K.keyCmd ∧ s.sec.fuseOp = none ∧ slot < 8 ∧ s.fuse.secverMin < min (mfest s.cores.running 12 4) 63 ∧ 3200 ≤ vaux) ∧
    (∃ (src : Nat) (slot : Nat) (vaux : Nat) (s : State), s.accepts src K.keyCmd ∧ s.sec.fuseOp = none ∧ slot < 8 ∧ s.fuse.lifecycle ≤ 1 ∧ s.fuse.ctrlVerMin < min (beNat ((s.blob K.keyStage).take 4)) 31 ∧ 3200 ≤ vaux) ∧
    (∃ (src : Nat) (slot : Nat) (vaux : Nat) (s : State), s.accepts src K.keyCmd ∧ s.sec.fuseOp = none ∧ slot < 8 ∧ (s.fuse.lifecycle = 1 ∨ s.fuse.lifecycle = 2) ∧ ((List.range 8).any (fun i => s.rd (K.ctrlState i) = 1) = true) ∧ 3200 ≤ vaux) ∧
    (∃ (op : FuseOp) (s : State), s.sec.fuseOp = some op) :=
  ⟨⟨1, 3, 3200, (up []).setBlob K.keyStage (List.replicate 1793 1), by decide +kernel⟩,
   ⟨1, 0, 3200, fused [] (fun f => { f with roots := List.replicate 4 ⟨[1], true, false⟩ }), by decide +kernel⟩,
   ⟨1, 3, fused [] (fun f => { f with roots := List.replicate 4 ⟨[1], true, false⟩ }), by decide +kernel⟩,
   ⟨1, 7, up [], by decide +kernel⟩,
   ⟨1, 7, up [(K.ctrlState 7, 1)], by decide +kernel⟩,
   ⟨1, 0, 3200, (fun (x : State) => ({ x with cores := { x.cores with running := List.replicate 200 1 } } : State)) (up []), by decide +kernel⟩,
   ⟨1, 0, 3200, (up []).setBlob K.keyStage [0, 0, 0, 9], by decide +kernel⟩,
   ⟨1, 0, 3200, fused [(K.ctrlState 7, 1)] (fun f => { f with lifecycle := 1 }), by decide +kernel⟩,
   ⟨.lifecycle 1 1, (fun (x : State) => ({ x with sec := { SecState.reset with fuseOp := some (.lifecycle 1 1) } } : State)) (up []), by decide +kernel⟩⟩

/-- States and operands that meet the hypotheses of Obligations.LifecycleAndIdentityComplete, clause by clause. -/
theorem hyps_LifecycleAndIdentityComplete :
    (∃ (src : Nat) (v : Int) (target : Nat) (s : State), s.accepts src K.lcTransition ∧ s.sec.fuseOp = none ∧ target = (if 1 ≤ v ∧ v ≤ 4 then v.toNat else 0)) ∧
    (∃ (src : Nat) (vaux : Nat) (s : State), s.accepts src K.idGenerate ∧ s.sec.fuseOp = none ∧ s.fuse.idSeal = false ∧ s.fuse.lifecycle = 1 ∧ 3200 ≤ vaux) ∧
    (∃ (src : Nat) (s : State), s.accepts src K.attRequest) ∧
    (∃ (seed : Nat) (tweak : Bool) (s : State), s.rd K.attState = 1 ∧ s.flash.identity = some (seed, tweak)) :=
  ⟨⟨1, 1, 1, up [], by decide +kernel⟩,
   ⟨1, 3200, fused [] (fun f => { f with lifecycle := 1 }), by decide +kernel⟩,
   ⟨1, up [], by decide +kernel⟩,
   ⟨3, true, (fun (x : State) => ({ x with flash := { FlashState.reset with identity := some (3, true) } } : State)) (up [(K.attState, 1)]), by decide +kernel⟩⟩

/-- States and operands that meet the hypotheses of Obligations.DebugPortComplete, clause by clause. -/
theorem hyps_DebugPortComplete :
    (∃ (s : State), s.debugOpen = true) ∧
    (∃ (s : State), s.debugOpen = true) ∧
    (∃ (s : State), s.debugOpen = true) ∧
    (∃ (s : State), s.debugOpen = true) ∧
    (∃ (s : State), s.debugOpen = true) ∧
    (∃ (s : State), s.debugOpen = true) ∧
    (∃ (s : State), s.debugOpen = true ∧ s.dbg.sel < 68 ∧ (s.rd (K.coreState s.dbg.sel) = 1 ∨ s.rd (K.coreState s.dbg.sel) = 2)) ∧
    (∃ (s : State), s.debugOpen = true ∧ s.dbg.sel < 68 ∧ s.dbg.sel < s.cores.cores.length ∧ s.rd (K.coreState s.dbg.sel) = 4 ∧ (s.core s.dbg.sel).fault = 0 ∧ (s.core s.dbg.sel).waiting = none ∧ (s.core s.dbg.sel).burst = none ∧ (s.integ.refetch.any (fun e => e.1 = s.dbg.sel) = false) ∧ (s.core s.dbg.sel).word (s.core s.dbg.sel).pc = 0) ∧
    (∃ (s : State), s.debugOpen = true ∧ s.dbg.sel < 68 ∧ s.rd (K.coreState s.dbg.sel) = 4) ∧
    (∃ (w : Nat) (s : State), s.debugOpen = true ∧ s.dbg.sel < 68 ∧ s.dbg.sel < s.cores.cores.length ∧ (s.rd (K.coreState s.dbg.sel) = 3 ∨ s.rd (K.coreState s.dbg.sel) = 4) ∧ bitsOf w 62 60 = 0) :=
  ⟨⟨up [], by decide +kernel⟩,
   ⟨up [], by decide +kernel⟩,
   ⟨up [], by decide +kernel⟩,
   ⟨up [], by decide +kernel⟩,
   ⟨fused [] (fun f => { f with lifecycle := 3 }), by decide +kernel⟩,
   ⟨up [], by decide +kernel⟩,
   ⟨live 0 id, by decide +kernel⟩,
   ⟨(up [(K.coreState 0, 4)]).modCore 0 (fun x => { x with imem := [(0, 0)] }), by decide +kernel⟩,
   ⟨up [(K.coreState 0, 4)], by decide +kernel⟩,
   ⟨9223372113164926983, up [(K.coreState 0, 3)], by decide +kernel⟩⟩

/-- States and operands that meet the hypotheses of Obligations.StartupComplete, clause by clause. -/
theorem hyps_StartupComplete :
    (∃ (s : State), s.rd K.deviceState = devOff) ∧
    (∃ (mask : Nat) (s : State), bitOf (mask % 32) 4 = false ∧ mask % 32 ≠ 0 ∧ s.resettable = true) ∧
    (∃ (mask : Nat), bitOf (mask % 32) 4 = true) ∧
    (∃ (s : State), s.resettable = true ∧ s.rd K.deviceState ≠ devReset ∧ s.rd K.deviceState ≠ devDormant) ∧
    (∃ (src : Nat) (s : State), s.accepts src K.swReset) ∧
    (∃ (s : State), s.boot.capture = true ∧ s.rd K.resetTime = 0) ∧
    (∃ (s : State), s.rd K.deviceState = devReset ∧ s.boot.rails % 32 = 31) ∧
    (∃ (s : State), s.rd K.deviceState = devBoot ∧ s.rd K.bootStage ≤ 1) ∧
    (∃ (s : State), s.rd K.deviceState = devBoot ∧ s.rd K.bootStage = 2) ∧
    (∃ (vals : List (List Int)) (s : State), s.rd K.deviceState = devBoot ∧ s.rd K.bootStage = 3 ∧ s.testsFailed vals ≠ 0) ∧
    (∃ (vals : List (List Int)) (s : State), s.rd K.deviceState = devBoot ∧ s.rd K.bootStage = 3 ∧ s.testsFailed vals = 0 ∧ s.boot.waking = false ∧ s.fuse.lifecycle ≠ 0 ∧ s.fuse.lifecycle ≠ 4 ∧ s.rd K.bootSource = 1) ∧
    (∃ (slot : Nat) (s : State), s.boot.verify = some slot ∧ s.rd K.deviceState = devBoot ∧ s.rd K.bootStage = 4) ∧
    (∃ (src : Nat) (s : State), s.accepts src K.svStart ∧ s.operational = true) :=
  ⟨⟨st [(K.deviceState, 0)], by decide +kernel⟩,
   ⟨9, up [], by decide +kernel⟩,
   ⟨16, by decide +kernel⟩,
   ⟨up [], by decide +kernel⟩,
   ⟨1, up [], by decide +kernel⟩,
   ⟨(fun (x : State) => ({ x with boot := { BootState.reset with capture := true } } : State)) (st []), by decide +kernel⟩,
   ⟨State.reset, by decide +kernel⟩,
   ⟨st [(K.bootStage, 1), (K.deviceState, 2)], by decide +kernel⟩,
   ⟨st [(K.bootStage, 2), (K.deviceState, 2)], by decide +kernel⟩,
   ⟨[[-101]], st [(K.bootStage, 3), (K.deviceState, 2)], by decide +kernel⟩,
   ⟨[[], [4, 4, 4], (List.replicate 16 [4095, 4095, 28665, 28665]).flatten, [], [], [0, 2600, 2600, 2600, 2600], [0, 2600, 2600, 2600, 2600]], (fun (x : State) => ({ x with fuse := { x.fuse with lifecycle := 2 } } : State)) (st [(K.bootStage, 3), (K.bootSource, 1), (K.deviceState, 2)]), by decide +kernel⟩,
   ⟨0, (fun (x : State) => ({ x with boot := { BootState.reset with verify := some 0 } } : State)) (st [(K.bootStage, 4), (K.deviceState, 2)]), by decide +kernel⟩,
   ⟨1, up [(K.coreImage 63, 2)], by decide +kernel⟩⟩

theorem hyps_StepRunsTheFrontCommand :
    (∃ (s : State) (c : Instr) (rest : List Instr), s.pending = c :: rest) ∧ (∃ s : State, s.pending = []) :=
  ⟨⟨{ State.reset with pending := [.helloSend, .nonceExpire] }, .helloSend, [.nonceExpire], rfl⟩, ⟨State.reset, rfl⟩⟩

theorem hyps_EveryStepKeepsTheInvariant : ∃ s t : State, s.wf = true ∧ step s = .next t :=
  ⟨{ State.reset with pending := [.nonceExpire] }, State.reset.dropNonce, by decide +kernel, rfl⟩

theorem hyps_NoStepUnblowsAFuse : ∃ s t : State, s.wf = true ∧ step s = .next t :=
  ⟨{ State.reset with pending := [.nonceExpire] }, State.reset.dropNonce, by decide +kernel, rfl⟩

theorem hyps_CommandsChangeOnlyTheirParts : ∃ (i : Instr) (s t : State), exec i s = .next t :=
  ⟨.nonceExpire, State.reset, State.reset.dropNonce, rfl⟩

theorem hyps_PlainWriteFrame : ∃ (src : Nat) (k : Key) (v : Int) (s t : State),
    ¬ k.area ∈ [0x02, 0x10, 0x50, 0x60, 0x62, 0x68, 0x71] ∧ exec (.registerWrite src k v) s = .next t :=
  ⟨1, K.portEnable, 9, up [], _, by decide, rfl⟩

theorem hyps_UnknownKeysAndIndices :
    (∃ (src : Nat) (k : Key) (s : State), s.portOpen src = true ∧ s.portsDead = false ∧ s.ports.ready = true ∧ s.fuse.lifecycle ≠ 4 ∧
      k.area ≠ 0x7F ∧ rowOf (canonKey k) = none) ∧
    (∃ (src : Nat) (k : Key) (r : Row) (s : State), s.portOpen src = true ∧ s.portsDead = false ∧ s.ports.ready = true ∧
      s.fuse.lifecycle ≠ 4 ∧ k.area ≠ 0x7F ∧ rowOf (canonKey k) = some r ∧ r.count ≤ k.idx) :=
  ⟨⟨1, ⟨0x08, 0xFFF, 0⟩, up [], by decide +kernel⟩, ⟨2, ⟨0x08, 0x000, 1⟩, _, up [], by decide +kernel, by decide +kernel,
    by decide +kernel, by decide +kernel, by decide, rfl, by decide⟩⟩

theorem hyps_PackedFieldsClamp : ∃ (c : Carrier) (i hi lo : Nat), hi < 2 ^ 16 ∧ lo < 2 ^ 16 ∧ c = .b ∧ i = 2047 :=
  ⟨.b, 2047, 65535, 65535, by decide⟩

/-- States and operands that meet the hypotheses of Obligations.SwapWithoutFade, clause by clause. -/
theorem hyps_SwapWithoutFade :
    (∃ (src : Nat) (y : Nat) (s : State), s.accepts src (K.sheetSwap y) ∧ y < s.hk.mf.length ∧ (s.mfStateNow y = 0 ∨ s.mfStateNow y = 1 ∨ s.mfStateNow y = 2)) ∧
    (∃ (src : Nat) (y : Nat) (s : State), s.accepts src (K.sheetSwap y) ∧ y < s.hk.mf.length ∧ (s.mfStateNow y = 0 ∨ s.mfStateNow y = 1 ∨ s.mfStateNow y = 2)) :=
  ⟨⟨1, 31, up [(K.stageTap (64 * 31 + 63), 9)], by decide +kernel⟩,
   ⟨0x1003, 0, up [(K.mfEnable 0, 1)], by decide +kernel⟩⟩

/-- States and operands that meet the hypotheses of Obligations.SignPolicyConditions, clause by clause. -/
theorem hyps_SignPolicyConditions :
    (∃ (src : Nat) (slot : Nat) (s : State), s.accepts src K.keyCmd ∧ s.sec.fuseOp = none ∧ slot < 8 ∧ s.fuse.lifecycle ≠ 1 ∧ s.fuse.lifecycle ≠ 2) ∧
    (∃ (src : Nat) (slot : Nat) (s : State), s.accepts src K.keyCmd ∧ s.sec.fuseOp = none ∧ slot < 8 ∧ (s.fuse.lifecycle = 1 ∨ s.fuse.lifecycle = 2) ∧ ((List.range 8).any (fun i => s.rd (K.ctrlState i) = 1) = false)) :=
  ⟨⟨1, 0, up [], by decide +kernel⟩,
   ⟨1, 7, fused [(K.ctrlState 7, 2)] (fun f => { f with lifecycle := 2 }), by decide +kernel⟩⟩

theorem hyps_CircularAddressing :
    (∃ (x : Core) (n m : Nat), n < 4 ∧ m < 4 ∧ x.a.length = 4 ∧ nth x.l n 0 = 0) ∧
    (∃ (x : Core) (n m k : Nat), n < 4 ∧ m < 4 ∧ x.a.length = 4 ∧ 3 ≤ k ∧ k ≤ 15 ∧ nth x.l n 0 = BitVec.ofNat 16 (2 ^ k)) ∧
    (∃ (c n u : Nat) (s : State), s.coreLive c = true ∧ c < s.cores.cores.length ∧ n < 4 ∧ u < 16) ∧
    (∃ v : Int, v < 8) ∧ (∃ v : Int, 8 ≤ v) ∧
    (∃ (c n v : Nat) (s : State), s.coreLive c = true ∧ c < s.cores.cores.length ∧ s.dload c ((s.core c).ar n / 4 * 4) 4 = some v) ∧
    (∃ (c d n v : Nat) (s : State), s.coreLive c = true ∧ c < s.cores.cores.length ∧ d < 8 ∧
      s.dload c ((s.core c).ar n / 8 * 8) 8 = some v) ∧
    (∃ (c n : Nat) (s : State), s.coreLive c = true ∧ c < s.cores.cores.length ∧
      (s.dline c ((s.core c).ar n / 4 * 4 / 32)).isSome = true) ∧
    (∃ (c d n : Nat) (s : State), s.coreLive c = true ∧ c < s.cores.cores.length ∧ d < 8 ∧
      (s.dline c ((s.core c).ar n / 8 * 8 / 32)).isSome = true) ∧
    (∃ (c count i : Nat) (s : State), s.coreLive c = true ∧ c < s.cores.cores.length ∧ i < count % 64 + 1) ∧
    (∃ (c d : Nat) (s : State), s.coreLive c = true ∧ d < 4 ∧ c < s.cores.cores.length ∧
      (s.dload c ((s.core c).ar 0 / 8 * 8) 8).isSome = true ∧ (s.dload c ((s.core c).ar 1 / 8 * 8) 8).isSome = true) ∧
    (∃ x : Core, x.a = [0x0478, 0, 0, 0] ∧ x.o = [16, 0, 0, 0] ∧ x.l = [64, 0, 0, 0]) :=
  ⟨⟨Core.reset, 3, 3, by decide⟩, ⟨{ Core.reset with l := [0x8000, 0, 0, 8] }, 0, 3, 15, by decide⟩,
    ⟨67, 3, 15, live 67 id, by decide +kernel⟩, ⟨7, by decide⟩, ⟨8, by decide⟩,
    ⟨9, 2, 0, live 9 (fun x => { x with dmem := [(2047, 5)], a := [0, 0, 0xFFFB, 0] }), by decide +kernel⟩,
    ⟨9, 7, 2, 5, live 9 (fun x => { x with dmem := [(2047, 5)], a := [0, 0, 0xFFFB, 0] }), by decide +kernel⟩,
    ⟨9, 2, live 9 (fun x => { x with dmem := [(2047, 5)], a := [0, 0, 0xFFFB, 0] }), by decide +kernel⟩,
    ⟨9, 7, 2, live 9 (fun x => { x with dmem := [(2047, 5)], a := [0, 0, 0xFFFB, 0] }), by decide +kernel⟩,
    ⟨67, 63, 63, live 67 id, by decide +kernel⟩, ⟨9, 3, live 9 (fun x => { x with dmem := [(0, 5)] }), by decide +kernel⟩,
    ⟨{ Core.reset with a := [0x0478, 0, 0, 0], o := [16, 0, 0, 0], l := [64, 0, 0, 0] }, rfl, rfl, rfl⟩⟩

theorem hyps_TimeClassFramesAreClassZero :
    (∃ (bs : List Byte) (f : TvFrame), parseFrame bs = some f ∧ f.type ≤ 2) ∧
    (∃ (pin l : Nat) (i : Instr) (s : State), i ∈ [.helloSend, .timeExchangeStart pin, .timeReqRx pin, .tvFrameSent l] ∧ s.timeClass) :=
  ⟨⟨(⟨2, false, false, 3, 0, 7, 0, 0, 0, 0, []⟩ : TvFrame).bytes, ⟨2, false, false, 0, 0, 7, 0, 0, 0, 0, []⟩, by decide +kernel⟩,
    ⟨0, 0, .helloSend, State.reset, by simp, by
      intro l o ho
      have h : (State.reset.link l).queue ++ (State.reset.link l).sending.toList = [] := by
        rcases l with _ | _ | _ | _ | _ | l <;> rfl
      rw [h] at ho
      exact absurd ho (List.not_mem_nil)⟩⟩

theorem hyps_CoreRegisterFrames :
    (∃ (c d u v : Nat) (imm : Int) (i : Instr) (s t : State), i ∈ [.add c d u v, .sub c d u v, .addi c d u imm] ∧ exec i s = .next t) ∧
    (∃ (c d u v : Nat) (i : Instr) (s t : State), i ∈ [.mul c d u v, .andd c d u v, .orr c d u v, .xorr c d u v] ∧ exec i s = .next t) ∧
    (∃ (c d u sh : Nat) (imm : Int) (i : Instr) (s t : State), i ∈ [.shl c d u sh, .shr c d u sh, .lui c d imm] ∧ exec i s = .next t) ∧
    (∃ (c d u v : Nat) (i : Instr) (s t : State), d < 4 ∧ u < 8 ∧ v < 8 ∧
      i ∈ [.cmul c d u v, .cmac c d u v, .cmacj c d u v, .cmsu c d u v, .clra c d] ∧ exec i s = .next t) ∧
    (∃ (c d u sh : Nat) (s t : State), d < 8 ∧ u < 4 ∧ exec (.sac c d u sh) s = .next t) :=
  ⟨⟨67, 15, 0, 1, 0, .sub 67 15 0 1, live 67 id, _, by simp, rfl⟩, ⟨67, 15, 0, 1, .xorr 67 15 0 1, live 67 id, _, by simp, rfl⟩,
    ⟨67, 15, 0, 63, 0, .shr 67 15 0 63, live 67 id, _, by simp, rfl⟩, ⟨67, 3, 7, 7, .cmsu 67 3 7 7, live 67 id, _, by decide, by decide,
    by decide, by simp, rfl⟩, ⟨67, 7, 3, 63, live 67 id, _, by decide, by decide, rfl⟩⟩

theorem hyps_CoreMemoryFrames :
    (∃ (c d n m : Nat) (noPost : Bool) (s t : State), (s.dload c ((s.core c).ar n / 4 * 4) 4).isSome = true ∧
      exec (.ldw c d n m noPost) s = .next t) ∧
    (∃ (c d n m : Nat) (noPost : Bool) (s t : State), d < 8 ∧ (s.dload c ((s.core c).ar n / 8 * 8) 8).isSome = true ∧
      exec (.ldc c d n m noPost) s = .next t) ∧
    (∃ (c d n m : Nat) (noPost : Bool) (s t : State), (s.dline c ((s.core c).ar n / 4 * 4 / 32)).isSome = true ∧
      exec (.stw c d n m noPost) s = .next t) ∧
    (∃ (c d n m : Nat) (noPost : Bool) (s t : State), d < 8 ∧ (s.dline c ((s.core c).ar n / 8 * 8 / 32)).isSome = true ∧
      exec (.stc c d n m noPost) s = .next t) ∧
    (∃ (c n count line : Nat) (s t : State), exec (.zl c n count) s = .next t ∧
      ∀ i, i < count % 64 + 1 → line ≠ ((s.core c).ar n / 32 + i) % 2048) :=
  ⟨⟨9, 1, 2, 3, false, live 9 (fun x => { x with dmem := [(0, 5)] }), _, by decide +kernel, rfl⟩,
    ⟨9, 7, 2, 3, false, live 9 (fun x => { x with dmem := [(0, 5)] }), _, by decide, by decide +kernel, rfl⟩,
    ⟨9, 1, 2, 3, true, live 9 (fun x => { x with dmem := [(0, 5)] }), _, by decide +kernel, rfl⟩,
    ⟨9, 7, 2, 3, true, live 9 (fun x => { x with dmem := [(0, 5)] }), _, by decide, by decide +kernel, rfl⟩,
    ⟨9, 2, 63, 64, live 9 id, _, rfl, by decide +kernel⟩⟩

end Sys2Proof.Tests
end

section
/-! SUPPORT. The invariant and the frame of every command (00 R7, R8, R11), settled from what each meaning leads to (Sys2Proof/Laws). -/

namespace Sys2Proof.Machine

/-! ### Every command leads to a state, and changes only its parts -/

/-- A meaning that changes some parts of a list changes parts of that list only. -/
theorem Out.leads.mono {ps qs : List Part} {s : State} {x : Out} (hx : Out.leads qs s x) (hp : covers ps qs = true) : Out.leads ps s x :=
  out_leads hx hp (Leads.refl ps s)

/-! The commands that change the most parts, and a register write, whose key is one of them, stand apart from `exec_leads`: comparing
their two lists of parts is most of its cost. -/

theorem carTargetWrite_leads_parts (src : Nat) (c : Carrier) (v : Int) (s : State) :
    Out.leads (parts (.carTargetWrite src c v)) s (execCarTargetWrite src c v s) :=
  (execCarTargetWrite_leads src c v s).mono (c.casesOn rfl rfl)

theorem rxFrameHeader_leads_parts (c : Carrier) (fi : Nat) (copies : List (Nat × Nat)) (s : State) :
    Out.leads (parts (.rxFrameHeader c fi copies)) s (execRxFrameHeader c fi copies s) :=
  (execRxFrameHeader_leads c fi copies s).mono (c.casesOn rfl rfl)

theorem rxSounding_leads_parts (c : Carrier) (errs : List Nat) (copies : List (Nat × Nat)) (metric : Nat)
    (frameStart : Bool) (fawErrs : List Nat) (s : State) :
    Out.leads (parts (.rxSounding c errs copies metric frameStart fawErrs)) s (execRxSounding c errs copies metric frameStart fawErrs s) :=
  (execRxSounding_leads c errs copies metric frameStart fawErrs s).mono (c.casesOn rfl rfl)

theorem acqLock_leads_parts (c : Carrier) (deskews : List Int) (s : State) :
    Out.leads (parts (.acqLock c deskews)) s (execAcqLock c deskews s) :=
  (execAcqLock_leads c deskews s).mono (c.casesOn rfl rfl)

theorem registerWrite_leads_parts (src : Nat) (k : Key) (v : Int) (s : State) :
    Out.leads (parts (.registerWrite src k v)) s (execRegisterWrite src k v s) :=
  (execRegisterWrite_leads src k v s).mono (by simp [parts, among, covers, Part.within])

theorem pwrCarrierDropped_leads_parts (s : State) :
    Out.leads (parts .pwrCarrierDropped) s (execPwrCarrierDropped s) :=
  (execPwrCarrierDropped_leads s).mono rfl

theorem testDone_leads_parts (vals : List Int) (s : State) :
    Out.leads (parts (.testDone vals)) s (execTestDone vals s) :=
  (execTestDone_leads vals s).mono rfl

theorem fwVerifyDone_leads_parts (s : State) :
    Out.leads (parts .fwVerifyDone) s (execFwVerifyDone s) :=
  (execFwVerifyDone_leads s).mono rfl

/-- The frame of every command, from the lemma about its meaning: the parts that `parts` lists take in what the meaning changes. -/
theorem exec_leads : ∀ (i : Instr) (s : State), Out.leads (parts i) s (exec i s)
  -- the line transmitter (02)
  | .carTargetWrite src c v, s => carTargetWrite_leads_parts src c v s
  | .carrierStopComplete c, s => (execCarrierStopComplete_leads c s).mono (covers_refl _)
  | .txSuperframeBoundary c, s => (execTxSuperframeBoundary_leads c s).mono (c.casesOn rfl rfl)
  | .switchAnnounce c, s => (execSwitchAnnounce_leads c s).mono (covers_refl _)
  | .txFrameStart c, s => (execTxFrameStart_leads c s).mono (covers_refl _)
  | .ibcCreditTick c, s => (execIbcCreditTick_leads c s).mono (covers_refl _)
  | .lineBlockEmit c, s => (execLineBlockEmit_leads c s).mono (c.casesOn rfl rfl)
  | .txSegmentEmit c, s => (execTxSegmentEmit_leads c s).mono (c.casesOn rfl rfl)
  | .contourUpdate c, s => (execContourUpdate_leads c s).mono (c.casesOn rfl rfl)
  | .contourRiseStart c, s => (execContourRiseStart_leads c s).mono (covers_refl _)
  | .squelchSwWrite src c v, s => (execSquelchSwWrite_leads src c v s).mono (c.casesOn rfl rfl)
  | .txdisAssert c width, s => (execTxdisAssert_leads c width s).mono (c.casesOn rfl rfl)
  | .txdisDeassert c width, s => (execTxdisDeassert_leads c width s).mono (c.casesOn rfl rfl)
  | .ocTrip c current, s => (execOcTrip_leads c current s).mono (c.casesOn rfl rfl)
  | .ocClear src c current, s => (execOcClear_leads src c current s).mono (c.casesOn rfl rfl)
  | .nlcBypassChange c, s => (execNlcBypassChange_leads c s).mono (c.casesOn rfl rfl)
  | .xpmSquelchRemove c, s => (execXpmSquelchRemove_leads c s).mono (c.casesOn rfl rfl)
  -- dies and the line receiver (08, 03)
  | .d2dBlockRx c rx j ok codes taken, s => (execD2dBlockRx_leads c rx j ok codes taken s).mono (c.casesOn rfl rfl)
  | .lineDacSlip c j, s => (execLineDacSlip_leads c j s).mono rfl
  | .d2dDegradeCheck c, s => (execD2dDegradeCheck_leads c s).mono (covers_refl _)
  | .feIlvWindow c j, s => (execFeIlvWindow_leads c j s).mono (covers_refl _)
  | .feIqWindow c y, s => (execFeIqWindow_leads c y s).mono (covers_refl _)
  | .cdSheetReady c, s => (execCdSheetReady_leads c s).mono (c.casesOn rfl rfl)
  | .cdFadeStart c, s => (execCdFadeStart_leads c s).mono (c.casesOn rfl rfl)
  | .cdFadeBlock c, s => (execCdFadeBlock_leads c s).mono (c.casesOn rfl rfl)
  | .cdFadeCut c, s => (execCdFadeCut_leads c s).mono (c.casesOn rfl rfl)
  | .cdSwapNofade c, s => (execCdSwapNofade_leads c s).mono (c.casesOn rfl rfl)
  | .cdSearchStart src c, s => (execCdSearchStart_leads src c s).mono (c.casesOn rfl rfl)
  | .cdSearchDone c, s => (execCdSearchDone_leads c s).mono (c.casesOn rfl rfl)
  | .rxTimingLock c, s => (execRxTimingLock_leads c s).mono (c.casesOn rfl rfl)
  | .rxTimingUnlock c, s => (execRxTimingUnlock_leads c s).mono (c.casesOn rfl rfl)
  | .eqBlockUpdate c k, s => (execEqBlockUpdate_leads c k s).mono (c.casesOn rfl rfl)
  | .rxEqSingular c k, s => (execRxEqSingular_leads c k s).mono (c.casesOn rfl rfl)
  | .eqReinit src c v, s => (execEqReinit_leads src c v s).mono (c.casesOn rfl rfl)
  | .eqTapShift c k, s => (execEqTapShift_leads c k s).mono (c.casesOn rfl rfl)
  | .sopRateUpdate c, s => (execSopRateUpdate_leads c s).mono (c.casesOn rfl rfl)
  | .rxSopNormal c, s => (execRxSopNormal_leads c s).mono (c.casesOn rfl rfl)
  | .sopPeakClear src c, s => (execSopPeakClear_leads src c s).mono (c.casesOn rfl rfl)
  | .rxPilotUpdate c k, s => (execRxPilotUpdate_leads c k s).mono (c.casesOn rfl rfl)
  | .crLimitHoldExpiry c, s => (execCrLimitHoldExpiry_leads c s).mono (c.casesOn rfl rfl)
  | .rxFrameHeader c fi copies, s => rxFrameHeader_leads_parts c fi copies s
  | .rxSuperframeBoundary c, s => (execRxSuperframeBoundary_leads c s).mono (c.casesOn rfl rfl)
  -- acquisition (04)
  | .acqDetect c metric coarse, s => (execAcqDetect_leads c metric coarse s).mono (c.casesOn rfl rfl)
  | .acqCapture c metric coarse nearStart, s => (execAcqCapture_leads c metric coarse nearStart s).mono (c.casesOn rfl rfl)
  | .rxSounding c errs copies metric frameStart fawErrs, s => rxSounding_leads_parts c errs copies metric frameStart fawErrs s
  | .settleExpiry c, s => (execSettleExpiry_leads c s).mono (c.casesOn rfl rfl)
  | .syncLossCount c, s => (execSyncLossCount_leads c s).mono (c.casesOn rfl rfl)
  | .rxFawTest c errs sndErrs, s => (execRxFawTest_leads c errs sndErrs s).mono (c.casesOn rfl rfl)
  | .acqLock c deskews, s => acqLock_leads_parts c deskews s
  | .lofCountExpiry c, s => (execLofCountExpiry_leads c s).mono (c.casesOn rfl rfl)
  | .acqHoldRecover c, s => (execAcqHoldRecover_leads c s).mono (c.casesOn rfl rfl)
  | .holdTimeout c, s => (execHoldTimeout_leads c s).mono (c.casesOn rfl rfl)
  | .frameWaitTimeout c, s => (execFrameWaitTimeout_leads c s).mono (c.casesOn rfl rfl)
  | .serviceToAcquire c, s => (execServiceToAcquire_leads c s).mono (c.casesOn rfl rfl)
  | .fecAcceptStart c, s => (execFecAcceptStart_leads c s).mono (c.casesOn rfl rfl)
  | .rxDark c, s => (execRxDark_leads c s).mono (c.casesOn rfl rfl)
  | .noiseFloorUpdate c, s => (execNoiseFloorUpdate_leads c s).mono (c.casesOn rfl rfl)
  | .sfCdDraftRetry c, s => (execSfCdDraftRetry_leads c s).mono rfl
  | .sfCdHuntTimeout c, s => (execSfCdHuntTimeout_leads c s).mono (c.casesOn rfl rfl)
  -- entropy loading (05)
  | .stageCommit src c, s => (execStageCommit_leads src c s).mono (c.casesOn rfl rfl)
  | .rxLoadStaged c, s => (execRxLoadStaged_leads c s).mono (c.casesOn rfl rfl)
  | .txSwitch src c v, s => (execTxSwitch_leads src c v s).mono (c.casesOn rfl rfl)
  | .matcherTablesReady c, s => (execMatcherTablesReady_leads c s).mono (covers_refl _)
  | .lxStageRx, s => (execLxStageRx_leads s).mono rfl
  | .lxAckRx, s => (execLxAckRx_leads s).mono rfl
  | .lxNackRx, s => (execLxNackRx_leads s).mono rfl
  | .lxCommitRx, s => (execLxCommitRx_leads s).mono rfl
  | .lxCancelRx, s => (execLxCancelRx_leads s).mono (covers_refl _)
  | .lxReportRx, s => (execLxReportRx_leads s).mono rfl
  | .lxAckTimeout c, s => (execLxAckTimeout_leads c s).mono (c.casesOn rfl rfl)
  | .lxCommitTimeout c, s => (execLxCommitTimeout_leads c s).mono (c.casesOn rfl rfl)
  | .lxRetryTimer c, s => (execLxRetryTimer_leads c s).mono rfl
  | .lpPeriodTick c, s => (execLpPeriodTick_leads c s).mono (c.casesOn rfl rfl)
  | .lxStart src c, s => (execLxStart_leads src c s).mono (c.casesOn rfl rfl)
  | .lxDraftRetry c, s => (execLxDraftRetry_leads c s).mono rfl
  | .capLimitRx, s => (execCapLimitRx_leads s).mono rfl
  -- line FEC (06)
  | .rxSegmentArrival c, s => (execRxSegmentArrival_leads c s).mono (c.casesOn rfl rfl)
  | .decIteration c contended, s => (execDecIteration_leads c contended s).mono (covers_refl _)
  | .decWindowSlide c, s => (execDecWindowSlide_leads c s).mono (covers_refl _)
  | .outerDecodeDone c, s => (execOuterDecodeDone_leads c s).mono (c.casesOn rfl rfl)
  | .rxFecCapChange, s => (execRxFecCapChange_leads s).mono rfl
  | .rxFecAligned c, s => (execRxFecAligned_leads c s).mono (c.casesOn rfl rfl)
  | .fecAcceptStop c, s => (execFecAcceptStop_leads c s).mono (c.casesOn rfl rfl)
  | .lineBlockRx c, s => (execLineBlockRx_leads c s).mono (c.casesOn rfl rfl)
  | .pmIntervalEnd c, s => (execPmIntervalEnd_leads c s).mono (c.casesOn rfl rfl)
  | .decPeakClear src c, s => (execDecPeakClear_leads src c s).mono (c.casesOn rfl rfl)
  | .lxFecSuspect c, s => (execLxFecSuspect_leads c s).mono (covers_refl _)
  -- the host interface (07)
  | .laneEnableWrite src n v, s => (execLaneEnableWrite_leads src n v s).mono rfl
  | .laneSignalDetect n, s => (execLaneSignalDetect_leads n s).mono rfl
  | .hostTrainFrameRx n lv, s => (execHostTrainFrameRx_leads n lv s).mono rfl
  | .trainStepMeasure n fom, s => (execTrainStepMeasure_leads n fom s).mono rfl
  | .trainCountdownDone n, s => (execTrainCountdownDone_leads n s).mono rfl
  | .hostTrainTimeout n, s => (execHostTrainTimeout_leads n s).mono rfl
  | .hostLos n, s => (execHostLos_leads n s).mono rfl
  | .retrain src n, s => (execRetrain_leads src n s).mono rfl
  | .loopbackWrite src n v, s => (execLoopbackWrite_leads src n v s).mono rfl
  | .prbsGenWrite src n v, s => (execPrbsGenWrite_leads src n v s).mono rfl
  | .prbsInject src n v, s => (execPrbsInject_leads src n v s).mono rfl
  | .sfLaneRetry n, s => (execSfLaneRetry_leads n s).mono rfl
  | .hostBlockRx n corr uncorr slipIn slipOut aligned fault ber, s =>
    (execHostBlockRx_leads n corr uncorr slipIn slipOut aligned fault ber s).mono rfl
  | .slotHeaderRx n hdr blocks, s => (execSlotHeaderRx_leads n hdr blocks s).mono rfl
  | .hostFrameIngress c frame errored, s => (execHostFrameIngress_leads c frame errored s).mono rfl
  | .slotBurstComplete slot, s => (execSlotBurstComplete_leads slot s).mono rfl
  | .clientStatusTick cl, s => (execClientStatusTick_leads cl s).mono (covers_refl _)
  | .mapperPacketSend c, s => (execMapperPacketSend_leads c s).mono (c.casesOn rfl rfl)
  | .demapWord c, s => (execDemapWord_leads c s).mono (c.casesOn rfl rfl)
  | .egressFrameOut c full, s => (execEgressFrameOut_leads c full s).mono rfl
  | .egressSlotFrame n, s => (execEgressSlotFrame_leads n s).mono (covers_refl _)
  | .clientPacketTimeout cl, s => (execClientPacketTimeout_leads cl s).mono (covers_refl _)
  -- converters and clocking (08)
  | .refclkEdgeTimeout, s => (execRefclkEdgeTimeout_leads s).mono rfl
  | .refclkWindow ppm, s => (execRefclkWindow_leads ppm s).mono rfl
  | .refclkOkTimer, s => (execRefclkOkTimer_leads s).mono rfl
  | .pllHoldoverReturn p, s => (execPllHoldoverReturn_leads p s).mono rfl
  | .lockSeqStep c band tune, s => (execLockSeqStep_leads c band tune s).mono rfl
  | .foregroundCalDone c fails vals, s => (execForegroundCalDone_leads c fails vals s).mono (covers_refl _)
  | .vcoTcUpdate c tune, s => (execVcoTcUpdate_leads c tune s).mono (covers_refl _)
  | .reband src c, s => (execReband_leads src c s).mono (c.casesOn rfl rfl)
  | .linePllUnlock c, s => (execLinePllUnlock_leads c s).mono (c.casesOn rfl rfl)
  | .refTcUpdate c, s => (execRefTcUpdate_leads c s).mono (covers_refl _)
  | .spareVisitStart c, s => (execSpareVisitStart_leads c s).mono (covers_refl _)
  | .spareVisitEnd c pass vals, s => (execSpareVisitEnd_leads c pass vals s).mono rfl
  | .spareSwap c t, s => (execSpareSwap_leads c t s).mono (covers_refl _)
  -- the Legend and its editions (09)
  | .legendRequestBad src bytes, s => (execLegendRequestBad_leads src bytes s).mono (covers_refl _)
  | .registerWrite src k v, s => registerWrite_leads_parts src k v s
  | .blobReadLatch src k draft len, s => (execBlobReadLatch_leads src k draft len s).mono rfl
  | .blobChunkWrite src k off total data, s => (execBlobChunkWrite_leads src k off total data s).mono rfl
  | .spiResponseRead, s => (execSpiResponseRead_leads s).mono (covers_refl _)
  | .mdioServe prtad mmd buf len meas, s => (execMdioServe_leads prtad mmd buf len meas s).mono (covers_refl _)
  | .twiWindowRead addr n, s => (execTwiWindowRead_leads addr n s).mono rfl
  | .twiWindowWrite addr ptr bytes, s => (execTwiWindowWrite_leads addr ptr bytes s).mono rfl
  | .eventNextRead src len bad, s => (execEventNextRead_leads src len bad s).mono rfl
  | .alarmAck src, s => (execAlarmAck_leads src s).mono rfl
  | .snapshot src v, s => (execSnapshot_leads src v s).mono rfl
  | .snapshotRelease src, s => (execSnapshotRelease_leads src s).mono rfl
  | .counterClear src v, s => (execCounterClear_leads src v s).mono (covers_refl _)
  | .draftOpen src, s => (execDraftOpen_leads src s).mono (covers_refl _)
  | .draftWrite src k v, s => (execDraftWrite_leads src k v s).mono rfl
  | .draftDiscard src, s => (execDraftDiscard_leads src s).mono rfl
  | .draftValidate src, s => (execDraftValidate_leads src s).mono rfl
  | .draftArm src, s => (execDraftArm_leads src s).mono rfl
  | .disarm src id, s => (execDisarm_leads src id s).mono (covers_refl _)
  | .edDraftExpired, s => (execEdDraftExpired_leads s).mono rfl
  | .editionApply, s => (execEditionApply_leads s).mono (covers_refl _)
  -- Traverse and datum (10)
  | .tvEnableWrite src v, s => (execTvEnableWrite_leads src v s).mono rfl
  | .tvTrainingSetRx l req resp eye0 eye1, s => (execTvTrainingSetRx_leads l req resp eye0 eye1 s).mono rfl
  | .tvTrainingTimeout l, s => (execTvTrainingTimeout_leads l s).mono rfl
  | .tvPortUp l skew, s => (execTvPortUp_leads l skew s).mono rfl
  | .tvPortDown l, s => (execTvPortDown_leads l s).mono rfl
  | .portLoopbackWrite src l v, s => (execPortLoopbackWrite_leads src l v s).mono rfl
  | .tvIdleSetRx l b, s => (execTvIdleSetRx_leads l b s).mono (covers_refl _)
  | .tvFrameRx l bytes killed, s => (execTvFrameRx_leads l bytes killed s).mono rfl
  | .helloSend, s => (execHelloSend_leads s).mono rfl
  | .helloRx, s => (execHelloRx_leads s).mono rfl
  | .neighbourTimeout l, s => (execNeighbourTimeout_leads l s).mono (covers_refl _)
  | .dedupEntryExpire src, s => (execDedupEntryExpire_leads src s).mono (covers_refl _)
  | .ibFrameRx m stamp, s => (execIbFrameRx_leads m stamp s).mono rfl
  | .timeExchangeStart pin, s => (execTimeExchangeStart_leads pin s).mono rfl
  | .timeReqRx pin, s => (execTimeReqRx_leads pin s).mono rfl
  | .timeRespRx, s => (execTimeRespRx_leads s).mono rfl
  | .datumHoldover, s => (execDatumHoldover_leads s).mono rfl
  | .datumSet src v, s => (execDatumSet_leads src v s).mono rfl
  | .ppsInEdge, s => (execPpsInEdge_leads s).mono rfl
  | .ppsMissed, s => (execPpsMissed_leads s).mono rfl
  | .ppsOutRise, s => (execPpsOutRise_leads s).mono (covers_refl _)
  | .ppsOutFall, s => (execPpsOutFall_leads s).mono (covers_refl _)
  | .legendReqRx, s => (execLegendReqRx_leads s).mono rfl
  | .legendRspSend meas, s => (execLegendRspSend_leads meas s).mono (covers_refl _)
  | .appFrameRx, s => (execAppFrameRx_leads s).mono rfl
  | .eventSinkSend, s => (execEventSinkSend_leads s).mono rfl
  | .groupArmRx, s => (execGroupArmRx_leads s).mono rfl
  | .groupDisarmRx, s => (execGroupDisarmRx_leads s).mono (covers_refl _)
  | .groupResultRx, s => (execGroupResultRx_leads s).mono rfl
  | .triggerRx, s => (execTriggerRx_leads s).mono rfl
  | .triggerFire id, s => (execTriggerFire_leads id s).mono rfl
  | .groupArmSend src v, s => (execGroupArmSend_leads src v s).mono rfl
  | .groupDisarmSend src v, s => (execGroupDisarmSend_leads src v s).mono rfl
  | .trigSend src v, s => (execTrigSend_leads src v s).mono rfl
  -- cores and their firmware (11)
  | .nop c, s => (execNop_leads c s).mono rfl
  | .add c t u v, s => (execAdd_leads c t u v s).mono rfl
  | .sub c t u v, s => (execSub_leads c t u v s).mono rfl
  | .mul c t u v, s => (execMul_leads c t u v s).mono rfl
  | .andd c t u v, s => (execAndd_leads c t u v s).mono rfl
  | .orr c t u v, s => (execOrr_leads c t u v s).mono rfl
  | .xorr c t u v, s => (execXorr_leads c t u v s).mono rfl
  | .shl c t u sh, s => (execShl_leads c t u sh s).mono rfl
  | .shr c t u sh, s => (execShr_leads c t u sh s).mono rfl
  | .addi c t u imm, s => (execAddi_leads c t u imm s).mono rfl
  | .lui c t imm, s => (execLui_leads c t imm s).mono rfl
  | .branch c cond disp, s => (execBranch_leads c cond disp s).mono rfl
  | .call c disp, s => (execCall_leads c disp s).mono rfl
  | .ret c, s => (execRet_leads c s).mono rfl
  | .loopi c t len, s => (execLoopi_leads c t len s).mono rfl
  | .ldw c t n m noPost, s => (execLdw_leads c t n m noPost s).mono (covers_refl _)
  | .stw c t n m noPost, s => (execStw_leads c t n m noPost s).mono (covers_refl _)
  | .ldc c t n m noPost, s => (execLdc_leads c t n m noPost s).mono (covers_refl _)
  | .stc c t n m noPost, s => (execStc_leads c t n m noPost s).mono (covers_refl _)
  | .zl c n count, s => (execZl_leads c n count s).mono rfl
  | .mgd c t u v, s => (execMgd_leads c t u v s).mono rfl
  | .mdg c t u im, s => (execMdg_leads c t u im s).mono rfl
  | .mvx c t u, s => (execMvx_leads c t u s).mono rfl
  | .cmul c t u v, s => (execCmul_leads c t u v s).mono rfl
  | .cmac c t u v, s => (execCmac_leads c t u v s).mono rfl
  | .cmacj c t u v, s => (execCmacj_leads c t u v s).mono rfl
  | .cmsu c t u v, s => (execCmsu_leads c t u v s).mono rfl
  | .cmacm c t, s => (execCmacm_leads c t s).mono (covers_refl _)
  | .clra c t, s => (execClra_leads c t s).mono rfl
  | .sac c t u sh, s => (execSac_leads c t u sh s).mono rfl
  | .sacg c t u im sh, s => (execSacg_leads c t u im sh s).mono rfl
  | .inPort c t port, s => (execInPort_leads c t port s).mono rfl
  | .outPort c u port, s => (execOutPort_leads c u port s).mono (covers_refl _)
  | .cbx c t n num wr, s => (execCbx_leads c t n num wr s).mono rfl
  | .cbxComplete c, s => (execCbxComplete_leads c s).mono (covers_refl _)
  | .wait c u, s => (execWait_leads c u s).mono rfl
  | .coreWaitWake c, s => (execCoreWaitWake_leads c s).mono rfl
  | .halt c, s => (execHalt_leads c s).mono rfl
  | .illegalOpcode c, s => (execIllegalOpcode_leads c s).mono rfl
  | .faultExit c u, s => (execFaultExit_leads c u s).mono (covers_refl _)
  | .flagsClear c u, s => (execFlagsClear_leads c u s).mono (covers_refl _)
  | .wdogKick c u, s => (execWdogKick_leads c u s).mono (covers_refl _)
  | .datumLoRead c t, s => (execDatumLoRead_leads c t s).mono rfl
  | .eventsRead c t, s => (execEventsRead_leads c t s).mono rfl
  | .coreTimerExpire c, s => (execCoreTimerExpire_leads c s).mono (covers_refl _)
  | .lgSend c u, s => (execLgSend_leads c u s).mono (covers_refl _)
  | .coreLegendDone c meas, s => (execCoreLegendDone_leads c meas s).mono (covers_refl _)
  | .appRxPop c t, s => (execAppRxPop_leads c t s).mono rfl
  | .appTxGo c u, s => (execAppTxGo_leads c u s).mono (covers_refl _)
  | .winDataWrite c u, s => (execWinDataWrite_leads c u s).mono (covers_refl _)
  | .winWmask c u, s => (execWinWmask_leads c u s).mono (covers_refl _)
  | .winQpop c t, s => (execWinQpop_leads c t s).mono rfl
  | .resGo c u, s => (execResGo_leads c u s).mono (covers_refl _)
  | .resReadDone c, s => (execResReadDone_leads c s).mono rfl
  | .coreWdogExpire c, s => (execCoreWdogExpire_leads c s).mono (covers_refl _)
  | .coreRestart src c, s => (execCoreRestart_leads src c s).mono rfl
  | .fwRestart src, s => (execFwRestart_leads src s).mono rfl
  | .fwRestartVerified, s => (execFwRestartVerified_leads s).mono rfl
  | .loadBegin src v, s => (execLoadBegin_leads src v s).mono rfl
  | .loadEraseDone ok, s => (execLoadEraseDone_leads ok s).mono rfl
  | .loadManifest src p bs, s => (execLoadManifest_leads src p bs s).mono rfl
  | .loadSegment src g bs, s => (execLoadSegment_leads src g bs s).mono rfl
  | .loadProgramDone ok, s => (execLoadProgramDone_leads ok s).mono rfl
  | .loadActivate src, s => (execLoadActivate_leads src s).mono rfl
  | .loadAbort src, s => (execLoadAbort_leads src s).mono rfl
  -- housekeeping converters (12)
  | .hkConversionBoundary v0 v1 internal board, s => (execHkConversionBoundary_leads v0 v1 internal board s).mono rfl
  | .hkRegStart src h, s => (execHkRegStart_leads src h s).mono rfl
  | .hkRegTimer h, s => (execHkRegTimer_leads h s).mono rfl
  | .trigInRise, s => (execTrigInRise_leads s).mono rfl
  | .injStart src h, s => (execInjStart_leads src h s).mono rfl
  | .injTimer h, s => (execInjTimer_leads h s).mono rfl
  | .gpioRise g, s => (execGpioRise_leads g s).mono rfl
  | .injOverflowClear src h v, s => (execInjOverflowClear_leads src h v s).mono rfl
  | .hkEnableWrite src h v, s => (execHkEnableWrite_leads src h v s).mono rfl
  | .hkSelfCal src h, s => (execHkSelfCal_leads src h s).mono rfl
  | .benchCancel src h, s => (execBenchCancel_leads src h s).mono rfl
  | .benchZero src h input, s => (execBenchZero_leads src h input s).mono rfl
  | .benchFull src h input, s => (execBenchFull_leads src h input s).mono rfl
  | .hkCalDone h, s => (execHkCalDone_leads h s).mono rfl
  | .aoutEnableWrite src k v, s => (execAoutEnableWrite_leads src k v s).mono rfl
  | .aoutRangeWrite src k v, s => (execAoutRangeWrite_leads src k v s).mono rfl
  | .aoutReconnect k, s => (execAoutReconnect_leads k s).mono (covers_refl _)
  | .aoutUpdate compliance overload, s => (execAoutUpdate_leads compliance overload s).mono rfl
  | .aoutConditionClear k overload, s => (execAoutConditionClear_leads k overload s).mono (covers_refl _)
  | .waveWrite src k v, s => (execWaveWrite_leads src k v s).mono rfl
  | .waveSync src v, s => (execWaveSync_leads src v s).mono rfl
  | .rbClear src k, s => (execRbClear_leads src k s).mono rfl
  -- the monitor filter chain (13)
  | .mfChannelProcess y gap, s => (execMfChannelProcess_leads y gap s).mono rfl
  | .mfSheetSwap src y, s => (execMfSheetSwap_leads src y s).mono rfl
  | .mfSwapLoaded y, s => (execMfSwapLoaded_leads y s).mono (covers_refl _)
  | .mfSync src v, s => (execMfSync_leads src v s).mono rfl
  | .outQueueRead src y len, s => (execOutQueueRead_leads src y len s).mono rfl
  -- the field book (14)
  | .ringArm src first last, s => (execRingArm_leads src first last s).mono rfl
  | .ringRearm src first last, s => (execRingRearm_leads src first last s).mono rfl
  | .ringForce src first last, s => (execRingForce_leads src first last s).mono rfl
  | .ringStop src first last, s => (execRingStop_leads src first last s).mono rfl
  | .ringDisarm src first last, s => (execRingDisarm_leads src first last s).mono rfl
  | .fbRingCleared r, s => (execFbRingCleared_leads r s).mono rfl
  | .probeUpdate probe sel v w, s => (execProbeUpdate_leads probe sel v w s).mono rfl
  | .fbRecordWrite, s => (execFbRecordWrite_leads s).mono rfl
  | .trigOutEnd, s => (execTrigOutEnd_leads s).mono (covers_refl _)
  | .rdDataRead src len, s => (execRdDataRead_leads src len s).mono rfl
  -- thermal and power (15)
  | .thermalSample vals, s => (execThermalSample_leads vals s).mono rfl
  | .thermalBlockExpire, s => (execThermalBlockExpire_leads s).mono rfl
  | .fwLevelWrite src v, s => (execFwLevelWrite_leads src v s).mono rfl
  | .shutdownClear src, s => (execShutdownClear_leads src s).mono rfl
  | .sfL3Dwell, s => (execSfL3Dwell_leads s).mono rfl
  | .sfL3Resend c, s => (execSfL3Resend_leads c s).mono rfl
  | .thL3NoResponse c, s => (execThL3NoResponse_leads c s).mono (covers_refl _)
  | .sfL3Release, s => (execSfL3Release_leads s).mono rfl
  | .xtalCompTick temp, s => (execXtalCompTick_leads temp s).mono (covers_refl _)
  | .aonXtalFail, s => (execAonXtalFail_leads s).mono rfl
  | .xtalRestore, s => (execXtalRestore_leads s).mono (covers_refl _)
  | .marginUpdate margins, s => (execMarginUpdate_leads margins s).mono rfl
  | .pwrCarrierDropped, s => pwrCarrierDropped_leads_parts s
  | .pwrMarginRestored, s => (execPwrMarginRestored_leads s).mono rfl
  | .avsVoltageRead v, s => (execAvsVoltageRead_leads v s).mono rfl
  | .avsStatusRead fault, s => (execAvsStatusRead_leads fault s).mono rfl
  | .pwrAvsRestored, s => (execPwrAvsRestored_leads s).mono rfl
  | .idleTimerExpire, s => (execIdleTimerExpire_leads s).mono rfl
  | .sleepNow src, s => (execSleepNow_leads src s).mono rfl
  | .dormantLatch, s => (execDormantLatch_leads s).mono rfl
  | .wakeSourceFire code at_ v edges, s => (execWakeSourceFire_leads code at_ v edges s).mono (covers_refl _)
  | .wakeTimerExpire edges, s => (execWakeTimerExpire_leads edges s).mono (covers_refl _)
  | .aonBrownout, s => (execAonBrownout_leads s).mono (covers_refl _)
  | .padRelease src, s => (execPadRelease_leads src s).mono rfl
  -- integrity and self test (16)
  | .refetchDone, s => (execRefetchDone_leads s).mono (covers_refl _)
  | .intLegendRebuilt keys, s => (execIntLegendRebuilt_leads keys s).mono (covers_refl _)
  | .derivedRepairDone, s => (execDerivedRepairDone_leads s).mono (covers_refl _)
  | .scrubPass found, s => (execScrubPass_leads found s).mono (covers_refl _)
  | .faultLogClear src, s => (execFaultLogClear_leads src s).mono rfl
  | .sliceRound mask, s => (execSliceRound_leads mask s).mono rfl
  | .sliceRun src mask, s => (execSliceRun_leads src mask s).mono rfl
  | .testRequest src v, s => (execTestRequest_leads src v s).mono rfl
  | .testDone vals, s => testDone_leads_parts vals s
  -- security and debug (17)
  | .lcTransition src v vaux, s => (execLcTransition_leads src v vaux s).mono rfl
  | .enrollRoot src slot vaux, s => (execEnrollRoot_leads src slot vaux s).mono rfl
  | .revokeRoot src slot vaux, s => (execRevokeRoot_leads src slot vaux s).mono rfl
  | .installRootKey src slot, s => (execInstallRootKey_leads src slot s).mono rfl
  | .installController src slot, s => (execInstallController_leads src slot s).mono rfl
  | .removeController src slot, s => (execRemoveController_leads src slot s).mono rfl
  | .commitSecver src slot vaux, s => (execCommitSecver_leads src slot vaux s).mono rfl
  | .commitCtrlVersion src slot vaux, s => (execCommitCtrlVersion_leads src slot vaux s).mono rfl
  | .fuseSignPolicy src slot vaux, s => (execFuseSignPolicy_leads src slot vaux s).mono rfl
  | .idGenerate src vaux, s => (execIdGenerate_leads src vaux s).mono rfl
  | .nonceRead src len, s => (execNonceRead_leads src len s).mono rfl
  | .nonceExpire, s => (execNonceExpire_leads s).mono (covers_refl _)
  | .attRequest src, s => (execAttRequest_leads src s).mono rfl
  | .attReady, s => (execAttReady_leads s).mono rfl
  | .extest, s => (execExtest_leads s).mono (covers_refl _)
  | .idcode, s => (execIdcode_leads s).mono (covers_refl _)
  | .samplePreload, s => (execSamplePreload_leads s).mono (covers_refl _)
  | .bypass, s => (execBypass_leads s).mono (covers_refl _)
  | .testEngine op, s => (execTestEngine_leads op s).mono (covers_refl _)
  | .coreSel c, s => (execCoreSel_leads c s).mono (covers_refl _)
  | .coreHalt, s => (execCoreHalt_leads s).mono rfl
  | .coreStep, s => (execCoreStep_leads s).mono (covers_refl _)
  | .coreResume, s => (execCoreResume_leads s).mono rfl
  | .coreAccess w, s => (execCoreAccess_leads w s).mono (covers_refl _)
  -- startup (18)
  | .supplyDip mask, s => (execSupplyDip_leads mask s).mono (covers_refl _)
  | .suppliesStable, s => (execSuppliesStable_leads s).mono (covers_refl _)
  | .supplyLoss, s => (execSupplyLoss_leads s).mono (covers_refl _)
  | .resetNAssert edges, s => (execResetNAssert_leads edges s).mono (covers_refl _)
  | .swReset src, s => (execSwReset_leads src s).mono (covers_refl _)
  | .resetRelease, s => (execResetRelease_leads s).mono rfl
  | .resetDatumCapture, s => (execResetDatumCapture_leads s).mono (covers_refl _)
  | .bootHkCalDone, s => (execBootHkCalDone_leads s).mono (covers_refl _)
  | .strapReadDone uv, s => (execStrapReadDone_leads uv s).mono rfl
  | .selfTestDone vals time edges, s => (execSelfTestDone_leads vals time edges s).mono (covers_refl _)
  | .fwVerifyDone, s => fwVerifyDone_leads_parts s
  | .svStart src, s => (execSvStart_leads src s).mono rfl
  -- the rows the table lists last
  | .prbsLock n errs, s => (execPrbsLock_leads n errs s).mono rfl
  | .tvFrameSent l, s => (execTvFrameSent_leads l s).mono rfl
  | .sfHaltedLeadRestart c, s => (execSfHaltedLeadRestart_leads c s).mono rfl
  | .fuseProgrammingDone ok, s => (execFuseProgrammingDone_leads ok s).mono (covers_refl _)

/-- Where exec answers a next state, the command leads to it. -/
theorem exec_next_leads {i : Instr} {s t : State} (h : exec i s = .next t) : Leads (parts i) s t := by
  obtain ⟨u, hu, hsu⟩ := exec_leads i s
  rw [hu] at h
  cases h
  exact hsu

/-! ### Every step keeps the invariant -/

/-- A step is one idle tick, or exec of the front command on the state with the queue's rest. -/
theorem step_cases {s t : State} (h : step s = .next t) :
    (s.pending = [] ∧ t = s.tick) ∨ ∃ c rest, s.pending = c :: rest ∧ exec c { s with pending := rest } = .next t := by
  unfold step at h
  split at h
  case h_1 hq => cases h; exact .inl ⟨hq, rfl⟩
  case h_2 c rest hq => exact .inr ⟨c, rest, hq, h⟩

/-- The invariant does not read the queue: a command runs on a state that meets it as the whole state does. -/
theorem State.wf_withPending (s : State) (q : List Instr) : ({ s with pending := q } : State).wf = s.wf := rfl

/-- One step from a state that meets the invariant: the invariant stands, and no blown fuse is unblown. -/
theorem step_keeps {s t : State} (h : step s = .next t) (w : s.wf = true) : t.wf = true ∧ s.fuse.kept t.fuse := by
  rcases step_cases h with ⟨-, rfl⟩ | ⟨c, rest, -, hc⟩
  · exact (State.tick_leads s (by decide) (Leads.refl Part.all s)).2 w
  · exact (exec_next_leads hc).2 ((s.wf_withPending rest).trans w)

/-! ### The state after reset -/

/-- The two Legend elements that are not at their default after reset stand in order (18 R450). -/
theorem legWf_reset : legWf State.reset.leg = true := by decide

/-! ### The obligations of 00_scope -/

/-- Settles O48: an idle tick and every command keep the invariant. -/
theorem everyStepKeepsTheInvariant : Obligations.EveryStepKeepsTheInvariant :=
  fun _ _ w h => (step_keeps h w).1

/-- Settles O50: the frame part of what every command leads to. -/
theorem commandsChangeOnlyTheirParts : Obligations.CommandsChangeOnlyTheirParts :=
  fun _ _ _ h => (exec_next_leads h).1

/-- Settles O47: the Legend store is canonical, and there is no BLOB, no retention checkpoint and no fuse operation. -/
theorem resetMeetsTheInvariant : Obligations.ResetMeetsTheInvariant :=
  (State.wf_parts State.reset).2 ⟨legWf_reset, rfl, rfl, rfl⟩

end Sys2Proof.Machine
end

section
/-! SUPPORT. The converter and die-to-die commands (01 R26, R36 to R38; 08 R235, R241, R242): what their parts do to the counters and to
a line die, and the obligation about them. -/

namespace Sys2Proof.Machine

/-! ### What a frame says of one Legend element and of a line die -/

/-- An element outside the parts that change keeps its value. -/
theorem Leads.rd_eq {ps : List Part} {s t : State} (h : Leads ps s t) (k : Key) (hk : Part.within ps (.entry k.area k.entry) = false) :
    t.rd k = s.rd k :=
  h.1.2 (.entry k.area k.entry) hk k rfl rfl

theorem State.die_congr {s t : State} (h : t.clk = s.clk) (c : Carrier) : t.die c = s.die c := by
  simp only [State.die, h]

/-- A line die outside the parts that change stays as it is. -/
theorem Leads.die_eq {ps : List Part} {s t : State} (h : Leads ps s t) (hk : Part.within ps .clk = false) (c : Carrier) :
    t.die c = s.die c :=
  State.die_congr (h.1.2 .clk hk) c

@[simp] theorem raise_die (s : State) (a : Nat) (k : Key) (c : Carrier) : (s.raise a k).die c = s.die c := rfl
@[simp] theorem wr_die (s : State) (k : Key) (v : Int) (c : Carrier) : (s.wr k v).die c = s.die c := rfl
@[simp] theorem wrapN_die (s : State) (k : Key) (n : Nat) (c : Carrier) : (s.wrapN k n).die c = s.die c :=
  (State.wrapN_leads s k n (covers_refl _) (Leads.refl _ s)).die_eq rfl c
@[simp] theorem bumpN_die (s : State) (k : Key) (n : Nat) (c : Carrier) : (s.bumpN k n).die c = s.die c :=
  (State.bumpN_leads s k n (covers_refl _) (Leads.refl _ s)).die_eq rfl c
@[simp] theorem bump_die (s : State) (k : Key) (c : Carrier) : (s.bump k).die c = s.die c := bumpN_die s k 1 c
@[simp] theorem modTx_die (s : State) (c : Carrier) (f : TxState → TxState) (d : Carrier) : (s.modTx c f).die d = s.die d := by
  cases c <;> rfl
@[simp] theorem modRx_die (s : State) (c : Carrier) (f : RxState → RxState) (d : Carrier) : (s.modRx c f).die d = s.die d := by
  cases c <;> rfl
@[simp] theorem modDie_rd (s : State) (c : Carrier) (f : DieState → DieState) (k : Key) : (s.modDie c f).rd k = s.rd k := by
  cases c <;> rfl
@[simp] theorem modDie_rdN (s : State) (c : Carrier) (f : DieState → DieState) (k : Key) : (s.modDie c f).rdN k = s.rdN k := by
  simp only [State.rdN, modDie_rd]

/-- A command whose condition holds takes effect. -/
theorem when_true {p : Bool} {s : State} {f : State → State} (h : p = true) : when p s f = f s := if_pos h

theorem nth_set_same {α : Type} {l : List α} {i : Nat} (h : i < l.length) (x d : α) : nth (l.set i x) i d = x := by
  simp [nth, h]

/-! ### Spare rotation -/

/-- The judgement of a visit to tile t (01 R36, R38): its new calibration values, and the spare ready or marked failed. -/
def visitJudged (c : Carrier) (t : Nat) (pass : Bool) (vals : List Byte) (s : State) : State :=
  let g := 16 * c.num + t
  if s.rd (K.tileState g) = 0 then
    let q := s.rdN (K.tileSpare g)
    let s := if vals = [] then s else
      let old := s.blob (K.calValues g)
      let old := old ++ List.replicate (198 - old.length) 0
      s.setBlob (K.calValues g) (old.take (6 * q) ++ (vals ++ List.replicate 6 0).take 6 ++ old.drop (6 * q + 6))
    if pass then s.modDie c (fun d => { d with tiles := d.tiles.modify t (fun x => { x with tested := true }) })
    else (s.markFailed c t q).wr (K.tileState g) 1
  else s

/-- The judgement changes neither CAL_TILE nor CAL_PASS_COUNT. -/
theorem visitJudged_leads (c : Carrier) (t : Nat) (pass : Bool) (vals : List Byte) (s : State) :
    Leads [.blobs, .clk, .boot, .entry 0x40 0x011, .entry 0x40 0x017, .ev, .fb, .entry 0x40 0x013] s (visitJudged c t pass vals s) := by
  refine ite_leads ?_ (Leads.refl _ s)
  refine ite_leads (State.modDie_leads _ _ _ rfl ?_) (wr_leads _ _ rfl (State.markFailed_leads _ _ _ _ rfl ?_))
  all_goals exact ite_leads (Leads.refl _ s) (setBlob_leads _ _ rfl (Leads.refl _ s))

/-- A failed self-test makes a NORMAL tile SPARE_FAILED (01 R38). -/
theorem visitJudged_failed (c : Carrier) (t : Nat) (vals : List Byte) (s : State) (h : s.rd (K.tileState (16 * c.num + t)) = 0) :
    (visitJudged c t false vals s).rd (K.tileState (16 * c.num + t)) = 1 := by
  simp [visitJudged, h]

/-- A visit's end is the judgement of its tile, the next tile's number, and after tile 15 one more pass. -/
theorem spareVisitEnd_eq {c : Carrier} {s : State} (pass : Bool) (vals : List Byte) (hp : s.present c = true)
    (hv : (s.die c).visiting = true) :
    spareVisitEnd c pass vals s =
      (if s.rdN (K.calTile c.num) = 15 then
        ((visitJudged c (s.rdN (K.calTile c.num)) pass vals s).wr (K.calTile c.num) ((s.rdN (K.calTile c.num) + 1) % 16 : Nat)).bump
          (K.calPassCount c.num)
      else (visitJudged c (s.rdN (K.calTile c.num)) pass vals s).wr (K.calTile c.num) ((s.rdN (K.calTile c.num) + 1) % 16 : Nat)) :=
  when_true (by simp [hp, hv])

theorem spareVisitEnd_effect (c : Carrier) (pass : Bool) (vals : List Byte) (s : State) (hp : s.present c = true)
    (hv : (s.die c).visiting = true) :
    (spareVisitEnd c pass vals s).rd (K.calTile c.num) = ((s.rdN (K.calTile c.num) + 1) % 16 : Nat) ∧
    (s.rdN (K.calTile c.num) = 15 →
      (spareVisitEnd c pass vals s).rd (K.calPassCount c.num) = (min (s.rdN (K.calPassCount c.num) + 1) max48 : Nat)) ∧
    (s.rd (K.tileState (16 * c.num + s.rdN (K.calTile c.num))) = 0 → pass = false →
      (spareVisitEnd c pass vals s).rd (K.tileState (16 * c.num + s.rdN (K.calTile c.num))) = 1) := by
  rw [spareVisitEnd_eq pass vals hp hv]
  refine ⟨?_, fun hlast => ?_, fun hnormal hfail => ?_⟩
  · split <;> simp [bump_rd]
  · have passes := (visitJudged_leads c (s.rdN (K.calTile c.num)) pass vals s).rd_eq (K.calPassCount c.num) rfl
    rw [if_pos hlast, bump_rd, if_pos rfl, State.rdN, State.rd_wr_other _ _ (by simp), passes]
    rfl
  · have failed := visitJudged_failed c _ vals s hnormal
    subst hfail
    split <;> simp [bump_rd, wr_rd, failed]

/-- A tested spare takes the next active place of its tile, and what it replaced is the spare (01 R36 step 4, R37). -/
theorem spareSwap_effect (c : Carrier) (n : Nat) (s : State) (hp : s.present c = true) (hr : s.dieReady c = true)
    (ho : s.rd (K.carState c) ≠ carOff) (hn : n < 16) (hl : n < (s.die c).tiles.length)
    (ht : (nth (s.die c).tiles n Tile.reset).tested = true) :
    nth ((spareSwap c n s).die c).tiles n Tile.reset =
      ⟨(nth (s.die c).tiles n Tile.reset).active.set (nth (s.die c).tiles n Tile.reset).nextSlot (s.rdN (K.tileSpare (16 * c.num + n))),
        ((nth (s.die c).tiles n Tile.reset).nextSlot + 1) % 32, false⟩ ∧
    (spareSwap c n s).rd (K.tileSpare (16 * c.num + n)) =
      (nth (nth (s.die c).tiles n Tile.reset).active (nth (s.die c).tiles n Tile.reset).nextSlot 0 : Nat) := by
  unfold spareSwap
  rw [when_true (by simp [hp, hr, ho, hn, ht])]
  exact ⟨by simp [nth_set_same hl], State.rd_wr_same _ _ _⟩

/-! ### A block over the die-to-die link: the counters -/

/-- A block of the link is counted, and a block that fails its CRC in its direction too (08 R241). -/
def d2dCounted (c : Carrier) (rx ok : Bool) (s : State) : State :=
  let s := s.wrapN (K.d2dBlocks c.num) 1
  let s := s.modDie c (fun d => { d with refTrim := stepRef d.refTrim d.refWant })
  let s := s.modDie c (fun d =>
    if rx then { d with rxBlocks := d.rxBlocks + 1, rxBad := d.rxBad + b2n (!ok) }
    else { d with txBlocks := d.txBlocks + 1, txBad := d.txBad + b2n (!ok) })
  if ok then s else s.bump (if rx then K.d2dRxCrcErr c.num else K.d2dTxCrcErr c.num)

/-- Counting changes no carrier, and of the Legend elements the three link counters alone. -/
theorem d2dCounted_leads (c : Carrier) (rx ok : Bool) (s : State) :
    Leads [.entry 0x40 0x022, .entry 0x40 0x020, .entry 0x40 0x021, .ev, .fb, .clk] s (d2dCounted c rx ok s) := by
  refine ite_leads ?_ (State.bump_leads _ _ (by cases rx <;> rfl) ?_)
  all_goals exact State.modDie_leads _ _ _ rfl (State.modDie_leads _ _ _ rfl (State.wrapN_leads _ _ _ rfl (Leads.refl _ s)))

/-- Counting leaves the elastic buffers and the DAC's output as they are. -/
theorem d2dCounted_die (c : Carrier) (rx ok : Bool) (s : State) :
    ((d2dCounted c rx ok s).die c).adcBuf = (s.die c).adcBuf ∧ ((d2dCounted c rx ok s).die c).adcOn = (s.die c).adcOn ∧
    ((d2dCounted c rx ok s).die c).adcDrop = (s.die c).adcDrop ∧ ((d2dCounted c rx ok s).die c).dacOut = (s.die c).dacOut := by
  cases rx <;> cases ok <;> simp [d2dCounted]

theorem d2dCounted_squelched (c : Carrier) (rx ok : Bool) (s : State) : (d2dCounted c rx ok s).squelched c = s.squelched c := by
  have frame := d2dCounted_leads c rx ok s
  have device : (d2dCounted c rx ok s).operational = s.operational := by
    unfold State.operational
    rw [frame.rd_eq K.deviceState rfl]
  have switch : (d2dCounted c rx ok s).on (K.squelchSw c) = s.on (K.squelchSw c) := by
    unfold State.on
    rw [frame.rd_eq (K.squelchSw c) (by cases c <;> rfl)]
  have carrier : (d2dCounted c rx ok s).car c = s.car c := by
    cases c
    · exact frame.1.2 .carA rfl
    · exact frame.1.2 .carB rfl
  unfold State.squelched State.squelchSrc
  rw [device, switch, carrier]

theorem d2dCounted_blocks (c : Carrier) (rx ok : Bool) (s : State) :
    (d2dCounted c rx ok s).rd (K.d2dBlocks c.num) = ((s.rdN (K.d2dBlocks c.num) + 1) % 2 ^ 48 : Nat) := by
  cases rx <;> cases ok <;> simp [d2dCounted, bump_rd, wrapN_rd]

theorem d2dCounted_crcErr (c : Carrier) (rx : Bool) (s : State) :
    (d2dCounted c rx false s).rd (if rx then K.d2dRxCrcErr c.num else K.d2dTxCrcErr c.num) =
      (min (s.rdN (if rx then K.d2dRxCrcErr c.num else K.d2dTxCrcErr c.num) + 1) max48 : Nat) := by
  cases rx <;> simp [d2dCounted, bump_rd, State.rdN, wrapN_rd]

/-- A block over the link is counted; then the fabric reads and the block arrives, or the DAC sends and its buffer is filled. -/
theorem d2dBlockRx_eq {c : Carrier} {j : Nat} {s : State} (rx ok : Bool) (codes : List Nat) (taken : Nat) (hp : s.present c = true)
    (hr : s.dieReady c = true) (hj : j < 4) :
    d2dBlockRx c rx j ok codes taken s =
      if rx then ((d2dCounted c rx ok s).adcRead c j taken).adcArrive c j ((codes.take 512).map (· % 256))
      else ((d2dCounted c rx ok s).dacSend c j taken).dacFill c j :=
  when_true (by simp [hp, hr, hj])

/-- What follows the counting leaves the three link counters alone. -/
theorem d2dBlockRx_rd {c : Carrier} {j : Nat} {s : State} (rx ok : Bool) (codes : List Nat) (taken : Nat) (hp : s.present c = true)
    (hr : s.dieReady c = true) (hj : j < 4) (k : Key) (hk : k.area = 0x40) (he : k.entry ≠ 0x018) :
    (d2dBlockRx c rx j ok codes taken s).rd k = (d2dCounted c rx ok s).rd k := by
  have moved : Leads [.clk, .entry (0x21 + c.off) 0x00B, .ev, .fb, .car c, .entry (0x21 + c.off) 0x031, .entry (0x21 + c.off) 0x007,
      .entry 0x40 0x018, .entry (0x20 + c.off) 0x077] (d2dCounted c rx ok s) (d2dBlockRx c rx j ok codes taken s) := by
    rw [d2dBlockRx_eq rx ok codes taken hp hr hj]
    refine ite_leads ?_ ?_
    · exact State.adcArrive_leads _ c j _ (by cases c <;> rfl) (State.adcRead_leads _ c j taken (by cases c <;> rfl) (Leads.refl _ _))
    · exact State.dacFill_leads _ c j (by cases c <;> rfl) (State.dacSend_leads _ c j taken rfl (Leads.refl _ _))
  refine moved.rd_eq k ?_
  rw [hk]
  cases c <;> simp [Part.within, Part.car, Carrier.off, he]

theorem d2dBlockRx_counts (c : Carrier) (rx : Bool) (j : Nat) (ok : Bool) (codes : List Nat) (taken : Nat) (s : State)
    (hp : s.present c = true) (hr : s.dieReady c = true) (hj : j < 4) :
    (d2dBlockRx c rx j ok codes taken s).rd (K.d2dBlocks c.num) = ((s.rdN (K.d2dBlocks c.num) + 1) % 2 ^ 48 : Nat) ∧
    (rx = true → ok = false → (d2dBlockRx c rx j ok codes taken s).rd (K.d2dRxCrcErr c.num) =
      (min (s.rdN (K.d2dRxCrcErr c.num) + 1) max48 : Nat)) ∧
    (rx = false → ok = false → (d2dBlockRx c rx j ok codes taken s).rd (K.d2dTxCrcErr c.num) =
      (min (s.rdN (K.d2dTxCrcErr c.num) + 1) max48 : Nat)) := by
  have kept := d2dBlockRx_rd rx ok codes taken hp hr hj
  refine ⟨?_, ?_, ?_⟩
  · rw [kept _ rfl (by simp), d2dCounted_blocks]
  · rintro rfl rfl
    rw [kept _ rfl (by simp)]
    exact d2dCounted_crcErr c true s
  · rintro rfl rfl
    rw [kept _ rfl (by simp)]
    exact d2dCounted_crcErr c false s

/-! ### The elastic boundaries -/

/-- The fabric's reading takes the first samples of the buffer it has begun, and leaves the rest of the die as it is (01 R26). -/
theorem adcRead_die (s : State) (c : Carrier) (j n : Nat) :
    (s.adcRead c j n).die c = { s.die c with
      adcBuf := if nth (s.die c).adcOn j false then (s.die c).adcBuf.set j ((nth (s.die c).adcBuf j []).drop n) else (s.die c).adcBuf } := by
  unfold State.adcRead
  split
  case isTrue hon =>
    rw [(State.adcSamples_leads _ c j _ (covers_refl _) (Leads.refl _ _)).die_eq (by cases c <;> rfl) c, State.modDie_die]
  case isFalse hoff => rfl

theorem takeMarks_adcBuf (s : State) (c : Carrier) (j : Nat) : ((s.takeMarks c j).die c).adcBuf = (s.die c).adcBuf := by
  simp [State.takeMarks]

/-- A block that meets no overflow stands behind what the elastic buffer held (01 R26). -/
theorem adcArrive_adcBuf {s : State} {c : Carrier} {j : Nat} (codes : List Nat) (hj : j < (s.die c).adcBuf.length)
    (hov : adcOverflow (nth (s.die c).adcDrop j false) (nth (s.die c).adcBuf j []).length = false) :
    nth ((s.adcArrive c j codes).die c).adcBuf j [] = nth (s.die c).adcBuf j [] ++ codes := by
  simp [State.adcArrive, hov, takeMarks_adcBuf, nth_set_same hj]

/-- A block toward the core die joins its elastic buffer behind what the fabric left in it. -/
theorem d2dBlockRx_adcBuf (c : Carrier) (j : Nat) (ok : Bool) (codes : List Nat) (taken : Nat) (buf : List Nat) (s : State)
    (hp : s.present c = true) (hr : s.dieReady c = true) (hj : j < 4) (hl : j < (s.die c).adcBuf.length)
    (hbuf : buf = if nth (s.die c).adcOn j false then (nth (s.die c).adcBuf j []).drop taken else nth (s.die c).adcBuf j [])
    (hov : adcOverflow (nth (s.die c).adcDrop j false) buf.length = false) :
    nth ((d2dBlockRx c true j ok codes taken s).die c).adcBuf j [] = buf ++ (codes.take 512).map (· % 256) := by
  obtain ⟨adcBuf, adcOn, adcDrop, -⟩ := d2dCounted_die c true ok s
  have read := adcRead_die (d2dCounted c true ok s) c j taken
  rw [adcBuf, adcOn] at read
  have left : nth (((d2dCounted c true ok s).adcRead c j taken).die c).adcBuf j [] = buf := by
    rw [read, hbuf]
    split <;> simp [nth_set_same hl]
  have fits : j < (((d2dCounted c true ok s).adcRead c j taken).die c).adcBuf.length := by
    rw [read]
    dsimp only
    split <;> simp [hl]
  rw [d2dBlockRx_eq true ok codes taken hp hr hj, if_pos rfl, adcArrive_adcBuf _ fits (by rw [left, read]; simpa [adcDrop] using hov), left]

/-- While the squelch gate holds, all that the DAC puts out is mid-code (02 R76). -/
theorem dacSend_squelched {s : State} {c : Carrier} {j : Nat} (n : Nat) (hl : j < (s.die c).dacOut.length) (hq : s.squelched c = true) :
    nth ((s.dacSend c j n).die c).dacOut j [] = List.replicate n 128 := by
  simp [State.dacSend, hq, nth_set_same hl]

theorem dacFill_dacOut (s : State) (c : Carrier) (j : Nat) : ((s.dacFill c j).die c).dacOut = (s.die c).dacOut := by
  simp [State.dacFill]

/-- A block toward the line die while squelched leaves the DAC's output mid-code. -/
theorem d2dBlockRx_squelched (c : Carrier) (j : Nat) (ok : Bool) (codes : List Nat) (taken : Nat) (s : State) (hp : s.present c = true)
    (hr : s.dieReady c = true) (hj : j < 4) (hl : j < (s.die c).dacOut.length) (hq : s.squelched c = true) :
    nth ((d2dBlockRx c false j ok codes taken s).die c).dacOut j [] = List.replicate taken 128 := by
  obtain ⟨-, -, -, dacOut⟩ := d2dCounted_die c false ok s
  rw [d2dBlockRx_eq false ok codes taken hp hr hj, if_neg Bool.false_ne_true, dacFill_dacOut]
  exact dacSend_squelched taken (by rwa [dacOut]) (by rwa [d2dCounted_squelched])

/-! ### The commands -/

/-- On a READY die of a carrier not OFF a spare visit begins (01 R36). -/
theorem spareVisitStart_next (c : Carrier) (s : State) (hp : s.present c = true) (hr : s.dieReady c = true)
    (ho : s.rd (K.carState c) ≠ carOff) : ∃ t, exec (.spareVisitStart c) s = .next t ∧ (t.die c).visiting = true := by
  refine ⟨_, rfl, ?_⟩
  rw [when_true (by simp [hp, hr, ho])]
  simp

/-- The samples that went out as mid-code for want of data are counted (08 R242). -/
theorem lineDacSlip_next (c : Carrier) (j : Nat) (s : State) (hp : s.present c = true) (hj : j < 4) (hn : nth (s.die c).dacShort j 0 ≠ 0) :
    ∃ t, exec (.lineDacSlip c j) s = .next t ∧
      t.rd (K.dacSlipSamples (4 * c.num + j)) =
        (min (s.rdN (K.dacSlipSamples (4 * c.num + j)) + nth (s.die c).dacShort j 0) max48 : Nat) := by
  refine ⟨_, rfl, ?_⟩
  rw [when_true (by simp [hp, hj, Nat.pos_of_ne_zero hn])]
  simp [bumpN_rd]

/-- Each second the degradation sums of both directions start again (08 R241). -/
theorem d2dDegradeCheck_next (c : Carrier) (s : State) (hp : s.present c = true) :
    ∃ t, exec (.d2dDegradeCheck c) s = .next t ∧
      (t.die c).rxBlocks = 0 ∧ (t.die c).rxBad = 0 ∧ (t.die c).txBlocks = 0 ∧ (t.die c).txBad = 0 := by
  refine ⟨_, rfl, ?_⟩
  rw [when_true hp]
  dsimp only
  split_ifs <;> simp

/-- Settles O16: each clause is what its command's lemma above says. -/
theorem lineConvertersComplete : Obligations.LineConvertersComplete :=
  ⟨spareVisitStart_next,
   fun c pass vals s hp hv => ⟨_, rfl, spareVisitEnd_effect c pass vals s hp hv⟩,
   fun c n s hp hr ho hn hl ht => ⟨_, rfl, spareSwap_effect c n s hp hr ho hn hl ht⟩,
   fun c rx j ok codes taken s hp hr hj => ⟨_, rfl, d2dBlockRx_counts c rx j ok codes taken s hp hr hj⟩,
   fun c j ok codes taken buf s hp hr hj hl hbuf hov => ⟨_, rfl, d2dBlockRx_adcBuf c j ok codes taken buf s hp hr hj hl hbuf hov⟩,
   fun c j ok codes taken s hp hr hj hl hq => ⟨_, rfl, d2dBlockRx_squelched c j ok codes taken s hp hr hj hl hq⟩,
   lineDacSlip_next,
   d2dDegradeCheck_next⟩

end Sys2Proof.Machine
end

section
/-! SUPPORT. The line transmitter (02): where it stands in its superframes, its frames and segments, the contour and the squelch gate, stage
9's causes and its packed entries, and the obligations about them. -/

namespace Sys2Proof.Machine

/-! ### What a frame says of a carrier -/

/-- A carrier outside the parts that change stays as it is. -/
theorem Leads.car_eq {ps : List Part} {s t : State} (h : Leads ps s t) (c : Carrier) (hk : Part.within ps (.car c) = false) :
    t.car c = s.car c := by
  cases c
  · exact h.1.2 .carA hk
  · exact h.1.2 .carB hk

@[simp] theorem modTx_rdN (s : State) (c : Carrier) (f : TxState → TxState) (k : Key) : (s.modTx c f).rdN k = s.rdN k := by
  simp only [State.rdN, modTx_rd]

theorem evalShortfall_car (s : State) (c d : Carrier) : (s.evalShortfall c).car d = s.car d :=
  (State.evalShortfall_leads s c (covers_refl _) (Leads.refl _ s)).car_eq d (by cases d <;> rfl)

theorem hostFollow_car (s : State) (c d : Carrier) : (s.hostFollow c).car d = s.car d :=
  (State.hostFollow_leads s c (covers_refl _) (Leads.refl _ s)).car_eq d (by cases d <;> rfl)

/-! ### Stage 9's causes -/

/-- Showing the causes of stage 9 sets its two flags in the transmitter and nothing else there (02 R480). -/
theorem nlcShow_tx (s : State) (c : Carrier) (bypass throttle : Bool) :
    ((s.nlcShow c bypass throttle).car c).tx =
      { (s.car c).tx with nlcBypass := bypass, xpmZero := (s.car c).tx.xpmZero && s.squelched c.other } := by
  unfold State.nlcShow
  dsimp only
  split_ifs <;> simp

/-- The cross-phase term of the companion is no concern of a carrier's own state. -/
theorem evalXpm_other_car (s : State) (c : Carrier) : (s.evalXpm c.other).car c = s.car c :=
  (State.evalXpm_leads s c.other (covers_refl _) (Leads.refl _ s)).car_eq c (by cases c <;> rfl)

/-! ### Where a transmitter stands -/

/-- TX_SFC, and the number of the next frame or sounding in that superframe (02 R47, R48). -/
def State.sfPos (s : State) (c : Carrier) : Int × Nat := (s.rd (K.txSfc c), (s.car c).tx.frameNo)

theorem sfPos_congr {s t : State} {c : Carrier} (hr : t.rd (K.txSfc c) = s.rd (K.txSfc c))
    (hf : (t.car c).tx.frameNo = (s.car c).tx.frameNo) : t.sfPos c = s.sfPos c := Prod.ext hr hf

theorem modTx_sfPos {s : State} {c : Carrier} {f : TxState → TxState} (hf : (f (s.car c).tx).frameNo = (s.car c).tx.frameNo) :
    (s.modTx c f).sfPos c = s.sfPos c :=
  sfPos_congr (modTx_rd ..) (by simpa using hf)

theorem raise_sfPos (s : State) (code : Nat) (k : Key) (c : Carrier) : (s.raise code k).sfPos c = s.sfPos c :=
  sfPos_congr rfl (by rw [raise_car])

theorem coreEvent_sfPos (s : State) (b : Nat) (who : Nat → Bool) (c : Carrier) : (s.coreEvent b who).sfPos c = s.sfPos c :=
  sfPos_congr (coreEvent_rd ..) (by rw [coreEvent_car])

theorem evalShortfall_sfPos (s : State) (c : Carrier) : (s.evalShortfall c).sfPos c = s.sfPos c :=
  sfPos_congr ((State.evalShortfall_leads s c (covers_refl _) (Leads.refl _ s)).rd_eq _ (by cases c <;> rfl)) (by rw [evalShortfall_car])

theorem evalXpm_other_sfPos (s : State) (c : Carrier) : (s.evalXpm c.other).sfPos c = s.sfPos c :=
  sfPos_congr ((State.evalXpm_leads s c.other (covers_refl _) (Leads.refl _ s)).rd_eq _ (by cases c <;> rfl)) (by rw [evalXpm_other_car])

theorem evalXpm_sfPos (s : State) (c : Carrier) : (s.evalXpm c).sfPos c = s.sfPos c := by
  refine sfPos_congr ((State.evalXpm_leads s c (covers_refl _) (Leads.refl _ s)).rd_eq _ (by cases c <;> rfl)) ?_
  unfold State.evalXpm
  split
  · rw [nlcShow_tx]
  · rfl

theorem refit_sfPos (s : State) (c : Carrier) : (s.refit c).sfPos c = s.sfPos c := by
  have frame := State.refit_leads s c (covers_refl _) (Leads.refl _ s)
  exact sfPos_congr (frame.rd_eq _ (by cases c <;> rfl)) (by rw [frame.car_eq c (by cases c <;> rfl)])

theorem toFallback_sfPos (s : State) (c : Carrier) : (s.toFallback c).sfPos c = s.sfPos c := by
  unfold State.toFallback
  rw [evalShortfall_sfPos, modTx_sfPos rfl]

theorem setCar_sfPos (s : State) (c : Carrier) (st : Int) : (s.setCar c st).sfPos c = s.sfPos c := by
  refine sfPos_congr ((State.setCar_leads s c st (covers_refl _) (Leads.refl _ s)).rd_eq _ (by cases c <;> rfl)) ?_
  unfold State.setCar
  split
  · rfl
  · rw [evalXpm_other_car, hostFollow_car, raise_car, wr_car]

theorem switchToFrames_sfPos (s : State) (c : Carrier) : (s.switchToFrames c).sfPos c = s.sfPos c := by
  unfold State.switchToFrames
  rw [setCar_sfPos]
  refine (sfPos_congr (modRx_rd ..) (by rw [modRx_tx])).trans ?_
  rw [modTx_sfPos rfl, toFallback_sfPos]

theorem loadSwitch_sfPos (s : State) (c : Carrier) (target : Nat) : (s.loadSwitch c target).sfPos c = s.sfPos c :=
  (raise_sfPos ..).trans (modTx_sfPos rfl)

theorem rateBoundary_sfPos (s : State) (c : Carrier) : (s.rateBoundary c).sfPos c = s.sfPos c := by
  unfold State.rateBoundary
  split
  · dsimp only
    rw [evalShortfall_sfPos, evalXpm_other_sfPos, evalXpm_sfPos]
    split
    · rw [refit_sfPos, modTx_sfPos rfl]
    · rw [modTx_sfPos rfl]
  · rfl

/-- A superframe boundary takes the transmitter to frame 0 of the next superframe (02 R48). -/
theorem txSuperframeBoundary_sfPos (c : Carrier) (s : State) (hp : s.present c = true) (ho : s.rd (K.carState c) ≠ carOff)
    (hr : s.dieReady c = true) :
    (txSuperframeBoundary c s).sfPos c = ((((s.rdN (K.txSfc c) + 1) % 2 ^ 48 : Nat) : Int), 0) := by
  unfold txSuperframeBoundary
  rw [when_true (by simp [hp, ho, hr])]
  extract_lets counted n tx opened switched loaded framed bounded
  have hopened : opened.sfPos c = ((((s.rdN (K.txSfc c) + 1) % 2 ^ 48 : Nat) : Int), 0) :=
    Prod.ext (by simp [opened, counted, State.sfPos, wrapN_rd]) (by simp [opened, State.sfPos])
  have hswitched : switched.sfPos c = opened.sfPos c := by
    unfold switched
    split
    · exact switchToFrames_sfPos opened c
    · rfl
  have hloaded : loaded.sfPos c = switched.sfPos c := by
    unfold loaded
    split
    · split
      · exact loadSwitch_sfPos switched c _
      · rfl
    · rfl
  have hframed : framed.sfPos c = loaded.sfPos c := modTx_sfPos (by dsimp only; split <;> rfl)
  rw [coreEvent_sfPos, evalShortfall_sfPos, rateBoundary_sfPos, hframed, hloaded, hswitched, hopened]

theorem txSuperframeBoundary_next (c : Carrier) (s : State) (hp : s.present c = true) (ho : s.rd (K.carState c) ≠ carOff)
    (hr : s.dieReady c = true) :
    ∃ t, exec (.txSuperframeBoundary c) s = .next t ∧
      t.rd (K.txSfc c) = ((s.rdN (K.txSfc c) + 1) % 2 ^ 48 : Nat) ∧ (t.car c).tx.frameNo = 0 :=
  ⟨_, rfl, Prod.ext_iff.1 (txSuperframeBoundary_sfPos c s hp ho hr)⟩

/-! ### Frames and soundings -/

/-- The announced superframe lies 22.003 ahead (04 R128). -/
theorem switchAnnounce_next (c : Carrier) (s : State) (hp : s.present c = true) (ha : s.rd (K.carState c) = carAcquire)
    (hn : (s.car c).tx.switchN = none) (hc : s.switchCondition c = true) :
    ∃ t, exec (.switchAnnounce c) s = .next t ∧
      (t.car c).tx.switchN = some ((s.rdN (K.txSfc c) + s.rdN (K.switchLead c)) % 2 ^ 48) := by
  refine ⟨_, rfl, ?_⟩
  unfold switchAnnounce
  rw [when_true (by simp [hp, ha, hn, hc]), modTx_tx]
  rfl

/-- The matcher fills the frame and leaves its number. -/
theorem runMatcher_frameNo (subs fi fuel : Nat) (t : TxState) : (runMatcher subs fi fuel t).frameNo = t.frameNo := by
  induction fuel generalizing t with
  | zero => rfl
  | succ fuel ih =>
    unfold runMatcher
    dsimp only
    split
    · rfl
    · exact ih _

theorem sendFrame_frameNo (s : State) (c : Carrier) : ((s.sendFrame c).car c).tx.frameNo = (s.car c).tx.frameNo + 1 := by
  unfold State.sendFrame
  rw [modTx_tx, runMatcher_frameNo]
  rfl

theorem sendSounding_frameNo (s : State) (c : Carrier) : ((s.sendSounding c).car c).tx.frameNo = (s.car c).tx.frameNo + 1 := by
  unfold State.sendSounding
  rw [modTx_tx]
  rfl

/-- Frames and soundings alike are numbered in their order (02 R47, 04 R124). -/
theorem txFrameStart_next (c : Carrier) (s : State) (hp : s.present c = true) (hr : s.dieReady c = true)
    (hs : (s.car c).tx.sending ≠ .nothing) :
    ∃ t, exec (.txFrameStart c) s = .next t ∧ (t.car c).tx.frameNo = (s.car c).tx.frameNo + 1 := by
  refine ⟨_, rfl, ?_⟩
  unfold txFrameStart
  rw [when_true (by simp [hp, hr])]
  split
  case h_1 nothing => exact absurd nothing hs
  case h_2 => exact sendSounding_frameNo s c
  case h_3 => exact sendFrame_frameNo s c

theorem ibcCreditTick_next (c : Carrier) (s : State) :
    ∃ t, exec (.ibcCreditTick c) s = .next t ∧ (t.car c).tx.ibcCredit = min ((s.car c).tx.ibcCredit + 1) (2 * s.subs c) :=
  ⟨_, rfl, by rw [modTx_tx]⟩

/-! ### Line blocks and segments -/

/-- A line block takes up to 63 client words and is 4,096 information bits (02 R56, R57). -/
theorem lineBlockEmit_next (c : Carrier) (s : State) (hp : s.present c = true) (hs : (s.car c).tx.sending = .frames) :
    ∃ t, exec (.lineBlockEmit c) s = .next t ∧
      (t.car c).tx.clientQ = (s.car c).tx.clientQ.drop 63 ∧
      (t.car c).tx.infoLen = (s.car c).tx.infoLen + 4096 ∧
      t.rd (K.txLbCount c) = ((s.rdN (K.txLbCount c) + 1) % 2 ^ 48 : Nat) := by
  refine ⟨_, rfl, ?_⟩
  unfold lineBlockEmit
  rw [when_true (by simp [hp, hs])]
  simp only [wrapN_car, modTx_tx, wrapN_rd, modTx_rdN, if_true, and_self]

/-- A segment is 16,384 coded bits (06 R172). -/
theorem txSegmentEmit_next (c : Carrier) (s : State) (hp : s.present c = true) (hs : (s.car c).tx.sending = .frames)
    (hi : segPayload (s.rdN (K.fecOh c)) ((s.car c).tx.segNo % segCycle (s.rdN (K.fecOh c))) ≤ (s.car c).tx.infoLen) :
    ∃ t, exec (.txSegmentEmit c) s = .next t ∧
      (t.car c).tx.segNo = (s.car c).tx.segNo + 1 ∧
      (t.car c).tx.codedLen = (s.car c).tx.codedLen + 16384 ∧
      t.rd (K.txSegCount c) = ((s.rdN (K.txSegCount c) + 1) % 2 ^ 48 : Nat) := by
  refine ⟨_, rfl, ?_⟩
  unfold txSegmentEmit
  dsimp only
  rw [when_true (by simp [hp, hs, hi])]
  simp only [wrapN_car, modTx_tx, wrapN_rd, modTx_rdN, if_true, and_self]

/-- Settles O1: each clause is what its command's lemma above says. -/
theorem transmitterFramesComplete : Obligations.TransmitterFramesComplete :=
  ⟨txSuperframeBoundary_next, switchAnnounce_next, txFrameStart_next, ibcCreditTick_next, lineBlockEmit_next, txSegmentEmit_next⟩

/-! ### The contour and the squelch gate -/

/-- The gate is squelched where one of its five sources is asserted (02 R76). -/
theorem squelched_eq (s : State) (c : Carrier) :
    s.squelched c = (!s.operational || s.on (K.squelchSw c) || (s.car c).tx.ocLatch || (s.car c).tx.thermal || (s.car c).tx.txdis) := by
  have parity : ∀ a b d e f g : Nat, (a * 32 + b * 16 + d * 8 + e * 4 + f * 2 + g) % 2 = g % 2 := by omega
  have bit : ∀ b : Bool, decide (b2n b % 2 = 1) = b := by decide
  unfold State.squelched State.squelchSrc
  simp only [parity, bit]

theorem squelched_of_switch {s : State} {c : Carrier} (h : s.on (K.squelchSw c) = true) : s.squelched c = true := by
  simp [squelched_eq, h]

theorem squelched_of_ocLatch {s : State} {c : Carrier} (h : (s.car c).tx.ocLatch = true) : s.squelched c = true := by
  simp [squelched_eq, h]

theorem squelched_of_txdis {s : State} {c : Carrier} (h : (s.car c).tx.txdis = true) : s.squelched c = true := by
  simp [squelched_eq, h]

theorem contourDark_state (s : State) (c : Carrier) : (s.contourDark c).rd (K.contourState c) = 0 := by
  simp [State.contourDark, wr_rd]

theorem contourDark_gain (s : State) (c : Carrier) : (s.contourDark c).rd (K.contourGain c) = 0 := by
  simp [State.contourDark]

/-- A squelched gate leaves the contour DARK at gain 0, newly squelched or not (02 R77). -/
theorem afterSquelch_dark {s : State} {c : Carrier} (old : Bool) (h : s.squelched c = true) :
    (s.afterSquelch c old).rd (K.contourState c) = 0 ∧ (s.afterSquelch c old).rd (K.contourGain c) = 0 := by
  unfold State.afterSquelch
  rw [if_pos h]
  exact ⟨contourDark_state _ c, contourDark_gain _ c⟩

/-- The latch and the pin of the squelch gate. -/
def TxState.squelchPins (t : TxState) : Bool × Bool := (t.ocLatch, t.txdis)

theorem contourDark_pins (s : State) (c : Carrier) : ((s.contourDark c).car c).tx.squelchPins = (s.car c).tx.squelchPins := by
  unfold State.contourDark
  rw [wr_car, wr_car, modTx_tx]
  rfl

/-- What follows a change of the squelch sources leaves the latch and the pin as they are. -/
theorem afterSquelch_pins (s : State) (c : Carrier) (old : Bool) :
    ((s.afterSquelch c old).car c).tx.squelchPins = (s.car c).tx.squelchPins := by
  unfold State.afterSquelch
  split
  · dsimp only
    rw [contourDark_pins]
    split
    · rfl
    · rw [raise_car, bump_car]
  · split
    · rw [evalXpm_other_car, raise_car]
    · rfl

theorem setSquelchPin_pins (s : State) (c : Carrier) (f : TxState → TxState) :
    ((s.setSquelchPin c f).car c).tx.squelchPins = (f (s.car c).tx).squelchPins := by
  unfold State.setSquelchPin
  rw [afterSquelch_pins, modTx_tx]

/-- A latch or pin that is asserted leaves the contour DARK at gain 0. -/
theorem setSquelchPin_dark {s : State} {c : Carrier} {f : TxState → TxState}
    (h : (f (s.car c).tx).ocLatch = true ∨ (f (s.car c).tx).txdis = true) :
    (s.setSquelchPin c f).rd (K.contourState c) = 0 ∧ (s.setSquelchPin c f).rd (K.contourGain c) = 0 := by
  refine afterSquelch_dark _ ?_
  rcases h with latch | pin
  · exact squelched_of_ocLatch (by rwa [modTx_tx])
  · exact squelched_of_txdis (by rwa [modTx_tx])

theorem txdisPasses_long {width : Nat} (s : State) (f : State → State) (h : 40 ≤ width) : s.txdisPasses width f = f s := by
  unfold State.txdisPasses
  rw [if_neg (by omega), if_pos h]

/-- At position 1 the gain is full, whatever the shape (02 R74). -/
theorem contourGain_one (shape floor_ : Nat) : contourGain shape floor_ 1 = 65535 := by
  unfold contourGain
  rw [if_neg (by norm_num), if_pos le_rfl]

/-- The contour rises from position 0 (02 R74, row DARK). -/
theorem contourRiseStart_next (c : Carrier) (s : State) (hc : s.riseCondition c = true) :
    ∃ t, exec (.contourRiseStart c) s = .next t ∧ t.rd (K.contourState c) = 1 ∧ (t.car c).tx.pos = 0 := by
  refine ⟨_, rfl, ?_⟩
  rw [when_true hc]
  exact ⟨State.rd_wr_same _ _ _, by rw [wr_car, modTx_tx]; rfl⟩

/-- A rise that reaches position 1 ends STEADY at full gain (02 R74). -/
theorem contourUpdate_next (c : Carrier) (s : State) (hp : s.present c = true) (hs : s.rd (K.contourState c) = 1)
    (h1 : 1 ≤ (s.car c).tx.pos + 1024 / (exactRate (s.symRate c) * s.rdN (K.contourRise c))) :
    ∃ t, exec (.contourUpdate c) s = .next t ∧
      t.rd (K.contourState c) = 2 ∧ t.rd (K.contourGain c) = 65535 ∧ (t.car c).tx.pos = 1 := by
  refine ⟨_, rfl, ?_⟩
  unfold contourUpdate
  rw [when_true hp]
  dsimp only
  rw [if_pos (by rwa [modTx_rd]), if_pos (by rwa [modTx_rdN, modTx_tx])]
  refine ⟨?_, ?_, ?_⟩
  · rw [State.raise_rd, State.rd_wr_same]
  · rw [State.raise_rd, State.rd_wr_other _ _ (by simp), State.rd_wr_same, contourGain_one]
    rfl
  · rw [raise_car, wr_car, wr_car, modTx_tx]
    rfl

/-- 20.040 is a Boolean entry (09 R245). -/
theorem clampKey_squelchSw (c : Carrier) (v : Int) : clampKey (K.squelchSw c) v = b2i (v ≠ 0) := by
  have clamped : clampKey (K.squelchSw c) v = if v = 0 then 0 else 1 := by cases c <;> rfl
  rw [clamped]
  unfold b2i
  split <;> simp_all

/-- A stored element reads as it was written; the journal moves its own count alone (09 R278). -/
theorem rwStore_rd_same (s : State) (src : Nat) (k : Key) (v : Int) (hk : k.area ≠ 0x02) : (s.rwStore src k v).rd k = v := by
  unfold State.rwStore
  rw [(State.journal_leads _ _ (covers_refl _) (Leads.refl _ (s.wr k v))).rd_eq k (by simp [Part.within, hk]), State.rd_wr_same]

theorem rwEffect_rd_squelchSw (src : Nat) (c : Carrier) (v : Int) (s : State) :
    (rwEffect src (K.squelchSw c) v s).1.rd (K.squelchSw c) = b2i (v ≠ 0) := by
  rw [← clampKey_squelchSw c v]
  have canonical : canonKey (K.squelchSw c) = K.squelchSw c := by cases c <;> rfl
  unfold rwEffect
  rw [canonical]
  exact rwStore_rd_same _ _ _ _ (by cases c <;> decide)

/-- The software squelch is stored as a Boolean, and asserting it darkens the contour (02 R76, R77). -/
theorem squelchSwWrite_next (src : Nat) (c : Carrier) (v : Int) (s : State) (ha : s.accepts src (K.squelchSw c)) :
    ∃ t, exec (.squelchSwWrite src c v) s = .next t ∧ t.answered src .ok ∧ t.rd (K.squelchSw c) = b2i (v ≠ 0) ∧
      (v ≠ 0 → t.rd (K.contourState c) = 0) := by
  refine ⟨_, rfl, ?_⟩
  rw [request_accepted s src ha]
  have stored := rwEffect_rd_squelchSw src c v (s.accepted src)
  refine ⟨ack_answered .., ?_, fun hv => ?_⟩
  · rw [State.ack_rd, (State.afterSquelch_leads _ _ _ (covers_refl _) (Leads.refl _ _)).rd_eq _ (by cases c <;> rfl), stored]
  · rw [State.ack_rd]
    exact (afterSquelch_dark _ (squelched_of_switch (by simp [State.on, stored, b2i, hv]))).1

theorem txdisAssert_next (c : Carrier) (width : Nat) (s : State) (hp : s.present c = true) (hw : 40 ≤ width) :
    ∃ t, exec (.txdisAssert c width) s = .next t ∧
      (t.car c).tx.txdis = true ∧ t.rd (K.contourState c) = 0 ∧ t.rd (K.contourGain c) = 0 := by
  refine ⟨_, rfl, ?_⟩
  rw [txdisPasses_long _ _ hw, when_true hp]
  exact ⟨congrArg Prod.snd (setSquelchPin_pins ..), setSquelchPin_dark (.inr rfl)⟩

/-- The glitch filter stops a level of less than 2 ns (18 R460). -/
theorem txdisAssert_short (c : Carrier) (width : Nat) (s : State) (hw : width < 20) :
    ∃ t, exec (.txdisAssert c width) s = .next t ∧ t = s :=
  ⟨_, rfl, if_pos hw⟩

theorem txdisDeassert_next (c : Carrier) (width : Nat) (s : State) (hp : s.present c = true) (hw : 40 ≤ width) :
    ∃ t, exec (.txdisDeassert c width) s = .next t ∧ (t.car c).tx.txdis = false := by
  refine ⟨_, rfl, ?_⟩
  rw [txdisPasses_long _ _ hw, when_true hp]
  exact congrArg Prod.snd (setSquelchPin_pins ..)

theorem ocTrip_next (c : Carrier) (cur : Nat) (s : State) (hp : s.present c = true) (hc : s.rdN (K.ocLimit c.num) < cur)
    (hl : (s.car c).tx.ocLatch = false) :
    ∃ t, exec (.ocTrip c cur) s = .next t ∧ (t.car c).tx.ocLatch = true ∧ t.rd (K.contourState c) = 0 := by
  refine ⟨_, rfl, ?_⟩
  rw [when_true (by simp [hp, hc, hl]), raise_car, State.raise_rd]
  exact ⟨congrArg Prod.fst (setSquelchPin_pins ..), (setSquelchPin_dark (.inl rfl)).1⟩

/-- The over-current latch stays while the current is not below its limit; the answer is OK either way (02 R76). -/
theorem ocClear_next (src : Nat) (c : Carrier) (cur : Nat) (s : State) (ha : s.accepts src (K.ocClear c)) :
    ∃ t, exec (.ocClear src c cur) s = .next t ∧ t.answered src .ok ∧
      (t.car c).tx.ocLatch = if cur < s.rdN (K.ocLimit c.num) then false else (s.car c).tx.ocLatch := by
  refine ⟨_, rfl, ?_⟩
  rw [request_accepted s src ha]
  refine ⟨ack_answered .., ?_⟩
  rw [ack_car, accepted_rdN s src _ (by simp)]
  split
  · exact congrArg Prod.fst (setSquelchPin_pins ..)
  · rw [accepted_car]

/-! ### Joint nonlinear pre-compensation -/

theorem nlcBypassChange_next (c : Carrier) (s : State) (hp : s.present c = true) :
    ∃ t, exec (.nlcBypassChange c) s = .next t ∧
      (t.car c).tx.nlcBypass = (decide (s.rd (K.nlcEnable c) = 0) || decide (2 ≤ s.rd K.throttleLevel)) := by
  refine ⟨_, rfl, ?_⟩
  rw [when_true hp]
  unfold State.evalNlc
  rw [nlcShow_tx]

/-- The companion's squelch gate is no concern of a carrier's own transmitter. -/
theorem modTx_squelched_other (s : State) (c : Carrier) (f : TxState → TxState) :
    (s.modTx c f).squelched c.other = s.squelched c.other := by
  cases c <;> rfl

/-- The top bit of the five causes is bit 4 of their word. -/
theorem bitOf_four_of_causes : ∀ b4 b3 b2 b1 b0 : Bool,
    bitOf (b2n b4 * 16 + b2n b3 * 8 + b2n b2 * 4 + b2n b1 * 2 + b2n b0) 4 = b4 := by decide

/-- Bit 4 of 20.054 shows that the companion is squelched and its contribution held at zero (02 R480). -/
theorem nlcShow_status_companion (s : State) (c : Carrier) (bypass throttle : Bool) :
    bitOf ((s.nlcShow c bypass throttle).rdN (K.nlcStatus c)) 4 = ((s.car c).tx.xpmZero && s.squelched c.other) := by
  unfold State.nlcShow
  dsimp only
  split_ifs <;> simp only [State.rdN, State.raise_rd, State.rd_wr_same, Int.toNat_natCast, bitOf_four_of_causes]

theorem xpmSquelchRemove_next (c : Carrier) (s : State) (hp : s.present c = true) (ho : s.present c.other = true)
    (hq : s.squelched c.other = true) :
    ∃ t, exec (.xpmSquelchRemove c) s = .next t ∧ (t.car c).tx.xpmZero = true ∧ bitOf (t.rdN (K.nlcStatus c)) 4 = true := by
  refine ⟨_, rfl, ?_⟩
  rw [when_true (by simp [hp, ho, hq])]
  unfold State.evalNlc
  rw [nlcShow_tx, nlcShow_status_companion]
  simp [modTx_squelched_other, hq]

/-- Settles O2: each clause is what its command's lemma above says. -/
theorem contourAndSquelchComplete : Obligations.ContourAndSquelchComplete :=
  ⟨contourRiseStart_next, contourUpdate_next, squelchSwWrite_next, txdisAssert_next, txdisAssert_short, txdisDeassert_next,
   ocTrip_next, ocClear_next, nlcBypassChange_next, xpmSquelchRemove_next⟩

/-! ### Packed entries -/

/-- A number that fits a field is its field. -/
theorem fieldOf_of_lt {w n : Nat} (h : n < 2 ^ w) : fieldOf w (n : Int) = n := by
  unfold fieldOf
  norm_cast
  rw [Nat.mod_eq_of_lt h]

/-- A signed field reads the low bits alone. -/
theorem toSigned_mod (w n : Nat) : toSigned w (n % 2 ^ w) = toSigned w n := by
  simp [toSigned]

theorem clampField_mod (lim : Int) (n : Nat) : clampField lim (n % 2 ^ 16) = clampField lim n := by
  simp only [clampField, toSigned_mod]

theorem clampKey_nlcCoef (c : Carrier) (i : Nat) (v : Int) : clampKey (K.nlcCoef c i) v = (fieldOf 32 v : Nat) := by
  cases c <;> rfl

theorem clampKey_nlcIndex (c : Carrier) (i : Nat) (v : Int) :
    clampKey (K.nlcIndex c i) v = (clampField 1023 (fieldOf 32 v / 2 ^ 16) * 2 ^ 16 + clampField 1023 (fieldOf 32 v) : Nat) := by
  cases c <;> rfl

/-- Settles O53: a word of two halves is its own field, and each half is clamped by what it holds itself. -/
theorem packedFieldsClamp : Obligations.PackedFieldsClamp := by
  intro c i hi lo hhi hlo
  have word : fieldOf 32 ((hi * 2 ^ 16 + lo : Nat) : Int) = hi * 2 ^ 16 + lo := fieldOf_of_lt (by omega)
  have high : (hi * 2 ^ 16 + lo) / 2 ^ 16 = hi := by omega
  have low : clampField 1023 (hi * 2 ^ 16 + lo) = clampField 1023 lo := by
    rw [← clampField_mod, show (hi * 2 ^ 16 + lo) % 2 ^ 16 = lo by omega]
  refine ⟨?_, ?_⟩
  · rw [clampKey_nlcCoef, word]
  · rw [clampKey_nlcIndex, word, high, low]
    rfl

end Sys2Proof.Machine
end

section
/-! SUPPORT. The line receiver up to carrier recovery (03 R84 to R110): maps kept as lists, status bits, the moves of a loss of lock, and
the obligation about the front-end, timing, SOP, pilot and hold-expiry commands. -/

namespace Sys2Proof.Machine

/-! ### Maps kept as lists -/

theorem aget_aput_other {α : Type} (m : List (Nat × α)) {k j : Nat} (v d : α) (h : j ≠ k) : aget (aput m k v) j d = aget m j d := by
  induction m with
  | nil => simp [aput, aget, h.symm]
  | cons e t ih =>
    simp only [aput]
    split_ifs with same before
    · subst same; simp [aget, h.symm]
    · simp [aget, h.symm]
    · simp [aget, ih]

/-- Dropping entries that a number does not have leaves what it reads. -/
theorem aget_filter_of_keeps {α : Type} (m : List (Nat × α)) {p : Nat × α → Bool} {j : Nat} (d : α) (h : ∀ v, p (j, v) = true) :
    aget (m.filter p) j d = aget m j d := by
  induction m with
  | nil => rfl
  | cons e t ih =>
    by_cases hk : e.1 = j
    · have kept : p e = true := by subst hk; exact h e.2
      simp [List.filter_cons_of_pos kept, aget, hk]
    · rw [List.filter_cons]
      split <;> simp [aget, hk, ih]

/-- A number all of whose entries are dropped reads the default. -/
theorem aget_filter_of_drops {α : Type} (m : List (Nat × α)) {p : Nat × α → Bool} {j : Nat} (d : α) (h : ∀ v, p (j, v) = false) :
    aget (m.filter p) j d = d := by
  induction m with
  | nil => rfl
  | cons e t ih =>
    by_cases hk : e.1 = j
    · have gone : ¬ p e = true := by subst hk; simp [h e.2]
      rw [List.filter_cons_of_neg gone, ih]
    · rw [List.filter_cons]
      split <;> simp [aget, hk, ih]

theorem aget_adel {α : Type} (m : List (Nat × α)) (k : Nat) (d : α) : aget (adel m k) k d = d :=
  aget_filter_of_drops m d (by simp)

theorem aget_adel_other {α : Type} (m : List (Nat × α)) {k j : Nat} (d : α) (h : j ≠ k) : aget (adel m k) j d = aget m j d :=
  aget_filter_of_keeps m d (by simp [h])

/-! ### Folds that write one reading at a time -/

section Folds

variable {σ γ β : Type} {step : σ → γ → σ} {read : σ → β}

/-- A reading that no step of a fold changes stays. -/
theorem foldl_reading_other {l : List γ} (other : ∀ s, ∀ i ∈ l, read (step s i) = read s) (s : σ) :
    read (l.foldl step s) = read s := by
  induction l generalizing s with
  | nil => rfl
  | cons i t ih =>
    rw [List.foldl_cons, ih (fun s i hi => other s i (List.mem_cons_of_mem _ hi)), other s i List.mem_cons_self]

/-- A reading that one step of a fold sets, and no other changes, is as that step sets it. -/
theorem foldl_reading_mem {l : List γ} {j : γ} {v : β} (hj : j ∈ l) (same : ∀ s, read (step s j) = v)
    (other : ∀ s i, i ≠ j → read (step s i) = read s) (s : σ) : read (l.foldl step s) = v := by
  induction l generalizing s with
  | nil => cases hj
  | cons i t ih =>
    by_cases later : j ∈ t
    · exact ih later _
    · obtain rfl : j = i := (List.mem_cons.1 hj).resolve_right later
      rw [List.foldl_cons, foldl_reading_other (fun s i hi => other s i (fun e => later (e ▸ hi))), same]

end Folds

/-- Elements written one after the other read as they were written. -/
theorem foldl_wr_rd_mem {l : List Nat} {key : Nat → Key} (val : Nat → Int) (inj : ∀ i j, key i = key j → i = j) {j : Nat}
    (hj : j ∈ l) (s : State) :
    (l.foldl (fun s i => s.wr (key i) (val i)) s).rd (key j) = val j :=
  foldl_reading_mem (read := fun s : State => s.rd (key j)) hj (fun s => State.rd_wr_same s _ _)
    (fun s _ hi => State.rd_wr_other s _ (fun e => hi (inj _ _ e).symm)) s

theorem foldl_wr_rd_other {l : List Nat} {key : Nat → Key} (val : Nat → Int) {k : Key} (h : ∀ i, k ≠ key i) (s : State) :
    (l.foldl (fun s i => s.wr (key i) (val i)) s).rd k = s.rd k :=
  foldl_reading_other (read := fun s : State => s.rd k) (fun s i _ => State.rd_wr_other s _ (h i)) s

theorem nth_range_map {α : Type} {n i : Nat} (h : i < n) (f : Nat → α) (d : α) : nth ((List.range n).map f) i d = f i := by
  simp [nth, h]

/-! ### Bits of a status word -/

/-- A word is what stands above bit i, bit i itself, and what stands below it. -/
theorem setBit_eq (n i : Nat) (b : Bool) : setBit n i b = 2 ^ i * (2 * (n / 2 ^ i / 2) + b2n b) + n % 2 ^ i := by
  have word := Nat.div_add_mod n (2 ^ i)
  have upper : 2 ^ i * (n / 2 ^ i) = 2 ^ i * (2 * (n / 2 ^ i / 2)) + n / 2 ^ i % 2 * 2 ^ i := by
    rw [Nat.mul_comm (n / 2 ^ i % 2), ← Nat.mul_add, Nat.div_add_mod]
  have bit : b2n b * 2 ^ i = 2 ^ i * b2n b := Nat.mul_comm ..
  unfold setBit
  rw [Nat.mul_add, bit]
  omega

theorem bitOf_eq_testBit (n i : Nat) : bitOf n i = n.testBit i := (Nat.testBit_eq_decide_div_mod_eq).symm

theorem setBit_testBit (n i : Nat) (b : Bool) (j : Nat) : (setBit n i b).testBit j = if j = i then b else n.testBit j := by
  have low : n % 2 ^ i < 2 ^ i := Nat.mod_lt _ (Nat.two_pow_pos i)
  rw [setBit_eq, Nat.testBit_two_pow_mul_add _ low]
  rcases Nat.lt_trichotomy j i with below | rfl | above
  · simp [below, Nat.ne_of_lt below]
  · cases b <;> simp [b2n, Nat.testBit_zero]
  · obtain ⟨k, rfl⟩ : ∃ k, j = i + (k + 1) := ⟨j - i - 1, by omega⟩
    have half : (2 * (n / 2 ^ i / 2) + b2n b) / 2 = n / 2 ^ i / 2 := by cases b <;> simp [b2n]; omega
    have beyond : ¬ i + (k + 1) < i := by omega
    have split : n / 2 ^ i / 2 = n / 2 ^ (i + 1) := by rw [Nat.div_div_eq_div_mul, ← Nat.pow_succ]
    rw [if_neg beyond, if_neg (by omega), Nat.add_sub_cancel_left, Nat.testBit_succ, half, split, Nat.testBit_div_two_pow]
    congr 1
    omega

@[simp] theorem bitOf_setBit_same (n i : Nat) (b : Bool) : bitOf (setBit n i b) i = b := by
  rw [bitOf_eq_testBit, setBit_testBit, if_pos rfl]

theorem bitOf_setBit_other (n : Nat) {i j : Nat} (b : Bool) (h : j ≠ i) : bitOf (setBit n i b) j = bitOf n j := by
  rw [bitOf_eq_testBit, setBit_testBit, if_neg h, bitOf_eq_testBit]

@[simp] theorem rxStatusBit_car (s : State) (c : Carrier) (b : Nat) (v : Bool) (d : Carrier) : (s.rxStatusBit c b v).car d = s.car d :=
  wr_car ..

theorem rxStatusBit_rd_other (s : State) {c : Carrier} {b : Nat} {v : Bool} {k : Key} (h : k ≠ K.rxStatus c) :
    (s.rxStatusBit c b v).rd k = s.rd k := State.rd_wr_other _ _ h

theorem rxStatusBit_rdN (s : State) (c : Carrier) (b : Nat) (v : Bool) :
    (s.rxStatusBit c b v).rdN (K.rxStatus c) = setBit (s.rdN (K.rxStatus c)) b v := by
  rw [State.rdN, State.rxStatusBit, State.rd_wr_same, Int.toNat_natCast]


/-! ### Window ends of the front end (03 R84, R85) -/

/-- What the end of a window makes of the estimate of position p of channel j, from the window sums of the channel. -/
def ilvTake (j : Nat) (sum : Nat → WinSum) (m : List (Nat × Rat × Rat)) (p : Nat) : List (Nat × Rat × Rat) :=
  if (sum p).n = 0 then m
  else if ilvEstimate ((List.range 128).map sum) (sum p) = (0, 1) then adel m (128 * j + p)
  else aput m (128 * j + p) (ilvEstimate ((List.range 128).map sum) (sum p))

/-- A window's end takes the positions of the channel one by one. -/
theorem ilvWindow_ilv (r : RxState) (j : Nat) :
    (r.ilvWindow j true).ilv = (List.range 128).foldl (ilvTake j (fun p => aget r.ilvSum (128 * j + p) WinSum.zero)) r.ilv := by
  unfold RxState.ilvWindow
  dsimp only
  rw [if_pos rfl, ← List.map_prod_right_eq_zip, List.foldl_map]
  rfl

theorem ilvWindow_ilv_unused (r : RxState) (j : Nat) : (r.ilvWindow j false).ilv = r.ilv := by
  unfold RxState.ilvWindow
  dsimp only
  rw [if_neg Bool.false_ne_true]

theorem ilvTake_same {j p : Nat} {sum : Nat → WinSum} (m : List (Nat × Rat × Rat)) (hn : (sum p).n ≠ 0) :
    aget (ilvTake j sum m p) (128 * j + p) (0, 1) = ilvEstimate ((List.range 128).map sum) (sum p) := by
  unfold ilvTake
  rw [if_neg hn]
  split
  case isTrue unit => rw [aget_adel, unit]
  case isFalse => rw [aget_aput]

theorem ilvTake_other {j p i : Nat} (sum : Nat → WinSum) (m : List (Nat × Rat × Rat)) (hi : i ≠ p) :
    aget (ilvTake j sum m i) (128 * j + p) (0, 1) = aget m (128 * j + p) (0, 1) := by
  have apart : 128 * j + p ≠ 128 * j + i := by omega
  unfold ilvTake
  split_ifs
  · rfl
  · exact aget_adel_other m _ apart
  · exact aget_aput_other m _ _ apart

/-- A position that was sampled takes the offset and gain of its sums. -/
theorem ilvWindow_estimate (r : RxState) (j : Nat) {p : Nat} (hp : p < 128) (hn : (aget r.ilvSum (128 * j + p) WinSum.zero).n ≠ 0) :
    aget (r.ilvWindow j true).ilv (128 * j + p) (0, 1) =
      ilvEstimate ((List.range 128).map (fun q => aget r.ilvSum (128 * j + q) WinSum.zero)) (aget r.ilvSum (128 * j + p) WinSum.zero) := by
  rw [ilvWindow_ilv]
  refine foldl_reading_mem (read := fun m => aget m (128 * j + p) (0, 1)) (List.mem_range.2 hp) (fun m => ?_) (fun m i hi => ?_) r.ilv
  · exact ilvTake_same (sum := fun q => aget r.ilvSum (128 * j + q) WinSum.zero) m hn
  · exact ilvTake_other _ m hi

/-- The channel's window begins again. -/
theorem ilvWindow_ilvSum (r : RxState) (j : Nat) (use : Bool) {p : Nat} (hp : p < 128) :
    aget (r.ilvWindow j use).ilvSum (128 * j + p) WinSum.zero = WinSum.zero :=
  aget_filter_of_drops _ _ (by have : (128 * j + p) / 128 = j := by omega
                               simp [this])

/-- The window of a channel ends for the receiver, with the estimates in use or let go. -/
theorem feIlvWindow_rx (c : Carrier) (j : Nat) (s : State) (hc : s.present c = true) :
    ∃ t, exec (.feIlvWindow c j) s = .next t ∧ (t.car c).rx = (s.car c).rx.ilvWindow j (s.on (K.feIlvEnable c)) := by
  refine ⟨_, rfl, ?_⟩
  rw [when_true hc, modRx_rx]

theorem feIlvWindow_next (c : Carrier) (j p : Nat) (s : State) (hc : s.present c = true) (ho : s.on (K.feIlvEnable c) = true) (hp : p < 128)
    (hn : (aget (s.car c).rx.ilvSum (128 * j + p) WinSum.zero).n ≠ 0) :
    ∃ t, exec (.feIlvWindow c j) s = .next t ∧
      aget (t.car c).rx.ilv (128 * j + p) (0, 1) =
        ilvEstimate ((List.range 128).map (fun q => aget (s.car c).rx.ilvSum (128 * j + q) WinSum.zero))
          (aget (s.car c).rx.ilvSum (128 * j + p) WinSum.zero) ∧
      aget (t.car c).rx.ilvSum (128 * j + p) WinSum.zero = WinSum.zero := by
  obtain ⟨t, ht, rx⟩ := feIlvWindow_rx c j s hc
  rw [ho] at rx
  refine ⟨t, ht, ?_, ?_⟩
  · rw [rx, ilvWindow_estimate _ j hp hn]
  · rw [rx, ilvWindow_ilvSum _ j true hp]

theorem feIlvWindow_kept (c : Carrier) (j : Nat) (s : State) (hc : s.present c = true) (ho : s.on (K.feIlvEnable c) = false) :
    ∃ t, exec (.feIlvWindow c j) s = .next t ∧ (t.car c).rx.ilv = (s.car c).rx.ilv := by
  obtain ⟨t, ht, rx⟩ := feIlvWindow_rx c j s hc
  exact ⟨t, ht, by rw [rx, ho, ilvWindow_ilv_unused]⟩

theorem feIqWindow_next (c : Carrier) (y : Bool) (s : State) (hc : s.present c = true) (hm : s.rd (K.feIqMode c) = 0) :
    ∃ t, exec (.feIqWindow c y) s = .next t ∧
      t.iqPhase c (b2n y) = iqEstimate (if y then (s.car c).rx.iqSumY else (s.car c).rx.iqSumX) := by
  refine ⟨_, rfl, ?_⟩
  rw [when_true (by simp [hc, hm]), State.iqPhase, modRx_rd, if_pos hm, modRx_rx]
  cases y <;> simp [RxState.iqWindow, b2n]

/-! ### Timing lock (03 R98) -/

theorem rxTimingLock_next (c : Carrier) (s : State) (hc : s.present c = true) (he : s.emitting c = true) (hr : s.dieReady c = true)
    (hl : s.rd (K.trLock c) = 0) :
    ∃ t, exec (.rxTimingLock c) s = .next t ∧ t.rd (K.trLock c) = 1 ∧ bitOf (t.rdN (K.rxStatus c)) 5 = true := by
  refine ⟨_, rfl, ?_⟩
  rw [when_true (by simp [hc, he, hr, hl]), State.raise_rd, raise_rdN, rxStatusBit_rdN, bitOf_setBit_same]
  exact ⟨(rxStatusBit_rd_other _ (by simp)).trans (State.rd_wr_same ..), rfl⟩

/-- A loss-of-lock cause leaves an element of area 21 other than f_common's two and the status word as it is. -/
theorem lossCause_rd_rx (s : State) (c : Carrier) (bit e i : Nat) (h : e ≠ 0x062 ∧ e ≠ 0x064 ∧ e ≠ 0x001) :
    (s.lossCause c bit).rd ⟨0x21 + c.off, e, i⟩ = s.rd ⟨0x21 + c.off, e, i⟩ := by
  refine (State.lossCause_leads s c bit (covers_refl _) (Leads.refl _ s)).rd_eq _ ?_
  obtain ⟨common, total, status⟩ := h
  cases c <;> simp [Part.within, Part.car, Carrier.off, common, total, status]

theorem rxTimingUnlock_next (c : Carrier) (s : State) (hc : s.present c = true) (hl : s.rd (K.trLock c) = 1) :
    ∃ t, exec (.rxTimingUnlock c) s = .next t ∧ t.rd (K.trLock c) = 0 ∧
      t.rd (K.trUnlockCount c) = (min (s.rdN (K.trUnlockCount c) + 1) max48 : Nat) := by
  refine ⟨_, rfl, ?_⟩
  rw [when_true (by simp [hc, hl]), lossCause_rd_rx _ c _ _ _ (by decide), lossCause_rd_rx _ c _ _ _ (by decide)]
  simp [State.rxStatusBit, bump_rd, wr_rd, State.rdN]

/-! ### SOP rates (03 R106) -/

/-- The rate that 21.051[k] takes. -/
def State.sopReported (s : State) (c : Carrier) (k : Nat) : Nat :=
  if phSettle ≤ s.rd (K.acqPhase c) ∧ k < s.subs c then min (nth ((List.range 32).map (s.sopMeasured c)) k 0) 100000 else 0

theorem sopRates_eq (s : State) (c : Carrier) :
    s.sopRates c ((List.range 32).map (s.sopMeasured c)) = (List.range 32).map (s.sopReported c) := rfl

/-- A rate above 21.054 sets bit 3 of 21.001 and raises its event. -/
def State.sopAlarm (s : State) (c : Carrier) (rates : List Nat) : State :=
  match (rates.zip (List.range 32)).find? (fun p => s.rdN (K.sopAlarmRate c) < p.1) with
  | some p =>
    if bitOf (s.rdN (K.rxStatus c)) 3 then s
    else (s.rxStatusBit c 3 true).raise Ev.rxSopHigh (K.sopRate c p.2)
  | none => s

theorem sopAlarm_rd (s : State) {c : Carrier} (rates : List Nat) {k : Key} (h : k ≠ K.rxStatus c) :
    (s.sopAlarm c rates).rd k = s.rd k := by
  unfold State.sopAlarm
  split
  · split
    · rfl
    · rw [State.raise_rd, rxStatusBit_rd_other _ h]
  · rfl

/-- The rates' angles and periods start again. -/
def RxState.sopRestart (r : RxState) : RxState :=
  { r with cr := r.cr.map (fun e => (e.1, { e.2 with angle := 0, periods := 0 })) }

/-- 21.051 takes the rates one by one. -/
def State.sopShow (s : State) (c : Carrier) (rate : Nat → Nat) : State :=
  (List.range 32).foldl (fun s k => s.wr (K.sopRate c k) (rate k : Nat)) s

/-- An update shows the rates, then their peak, then the alarm. -/
theorem sopRateUpdate_eq {c : Carrier} {s : State} (hc : s.present c = true) :
    sopRateUpdate c s =
      (((s.modRx c RxState.sopRestart).sopShow c (s.sopReported c)).wr (K.sopRatePeak c)
        (((List.range 32).map (s.sopReported c)).foldl max
          (((s.modRx c RxState.sopRestart).sopShow c (s.sopReported c)).rdN (K.sopRatePeak c)) : Nat)).sopAlarm c
        ((List.range 32).map (s.sopReported c)) := by
  unfold sopRateUpdate State.sopShow
  rw [when_true hc]
  dsimp only
  rw [sopRates_eq, ← List.map_prod_right_eq_zip, List.foldl_map]
  unfold State.sopAlarm
  rw [← List.map_prod_right_eq_zip]
  rfl

theorem sopRateUpdate_next (c : Carrier) (s : State) (hc : s.present c = true) :
    ∃ t, exec (.sopRateUpdate c) s = .next t ∧
      (∀ k : Nat, k < 32 → t.rd (K.sopRate c k) =
        (if phSettle ≤ s.rd (K.acqPhase c) ∧ k < s.subs c then min (s.sopMeasured c k) 100000 else 0 : Nat)) ∧
      t.rd (K.sopRatePeak c) = ((s.sopRates c ((List.range 32).map (s.sopMeasured c))).foldl max (s.rdN (K.sopRatePeak c)) : Nat) := by
  refine ⟨_, rfl, ?_⟩
  rw [sopRateUpdate_eq hc, sopRates_eq]
  refine ⟨fun k hk => ?_, ?_⟩
  · rw [sopAlarm_rd _ _ (by simp), State.rd_wr_other _ _ (by simp), State.sopShow,
      foldl_wr_rd_mem (key := K.sopRate c) _ (by simp) (List.mem_range.2 hk), State.sopReported, nth_range_map hk]
  · have peak : ((s.modRx c RxState.sopRestart).sopShow c (s.sopReported c)).rd (K.sopRatePeak c) = s.rd (K.sopRatePeak c) := by
      rw [State.sopShow, foldl_wr_rd_other (key := K.sopRate c) _ (by simp), modRx_rd]
    rw [sopAlarm_rd _ _ (by simp), State.rd_wr_same, State.rdN, peak]
    rfl

theorem rxSopNormal_next (c : Carrier) (s : State) (hc : s.present c = true) (hb : bitOf (s.rdN (K.rxStatus c)) 3 = true)
    (ha : (List.range 32).all (fun k => s.rd (K.sopRate c k) < s.rd (K.sopAlarmRate c)) = true) :
    ∃ t, exec (.rxSopNormal c) s = .next t ∧ bitOf (t.rdN (K.rxStatus c)) 3 = false := by
  refine ⟨_, rfl, ?_⟩
  rw [when_true (by rw [hc, hb, ha]; rfl), raise_rdN, rxStatusBit_rdN, bitOf_setBit_same]

theorem sopPeakClear_next (src : Nat) (c : Carrier) (s : State) (ha : s.accepts src (K.sopPeakClear c)) :
    ∃ t, exec (.sopPeakClear src c) s = .next t ∧ t.answered src .ok ∧ t.rd (K.sopRatePeak c) = 0 := by
  refine ⟨_, rfl, ?_⟩
  rw [request_accepted s src ha]
  exact ⟨ack_answered .., by rw [State.ack_rd, State.rd_wr_same]⟩

/-! ### Stage 7 at a pilot (03 R106 to R110) -/

/-- What waits for stage 7 of sub-carrier k, the position of its first symbol, and the pilots held. -/
def RxState.stage7 (r : RxState) (k : Nat) : List Pol × Nat × List PilotRec :=
  (aget r.eqOut k [], aget r.outPos k 0, (aget r.cr k CrState.reset).pilots)

/-- The release of a group keeps what waits, and the pilots. -/
theorem release_stage7 (r : RxState) (k w : Nat) : (r.release k w).stage7 k = r.stage7 k := by
  unfold RxState.release
  dsimp only
  split
  · rfl
  · split <;> simp [RxState.stage7, aget_aput, RxState.addPilotErr]

theorem iter_release_stage7 (k w n : Nat) (r : RxState) : (iter (fun r => RxState.release r k w) n r).stage7 k = r.stage7 k := by
  induction n generalizing r with
  | zero => rfl
  | succ n ih => exact (ih _).trans (release_stage7 r k w)

theorem rotatorLoop_stage7 (s : State) (c : Carrier) (k : Nat) (y d : Pol) :
    ((s.rotatorLoop c k y d).car c).rx.stage7 k = (s.car c).rx.stage7 k := by
  simp [State.rotatorLoop, RxState.stage7, aget_aput]

theorem rotatorLoop_cma (s : State) (c : Carrier) (k : Nat) (y d : Pol) : ((s.rotatorLoop c k y d).car c).rx.cma = (s.car c).rx.cma := by
  simp [State.rotatorLoop]

theorem commonReport_car (s : State) (c d : Carrier) : (s.commonReport c).car d = s.car d := by
  unfold State.commonReport State.setCommon
  dsimp only
  split <;> simp

/-- The frequency loops move neither what waits for stage 7 nor the pilots. -/
theorem freqLoops_stage7 (s : State) (c : Carrier) (k : Nat) (before : Option Rat) :
    ((s.freqLoops c k before).car c).rx.stage7 k = (s.car c).rx.stage7 k := by
  unfold State.freqLoops
  split
  · rw [commonReport_car]
    simp [State.commonLoop, RxState.stage7, aget_aput]
  · rfl

/-- At the next known symbol, n symbols on, stage 7 takes n symbols and holds that symbol and what it should be. -/
theorem pilotStep_stage7 {s : State} {c : Carrier} {k n : Nat}
    (hn : toPilot (s.car c).rx.cma (aget (s.car c).rx.outPos k 0) (aget (s.car c).rx.eqOut k []).length = some n) :
    ((s.pilotStep c k).car c).rx.stage7 k =
      ((aget (s.car c).rx.eqOut k []).drop n, (aget (s.car c).rx.outPos k 0 + n) % frameSpan (s.car c).rx.cma,
        (⟨pilotSymbol (s.car c).rx.cma k ((aget (s.car c).rx.outPos k 0 + n - 1) % frameSpan (s.car c).rx.cma),
          nth (aget (s.car c).rx.eqOut k []) (n - 1) Pol.zero⟩ :: (aget (s.car c).rx.cr k CrState.reset).pilots).take 24) := by
  unfold State.pilotStep
  simp only [hn]
  rw [freqLoops_stage7, modRx_rx, iter_release_stage7]
  have turned := rotatorLoop_stage7 s c k
  simp only [RxState.stage7, Prod.mk.injEq] at turned
  simp [RxState.stage7, aget_aput, turned, rotatorLoop_cma]

theorem rxPilotUpdate_next (c : Carrier) (k n : Nat) (s : State) (hc : s.present c = true) (he : s.emitting c = true) (hk : k < s.subs c)
    (hn : toPilot (s.car c).rx.cma (aget (s.car c).rx.outPos k 0) (aget (s.car c).rx.eqOut k []).length = some n) :
    ∃ t, exec (.rxPilotUpdate c k) s = .next t ∧
      aget (t.car c).rx.eqOut k [] = (aget (s.car c).rx.eqOut k []).drop n ∧
      aget (t.car c).rx.outPos k 0 = (aget (s.car c).rx.outPos k 0 + n) % frameSpan (s.car c).rx.cma ∧
      (aget (t.car c).rx.cr k CrState.reset).pilots.head? =
        some ⟨pilotSymbol (s.car c).rx.cma k ((aget (s.car c).rx.outPos k 0 + n - 1) % frameSpan (s.car c).rx.cma),
          nth (aget (s.car c).rx.eqOut k []) (n - 1) Pol.zero⟩ := by
  refine ⟨_, rfl, ?_⟩
  unfold rxPilotUpdate
  rw [when_true (by simp [hc, he, hk])]
  obtain ⟨waits, pos, pilots⟩ : _ ∧ _ ∧ _ := by simpa only [RxState.stage7, Prod.mk.injEq] using pilotStep_stage7 hn
  exact ⟨waits, pos, by rw [pilots]; rfl⟩

/-! ### The move to HOLD (04 R138, R139) -/

theorem fecStop_rd (s : State) (c : Carrier) (e i : Nat) : (s.fecStop c).rd ⟨0x22 + c.off, e, i⟩ = s.rd ⟨0x22 + c.off, e, i⟩ :=
  (State.fecStop_leads s c (covers_refl _) (Leads.refl _ s)).rd_eq _ (by cases c <;> rfl)

theorem hostFollow_rd (s : State) (c : Carrier) {k : Key} (h : k.area ≠ 0x11) : (s.hostFollow c).rd k = s.rd k :=
  (State.hostFollow_leads s c (covers_refl _) (Leads.refl _ s)).rd_eq k (by simp [Part.within, h])

/-- A cause that occurs in LOCKED, with a hold time set, moves to HOLD and is the only one recorded. -/
theorem lossCause_locked {s : State} {c : Carrier} (bit : Nat) (hl : s.rd (K.acqPhase c) = phLocked) (hh : s.rd (K.lolHold c) ≠ 0) :
    (s.lossCause c bit).rd (K.acqPhase c) = phHold ∧ (s.lossCause c bit).rd (K.lolCause c) = (setBit 0 bit true : Nat) := by
  have held : ∀ e i, (((((s.lolCause c bit true).setPhase c phHold).raise Ev.acqHold (K.lolCause c)).modRx c
      (fun r => { r with fawPass := 0 })).fecStop c).rd ⟨0x22 + c.off, e, i⟩ =
      (((s.wr (K.lolCause c) (setBit 0 bit true : Nat)).wr (K.acqPhase c) phHold)).rd ⟨0x22 + c.off, e, i⟩ := by
    intro e i
    rw [fecStop_rd, modRx_rd, State.raise_rd, State.setPhase, hostFollow_rd _ _ (by cases c <;> simp [Carrier.off])]
    rfl
  unfold State.lossCause
  rw [if_pos hl]
  dsimp only
  rw [if_neg (by rw [held]; simpa [wr_rd] using hh)]
  exact ⟨by rw [held, State.rd_wr_same], by rw [held, State.rd_wr_other _ _ (by simp), State.rd_wr_same]⟩

theorem crLimitHoldExpiry_next (c : Carrier) (s : State) (hc : s.present c = true) (hl : (s.car c).rx.crLimit = true)
    (hp : s.rd (K.acqPhase c) = phLocked) (hh : s.rd (K.lolHold c) ≠ 0) :
    ∃ t, exec (.crLimitHoldExpiry c) s = .next t ∧ t.rd (K.acqPhase c) = phHold ∧ t.rd (K.lolCause c) = 8 := by
  refine ⟨_, rfl, ?_⟩
  rw [when_true (by simp [hc, hl])]
  exact lossCause_locked 3 hp hh

/-- Settles O3: each clause is what its command's lemma above says. -/
theorem receiverFrontEndComplete : Obligations.ReceiverFrontEndComplete :=
  ⟨feIlvWindow_next, feIlvWindow_kept, feIqWindow_next, rxTimingLock_next, rxTimingUnlock_next, sopRateUpdate_next, rxSopNormal_next,
   sopPeakClear_next, rxPilotUpdate_next, crLimitHoldExpiry_next⟩

end Sys2Proof.Machine
end

section
/-! SUPPORT. The equaliser of the line receiver (03 R100 to R105): its block boundary, resets, recovery and tap shift, and the obligation
about them. -/

namespace Sys2Proof.Machine

/-! ### BLOBs after the basic updates -/

@[simp] theorem modRx_blob (s : State) (c : Carrier) (f : RxState → RxState) (k : Key) : (s.modRx c f).blob k = s.blob k := by
  simp only [State.blob, State.modRx_blobs]

@[simp] theorem raise_blob (s : State) (code : Nat) (j k : Key) : (s.raise code j).blob k = s.blob k := rfl

@[simp] theorem wr_blob (s : State) (j : Key) (v : Int) (k : Key) : (s.wr j v).blob k = s.blob k := rfl

@[simp] theorem rxStatusBit_blob (s : State) (c : Carrier) (b : Nat) (v : Bool) (k : Key) : (s.rxStatusBit c b v).blob k = s.blob k := rfl

theorem Leads.blob_eq {ps : List Part} {s t : State} (h : Leads ps s t) (hk : Part.within ps .blobs = false) (k : Key) :
    t.blob k = s.blob k := by
  rw [State.blob, h.1.2 .blobs hk, State.blob]

@[simp] theorem bump_blob (s : State) (j k : Key) : (s.bump j).blob k = s.blob k :=
  (State.bump_leads s j (covers_refl _) (Leads.refl _ s)).blob_eq rfl k

@[simp] theorem setBlob_car (s : State) (k : Key) (bs : List Byte) (c : Carrier) : (s.setBlob k bs).car c = s.car c := by
  cases c <;> rfl

/-! ### The block boundary (03 R102 to R104; 01 R34) -/

/-- A reset of sub-carrier k that waits is made. -/
def State.eqReset (s : State) (c : Carrier) (k : Nat) : State :=
  if (s.car c).rx.reinit.contains k then
    (s.resetTaps c k).modRx c (fun r => { r with reinit := r.reinit.filter (· ≠ k) })
  else s

/-- Once frame alignment is found, CMA ends. -/
def State.eqAlign (s : State) (c : Carrier) : State :=
  if (s.car c).rx.cma && phLocked ≤ s.rd (K.acqPhase c) then
    (s.modRx c (fun r => { r.dropFrames with cma := false })).rxStatusBit c 4 true
  else s

/-- At a block boundary the block ends, then a waiting reset is made, then waiting lines take effect, then CMA ends. -/
theorem eqBlockUpdate_eq {c : Carrier} {k : Nat} {s : State} (hc : s.present c = true) (he : s.emitting c = true) (hk : k < s.subs c) :
    eqBlockUpdate c k s = (((s.eqBlock c k).eqReset c k).coefBoundary c k).eqAlign c := by
  unfold eqBlockUpdate
  rw [when_true (by simp [hc, he, hk])]
  rfl

theorem eqAlign_blob (s : State) (c : Carrier) (k : Key) : (s.eqAlign c).blob k = s.blob k := by
  unfold State.eqAlign
  split <;> simp

theorem eqAlign_reinit (s : State) (c : Carrier) : ((s.eqAlign c).car c).rx.reinit = (s.car c).rx.reinit := by
  unfold State.eqAlign
  split <;> simp [RxState.dropFrames]

/-- From LOCKED on, a boundary in CMA ends it and shows so in bit 4 of 21.001. -/
theorem eqAlign_aligned {s : State} {c : Carrier} (hm : (s.car c).rx.cma = true) (hp : phLocked ≤ s.rd (K.acqPhase c)) :
    ((s.eqAlign c).car c).rx.cma = false ∧ bitOf ((s.eqAlign c).rdN (K.rxStatus c)) 4 = true := by
  unfold State.eqAlign
  rw [if_pos (by simp [hm, hp]), rxStatusBit_rdN, bitOf_setBit_same]
  simp

theorem eqReset_idle {s : State} {c : Carrier} {k : Nat} (h : (s.car c).rx.reinit.contains k = false) : s.eqReset c k = s :=
  if_neg (by rw [h]; exact Bool.false_ne_true)

/-- A reset leaves a centre spike, and is done. -/
theorem eqReset_made {s : State} {c : Carrier} {k : Nat} (h : (s.car c).rx.reinit.contains k = true) :
    (s.eqReset c k).blob (K.eqTaps c k) = centreSpike ∧ ((s.eqReset c k).car c).rx.reinit.contains k = false := by
  unfold State.eqReset State.resetTaps
  rw [if_pos h]
  simp

theorem eqReset_coefDue (s : State) (c : Carrier) (k : Nat) : ((s.eqReset c k).car c).rx.coefDue = (s.car c).rx.coefDue := by
  unfold State.eqReset State.resetTaps
  split <;> simp

theorem eqReset_cma (s : State) (c : Carrier) (k : Nat) : ((s.eqReset c k).car c).rx.cma = (s.car c).rx.cma := by
  unfold State.eqReset State.resetTaps
  split <;> simp

theorem eqReset_rd (s : State) (c : Carrier) (k : Nat) (j : Key) : (s.eqReset c k).rd j = s.rd j := by
  unfold State.eqReset State.resetTaps
  split <;> simp

/-- Without a written line the boundary leaves the taps and the waiting resets alone. -/
theorem coefBoundary_idle {s : State} {c : Carrier} (k : Nat) (h : (s.car c).rx.coefDue = []) :
    (∀ j, (s.coefBoundary c k).blob j = s.blob j) ∧ ((s.coefBoundary c k).car c).rx.reinit = (s.car c).rx.reinit := by
  unfold State.coefBoundary
  rw [h]
  simp

theorem coefApply_cma (s : State) (c : Carrier) (line v : Nat) : ((s.coefApply c line v).car c).rx.cma = (s.car c).rx.cma := by
  have hold : ((s.coefHold c line v).car c).rx.cma = (s.car c).rx.cma := by cases c <;> rfl
  unfold State.coefApply
  dsimp only
  split
  case h_1 =>
    split
    · rw [setBlob_car]
    · split
      · rw [modRx_rx]
      · split
        · exact hold
        · rw [modRx_rx, wr_car]
  case h_2 => exact hold

theorem coefBoundary_cma (s : State) (c : Carrier) (k : Nat) : ((s.coefBoundary c k).car c).rx.cma = (s.car c).rx.cma := by
  unfold State.coefBoundary
  dsimp only
  generalize (s.car c).rx.coefDue.filter _ = due
  have applied := foldl_reading_other (l := due) (read := fun u : State => (u.car c).rx.cma) (fun u e _ => coefApply_cma u c e.1 e.2)
  exact (applied _).trans (by rw [modRx_rx])

theorem coefBoundary_acqPhase (s : State) (c : Carrier) (k : Nat) : (s.coefBoundary c k).rd (K.acqPhase c) = s.rd (K.acqPhase c) :=
  (State.coefBoundary_leads s c k (covers_refl _) (Leads.refl _ s)).rd_eq _ (by cases c <;> rfl)

/-- What an equaliser block leaves of the receiver: waiting resets, waiting lines and the adaptation's input. -/
theorem eqBlock_rx (s : State) (c : Carrier) (k : Nat) :
    ((s.eqBlock c k).car c).rx.reinit = (s.car c).rx.reinit ∧ ((s.eqBlock c k).car c).rx.coefDue = (s.car c).rx.coefDue ∧
    ((s.eqBlock c k).car c).rx.cma = (s.car c).rx.cma := by
  unfold State.eqBlock
  dsimp only
  rw [modRx_rx]
  split <;> simp

theorem eqBlock_acqPhase (s : State) (c : Carrier) (k : Nat) : (s.eqBlock c k).rd (K.acqPhase c) = s.rd (K.acqPhase c) :=
  (State.eqBlock_leads s c k (covers_refl _) (Leads.refl _ s)).rd_eq _ (by cases c <;> rfl)

/-- Adaptation that is frozen moves no tap. -/
theorem eqBlock_frozen {s : State} {c : Carrier} (k : Nat) (h : s.on (K.eqFreeze c) = true) (j : Key) :
    (s.eqBlock c k).blob j = s.blob j := by
  unfold State.eqBlock
  dsimp only
  rw [modRx_blob, if_pos (by simp [h])]

theorem eqBlockUpdate_reset (c : Carrier) (k : Nat) (s : State) (hc : s.present c = true) (he : s.emitting c = true) (hk : k < s.subs c)
    (hr : (s.car c).rx.reinit.contains k = true) (hd : (s.car c).rx.coefDue = []) :
    ∃ t, exec (.eqBlockUpdate c k) s = .next t ∧ t.blob (K.eqTaps c k) = centreSpike ∧ (t.car c).rx.reinit.contains k = false := by
  refine ⟨_, rfl, ?_⟩
  obtain ⟨waits, lines, -⟩ := eqBlock_rx s c k
  obtain ⟨taps, done⟩ := eqReset_made (k := k) (s := s.eqBlock c k) (c := c) (by rwa [waits])
  obtain ⟨blobs, resets⟩ := coefBoundary_idle (s := (s.eqBlock c k).eqReset c k) (c := c) k (by rw [eqReset_coefDue, lines, hd])
  rw [eqBlockUpdate_eq hc he hk, eqAlign_blob, eqAlign_reinit, blobs, resets]
  exact ⟨taps, done⟩

theorem eqBlockUpdate_adapts (c : Carrier) (k : Nat) (s : State) (hc : s.present c = true) (he : s.emitting c = true) (hk : k < s.subs c)
    (hr : (s.car c).rx.reinit.contains k = false) (hd : (s.car c).rx.coefDue = []) :
    ∃ t, exec (.eqBlockUpdate c k) s = .next t ∧ t.blob (K.eqTaps c k) = (s.eqBlock c k).blob (K.eqTaps c k) ∧
      (s.on (K.eqFreeze c) = true → t.blob (K.eqTaps c k) = s.blob (K.eqTaps c k)) := by
  refine ⟨_, rfl, ?_⟩
  obtain ⟨waits, lines, -⟩ := eqBlock_rx s c k
  obtain ⟨blobs, -⟩ := coefBoundary_idle (s := s.eqBlock c k) (c := c) k (by rw [lines, hd])
  rw [eqBlockUpdate_eq hc he hk, eqAlign_blob, eqReset_idle (by rwa [waits]), blobs]
  exact ⟨rfl, fun frozen => eqBlock_frozen k frozen _⟩

theorem eqBlockUpdate_aligns (c : Carrier) (k : Nat) (s : State) (hc : s.present c = true) (he : s.emitting c = true) (hk : k < s.subs c)
    (hm : (s.car c).rx.cma = true) (hp : phLocked ≤ s.rd (K.acqPhase c)) :
    ∃ t, exec (.eqBlockUpdate c k) s = .next t ∧ (t.car c).rx.cma = false ∧ bitOf (t.rdN (K.rxStatus c)) 4 = true := by
  refine ⟨_, rfl, ?_⟩
  obtain ⟨-, -, cma⟩ := eqBlock_rx s c k
  rw [eqBlockUpdate_eq hc he hk]
  exact eqAlign_aligned (by rw [coefBoundary_cma, eqReset_cma, cma, hm]) (by rwa [coefBoundary_acqPhase, eqReset_rd, eqBlock_acqPhase])

/-! ### Recovery and resets (03 R103, R104) -/

theorem rxEqSingular_next (c : Carrier) (k : Nat) (s : State) (hc : s.present c = true) (hm : (s.car c).rx.cma = true)
    (hr : 4 ≤ aget (s.car c).rx.singRun k 0) :
    ∃ t, exec (.rxEqSingular c k) s = .next t ∧
      t.blob (K.eqTaps c k) = orthogonalTaps (s.blob (K.eqTaps c k)) ∧
      t.rd (K.eqSingularCount c k) = (min (s.rdN (K.eqSingularCount c k) + 1) max48 : Nat) := by
  refine ⟨_, rfl, ?_⟩
  rw [when_true (by simp [hc, hm, hr])]
  simp [bump_rd, State.rdN]

theorem eqReinit_next (src : Nat) (c : Carrier) (v : Int) (s : State) (ha : s.accepts src (K.eqReinit c)) :
    ∃ t, exec (.eqReinit src c v) s = .next t ∧ t.answered src .ok ∧
      (∀ k : Nat, k < 32 → (clampKey (K.eqReinit c) v = k ∨ clampKey (K.eqReinit c) v = 32) →
        (t.car c).rx.reinit.contains k = true) := by
  refine ⟨_, rfl, ?_⟩
  rw [request_accepted s src ha]
  refine ⟨ack_answered .., fun k hk named => ?_⟩
  dsimp only
  rw [ack_car, modRx_rx]
  rcases named with one | all
  · rw [one, Int.toNat_natCast, if_neg (by omega)]
    split
    case isTrue waits => exact waits
    case isFalse => simp
  · rw [all]
    simp [hk]

/-! ### The tap shift (03 R100, R105; 04 R138) -/

/-- The deskew after a shift: it follows the input pointer in whole periods. -/
def State.shiftedDeskew (s : State) (c : Carrier) (k : Nat) : Int :=
  s.rd (K.scDeskew c k) + (aget (s.car c).rx.inPtr k 0 + (if (aget (s.car c).rx.shiftRun k (0, true)).2 then 1 else -1)) / 2
    - aget (s.car c).rx.inPtr k 0 / 2

theorem eqTapShift_within {c : Carrier} {k : Nat} {s : State} (hc : s.present c = true)
    (hr : 8 ≤ (aget (s.car c).rx.shiftRun k (0, true)).1) (hlo : -128 ≤ s.shiftedDeskew c k) (hhi : s.shiftedDeskew c k ≤ 128) :
    eqTapShift c k s =
      (((s.setBlob (K.eqTaps c k) (shiftTaps (s.blob (K.eqTaps c k)) (aget (s.car c).rx.shiftRun k (0, true)).2)).modRx c (fun r => { r with
        shiftRun := adel r.shiftRun k
        inPtr := aput r.inPtr k (aget (s.car c).rx.inPtr k 0 + (if (aget (s.car c).rx.shiftRun k (0, true)).2 then 1 else -1)) })).wr
        (K.scDeskew c k) (s.shiftedDeskew c k)).bump (K.eqShiftCount c k) := by
  unfold eqTapShift
  dsimp only
  rw [when_true (by simp [hc, hr])]
  have inside : (decide (s.shiftedDeskew c k < -128) || decide (128 < s.shiftedDeskew c k)) = false := by simp [hlo, hhi]
  exact if_neg (Bool.eq_false_iff.1 inside)

theorem eqTapShift_past {c : Carrier} {k : Nat} {s : State} (hc : s.present c = true)
    (hr : 8 ≤ (aget (s.car c).rx.shiftRun k (0, true)).1) (hd : s.shiftedDeskew c k < -128 ∨ 128 < s.shiftedDeskew c k) :
    eqTapShift c k s = (s.modRx c (fun r => { r with shiftRun := adel r.shiftRun k })).deskewLimit c k := by
  unfold eqTapShift
  dsimp only
  rw [when_true (by simp [hc, hr])]
  have past : (decide (s.shiftedDeskew c k < -128) || decide (128 < s.shiftedDeskew c k)) = true := by simpa using hd
  exact if_pos past

theorem eqTapShift_next (c : Carrier) (k : Nat) (dsk : Int) (s : State) (hc : s.present c = true)
    (hr : (8 : Nat) ≤ (aget (s.car c).rx.shiftRun k (0, true)).1) (hd : dsk = s.shiftedDeskew c k) (hlo : (-128 : Int) ≤ dsk)
    (hhi : dsk ≤ (128 : Int)) :
    ∃ t, exec (.eqTapShift c k) s = .next t ∧
      t.blob (K.eqTaps c k) = shiftTaps (s.blob (K.eqTaps c k)) (aget (s.car c).rx.shiftRun k (0, true)).2 ∧
      (aget (t.car c).rx.inPtr k 0 = aget (s.car c).rx.inPtr k 0 + (if (aget (s.car c).rx.shiftRun k (0, true)).2 then 1 else -1)) ∧
      t.rd (K.scDeskew c k) = dsk ∧
      t.rd (K.eqShiftCount c k) = (min (s.rdN (K.eqShiftCount c k) + 1) max48 : Nat) := by
  subst hd
  refine ⟨_, rfl, ?_⟩
  rw [eqTapShift_within hc hr hlo hhi]
  simp [bump_rd, wr_rd, State.rdN, aget_aput]

theorem finalLoss_rd_rx (s : State) (c : Carrier) (e i : Nat) :
    (s.finalLoss c).rd ⟨0x21 + c.off, e, i⟩ = s.rd ⟨0x21 + c.off, e, i⟩ :=
  (State.finalLoss_leads s c (covers_refl _) (Leads.refl _ s)).rd_eq _ (by cases c <;> rfl)

theorem fecStop_rd_rx (s : State) (c : Carrier) (e i : Nat) : (s.fecStop c).rd ⟨0x21 + c.off, e, i⟩ = s.rd ⟨0x21 + c.off, e, i⟩ :=
  (State.fecStop_leads s c (covers_refl _) (Leads.refl _ s)).rd_eq _ (by cases c <;> rfl)

theorem setPhase_rd_rx (s : State) (c : Carrier) (p : Int) (e i : Nat) :
    (s.setPhase c p).rd ⟨0x21 + c.off, e, i⟩ = s.rd ⟨0x21 + c.off, e, i⟩ := by
  rw [State.setPhase, hostFollow_rd _ _ (by cases c <;> simp [Carrier.off]), State.rd_wr_other _ _ (by simp)]

@[simp] theorem modRx_rdN (s : State) (c : Carrier) (f : RxState → RxState) (k : Key) : (s.modRx c f).rdN k = s.rdN k := by
  simp only [State.rdN, modRx_rd]

/-- On the way into HUNT bits 2 and 4 of 21.001 clear, and no other moves. -/
theorem toHunt_rxStatus (s : State) (c : Carrier) :
    (s.toHunt c).rdN (K.rxStatus c) = setBit (setBit (s.rdN (K.rxStatus c)) 2 false) 4 false := by
  unfold State.toHunt State.toCma State.zeroCommon State.setCommon
  rw [rxStatusBit_rdN, modRx_rdN, modRx_rdN, rxStatusBit_rdN, State.rdN, State.rd_wr_other _ _ (by simp), State.rd_wr_other _ _ (by simp),
    modRx_rd, setPhase_rd_rx]
  rfl

/-- A loss-of-lock cause leaves bit 1 of 21.001 as it is. -/
theorem lossCause_status_deskew (s : State) (c : Carrier) (bit : Nat) :
    bitOf ((s.lossCause c bit).rdN (K.rxStatus c)) 1 = bitOf (s.rdN (K.rxStatus c)) 1 := by
  have noted : ∀ fresh, (s.lolCause c bit fresh).rd (K.rxStatus c) = s.rd (K.rxStatus c) := fun _ => State.rd_wr_other _ _ (by simp)
  have held : (((((s.lolCause c bit true).setPhase c phHold).raise Ev.acqHold (K.lolCause c)).modRx c
      (fun r => { r with fawPass := 0 })).fecStop c).rd (K.rxStatus c) = s.rd (K.rxStatus c) := by
    rw [fecStop_rd_rx, modRx_rd, State.raise_rd, setPhase_rd_rx, noted]
  unfold State.lossCause
  dsimp only
  split_ifs
  · rw [State.holdLost, toHunt_rxStatus, bitOf_setBit_other _ _ (by decide), bitOf_setBit_other _ _ (by decide), State.rdN, finalLoss_rd_rx,
      State.lolEvent, State.raise_rd, bump_rd, if_neg (by simp), held]
    rfl
  · rw [State.rdN, held]
    rfl
  · rw [State.rdN, noted]
    rfl
  · rfl

/-- A shift that would take the deskew past 128 shows the limit and counts nothing. -/
theorem eqTapShift_limit (c : Carrier) (k : Nat) (s : State) (hc : s.present c = true)
    (hr : (8 : Nat) ≤ (aget (s.car c).rx.shiftRun k (0, true)).1) (hd : s.shiftedDeskew c k = 129 ∨ s.shiftedDeskew c k = -129) :
    ∃ t, exec (.eqTapShift c k) s = .next t ∧ bitOf (t.rdN (K.rxStatus c)) 1 = false ∧
      t.rd (K.eqShiftCount c k) = s.rd (K.eqShiftCount c k) := by
  refine ⟨_, rfl, ?_⟩
  rw [eqTapShift_past hc hr (by omega)]
  unfold State.deskewLimit
  refine ⟨?_, ?_⟩
  · rw [lossCause_status_deskew, raise_rdN, rxStatusBit_rdN, bitOf_setBit_same]
  · rw [lossCause_rd_rx _ c _ _ _ (by decide), State.raise_rd, rxStatusBit_rd_other _ (by simp), modRx_rd]

/-- Settles O4: each clause is what its command's lemma above says. -/
theorem equaliserComplete : Obligations.EqualiserComplete :=
  ⟨eqBlockUpdate_reset, eqBlockUpdate_adapts, eqBlockUpdate_aligns, rxEqSingular_next, eqReinit_next, eqTapShift_next, eqTapShift_limit⟩

end Sys2Proof.Machine
end

section
/-! SUPPORT. Dispersion compensation (03 R87 to R95; 04 R142): sheets, fades, the search and its result's edition, and the obligation about
them. -/

namespace Sys2Proof.Machine

/-! ### Sheets -/

@[simp] theorem cdStatus_car (s : State) (c d : Carrier) : (s.cdStatus c).car d = s.car d := by
  simp [State.cdStatus]

theorem cdStatus_rd_other (s : State) {c : Carrier} {k : Key} (hs : k ≠ K.cdSheetState c) (hr : k ≠ K.rxStatus c) :
    (s.cdStatus c).rd k = s.rd k := by
  unfold State.cdStatus
  rw [rxStatusBit_rd_other _ hr, rxStatusBit_rd_other _ hr, State.rd_wr_other _ _ hs]

/-- The active sheet and the fade that runs. -/
def RxState.filter (r : RxState) : Nat × Option (Nat × Nat × CdVals × CdVals) := (r.active, r.fade)

theorem setInactive_filter (r : RxState) (sh : Sheet) : (r.setInactive sh).filter = r.filter := by
  unfold RxState.setInactive
  split <;> rfl

theorem compute_filter (r : RxState) (v : CdVals) (ed : Option Nat) : (r.compute v ed).filter = r.filter :=
  setInactive_filter r ⟨v, false⟩

/-- The generator completes the inactive sheet with the values it has. -/
theorem setInactive_inactive (r : RxState) (sh : Sheet) : (r.setInactive sh).inactive = sh := by
  by_cases h : r.active = 0
  · simp [RxState.setInactive, RxState.inactive, RxState.sheet, h]
  · have other : 1 - r.active = 0 := by omega
    simp [RxState.setInactive, RxState.inactive, RxState.sheet, h, other]

theorem takeUp_filter (s : State) (c : Carrier) (v : CdVals) (release : Bool) :
    ((s.takeUp c v release).car c).rx.filter = (s.car c).rx.filter := by
  unfold State.takeUp
  rw [cdStatus_car, modRx_rx]
  dsimp only
  split
  · rfl
  · rw [compute_filter]
    rfl

theorem releaseQueue_filter (s : State) (c : Carrier) : ((s.releaseQueue c).car c).rx.filter = (s.car c).rx.filter := by
  unfold State.releaseQueue
  split
  · rw [takeUp_filter, modRx_rx]
    rfl
  · rw [cdStatus_car]

theorem prepareSheet_filter (s : State) (c : Carrier) : ((s.prepareSheet c).car c).rx.filter = (s.car c).rx.filter := by
  unfold State.prepareSheet
  dsimp only
  split
  · rfl
  · split
    · rfl
    · split_ifs
      · rfl
      · rw [modRx_rx]
        rfl
      · rw [cdStatus_car, modRx_rx, compute_filter]

theorem releaseQueue_cdApplied (s : State) (c : Carrier) : (s.releaseQueue c).rd (K.cdApplied c) = s.rd (K.cdApplied c) :=
  (State.releaseQueue_leads s c (covers_refl _) (Leads.refl _ s)).rd_eq _ (by cases c <;> rfl)

theorem prepareSheet_cdApplied (s : State) (c : Carrier) : (s.prepareSheet c).rd (K.cdApplied c) = s.rd (K.cdApplied c) :=
  (State.prepareSheet_leads s c (covers_refl _) (Leads.refl _ s)).rd_eq _ (by cases c <;> rfl)

/-- The incoming sheet is active, no fade runs, and the dispersion applied is its own. -/
theorem activate_effect (s : State) (c : Carrier) (v : CdVals) :
    ((s.activate c v).car c).rx.filter = (1 - (s.car c).rx.active, none) ∧ (s.activate c v).rd (K.cdApplied c) = v.d := by
  simp [State.activate, RxState.filter, wr_rd]

theorem fadeDone_effect (s : State) (c : Carrier) (v : CdVals) :
    ((s.fadeDone c v).car c).rx.filter = (1 - (s.car c).rx.active, none) ∧ (s.fadeDone c v).rd (K.cdApplied c) = v.d := by
  unfold State.fadeDone
  rw [prepareSheet_filter, releaseQueue_filter, raise_car, prepareSheet_cdApplied, releaseQueue_cdApplied, State.raise_rd]
  exact activate_effect s c v

/-! ### Sheet, fade and swap commands (03 R88 to R91) -/

theorem cdSheetReady_next (c : Carrier) (s : State) (hc : s.present c = true) (hp : (s.car c).rx.computing = true) :
    ∃ t, exec (.cdSheetReady c) s = .next t ∧
      (t.car c).rx.inactive = (⟨(s.car c).rx.inactive.vals, true⟩ : Sheet) ∧ (t.car c).rx.computing = false := by
  refine ⟨_, rfl, ?_⟩
  rw [when_true (by simp [hc, hp]), cdStatus_car, modRx_rx]
  exact ⟨setInactive_inactive _ _, rfl⟩

/-- During a fade 21.015 shows the blend of its block. -/
theorem fadeShow_effect {s : State} {c : Carrier} {b n : Nat} {v0 v1 : CdVals} (hf : (s.car c).rx.fade = some (b, n, v0, v1)) :
    ((s.fadeShow c).car c).rx = (s.car c).rx ∧
    (s.fadeShow c).rd (K.cdApplied c) = openDiv (v0.d * n + b * (v1.d - v0.d)) n := by
  unfold State.fadeShow
  rw [hf]
  dsimp only
  rw [cdStatus_car, cdStatus_rd_other _ (by simp) (by simp)]
  simp [wr_rd]

theorem cdFadeStart_next (c : Carrier) (v : CdVals) (s : State) (hv : (s.car c).rx.readySwap = some v) (hc : s.present c = true)
    (he : s.emitting c = true) :
    ∃ t, exec (.cdFadeStart c) s = .next t ∧
      (t.car c).rx.fade = some (1, s.rdN (K.cdFadeBlocks c), ((s.car c).rx.sheet (s.car c).rx.active).vals, v) ∧
      (t.car c).rx.pendSwap = none ∧
      t.rd (K.cdApplied c) = openDiv (((s.car c).rx.sheet (s.car c).rx.active).vals.d * (s.rdN (K.cdFadeBlocks c) : Nat) +
        (v.d - ((s.car c).rx.sheet (s.car c).rx.active).vals.d)) (s.rdN (K.cdFadeBlocks c)) := by
  refine ⟨_, rfl, ?_⟩
  unfold cdFadeStart
  rw [hv]
  dsimp only
  rw [when_true (by simp [hc, he])]
  obtain ⟨rx, applied⟩ := fadeShow_effect (c := c) (b := 1) (n := s.rdN (K.cdFadeBlocks c))
    (v0 := ((s.car c).rx.sheet (s.car c).rx.active).vals) (v1 := v) (s := s.modRx c (fun r => { r with
      fade := some (1, s.rdN (K.cdFadeBlocks c), (r.sheet r.active).vals, v), pendSwap := none, prepFor := none })) (by rw [modRx_rx])
  refine ⟨by rw [rx, modRx_rx], by rw [rx, modRx_rx], ?_⟩
  rw [applied, Nat.cast_one, one_mul]

theorem cdFadeBlock_next (c : Carrier) (b n : Nat) (v0 v1 : CdVals) (s : State) (hf : (s.car c).rx.fade = some (b, n, v0, v1))
    (hc : s.present c = true) (he : s.emitting c = true) :
    ∃ t, exec (.cdFadeBlock c) s = .next t ∧
      (b < n → (t.car c).rx.fade = some (b + 1, n, v0, v1) ∧
        t.rd (K.cdApplied c) = openDiv (v0.d * n + (b + 1 : Nat) * (v1.d - v0.d)) n) ∧
      (n ≤ b → (t.car c).rx.fade = none ∧ (t.car c).rx.active = 1 - (s.car c).rx.active ∧ t.rd (K.cdApplied c) = v1.d) := by
  refine ⟨_, rfl, ?_⟩
  unfold cdFadeBlock
  rw [hf]
  dsimp only
  rw [when_true (by simp [hc, he])]
  refine ⟨fun running => ?_, fun last => ?_⟩
  · rw [if_neg (by omega)]
    obtain ⟨rx, applied⟩ := fadeShow_effect (c := c) (b := b + 1) (n := n) (v0 := v0) (v1 := v1)
      (s := s.modRx c (fun r => { r with fade := some (b + 1, n, v0, v1) })) (by rw [modRx_rx])
    exact ⟨by rw [rx, modRx_rx], applied⟩
  · rw [if_pos last]
    obtain ⟨filter, applied⟩ := fadeDone_effect s c v1
    exact ⟨congrArg Prod.snd filter, congrArg Prod.fst filter, applied⟩

theorem cdFadeCut_next (c : Carrier) (b n : Nat) (v0 v1 : CdVals) (s : State) (hf : (s.car c).rx.fade = some (b, n, v0, v1))
    (hc : s.present c = true) (he : s.emitting c = false) :
    ∃ t, exec (.cdFadeCut c) s = .next t ∧ (t.car c).rx.fade = none ∧ (t.car c).rx.active = 1 - (s.car c).rx.active ∧
      t.rd (K.cdApplied c) = v1.d := by
  refine ⟨_, rfl, ?_⟩
  unfold cdFadeCut
  rw [hf]
  dsimp only
  rw [when_true (by simp [hc, he])]
  obtain ⟨filter, applied⟩ := fadeDone_effect s c v1
  exact ⟨congrArg Prod.snd filter, congrArg Prod.fst filter, applied⟩

theorem cdSwapNofade_next (c : Carrier) (v : CdVals) (s : State) (hv : (s.car c).rx.readySwap = some v) (hc : s.present c = true)
    (he : s.emitting c = false) :
    ∃ t, exec (.cdSwapNofade c) s = .next t ∧ (t.car c).rx.active = 1 - (s.car c).rx.active ∧ t.rd (K.cdApplied c) = v.d := by
  refine ⟨_, rfl, ?_⟩
  unfold cdSwapNofade
  rw [hv]
  dsimp only
  rw [when_true (by simp [hc, he]), releaseQueue_cdApplied]
  obtain ⟨filter, applied⟩ := activate_effect (s.modRx c (fun r => { r with pendSwap := none, prepFor := none })) c v
  refine ⟨?_, applied⟩
  rw [← releaseQueue_filter, modRx_rx] at filter
  exact congrArg Prod.fst filter

/-! ### The search (03 R94, R95; 04 R142) -/

/-- A search starts over the plan of its entries. -/
theorem startSearch_effect (s : State) (c : Carrier) :
    (s.startSearch c).rd (K.cdSearchState c) = 1 ∧
    ((s.startSearch c).car c).rx.search =
      some (searchPlan (s.rd (K.cdSearchMin c)) (s.rd (K.cdSearchMax c)) (s.rdN (K.cdSearchStep c))) := by
  simp [State.startSearch]

theorem cdSearchStart_next (src : Nat) (c : Carrier) (s : State) (ha : s.accepts src (K.cdSearchStart c))
    (ho : s.rd (K.carState c) ≠ carOff) :
    ∃ t, exec (.cdSearchStart src c) s = .next t ∧ t.answered src .ok ∧ t.rd (K.cdSearchState c) = 1 ∧
      (t.car c).rx.search = some (searchPlan (s.rd (K.cdSearchMin c)) (s.rd (K.cdSearchMax c)) (s.rdN (K.cdSearchStep c))) := by
  refine ⟨_, rfl, ?_⟩
  rw [request_accepted s src ha, accepted_rd _ _ _ (by cases c <;> simp [Carrier.off]), if_neg ho]
  obtain ⟨state, search⟩ := startSearch_effect (s.accepted src) c
  refine ⟨ack_answered .., by rw [State.ack_rd, state], ?_⟩
  rw [ack_car, search, accepted_rd _ _ _ (by cases c <;> simp [Carrier.off]), accepted_rd _ _ _ (by cases c <;> simp [Carrier.off]),
    accepted_rdN _ _ _ (by cases c <;> simp [Carrier.off])]

/-- A search whose trials are in ends, and 21.01F takes its lowest trial of greatest metric. -/
theorem searchDone_effect {s : State} {c : Carrier} {lo : Int} {step n : Nat} (hs : (s.car c).rx.search = some (lo, step, n)) :
    ((s.searchDone c).car c).rx.search = none ∧
    (s.searchDone c).rd (K.cdEst c) = lo + (bestTrial (s.searchMetrics c lo step n) 0 (0, 0) * step : Nat) := by
  unfold State.searchDone
  rw [hs]
  simp [wr_rd]

/-- What the standard firmware does with dispersion depends on parts that the end of a search leaves alone. -/
theorem searchDone_cdPolicy (s : State) (c : Carrier) (f : RxState → RxState) :
    ((s.searchDone c).modRx c f).cdPolicy c = s.cdPolicy c := by
  have frame : Leads _ s ((s.searchDone c).modRx c f) :=
    State.modRx_leads _ c f (ps := [.car c, .entry (0x21 + c.off) 0x01F, .entry (0x21 + c.off) 0x020, .entry (0x21 + c.off) 0x01E])
      (by cases c <;> rfl) (State.searchDone_leads s c (covers_refl _) (Leads.refl _ s))
  have present : ((s.searchDone c).modRx c f).present c = s.present c := by
    cases c
    · rfl
    · exact congrArg (fun x : FuseState => !x.fgv1608) (frame.1.2 .fuse rfl)
  have firmware : ((s.searchDone c).modRx c f).firmware = s.firmware := by
    unfold State.firmware
    rw [frame.rd_eq K.fwState (by cases c <;> rfl), frame.1.2 .flash (by cases c <;> rfl), frame.1.2 .cores (by cases c <;> rfl)]
  unfold State.cdPolicy
  rw [present, firmware, frame.rd_eq (K.acqCdPolicy c) (by cases c <;> rfl), frame.rd_eq (K.carState c) (by cases c <;> rfl)]

theorem cdSearchDone_next (c : Carrier) (lo : Int) (step n : Nat) (s : State) (hs : (s.car c).rx.search = some (lo, step, n))
    (hp : s.cdPolicy c = false) :
    ∃ t, exec (.cdSearchDone c) s = .next t ∧ (t.car c).rx.search = none ∧
      t.rd (K.cdEst c) = lo + (bestTrial (s.searchMetrics c lo step n) 0 (0, 0) * step : Nat) := by
  refine ⟨_, rfl, ?_⟩
  rw [hs]
  dsimp only
  rw [searchDone_cdPolicy, hp, Bool.not_false, if_pos rfl, modRx_rx, modRx_rd]
  exact searchDone_effect hs

/-! ### The edition of a result (09 R265 to R270; 04 R142) -/

/-- The next edition's ID, and the result of carrier c that waits for the draft. -/
def State.editionView (s : State) (c : Carrier) : Nat × Option Int := (s.ed.nextId, (s.car c).rx.cdDue)

section View

variable (s : State) (c : Carrier)

/-- Where the editions part keeps its next ID and the carriers stay, the view stays. -/
theorem Leads.editionView_eq {ps : List Part} {t : State} (h : Leads ps s t) (hk : Part.within ps (.car c) = false)
    (he : t.ed.nextId = s.ed.nextId) : t.editionView c = s.editionView c := by
  rw [State.editionView, he, h.car_eq c hk, State.editionView]

theorem draftEffect_editionView (src : Nat) (k : Key) (v : Val) : ((draftEffect src k v s).1).editionView c = s.editionView c := by
  refine (draftEffect_leads src k v s (covers_refl _) (Leads.refl _ s)).editionView_eq _ c (by cases c <;> rfl) ?_
  unfold draftEffect
  split
  · rfl
  · split_ifs <;> rfl

theorem wr_editionView (k : Key) (v : Int) : (s.wr k v).editionView c = s.editionView c := by
  cases c <;> rfl

theorem recordRules_editionView (l : List (Nat × Key)) : (s.recordRules l).editionView c = s.editionView c := by
  unfold State.recordRules
  rw [wr_editionView, wr_editionView, wr_editionView]

theorem setDraft_editionView (d : Draft) : (s.setDraft d).editionView c = s.editionView c := by
  cases c <;> rfl

theorem raise_editionView (code : Nat) (k : Key) : (s.raise code k).editionView c = s.editionView c := by
  cases c <;> rfl

theorem addHist_editionView (h : HistRec) : (s.addHist h).editionView c = s.editionView c := by
  cases c <;> rfl

theorem rejectDraft_editionView (d : Draft) (l : List (Nat × Key)) : (s.rejectDraft d l).editionView c = s.editionView c := by
  unfold State.rejectDraft
  rw [raise_editionView, addHist_editionView, recordRules_editionView]

theorem validateDraft_editionView (src : Nat) : ((s.validateDraft src).1).editionView c = s.editionView c := by
  unfold State.validateDraft
  split
  · rfl
  · rfl
  · dsimp only
    split
    · rw [raise_editionView, setDraft_editionView, recordRules_editionView]
    · rw [rejectDraft_editionView, setDraft_editionView]

theorem rwStore_editionView (src : Nat) (k : Key) (v : Int) : (s.rwStore src k v).editionView c = s.editionView c := by
  unfold State.rwStore
  refine (State.journal_leads _ _ (covers_refl _) (Leads.refl _ (s.wr k v))).editionView_eq _ c (by cases c <;> rfl) ?_ |>.trans ?_
  · unfold State.journal
    dsimp only
    split <;> rfl
  · rw [State.editionView, wr_car]
    rfl

theorem discardDraft_editionView (src : Nat) : ((s.discardDraft src).1).editionView c = s.editionView c := by
  refine (State.discardDraft_leads s src (covers_refl _) (Leads.refl _ s)).editionView_eq _ c (by cases c <;> rfl) ?_
  unfold State.discardDraft State.endDraft
  split
  · rfl
  · split
    · split <;> rfl
    · rfl

theorem modRx_editionView (d : Carrier) {f : RxState → RxState} (h : ∀ r, (f r).cdDue = r.cdDue) :
    (s.modRx d f).editionView c = s.editionView c := by
  cases c <;> cases d <;> simp [State.editionView, State.modRx, State.modCar, State.car, h]

theorem cdStatus_editionView (d : Carrier) : (s.cdStatus d).editionView c = s.editionView c := by
  rw [State.editionView, cdStatus_car]
  rfl

theorem prepareSheet_editionView (d : Carrier) : (s.prepareSheet d).editionView c = s.editionView c := by
  unfold State.prepareSheet
  dsimp only
  split
  · rfl
  · split
    · rfl
    · split_ifs
      · rfl
      · exact modRx_editionView _ _ _ fun _ => rfl
      · rw [cdStatus_editionView]
        refine modRx_editionView _ _ _ fun r => ?_
        unfold RxState.compute RxState.setInactive
        split <;> rfl

theorem announce_editionView (e : Edition) (d : Carrier) : (s.announce e d).editionView c = s.editionView c := by
  unfold State.announce
  split
  · cases c <;> cases d <;> rfl
  · rfl

theorem armEdition_editionView (e : Edition) : (s.armEdition e).editionView c = s.editionView c := by
  unfold State.armEdition
  dsimp only
  rw [prepareSheet_editionView, prepareSheet_editionView, announce_editionView, announce_editionView]
  cases c <;> rfl

theorem armDraft_editionView (src group : Nat) : ((s.armDraft src group).1).editionView c = s.editionView c := by
  unfold State.armDraft
  split
  · rfl
  · rfl
  · dsimp only
    split
    · rw [addHist_editionView, wr_editionView, wr_editionView, wr_editionView]
    · split
      · exact armEdition_editionView ..
      · exact rejectDraft_editionView ..

end View

/-- The edition of a result takes the next ID, and the result no longer waits, whatever the checks of the edition say. -/
theorem cdApply_editionView {s : State} (c : Carrier) (v : Int) (hd : s.ed.draft = none) :
    (s.cdApply c v).editionView c = (nextEditionId s.ed.nextId, none) := by
  have opened : (s.openDraft fwSource).2 = .ok ∧ (s.openDraft fwSource).1.ed.nextId = nextEditionId s.ed.nextId := by
    unfold State.openDraft
    rw [hd]
    exact ⟨rfl, rfl⟩
  unfold State.cdApply
  dsimp only
  rw [if_neg (not_not.2 opened.1)]
  have due : ((s.openDraft fwSource).1.modRx c (fun r => { r with cdDue := none })).editionView c = (nextEditionId s.ed.nextId, none) := by
    rw [State.editionView, modRx_rx, State.modRx_ed, opened.2]
  split_ifs <;>
    simp only [discardDraft_editionView, armDraft_editionView, rwStore_editionView, validateDraft_editionView, draftEffect_editionView, due]

theorem sfCdDraftRetry_next (c : Carrier) (v : Int) (s : State) (hv : (s.car c).rx.cdDue = some v) (hh : s.cdHunts c = true)
    (hd : s.ed.draft = none) :
    ∃ t, exec (.sfCdDraftRetry c) s = .next t ∧ (t.car c).rx.cdDue = none ∧ t.ed.nextId = nextEditionId s.ed.nextId := by
  refine ⟨_, rfl, ?_⟩
  rw [hv]
  dsimp only
  rw [if_pos hh]
  have view := cdApply_editionView c v hd
  exact ⟨congrArg Prod.snd view, congrArg Prod.fst view⟩

theorem sfCdHuntTimeout_next (c : Carrier) (s : State) (hh : s.cdHunts c = true) :
    ∃ t, exec (.sfCdHuntTimeout c) s = .next t ∧ t.rd (K.cdSearchState c) = 1 ∧
      (t.car c).rx.search = some (searchPlan (s.rd (K.cdSearchMin c)) (s.rd (K.cdSearchMax c)) (s.rdN (K.cdSearchStep c))) := by
  refine ⟨_, rfl, ?_⟩
  rw [when_true hh]
  exact startSearch_effect s c

/-- Settles O5: each clause is what its command's lemma above says. -/
theorem dispersionComplete : Obligations.DispersionComplete :=
  ⟨cdSheetReady_next, cdFadeStart_next, cdFadeBlock_next, cdFadeCut_next, cdSwapNofade_next, cdSearchStart_next, cdSearchDone_next,
   sfCdDraftRetry_next, sfCdHuntTimeout_next⟩

end Sys2Proof.Machine
end

section
/-! SUPPORT. Headers and superframes at the receiver, and the segments of the decoder (03 R111 to R115; 06 R178 to R185): what each step of a
frame header leaves, and the obligation about these commands. -/

namespace Sys2Proof.Machine

/-! ### The receiver while a message is sent over the Traverse (10 R285 to R294) -/

@[simp] theorem modFec_rx (s : State) (c d : Carrier) (f : FecState → FecState) : ((s.modFec c f).car d).rx = (s.car d).rx := by
  cases c <;> cases d <;> rfl

@[simp] theorem modLx_rx (s : State) (c d : Carrier) (f : LxState → LxState) : ((s.modLx c f).car d).rx = (s.car d).rx := by
  cases c <;> cases d <;> rfl

theorem modTx_rx_any (s : State) (c d : Carrier) (f : TxState → TxState) : ((s.modTx c f).car d).rx = (s.car d).rx := by
  cases c <;> cases d <;> rfl

theorem modLink_car (s : State) (l : Nat) (f : TvLink → TvLink) (c : Carrier) : (s.modLink l f).car c = s.car c := by
  cases c <;> rfl

theorem startLink_rx (s : State) (l : Nat) (t : Rat) (c : Carrier) : ((s.startLink l t).car c).rx = (s.car c).rx := by
  unfold State.startLink
  dsimp only
  split
  · rfl
  · split
    · rfl
    · split
      · rw [modLink_car]
      · rw [modTx_rx_any, modLink_car]

theorem returnCredit_car (s : State) (b : Option (Nat × Nat × Nat)) (c : Carrier) : (s.returnCredit b).car c = s.car c :=
  (State.returnCredit_leads s b (covers_refl _) (Leads.refl _ s)).car_eq c (by cases c <;> rfl)

theorem enqueue_rx (s : State) (l : Nat) (o : TvOut) (t : Rat) (c : Carrier) : ((s.enqueue l o t).car c).rx = (s.car c).rx := by
  have credits : ∀ (bs : List (Nat × Nat × Nat)) (u : State), (bs.foldl (fun s b => s.returnCredit (some b)) u).car c = u.car c :=
    fun _ => foldl_reading_other (read := fun u : State => u.car c) (fun u b _ => returnCredit_car u (some b) c)
  unfold State.enqueue
  split
  · rw [startLink_rx, modLink_car]
  · dsimp only
    rw [startLink_rx, credits]
    split
    · rw [bump_car, modLink_car]
    · rw [modLink_car]

theorem sendOn_rx (s : State) (ls : List Nat) (o : TvOut) (c : Carrier) : ((s.sendOn ls o).car c).rx = (s.car c).rx :=
  foldl_reading_other (read := fun u : State => (u.car c).rx) (fun u l _ => enqueue_rx u l o u.now c) s

theorem tvDeliver_car (s : State) (f : TvFrame) (l : Nat) (t : Rat) (c : Carrier) : (s.tvDeliver f l t).car c = s.car c := by
  cases c <;> rfl

theorem dedupPut_car (s : State) (f : TvFrame) (c : Carrier) : (s.dedupPut f).car c = s.car c := by
  cases c <;> rfl

theorem tvFlood_rx (s : State) (f : TvFrame) (from_ : Nat) (o : TvOut) (good : Bool) (t : Rat) (c : Carrier) :
    ((s.tvFlood f from_ o good t).car c).rx = (s.car c).rx := by
  unfold State.tvFlood
  dsimp only
  split_ifs <;> simp [tvDeliver_car, dedupPut_car, sendOn_rx]

theorem tvRoute_rx (s : State) (f : TvFrame) (from_ : Nat) (o : TvOut) (good : Bool) (t : Rat) (c : Carrier) :
    ((s.tvRoute f from_ o good t).car c).rx = (s.car c).rx := by
  unfold State.tvRoute
  split
  · exact tvFlood_rx ..
  · split
    · split
      · rw [tvDeliver_car]
      · rfl
    · split
      · split
        · rw [bump_car]
        · exact enqueue_rx ..
      · exact tvFlood_rx ..

theorem farSend_rx (s : State) (c : Carrier) (type seq tag : Nat) (rest : List Byte) (d : Carrier) :
    ((s.farSend c type seq tag rest).car d).rx = (s.car d).rx := by
  unfold State.farSend State.sendLx State.originate
  dsimp only
  rw [tvRoute_rx]
  cases d <;> rfl

/-! ### The number of the next frame, through a frame header (03 R111 to R118) -/

/-- The number of the next frame, the receive phase, and the frames counted. -/
def State.frameView (s : State) (c : Carrier) : Nat × Int × Int := ((s.car c).rx.frameNo, s.rd (K.acqPhase c), s.rd (K.rxFrameCount c))

/-- An operation that changes neither the phase nor the count, and leaves the number, leaves the view. -/
theorem Leads.frameView_eq {ps : List Part} {s t : State} {c : Carrier} (h : Leads ps s t)
    (hk : Part.within ps (.entry (0x22 + c.off) 0x001) = false ∧ Part.within ps (.entry (0x24 + c.off) 0x050) = false)
    (hf : (t.car c).rx.frameNo = (s.car c).rx.frameNo) : t.frameView c = s.frameView c := by
  rw [State.frameView, hf, h.rd_eq (K.acqPhase c) hk.1, h.rd_eq (K.rxFrameCount c) hk.2, State.frameView]

theorem fecStop_rx (s : State) (c : Carrier) : ((s.fecStop c).car c).rx = (s.car c).rx := by
  unfold State.fecStop
  rw [hostFollow_car, wr_car, wr_car, modFec_rx]

theorem modSlot_frameNo (r : RxState) (i : Nat) (f : RxSlot → RxSlot) : (r.modSlot i f).frameNo = r.frameNo := by
  unfold RxState.modSlot
  split <;> rfl

theorem useSet_frameNo (s : State) (c : Carrier) (which : Option Nat) : ((s.useSet c which).car c).rx.frameNo = (s.car c).rx.frameNo := by
  unfold State.useSet
  dsimp only
  split
  · rw [modRx_rx]
  · rw [raise_car, wr_car, modRx_rx]
    cases which with
    | none => rfl
    | some i => exact modSlot_frameNo ..

theorem selectTag_frameNo (s : State) (c : Carrier) (tag : Nat) : ((s.selectTag c tag).car c).rx.frameNo = (s.car c).rx.frameNo := by
  unfold State.selectTag
  split
  · exact useSet_frameNo ..
  · rw [fecStop_rx, raise_car, wr_car, bump_car, modRx_rx]

theorem predictSet_frameNo (s : State) (c : Carrier) : ((s.predictSet c).car c).rx.frameNo = (s.car c).rx.frameNo := by
  unfold State.predictSet
  dsimp only
  split_ifs
  · split <;> rw [useSet_frameNo, bump_car]
  · rw [selectTag_frameNo, bump_car]
  · rw [bump_car]

theorem hdrMismatch_car (s : State) (c : Carrier) (tag : Nat) (d : Carrier) : (s.hdrMismatch c tag).car d = s.car d :=
  (State.hdrMismatch_leads s c tag (covers_refl _) (Leads.refl _ s)).car_eq d (by cases c <;> cases d <;> rfl)

theorem chooseSet_frameView (s : State) (c : Carrier) (fi : Nat) (h : Option Header) : (s.chooseSet c fi h).frameView c = s.frameView c := by
  refine (State.chooseSet_leads s c fi h (covers_refl _) (Leads.refl _ s)).frameView_eq (by cases c <;> exact ⟨rfl, rfl⟩) ?_
  unfold State.chooseSet
  split <;> split
  · exact selectTag_frameNo ..
  · rw [hdrMismatch_car]
  · exact predictSet_frameNo ..
  · rfl

theorem alignStream_frameNo (s : State) (c : Carrier) (segPtr : Nat) :
    ((s.alignStream c segPtr).car c).rx.frameNo = (s.car c).rx.frameNo := by
  unfold State.alignStream
  dsimp only
  rw [modFec_rx, modRx_rx]

theorem slotsChanged_car (s : State) (c d : Carrier) : (s.slotsChanged c).car d = s.car d :=
  (State.slotsChanged_leads s c (covers_refl _) (Leads.refl _ s)).car_eq d (by cases c <;> cases d <;> rfl)

theorem tookFree_car (s : State) (c : Carrier) : s.tookFree.car c = s.car c := by
  cases c <;> rfl

theorem acceptStart_frameNo (s : State) (c : Carrier) (h : Header) : ((s.acceptStart c h).car c).rx.frameNo = (s.car c).rx.frameNo := by
  unfold State.acceptStart
  dsimp only
  rw [hostFollow_car, wr_car, slotsChanged_car, alignStream_frameNo, modFec_rx]
  split
  · rw [tookFree_car]
  · rfl

theorem checkPointers_frameView (s : State) (c : Carrier) (h : Header) : (s.checkPointers c h).frameView c = s.frameView c := by
  refine (State.checkPointers_leads s c h (covers_refl _) (Leads.refl _ s)).frameView_eq (by cases c <;> exact ⟨rfl, rfl⟩) ?_
  unfold State.checkPointers
  dsimp only
  split_ifs
  · rw [raise_car, bump_car, acceptStart_frameNo, fecStop_rx, bump_car]
  · rw [modFec_rx, bump_car]
  · rfl

theorem slotStep_frameNo (subs step : Nat) (tabs : List MatchTable) (r : RxState) : (slotStep subs step tabs r).frameNo = r.frameNo := by
  unfold slotStep
  split <;> rfl

theorem takePayload_frameView (s : State) (c : Carrier) (fi : Nat) (lost : Bool) :
    (s.takePayload c fi lost).frameView c = s.frameView c := by
  refine (State.takePayload_leads s c fi lost (covers_refl _) (Leads.refl _ s)).frameView_eq (by cases c <;> exact ⟨rfl, rfl⟩) ?_
  have slots : ∀ (step : Nat) (tabs : List MatchTable) (n : Nat) (r : RxState),
      (iter (slotStep (s.subs c) step tabs) n r).frameNo = r.frameNo := by
    intro step tabs n
    induction n with
    | zero => exact fun _ => rfl
    | succ n ih => exact fun r => (ih _).trans (slotStep_frameNo ..)
  unfold State.takePayload
  dsimp only
  rw [modRx_rx, slots, modRx_rx]
  dsimp only
  split <;> rfl

theorem lxWatch_frameView (t : State) (c : Carrier) (old : State) : (t.lxWatch c old).frameView c = t.frameView c := by
  refine (State.lxWatch_leads t c old (covers_refl _) (Leads.refl _ t)).frameView_eq (by cases c <;> exact ⟨rfl, rfl⟩) ?_
  unfold State.lxWatch
  dsimp only
  split_ifs <;> simp [farSend_rx]

theorem bumpN_frameView (s : State) (c : Carrier) (k : Key) (n : Nat)
    (hk : K.acqPhase c ≠ k ∧ K.rxFrameCount c ≠ k) : (s.bumpN k n).frameView c = s.frameView c := by
  simp only [State.frameView, bumpN_car, bumpN_rd, if_neg hk.1, if_neg hk.2]

theorem farHeader_frameView (s : State) (c : Carrier) (h : Header) : (s.farHeader c h).frameView c = s.frameView c := by
  have frame := State.farHeader_leads s c h (covers_refl _) (Leads.refl _ s)
  exact frame.frameView_eq (by cases c <;> exact ⟨rfl, rfl⟩) (by rw [frame.car_eq c (by cases c <;> rfl)])

theorem rxStatusBit_frameView (s : State) (c : Carrier) (b : Nat) (v : Bool) : (s.rxStatusBit c b v).frameView c = s.frameView c := by
  simp only [State.frameView, rxStatusBit_car]
  rw [rxStatusBit_rd_other _ (by simp), rxStatusBit_rd_other _ (by simp)]

theorem modRx_frameView {s : State} {c : Carrier} {f : RxState → RxState} (hf : (f (s.car c).rx).frameNo = (s.car c).rx.frameNo) :
    (s.modRx c f).frameView c = s.frameView c := by
  simp only [State.frameView, modRx_rx, modRx_rd, hf]

/-- What a frame's good header does, if it has one (03 R112, R113; 06 R179, R187). -/
def State.takeGood (s : State) (c : Carrier) (h : Option Header) : State :=
  match h with
  | none => s
  | some h => (((s.rxStatusBit c 0 true).farHeader c h).checkPointers c h).modRx c (fun r => r.takeHeader h)

theorem takeGood_frameView (s : State) (c : Carrier) (h : Option Header) : (s.takeGood c h).frameView c = s.frameView c := by
  cases h with
  | none => rfl
  | some h =>
    unfold State.takeGood
    dsimp only
    rw [modRx_frameView rfl, checkPointers_frameView, farHeader_frameView, rxStatusBit_frameView]

/-- After a frame header the next frame is expected, and in LOCKED the frame is counted. -/
theorem rxFrameHeader_frameView {c : Carrier} (fi : Nat) (copies : List (Nat × Nat)) {s : State} (hc : s.present c = true)
    (hp : phConfirm ≤ s.rd (K.acqPhase c)) :
    (rxFrameHeader c fi copies s).frameView c =
      (fi + 1, s.rd (K.acqPhase c),
        if s.rd (K.acqPhase c) = phLocked then (((s.rdN (K.rxFrameCount c) + 1) % 2 ^ 48 : Nat) : Int) else s.rd (K.rxFrameCount c)) := by
  unfold rxFrameHeader
  rw [when_true (by simp [hc, hp])]
  extract_lets res counted w h begun chosen headed framed hold r lost
  have hcounted : counted.frameView c = s.frameView c := by
    rw [bumpN_frameView _ _ _ _ (by simp), bumpN_frameView _ _ _ _ (by simp)]
  have hbegun : begun.frameView c = (fi + 1, s.rd (K.acqPhase c), s.rd (K.rxFrameCount c)) := by
    obtain ⟨-, phase, count⟩ : _ ∧ _ ∧ _ := by simpa only [State.frameView, Prod.mk.injEq] using hcounted
    simp only [begun, State.frameView, modRx_rx, modRx_rd, phase, count]
  have hchosen : chosen.frameView c = begun.frameView c := chooseSet_frameView ..
  have hheaded : headed.frameView c = chosen.frameView c := takeGood_frameView chosen c h
  have hlost : lost.frameView c = framed.frameView c := by
    unfold lost
    split
    · exact bumpN_frameView _ _ _ _ (by simp)
    · rfl
  rw [modRx_frameView rfl, takePayload_frameView, hlost]
  obtain ⟨number, phase, count⟩ : _ ∧ _ ∧ _ := by
    simpa only [State.frameView, Prod.mk.injEq] using hheaded.trans (hchosen.trans hbegun)
  unfold framed
  rw [phase]
  split
  · simp only [State.frameView, wrapN_car, wrapN_rd, number, phase, count, State.rdN]
    simp
  · simp only [State.frameView, number, phase, count]

theorem rxFrameHeader_next (c : Carrier) (fi : Nat) (copies : List (Nat × Nat)) (s : State) (hc : s.present c = true)
    (hp : phConfirm ≤ s.rd (K.acqPhase c)) :
    ∃ t, exec (.rxFrameHeader c fi copies) s = .next t ∧ (t.car c).rx.frameNo = fi + 1 ∧
      (s.rd (K.acqPhase c) = phLocked → t.rd (K.rxFrameCount c) = ((s.rdN (K.rxFrameCount c) + 1) % 2 ^ 48 : Nat)) := by
  refine ⟨_, rfl, ?_⟩
  have view := (lxWatch_frameView (rxFrameHeader c fi copies s) c s).trans (rxFrameHeader_frameView fi copies hc hp)
  obtain ⟨number, -, count⟩ : _ ∧ _ ∧ _ := by simpa only [State.frameView, Prod.mk.injEq] using view
  exact ⟨number, fun locked => by rw [count, if_pos locked]⟩

/-! ### The receive superframe boundary (03 R111, R115; 05 R148; 06 R191) -/

/-- The first header of the superframe, the number of its next frame, and the pilot error sums. -/
def RxState.sfView (r : RxState) : Option Header × Nat × List (Nat × WinSum) := (r.hdrSf, r.frameNo, r.pilotErr)

/-- 21.083 takes the error powers of the superframe that ended, if pilots were seen. -/
def State.noiseShow (s : State) (c : Carrier) : State :=
  if (s.car c).rx.pilotErr = [] then s
  else (List.range (2 * s.subs c)).foldl (fun s' i => s'.wr (K.noiseVarEst c i) (clampInt (openRat (65536 *
    nth ((List.range (2 * s.subs c)).map (pilotSigma (s.car c).rx.pilotErr)) i 0)) 0 65535)) s

theorem noiseShow_rd (s : State) {c : Carrier} {k : Key} (h : ∀ i, k ≠ K.noiseVarEst c i) : (s.noiseShow c).rd k = s.rd k := by
  unfold State.noiseShow
  split
  · rfl
  · exact foldl_wr_rd_other (key := K.noiseVarEst c) _ h s

theorem noiseShow_noiseVarEst {s : State} {c : Carrier} (h : (s.car c).rx.pilotErr ≠ []) {i : Nat} (hi : i < 2 * s.subs c) :
    (s.noiseShow c).rd (K.noiseVarEst c i) = clampInt (openRat (65536 * pilotSigma (s.car c).rx.pilotErr i)) 0 65535 := by
  unfold State.noiseShow
  rw [if_neg h, foldl_wr_rd_mem (key := K.noiseVarEst c) _ (by simp) (List.mem_range.2 hi), nth_range_map hi]

/-- The SNR figures of LOCKED and HOLD from the error powers of a superframe (05 R148, R149). -/
def State.snrUpdate (s : State) (c : Carrier) (sums : List (Nat × WinSum)) (es : List Rat) : State :=
  State.windowSnr (if sums = [] then s else
    (s.modRx c (fun r => { r with snrHist := (es :: r.snrHist).take 1024 })).snrFigures c
      (((s.modRx c (fun r => { r with snrHist := (es :: r.snrHist).take 1024 })).car c).rx.snrHist.take (2 ^
        (s.modRx c (fun r => { r with snrHist := (es :: r.snrHist).take 1024 })).rdN (K.snrAvg c)))) c

theorem windowSnr_car (s : State) (c d : Carrier) : (s.windowSnr c).car d = s.car d :=
  (State.windowSnr_leads s c (covers_refl _) (Leads.refl _ s)).car_eq d (by cases c <;> cases d <;> rfl)

theorem snrFigures_car (s : State) (c : Carrier) (hist : List (List Rat)) (d : Carrier) : (s.snrFigures c hist).car d = s.car d :=
  (State.snrFigures_leads s c hist (covers_refl _) (Leads.refl _ s)).car_eq d (by cases c <;> cases d <;> rfl)

/-- The figures leave what the boundary began, and areas 21 and 24. -/
theorem snrUpdate_kept (s : State) (c : Carrier) (sums : List (Nat × WinSum)) (es : List Rat) :
    ((s.snrUpdate c sums es).car c).rx.sfView = (s.car c).rx.sfView ∧
    ∀ e i, (s.snrUpdate c sums es).rd ⟨0x21 + c.off, e, i⟩ = s.rd ⟨0x21 + c.off, e, i⟩ ∧
      (s.snrUpdate c sums es).rd ⟨0x24 + c.off, e, i⟩ = s.rd ⟨0x24 + c.off, e, i⟩ := by
  have figures := fun (u : State) hist => State.snrFigures_leads u c hist (covers_refl _) (Leads.refl _ u)
  have window := fun (u : State) => State.windowSnr_leads u c (covers_refl _) (Leads.refl _ u)
  unfold State.snrUpdate
  refine ⟨?_, fun e i => ⟨?_, ?_⟩⟩
  · rw [windowSnr_car]
    split
    · rfl
    · rw [snrFigures_car, modRx_rx]
      rfl
  all_goals
    rw [(window _).rd_eq _ (by cases c <;> rfl)]
    split
    · rfl
    · rw [(figures _ _).rd_eq _ (by cases c <;> rfl), modRx_rd]

/-- A boundary begins its superframe with frame 0, no header and no pilot errors; it shows the noise of the one that ended, and in LOCKED
counts. -/
theorem rxSuperframeBoundary_effect {c : Carrier} {s : State} (hc : s.present c = true) :
    ((rxSuperframeBoundary c s).car c).rx.sfView = (none, 0, []) ∧
    (∀ i, (rxSuperframeBoundary c s).rd (K.noiseVarEst c i) = (s.noiseShow c).rd (K.noiseVarEst c i)) ∧
    (s.rd (K.acqPhase c) = phLocked →
      (rxSuperframeBoundary c s).rd (K.rxSfCount c) = ((s.rdN (K.rxSfCount c) + 1) % 2 ^ 48 : Nat)) := by
  unfold rxSuperframeBoundary
  rw [when_true hc]
  extract_lets ph sums es noted cleared coded advanced opened counted recorded figured
  have hnoted : noted = s.noiseShow c := rfl
  have view : (counted.car c).rx.sfView = (none, 0, []) := by
    have begun : (opened.car c).rx.sfView = (none, 0, []) := by
      unfold opened
      rw [modRx_rx]
      rfl
    unfold counted
    split
    · rwa [wrapN_car]
    · exact begun
  have openedRd : ∀ k, k ≠ K.rxStatus c → opened.rd k = (s.noiseShow c).rd k := by
    intro k hk
    unfold opened advanced
    rw [modRx_rd, modFec_rd, rxStatusBit_rd_other _ hk, hnoted]
  have noise : ∀ i, counted.rd (K.noiseVarEst c i) = (s.noiseShow c).rd (K.noiseVarEst c i) := by
    intro i
    unfold counted
    split
    · rw [wrapN_rd, if_neg (by simp), openedRd _ (by simp)]
    · exact openedRd _ (by simp)
  have count : ph = phLocked → counted.rd (K.rxSfCount c) = ((s.rdN (K.rxSfCount c) + 1) % 2 ^ 48 : Nat) := by
    intro locked
    unfold counted
    rw [if_pos locked, wrapN_rd, if_pos rfl, State.rdN, openedRd _ (by simp), noiseShow_rd _ (by simp)]
    rfl
  split
  case isFalse => exact ⟨view, noise, count⟩
  case isTrue =>
    obtain ⟨kept, rds⟩ := snrUpdate_kept counted c sums es
    exact ⟨kept.trans view, fun i => (rds 0x083 i).1.trans (noise i), fun locked => (rds 0x051 0).2.trans (count locked)⟩

/-- A report of the standard firmware leaves the receiver and what the boundary shows. -/
theorem sendReport_kept (s : State) (c : Carrier) :
    ((s.sendReport c).car c).rx = (s.car c).rx ∧ (∀ i, (s.sendReport c).rd (K.noiseVarEst c i) = s.rd (K.noiseVarEst c i)) ∧
    (s.sendReport c).rd (K.rxSfCount c) = s.rd (K.rxSfCount c) := by
  have frame := State.sendReport_leads s c (covers_refl _) (Leads.refl _ s)
  refine ⟨?_, fun i => frame.rd_eq _ (by cases c <;> rfl), frame.rd_eq _ (by cases c <;> rfl)⟩
  unfold State.sendReport
  rw [farSend_rx, tookFree_car]

theorem rxSuperframeBoundary_next (c : Carrier) (s : State) (hc : s.present c = true) :
    ∃ t, exec (.rxSuperframeBoundary c) s = .next t ∧
      (t.car c).rx.hdrSf = none ∧ (t.car c).rx.frameNo = 0 ∧ (t.car c).rx.pilotErr = [] ∧
      ((s.car c).rx.pilotErr ≠ [] → ∀ i : Nat, i < 2 * s.subs c →
        t.rd (K.noiseVarEst c i) = clampInt (openRat (65536 * pilotSigma (s.car c).rx.pilotErr i)) 0 65535) ∧
      (s.rd (K.acqPhase c) = phLocked → t.rd (K.rxSfCount c) = ((s.rdN (K.rxSfCount c) + 1) % 2 ^ 48 : Nat)) := by
  obtain ⟨view, noise, count⟩ := rxSuperframeBoundary_effect (c := c) hc
  obtain ⟨t, ht, rx, noiseT, countT⟩ : ∃ t, exec (.rxSuperframeBoundary c) s = .next t ∧
      (t.car c).rx = ((rxSuperframeBoundary c s).car c).rx ∧
      (∀ i, t.rd (K.noiseVarEst c i) = (rxSuperframeBoundary c s).rd (K.noiseVarEst c i)) ∧
      t.rd (K.rxSfCount c) = (rxSuperframeBoundary c s).rd (K.rxSfCount c) := by
    refine ⟨_, rfl, ?_⟩
    dsimp only
    split_ifs
    · obtain ⟨rx, noise, count⟩ := sendReport_kept _ c
      rw [rx, modLx_rx, count, modLx_rd]
      exact ⟨rfl, fun i => by rw [noise, modLx_rd], rfl⟩
    · rw [modLx_rx, modLx_rd]
      exact ⟨rfl, fun i => modLx_rd .., rfl⟩
    · exact ⟨rfl, fun _ => rfl, rfl⟩
  obtain ⟨hdr, number, pilots⟩ : _ ∧ _ ∧ _ := by simpa only [RxState.sfView, Prod.mk.injEq] using view
  rw [← rx] at hdr number pilots
  exact ⟨t, ht, hdr, number, pilots, fun seen i hi => by rw [noiseT, noise, noiseShow_noiseVarEst seen hi],
    fun locked => countT.trans (count locked)⟩

/-! ### Acceptance (04 R123; 06 R178, R185) -/

@[simp] theorem modRx_fec (s : State) (c d : Carrier) (f : RxState → RxState) : ((s.modRx c f).car d).fec = (s.car d).fec := by
  cases c <;> cases d <;> rfl

theorem acceptStart_effect (s : State) (c : Carrier) (h : Header) :
    ((s.acceptStart c h).car c).fec.accepting = true ∧ ((s.acceptStart c h).car c).fec.startup = s.rdN (K.decWindow c) + 2 ∧
    ((s.acceptStart c h).car c).fec.lbSkip = h.lbPtr ∧ (s.acceptStart c h).rd (K.decAlign c) = 1 := by
  unfold State.acceptStart State.alignStream
  dsimp only
  rw [hostFollow_car, wr_car, slotsChanged_car, hostFollow_rd _ _ (by cases c <;> simp [Carrier.off]), State.rd_wr_same, modFec_fec,
    modRx_fec, modFec_fec]
  refine ⟨rfl, ?_, rfl, rfl⟩
  dsimp only
  split <;> rfl

theorem fecAcceptStart_next (c : Carrier) (h : Header) (s : State) (hc : s.present c = true) (hs : s.rd (K.carState c) = carService)
    (hp : s.rd (K.acqPhase c) = phLocked) (hf : (s.car c).fec.fromStart = true) (ha : (s.car c).fec.accepting = false)
    (hu : (s.car c).rx.unknown = false) (hh : (s.car c).rx.hdrSf = some h) :
    ∃ t, exec (.fecAcceptStart c) s = .next t ∧
      (t.car c).fec.accepting = true ∧ (t.car c).fec.startup = s.rdN (K.decWindow c) + 2 ∧ (t.car c).fec.lbSkip = h.lbPtr ∧
      t.rd (K.decAlign c) = 1 := by
  refine ⟨_, rfl, ?_⟩
  rw [when_true (by simp [hc, hs, hp, hf, ha, hu]), hh]
  exact acceptStart_effect s c h

theorem fecStop_effect (s : State) (c : Carrier) :
    ((s.fecStop c).car c).fec.accepting = false ∧ ((s.fecStop c).car c).fec.segs = [] ∧ ((s.fecStop c).car c).fec.outer = [] ∧
    (s.fecStop c).rd (K.decSlots c) = 0 := by
  unfold State.fecStop
  rw [hostFollow_car, hostFollow_rd _ _ (by cases c <;> simp [Carrier.off])]
  simp [wr_rd]

theorem fecAcceptStop_next (c : Carrier) (s : State) (hc : s.present c = true) (ha : (s.car c).fec.accepting = true)
    (hl : s.rd (K.carState c) ≠ carService ∨ s.rd (K.acqPhase c) ≠ phLocked) :
    ∃ t, exec (.fecAcceptStop c) s = .next t ∧
      (t.car c).fec.accepting = false ∧ (t.car c).fec.segs = [] ∧ (t.car c).fec.outer = [] ∧ t.rd (K.decSlots c) = 0 := by
  refine ⟨_, rfl, ?_⟩
  have lost : (!(decide (s.rd (K.carState c) = carService) && decide (s.rd (K.acqPhase c) = phLocked))) = true := by
    rcases hl with state | phase
    · simp [state]
    · simp [phase]
  rw [when_true (by rw [hc, ha, lost]; rfl)]
  exact fecStop_effect s c

/-! ### Segments (06 R180, R181, R183) -/

theorem slotsChanged_decSlots (s : State) (c : Carrier) : (s.slotsChanged c).rd (K.decSlots c) = ((s.car c).fec.slots : Nat) := by
  unfold State.slotsChanged
  dsimp only
  split <;> simp [wr_rd]

/-- The oldest segment leaves for the outer decoder with new values of 24.012 and 24.013. -/
theorem releaseOldest_segs {s : State} {c : Carrier} {g : Seg} {rest : List Seg} (forced : Bool) (h : (s.car c).fec.segs = g :: rest) :
    ((s.releaseOldest c forced).car c).fec.segs = rest ∧
    ((s.releaseOldest c forced).car c).fec.outer.map OutSeg.seg =
      (s.car c).fec.outer.map OutSeg.seg ++ [{ g with forced := g.forced || forced }] ∧
    ((s.releaseOldest c forced).car c).fec.wNow = s.rdN (K.decWindow c) := by
  unfold State.releaseOldest
  rw [h]
  simp

theorem releaseOldest_nextNo (s : State) (c : Carrier) (forced : Bool) :
    ((s.releaseOldest c forced).car c).fec.nextNo = (s.car c).fec.nextNo := by
  unfold State.releaseOldest
  split
  · rfl
  · rw [modFec_fec]

theorem releaseOldest_rx (s : State) (c : Carrier) (forced : Bool) : ((s.releaseOldest c forced).car c).rx = (s.car c).rx := by
  unfold State.releaseOldest
  split
  · rfl
  · exact modFec_rx ..

theorem releaseOldest_rd (s : State) (c : Carrier) (forced : Bool) (k : Key) : (s.releaseOldest c forced).rd k = s.rd k := by
  unfold State.releaseOldest
  split
  · rfl
  · exact modFec_rd ..

theorem decWindowSlide_next (c : Carrier) (s : State) (hc : s.present c = true) (hm : s.mayRelease c = true) :
    ∃ t, exec (.decWindowSlide c) s = .next t ∧
      (t.car c).fec.segs = (s.car c).fec.segs.drop 1 ∧
      (t.car c).fec.outer.map OutSeg.seg = (s.car c).fec.outer.map OutSeg.seg ++ (s.car c).fec.segs.take 1 ∧
      (t.car c).fec.wNow = s.rdN (K.decWindow c) := by
  refine ⟨_, rfl, ?_⟩
  rw [when_true (by simp [hc, hm])]
  cases hsegs : (s.car c).fec.segs with
  | nil => simp [State.mayRelease, hsegs] at hm
  | cons g rest =>
    obtain ⟨segs, outer, window⟩ := releaseOldest_segs false hsegs
    exact ⟨segs, by rw [outer, Bool.or_false]; rfl, window⟩

/-- The next 16,384 coded bits of the stream leave it. -/
def State.segmentTaken (s : State) (c : Carrier) : State :=
  (s.modRx c (fun r => { r with llrs := r.llrs.drop ((s.car c).fec.skip + 16384) })).modFec c (fun f => { f with skip := 0 })

/-- At 1,024 slots the oldest segment is released by force, and counted. -/
def State.forceRelease (s : State) (c : Carrier) : State :=
  if 1024 ≤ (s.car c).fec.slots then ((s.releaseOldest c true).bump (K.forcedSeg c)).raise Ev.rxFecForced (K.forcedSeg c) else s

/-- A segment of these soft bits joins those in flight. -/
def State.segmentAdded (s : State) (c : Carrier) (llrs : List (Option Int)) : State :=
  s.modFec c (fun f => { f with
    segs := f.segs ++ [⟨f.nextNo, f.nextPhase, s.placement, 0, false, llrs.any Option.isNone, llrs.map (fun l => l.getD 0),
      (llrs.map (fun l => l.getD 0)).map (· * 2), []⟩]
    nextNo := f.nextNo + 1, nextPhase := (f.nextPhase + 1) % segCycle (s.rdN (K.fecOh c)) })

/-- An erased segment is counted. -/
def State.noteErased (s : State) (c : Carrier) (erased : Bool) : State := if erased then s.bump (K.erasedSeg c) else s

/-- A segment arrives: its bits leave the stream, a slot is freed if need be, it joins those in flight, and an erased one is counted. -/
theorem rxSegmentArrival_eq {c : Carrier} {s : State} (hc : s.present c = true) (ha : (s.car c).fec.accepting = true)
    (hl : (s.car c).fec.skip + 16384 ≤ (s.car c).rx.llrs.length) :
    rxSegmentArrival c s =
      ((((s.segmentTaken c).forceRelease c).segmentAdded c (((s.car c).rx.llrs.drop (s.car c).fec.skip).take 16384)).noteErased c
        ((((s.car c).rx.llrs.drop (s.car c).fec.skip).take 16384).any Option.isNone)).slotsChanged c := by
  unfold rxSegmentArrival
  rw [when_true (by simp [hc, ha, hl])]
  rfl

theorem noteErased_car (s : State) (c : Carrier) (erased : Bool) (d : Carrier) : (s.noteErased c erased).car d = s.car d := by
  unfold State.noteErased
  split
  · exact bump_car ..
  · rfl

theorem noteErased_forcedSeg (s : State) (c : Carrier) (erased : Bool) :
    (s.noteErased c erased).rd (K.forcedSeg c) = s.rd (K.forcedSeg c) := by
  unfold State.noteErased
  split
  · rw [bump_rd, if_neg (by simp)]
  · rfl

theorem forceRelease_below {s : State} {c : Carrier} (h : (s.car c).fec.slots < 1024) : s.forceRelease c = s := if_neg (by omega)

theorem forceRelease_forcedSeg {s : State} {c : Carrier} (h : 1024 ≤ (s.car c).fec.slots) :
    (s.forceRelease c).rd (K.forcedSeg c) = (min (s.rdN (K.forcedSeg c) + 1) max48 : Nat) := by
  unfold State.forceRelease
  rw [if_pos h, State.raise_rd, bump_rd, if_pos rfl, State.rdN, releaseOldest_rd]
  rfl

/-- A release by force leaves the receiver, and the number of the next segment. -/
theorem forceRelease_kept (s : State) (c : Carrier) :
    ((s.forceRelease c).car c).rx = (s.car c).rx ∧ ((s.forceRelease c).car c).fec.nextNo = (s.car c).fec.nextNo := by
  unfold State.forceRelease
  split
  · rw [raise_car, bump_car]
    exact ⟨releaseOldest_rx .., releaseOldest_nextNo ..⟩
  · exact ⟨rfl, rfl⟩

theorem slotsChanged_forcedSeg (s : State) (c : Carrier) : (s.slotsChanged c).rd (K.forcedSeg c) = s.rd (K.forcedSeg c) :=
  (State.slotsChanged_leads s c (covers_refl _) (Leads.refl _ s)).rd_eq _ (by cases c <;> rfl)

/-- Taking a segment's bits leaves the decoder but for the bits to discard. -/
theorem segmentTaken_fec (s : State) (c : Carrier) : ((s.segmentTaken c).car c).fec = { (s.car c).fec with skip := 0 } := by
  unfold State.segmentTaken
  rw [modFec_fec, modRx_fec]

theorem segmentTaken_rdN (s : State) (c : Carrier) (k : Key) : (s.segmentTaken c).rdN k = s.rdN k := by
  unfold State.segmentTaken
  rw [State.rdN, modFec_rd, modRx_rd, State.rdN]

theorem rxSegmentArrival_next (c : Carrier) (s : State) (hc : s.present c = true) (ha : (s.car c).fec.accepting = true)
    (hl : (s.car c).fec.skip + 16384 ≤ (s.car c).rx.llrs.length) :
    ∃ t, exec (.rxSegmentArrival c) s = .next t ∧
      (t.car c).rx.llrs = (s.car c).rx.llrs.drop ((s.car c).fec.skip + 16384) ∧
      (t.car c).fec.nextNo = (s.car c).fec.nextNo + 1 ∧
      t.rd (K.decSlots c) = ((t.car c).fec.slots : Nat) ∧
      ((s.car c).fec.slots < 1024 → (t.car c).fec.segs.length = (s.car c).fec.segs.length + 1) ∧
      (1024 ≤ (s.car c).fec.slots → t.rd (K.forcedSeg c) = (min (s.rdN (K.forcedSeg c) + 1) max48 : Nat)) := by
  refine ⟨_, rfl, ?_⟩
  obtain ⟨rx, nextNo⟩ := forceRelease_kept (s.segmentTaken c) c
  have slots : ((s.segmentTaken c).car c).fec.slots = (s.car c).fec.slots := by
    rw [segmentTaken_fec]
    rfl
  rw [rxSegmentArrival_eq hc ha hl, slotsChanged_car, slotsChanged_decSlots, slotsChanged_forcedSeg, noteErased_car,
    noteErased_forcedSeg]
  unfold State.segmentAdded
  rw [modFec_rx, modFec_fec, modFec_rd]
  refine ⟨?_, ?_, rfl, fun below => ?_, fun full => ?_⟩
  · rw [rx, State.segmentTaken, modFec_rx, modRx_rx]
  · dsimp only
    rw [nextNo, segmentTaken_fec]
  · rw [forceRelease_below (by rwa [slots]), segmentTaken_fec]
    simp
  · rw [forceRelease_forcedSeg (by rwa [slots]), segmentTaken_rdN]

/-! ### Iterations (06 R181; 01 R35) -/

theorem setPost_length (ps : Posts) (j m b : Nat) (v : Int) : (setPost ps j m b v).length = ps.length := by
  unfold setPost
  split
  · rfl
  · exact List.length_modify ..

/-- Updates of posteriors keep the number of segments. -/
theorem checkStep_length (recs : List (Nat × Nat × Nat × Nat)) (j : Nat) (st : Posts × List (Nat × List Int)) (chk : Nat) :
    (checkStep recs j st chk).1.length = st.1.length := by
  unfold checkStep
  dsimp only
  exact foldl_reading_other (read := List.length) (fun _ _ _ => setPost_length ..) st.1

/-- One segment's part of a pass: its checks one by one, and its new messages (06 R181). -/
def passSegment (oh : Nat) (st : Posts × List (List (Nat × List Int))) (e : Seg × Nat) : Posts × List (List (Nat × List Int)) :=
  let q := (List.range (128 * codeRows oh)).foldl (checkStep (codeRecords (fecCodeDef oh)) (e.2 + 2)) (st.1, e.1.msgs)
  (q.1, st.2 ++ [q.2])

theorem passSegment_posts (oh : Nat) (st : Posts × List (List (Nat × List Int))) (e : Seg × Nat) :
    (passSegment oh st e).1.length = st.1.length :=
  foldl_reading_other (read := fun u : Posts × List (Nat × List Int) => u.1.length) (fun u chk _ => checkStep_length _ _ u chk) _

theorem passSegment_msgs (oh : Nat) (st : Posts × List (List (Nat × List Int))) (e : Seg × Nat) :
    (passSegment oh st e).2.length = st.2.length + 1 := by
  simp [passSegment]

/-- A pass over segments keeps the number of posteriors and gives the messages of each. -/
theorem foldl_lengths {α β γ : Type} {f : List α × List β → γ → List α × List β}
    (posts : ∀ st e, (f st e).1.length = st.1.length)
    (msgs : ∀ st e, (f st e).2.length = st.2.length + 1) (l : List γ) (st : List α × List β) :
    (l.foldl f st).1.length = st.1.length ∧ (l.foldl f st).2.length = st.2.length + l.length := by
  induction l generalizing st with
  | nil => exact ⟨rfl, rfl⟩
  | cons e t ih =>
    obtain ⟨first, second⟩ := ih (f st e)
    exact ⟨first.trans (posts st e), by rw [List.foldl_cons, second, msgs, List.length_cons]; omega⟩

theorem modFec_other_fec (s : State) (c : Carrier) (f : FecState → FecState) : ((s.modFec c.other f).car c).fec = (s.car c).fec := by
  cases c <;> rfl

/-- An iteration counts once in every segment of the window. -/
theorem iterate_iters (oh : Nat) (p2 p1 : List Int) (win : List Seg) :
    (iterate oh p2 p1 win).map Seg.iters = win.map (fun g => g.iters + 1) := by
  unfold iterate
  extract_lets recs r
  have lengths : r.1.length = win.length + 2 ∧ r.2.length = win.length := by
    obtain ⟨posts, msgs⟩ := foldl_lengths (f := passSegment oh) (passSegment_posts oh) (passSegment_msgs oh)
      (win.zip (List.range win.length))
      (p2 :: p1 :: win.map Seg.post, [])
    exact ⟨posts.trans (by simp), msgs.trans (by simp)⟩
  rw [List.map_map]
  have firsts : (win.zip ((r.1.drop 2).zip r.2)).map Prod.fst = win := List.map_fst_zip (by simp [lengths])
  calc _ = ((win.zip ((r.1.drop 2).zip r.2)).map Prod.fst).map (fun g => g.iters + 1) := by rw [List.map_map]; rfl
    _ = _ := by rw [firsts]

theorem decIteration_next (c : Carrier) (s : State) (hc : s.present c = true) (hw : (s.car c).fec.window ≠ []) :
    ∃ t, exec (.decIteration c false) s = .next t ∧
      (t.car c).fec.segs.map Seg.iters = (s.car c).fec.window.map (fun g : Seg => g.iters + 1) ++
        ((s.car c).fec.segs.drop (s.car c).fec.window.length).map Seg.iters := by
  refine ⟨_, rfl, ?_⟩
  simp only [Bool.false_and]
  rw [when_true (by simp [hc, hw]), if_neg Bool.false_ne_true, modFec_fec, modFec_other_fec, modFec_fec]
  simp only [List.map_append]
  exact congrArg (· ++ _) (iterate_iters ..)

/-- Settles O8: each clause is what its command's lemma above says. -/
theorem headersAndSuperframesComplete : Obligations.HeadersAndSuperframesComplete :=
  ⟨rxFrameHeader_next, rxSuperframeBoundary_next, fecAcceptStart_next, fecAcceptStop_next, rxSegmentArrival_next, decIteration_next,
   decWindowSlide_next⟩

end Sys2Proof.Machine
end

section
/-! SUPPORT. Loss of lock and the moves of the carrier state (04 R121, R130, R138 to R140), a carrier while a message is sent over the
Traverse, and the obligation about the loss-of-lock and carrier-move commands. -/

namespace Sys2Proof.Machine

/-! ### The phase and the carrier state (04 R121, R130, R131) -/

/-- Area 22 or 32 is not the area of the host clients' views. -/
theorem acq_area_ne_host (c : Carrier) : 0x22 + c.off ≠ 0x11 := by cases c <;> decide

theorem setPhase_car (s : State) (c : Carrier) (p : Int) (d : Carrier) : (s.setPhase c p).car d = s.car d := by
  rw [State.setPhase, hostFollow_car, wr_car]

/-- Beside the views of the host clients, a move of the phase writes 22.001 alone. -/
theorem setPhase_rd (s : State) (c : Carrier) (p : Int) {k : Key} (h : k.area ≠ 0x11) :
    (s.setPhase c p).rd k = if k = K.acqPhase c then p else s.rd k := by
  rw [State.setPhase, hostFollow_rd _ _ h, wr_rd]

theorem toHunt_rd (s : State) (c : Carrier) (e i : Nat) :
    (s.toHunt c).rd ⟨0x22 + c.off, e, i⟩ = (s.wr (K.acqPhase c) phHunt).rd ⟨0x22 + c.off, e, i⟩ := by
  unfold State.toHunt State.toCma State.zeroCommon State.setCommon State.rxStatusBit
  rw [State.rd_wr_other _ _ (by simp), modRx_rd, modRx_rd, State.rd_wr_other _ _ (by simp), State.rd_wr_other _ _ (by simp),
    State.rd_wr_other _ _ (by simp), modRx_rd, setPhase_rd _ _ _ (acq_area_ne_host c), wr_rd]

theorem toHunt_tx (s : State) (c : Carrier) : ((s.toHunt c).car c).tx = (s.car c).tx := by
  unfold State.toHunt State.toCma State.zeroCommon State.setCommon
  simp only [rxStatusBit_car, modRx_tx, wr_car, setPhase_car]

/-! ### Loss of lock becomes final (04 R130, R140) -/

theorem finalLoss_rd (s : State) (c : Carrier) (e i : Nat) : (s.finalLoss c).rd ⟨0x22 + c.off, e, i⟩ = s.rd ⟨0x22 + c.off, e, i⟩ :=
  (State.finalLoss_leads s c (covers_refl _) (Leads.refl _ s)).rd_eq _ (by cases c <;> rfl)

/-- A final loss in SERVICE leaves the return to ACQUIRE due. -/
theorem finalLoss_return {s : State} {c : Carrier} (h : s.rd (K.carState c) = carService) :
    ((s.finalLoss c).car c).tx.returnPending = true := by
  have stopped : ∀ u : State, (u.fecStop c).rd (K.carState c) = u.rd (K.carState c) := fun u =>
    (State.fecStop_leads u c (covers_refl _) (Leads.refl _ u)).rd_eq _ (by cases c <;> rfl)
  have abandoned : ∀ u : State, (u.lxAbandon c).rd (K.carState c) = u.rd (K.carState c) := fun u =>
    (State.lxAbandon_leads u c (covers_refl _) (Leads.refl _ u)).rd_eq _ (by cases c <;> rfl)
  unfold State.finalLoss
  extract_lets unwaiting undecoded ended
  have service : ended.rd (K.carState c) = carService := by
    have before : undecoded.rd (K.carState c) = carService := by rw [stopped, modRx_rd, h]
    unfold ended
    split
    · rw [abandoned, before]
    · exact before
  rw [if_pos service, modTx_tx]

theorem lolEvent_rd (s : State) (c : Carrier) (k : Key) : (s.lolEvent c).rd k = (s.bump (K.lolCount c)).rd k := rfl

/-- A final loss of lock is counted and ends in HUNT, the causes recorded standing; in SERVICE the return to soundings is then due. -/
theorem holdLost_effect (s : State) (c : Carrier) :
    (s.holdLost c).rd (K.acqPhase c) = phHunt ∧
    (s.holdLost c).rd (K.lolCount c) = (min (s.rdN (K.lolCount c) + 1) max48 : Nat) ∧
    (s.holdLost c).rd (K.lolCause c) = s.rd (K.lolCause c) ∧
    (s.rd (K.carState c) = carService → ((s.holdLost c).car c).tx.returnPending = true) := by
  unfold State.holdLost
  rw [toHunt_rd, toHunt_rd, toHunt_rd, toHunt_tx, State.rd_wr_same, State.rd_wr_other _ _ (by simp), State.rd_wr_other _ _ (by simp),
    finalLoss_rd, finalLoss_rd, lolEvent_rd, lolEvent_rd, bump_rd, bump_rd, if_pos rfl, if_neg (by simp)]
  refine ⟨rfl, rfl, rfl, fun service => finalLoss_return ?_⟩
  rw [lolEvent_rd, bump_rd, if_neg (by simp), service]

/-- A cause that begins a loss is the only one recorded. -/
theorem lolCause_fresh (s : State) (c : Carrier) (bit : Nat) : (s.lolCause c bit true).rd (K.lolCause c) = (setBit 0 bit true : Nat) :=
  State.rd_wr_same ..

theorem lolCause_rd_other (s : State) {c : Carrier} {bit : Nat} {fresh : Bool} {k : Key} (h : k ≠ K.lolCause c) :
    (s.lolCause c bit fresh).rd k = s.rd k := State.rd_wr_other _ _ h

theorem lolCause_rdN_other (s : State) {c : Carrier} {bit : Nat} {fresh : Bool} {k : Key} (h : k ≠ K.lolCause c) :
    (s.lolCause c bit fresh).rdN k = s.rdN k := by rw [State.rdN, lolCause_rd_other _ h, State.rdN]

theorem syncLossCount_next (c : Carrier) (s : State) (hc : s.present c = true) (hp : s.rd (K.acqPhase c) = phSync)
    (hf : 2 * s.rdN (K.lofFrames c) ≤ (s.car c).rx.failRun) :
    ∃ t, exec (.syncLossCount c) s = .next t ∧ t.rd (K.acqPhase c) = phHunt ∧ t.rd (K.lolCause c) = 1 ∧
      t.rd (K.lolCount c) = (min (s.rdN (K.lolCount c) + 1) max48 : Nat) := by
  refine ⟨_, rfl, ?_⟩
  rw [when_true (by simp [hc, hp, hf])]
  obtain ⟨phase, count, cause, -⟩ := holdLost_effect (s.lolCause c 0 true) c
  exact ⟨phase, cause.trans (lolCause_fresh s c 0), by rw [← lolCause_rdN_other s (by simp)]; exact count⟩

theorem holdTimeout_next (c : Carrier) (s : State) (hc : s.present c = true) (hp : s.rd (K.acqPhase c) = phHold) :
    ∃ t, exec (.holdTimeout c) s = .next t ∧ t.rd (K.acqPhase c) = phHunt ∧
      t.rd (K.lolCount c) = (min (s.rdN (K.lolCount c) + 1) max48 : Nat) ∧
      (s.rd (K.carState c) = carService → (t.car c).tx.returnPending = true) := by
  refine ⟨_, rfl, ?_⟩
  rw [when_true (by simp [hc, hp])]
  obtain ⟨phase, count, -, due⟩ := holdLost_effect s c
  exact ⟨phase, count, due⟩

theorem frameWaitTimeout_next (c : Carrier) (s : State) (hc : s.present c = true) (hp : s.rd (K.acqPhase c) = phSync)
    (hs : s.rd (K.carState c) = carService) (hw : (s.car c).rx.frameWait = true) :
    ∃ t, exec (.frameWaitTimeout c) s = .next t ∧ t.rd (K.acqPhase c) = phHunt ∧ t.rd (K.lolCause c) = 32 ∧
      (t.car c).tx.returnPending = true := by
  refine ⟨_, rfl, ?_⟩
  rw [when_true (by simp [hc, hp, hs, hw])]
  obtain ⟨phase, -, cause, due⟩ := holdLost_effect (s.lolCause c 5 true) c
  exact ⟨phase, cause.trans (lolCause_fresh s c 5), due (by rw [lolCause_rd_other _ (by simp), hs])⟩

/-! ### HOLD (04 R130, R138, R139; 06 R185) -/

/-- The decoder's acceptance stops where a cause moves LOCKED to HOLD. -/
theorem lossCause_accepting {s : State} {c : Carrier} (bit : Nat) (hl : s.rd (K.acqPhase c) = phLocked) (hh : s.rd (K.lolHold c) ≠ 0) :
    ((s.lossCause c bit).car c).fec.accepting = false := by
  unfold State.lossCause
  rw [if_pos hl]
  extract_lets caused moved restarted stopped
  have hold : stopped.rd (K.lolHold c) = s.rd (K.lolHold c) := by
    unfold stopped restarted moved caused
    rw [fecStop_rd, modRx_rd, State.raise_rd, setPhase_rd _ _ _ (acq_area_ne_host c), if_neg (by simp),
      lolCause_rd_other _ (by simp)]
  rw [if_neg (by rwa [hold])]
  exact (fecStop_effect restarted c).1

theorem lofCountExpiry_next (c : Carrier) (s : State) (hc : s.present c = true) (hp : s.rd (K.acqPhase c) = phLocked)
    (hf : s.rdN (K.lofFrames c) ≤ (s.car c).rx.fawFail) (hh : s.rd (K.lolHold c) ≠ 0) :
    ∃ t, exec (.lofCountExpiry c) s = .next t ∧ t.rd (K.acqPhase c) = phHold ∧ t.rd (K.lolCause c) = 1 ∧
      (t.car c).fec.accepting = false := by
  refine ⟨_, rfl, ?_⟩
  rw [when_true (by simp [hc, hp, hf])]
  obtain ⟨phase, cause⟩ := lossCause_locked 0 hp hh
  exact ⟨phase, cause, lossCause_accepting 0 hp hh⟩

theorem acqHoldRecover_next (c : Carrier) (s : State) (hc : s.present c = true) (hp : s.rd (K.acqPhase c) = phHold)
    (hf : 3 ≤ (s.car c).rx.fawPass) :
    ∃ t, exec (.acqHoldRecover c) s = .next t ∧ t.rd (K.acqPhase c) = phLocked ∧
      t.rd (K.holdRecoverCount c) = (min (s.rdN (K.holdRecoverCount c) + 1) max48 : Nat) := by
  refine ⟨_, rfl, ?_⟩
  rw [when_true (by simp [hc, hp, hf]), State.raise_rd, State.raise_rd, modRx_rd, modRx_rd,
    setPhase_rd _ _ _ (acq_area_ne_host c), setPhase_rd _ _ _ (acq_area_ne_host c), if_pos rfl,
    if_neg (by simp), bump_rd, if_pos rfl]
  exact ⟨rfl, rfl⟩

/-! ### Moves of the carrier state (04 R121, R140) -/

theorem setCar_car (s : State) (c : Carrier) (st : Int) : (s.setCar c st).car c = s.car c := by
  unfold State.setCar
  split
  · rfl
  · rw [evalXpm_other_car, hostFollow_car, raise_car, wr_car]

theorem setCar_carState (s : State) (c : Carrier) (st : Int) : (s.setCar c st).rd (K.carState c) = st := by
  unfold State.setCar
  split
  next same => exact same
  · rw [(State.evalXpm_leads _ c.other (covers_refl _) (Leads.refl _ _)).rd_eq _ (by cases c <;> rfl),
      hostFollow_rd _ _ (by cases c <;> decide), State.raise_rd, State.rd_wr_same]

theorem toFallback_tx (s : State) (c : Carrier) : ((s.toFallback c).car c).tx =
    { (s.car c).tx with cur := s.fallbackSet c, prev := s.fallbackSet c, prevEmpty := true } := by
  unfold State.toFallback
  rw [evalShortfall_car, modTx_tx]

theorem toFallback_rd (s : State) (c : Carrier) {k : Key} (h : k.area ≠ 0x11) : (s.toFallback c).rd k = s.rd k :=
  (State.toFallback_leads s c (covers_refl _) (Leads.refl _ s)).rd_eq k (by cases c <;> simp [Part.within, Part.car, h])

/-- The fallback set is what area 23 holds of it. -/
theorem fallbackSet_congr {s t : State} {c : Carrier} (h : ∀ e i, t.rd ⟨0x23 + c.off, e, i⟩ = s.rd ⟨0x23 + c.off, e, i⟩) :
    t.fallbackSet c = s.fallbackSet c := by
  simp only [State.fallbackSet, State.rdN, h]

/-- The next sounding is a matter of the clock, the running superframe, and the rate and number of sub-carriers in force. -/
theorem nextSounding_congr {s t : State} {c : Carrier} (clock : t.clock = s.clock) (held : (t.car c).tx.held = (s.car c).tx.held)
    (start : (t.car c).tx.sfStart = (s.car c).tx.sfStart) (rate : t.rd (K.symbolRate c) = s.rd (K.symbolRate c))
    (subs : t.rd (K.subcarriers c) = s.rd (K.subcarriers c)) : t.nextSounding c = s.nextSounding c := by
  simp only [State.nextSounding, State.elapsedNs, State.superframeNs, State.subs, State.symRate, State.rdN, clock, held, start, rate, subs]

/-! ### A carrier while a message is sent over the Traverse (10 R285 to R294) -/

/-- A transmitter but for the bytes of its in-band link that wait to be sent (10 R294). -/
def TxState.besidesInBand (x : TxState) : TxState := { x with ibcQueue := [] }

/-- A carrier but for those bytes. -/
def CarrierState.besidesInBand (x : CarrierState) : CarrierState := { x with tx := x.tx.besidesInBand }

theorem startLink_besidesInBand (s : State) (l : Nat) (t : Rat) (c : Carrier) :
    ((s.startLink l t).car c).besidesInBand = (s.car c).besidesInBand := by
  have queued : ∀ (u : State) (d : Carrier) (bytes : List Byte),
      ((u.modTx d (fun x => { x with ibcQueue := x.ibcQueue ++ bytes })).car c).besidesInBand = (u.car c).besidesInBand := by
    intro u d bytes
    cases c <;> cases d <;> rfl
  unfold State.startLink
  dsimp only
  split
  · rfl
  · split
    · rfl
    · split
      · rw [modLink_car]
      · rw [queued, modLink_car]

theorem enqueue_besidesInBand (s : State) (l : Nat) (o : TvOut) (t : Rat) (c : Carrier) :
    ((s.enqueue l o t).car c).besidesInBand = (s.car c).besidesInBand := by
  have credits : ∀ (bs : List (Nat × Nat × Nat)) (u : State), (bs.foldl (fun s b => s.returnCredit (some b)) u).car c = u.car c :=
    fun _ => foldl_reading_other (read := fun u : State => u.car c) (fun u b _ => returnCredit_car u (some b) c)
  unfold State.enqueue
  split
  · rw [startLink_besidesInBand, modLink_car]
  · dsimp only
    rw [startLink_besidesInBand, credits]
    split
    · rw [bump_car, modLink_car]
    · rw [modLink_car]

theorem sendOn_besidesInBand (s : State) (ls : List Nat) (o : TvOut) (c : Carrier) :
    ((s.sendOn ls o).car c).besidesInBand = (s.car c).besidesInBand :=
  foldl_reading_other (read := fun u : State => (u.car c).besidesInBand) (fun u l _ => enqueue_besidesInBand u l o u.now c) s

theorem tvFlood_besidesInBand (s : State) (f : TvFrame) (from_ : Nat) (o : TvOut) (good : Bool) (t : Rat) (c : Carrier) :
    ((s.tvFlood f from_ o good t).car c).besidesInBand = (s.car c).besidesInBand := by
  unfold State.tvFlood
  dsimp only
  split_ifs <;> simp [tvDeliver_car, dedupPut_car, sendOn_besidesInBand]

theorem tvRoute_besidesInBand (s : State) (f : TvFrame) (from_ : Nat) (o : TvOut) (good : Bool) (t : Rat) (c : Carrier) :
    ((s.tvRoute f from_ o good t).car c).besidesInBand = (s.car c).besidesInBand := by
  unfold State.tvRoute
  split
  · exact tvFlood_besidesInBand ..
  · split
    · split
      · rw [tvDeliver_car]
      · rfl
    · split
      · split
        · rw [bump_car]
        · exact enqueue_besidesInBand ..
      · exact tvFlood_besidesInBand ..

theorem originate_besidesInBand (s : State) (type : Nat) (bcast : Bool) (cls dst aux : Nat) (payload : List Byte) (c : Carrier) :
    ((s.originate type bcast cls dst aux payload).car c).besidesInBand = (s.car c).besidesInBand := by
  unfold State.originate
  dsimp only
  rw [tvRoute_besidesInBand]
  cases c <;> rfl

/-! ### The transmitter while a waiting exchange starts (05 R162, R165) -/

theorem modLx_tx (s : State) (c d : Carrier) (f : LxState → LxState) : ((s.modLx c f).car d).tx = (s.car d).tx := by
  cases c <;> cases d <;> rfl

theorem sendLx_tx (s : State) (c : Carrier) (bytes : List Byte) (d : Carrier) :
    ((s.sendLx c bytes).car d).tx.besidesInBand = (s.car d).tx.besidesInBand :=
  congrArg CarrierState.tx (originate_besidesInBand ..)

theorem lxEnd_tx (s : State) (c : Carrier) (result : Int) (d : Carrier) : ((s.lxEnd c result).car d).tx = (s.car d).tx := by
  unfold State.lxEnd
  rw [modLx_tx, wr_car, wr_car]

theorem lxTry_tx (s : State) (c d : Carrier) : ((s.lxTry c).car d).tx.besidesInBand = (s.car d).tx.besidesInBand := by
  have opened : (s.openDraft fwSource).1.car d = s.car d :=
    (State.openDraft_leads s fwSource (covers_refl _) (Leads.refl _ s)).car_eq d (by cases d <;> rfl)
  have drafted : ∀ (es : List (Key × Val)) (u : State), (es.foldl (fun u e => (draftEffect fwSource e.1 e.2 u).1) u).car d = u.car d :=
    fun _ => foldl_reading_other (read := fun u : State => u.car d) fun u e _ =>
      (draftEffect_leads fwSource e.1 e.2 u (covers_refl _) (Leads.refl _ u)).car_eq d (by cases d <;> rfl)
  have validated : ∀ u : State, (u.validateDraft fwSource).1.car d = u.car d := fun u =>
    (State.validateDraft_leads u fwSource (covers_refl _) (Leads.refl _ u)).car_eq d (by cases d <;> rfl)
  have ended : ∀ u : State, (u.endDraft 4 0).car d = u.car d := fun u =>
    (State.endDraft_leads u 4 0 (covers_refl _) (Leads.refl _ u)).car_eq d (by cases d <;> rfl)
  unfold State.lxTry
  dsimp only
  split
  · rfl
  · split
    · rw [lxEnd_tx, ended, validated, drafted, modLx_tx, opened]
    · rw [sendLx_tx, wr_car, tookFree_car, modLx_tx, validated, drafted, modLx_tx, opened]

theorem lxPump_tx (s : State) (c : Carrier) : ((s.lxPump).car c).tx.besidesInBand = (s.car c).tx.besidesInBand := by
  unfold State.lxPump
  split
  · rfl
  · split
    · rfl
    · exact lxTry_tx ..

theorem lxPump_carState (s : State) (c : Carrier) : s.lxPump.rd (K.carState c) = s.rd (K.carState c) :=
  (State.lxPump_leads s (covers_refl _) (Leads.refl _ s)).rd_eq _ (by cases c <;> rfl)

/-! ### The return to ACQUIRE (04 R121, R140) -/

theorem startSearch_tx (s : State) (c : Carrier) : ((s.startSearch c).car c).tx = (s.car c).tx := by
  unfold State.startSearch
  dsimp only
  rw [modRx_tx, wr_car, wr_car]

theorem startSearch_carState (s : State) (c : Carrier) : (s.startSearch c).rd (K.carState c) = s.rd (K.carState c) :=
  (State.startSearch_leads s c (covers_refl _) (Leads.refl _ s)).rd_eq _ (by cases c <;> rfl)

/-- The carrier returned sends soundings from the next one on, with the fallback set. -/
theorem serviceToAcquire_effect (s : State) (c : Carrier) :
    (s.serviceToAcquire c).rd (K.carState c) = carAcquire ∧ ((s.serviceToAcquire c).car c).tx.sending = Sending.soundings ∧
    ((s.serviceToAcquire c).car c).tx.frameNo = s.nextSounding c ∧ ((s.serviceToAcquire c).car c).tx.cur = s.fallbackSet c := by
  unfold State.serviceToAcquire
  extract_lets moved cancelled fallen sent entered
  have moves := State.setCar_leads s c carAcquire (covers_refl _) (Leads.refl _ s)
  have falls := State.toFallback_leads cancelled c (covers_refl _) (Leads.refl _ cancelled)
  have rds : ∀ k : Key, k.area ≠ 0x11 → fallen.rd k = moved.rd k := fun k hk => by
    unfold fallen cancelled State.cancelPending
    rw [toFallback_rd _ _ hk, modTx_rd]
  have fallback : cancelled.fallbackSet c = s.fallbackSet c := fallbackSet_congr fun e i => by
    unfold cancelled State.cancelPending
    rw [modTx_rd, moves.rd_eq _ (by cases c <;> rfl)]
  have tx : (fallen.car c).tx = { (s.car c).tx with
      pend := none, nextTables := none, cur := s.fallbackSet c, prev := s.fallbackSet c, prevEmpty := true } := by
    unfold fallen
    rw [toFallback_tx, fallback]
    unfold cancelled State.cancelPending
    rw [modTx_tx, setCar_car]
  have next : fallen.nextSounding c = s.nextSounding c := by
    refine nextSounding_congr ?_ (by rw [tx]) (by rw [tx]) ?_ ?_
    · have before : cancelled.clock = moved.clock := by cases c <;> rfl
      exact (falls.1.2 .clock (by cases c <;> rfl)).trans (before.trans (moves.1.2 .clock (by cases c <;> rfl)))
    · rw [rds _ (by cases c <;> decide), moves.rd_eq _ (by cases c <;> rfl)]
    · rw [rds _ (by cases c <;> decide), moves.rd_eq _ (by cases c <;> rfl)]
  have done : entered.rd (K.carState c) = carAcquire ∧ (entered.car c).tx.sending = Sending.soundings ∧
      (entered.car c).tx.frameNo = s.nextSounding c ∧ (entered.car c).tx.cur = s.fallbackSet c := by
    unfold entered sent
    rw [modRx_rd, modTx_rd, rds _ (by cases c <;> decide), modRx_tx, modTx_tx, next, tx]
    exact ⟨setCar_carState .., rfl, rfl, rfl⟩
  split
  · rw [startSearch_carState, startSearch_tx]
    exact done
  · exact done

theorem serviceToAcquire_next (c : Carrier) (s : State) (hc : s.present c = true) (hs : s.rd (K.carState c) = carService)
    (hr : (s.car c).tx.returnPending = true) :
    ∃ t, exec (.serviceToAcquire c) s = .next t ∧ t.rd (K.carState c) = carAcquire ∧ (t.car c).tx.sending = Sending.soundings ∧
      (t.car c).tx.frameNo = s.nextSounding c ∧ (t.car c).tx.cur = s.fallbackSet c := by
  refine ⟨_, rfl, ?_⟩
  rw [when_true (by simp [hc, hs, hr])]
  dsimp only
  obtain ⟨state, sending, number, cur⟩ := serviceToAcquire_effect s c
  have pumped := lxPump_tx (s.serviceToAcquire c) c
  exact ⟨(lxPump_carState ..).trans state, (congrArg TxState.sending pumped).trans sending,
    (congrArg TxState.frameNo pumped).trans number, (congrArg TxState.cur pumped).trans cur⟩

/-! ### Targets (04 R121; 08 R229, R230) -/

theorem clampKey_carTarget (c : Carrier) (v : Int) : clampKey (K.carTarget c) v = if v ≤ 0 then 0 else if v ≤ 2 then 1 else 3 := by
  cases c <;> rfl

/-- A write of 20.001 stores the clamped target. -/
theorem rwEffect_carTarget (src : Nat) (c : Carrier) (v : Int) (s : State) :
    (rwEffect src (K.carTarget c) v s).1.rd (K.carTarget c) = clampKey (K.carTarget c) v := by
  have canonical : canonKey (K.carTarget c) = K.carTarget c := by cases c <;> rfl
  unfold rwEffect
  rw [canonical]
  exact rwStore_rd_same _ _ _ _ (by cases c <;> decide)

/-- What a write of 20.001 that is accepted has done when the moves it asks for begin: the target is stored; outside areas 02 and 08 no
entry of another number has changed, and no test and no line die has. -/
structure TargetStored (s t : State) (c : Carrier) (v : Int) : Prop where
  target : t.rd (K.carTarget c) = clampKey (K.carTarget c) v
  element : ∀ k : Key, k.area ≠ 0x02 → k.area ≠ 0x08 → k.entry ≠ 0x001 → t.rd k = s.rd k
  test : t.boot = s.boot
  die : t.die c = s.die c

theorem rwEffect_targetStored (src : Nat) (c : Carrier) (v : Int) (s : State) :
    TargetStored s (rwEffect src (K.carTarget c) v (s.accepted src)).1 c v := by
  have frame := rwEffect_leads src (K.carTarget c) v (s.accepted src) (covers_refl _) (Leads.refl _ _)
  have canonical : canonKey (K.carTarget c) = K.carTarget c := by cases c <;> rfl
  rw [canonical] at frame
  refine ⟨rwEffect_carTarget .., fun k h2 h8 he => ?_, ?_, ?_⟩
  · rw [frame.rd_eq k (by cases c <;> simp [Part.within, h2, he]), accepted_rd s src k h8]
  · rw [frame.1.2 .boot (by cases c <;> rfl), accepted_boot]
  · rw [frame.die_eq (by cases c <;> rfl), State.die_congr (accepted_clk s src)]

theorem TargetStored.operational {s t : State} {c : Carrier} {v : Int} (h : TargetStored s t c v) : t.operational = s.operational := by
  rw [State.operational, h.element _ (by decide) (by decide) (by decide), State.operational]

theorem TargetStored.underTest {s t : State} {c : Carrier} {v : Int} (h : TargetStored s t c v) (code target : Nat) :
    t.underTest code target = s.underTest code target := by
  rw [State.underTest, h.test, State.underTest]

theorem TargetStored.carState {s t : State} {c : Carrier} {v : Int} (h : TargetStored s t c v) :
    t.rd (K.carState c) = s.rd (K.carState c) :=
  h.element _ (by cases c <;> decide) (by cases c <;> decide) (by simp)

/-- The moves in OFF, for a target above OFF: with a good REFCLK and an idle PLL the lock sequence starts. -/
theorem carrierMove_off {s : State} {c : Carrier} (ho : s.operational = true) (hu : s.underTest (5 + c.num) 0 = false)
    (hs : s.rd (K.carState c) = carOff) (ht : s.rd (K.carTarget c) ≠ 0) (hp : s.rd (K.pllState c.num) = 0)
    (hw : (s.die c).waitRef = false) (hx : (s.die c).stopped = false) : s.carrierMove c = s.leaveOff c := by
  unfold State.carrierMove
  simp [ho, hu, hs, ht, hp, hw, hx]

theorem startLock_pllState {s : State} {c : Carrier} (h : s.rd K.refclkStatus = 0) : (s.startLock c).rd (K.pllState c.num) = 1 := by
  unfold State.startLock
  dsimp only
  rw [State.rd_wr_same]
  simp [h]

theorem clearTiles_refclkStatus (s : State) (c : Carrier) : (s.clearTiles c).rd K.refclkStatus = s.rd K.refclkStatus :=
  (State.clearTiles_leads s c (covers_refl _) (Leads.refl _ s)).rd_eq _ (by cases c <;> rfl)

theorem leaveOff_pllState {s : State} {c : Carrier} (h : s.rd K.refclkStatus = 0) : (s.leaveOff c).rd (K.pllState c.num) = 1 := by
  unfold State.leaveOff
  refine startLock_pllState ?_
  rw [modDie_rd, clearTiles_refclkStatus, toFallback_rd _ _ (by decide), modTx_rd, State.rd_wr_other _ _ (by cases c <;> decide),
    State.rd_wr_other _ _ (by cases c <;> decide), h]

theorem leaveOff_carTarget (s : State) (c : Carrier) : (s.leaveOff c).rd (K.carTarget c) = s.rd (K.carTarget c) :=
  (State.leaveOff_leads s c (covers_refl _) (Leads.refl _ s)).rd_eq _ (by cases c <;> rfl)

theorem carTargetWrite_off_next (src : Nat) (c : Carrier) (v : Int) (s : State) (ha : s.accepts src (K.carTarget c))
    (ho : s.operational = true) (hu : s.underTest (5 + c.num) 0 = false) (hs : s.rd (K.carState c) = carOff)
    (hp : s.rd (K.pllState c.num) = 0) (hw : (s.die c).waitRef = false) (hx : (s.die c).stopped = false)
    (hr : s.rd K.refclkStatus = 0) (hv : 0 < v) :
    ∃ t, exec (.carTargetWrite src c v) s = .next t ∧ t.answered src .ok ∧ (t.rd (K.carTarget c) = (if v ≤ 2 then 1 else 3)) ∧
      t.rd (K.pllState c.num) = 1 := by
  refine ⟨_, rfl, ?_⟩
  rw [request_accepted s src ha]
  refine ⟨ack_answered .., ?_⟩
  rw [State.ack_rd, State.ack_rd]
  dsimp only
  have stored := rwEffect_targetStored src c v s
  have target := stored.target
  rw [clampKey_carTarget, if_neg (by omega)] at target
  rw [carrierMove_off (stored.operational.trans ho) ((stored.underTest ..).trans hu) (stored.carState.trans hs)
    (by rw [target]; split <;> decide) ((stored.element _ (by simp) (by simp) (by simp)).trans hp) (by rw [stored.die, hw])
    (by rw [stored.die, hx])]
  exact ⟨by rw [leaveOff_carTarget, target], leaveOff_pllState ((stored.element _ (by decide) (by decide) (by decide)).trans hr)⟩

/-- From ACQUIRE or SERVICE a target other than SERVICE takes the carrier off the line. -/
theorem carrierMove_emitting {s : State} {c : Carrier} (ho : s.operational = true) (hu : s.underTest (5 + c.num) 0 = false)
    (he : s.emitting c = true) (ht : s.rd (K.carTarget c) ≠ 3) : s.carrierMove c = s.leaveLine c := by
  have above : 2 ≤ s.rd (K.carState c) := of_decide_eq_true he
  have notOff : s.rd (K.carState c) ≠ carOff := by unfold carOff; omega
  have notStandby : s.rd (K.carState c) ≠ carStandby := by unfold carStandby; omega
  unfold State.carrierMove
  simp [ho, hu, notOff, notStandby, ht]

theorem fecStop_rd_of (s : State) (c : Carrier) {k : Key} (host : k.area ≠ 0x11) (fec : k.area ≠ 0x24 + c.off) :
    (s.fecStop c).rd k = s.rd k :=
  (State.fecStop_leads s c (covers_refl _) (Leads.refl _ s)).rd_eq k (by cases c <;> simp [Part.within, Part.car, host, fec])

theorem leaveLine_effect (s : State) (c : Carrier) :
    (s.leaveLine c).rd (K.carState c) = carStandby ∧ (s.leaveLine c).rd (K.acqPhase c) = phIdle ∧
    ((s.leaveLine c).car c).fec.accepting = false := by
  unfold State.leaveLine
  extract_lets moved cancelled dark silent fallen falling stopped idle restarted unlocked
  have state : falling.rd (K.carState c) = carStandby := by
    have before : fallen.rd (K.carState c) = carStandby := by
      unfold fallen silent cancelled State.cancelPending
      rw [toFallback_rd _ _ (by cases c <;> decide), modTx_rd, modTx_rd]
      exact setCar_carState ..
    unfold falling
    split
    · rw [State.rd_wr_other _ _ (by simp), before]
    · exact before
  have ended : ∀ k : Key, k ≠ K.rxStatus c → k ≠ K.trLock c → (unlocked.rxStatusBit c 0 false).rd k = idle.rd k := fun k hs hl => by
    unfold unlocked restarted
    rw [rxStatusBit_rd_other _ hs, rxStatusBit_rd_other _ hs, State.rd_wr_other _ _ hl, modRx_rd]
  refine ⟨?_, ?_, ?_⟩
  · rw [ended _ (by simp) (by simp)]
    unfold idle stopped
    rw [setPhase_rd _ _ _ (by cases c <;> decide), if_neg (by simp),
      fecStop_rd_of _ _ (by cases c <;> decide) (by cases c <;> decide), state]
  · rw [ended _ (by simp) (by simp)]
    unfold idle
    rw [setPhase_rd _ _ _ (acq_area_ne_host c), if_pos rfl]
  · unfold unlocked restarted idle
    rw [rxStatusBit_car, rxStatusBit_car, wr_car, modRx_fec, setPhase_car]
    exact (fecStop_effect falling c).1

theorem carTargetWrite_standby_next (src : Nat) (c : Carrier) (s : State) (ha : s.accepts src (K.carTarget c))
    (ho : s.operational = true) (hu : s.underTest (5 + c.num) 0 = false) (he : s.emitting c = true) :
    ∃ t, exec (.carTargetWrite src c 1) s = .next t ∧ t.answered src .ok ∧ t.rd (K.carState c) = carStandby ∧
      t.rd (K.acqPhase c) = phIdle ∧ (t.car c).fec.accepting = false := by
  refine ⟨_, rfl, ?_⟩
  rw [request_accepted s src ha]
  refine ⟨ack_answered .., ?_⟩
  rw [State.ack_rd, State.ack_rd, ack_car]
  dsimp only
  have stored := rwEffect_targetStored src c 1 s
  rw [carrierMove_emitting (stored.operational.trans ho) ((stored.underTest ..).trans hu)
    (by rw [State.emitting, stored.carState]; exact he) (by rw [stored.target, clampKey_carTarget]; decide)]
  exact leaveLine_effect ..

/-! ### OFF (04 R121) -/

theorem abandonSearch_tx (s : State) (c : Carrier) : ((s.abandonSearch c).car c).tx = (s.car c).tx := by
  unfold State.abandonSearch
  split
  · rfl
  · rw [wr_car, modRx_tx]

/-- With no edition armed for the carrier, none applies when it stops. -/
theorem applyAtOff_none {s : State} {c : Carrier} (h : s.ed.armed.all (fun e => e.mode ≠ 2 + c.num) = true) : s.applyAtOff c = s := by
  have noneArmed : s.ed.armed.filter (fun e => e.mode = 2 + c.num) = [] := by
    simpa [List.filter_eq_nil_iff, List.all_eq_true] using h
  unfold State.applyAtOff
  rw [noneArmed]
  rfl

/-- A carrier that stops, no edition armed for it, has its PLL off and sends nothing. -/
theorem stopPipelines_effect {s : State} {c : Carrier} (h : s.ed.armed.all (fun e => e.mode ≠ 2 + c.num) = true) :
    (s.stopPipelines c).rd (K.carState c) = s.rd (K.carState c) ∧ (s.stopPipelines c).rd (K.pllState c.num) = 0 ∧
    ((s.stopPipelines c).car c).tx.sending = Sending.nothing := by
  unfold State.stopPipelines
  extract_lets pll halted searched
  have falls := State.toFallback_leads (pll.modTx c (fun t => { t with sending := .nothing, relock := false, held := none })) c
    (covers_refl _) (Leads.refl _ _)
  have search := State.abandonSearch_leads (halted.wr (K.txSfc c) 0) c (covers_refl _) (Leads.refl _ _)
  have ed : searched.ed = s.ed := by
    unfold searched
    rw [State.modRx_ed, search.1.2 .ed (by cases c <;> rfl), State.wr_ed, falls.1.2 .ed (by cases c <;> rfl), State.modTx_ed,
      State.modDie_ed, State.wr_ed]
  have rds : ∀ k : Key, k.area ≠ 0x11 → k ≠ K.txSfc c → k.entry ≠ 0x01E → searched.rd k = (s.wr (K.pllState c.num) 0).rd k := by
    intro k host count state
    unfold searched
    rw [modRx_rd, search.rd_eq k (by cases c <;> simp [Part.within, Part.car, state]), State.rd_wr_other _ _ count]
    unfold halted pll
    rw [toFallback_rd _ _ host, modTx_rd, modDie_rd]
  rw [applyAtOff_none (by rwa [ed]), rds _ (by cases c <;> decide) (by simp) (by simp), rds _ (by simp) (by cases c <;> simp) (by simp),
    State.rd_wr_same, State.rd_wr_other _ _ (by cases c <;> decide)]
  refine ⟨rfl, rfl, ?_⟩
  unfold searched halted
  rw [modRx_tx, abandonSearch_tx, wr_car, toFallback_tx, modTx_tx]

theorem carrierStopComplete_next (c : Carrier) (s : State) (hc : s.present c = true) (hs : s.rd (K.carState c) = carStandby)
    (ht : s.rd (K.carTarget c) = 0) (hd : s.rd (K.contourState c) = 0) (he : s.ed.armed.all (fun e => e.mode ≠ 2 + c.num) = true) :
    ∃ t, exec (.carrierStopComplete c) s = .next t ∧ t.rd (K.carState c) = carOff ∧ t.rd (K.pllState c.num) = 0 ∧
      (t.car c).tx.sending = Sending.nothing := by
  refine ⟨_, rfl, ?_⟩
  rw [when_true (by simp [hc, hs, ht, hd])]
  have ed : (s.setCar c carOff).ed = s.ed :=
    (State.setCar_leads s c carOff (covers_refl _) (Leads.refl _ s)).1.2 .ed (by cases c <;> rfl)
  obtain ⟨state, pll, sending⟩ := stopPipelines_effect (s := s.setCar c carOff) (c := c) (by rwa [ed])
  exact ⟨state.trans (setCar_carState ..), pll, sending⟩

/-- Settles O7: each clause is what its command's lemma above says. -/
theorem lossOfLockComplete : Obligations.LossOfLockComplete :=
  ⟨syncLossCount_next, lofCountExpiry_next, acqHoldRecover_next, holdTimeout_next, frameWaitTimeout_next, serviceToAcquire_next,
   carTargetWrite_off_next, carTargetWrite_standby_next, carrierStopComplete_next⟩

end Sys2Proof.Machine
end

section
/-! SUPPORT. Confirmation (04 R130; 03 R100): the deskews it leaves unset, and the obligation about the acquisition commands. -/

namespace Sys2Proof.Machine

/-- Confirmation sets no deskew of a sub-carrier beyond the 32 that 21.038 has (03 R100). -/
theorem acqLock_scDeskew_beyond (s : State) (c : Carrier) (deskews : List Int) {k : Nat} (hk : 32 ≤ k) :
    (s.acqLock c deskews).rd (K.scDeskew c k) = s.rd (K.scDeskew c k) := by
  unfold State.acqLock
  extract_lets counted timed moved restarted uncorrected ds skewed
  have before : uncorrected.rd (K.scDeskew c k) = s.rd (K.scDeskew c k) := by
    unfold uncorrected restarted moved timed counted
    rw [modFec_rd, modRx_rd, State.raise_rd, setPhase_rd _ _ _ (by cases c <;> simp [Carrier.off]), if_neg (by simp),
      State.rd_wr_other _ _ (by simp), bump_rd, if_neg (by simp)]
  have kept : skewed.rd (K.scDeskew c k) = s.rd (K.scDeskew c k) := by
    rw [← before]
    refine foldl_reading_other (read := fun u : State => u.rd (K.scDeskew c k)) (fun u p hp => State.rd_wr_other _ _ ?_) uncorrected
    have below : p.2 < 32 := List.mem_range.1 (List.of_mem_zip hp).2
    have apart : k ≠ p.2 := by omega
    simp [apart]
  split
  · rw [State.deskewLimit, lossCause_rd_rx _ _ _ _ _ (by decide), State.raise_rd, rxStatusBit_rd_other _ (by simp), kept]
  · rw [rxStatusBit_rd_other _ (by simp), kept]

/-- Nor does the early check that the standard firmware then sends (05 R162). -/
theorem acqLock_next_scDeskew_beyond (c : Carrier) (deskews : List Int) {k : Nat} (hk : 32 ≤ k) (s : State) :
    ∃ t, exec (.acqLock c deskews) s = .next t ∧ t.rd (K.scDeskew c k) = s.rd (K.scDeskew c k) := by
  have requested : ∀ (u : State) (r : LxReq), (u.lxRequest c r).rd (K.scDeskew c k) = u.rd (K.scDeskew c k) := fun u r =>
    (State.lxRequest_leads u c r (covers_refl _) (Leads.refl _ u)).rd_eq _ (by cases c <;> rfl)
  refine ⟨_, rfl, ?_⟩
  unfold when
  split
  · dsimp only
    split
    · rw [modLx_rd, requested, modLx_rd, acqLock_scDeskew_beyond _ _ _ hk]
    · exact acqLock_scDeskew_beyond _ _ _ hk
  · rfl

/-- Carrier A in CONFIRM after three passes, with 20.011 at 6, above the 5 of its range (02, Legend): S is 64. -/
def confirmOfSixtyFour : State :=
  ((State.reset.wr (K.acqPhase .a) phConfirm).wr (K.subcarriers .a) 6).modRx .a (fun r => { r with fawPass := 3 })

/-- Refutes O6: clause (6) promises 21.038[k] for every k below S, in any state, and no hypothesis keeps S within 32. With S = 64 and 33
deskews of 1, confirmation leaves element 32 of 21.038 at 0. The Legend lists 20.011 up to 5: the statement lacks k < 32. -/
theorem not_acquisitionComplete : ¬ Obligations.AcquisitionComplete := by
  unfold Obligations.AcquisitionComplete
  rintro ⟨-, -, -, -, -, locks, -, -⟩
  obtain ⟨t, ht, -, -, deskew⟩ := locks .a (List.replicate 33 1) confirmOfSixtyFour rfl (by decide) (by decide) (by decide)
  obtain ⟨u, hu, kept⟩ := acqLock_next_scDeskew_beyond .a (List.replicate 33 1) (le_refl 32) confirmOfSixtyFour
  obtain rfl : t = u := Host.Outcome.next.inj (ht.symm.trans hu)
  have unset : t.rd (K.scDeskew .a 32) = 0 := kept.trans (by decide)
  have promised : t.rd (K.scDeskew .a 32) = 1 := deskew 32 (by decide)
  exact absurd (unset.symm.trans promised) (by decide)

end Sys2Proof.Machine
end

section
/-! SUPPORT. Loading sets (05 R153 to R157): staging into receive slots and the transmit switch, and the obligation about them. -/

namespace Sys2Proof.Machine

/-! ### What the acceptance of a request leaves to a loading command (09 R246, R257) -/

theorem accepted_clock (s : State) (src : Nat) : (s.accepted src).clock = s.clock := (accepted_leads s src).1.2 .clock (by decide)

/-- No entry of a line area is one that the acceptance of a request counts in. -/
theorem accepted_rd_line (s : State) (src a e i : Nat) (c : Carrier) (h : 0x20 ≤ a) :
    (s.accepted src).rd ⟨a + c.off, e, i⟩ = s.rd ⟨a + c.off, e, i⟩ :=
  accepted_rd s src _ (Nat.ne_of_gt (lt_of_lt_of_le (by decide) (h.trans (Nat.le_add_right a c.off))))

theorem accepted_rdN_line (s : State) (src a e i : Nat) (c : Carrier) (h : 0x20 ≤ a) :
    (s.accepted src).rdN ⟨a + c.off, e, i⟩ = s.rdN ⟨a + c.off, e, i⟩ := by
  rw [State.rdN, accepted_rd_line s src a e i c h, State.rdN]

theorem accepted_subs (s : State) (src : Nat) (c : Carrier) : (s.accepted src).subs c = s.subs c := by
  simp only [State.subs, accepted_car, accepted_rdN_line s src 0x20 _ _ c (by decide)]

theorem accepted_stageSet (s : State) (src : Nat) (c : Carrier) : (s.accepted src).stageSet c = s.stageSet c := by
  simp only [State.stageSet, accepted_rdN_line s src 0x23 _ _ c (by decide)]

theorem accepted_stageRefusal (s : State) (src : Nat) (c : Carrier) : (s.accepted src).stageRefusal c = s.stageRefusal c := by
  simp only [State.stageRefusal, accepted_stageSet, accepted_subs, accepted_car]

theorem accepted_leadNs (s : State) (src : Nat) (c : Carrier) (n : Nat) : (s.accepted src).leadNs c n = s.leadNs c n := by
  simp only [State.leadNs, State.elapsedNs, State.superframeNs, State.symRate, accepted_subs, accepted_car, accepted_clock,
    accepted_rdN_line s src 0x20 _ _ c (by decide)]

theorem accepted_switchRefusal (s : State) (src : Nat) (c : Carrier) (target n : Nat) :
    (s.accepted src).switchRefusal c target n = s.switchRefusal c target n := by
  simp only [State.switchRefusal, accepted_leadNs, accepted_car, accepted_rd_line s src 0x20 _ _ c (by decide),
    accepted_rd_line s src 0x23 _ _ c (by decide), accepted_rdN_line s src 0x20 _ _ c (by decide)]

/-! ### Staging (05 R157) -/

theorem RxState.slot_modSlot (r : RxState) (i : Nat) (f : RxSlot → RxSlot) : (r.modSlot i f).slot i = f (r.slot i) := by
  unfold RxState.modSlot RxState.slot
  split <;> rfl

/-- A staging that no condition refuses empties the slot it chooses while its set is prepared. -/
theorem stage_effect {s : State} {c : Carrier} (h : s.stageRefusal c = 0) :
    (s.stage c).2 = .ok ∧
    ((s.stage c).1.car c).rx.staging = some (⟨(s.car c).rx.stageSlot (s.stageSet c).tag, s.stageSet c⟩ : Staging) ∧
    (((s.stage c).1.car c).rx.slot ((s.car c).rx.stageSlot (s.stageSet c).tag)).held = false := by
  unfold State.stage
  dsimp only
  rw [if_pos h, modRx_rx]
  exact ⟨rfl, rfl, congrArg RxSlot.held (RxState.slot_modSlot ..)⟩

theorem stageCommit_next (src : Nat) (c : Carrier) (s : State) (ha : s.accepts src (K.stageCommit c)) (hr : s.stageRefusal c = 0) :
    ∃ t, exec (.stageCommit src c) s = .next t ∧ t.answered src .ok ∧
      (t.car c).rx.staging = some (⟨(s.car c).rx.stageSlot (s.stageSet c).tag, s.stageSet c⟩ : Staging) ∧
      ((t.car c).rx.slot ((s.car c).rx.stageSlot (s.stageSet c).tag)).held = false := by
  refine ⟨_, rfl, ?_⟩
  obtain ⟨status, staging, emptied⟩ := stage_effect ((accepted_stageRefusal s src c).trans hr)
  rw [accepted_car, accepted_stageSet] at staging emptied
  rw [request_accepted s src ha, status, ack_car]
  exact ⟨ack_answered .., staging, emptied⟩

/-- When a staging is ready, its slot is HELD with its tag and set, and 23.05B reads 0. -/
theorem rxLoadStaged_effect {s : State} {c : Carrier} {g : Staging} (hc : s.present c = true) (hg : (s.car c).rx.staging = some g) :
    ((rxLoadStaged c s).car c).rx.staging = none ∧
    (∃ used staged, ((rxLoadStaged c s).car c).rx.slot g.slot = ⟨g.set.tag, g.set, true, used, staged⟩) ∧
    (rxLoadStaged c s).rd (K.stageResult c) = 0 := by
  unfold rxLoadStaged
  rw [hg]
  dsimp only
  rw [when_true hc, raise_car, wr_car, modRx_rx, State.raise_rd, State.rd_wr_same]
  exact ⟨rfl, ⟨_, _, RxState.slot_modSlot ..⟩, rfl⟩

theorem rxLoadStaged_next (c : Carrier) (g : Staging) (s : State) (hc : s.present c = true) (hg : (s.car c).rx.staging = some g) :
    ∃ t, exec (.rxLoadStaged c) s = .next t ∧ (t.car c).rx.staging = none ∧ ((t.car c).rx.slot g.slot).held = true ∧
      ((t.car c).rx.slot g.slot).tag = g.set.tag ∧ ((t.car c).rx.slot g.slot).set = g.set ∧ t.rd (K.stageResult c) = 0 := by
  have answered : ∀ (u : State) (type seq tag : Nat) (rest : List Byte),
      (u.farSend c type seq tag rest).rd (K.stageResult c) = u.rd (K.stageResult c) := fun u type seq tag rest =>
    (State.farSend_leads u c type seq tag rest (covers_refl _) (Leads.refl _ u)).rd_eq _ (by cases c <;> rfl)
  obtain ⟨staging, ⟨_, _, slot⟩, result⟩ := rxLoadStaged_effect hc hg
  refine ⟨_, rfl, ?_⟩
  dsimp only
  split
  · rw [farSend_rx, modLx_rx, answered, modLx_rd, slot]
    exact ⟨staging, rfl, rfl, rfl, result⟩
  · rw [slot]
    exact ⟨staging, rfl, rfl, rfl, result⟩

/-! ### The transmit switch (05 R153 to R155) -/

/-- A switch to a target that no condition refuses is pending, its tables not yet computed. -/
theorem switchTo_effect {s : State} {c : Carrier} {target n : Nat} (ht : target ≠ 0) (hr : s.switchRefusal c target n = 0) :
    (s.switchTo c target n).2 = .ok ∧
    ((s.switchTo c target n).1.car c).tx.pend = some (⟨target, n, 0⟩ : PendSwitch) ∧
    ((s.switchTo c target n).1.car c).tx.nextTables = none := by
  unfold State.switchTo
  dsimp only
  rw [if_neg ht, if_pos hr, modTx_tx]
  exact ⟨rfl, rfl, rfl⟩

theorem switchTo_cancels (s : State) (c : Carrier) (n : Nat) :
    (s.switchTo c 0 n).2 = .ok ∧ ((s.switchTo c 0 n).1.car c).tx.pend = none := by
  unfold State.switchTo State.cancelPending
  rw [if_pos rfl, modTx_tx]
  exact ⟨rfl, rfl⟩

theorem txSwitch_next (src : Nat) (c : Carrier) (v : Int) (s : State) (ha : s.accepts src (K.txSwitch c))
    (ht : (clampKey (K.txSwitch c) v).toNat / 2 ^ 56 ≠ 0)
    (hr : s.switchRefusal c ((clampKey (K.txSwitch c) v).toNat / 2 ^ 56) ((clampKey (K.txSwitch c) v).toNat % 2 ^ 48) = 0) :
    ∃ t, exec (.txSwitch src c v) s = .next t ∧ t.answered src .ok ∧
      (t.car c).tx.pend = some (⟨(clampKey (K.txSwitch c) v).toNat / 2 ^ 56, (clampKey (K.txSwitch c) v).toNat % 2 ^ 48, 0⟩ : PendSwitch) ∧
      (t.car c).tx.nextTables = none := by
  refine ⟨_, rfl, ?_⟩
  obtain ⟨status, pending, tables⟩ := switchTo_effect ht ((accepted_switchRefusal s src c _ _).trans hr)
  rw [request_accepted s src ha, State.txSwitch, status, ack_car]
  exact ⟨ack_answered .., pending, tables⟩

theorem txSwitch_cancel_next (src : Nat) (c : Carrier) (v : Int) (s : State) (ha : s.accepts src (K.txSwitch c))
    (ht : (clampKey (K.txSwitch c) v).toNat / 2 ^ 56 = 0) :
    ∃ t, exec (.txSwitch src c v) s = .next t ∧ t.answered src .ok ∧ (t.car c).tx.pend = none := by
  refine ⟨_, rfl, ?_⟩
  obtain ⟨status, cancelled⟩ := switchTo_cancels (s.accepted src) c ((clampKey (K.txSwitch c) v).toNat % 2 ^ 48)
  rw [request_accepted s src ha, State.txSwitch, ht, status, ack_car]
  exact ⟨ack_answered .., cancelled⟩

theorem matcherTablesReady_next (c : Carrier) (p : PendSwitch) (s : State) (hc : s.present c = true) (hp : (s.car c).tx.pend = some p) :
    ∃ t, exec (.matcherTablesReady c) s = .next t ∧ (t.car c).tx.nextTables = some (s.pendingSet c p).matchTables ∧
      (t.car c).tx.pend = (s.car c).tx.pend := by
  refine ⟨_, rfl, ?_⟩
  rw [hp]
  dsimp only
  rw [when_true hc, modTx_tx]
  exact ⟨rfl, hp⟩

/-- Settles O10: each clause is what its command's lemma above says. -/
theorem loadingSetsComplete : Obligations.LoadingSetsComplete :=
  ⟨stageCommit_next, rxLoadStaged_next, txSwitch_next, txSwitch_cancel_next, matcherTablesReady_next⟩

end Sys2Proof.Machine
end

section
/-! SUPPORT. How the standard firmware takes a message of the loading exchange (05 R161), and what the near end keeps of what it heard
(05 R162 to R165; 15 R385). -/

namespace Sys2Proof.Machine

/-! ### A message is taken (05 R161) -/

/-- The APP frames held become those left when one is taken. -/
def State.appLeft (s : State) (rest : List (List Byte)) : State := { s with cores := { s.cores with appRx := rest } }

@[simp] theorem appLeft_appRx (s : State) (rest : List (List Byte)) : (s.appLeft rest).cores.appRx = rest := rfl
@[simp] theorem appLeft_rd (s : State) (rest : List (List Byte)) (k : Key) : (s.appLeft rest).rd k = s.rd k := rfl
@[simp] theorem appLeft_car (s : State) (rest : List (List Byte)) (c : Carrier) : (s.appLeft rest).car c = s.car c := by
  cases c <;> rfl
@[simp] theorem appLeft_present (s : State) (rest : List (List Byte)) (c : Carrier) : (s.appLeft rest).present c = s.present c := by
  cases c <;> rfl
@[simp] theorem appLeft_receiverOf (s : State) (rest : List (List Byte)) (src far : Nat) :
    (s.appLeft rest).receiverOf src far = s.receiverOf src far := rfl
@[simp] theorem appLeft_subs (s : State) (rest : List (List Byte)) (c : Carrier) : (s.appLeft rest).subs c = s.subs c := by
  simp only [State.subs, State.rdN, appLeft_car, appLeft_rd]
@[simp] theorem appLeft_fuse (s : State) (rest : List (List Byte)) : (s.appLeft rest).fuse = s.fuse := rfl
@[simp] theorem appLeft_fbCrcOf (s : State) (rest : List (List Byte)) (c : Carrier) : (s.appLeft rest).fbCrcOf c = s.fbCrcOf c := rfl

/-- The standard firmware serves the message it takes on the state without that message. -/
theorem serveLx_taken {s : State} {type from_ : Nat} {p : List Byte} {rest : List (List Byte)} (hf : s.firmware = true)
    (hm : takeLx s.cores.appRx type = some (from_, p, rest)) (f : Nat → List Byte → State → State) :
    s.serveLx type f = f from_ p (s.appLeft rest) := by
  unfold State.serveLx
  simp only [hf, Bool.not_true, Bool.false_eq_true, if_false, hm]
  rfl

/-! ### What the near end keeps of what it heard (05 R162, R163; 15 R385) -/

/-- What messages of the far end leave in the near end's exchange: the tags of the far slots, the stop of retries, the capacity limit. -/
def LxState.heard (x : LxState) : Nat × Nat × Option (List (Nat × Nat) × Nat) × Option Nat :=
  (x.farTag0, x.farTag1, x.blocked, x.capLimit)

/-- The APP frames held, and what carrier c's exchange keeps of what it heard. -/
def State.lxView (s : State) (c : Carrier) : List (List Byte) × Nat × Nat × Option (List (Nat × Nat) × Nat) × Option Nat :=
  (s.cores.appRx, (s.car c).lx.heard)

theorem lxView_iff {s : State} {c : Carrier} {q : List (List Byte)} {a b : Nat} {stop : Option (List (Nat × Nat) × Nat)} {cap : Option Nat} :
    s.lxView c = (q, a, b, stop, cap) ↔ s.cores.appRx = q ∧ (s.car c).lx.farTag0 = a ∧ (s.car c).lx.farTag1 = b ∧
      (s.car c).lx.blocked = stop ∧ (s.car c).lx.capLimit = cap := by
  simp only [State.lxView, LxState.heard, Prod.mk.injEq]

/-- An exchange that keeps what it has heard keeps the far slots' tags that a message gave it. -/
theorem farTags_kept {t told : State} {c : Carrier} {q : List (List Byte)} {a b : Nat} {stop : Option (List (Nat × Nat) × Nat)}
    {cap : Option Nat} {P : Prop} (heard : told.lxView c = (q, a, b, stop, cap)) (kept : t.lxView c = told.lxView c) (rest : P) :
    t.cores.appRx = q ∧ (t.car c).lx.farTag0 = a ∧ (t.car c).lx.farTag1 = b ∧ P := by
  obtain ⟨left, tag0, tag1, -⟩ := lxView_iff.1 (kept.trans heard)
  exact ⟨left, tag0, tag1, rest⟩

section View

variable (s : State) (c d : Carrier)

theorem lxView_congr {s t : State} {c : Carrier} (cores : t.cores = s.cores) (lx : (t.car c).lx = (s.car c).lx) :
    t.lxView c = s.lxView c := by
  rw [State.lxView, cores, lx, State.lxView]

theorem Leads.lxView_eq {ps : List Part} {s t : State} (h : Leads ps s t) (cores : Part.within ps .cores = false) {c : Carrier}
    (car : Part.within ps (.car c) = false) : t.lxView c = s.lxView c :=
  lxView_congr (h.1.2 .cores cores) (by rw [h.car_eq c car])

@[simp] theorem wr_lxView (k : Key) (v : Int) : (s.wr k v).lxView c = s.lxView c := by cases c <;> rfl
@[simp] theorem raise_lxView (code : Nat) (k : Key) : (s.raise code k).lxView c = s.lxView c := by cases c <;> rfl
@[simp] theorem tookFree_lxView : s.tookFree.lxView c = s.lxView c := by cases c <;> rfl
@[simp] theorem modTx_lxView (f : TxState → TxState) : (s.modTx d f).lxView c = s.lxView c := by cases c <;> cases d <;> rfl
@[simp] theorem modRx_lxView (f : RxState → RxState) : (s.modRx d f).lxView c = s.lxView c := by cases c <;> cases d <;> rfl

/-- A change of an exchange that leaves what it heard. -/
theorem modLx_lxView {f : LxState → LxState} (h : ∀ x, (f x).heard = x.heard) : (s.modLx d f).lxView c = s.lxView c := by
  cases c <;> cases d <;> simp [State.lxView, State.modLx, State.modCar, State.car, h]

@[simp] theorem sendLx_lxView (bytes : List Byte) : (s.sendLx d bytes).lxView c = s.lxView c :=
  lxView_congr ((State.sendLx_leads s d bytes (covers_refl _) (Leads.refl _ s)).1.2 .cores rfl)
    (congrArg CarrierState.lx (originate_besidesInBand s _ _ _ _ _ _ c) :)

@[simp] theorem lxDiscard_lxView : (s.lxDiscard d).lxView c = s.lxView c :=
  (State.lxDiscard_leads s d (covers_refl _) (Leads.refl _ s)).lxView_eq rfl (by cases c <;> rfl)

@[simp] theorem endDraft_lxView (result reason : Nat) : (s.endDraft result reason).lxView c = s.lxView c :=
  (State.endDraft_leads s result reason (covers_refl _) (Leads.refl _ s)).lxView_eq rfl (by cases c <;> rfl)

@[simp] theorem openDraft_lxView (src : Nat) : (s.openDraft src).1.lxView c = s.lxView c :=
  (State.openDraft_leads s src (covers_refl _) (Leads.refl _ s)).lxView_eq rfl (by cases c <;> rfl)

@[simp] theorem validateDraft_lxView (src : Nat) : (s.validateDraft src).1.lxView c = s.lxView c :=
  (State.validateDraft_leads s src (covers_refl _) (Leads.refl _ s)).lxView_eq rfl (by cases c <;> rfl)

@[simp] theorem draftEffect_lxView (src : Nat) (k : Key) (v : Val) : (draftEffect src k v s).1.lxView c = s.lxView c :=
  (draftEffect_leads src k v s (covers_refl _) (Leads.refl _ s)).lxView_eq rfl (by cases c <;> rfl)

@[simp] theorem draftWrites_lxView (src : Nat) (es : List (Key × Val)) :
    (es.foldl (fun s e => (draftEffect src e.1 e.2 s).1) s).lxView c = s.lxView c :=
  foldl_reading_other (read := fun u : State => u.lxView c) (fun u e _ => draftEffect_lxView u c src e.1 e.2) s

@[simp] theorem lxEnd_lxView (result : Int) : (s.lxEnd d result).lxView c = s.lxView c := by
  unfold State.lxEnd
  rw [modLx_lxView _ _ _ (fun x => by split <;> rfl), wr_lxView, wr_lxView]

theorem lxTry_lxView : (s.lxTry d).lxView c = s.lxView c := by
  have started : ∀ u : State, (u.modLx d (fun x => { x with waiting := false })).lxView c = u.lxView c := fun u =>
    modLx_lxView u c d fun _ => rfl
  unfold State.lxTry
  dsimp only
  split
  · rfl
  · split
    · rw [lxEnd_lxView, endDraft_lxView, validateDraft_lxView, draftWrites_lxView, started, openDraft_lxView]
    · rw [sendLx_lxView, wr_lxView, tookFree_lxView, modLx_lxView, validateDraft_lxView, draftWrites_lxView, started, openDraft_lxView]
      exact fun _ => rfl

@[simp] theorem lxPump_lxView : s.lxPump.lxView c = s.lxView c := by
  unfold State.lxPump
  split
  · rfl
  · split
    · rfl
    · exact lxTry_lxView ..

@[simp] theorem lxRequest_lxView (r : LxReq) : (s.lxRequest d r).lxView c = s.lxView c := by
  have asked : ∀ u : State,
      (u.modLx d (fun x => { x with run := r, held := none, waiting := true, askedAt := u.datum })).lxPump.lxView c = u.lxView c := by
    intro u
    rw [lxPump_lxView]
    exact modLx_lxView u c d fun _ => rfl
  unfold State.lxRequest
  dsimp only
  split_ifs
  · exact asked s
  · rw [asked, wr_lxView, lxDiscard_lxView, sendLx_lxView]
  · exact modLx_lxView _ _ _ fun _ => rfl

@[simp] theorem lpStart_lxView (down : Bool) : (s.lpStart d down).lxView c = s.lxView c := by
  have chosen : (s.policySet d).1.lxView c = s.lxView c :=
    (State.policySet_leads s d (covers_refl _) (Leads.refl _ s)).lxView_eq rfl (by cases c <;> rfl)
  unfold State.lpStart
  dsimp only
  split_ifs
  · exact chosen
  · rw [lxRequest_lxView, chosen]

theorem switchTo_lxView (target n : Nat) : (s.switchTo d target n).1.lxView c = s.lxView c := by
  unfold State.switchTo State.cancelPending
  dsimp only
  split_ifs <;> simp

@[simp] theorem lxFallBack_lxView : (s.lxFallBack d).lxView c = s.lxView c := switchTo_lxView ..

/-! ### Arming (09 R270) -/

@[simp] theorem rwStore_lxView (src : Nat) (k : Key) (v : Int) : (s.rwStore src k v).lxView c = s.lxView c := by
  unfold State.rwStore
  rw [(State.journal_leads _ _ (covers_refl _) (Leads.refl _ (s.wr k v))).lxView_eq rfl (by cases c <;> rfl), wr_lxView]

theorem prepareSheet_lxView : (s.prepareSheet d).lxView c = s.lxView c := by
  have status : ∀ u : State, (u.cdStatus d).lxView c = u.lxView c := fun u =>
    (State.cdStatus_leads u d (covers_refl _) (Leads.refl _ u)).lxView_eq (by cases d <;> rfl) (by cases c <;> cases d <;> rfl)
  unfold State.prepareSheet
  dsimp only
  split
  · rfl
  · split
    · rfl
    · split_ifs <;> simp [status]

theorem announce_lxView (e : Edition) : (s.announce e d).lxView c = s.lxView c := by
  unfold State.announce
  split
  · exact modTx_lxView ..
  · rfl

theorem armEdition_lxView (e : Edition) : (s.armEdition e).lxView c = s.lxView c := by
  unfold State.armEdition
  extract_lets editions kept dropped raised
  have recorded : raised.lxView c = kept.lxView c := by
    unfold raised dropped
    rw [raise_lxView, (State.dropDraft_leads _ (covers_refl _) (Leads.refl _ _)).lxView_eq rfl (by cases c <;> rfl),
      (State.recordRules_leads _ _ (covers_refl _) (Leads.refl _ _)).lxView_eq rfl (by cases c <;> rfl)]
  rw [prepareSheet_lxView, prepareSheet_lxView, announce_lxView, announce_lxView, recorded]
  cases c <;> rfl

@[simp] theorem armDraft_lxView (src group : Nat) : (s.armDraft src group).1.lxView c = s.lxView c := by
  unfold State.armDraft
  split
  · rfl
  · rfl
  · dsimp only
    split
    · rw [(State.addHist_leads _ _ (covers_refl _) (Leads.refl _ _)).lxView_eq rfl (by cases c <;> rfl), wr_lxView, wr_lxView, wr_lxView]
    · split
      · exact armEdition_lxView ..
      · exact (State.rejectDraft_leads _ _ _ (covers_refl _) (Leads.refl _ _)).lxView_eq rfl (by cases c <;> rfl)

end View

end Sys2Proof.Machine
end

section
/-! SUPPORT. The messages of the loading exchange (05 R157, R161 to R166; 15 R385, R386): what the standard firmware does with each, and
the obligation about them. -/

namespace Sys2Proof.Machine

/-! ### The near end: ACK, NACK and COMMIT (05 R162, R163) -/

/-- An exchange that ends writes its state and its result. -/
theorem lxEnd_rd (s : State) (c : Carrier) (result : Int) (k : Key) :
    (s.lxEnd c result).rd k = if k = K.lxResult c then result else if k = K.lxState c then 0 else s.rd k := by
  unfold State.lxEnd
  rw [modLx_rd, wr_rd, wr_rd]

theorem lxDiscard_rd (s : State) (c : Carrier) {k : Key} (h : k.area ≠ 0x50) : (s.lxDiscard c).rd k = s.rd k :=
  (State.lxDiscard_leads s c (covers_refl _) (Leads.refl _ s)).rd_eq k (by simp [Part.within, h])

theorem sendLx_rd (s : State) (c : Carrier) (bytes : List Byte) {k : Key} (h : k.area ≠ 0x50) : (s.sendLx c bytes).rd k = s.rd k :=
  (State.sendLx_leads s c bytes (covers_refl _) (Leads.refl _ s)).rd_eq k (by cases c <;> simp [Part.within, h])

theorem lxPump_armMode (s : State) : s.lxPump.rd K.armMode = s.rd K.armMode :=
  (State.lxPump_leads s (covers_refl _) (Leads.refl _ s)).rd_eq _ rfl

theorem lxPump_lxNackReason (s : State) (c : Carrier) : s.lxPump.rd (K.lxNackReason c) = s.rd (K.lxNackReason c) :=
  (State.lxPump_leads s (covers_refl _) (Leads.refl _ s)).rd_eq _ (by cases c <;> rfl)

theorem rwStore_armMode (s : State) (src : Nat) (v : Int) : (s.rwStore src K.armMode v).rd K.armMode = v := by
  unfold State.rwStore
  rw [(State.journal_leads _ _ (covers_refl _) (Leads.refl _ (s.wr K.armMode v))).rd_eq K.armMode rfl, State.rd_wr_same]

theorem rwStore_armSfc_armMode (s : State) (src : Nat) (v : Int) : (s.rwStore src K.armSfc v).rd K.armMode = s.rd K.armMode :=
  (State.rwStore_leads s src K.armSfc v (covers_refl _) (Leads.refl _ s)).rd_eq K.armMode rfl

theorem armDraft_armMode (s : State) (src group : Nat) : (s.armDraft src group).1.rd K.armMode = s.rd K.armMode :=
  (State.armDraft_leads s src group (covers_refl _) (Leads.refl _ s)).rd_eq K.armMode rfl

theorem lxAckRx_next (from_ : Nat) (p : List Byte) (rest : List (List Byte)) (s : State) (hf : s.firmware = true)
    (hm : takeLx s.cores.appRx 2 = some (from_, p, rest)) (hc : s.present (carrierOf p) = true) (hl : p.length = 11)
    (hs : s.rd (K.lxState (carrierOf p)) = 1) (hq : lxSeq p = (s.car (carrierOf p)).lx.seq) :
    ∃ t, exec (.lxAckRx) s = .next t ∧ t.cores.appRx = rest ∧
      (t.car (carrierOf p)).lx.farTag0 = beNat ((p.drop 6).take 2) ∧
      (t.car (carrierOf p)).lx.farTag1 = beNat ((p.drop 8).take 2) ∧
      ((s.car (carrierOf p)).lx.run.check = false → t.rd K.armMode = (2 + (carrierOf p).num : Nat)) := by
  refine ⟨_, rfl, ?_⟩
  rw [serveLx_taken hf hm]
  generalize carrierOf p = c at *
  extract_lets d x told stopped n mode arming
  subst d
  rw [if_neg (by simp [hc, hl, hs, hq, x])]
  have heard : told.lxView c =
      (rest, beNat ((p.drop 6).take 2), beNat ((p.drop 8).take 2), (s.car c).lx.blocked, (s.car c).lx.capLimit) := by
    simp [told, lxView_iff]
  have armed : arming.1.lxView c = told.lxView c := by simp [arming, mode]
  have moded : arming.1.rd K.armMode = (2 + c.num : Nat) := by
    unfold arming mode
    rw [armDraft_armMode, rwStore_armSfc_armMode, rwStore_armMode]
  have elsewhere : K.armMode ≠ K.lxState c ∧ K.armMode ≠ K.lxResult c := by simp
  split
  next check => exact farTags_kept heard (by simp [stopped]) fun early => absurd check (by simp [x, early])
  next =>
    split
    · refine farTags_kept heard ?_ fun _ => ?_
      · rw [lxPump_lxView, wr_lxView, modLx_lxView _ _ _ (by exact fun _ => rfl), armed]
      · rw [lxPump_armMode, State.rd_wr_other _ _ elsewhere.1, modLx_rd, moded]
    · refine farTags_kept heard ?_ fun _ => ?_
      · rw [lxPump_lxView, lxEnd_lxView, sendLx_lxView, lxDiscard_lxView, armed]
      · rw [lxPump_armMode, lxEnd_rd, if_neg elsewhere.2, if_neg elsewhere.1, sendLx_rd _ _ _ (by decide), lxDiscard_rd _ _ (by decide),
          moded]

/-- What a mismatch compares is a matter of the fallback set's entries, 20.011 and S in force. -/
theorem lxSnapshot_congr {s t : State} {c : Carrier} (loading : ∀ i, t.rd (K.fbLoading c i) = s.rd (K.fbLoading c i))
    (grid : ∀ i, t.rd (K.fbGrid c i) = s.rd (K.fbGrid c i)) (subs : t.rd (K.subcarriers c) = s.rd (K.subcarriers c))
    (car : t.car c = s.car c) : t.lxSnapshot c = s.lxSnapshot c := by
  simp only [State.lxSnapshot, State.fallbackSet, State.subs, State.rdN, loading, grid, subs, car]

theorem lxNackRx_next (from_ : Nat) (p : List Byte) (rest : List (List Byte)) (s : State) (hf : s.firmware = true)
    (hm : takeLx s.cores.appRx 3 = some (from_, p, rest)) (hc : s.present (carrierOf p) = true) (hl : p.length = 8)
    (hs : s.rd (K.lxState (carrierOf p)) = 1) (hq : lxSeq p = (s.car (carrierOf p)).lx.seq) :
    ∃ t, exec (.lxNackRx) s = .next t ∧ t.cores.appRx = rest ∧
      t.rd (K.lxNackReason (carrierOf p)) = (beNat ((p.drop 6).take 2) : Nat) ∧
      ((nth p 6 (0 : Byte)).toNat = 2 → (t.car (carrierOf p)).lx.blocked = some (s.lxSnapshot (carrierOf p))) := by
  refine ⟨_, rfl, ?_⟩
  rw [serveLx_taken hf hm]
  generalize carrierOf p = c at *
  extract_lets d reason noted judged
  subst d
  rw [if_neg (by simp [hc, hl, hs, hq])]
  have kept : ∀ k : Key, k ≠ K.lxNackReason c → k.area ≠ 0x50 → noted.rd k = s.rd k := fun k hk ha => by
    unfold noted
    rw [State.rd_wr_other _ _ hk, lxDiscard_rd _ _ ha, appLeft_rd]
  have car : noted.car c = s.car c := by
    unfold noted
    rw [wr_car, (State.lxDiscard_leads _ c (covers_refl _) (Leads.refl _ _)).car_eq c (by cases c <;> rfl), appLeft_car]
  have snapshot : noted.lxSnapshot c = s.lxSnapshot c :=
    lxSnapshot_congr (fun i => kept _ (by simp) (by cases c <;> simp [Carrier.off]))
      (fun i => kept _ (by simp) (by cases c <;> simp [Carrier.off])) (kept _ (by cases c <;> decide) (by cases c <;> decide)) car
  have judgedReason : judged.rd (K.lxNackReason c) = (beNat ((p.drop 6).take 2) : Nat) := by
    unfold judged
    split <;> simp [noted]
  have judgedLeft : judged.cores.appRx = rest := by
    have left : noted.cores = (s.appLeft rest).cores :=
      (State.lxDiscard_leads _ c (covers_refl _) (Leads.refl _ _)).1.2 .cores rfl
    unfold judged
    split <;> simp [left]
  have judgedBlocked : reason = 2 → (judged.car c).lx.blocked = some (s.lxSnapshot c) := fun mismatch => by
    unfold judged
    rw [if_pos (by simp [mismatch]), modLx_lx, snapshot]
  obtain ⟨left, -, -, blocked, -⟩ := lxView_iff.1 (show (judged.lxEnd c 2).lxPump.lxView c = _ by rw [lxPump_lxView, lxEnd_lxView])
  refine ⟨left.trans judgedLeft, ?_, fun mismatch => blocked.trans (judgedBlocked mismatch)⟩
  rw [lxPump_lxNackReason, lxEnd_rd, if_neg (by simp), if_neg (by simp), judgedReason]

/-- While an exchange is in STAGING none starts. -/
theorem lxPump_of_staging {s : State} (h : s.staging = true) : s.lxPump = s := by
  unfold State.lxPump
  rw [h, Bool.or_true, if_pos rfl]

theorem staging_congr {s t : State} (rd : ∀ c, t.rd (K.lxState c) = s.rd (K.lxState c)) (fuse : t.fuse = s.fuse) :
    t.staging = s.staging := by
  simp only [State.staging, State.present, rd, fuse]

/-- An exchange that is not itself in STAGING ends, and the other stays there. -/
theorem lxEnd_staging {s : State} {c : Carrier} (result : Int) (hs : s.staging = true) (hc : s.rd (K.lxState c) ≠ 1) :
    (s.lxEnd c result).staging = true := by
  have fuse : (s.lxEnd c result).fuse = s.fuse :=
    (State.lxEnd_leads s c result (covers_refl _) (Leads.refl _ s)).1.2 .fuse (by cases c <;> rfl)
  simp only [State.staging, State.present, fuse, lxEnd_rd] at *
  cases c <;> simp_all [Carrier.off]

theorem lxCommitRx_next (from_ : Nat) (p : List Byte) (rest : List (List Byte)) (s : State) (hf : s.firmware = true)
    (hm : takeLx s.cores.appRx 4 = some (from_, p, rest)) (hc : s.present (carrierOf p) = true) (hl : p.length = 17)
    (hs : s.rd (K.lxState (carrierOf p)) = 2 ∨ s.rd (K.lxState (carrierOf p)) = 3) (hq : lxSeq p = (s.car (carrierOf p)).lx.seq) :
    ∃ t, exec (.lxCommitRx) s = .next t ∧ t.cores.appRx = rest ∧
      (t.car (carrierOf p)).lx.farTag0 = beNat ((p.drop 12).take 2) ∧
      (t.car (carrierOf p)).lx.farTag1 = beNat ((p.drop 14).take 2) ∧
      (bitOf (nth p 16 (0 : Byte)).toNat 0 = true → s.staging = true →
        t.rd (K.lxState (carrierOf p)) = 0 ∧ t.rd (K.lxResult (carrierOf p)) = 1) := by
  refine ⟨_, rfl, ?_⟩
  rw [serveLx_taken hf hm]
  generalize carrierOf p = c at *
  extract_lets d state told bits
  subst d
  rw [if_neg (by rcases hs with hs | hs <;> simp [hc, hl, hs, hq, state])]
  have heard : told.lxView c =
      (rest, beNat ((p.drop 12).take 2), beNat ((p.drop 14).take 2), (s.car c).lx.blocked, (s.car c).lx.capLimit) := by
    simp [told, lxView_iff]
  split_ifs with switched fell
  · refine farTags_kept heard (by simp) fun _ staging => ?_
    have still : (told.lxEnd c 1).staging = true := by
      refine lxEnd_staging 1 ((staging_congr (fun _ => by simp [told]) (by simp [told])).trans staging) ?_
      rcases hs with hs | hs <;> simp [told, hs]
    rw [lxPump_of_staging still, lxEnd_rd, lxEnd_rd]
    simp
  · exact farTags_kept heard (by simp) fun h => absurd h switched
  · exact farTags_kept heard rfl fun h => absurd h switched

/-! ### The far end: STAGE and CANCEL (05 R157, R161, R162, R164) -/

theorem lxFarView_subs (s : State) (c : Carrier) (subs crc : Nat) : (s.lxFarView c subs crc).subs c = s.subs c := by
  cases c <;> rfl

theorem lxFarView_fbCrcOf (s : State) (c : Carrier) (subs crc : Nat) : (s.lxFarView c subs crc).fbCrcOf c = s.fbCrcOf c := by
  unfold State.lxFarView State.fbCrcOf
  rw [fallbackSet_congr fun e i => modLx_rd ..]

/-- 23.052 takes the TAG of the STAGE, whatever the staging answers. -/
theorem stageFrom_stageTag (s : State) (c : Carrier) (p : List Byte) : (s.stageFrom c p).rd (K.stageTag c) = (lxTag p : Nat) := by
  have staged : ∀ u : State, (u.stage c).1.rd (K.stageTag c) = u.rd (K.stageTag c) := fun u =>
    (State.stage_leads u c (covers_refl _) (Leads.refl _ u)).rd_eq _ (by cases c <;> rfl)
  have sent : ∀ (u : State) (type seq tag : Nat) (bytes : List Byte),
      (u.farSend c type seq tag bytes).rd (K.stageTag c) = u.rd (K.stageTag c) := fun u type seq tag bytes =>
    (State.farSend_leads u c type seq tag bytes (covers_refl _) (Leads.refl _ u)).rd_eq _ (by cases c <;> rfl)
  unfold State.stageFrom
  dsimp only
  split
  · rw [modLx_rd, staged, rwStore_rd_same _ _ _ _ (by cases c <;> decide)]
  · rw [sent, staged, rwStore_rd_same _ _ _ _ (by cases c <;> decide)]

theorem lxStageRx_next (c : Carrier) (from_ : Nat) (p : List Byte) (rest : List (List Byte)) (s : State) (hf : s.firmware = true)
    (hm : takeLx s.cores.appRx 1 = some (from_, p, rest)) (hr : s.receiverOf from_ ((nth p 1 (0 : Byte)).toNat % 2) = some c)
    (hn : (nth p 6 (0 : Byte)).toNat = s.subs c) (hl : p.length = 11 + 3 * s.subs c) (hk : beNat ((p.drop 7).take 4) = s.fbCrcOf c) :
    ∃ t, exec (.lxStageRx) s = .next t ∧ t.cores.appRx = rest ∧ t.rd (K.stageTag c) = (lxTag p : Nat) := by
  refine ⟨_, rfl, ?_⟩
  rw [serveLx_taken hf hm]
  dsimp only
  rw [appLeft_receiverOf, hr, hn]
  dsimp only
  rw [if_neg (by simp [hl]), if_neg (by simp [lxFarView_subs]), if_neg (by simp [lxFarView_fbCrcOf, hk])]
  refine ⟨?_, stageFrom_stageTag ..⟩
  have viewed := (State.lxFarView_leads (s.appLeft rest) c (s.subs c) (beNat ((p.drop 7).take 4)) (covers_refl _) (Leads.refl _ _)).1.2
    .cores (by cases c <;> rfl)
  have staged := fun u : State => (State.stageFrom_leads u c p (covers_refl _) (Leads.refl _ u)).1.2 .cores (by cases c <;> rfl)
  rw [staged, viewed, appLeft_appRx]

theorem lxCancelRx_next (c : Carrier) (from_ : Nat) (p : List Byte) (rest : List (List Byte)) (s : State) (hf : s.firmware = true)
    (hm : takeLx s.cores.appRx 5 = some (from_, p, rest)) (hr : s.receiverOf from_ ((nth p 1 (0 : Byte)).toNat % 2) = some c)
    (hq : lxSeq p = (s.car c).lx.rxSeq) :
    ∃ t, exec (.lxCancelRx) s = .next t ∧ t.cores.appRx = rest ∧ (t.car c).lx.rxWait = 0 := by
  refine ⟨_, rfl, ?_⟩
  rw [serveLx_taken hf hm, appLeft_receiverOf, hr]
  dsimp only
  rw [appLeft_car, if_pos hq, State.modLx_cores, modLx_lx]
  exact ⟨rfl, rfl⟩

/-! ### The policy: REPORT and CAP_LIMIT (05 R166; 15 R385, R386) -/

theorem lxReportRx_next (from_ : Nat) (p : List Byte) (rest : List (List Byte)) (s : State) (hf : s.firmware = true)
    (hm : takeLx s.cores.appRx 6 = some (from_, p, rest)) (hc : s.present (carrierOf p) = true)
    (hl : p.length = 7 + 2 * (nth p 6 (0 : Byte)).toNat) :
    ∃ t, exec (.lxReportRx) s = .next t ∧ t.cores.appRx = rest ∧
      (∀ k : Nat, k < min (nth p 6 (0 : Byte)).toNat 32 → t.rd (K.farSnr (carrierOf p) k) =
        clampInt (toSigned 16 (beNat ((p.drop (7 + 2 * k)).take 2))) (-1000) 4000) := by
  refine ⟨_, rfl, ?_⟩
  rw [serveLx_taken hf hm]
  generalize carrierOf p = c at *
  extract_lets d n noted margined awaited known
  subst d
  rw [if_neg (by simp [hc, hl, n])]
  have notedLeft : noted.cores.appRx = rest :=
    foldl_reading_other (read := fun u : State => u.cores.appRx) (fun u _ _ => by rw [State.wr_cores]) (s.appLeft rest)
  have marginedSnr : ∀ k, margined.rd (K.farSnr c k) = noted.rd (K.farSnr c k) := fun k => by
    unfold margined State.reportMargin State.lxFarView
    rw [State.rd_wr_other _ _ (by simp), modLx_rd]
  have knownLeft : known.cores.appRx = rest := by
    unfold known margined State.reportMargin State.lxFarView
    rw [State.modLx_cores, State.wr_cores, State.modLx_cores, notedLeft]
  have knownSnr : ∀ k, k < min n 32 →
      known.rd (K.farSnr c k) = clampInt (toSigned 16 (beNat ((p.drop (7 + 2 * k)).take 2))) (-1000) 4000 := fun k hk => by
    unfold known
    rw [modLx_rd, marginedSnr]
    exact foldl_wr_rd_mem (key := K.farSnr c) (fun k => clampInt (toSigned 16 (beNat ((p.drop (7 + 2 * k)).take 2))) (-1000) 4000)
      (by simp) (List.mem_range.2 hk) (s.appLeft rest)
  have startedLeft : ∀ down, (known.lpStart c down).cores.appRx = rest := fun down => by
    rw [(State.lpStart_leads known c down (covers_refl _) (Leads.refl _ known)).1.2 .cores (by cases c <;> rfl), knownLeft]
  have startedSnr : ∀ down k, (known.lpStart c down).rd (K.farSnr c k) = known.rd (K.farSnr c k) := fun down k =>
    (State.lpStart_leads known c down (covers_refl _) (Leads.refl _ known)).rd_eq _ (by cases c <;> rfl)
  split_ifs
  · exact ⟨knownLeft, knownSnr⟩
  · exact ⟨startedLeft false, fun k hk => (startedSnr false k).trans (knownSnr k hk)⟩
  · exact ⟨startedLeft true, fun k hk => (startedSnr true k).trans (knownSnr k hk)⟩
  · exact ⟨knownLeft, knownSnr⟩

theorem capLimitRx_next (from_ : Nat) (p : List Byte) (rest : List (List Byte)) (s : State) (hf : s.firmware = true)
    (hm : takeLx s.cores.appRx 7 = some (from_, p, rest)) (hc : s.present (carrierOf p) = true) (hl : p.length = 10) :
    ∃ t, exec (.capLimitRx) s = .next t ∧ t.cores.appRx = rest ∧
      (t.car (carrierOf p)).lx.capLimit =
        if beNat ((p.drop 6).take 4) = 4294967295 then none else some (beNat ((p.drop 6).take 4)) := by
  refine ⟨_, rfl, ?_⟩
  rw [serveLx_taken hf hm]
  generalize carrierOf p = c at *
  extract_lets d limit limited
  subst d
  rw [if_neg (by simp [hc, hl])]
  have heard : limited.lxView c = (rest, (s.car c).lx.farTag0, (s.car c).lx.farTag1, (s.car c).lx.blocked,
      if limit = 4294967295 then none else some limit) := by
    simp [limited, lxView_iff]
  split
  · obtain ⟨left, -, -, -, cap⟩ := lxView_iff.1 ((lxRequest_lxView limited c c _).trans heard)
    exact ⟨left, cap⟩
  · obtain ⟨left, -, -, -, cap⟩ := lxView_iff.1 heard
    exact ⟨left, cap⟩

/-- Settles O11: each clause is what its message's lemma above says. The entry that clause (1) reads is STAGE_TAG, 23.052, where its words
have 23.050. -/
theorem exchangeMessagesComplete : Obligations.ExchangeMessagesComplete :=
  ⟨lxStageRx_next, lxAckRx_next, lxNackRx_next, lxCommitRx_next, lxCancelRx_next, lxReportRx_next, capLimitRx_next⟩

end Sys2Proof.Machine
end

section
/-! SUPPORT. The results of the decoder (06 R169, R178, R182, R183, R186, R191): what the outer decoder hands to the deframer, the cap, line
blocks and the interval's figures, and the obligation about them. -/

namespace Sys2Proof.Machine

@[simp] theorem modFec_rdN (s : State) (c : Carrier) (f : FecState → FecState) (k : Key) : (s.modFec c f).rdN k = s.rdN k := by
  rw [State.rdN, modFec_rd, State.rdN]

/-! ### The outer decoder (06 R178, R183, R191) -/

theorem slotsChanged_segCount (s : State) (c : Carrier) : (s.slotsChanged c).rd (K.segCount c) = s.rd (K.segCount c) :=
  (State.slotsChanged_leads s c (covers_refl _) (Leads.refl _ s)).rd_eq _ (by cases c <;> rfl)

/-- A segment is counted in 24.030 whatever its outcome; the counting leaves the start-up segments to come and the payload waiting. -/
theorem countSegment_effect (s : State) (c : Carrier) (g : Seg) (corrected : Bool) (flips : Nat) :
    (s.countSegment c g corrected flips).rd (K.segCount c) = ((s.rdN (K.segCount c) + 1) % 2 ^ 48 : Nat) ∧
    ((s.countSegment c g corrected flips).car c).fec.startup = (s.car c).fec.startup ∧
    ((s.countSegment c g corrected flips).car c).fec.lbQ = (s.car c).fec.lbQ := by
  unfold State.countSegment
  dsimp only
  rw [modFec_rd, modFec_fec]
  cases corrected with
  | true => simp [bumpN_rd, wrapN_rd]
  | false => simp [bump_rd, wrapN_rd]

theorem outerDecodeDone_next (c : Carrier) (o : OutSeg) (rest : List OutSeg) (s : State) (hc : s.present c = true)
    (ho : (s.car c).fec.outer = o :: rest) :
    ∃ t, exec (.outerDecodeDone c) s = .next t ∧
      (t.car c).fec.outer = rest ∧
      (t.car c).fec.startup = (s.car c).fec.startup - 1 ∧
      (t.car c).fec.lbQ.length = (s.car c).fec.lbQ.length + 1 ∧
      t.rd (K.segCount c) =
        (if 0 < (s.car c).fec.startup then s.rd (K.segCount c) else ((s.rdN (K.segCount c) + 1) % 2 ^ 48 : Nat)) := by
  refine ⟨_, rfl, ?_⟩
  unfold outerDecodeDone
  rw [ho]
  dsimp -zeta only
  rw [when_true hc]
  extract_lets oh info dec corrected bits flips n starting counted
  have effect : counted.rd (K.segCount c) =
        (if 0 < (s.car c).fec.startup then s.rd (K.segCount c) else ((s.rdN (K.segCount c) + 1) % 2 ^ 48 : Nat)) ∧
      (counted.car c).fec.startup = (s.car c).fec.startup ∧ (counted.car c).fec.lbQ = (s.car c).fec.lbQ := by
    unfold counted starting
    split
    · exact ⟨rfl, rfl, rfl⟩
    · exact countSegment_effect s c o.seg corrected flips
  obtain ⟨count, startup, waiting⟩ := effect
  rw [slotsChanged_car, slotsChanged_segCount, modFec_fec, modFec_rd, List.length_append, List.length_singleton, startup, waiting]
  exact ⟨rfl, rfl, rfl, count⟩

/-! ### The cap (06 R182) -/

theorem rxFecCapChange_next (s : State) (h : s.capNow ≠ s.rdN K.iterCapEff) :
    ∃ t, exec (.rxFecCapChange) s = .next t ∧ t.rd K.iterCapEff = (s.capNow : Nat) := by
  refine ⟨_, rfl, ?_⟩
  rw [when_true (by simp [h])]
  dsimp only
  split
  · rw [State.raise_rd, State.raise_rd, State.rd_wr_same]
  · rw [State.raise_rd, State.rd_wr_same]

/-! ### Line blocks (06 R178, R186) -/

/-- A line block is counted in 24.040 whatever its header and its bits; the payload waiting stays. -/
theorem takeBlock_effect (s : State) (c : Carrier) (v : Nat) (errored : Bool) :
    (s.takeBlock c v errored).rd (K.lbCount c) = ((s.rdN (K.lbCount c) + 1) % 2 ^ 48 : Nat) ∧
    ((s.takeBlock c v errored).car c).fec.lbQ = (s.car c).fec.lbQ ∧
    ((s.takeBlock c v errored).car c).fec.lbSkip = (s.car c).fec.lbSkip := by
  unfold State.takeBlock
  extract_lets ws h seq good client shown gap checked noted
  have uncounted : checked.rd (K.lbCount c) = s.rd (K.lbCount c) ∧ checked.car c = s.car c := by
    unfold checked
    split_ifs <;> simp [bump_rd]
  have kept : noted.rd (K.lbCount c) = s.rd (K.lbCount c) ∧ noted.car c = s.car c := by
    unfold noted
    split_ifs
    · rw [bump_rd, if_neg (by simp), bump_car]
      exact uncounted
    · exact uncounted
  obtain ⟨count, car⟩ := kept
  rw [wrapN_rd, if_pos rfl, wrapN_car, modFec_fec, car, modFec_rdN, State.rdN, count]
  exact ⟨rfl, rfl, rfl⟩

theorem lineBlockRx_next (c : Carrier) (v0 : Nat) (e0 st0 : Bool) (q : List Chunk) (v : Nat) (errored starting : Bool) (rest : List Chunk)
    (s : State) (hc : s.present c = true) (hs : takeBits (s.car c).fec.lbQ (s.car c).fec.lbSkip 0 false false = some (v0, e0, st0, q))
    (hb : takeBits q 4096 0 false false = some (v, errored, starting, rest)) :
    ∃ t, exec (.lineBlockRx c) s = .next t ∧
      (t.car c).fec.lbQ = rest ∧
      (t.car c).fec.lbSkip = 0 ∧
      t.rd (K.lbCount c) = (if starting then s.rd (K.lbCount c) else ((s.rdN (K.lbCount c) + 1) % 2 ^ 48 : Nat)) := by
  refine ⟨_, rfl, ?_⟩
  unfold lineBlockRx
  rw [when_true hc]
  dsimp only
  rw [hs]
  dsimp only
  rw [hb]
  cases starting with
  | true => simp
  | false =>
    obtain ⟨count, waiting, offset⟩ := takeBlock_effect (s.modFec c (fun f => { f with lbQ := rest, lbSkip := 0 })) c v errored
    rw [modFec_fec] at waiting offset
    rw [modFec_rdN] at count
    exact ⟨waiting, offset, count⟩

/-! ### The interval's figures (06 R191) -/

/-- An event, raised or not, leaves the Legend. -/
theorem raised_rd (s : State) (p : Prop) [Decidable p] (code : Nat) (k j : Key) :
    (if p then s.raise code k else s).rd j = s.rd j := by
  split <;> rfl

theorem pmIntervalEnd_next (c : Carrier) (s : State) (hc : s.present c = true) :
    ∃ t, exec (.pmIntervalEnd c) s = .next t ∧
      t.rd (K.preFecBer c) = clampInt (if (s.car c).fec.ivCoded = 0 then 0
        else openDiv ((s.car c).fec.ivCorr * 1000000000 : Nat) (s.car c).fec.ivCoded) 0 500000000 ∧
      (t.car c).fec.ivCoded = 0 ∧
      (t.car c).fec.ivUncorr = 0 ∧
      (t.car c).fec.ivLen = s.rdN (K.pmInterval c) := by
  refine ⟨_, rfl, ?_⟩
  rw [when_true hc]
  dsimp only
  rw [modFec_rd, modFec_fec, raised_rd, State.rd_wr_other _ _ (by simp), State.rd_wr_same]
  refine ⟨rfl, rfl, rfl, ?_⟩
  dsimp only
  rw [State.rdN, raised_rd, State.rd_wr_other _ _ (by simp), State.rd_wr_other _ _ (by simp), State.rdN]

/-! ### The peak and the suspicion (06, entry 24.022; 06 R169) -/

theorem decPeakClear_next (src : Nat) (c : Carrier) (s : State) (ha : s.accepts src (K.decPeakClear c)) :
    ∃ t, exec (.decPeakClear src c) s = .next t ∧ t.answered src .ok ∧ t.rd (K.decSlotsPeak c) = s.rd (K.decSlots c) := by
  refine ⟨_, rfl, ?_⟩
  rw [request_accepted s src ha, accepted_rd_line s src 0x24 _ _ c (by decide)]
  exact ⟨ack_answered .., by rw [State.ack_rd, State.rd_wr_same]⟩

theorem lxFecSuspect_next (c : Carrier) (s : State) (hc : s.present c = true) (hf : s.firmware = true)
    (hp : s.rd (K.acqPhase c) = phLocked) (ha : (s.car c).fec.anyCorrected = false) :
    ∃ t, exec (.lxFecSuspect c) s = .next t ∧ t = s.raise Ev.lxFecSuspect (K.fecOh c) :=
  ⟨_, rfl, when_true (by simp [hc, hf, hp, ha])⟩

/-- Settles O9: each clause is what its command's lemma above says. That 24.022 sets the peak to the slots present, clause (5), is the model's
choice (log entry 33). -/
theorem decoderResultsComplete : Obligations.DecoderResultsComplete :=
  ⟨outerDecodeDone_next, rxFecCapChange_next, lineBlockRx_next, pmIntervalEnd_next, decPeakClear_next, lxFecSuspect_next⟩

end Sys2Proof.Machine
end

section
/-! SUPPORT. Host lanes (07 R212 to R221): what their operations leave of a lane and of the Legend, where a lane starts, and the obligation
about the lane commands. -/

namespace Sys2Proof.Machine

/-! ### Lanes and clients (07 R192) -/

/-- A host engine outside the parts that change stays as it is. -/
theorem Leads.host_eq {ps : List Part} {s t : State} (h : Leads ps s t) (hk : Part.within ps .host = false) : t.host = s.host :=
  h.1.2 .host hk

@[simp] theorem modLane_rd (s : State) (n : Nat) (f : Lane → Lane) (k : Key) : (s.modLane n f).rd k = s.rd k := rfl
@[simp] theorem modLane_length (s : State) (n : Nat) (f : Lane → Lane) : (s.modLane n f).host.lanes.length = s.host.lanes.length :=
  List.length_modify ..
@[simp] theorem ack_lane (s : State) (src : Nat) (st : Status) (n : Nat) : (s.ack src st).lane n = s.lane n := rfl
@[simp] theorem raise_client (s : State) (code : Nat) (k : Key) (i : Nat) : (s.raise code k).client i = s.client i := rfl
@[simp] theorem modClient_rd (s : State) (i : Nat) (f : Client → Client) (k : Key) : (s.modClient i f).rd k = s.rd k := rfl
@[simp] theorem modClient_length (s : State) (i : Nat) (f : Client → Client) : (s.modClient i f).host.clients.length = s.host.clients.length :=
  List.length_modify ..

@[simp] theorem wrapN_host (s : State) (k : Key) (n : Nat) : (s.wrapN k n).host = s.host :=
  (State.wrapN_leads s k n (covers_refl _) (Leads.refl _ s)).host_eq rfl
@[simp] theorem bumpN_host (s : State) (k : Key) (n : Nat) : (s.bumpN k n).host = s.host :=
  (State.bumpN_leads s k n (covers_refl _) (Leads.refl _ s)).host_eq rfl
@[simp] theorem bump_host (s : State) (k : Key) : (s.bump k).host = s.host := bumpN_host s k 1

theorem State.lane_congr {s t : State} (h : t.host.lanes = s.host.lanes) (n : Nat) : t.lane n = s.lane n := by
  rw [State.lane, h, State.lane]

theorem State.client_congr {s t : State} (h : t.host.clients = s.host.clients) (i : Nat) : t.client i = s.client i := by
  rw [State.client, h, State.client]

/-- An element that a map over one place of a list changes. -/
theorem nth_modify {α : Type} (l : List α) (i j : Nat) (f : α → α) (d : α) :
    nth (l.modify i f) j d = if i = j ∧ j < l.length then f (nth l j d) else nth l j d := by
  simp only [nth, List.getD_eq_getElem?_getD, List.getElem?_modify]
  by_cases hj : j < l.length
  · by_cases hi : i = j <;> simp [hi, hj]
  · simp [hj]

theorem modLane_lane {s : State} {n : Nat} (h : n < s.host.lanes.length) (f : Lane → Lane) : (s.modLane n f).lane n = f (s.lane n) := by
  simp [State.lane, State.modLane, nth_modify, h]

/-- What a change of a lane keeps is as before in every lane. -/
theorem modLane_keeps {α : Type} (read : Lane → α) (s : State) (n m : Nat) {f : Lane → Lane}
    (hf : ∀ l, read (f l) = read l := by intro; rfl) :
    read ((s.modLane n f).lane m) = read (s.lane m) := by
  simp only [State.lane, State.modLane, nth_modify]
  split
  · exact hf _
  · rfl

theorem modClient_client {s : State} {i : Nat} (h : i < s.host.clients.length) (f : Client → Client) :
    (s.modClient i f).client i = f (s.client i) := by
  simp [State.client, State.modClient, nth_modify, h]

/-- What a change of a client keeps is as before in every client. -/
theorem modClient_keeps {α : Type} (read : Client → α) (s : State) (i j : Nat) {f : Client → Client}
    (hf : ∀ x, read (f x) = read x := by intro; rfl) :
    read ((s.modClient i f).client j) = read (s.client j) := by
  simp only [State.client, State.modClient, nth_modify]
  split
  · exact hf _
  · rfl

/-! ### The status of the ingress (07 R202) -/

@[simp] theorem laneFollow_rd (s : State) (n : Nat) (k : Key) : (s.laneFollow n).rd k = s.rd k :=
  (State.laneFollow_leads s n (covers_refl _) (Leads.refl _ s)).rd_eq k (by simp [Part.within])

theorem sendStatus_lanes (s : State) (i : Nat) : (s.sendStatus i).host.lanes = s.host.lanes := by
  unfold State.sendStatus
  dsimp only
  split
  case h_1 => rfl
  case h_2 c _ =>
    split
    · cases c <;> rfl
    · rfl

/-- The status packets that follow a lane change no lane. -/
theorem laneFollow_lanes (s : State) (n : Nat) : (s.laneFollow n).host.lanes = s.host.lanes := by
  refine foldl_reading_other (read := fun s : State => s.host.lanes) (fun s i _ => ?_) s
  unfold State.watchCode
  split
  · rfl
  · exact sendStatus_lanes s i

@[simp] theorem laneFollow_lane (s : State) (n m : Nat) : (s.laneFollow n).lane m = s.lane m := State.lane_congr (laneFollow_lanes s n) m

/-! ### Lane states (07 R212) -/

theorem setLane_rd (s : State) (n : Nat) (st : Int) (k : Key) :
    (s.setLane n st).rd k = if k = K.laneState n then st else s.rd k := by
  unfold State.setLane
  split
  case isTrue h =>
    split
    case isTrue hk => rw [hk, h]
    case isFalse => rfl
  case isFalse => rw [State.raise_rd, wr_rd]

theorem setLane_host (s : State) (n : Nat) (st : Int) : (s.setLane n st).host = s.host :=
  (State.setLane_leads s n st (covers_refl _) (Leads.refl _ s)).host_eq rfl

@[simp] theorem setLane_lane (s : State) (n : Nat) (st : Int) (m : Nat) : (s.setLane n st).lane m = s.lane m :=
  State.lane_congr (congrArg HostState.lanes (setLane_host s n st)) m

/-- A preset changes the lane's own taps alone, entry 10.005. -/
theorem ownPreset_rd (s : State) (n p : Nat) {k : Key} (h : k.entry ≠ 0x005) : (s.ownPreset n p).rd k = s.rd k :=
  (State.ownPreset_leads s n p (covers_refl _) (Leads.refl _ s)).rd_eq k (by simp [Part.within, h])

theorem ownPreset_host (s : State) (n p : Nat) : (s.ownPreset n p).host = s.host :=
  (State.ownPreset_leads s n p (covers_refl _) (Leads.refl _ s)).host_eq rfl

theorem untrainLane_rd (s : State) (n : Nat) (k : Key) : (s.untrainLane n).rd k = if k = K.pcsAligned n then 0 else s.rd k := by
  rw [State.untrainLane, laneFollow_rd, wr_rd, modLane_rd]

theorem backToWait_rd (s : State) (n : Nat) (k : Key) :
    (s.backToWait n).rd k = if k = K.laneState n then 1 else if k = K.pcsAligned n then 0 else s.rd k := by
  rw [State.backToWait, setLane_rd, untrainLane_rd]

/-- The state in which a lane starts by its entries: TEST, training, or data (07 R212). -/
def State.startState (s : State) (n : Nat) : Int :=
  if s.rd (K.loopback n) ≠ 0 ∨ s.rd (K.prbsGen n) ≠ 0 then 9 else if s.on (K.trainEnable n) then 1 else 8

theorem startState_congr {s t : State} {n : Nat} (loop : t.rd (K.loopback n) = s.rd (K.loopback n))
    (gen : t.rd (K.prbsGen n) = s.rd (K.prbsGen n)) (train : t.rd (K.trainEnable n) = s.rd (K.trainEnable n)) :
    t.startState n = s.startState n := by
  unfold State.startState State.on
  rw [loop, gen, train]

theorem untrainLane_startState (s : State) (n : Nat) : (s.untrainLane n).startState n = s.startState n :=
  startState_congr (by simp [untrainLane_rd]) (by simp [untrainLane_rd]) (by simp [untrainLane_rd])

theorem startLane_laneState (s : State) (n : Nat) : (s.startLane n).rd (K.laneState n) = s.startState n := by
  rw [← untrainLane_startState]
  unfold State.startLane State.startState
  simp only [Bool.or_eq_true, decide_eq_true_eq]
  split_ifs <;> rw [setLane_rd, if_pos rfl]

theorem retrainLane_laneState {s : State} {n : Nat} (h : 6 ≤ s.rd (K.laneState n) ∧ s.rd (K.laneState n) ≤ 8) :
    (s.retrainLane n).rd (K.laneState n) = s.startState n := by
  unfold State.retrainLane
  rw [if_pos (by simpa using h), startLane_laneState]

/-- Where 10.000 is not 0 a DISABLED lane starts; where it is 0 the lane is DISABLED (07 R212). -/
theorem laneEnable_laneState {s : State} {n : Nat} (ho : s.operational = true) (ht : s.underTest 3 n = false) :
    (s.on (K.laneEnable n) = false → (s.laneEnable n).rd (K.laneState n) = 0) ∧
    (s.on (K.laneEnable n) = true → s.rd (K.laneState n) = 0 → (s.laneEnable n).rd (K.laneState n) = s.startState n) := by
  unfold State.laneEnable
  simp only [ho, ht, Bool.not_true, Bool.or_self, Bool.false_eq_true, if_false]
  refine ⟨fun off => ?_, fun on disabled => ?_⟩
  · rw [if_neg (by simp [off]), setLane_rd, if_pos rfl]
  · rw [if_pos on, if_pos disabled, startLane_laneState]

/-- Test entries that ask for a test take an enabled lane to TEST (07 R212). -/
theorem testChange_rd {s : State} {n : Nat} (enabled : s.rd (K.laneState n) ≠ 0) (test : s.rd (K.loopback n) ≠ 0 ∨ s.rd (K.prbsGen n) ≠ 0)
    {k : Key} (h : k ≠ K.pcsAligned n) : (s.testChange n).rd k = if k = K.laneState n then 9 else s.rd k := by
  unfold State.testChange
  dsimp only
  rw [if_neg enabled, if_pos (by simpa using test), setLane_rd]
  split_ifs <;> simp [untrainLane_rd, h]

/-! ### Writes of a lane's entries (09 R245, R246) -/

theorem canonKey_lane (e n : Nat) : canonKey ⟨0x10, e, n⟩ = ⟨0x10, e, n⟩ := by simp [canonKey]

theorem rwEffect_lane (src e n : Nat) (v : Int) (s : State) :
    (rwEffect src ⟨0x10, e, n⟩ v s).1.rd ⟨0x10, e, n⟩ = clampKey ⟨0x10, e, n⟩ v := by
  unfold rwEffect
  rw [canonKey_lane]
  exact rwStore_rd_same _ _ _ _ (by simp)

theorem rwEffect_lane_leads (src e n : Nat) (v : Int) (s : State) :
    Leads [.entry 0x10 e, .ed, .entry 0x02 0x042, .ev, .fb] s (rwEffect src ⟨0x10, e, n⟩ v s).1 :=
  rwEffect_leads src ⟨0x10, e, n⟩ v s (by rw [canonKey_lane]; exact covers_refl _) (Leads.refl _ s)

/-- A write of a lane's entry changes no element of another entry, save those of areas 02 and 08. -/
theorem rwEffect_lane_other (src e n : Nat) (v : Int) (s : State) {k : Key} (he : ¬(k.area = 0x10 ∧ k.entry = e)) (h2 : k.area ≠ 0x02)
    (h8 : k.area ≠ 0x08) : (rwEffect src ⟨0x10, e, n⟩ v (s.accepted src)).1.rd k = s.rd k := by
  rw [(rwEffect_lane_leads src e n v _).rd_eq k (by simpa [Part.within, h2] using he), accepted_rd s src k h8]

theorem rwEffect_lane_underTest (src e n : Nat) (v : Int) (s : State) (code target : Nat) :
    (rwEffect src ⟨0x10, e, n⟩ v (s.accepted src)).1.underTest code target = s.underTest code target := by
  rw [State.underTest, (rwEffect_lane_leads src e n v _).1.2 .boot (by simp [Part.within]), accepted_boot, State.underTest]

/-- 10.000 is a Boolean entry. -/
theorem clampKey_laneEnable (n : Nat) (v : Int) : clampKey (K.laneEnable n) v = if v = 0 then 0 else 1 := rfl

theorem laneEnableWrite_next (src n : Nat) (v : Int) (s : State) (ha : s.accepts src (K.laneEnable n)) (ho : s.operational = true)
    (ht : s.underTest 3 n = false) :
    ∃ t, exec (.laneEnableWrite src n v) s = .next t ∧ t.answered src .ok ∧ (v = 0 → t.rd (K.laneState n) = 0) ∧
      (v ≠ 0 → s.rd (K.laneState n) = 0 → t.rd (K.laneState n) = s.startState n) := by
  refine ⟨_, rfl, ?_⟩
  rw [request_accepted s src ha]
  have stored : (rwEffect src (K.laneEnable n) v (s.accepted src)).1.on (K.laneEnable n) = decide (v ≠ 0) := by
    rw [State.on, rwEffect_lane, clampKey_laneEnable]
    split <;> simp_all
  have operational : (rwEffect src (K.laneEnable n) v (s.accepted src)).1.operational = true := by
    simpa [State.operational, rwEffect_lane_other] using ho
  obtain ⟨disabled, starts⟩ := laneEnable_laneState operational ((rwEffect_lane_underTest src 0x000 n v s 3 n).trans ht)
  refine ⟨ack_answered .., fun hv => ?_, fun hv h0 => ?_⟩
  · rw [State.ack_rd]
    exact disabled (stored.trans (by simp [hv]))
  · rw [State.ack_rd]
    dsimp only
    rw [starts (stored.trans (by simp [hv])) (by simpa [rwEffect_lane_other] using h0)]
    exact startState_congr (by simp [rwEffect_lane_other]) (by simp [rwEffect_lane_other]) (by simp [rwEffect_lane_other])

theorem laneSignalDetect_next (n : Nat) (s : State) (hn : n < 8) :
    ∃ t, exec (.laneSignalDetect n) s = .next t ∧ t.rd (K.rxSignal n) = 1 ∧ (s.rd (K.laneState n) = 1 → t.rd (K.laneState n) = 2) := by
  refine ⟨_, rfl, ?_⟩
  rw [when_true (by simpa using hn)]
  dsimp only
  split
  case isTrue => simp [setLane_rd]
  case isFalse waiting =>
    simp only [laneFollow_rd, wr_rd] at waiting ⊢
    simp_all

/-! ### Training (07 R213 to R217) -/

/-- The responder's answer touches a lane's status field alone (07 R214). -/
theorem answer_keeps {α : Type} (read : List Lane → α)
    (hs : ∀ ls n st, read (ls.modify n (fun l => { l with status := st })) = read ls) (s : State) (n req : Nat) :
    read (s.answer n req).host.lanes = read s.host.lanes := by
  have preset : ∀ p, (s.ownPreset n p).host.lanes = s.host.lanes := fun p => congrArg HostState.lanes (ownPreset_host s n p)
  unfold State.answer
  dsimp only
  split_ifs
  · rfl
  · exact (hs ..).trans (congrArg read (preset _))
  · rfl
  · exact hs ..
  · exact hs ..
  · exact hs ..

theorem answer_good (s : State) (n req m : Nat) : ((s.answer n req).lane m).good = (s.lane m).good :=
  answer_keeps (fun ls => (nth ls m Lane.reset).good) (fun _ _ _ => by rw [nth_modify]; split <;> rfl) s n req

theorem answer_length (s : State) (n req : Nat) : (s.answer n req).host.lanes.length = s.host.lanes.length :=
  answer_keeps List.length (fun _ _ _ => List.length_modify ..) s n req

/-- An answer changes no element but the lane's own taps, entry 10.005, and those of its partner, entry 10.014. -/
theorem answer_rd (s : State) (n req : Nat) {k : Key} (own : k.entry ≠ 0x005) (partner : k.entry ≠ 0x014) : (s.answer n req).rd k = s.rd k :=
  (State.answer_leads s n req (covers_refl _) (Leads.refl _ s)).rd_eq k (by simp [Part.within, own, partner])

/-- The third good frame in a row ends FRAME_HUNT, and requests start (07 R212, R216). -/
theorem trainGood_hunt {s : State} {n : Nat} (req status : Nat) (hl : n < s.host.lanes.length) (hunt : s.rd (K.laneState n) = 2)
    (two : 2 ≤ (s.lane n).good) :
    (s.trainGood n req status).rd (K.laneState n) = 3 ∧
    ((s.trainGood n req status).lane n).rq = Requester.start (s.rdN (K.trainStartPreset n)) := by
  unfold State.trainGood
  extract_lets counted answered st
  have state : st = 2 := (answer_rd counted n req (by simp) (by simp)).trans hunt
  have good : (answered.lane n).good = (s.lane n).good + 1 := by
    rw [answer_good, modLane_lane hl]
  have length : n < answered.host.lanes.length := by rwa [answer_length, modLane_length]
  have preset : answered.rdN (K.trainStartPreset n) = s.rdN (K.trainStartPreset n) := by
    rw [State.rdN, answer_rd counted n req (by simp) (by simp)]
    rfl
  rw [if_pos state, if_pos (by omega), setLane_rd, if_pos rfl, setLane_lane, modLane_lane length]
  exact ⟨rfl, congrArg Requester.start preset⟩

theorem nearLoop_of_state {s : State} {n : Nat} (h : s.rd (K.laneState n) ≠ 9) : s.nearLoop n = false := by
  simp [State.nearLoop, State.looped, h]

theorem hostTrainFrameRx_next (n : Nat) (lv : List Int) (ctl : Nat) (s : State) (hn : n < 8) (hl : n < s.host.lanes.length)
    (hunt : s.rd (K.laneState n) = 2) (spelled : trainCtl (s.polar n 1 lv) = some ctl)
    (crc : bitsOf ctl 15 0 = crc16Bits ((bitList 48 ctl).take 32)) (two : 2 ≤ (s.lane n).good) :
    ∃ t, exec (.hostTrainFrameRx n lv) s = .next t ∧ t.rd (K.laneState n) = 3 ∧
      (t.lane n).rq = Requester.start (s.rdN (K.trainStartPreset n)) := by
  refine ⟨_, rfl, ?_⟩
  have far : s.nearLoop n = false := nearLoop_of_state (by omega)
  unfold hostTrainFrameRx
  rw [when_true (by simp [hn, far])]
  extract_lets st got good counting tracked
  have state : st = 2 := hunt
  have isGood : good = true := by simp [good, got, spelled, crc]
  have tracks : tracked = s.modLane n _ := if_pos (by simp [state])
  rw [if_pos (by simp [state]), if_pos isGood, tracks]
  exact trainGood_hunt _ _ (by rwa [modLane_length]) hunt (by rwa [modLane_lane hl])

theorem nextTap_laneFom (s : State) (n : Nat) (fom : Int) : (s.nextTap n fom).rd (K.laneFom n) = s.rd (K.laneFom n) :=
  (State.nextTap_leads s n fom (covers_refl _) (Leads.refl _ s)).rd_eq _ rfl

theorem trainStepMeasure_next (n fom : Nat) (s : State) (hn : n < 8) (training : s.rd (K.laneState n) = 3)
    (measuring : (s.lane n).rq.step = 3) :
    ∃ t, exec (.trainStepMeasure n fom) s = .next t ∧ t.rd (K.laneFom n) = (min fom 4000 : Nat) := by
  refine ⟨_, rfl, ?_⟩
  unfold trainStepMeasure
  rw [when_true (by simp [hn, training, measuring])]
  dsimp only
  split_ifs <;> simp only [nextTap_laneFom, modLane_rd, State.rd_wr_same]

theorem trainCountdownDone_next (n : Nat) (s : State) (hn : n < 8) (counting : s.rd (K.laneState n) = 5) (last : (s.lane n).count = 0) :
    ∃ t, exec (.trainCountdownDone n) s = .next t ∧ t.rd (K.laneState n) = 6 ∧
      t.rd (K.trainTime n) = (min ((s.datum - (s.lane n).timer) / 1000) 500000 : Nat) := by
  refine ⟨_, rfl, ?_⟩
  rw [when_true (by simp [hn, counting, last])]
  simp [setLane_rd]

theorem hostTrainTimeout_next (n : Nat) (s : State) (hn : n < 8) (training : s.training n = true) :
    ∃ t, exec (.hostTrainTimeout n) s = .next t ∧ t.rd (K.laneState n) = 7 ∧
      t.rd (K.trainTimeoutCount n) = (min (s.rdN (K.trainTimeoutCount n) + 1) max48 : Nat) := by
  refine ⟨_, rfl, ?_⟩
  rw [when_true (by simp [hn, training])]
  simp [bump_rd, setLane_rd, State.rdN, ownPreset_rd]

/-! ### Loss of signal, and a new start (07 R212, R218) -/

theorem hostLos_next (n : Nat) (s : State) (hn : n < 8) :
    ∃ t, exec (.hostLos n) s = .next t ∧ t.rd (K.rxSignal n) = 0 ∧ t.rd (K.pcsAligned n) = 0 ∧
      (2 ≤ s.rd (K.laneState n) → s.rd (K.laneState n) ≤ 4 → t.rd (K.laneState n) = 1) := by
  refine ⟨_, rfl, ?_⟩
  rw [when_true (by simpa using hn)]
  extract_lets lost st raised
  have state : st = s.rd (K.laneState n) := by simp [st, lost, wr_rd]
  have signal : lost.rd (K.rxSignal n) = 0 := by simp [lost, wr_rd]
  have aligned : lost.rd (K.pcsAligned n) = 0 := by simp [lost]
  refine ⟨?_, ?_, fun h2 h4 => ?_⟩
  · split_ifs <;> simp [raised, backToWait_rd, ownPreset_rd, signal]
  · split_ifs <;> simp [raised, backToWait_rd, ownPreset_rd, aligned]
  · rw [if_pos (by simp [state, h2, h4]), backToWait_rd, if_pos rfl]

theorem retrain_next (src n : Nat) (s : State) (ha : s.accepts src (K.retrain n)) (h6 : 6 ≤ s.rd (K.laneState n))
    (h8 : s.rd (K.laneState n) ≤ 8) :
    ∃ t, exec (.retrain src n) s = .next t ∧ t.answered src .ok ∧ t.rd (K.laneState n) = s.startState n := by
  refine ⟨_, rfl, ?_⟩
  rw [request_accepted s src ha]
  refine ⟨ack_answered .., ?_⟩
  rw [State.ack_rd, retrainLane_laneState (by simpa using And.intro h6 h8)]
  exact startState_congr (by simp) (by simp) (by simp)

theorem sfLaneRetry_next (n : Nat) (s : State) (hn : n < 8) (hf : s.firmware = true) (period : s.rd K.trainRetry ≠ 0)
    (preset : s.rd (K.laneState n) = 7) (unaligned : s.on (K.pcsAligned n) = false) :
    ∃ t, exec (.sfLaneRetry n) s = .next t ∧ t.rd (K.laneState n) = s.startState n := by
  refine ⟨_, rfl, ?_⟩
  rw [when_true (by simp [hn, hf, period, preset, unaligned]), retrainLane_laneState (by simp [preset])]

/-! ### Loopbacks and test patterns (07 R219 to R221) -/

theorem loopbackWrite_next (src n : Nat) (v : Int) (s : State) (ha : s.accepts src (K.loopback n)) (enabled : s.rd (K.laneState n) ≠ 0)
    (hv : clampKey (K.loopback n) v ≠ 0) :
    ∃ t, exec (.loopbackWrite src n v) s = .next t ∧ t.answered src .ok ∧ t.rd (K.loopback n) = clampKey (K.loopback n) v ∧
      t.rd (K.laneState n) = 9 := by
  refine ⟨_, rfl, ?_⟩
  rw [request_accepted s src ha]
  have stored := rwEffect_lane src 0x020 n v (s.accepted src)
  have enabled' : (rwEffect src (K.loopback n) v (s.accepted src)).1.rd (K.laneState n) ≠ 0 := by simpa [rwEffect_lane_other] using enabled
  have tested := fun k : Key => testChange_rd (k := k) enabled' (.inl (stored ▸ hv))
  refine ⟨ack_answered .., ?_, ?_⟩
  · rw [State.ack_rd, tested _ (by simp), if_neg (by simp), stored]
  · rw [State.ack_rd, tested _ (by simp), if_pos rfl]

theorem prbsGenWrite_next (src n : Nat) (v : Int) (s : State) (ha : s.accepts src (K.prbsGen n)) (enabled : s.rd (K.laneState n) ≠ 0)
    (hv : clampKey (K.prbsGen n) v ≠ 0) :
    ∃ t, exec (.prbsGenWrite src n v) s = .next t ∧ t.answered src .ok ∧ t.rd (K.prbsGen n) = clampKey (K.prbsGen n) v ∧
      t.rd (K.laneState n) = 9 := by
  refine ⟨_, rfl, ?_⟩
  rw [request_accepted s src ha]
  have stored := rwEffect_lane src 0x030 n v (s.accepted src)
  have enabled' : (rwEffect src (K.prbsGen n) v (s.accepted src)).1.rd (K.laneState n) ≠ 0 := by simpa [rwEffect_lane_other] using enabled
  have tested := fun f (k : Key) =>
    testChange_rd (k := k) (s := (rwEffect src (K.prbsGen n) v (s.accepted src)).1.modLane n f) enabled' (.inr (stored ▸ hv))
  refine ⟨ack_answered .., ?_, ?_⟩
  · rw [State.ack_rd, tested _ _ (by simp), if_neg (by simp), modLane_rd, stored]
  · rw [State.ack_rd, tested _ _ (by simp), if_pos rfl]

theorem prbsInject_next (src n : Nat) (v : Int) (s : State) (ha : s.accepts src (K.prbsInject n)) (hl : n < s.host.lanes.length) :
    ∃ t, exec (.prbsInject src n v) s = .next t ∧ t.answered src .ok ∧
      (t.lane n).injectAt.length = (s.lane n).injectAt.length + (clampKey (K.prbsInject n) v).toNat ∧
      (t.lane n).injectAt.take (s.lane n).injectAt.length = (s.lane n).injectAt := by
  refine ⟨_, rfl, ?_⟩
  rw [request_accepted s src ha]
  refine ⟨ack_answered .., ?_⟩
  have same : (s.accepted src).lane n = s.lane n := State.lane_congr (by rw [accepted_host]) n
  have taken := modLane_lane (s := s.accepted src) (n := n) (by rwa [accepted_host])
  rw [ack_lane, taken, same]
  simp

/-- One symbol at the checker (07 R220): while it is locked bits and errors count; at the 64th error-free symbol in a row it locks. -/
theorem prbsLock_next (n e : Nat) (s : State) (hn : n < 8) (hl : n < s.host.lanes.length) (checked : s.rd (K.prbsChk n) ≠ 0) :
    ∃ t, exec (.prbsLock n [e]) s = .next t ∧
      (s.on (K.prbsLock n) = true → t.rd (K.prbsBits n) = ((s.rdN (K.prbsBits n) + 2) % 2 ^ 48 : Nat) ∧
        t.rd (K.prbsErrBits n) = (min (s.rdN (K.prbsErrBits n) + min e 2) max48 : Nat)) ∧
      (s.on (K.prbsLock n) = false → e = 0 → 63 ≤ (s.lane n).clean → t.rd (K.prbsLock n) = 1) := by
  refine ⟨_, rfl, ?_⟩
  unfold prbsLock
  rw [when_true (by simp [hn, checked]), List.foldl_cons, List.foldl_nil]
  refine ⟨fun locked => ?_, fun unlocked clean run => ?_⟩
  · rw [if_pos locked]
    dsimp only
    split_ifs <;> simp [wr_rd, bump_rd, bumpN_rd, wrapN_rd, State.rdN]
  · subst clean
    rw [if_neg (by simp [unlocked])]
    dsimp only
    rw [if_pos (by rw [modLane_lane hl]; simpa using run)]
    simp

/-- Settles O17: each clause is what its command's lemma above says. -/
theorem hostLanesComplete : Obligations.HostLanesComplete :=
  ⟨laneEnableWrite_next, laneSignalDetect_next, hostTrainFrameRx_next, trainStepMeasure_next, trainCountdownDone_next,
   hostTrainTimeout_next, hostLos_next, retrain_next, loopbackWrite_next, prbsGenWrite_next, prbsInject_next, sfLaneRetry_next,
   prbsLock_next⟩

end Sys2Proof.Machine
end

section
/-! SUPPORT. Host clients (07 R197 to R211): what their operations leave of a client, of a lane and of a demapper, and the obligation about
the client commands. -/

namespace Sys2Proof.Machine

/-! ### Clients, status packets and demappers -/

/-- A client that is not as after reset is one of those there are. -/
theorem client_lt {s : State} {i : Nat} (h : s.client i ≠ Client.reset) : i < s.host.clients.length := by
  by_contra beyond
  exact h (by simp [State.client, nth, beyond])

/-- A choice between two states that agree on an element does not matter to it. -/
theorem ite_rd {p : Prop} [Decidable p] {s t u : State} {k : Key} (ht : t.rd k = u.rd k) (hs : s.rd k = u.rd k) :
    (if p then t else s).rd k = u.rd k := by
  split
  · exact ht
  · exact hs

/-- The status packets that wait on a carrier (07 R202). -/
def State.statusOf (s : State) (c : Carrier) : List Packet := if c = .a then s.host.statusA else s.host.statusB

/-- The demapper of a carrier (07 R203). -/
def State.demapOf (s : State) (c : Carrier) : Demap := if c = .a then s.host.demapA else s.host.demapB

theorem queueStatus_statusOf (s : State) (c : Carrier) (p : Packet) : (s.queueStatus c p).statusOf c = s.statusOf c ++ [p] := by
  cases c <;> rfl

theorem State.statusOf_congr {s t : State} (h : t.host = s.host) (c : Carrier) : t.statusOf c = s.statusOf c := by
  rw [State.statusOf, h, State.statusOf]

theorem State.demapOf_congr {s t : State} (h : t.host = s.host) (c : Carrier) : t.demapOf c = s.demapOf c := by
  rw [State.demapOf, h, State.demapOf]

theorem setDemap_demapOf (s : State) (c : Carrier) (d : Demap) : (s.setDemap c d).demapOf c = d := by cases c <;> rfl

theorem setDemap_car (s : State) (c : Carrier) (d : Demap) (e : Carrier) : (s.setDemap c d).car e = s.car e := by
  cases c <;> cases e <;> rfl

theorem evalFault_demapOf (s : State) (i : Nat) (c : Carrier) : (s.evalFault i).demapOf c = s.demapOf c := by
  unfold State.evalFault
  dsimp only
  split <;> rfl

theorem evalFault_alive (s : State) (i j : Nat) : ((s.evalFault i).client j).alive = (s.client j).alive := by
  unfold State.evalFault
  dsimp only
  split
  · rfl
  · rw [raise_client]
    exact modClient_keeps Client.alive s i j

theorem dropQueue_demapOf (s : State) (i : Nat) (c : Carrier) : (s.dropQueue i).demapOf c = s.demapOf c := by
  unfold State.dropQueue
  dsimp only
  split <;> exact State.demapOf_congr (bumpN_host ..) c

/-- What follows a change of a carrier leaves its demapper (07 R208). -/
theorem hostFollow_demapOf (s : State) (c : Carrier) : (s.hostFollow c).demapOf c = s.demapOf c := by
  unfold State.hostFollow
  dsimp only
  have dropping : ((s.carClients c).foldl State.dropQueue s).demapOf c = s.demapOf c :=
    foldl_reading_other (read := fun s : State => s.demapOf c) (fun s i _ => dropQueue_demapOf s i c) s
  refine (foldl_reading_other (read := fun s : State => s.demapOf c) (fun s i _ => evalFault_demapOf s i c) _).trans ?_
  split
  · rfl
  · split <;> exact dropping

/-! ### Ingress of a lane (07 R197, R198) -/

theorem hostBlockRx_next (n corr uncorr : Nat) (slipIn slipOut aligned : Bool) (fault ber : Nat) (s : State) (hn : n < 8)
    (data : s.dataRx n = true) :
    ∃ t, exec (.hostBlockRx n corr uncorr slipIn slipOut aligned fault ber) s = .next t ∧
      t.rd (K.fecCorrSymbols n) = (min (s.rdN (K.fecCorrSymbols n) + corr) max48 : Nat) ∧
      t.rd (K.fecUncorrCw n) = (min (s.rdN (K.fecUncorrCw n) + (if slipIn then max uncorr 1 else uncorr)) max48 : Nat) ∧
      t.rd (K.hostPreFecBer n) = (min ber 500000000 : Nat) := by
  refine ⟨_, rfl, ?_⟩
  unfold hostBlockRx
  rw [when_true (by simp [hn, data])]
  extract_lets counted slippedIn slippedOut shown own faulted
  have kept : ∀ k, k ≠ K.inSlipCount n → k ≠ K.outSlipCount n → k ≠ K.pcsAligned n → faulted.rd k = counted.rd k := by
    intro k hi ho ha
    have slips : slippedIn.rd k = counted.rd k := ite_rd (by rw [State.raise_rd, bump_rd, if_neg hi]) rfl
    have slipped : slippedOut.rd k = counted.rd k := ite_rd (by rw [State.raise_rd, bump_rd, if_neg ho, slips]) slips
    exact ite_rd slipped (by rw [wr_rd, if_neg ha, slipped])
  simp only [laneFollow_rd, wr_rd]
  refine ⟨?_, ?_, if_pos trivial⟩
  · rw [if_neg (by simp), kept _ (by simp) (by simp) (by simp)]
    simp [counted, bumpN_rd]
  · rw [if_neg (by simp), kept _ (by simp) (by simp) (by simp)]
    simp [counted, bumpN_rd, State.rdN]

/-- EMPTY and FAIL bits change nothing else in a lane (07 R197, R198). -/
theorem takeSlotBits_keeps {α : Type} (read : Lane → α) (hf : ∀ l v, read { l with fail := v } = read l)
    (he : ∀ l v, read { l with sinceEmpty := v } = read l) (s : State) (n empty fail m : Nat) :
    read ((s.takeSlotBits n empty fail).lane m) = read (s.lane m) := by
  have setRun : ∀ (s : State) (v : Lane → List Nat), read ((s.modLane n (fun l => { l with sinceEmpty := v l })).lane m) = read (s.lane m) :=
    fun s v => modLane_keeps read s n m (fun l => he l (v l))
  unfold State.takeSlotBits
  refine (foldl_reading_other (read := fun s : State => read (s.lane m)) (fun s k _ => ?_) _).trans
    (modLane_keeps read s n m (fun l => hf l _))
  dsimp only
  split_ifs
  · exact setRun s _
  · rw [State.lane_congr (congrArg HostState.lanes (bump_host ..))]
    exact setRun s _
  · exact setRun s _

theorem takeSlotBits_pcsAligned (s : State) (n empty fail : Nat) :
    (s.takeSlotBits n empty fail).rd (K.pcsAligned n) = s.rd (K.pcsAligned n) :=
  (State.takeSlotBits_leads s n empty fail (covers_refl _) (Leads.refl _ s)).rd_eq _ rfl

theorem dealSlots_rd (s : State) (n empty : Nat) (blocks : List Nat) (k : Key) : (s.dealSlots n empty blocks).rd k = s.rd k :=
  (State.dealSlots_leads s n empty blocks (covers_refl _) (Leads.refl _ s)).rd_eq k (by simp [Part.within])

theorem dealSlots_lane (s : State) (n empty : Nat) (blocks : List Nat) (m : Nat) : (s.dealSlots n empty blocks).lane m = s.lane m := by
  refine foldl_reading_other (read := fun s : State => s.lane m) (fun s k _ => ?_) s
  dsimp only
  split <;> rfl

/-- A lane's run of good slot headers and its lock (07 R198). -/
def Lane.slotSync (l : Lane) : Nat × Bool := (l.slotGood, l.slotLock)

theorem slotHeaderRx_next (n hdr : Nat) (blocks : List Nat) (s : State) (hn : n < 8) (hl : n < s.host.lanes.length)
    (slot : s.rd (K.clientType n) = 5) (data : s.dataRx n = true) (far : s.nearLoop n = false) :
    ∃ t, exec (.slotHeaderRx n hdr blocks) s = .next t ∧
      (t.lane n).slotGood =
        (if bitsOf hdr 63 48 = 0xC5A3 ∧ bitsOf hdr 7 0 = crc8 (beBytes 7 (hdr / 256)) then (s.lane n).slotGood + 1 else 0) ∧
      t.rd (K.pcsAligned n) = b2i (t.lane n).slotLock := by
  refine ⟨_, rfl, ?_⟩
  unfold slotHeaderRx
  rw [when_true (by simp [hn, slot, data, far])]
  extract_lets near back header words emptied ok counted l lock locked empty dealt
  have sameHeader : header = hdr := if_neg (by simp [near, far])
  have lockedLane : locked.lane n = { counted.lane n with slotLock := decide lock } :=
    modLane_lane (by simpa [counted, emptied] using hl) _
  have good : (locked.lane n).slotGood = if ok then (s.lane n).slotGood + 1 else 0 := by
    rw [lockedLane, modLane_lane (by simpa [emptied] using hl), modLane_lane hl]
  have lockShown : (locked.lane n).slotLock = decide lock := by rw [lockedLane]
  have sync : (dealt.lane n).slotSync = (locked.lane n).slotSync := by
    unfold dealt
    split
    · rw [dealSlots_lane]
      exact takeSlotBits_keeps Lane.slotSync (fun _ _ => rfl) (fun _ _ => rfl) locked n _ _ n
    · rfl
  have alignedShown : dealt.rd (K.pcsAligned n) = b2i lock := by
    refine (ite_rd ?_ rfl).trans (State.rd_wr_same _ _ _)
    rw [dealSlots_rd, takeSlotBits_pcsAligned]
  obtain ⟨sameGood, sameLock⟩ := Prod.ext_iff.1 sync
  rw [laneFollow_lane, laneFollow_rd]
  refine ⟨sameGood.trans (good.trans ?_), alignedShown.trans (congrArg b2i (sameLock.trans lockShown).symm)⟩
  simp [ok, sameHeader]

/-! ### Ingress of a client (07 R199 to R202, R206) -/

theorem takeSeq_client {s : State} {i : Nat} (h : i < s.host.clients.length) :
    (s.takeSeq i).client i = { s.client i with seq := ((s.client i).seq + 1) % 256 } :=
  modClient_client h _

/-- A frame's FCS is checked, and a bad one is counted (07 R200). -/
def State.fcsChecked (s : State) (c : Nat) (frame : List Byte) : State := if fcsOk frame then s else s.bump (K.inFcsErr c)

theorem fcsChecked_bad (s : State) (c : Nat) {frame : List Byte} (h : fcsOk frame = false) :
    (s.fcsChecked c frame).rd (K.inFcsErr c) = (min (s.rdN (K.inFcsErr c) + 1) max48 : Nat) := by
  rw [State.fcsChecked, if_neg (by simp [h]), bump_rd, if_pos rfl]

theorem fcsChecked_rd (s : State) (c : Nat) (frame : List Byte) {k : Key} (h : k ≠ K.inFcsErr c) : (s.fcsChecked c frame).rd k = s.rd k :=
  ite_rd rfl (by rw [bump_rd, if_neg h])

theorem fcsChecked_clients (s : State) (c : Nat) (frame : List Byte) : (s.fcsChecked c frame).host.clients = s.host.clients := by
  unfold State.fcsChecked
  split
  · rfl
  · rw [bump_host]

theorem fcsChecked_mapping (s : State) (c : Nat) (frame : List Byte) (i : Nat) : (s.fcsChecked c frame).mapping i = s.mapping i := by
  simp [State.mapping, State.clientCar, State.isEth, fcsChecked_rd]

theorem fcsChecked_queueFree (s : State) (c : Nat) (frame : List Byte) (i : Nat) : (s.fcsChecked c frame).queueFree i = s.queueFree i := by
  simp [State.queueFree, State.nominal, State.rdN, fcsChecked_rd, State.client_congr (fcsChecked_clients s c frame)]

/-- A complete frame that fits waits as a packet with the client's SEQ; a bad FCS is counted (07 R200, R206). -/
theorem frameIn_effect {s : State} {c : Nat} (frame : List Byte) (errored : Bool) (hc : c < s.host.clients.length)
    (mapped : s.mapping c = true) (fits : (packWords (frame.take (s.rdN K.maxFrame)) 2000).length ≤ s.queueFree c) :
    ((s.frameIn c frame errored).client c).queue = (s.client c).queue ++
      [⟨0, c, (s.client c).seq, ((frame.take (s.rdN K.maxFrame)).length + 7) % 8, errored || s.rdN K.maxFrame < frame.length, 0,
        packWords (frame.take (s.rdN K.maxFrame)) 2000⟩] ∧
    ((s.frameIn c frame errored).client c).seq = ((s.client c).seq + 1) % 256 ∧
    (fcsOk frame = false → (s.frameIn c frame errored).rd (K.inFcsErr c) = (min (s.rdN (K.inFcsErr c) + 1) max48 : Nat)) := by
  unfold State.frameIn
  extract_lets checked longest f ws p fit taken
  have clients : checked.host.clients = s.host.clients := fcsChecked_clients s c frame
  have client : checked.client c = s.client c := State.client_congr clients c
  have limit : longest = s.rdN K.maxFrame := congrArg Int.toNat (fcsChecked_rd s c frame (by simp))
  have range : c < checked.host.clients.length := by rwa [clients]
  have numbered : taken.client c = { s.client c with seq := ((s.client c).seq + 1) % 256 } := by
    rw [← client]
    exact takeSeq_client range
  have mapping : taken.mapping c = true := (fcsChecked_mapping s c frame c).trans mapped
  have fitting : fit := by
    have free : checked.queueFree c = s.queueFree c := fcsChecked_queueFree s c frame c
    unfold fit ws f
    rwa [limit, free]
  rw [if_pos (by simp [mapping, fitting]), modClient_client (by simpa [taken, State.takeSeq] using range), numbered]
  refine ⟨?_, rfl, fcsChecked_bad s c⟩
  simp only [p, ws, f, limit, client]

theorem hostFrameIngress_next (c : Nat) (frame : List Byte) (errored : Bool) (s : State) (h8 : c < 8) (hc : c < s.host.clients.length)
    (eth : s.isEth c = true) (content : frame ≠ []) (lanes : s.groupLanes c ≠ []) (data : (s.groupLanes c).all s.dataRx = true)
    (far : (s.groupLanes c).any s.nearLoop = false) (mapped : s.mapping c = true)
    (fits : (packWords (frame.take (s.rdN K.maxFrame)) 2000).length ≤ s.queueFree c) :
    ∃ t, exec (.hostFrameIngress c frame errored) s = .next t ∧
      (t.client c).queue = (s.client c).queue ++ [⟨0, c, (s.client c).seq, ((frame.take (s.rdN K.maxFrame)).length + 7) % 8,
        errored || s.rdN K.maxFrame < frame.length, 0, packWords (frame.take (s.rdN K.maxFrame)) 2000⟩] ∧
      (t.client c).seq = ((s.client c).seq + 1) % 256 ∧
      (fcsOk frame = false → t.rd (K.inFcsErr c) = (min (s.rdN (K.inFcsErr c) + 1) max48 : Nat)) := by
  refine ⟨_, rfl, ?_⟩
  have notNear : (s.groupLanes c).all s.nearLoop = false := by
    obtain ⟨n, hn⟩ := List.exists_mem_of_ne_nil _ lanes
    exact List.all_eq_false.2 ⟨n, hn, List.any_eq_false.1 far n hn⟩
  unfold hostFrameIngress
  rw [when_true (by simp [h8, eth, data]), if_neg (by simp [notNear]), if_neg (by simp [far, content])]
  exact frameIn_effect frame errored hc mapped fits

theorem slotBurstComplete_next (i : Nat) (s : State) (hi : i < 128) (carrier : (s.clientCar (8 + i)).isSome = true)
    (burst : 256 ≤ (s.client (8 + i)).part.length) (mapped : s.mapping (8 + i) = true) (room : (s.client (8 + i)).queue.length < 4) :
    ∃ t, exec (.slotBurstComplete i) s = .next t ∧
      (t.client (8 + i)).queue = (s.client (8 + i)).queue ++ [⟨1, i, (s.client (8 + i)).seq, 0, false, 0, (s.client (8 + i)).part.take 256⟩] ∧
      (t.client (8 + i)).part = (s.client (8 + i)).part.drop 256 ∧
      (t.client (8 + i)).seq = ((s.client (8 + i)).seq + 1) % 256 := by
  refine ⟨_, rfl, ?_⟩
  have range : 8 + i < s.host.clients.length := client_lt (by rintro e; simp [e, Client.reset] at burst)
  unfold slotBurstComplete
  rw [when_true (by simp [hi, carrier, burst])]
  extract_lets x p taken
  have mapping : taken.mapping (8 + i) = true := mapped
  have numbered : taken.client (8 + i) = { x with part := x.part.drop 256, seq := (x.seq + 1) % 256 } := by
    unfold taken
    rw [takeSeq_client (by simpa using range), modClient_client range]
  rw [if_pos (by simp [mapping, x, room]), modClient_client (by simpa [taken, State.takeSeq] using range), numbered]
  exact ⟨rfl, rfl, rfl⟩

/-- A status packet carries the SEQ last assigned, the model's choice (log entry 36), and the present CODE (07 R202). -/
theorem clientStatusTick_next (cl : Nat) (c : Carrier) (s : State) (mapped : s.mapping cl = true) (carrier : s.clientCar cl = some c) :
    ∃ t, exec (.clientStatusTick cl) s = .next t ∧
      t.statusOf c = s.statusOf c ++ [⟨2, if cl < 8 then cl else cl - 8, ((s.client cl).seq + 255) % 256, 0, false, s.statusCode cl, []⟩] := by
  refine ⟨_, rfl, ?_⟩
  rw [when_true mapped]
  unfold State.sendStatus
  simp only [carrier, mapped, if_true]
  exact queueStatus_statusOf ..

/-! ### The mapper (07 R206) -/

theorem sendPacket_host (s : State) (c : Carrier) (p : Packet) : (s.sendPacket c p).host = s.host :=
  (State.sendPacket_leads s c p (covers_refl _) (Leads.refl _ s)).host_eq (by cases c <;> rfl)

theorem sendPacket_clientQ (s : State) (c : Carrier) (p : Packet) :
    ((s.sendPacket c p).car c).tx.clientQ = (s.car c).tx.clientQ ++ p.wordsOf := by
  unfold State.sendPacket
  dsimp only
  split_ifs <;> simp

/-- The mapper takes the status packet that waits first. -/
theorem mapperPacketSend_status_next (c : Carrier) (p : Packet) (rest : List Packet) (s : State) (hp : s.present c = true)
    (service : s.rd (K.carState c) = carService) (waits : s.statusOf c = p :: rest) :
    ∃ t, exec (.mapperPacketSend c) s = .next t ∧ (t.car c).tx.clientQ = (s.car c).tx.clientQ ++ p.wordsOf ∧ t.statusOf c = rest := by
  refine ⟨_, rfl, ?_⟩
  unfold State.statusOf at waits
  unfold mapperPacketSend
  rw [when_true (by simp [hp, service])]
  simp only [waits]
  rw [sendPacket_clientQ, State.statusOf_congr (sendPacket_host ..)]
  cases c <;> exact ⟨rfl, rfl⟩

/-- The round robin changes deficits alone. -/
theorem drr_queue (s : State) (ready : List Nat) (fuel turn i : Nat) :
    ((s.drr ready fuel turn).1.client i).queue = (s.client i).queue := by
  induction fuel generalizing s turn with
  | zero => rfl
  | succ fuel ih =>
    unfold State.drr
    split
    · split
      · rfl
      · exact (ih ..).trans (modClient_keeps Client.queue ..)
    · exact (ih ..).trans ((modClient_keeps Client.queue ..).trans (modClient_keeps Client.queue ..))

/-- It chooses one of the clients that are ready. -/
theorem drr_chosen {ready : List Nat} (h : ready ≠ []) (s : State) (fuel turn : Nat) : ∃ i ∈ ready, (s.drr ready fuel turn).2 = some i := by
  induction fuel generalizing s turn with
  | zero =>
    unfold State.drr
    split
    case isTrue mine => exact ⟨turn, by simpa using mine, rfl⟩
    case isFalse => exact ⟨ready.head h, List.head_mem h, List.head?_eq_some_head h⟩
  | succ fuel ih =>
    unfold State.drr
    split
    · split
      case isTrue mine => exact ⟨turn, by simpa using (Bool.and_eq_true_iff.1 mine).1, rfl⟩
      case isFalse => exact ih ..
    · exact ih ..

theorem drr_car (s : State) (ready : List Nat) (fuel turn : Nat) (c : Carrier) : (s.drr ready fuel turn).1.car c = s.car c :=
  (State.drr_leads s ready fuel turn (covers_refl _) (Leads.refl _ s)).car_eq c (by cases c <;> rfl)

/-- A client that is ready has a packet that waits (07 R206). -/
theorem readyClients_queue {s : State} {c : Carrier} {i : Nat} (h : i ∈ s.readyClients c) : (s.client i).queue ≠ [] := by
  have waits := (List.mem_filter.1 (List.mem_filter.1 h).1).2
  simp only [Bool.and_eq_true, decide_eq_true_eq] at waits
  exact waits.2

/-- With no status packet the mapper takes the oldest packet of a client that is ready. -/
theorem mapperPacketSend_client_next (c : Carrier) (s : State) (hp : s.present c = true) (service : s.rd (K.carState c) = carService)
    (noStatus : s.statusOf c = []) (clients : s.readyClients c ≠ []) :
    ∃ t, exec (.mapperPacketSend c) s = .next t ∧ ∃ i ∈ s.readyClients c, ∃ p rest, (s.client i).queue = p :: rest ∧
      (t.car c).tx.clientQ = (s.car c).tx.clientQ ++ p.wordsOf ∧ (t.client i).queue = rest := by
  refine ⟨_, rfl, ?_⟩
  unfold State.statusOf at noStatus
  unfold mapperPacketSend
  rw [when_true (by simp [hp, service])]
  simp only [noStatus, if_neg clients]
  generalize 300000 = fuel
  generalize (if c = .a then s.host.turnA else s.host.turnB) = turn
  obtain ⟨i, ready, chosen⟩ := drr_chosen clients s fuel turn
  obtain ⟨p, rest, queue⟩ := List.exists_cons_of_ne_nil (readyClients_queue ready)
  simp only [chosen]
  generalize servedIs : (if c = .a then _ else _ : State) = served
  have client : served.client i = (s.drr (s.readyClients c) fuel turn).1.client i := by
    rw [← servedIs]
    split <;> rfl
  have car : served.car c = s.car c := by
    rw [← drr_car s (s.readyClients c) fuel turn c, ← servedIs]
    split <;> cases c <;> rfl
  have waiting : (served.client i).queue = p :: rest := by rw [client, drr_queue, queue]
  have range : i < served.host.clients.length := client_lt (by rintro e; simp [e, Client.reset] at waiting)
  simp only [waiting]
  refine ⟨i, ready, p, rest, queue, ?_, ?_⟩
  · rw [sendPacket_clientQ, ← car]
    cases c <;> rfl
  · rw [State.client_congr (congrArg HostState.clients (sendPacket_host ..)), modClient_client range]

/-! ### The demapper (07 R203) -/

theorem modFec_demapOf (s : State) (c : Carrier) (f : FecState → FecState) (d : Carrier) : (s.modFec c f).demapOf d = s.demapOf d := by
  cases c <;> rfl

theorem demapWord_hunt_next (c : Carrier) (w : Nat) (e : Bool) (rest : List (Nat × Bool)) (s : State) (hp : s.present c = true)
    (word : (s.car c).fec.words = (w, e) :: rest) (hunt : s.demapOf c = .hunt) (good : hecOk w = true) :
    ∃ t, exec (.demapWord c) s = .next t ∧ (t.car c).fec.words = rest ∧ t.demapOf c = .presync (packetOf w).2 [] := by
  refine ⟨_, rfl, ?_⟩
  have state := (modFec_demapOf s c (fun f => { f with words := rest }) c).trans hunt
  unfold State.demapOf at state
  unfold demapWord
  simp only [word, when_true hp, state, good, if_true]
  exact ⟨by rw [setDemap_car, modFec_fec], setDemap_demapOf ..⟩

theorem checkSeq_demapOf (s : State) (i seq : Nat) (d : Carrier) : (s.checkSeq i seq).demapOf d = s.demapOf d := by
  unfold State.checkSeq
  extract_lets gap seen
  split
  · exact State.demapOf_congr (bump_host ..) d
  · rfl

/-- A delivered packet changes no demapper. -/
theorem deliver_demapOf (s : State) (c : Carrier) (p : Packet) (err : Bool) (d : Carrier) : (s.deliver c p err).demapOf d = s.demapOf d := by
  unfold State.deliver
  extract_lets far slot i alive checked delivered
  split
  · rfl
  · rw [evalFault_demapOf]
    unfold delivered
    split_ifs
    · rfl
    · exact checkSeq_demapOf alive i p.seq d
    · exact checkSeq_demapOf alive i p.seq d

theorem deliver_car (s : State) (c : Carrier) (p : Packet) (err : Bool) (d : Carrier) : (s.deliver c p err).car d = s.car d :=
  (State.deliver_leads s c p err (covers_refl _) (Leads.refl _ s)).car_eq d (by cases d <;> rfl)

theorem demapWord_sync_next (c : Carrier) (w : Nat) (e : Bool) (rest : List (Nat × Bool)) (p : Packet) (left : Nat) (err : Bool) (s : State)
    (hp : s.present c = true) (word : (s.car c).fec.words = (w, e) :: rest) (sync : s.demapOf c = .sync p left err) :
    ∃ t, exec (.demapWord c) s = .next t ∧ (t.car c).fec.words = rest ∧
      t.demapOf c = (if left ≤ 1 then .syncHeader else .sync { p with data := p.data ++ [w] } (left - 1) (err || e)) := by
  refine ⟨_, rfl, ?_⟩
  have state := (modFec_demapOf s c (fun f => { f with words := rest }) c).trans sync
  unfold State.demapOf at state
  unfold demapWord
  simp only [word, when_true hp, state]
  split
  · rw [deliver_car, setDemap_car, modFec_fec, deliver_demapOf, setDemap_demapOf]
    exact ⟨rfl, rfl⟩
  · rw [setDemap_car, modFec_fec, setDemap_demapOf]
    exact ⟨rfl, rfl⟩

theorem rxFecAligned_next (c : Carrier) (s : State) (hp : s.present c = true) (accepting : (s.car c).fec.accepting = true)
    (last : (s.car c).fec.startup = 0) (startup : s.rd (K.decAlign c) = 1) :
    ∃ t, exec (.rxFecAligned c) s = .next t ∧ t.rd (K.decAlign c) = 2 ∧ t.demapOf c = .hunt := by
  refine ⟨_, rfl, ?_⟩
  rw [when_true (by simp [hp, accepting, last, startup]), hostFollow_demapOf]
  refine ⟨?_, setDemap_demapOf ..⟩
  rw [(State.hostFollow_leads _ c (covers_refl _) (Leads.refl _ _)).rd_eq _ (by cases c <;> rfl),
    (State.demapHunt_leads _ c (covers_refl _) (Leads.refl _ _)).rd_eq _ (by cases c <;> rfl), State.raise_rd, State.rd_wr_same]

/-! ### Egress (07 R204, R208) -/

theorem foldl_modLane_clients (ls : List Nat) (f : Lane → Lane) (s : State) :
    (ls.foldl (fun s n => s.modLane n f) s).host.clients = s.host.clients :=
  foldl_reading_other (read := fun s : State => s.host.clients) (by intros; rfl) s

theorem foldl_modLane_rd (ls : List Nat) (f : Lane → Lane) (s : State) (k : Key) : (ls.foldl (fun s n => s.modLane n f) s).rd k = s.rd k :=
  foldl_reading_other (read := fun s : State => s.rd k) (by intros; rfl) s

theorem egressFrameOut_next (c : Nat) (full : Bool) (f : List Byte) (err : Bool) (rest : List (List Byte × Bool)) (s : State) (hc : c < 8)
    (eth : s.isEth c = true) (sound : s.presented c = 0) (frame : (s.client c).frames = (f, err) :: rest) :
    ∃ t, exec (.egressFrameOut c full) s = .next t ∧
      (t.client c).frames = rest ∧
      ((s.groupLanes c).all s.sendsData = true → (t.client c).sent = List.replicate 7 0x55 ++ [0xD5] ++ f) ∧
      t.rd (K.outFrames c) = ((s.rdN (K.outFrames c) + 1) % 2 ^ 48 : Nat) ∧
      (full = false → (t.client c).idles = (idleGap 12 f.length (s.client c).dic).1) := by
  refine ⟨_, rfl, ?_⟩
  have range : c < s.host.clients.length := client_lt (by rintro e; simp [e, Client.reset] at frame)
  unfold egressFrameOut
  simp -zeta only [frame]
  rw [when_true (by simp [hc, eth, sound])]
  extract_lets lanes base drawn gap bad given counted cleared
  have drawnHost : drawn.host = s.host := by
    unfold drawn
    split <;> rfl
  have drawnRd : ∀ k, drawn.rd k = s.rd k := fun k => ite_rd rfl rfl
  have clients : cleared.host.clients = given.host.clients := by
    refine (foldl_modLane_clients ..).trans ?_
    unfold counted
    split
    · exact congrArg HostState.clients (bump_host ..)
    · rfl
  have givenClients := congrArg HostState.clients (wrapN_host (drawn.modClient c _) _ _ : given.host = _)
  have client : cleared.client c = { drawn.client c with frames := rest, dic := gap.2, idles := gap.1 } := by
    rw [State.client_congr (clients.trans givenClients), modClient_client (by rwa [drawnHost])]
  have element : ∀ k, k ≠ K.outErr c → cleared.rd k = given.rd k := fun k hk =>
    (foldl_modLane_rd ..).trans (ite_rd (by rw [bump_rd, if_neg hk]) rfl)
  have sends : cleared.sendsData = s.sendsData := by
    funext n
    simp [State.sendsData, element, given, wrapN_rd, drawnRd]
  have frames : cleared.rd (K.outFrames c) = ((s.rdN (K.outFrames c) + 1) % 2 ^ 48 : Nat) := by
    rw [element _ (by simp), wrapN_rd, if_pos rfl, State.rdN, modClient_rd, drawnRd, State.rdN]
  have idles : full = false → gap.1 = (idleGap 12 f.length (s.client c).dic).1 := by
    rintro rfl
    rfl
  have inRange : c < cleared.host.clients.length := by rwa [clients, givenClients, modClient_length, drawnHost]
  rw [sends]
  split
  case isTrue all =>
    rw [modClient_client inRange, client]
    exact ⟨rfl, fun _ => rfl, frames, idles⟩
  case isFalse notAll =>
    rw [client]
    exact ⟨rfl, fun all => absurd all notAll, frames, idles⟩

theorem egressSlotFrame_next (n : Nat) (s : State) (hn : n < 8) (hl : n < s.host.lanes.length) (slot : s.rd (K.clientType n) = 5) :
    ∃ t, exec (.egressSlotFrame n) s = .next t ∧ (t.lane n).fseq = ((s.lane n).fseq + 1) % 256 ∧
      (s.sendsData n = true → (t.lane n).slotFrame.length = 257) := by
  refine ⟨_, rfl, ?_⟩
  unfold egressSlotFrame
  rw [when_true (by simp [hn, slot])]
  extract_lets count per slip fills bits h header data sends near numbered
  rw [foldl_reading_other (read := fun s : State => s.lane n) (fun s k _ => by split <;> rfl), modLane_lane hl]
  refine ⟨rfl, fun sending => ?_⟩
  simp [sends, sending, data]

theorem clientPacketTimeout_next (cl : Nat) (s : State) :
    ∃ t, exec (.clientPacketTimeout cl) s = .next t ∧ (t.client cl).alive = false := by
  refine ⟨_, rfl, ?_⟩
  rw [evalFault_alive]
  by_cases range : cl < s.host.clients.length
  · rw [modClient_client range]
  · simp [State.client, State.modClient, nth, range, Client.reset]

/-- Settles O18: each clause is what its command's lemma above says. The FCS of clause (3), the SEQ of a status packet in (5) and the idle
gap of (10) are the model's choices (log entries 15, 36, 121). -/
theorem hostClientsComplete : Obligations.HostClientsComplete := by
  refine ⟨hostBlockRx_next, slotHeaderRx_next, hostFrameIngress_next, slotBurstComplete_next, clientStatusTick_next,
    mapperPacketSend_status_next, fun c s present service noStatus clients => ?_, demapWord_hunt_next, demapWord_sync_next,
    egressFrameOut_next, egressSlotFrame_next, clientPacketTimeout_next, rxFecAligned_next⟩
  obtain ⟨t, next, i, ready, p, rest, queue, sent, left⟩ := mapperPacketSend_client_next c s present service noStatus clients
  exact ⟨t, next, List.any_eq_true.2 ⟨i, ready, by simp [queue, sent, left]⟩⟩

end Sys2Proof.Machine
end

section
/-! SUPPORT. Clocking (08 R228 to R239): the REFCLK monitor, the PLLs and the lock sequence, and the obligation about their commands. -/

namespace Sys2Proof.Machine

/-! ### REFCLK and the PLLs (08 R228, R229) -/

/-- A verdict other than OK is shown, and leaving OK is counted; what the PLLs then do touches neither entry. -/
theorem refVerdict_effect (s : State) (v : Int) :
    (s.refVerdict v).rd K.refclkStatus = v ∧
    (s.rd K.refclkStatus = 0 → (s.refVerdict v).rd K.refclkLossCount = (min (s.rdN K.refclkLossCount + 1) max48 : Nat)) := by
  unfold State.refVerdict
  split
  case isTrue wasOk =>
    extract_lets counted clk lost dies held plls
    have followed : Leads [.clk, .entry 0x40 0x002, .entry 0x50 0x021] lost (if held then plls.datumPllHold else plls) := by
      have diesFollow : Leads [.clk, .entry 0x40 0x002, .entry 0x50 0x021] lost dies :=
        foldl_leads (Leads.refl _ _) fun s c h => State.pllRefLost_leads s c rfl h
      have pllsFollow : Leads [.clk, .entry 0x40 0x002, .entry 0x50 0x021] lost plls :=
        foldl_leads diesFollow fun s p h => ite_leads (wr_leads _ _ rfl h) h
      exact ite_leads (State.datumPllHold_leads _ rfl pllsFollow) pllsFollow
    have lostRd : ∀ k, lost.rd k = ((s.wr K.refclkStatus v).bump K.refclkLossCount).rd k := fun _ => rfl
    rw [followed.rd_eq _ (by decide), followed.rd_eq _ (by decide), lostRd, lostRd, bump_rd, bump_rd, if_neg (by decide), if_pos rfl,
      State.rd_wr_same, State.rdN, State.rd_wr_other _ _ (by decide)]
    exact ⟨rfl, fun _ => rfl⟩
  case isFalse wasNot => exact ⟨State.rd_wr_same .., fun ok => absurd ok wasNot⟩

theorem refclkEdgeTimeout_next (s : State) (present : s.rd K.refclkStatus ≠ 1) :
    ∃ t, exec .refclkEdgeTimeout s = .next t ∧ t.rd K.refclkStatus = 1 ∧
      (s.rd K.refclkStatus = 0 → t.rd K.refclkLossCount = (min (s.rdN K.refclkLossCount + 1) max48 : Nat)) := by
  refine ⟨_, rfl, ?_⟩
  rw [when_true (by simp [present])]
  exact refVerdict_effect s 1

theorem refclkWindow_next (ppm : Int) (s : State) (far : 20000 < ppm.natAbs) (inRange : s.rd K.refclkStatus ≠ 2) :
    ∃ t, exec (.refclkWindow ppm) s = .next t ∧ t.rd K.refclkStatus = 2 ∧
      (s.rd K.refclkStatus = 0 → t.rd K.refclkLossCount = (min (s.rdN K.refclkLossCount + 1) max48 : Nat)) := by
  refine ⟨_, rfl, ?_⟩
  rw [when_true (by simp [far, inRange])]
  exact refVerdict_effect s 2

theorem startLock_refclkStatus (s : State) (c : Carrier) : (s.startLock c).rd K.refclkStatus = s.rd K.refclkStatus :=
  (State.startLock_leads s c (covers_refl _) (Leads.refl _ s)).rd_eq _ (by decide)

theorem refclkOkTimer_next (s : State) (notOk : s.rd K.refclkStatus ≠ 0) :
    ∃ t, exec .refclkOkTimer s = .next t ∧ t.rd K.refclkStatus = 0 := by
  refine ⟨_, rfl, ?_⟩
  rw [when_true (by simp [notOk])]
  extract_lets ok told
  have restarted : ∀ u : State, (u.carriersHere.foldl (fun s c => if (s.die c).waitRef then s.startLock c else s) u).rd K.refclkStatus =
      u.rd K.refclkStatus := fun u =>
    foldl_reading_other (read := fun s : State => s.rd K.refclkStatus) (fun s c _ => ite_rd (startLock_refclkStatus s c) rfl) u
  rw [restarted]
  exact (ite_rd (State.raise_rd ..) rfl : told.rd _ = ok.rd _).trans (State.rd_wr_same ..)

theorem pllHoldoverReturn_next (p : Nat) (s : State) (hp : p < 5) (held : s.rd (K.pllState p) = 5) (ok : s.rd K.refclkStatus = 0) :
    ∃ t, exec (.pllHoldoverReturn p) s = .next t ∧ t.rd (K.pllState p) = 4 := by
  refine ⟨_, rfl, ?_⟩
  rw [when_true (by simp [hp, held, ok])]
  extract_lets returned clk released
  have ready : returned.rd (K.pllState p) = 4 := State.rd_wr_same ..
  have datum : (if released.rd K.datumQuality = 2 then released.wr K.datumQuality 1 else released).rd (K.pllState p) =
      returned.rd (K.pllState p) :=
    ite_rd (State.rd_wr_other _ _ (by simp)) rfl
  exact (ite_rd datum rfl).trans ready

/-! ### The lock sequence and 40.007 (08 R230, R232, R233) -/

/-- A PLL that bands has found its band and its tuning word. -/
theorem lockSeqStep_banding_next (c : Carrier) (band tune : Nat) (s : State) (hc : s.present c = true)
    (banding : s.rd (K.pllState c.num) = 1) :
    ∃ t, exec (.lockSeqStep c band tune) s = .next t ∧ t.rd (K.pllState c.num) = 2 ∧
      t.rd (K.vcoBand c.num) = (min band 63 : Nat) ∧ t.rd (K.vcoTune c.num) = (min tune 65535 : Nat) := by
  refine ⟨_, rfl, ?_⟩
  unfold lockSeqStep
  rw [when_true hc]
  simp [banding, wr_rd]

/-- A PLL that locks goes on to calibration; one that locks again, calibrated before, is READY. -/
theorem lockSeqStep_locking_next (c : Carrier) (band tune : Nat) (s : State) (hc : s.present c = true)
    (locking : s.rd (K.pllState c.num) = 2) :
    ∃ t, exec (.lockSeqStep c band tune) s = .next t ∧ t.rd (K.pllState c.num) = (if (s.die c).relock then 4 else 3) := by
  refine ⟨_, rfl, ?_⟩
  unfold lockSeqStep
  rw [when_true hc]
  dsimp only
  rw [if_neg (by simp [locking]), if_neg (by simp [locking]), if_pos locking]
  split <;> exact State.rd_wr_same ..

theorem startLock_pllState_eq (s : State) (c : Carrier) :
    (s.startLock c).rd (K.pllState c.num) = (if s.rd K.refclkStatus = 0 then 1 else 0) := by
  simp [State.startLock]

theorem refit_pllState (s : State) (c : Carrier) : (s.refit c).rd (K.pllState c.num) = (if s.rd K.refclkStatus = 0 then 1 else 0) := by
  unfold State.refit
  rw [startLock_pllState_eq, modDie_rd, State.rd_wr_other _ _ (by cases c <;> decide), State.rd_wr_other _ _ (by cases c <;> decide)]

theorem refit_txSampleRate (s : State) (c : Carrier) : (s.refit c).rd (K.txSampleRate c) = (sampleRate (s.symRate c) : Nat) := by
  unfold State.refit
  rw [(State.startLock_leads _ c (covers_refl _) (Leads.refl _ _)).rd_eq _ (by cases c <;> rfl), modDie_rd,
    State.rd_wr_other _ _ (by cases c <;> decide), State.rd_wr_same]

theorem reband_next (src : Nat) (c : Carrier) (s : State) (ha : s.accepts src (K.reband c.num)) (hc : s.present c = true)
    (standby : s.rd (K.carState c) = carStandby) :
    ∃ t, exec (.reband src c) s = .next t ∧ t.answered src .ok ∧
      (t.rd (K.pllState c.num) = (if s.rd K.refclkStatus = 0 then 1 else 0)) ∧
      t.rd (K.txSampleRate c) = (sampleRate (s.symRate c) : Nat) := by
  have here : (s.accepted src).present c = true := by
    cases c
    · rfl
    · rwa [State.present, accepted_fuse]
  have there : (s.accepted src).rd (K.carState c) = carStandby := by rwa [accepted_rd_line s src 0x20 _ _ c (by decide)]
  have rate : (s.accepted src).symRate c = s.symRate c := by
    simp only [State.symRate, accepted_car, accepted_rdN_line s src 0x20 _ _ c (by decide)]
  have command : (s.accepted src).rebandCmd c = ((s.accepted src).refit c, .ok) := by simp [State.rebandCmd, here, there]
  refine ⟨_, rfl, ?_⟩
  rw [request_accepted s src ha, command]
  refine ⟨ack_answered .., ?_, ?_⟩
  · rw [State.ack_rd, refit_pllState, accepted_rd s src _ (by decide)]
  · rw [State.ack_rd, refit_txSampleRate, rate]

/-! ### The line PLL once it is READY (08 R229, R231, R233) -/

/-- The compensation of a READY die follows the mean of its good sensors, or is held where none is good. -/
def vcoCompensated (c : Carrier) (s : State) : State :=
  if s.on (K.vcoTcEnable c.num) then
    match s.dieMean c with
    | some m => s.modDie c (fun d => { d with vcoTemp := m, tcHeld := false })
    | none =>
      if (s.die c).tcHeld then s
      else (s.modDie c (fun d => { d with tcHeld := true })).raise Ev.linePllTcHold (K.vcoTcEnable c.num)
  else s

theorem vcoCompensated_rd (c : Carrier) (s : State) (k : Key) : (vcoCompensated c s).rd k = s.rd k := by
  unfold vcoCompensated
  refine ite_rd ?_ rfl
  split
  · exact modDie_rd ..
  · exact ite_rd rfl (modDie_rd ..)

theorem vcoCompensated_follows {c : Carrier} {s : State} {m : Int} (on : s.on (K.vcoTcEnable c.num) = true) (mean : s.dieMean c = some m) :
    ((vcoCompensated c s).die c).vcoTemp = m := by
  simp [vcoCompensated, on, mean]

/-- In HOLDOVER the tuning word is held; else it is renewed. -/
theorem vcoTcUpdate_eq {c : Carrier} {s : State} (tune : Nat) (hc : s.present c = true) (ready : s.dieReady c = true) :
    vcoTcUpdate c tune s =
      if s.rd (K.pllState c.num) = 5 then vcoCompensated c s
      else if tuneInside (s.rdN (K.vcoTune c.num)) && !tuneInside (min tune 65535) then
        ((vcoCompensated c s).wr (K.vcoTune c.num) (min tune 65535 : Nat)).raise Ev.linePllTuneMargin (K.vcoTune c.num)
      else (vcoCompensated c s).wr (K.vcoTune c.num) (min tune 65535 : Nat) := by
  rw [← vcoCompensated_rd c s (K.pllState c.num), State.rdN, ← vcoCompensated_rd c s (K.vcoTune c.num)]
  exact when_true (by simp [hc, ready])

theorem vcoTcUpdate_next (c : Carrier) (tune : Nat) (s : State) (hc : s.present c = true) (ready : s.dieReady c = true) :
    ∃ t, exec (.vcoTcUpdate c tune) s = .next t ∧
      (s.rd (K.pllState c.num) = 4 → t.rd (K.vcoTune c.num) = (min tune 65535 : Nat)) ∧
      (s.on (K.vcoTcEnable c.num) = true → ∀ m ∈ s.dieMean c, (t.die c).vcoTemp = m) := by
  refine ⟨vcoTcUpdate c tune s, rfl, fun locked => ?_, fun on m mean => ?_⟩
  · rw [vcoTcUpdate_eq tune hc ready, if_neg (by simp [locked])]
    exact (ite_rd (State.raise_rd ..) rfl).trans (State.rd_wr_same ..)
  · have die : (vcoTcUpdate c tune s).die c = (vcoCompensated c s).die c := by
      rw [vcoTcUpdate_eq tune hc ready]
      split_ifs <;> rfl
    rw [die, vcoCompensated_follows on mean]

theorem linePllUnlock_next (c : Carrier) (s : State) (hc : s.present c = true) (locked : s.rd (K.pllState c.num) = 4) :
    ∃ t, exec (.linePllUnlock c) s = .next t ∧ t.rd (K.pllState c.num) = 6 ∧
      t.rd (K.pllUnlockCount c.num) = (min (s.rdN (K.pllUnlockCount c.num) + 1) max48 : Nat) ∧
      t.rd (K.contourState c) = 0 ∧ (t.die c).relock = true := by
  have dark : ∀ (u : State) (e : Nat), (u.contourDark c).rd ⟨0x40, e, c.num⟩ = u.rd ⟨0x40, e, c.num⟩ := fun u e =>
    (State.contourDark_leads u c (covers_refl _) (Leads.refl _ u)).rd_eq _ (by cases c <;> rfl)
  refine ⟨_, rfl, ?_⟩
  unfold linePllUnlock
  rw [when_true hc]
  dsimp only
  rw [if_pos locked, modRx_rd, modRx_rd, modRx_rd, modDie_rd, modDie_rd, modDie_rd, dark, dark, contourDark_state, modRx_die,
    State.modDie_die, State.raise_rd, State.raise_rd, bump_rd, bump_rd, if_neg (by simp), if_pos rfl, State.rd_wr_same, State.rdN,
    State.rd_wr_other _ _ (by simp)]
  exact ⟨rfl, rfl, rfl, rfl⟩

theorem refTcUpdate_next (c : Carrier) (s : State) (hc : s.present c = true) :
    ∃ t, exec (.refTcUpdate c) s = .next t ∧
      (t.die c).adcTrim = (List.range 4).map (fun j => slewTrim (nth (s.die c).adcTrim j 0) (s.rd (K.adcFsTrim (4 * c.num + j)))) ∧
      (t.die c).dacTrim =
        (List.range 4).map (fun j => slewTrim (nth (s.die c).dacTrim j 0) (s.rd (K.dacSwingTrim (4 * c.num + j)))) := by
  refine ⟨_, rfl, ?_⟩
  rw [when_true hc]
  dsimp only
  rw [State.modDie_die]
  exact ⟨rfl, rfl⟩

/-! ### The end of foreground calibration (08 R230, R236) -/

/-- A tile of the die has FAILED. -/
def State.tileFailed (s : State) (c : Carrier) : Bool := (List.range 16).any (fun i => s.rd (K.tileState (16 * c.num + i)) = 2)

theorem State.tileFailed_congr {s t : State} {c : Carrier} (h : ∀ i, t.rd (K.tileState i) = s.rd (K.tileState i)) :
    t.tileFailed c = s.tileFailed c := by
  simp only [State.tileFailed, h]

theorem noTileFailed_eq (s : State) (c : Carrier) :
    (List.range 16).all (fun i => s.rd (K.tileState (16 * c.num + i)) ≠ 2) = !s.tileFailed c := by
  simp only [State.tileFailed, List.not_any_eq_all_not, ne_eq, decide_not]

/-- Entering ACQUIRE, the carrier reads ACQUIRE: what follows the move leaves its state alone. -/
theorem enterAcquire_carState (s : State) (c : Carrier) : (s.enterAcquire c).rd (K.carState c) = carAcquire := by
  unfold State.enterAcquire
  extract_lets moved tapped unlocked hunting restarted sounding rising
  have followed : Leads [.area (0x21 + c.off), .entry (0x22 + c.off) 0x001, .area 0x11, .ev, .fb, .host, .blobs, .car c] moved sounding :=
    State.modTx_leads _ c _ (by cases c <;> rfl) (State.modRx_leads _ c _ (by cases c <;> rfl)
      (State.toHunt_leads _ c (by cases c <;> rfl) (State.rxStatusBit_leads _ c 5 false (by cases c <;> rfl)
        (wr_leads _ _ (by cases c <;> rfl) (wr_leads _ _ (by cases c <;> rfl)
          (State.resetAllTaps_leads _ c (by cases c <;> rfl) (Leads.refl _ moved)))))))
  have acquires : sounding.rd (K.carState c) = carAcquire := (followed.rd_eq _ (by cases c <;> rfl)).trans (setCar_carState ..)
  have rises : rising.rd (K.carState c) = sounding.rd (K.carState c) := ite_rd (State.rd_wr_other _ _ (by simp)) rfl
  exact (ite_rd (startSearch_carState rising c) rfl).trans (rises.trans acquires)

/-- The moves of a carrier that is not OFF leave it out of OFF, and touch neither its line die nor an entry of area 40. -/
theorem carrierMove_standing {s : State} {c : Carrier} (h : s.rd (K.carState c) ≠ carOff) :
    (s.carrierMove c).rd (K.carState c) ≠ carOff ∧ (s.carrierMove c).die c = s.die c ∧
    ∀ e i, (s.carrierMove c).rd ⟨0x40, e, i⟩ = s.rd ⟨0x40, e, i⟩ := by
  have kept : s.rd (K.carState c) ≠ carOff ∧ s.die c = s.die c ∧ ∀ e i, s.rd ⟨0x40, e, i⟩ = s.rd ⟨0x40, e, i⟩ := ⟨h, rfl, fun _ _ => rfl⟩
  have enters := State.enterAcquire_leads s c (covers_refl _) (Leads.refl _ s)
  have leaves := State.leaveLine_leads s c (covers_refl _) (Leads.refl _ s)
  unfold State.carrierMove
  dsimp only
  rw [if_neg h]
  split_ifs
  · exact kept
  · exact kept
  · exact ⟨by rw [enterAcquire_carState]; decide, enters.die_eq (by cases c <;> rfl) c, fun e i => enters.rd_eq _ (by cases c <;> rfl)⟩
  · exact kept
  · exact kept
  · exact ⟨by rw [(leaveLine_effect s c).1]; decide, leaves.die_eq (by cases c <;> rfl) c, fun e i => leaves.rd_eq _ (by cases c <;> rfl)⟩

/-- With no edition armed for the carrier, its stop leaves the tiles of every die and the mark of a failed calibration as they are. -/
theorem stopPipelines_die {s : State} {c : Carrier} (unarmed : s.ed.armed.all (fun e => e.mode ≠ 2 + c.num) = true) :
    (∀ i, (s.stopPipelines c).rd (K.tileState i) = s.rd (K.tileState i)) ∧ ((s.stopPipelines c).die c).stopped = (s.die c).stopped := by
  unfold State.stopPipelines
  extract_lets pll halted searched
  have followed : Leads [.ev, .fb, .car c, .entry 0x11 0x030, .entry (0x20 + c.off) 0x090, .entry (0x21 + c.off) 0x01E] pll searched :=
    State.modRx_leads _ c _ (by cases c <;> rfl) (State.abandonSearch_leads _ c (by cases c <;> rfl)
      (wr_leads _ _ (by cases c <;> rfl) (State.toFallback_leads _ c (by cases c <;> rfl)
        (State.modTx_leads _ c _ (by cases c <;> rfl) (Leads.refl _ pll)))))
  have ed : searched.ed = s.ed := by
    rw [followed.1.2 .ed (by cases c <;> rfl)]
    exact State.modDie_ed ..
  rw [applyAtOff_none (by rwa [ed]), followed.die_eq (by cases c <;> rfl), State.modDie_die]
  refine ⟨fun i => ?_, rfl⟩
  rw [followed.rd_eq _ (by cases c <;> rfl), modDie_rd, State.rd_wr_other _ _ (by simp)]

/-- The 16 tiles of a die graded one after the other (08 R236). -/
def State.graded (s : State) (c : Carrier) (fails : List (List Nat)) (vals : List (List Byte)) : State :=
  (List.range 16).foldl (fun s t => s.gradeTile c t (nth fails t []) (nth vals t [])) s

theorem State.graded_leads (s : State) (c : Carrier) (fails : List (List Nat)) (vals : List (List Byte)) :
    Leads [.boot, .entry 0x40 0x011, .entry 0x40 0x017, .ev, .fb, .blobs, .clk, .entry 0x40 0x012, .entry 0x40 0x013] s
      (s.graded c fails vals) :=
  foldl_leads (Leads.refl _ s) fun u t h => State.gradeTile_leads u c t _ _ (covers_refl _) h

/-- A die with a FAILED tile: the PLL is off and stopped, and the carrier OFF. -/
def State.calFailed (s : State) (c : Carrier) : State :=
  let s := (s.wr (K.pllState c.num) 0).modDie c (fun d => { d with stopped := true, visiting := false })
  s.setCar c carOff

/-- A die without: it is READY and in rotation, and its carrier out of OFF, before the moves that its target asks for. -/
def State.calPassed (s : State) (c : Carrier) : State :=
  let s := (s.wr (K.pllState c.num) 4).wr (K.calTile c.num) 0
  let s := s.modDie c (fun d => { d with visiting := true })
  if s.rd (K.carState c) = carOff then s.startSuperframes c |>.setCar c carStandby else s

theorem foregroundCalDone_eq {c : Carrier} {s : State} (fails : List (List Nat)) (vals : List (List Byte)) (hc : s.present c = true)
    (calibrating : s.rd (K.pllState c.num) = 3) :
    foregroundCalDone c fails vals s =
      if (s.graded c fails vals).tileFailed c then (s.graded c fails vals).calFailed c
      else ((s.graded c fails vals).calPassed c).carrierMove c :=
  when_true (by simp [hc, calibrating])

theorem calFailed_effect (s : State) (c : Carrier) :
    (s.calFailed c).rd (K.pllState c.num) = 0 ∧ ((s.calFailed c).die c).stopped = true ∧ (s.calFailed c).rd (K.carState c) = carOff ∧
    (∀ i, (s.calFailed c).rd (K.tileState i) = s.rd (K.tileState i)) ∧ (s.calFailed c).ed = s.ed := by
  unfold State.calFailed
  extract_lets stopped
  have moves := State.setCar_leads stopped c carOff (covers_refl _) (Leads.refl _ stopped)
  have element : ∀ e i, (stopped.setCar c carOff).rd ⟨0x40, e, i⟩ = (s.wr (K.pllState c.num) 0).rd ⟨0x40, e, i⟩ := fun e i => by
    rw [moves.rd_eq _ (by cases c <;> rfl), modDie_rd]
  refine ⟨(element ..).trans (State.rd_wr_same ..), ?_, setCar_carState .., fun i => ?_, ?_⟩
  · rw [moves.die_eq (by cases c <;> rfl), State.modDie_die]
  · rw [element, State.rd_wr_other _ _ (by simp)]
  · exact (moves.1.2 .ed (by cases c <;> rfl)).trans (State.modDie_ed ..)

theorem calPassed_effect (s : State) (c : Carrier) :
    (s.calPassed c).rd (K.pllState c.num) = 4 ∧ ((s.calPassed c).die c).visiting = true ∧ (s.calPassed c).rd (K.carState c) ≠ carOff ∧
    ∀ i, (s.calPassed c).rd (K.tileState i) = s.rd (K.tileState i) := by
  unfold State.calPassed
  extract_lets ready rotating
  have pll : rotating.rd (K.pllState c.num) = 4 := by
    rw [modDie_rd, State.rd_wr_other _ _ (by simp), State.rd_wr_same]
  have visits : (rotating.die c).visiting = true := congrArg DieState.visiting (State.modDie_die ..)
  have tiles : ∀ i, rotating.rd (K.tileState i) = s.rd (K.tileState i) := fun i => by
    rw [modDie_rd, State.rd_wr_other _ _ (by simp), State.rd_wr_other _ _ (by simp)]
  split
  case isTrue off =>
    have moves := State.setCar_leads (rotating.startSuperframes c) c carStandby (covers_refl _) (Leads.refl _ _)
    have element : ∀ e i, ((rotating.startSuperframes c).setCar c carStandby).rd ⟨0x40, e, i⟩ = rotating.rd ⟨0x40, e, i⟩ := fun e i =>
      (moves.rd_eq _ (by cases c <;> rfl)).trans (modTx_rd ..)
    refine ⟨(element ..).trans pll, ?_, by rw [setCar_carState]; decide, fun i => (element ..).trans (tiles i)⟩
    rw [moves.die_eq (by cases c <;> rfl), State.startSuperframes, modTx_die, visits]
  case isFalse on => exact ⟨pll, visits, on, tiles⟩

theorem foregroundCalDone_next (c : Carrier) (fails : List (List Nat)) (vals : List (List Byte)) (s : State) (hc : s.present c = true)
    (calibrating : s.rd (K.pllState c.num) = 3) (unarmed : s.ed.armed.all (fun e => e.mode ≠ 2 + c.num) = true) :
    ∃ t, exec (.foregroundCalDone c fails vals) s = .next t ∧
      ((List.range 16).all (fun i => t.rd (K.tileState (16 * c.num + i)) ≠ 2) = true →
        t.rd (K.pllState c.num) = 4 ∧ (t.die c).visiting = true) ∧
      ((List.range 16).all (fun i => t.rd (K.tileState (16 * c.num + i)) ≠ 2) = false →
        t.rd (K.pllState c.num) = 0 ∧ (t.die c).stopped = true ∧ t.rd (K.carState c) = carOff) := by
  refine ⟨_, rfl, ?_⟩
  dsimp only
  rw [foregroundCalDone_eq fails vals hc calibrating]
  simp only [noTileFailed_eq]
  cases failed : (s.graded c fails vals).tileFailed c
  case false =>
    rw [if_neg Bool.false_ne_true]
    obtain ⟨pll, visits, on, tiles⟩ := calPassed_effect (s.graded c fails vals) c
    obtain ⟨stays, die, element⟩ := carrierMove_standing on
    rw [if_neg (by simp [stays]), State.tileFailed_congr fun i => (element ..).trans (tiles i), failed, element, die]
    exact ⟨fun _ => ⟨pll, visits⟩, nofun⟩
  case true =>
    rw [if_pos rfl]
    obtain ⟨pll, stopped, off, tiles, ed⟩ := calFailed_effect (s.graded c fails vals) c
    have armed : ((s.graded c fails vals).calFailed c).ed.armed.all (fun e => e.mode ≠ 2 + c.num) = true := by
      rwa [ed, (s.graded_leads c fails vals).1.2 .ed rfl]
    obtain ⟨state, halted, -⟩ := stopPipelines_effect armed
    obtain ⟨stopTiles, stopDie⟩ := stopPipelines_die armed
    split
    · rw [State.tileFailed_congr fun i => (stopTiles i).trans (tiles i), failed, state, stopDie]
      exact ⟨nofun, fun _ => ⟨halted, stopped, off⟩⟩
    · rw [State.tileFailed_congr tiles, failed]
      exact ⟨nofun, fun _ => ⟨pll, stopped, off⟩⟩

/-- Settles O15: each clause is what its command's lemma above says. -/
theorem clockingComplete : Obligations.ClockingComplete :=
  ⟨refclkEdgeTimeout_next, refclkWindow_next, refclkOkTimer_next, pllHoldoverReturn_next, lockSeqStep_banding_next,
   lockSeqStep_locking_next, foregroundCalDone_next, vcoTcUpdate_next, reband_next, linePllUnlock_next, refTcUpdate_next⟩

end Sys2Proof.Machine
end

section
/-! SUPPORT. Legend requests (09 R244 to R264, R278): requests that a check refuses, plain writes and what they leave alone, BLOB chunks, and
the obligations about them. -/

namespace Sys2Proof.Machine

/-! ### Requests that a check refuses (09 R244, R246) -/

theorem canonKey_idx (k : Key) : (canonKey k).idx = k.idx := by
  unfold canonKey
  split <;> rfl

/-- Only the shared entries of area 34 have another area in their canonical key. -/
theorem canonKey_area_iff (k : Key) {n : Nat} (h24 : n ≠ 0x24) (h34 : n ≠ 0x34) : (canonKey k).area = n ↔ k.area = n := by
  unfold canonKey
  split
  case isTrue shared => simp [shared.1, h24.symm, h34.symm]
  case isFalse => rfl

theorem gate_unknown {s : State} {k : Key} (w : Bool) (alive : s.fuse.lifecycle ≠ 4) (area : k.area ≠ 0x7F) (row : rowOf k = none) :
    s.gate k w = some .noKey := by
  simp [State.gate, alive, area, row]

theorem gate_index {s : State} {k : Key} {r : Row} (w : Bool) (alive : s.fuse.lifecycle ≠ 4) (area : k.area ≠ 0x7F)
    (row : rowOf k = some r) (beyond : r.count ≤ k.idx) : s.gate k w = some .index := by
  simp [State.gate, alive, area, row, beyond]

section Refused

variable {s : State} {src : Nat} {k : Key} {st : Status} (served : s.portOpen src = true) (powered : s.portsDead = false)
  (ready : s.ports.ready = true)
include served powered ready

/-- A write request that a check refuses is counted and answered with the check's status. -/
theorem request_refused (eff : State → State × Status) (gate : s.gate (canonKey k) true = some st) :
    s.request src k eff = (s.accepted src).ack src st := by
  have gate' : ((s.idleRestart src).countReq src).gate (canonKey k) true = some st := (accepted_gate s src _ _).trans gate
  unfold State.request
  rw [if_neg (by simp [served, powered]), if_neg (by simp [ready])]
  simp only [gate']
  rfl

theorem requestRead_refused (draft : Bool) (off len : Nat) (gate : s.gate (canonKey k) false = some st) :
    s.requestRead src k draft off len = (s.accepted src).ack src st := by
  have gate' : ((s.idleRestart src).countReq src).gate (canonKey k) false = some st := (accepted_gate s src _ _).trans gate
  unfold State.requestRead
  rw [if_neg (by simp [served, powered]), if_neg (by simp [ready])]
  simp only [gate']
  rfl

theorem requestWrite_refused (off total : Nat) (data : List Byte) (meas : Nat) (gate : s.gate (canonKey k) true = some st) :
    s.requestWrite src k off total data meas = (s.accepted src).ack src st := by
  unfold State.requestWrite
  dsimp only
  rw [if_pos (by simp [gate]), request_refused served powered ready _ gate]

/-- A key that neither a read nor a write may name is refused to both with the same status. -/
theorem refused_answered (gate : ∀ w, s.gate (canonKey k) w = some st) :
    (∀ (draft : Bool) (off len : Nat), (s.requestRead src k draft off len).answered src st) ∧
      ∀ (off total meas : Nat) (data : List Byte), (s.requestWrite src k off total data meas).answered src st := by
  refine ⟨fun draft off len => ?_, fun off total meas data => ?_⟩
  · rw [requestRead_refused served powered ready draft off len (gate false)]
    exact ack_answered ..
  · rw [requestWrite_refused served powered ready off total data meas (gate true)]
    exact ack_answered ..

end Refused

/-- Settles O52: the gate finds no row, or the index beyond it, for reads and writes alike, and it does not look at which part it is. -/
theorem unknownKeysAndIndices : Obligations.UnknownKeysAndIndices := by
  refine ⟨fun src k s served powered ready alive area row => ?_, fun src k r s served powered ready alive area row beyond => ?_,
    fun _ _ _ _ => rfl⟩
  all_goals
    have area' : (canonKey k).area ≠ 0x7F := fun h => area ((canonKey_area_iff k (by decide) (by decide)).1 h)
  · exact refused_answered served powered ready fun w => gate_unknown w alive area' row
  · exact refused_answered served powered ready fun w => gate_index w alive area' row (canonKey_idx k ▸ beyond)

/-! ### What a request and a stored value leave of the Legend (09 R246, R257, R278) -/

theorem idleRestart_leg (s : State) (src : Nat) : (s.idleRestart src).leg = s.leg := by
  unfold State.idleRestart
  split <;> rfl

/-- The acceptance of a request counts in the request counter of its port and changes no other element. -/
theorem accepted_rd_other {s : State} {src : Nat} {j : Key} (h : ∀ p, portOf src = some p → j ≠ K.requestCount p) :
    (s.accepted src).rd j = s.rd j := by
  have restarted : (s.idleRestart src).rd j = s.rd j := congrArg (legGet · j) (idleRestart_leg s src)
  unfold State.accepted State.countReq
  dsimp only
  split
  case h_1 p hp =>
    rw [wrapN_rd, if_neg (h p hp)]
    exact restarted
  case h_2 => exact restarted

/-- A write request is ignored or answered BUSY, or it is counted, or it takes its effect as well. -/
theorem request_leg_cases (s : State) (src : Nat) (k : Key) (eff : State → State × Status) :
    (s.request src k eff).leg = s.leg ∨ (s.request src k eff).leg = (s.accepted src).leg ∨
      (s.request src k eff).leg = (eff (s.accepted src)).1.leg := by
  unfold State.request
  dsimp only
  split
  case isTrue => exact .inl rfl
  case isFalse =>
    split
    case isTrue =>
      split
      · exact .inl (idleRestart_leg s src)
      · exact .inl (idleRestart_leg s src)
    case isFalse =>
      split
      case h_1 => exact .inr (.inl rfl)
      case h_2 =>
        split
        · exact .inr (.inl rfl)
        · exact .inr (.inr rfl)

/-- A journal record moves the count of records and no other element. -/
theorem journal_rd (s : State) (r : JRec) {j : Key} (h : j ≠ K.journalRecords) : (s.journal r).rd j = s.rd j := by
  unfold State.journal State.checkpoint
  dsimp only
  split
  · rw [State.raise_rd, State.rd_wr_other _ _ h]
    rfl
  · rw [State.rd_wr_other _ _ h]
    rfl

theorem rwEffect_rd_other (src : Nat) {k : Key} (v : Int) (s : State) {j : Key} (hk : j ≠ canonKey k) (h : j ≠ K.journalRecords) :
    (rwEffect src k v s).1.rd j = s.rd j := by
  unfold rwEffect State.rwStore
  rw [journal_rd _ _ h, State.rd_wr_other _ _ hk]

/-- A plain RW write stores the clamped value (09 R245). -/
theorem rwEffect_rd_same (src : Nat) {k : Key} (v : Int) (s : State) (h : canonKey k ≠ K.journalRecords) :
    (rwEffect src k v s).1.rd (canonKey k) = clampKey k v := by
  unfold rwEffect State.rwStore
  rw [journal_rd _ _ h, State.rd_wr_same]

/-! ### Writes of RW entries without a command of their own -/

/-- The areas with RW entries whose write may leave the Legend otherwise than the plain write does. -/
def busyAreas : List Nat := [0x02, 0x50, 0x60, 0x62, 0x68, 0x71]

theorem canonKey_busyAreas {k : Key} (h : k.area ∉ busyAreas) : (canonKey k).area ∉ busyAreas := by
  unfold canonKey
  split
  · simp [busyAreas]
  · exact h

theorem rwAfter_leg {s old : State} {src : Nat} {k : Key} (h : k.area ∉ busyAreas) : (s.rwAfter old src k).leg = s.leg := by
  have filter : (k.area = 0x60 || k.area = 0x62) = false := by
    simp only [busyAreas, List.mem_cons, not_or] at h
    simp [h]
  unfold State.rwAfter
  simp only [filter, Bool.false_eq_true, if_false]
  split
  case h_9 => rfl
  case h_1 | h_2 | h_3 => split <;> rfl
  all_goals simp_all [busyAreas]

/-- A write of an RW entry outside those areas, a lane tap apart, is the plain write: what follows it touches no element. -/
theorem rwScalar_plain {s : State} {src : Nat} {k : Key} (v : Int) (area : k.area ∉ busyAreas) (tap : (k.area, k.entry) ≠ (0x10, 0x005)) :
    (s.rwScalar src k v).2 = .ok ∧ (s.rwScalar src k v).1.leg = (rwEffect src k v s).1.leg := by
  unfold State.rwScalar
  split
  case h_8 => exact ⟨rfl, rwAfter_leg area⟩
  all_goals simp_all [busyAreas]

theorem rwScalar_plain_rd {s : State} {src : Nat} {k : Key} (v : Int) (area : k.area ∉ busyAreas) (tap : (k.area, k.entry) ≠ (0x10, 0x005))
    (j : Key) : (s.rwScalar src k v).1.rd j = (rwEffect src k v s).1.rd j :=
  congrArg (legGet · j) (rwScalar_plain v area tap).2

/-- Settles O51: the frame of a register write leaves the BLOBs, and of the elements a plain write touches its own, the journal's count and,
with the request's acceptance, the port's counter. -/
theorem plainWriteFrame : Obligations.PlainWriteFrame := by
  intro src k v s t area h
  have busy : k.area ∉ busyAreas := fun h => area (by simp only [busyAreas, List.mem_cons] at h ⊢; tauto)
  have tap : ((canonKey k).area, (canonKey k).entry) ≠ (0x10, 0x005) := fun h =>
    area (by simp [(canonKey_area_iff k (by decide) (by decide)).1 (congrArg Prod.fst h)])
  refine ⟨(exec_next_leads h).1.2 .blobs (by simp [parts, Part.within, among]), fun j own records counter => ?_⟩
  injection h with h
  subst h
  unfold when
  split
  case isFalse => rfl
  case isTrue =>
    have stored : ((s.accepted src).rwScalar src (canonKey k) v).1.rd j = (s.accepted src).rd j := by
      rw [rwScalar_plain_rd v (canonKey_busyAreas busy) tap, rwEffect_rd_other src v _ (by rwa [canonKey_idem]) records]
    rcases request_leg_cases s src k (fun s => s.rwScalar src (canonKey k) v) with ignored | counted | effect
    · exact congrArg (legGet · j) ignored
    · exact (congrArg (legGet · j) counted).trans (accepted_rd_other counter)
    · exact (congrArg (legGet · j) effect).trans (stored.trans (accepted_rd_other counter))

end Sys2Proof.Machine
end

section
/-! SUPPORT. Legend writes and the commands of area 03 (09 R245, R246, R250, R261 to R266), and the obligation about them. -/

namespace Sys2Proof.Machine

/-! ### Register writes (09 R245, R246, R266) -/

/-- An accepted register write is answered with the status of the write of its entry, and takes its effect. -/
theorem registerWrite_eq {src : Nat} {k : Key} {s : State} (v : Int) (ha : s.accepts src k)
    (rw : (rowOf (canonKey k)).any (fun r => r.access = .rw) = true) (scalar : isBlob (canonKey k) = false)
    (plain : ownWrite (canonKey k) = false) :
    exec (.registerWrite src k v) s =
      .next (((s.accepted src).rwScalar src (canonKey k) v).1.ack src ((s.accepted src).rwScalar src (canonKey k) v).2) := by
  refine congrArg Host.Outcome.next ?_
  rw [when_true (by simp [rw, scalar, plain]), request_accepted s src ha]

theorem registerWrite_next (src : Nat) (k : Key) (v : Int) (s : State) (ha : s.accepts src k)
    (rw : (rowOf (canonKey k)).any (fun r => r.access = .rw) = true) (scalar : isBlob (canonKey k) = false)
    (plain : ownWrite (canonKey k) = false) :
    ∃ t, exec (.registerWrite src k v) s = .next t ∧ t.answered src ((s.accepted src).rwScalar src (canonKey k) v).2 ∧
      t.leg = ((s.accepted src).rwScalar src (canonKey k) v).1.leg :=
  ⟨_, registerWrite_eq v ha rw scalar plain, ack_answered .., rfl⟩

theorem registerWrite_plain_next (src : Nat) (k : Key) (v : Int) (s : State) (ha : s.accepts src k)
    (rw : (rowOf (canonKey k)).any (fun r => r.access = .rw) = true) (scalar : isBlob (canonKey k) = false)
    (plain : ownWrite (canonKey k) = false) (area : ¬ k.area ∈ [0x02, 0x50, 0x60, 0x62, 0x68, 0x71])
    (tap : (k.area, k.entry) ≠ (0x10, 0x005)) :
    ∃ t, exec (.registerWrite src k v) s = .next t ∧ t.answered src .ok ∧ t.rd (canonKey k) = clampKey (canonKey k) v := by
  have area' : (canonKey k).area ∉ busyAreas := canonKey_busyAreas area
  have tap' : ((canonKey k).area, (canonKey k).entry) ≠ (0x10, 0x005) := by
    unfold canonKey
    split
    · simp
    · exact tap
  have count : canonKey (canonKey k) ≠ K.journalRecords := by
    rw [canonKey_idem]
    exact fun h => area' (h ▸ by decide)
  refine ⟨_, registerWrite_eq v ha rw scalar plain, ?_, ?_⟩
  · rw [(rwScalar_plain v area' tap').1]
    exact ack_answered ..
  · have stored := rwEffect_rd_same src v (s.accepted src) count
    rw [canonKey_idem] at stored
    rw [State.ack_rd, rwScalar_plain_rd v area' tap', stored]

/-- The entries of the open draft's arming, which its owner alone may write (09 R266). -/
def armingEntries : List Key := [⟨0x02, 0x014, 0⟩, ⟨0x02, 0x015, 0⟩, ⟨0x02, 0x016, 0⟩, ⟨0x50, 0x050, 0⟩]

theorem armingEntries_written {k : Key} (h : k ∈ armingEntries) :
    canonKey k = k ∧ (rowOf k).any (fun r => r.access = .rw) = true ∧ isBlob k = false ∧ ownWrite k = false ∧ k ≠ K.journalRecords ∧
      k.area ≠ 0x08 := by
  revert k
  decide

theorem rwScalar_notOwner {s : State} {src : Nat} {k : Key} {st : Status} (v : Int) (h : k ∈ armingEntries)
    (owner : s.ownerCheck src = some st) : s.rwScalar src k v = (s, st) := by
  simp only [armingEntries, List.mem_cons, List.not_mem_nil, or_false] at h
  rcases h with rfl | rfl | rfl | rfl <;> simp only [State.rwScalar, owner]

theorem rwScalar_owner {s : State} {src : Nat} {k : Key} (v : Int) (h : k ∈ armingEntries) (owner : s.ownerCheck src = none) :
    s.rwScalar src k v = rwEffect src k v s := by
  simp only [armingEntries, List.mem_cons, List.not_mem_nil, or_false] at h
  rcases h with rfl | rfl | rfl | rfl <;> simp only [State.rwScalar, owner]

theorem accepted_ownerCheck (s : State) (src : Nat) : (s.accepted src).ownerCheck src = s.ownerCheck src := by
  simp only [State.ownerCheck, accepted_ed]

theorem registerWrite_arming_eq {src : Nat} {k : Key} {s : State} (v : Int) (ha : s.accepts src k) (h : k ∈ armingEntries) :
    exec (.registerWrite src k v) s = .next (((s.accepted src).rwScalar src k v).1.ack src ((s.accepted src).rwScalar src k v).2) := by
  obtain ⟨canonical, rw, scalar, plain, -, -⟩ := armingEntries_written h
  rw [← canonical] at rw scalar plain
  have run := registerWrite_eq v ha rw scalar plain
  rwa [canonical] at run

theorem registerWrite_notOwner_next (src : Nat) (k : Key) (v : Int) (st : Status) (s : State) (ha : s.accepts src k)
    (h : k ∈ armingEntries) (owner : (s.accepted src).ownerCheck src = some st) :
    ∃ t, exec (.registerWrite src k v) s = .next t ∧ t.answered src st ∧ t.rd k = s.rd k := by
  refine ⟨_, registerWrite_arming_eq v ha h, ?_⟩
  rw [rwScalar_notOwner v h owner]
  exact ⟨ack_answered .., accepted_rd s src k (armingEntries_written h).2.2.2.2.2⟩

theorem registerWrite_owner_next (src : Nat) (k : Key) (v : Int) (s : State) (ha : s.accepts src k)
    (h : k ∈ armingEntries) (owner : s.ownerCheck src = none) :
    ∃ t, exec (.registerWrite src k v) s = .next t ∧ t.answered src .ok ∧ t.rd k = clampKey k v := by
  obtain ⟨canonical, -, -, -, count, -⟩ := armingEntries_written h
  have stored := rwEffect_rd_same src v (s.accepted src) (canonical.symm ▸ count)
  rw [canonical] at stored
  refine ⟨_, registerWrite_arming_eq v ha h, ?_⟩
  rw [rwScalar_owner v h ((accepted_ownerCheck s src).trans owner)]
  exact ⟨ack_answered .., stored⟩

/-! ### BLOB chunks (09 R250) -/

theorem journal_blobs (s : State) (r : JRec) : (s.journal r).blobs = s.blobs :=
  (State.journal_leads s r (covers_refl _) (Leads.refl _ s)).1.2 .blobs rfl

@[simp] theorem rwBlob_blob (s : State) (src : Nat) (k : Key) (bs : List Byte) : (s.rwBlob src k bs).blob k = bs := by
  unfold State.rwBlob
  rw [State.blob, journal_blobs]
  exact State.blob_setBlob_same s k bs

/-- The BLOBs of RW entries whose writes have checks or effects of their own. -/
def ownBlobs : List (Nat × Nat) := [(0x00, 0x022), (0x02, 0x017), (0x58, 0x021), (0x58, 0x022)]

theorem canonKey_ownBlobs {k : Key} (h : (k.area, k.entry) ∉ ownBlobs) : ((canonKey k).area, (canonKey k).entry) ∉ ownBlobs := by
  unfold canonKey
  split
  · simp [ownBlobs]
  · exact h

theorem blobWrite_plain {s : State} {src : Nat} {k : Key} {r : Row} {bs : List Byte} (row : rowOf k = some r) (rw : r.access = .rw)
    (least : r.lo ≤ (bs.length : Int)) (most : (bs.length : Int) ≤ r.hi) (plain : (k.area, k.entry) ∉ ownBlobs) :
    s.blobWrite src k bs = (s.rwBlob src k bs, .ok) := by
  unfold State.blobWrite
  simp only [row]
  rw [if_neg (by omega), if_neg (by simp [rw])]
  split
  case h_5 => rfl
  all_goals simp_all [ownBlobs]

/-- A chunk at offset 0 that ends at the total is the whole BLOB. -/
theorem writeChunk_whole {s : State} {src : Nat} {k : Key} {r : Row} {data : List Byte} (row : rowOf k = some r)
    (most : (data.length : Int) ≤ r.hi) (short : data.length ≤ 256) :
    s.writeChunk src k 0 data.length data =
      ({ s with ports := { s.ports with chunks := s.ports.chunks.filter (fun x => x.src ≠ src) } } : State).blobWrite src k data := by
  unfold State.writeChunk
  simp only [row, if_true, Nat.zero_add]
  rw [if_neg (by simp; omega), if_neg (by omega)]
  rfl

theorem blobChunkWrite_eq {src : Nat} {k : Key} {s : State} (off total : Nat) (data : List Byte) (ha : s.accepts src k)
    (blob : isBlob (canonKey k) = true) :
    exec (.blobChunkWrite src k off total data) s =
      .next (((s.accepted src).writeChunk src (canonKey k) off total data).1.ack src
        ((s.accepted src).writeChunk src (canonKey k) off total data).2) := by
  refine congrArg Host.Outcome.next ?_
  rw [when_true blob, request_accepted s src ha]

theorem blobChunkWrite_whole_next (src : Nat) (k : Key) (data : List Byte) (s : State) (ha : s.accepts src k)
    (blob : isBlob (canonKey k) = true)
    (fits : (rowOf (canonKey k)).any (fun r => r.access = .rw ∧ r.lo ≤ (data.length : Int) ∧ (data.length : Int) ≤ r.hi) = true)
    (plain : (k.area, k.entry) ∉ ownBlobs) (short : data.length ≤ 256) :
    ∃ t, exec (.blobChunkWrite src k 0 data.length data) s = .next t ∧ t.answered src .ok ∧ t.blob (canonKey k) = data := by
  cases row : rowOf (canonKey k) with
  | none => simp [row] at fits
  | some r =>
    obtain ⟨rw, least, most⟩ : r.access = .rw ∧ r.lo ≤ (data.length : Int) ∧ (data.length : Int) ≤ r.hi := by simpa [row] using fits
    refine ⟨_, blobChunkWrite_eq 0 data.length data ha blob, ?_⟩
    rw [writeChunk_whole row most short, blobWrite_plain row rw least most (canonKey_ownBlobs plain)]
    exact ⟨ack_answered .., rwBlob_blob ..⟩

theorem blobChunkWrite_next (src : Nat) (k : Key) (off total : Nat) (data : List Byte) (s : State) (ha : s.accepts src k)
    (blob : isBlob (canonKey k) = true) :
    ∃ t, exec (.blobChunkWrite src k off total data) s = .next t ∧
      t.answered src ((s.accepted src).writeChunk src (canonKey k) off total data).2 ∧
      t.ports.chunks = ((s.accepted src).writeChunk src (canonKey k) off total data).1.ports.chunks :=
  ⟨_, blobChunkWrite_eq off total data ha blob, ack_answered .., rfl⟩

/-! ### Alarm, snapshots and clears (09 R261 to R264) -/

theorem alarmAck_next (src : Nat) (s : State) (ha : s.accepts src K.alarmAck) :
    ∃ t, exec (.alarmAck src) s = .next t ∧ t.answered src .ok ∧ t.ev.alarm = false := by
  refine ⟨_, rfl, ?_⟩
  rw [request_accepted s src ha]
  exact ⟨ack_answered .., rfl⟩

theorem pushAll_views_length (r lost : EventRec) (e : EventState) (fuel n : Nat) :
    (pushAll r lost e fuel n).views.length = e.views.length := by
  induction fuel generalizing r e n with
  | zero => rfl
  | succ fuel ih =>
    cases n with
    | zero => rfl
    | succ n =>
      rw [pushAll, ih]
      simp [pushRec]

theorem raise_views_length (s : State) (code : Nat) (k : Key) : (s.raise code k).ev.views.length = s.ev.views.length :=
  pushAll_views_length ..

theorem accepted_views_length (s : State) (src : Nat) : (s.accepted src).ev.views.length = s.ev.views.length := by
  have restarted : (s.idleRestart src).ev = s.ev := (State.idleRestart_leads s src (covers_refl _) (Leads.refl _ s)).1.2 .ev rfl
  unfold State.accepted State.countReq State.wrapN
  dsimp only
  split
  · split
    · rw [raise_views_length, State.wr_ev, restarted]
    · rw [State.wr_ev, restarted]
  · rw [restarted]

theorem modView_view {s : State} {w : Nat} (h : w < s.ev.views.length) (f : ViewState → ViewState) :
    ({ s with ev := s.ev.modView w f } : State).view w = f (s.view w) := by
  simp [State.view, EventState.modView, nth_modify, h]

theorem snapshot_next (src w : Nat) (v : Int) (s : State) (ha : s.accepts src K.snapshot) (view : viewOf src = some w)
    (hw : w < s.ev.views.length) :
    ∃ t, exec (.snapshot src v) s = .next t ∧ t.answered src .ok ∧ (t.view w).snapTime = s.datum ∧
      (t.view w).snapArea = (clampKey K.snapshot v).toNat ∧
      (t.view w).snap = some ((s.accepted src).countersOf w (clampKey K.snapshot v).toNat) := by
  refine ⟨_, rfl, ?_⟩
  rw [request_accepted s src ha]
  simp only [view]
  have latched := modView_view (w := w) (accepted_views_length s src ▸ hw) (fun x => { x with
    snapTime := (s.accepted src).datum, snapArea := (clampKey K.snapshot v).toNat,
    snap := some ((s.accepted src).countersOf w (clampKey K.snapshot v).toNat) })
  refine ⟨ack_answered .., (congrArg ViewState.snapTime latched).trans (accepted_datum s src), congrArg ViewState.snapArea latched,
    congrArg ViewState.snap latched⟩

theorem snapshotRelease_next (src w : Nat) (s : State) (ha : s.accepts src K.snapshotRelease) (view : viewOf src = some w)
    (hw : w < s.ev.views.length) :
    ∃ t, exec (.snapshotRelease src) s = .next t ∧ t.answered src .ok ∧ (t.view w).snap = none := by
  refine ⟨_, rfl, ?_⟩
  rw [request_accepted s src ha]
  simp only [view]
  exact ⟨ack_answered .., congrArg ViewState.snap (modView_view (w := w) (accepted_views_length s src ▸ hw) _)⟩

theorem kfind_filter_of_drops {α : Type} (m : List (Key × α)) {p : Key × α → Bool} {k : Key} (h : ∀ v, p (k, v) = false) :
    kfind (m.filter p) k = none := by
  induction m with
  | nil => rfl
  | cons e t ih =>
    rw [List.filter_cons]
    split
    case isTrue kept =>
      have other : e.1 ≠ k := fun same => by
        rw [← same] at h
        rw [h e.2] at kept
        cases kept
      rw [kfind, if_neg other, ih]
    case isFalse => exact ih

/-- A saturating counter of a cleared area is no longer listed, so that it reads its default (00 R11). -/
theorem zeroed_rd {s : State} {k : Key} (counter : (rowOf k).any (fun r => r.counter = .saturating) = true) :
    (s.zeroed k.area).rd k = defaultOf k := by
  unfold State.rd legGet State.zeroed
  rw [kfind_filter_of_drops _ (by simp [counter])]
  rfl

theorem counterClear_next (src : Nat) (v : Int) (k : Key) (s : State) (ha : s.accepts src K.counterClear)
    (area : (k.area : Int) = clampKey K.counterClear v) (counter : (rowOf k).any (fun r => r.counter = .saturating) = true) :
    ∃ t, exec (.counterClear src v) s = .next t ∧ t.answered src .ok ∧ t.rd k = defaultOf k := by
  refine ⟨_, rfl, ?_⟩
  rw [request_accepted s src ha]
  refine ⟨ack_answered .., ?_⟩
  rw [State.ack_rd, ← area, Int.toNat_natCast]
  have cleared := zeroed_rd (s := s.accepted src) counter
  dsimp only
  repeat' split
  all_goals exact cleared

/-- Settles O25: each clause is what its command's lemma above says. -/
theorem legendWritesComplete : Obligations.LegendWritesComplete :=
  ⟨registerWrite_next, registerWrite_plain_next, registerWrite_notOwner_next, registerWrite_owner_next, blobChunkWrite_whole_next,
   blobChunkWrite_next, alarmAck_next, snapshot_next, snapshotRelease_next, counterClear_next⟩

end Sys2Proof.Machine
end

section
/-! SUPPORT. The statement about the Legend reads (09 R259) fails where the read itself is the request that wraps its port's counter. -/

namespace Sys2Proof.Machine

/-- One record waits, and the SPI port's request counter stands at 2^48 - 1 (09 R257, R262). -/
def lastCount : State :=
  { State.reset with
    leg := [(K.deviceState, devOperational), (K.requestCount 0, (max48 : Nat))]
    ports := { PortState.reset with ready := true }
    ev := { EventState.reset with recs := [⟨0, Ev.edDraftOpened, 0xFF, 0, 0, false, false⟩] } }

/-- The read is counted before it is served: the counter wraps, and the COUNTER_CARRY it raises is read with the record that waited. -/
theorem lastCount_read_pos : ((nextOf lastCount (exec (.eventNextRead 1 256 []) lastCount)).view 0).pos = 2 := by decide

/-- Refutes O24, in clause (2): a read of 03.000 over SPI whose own request wraps 08.030 moves the view behind the COUNTER_CARRY record as
well, not behind the last record that was unread before it. -/
theorem not_legendReadsComplete : ¬ Obligations.LegendReadsComplete := by
  rintro ⟨-, events, -⟩
  obtain ⟨t, run, -, -, pos, -⟩ := events 1 0 256 (0, ⟨0, Ev.edDraftOpened, 0xFF, 0, 0, false, false⟩) lastCount
    (by decide) (by decide) rfl (by decide) (by decide +kernel)
  have moved := lastCount_read_pos
  rw [run] at moved
  exact absurd (moved.symm.trans pos) (by decide)

end Sys2Proof.Machine
end

section
/-! SUPPORT. Drafts and editions (09 R265 to R279): how a draft opens, changes and ends, how an edition is armed, disarmed and applied, and
the obligation about them. -/

namespace Sys2Proof.Machine

/-! ### Opening and writing the draft (09 R265 to R267) -/

theorem openDraft_none {s : State} (src : Nat) (closed : s.ed.draft = none) :
    (s.openDraft src).2 = .ok ∧
      (s.openDraft src).1.ed = { s.ed with draft := some ⟨s.ed.nextId, src, false, []⟩, nextId := nextEditionId s.ed.nextId } := by
  simp only [State.openDraft, closed, State.raise_ed, and_self]

theorem draftOpen_next (src : Nat) (s : State) (ha : s.accepts src K.draftOpen) (closed : s.ed.draft = none) :
    ∃ t, exec (.draftOpen src) s = .next t ∧ t.answered src .ok ∧ t.ed.draft = some ⟨s.ed.nextId, src, false, []⟩ ∧
      t.ed.nextId = nextEditionId s.ed.nextId := by
  obtain ⟨ok, ed⟩ := openDraft_none (s := s.accepted src) src (by rwa [accepted_ed])
  refine ⟨_, rfl, ?_⟩
  rw [request_accepted s src ha, State.ack_ed, ok, ed, accepted_ed]
  exact ⟨ack_answered .., rfl, rfl⟩

/-- What a draft holds of a written value: a number clamped to its entry (09 R245, R266). -/
def draftValue (k : Key) : Val → Val
  | .num n => .num (clampKey k n)
  | .blob b => .blob b

theorem draftEffect_owner {s : State} {src : Nat} {k : Key} {d : Draft} (v : Val) (draft : s.ed.draft = some d) (owner : d.owner = src)
    (room : hasElem d.elems k = true ∨ d.elems.length < 8192) :
    (draftEffect src k v s).2 = .ok ∧
      (draftEffect src k v s).1.ed.draft = some { d with validated := false, elems := kins d.elems k (draftValue k v) } := by
  have fits : ¬(hasElem d.elems k = false ∧ 8192 ≤ d.elems.length) := by
    rintro ⟨new, full⟩
    rcases room with held | below
    · simp [new] at held
    · omega
  simp only [draftEffect, draft]
  rw [if_neg (not_not.2 owner), if_neg fits]
  cases v <;> exact ⟨rfl, rfl⟩

theorem draftWrite_next (src : Nat) (k : Key) (v : Val) (d : Draft) (s : State) (ha : s.accepts src k)
    (ed : (rowOf (canonKey k)).any (fun r => r.access = .ed) = true) (draft : s.ed.draft = some d) (owner : d.owner = src)
    (room : hasElem d.elems (canonKey k) = true ∨ d.elems.length < 8192) :
    ∃ t, exec (.draftWrite src k v) s = .next t ∧ t.answered src .ok ∧
      t.ed.draft.map (fun d => (d.validated, kfind d.elems (canonKey k))) = some (false, some (draftValue (canonKey k) v)) := by
  obtain ⟨ok, written⟩ := draftEffect_owner (s := s.accepted src) v (by rwa [accepted_ed]) owner room
  refine ⟨_, rfl, ?_⟩
  rw [when_true ed, request_accepted s src ha, State.ack_ed, ok, written]
  exact ⟨ack_answered .., by simp [kfind_kins_same]⟩

/-! ### The end of the draft (09 R266, R279) -/

/-- A draft that ends is closed, and the latest in the history. -/
theorem endDraft_ed {s : State} {d : Draft} (result reason : Nat) (draft : s.ed.draft = some d) :
    (s.endDraft result reason).ed.draft = none ∧
      (s.endDraft result reason).ed.hist.head? = some ⟨d.id, d.owner, result, reason, s.datum, 0xFF, d.elems.length, 0, 0⟩ := by
  simp only [State.endDraft, draft]
  exact ⟨rfl, rfl⟩

theorem draftDiscard_next (src : Nat) (d : Draft) (s : State) (ha : s.accepts src K.draftDiscard) (draft : s.ed.draft = some d)
    (may : d.owner = src ∨ isPlotter src = true) :
    ∃ t, exec (.draftDiscard src) s = .next t ∧ t.answered src .ok ∧ t.ed.draft = none ∧
      t.ed.hist.head? = some ⟨d.id, d.owner, 4, 0, s.datum, 0xFF, d.elems.length, 0, 0⟩ := by
  have draft' : (s.accepted src).ed.draft = some d := by rwa [accepted_ed]
  have discard : (s.accepted src).discardDraft src = ((s.accepted src).endDraft 4 0, .ok) := by
    simp only [State.discardDraft, draft']
    rw [if_pos (by simpa using may)]
  obtain ⟨closed, latest⟩ := endDraft_ed 4 0 draft'
  refine ⟨_, rfl, ?_⟩
  rw [request_accepted s src ha, State.ack_ed, discard]
  exact ⟨ack_answered .., closed, accepted_datum s src ▸ latest⟩

theorem edDraftExpired_next (d : Draft) (s : State) (draft : s.ed.draft = some d) :
    ∃ t, exec .edDraftExpired s = .next t ∧ t.ed.draft = none ∧
      t.ed.hist.head? = some ⟨d.id, d.owner, 5, 0, s.datum, 0xFF, d.elems.length, 0, 0⟩ :=
  ⟨_, rfl, endDraft_ed 5 0 draft⟩

/-! ### Validation and arming (09 R266, R268, R270) -/

theorem ownerCheck_owner {s : State} {src : Nat} {d : Draft} (draft : s.ed.draft = some d) (owner : d.owner = src) :
    s.ownerCheck src = none := by
  simp [State.ownerCheck, draft, owner]

theorem validateDraft_valid {s : State} {src : Nat} {d : Draft} (draft : s.ed.draft = some d) (owner : d.owner = src)
    (valid : ((s.projected (fun _ => true)).putElems d.elems).editionRules d.elems = []) :
    (s.validateDraft src).2 = .ok ∧ (s.validateDraft src).1.ed.draft = some { d with validated := true } := by
  simp only [State.validateDraft, ownerCheck_owner draft owner, draft]
  rw [if_pos (by simp [valid])]
  exact ⟨rfl, rfl⟩

theorem draftValidate_next (src : Nat) (d : Draft) (s : State) (ha : s.accepts src K.draftValidate) (draft : s.ed.draft = some d)
    (owner : d.owner = src) (valid : (((s.accepted src).projected (fun _ => true)).putElems d.elems).editionRules d.elems = []) :
    ∃ t, exec (.draftValidate src) s = .next t ∧ t.answered src .ok ∧ t.ed.draft = some { d with validated := true } := by
  obtain ⟨ok, validated⟩ := validateDraft_valid (s := s.accepted src) (by rwa [accepted_ed]) owner valid
  refine ⟨_, rfl, ?_⟩
  rw [request_accepted s src ha, State.ack_ed, ok]
  exact ⟨ack_answered .., validated⟩

/-- Preparing sheets and announcing a switch is no concern of the editions part. -/
theorem armEdition_ed (s : State) (e : Edition) :
    (s.armEdition e).ed = { s.ed with draft := none, armed := s.insertArmed e s.ed.armed, armSeq := s.ed.armSeq + 1 } := by
  have sheet : ∀ (u : State) (c : Carrier), (u.prepareSheet c).ed = u.ed := fun u c =>
    (State.prepareSheet_leads u c (covers_refl _) (Leads.refl _ u)).1.2 .ed (by cases c <;> rfl)
  have announced : ∀ (u : State) (c : Carrier), (u.announce e c).ed = u.ed := fun u c =>
    (State.announce_leads u e c (covers_refl _) (Leads.refl _ u)).1.2 .ed (by cases c <;> rfl)
  unfold State.armEdition
  dsimp only
  rw [sheet, sheet, announced, announced, State.raise_ed]
  rfl

theorem armDraft_valid {s : State} {src group : Nat} {d : Draft} (draft : s.ed.draft = some d) (owner : d.owner = src)
    (validated : d.validated = true) (free : s.armingFaults (s.asEdition d group) = []) :
    s.armDraft src group = (s.armEdition (s.asEdition d group), .ok) := by
  simp only [State.armDraft, ownerCheck_owner draft owner, draft]
  rw [if_neg (by simp [validated]), if_pos (by simp [free])]

theorem draftArm_next (src : Nat) (d : Draft) (s : State) (ha : s.accepts src K.draftArm) (draft : s.ed.draft = some d)
    (owner : d.owner = src) (validated : d.validated = true)
    (free : (s.accepted src).armingFaults ((s.accepted src).asEdition d 0) = []) :
    ∃ t, exec (.draftArm src) s = .next t ∧ t.answered src .ok ∧ t.ed.draft = none ∧
      t.ed.armed = (s.accepted src).insertArmed ((s.accepted src).asEdition d 0) s.ed.armed := by
  refine ⟨_, rfl, ?_⟩
  rw [request_accepted s src ha, armDraft_valid (by rwa [accepted_ed]) owner validated free, State.ack_ed, armEdition_ed, accepted_ed]
  exact ⟨ack_answered .., rfl, rfl⟩

/-! ### Disarming (09 R271, R279) -/

theorem addHist_ed (s : State) (h : HistRec) : (s.addHist h).ed = { s.ed with hist := (h :: s.ed.hist).take 16 } := rfl

/-- Announcements of an edition's switch that stop are no concern of the editions part (02 R55). -/
theorem dropAnnounced_ed (s : State) (e : Edition) (c : Carrier) :
    (if (s.car c).tx.pend.any (fun p => p.edId = e.id) then s.cancelPending c else s).ed = s.ed := by
  split
  · exact State.modTx_ed ..
  · rfl

theorem disarm_ed (s : State) (e : Edition) (reason : Nat) :
    (s.disarm e reason).ed.armed = s.ed.armed.filter (fun x => x.seq ≠ e.seq) ∧
      (s.disarm e reason).ed.hist.head? = some ⟨e.id, e.src, 3, reason, s.datum, e.mode, e.elems.length, e.instant, 0⟩ := by
  unfold State.disarm
  dsimp only
  rw [State.raise_ed, dropAnnounced_ed, dropAnnounced_ed]
  exact ⟨rfl, rfl⟩

theorem disarm_next (src : Nat) (id : Int) (e : Edition) (s : State) (ha : s.accepts src K.disarm)
    (armed : s.ed.armed.find? (fun e => e.id = (clampKey K.disarm id).toNat) = some e) (may : e.src = src ∨ isPlotter src = true) :
    ∃ t, exec (.disarm src id) s = .next t ∧ t.answered src .ok ∧ t.ed.armed = s.ed.armed.filter (fun x => x.seq ≠ e.seq) ∧
      t.ed.hist.head? = some ⟨e.id, e.src, 3, 0, s.datum, e.mode, e.elems.length, e.instant, 0⟩ := by
  have disarms : (s.accepted src).disarmCmd src (clampKey K.disarm id).toNat = ((s.accepted src).disarm e 0, .ok) := by
    simp only [State.disarmCmd, accepted_ed, armed]
    rw [if_pos (by simpa using may)]
  obtain ⟨left, latest⟩ := disarm_ed (s.accepted src) e 0
  rw [accepted_ed] at left
  rw [accepted_datum] at latest
  refine ⟨_, rfl, ?_⟩
  rw [request_accepted s src ha, disarms, State.ack_ed]
  exact ⟨ack_answered .., left, latest⟩

/-! ### Application (09 R273, R274, R279) -/

/-- The state once the stages and the host have taken up an edition's values (09 R273). -/
def State.tookUp (s : State) (e : Edition) : State :=
  let stored := s.putElems e.elems
  let a := stored.appliedCarrier s e .a
  let ab := if a.present .b then a.appliedCarrier s e .b else a
  (e.elems.filter (fun x => x.1.area = 0x68)).foldl (fun s x => s.fbDescChanged (ringOf x.1)) (ab.hostApplied s (s.realChanges e.elems))

theorem State.tookUp_leads (s : State) (e : Edition) : Leads [.legend, .blobs, .carA, .ev, .fb, .carB, .host] s (s.tookUp e) := by
  have stored := State.putElems_leads s e.elems (ps := [.legend, .blobs, .carA, .ev, .fb, .carB, .host]) (by decide) (Leads.refl _ s)
  have a := State.appliedCarrier_leads _ s e .a (by decide) stored
  unfold State.tookUp
  dsimp only
  refine foldl_leads (State.hostApplied_leads _ _ _ (by decide) (ite_leads ?_ a)) fun u x hu => State.fbDescChanged_leads _ _ (by decide) hu
  exact State.appliedCarrier_leads _ s e .b (by decide) a

theorem applyValues_eq (s : State) (e : Edition) :
    s.applyValues e =
      (((((s.tookUp e).wr K.lastAppliedId (e.id : Nat)).wr K.lastAppliedTime ((s.tookUp e).datum : Nat)).raise Ev.edApplied noKey).journal
        (.edition e.mode e.src e.id e.instant (s.tookUp e).datum e.elems)).addHist
          ⟨e.id, e.src, 0, 0, (s.tookUp e).datum, e.mode, e.elems.length, e.instant, 0⟩ := rfl

theorem journal_armed_hist (s : State) (r : JRec) : (s.journal r).ed.armed = s.ed.armed ∧ (s.journal r).ed.hist = s.ed.hist := by
  unfold State.journal
  dsimp only
  split <;> exact ⟨rfl, rfl⟩

theorem applyValues_effect (s : State) (e : Edition) :
    (s.applyValues e).ed.armed = s.ed.armed ∧ (s.applyValues e).ed.hist.head?.map HistRec.id = some e.id ∧
      (s.applyValues e).rd K.lastAppliedId = (e.id : Nat) ∧ (s.applyValues e).rd K.lastAppliedTime = (s.datum : Nat) := by
  have ed : (s.tookUp e).ed = s.ed := (s.tookUp_leads e).1.2 .ed rfl
  have datum : (s.tookUp e).datum = s.datum := (s.tookUp_leads e).1.2 .datum rfl
  rw [applyValues_eq, datum]
  refine ⟨?_, rfl, ?_, ?_⟩
  · rw [addHist_ed, (journal_armed_hist ..).1, State.raise_ed, State.wr_ed, State.wr_ed, ed]
  all_goals
    refine (journal_rd _ _ (by simp)).trans ?_
    simp [State.rd_wr_other]

/-- An edition that breaks a rule at its instant changes the history alone of the editions part (09 R274). -/
theorem applyRejected_ed (s : State) (e : Edition) (bad : List (Nat × Key)) :
    (s.applyRejected e bad).ed.armed = s.ed.armed ∧ (s.applyRejected e bad).ed.hist.head?.map HistRec.id = some e.id := by
  unfold State.applyRejected
  dsimp only
  rw [State.raise_ed, dropAnnounced_ed, dropAnnounced_ed]
  exact ⟨rfl, rfl⟩

theorem lxAtN_leads_lx (s : State) (e : Edition) (c : Carrier) : Leads [.entry 0x23 0x06B, .entry 0x33 0x06B] s (s.lxAtN e c) :=
  State.lxAtN_leads s e c (by cases c <;> rfl) (Leads.refl _ s)

/-- The armed editions but one, as application leaves them to the checks (09 R273). -/
def State.withoutArmed (s : State) (e : Edition) : State :=
  { s with ed := { s.ed with armed := s.ed.armed.filter (fun x => x.seq ≠ e.seq) } }

theorem applyEdition_cases (s : State) (e : Edition) :
    ∃ u, Leads [.entry 0x23 0x06B, .entry 0x33 0x06B] u (s.applyEdition e) ∧
      ((((s.withoutArmed e).putElems e.elems).editionRules e.elems = [] ∧ u = (s.withoutArmed e).applyValues e) ∨
        (((s.withoutArmed e).putElems e.elems).editionRules e.elems ≠ [] ∧
          u = (s.withoutArmed e).applyRejected e (((s.withoutArmed e).putElems e.elems).editionRules e.elems))) := by
  refine ⟨_, (lxAtN_leads_lx _ e .a).trans (lxAtN_leads_lx _ e .b), ?_⟩
  split
  case isTrue valid => exact .inl ⟨List.isEmpty_iff.1 valid, rfl⟩
  case isFalse broken => exact .inr ⟨fun h => broken (List.isEmpty_iff.2 h), rfl⟩

theorem editionApply_next (e : Edition) (s : State) (due : s.ed.armed.find? s.editionDue = some e) :
    ∃ t, exec .editionApply s = .next t ∧ t.ed.armed = s.ed.armed.filter (fun x => x.seq ≠ e.seq) ∧
      t.ed.hist.head?.map HistRec.id = some e.id ∧
      (((s.withoutArmed e).putElems e.elems).editionRules e.elems = [] →
        t.rd K.lastAppliedId = (e.id : Nat) ∧ t.rd K.lastAppliedTime = (s.datum : Nat)) := by
  obtain ⟨u, follows, outcome⟩ := applyEdition_cases s e
  have ed : (s.applyEdition e).ed = u.ed := follows.1.2 .ed rfl
  refine ⟨s.applyEdition e, ?_, ?_⟩
  · show Host.Outcome.next _ = _
    simp only [due]
  rw [ed]
  rcases outcome with ⟨-, rfl⟩ | ⟨broken, rfl⟩
  · obtain ⟨armed, latest, id, time⟩ := applyValues_effect (s.withoutArmed e) e
    exact ⟨armed, latest, fun _ => ⟨(follows.rd_eq _ rfl).trans id, (follows.rd_eq _ rfl).trans time⟩⟩
  · obtain ⟨armed, latest⟩ := applyRejected_ed (s.withoutArmed e) e (((s.withoutArmed e).putElems e.elems).editionRules e.elems)
    exact ⟨armed, latest, fun valid => absurd valid broken⟩

/-- Settles O13: each clause is what its command's lemma above says. -/
theorem editionsComplete : Obligations.EditionsComplete := by
  refine ⟨draftOpen_next, fun src k v d s ha ed draft owner room => ?_, draftDiscard_next, edDraftExpired_next, draftValidate_next,
    draftArm_next, disarm_next, editionApply_next⟩
  cases v <;> exact draftWrite_next src k _ d s ha ed draft owner room

end Sys2Proof.Machine
end

section
/-! SUPPORT. The management ports (09 R252 to R257, R482) and the step (09 R248): requests in wire form, the SPI and MDIO responses, the
two-wire window, and the obligations about them. -/

namespace Sys2Proof.Machine

/-! ### SPI and MDIO (09 R252, R253, R257, R482) -/

theorem answerBad_answered (s : State) (src : Nat) (st : Status) : (s.answerBad src st).answered src st := ack_answered ..

theorem legendRequestBad_next (src : Nat) (bytes : List Byte) (st : Status) (s : State) (port : (portOf src).isSome = true)
    (served : s.portOpen src = true) (powered : s.portsDead = false) (ready : s.ports.ready = true)
    (fault : requestFault true bytes = some st) :
    ∃ t, exec (.legendRequestBad src bytes) s = .next t ∧ t.answered src st := by
  have answer : s.serveBytes src true bytes 0 = (s.idleRestart src).answerBad src st := by
    unfold State.serveBytes
    rw [if_neg (by simp [served, powered])]
    simp only [ready, if_true, fault]
  refine ⟨_, rfl, ?_⟩
  rw [when_true (by simp [port, fault]), answer]
  exact answerBad_answered ..

theorem spiResponseRead_next (s : State) (served : s.portOpen 1 = true) (powered : s.portsDead = false)
    (pending : s.ports.spiPending = true) (answered : (s.replyOf 1).status ≠ .busy) :
    ∃ t, exec .spiResponseRead s = .next t ∧ t.ports.spiPending = false ∧ t.ports.enableNow = s.rdN K.portEnable ∧
      t.ports.twiAddrNow = s.rdN K.twiAddr ∧ t.ports.prtadNow = s.rdN K.mdioPrtad := by
  refine ⟨_, rfl, ?_⟩
  rw [when_true (by simp [served, powered, pending, answered])]
  exact ⟨rfl, rfl, rfl, rfl⟩

theorem mdioServe_next (prtad mmd : Nat) (buf : List Byte) (len meas : Nat) (s : State) (served : s.portOpen 2 = true)
    (powered : s.portsDead = false) (address : prtad = s.ports.prtadNow) (device : mmd = 30) :
    ∃ t, exec (.mdioServe prtad mmd buf len meas) s = .next t ∧ t.ports.mdioLen = len ∧
      t.ports.mdioStatus = (t.replyOf 2).status.code ∧ t.ports.mdioBuf.take (t.replyOf 2).bytes.length = (t.replyOf 2).bytes := by
  refine ⟨_, rfl, ?_⟩
  rw [when_true (by simp [served, powered, address, device])]
  exact ⟨rfl, rfl, List.take_left ..⟩

/-! ### The two-wire window (09 R255, R256) -/

theorem twiWindowRead_next (addr n : Nat) (s : State) (at_ : s.windowAt addr = true) :
    ∃ t, exec (.twiWindowRead addr n) s = .next t ∧ t.ports.winData = (s.winRead n s.ports.winPtr).1 ∧
      t.ports.winPtr = (s.winRead n s.ports.winPtr).2.1 := by
  refine ⟨_, rfl, ?_⟩
  rw [when_true at_]
  exact ⟨rfl, rfl⟩

/-- The window with its byte pointer at a place. -/
def State.withWinPtr (s : State) (p : Nat) : State := { s with ports := { s.ports with winPtr := p } }

@[simp] theorem withWinPtr_winPtr (s : State) (p : Nat) : (s.withWinPtr p).ports.winPtr = p := rfl
@[simp] theorem withWinPtr_winQueue (s : State) (p : Nat) : (s.withWinPtr p).ports.winQueue = s.ports.winQueue := rfl
@[simp] theorem withWinPtr_winByte (s : State) (p a : Nat) : (s.withWinPtr p).winByte a = s.winByte a := rfl

/-- A write transfer at the window's address sets the pointer with its first byte and writes the others. -/
theorem twiWindowWrite_eq {addr : Nat} {s : State} (ptr : Nat) (bytes : List Byte) (at_ : s.windowAt addr = true) :
    exec (.twiWindowWrite addr ptr bytes) s = .next ((s.withWinPtr (ptr % 256)).winWrite bytes) :=
  congrArg Host.Outcome.next (when_true at_)

theorem twiWindowWrite_pointer_next (addr ptr : Nat) (s : State) (at_ : s.windowAt addr = true) :
    ∃ t, exec (.twiWindowWrite addr ptr []) s = .next t ∧ t.ports.winPtr = ptr % 256 :=
  ⟨_, twiWindowWrite_eq ptr [] at_, rfl⟩

theorem winByte_congr {s t : State} (mem : t.ports.winMem = s.ports.winMem) (integ : t.integ = s.integ) (a : Nat) :
    t.winByte a = s.winByte a := by
  unfold State.winByte State.lineBad
  rw [mem, integ]

theorem putWin_winByte {s : State} {a : Nat} (b : Byte) (good : s.lineBad 0x320 (a / 32) = false) : (s.putWin a b).winByte a = b := by
  have bad : (s.putWin a b).lineBad 0x320 (a / 32) = false := good
  unfold State.winByte
  rw [bad, if_neg Bool.false_ne_true]
  unfold State.putWin
  dsimp only
  split
  case isTrue zero => rw [aget_adel, zero]
  case isFalse => exact aget_aput ..

theorem coreEvent_ports_integ (s : State) (bit : Nat) (who : Nat → Bool) :
    (s.coreEvent bit who).ports = s.ports ∧ (s.coreEvent bit who).integ = s.integ :=
  have leads := State.coreEvent_leads s bit who (covers_refl _) (Leads.refl _ s)
  ⟨leads.1.2 .ports rfl, leads.1.2 .integ rfl⟩

/-- A host byte to a whole line is stored, and queued for firmware. -/
theorem winStore_effect {s : State} (p : Nat) {a : Nat} (b : Byte) (good : s.lineBad 0x320 (a / 32) = false) :
    (s.winStore p a b).winByte a = b ∧ (s.winStore p a b).ports.winQueue.length = s.ports.winQueue.length + 1 := by
  have taken : (if p < 128 then s.tookFree else s).lineBad 0x320 (a / 32) = false ∧
      (if p < 128 then s.tookFree else s).ports = s.ports := by
    split <;> exact ⟨good, rfl⟩
  unfold State.winStore
  dsimp only
  rw [good, if_neg Bool.false_ne_true, State.raise_ports, (coreEvent_ports_integ ..).1]
  refine ⟨(winByte_congr ?_ ?_ a).trans (putWin_winByte b taken.1), ?_⟩
  · rw [State.raise_ports, (coreEvent_ports_integ ..).1]
  · rw [State.raise_integ, (coreEvent_ports_integ ..).2]
  · simp [State.putWin, taken.2]

theorem winWrite_marked {s : State} {a : Nat} (b : Byte) (rest : List Byte) (place : s.winPlace s.ports.winPtr = some a)
    (marked : s.ports.winMark.contains a = true) (room : s.ports.winQueue.length < 64) :
    s.winWrite (b :: rest) = ((s.winStore s.ports.winPtr a b).withWinPtr (winNext s.ports.winPtr)).winWrite rest := by
  rw [State.winWrite, if_neg (Nat.not_le.2 room)]
  simp only [place, marked, if_true]
  rfl

theorem twiWindowWrite_byte_next (addr ptr a : Nat) (b : Byte) (s : State) (at_ : s.windowAt addr = true) (small : ptr < 256)
    (place : s.winPlace ptr = some a) (marked : s.ports.winMark.contains a = true) (room : s.ports.winQueue.length < 64)
    (good : s.lineBad 0x320 (a / 32) = false) :
    ∃ t, exec (.twiWindowWrite addr ptr [b]) s = .next t ∧ t.winByte a = b ∧
      t.ports.winQueue.length = s.ports.winQueue.length + 1 ∧ t.ports.winPtr = winNext ptr := by
  obtain ⟨stored, queued⟩ := winStore_effect (s := s.withWinPtr ptr) ptr b good
  refine ⟨_, twiWindowWrite_eq ptr [b] at_, ?_⟩
  rw [Nat.mod_eq_of_lt small, winWrite_marked (s := s.withWinPtr ptr) b [] place marked room, State.winWrite, withWinPtr_winByte,
    withWinPtr_winQueue, withWinPtr_winPtr, withWinPtr_winPtr]
  exact ⟨stored, queued, rfl⟩

theorem twiWindowWrite_full_next (addr ptr : Nat) (b : Byte) (rest : List Byte) (s : State) (at_ : s.windowAt addr = true)
    (full : 64 ≤ s.ports.winQueue.length) :
    ∃ t, exec (.twiWindowWrite addr ptr (b :: rest)) s = .next t ∧ t.ports.winQueue = s.ports.winQueue ∧
      t.ports.winMem = s.ports.winMem ∧ t.rd K.windowNackCount = (min (s.rdN K.windowNackCount + 1) max48 : Nat) := by
  have refused : (s.withWinPtr (ptr % 256)).winWrite (b :: rest) =
      ((s.withWinPtr (ptr % 256)).bump K.windowNackCount).raise Ev.twiWindowFull noKey := by
    unfold State.winWrite
    exact if_pos full
  have ports : ((s.withWinPtr (ptr % 256)).bump K.windowNackCount).ports = (s.withWinPtr (ptr % 256)).ports :=
    (State.bump_leads _ _ (covers_refl _) (Leads.refl _ _)).1.2 .ports rfl
  refine ⟨_, twiWindowWrite_eq ptr (b :: rest) at_, ?_⟩
  rw [refused, State.raise_ports, ports, State.raise_rd, bump_rd, if_pos rfl]
  exact ⟨rfl, rfl, rfl⟩

/-- Settles O26: each clause is what its command's lemma above says. -/
theorem managementPortsComplete : Obligations.ManagementPortsComplete :=
  ⟨legendRequestBad_next, spiResponseRead_next, mdioServe_next, twiWindowRead_next, twiWindowWrite_pointer_next,
   twiWindowWrite_byte_next, twiWindowWrite_full_next⟩

/-! ### The step (09 R248; 10 R296) -/

/-- Settles O44: the queue's form decides which branch of the step runs. -/
theorem stepRunsTheFrontCommand : Obligations.StepRunsTheFrontCommand := by
  refine ⟨fun s c rest front => ?_, fun s idle => ?_⟩
  · simp only [step, front]
  · simp only [step, idle]

end Sys2Proof.Machine
end

section
/-! SUPPORT. The links of the Traverse (10 R285 to R294): what the operations on them leave of a link, when a link's next frame starts, and
that every time-class frame on a link stays at CLASS 0. -/

namespace Sys2Proof.Machine

/-! ### One link after the basic updates -/

@[simp] theorem modLink_rd (s : State) (l : Nat) (f : TvLink → TvLink) (k : Key) : (s.modLink l f).rd k = s.rd k := rfl
@[simp] theorem modLink_rdN (s : State) (l : Nat) (f : TvLink → TvLink) (k : Key) : (s.modLink l f).rdN k = s.rdN k := rfl
@[simp] theorem modLink_linkUp (s : State) (l : Nat) (f : TvLink → TvLink) (m : Nat) : (s.modLink l f).linkUp m = s.linkUp m := rfl
@[simp] theorem modLink_length (s : State) (l : Nat) (f : TvLink → TvLink) : (s.modLink l f).tv.links.length = s.tv.links.length :=
  List.length_modify ..
@[simp] theorem wr_link (s : State) (k : Key) (v : Int) (m : Nat) : (s.wr k v).link m = s.link m := rfl
@[simp] theorem raise_link (s : State) (code : Nat) (k : Key) (m : Nat) : (s.raise code k).link m = s.link m := rfl
@[simp] theorem modTx_tv (s : State) (c : Carrier) (f : TxState → TxState) : (s.modTx c f).tv = s.tv := by cases c <;> rfl
@[simp] theorem modTx_link (s : State) (c : Carrier) (f : TxState → TxState) (m : Nat) : (s.modTx c f).link m = s.link m := by
  cases c <;> rfl

theorem State.link_congr {s t : State} (h : t.tv.links = s.tv.links) (m : Nat) : t.link m = s.link m := by
  rw [State.link, h, State.link]

@[simp] theorem wrapN_tv (s : State) (k : Key) (n : Nat) : (s.wrapN k n).tv = s.tv :=
  (State.wrapN_leads s k n (covers_refl _) (Leads.refl _ s)).1.2 .tv rfl

@[simp] theorem bump_tv (s : State) (k : Key) : (s.bump k).tv = s.tv :=
  (State.bump_leads s k (covers_refl _) (Leads.refl _ s)).1.2 .tv rfl

theorem modLink_link {s : State} {l : Nat} (h : l < s.tv.links.length) (f : TvLink → TvLink) : (s.modLink l f).link l = f (s.link l) := by
  simp [State.link, State.modLink, nth_modify, h]

theorem modLink_link_other (s : State) {l m : Nat} (f : TvLink → TvLink) (h : m ≠ l) : (s.modLink l f).link m = s.link m := by
  simp [State.link, State.modLink, nth_modify, h.symm]

/-- What a change of a link keeps is as before in every link. -/
theorem modLink_keeps {α : Type} (read : TvLink → α) (s : State) (l m : Nat) {f : TvLink → TvLink} (hf : ∀ x, read (f x) = read x) :
    read ((s.modLink l f).link m) = read (s.link m) := by
  simp only [State.link, State.modLink, nth_modify]
  split
  · exact hf _
  · rfl

/-- A link that is not as after reset is one of those there are. -/
theorem link_lt {s : State} {l : Nat} (h : s.link l ≠ TvLink.reset) : l < s.tv.links.length := by
  by_contra beyond
  exact h (by simp [State.link, nth, beyond])

/-! ### Returned credits (10 R287) -/

/-- A returned credit shows in the count of returned credits alone. -/
theorem returnCredit_keeps {α : Type} (read : TvLink → α) (hf : ∀ x r, read { x with returned := r } = read x) (s : State)
    (b : Option (Nat × Nat × Nat)) (m : Nat) : read ((s.returnCredit b).link m) = read (s.link m) := by
  unfold State.returnCredit
  split
  · rfl
  · split
    · rfl
    · exact modLink_keeps read s _ m (fun x => hf x _)

theorem returnCredit_length (s : State) (b : Option (Nat × Nat × Nat)) : (s.returnCredit b).tv.links.length = s.tv.links.length := by
  unfold State.returnCredit
  split
  · rfl
  · split
    · rfl
    · exact modLink_length ..

@[simp] theorem returnCredit_rd (s : State) (b : Option (Nat × Nat × Nat)) (k : Key) : (s.returnCredit b).rd k = s.rd k :=
  (State.returnCredit_leads s b (covers_refl _) (Leads.refl _ s)).rd_eq k (by simp [Part.within])

/-! ### The start of a link's next frame (10 R287, R290) -/

/-- A link as its next frame starts: the frame leaves the queue, and on a port takes a credit of its class. -/
def TvLink.started (x : TvLink) (l : Nat) (o : TvOut) (rest : List TvOut) (again : Bool) : TvLink :=
  { x with
    queue := rest, sending := some o, repeatDue := again
    credits := if l < 3 then x.credits.modify o.frame.cls (· - 1) else x.credits }

/-- Either nothing starts, or an idle link that is up starts the frame picked from its queue, stamped, and no other link changes. -/
theorem startLink_cases (s : State) (l : Nat) (t : Rat) :
    s.startLink l t = s ∨
    ∃ o rest again, pickFrame (l < 3) (s.link l).credits (s.link l).queue = some (o, rest) ∧
      (s.startLink l t).tv = (s.modLink l (fun x => x.started l { o with frame := o.frame.stamped t } rest again)).tv := by
  unfold State.startLink
  dsimp only
  split
  · exact .inl rfl
  · split
    · exact .inl rfl
    case h_2 o rest picked =>
      refine .inr ⟨o, rest, 3 ≤ l && (o.frame.stamped t).cls ≤ 1 && s.on K.ibRepeat, picked, ?_⟩
      rw [apply_ite State.tv, modTx_tv, ite_self]
      rfl

/-- A reading of a link that no start of a frame changes stays. -/
theorem startLink_keeps {α : Type} (read : TvLink → α) (hf : ∀ x l o rest again, read (TvLink.started x l o rest again) = read x)
    (s : State) (l : Nat) (t : Rat) (m : Nat) : read ((s.startLink l t).link m) = read (s.link m) := by
  rcases startLink_cases s l t with same | ⟨o, rest, again, -, tv⟩
  · rw [same]
  · rw [State.link_congr (congrArg TvState.links tv) m]
    exact modLink_keeps read s l m (fun x => hf x ..)

theorem startLink_other (s : State) {l m : Nat} (t : Rat) (h : m ≠ l) : (s.startLink l t).link m = s.link m := by
  rcases startLink_cases s l t with same | ⟨o, rest, again, -, tv⟩
  · rw [same]
  · rw [State.link_congr (congrArg TvState.links tv) m, modLink_link_other s _ h]

theorem startLink_length (s : State) (l : Nat) (t : Rat) : (s.startLink l t).tv.links.length = s.tv.links.length := by
  rcases startLink_cases s l t with same | ⟨o, rest, again, -, tv⟩
  · rw [same]
  · rw [tv, modLink_length]

@[simp] theorem startLink_rd (s : State) (l : Nat) (t : Rat) (k : Key) : (s.startLink l t).rd k = s.rd k :=
  (State.startLink_leads s l t (covers_refl _) (Leads.refl _ s)).rd_eq k (by simp [Part.within])

@[simp] theorem stamped_type (f : TvFrame) (t : Rat) : (f.stamped t).type = f.type := by
  unfold TvFrame.stamped
  split_ifs <;> rfl

@[simp] theorem stamped_cls (f : TvFrame) (t : Rat) : (f.stamped t).cls = f.cls := by
  unfold TvFrame.stamped
  split_ifs <;> rfl

/-- The frame picked stands in the queue, and what remains is what stood there beside it. -/
theorem pickFrame_mem {port : Bool} {credits : List Nat} {q rest : List TvOut} {o : TvOut} (h : pickFrame port credits q = some (o, rest)) :
    o ∈ q ∧ ∀ x ∈ rest, x ∈ q := by
  obtain ⟨c, -, picked⟩ := List.mem_filterMap.1 (List.mem_of_head? h)
  split at picked
  · cases picked
  · split at picked
    case h_1 i _ =>
      obtain ⟨y, at_i, pair⟩ := Option.map_eq_some_iff.1 picked
      obtain ⟨rfl, rfl⟩ := Prod.mk.inj pair
      exact ⟨List.mem_of_getElem? at_i, fun x hx => List.mem_of_mem_eraseIdx hx⟩
    · cases picked

/-- A queue of one frame of class 0 gives it up where the link needs no credit or has one. -/
theorem pickFrame_single {port : Bool} {credits : List Nat} {o : TvOut} (cls : o.frame.cls = 0)
    (credit : port = false ∨ nth credits 0 0 ≠ 0) : pickFrame port credits [o] = some (o, []) := by
  have allowed : ¬(port = true ∧ nth credits 0 0 = 0) := fun ⟨onPort, zero⟩ => credit.elim (by simp [onPort]) (· zero)
  simp [pickFrame, allowed, List.findIdx?_cons, cls]

/-! ### Queues (10 R294) -/

/-- The queue of an in-band link holds what it held, or the frame that came. -/
theorem ibInsert_mem {q : List TvOut} {o x : TvOut} (h : x ∈ (ibInsert q o).1) : x ∈ q ∨ x = o := by
  unfold ibInsert at h
  dsimp only at h
  split at h
  · simpa using h
  · split at h
    · exact .inl h
    · split at h
      · rw [List.mem_append, List.mem_singleton] at h
        exact h.imp_left List.mem_of_mem_eraseIdx
      · exact .inl h

theorem ibInsert_nil (o : TvOut) : ibInsert [] o = ([o], false) := by simp [ibInsert]

/-- What a frame queued on a link leaves of another: all but the credits it owes its sender. -/
theorem enqueue_other {α : Type} (read : TvLink → α) (hf : ∀ x r, read { x with returned := r } = read x) (s : State) {l m : Nat}
    (o : TvOut) (t : Rat) (h : m ≠ l) : read ((s.enqueue l o t).link m) = read (s.link m) := by
  have credits : ∀ (bs : List (Nat × Nat × Nat)) (u : State),
      read ((bs.foldl (fun s b => s.returnCredit (some b)) u).link m) = read (u.link m) :=
    fun _ => foldl_reading_other (read := fun u : State => read (u.link m)) (fun u b _ => returnCredit_keeps read hf u (some b) m)
  unfold State.enqueue
  split
  · rw [startLink_other _ _ h, modLink_link_other _ _ h]
  · dsimp only
    rw [startLink_other _ _ h, credits]
    split
    · rw [State.link_congr (congrArg TvState.links (bump_tv ..)) m, modLink_link_other _ _ h]
    · rw [modLink_link_other _ _ h]

theorem enqueue_length (s : State) (l : Nat) (o : TvOut) (t : Rat) : (s.enqueue l o t).tv.links.length = s.tv.links.length := by
  have credits : ∀ (bs : List (Nat × Nat × Nat)) (u : State),
      (bs.foldl (fun s b => s.returnCredit (some b)) u).tv.links.length = u.tv.links.length :=
    fun _ => foldl_reading_other (read := fun u : State => u.tv.links.length) (fun u b _ => returnCredit_length u (some b))
  unfold State.enqueue
  split
  · rw [startLink_length, modLink_length]
  · dsimp only
    rw [startLink_length, credits]
    split
    · rw [bump_tv, modLink_length]
    · rw [modLink_length]

/-- Whether a link is up does not depend on the queues (10 R283, R293). -/
theorem enqueue_linkUp (s : State) (l : Nat) (o : TvOut) (t : Rat) (m : Nat) : (s.enqueue l o t).linkUp m = s.linkUp m := by
  have follows := State.enqueue_leads s l o t (covers_refl _) (Leads.refl _ s)
  have rd : ∀ k : Key, k.entry ≠ 0x017 → (s.enqueue l o t).rd k = s.rd k := fun k hk => follows.rd_eq k (by simp [Part.within, hk])
  have present : ∀ c, (s.enqueue l o t).present c = s.present c := fun c => by
    cases c
    · rfl
    · exact congrArg (fun f : FuseState => !f.fgv1608) (follows.1.2 .fuse rfl)
  simp [State.linkUp, State.delivering, State.rdN, rd, present]

/-! ### A frame that starts at once (10 R287, R290) -/

/-- The link is up and idle with nothing queued, and on a port it has a credit of class 0. -/
def State.ready (s : State) (l : Nat) : Prop :=
  l < s.tv.links.length ∧ s.linkUp l = true ∧ (s.link l).sending = none ∧ (s.link l).queue = [] ∧
    (3 ≤ l ∨ nth (s.link l).credits 0 0 ≠ 0)

/-- An idle link that is up starts the one frame it holds, of class 0. -/
theorem startLink_alone {s : State} {l : Nat} {o : TvOut} (t : Rat) (there : l < s.tv.links.length) (isUp : s.linkUp l = true)
    (idle : (s.link l).sending = none) (queued : (s.link l).queue = [o]) (cls : o.frame.cls = 0)
    (credit : 3 ≤ l ∨ nth (s.link l).credits 0 0 ≠ 0) :
    ((s.startLink l t).link l).sending = some { o with frame := o.frame.stamped t } := by
  have picked : pickFrame (l < 3) (s.link l).credits [o] = some (o, []) :=
    pickFrame_single cls (credit.imp_left fun h => by simp [h])
  unfold State.startLink
  simp only [isUp, idle, queued, picked]
  split
  · simp_all
  · split
    · rw [modLink_link there]
    · rw [modTx_link, modLink_link there]

/-- A frame of class 0 starts at once on a link that is ready for it. -/
theorem enqueue_ready {s : State} {l : Nat} (h : s.ready l) {o : TvOut} (cls : o.frame.cls = 0) (t : Rat) :
    ((s.enqueue l o t).link l).sending = some { o with frame := o.frame.stamped t } := by
  obtain ⟨there, isUp, idle, empty, credit⟩ := h
  have starts : ∀ f : TvLink → TvLink, (∀ x, x = s.link l → f x = { x with queue := [o] }) →
      (((s.modLink l f).startLink l t).link l).sending = some { o with frame := o.frame.stamped t } := by
    intro f hf
    have changed : (s.modLink l f).link l = { s.link l with queue := [o] } := by rw [modLink_link there, hf _ rfl]
    exact startLink_alone t (by rwa [modLink_length]) isUp (by rw [changed]; exact idle) (by rw [changed]) cls
      (by rw [changed]; exact credit)
  unfold State.enqueue
  split
  · exact starts _ (fun x hx => by simp [hx, empty])
  · rw [empty, ibInsert_nil]
    simpa using starts _ (fun x _ => rfl)

/-! ### The end of a frame (10 R281, R290, R294) -/

/-- An in-band link sends the frame in progress a second time. -/
def State.frameRepeated (s : State) (l : Nat) (o : TvOut) : State :=
  (s.modLink l (fun x => { x with repeatDue := false })).modTx (ibCarrier l) (fun x => { x with ibcQueue := x.ibcQueue ++ ibBytes o.frame })

/-- The frame in progress is counted and the link is idle; on a port an idle set follows. -/
def State.frameCounted (s : State) (l : Nat) : State :=
  let u := (s.modLink l (fun x => { x with sending := none })).wrapN (K.framesTx l) 1
  if l < 3 then u.sendIdle l else u

theorem tvFrameSent_sending {s : State} {l : Nat} {o : TvOut} (h5 : l < 5) (sending : (s.link l).sending = some o) :
    exec (.tvFrameSent l) s = .next (if (s.link l).repeatDue = true then s.frameRepeated l o
      else ((s.frameCounted l).returnCredit o.buf).startLink l (s.frameCounted l).now) := by
  show Host.Outcome.next _ = _
  rw [when_true (decide_eq_true h5)]
  simp only [sending]
  rfl

theorem tvFrameSent_nothing {s : State} {l : Nat} (h : l < 5 → (s.link l).sending = none) : exec (.tvFrameSent l) s = .next s := by
  show Host.Outcome.next _ = _
  by_cases h5 : l < 5
  · rw [when_true (decide_eq_true h5)]
    simp only [h h5]
  · rw [when, if_neg (by simpa using h5)]

end Sys2Proof.Machine
end

section
/-! SUPPORT. Time-class frames (10 R286): HELLO, TIME_REQ and TIME_RESP are read as CLASS 0, and stay at CLASS 0 on every link, and the
obligation about them. -/

namespace Sys2Proof.Machine

/-- A header that is read gives a time-class frame CLASS 0, whatever it says (10 R286). -/
theorem parseFrame_cls {bs : List Byte} {f : TvFrame} (h : parseFrame bs = some f) (time : f.type ≤ 2) : f.cls = 0 := by
  unfold parseFrame at h
  dsimp only at h
  split at h
  · cases h
  · obtain rfl := Option.some.inj h
    exact if_pos time

/-! ### One link -/

/-- A frame of a time-class type is of CLASS 0. -/
def TvFrame.timeClass (f : TvFrame) : Prop := f.type ≤ 2 → f.cls = 0

theorem stamped_timeClass {f : TvFrame} (h : f.timeClass) (t : Rat) : (f.stamped t).timeClass := by
  simpa [TvFrame.timeClass] using h

/-- Every time-class frame that waits on a link or is being sent is of CLASS 0. -/
def TvLink.timeClass (x : TvLink) : Prop := ∀ o ∈ x.queue ++ x.sending.toList, o.frame.timeClass

theorem State.timeClass_iff (s : State) : s.timeClass ↔ ∀ l, (s.link l).timeClass := Iff.rfl

theorem TvLink.timeClass_iff (x : TvLink) :
    x.timeClass ↔ (∀ o ∈ x.queue, o.frame.timeClass) ∧ ∀ o, x.sending = some o → o.frame.timeClass := by
  simp [TvLink.timeClass, or_imp, forall_and]

/-! ### The operations on links -/

theorem timeClass_of_links {s t : State} (h : s.timeClass) (links : t.tv.links = s.tv.links) : t.timeClass := fun l => by
  rw [State.link_congr links l]
  exact h l

theorem modLink_timeClass {s : State} (h : s.timeClass) (l : Nat) {f : TvLink → TvLink}
    (hf : (s.link l).timeClass → (f (s.link l)).timeClass) : (s.modLink l f).timeClass := by
  intro m
  by_cases there : m = l ∧ l < s.tv.links.length
  · obtain ⟨rfl, there⟩ := there
    rw [modLink_link there]
    exact hf (h m)
  · have same : (s.modLink l f).link m = s.link m := by
      simp only [State.link, State.modLink, nth_modify]
      exact if_neg (fun ⟨e, inside⟩ => there ⟨e.symm, e ▸ inside⟩)
    rw [same]
    exact h m

theorem returnCredit_timeClass {s : State} (h : s.timeClass) (b : Option (Nat × Nat × Nat)) : (s.returnCredit b).timeClass := fun l =>
  (returnCredit_keeps TvLink.timeClass (fun _ _ => rfl) s b l).mpr (h l)

/-- The frame that starts is one that waited, and keeps its type and class. -/
theorem startLink_timeClass {s : State} (h : s.timeClass) (l : Nat) (t : Rat) : (s.startLink l t).timeClass := by
  rcases startLink_cases s l t with same | ⟨o, rest, again, picked, tv⟩
  · rwa [same]
  · refine timeClass_of_links (modLink_timeClass h l fun link => ?_) (congrArg TvState.links tv)
    obtain ⟨taken, left⟩ := pickFrame_mem picked
    obtain ⟨waiting, -⟩ := (TvLink.timeClass_iff _).1 link
    refine (TvLink.timeClass_iff _).2 ⟨fun x hx => waiting x (left x hx), fun x hx => ?_⟩
    obtain rfl := Option.some.inj hx
    exact stamped_timeClass (waiting o taken) t

/-- A frame that may stand on a link may be queued on it. -/
theorem enqueue_timeClass {s : State} (h : s.timeClass) (l : Nat) {o : TvOut} (ho : o.frame.timeClass) (t : Rat) :
    (s.enqueue l o t).timeClass := by
  have queued : ∀ {x : TvLink} {q : List TvOut}, (∀ y ∈ q, y ∈ x.queue ∨ y = o) → x.timeClass →
      ({ x with queue := q } : TvLink).timeClass := by
    intro x q from_ link
    obtain ⟨waiting, sending⟩ := (TvLink.timeClass_iff x).1 link
    exact (TvLink.timeClass_iff _).2 ⟨fun y hy => (from_ y hy).elim (waiting y) (fun e => e ▸ ho), sending⟩
  unfold State.enqueue
  split
  · exact startLink_timeClass (modLink_timeClass h l (queued fun y hy => by simpa using hy)) l t
  · have inserted := modLink_timeClass h l (f := fun x => { x with queue := (ibInsert (s.link l).queue o).1 })
      (queued fun y hy => ibInsert_mem hy)
    refine startLink_timeClass (List.foldlRecOn _ _ ?_ fun u hu b _ => returnCredit_timeClass hu (some b)) l t
    split
    · exact timeClass_of_links inserted (congrArg TvState.links (bump_tv ..))
    · exact inserted

/-- What a station sends on one link is of CLASS 0. -/
theorem oneLink_timeClass {s : State} (h : s.timeClass) (type l : Nat) (payload : List Byte) (t : Rat) :
    (s.oneLink type l payload t).timeClass :=
  enqueue_timeClass h l (fun _ => rfl) t

/-! ### The commands -/

theorem helloSend_timeClass {s t : State} (h : s.timeClass) (run : exec .helloSend s = .next t) : t.timeClass := by
  obtain rfl := Host.Outcome.next.inj run
  exact List.foldlRecOn _ _ h fun u hu l _ => oneLink_timeClass hu _ _ _ _

theorem timeExchangeStart_timeClass {s t : State} (h : s.timeClass) {pin : Nat} (run : exec (.timeExchangeStart pin) s = .next t) :
    t.timeClass := by
  obtain rfl := Host.Outcome.next.inj run
  unfold when
  split
  · exact oneLink_timeClass h _ _ _ _
  · exact h

/-- A frame taken from those delivered leaves the links as they were. -/
theorem takeIn_links {s s' : State} {type : Nat} {x : TvIn} (h : s.takeIn type = some (x, s')) : s'.tv.links = s.tv.links := by
  unfold State.takeIn at h
  split at h
  · obtain ⟨y, -, pair⟩ := Option.map_eq_some_iff.1 h
    obtain ⟨-, rfl⟩ := Prod.mk.inj pair
    rfl
  · cases h

theorem timeReqRx_timeClass {s t : State} (h : s.timeClass) {pin : Nat} (run : exec (.timeReqRx pin) s = .next t) : t.timeClass := by
  obtain rfl := Host.Outcome.next.inj run
  unfold State.serve
  split
  case h_1 x s' taken => exact oneLink_timeClass (timeClass_of_links h (takeIn_links taken)) _ _ _ _
  · exact h

theorem frameCounted_timeClass {s : State} (h : s.timeClass) (l : Nat) : (s.frameCounted l).timeClass := by
  have idle : (s.modLink l (fun x => { x with sending := none })).timeClass := modLink_timeClass h l fun link =>
    (TvLink.timeClass_iff _).2 ⟨((TvLink.timeClass_iff _).1 link).1, fun _ sent => nomatch sent⟩
  have counted := timeClass_of_links idle (congrArg TvState.links (wrapN_tv _ (K.framesTx l) 1))
  unfold State.frameCounted
  dsimp only
  split
  · exact modLink_timeClass counted l id
  · exact counted

theorem tvFrameSent_timeClass {s t : State} (h : s.timeClass) {l : Nat} (run : exec (.tvFrameSent l) s = .next t) : t.timeClass := by
  by_cases done : l < 5 → (s.link l).sending = none
  · rw [tvFrameSent_nothing done] at run
    obtain rfl := Host.Outcome.next.inj run
    exact h
  · obtain ⟨h5, busy⟩ := Classical.not_imp.1 done
    obtain ⟨o, sending⟩ := Option.ne_none_iff_exists'.1 busy
    rw [tvFrameSent_sending h5 sending] at run
    obtain rfl := Host.Outcome.next.inj run
    split
    · exact timeClass_of_links (modLink_timeClass h l (f := fun x => { x with repeatDue := false }) id)
        (congrArg TvState.links (modTx_tv ..))
    · exact startLink_timeClass (returnCredit_timeClass (frameCounted_timeClass h l) o.buf) l _

/-- Settles O57: a header is read so, and each of the four commands keeps CLASS 0 on every link. -/
theorem timeClassFramesAreClassZero : Obligations.TimeClassFramesAreClassZero := by
  refine ⟨fun bs f => parseFrame_cls, fun pin l i s t command h run => ?_⟩
  simp only [List.mem_cons, List.not_mem_nil, or_false] at command
  rcases command with rfl | rfl | rfl | rfl
  · exact helloSend_timeClass h run
  · exact timeExchangeStart_timeClass h run
  · exact timeReqRx_timeClass h run
  · exact tvFrameSent_timeClass h run

end Sys2Proof.Machine
end

section
/-! SUPPORT. The ports of the Traverse (10 R281 to R284, R287, R288): what a port's moves do to its state and leave of the other elements,
and the obligation about the port commands. -/

namespace Sys2Proof.Machine

/-- One step of a fold turns P into Q, and the other steps keep both. -/
theorem foldl_turn {σ γ : Type} {step : σ → γ → σ} {P Q : σ → Prop} {l : List γ} {j : γ} (hj : j ∈ l) (once : l.Nodup)
    (before : ∀ s i, i ≠ j → P s → P (step s i)) (turn : ∀ s, P s → Q (step s j)) (after : ∀ s i, i ≠ j → Q s → Q (step s i))
    {s : σ} (h : P s) : Q (l.foldl step s) := by
  induction l generalizing s with
  | nil => cases hj
  | cons i rest ih =>
    obtain ⟨notLater, once⟩ := List.nodup_cons.1 once
    rcases List.mem_cons.1 hj with rfl | later
    · exact List.foldlRecOn rest step (turn s h) fun u hu i later => after u i (fun e => notLater (e ▸ later)) hu
    · exact ih later once (before s i (fun e => notLater (e ▸ later)) h)

/-! ### A port's moves (10 R283, R289, R298) -/

/-- The loss of a link moves its neighbour and the quality of the datum alone. -/
theorem linkLost_rd (s : State) (l : Nat) {k : Key} (nb : k.entry ≠ 0x006) (q : k.entry ≠ 0x021) : (s.linkLost l).rd k = s.rd k :=
  (State.linkLost_leads s l (covers_refl _) (Leads.refl _ s)).rd_eq k (by simp [Part.within, nb, q])

/-- A port takes up its state, and of the other elements only neighbours and the quality of the datum may move. -/
theorem portTo_rd (s : State) (l : Nat) (st : Int) {k : Key} (nb : k.entry ≠ 0x006) (q : k.entry ≠ 0x021) :
    (s.portTo l st).rd k = if k = K.portState l then st else s.rd k := by
  unfold State.portTo
  dsimp only
  rw [modLink_rd, ite_rd (linkLost_rd _ l nb q) rfl, wr_rd]

theorem portTo_portState (s : State) (l : Nat) (st : Int) : (s.portTo l st).rd (K.portState l) = st := by
  rw [portTo_rd s l st (by simp) (by simp), if_pos rfl]

theorem portTrain_rd (s : State) (l : Nat) {k : Key} (nb : k.entry ≠ 0x006) (q : k.entry ≠ 0x021) :
    (s.portTrain l).rd k = if k = K.portTaps l then 4 else if k = K.portState l then 2 else s.rd k := by
  unfold State.portTrain
  rw [wr_rd, modLink_rd, portTo_rd s l 2 nb q]

/-! ### 50.000 (10 R283) -/

/-- The state in which a write of 50.000 leaves a port that is not under test. -/
def State.enabledState (s : State) (l : Nat) : Int :=
  if bitOf (s.rdN K.tvEnable) l = true then (if s.rd (K.portState l) = 0 then (if s.rd (K.portLoopback l) ≠ 0 then 5 else 1)
    else s.rd (K.portState l)) else 0

theorem tvEnable_portState {s : State} {l : Nat} (free : s.underTest 4 l = false) :
    (s.tvEnable l).rd (K.portState l) = s.enabledState l := by
  unfold State.tvEnable State.enabledState
  dsimp only
  rw [if_neg (by simp [free])]
  split
  · split
    · exact portTo_portState ..
    · rfl
  · split
    · assumption
    · exact portTo_portState ..

theorem tvEnable_rd_other (s : State) {l : Nat} {k : Key} (other : k ≠ K.portState l) (nb : k.entry ≠ 0x006) (q : k.entry ≠ 0x021) :
    (s.tvEnable l).rd k = s.rd k := by
  have moved : ∀ st, (s.portTo l st).rd k = s.rd k := fun st => by rw [portTo_rd s l st nb q, if_neg other]
  unfold State.tvEnable
  dsimp only
  exact ite_rd rfl (ite_rd (ite_rd (moved _) rfl) (ite_rd rfl (moved 0)))

theorem tvEnable_underTest (s : State) (l code target : Nat) : (s.tvEnable l).underTest code target = s.underTest code target := by
  rw [State.underTest, (State.tvEnable_leads s l (covers_refl _) (Leads.refl _ s)).1.2 .boot rfl, State.underTest]

/-- A port takes its state from 50.000 when its own turn comes. -/
theorem foldl_tvEnable_portState {s : State} {l : Nat} (h3 : l < 3) (free : s.underTest 4 l = false) :
    ([0, 1, 2].foldl (fun s l => s.tvEnable l) s).rd (K.portState l) = s.enabledState l := by
  refine foldl_turn (P := fun u : State => u.underTest 4 l = false ∧ u.enabledState l = s.enabledState l)
    (Q := fun u : State => u.rd (K.portState l) = s.enabledState l) (j := l) (by simp; omega) (by decide) ?_ ?_ ?_ ⟨free, rfl⟩
  · rintro u i other ⟨free, same⟩
    refine ⟨(tvEnable_underTest ..).trans free, Eq.trans ?_ same⟩
    simp [State.enabledState, State.rdN, tvEnable_rd_other, other.symm]
  · rintro u ⟨free, same⟩
    exact (tvEnable_portState free).trans same
  · intro u i other now
    exact (tvEnable_rd_other u (by simp [other.symm]) (by simp) (by simp)).trans now

/-- A write of a Traverse entry is stored clamped, and of the other elements only those of areas 02 and 08 may move. -/
theorem rwEffect_traverse_rd (src e i : Nat) (v : Int) (s : State) {k : Key} (h2 : k.area ≠ 0x02) (h8 : k.area ≠ 0x08) :
    (rwEffect src ⟨0x50, e, i⟩ v (s.accepted src)).1.rd k = if k = ⟨0x50, e, i⟩ then clampKey ⟨0x50, e, i⟩ v else s.rd k := by
  have canonical : canonKey ⟨0x50, e, i⟩ = ⟨0x50, e, i⟩ := by simp [canonKey]
  split
  · subst_vars
    exact (congrArg _ canonical.symm).trans (rwEffect_rd_same src v _ (by simp [canonical]))
  · rw [rwEffect_rd_other src v _ (by rwa [canonical]) (fun e => h2 (by rw [e])), accepted_rd s src k h8]

theorem rwEffect_traverse_underTest (src e i : Nat) (v : Int) (s : State) (code target : Nat) :
    (rwEffect src ⟨0x50, e, i⟩ v (s.accepted src)).1.underTest code target = s.underTest code target := by
  have follows := rwEffect_leads src ⟨0x50, e, i⟩ v (s.accepted src) (covers_refl _) (Leads.refl _ _)
  rw [State.underTest, follows.1.2 .boot (by simp [Part.within]), accepted_boot, State.underTest]

theorem tvEnableWrite_next (src : Nat) (v : Int) (s : State) (ha : s.accepts src K.tvEnable) :
    ∃ t, exec (.tvEnableWrite src v) s = .next t ∧ t.answered src .ok ∧
      (∀ l : Nat, l < 3 → s.underTest 4 l = false → bitOf (clampKey K.tvEnable v).toNat l = false → t.rd (K.portState l) = 0) ∧
      (∀ l : Nat, l < 3 → s.underTest 4 l = false → bitOf (clampKey K.tvEnable v).toNat l = true → s.rd (K.portState l) = 0 →
        t.rd (K.portState l) = if s.rd (K.portLoopback l) ≠ 0 then 5 else 1) := by
  refine ⟨_, rfl, ?_⟩
  rw [request_accepted s src ha]
  have moved : ∀ l, l < 3 → s.underTest 4 l = false →
      ([0, 1, 2].foldl (fun s l => s.tvEnable l) (rwEffect src K.tvEnable v (s.accepted src)).1).rd (K.portState l) =
        if bitOf (clampKey K.tvEnable v).toNat l = true then
          (if s.rd (K.portState l) = 0 then (if s.rd (K.portLoopback l) ≠ 0 then 5 else 1) else s.rd (K.portState l)) else 0 := by
    intro l h3 free
    rw [foldl_tvEnable_portState h3 ((rwEffect_traverse_underTest ..).trans free)]
    simp [State.enabledState, State.rdN, rwEffect_traverse_rd]
  refine ⟨ack_answered .., fun l h3 free off => ?_, fun l h3 free on_ disabled => ?_⟩
  · rw [State.ack_rd]
    exact (moved l h3 free).trans (by simp [off])
  · rw [State.ack_rd]
    exact (moved l h3 free).trans (by rw [if_pos on_, if_pos disabled])

/-! ### 50.003 (10 R283, R284) -/

theorem portLoopbackWrite_next (src l : Nat) (v : Int) (s : State) (ha : s.accepts src (K.portLoopback l))
    (enabled : s.rd (K.portState l) ≠ 0) (loop : clampKey (K.portLoopback l) v ≠ 0) :
    ∃ t, exec (.portLoopbackWrite src l v) s = .next t ∧ t.answered src .ok ∧ t.rd (K.portState l) = 5 := by
  refine ⟨_, rfl, ?_⟩
  rw [request_accepted s src ha]
  have state : (rwEffect src (K.portLoopback l) v (s.accepted src)).1.rd (K.portState l) = s.rd (K.portState l) := by
    rw [rwEffect_traverse_rd _ _ _ _ _ (by simp) (by simp), if_neg (by simp)]
  have stored : (rwEffect src (K.portLoopback l) v (s.accepted src)).1.rd (K.portLoopback l) ≠ 0 := by
    rwa [rwEffect_traverse_rd _ _ _ _ _ (by simp) (by simp), if_pos rfl]
  dsimp only
  rw [if_neg (by rwa [state]), if_pos stored]
  refine ⟨ack_answered .., ?_⟩
  rw [State.ack_rd]
  split
  · assumption
  · exact portTo_portState ..

/-! ### Training (10 R282, R283) -/

theorem tvTrainingSetRx_sixteenth_next (l req resp eye0 eye1 : Nat) (s : State) (h3 : l < 3) (there : l < s.tv.links.length)
    (down : s.rd (K.portState l) = 1) (good : 15 ≤ (s.link l).good) :
    ∃ t, exec (.tvTrainingSetRx l req resp eye0 eye1) s = .next t ∧ t.rd (K.portState l) = 2 ∧ t.rd (K.portTaps l) = 4 := by
  refine ⟨_, rfl, ?_⟩
  rw [when_true (decide_eq_true h3)]
  dsimp only
  rw [if_pos down, modLink_link there, if_neg (by simp; omega), portTrain_rd _ _ (by simp) (by simp), portTrain_rd _ _ (by simp) (by simp)]
  simp

theorem tvTrainingSetRx_eye_next (l req resp eye0 eye1 : Nat) (s : State) (h3 : l < 3) (training : s.rd (K.portState l) = 2) :
    ∃ t, exec (.tvTrainingSetRx l req resp eye0 eye1) s = .next t ∧ t.rd (K.portEye l) = (min (min eye0 eye1) 1020 : Nat) := by
  refine ⟨_, rfl, ?_⟩
  rw [when_true (decide_eq_true h3)]
  simp only [training]
  have eye : ∀ (u : State) (e : Nat) (v : Int), e ≠ 0x004 → (u.wr ⟨0x50, e, l⟩ v).rd (K.portEye l) = u.rd (K.portEye l) :=
    fun u e v he => State.rd_wr_other u v (by simpa using he.symm)
  simp only [show ¬((2 : Int) = 1) by decide, show ¬((2 : Int) = 4) by decide, if_true, if_false]
  rw [ite_rd (eye _ 0x002 _ (by decide)) rfl, modLink_rd, ite_rd (eye _ 0x005 _ (by decide)) rfl, modLink_rd, State.rd_wr_same]

theorem tvTrainingTimeout_next (l : Nat) (s : State) (h3 : l < 3) (training : s.rd (K.portState l) = 2) :
    ∃ t, exec (.tvTrainingTimeout l) s = .next t ∧ t.rd (K.portState l) = 1 ∧
      t.rd (K.portDownCount l) = (min (s.rdN (K.portDownCount l) + 1) max48 : Nat) := by
  refine ⟨_, rfl, ?_⟩
  rw [when_true (by simp [h3, training])]
  refine ⟨portTo_portState .., ?_⟩
  rw [portTo_rd _ _ _ (by simp) (by simp), if_neg (by simp), bump_rd, if_pos rfl]

/-! ### UP and DOWN (10 R283, R287, R288) -/

theorem tvPortUp_next (l : Nat) (skew : Int) (s : State) (h3 : l < 3) (deskew : s.rd (K.portState l) = 3) :
    ∃ t, exec (.tvPortUp l skew) s = .next t ∧ t.rd (K.portState l) = 4 ∧ t.rd (K.laneSkew50 l) = clampInt skew (-8) 8 ∧
      (l < s.tv.links.length → (t.link l).credits = [4, 8, 36, 16]) := by
  refine ⟨_, rfl, ?_⟩
  rw [when_true (by simp [h3, deskew])]
  refine ⟨?_, ?_, fun there => ?_⟩
  · rw [State.raise_rd, modLink_rd, State.rd_wr_other _ _ (by simp), State.rd_wr_same]
  · rw [State.raise_rd, modLink_rd, State.rd_wr_same]
  · rw [raise_link]
    exact congrArg TvLink.credits (modLink_link (by exact there) _)

theorem tvPortDown_next (l : Nat) (s : State) (h3 : l < 3) (held : s.rd (K.portState l) = 3 ∨ s.rd (K.portState l) = 4) :
    ∃ t, exec (.tvPortDown l) s = .next t ∧ t.rd (K.portState l) = 1 ∧
      t.rd (K.portDownCount l) = (min (s.rdN (K.portDownCount l) + 1) max48 : Nat) := by
  refine ⟨_, rfl, ?_⟩
  rw [when_true (by simpa [h3] using held)]
  refine ⟨portTo_portState .., ?_⟩
  rw [portTo_rd _ _ _ (by simp) (by simp), if_neg (by simp), State.raise_rd, bump_rd, if_pos rfl]

/-- The count that an idle set names is the last seen of its class; a frame that starts then takes credits, and no count. -/
theorem tvIdleSetRx_next (l : Nat) (b : Byte) (s : State) (h3 : l < 3) (there : l < s.tv.links.length) (isUp : s.linkUp l = true) :
    ∃ t, exec (.tvIdleSetRx l b) s = .next t ∧ (t.link l).seen = (s.link l).seen.set (b.toNat / 64) (b.toNat % 64) := by
  refine ⟨_, rfl, ?_⟩
  rw [when_true (by simp [h3, isUp])]
  dsimp only
  rw [startLink_keeps TvLink.seen (fun _ _ _ _ _ => rfl), modLink_link there]

/-- Settles O22: each clause is what its command's lemma above says. -/
theorem traversePortsComplete : Obligations.TraversePortsComplete :=
  ⟨tvEnableWrite_next, portLoopbackWrite_next, tvTrainingSetRx_sixteenth_next, tvTrainingSetRx_eye_next, tvTrainingTimeout_next,
   tvPortUp_next, tvPortDown_next, tvIdleSetRx_next⟩

end Sys2Proof.Machine
end

section
/-! SUPPORT. Frames, neighbours and duplicate control of the Traverse (10 R285, R289 to R294), and the obligation about them. -/

namespace Sys2Proof.Machine

/-! ### Arrival (10 R285, R290, R291) -/

/-- What becomes of a frame that has arrived changes, of the Legend, only the counters of frames discarded or dropped. -/
theorem tvArrive_rd (s : State) (f : TvFrame) (l : Nat) (good : Bool) (buf : Option (Nat × Nat × Nat)) (t : Rat) {k : Key}
    (h : k.entry ∉ [0x00B, 0x017, 0x018, 0x019]) : (s.tvArrive f l good buf t).rd k = s.rd k :=
  (State.tvArrive_leads s f l good buf t (covers_refl _) (Leads.refl _ s)).rd_eq k (by simp_all [Part.within])

theorem tvArrive_rx (s : State) (f : TvFrame) (l : Nat) (good : Bool) (buf : Option (Nat × Nat × Nat)) (t : Rat) (c : Carrier) :
    ((s.tvArrive f l good buf t).car c).rx = (s.car c).rx := by
  have links : ∀ (u : State) (ls : List TvLink), ({ u with tv := { u.tv with links := ls } } : State).car c = u.car c := fun u ls => by
    cases c <;> rfl
  unfold State.tvArrive
  split
  · rw [bump_car]
  · split
    · split
      · rw [tvDeliver_car]
      · rfl
    · split
      · exact tvRoute_rx ..
      · rw [links]
        exact tvRoute_rx ..

theorem tvFrameRx_next (l : Nat) (bytes : List Byte) (killed : Bool) (s : State) (h3 : l < 3) (isUp : s.linkUp l = true) :
    ∃ t, exec (.tvFrameRx l bytes killed) s = .next t ∧
      t.rd (K.framesRx l) = ((s.rdN (K.framesRx l) + 1) % 2 ^ 48 : Nat) ∧
      (parseFrame bytes = none → t.rd (K.hdrDiscard l) = (min (s.rdN (K.hdrDiscard l) + 1) max48 : Nat)) := by
  refine ⟨_, rfl, ?_⟩
  rw [when_true (by simp [h3, isUp])]
  cases parsed : parseFrame bytes with
  | none =>
    refine ⟨?_, fun _ => ?_⟩
    · rw [bump_rd, if_neg (by simp), wrapN_rd, if_pos rfl]
    · rw [bump_rd, if_pos rfl, State.rdN, wrapN_rd, if_neg (by simp), State.rdN]
  | some f =>
    refine ⟨?_, nofun⟩
    dsimp only
    rw [returnCredit_rd, tvArrive_rd _ _ _ _ _ _ (by simp), modLink_rd, ite_rd rfl (by rw [bump_rd, if_neg (by simp)]), wrapN_rd,
      if_pos rfl]

theorem ibFrameRx_next (m stamp : Nat) (body rest : List (Byte × Bool)) (f : TvFrame) (s : State) (h2 : m < 2)
    (isUp : s.linkUp (3 + m) = true) (taken : ibTake (ibHunt (s.car (ibCarrier (3 + m))).rx.ibc) = some (body, rest))
    (parsed : parseFrame (body.map Prod.fst) = some f) :
    ∃ t, exec (.ibFrameRx m stamp) s = .next t ∧
      t.rd (K.framesRx (3 + m)) = ((s.rdN (K.framesRx (3 + m)) + 1) % 2 ^ 48 : Nat) ∧
      (body.any Prod.snd = true → t.rd (K.ibDiscard m) = (min (s.rdN (K.ibDiscard m) + 1) max48 : Nat)) ∧
      (t.car (ibCarrier (3 + m))).rx.ibc = rest := by
  refine ⟨_, rfl, ?_⟩
  rw [when_true (by simp [h2, isUp])]
  simp only [taken, parsed]
  set u := ((s.modRx (ibCarrier (3 + m)) (fun r => { r with ibc := rest })).wrapN (K.framesRx (3 + m)) 1) with hu
  have counted : u.rd (K.framesRx (3 + m)) = ((s.rdN (K.framesRx (3 + m)) + 1) % 2 ^ 48 : Nat) := by
    rw [hu, wrapN_rd, if_pos rfl, modRx_rdN]
  have stream : (u.car (ibCarrier (3 + m))).rx.ibc = rest := by rw [hu, wrapN_car, modRx_rx]
  have discards : u.rdN (K.ibDiscard m) = s.rdN (K.ibDiscard m) := by
    rw [hu, State.rdN, wrapN_rd, if_neg (by simp), modRx_rd, State.rdN]
  split
  · refine ⟨?_, fun _ => ?_, ?_⟩
    · rw [bump_rd, if_neg (by simp), modLink_rd, counted]
    · rw [bump_rd, if_pos rfl, modLink_rdN, discards]
    · rw [bump_car, modLink_car, stream]
  · next sound =>
    refine ⟨?_, fun errored => absurd (by simp [errored]) sound, ?_⟩
    · rw [ite_rd rfl (tvArrive_rd _ _ _ _ _ _ (by simp)), modLink_rd, counted]
    · split
      · rw [modLink_car, stream]
      · rw [tvArrive_rx, modLink_car, stream]

/-! ### The end of a frame (10 R281, R294) -/

theorem sendIdle_rd (s : State) (l : Nat) (k : Key) : (s.sendIdle l).rd k = s.rd k := rfl

theorem frameCounted_framesTx (s : State) (l : Nat) :
    (s.frameCounted l).rd (K.framesTx l) = ((s.rdN (K.framesTx l) + 1) % 2 ^ 48 : Nat) := by
  unfold State.frameCounted
  dsimp only
  rw [ite_rd (sendIdle_rd ..) rfl, wrapN_rd, if_pos rfl, modLink_rdN]

theorem frameRepeated_effect {s : State} {l : Nat} {o : TvOut} (sending : (s.link l).sending = some o) :
    ((s.frameRepeated l o).link l).repeatDue = false ∧
      ((s.frameRepeated l o).car (ibCarrier l)).tx.ibcQueue = (s.car (ibCarrier l)).tx.ibcQueue ++ ibBytes o.frame := by
  have there : l < s.tv.links.length := link_lt fun e => by simp [e, TvLink.reset] at sending
  unfold State.frameRepeated
  rw [modTx_link, modLink_link there, modTx_tx, modLink_car]
  exact ⟨rfl, rfl⟩

theorem tvFrameSent_next (l : Nat) (o : TvOut) (s : State) (h5 : l < 5) (sending : (s.link l).sending = some o) :
    ∃ t, exec (.tvFrameSent l) s = .next t ∧
      ((s.link l).repeatDue = false → t.rd (K.framesTx l) = ((s.rdN (K.framesTx l) + 1) % 2 ^ 48 : Nat)) ∧
      ((s.link l).repeatDue = true → (t.link l).repeatDue = false ∧
        (t.car (ibCarrier l)).tx.ibcQueue = (s.car (ibCarrier l)).tx.ibcQueue ++ ibBytes o.frame) := by
  refine ⟨_, tvFrameSent_sending h5 sending, fun once => ?_, fun twice => ?_⟩
  · rw [if_neg (by simp [once]), startLink_rd, returnCredit_rd, frameCounted_framesTx]
  · rw [if_pos twice]
    exact frameRepeated_effect sending

/-! ### HELLO and neighbours (10 R289) -/

/-- What a station sends on one link starts at once where that link is ready. -/
theorem oneLink_ready {s : State} {l : Nat} (h : s.ready l) (type : Nat) (payload : List Byte) (t : Rat) :
    ((s.oneLink type l payload t).link l).sending.map (fun o => o.frame.type) = some type := by
  unfold State.oneLink
  rw [enqueue_ready h rfl]
  simp

/-- What is sent on one link neither occupies nor frees another. -/
theorem oneLink_ready_other {s : State} {l m : Nat} (h : s.ready m) (type : Nat) (payload : List Byte) (t : Rat) (other : l ≠ m) :
    (s.oneLink type l payload t).ready m := by
  have kept : ∀ {α : Type} (read : TvLink → α), (∀ x r, read { x with returned := r } = read x) →
      read ((s.oneLink type l payload t).link m) = read (s.link m) := fun read hf => enqueue_other read hf s _ t other.symm
  obtain ⟨there, isUp, idle, empty, credit⟩ := h
  refine ⟨there.trans_eq (enqueue_length ..).symm, (enqueue_linkUp ..).trans isUp, (kept TvLink.sending fun _ _ => rfl).trans idle,
    (kept TvLink.queue fun _ _ => rfl).trans empty, ?_⟩
  rwa [kept TvLink.credits fun _ _ => rfl]

theorem helloSend_next (s : State) :
    ∃ t, exec .helloSend s = .next t ∧
      ∀ l : Nat, l < min 5 s.tv.links.length →
        s.linkUp l = true ∧ (s.link l).sending = none ∧ (s.link l).queue = [] ∧ (3 ≤ l ∨ nth (s.link l).credits 0 0 ≠ 0) →
        (t.link l).sending.map (fun o => o.frame.type) = some 0 := by
  refine ⟨_, rfl, fun l inside ⟨isUp, free⟩ => ?_⟩
  obtain ⟨h5, there⟩ := lt_min_iff.1 inside
  refine foldl_turn (P := fun u : State => u.ready l)
    (Q := fun u : State => (u.link l).sending.map (fun o => o.frame.type) = some 0) (j := l) (List.mem_filter.2 ⟨List.mem_range.2 h5, isUp⟩) (List.nodup_range.filter _) (fun u i other h => oneLink_ready_other h _ _ _ other)
    (fun u h => oneLink_ready h ..) (fun u i other h => ?_) ⟨there, isUp, free⟩
  exact (enqueue_other (fun x : TvLink => x.sending.map (fun o => o.frame.type)) (fun _ _ => rfl) u _ _ other.symm).trans h

theorem helloRx_next (x : TvIn) (s' s : State) (taken : s.takeIn 0 = some (x, s')) :
    ∃ t, exec .helloRx s = .next t ∧
      t.rd (K.neighbour x.link) =
        (2147483648 + (x.frame.payload.getD 2 0).toNat % 8 * 65536 + beNat (x.frame.payload.take 2) % 4096 : Nat) ∧
      t.tv.inbox = s'.tv.inbox := by
  refine ⟨_, rfl, ?_⟩
  unfold State.serve
  simp only [taken]
  split
  · exact ⟨State.rd_wr_same .., rfl⟩
  · exact ⟨State.rd_wr_same .., rfl⟩

theorem neighbourTimeout_next (l : Nat) (s : State) (h5 : l < 5) :
    ∃ t, exec (.neighbourTimeout l) s = .next t ∧ t.rd (K.neighbour l) = 0 := by
  refine ⟨_, rfl, ?_⟩
  rw [when_true (decide_eq_true h5), State.rd_wr_same]

/-! ### Duplicate control (10 R291) -/

theorem dedupEntryExpire_next (src : Nat) (s : State) :
    ∃ t, exec (.dedupEntryExpire src) s = .next t ∧ t.tv.dedup.any (fun e => e.1 = src) = false := by
  refine ⟨_, rfl, ?_⟩
  simp [adel]

/-- Settles O23: each clause is what its command's lemma above says. -/
theorem traverseFramesComplete : Obligations.TraverseFramesComplete :=
  ⟨tvFrameRx_next, ibFrameRx_next, tvFrameSent_next, helloSend_next, helloRx_next, neighbourTimeout_next, dedupEntryExpire_next⟩

end Sys2Proof.Machine
end

section
/-! SUPPORT. Two statements about the Traverse's services (10 R295) and the datum (10 R300) that leave out a condition of their commands. -/

namespace Sys2Proof.Machine

/-! ### A held request waits its turn (09 R248; 10 R295) -/

theorem legendRspSend_notServed {s : State} {q : TvReq} {rest : List TvReq} (meas : Nat) (held : s.tv.reqs = q :: rest)
    (turn : s.servedNext (stationSource q.src) = false) : exec (.legendRspSend meas) s = .next s := by
  show Host.Outcome.next _ = _
  simp [held, turn]

/-- The store is ready; a malformed request of station 7 is held, and surveyor core 0, whose code is lower, has one waiting too. -/
def heldBehindCore : State :=
  { (State.reset.modCore 0 (fun x => { x with lgBusy := true })) with
    ports := { PortState.reset with ready := true }
    tv := { TvState.reset with reqs := [⟨7, 2, 0, [1, 2, 3]⟩] } }

/-- Refutes O27, in clause (2): nothing there says that it is the station's turn. The store serves the sources that wait in round-robin
order (09 R248), so the oldest held request stays held while core 0, 0x2000, comes before station 7, 0x3007. -/
theorem not_traverseServicesComplete : ¬ Obligations.TraverseServicesComplete := by
  rintro ⟨-, served, -⟩
  obtain ⟨t, run, reqs, -⟩ := served 0 ⟨7, 2, 0, [1, 2, 3]⟩ [] heldBehindCore rfl rfl (by decide) (by decide)
  have waits := legendRspSend_notServed (s := heldBehindCore) 0 rfl (by decide)
  obtain rfl := Host.Outcome.next.inj (waits.symm.trans run)
  exact absurd reqs (by decide)

/-! ### PPS_OUT rises at its instant (10 R300) -/

theorem ppsOutRise_besides {s : State} (other : s.datum % 1000000000 ≠ s.rdN K.ppsOutOffset) : exec .ppsOutRise s = .next s :=
  congrArg Host.Outcome.next (if_neg (by simp [other]))

/-- PPS_OUT is enabled, and the datum stands 1 ns past the offset of 50.033. -/
def pastOffset : State := { (State.reset.wr K.ppsCtrl 1) with datum := 1 }

/-- Refutes O28, in clause (9): PPS_OUT rises where the datum modulo 1 s equals 50.033, and the clause asks only that it is enabled. One
nanosecond past that instant it stays low. -/
theorem not_datumComplete : ¬ Obligations.DatumComplete := by
  rintro ⟨-, -, -, -, -, -, -, -, rises, -⟩
  obtain ⟨t, run, high⟩ := rises pastOffset (by decide)
  obtain rfl := Host.Outcome.next.inj ((ppsOutRise_besides (s := pastOffset) (by decide)).symm.trans run)
  exact absurd high (by decide)

end Sys2Proof.Machine
end

section
/-! SUPPORT. What every step keeps and answers (17 R423; 18 R457), and the command table's words: the obligations about them. -/

namespace Sys2Proof.Machine

/-- Settles O49: an idle tick and every command keep the fuses that are blown. -/
theorem noStepUnblowsAFuse : Obligations.NoStepUnblowsAFuse :=
  fun _ _ w h => (step_keeps h w).2

/-- Settles O46: the front command leads to a state, and so does an idle tick. -/
theorem everyCommandGoesOn : Obligations.EveryCommandGoesOn := by
  intro s
  unfold State.goesOn step
  split
  case h_1 => exact ⟨_, rfl⟩
  case h_2 c rest _ =>
    obtain ⟨t, run, -⟩ := exec_leads c { s with pending := rest }
    exact ⟨t, run⟩

/-- Settles O45: the table gives no row any bits. -/
theorem noWordSpellsACommand : Obligations.NoWordSpellsACommand :=
  fun _ _ _ => ⟨rfl, rfl⟩

end Sys2Proof.Machine
end

section
/-! SUPPORT. A statement about the cores' ports (11 R320) and one about the field book (14 R367) that leave out what decides their commands. -/

namespace Sys2Proof.Machine

/-! ### A core's request waits its turn (09 R248; 11 R320) -/

theorem coreLegendDone_notServed {s : State} {c : Nat} (meas : Nat) (turn : s.servedNext (coreSource c) = false) :
    exec (.coreLegendDone c meas) s = .next s :=
  congrArg Host.Outcome.next (if_neg (by simp [turn]))

/-- The store is ready; an empty request of core 1 is in flight, and core 0, whose code is lower, has one waiting too. -/
def coreOneBehindZero : State :=
  { ((State.reset.modCore 0 (fun x => { x with lgBusy := true })).modCore 1 (fun x => { x with lgBusy := true })) with
    ports := { PortState.reset with ready := true } }

/-- Refutes O34, in clause (11): nothing there says that it is the core's turn. The store serves the sources that wait in round-robin order
(09 R248), so the request of core 1 stays in flight while that of core 0, whose code is lower, comes before it. -/
theorem not_corePortsComplete : ¬ Obligations.CorePortsComplete := by
  rintro ⟨-, -, -, -, -, -, -, -, -, -, done, -⟩
  obtain ⟨t, run, idle, -⟩ := done 1 0 coreOneBehindZero (by decide) (by decide) (by decide) (by decide) (by decide) (by decide)
  obtain rfl := Host.Outcome.next.inj ((coreLegendDone_notServed (s := coreOneBehindZero) 0 (by decide)).symm.trans run)
  exact absurd idle (by decide)

/-! ### A probe delivers what the state holds (14 R366, R367) -/

/-- The field book is on, and ring 5, ARMED with one update in its group of three, records the probe of output queue 0. -/
def recordingQueue : State :=
  { (State.reset.wr K.fbEnable 1) with
    fb := { FbState.reset with
      rings := [(5, { Ring.idle with state := 3, inGroup := 1, groupLen := 3, desc := [0, 0, 0, 1, 1, 0x20] ++ List.replicate 26 0 })] } }

/-- Refutes O29, in clause (7): the probe of output queue 0 (0x120) delivers the value that the state holds, 0, so the greatest value of the
group is 0 and not the 7 beside the update, which the clause takes. -/
theorem not_fieldBookComplete : ¬ Obligations.FieldBookComplete := by
  rintro ⟨-, -, -, -, -, -, update, -⟩
  obtain ⟨t, run, joins, -⟩ := update 0x120 0 5 7 0 .s48 recordingQueue (by decide) (by decide) (by decide) (by decide) (by decide)
    (by decide) (by decide) (by decide)
  obtain rfl := Host.Outcome.next.inj run
  exact absurd (joins (by decide) (by decide)).2.2 (by decide)

end Sys2Proof.Machine
end

section
/-! SUPPORT. Cores as a list: what a core and the others are after the operations that instructions are built from (11 R308 to R313). -/

namespace Sys2Proof.Machine

variable {s t : State} {c j : Nat}

/-! ### One core changes -/

@[simp] theorem modCore_length (s : State) (c : Nat) (f : Core → Core) : (s.modCore c f).cores.cores.length = s.cores.cores.length := by
  simp [State.modCore]

theorem modCore_core (f : Core → Core) (there : c < s.cores.cores.length) : (s.modCore c f).core c = f (s.core c) := by
  simp only [State.core, State.modCore]
  rw [nth_modify, if_pos ⟨rfl, there⟩]

theorem modCore_core_other (f : Core → Core) (other : j ≠ c) : (s.modCore c f).core j = s.core j := by
  simp only [State.core, State.modCore]
  rw [nth_modify, if_neg (fun h => other h.1.symm)]

theorem core_of_absent (absent : s.cores.cores.length ≤ c) : s.core c = Core.reset := by
  simp [State.core, nth, absent]

theorem modCore_of_absent (f : Core → Core) (absent : s.cores.cores.length ≤ c) : s.modCore c f = s := by
  simp only [State.modCore]
  rw [List.modify_eq_self absent]

/-! ### Two states with the same cores -/

theorem core_congr (same : t.cores = s.cores) : t.core j = s.core j := by rw [State.core, same, State.core]

@[simp] theorem wr_core (s : State) (k : Key) (v : Int) (j : Nat) : (s.wr k v).core j = s.core j := rfl
@[simp] theorem raise_core (s : State) (e : Nat) (k : Key) (j : Nat) : (s.raise e k).core j = s.core j := rfl

@[simp] theorem bumpN_cores (s : State) (k : Key) (n : Nat) : (s.bumpN k n).cores = s.cores :=
  (State.bumpN_leads s k n (covers_refl _) (Leads.refl _ s)).1.2 .cores (by simp [Part.within])

@[simp] theorem bump_cores (s : State) (k : Key) : (s.bump k).cores = s.cores := bumpN_cores s k 1

@[simp] theorem mismatch_cores (s : State) (mem line cls : Nat) : (s.mismatch mem line cls).cores = s.cores :=
  (State.mismatch_leads s mem line cls (covers_refl _) (Leads.refl _ s)).1.2 .cores rfl

@[simp] theorem arbitrate_core (s : State) (car : Carrier) (j : Nat) : (s.arbitrate car).core j = s.core j := by
  unfold State.arbitrate State.setBus
  dsimp only
  repeat' split
  all_goals rfl

/-! ### Fetching the next instruction (11 R312, R313; 16 R406) -/

/-- The fault log after a mismatch is kept, its entry flagged where the count is reached (16 R414). -/
def keptLog (hit : Option Nat) (log : List FaultLine) (u : State) : State :=
  match hit with
  | some i => ({ u with aon := { u.aon with log := log.modify i (fun f => { f with repeated := true }) } }).raise Ev.intRepeat noKey
  | none => { u with aon := { u.aon with log := log } }

/-- INT_MISMATCH is raised, at most once per millisecond per memory (16 R414). -/
def announced (mem : Nat) (u : State) : State :=
  if u.integ.lastRaised.any (fun e => e.1 = mem && u.datum < e.2 + 1000000) then u
  else ({ u with integ := { u.integ with lastRaised := aput u.integ.lastRaised mem u.datum } }).raise Ev.intMismatch noKey

theorem keptLog_integ (hit : Option Nat) (log : List FaultLine) (u : State) : (keptLog hit log u).integ = u.integ := by
  cases hit with
  | none => rfl
  | some i => exact State.raise_integ _ _ _

theorem announced_bad (mem : Nat) (u : State) : (announced mem u).integ.bad = u.integ.bad := by
  unfold announced
  split
  · rfl
  · rfl

theorem mismatch_eq (s : State) (mem line cls : Nat) : ∃ hit log, s.mismatch mem line cls =
    announced mem (keptLog hit log (((s.bump (K.classMismatch cls)).wr K.lastMismatch (mem * 2 ^ 32 + line : Nat)).wr K.lastMismatchTime
      ((s.bump (K.classMismatch cls)).datum : Nat))) := ⟨_, _, rfl⟩

/-- A mismatch leaves the lines that fail as they were. -/
@[simp] theorem mismatch_bad (s : State) (mem line cls : Nat) : (s.mismatch mem line cls).integ.bad = s.integ.bad := by
  have counted : (s.bump (K.classMismatch cls)).integ = s.integ :=
    (State.bump_leads s _ (covers_refl _) (Leads.refl _ s)).1.2 .integ (by simp [Part.within])
  obtain ⟨hit, log, eq⟩ := mismatch_eq s mem line cls
  rw [eq, announced_bad, keptLog_integ, State.wr_integ, State.wr_integ, counted]

/-- What moving to an index makes of the whole state: the core's index, and a line that fails queued and counted. -/
theorem coreGoto_cores (s : State) (c pc : Nat) : (s.coreGoto c pc).cores = (s.modCore c (fun x => { x with pc := pc % 8192 })).cores := by
  unfold State.coreGoto
  dsimp only
  split
  · exact mismatch_cores ..
  · rfl

@[simp] theorem coreGoto_bad (s : State) (c pc : Nat) : (s.coreGoto c pc).integ.bad = s.integ.bad := by
  unfold State.coreGoto
  dsimp only
  split
  · exact mismatch_bad ..
  · rfl

theorem coreGoto_core (pc : Nat) (there : c < s.cores.cores.length) : (s.coreGoto c pc).core c = { s.core c with pc := pc % 8192 } :=
  (core_congr (coreGoto_cores s c pc)).trans (modCore_core _ there)

theorem coreGoto_core_other (pc : Nat) (other : j ≠ c) : (s.coreGoto c pc).core j = s.core j :=
  (core_congr (coreGoto_cores s c pc)).trans (modCore_core_other _ other)

/-- A core that has fallen through its instruction (11 R312, LOOP). -/
def Core.onward (x : Core) : Core := { x with loops := (loopEnd x.pc x.loops).2, pc := (loopEnd x.pc x.loops).1 % 8192 }

theorem coreNext_core (there : c < s.cores.cores.length) : (s.coreNext c).core c = (s.core c).onward := by
  unfold State.coreNext
  rw [coreGoto_core _ (by simpa using there), modCore_core _ there]
  rfl

theorem coreNext_core_other (other : j ≠ c) : (s.coreNext c).core j = s.core j := by
  unfold State.coreNext
  rw [coreGoto_core_other _ other, modCore_core_other _ other]

/-- A Legend element outside the mismatch counters is as it was when a core goes on. -/
theorem coreNext_rd {k : Key} (other : k.area ≠ 0x78) : (s.coreNext c).rd k = s.rd k :=
  (State.coreNext_leads s c (covers_refl _) (Leads.refl _ s)).rd_eq k (by simp [Part.within]; omega)

theorem coreGoto_rd {k : Key} (pc : Nat) (other : k.area ≠ 0x78) : (s.coreGoto c pc).rd k = s.rd k :=
  (State.coreGoto_leads s c pc (covers_refl _) (Leads.refl _ s)).rd_eq k (by simp [Part.within]; omega)

/-! ### Counting the instruction's steps (11 R316, R323) -/

/-- A core with n steps of an instruction counted at a datum, and its watchdog started. -/
def Core.counted (x : Core) (n datum : Nat) : Core :=
  { x with
    steps := if x.stepsFrom = datum / 1000000 then x.steps + n else n
    stepsFrom := datum / 1000000
    wdogFrom := if x.wdogFrom.isSome then x.wdogFrom else some datum }

theorem countSteps_eq (s : State) (c n : Nat) : ∃ u : State, s.countSteps c n = u.modCore c (Core.counted · n s.datum) ∧ u.cores = s.cores ∧
    u.integ = s.integ ∧ u.datum = s.datum ∧ ∀ k, k.area ≠ 0x58 ∨ k.entry ≠ 0x012 → u.rd k = s.rd k := by
  unfold State.countSteps
  by_cases same : (s.core c).stepsFrom = s.datum / 1000000
  · exact ⟨s, by dsimp only; rw [if_pos same]; rfl, rfl, rfl, rfl, fun _ _ => rfl⟩
  · refine ⟨s.wr (K.coreRate c) _, by dsimp only; rw [if_neg same]; rfl, rfl, rfl, rfl, fun k other => State.rd_wr_other s _ ?_⟩
    rintro rfl
    simp at other

theorem countSteps_core (n : Nat) (there : c < s.cores.cores.length) : (s.countSteps c n).core c = (s.core c).counted n s.datum := by
  obtain ⟨u, eq, cores, -, -, -⟩ := countSteps_eq s c n
  rw [eq, modCore_core _ (by rwa [cores]), core_congr cores]

theorem countSteps_core_other (n : Nat) (other : j ≠ c) : (s.countSteps c n).core j = s.core j := by
  obtain ⟨u, eq, cores, -, -, -⟩ := countSteps_eq s c n
  rw [eq, modCore_core_other _ other, core_congr cores]

@[simp] theorem countSteps_length (s : State) (c n : Nat) : (s.countSteps c n).cores.cores.length = s.cores.cores.length := by
  obtain ⟨u, eq, cores, -, -, -⟩ := countSteps_eq s c n
  rw [eq, modCore_length, cores]

@[simp] theorem countSteps_integ (s : State) (c n : Nat) : (s.countSteps c n).integ = s.integ := by
  obtain ⟨u, eq, -, integ, -, -⟩ := countSteps_eq s c n
  rw [eq, State.modCore_integ, integ]

theorem countSteps_rd {k : Key} (n : Nat) (other : k.area ≠ 0x58 ∨ k.entry ≠ 0x012) : (s.countSteps c n).rd k = s.rd k := by
  obtain ⟨u, eq, -, -, -, rd⟩ := countSteps_eq s c n
  rw [eq, modCore_rd, rd k other]

/-! ### A whole instruction -/

theorem coreInstr_live (n : Nat) (f : State → State × StepEnd) (live : s.coreLive c = true) :
    s.coreInstr c n f = (f (s.countSteps c n)).1.coreEnd c (f (s.countSteps c n)).2 := when_true live

theorem coreInstr_idle (n : Nat) (f : State → State × StepEnd) (idle : s.coreLive c = false) : s.coreInstr c n f = s := by
  simp [State.coreInstr, when, idle]

theorem coreInstr_next {n : Nat} {f : State → State × StepEnd} (live : s.coreLive c = true) (run : f (s.countSteps c n) = (t, .next)) :
    s.coreInstr c n f = t.coreNext c := by
  rw [coreInstr_live n f live, run]
  rfl

/-- An instruction of registers leaves the core with them and goes on. -/
theorem coreReg_core (n : Nat) (f : Core → Core) (live : s.coreLive c = true) (there : c < s.cores.cores.length) :
    (s.coreInstr c n (fun s => s.coreReg c f)).core c = (f ((s.core c).counted n s.datum)).onward := by
  rw [coreInstr_next live rfl, coreNext_core (by simpa using there), modCore_core _ (by simpa using there), countSteps_core n there]

end Sys2Proof.Machine
end

section
/-! SUPPORT. The integer instructions of a core (11 R310, R312): each one's core afterwards, and the obligation about them. -/

namespace Sys2Proof.Machine

/-- An instruction of registers: the core after it has gone on. -/
theorem coreReg_next {i : Instr} {c : Nat} {s : State} (n : Nat) (f : Core → Core) (live : s.coreLive c = true)
    (there : c < s.cores.cores.length) (means : exec i s = .next (s.coreInstr c n (fun s => s.coreReg c f))) :
    ∃ t, exec i s = .next t ∧ t.core c = (f ((s.core c).counted n s.datum)).onward :=
  ⟨_, means, coreReg_core n f live there⟩

/-- An instruction that leaves its core's registers: the core after it has gone on. -/
theorem coreSame_next {i : Instr} {c : Nat} {s : State} (n : Nat) {f : State → State × StepEnd} (live : s.coreLive c = true)
    (there : c < s.cores.cores.length) (run : f (s.countSteps c n) = (s.countSteps c n, .next))
    (means : exec i s = .next (s.coreInstr c n f)) :
    ∃ t, exec i s = .next t ∧ t.core c = ((s.core c).counted n s.datum).onward :=
  ⟨_, means, by rw [coreInstr_next live run, coreNext_core (by simpa using there), countSteps_core n there]⟩

variable (c d u v sh : Nat) (imm : Int) (s : State)

theorem nop_next (live : s.coreLive c = true) (there : c < s.cores.cores.length) :
    ∃ t, exec (.nop c) s = .next t ∧ (t.core c).pc = (loopEnd (s.core c).pc (s.core c).loops).1 % 8192 ∧ (t.core c).g = (s.core c).g := by
  obtain ⟨t, run, after⟩ := coreSame_next (i := .nop c) 1 live there rfl rfl
  exact ⟨t, run, by rw [after]; exact ⟨rfl, rfl⟩⟩

theorem add_next (live : s.coreLive c = true) (there : c < s.cores.cores.length) :
    ∃ t, exec (.add c d u v) s = .next t ∧
      (t.core c).g = (s.core c).g.set (d % 16) ((s.core c).gr u + (s.core c).gr v) ∧
      (t.core c).pc = (loopEnd (s.core c).pc (s.core c).loops).1 % 8192 ∧
      (t.core c).z = decide (((s.core c).gr u + (s.core c).gr v) = 0) ∧
      (t.core c).n = (((s.core c).gr u + (s.core c).gr v)).msb ∧
      (t.core c).c = decide (2 ^ 32 ≤ ((s.core c).gr u).toNat + ((s.core c).gr v).toNat) ∧
      (t.core c).v = decide (((s.core c).gr u + (s.core c).gr v).toInt ≠ ((s.core c).gr u).toInt + ((s.core c).gr v).toInt) := by
  obtain ⟨t, run, after⟩ := coreReg_next (i := .add c d u v) 1 (fun x => addFlags d (x.gr u) (x.gr v) x) live there rfl
  exact ⟨t, run, by rw [after]; exact ⟨rfl, rfl, rfl, rfl, rfl, rfl⟩⟩

theorem sub_next (live : s.coreLive c = true) (there : c < s.cores.cores.length) :
    ∃ t, exec (.sub c d u v) s = .next t ∧
      (t.core c).g = (s.core c).g.set (d % 16) ((s.core c).gr u - (s.core c).gr v) ∧
      (t.core c).pc = (loopEnd (s.core c).pc (s.core c).loops).1 % 8192 ∧
      (t.core c).z = decide (((s.core c).gr u - (s.core c).gr v) = 0) ∧
      (t.core c).n = (((s.core c).gr u - (s.core c).gr v)).msb ∧
      (t.core c).v = decide (((s.core c).gr u - (s.core c).gr v).toInt ≠ ((s.core c).gr u).toInt - ((s.core c).gr v).toInt) := by
  obtain ⟨t, run, after⟩ := coreReg_next (i := .sub c d u v) 1 (fun x => subFlags d (x.gr u) (x.gr v) x) live there rfl
  exact ⟨t, run, by rw [after]; exact ⟨rfl, rfl, rfl, rfl, rfl⟩⟩

/-- MUL, AND, OR and XOR: the result with its Z and N; C and V stay (11 R312). -/
theorem gLogic_next {i : Instr} (r : Core → BitVec 32) (plain : r ((s.core c).counted 1 s.datum) = r (s.core c))
    (live : s.coreLive c = true) (there : c < s.cores.cores.length)
    (means : exec i s = .next (s.coreInstr c 1 (gLogic c d r))) :
    ∃ t, exec i s = .next t ∧
      (t.core c).g = (s.core c).g.set (d % 16) (r (s.core c)) ∧
      (t.core c).pc = (loopEnd (s.core c).pc (s.core c).loops).1 % 8192 ∧
      (t.core c).z = decide (r (s.core c) = 0) ∧
      (t.core c).n = (r (s.core c)).msb ∧
      (t.core c).c = (s.core c).c ∧
      (t.core c).v = (s.core c).v := by
  obtain ⟨t, run, after⟩ := coreReg_next 1 (fun x => (x.setG d (r x)).zn (r x)) live there means
  rw [plain] at after
  exact ⟨t, run, by rw [after]; exact ⟨rfl, rfl, rfl, rfl, rfl, rfl⟩⟩

theorem shl_next (live : s.coreLive c = true) (there : c < s.cores.cores.length) :
    ∃ t, exec (.shl c d u sh) s = .next t ∧
      (t.core c).g = (s.core c).g.set (d % 16) (BitVec.ofNat 32 ((s.core c).gr u).toNat <<< (sh % 64)) ∧
      (t.core c).pc = (loopEnd (s.core c).pc (s.core c).loops).1 % 8192 ∧
      (t.core c).z = (s.core c).z := by
  obtain ⟨t, run, after⟩ := coreReg_next (i := .shl c d u sh) 1
    (fun x => x.setG d (BitVec.ofNat 32 ((x.gr u).toNat * 2 ^ (sh % 64)))) live there rfl
  have shifted : ∀ (x : BitVec 32) (k : Nat), BitVec.ofNat 32 x.toNat <<< k = BitVec.ofNat 32 (x.toNat * 2 ^ k) := by
    intro x k
    apply BitVec.eq_of_toNat_eq
    simp [Nat.shiftLeft_eq]
  exact ⟨t, run, by rw [after, shifted]; exact ⟨rfl, rfl, rfl⟩⟩

theorem saturate_of_fits {w : Nat} {n : Int} (low : -(2 ^ (w - 1)) ≤ n) (high : n ≤ 2 ^ (w - 1) - 1) : saturate w n = (BitVec.ofInt w n, false) := by
  simp [saturate, clampInt, not_lt.2 low, not_lt.2 high]

/-- A right shift stays within the 32 bits of its operand, so SHR never saturates. -/
theorem narrow_toInt (x : BitVec 32) (k : Nat) : narrow 32 x.toInt k = (BitVec.ofInt 32 (x.toInt / 2 ^ k), false) := by
  have low : -2 ^ 31 ≤ x.toInt := by simpa using BitVec.le_toInt (x := x)
  have high : x.toInt < 2 ^ 31 := by simpa using BitVec.toInt_lt (x := x)
  have one : (1 : Int) ≤ 2 ^ k := one_le_pow₀ (by decide)
  refine saturate_of_fits ?_ ?_
  · show -2 ^ 31 ≤ x.toInt / 2 ^ k
    rw [Int.le_ediv_iff_mul_le (by omega)]
    nlinarith
  · show x.toInt / 2 ^ k ≤ 2 ^ 31 - 1
    rw [Int.le_sub_one_iff, Int.ediv_lt_iff_lt_mul (by omega)]
    nlinarith

theorem shr_next (live : s.coreLive c = true) (there : c < s.cores.cores.length) :
    ∃ t, exec (.shr c d u sh) s = .next t ∧
      (t.core c).g = (s.core c).g.set (d % 16) (BitVec.ofInt 32 (((s.core c).gr u).toInt / 2 ^ (sh % 64))) ∧
      (t.core c).pc = (loopEnd (s.core c).pc (s.core c).loops).1 % 8192 := by
  obtain ⟨t, run, after⟩ := coreReg_next (i := .shr c d u sh) 1
    (fun x => { x.setG d (narrow 32 (x.gr u).toInt (sh % 64)).1 with sov := x.sov || (narrow 32 (x.gr u).toInt (sh % 64)).2 })
    live there rfl
  simp only [narrow_toInt] at after
  exact ⟨t, run, by rw [after]; exact ⟨rfl, rfl⟩⟩

theorem addi_next (live : s.coreLive c = true) (there : c < s.cores.cores.length) :
    ∃ t, exec (.addi c d u imm) s = .next t ∧
      (t.core c).g = (s.core c).g.set (d % 16) ((s.core c).gr u + BitVec.ofInt 32 (toSigned 18 (ofSigned 18 imm))) ∧
      (t.core c).pc = (loopEnd (s.core c).pc (s.core c).loops).1 % 8192 ∧
      (t.core c).z = decide (((s.core c).gr u + BitVec.ofInt 32 (toSigned 18 (ofSigned 18 imm))) = 0) ∧
      (t.core c).n = (((s.core c).gr u + BitVec.ofInt 32 (toSigned 18 (ofSigned 18 imm)))).msb ∧
      (t.core c).c = decide (2 ^ 32 ≤ ((s.core c).gr u).toNat + (BitVec.ofInt 32 (toSigned 18 (ofSigned 18 imm))).toNat) := by
  obtain ⟨t, run, after⟩ := coreReg_next (i := .addi c d u imm) 1
    (fun x => addFlags d (x.gr u) (BitVec.ofInt 32 (toSigned 18 (ofSigned 18 imm))) x) live there rfl
  exact ⟨t, run, by rw [after]; exact ⟨rfl, rfl, rfl, rfl, rfl⟩⟩

theorem lui_next (live : s.coreLive c = true) (there : c < s.cores.cores.length) :
    ∃ t, exec (.lui c d imm) s = .next t ∧
      (t.core c).g = (s.core c).g.set (d % 16) (BitVec.ofInt 32 (toSigned 18 (ofSigned 18 imm) * 2 ^ 14)) ∧
      (t.core c).pc = (loopEnd (s.core c).pc (s.core c).loops).1 % 8192 ∧
      (t.core c).z = (s.core c).z := by
  obtain ⟨t, run, after⟩ := coreReg_next (i := .lui c d imm) 1
    (fun x => x.setG d (BitVec.ofInt 32 (toSigned 18 (ofSigned 18 imm) * 2 ^ 14))) live there rfl
  exact ⟨t, run, by rw [after]; exact ⟨rfl, rfl, rfl⟩⟩

/-- Settles O30: each clause is what its instruction's lemma above says. -/
theorem coreArithmeticComplete : Obligations.CoreArithmeticComplete :=
  ⟨nop_next, add_next, sub_next,
    fun c d u v s live there => gLogic_next c d s (fun x => x.gr u * x.gr v) rfl live there rfl,
    fun c d u v s live there => gLogic_next c d s (fun x => x.gr u &&& x.gr v) rfl live there rfl,
    fun c d u v s live there => gLogic_next c d s (fun x => x.gr u ||| x.gr v) rfl live there rfl,
    fun c d u v s live there => gLogic_next c d s (fun x => x.gr u ^^^ x.gr v) rfl live there rfl,
    shl_next, shr_next, addi_next, lui_next⟩

end Sys2Proof.Machine
end

section
/-! SUPPORT. The data memory of a core: lines, loads and stores (11 R314, R315; 16 R412, R413). -/

namespace Sys2Proof.Machine

variable {s t : State} {c j : Nat}

/-! ### Bytes of a line -/

/-- A patched line is what stands above the bytes replaced, the new bytes, and what stands below. -/
theorem patchOf_eq (v off n b : Nat) : patchOf v off n b =
    256 ^ (32 - off - n) * (256 ^ n * (v / 256 ^ (32 - off - n) / 256 ^ n) + b % 256 ^ n) + v % 256 ^ (32 - off - n) := by
  unfold patchOf sliceOf
  generalize 256 ^ (32 - off - n) = k
  generalize 256 ^ n = w
  have low := Nat.div_add_mod v k
  have high := Nat.div_add_mod (v / k) w
  have le : v / k % w * k ≤ v := (Nat.mul_le_mul_right k (Nat.mod_le _ _)).trans (Nat.div_mul_le_self v k)
  zify [le]
  zify at low high
  linear_combination -low - (k : Int) * high

theorem sliceOf_patchOf (v off n b : Nat) : sliceOf (patchOf v off n b) off n = b % 256 ^ n := by
  rw [patchOf_eq, sliceOf, Nat.mul_add_div (by positivity), Nat.div_eq_of_lt (Nat.mod_lt _ (by positivity)), Nat.add_zero, Nat.mul_add_mod,
    Nat.mod_mod]

/-- A byte outside those replaced stays. -/
theorem sliceOf_patchOf_other {off n i : Nat} (v b : Nat) (inside : off + n ≤ 32) (line : i < 32) (other : i < off ∨ off + n ≤ i) :
    sliceOf (patchOf v off n b) i 1 = sliceOf v i 1 := by
  rcases other with above | below
  · -- the byte stands above: it is one of the upper part, which the patch keeps
    obtain ⟨e, he⟩ : ∃ e, 32 - i - 1 = (32 - off - n) + (n + e) := ⟨off - i - 1, by omega⟩
    have kept : patchOf v off n b / 256 ^ (32 - off - n) / 256 ^ n = v / 256 ^ (32 - off - n) / 256 ^ n := by
      rw [patchOf_eq, Nat.mul_add_div (by positivity), Nat.div_eq_of_lt (Nat.mod_lt v (by positivity)), Nat.add_zero,
        Nat.mul_add_div (by positivity), Nat.div_eq_of_lt (Nat.mod_lt b (by positivity)), Nat.add_zero]
    unfold sliceOf
    rw [he, pow_add, pow_add, ← Nat.div_div_eq_div_mul, ← Nat.div_div_eq_div_mul, kept, Nat.div_div_eq_div_mul, Nat.div_div_eq_div_mul]
  · -- the byte stands below: the patch adds a multiple of what the lower part is taken modulo
    obtain ⟨e, he⟩ : ∃ e, 32 - off - n = (32 - i - 1) + 1 + e := ⟨i - off - n, by omega⟩
    unfold sliceOf
    rw [← Nat.mod_mul_right_div_self, ← Nat.mod_mul_right_div_self, ← pow_add, patchOf_eq, he, pow_add _ (32 - i - 1 + 1) e, Nat.mul_assoc,
      Nat.mul_add_mod, Nat.mod_mul_right_mod]

/-! ### Lines of the memory -/

theorem find_aput_same {α : Type} (m : List (Nat × α)) (k : Nat) (v : α) : (aput m k v).find? (fun e => e.1 = k) = some (k, v) := by
  induction m with
  | nil => simp [aput]
  | cons e m ih =>
    simp only [aput]
    split_ifs with same before
    · simp
    · simp
    · simp [same, ih]

theorem find_aput_other {α : Type} (m : List (Nat × α)) {k j : Nat} (v : α) (other : j ≠ k) :
    (aput m k v).find? (fun e => e.1 = j) = m.find? (fun e => e.1 = j) := by
  induction m with
  | nil => simp [aput, other.symm]
  | cons e m ih =>
    simp only [aput]
    split_ifs with same before
    · simp [same, other.symm]
    · simp [other.symm]
    · simp only [List.find?_cons, ih]

theorem dline_congr {line : Nat} (bad : t.integ.bad = s.integ.bad) (mem : (t.core c).dmem = (s.core c).dmem) :
    t.dline c line = s.dline c line := by
  unfold State.dline State.lineBad
  rw [bad, mem]

theorem dload_congr {addr n : Nat} (lines : t.dline c (addr / 32) = s.dline c (addr / 32)) : t.dload c addr n = s.dload c addr n := by
  simp only [State.dload, lines]

theorem dline_of_absent (line : Nat) (absent : s.cores.cores.length ≤ c) : s.dline c line = none := by
  simp [State.dline, core_of_absent absent, Core.reset]

theorem there_of_dline {line : Nat} (stored : (s.dline c line).isSome = true) : c < s.cores.cores.length := by
  by_contra absent
  simp [dline_of_absent line (not_lt.1 absent)] at stored

theorem dline_of_dload {addr n : Nat} (loads : (s.dload c addr n).isSome = true) : (s.dline c (addr / 32)).isSome = true := by
  simpa [State.dload] using loads

theorem dload_some {addr n v : Nat} (loads : s.dload c addr n = some v) : (s.dload c addr n).isSome = true := by rw [loads]; rfl

theorem modCore_dline (f : Core → Core) (line : Nat) (keeps : ∀ x, (f x).dmem = x.dmem) : (s.modCore c f).dline c line = s.dline c line := by
  by_cases there : c < s.cores.cores.length
  · exact dline_congr rfl (by rw [modCore_core f there, keeps])
  · rw [modCore_of_absent f (not_lt.1 there)]

theorem countSteps_dline (n line : Nat) : (s.countSteps c n).dline c line = s.dline c line := by
  obtain ⟨u, eq, cores, integ, -, -⟩ := countSteps_eq s c n
  rw [eq]
  exact (modCore_dline (Core.counted · n s.datum) line (fun _ => rfl)).trans (dline_congr (by rw [integ]) (congrArg Core.dmem (core_congr cores)))

theorem countSteps_dload (n addr k : Nat) : (s.countSteps c n).dload c addr k = s.dload c addr k := dload_congr (countSteps_dline n _)

theorem coreGoto_dline (pc line : Nat) : (s.coreGoto c pc).dline c line = s.dline c line := by
  have moved : (s.coreGoto c pc).dline c line = (s.modCore c (fun x => { x with pc := pc % 8192 })).dline c line :=
    dline_congr ((coreGoto_bad s c pc).trans (congrArg IntegrityState.bad (State.modCore_integ ..).symm))
      (congrArg Core.dmem (core_congr (coreGoto_cores s c pc)))
  exact moved.trans (modCore_dline _ line (fun _ => rfl))

theorem coreNext_dline (line : Nat) : (s.coreNext c).dline c line = s.dline c line := by
  unfold State.coreNext
  exact (coreGoto_dline _ line).trans (modCore_dline _ line (fun _ => rfl))

/-! ### Loads and the post-modify -/

/-- A core after the post-modify of a memory instruction, unless it has none. -/
def Core.posted (x : Core) (n m : Nat) (noPost : Bool) : Core := if noPost then x else x.postModify n m

theorem postMod_core (n m : Nat) (noPost : Bool) (there : c < s.cores.cores.length) :
    (s.postMod c n m noPost).core c = (s.core c).posted n m noPost := by
  cases noPost with
  | false => exact modCore_core _ there
  | true => rfl

theorem postMod_core_other (n m : Nat) (noPost : Bool) (other : j ≠ c) : (s.postMod c n m noPost).core j = s.core j := by
  cases noPost with
  | false => exact modCore_core_other _ other
  | true => rfl

@[simp] theorem postMod_length (s : State) (c n m : Nat) (noPost : Bool) :
    (s.postMod c n m noPost).cores.cores.length = s.cores.cores.length := by
  cases noPost with
  | false => exact modCore_length ..
  | true => rfl

theorem postMod_dline (n m : Nat) (noPost : Bool) (line : Nat) : (s.postMod c n m noPost).dline c line = s.dline c line := by
  cases noPost with
  | false => exact modCore_dline _ _ (fun _ => rfl)
  | true => rfl

theorem withLoad_some {addr n v : Nat} (f : Nat → State × StepEnd) (loads : s.dload c addr n = some v) : s.withLoad c addr n f = f v := by
  simp only [State.withLoad, loads]

/-- A load of an instruction: its register takes the value by set, and the address register is post-modified. -/
def State.loadInto (s : State) (c addr k n m : Nat) (noPost : Bool) (set : Nat → Core → Core) : State × StepEnd :=
  s.withLoad c addr k fun v => ((s.modCore c (set v)).postMod c n m noPost, .next)

theorem loadInto_core {addr k n m v : Nat} {noPost : Bool} {set : Nat → Core → Core} {f : State → State × StepEnd} (live : s.coreLive c = true)
    (loads : s.dload c addr k = some v)
    (means : f (s.countSteps c 1) = (s.countSteps c 1).loadInto c addr k n m noPost set) :
    (s.coreInstr c 1 f).core c = ((set v ((s.core c).counted 1 s.datum)).posted n m noPost).onward := by
  have there := there_of_dline (dline_of_dload (dload_some loads))
  have run := means.trans (withLoad_some _ ((countSteps_dload 1 addr k).trans loads))
  rw [coreInstr_next live run, coreNext_core (by simpa using there), postMod_core n m noPost (by simpa using there),
    modCore_core _ (by simpa using there), countSteps_core 1 there]

theorem loadInto_core_other {addr k n m v : Nat} {noPost : Bool} {set : Nat → Core → Core} {f : State → State × StepEnd}
    (live : s.coreLive c = true) (loads : s.dload c addr k = some v)
    (means : f (s.countSteps c 1) = (s.countSteps c 1).loadInto c addr k n m noPost set) (other : j ≠ c) :
    (s.coreInstr c 1 f).core j = s.core j := by
  have run := means.trans (withLoad_some _ ((countSteps_dload 1 addr k).trans loads))
  rw [coreInstr_next live run, coreNext_core_other other, postMod_core_other n m noPost other, modCore_core_other _ other,
    countSteps_core_other 1 other]

/-! ### Stores -/

/-- A core whose data memory has k bytes replaced in the line of an address that holds old. -/
def Core.patched (x : Core) (addr k v old : Nat) : Core := { x with dmem := aput x.dmem (addr / 32) (patchOf old (addr % 32) k v) }

theorem storeThen_some {addr k v n m old : Nat} {noPost : Bool} (stored : s.dline c (addr / 32) = some old) :
    storeThen c addr k v n m noPost s = ((s.modCore c (Core.patched · addr k v old)).postMod c n m noPost, .next) := by
  unfold storeThen State.dstore
  rw [stored]
  rfl

section Stored

variable {addr k v n m old w : Nat} {noPost : Bool} {f : State → State × StepEnd}
  (live : s.coreLive c = true) (stored : s.dline c (addr / 32) = some old)
  (means : f (s.countSteps c w) = storeThen c addr k v n m noPost (s.countSteps c w))

include live stored means

theorem storeThen_state : s.coreInstr c w f =
    (((s.countSteps c w).modCore c (Core.patched · addr k v old)).postMod c n m noPost).coreNext c :=
  coreInstr_next live (means.trans (storeThen_some ((countSteps_dline w _).trans stored)))

theorem storeThen_core : (s.coreInstr c w f).core c =
    ((((s.core c).counted w s.datum).patched addr k v old).posted n m noPost).onward := by
  have there := there_of_dline (by rw [stored]; rfl)
  rw [storeThen_state live stored means, coreNext_core (by simpa using there), postMod_core n m noPost (by simpa using there),
    modCore_core _ (by simpa using there), countSteps_core w there]

theorem storeThen_core_other (other : j ≠ c) : (s.coreInstr c w f).core j = s.core j := by
  rw [storeThen_state live stored means, coreNext_core_other other, postMod_core_other n m noPost other, modCore_core_other _ other,
    countSteps_core_other w other]

/-- The line of the address holds the patched bytes. -/
theorem storeThen_dline : (s.coreInstr c w f).dline c (addr / 32) = some (patchOf old (addr % 32) k v) := by
  have there := there_of_dline (by rw [stored]; rfl)
  have good : s.lineBad (256 + c) (addr / 32) = false := by
    by_contra bad
    simp [State.dline, Bool.not_eq_false _ ▸ bad] at stored
  rw [storeThen_state live stored means, coreNext_dline, postMod_dline]
  simp only [State.dline, State.lineBad, State.modCore_integ, countSteps_integ] at good ⊢
  rw [good, modCore_core _ (by simpa using there)]
  simp [Core.patched, find_aput_same]

theorem storeThen_dline_other {line : Nat} (other : line ≠ addr / 32) : (s.coreInstr c w f).dline c line = s.dline c line := by
  have there := there_of_dline (by rw [stored]; rfl)
  rw [storeThen_state live stored means, coreNext_dline, postMod_dline, ← countSteps_dline (s := s) w]
  unfold State.dline State.lineBad
  rw [State.modCore_integ, modCore_core _ (by simpa using there), Core.patched, find_aput_other _ _ other]

/-- The bytes stored are read back. -/
theorem storeThen_dload : (s.coreInstr c w f).dload c addr k = some (v % 256 ^ k) := by
  rw [State.dload, storeThen_dline live stored means, Option.map_some, sliceOf_patchOf]

/-- Every other byte reads as before. -/
theorem storeThen_dload_other {b : Nat} (inside : addr % 32 + k ≤ 32) (other : b < addr ∨ addr + k ≤ b) :
    (s.coreInstr c w f).dload c b 1 = s.dload c b 1 := by
  by_cases same : b / 32 = addr / 32
  · rw [State.dload, State.dload, same, storeThen_dline live stored means, stored, Option.map_some, Option.map_some,
      sliceOf_patchOf_other old v inside (Nat.mod_lt _ (by decide)) (by omega)]
  · exact dload_congr (storeThen_dline_other live stored means same)

end Stored

/-! ### Whole lines -/

theorem putLine_core (line v : Nat) (there : c < s.cores.cores.length) :
    (s.putLine c line v).core c = { s.core c with dmem := aput (s.core c).dmem (line % 2048) (v % 2 ^ 256) } := modCore_core _ there

theorem putLine_core_other (line v : Nat) (other : j ≠ c) : (s.putLine c line v).core j = s.core j := modCore_core_other _ other

@[simp] theorem putLine_length (s : State) (c line v : Nat) : (s.putLine c line v).cores.cores.length = s.cores.cores.length :=
  modCore_length ..

theorem putLine_dline (line v : Nat) (there : c < s.cores.cores.length) : (s.putLine c line v).dline c (line % 2048) = some (v % 2 ^ 256) := by
  have good : (s.putLine c line v).lineBad (0x100 + c) (line % 2048) = false := by
    simp [State.lineBad, State.putLine, State.lineGood]
  rw [State.dline, good, putLine_core line v there]
  simp [find_aput_same]

theorem putLine_dline_other {line other : Nat} (v : Nat) (apart : other ≠ line % 2048) : (s.putLine c line v).dline c other = s.dline c other := by
  have bad : (s.putLine c line v).lineBad (0x100 + c) other = s.lineBad (0x100 + c) other := by
    simp [State.lineBad, State.putLine, State.lineGood, apart]
  by_cases there : c < s.cores.cores.length
  · rw [State.dline, State.dline, bad, putLine_core line v there]
    simp only [find_aput_other _ _ apart]
  · rw [dline_of_absent other (by simpa using there), dline_of_absent other (not_lt.1 there)]

end Sys2Proof.Machine
end

section
/-! SUPPORT. The complex instructions of a core (11 R309, R310, R312): each one's core afterwards, and the obligation about them. -/

namespace Sys2Proof.Machine

variable (c d u v sh : Nat) (s : State)

/-- An instruction of registers whose fields are defined: the core after it has gone on. -/
theorem coreField_next {i : Instr} {c : Nat} {s : State} {g : State → State × StepEnd} {f : Core → Core} (live : s.coreLive c = true)
    (there : c < s.cores.cores.length) (defined : ∀ s, g s = s.coreReg c f) (means : exec i s = .next (s.coreInstr c 1 g)) :
    ∃ t, exec i s = .next t ∧ t.core c = (f ((s.core c).counted 1 s.datum)).onward :=
  coreReg_next 1 f live there (means.trans (by rw [funext defined]))

theorem fieldsOk_pos {p : Bool} (h : p = true) (s : State) (f : State → State × StepEnd) : fieldsOk p s f = f s := if_pos h

/-- An accumulator takes the sum, saturated, of what it keeps of its value and a product (11 R309). -/
theorem accumulate_parts (x : Core) (t : Nat) (p : Int × Int) :
    (x.accumulate t p 0).ac = x.ac.set t ((saturate 48 p.1).1, (saturate 48 p.2).1) ∧
    (x.accumulate t p 0).aov = (x.aov || (saturate 48 p.1).2 || (saturate 48 p.2).2) ∧
    (x.accumulate t p 1).ac = x.ac.set t ((saturate 48 ((x.acc t).1.toInt + p.1)).1, (saturate 48 ((x.acc t).2.toInt + p.2)).1) ∧
    (x.accumulate t p 1).aov = (x.aov || (saturate 48 ((x.acc t).1.toInt + p.1)).2 || (saturate 48 ((x.acc t).2.toInt + p.2)).2) ∧
    (x.accumulate t p (-1)).ac = x.ac.set t ((saturate 48 ((x.acc t).1.toInt - p.1)).1, (saturate 48 ((x.acc t).2.toInt - p.2)).1) ∧
    (x.accumulate t p (-1)).aov = (x.aov || (saturate 48 ((x.acc t).1.toInt - p.1)).2 || (saturate 48 ((x.acc t).2.toInt - p.2)).2) := by
  simp [Core.accumulate, Core.setAc, sub_eq_add_neg]

/-- A product of two D registers into an accumulator: the core after it has gone on. -/
theorem product_next {i : Instr} {conj : Bool} {how : Int} (live : s.coreLive c = true) (there : c < s.cores.cores.length) (hd : d < 4)
    (hu : u < 8) (hv : v < 8) (means : exec i s = .next (s.coreInstr c 1 (coreProduct c d u v conj how))) :
    ∃ t, exec i s = .next t ∧ (t.core c).ac = ((s.core c).accumulate d (cproduct ((s.core c).dr u) ((s.core c).dr v) conj) how).ac ∧
      (t.core c).aov = ((s.core c).accumulate d (cproduct ((s.core c).dr u) ((s.core c).dr v) conj) how).aov ∧
      (t.core c).pc = (loopEnd (s.core c).pc (s.core c).loops).1 % 8192 := by
  obtain ⟨t, run, after⟩ := coreField_next live there (fun s => fieldsOk_pos (by simp [hd, hu, hv]) s _) means
  exact ⟨t, run, by rw [after]; exact ⟨rfl, rfl, rfl⟩⟩

theorem cmul_next (live : s.coreLive c = true) (there : c < s.cores.cores.length) (hd : d < 4) (hu : u < 8) (hv : v < 8) :
    ∃ t, exec (.cmul c d u v) s = .next t ∧
      (t.core c).ac = (s.core c).ac.set d ((saturate 48 ((cproduct ((s.core c).dr u) ((s.core c).dr v) false).1)).1,
        (saturate 48 ((cproduct ((s.core c).dr u) ((s.core c).dr v) false).2)).1) ∧
      (t.core c).aov = ((s.core c).aov || (saturate 48 ((cproduct ((s.core c).dr u) ((s.core c).dr v) false).1)).2 ||
        (saturate 48 ((cproduct ((s.core c).dr u) ((s.core c).dr v) false).2)).2) ∧
      (t.core c).pc = (loopEnd (s.core c).pc (s.core c).loops).1 % 8192 := by
  obtain ⟨ac, aov, -⟩ := accumulate_parts (s.core c) d (cproduct ((s.core c).dr u) ((s.core c).dr v) false)
  rw [← ac, ← aov]
  exact product_next c d u v s live there hd hu hv rfl

/-- CMAC, and CMACJ with the conjugate. -/
theorem cmac_next {i : Instr} (conj : Bool) (live : s.coreLive c = true) (there : c < s.cores.cores.length) (hd : d < 4) (hu : u < 8)
    (hv : v < 8) (means : exec i s = .next (s.coreInstr c 1 (coreProduct c d u v conj 1))) :
    ∃ t, exec i s = .next t ∧
      (t.core c).ac = (s.core c).ac.set d ((saturate 48 (((s.core c).acc d).1.toInt + (cproduct ((s.core c).dr u) ((s.core c).dr v) conj).1)).1, (saturate 48 (((s.core c).acc d).2.toInt + (cproduct ((s.core c).dr u) ((s.core c).dr v) conj).2)).1) ∧
      (t.core c).aov = ((s.core c).aov ||
        (saturate 48 (((s.core c).acc d).1.toInt + (cproduct ((s.core c).dr u) ((s.core c).dr v) conj).1)).2 ||
          (saturate 48 (((s.core c).acc d).2.toInt + (cproduct ((s.core c).dr u) ((s.core c).dr v) conj).2)).2) ∧
      (t.core c).pc = (loopEnd (s.core c).pc (s.core c).loops).1 % 8192 := by
  obtain ⟨-, -, ac, aov, -⟩ := accumulate_parts (s.core c) d (cproduct ((s.core c).dr u) ((s.core c).dr v) conj)
  rw [← ac, ← aov]
  exact product_next c d u v s live there hd hu hv means

theorem cmsu_next (live : s.coreLive c = true) (there : c < s.cores.cores.length) (hd : d < 4) (hu : u < 8) (hv : v < 8) :
    ∃ t, exec (.cmsu c d u v) s = .next t ∧
      (t.core c).ac = (s.core c).ac.set d ((saturate 48 (((s.core c).acc d).1.toInt - (cproduct ((s.core c).dr u) ((s.core c).dr v) false).1)).1, (saturate 48 (((s.core c).acc d).2.toInt - (cproduct ((s.core c).dr u) ((s.core c).dr v) false).2)).1) ∧
      (t.core c).aov = ((s.core c).aov ||
        (saturate 48 (((s.core c).acc d).1.toInt - (cproduct ((s.core c).dr u) ((s.core c).dr v) false).1)).2 ||
          (saturate 48 (((s.core c).acc d).2.toInt - (cproduct ((s.core c).dr u) ((s.core c).dr v) false).2)).2) ∧
      (t.core c).pc = (loopEnd (s.core c).pc (s.core c).loops).1 % 8192 := by
  obtain ⟨-, -, -, -, ac, aov⟩ := accumulate_parts (s.core c) d (cproduct ((s.core c).dr u) ((s.core c).dr v) false)
  rw [← ac, ← aov]
  exact product_next c d u v s live there hd hu hv rfl

/-! ### CMACM (11 R312) -/

/-- A core that has taken two operands into D6 and D7 and post-modified A0 and A1. -/
def Core.operandsTaken (x : Core) (p q : Nat) : Core :=
  (((x.setD 6 (operandOf p)).postModify 0 0).setD 7 (operandOf q)).postModify 1 1

theorem operandsTaken_dr (x : Core) (p q : Nat) (eight : x.d.length = 8) :
    (x.operandsTaken p q).dr 6 = operandOf p ∧ (x.operandsTaken p q).dr 7 = operandOf q := by
  simp [Core.operandsTaken, Core.postModify, Core.setD, Core.dr, nth, eight]

theorem operandsTaken_flow (x : Core) (p q : Nat) :
    (x.operandsTaken p q).ac = x.ac ∧ (x.operandsTaken p q).pc = x.pc ∧ (x.operandsTaken p q).loops = x.loops := ⟨rfl, rfl, rfl⟩

theorem accumulate_flow (x : Core) (t : Nat) (p : Int × Int) (how : Int) : (x.accumulate t p how).d = x.d ∧
    (x.accumulate t p how).pc = x.pc ∧ (x.accumulate t p how).loops = x.loops := ⟨rfl, rfl, rfl⟩

theorem onward_flow (x : Core) : x.onward.ac = x.ac ∧ x.onward.d = x.d ∧ x.onward.pc = (loopEnd x.pc x.loops).1 % 8192 := ⟨rfl, rfl, rfl⟩

theorem cmacm_core {p q : Nat} (live : s.coreLive c = true) (hd : d < 4)
    (first : s.dload c ((s.core c).ar 0 / 8 * 8) 8 = some p) (second : s.dload c ((s.core c).ar 1 / 8 * 8) 8 = some q) :
    ∃ t, exec (.cmacm c d) s = .next t ∧ t.core c =
      ((((s.core c).counted 1 s.datum).operandsTaken p q).accumulate d
        (cproduct ((((s.core c).counted 1 s.datum).operandsTaken p q).dr 6) ((((s.core c).counted 1 s.datum).operandsTaken p q).dr 7) false) 1).onward := by
  have there := there_of_dline (dline_of_dload (dload_some first))
  have run : coreCmacm c d (s.countSteps c 1) = ((s.countSteps c 1).modCore c (fun x =>
      (x.operandsTaken p q).accumulate d (cproduct ((x.operandsTaken p q).dr 6) ((x.operandsTaken p q).dr 7) false) 1), .next) := by
    have a : ∀ n, ((s.countSteps c 1).core c).ar n = (s.core c).ar n := fun n => by rw [countSteps_core 1 there]; rfl
    unfold coreCmacm
    rw [fieldsOk_pos (by simpa using hd), a 0, a 1, withLoad_some _ ((countSteps_dload 1 _ _).trans first),
      withLoad_some _ ((countSteps_dload 1 _ _).trans second)]
    rfl
  refine ⟨_, rfl, ?_⟩
  rw [coreInstr_next live run, coreNext_core (by simpa using there), modCore_core _ (by simpa using there), countSteps_core 1 there]

theorem cmacm_next (c d p q : Nat) (s : State) (live : s.coreLive c = true) (_there : c < s.cores.cores.length) (hd : d < 4)
    (eight : (s.core c).d.length = 8)
    (first : s.dload c ((s.core c).ar 0 / 8 * 8) 8 = some p) (second : s.dload c ((s.core c).ar 1 / 8 * 8) 8 = some q) :
    ∃ t, exec (.cmacm c d) s = .next t ∧
      (t.core c).ac = (s.core c).ac.set d ((saturate 48 (((s.core c).acc d).1.toInt + (cproduct (operandOf p) (operandOf q) false).1)).1,
        (saturate 48 (((s.core c).acc d).2.toInt + (cproduct (operandOf p) (operandOf q) false).2)).1) ∧
      (t.core c).dr 6 = operandOf p ∧
      (t.core c).dr 7 = operandOf q ∧
      (t.core c).pc = (loopEnd (s.core c).pc (s.core c).loops).1 % 8192 := by
  obtain ⟨t, run, after⟩ := cmacm_core c d s live hd first second
  obtain ⟨six, seven⟩ := operandsTaken_dr ((s.core c).counted 1 s.datum) p q eight
  obtain ⟨ac, pc, loops⟩ := operandsTaken_flow ((s.core c).counted 1 s.datum) p q
  generalize ((s.core c).counted 1 s.datum).operandsTaken p q = x at after six seven ac pc loops
  rw [six, seven] at after
  obtain ⟨ac', d', pc'⟩ := onward_flow (x.accumulate d (cproduct (operandOf p) (operandOf q) false) 1)
  obtain ⟨d'', pc'', loops''⟩ := accumulate_flow x d (cproduct (operandOf p) (operandOf q) false) 1
  refine ⟨t, run, ?_, ?_, ?_, ?_⟩
  · rw [after, ac', (accumulate_parts x d _).2.2.1, Core.acc, ac]
    rfl
  · rw [after, Core.dr, d', d'']
    exact six
  · rw [after, Core.dr, d', d'']
    exact seven
  · rw [after, pc', pc'', loops'', pc, loops]
    rfl

/-! ### Accumulators cleared and narrowed (11 R310, R312) -/

theorem clra_next (live : s.coreLive c = true) (there : c < s.cores.cores.length) (hd : d < 4) :
    ∃ t, exec (.clra c d) s = .next t ∧
      (t.core c).ac = (s.core c).ac.set d (0, 0) ∧
      (t.core c).pc = (loopEnd (s.core c).pc (s.core c).loops).1 % 8192 := by
  obtain ⟨t, run, after⟩ := coreField_next (i := .clra c d) live there (fun s => fieldsOk_pos (by simp [hd]) s _) rfl
  exact ⟨t, run, by rw [after]; exact ⟨rfl, rfl⟩⟩

theorem sac_next (live : s.coreLive c = true) (there : c < s.cores.cores.length) (hd : d < 8) (hu : u < 4) :
    ∃ t, exec (.sac c d u sh) s = .next t ∧
      (t.core c).d = (s.core c).d.set d ((narrow 18 ((s.core c).acc u).1.toInt (sh % 64)).1, (narrow 18 ((s.core c).acc u).2.toInt (sh % 64)).1) ∧
      (t.core c).sov = ((s.core c).sov || (narrow 18 ((s.core c).acc u).1.toInt (sh % 64)).2 || (narrow 18 ((s.core c).acc u).2.toInt (sh % 64)).2) ∧
      (t.core c).pc = (loopEnd (s.core c).pc (s.core c).loops).1 % 8192 := by
  obtain ⟨t, run, after⟩ := coreField_next (i := .sac c d u sh) live there (fun s => fieldsOk_pos (by simp [hd, hu]) s _) rfl
  exact ⟨t, run, by rw [after]; exact ⟨rfl, rfl, rfl⟩⟩

theorem sacg_next (im : Bool) (sh : Nat) (s : State) (live : s.coreLive c = true) (there : c < s.cores.cores.length) (hu : u < 4) :
    ∃ t, exec (.sacg c d u im sh) s = .next t ∧
      (t.core c).g = (s.core c).g.set (d % 16) ((narrow 32 (if im then ((s.core c).acc u).2 else ((s.core c).acc u).1).toInt (sh % 64)).1) ∧
      (t.core c).pc = (loopEnd (s.core c).pc (s.core c).loops).1 % 8192 := by
  obtain ⟨t, run, after⟩ := coreField_next (i := .sacg c d u im sh) live there (fun s => fieldsOk_pos (by simp [hu]) s _) rfl
  exact ⟨t, run, by rw [after]; exact ⟨rfl, rfl⟩⟩

/-- Settles O33: each clause is what its instruction's lemma above says. -/
theorem coreComplexComplete : Obligations.CoreComplexComplete :=
  ⟨cmul_next,
    fun c d u v s live there hd hu hv => cmac_next c d u v s false live there hd hu hv rfl,
    fun c d u v s live there hd hu hv => cmac_next c d u v s true live there hd hu hv rfl,
    cmsu_next, cmacm_next, clra_next,
    fun c d u sh s => sac_next c d u sh s, sacg_next⟩

end Sys2Proof.Machine
end

section
/-! SUPPORT. The control-flow instructions of a core and its faults (11 R312, R313, R321): the core afterwards, and the obligation about
them. -/

namespace Sys2Proof.Machine

variable {s t : State} {c : Nat}

theorem coreInstr_jump {n pc : Nat} {f : State → State × StepEnd} (live : s.coreLive c = true) (run : f (s.countSteps c n) = (t, .jump pc)) :
    s.coreInstr c n f = t.coreGoto c pc := by
  rw [coreInstr_live n f live, run]
  rfl

theorem coreInstr_stall {n : Nat} {f : State → State × StepEnd} (live : s.coreLive c = true) (run : f (s.countSteps c n) = (t, .stall)) :
    s.coreInstr c n f = t := by
  rw [coreInstr_live n f live, run]
  rfl

theorem coreInstr_fault {n cause : Nat} {f : State → State × StepEnd} (live : s.coreLive c = true)
    (run : f (s.countSteps c n) = (t, .fault cause)) : s.coreInstr c n f = t.coreFault c cause := by
  rw [coreInstr_live n f live, run]
  rfl

/-- A running core waits for no event. -/
theorem waiting_of_live (live : s.coreLive c = true) : (s.core c).waiting = none := by
  simp only [State.coreLive, Bool.and_eq_true] at live
  simpa using live.1.1.2

/-! ### Branches and links -/

theorem displaced_lt (pc : Nat) (disp : Int) : displaced pc disp % 8192 = displaced pc disp := by
  unfold displaced
  omega

theorem branch_next (c cond : Nat) (disp : Int) (s : State) (live : s.coreLive c = true) (there : c < s.cores.cores.length)
    (_defined : cond % 16 < 8) :
    ∃ t, exec (.branch c cond disp) s = .next t ∧
      (condHolds (s.core c) (cond % 16) = some true → (t.core c).pc = displaced (s.core c).pc disp) ∧
      (condHolds (s.core c) (cond % 16) = some false → (t.core c).pc = (loopEnd (s.core c).pc (s.core c).loops).1 % 8192) := by
  have flags : condHolds ((s.core c).counted 1 s.datum) (cond % 16) = condHolds (s.core c) (cond % 16) := rfl
  refine ⟨_, rfl, fun taken => ?_, fun passed => ?_⟩
  · have run : coreB c cond disp (s.countSteps c 1) = ((s.countSteps c 1).countSteps c 1, .jump (displaced (s.core c).pc disp)) := by
      unfold coreB
      rw [countSteps_core 1 there, flags, taken]
      rfl
    rw [coreInstr_jump live run, coreGoto_core _ (by simpa using there), displaced_lt]
  · have run : coreB c cond disp (s.countSteps c 1) = (s.countSteps c 1, .next) := by
      unfold coreB
      rw [countSteps_core 1 there, flags, passed]
    rw [coreInstr_next live run, coreNext_core (by simpa using there), countSteps_core 1 there]
    rfl

theorem call_next (c : Nat) (disp : Int) (s : State) (live : s.coreLive c = true) (there : c < s.cores.cores.length)
    (room : (s.core c).links.length < 8) :
    ∃ t, exec (.call c disp) s = .next t ∧
      (t.core c).pc = displaced (s.core c).pc disp ∧
      (t.core c).links = ((s.core c).pc + 1) % 8192 :: (s.core c).links := by
  have run : coreCall c disp (s.countSteps c 2) = ((s.countSteps c 2).modCore c
      (fun y => { y with links := ((s.core c).pc + 1) % 8192 :: y.links }), .jump (displaced (s.core c).pc disp)) := by
    unfold coreCall
    rw [countSteps_core 2 there]
    exact if_neg (not_le.2 room)
  refine ⟨_, rfl, ?_⟩
  rw [coreInstr_jump live run, coreGoto_core _ (by simpa using there), modCore_core _ (by simpa using there), countSteps_core 2 there]
  exact ⟨displaced_lt .., rfl⟩

theorem ret_next (c p : Nat) (rest : List Nat) (s : State) (live : s.coreLive c = true) (there : c < s.cores.cores.length)
    (link : (s.core c).links = p :: rest) :
    ∃ t, exec (.ret c) s = .next t ∧ (t.core c).pc = p % 8192 ∧ (t.core c).links = rest := by
  have kept : ((s.core c).counted 2 s.datum).links = p :: rest := link
  have run : coreRet c (s.countSteps c 2) = ((s.countSteps c 2).modCore c (fun y => { y with links := rest }), .jump p) := by
    unfold coreRet
    rw [countSteps_core 2 there, kept]
  refine ⟨_, rfl, ?_⟩
  rw [coreInstr_jump live run, coreGoto_core _ (by simpa using there), modCore_core _ (by simpa using there)]
  exact ⟨rfl, rfl⟩

/-! ### Loops -/

theorem loopi_next (c d len : Nat) (s : State) (live : s.coreLive c = true) (there : c < s.cores.cores.length)
    (some_ : (s.core c).gr d ≠ 0) (room : (s.core c).loops.length < 2) :
    ∃ t, exec (.loopi c d len) s = .next t ∧
      (t.core c).pc = ((s.core c).pc + 1) % 8192 ∧
      (t.core c).loops = (((s.core c).pc + 1) % 8192, ((s.core c).pc + (len % 64 + 1)) % 8192, ((s.core c).gr d).toNat) :: (s.core c).loops := by
  have run : coreLoop c d len (s.countSteps c 1) = ((s.countSteps c 1).modCore c (fun y => { y with
      loops := (((s.core c).pc + 1) % 8192, ((s.core c).pc + (len % 64 + 1)) % 8192, ((s.core c).gr d).toNat) :: y.loops }),
      .jump ((s.core c).pc + 1)) := by
    unfold coreLoop
    rw [countSteps_core 1 there]
    exact (if_neg (fun zero => some_ (BitVec.eq_of_toNat_eq zero))).trans (if_neg (not_le.2 room))
  refine ⟨_, rfl, ?_⟩
  rw [coreInstr_jump live run, coreGoto_core _ (by simpa using there), modCore_core _ (by simpa using there), countSteps_core 1 there]
  exact ⟨rfl, rfl⟩

theorem loopi_zero_next (c d len : Nat) (s : State) (live : s.coreLive c = true) (there : c < s.cores.cores.length)
    (none_ : (s.core c).gr d = 0) :
    ∃ t, exec (.loopi c d len) s = .next t ∧
      (t.core c).pc = (loopEnd (((s.core c).pc + (len % 64 + 1)) % 8192) (s.core c).loops).1 % 8192 := by
  have run : coreLoop c d len (s.countSteps c 1) = ((s.countSteps c 1).modCore c (fun y => { y with
      loops := (loopEnd (((s.core c).pc + (len % 64 + 1)) % 8192) (s.core c).loops).2 }),
      .jump (loopEnd (((s.core c).pc + (len % 64 + 1)) % 8192) (s.core c).loops).1) := by
    unfold coreLoop
    rw [countSteps_core 1 there]
    exact if_pos (congrArg BitVec.toNat none_)
  refine ⟨_, rfl, ?_⟩
  rw [coreInstr_jump live run, coreGoto_core _ (by simpa using there)]

/-! ### HALT and WAIT (11 R321) -/

theorem halt_next (c : Nat) (s : State) (live : s.coreLive c = true) (there : c < s.cores.cores.length) :
    ∃ t, exec (.halt c) s = .next t ∧ t.rd (K.coreState c) = 3 ∧ (t.core c).pc = (s.core c).pc := by
  refine ⟨_, rfl, ?_⟩
  rw [coreInstr_stall live rfl]
  exact ⟨State.rd_wr_same .., by rw [wr_core, countSteps_core 1 there]; rfl⟩

theorem countSteps_ev (s : State) (c n : Nat) : (s.countSteps c n).ev = s.ev :=
  (State.countSteps_leads s c n (covers_refl _) (Leads.refl _ s)).1.2 .ev rfl

theorem countSteps_coreEvents (n : Nat) (there : c < s.cores.cores.length) : (s.countSteps c n).coreEvents c = s.coreEvents c := by
  simp only [State.coreEvents, State.view, countSteps_ev, countSteps_core n there]
  rfl

theorem wait_stalls_next (c u : Nat) (s : State) (live : s.coreLive c = true) (there : c < s.cores.cores.length)
    (quiet : s.coreEvents c &&& ((s.core c).gr u).toNat % 128 = 0) :
    ∃ t, exec (.wait c u) s = .next t ∧
      (t.core c).waiting = some (((s.core c).gr u).toNat % 128) ∧
      (t.core c).pc = (s.core c).pc := by
  have run : coreWait c u (s.countSteps c 0) = ((s.countSteps c 0).modCore c
      (fun x => { x with waiting := some (((s.core c).gr u).toNat % 128) }), .stall) := by
    unfold coreWait
    rw [countSteps_core 0 there, countSteps_coreEvents 0 there]
    exact if_neg (not_not.2 quiet)
  refine ⟨_, rfl, ?_⟩
  rw [coreInstr_stall live run, modCore_core _ (by simpa using there), countSteps_core 0 there]
  exact ⟨rfl, rfl⟩

theorem wait_goesOn_next (c u : Nat) (s : State) (live : s.coreLive c = true) (there : c < s.cores.cores.length)
    (pending : s.coreEvents c &&& ((s.core c).gr u).toNat % 128 ≠ 0) :
    ∃ t, exec (.wait c u) s = .next t ∧
      (t.core c).pc = (loopEnd (s.core c).pc (s.core c).loops).1 % 8192 ∧
      (t.core c).waiting = none := by
  have run : coreWait c u (s.countSteps c 0) = (s.countSteps c 0, .next) := by
    unfold coreWait
    rw [countSteps_core 0 there, countSteps_coreEvents 0 there]
    exact if_pos pending
  obtain ⟨t, goes, after⟩ := coreSame_next (i := .wait c u) 0 live there run rfl
  exact ⟨t, goes, by rw [after]; exact ⟨rfl, waiting_of_live live⟩⟩

theorem coreWaitWake_next (c m : Nat) (s : State) (there : c < s.cores.cores.length) (waits : (s.core c).waiting = some m)
    (pending : s.coreEvents c &&& m ≠ 0) :
    ∃ t, exec (.coreWaitWake c) s = .next t ∧
      (t.core c).waiting = none ∧
      (t.core c).pc = (loopEnd (s.core c).pc (s.core c).loops).1 % 8192 := by
  let u := (s.modCore c (fun x => { x with waiting := none })).coreNext c
  have woken : u.core c = { s.core c with waiting := none }.onward := by
    simp only [u]
    rw [coreNext_core (by simpa using there), modCore_core _ there]
  have inside : c < u.cores.cores.length := by
    simp only [u]
    rw [State.coreNext, coreGoto_cores]
    simpa using there
  have run : exec (.coreWaitWake c) s = .next
      (if (u.core c).stepping then (u.modCore c (fun x => { x with stepping := false })).wr (K.coreState c) 4 else u) := by
    show execCoreWaitWake c s = _
    unfold execCoreWaitWake
    rw [waits]
    exact congrArg Host.Outcome.next (when_true (decide_eq_true pending))
  refine ⟨_, run, ?_⟩
  split
  · rw [wr_core, modCore_core _ inside, woken]
    exact ⟨rfl, rfl⟩
  · rw [woken]
    exact ⟨rfl, rfl⟩

/-! ### Faults (11 R313) -/

/-- A core's first fault as recorded: cause and index at its ports and in the Legend. -/
def State.faulted (s : State) (c cause : Nat) : State :=
  ((s.modCore c (fun y => { y with fault := cause, faultPc := (s.core c).pc, waiting := none, burst := none })).bump (K.faultCount c)).wr
    (K.lastFault c) (cause * 2 ^ 24 + (s.core c).pc : Nat)

theorem coreFault_outside {cause : Nat} (outside : (s.core c).fault = 0) :
    s.coreFault c cause = (((s.faulted c cause).wr (K.coreState c) 2).raise Ev.fwCoreFault noKey).coreGoto c 2 := by
  unfold State.coreFault
  exact if_neg (not_not.2 outside)

theorem coreFault_core {cause : Nat} (there : c < s.cores.cores.length) (outside : (s.core c).fault = 0) :
    (s.coreFault c cause).core c = { s.core c with fault := cause, faultPc := (s.core c).pc, waiting := none, burst := none, pc := 2 } := by
  have length : (((s.faulted c cause).wr (K.coreState c) 2).raise Ev.fwCoreFault noKey).cores.cores.length = s.cores.cores.length := by
    rw [State.raise_cores, State.wr_cores, State.faulted, State.wr_cores, bump_cores, modCore_length]
  rw [coreFault_outside outside, coreGoto_core _ (by rwa [length]), raise_core, wr_core, State.faulted, wr_core, core_congr (bump_cores ..),
    modCore_core _ there]

theorem coreFault_rd {cause : Nat} (outside : (s.core c).fault = 0) : (s.coreFault c cause).rd (K.coreState c) = 2 ∧
    (s.coreFault c cause).rd (K.lastFault c) = (cause * 2 ^ 24 + (s.core c).pc : Nat) := by
  rw [coreFault_outside outside, coreGoto_rd _ (by simp), State.raise_rd, coreGoto_rd _ (by simp), State.raise_rd]
  exact ⟨State.rd_wr_same .., by rw [State.rd_wr_other _ _ (by simp), State.faulted, State.rd_wr_same]⟩

theorem coreFault_second {cause : Nat} (inside : (s.core c).fault ≠ 0) : (s.coreFault c cause).rd (K.coreState c) = 3 := by
  unfold State.coreFault
  dsimp only
  rw [if_pos inside, State.haltCore, State.raise_rd, State.rd_wr_same]

theorem illegalOpcode_next (c : Nat) (s : State) (live : s.coreLive c = true) (there : c < s.cores.cores.length)
    (outside : (s.core c).fault = 0) :
    ∃ t, exec (.illegalOpcode c) s = .next t ∧
      (t.core c).pc = 2 ∧
      (t.core c).fault = 1 ∧
      (t.core c).faultPc = (s.core c).pc ∧
      t.rd (K.coreState c) = 2 ∧
      t.rd (K.lastFault c) = (2 ^ 24 + (s.core c).pc : Nat) := by
  have counted := countSteps_core 1 there
  have first : ((s.countSteps c 1).core c).fault = 0 := by rw [counted]; exact outside
  have after := coreFault_core (cause := 1) (by simpa using there) first
  obtain ⟨halted, last⟩ := coreFault_rd (cause := 1) first
  rw [counted] at after last
  refine ⟨_, rfl, ?_⟩
  rw [coreInstr_fault live rfl, after]
  exact ⟨rfl, rfl, rfl, halted, last.trans (by rw [Nat.one_mul]; rfl)⟩

theorem illegalOpcode_inHandler_next (c : Nat) (s : State) (live : s.coreLive c = true) (there : c < s.cores.cores.length)
    (inside : (s.core c).fault ≠ 0) :
    ∃ t, exec (.illegalOpcode c) s = .next t ∧ t.rd (K.coreState c) = 3 := by
  refine ⟨_, rfl, ?_⟩
  rw [coreInstr_fault live rfl]
  exact coreFault_second (by rw [countSteps_core 1 there]; exact inside)

/-- Settles O31: each clause is what its command's lemma above says. -/
theorem coreControlComplete : Obligations.CoreControlComplete :=
  ⟨branch_next, call_next, ret_next, loopi_next, loopi_zero_next, halt_next, wait_stalls_next, wait_goesOn_next, coreWaitWake_next,
    illegalOpcode_next, illegalOpcode_inHandler_next⟩

end Sys2Proof.Machine
end

section
/-! SUPPORT. The memory, move and burst instructions of a core (11 R311, R312, R314, R315, R318): the core afterwards, and the obligation
about them. -/

namespace Sys2Proof.Machine

variable {s t : State} {c j : Nat}

/-! ### Loads -/

theorem countSteps_ar (n i : Nat) (there : c < s.cores.cores.length) : ((s.countSteps c n).core c).ar i = (s.core c).ar i := by
  rw [countSteps_core n there]
  rfl

/-- LDW as a load. -/
theorem coreLdw_eq (d n m : Nat) (noPost : Bool) (there : c < s.cores.cores.length) : coreLdw c d n m noPost (s.countSteps c 1) =
    (s.countSteps c 1).loadInto c ((s.core c).ar n / 4 * 4) 4 n m noPost (fun v x => x.setG d (BitVec.ofNat 32 v)) := by
  unfold coreLdw
  rw [countSteps_ar 1 n there]
  rfl

/-- LDC as a load. -/
theorem coreLdc_eq {d : Nat} (n m : Nat) (noPost : Bool) (there : c < s.cores.cores.length) (hd : d < 8) :
    coreLdc c d n m noPost (s.countSteps c 1) =
      (s.countSteps c 1).loadInto c ((s.core c).ar n / 8 * 8) 8 n m noPost (fun v x => x.setD d (operandOf v)) := by
  unfold coreLdc
  rw [fieldsOk_pos (by simpa using hd), countSteps_ar 1 n there]
  rfl

theorem ldw_core {d n m v : Nat} {noPost : Bool} (live : s.coreLive c = true) (loads : s.dload c ((s.core c).ar n / 4 * 4) 4 = some v) :
    ∃ t, exec (.ldw c d n m noPost) s = .next t ∧
      t.core c = ((((s.core c).counted 1 s.datum).setG d (BitVec.ofNat 32 v)).posted n m noPost).onward :=
  ⟨_, rfl, loadInto_core live loads (coreLdw_eq d n m noPost (there_of_dline (dline_of_dload (dload_some loads))))⟩

theorem ldc_core {d n m v : Nat} {noPost : Bool} (live : s.coreLive c = true) (hd : d < 8)
    (loads : s.dload c ((s.core c).ar n / 8 * 8) 8 = some v) :
    ∃ t, exec (.ldc c d n m noPost) s = .next t ∧
      t.core c = ((((s.core c).counted 1 s.datum).setD d (operandOf v)).posted n m noPost).onward :=
  ⟨_, rfl, loadInto_core live loads (coreLdc_eq n m noPost (there_of_dline (dline_of_dload (dload_some loads))) hd)⟩

theorem ldw_next (c d n m : Nat) (noPost : Bool) (v : Nat) (s : State) (live : s.coreLive c = true) (_there : c < s.cores.cores.length)
    (loads : s.dload c ((s.core c).ar n / 4 * 4) 4 = some v) :
    ∃ t, exec (.ldw c d n m noPost) s = .next t ∧
      (t.core c).g = (s.core c).g.set (d % 16) (BitVec.ofNat 32 v) ∧
      (t.core c).a = (if noPost then (s.core c).a else ((s.core c).postModify n m).a) ∧
      (t.core c).pc = (loopEnd (s.core c).pc (s.core c).loops).1 % 8192 := by
  obtain ⟨t, run, after⟩ := ldw_core (d := d) (m := m) (noPost := noPost) live loads
  refine ⟨t, run, ?_⟩
  rw [after]
  cases noPost <;> exact ⟨rfl, rfl, rfl⟩

theorem ldc_next (c d n m : Nat) (noPost : Bool) (v : Nat) (s : State) (live : s.coreLive c = true) (_there : c < s.cores.cores.length)
    (hd : d < 8) (loads : s.dload c ((s.core c).ar n / 8 * 8) 8 = some v) :
    ∃ t, exec (.ldc c d n m noPost) s = .next t ∧
      (t.core c).d = (s.core c).d.set d (operandOf v) ∧
      (t.core c).a = (if noPost then (s.core c).a else ((s.core c).postModify n m).a) ∧
      (t.core c).pc = (loopEnd (s.core c).pc (s.core c).loops).1 % 8192 := by
  obtain ⟨t, run, after⟩ := ldc_core (m := m) (noPost := noPost) live hd loads
  refine ⟨t, run, ?_⟩
  rw [after]
  cases noPost <;> exact ⟨rfl, rfl, rfl⟩

/-! ### Stores -/

/-- The eight bytes that STC stores: a D register, its parts widened. -/
def Core.widened (x : Core) (d : Nat) : Nat := (widen (x.dr d).1).toNat * 2 ^ 32 + (widen (x.dr d).2).toNat

theorem coreStw_eq (d n m : Nat) (noPost : Bool) (there : c < s.cores.cores.length) : coreStw c d n m noPost (s.countSteps c 2) =
    storeThen c ((s.core c).ar n / 4 * 4) 4 ((s.core c).gr d).toNat n m noPost (s.countSteps c 2) := by
  unfold coreStw
  rw [countSteps_core 2 there]
  rfl

theorem coreStc_eq {d : Nat} (n m : Nat) (noPost : Bool) (there : c < s.cores.cores.length) (hd : d < 8) :
    coreStc c d n m noPost (s.countSteps c 2) =
      storeThen c ((s.core c).ar n / 8 * 8) 8 ((s.core c).widened d) n m noPost (s.countSteps c 2) := by
  unfold coreStc
  rw [fieldsOk_pos (by simpa using hd), countSteps_core 2 there]
  rfl

theorem widened_lt (x : Core) (d : Nat) : x.widened d % 256 ^ 8 = x.widened d := by
  apply Nat.mod_eq_of_lt
  have re := (widen (x.dr d).1).isLt
  have im := (widen (x.dr d).2).isLt
  unfold Core.widened
  norm_num at re im ⊢
  omega

theorem stored_flow {x : Core} {addr k v old n m w datum : Nat} (noPost : Bool) :
    (((x.counted w datum).patched addr k v old).posted n m noPost).onward.a = (if noPost then x.a else (x.postModify n m).a) ∧
    (((x.counted w datum).patched addr k v old).posted n m noPost).onward.pc = (loopEnd x.pc x.loops).1 % 8192 := by
  cases noPost <;> exact ⟨rfl, rfl⟩

theorem stw_next (c d n m : Nat) (noPost : Bool) (s : State) (live : s.coreLive c = true) (there : c < s.cores.cores.length)
    (stored : (s.dline c (((s.core c).ar n / 4 * 4) / 32)).isSome = true) :
    ∃ t, exec (.stw c d n m noPost) s = .next t ∧
      t.dload c ((s.core c).ar n / 4 * 4) 4 = some ((s.core c).gr d).toNat ∧
      (t.core c).a = (if noPost then (s.core c).a else ((s.core c).postModify n m).a) ∧
      (t.core c).pc = (loopEnd (s.core c).pc (s.core c).loops).1 % 8192 := by
  obtain ⟨old, stored⟩ := Option.isSome_iff_exists.1 stored
  refine ⟨_, rfl, ?_, ?_⟩
  · rw [storeThen_dload live stored (coreStw_eq d n m noPost there), Nat.mod_eq_of_lt (((s.core c).gr d).isLt.trans_eq (by norm_num))]
  · rw [storeThen_core live stored (coreStw_eq d n m noPost there)]
    exact stored_flow noPost

theorem stc_next (c d n m : Nat) (noPost : Bool) (s : State) (live : s.coreLive c = true) (there : c < s.cores.cores.length)
    (hd : d < 8) (stored : (s.dline c (((s.core c).ar n / 8 * 8) / 32)).isSome = true) :
    ∃ t, exec (.stc c d n m noPost) s = .next t ∧
      t.dload c ((s.core c).ar n / 8 * 8) 8 = some ((widen ((s.core c).dr d).1).toNat * 2 ^ 32 + (widen ((s.core c).dr d).2).toNat) ∧
      (t.core c).a = (if noPost then (s.core c).a else ((s.core c).postModify n m).a) ∧
      (t.core c).pc = (loopEnd (s.core c).pc (s.core c).loops).1 % 8192 := by
  obtain ⟨old, stored⟩ := Option.isSome_iff_exists.1 stored
  refine ⟨_, rfl, ?_, ?_⟩
  · rw [storeThen_dload live stored (coreStc_eq n m noPost there hd), widened_lt]
    rfl
  · rw [storeThen_core live stored (coreStc_eq n m noPost there hd)]
    exact stored_flow noPost

/-! ### ZL -/

@[simp] theorem zeroLines_length (s : State) (c line n : Nat) : (s.zeroLines c line n).cores.cores.length = s.cores.cores.length := by
  induction n generalizing s line with
  | zero => rfl
  | succ n ih => exact (ih _ _).trans (putLine_length ..)

/-- Lines of zero change a core's data memory and nothing else of it. -/
theorem zeroLines_core (line n : Nat) (there : c < s.cores.cores.length) :
    (s.zeroLines c line n).core c = { s.core c with dmem := ((s.zeroLines c line n).core c).dmem } := by
  induction n generalizing s line with
  | zero => rfl
  | succ n ih =>
    have first := ih (s := s.putLine c line 0) (line + 1) (by simpa using there)
    rw [putLine_core line 0 there] at first
    exact first

theorem zeroLines_core_other (line n : Nat) (other : j ≠ c) : (s.zeroLines c line n).core j = s.core j := by
  induction n generalizing s line with
  | zero => rfl
  | succ n ih => exact (ih _).trans (putLine_core_other line 0 other)

theorem zeroLines_dline_other (line n : Nat) {other : Nat} (apart : ∀ i, i < n → other ≠ (line + i) % 2048) :
    (s.zeroLines c line n).dline c other = s.dline c other := by
  induction n generalizing s line with
  | zero => rfl
  | succ n ih =>
    have rest := ih (s := s.putLine c line 0) (line + 1) (fun i hi => by
      rw [Nat.add_assoc, Nat.add_comm 1 i]
      exact apart (i + 1) (by omega))
    exact rest.trans (putLine_dline_other 0 (apart 0 (by omega)))

theorem zeroLines_dline (line n : Nat) (there : c < s.cores.cores.length) (few : n ≤ 2048) {i : Nat} (hi : i < n) :
    (s.zeroLines c line n).dline c ((line + i) % 2048) = some 0 := by
  induction n generalizing s line i with
  | zero => omega
  | succ n ih =>
    cases i with
    | zero =>
      have rest := zeroLines_dline_other (s := s.putLine c line 0) (c := c) (line + 1) n (other := line % 2048) (fun i hi => by omega)
      exact rest.trans (putLine_dline line 0 there)
    | succ i =>
      rw [← Nat.add_assoc, Nat.add_right_comm]
      exact ih (s := s.putLine c line 0) (line + 1) (by simpa using there) (by omega) (by omega)

/-- ZL's state: the lines zeroed, the address register advanced, and the core gone on. -/
theorem zl_state (n count : Nat) (live : s.coreLive c = true) (there : c < s.cores.cores.length) :
    s.coreInstr c (count % 64 + 1) (coreZl c n count) =
      (((s.countSteps c (count % 64 + 1)).zeroLines c ((s.core c).ar n / 32) (count % 64 + 1)).modCore c
        (fun x => x.setA n ((s.core c).ar n + 32 * (count % 64 + 1)))).coreNext c := by
  refine coreInstr_next live ?_
  unfold coreZl
  rw [countSteps_ar _ n there]

theorem zl_core (n count : Nat) (live : s.coreLive c = true) (there : c < s.cores.cores.length) : ∃ dmem,
    (s.coreInstr c (count % 64 + 1) (coreZl c n count)).core c = ((({ (s.core c).counted (count % 64 + 1) s.datum with dmem := dmem } : Core)).setA n
      ((s.core c).ar n + 32 * (count % 64 + 1))).onward := by
  refine ⟨(((s.countSteps c (count % 64 + 1)).zeroLines c ((s.core c).ar n / 32) (count % 64 + 1)).core c).dmem, ?_⟩
  rw [zl_state n count live there, coreNext_core (by simpa using there), modCore_core _ (by simpa using there),
    zeroLines_core _ _ (by simpa using there), countSteps_core _ there]

theorem zl_dline (n count line : Nat) (live : s.coreLive c = true) (there : c < s.cores.cores.length) :
    (s.coreInstr c (count % 64 + 1) (coreZl c n count)).dline c line =
      ((s.countSteps c (count % 64 + 1)).zeroLines c ((s.core c).ar n / 32) (count % 64 + 1)).dline c line := by
  rw [zl_state n count live there, coreNext_dline]
  exact modCore_dline _ line (fun _ => rfl)

theorem zl_next (c n count : Nat) (s : State) (live : s.coreLive c = true) (there : c < s.cores.cores.length) :
    ∃ t, exec (.zl c n count) s = .next t ∧
      (∀ i : Nat, i < count % 64 + 1 → t.dline c (((s.core c).ar n / 32 + i) % 2048) = some 0) ∧
      (t.core c).a = (s.core c).a.set (n % 4) (BitVec.ofNat 16 ((s.core c).ar n + 32 * (count % 64 + 1))) ∧
      (t.core c).pc = (loopEnd (s.core c).pc (s.core c).loops).1 % 8192 := by
  obtain ⟨dmem, after⟩ := zl_core n count live there
  refine ⟨_, rfl, fun i hi => ?_, ?_⟩
  · rw [zl_dline n count _ live there]
    exact zeroLines_dline _ _ (by simpa using there) (by omega) hi
  · rw [after]
    exact ⟨rfl, rfl⟩

/-! ### Moves -/

theorem mgd_next (c d u v : Nat) (s : State) (live : s.coreLive c = true) (there : c < s.cores.cores.length) (hd : d < 8) :
    ∃ t, exec (.mgd c d u v) s = .next t ∧
      (t.core c).d = (s.core c).d.set d (topHalf ((s.core c).gr u), topHalf ((s.core c).gr v)) ∧
      (t.core c).pc = (loopEnd (s.core c).pc (s.core c).loops).1 % 8192 := by
  obtain ⟨t, run, after⟩ := coreField_next (i := .mgd c d u v) live there (fun s => fieldsOk_pos (by simp [hd]) s _) rfl
  exact ⟨t, run, by rw [after]; exact ⟨rfl, rfl⟩⟩

theorem mdg_next (c d u : Nat) (im : Bool) (s : State) (live : s.coreLive c = true) (there : c < s.cores.cores.length) (hu : u < 8) :
    ∃ t, exec (.mdg c d u im) s = .next t ∧
      (t.core c).g = (s.core c).g.set (d % 16) (widen (if im then ((s.core c).dr u).2 else ((s.core c).dr u).1)) ∧
      (t.core c).pc = (loopEnd (s.core c).pc (s.core c).loops).1 % 8192 := by
  obtain ⟨t, run, after⟩ := coreField_next (i := .mdg c d u im) live there (fun s => fieldsOk_pos (by simp [hu]) s _) rfl
  exact ⟨t, run, by rw [after]; exact ⟨rfl, rfl⟩⟩

theorem mvxSet_of_g (x : Core) {d : Nat} (v : BitVec 32) (g : d < 16) : x.mvxSet d v = x.setG d v := if_pos g

theorem mvxSet_of_a (x : Core) {d : Nat} (v : BitVec 32) (low : 16 ≤ d) (high : d < 20) : x.mvxSet d v = x.setA d v.toNat := by
  simp [Core.mvxSet, not_lt.2 low, high]

theorem mvxSet_of_o (x : Core) {d : Nat} (v : BitVec 32) (low : 20 ≤ d) (high : d < 24) :
    x.mvxSet d v = { x with o := x.o.set (d % 4) (v.setWidth 16) } := by
  simp [Core.mvxSet, not_lt.2 low, not_lt.2 ((show 16 ≤ 20 by decide).trans low), high]

theorem mvxSet_of_l (x : Core) {d : Nat} (v : BitVec 32) (low : 24 ≤ d) :
    x.mvxSet d v = { x with l := x.l.set (d % 4) (BitVec.ofNat 16 (circularLen v.toInt)) } := by
  simp [Core.mvxSet, not_lt.2 low, not_lt.2 ((show 16 ≤ 24 by decide).trans low), not_lt.2 ((show 20 ≤ 24 by decide).trans low)]

theorem mvxSet_flow (x : Core) (d : Nat) (v : BitVec 32) : (x.mvxSet d v).pc = x.pc ∧ (x.mvxSet d v).loops = x.loops := by
  unfold Core.mvxSet
  split_ifs <;> exact ⟨rfl, rfl⟩

theorem mvx_core (d u : Nat) (live : s.coreLive c = true) (there : c < s.cores.cores.length) (hd : d < 28) (hu : u < 28)
    (one : d < 16 ∨ u < 16) :
    ∃ t, exec (.mvx c d u) s = .next t ∧
      t.core c = (((s.core c).counted 1 s.datum).mvxSet d ((s.core c).mvxGet u)).onward :=
  coreField_next (i := .mvx c d u) (f := fun x => x.mvxSet d (x.mvxGet u)) live there
    (fun s => fieldsOk_pos (by simp [hd, hu, one]) s _) rfl

theorem mvx_next (c d u : Nat) (s : State) (live : s.coreLive c = true) (there : c < s.cores.cores.length) (hd : d < 28) (hu : u < 28)
    (one : d < 16 ∨ u < 16) :
    ∃ t, exec (.mvx c d u) s = .next t ∧
      (d < 16 → (t.core c).g = (s.core c).g.set (d % 16) ((s.core c).mvxGet u)) ∧
      (16 ≤ d → d < 20 → (t.core c).a = (s.core c).a.set (d % 4) (((s.core c).mvxGet u).setWidth 16)) ∧
      (20 ≤ d → d < 24 → (t.core c).o = (s.core c).o.set (d % 4) (((s.core c).mvxGet u).setWidth 16)) ∧
      (24 ≤ d → (t.core c).l = (s.core c).l.set (d % 4) (BitVec.ofNat 16 (circularLen ((s.core c).mvxGet u).toInt))) ∧
      (t.core c).pc = (loopEnd (s.core c).pc (s.core c).loops).1 % 8192 := by
  obtain ⟨t, run, after⟩ := mvx_core d u live there hd hu one
  refine ⟨t, run, ?_⟩
  rw [after]
  refine ⟨fun g => ?_, fun low high => ?_, fun low high => ?_, fun low => ?_, ?_⟩
  · rw [mvxSet_of_g _ _ g]
    rfl
  · rw [mvxSet_of_a _ _ low high, ← BitVec.ofNat_toNat]
    rfl
  · rw [mvxSet_of_o _ _ low high]
    rfl
  · rw [mvxSet_of_l _ _ low]
    rfl
  · obtain ⟨pc, loops⟩ := mvxSet_flow ((s.core c).counted 1 s.datum) d ((s.core c).mvxGet u)
    rw [Core.onward, pc, loops]
    rfl

/-! ### Coefficient bursts (11 R318) -/

theorem cbx_next (c d n num : Nat) (wr : Bool) (s : State) (live : s.coreLive c = true) (there : c < s.cores.cores.length)
    (allowed : wr = true → ∀ i : Nat, i < num % 16 + 1 →
      s.coefAllowed c ((s.core c).gr d).toNat (((s.core c).gr d).toNat % 2 ^ 20 + i) = true) :
    ∃ t, exec (.cbx c d n num wr) s = .next t ∧
      (t.core c).burst = some ⟨(s.core c).ar n / 32 * 32, ((s.core c).gr d).toNat, num % 16 + 1, wr⟩ ∧
      (t.core c).pc = (s.core c).pc := by
  have fuse : (s.countSteps c 0).fuse = s.fuse := (State.countSteps_leads s c 0 (covers_refl _) (Leads.refl _ s)).1.2 .fuse rfl
  have same : ∀ line, (s.countSteps c 0).coefAllowed c ((s.core c).gr d).toNat line = s.coefAllowed c ((s.core c).gr d).toNat line := by
    intro line
    unfold State.coefAllowed State.present
    rw [fuse]
  have run : coreCbx c d n num wr (s.countSteps c 0) = (((s.countSteps c 0).modCore c (fun y => { y with
      burst := some ⟨(s.core c).ar n / 32 * 32, ((s.core c).gr d).toNat, num % 16 + 1, wr⟩ })).arbitrate
        (burstCarrier c ((s.core c).gr d).toNat), .stall) := by
    have passes : (wr && !(List.range (num % 16 + 1)).all (fun i =>
        (s.countSteps c 0).coefAllowed c ((s.core c).gr d).toNat (((s.core c).gr d).toNat % 2 ^ 20 + i))) = false := by
      cases wr with
      | false => rfl
      | true =>
        simp only [same, Bool.true_and, Bool.not_eq_false', List.all_eq_true, List.mem_range]
        exact allowed rfl
    unfold coreCbx
    rw [countSteps_core 0 there]
    exact if_neg (by rw [Bool.not_eq_true]; exact passes)
  refine ⟨_, rfl, ?_⟩
  rw [coreInstr_stall live run, arbitrate_core, modCore_core _ (by simpa using there), countSteps_core 0 there]
  exact ⟨rfl, rfl⟩

theorem coefWrite_cores (s : State) (car : Carrier) (line v : Nat) : (s.coefWrite car line v).cores = s.cores :=
  (State.coefWrite_leads s car line v (covers_refl _) (Leads.refl _ s)).1.2 .cores (by cases car <;> rfl)

/-- What one line of a burst changes of a core: its data memory. -/
theorem burstLines_core (addr line gt : Nat) (wr : Bool) (n : Nat) (there : c < s.cores.cores.length) :
    (∃ dmem, (s.burstLines c addr line gt wr n).1.core c = { s.core c with dmem := dmem }) ∧
    (s.burstLines c addr line gt wr n).1.cores.cores.length = s.cores.cores.length := by
  induction n generalizing s addr line with
  | zero => exact ⟨⟨(s.core c).dmem, rfl⟩, rfl⟩
  | succ n ih =>
    have go : ∀ u : State, u.cores.cores.length = s.cores.cores.length → (∃ dmem, u.core c = { s.core c with dmem := dmem }) →
        (∃ dmem, (u.burstLines c (addr + 1) (line + 1) gt wr n).1.core c = { s.core c with dmem := dmem }) ∧
        (u.burstLines c (addr + 1) (line + 1) gt wr n).1.cores.cores.length = s.cores.cores.length := by
      rintro u length ⟨dmem, core⟩
      obtain ⟨⟨dmem', core'⟩, length'⟩ := ih (s := u) (addr + 1) (line + 1) (by rwa [length])
      exact ⟨⟨dmem', core'.trans (by rw [core])⟩, length'.trans length⟩
    have put : ∀ v, ∃ dmem, (s.putLine c addr v).core c = { s.core c with dmem := dmem } := fun v => ⟨_, putLine_core addr v there⟩
    unfold State.burstLines
    dsimp only
    split
    · split
      · exact ⟨⟨(s.core c).dmem, rfl⟩, rfl⟩
      · exact go _ (by rw [coefWrite_cores]) ⟨(s.core c).dmem, core_congr (coefWrite_cores ..)⟩
    · refine go _ ?_ ?_
      · split
        · split
          · exact putLine_length ..
          · exact putLine_length ..
        · exact putLine_length ..
      · split
        · split
          · exact put _
          · exact put _
        · exact put _

theorem cbxComplete_next (c : Nat) (s : State) (there : c < s.cores.cores.length) (granted : s.hasGrant c = true)
    (whole : (s.doBurst c).2 = none) :
    ∃ t, exec (.cbxComplete c) s = .next t ∧
      (t.core c).burst = none ∧
      (t.core c).pc = (loopEnd (s.core c).pc (s.core c).loops).1 % 8192 := by
  obtain ⟨b, burst⟩ : ∃ b, (s.core c).burst = some b := by
    cases asks : (s.core c).burst with
    | none => simp [State.hasGrant, asks] at granted
    | some b => exact ⟨b, rfl⟩
  have run : exec (.cbxComplete c) s = .next ((s.doBurst c).1.coreNext c) := by
    show execCbxComplete c s = _
    unfold execCbxComplete
    rw [when_true granted, show s.doBurst c = ((s.doBurst c).1, none) from Prod.ext rfl whole]
  obtain ⟨⟨dmem, core⟩, length⟩ := burstLines_core (s := s.modCore c (fun x => { x with burst := none })) (c := c)
    (b.addr / 32) (b.line % 2 ^ 20) b.line b.write b.n (by simpa using there)
  have after : (s.doBurst c).1.core c = { s.core c with burst := none, dmem := dmem } := by
    unfold State.doBurst
    rw [burst]
    exact (arbitrate_core ..).trans (core.trans (by rw [modCore_core _ there]))
  have inside : c < (s.doBurst c).1.cores.cores.length := by
    unfold State.doBurst
    rw [burst]
    have kept : ∀ (u : State) (car : Carrier), (u.arbitrate car).cores.cores = u.cores.cores := by
      intro u car
      unfold State.arbitrate State.setBus
      dsimp only
      repeat' split
      all_goals rfl
    rw [kept, length, modCore_length]
    exact there
  refine ⟨_, run, ?_⟩
  rw [coreNext_core inside, after]
  exact ⟨rfl, rfl⟩

/-- Settles O32: each clause is what its instruction's lemma above says. -/
theorem coreMemoryComplete : Obligations.CoreMemoryComplete :=
  ⟨ldw_next, ldc_next, stw_next, stc_next, zl_next, mgd_next, mdg_next, mvx_next, cbx_next, cbxComplete_next⟩

end Sys2Proof.Machine
end

section
/-! SUPPORT. Addresses of memory instructions (11 R311), and what those instructions leave of the cores (11 R312, R315; 16 R413). -/

namespace Sys2Proof.Machine

/-! ### Post-modify -/

theorem nth_set_other {α : Type} (l : List α) {i j : Nat} (v d : α) (other : j ≠ i) : nth (l.set i v) j d = nth l j d := by
  simp [nth, List.getD_eq_getElem?_getD, List.getElem?_set_ne other.symm]

theorem postModify_linear (x : Core) (n m : Nat) (hn : n < 4) (hm : m < 4) (four : x.a.length = 4) (linear : nth x.l n 0 = 0) :
    (nth (x.postModify n m).a n 0).toNat = (x.ar n + (nth x.o m (0 : BitVec 16)).toNat) % 65536 := by
  simp only [Core.postModify, Core.ar, Nat.mod_eq_of_lt hn, Nat.mod_eq_of_lt hm, linear, if_pos]
  rw [nth_set_same (by rw [four]; exact hn)]
  exact BitVec.toNat_add _ _

/-- Inside its aligned block of 2^k bytes an address keeps its upper bits and takes the lower k of the sum. -/
theorem block_toNat (a o : BitVec 16) {k : Nat} (small : k ≤ 15) :
    ((a &&& ~~~(BitVec.ofNat 16 (2 ^ k) - 1)) ||| ((a + o) &&& (BitVec.ofNat 16 (2 ^ k) - 1))).toNat =
      a.toNat / 2 ^ k * 2 ^ k + (a.toNat + o.toNat) % 2 ^ k := by
  have mask : BitVec.ofNat 16 (2 ^ k) - 1 = BitVec.ofNat 16 (2 ^ k - 1) := by
    apply BitVec.eq_of_toNat_eq
    have le : (2 : Nat) ^ k ≤ 2 ^ 15 := Nat.pow_le_pow_right (by decide) small
    have pos : 0 < (2 : Nat) ^ k := Nat.two_pow_pos k
    have one : (1 : BitVec 16).toNat = 1 := rfl
    rw [BitVec.toNat_sub, BitVec.toNat_ofNat, BitVec.toNat_ofNat, one]
    omega
  have bit : ∀ i, (BitVec.ofNat 16 (2 ^ k - 1)).getLsbD i = decide (i < k) := by
    intro i
    rw [BitVec.getLsbD_ofNat, Nat.testBit_two_pow_sub_one, ← Bool.decide_and]
    exact decide_eq_decide.2 ⟨fun h => h.2, fun h => ⟨by omega, h⟩⟩
  rw [mask]
  apply Nat.eq_of_testBit_eq
  intro i
  rw [Nat.mul_comm, Nat.testBit_two_pow_mul_add _ (Nat.mod_lt _ (Nat.two_pow_pos k)), BitVec.testBit_toNat, BitVec.getLsbD_or,
    BitVec.getLsbD_and, BitVec.getLsbD_and, BitVec.getLsbD_not, bit]
  by_cases low : i < k
  · have sum : (a + o).getLsbD i = (a.toNat + o.toNat).testBit i := by
      rw [← BitVec.testBit_toNat, BitVec.toNat_add, Nat.testBit_mod_two_pow, decide_eq_true (by omega : i < 16), Bool.true_and]
    simp [low, sum, Nat.testBit_mod_two_pow]
  · have above : a.getLsbD i = true → i < 16 := fun h => by
      by_contra wide
      rw [BitVec.getLsbD_of_ge a i (not_lt.1 wide)] at h
      cases h
    rw [if_neg low, Nat.testBit_div_two_pow, Nat.sub_add_cancel (not_lt.1 low), BitVec.testBit_toNat]
    cases h : a.getLsbD i
    · simp [low]
    · simp [low, above h]

theorem postModify_circular (x : Core) (n m k : Nat) (hn : n < 4) (hm : m < 4) (four : x.a.length = 4) (_eight : 3 ≤ k) (small : k ≤ 15)
    (len : nth x.l n 0 = BitVec.ofNat 16 (2 ^ k)) :
    nth (x.postModify n m).a n 0 =
      (nth x.a n 0 &&& ~~~(nth x.l n 0 - 1)) ||| ((nth x.a n 0 + nth x.o m 0) &&& (nth x.l n 0 - 1)) ∧
    (nth (x.postModify n m).a n 0).toNat =
      x.ar n / 2 ^ k * 2 ^ k + (x.ar n + (nth x.o m (0 : BitVec 16)).toNat) % 2 ^ k := by
  have some_ : nth x.l n 0 ≠ 0 := by
    rw [len]
    intro zero
    have value := congrArg BitVec.toNat zero
    have le : (2 : Nat) ^ k ≤ 2 ^ 15 := Nat.pow_le_pow_right (by decide) small
    have pos : 0 < (2 : Nat) ^ k := Nat.two_pow_pos k
    have none_ : (0 : BitVec 16).toNat = 0 := rfl
    rw [BitVec.toNat_ofNat, none_] at value
    omega
  have block : nth (x.postModify n m).a n 0 =
      (nth x.a n 0 &&& ~~~(nth x.l n 0 - 1)) ||| ((nth x.a n 0 + nth x.o m 0) &&& (nth x.l n 0 - 1)) := by
    simp only [Core.postModify, Nat.mod_eq_of_lt hn, Nat.mod_eq_of_lt hm, if_neg some_]
    rw [nth_set_same (by rw [four]; exact hn)]
  refine ⟨block, ?_⟩
  rw [block, len, block_toNat _ _ small, Core.ar, Nat.mod_eq_of_lt hn]

/-! ### Circular lengths -/

theorem circularLen_below (v : Int) (below : v < 8) : circularLen v = 0 := if_pos below

theorem circularLen_pow (v : Int) (from8 : 8 ≤ v) :
    ∃ k, 3 ≤ k ∧ k ≤ 15 ∧ circularLen v = 2 ^ k ∧ (2 ^ k : Int) ≤ v ∧ (v < 2 ^ (k + 1) ∨ k = 15) := by
  obtain ⟨n, rfl⟩ := Int.eq_ofNat_of_zero_le ((by decide : (0 : Int) ≤ 8).trans from8)
  have from8' : 8 ≤ n := by exact_mod_cast from8
  have some_ : n ≠ 0 := by omega
  have three : 3 ≤ Nat.log2 n := (Nat.le_log2 some_).2 from8'
  have low : 2 ^ Nat.log2 n ≤ n := Nat.log2_self_le some_
  have high : n < 2 ^ (Nat.log2 n + 1) := Nat.lt_log2_self
  have value : circularLen (n : Int) = min (2 ^ Nat.log2 n) (2 ^ 15) := by
    simp [circularLen, not_lt.2 from8']
  by_cases short : Nat.log2 n ≤ 15
  · refine ⟨Nat.log2 n, three, short, ?_, by exact_mod_cast low, .inl (by exact_mod_cast high)⟩
    rw [value, min_eq_left (Nat.pow_le_pow_right (by decide) short)]
  · have long : (2 : Nat) ^ 15 ≤ 2 ^ Nat.log2 n := Nat.pow_le_pow_right (by decide) (by omega)
    refine ⟨15, by decide, le_refl _, ?_, by exact_mod_cast long.trans low, .inr rfl⟩
    rw [value, min_eq_right long]

/-! ### The obligation about addresses -/

theorem mvx_length_next (c n u : Nat) (s : State) (live : s.coreLive c = true) (there : c < s.cores.cores.length) (hn : n < 4) (hu : u < 16) :
    ∃ t, exec (.mvx c (24 + n) u) s = .next t ∧
      (t.core c).l = (s.core c).l.set n (BitVec.ofNat 16 (circularLen ((s.core c).gr u).toInt)) := by
  obtain ⟨t, run, -, -, -, l, -⟩ := mvx_next c (24 + n) u s live there (by omega) (by omega) (.inr hu)
  refine ⟨t, run, (l (by omega)).trans ?_⟩
  rw [show (24 + n) % 4 = n by omega, show (s.core c).mvxGet u = (s.core c).gr u from if_pos hu]

theorem cmacm_a_next (c d : Nat) (s : State) (live : s.coreLive c = true) (hd : d < 4) (_there : c < s.cores.cores.length)
    (first : (s.dload c ((s.core c).ar 0 / 8 * 8) 8).isSome = true) (second : (s.dload c ((s.core c).ar 1 / 8 * 8) 8).isSome = true) :
    ∃ t, exec (.cmacm c d) s = .next t ∧ (t.core c).a = (((s.core c).postModify 0 0).postModify 1 1).a := by
  obtain ⟨p, first⟩ := Option.isSome_iff_exists.1 first
  obtain ⟨q, second⟩ := Option.isSome_iff_exists.1 second
  obtain ⟨t, run, after⟩ := cmacm_core c d s live hd first second
  exact ⟨t, run, by rw [after]; rfl⟩

theorem postModify_example (x : Core) (a : x.a = [0x0478, 0, 0, 0]) (o : x.o = [16, 0, 0, 0]) (l : x.l = [64, 0, 0, 0]) :
    (x.postModify 0 0).a = [0x0448, 0, 0, 0] := by
  simp only [Core.postModify, a, o, l]
  decide

/-- Settles O56: the addresses by bits of the block, the rest from what each instruction does. -/
theorem circularAddressing : Obligations.CircularAddressing := by
  refine ⟨postModify_linear, postModify_circular, mvx_length_next, circularLen_below, circularLen_pow, ?_, ?_, ?_, ?_, ?_, cmacm_a_next,
    postModify_example⟩
  · intro c d n m v noPost s live there loads
    obtain ⟨t, run, g, a, -⟩ := ldw_next c d n m noPost v s live there loads
    exact ⟨t, run, g, a⟩
  · intro c d n m v noPost s live there hd loads
    obtain ⟨t, run, dr, a, -⟩ := ldc_next c d n m noPost v s live there hd loads
    exact ⟨t, run, dr, a⟩
  · intro c d n m noPost s live there stored
    obtain ⟨t, run, loads, a, -⟩ := stw_next c d n m noPost s live there stored
    exact ⟨t, run, loads, a⟩
  · intro c d n m noPost s live there hd stored
    obtain ⟨t, run, loads, a, -⟩ := stc_next c d n m noPost s live there hd stored
    exact ⟨t, run, loads, a⟩
  · intro c n count i s live there hi
    obtain ⟨t, run, zero, -⟩ := zl_next c n count s live there
    exact ⟨t, run, zero i hi⟩

/-! ### Frames of the memory instructions -/

variable {s t : State} {c j : Nat}

theorem postModify_a_other (x : Core) (n m : Nat) {j : Nat} (other : j ≠ n % 4) : nth (x.postModify n m).a j 0 = nth x.a j 0 :=
  nth_set_other _ _ _ other

theorem posted_a_other (x : Core) {n m j : Nat} {noPost : Bool} (other : j ≠ n % 4 ∨ noPost = true) :
    nth (x.posted n m noPost).a j 0 = nth x.a j 0 := by
  cases noPost with
  | true => rfl
  | false => exact postModify_a_other x n m (other.resolve_right (by decide))

theorem ldw_frame (c d n m : Nat) (noPost : Bool) (s t : State) (loads : (s.dload c ((s.core c).ar n / 4 * 4) 4).isSome = true)
    (run : exec (.ldw c d n m noPost) s = .next t) :
    s.otherCores t c ∧ (∀ j, j ≠ d % 16 → nth (t.core c).g j 0 = nth (s.core c).g j 0) ∧
    (∀ j, j ≠ n % 4 ∨ noPost = true → nth (t.core c).a j 0 = nth (s.core c).a j 0) ∧
    t.core c = { (s.core c).withFlow (t.core c) with g := (t.core c).g, a := (t.core c).a } := by
  obtain ⟨v, loads⟩ := Option.isSome_iff_exists.1 loads
  have there := there_of_dline (dline_of_dload (dload_some loads))
  have means : s.coreInstr c 1 (coreLdw c d n m noPost) = t := Host.Outcome.next.inj run
  cases live : s.coreLive c with
  | false =>
    obtain rfl : s = t := (coreInstr_idle 1 _ live).symm.trans means
    exact ⟨fun _ _ => rfl, fun _ _ => rfl, fun _ _ => rfl, rfl⟩
  | true =>
    have after := (congrArg (State.core · c) means.symm).trans (loadInto_core live loads (coreLdw_eq d n m noPost there))
    have others : s.otherCores t c := fun j other =>
      (congrArg (State.core · j) means.symm).trans (loadInto_core_other live loads (coreLdw_eq d n m noPost there) other)
    rw [after]
    refine ⟨others, fun j other => ?_, fun j other => ?_, ?_⟩
    · cases noPost <;> exact nth_set_other _ _ _ other
    · exact posted_a_other _ other
    · cases noPost <;> rfl

theorem ldc_frame (c d n m : Nat) (noPost : Bool) (s t : State) (hd : d < 8) (loads : (s.dload c ((s.core c).ar n / 8 * 8) 8).isSome = true)
    (run : exec (.ldc c d n m noPost) s = .next t) :
    s.otherCores t c ∧ (∀ j, j ≠ d → (t.core c).dr j = (s.core c).dr j) ∧
    (∀ j, j ≠ n % 4 ∨ noPost = true → nth (t.core c).a j 0 = nth (s.core c).a j 0) ∧
    t.core c = { (s.core c).withFlow (t.core c) with d := (t.core c).d, a := (t.core c).a } := by
  obtain ⟨v, loads⟩ := Option.isSome_iff_exists.1 loads
  have there := there_of_dline (dline_of_dload (dload_some loads))
  have means : s.coreInstr c 1 (coreLdc c d n m noPost) = t := Host.Outcome.next.inj run
  cases live : s.coreLive c with
  | false =>
    obtain rfl : s = t := (coreInstr_idle 1 _ live).symm.trans means
    exact ⟨fun _ _ => rfl, fun _ _ => rfl, fun _ _ => rfl, rfl⟩
  | true =>
    have after := (congrArg (State.core · c) means.symm).trans (loadInto_core live loads (coreLdc_eq n m noPost there hd))
    have others : s.otherCores t c := fun j other =>
      (congrArg (State.core · j) means.symm).trans (loadInto_core_other live loads (coreLdc_eq n m noPost there hd) other)
    rw [after]
    refine ⟨others, fun j other => ?_, fun j other => ?_, ?_⟩
    · cases noPost <;> exact nth_set_other _ _ _ other
    · exact posted_a_other _ other
    · cases noPost <;> rfl

/-- A core whose data memory and address changed and that went on: nothing else of it did. -/
theorem flow_of_dmem (x : Core) (w datum n m : Nat) (noPost : Bool) (dmem : List (Nat × Nat)) :
    (({ x.counted w datum with dmem := dmem } : Core).posted n m noPost).onward =
      { x.withFlow (({ x.counted w datum with dmem := dmem } : Core).posted n m noPost).onward with
        dmem := (({ x.counted w datum with dmem := dmem } : Core).posted n m noPost).onward.dmem
        a := (({ x.counted w datum with dmem := dmem } : Core).posted n m noPost).onward.a } := by
  cases noPost <;> rfl

/-- A store of k bytes at an address of its line leaves every other core, every other byte, and every register but the address. -/
theorem storeThen_frame {addr k v n m w : Nat} {noPost : Bool} {f : State → State × StepEnd} (means : s.coreInstr c w f = t)
    (inside : addr % 32 + k ≤ 32) (stored : (s.dline c (addr / 32)).isSome = true)
    (stores : c < s.cores.cores.length → f (s.countSteps c w) = storeThen c addr k v n m noPost (s.countSteps c w)) :
    s.otherCores t c ∧ (∀ b, b < addr ∨ addr + k ≤ b → t.dload c b 1 = s.dload c b 1) ∧
    t.core c = { (s.core c).withFlow (t.core c) with dmem := (t.core c).dmem, a := (t.core c).a } := by
  have there := there_of_dline stored
  obtain ⟨old, stored⟩ := Option.isSome_iff_exists.1 stored
  subst means
  cases live : s.coreLive c with
  | false =>
    rw [coreInstr_idle w _ live]
    exact ⟨fun _ _ => rfl, fun _ _ => rfl, rfl⟩
  | true =>
    refine ⟨fun j other => storeThen_core_other live stored (stores there) other,
      fun b other => storeThen_dload_other live stored (stores there) inside other, ?_⟩
    rw [storeThen_core live stored (stores there)]
    exact flow_of_dmem ..

theorem stw_frame (c d n m : Nat) (noPost : Bool) (s t : State) (stored : (s.dline c ((s.core c).ar n / 4 * 4 / 32)).isSome = true)
    (run : exec (.stw c d n m noPost) s = .next t) :
    s.otherCores t c ∧
    (∀ b, b < (s.core c).ar n / 4 * 4 ∨ (s.core c).ar n / 4 * 4 + 4 ≤ b → t.dload c b 1 = s.dload c b 1) ∧
    t.core c = { (s.core c).withFlow (t.core c) with dmem := (t.core c).dmem, a := (t.core c).a } :=
  storeThen_frame (Host.Outcome.next.inj run) (by omega) stored (coreStw_eq d n m noPost)

theorem stc_frame (c d n m : Nat) (noPost : Bool) (s t : State) (hd : d < 8)
    (stored : (s.dline c ((s.core c).ar n / 8 * 8 / 32)).isSome = true) (run : exec (.stc c d n m noPost) s = .next t) :
    s.otherCores t c ∧
    (∀ b, b < (s.core c).ar n / 8 * 8 ∨ (s.core c).ar n / 8 * 8 + 8 ≤ b → t.dload c b 1 = s.dload c b 1) ∧
    t.core c = { (s.core c).withFlow (t.core c) with dmem := (t.core c).dmem, a := (t.core c).a } :=
  storeThen_frame (Host.Outcome.next.inj run) (by omega) stored (fun there => coreStc_eq n m noPost there hd)

theorem zl_frame (c n count line : Nat) (s t : State) (run : exec (.zl c n count) s = .next t)
    (apart : ∀ i, i < count % 64 + 1 → line ≠ ((s.core c).ar n / 32 + i) % 2048) :
    s.otherCores t c ∧ t.dline c line = s.dline c line ∧
    t.core c = { (s.core c).withFlow (t.core c) with dmem := (t.core c).dmem, a := (t.core c).a } := by
  obtain rfl : s.coreInstr c (count % 64 + 1) (coreZl c n count) = t := Host.Outcome.next.inj run
  cases live : s.coreLive c with
  | false =>
    rw [coreInstr_idle _ _ live]
    exact ⟨fun _ _ => rfl, rfl, rfl⟩
  | true =>
    have others : s.otherCores (s.coreInstr c (count % 64 + 1) (coreZl c n count)) c := by
      intro j other
      refine (congrArg (State.core · j) (coreInstr_next live rfl)).trans ?_
      exact (coreNext_core_other other).trans ((modCore_core_other _ other).trans
        ((zeroLines_core_other _ _ other).trans (countSteps_core_other _ other)))
    by_cases there : c < s.cores.cores.length
    · refine ⟨others, ?_, ?_⟩
      · rw [zl_dline n count line live there, zeroLines_dline_other _ _ apart, countSteps_dline]
      · obtain ⟨dmem, after⟩ := zl_core n count live there
        rw [after]
        rfl
    · have absent : (s.coreInstr c (count % 64 + 1) (coreZl c n count)).cores.cores.length ≤ c := by
        rw [coreInstr_next live rfl, State.coreNext, coreGoto_cores]
        simpa using there
      refine ⟨others, ?_, ?_⟩
      · rw [dline_of_absent _ absent, dline_of_absent _ (not_lt.1 there)]
      · rw [core_of_absent absent, core_of_absent (not_lt.1 there)]
        rfl

/-- Settles O59: each clause is what its instruction's lemma above says. -/
theorem coreMemoryFrames : Obligations.CoreMemoryFrames := ⟨ldw_frame, ldc_frame, stw_frame, stc_frame, zl_frame⟩

end Sys2Proof.Machine
end

section
/-! SUPPORT. The monitor filter chain (13 R350 to R363): channels, sheets, resets and the output queue, and the obligations about them. -/

namespace Sys2Proof.Machine

variable {s t : State} {y z : Nat}

/-! ### One channel changes -/

@[simp] theorem modMf_length (s : State) (y : Nat) (f : MfChan → MfChan) : (s.modMf y f).hk.mf.length = s.hk.mf.length := by
  simp [State.modMf]

theorem modMf_mfc (f : MfChan → MfChan) (there : y < s.hk.mf.length) : (s.modMf y f).mfc y = f (s.mfc y) := by
  simp only [State.mfc, State.modMf]
  rw [nth_modify, if_pos ⟨rfl, there⟩]

theorem modMf_mfc_other (f : MfChan → MfChan) (other : y ≠ z) : (s.modMf z f).mfc y = s.mfc y := by
  simp only [State.mfc, State.modMf]
  rw [nth_modify, if_neg (fun h => other h.1.symm)]

theorem mfc_congr (same : t.hk.mf = s.hk.mf) : t.mfc y = s.mfc y := by rw [State.mfc, same, State.mfc]

@[simp] theorem modMf_rd (s : State) (y : Nat) (f : MfChan → MfChan) (k : Key) : (s.modMf y f).rd k = s.rd k := rfl

theorem mfc_of_absent (absent : s.hk.mf.length ≤ y) : s.mfc y = MfChan.reset := by
  simp [State.mfc, nth, absent]

/-- A channel that is not as after reset exists. -/
theorem there_of_mfc {p : MfChan → Prop} (holds : p (s.mfc y)) (reset : ¬ p MfChan.reset) : y < s.hk.mf.length := by
  by_contra absent
  exact reset (mfc_of_absent (not_lt.1 absent) ▸ holds)

@[simp] theorem bump_hk (s : State) (k : Key) : (s.bump k).hk = s.hk :=
  (State.bump_leads s k (covers_refl _) (Leads.refl _ s)).1.2 .hk (by simp [Part.within])

@[simp] theorem accepted_mfc (s : State) (src : Nat) : (s.accepted src).mfc y = s.mfc y := by simp only [State.mfc, accepted_hk]

theorem accepted_mfRuns (s : State) (src h : Nat) : (s.accepted src).mfRuns h = s.mfRuns h := by simp [State.mfRuns]

theorem accepted_mfStateNow (s : State) (src : Nat) : (s.accepted src).mfStateNow y = s.mfStateNow y := by
  simp [State.mfStateNow, accepted_mfRuns]

theorem accepted_stageTaps (s : State) (src : Nat) : (s.accepted src).stageTaps y = s.stageTaps y := by simp [State.stageTaps]

/-! ### Sheets -/

theorem putSheet_hk (s : State) (y sheet : Nat) (taps : List Int) : (s.putSheet y sheet taps).hk = s.hk :=
  (State.putSheet_leads s y sheet taps (covers_refl _) (Leads.refl _ s)).1.2 .hk rfl

theorem sheetTap_inj {sheet i j : Nat} (same : sheetTap sheet i = sheetTap sheet j) : i = j := by
  unfold sheetTap at same
  split_ifs at same <;> exact congrArg Key.idx same

/-- The taps written into a sheet are those it holds. -/
theorem putSheet_sheetTaps (s : State) (y sheet : Nat) {taps : List Int} (len : taps.length = 64) :
    (s.putSheet y sheet taps).sheetTaps y sheet = taps := by
  apply List.ext_getElem
  · simp [State.sheetTaps, len]
  · intro i hi _
    have small : i < 64 := by simpa [State.sheetTaps] using hi
    have written := foldl_wr_rd_mem (l := List.range 64) (key := fun t => sheetTap sheet (64 * y + t)) (fun t => nth taps t 0)
      (fun i j same => by have := sheetTap_inj same; omega) (List.mem_range.2 small) s
    simpa [State.sheetTaps, State.putSheet, nth, len, small] using written

theorem stageTaps_length (s : State) (y : Nat) : (s.stageTaps y).length = 64 := by simp [State.stageTaps]

theorem sheetTaps_congr (same : ∀ k, t.rd k = s.rd k) (sheet : Nat) : t.sheetTaps y sheet = s.sheetTaps y sheet := by
  simp [State.sheetTaps, same]

@[simp] theorem modMf_sheetTaps (f : MfChan → MfChan) (sheet : Nat) : (s.modMf z f).sheetTaps y sheet = s.sheetTaps y sheet :=
  sheetTaps_congr (modMf_rd s z f) sheet

theorem mfActivate_mfc (taps : List Int) (there : y < s.hk.mf.length) : (s.mfActivate y taps).mfc y =
    { s.mfc y with active := 1 - (s.mfc y).active, loading := false, loaded := false, fade := none } := by
  unfold State.mfActivate
  rw [modMf_mfc _ (by rwa [putSheet_hk]), mfc_congr (congrArg HkState.mf (putSheet_hk ..))]

theorem mfActivate_sheetTaps {taps : List Int} (len : taps.length = 64) :
    (s.mfActivate y taps).sheetTaps y (1 - (s.mfc y).active) = taps :=
  (modMf_sheetTaps ..).trans (putSheet_sheetTaps s y _ len)

@[simp] theorem mfActivate_length (s : State) (y : Nat) (taps : List Int) : (s.mfActivate y taps).hk.mf.length = s.hk.mf.length := by
  unfold State.mfActivate
  rw [modMf_length, putSheet_hk]

/-- A swap of a channel that does not run: the staged taps are active at once, with no fade (13 R358). -/
theorem mfSwap_idle (there : y < s.hk.mf.length) (idle : s.mfStateNow y ≤ 2) :
    (s.mfSwap y).sheetTaps y (1 - (s.mfc y).active) = s.stageTaps y ∧ ((s.mfSwap y).mfc y).active = 1 - (s.mfc y).active ∧
    ((s.mfSwap y).mfc y).fade = none := by
  have means : s.mfSwap y = (s.mfActivate y (s.stageTaps y)).modMf y (fun c => { c with queuedTaps := none }) := if_pos idle
  rw [means, modMf_mfc _ (by rwa [mfActivate_length]), mfActivate_mfc _ there]
  exact ⟨(modMf_sheetTaps ..).trans (mfActivate_sheetTaps (stageTaps_length s y)), rfl, rfl⟩

theorem mfSheetSwap_idle_next (src y : Nat) (s : State) (ha : s.accepts src (K.sheetSwap y)) (there : y < s.hk.mf.length)
    (idle : s.mfStateNow y ≤ 2) :
    ∃ t, exec (.mfSheetSwap src y) s = .next t ∧
      t.answered src .ok ∧
      t.sheetTaps y (1 - (s.mfc y).active) = s.stageTaps y ∧
      (t.mfc y).active = 1 - (s.mfc y).active ∧
      (t.mfc y).fade = none := by
  refine ⟨_, rfl, ?_⟩
  rw [request_accepted s src ha]
  have swapped := mfSwap_idle (s := s.accepted src) (y := y) (by rwa [accepted_hk]) (by rwa [accepted_mfStateNow])
  rw [accepted_mfc, accepted_stageTaps] at swapped
  exact ⟨ack_answered .., swapped⟩

/-- Settles O54: a swap of a channel that reads OFF, STOPPED or NO_INPUT. -/
theorem swapWithoutFade : Obligations.SwapWithoutFade := by
  intro src y s ha there idle
  obtain ⟨t, run, -, taps, active, fade⟩ := mfSheetSwap_idle_next src y s ha there (by omega)
  exact ⟨t, run, taps, active, fade⟩

theorem mfSheetSwap_stopped_next (src y : Nat) (s : State) (ha : s.accepts src (K.sheetSwap y)) (there : y < s.hk.mf.length)
    (idle : s.mfStateNow y ≤ 2) :
    ∃ t, exec (.mfSheetSwap src y) s = .next t ∧
      t.answered src .ok ∧
      (t.mfc y).active = 1 - (s.mfc y).active ∧
      t.sheetTaps y (t.mfc y).active = s.stageTaps y := by
  obtain ⟨t, run, ok, taps, active, -⟩ := mfSheetSwap_idle_next src y s ha there idle
  exact ⟨t, run, ok, active, by rw [active, taps]⟩

theorem mfSwap_loads (there : y < s.hk.mf.length) (runs : 2 < s.mfStateNow y) (free : (s.mfc y).fade = none)
    (quiet : (s.mfc y).loading = false) :
    ((s.mfSwap y).mfc y).loading = true ∧ (s.mfSwap y).sheetTaps y (1 - (s.mfc y).active) = s.stageTaps y := by
  have means : s.mfSwap y = s.mfLoad y (s.stageTaps y) false := by
    unfold State.mfSwap
    dsimp only
    rw [if_neg (not_le.2 runs), if_neg (by simp [free, quiet])]
  rw [means, State.mfLoad, modMf_mfc _ (by rwa [putSheet_hk])]
  exact ⟨rfl, (modMf_sheetTaps ..).trans (putSheet_sheetTaps s y _ (stageTaps_length s y))⟩

theorem mfSwap_queues (there : y < s.hk.mf.length) (runs : 2 < s.mfStateNow y) (fading : (s.mfc y).fade.isSome = true) :
    ((s.mfSwap y).mfc y).queuedTaps = some (s.stageTaps y) := by
  have queued : ((s.modMf y (fun c => { c with queuedTaps := some (s.stageTaps y) })).mfc y).queuedTaps = some (s.stageTaps y) := by
    rw [modMf_mfc _ there]
  unfold State.mfSwap
  dsimp only
  rw [if_neg (not_le.2 runs), if_pos (by simp [fading])]
  split
  · exact (congrArg MfChan.queuedTaps (mfc_congr (congrArg HkState.mf (bump_hk ..)))).trans queued
  · exact (congrArg MfChan.queuedTaps (mfc_congr (congrArg HkState.mf (bump_hk ..)))).trans queued

theorem mfSheetSwap_running_next (src y : Nat) (s : State) (ha : s.accepts src (K.sheetSwap y)) (there : y < s.hk.mf.length)
    (runs : 2 < s.mfStateNow y) :
    ∃ t, exec (.mfSheetSwap src y) s = .next t ∧
      t.answered src .ok ∧
      ((s.mfc y).fade = none → (s.mfc y).loading = false →
        (t.mfc y).loading = true ∧ t.sheetTaps y (1 - (s.mfc y).active) = s.stageTaps y) ∧
      ((s.mfc y).fade.isSome = true → (t.mfc y).queuedTaps = some (s.stageTaps y)) := by
  refine ⟨_, rfl, ?_⟩
  rw [request_accepted s src ha]
  have inside : y < (s.accepted src).hk.mf.length := by rwa [accepted_hk]
  have running : 2 < (s.accepted src).mfStateNow y := by rwa [accepted_mfStateNow]
  refine ⟨ack_answered .., fun free quiet => ?_, fun fading => ?_⟩
  · have loads := mfSwap_loads inside running (by rwa [accepted_mfc]) (by rwa [accepted_mfc])
    rwa [accepted_mfc, accepted_stageTaps] at loads
  · have queues := mfSwap_queues inside running (by rwa [accepted_mfc])
    rwa [accepted_stageTaps] at queues

theorem mfSwapLoaded_next (y : Nat) (s : State) (channel : y < 32) (loading : (s.mfc y).loading = true) :
    ∃ t, exec (.mfSwapLoaded y) s = .next t ∧ (t.mfc y).loading = false ∧ (t.mfc y).loaded = true := by
  have there := there_of_mfc (p := fun c => c.loading = true) loading (by decide)
  refine ⟨_, rfl, ?_⟩
  rw [when_true (by simp [channel, loading]), modMf_mfc _ there]
  exact ⟨rfl, rfl⟩

/-! ### Synchronising reset (13 R360) -/

@[simp] theorem mfSyncDue_length (s : State) (y : Nat) : (s.mfSyncDue y).hk.mf.length = s.hk.mf.length := modMf_length ..

theorem mfSync_next (src : Nat) (v : Int) (s : State) (ha : s.accepts src K.mfSync) :
    ∃ t, exec (.mfSync src v) s = .next t ∧
      t.answered src .ok ∧
      (∀ y : Nat, y < min 32 s.hk.mf.length → bitOf (clampKey K.mfSync v).toNat y = true → (t.mfc y).syncDue = true) := by
  refine ⟨_, rfl, ?_⟩
  rw [request_accepted s src ha]
  refine ⟨ack_answered .., fun y hy chosen => ?_⟩
  obtain ⟨channel, there⟩ := lt_min_iff.1 hy
  have due : ∀ (u : State) (i : Nat), y < u.hk.mf.length →
      (i ≠ y → ((u.mfSyncDue i).mfc y).syncDue = (u.mfc y).syncDue) ∧ ((u.mfSyncDue y).mfc y).syncDue = true := by
    intro u i inside
    exact ⟨fun other => congrArg MfChan.syncDue (modMf_mfc_other _ other.symm), by rw [State.mfSyncDue, modMf_mfc _ inside]⟩
  refine (foldl_turn (P := fun u : State => y < u.hk.mf.length) (Q := fun u : State => y < u.hk.mf.length ∧ (u.mfc y).syncDue = true)
    (List.mem_range.2 channel) (List.nodup_range) ?_ ?_ ?_ (by rwa [accepted_hk])).2
  · intro u i _ inside
    split
    · rwa [mfSyncDue_length]
    · exact inside
  · intro u inside
    rw [if_pos chosen]
    exact ⟨by rwa [mfSyncDue_length], (due u y inside).2⟩
  · rintro u i other ⟨inside, set⟩
    split
    · exact ⟨by rwa [mfSyncDue_length], ((due u i inside).1 other).trans set⟩
    · exact ⟨inside, set⟩

/-! ### The output queue (13 R363) -/

theorem outQueueRead_next (src y len : Nat) (s : State) (hr : s.reads src (K.outQueue y)) (short : len ≤ 256) (there : y < s.hk.mf.length) :
    ∃ t, exec (.outQueueRead src y len) s = .next t ∧ (t.replyOf src).status = .ok ∧ (t.mfc y).records = [] := by
  obtain ⟨served, powered, ready, gate⟩ := hr
  have gate' : ((s.idleRestart src).countReq src).gate (canonKey (K.outQueue y)) false = none := (accepted_gate s src _ _).trans gate
  have run : s.requestRead src (K.outQueue y) false 0 len = (s.accepted src).readChunk src (K.outQueue y) false 0 len := by
    unfold State.requestRead
    rw [if_neg (by simp [served, powered]), if_neg (by simp [ready])]
    simp only [gate']
    rw [if_neg (not_lt.2 short), if_pos (show isBlob (canonKey (K.outQueue y)) = true from rfl)]
    rfl
  refine ⟨_, rfl, ?_⟩
  rw [run]
  refine ⟨by simp [State.readChunk, State.replyOf, State.reply, aget_aput], ?_⟩
  show (((s.accepted src).modMf y (fun c => { c with records := [] })).mfc y).records = []
  rw [modMf_mfc _ (by rwa [accepted_hk])]

/-! ### What a channel has taken in stays while it computes (13 R352 to R363) -/

/-- What of a channel its inputs determine: how many it took, the latest, the result that waits, and the missing passes. -/
def MfChan.intake (c : MfChan) : Nat × Int × Option (Nat × Nat × Nat) × Nat := (c.inputs, c.lastX, c.fresh, c.missed)

theorem modMf_intake (f : MfChan → MfChan) (keeps : ∀ c, (f c).intake = c.intake) : ((s.modMf z f).mfc y).intake = (s.mfc y).intake := by
  simp only [State.mfc, State.modMf]
  rw [nth_modify]
  split
  · exact keeps _
  · rfl

theorem bump_mfc (s : State) (k : Key) : (s.bump k).mfc y = s.mfc y := mfc_congr (by rw [bump_hk])

theorem ite_intake {p : Prop} {_inst : Decidable p} {a b : State} {v : Nat × Int × Option (Nat × Nat × Nat) × Nat}
    (ha : (a.mfc y).intake = v) (hb : (b.mfc y).intake = v) : ((if p then a else b).mfc y).intake = v := by
  split
  · exact ha
  · exact hb

theorem putSheet_mfc (sheet : Nat) (taps : List Int) : (s.putSheet z sheet taps).mfc y = s.mfc y :=
  mfc_congr (congrArg HkState.mf (putSheet_hk ..))

theorem mfLoad_intake (taps : List Int) (released : Bool) : ((s.mfLoad z taps released).mfc y).intake = (s.mfc y).intake := by
  refine (modMf_intake _ ?_).trans (congrArg MfChan.intake (putSheet_mfc ..))
  exact fun _ => rfl

theorem mfFadeEnd_intake : ((s.mfFadeEnd z).mfc y).intake = (s.mfc y).intake := by
  refine modMf_intake (s := s) _ ?_
  exact fun _ => rfl

theorem mfRecord_intake (word : Nat) : ((s.mfRecord z word).mfc y).intake = (s.mfc y).intake := by
  unfold State.mfRecord
  extract_lets u c d quiet
  have written : (u.mfc y).intake = (s.mfc y).intake := rfl
  clear_value u
  rw [← written]
  refine ite_intake ?_ ?_
  · refine modMf_intake _ ?_
    exact fun _ => rfl
  · have dropped : (d.mfc y).intake = (u.mfc y).intake := by
      refine (congrArg MfChan.intake (bump_mfc ..)).trans (modMf_intake _ ?_)
      exact fun _ => rfl
    clear_value d quiet
    rw [← dropped]
    refine ite_intake rfl ?_
    refine modMf_intake (s := d) _ ?_
    exact fun _ => rfl

end Sys2Proof.Machine
end

section
/-! SUPPORT. An input of a monitor filter channel on its way through the chain (13 R350 to R355, R361): what the channel has then taken in,
and the obligation about the chain. -/

namespace Sys2Proof.Machine

variable {s t : State} {y z : Nat}

theorem modMf_intake_keeps {f : MfChan → MfChan} (keeps : ∀ c, (f c).intake = c.intake) (s : State) (z y : Nat) :
    ((s.modMf z f).mfc y).intake = (s.mfc y).intake := modMf_intake f keeps

theorem mfDeliver_intake (fine : Int) : ((s.mfDeliver z fine).mfc y).intake = (s.mfc y).intake := by
  unfold State.mfDeliver
  extract_lets c settledNow u fast full coarse sub f valid word w
  have settled : (u.mfc y).intake = (s.mfc y).intake := by
    refine ite_intake (modMf_intake_keeps ?_ s z y) rfl
    exact fun _ => rfl
  have recorded : (w.mfc y).intake = (u.mfc y).intake := by
    refine (mfRecord_intake ..).trans (modMf_intake_keeps ?_ u z y)
    exact fun _ => rfl
  clear_value u w c
  rw [← settled, ← recorded]
  split
  · -- the end of a fade releases the swap that is queued (13 R359)
    refine ite_intake rfl (Eq.trans ?_ (mfFadeEnd_intake (s := w) (z := z)))
    split
    · refine (mfLoad_intake ..).trans (modMf_intake_keeps ?_ (w.mfFadeEnd z) z y)
      exact fun _ => rfl
    · rfl
  · rfl

theorem fadeStep_intake (c : MfChan) (due : Bool) (m : Nat) : (c.fadeStep due m).intake = c.intake := by
  unfold MfChan.fadeStep
  split
  · rfl
  · split
    · rfl
    · split <;> rfl

theorem mfFir_intake (u : Int) : ((s.mfFir z u).mfc y).intake = (s.mfc y).intake := by
  unfold State.mfFir
  extract_lets a inc r b o d e
  have delayed : (a.mfc y).intake = (s.mfc y).intake := by
    refine modMf_intake_keeps ?_ s z y
    exact fun _ => rfl
  have stepped : (b.mfc y).intake = (a.mfc y).intake := by
    refine modMf_intake_keeps ?_ a z y
    exact fun c => fadeStep_intake c _ _
  have clipped : (d.mfc y).intake = (b.mfc y).intake := by
    refine ite_intake ?_ rfl
    refine (congrArg MfChan.intake (bump_mfc ..)).trans (modMf_intake_keeps ?_ b z y)
    exact fun _ => rfl
  have kept : (e.mfc y).intake = (d.mfc y).intake := by
    refine modMf_intake_keeps ?_ d z y
    exact fun _ => rfl
  clear_value a r b d e
  rw [← delayed]
  refine ite_intake rfl ?_
  rw [← stepped, ← clipped, ← kept]
  exact ite_intake rfl (ite_intake (mfDeliver_intake _) (mfDeliver_intake _))

theorem cic_intake (c : MfChan) (n r : Nat) (x : Int) : (c.cic n r x).1.intake = c.intake := by
  unfold MfChan.cic
  dsimp only
  split <;> rfl

/-- An input is taken: it counts, and it is the channel's latest; what waits and what misses stay. -/
theorem mfEnter_intake (x : Int) (time : Nat) (there : y < s.hk.mf.length) : ((s.mfEnter y x time).mfc y).intake =
    ((s.mfc y).inputs + 1, x, (s.mfc y).fresh, (s.mfc y).missed) := by
  unfold State.mfEnter
  extract_lets a r b
  have entered : (a.mfc y).intake = ((s.mfc y).inputs + 1, x, (s.mfc y).fresh, (s.mfc y).missed) := by
    simp only [a]
    rw [modMf_mfc _ there]
    rfl
  have filtered : (b.mfc y).intake = (a.mfc y).intake := by
    have inside : y < a.hk.mf.length := by simpa only [a, modMf_length] using there
    simp only [b, r]
    rw [modMf_mfc _ inside]
    exact cic_intake ..
  clear_value r b
  rw [← entered, ← filtered]
  split
  · exact mfFir_intake _
  · rfl

/-! ### A synchronising reset that takes effect (13 R360) -/

theorem ite_mf_length {p : Prop} {_inst : Decidable p} {a b : State} {n : Nat} (ha : a.hk.mf.length = n) (hb : b.hk.mf.length = n) :
    (if p then a else b).hk.mf.length = n := by
  split
  · exact ha
  · exact hb

theorem mfReset_length (s : State) (y : Nat) : (s.mfReset y).hk.mf.length = s.hk.mf.length := by
  unfold State.mfReset
  extract_lets u v
  have ended : u.hk.mf.length = s.hk.mf.length := ite_mf_length (modMf_length ..) rfl
  have released : v.hk.mf.length = u.hk.mf.length := by
    simp only [v]
    split
    · exact (modMf_length ..).trans (mfActivate_length ..)
    · rfl
  rw [modMf_length, released, ended]

theorem mfReset_inputs (there : y < s.hk.mf.length) : ((s.mfReset y).mfc y).inputs = 0 := by
  have length := mfReset_length s y
  unfold State.mfReset at length ⊢
  rw [modMf_length] at length
  dsimp only
  rw [modMf_mfc _ (by rw [length]; exact there)]

/-- A reset leaves the boundaries counted, the output channels, and every entry but the sheets. -/
theorem mfReset_rest (s : State) (y : Nat) : (s.mfReset y).hk.tick = s.hk.tick ∧ (s.mfReset y).hk.aouts = s.hk.aouts ∧
    ∀ k : Key, k.entry ≠ 0x021 → k.entry ≠ 0x022 → (s.mfReset y).rd k = s.rd k := by
  refine ⟨?_, ?_, fun k one two => (State.mfReset_leads s y (covers_refl _) (Leads.refl _ s)).rd_eq k (by simp [Part.within, one, two])⟩
  all_goals
    have sheets : ∀ (u : State) (sheet : Nat) (taps : List Int), (u.putSheet y sheet taps).hk = u.hk := fun u => putSheet_hk u y
    unfold State.mfReset
    dsimp only
    repeat' split
    all_goals simp [State.modMf, State.mfActivate, State.mfFadeEnd, sheets]

theorem mfInput_congr (tick : t.hk.tick = s.hk.tick) (aouts : t.hk.aouts = s.hk.aouts)
    (rd : ∀ k : Key, k.entry ≠ 0x021 → k.entry ≠ 0x022 → t.rd k = s.rd k) (v start : Nat) : t.mfInput y v start = s.mfInput y v start := by
  simp [State.mfInput, State.rdN, rd, tick, State.aout, aouts]

/-- Before an input is taken the channel resets where a synchronising reset takes effect with its pass. -/
def State.mfSynced (s : State) (y start : Nat) : State := if (s.mfc y).syncFrom.any (fun n => n ≤ start) then s.mfReset y else s

theorem mfSynced_rest (s : State) (y start : Nat) (there : y < s.hk.mf.length) :
    (s.mfSynced y start).hk.mf.length = s.hk.mf.length ∧
    ((s.mfSynced y start).mfc y).inputs = (if (s.mfc y).syncFrom.any (fun n => n ≤ start) then 0 else (s.mfc y).inputs) ∧
    ∀ v at_, (s.mfSynced y start).mfInput y v at_ = s.mfInput y v at_ := by
  unfold State.mfSynced
  split
  · obtain ⟨tick, aouts, rd⟩ := mfReset_rest s y
    exact ⟨mfReset_length s y, mfReset_inputs there, mfInput_congr tick aouts rd⟩
  · exact ⟨rfl, rfl, fun _ _ => rfl⟩

theorem mfChannelProcess_next (y : Nat) (f : Nat × Nat × Nat) (s : State) (channel : y < 32) (runs : 3 ≤ s.mfStateNow y)
    (waits : (s.mfc y).fresh = some f) :
    ∃ t, exec (.mfChannelProcess y false) s = .next t ∧
      (t.mfc y).inputs = (if (s.mfc y).syncFrom.any (fun n => n ≤ f.1) then 0 else (s.mfc y).inputs) + 1 ∧
      (t.mfc y).lastX = s.mfInput y (f.2.2 / 65536) f.1 ∧
      (t.mfc y).fresh = none := by
  have there := there_of_mfc (p := fun c => c.fresh = some f) waits (by simp [MfChan.reset])
  obtain ⟨length, inputs, input⟩ := mfSynced_rest s y f.1 there
  let u := (s.mfSynced y f.1).modMf y (fun c => { c with fresh := none, delayed := c.delayed || bitOf f.2.2 3 })
  have taken : u.mfc y = { (s.mfSynced y f.1).mfc y with
      fresh := none, delayed := ((s.mfSynced y f.1).mfc y).delayed || bitOf f.2.2 3 } := modMf_mfc _ (by rwa [length])
  have run : exec (.mfChannelProcess y false) s =
      .next (u.mfEnter y (u.mfInput y (f.2.2 / 65536) f.1) (f.2.1 + 1000 * u.rdN (K.mfSlot y))) := by
    show execMfChannelProcess y false s = _
    unfold execMfChannelProcess
    rw [when_true (by simp [channel, runs]), waits]
    rfl
  have intake := mfEnter_intake (u.mfInput y (f.2.2 / 65536) f.1) (f.2.1 + 1000 * u.rdN (K.mfSlot y)) (s := u) (y := y)
    (by rwa [modMf_length, length])
  rw [taken] at intake
  simp only [MfChan.intake, Prod.mk.injEq] at intake
  obtain ⟨count, last, fresh, -⟩ := intake
  refine ⟨_, run, ?_, ?_, fresh⟩
  · rw [count, inputs]
  · rw [last, ← input]
    exact mfInput_congr rfl rfl (fun _ _ _ => rfl) ..

theorem mfChannelProcess_gap_next (y : Nat) (s : State) (channel : y < 32) (runs : 3 ≤ s.mfStateNow y) (misses : (s.mfc y).missed ≠ 0) :
    ∃ t, exec (.mfChannelProcess y true) s = .next t ∧
      (t.mfc y).inputs = (s.mfc y).inputs + 1 ∧
      (t.mfc y).missed = (s.mfc y).missed - 1 ∧
      (t.mfc y).lastX = (s.mfc y).lastX ∧
      t.rd (K.gapCount y) = (min (s.rdN (K.gapCount y) + 1) max48 : Nat) := by
  have there := there_of_mfc (p := fun c => c.missed ≠ 0) misses (by simp [MfChan.reset])
  let u := ((s.modMf y (fun c => { c with gap := true, missed := c.missed - 1 })).bump (K.gapCount y)).raise Ev.mfGap noKey
  have hk : u.hk = (s.modMf y (fun c => { c with gap := true, missed := c.missed - 1 })).hk := (State.raise_hk ..).trans (bump_hk ..)
  have filled : u.mfc y = { s.mfc y with gap := true, missed := (s.mfc y).missed - 1 } :=
    (mfc_congr (congrArg HkState.mf hk)).trans (modMf_mfc _ there)
  have run : exec (.mfChannelProcess y true) s =
      .next (u.mfEnter y (s.mfc y).lastX ((s.mfc y).lastAt + 1000 * u.mfPeriod (y / 16))) := by
    show execMfChannelProcess y true s = _
    unfold execMfChannelProcess
    rw [when_true (by simp [channel, runs]), if_pos rfl, when_true (by simpa using Nat.pos_of_ne_zero misses)]
    rfl
  have intake := mfEnter_intake (s.mfc y).lastX ((s.mfc y).lastAt + 1000 * u.mfPeriod (y / 16)) (s := u) (y := y)
    (by rw [hk, modMf_length]; exact there)
  rw [filled] at intake
  simp only [MfChan.intake, Prod.mk.injEq] at intake
  obtain ⟨count, last, -, missed⟩ := intake
  refine ⟨_, run, count, missed, last, ?_⟩
  have counted : u.rd (K.gapCount y) = (min (s.rdN (K.gapCount y) + 1) max48 : Nat) := by
    rw [State.raise_rd, bump_rd, if_pos rfl]
    rfl
  rw [← counted]
  exact (State.mfEnter_leads u y _ _ (covers_refl _) (Leads.refl _ u)).rd_eq _ (by simp [Part.within])

/-- Settles O21: each clause is what its command's lemma above says. -/
theorem monitorFilterComplete : Obligations.MonitorFilterComplete :=
  ⟨mfChannelProcess_next, mfChannelProcess_gap_next, mfSheetSwap_stopped_next, mfSheetSwap_running_next, mfSwapLoaded_next, mfSync_next,
    outQueueRead_next⟩

end Sys2Proof.Machine
end

section
/-! SUPPORT. The output channels (12 R341 to R347) and the obligation about them. -/

namespace Sys2Proof.Machine

variable {s t : State} {k j : Nat}

/-! ### A plain write that was accepted (09 R245, R246) -/

/-- A write of an entry that has its own key is stored clamped, and of the other elements only those of areas 02 and 08 may move. -/
theorem rwEffect_accepted_rd (src : Nat) {k : Key} (v : Int) (s : State) (canonical : canonKey k = k) {j : Key} (h2 : j.area ≠ 0x02)
    (h8 : j.area ≠ 0x08) : (rwEffect src k v (s.accepted src)).1.rd j = if j = k then clampKey k v else s.rd j := by
  split
  · subst_vars
    exact (congrArg _ canonical.symm).trans (rwEffect_rd_same src v _ (by rw [canonical]; exact fun e => h2 (by rw [e])))
  · rw [rwEffect_rd_other src v _ (by rwa [canonical]) (fun e => h2 (by rw [e])), accepted_rd s src j h8]

theorem rwEffect_accepted_part (src : Nat) (k : Key) (v : Int) (s : State) :
    (rwEffect src k v (s.accepted src)).1.hk = s.hk ∧ (rwEffect src k v (s.accepted src)).1.boot = s.boot ∧
    (rwEffect src k v (s.accepted src)).1.cores = s.cores ∧ (rwEffect src k v (s.accepted src)).1.datum = s.datum := by
  have follows := rwEffect_leads src k v (s.accepted src) (covers_refl _) (Leads.refl _ _)
  refine ⟨?_, ?_, ?_, ?_⟩
  · rw [follows.1.2 .hk (by simp [Part.within]), accepted_hk]
  · rw [follows.1.2 .boot (by simp [Part.within]), accepted_boot]
  · rw [follows.1.2 .cores (by simp [Part.within]), accepted_cores]
  · rw [follows.1.2 .datum (by simp [Part.within]), accepted_datum]

/-! ### One output channel changes -/

@[simp] theorem modAout_length (s : State) (k : Nat) (f : Aout → Aout) : (s.modAout k f).hk.aouts.length = s.hk.aouts.length := by
  simp [State.modAout]

theorem modAout_aout (f : Aout → Aout) (there : k < s.hk.aouts.length) : (s.modAout k f).aout k = f (s.aout k) := by
  simp only [State.aout, State.modAout]
  rw [nth_modify, if_pos ⟨rfl, there⟩]

theorem modAout_aout_other (f : Aout → Aout) (other : k ≠ j) : (s.modAout j f).aout k = s.aout k := by
  simp only [State.aout, State.modAout]
  rw [nth_modify, if_neg (fun h => other h.1.symm)]

theorem aout_congr (same : t.hk = s.hk) : t.aout k = s.aout k := by rw [State.aout, same, State.aout]

@[simp] theorem modAout_rd (s : State) (k : Nat) (f : Aout → Aout) (j : Key) : (s.modAout k f).rd j = s.rd j := rfl

/-! ### Enabling (12 R342) -/

theorem aoutOn_rd (s : State) (k : Nat) : (s.aoutOn k).rd (K.aoutState k) = 1 ∧ (s.aoutOn k).rd (K.aoutCode k) = s.rd (K.aoutStartCode k) := by
  unfold State.aoutOn
  exact ⟨State.rd_wr_same .., by rw [State.rd_wr_other _ _ (by simp), modAout_rd, State.rd_wr_same]⟩

theorem aoutOn_rbStatus (s : State) (k : Nat) : (s.aoutOn k).rd (K.rbStatus k) = s.rd (K.rbStatus k) := by
  unfold State.aoutOn
  rw [State.rd_wr_other _ _ (by simp), modAout_rd, State.rd_wr_other _ _ (by simp)]

theorem clampKey_aoutEnable (k : Nat) (v : Int) : clampKey (K.aoutEnable k) v = if v = 0 then 0 else 1 := rfl

theorem aoutEnableWrite_next (src k : Nat) (v : Int) (s : State) (ha : s.accepts src (K.aoutEnable k)) (free : s.underTest 2 k = false) :
    ∃ t, exec (.aoutEnableWrite src k v) s = .next t ∧
      t.answered src .ok ∧
      t.rd (K.aoutState k) = b2i (v ≠ 0) ∧
      (v ≠ 0 → t.rd (K.aoutCode k) = s.rd (K.aoutStartCode k)) := by
  refine ⟨_, rfl, ?_⟩
  rw [request_accepted s src ha]
  let u := (rwEffect src (K.aoutEnable k) v (s.accepted src)).1
  have rd : ∀ e i, u.rd ⟨0x61, e, i⟩ = if (⟨0x61, e, i⟩ : Key) = K.aoutEnable k then clampKey (K.aoutEnable k) v else s.rd ⟨0x61, e, i⟩ :=
    fun e i => rwEffect_accepted_rd src v s (by simp [canonKey]) (by simp) (by simp)
  have unused : u.underTest 2 k = false := by
    rw [State.underTest, (rwEffect_accepted_part src (K.aoutEnable k) v s).2.1]
    exact free
  have on_ : u.on (K.aoutEnable k) = decide (v ≠ 0) := by
    rw [State.on, rd, if_pos rfl, clampKey_aoutEnable]
    by_cases zero : v = 0 <;> simp [zero]
  refine ⟨ack_answered .., ?_⟩
  show (u.aoutEnable k).rd _ = _ ∧ (_ → (u.aoutEnable k).rd _ = _)
  unfold State.aoutEnable
  rw [if_neg (by simp [unused])]
  by_cases zero : v = 0
  · rw [if_neg (by simp [on_, zero]), State.rd_wr_same]
    exact ⟨by simp [zero, b2i], fun h => absurd zero h⟩
  · rw [if_pos (by simp [on_, zero])]
    obtain ⟨state, code⟩ := aoutOn_rd u k
    exact ⟨state.trans (by simp [zero, b2i]), fun _ => code.trans ((rd _ _).trans (if_neg (by simp)))⟩

/-! ### Ranges (12 R343) -/

theorem aoutRangeWrite_next (src k : Nat) (v : Int) (s : State) (ha : s.accepts src (K.aoutRange k)) (driving : s.rd (K.aoutState k) = 1)
    (new : clampKey (K.aoutRange k) v ≠ s.rd (K.aoutRange k)) :
    ∃ t, exec (.aoutRangeWrite src k v) s = .next t ∧
      t.answered src .ok ∧
      t.rd (K.aoutRange k) = clampKey (K.aoutRange k) v ∧
      t.rd (K.aoutState k) = 2 := by
  refine ⟨_, rfl, ?_⟩
  rw [request_accepted s src ha]
  let u := (rwEffect src (K.aoutRange k) v (s.accepted src)).1
  have rd : ∀ e i, u.rd ⟨0x61, e, i⟩ = if (⟨0x61, e, i⟩ : Key) = K.aoutRange k then clampKey (K.aoutRange k) v else s.rd ⟨0x61, e, i⟩ :=
    fun e i => rwEffect_accepted_rd src v s (by simp [canonKey]) (by simp) (by simp)
  have range : u.rd (K.aoutRange k) = clampKey (K.aoutRange k) v := (rd _ _).trans (if_pos rfl)
  have state : u.rd (K.aoutState k) = 1 := ((rd _ _).trans (if_neg (by simp))).trans driving
  have means : (s.accepted src).aoutRangeWrite src k v = u.wr (K.aoutState k) 2 := by
    unfold State.aoutRangeWrite
    dsimp only
    rw [accepted_rd s src (K.aoutRange k) (by simp)]
    exact if_pos (by simp only [Bool.and_eq_true, decide_eq_true_eq]; exact ⟨state, by rw [range]; exact new⟩)
  refine ⟨ack_answered .., ?_⟩
  rw [State.ack_rd, State.ack_rd, means]
  exact ⟨(State.rd_wr_other _ _ (by simp)).trans range, State.rd_wr_same ..⟩

theorem aoutReconnect_next (k : Nat) (s : State) (channel : k < 16) (disconnected : s.rd (K.aoutState k) = 2) :
    ∃ t, exec (.aoutReconnect k) s = .next t ∧
      t.rd (K.aoutState k) = 1 ∧
      (k < s.hk.aouts.length → (t.aout k).range = s.rdN (K.aoutRange k)) := by
  refine ⟨_, rfl, ?_⟩
  rw [when_true (by simp [channel, disconnected])]
  refine ⟨State.rd_wr_same .., fun there => ?_⟩
  show ((s.modAout k _).aout k).range = _
  rw [modAout_aout _ there]

/-! ### Updates (12 R344, R346) -/

/-- A channel with its counts of quiet updates advanced. -/
def Aout.timed (comp ovl : Bool) (a : Aout) : Aout :=
  { a with compQuiet := if comp then 0 else a.compQuiet + 1, overQuiet := if ovl then 0 else a.overQuiet + 1 }

/-- A channel that gives an output, its waveform advanced. -/
def Aout.given (out : Nat) (a : Aout) : Aout := { a with out := out, outs := (out :: a.outs).take 4, waves := (a.w :: a.waves).take 640 }

/-- An update of a channel that drives: the waveform advances, and the code with its value is given, clamped. -/
theorem aoutUpdate_driving (s : State) (k : Nat) (compliance overload : Bool) (driving : s.rd (K.aoutState k) = 1) : ∃ comp ovl,
    (s.aoutUpdate k compliance overload).hk = ((s.modAout k (Aout.timed comp ovl)).modAout k fun _ =>
      let r := ((s.modAout k (Aout.timed comp ovl)).aout k).advance (s.rd (K.wave k)) (max (s.rdN (K.wavePeriod k)) 1)
      r.2.given (clampInt (s.rd (K.aoutCode k) + (s.rd (K.waveAmpl k) * r.1 : Rat).floor) 0 65535).toNat).hk := by
  unfold State.aoutUpdate
  extract_lets drives comp ovl u r y out _ v w st x
  refine ⟨comp, ovl, ?_⟩
  have clipped : w.hk = v.hk := by
    simp only [w]
    split <;> rfl
  have flagged : x.hk = w.hk := by
    simp only [x]
    split <;> rfl
  rw [if_neg (by simp [drives, driving])]
  refine Eq.trans (?_ : _ = x.hk) (flagged.trans clipped)
  clear_value x
  split <;> rfl

/-- An update of a channel that does not drive: it puts out 0. -/
theorem aoutUpdate_idle (s : State) (k : Nat) (compliance overload : Bool) (idle : s.rd (K.aoutState k) ≠ 1) : ∃ comp ovl,
    s.aoutUpdate k compliance overload = (s.modAout k (Aout.timed comp ovl)).modAout k
      (fun a => { a with waves := (0 :: a.waves).take 640, outs := (0 :: a.outs).take 4 }) := by
  unfold State.aoutUpdate
  extract_lets drives comp ovl u r y out _ v w st x
  refine ⟨comp, ovl, ?_⟩
  rw [if_pos (by simp [drives, idle])]
  rfl

/-- An update changes its own channel only, and no number of channels. -/
theorem aoutUpdate_other (s : State) (compliance overload : Bool) (other : k ≠ j) :
    (s.aoutUpdate j compliance overload).aout k = s.aout k := by
  by_cases driving : s.rd (K.aoutState j) = 1
  · obtain ⟨comp, ovl, hk⟩ := aoutUpdate_driving s j compliance overload driving
    rw [aout_congr hk, modAout_aout_other _ other, modAout_aout_other _ other]
  · obtain ⟨comp, ovl, means⟩ := aoutUpdate_idle s j compliance overload driving
    rw [means, modAout_aout_other _ other, modAout_aout_other _ other]

theorem aoutUpdate_length (s : State) (j : Nat) (compliance overload : Bool) :
    (s.aoutUpdate j compliance overload).hk.aouts.length = s.hk.aouts.length := by
  by_cases driving : s.rd (K.aoutState j) = 1
  · obtain ⟨comp, ovl, hk⟩ := aoutUpdate_driving s j compliance overload driving
    rw [hk, modAout_length, modAout_length]
  · obtain ⟨comp, ovl, means⟩ := aoutUpdate_idle s j compliance overload driving
    rw [means, modAout_length, modAout_length]

theorem aoutUpdate_rd (s : State) (j : Nat) (compliance overload : Bool) {e i : Nat} (clip : e ≠ 0x014) (status : e ≠ 0x032) :
    (s.aoutUpdate j compliance overload).rd ⟨0x61, e, i⟩ = s.rd ⟨0x61, e, i⟩ :=
  (State.aoutUpdate_leads s j compliance overload (covers_refl _) (Leads.refl _ s)).rd_eq _ (by simp [Part.within, clip, status])

theorem aoutUpdate_outs (compliance overload : Bool) (there : k < s.hk.aouts.length) (idle : s.rd (K.aoutState k) ≠ 1) :
    ((s.aoutUpdate k compliance overload).aout k).outs = (0 :: (s.aout k).outs).take 4 := by
  obtain ⟨comp, ovl, means⟩ := aoutUpdate_idle s k compliance overload idle
  rw [means, modAout_aout _ (by rwa [modAout_length]), modAout_aout _ there]
  rfl

theorem aoutUpdate_out (compliance overload : Bool) (there : k < s.hk.aouts.length) (driving : s.rd (K.aoutState k) = 1)
    (plain : s.rd (K.wave k) = 0) :
    ((s.aoutUpdate k compliance overload).aout k).out = (clampInt (s.rd (K.aoutCode k)) 0 65535).toNat := by
  obtain ⟨comp, ovl, hk⟩ := aoutUpdate_driving s k compliance overload driving
  have flat : ∀ (a : Aout) (period : Nat), (a.advance (s.rd (K.wave k)) period).1 = 0 := by
    intro a period
    rw [plain]
    rfl
  rw [aout_congr hk, modAout_aout _ (by rwa [modAout_length])]
  simp only [Aout.given, flat, mul_zero]
  rw [show (0 : Rat).floor = 0 from rfl, add_zero]

/-- At an update every channel updates: what a channel is afterwards, from what it was and what its update makes of that. -/
theorem aoutUpdates_turn (compliance overload : Nat) {Q : Aout → Prop} (channel : k < 16)
    (turn : ∀ u : State, u.hk.aouts.length = s.hk.aouts.length → u.aout k = s.aout k →
      (∀ e, e ≠ 0x014 → e ≠ 0x032 → u.rd ⟨0x61, e, k⟩ = s.rd ⟨0x61, e, k⟩) →
      Q ((u.aoutUpdate k (bitOf compliance k) (bitOf overload k)).aout k)) :
    Q (((List.range 16).foldl (fun s k => s.aoutUpdate k (bitOf compliance k) (bitOf overload k)) s).aout k) := by
  refine foldl_turn (P := fun u : State => u.hk.aouts.length = s.hk.aouts.length ∧ u.aout k = s.aout k ∧
      ∀ e, e ≠ 0x014 → e ≠ 0x032 → u.rd ⟨0x61, e, k⟩ = s.rd ⟨0x61, e, k⟩) (Q := fun u : State => Q (u.aout k))
    (List.mem_range.2 channel) List.nodup_range ?_ ?_ ?_ ⟨rfl, rfl, fun _ _ _ => rfl⟩
  · rintro u i other ⟨length, same, rd⟩
    refine ⟨by rw [aoutUpdate_length, length], by rw [aoutUpdate_other u _ _ other.symm, same], fun e clip status => ?_⟩
    rw [aoutUpdate_rd u i _ _ clip status, rd e clip status]
  · rintro u ⟨length, same, rd⟩
    exact turn u length same rd
  · intro u i other done
    rwa [aoutUpdate_other u _ _ other.symm]

theorem aoutUpdate_next (compliance overload : Nat) (s : State) :
    ∃ t, exec (.aoutUpdate compliance overload) s = .next t ∧
      (∀ k : Nat, k < min 16 s.hk.aouts.length → s.rd (K.aoutState k) ≠ 1 → (t.aout k).outs = (0 :: (s.aout k).outs).take 4) ∧
      (∀ k : Nat, k < min 16 s.hk.aouts.length → s.rd (K.aoutState k) = 1 → s.rd (K.wave k) = 0 →
        (t.aout k).out = (clampInt (s.rd (K.aoutCode k)) 0 65535).toNat) := by
  refine ⟨_, rfl, fun k hk idle => ?_, fun k hk driving plain => ?_⟩
  all_goals obtain ⟨channel, there⟩ := lt_min_iff.1 hk
  · refine aoutUpdates_turn (Q := fun a => a.outs = (0 :: (s.aout k).outs).take 4) compliance overload channel fun u length same rd => ?_
    rw [← same]
    exact aoutUpdate_outs _ _ (by rwa [length]) (by rwa [rd 0x004 (by decide) (by decide)])
  · refine aoutUpdates_turn (Q := fun a => a.out = (clampInt (s.rd (K.aoutCode k)) 0 65535).toNat) compliance overload channel
      fun u length same rd => ?_
    rw [← rd 0x002 (by decide) (by decide)]
    exact aoutUpdate_out _ _ (by rwa [length]) (by rwa [rd 0x004 (by decide) (by decide)]) (by rwa [rd 0x010 (by decide) (by decide)])

theorem aoutConditionClear_next (k : Nat) (overload : Bool) (s : State) (channel : k < 16)
    (quiet : (1000 : Nat) ≤ (if overload then (s.aout k).overQuiet else (s.aout k).compQuiet)) :
    ∃ t, exec (.aoutConditionClear k overload) s = .next t ∧ bitOf (t.rdN (K.rbStatus k)) (if overload then 3 else 2) = false := by
  refine ⟨_, rfl, ?_⟩
  rw [when_true (by simp only [channel, quiet]; rfl), State.rdN, State.rd_wr_same, Int.toNat_natCast, bitOf_setBit_same]

/-! ### Waveforms (12 R344) -/

theorem waveWrite_next (src k : Nat) (v : Int) (s : State) (ha : s.accepts src (K.wave k)) :
    ∃ t, exec (.waveWrite src k v) s = .next t ∧
      t.answered src .ok ∧
      t.rd (K.wave k) = clampKey (K.wave k) v ∧
      (k < s.hk.aouts.length → (t.aout k).phase = 0 ∧ (t.aout k).lfsr = noiseSeed k) := by
  refine ⟨_, rfl, ?_⟩
  rw [request_accepted s src ha]
  refine ⟨ack_answered .., ?_, fun there => ?_⟩
  · rw [State.ack_rd, modAout_rd, rwEffect_accepted_rd src v s (by simp [canonKey]) (by simp) (by simp), if_pos rfl]
  · have inside : k < (rwEffect src (K.wave k) v (s.accepted src)).1.hk.aouts.length := by
      rwa [(rwEffect_accepted_part src (K.wave k) v s).1]
    show (((rwEffect src (K.wave k) v (s.accepted src)).1.modAout k (Aout.restart k)).aout k).phase = 0 ∧
      (((rwEffect src (K.wave k) v (s.accepted src)).1.modAout k (Aout.restart k)).aout k).lfsr = noiseSeed k
    rw [modAout_aout _ inside]
    exact ⟨rfl, rfl⟩

theorem waveSync_next (src : Nat) (v : Int) (s : State) (ha : s.accepts src K.waveSync) :
    ∃ t, exec (.waveSync src v) s = .next t ∧
      t.answered src .ok ∧
      (∀ k : Nat, k < min 16 s.hk.aouts.length → bitOf (clampKey K.waveSync v).toNat k = true → (t.aout k).phase = 0) := by
  refine ⟨_, rfl, ?_⟩
  rw [request_accepted s src ha]
  refine ⟨ack_answered .., fun k hk chosen => ?_⟩
  obtain ⟨channel, there⟩ := lt_min_iff.1 hk
  refine foldl_turn (P := fun u : State => k < u.hk.aouts.length) (Q := fun u : State => (u.aout k).phase = 0)
    (List.mem_range.2 channel) List.nodup_range ?_ ?_ ?_ (by rwa [accepted_hk])
  · intro u i _ inside
    split
    · rwa [modAout_length]
    · exact inside
  · intro u inside
    rw [if_pos chosen, modAout_aout _ inside]
    rfl
  · intro u i other done
    split
    · rwa [modAout_aout_other _ other.symm]
    · exact done

/-! ### The read-back fault (12 R346) -/

theorem rbClear_next (src k : Nat) (s : State) (ha : s.accepts src (K.rbClear k)) :
    ∃ t, exec (.rbClear src k) s = .next t ∧
      t.answered src .ok ∧
      bitOf (t.rdN (K.rbStatus k)) 1 = false ∧
      (s.rd (K.aoutState k) = 3 → t.rd (K.aoutState k) = 1) := by
  refine ⟨_, rfl, ?_⟩
  rw [request_accepted s src ha]
  let u := (((s.accepted src).wr (K.rbStatus k) (setBit ((s.accepted src).rdN (K.rbStatus k)) 1 false : Nat)).modAout k
    (fun a => { a with rbRun := 0 }))
  have cleared : bitOf (u.rd (K.rbStatus k)).toNat 1 = false := by
    rw [modAout_rd, State.rd_wr_same, Int.toNat_natCast, bitOf_setBit_same]
  have state : u.rd (K.aoutState k) = s.rd (K.aoutState k) := by
    rw [modAout_rd, State.rd_wr_other _ _ (by simp), accepted_rd s src _ (by simp)]
  have means : (s.accepted src).rbClearCmd k = if u.rd (K.aoutState k) = 3 then u.aoutOn k else u := rfl
  refine ⟨ack_answered .., ?_, fun fault => ?_⟩
  · rw [State.rdN, State.ack_rd, means]
    dsimp only
    split
    · rw [aoutOn_rbStatus, cleared]
    · exact cleared
  · rw [State.ack_rd, means, if_pos (state.trans fault), (aoutOn_rd u k).1]

/-- Settles O20: each clause is what its command's lemma above says. -/
theorem analogueOutputsComplete : Obligations.AnalogueOutputsComplete :=
  ⟨aoutEnableWrite_next, aoutRangeWrite_next, aoutReconnect_next, aoutUpdate_next, aoutConditionClear_next, waveWrite_next, waveSync_next,
    rbClear_next⟩

end Sys2Proof.Machine
end

section
/-! SUPPORT. A conversion boundary of the housekeeping converters (12 R329 to R334): what it counts and stores, and what else of the same it
leaves. -/

namespace Sys2Proof.Machine

variable {s t : State} {h : Nat}

/-! ### One converter changes -/

@[simp] theorem modAdc_adc (s : State) (h : Nat) (f : HkAdc → HkAdc) : (s.modAdc h f).adc h = f (s.adc h) := by
  unfold State.modAdc State.adc
  split <;> rfl

theorem modAdc_adc_other (s : State) {h i : Nat} (f : HkAdc → HkAdc) (other : (h = 0) ≠ (i = 0)) : (s.modAdc i f).adc h = s.adc h := by
  unfold State.modAdc State.adc
  by_cases hi : i = 0 <;> by_cases hh : h = 0 <;> simp_all

@[simp] theorem modAdc_rd (s : State) (h : Nat) (f : HkAdc → HkAdc) (k : Key) : (s.modAdc h f).rd k = s.rd k := by
  unfold State.modAdc
  split <;> rfl

@[simp] theorem modAdc_tick (s : State) (h : Nat) (f : HkAdc → HkAdc) : (s.modAdc h f).hk.tick = s.hk.tick := by
  unfold State.modAdc
  split <;> rfl

theorem adc_congr (same : t.hk = s.hk) : t.adc h = s.adc h := by rw [State.adc, same, State.adc]

/-! ### The count of boundaries, which no part of one changes -/

theorem ite_tick {p : Prop} {_inst : Decidable p} {a b : State} {n : Nat} (ha : a.hk.tick = n) (hb : b.hk.tick = n) :
    (if p then a else b).hk.tick = n := by
  split
  · exact ha
  · exact hb

theorem openWire_tick (s : State) (p code : Nat) : (s.openWire p code).hk.tick = s.hk.tick := by
  unfold State.openWire
  extract_lets m met old n hk u fault
  have noted : u.hk.tick = s.hk.tick := rfl
  clear_value u
  split
  · rfl
  split
  · rw [State.raise_hk, State.wr_hk, noted]
  split
  · rw [State.raise_hk, State.wr_hk, noted]
  · exact noted

theorem readBack_tick (s : State) (input v out : Nat) : (s.readBack input v out).hk.tick = s.hk.tick := by
  unfold State.readBack
  split
  · rfl
  extract_lets k
  split
  · rfl
  split
  · rfl
  extract_lets bad u w
  have noted : u.hk.tick = s.hk.tick := rfl
  have counted : w.hk.tick = u.hk.tick := by rw [State.raise_hk, bump_hk, State.wr_hk]
  clear_value u w
  split
  · split
    · rw [State.wr_hk, counted, noted]
    · rw [counted, noted]
  · exact noted

theorem checkLimit_tick (s : State) (h slot v : Nat) : (s.checkLimit h slot v).hk.tick = s.hk.tick := by
  unfold State.checkLimit
  exact ite_tick (modAdc_tick ..) (ite_tick (modAdc_tick ..) (modAdc_tick ..))

theorem passEnd_tick (s : State) (h : Nat) : (s.passEnd h).hk.tick = s.hk.tick := by
  unfold State.passEnd
  exact ite_tick ((modAdc_tick ..).trans (modAdc_tick ..)) (modAdc_tick ..)

theorem mfFresh_tick (s : State) (h slot : Nat) : (s.mfFresh h slot).hk.tick = s.hk.tick :=
  foldl_reading_other (read := fun s : State => s.hk.tick) (by intros; rfl) s

theorem storeConv_tick (s : State) (h code : Nat) : (s.storeConv h code).hk.tick = s.hk.tick := by
  have judged : ∀ (u : State) input, (((u.wrap16 (K.convCount h)).openWire input code).hk.tick) = u.hk.tick := fun u input => openWire_tick ..
  have stored : ∀ (u : State) k (n : Int) input v out, ((u.wr k n).readBack input v out).hk.tick = u.hk.tick :=
    fun u k n input v out => readBack_tick ..
  unfold State.storeConv
  split
  · rfl
  · next c _ =>
    dsimp only
    split
    · refine ite_tick ?_ ?_
      · rw [readBack_tick, judged, modAdc_tick, modAdc_tick]
      · rw [modAdc_tick, modAdc_tick]
    · refine ite_tick ?_ ?_
      · rw [passEnd_tick, mfFresh_tick, stored, checkLimit_tick, judged, modAdc_tick]
      · rw [mfFresh_tick, stored, checkLimit_tick, judged, modAdc_tick]
    · split
      · refine ite_tick ?_ ?_
        · show (State.modAdc _ h _).hk.tick = _
          rw [modAdc_tick, stored, judged, modAdc_tick]
        · rw [stored, judged, modAdc_tick]
      · rw [stored, judged, modAdc_tick]

theorem finishCal_tick (s : State) (h : Nat) : (s.finishCal h).hk.tick = s.hk.tick := by
  unfold State.finishCal
  split
  · rfl
  · refine ite_tick rfl ?_
    extract_lets u m w x st
    have ended : u.hk.tick = s.hk.tick := by rw [State.wr_hk, modAdc_tick]
    have stored : st.hk.tick = u.hk.tick := by
      refine ite_tick ?_ (ite_tick ?_ ?_)
      · rw [State.wr_hk]
      · rw [State.wr_hk, modAdc_tick]
      · split
        · rw [State.wr_hk]
        · refine ite_tick ?_ ?_
          · rw [State.wr_hk, modAdc_tick]
          · rw [State.wr_hk, State.wr_hk, State.wr_hk, modAdc_tick]
    rw [State.raise_hk, stored, ended]

theorem startConv_tick (s : State) (h : Nat) (kind : ConvKind) (input : Nat) (delayed : Bool) :
    (s.startConv h kind input delayed).hk.tick = s.hk.tick := modAdc_tick ..

theorem startInjected_tick (s : State) (h : Nat) : (s.startInjected h).hk.tick = s.hk.tick := by
  unfold State.startInjected
  extract_lets a u
  have opened : u.hk.tick = s.hk.tick := by
    simp only [u]
    split
    · rfl
    · exact modAdc_tick ..
  clear_value u
  split
  · exact opened
  · rw [startConv_tick, modAdc_tick, opened]

theorem startRegular_tick (s : State) (h : Nat) : (s.startRegular h).hk.tick = s.hk.tick := by
  unfold State.startRegular
  split
  · rfl
  · exact ite_tick rfl ((startConv_tick ..).trans (modAdc_tick ..))

theorem startPass_tick (s : State) (h : Nat) : (s.startPass h).hk.tick = s.hk.tick := by
  unfold State.startPass
  exact ite_tick ((foldl_reading_other (read := fun s : State => s.hk.tick) (by intros; rfl) _).trans (modAdc_tick ..)) rfl

theorem startNext_tick (s : State) (h : Nat) : (s.startNext h).hk.tick = s.hk.tick := by
  unfold State.startNext
  dsimp only
  split
  · refine ite_tick (ite_tick (startConv_tick ..) rfl) (ite_tick (startInjected_tick ..) ?_)
    exact (startConv_tick ..).trans (modAdc_tick ..)
  · exact ite_tick (startInjected_tick ..) ((startRegular_tick ..).trans (startPass_tick ..))

theorem stopAdc_tick (s : State) (h : Nat) : (s.stopAdc h).hk.tick = s.hk.tick := by
  unfold State.stopAdc
  exact (modAdc_tick ..).trans (ite_tick rfl rfl)

theorem boundary_tick (s : State) (h code : Nat) : (s.boundary h code).hk.tick = s.hk.tick := by
  unfold State.boundary
  refine ite_tick ?_ ?_
  · rw [startNext_tick, startPass_tick, finishCal_tick, storeConv_tick]
  · rw [stopAdc_tick, finishCal_tick, storeConv_tick]

/-! ### The number of conversions and the record of a slot -/

/-- Beyond its stored conversion a boundary writes neither the numbers of conversions nor a result record. -/
theorem boundary_rd (s : State) (h code : Nat) {e i : Nat} (kept : e = 0x019 ∨ e = 0x013) :
    (s.boundary h code).rd ⟨0x60, e, i⟩ = (s.storeConv h (min code 4095)).rd ⟨0x60, e, i⟩ := by
  let u := s.storeConv h (min code 4095)
  have calibrated : (u.finishCal h).rd ⟨0x60, e, i⟩ = u.rd ⟨0x60, e, i⟩ :=
    (State.finishCal_leads u h (covers_refl _) (Leads.refl _ u)).rd_eq _ (by rcases kept with rfl | rfl <;> simp [Part.within])
  show (if (u.finishCal h).on (K.hkEnable h) then ((u.finishCal h).startPass h).startNext h else (u.finishCal h).stopAdc h).rd _ = _
  rw [← calibrated]
  generalize u.finishCal h = w
  split
  · refine (State.startNext_leads (w.startPass h) h (covers_refl _) (State.startPass_leads w h (by decide) (Leads.refl _ w))).rd_eq _ ?_
    rcases kept with rfl | rfl <;> simp [Part.within]
  · refine (State.stopAdc_leads w h (covers_refl _) (Leads.refl _ w)).rd_eq _ ?_
    rcases kept with rfl | rfl <;> simp [Part.within]

theorem openWire_rd (s : State) (p code : Nat) {e i : Nat} (kept : e ≠ 0x043) :
    (s.openWire p code).rd ⟨0x60, e, i⟩ = s.rd ⟨0x60, e, i⟩ :=
  (State.openWire_leads s p code (covers_refl _) (Leads.refl _ s)).rd_eq _ (by simp [Part.within, kept])

theorem readBack_rd (s : State) (input v out e i : Nat) : (s.readBack input v out).rd ⟨0x60, e, i⟩ = s.rd ⟨0x60, e, i⟩ :=
  (State.readBack_leads s input v out (covers_refl _) (Leads.refl _ s)).rd_eq _ (by simp [Part.within])

theorem checkLimit_rd (s : State) (h slot v : Nat) (k : Key) : (s.checkLimit h slot v).rd k = s.rd k :=
  (State.checkLimit_leads s h slot v (covers_refl _) (Leads.refl _ s)).rd_eq k (by simp [Part.within])

theorem mfFresh_rd (s : State) (h slot : Nat) (k : Key) : (s.mfFresh h slot).rd k = s.rd k :=
  (State.mfFresh_leads s h slot (covers_refl _) (Leads.refl _ s)).rd_eq k (by simp [Part.within])

theorem passEnd_rd (s : State) (h : Nat) {e i : Nat} (kept : e ≠ 0x018) : (s.passEnd h).rd ⟨0x60, e, i⟩ = s.rd ⟨0x60, e, i⟩ :=
  (State.passEnd_leads s h (covers_refl _) (Leads.refl _ s)).rd_eq _ (by simp [Part.within, kept])

theorem wrap16_rd (s : State) (k j : Key) : (s.wrap16 k).rd j = if j = k then (((s.rdN k + 1) % 65536 : Nat) : Int) else s.rd j := wr_rd ..

/-- A conversion of a regular slot as it is stored: counted, and its record written. -/
theorem storeConv_regular {slot input e code : Nat} {d : Bool} (conv : (s.adc h).conv = some ⟨.regular slot, input, d, e⟩) :
    (s.storeConv h code).rd (K.convCount h) = ((s.rdN (K.convCount h) + 1) % 65536 : Nat) ∧
    ∃ open_ limit, (s.storeConv h code).rd (K.regResult (64 * h + slot)) = (resultRecord (s.calValue h input code) code d open_ limit : Nat) := by
  let a := s.modAdc h (fun a => { a with conv := none })
  have value : a.calValue h input code = s.calValue h input code := by simp only [State.calValue, a, modAdc_rd]
  let b := ((a.wrap16 (K.convCount h)).openWire input code).checkLimit h slot (a.calValue h input code)
  let r := resultRecord (a.calValue h input code) code d (b.inputOpen input) ((b.adc h).limitSet.contains slot)
  let w := ((b.wr (K.regResult (64 * h + slot)) (r : Nat)).readBack input (a.calValue h input code) e).mfFresh h slot
  have means : s.storeConv h code = if w.rdN (K.regLength h) ≤ slot + 1 then w.passEnd h else w := by
    unfold State.storeConv
    rw [conv]
  have ended : ∀ e i, e ≠ 0x018 → (s.storeConv h code).rd ⟨0x60, e, i⟩ = w.rd ⟨0x60, e, i⟩ := by
    intro e i kept
    rw [means]
    split
    · exact passEnd_rd w h kept
    · rfl
  have stored : ∀ e i, w.rd ⟨0x60, e, i⟩ = (b.wr (K.regResult (64 * h + slot)) (r : Nat)).rd ⟨0x60, e, i⟩ :=
    fun e i => (mfFresh_rd ..).trans (readBack_rd ..)
  refine ⟨?_, b.inputOpen input, (b.adc h).limitSet.contains slot, ?_⟩
  · rw [ended _ _ (by decide), stored, State.rd_wr_other _ _ (by simp), checkLimit_rd, openWire_rd _ _ _ (by decide), wrap16_rd, if_pos rfl,
      State.rdN, modAdc_rd]
    rfl
  · rw [ended _ _ (by decide), stored, State.rd_wr_same, ← value]

/-- A stored conversion of one converter leaves the number of conversions of the other, and its records. -/
theorem storeConv_rd_other (s : State) (h code : Nat) {e i : Nat}
    (other : e = 0x019 ∧ i ≠ h ∨ e = 0x013 ∧ i < 64 * h) : (s.storeConv h code).rd ⟨0x60, e, i⟩ = s.rd ⟨0x60, e, i⟩ := by
  have e018 : e ≠ 0x018 := by omega
  have e043 : e ≠ 0x043 := by omega
  have count : ∀ u : State, (u.wrap16 (K.convCount h)).rd ⟨0x60, e, i⟩ = u.rd ⟨0x60, e, i⟩ :=
    fun u => (wrap16_rd ..).trans (if_neg (by simp only [Key.mk.injEq]; omega))
  have record : ∀ (u : State) (slot : Nat) (n : Int), (u.wr (K.regResult (64 * h + slot)) n).rd ⟨0x60, e, i⟩ = u.rd ⟨0x60, e, i⟩ :=
    fun u slot n => State.rd_wr_other _ _ (by simp only [ne_eq, Key.mk.injEq]; omega)
  have injected : ∀ (u : State) (j : Nat) (n : Int), (u.wr (K.injResult j) n).rd ⟨0x60, e, i⟩ = u.rd ⟨0x60, e, i⟩ :=
    fun u j n => State.rd_wr_other _ _ (by simp only [ne_eq, Key.mk.injEq]; omega)
  have finished : ∀ u : State, (u.wrap16 (K.injCount h)).rd ⟨0x60, e, i⟩ = u.rd ⟨0x60, e, i⟩ :=
    fun u => (wrap16_rd ..).trans (if_neg (by simp only [Key.mk.injEq]; omega))
  unfold State.storeConv
  split
  · rfl
  · dsimp only
    split
    · split
      · rw [readBack_rd, openWire_rd _ _ _ e043, count, modAdc_rd, modAdc_rd]
      · rw [modAdc_rd, modAdc_rd]
    · split
      · rw [passEnd_rd _ _ e018, mfFresh_rd, readBack_rd, record, checkLimit_rd, openWire_rd _ _ _ e043, count, modAdc_rd]
      · rw [mfFresh_rd, readBack_rd, record, checkLimit_rd, openWire_rd _ _ _ e043, count, modAdc_rd]
    · split
      · split
        · rw [finished, modAdc_rd, readBack_rd, injected, openWire_rd _ _ _ e043, count, modAdc_rd]
        · rw [readBack_rd, injected, openWire_rd _ _ _ e043, count, modAdc_rd]
      · rw [readBack_rd, injected, openWire_rd _ _ _ e043, count, modAdc_rd]

/-! ### The boundary (12 R330 to R332) -/

theorem hkCode_le (input : Nat) (v : Int) (vref : Nat) : hkCode input v vref ≤ 4095 := by
  unfold hkCode clampInt
  split_ifs <;> omega

theorem resultRecord_value {v code : Nat} (d open_ limit : Bool) (small : code ≤ 4095) : resultRecord v code d open_ limit / 65536 = v := by
  have bit : ∀ b, b2n b ≤ 1 := fun b => by cases b <;> decide
  have := bit d
  have := bit open_
  have := bit limit
  unfold resultRecord
  omega

theorem calValue_congr (rd : ∀ k, t.rd k = s.rd k) (h input code : Nat) : t.calValue h input code = s.calValue h input code := by
  simp only [State.calValue, rd]

theorem hkConversionBoundary_next (v0 v1 : Int) (internal board slot input e : Nat) (d : Bool) (s : State) (runs : s.hkRuns = true)
    (conv : s.hk.adc0.conv = some ⟨.regular slot, input, d, e⟩) (small : slot < 64) :
    ∃ t, exec (.hkConversionBoundary v0 v1 internal board) s = .next t ∧
      t.hk.tick = s.hk.tick + 1 ∧
      t.rd (K.convCount 0) = ((s.rdN (K.convCount 0) + 1) % 65536 : Nat) ∧
      (t.rdN (K.regResult slot) / 65536 = s.calValue 0 input (hkCode input v0 (if s.rd K.hkRef = 1 then board else internal))) := by
  let vref := if s.rd K.hkRef = 1 then board else internal
  let a := { s with hk := { s.hk with tick := s.hk.tick + 1 } }
  let b := a.boundary 0 (a.convCode 0 v0 vref)
  have run : exec (.hkConversionBoundary v0 v1 internal board) s = .next (b.boundary 1 (b.convCode 1 v1 vref)) :=
    congrArg Host.Outcome.next (when_true runs)
  have code : min (a.convCode 0 v0 vref) 4095 = hkCode input v0 vref := by
    have code : a.convCode 0 v0 vref = hkCode input v0 vref := by
      unfold State.convCode
      rw [show (a.adc 0).conv = some ⟨.regular slot, input, d, e⟩ from conv]
    rw [code, min_eq_left (hkCode_le ..)]
  obtain ⟨counted, open_, limit, stored⟩ := storeConv_regular (s := a) (h := 0) (code := hkCode input v0 vref) conv
  have value : a.calValue 0 input (hkCode input v0 vref) = s.calValue 0 input (hkCode input v0 vref) := calValue_congr (fun _ => rfl) ..
  refine ⟨_, run, ?_, ?_, ?_⟩
  · rw [boundary_tick, boundary_tick]
  · rw [boundary_rd _ _ _ (.inl rfl), storeConv_rd_other _ _ _ (.inl ⟨rfl, by decide⟩), boundary_rd _ _ _ (.inl rfl), code, counted]
    rfl
  · rw [State.rdN, boundary_rd _ _ _ (.inr rfl), storeConv_rd_other _ _ _ (.inr ⟨rfl, by omega⟩), boundary_rd _ _ _ (.inr rfl), code,
      ← Nat.zero_add slot, ← Nat.mul_zero 64, stored, Int.toNat_natCast, resultRecord_value _ _ _ (hkCode_le ..), value]

end Sys2Proof.Machine
end

section
/-! SUPPORT. Triggers, injected requests and calibration runs of the housekeeping converters (12 R332 to R337), and the obligation about
them. -/

namespace Sys2Proof.Machine

variable {s t : State} {h i : Nat}

/-! ### Triggers of the regular sequence (12 R333, R334) -/

theorem regTriggered_starts (on_ : s.on (K.hkEnable h) = true) (idle : (s.adc h).pass = none) (undue : (s.adc h).passDue = false) :
    ((s.regTriggered h).adc h).passDue = true := by
  unfold State.regTriggered
  rw [if_neg (by simp [on_]), if_neg (by simp [idle, undue]), modAdc_adc]

theorem regTriggered_overruns (on_ : s.on (K.hkEnable h) = true) (runs : (s.adc h).pass.isSome = true) :
    (s.regTriggered h).rd (K.regOverrun h) = (min (s.rdN (K.regOverrun h) + 1) max48 : Nat) := by
  unfold State.regTriggered
  rw [if_neg (by simp [on_]), if_pos (by simp [runs])]
  extract_lets u w quiet
  have missed : ∀ k, u.rd k = s.rd k := by
    intro k
    simp only [u]
    split
    · exact foldl_reading_other (read := fun s : State => s.rd k) (by intros; rfl) s
    · rfl
  have counted : w.rd (K.regOverrun h) = (min (s.rdN (K.regOverrun h) + 1) max48 : Nat) := by
    rw [bump_rd, if_pos rfl, State.rdN, missed]
    rfl
  clear_value w
  split
  · exact counted
  · rw [State.raise_rd, modAdc_rd, counted]

theorem hkRegStart_next (src h : Nat) (s : State) (ha : s.accepts src (K.regStart h)) (software : s.rd (K.regTrigger h) = 1)
    (on_ : s.on (K.hkEnable h) = true) (idle : (s.adc h).pass = none) (undue : (s.adc h).passDue = false) :
    ∃ t, exec (.hkRegStart src h) s = .next t ∧
      t.answered src .ok ∧
      (t.adc h).passDue = true := by
  have same : (s.accepted src).adc h = s.adc h := adc_congr (accepted_hk ..)
  refine ⟨_, rfl, ?_⟩
  rw [request_accepted s src ha]
  refine ⟨ack_answered .., ?_⟩
  rw [adc_congr (State.ack_hk ..), if_pos ((accepted_rd s src _ (by simp)).trans software)]
  exact regTriggered_starts (by rwa [State.on, accepted_rd s src _ (by simp)]) (by rw [same, idle]) (by rw [same, undue])

theorem hkRegTimer_next (h : Nat) (s : State) (converter : h < 2)
    (due : s.rd (K.regTrigger h) = 3 ∨ s.rd (K.regTrigger h) = 4 ∧ s.datumPhase h = true) (on_ : s.on (K.hkEnable h) = true) :
    ∃ t, exec (.hkRegTimer h) s = .next t ∧
      ((s.adc h).pass = none → (s.adc h).passDue = false → (t.adc h).passDue = true) ∧
      ((s.adc h).pass.isSome = true → t.rd (K.regOverrun h) = (min (s.rdN (K.regOverrun h) + 1) max48 : Nat)) :=
  ⟨_, congrArg Host.Outcome.next (when_true (by simpa [converter] using due)), regTriggered_starts on_, regTriggered_overruns on_⟩

/-! ### Injected requests (12 R335) -/

theorem injRequest_queues (on_ : s.on (K.hkEnable h) = true) (room : (s.adc h).injQ.length < 8) :
    ((s.injRequest h).adc h).injQ = (s.adc h).injQ ++ [false] ∧
    (s.injRequest h).rd (K.injQueue h) = ((s.adc h).injQ.length + 1 : Nat) := by
  unfold State.injRequest
  rw [if_neg (by simp [on_]), if_neg (by omega)]
  dsimp only
  rw [State.rd_wr_same, adc_congr (State.wr_hk ..), modAdc_adc]
  exact ⟨rfl, by rw [List.length_append]; rfl⟩

theorem injRequest_drops (on_ : s.on (K.hkEnable h) = true) (full : 8 ≤ (s.adc h).injQ.length) :
    (s.injRequest h).rd (K.injOverflow h) = 1 ∧ (s.injRequest h).rd (K.injDrop h) = (min (s.rdN (K.injDrop h) + 1) max48 : Nat) := by
  unfold State.injRequest
  rw [if_neg (by simp [on_]), if_pos full, State.raise_rd, State.raise_rd, State.rd_wr_same, State.rd_wr_other _ _ (by simp), bump_rd,
    if_pos rfl]
  exact ⟨rfl, rfl⟩

theorem injRequest_adc_other (s : State) (other : (i = 0) ≠ (h = 0)) : (s.injRequest h).adc i = s.adc i := by
  unfold State.injRequest
  split
  · rfl
  split
  · rw [adc_congr (State.raise_hk ..), adc_congr (State.wr_hk ..), adc_congr (bump_hk ..)]
  · dsimp only
    rw [adc_congr (State.wr_hk ..), modAdc_adc_other _ _ other]

theorem injRequest_rd (s : State) (h i : Nat) {e : Nat} (kept : e < 0x027) : (s.injRequest h).rd ⟨0x60, e, i⟩ = s.rd ⟨0x60, e, i⟩ :=
  (State.injRequest_leads s h (covers_refl _) (Leads.refl _ s)).rd_eq _ (by simp [Part.within]; omega)

theorem injStart_next (src h : Nat) (s : State) (ha : s.accepts src (K.injStart h)) (software : s.rd (K.injTrigger h) = 1)
    (on_ : s.on (K.hkEnable h) = true) (room : (s.adc h).injQ.length < 8) :
    ∃ t, exec (.injStart src h) s = .next t ∧
      t.answered src .ok ∧
      (t.adc h).injQ = (s.adc h).injQ ++ [false] ∧
      t.rd (K.injQueue h) = ((s.adc h).injQ.length + 1 : Nat) := by
  have same : (s.accepted src).adc h = s.adc h := adc_congr (accepted_hk ..)
  refine ⟨_, rfl, ?_⟩
  rw [request_accepted s src ha]
  refine ⟨ack_answered .., ?_⟩
  rw [adc_congr (State.ack_hk ..), State.ack_rd, if_pos ((accepted_rd s src _ (by simp)).trans software), ← same]
  exact injRequest_queues (by rwa [State.on, accepted_rd s src _ (by simp)]) (by rwa [same])

theorem injTimer_next (h : Nat) (s : State) (converter : h < 2) (timer : s.rd (K.injTrigger h) = 2) (on_ : s.on (K.hkEnable h) = true) :
    ∃ t, exec (.injTimer h) s = .next t ∧
      ((s.adc h).injQ.length < 8 → (t.adc h).injQ = (s.adc h).injQ ++ [false]) ∧
      (8 ≤ (s.adc h).injQ.length → t.rd (K.injOverflow h) = 1 ∧ t.rd (K.injDrop h) = (min (s.rdN (K.injDrop h) + 1) max48 : Nat)) :=
  ⟨_, congrArg Host.Outcome.next (when_true (by simp [converter, timer])), fun room => (injRequest_queues on_ room).1, injRequest_drops on_⟩

/-- ADC h selects the rising edges of GPIO pin g, and takes a request. -/
def State.takesEdge (s : State) (g h : Nat) : Prop :=
  s.rd (K.injTrigger h) = 4 ∧ s.rdN (K.injGpio h) = g ∧ s.on (K.hkEnable h) = true ∧ (s.adc h).injQ.length < 8

theorem takesEdge_injRequest {g : Nat} (takes : s.takesEdge g h) (other : (h = 0) ≠ (i = 0)) : (s.injRequest i).takesEdge g h := by
  unfold State.takesEdge State.rdN State.on at *
  rw [injRequest_rd s i h (by decide), injRequest_rd s i h (by decide), injRequest_rd s i h (by decide), injRequest_adc_other s other]
  exact takes

/-- What the edge of pin g does at ADC h. -/
def State.edgeAt (g : Nat) (s : State) (h : Nat) : State := if s.rd (K.injTrigger h) = 4 && s.rdN (K.injGpio h) = g then s.injRequest h else s

theorem edgeAt_same {g : Nat} (takes : s.takesEdge g h) : ((s.edgeAt g h).adc h).injQ = (s.adc h).injQ ++ [false] := by
  obtain ⟨trigger, pin, on_, room⟩ := takes
  unfold State.edgeAt
  rw [if_pos (by simp [trigger, pin]), (injRequest_queues on_ room).1]

theorem edgeAt_other (g : Nat) (s : State) (other : (h = 0) ≠ (i = 0)) :
    (s.edgeAt g i).adc h = s.adc h ∧ (s.takesEdge g h → (s.edgeAt g i).takesEdge g h) := by
  unfold State.edgeAt
  split
  · exact ⟨injRequest_adc_other s other, fun takes => takesEdge_injRequest takes other⟩
  · exact ⟨rfl, id⟩

theorem gpioRise_next (h g : Nat) (s : State) (converter : h < 2) (trigger : s.rd (K.injTrigger h) = 4) (pin : s.rdN (K.injGpio h) = g)
    (on_ : s.on (K.hkEnable h) = true) (room : (s.adc h).injQ.length < 8) :
    ∃ t, exec (.gpioRise g) s = .next t ∧
      (t.adc h).injQ = (s.adc h).injQ ++ [false] := by
  have takes : s.takesEdge g h := ⟨trigger, pin, on_, room⟩
  refine ⟨(s.edgeAt g 0).edgeAt g 1, rfl, ?_⟩
  obtain rfl | rfl : h = 0 ∨ h = 1 := by omega
  · rw [(edgeAt_other g _ (by decide)).1, edgeAt_same takes]
  · obtain ⟨same, still⟩ := edgeAt_other (h := 1) (i := 0) g s (by decide)
    rw [edgeAt_same (still takes), same]

theorem injOverflowClear_next (src h : Nat) (v : Int) (s : State) (ha : s.accepts src (K.injOverflow h)) :
    ∃ t, exec (.injOverflowClear src h v) s = .next t ∧
      t.answered src .ok ∧
      (t.rd (K.injOverflow h) = (if v = 0 then 0 else s.rd (K.injOverflow h))) := by
  refine ⟨_, rfl, ?_⟩
  rw [request_accepted s src ha]
  refine ⟨ack_answered .., ?_⟩
  rw [State.ack_rd]
  dsimp only
  split
  · rw [rwStore_rd_same _ _ _ _ (by simp)]
  · rw [accepted_rd s src _ (by simp)]

/-! ### The enable of a converter (12 R332) -/

theorem hkEnableEffect_off (off : s.on (K.hkEnable h) = false) : ((s.hkEnableEffect h).adc h).injQ = [] := by
  unfold State.hkEnableEffect
  rw [if_neg (by simp [off])]
  dsimp only
  split
  · rw [adc_congr (State.wr_hk ..), adc_congr (State.wr_hk ..), adc_congr (State.wr_hk ..), modAdc_adc]
  · rw [adc_congr (State.wr_hk ..), modAdc_adc]

theorem mfSyncAll_adc (s : State) (n h : Nat) : (s.mfSyncAll n).adc h = s.adc h :=
  foldl_reading_other (read := fun s : State => s.adc h) (by intros; rfl) s

theorem mfWatch_adc (s old : State) {k : Key} (converter : k.area = 0x60) (h : Nat) : (s.mfWatch old k).adc h = s.adc h := by
  unfold State.mfWatch
  dsimp only
  rw [if_pos converter]
  split
  · exact mfSyncAll_adc ..
  · split
    · exact mfSyncAll_adc ..
    · rfl

theorem hkEnableWrite_next (src h : Nat) (v : Int) (s : State) (ha : s.accepts src (K.hkEnable h)) :
    ∃ t, exec (.hkEnableWrite src h v) s = .next t ∧
      t.answered src .ok ∧
      t.rd (K.hkEnable h) = b2i (v ≠ 0) ∧
      (v = 0 → (t.adc h).injQ = []) := by
  let u := (rwEffect src (K.hkEnable h) v (s.accepted src)).1
  have stored : u.rd (K.hkEnable h) = b2i (v ≠ 0) := by
    rw [rwEffect_accepted_rd src v s (by simp [canonKey]) (by simp) (by simp), if_pos rfl]
    show (if v = 0 then 0 else 1) = _
    by_cases zero : v = 0 <;> simp [zero, b2i]
  refine ⟨_, rfl, ?_⟩
  rw [request_accepted s src ha]
  refine ⟨ack_answered .., ?_, fun zero => ?_⟩
  · rw [State.ack_rd, ← stored]
    exact (State.mfWatch_leads _ _ _ (by decide) (State.hkEnableEffect_leads u h (covers_refl _) (Leads.refl _ u))).rd_eq _
      (by simp [Part.within])
  · rw [adc_congr (State.ack_hk ..), mfWatch_adc _ _ rfl]
    refine hkEnableEffect_off ?_
    rw [State.on, stored, zero]
    rfl

/-! ### Calibration runs (12 R336, R337) -/

theorem calRequest_starts {step input : Nat} (on_ : s.on (K.hkEnable h) = true) (idle : (s.adc h).cal = none)
    (zeroed : step = 2 → (s.adc h).zero.any (fun z => z.1 = input) = true) :
    (s.calRequest h step input).2 = .ok ∧
    ((s.calRequest h step input).1.adc h).cal = some ⟨step, input, 0, 0, false⟩ ∧
    (step = 1 → ((s.calRequest h step input).1.adc h).zero = none) ∧
    (s.calRequest h step input).1.rd (K.hkCalState h) = 1 := by
  unfold State.calRequest
  rw [if_neg (by simp [on_]), if_neg (by simp [idle]), if_neg (by simpa using zeroed)]
  dsimp only
  rw [State.rd_wr_same, adc_congr (State.wr_hk ..), modAdc_adc]
  exact ⟨rfl, rfl, fun step => if_pos step, rfl⟩

/-- A request that asks for a run and meets its conditions. -/
theorem calRun_next {k : Key} {step input : Nat} (src h : Nat) (ha : s.accepts src k) (area : (K.hkEnable h).area ≠ 0x08)
    (on_ : s.on (K.hkEnable h) = true) (idle : (s.adc h).cal = none) (zeroed : step = 2 → (s.adc h).zero.any (fun z => z.1 = input) = true) :
    (s.request src k (fun s => s.calRequest h step input)).answered src .ok ∧
    ((s.request src k (fun s => s.calRequest h step input)).adc h).cal = some ⟨step, input, 0, 0, false⟩ ∧
    (step = 1 → ((s.request src k (fun s => s.calRequest h step input)).adc h).zero = none) ∧
    (s.request src k (fun s => s.calRequest h step input)).rd (K.hkCalState h) = 1 := by
  have same : (s.accepted src).adc h = s.adc h := adc_congr (accepted_hk ..)
  obtain ⟨status, run, zero, state⟩ := calRequest_starts (s := s.accepted src) (step := step) (input := input)
    (by rwa [State.on, accepted_rd s src _ area]) (by rw [same, idle]) (by rwa [same])
  rw [request_accepted s src ha, adc_congr (State.ack_hk ..), State.ack_rd]
  exact ⟨by rw [status]; exact ack_answered .., run, zero, state⟩

theorem hkSelfCal_next (src h : Nat) (s : State) (ha : s.accepts src (K.hkSelfCal h)) (on_ : s.on (K.hkEnable h) = true)
    (idle : (s.adc h).cal = none) :
    ∃ t, exec (.hkSelfCal src h) s = .next t ∧
      t.answered src .ok ∧
      (t.adc h).cal = some ⟨0, 0, 0, 0, false⟩ ∧
      t.rd (K.hkCalState h) = 1 := by
  obtain ⟨answered, run, -, state⟩ := calRun_next (step := 0) (input := 0) src h ha (by simp) on_ idle (by simp)
  exact ⟨_, rfl, answered, run, state⟩

theorem benchCancel_next (src h : Nat) (s : State) (ha : s.accepts src K.benchCmd) :
    ∃ t, exec (.benchCancel src h) s = .next t ∧
      t.answered src .ok ∧
      (t.adc (h % 2)).zero = none := by
  have means : ∀ u : State, u.benchCmd (h % 2 * 256) = (u.modAdc (h % 2) (fun a => { a with zero := none }), .ok) := by
    intro u
    unfold State.benchCmd
    rw [if_pos (by omega), show h % 2 * 256 / 256 % 2 = h % 2 by omega]
  refine ⟨_, rfl, ?_⟩
  rw [request_accepted s src ha, means]
  refine ⟨ack_answered .., ?_⟩
  rw [adc_congr (State.ack_hk ..), modAdc_adc]

/-- The fields of a bench command (12 R337) as a write of 60.030 takes them. -/
theorem clampKey_benchCmd {base step h input : Nat} (steps : step ≤ 2) (shifted : base = step * 16384) :
    (clampKey K.benchCmd (base + h % 2 * 256 + input % 128 : Nat)).toNat = step * 16384 + h % 2 * 256 + min (input % 128) 74 := by
  have word : fieldOf 16 ((base + h % 2 * 256 + input % 128 : Nat) : Int) = step * 16384 + h % 2 * 256 + input % 128 := by
    unfold fieldOf
    omega
  show (((min (fieldOf 16 _ / 16384) 2 * 16384 + fieldOf 16 _ / 256 % 2 * 256 + min (fieldOf 16 _ % 128) 74 : Nat) : Int)).toNat = _
  rw [word, Int.toNat_natCast]
  omega

/-- A step of a bench command that asks for a run. -/
theorem benchCmd_run (u : State) {base step h input : Nat} (steps : step = 1 ∨ step = 2) (shifted : base = step * 16384) :
    u.benchCmd (clampKey K.benchCmd (base + h % 2 * 256 + input % 128 : Nat)).toNat =
      u.calRequest (h % 2) step (min (input % 128) 74) := by
  rw [clampKey_benchCmd (by omega) shifted]
  unfold State.benchCmd
  have input_le : min (input % 128) 74 < 128 := by omega
  generalize min (input % 128) 74 = n at *
  rw [show (step * 16384 + h % 2 * 256 + n) / 256 % 2 = h % 2 by omega, show (step * 16384 + h % 2 * 256 + n) / 16384 = step by omega,
    show (step * 16384 + h % 2 * 256 + n) % 128 = n by omega, if_neg (by omega)]

theorem benchZero_next (src h input : Nat) (s : State) (ha : s.accepts src K.benchCmd) (on_ : s.on (K.hkEnable (h % 2)) = true)
    (idle : (s.adc (h % 2)).cal = none) :
    ∃ t, exec (.benchZero src h input) s = .next t ∧
      t.answered src .ok ∧
      (t.adc (h % 2)).cal = some ⟨1, min (input % 128) 74, 0, 0, false⟩ ∧
      (t.adc (h % 2)).zero = none := by
  obtain ⟨answered, run, zero, -⟩ :=
    calRun_next (step := 1) (input := min (input % 128) 74) src (h % 2) ha (by simp) on_ idle (by simp)
  refine ⟨_, congrArg Host.Outcome.next (?_ : _ = s.request src K.benchCmd (fun s => s.calRequest (h % 2) 1 (min (input % 128) 74))),
    answered, run, zero rfl⟩
  exact congrArg (s.request src K.benchCmd) (funext fun u => benchCmd_run u (.inl rfl) rfl)

theorem benchFull_next (src h input : Nat) (s : State) (ha : s.accepts src K.benchCmd) (on_ : s.on (K.hkEnable (h % 2)) = true)
    (idle : (s.adc (h % 2)).cal = none) (zeroed : (s.adc (h % 2)).zero.any (fun z => z.1 = min (input % 128) 74) = true) :
    ∃ t, exec (.benchFull src h input) s = .next t ∧
      t.answered src .ok ∧
      (t.adc (h % 2)).cal = some ⟨2, min (input % 128) 74, 0, 0, false⟩ := by
  obtain ⟨answered, run, -, -⟩ :=
    calRun_next (step := 2) (input := min (input % 128) 74) src (h % 2) ha (by simp) on_ idle (fun _ => zeroed)
  refine ⟨_, congrArg Host.Outcome.next (?_ : _ = s.request src K.benchCmd (fun s => s.calRequest (h % 2) 2 (min (input % 128) 74))), answered, run⟩
  exact congrArg (s.request src K.benchCmd) (funext fun u => benchCmd_run u (.inr rfl) rfl)

/-- The end of a run: it is over and idle, and one of self-calibration or ZERO has result 0. -/
theorem finishCal_ends {r : CalRun} (run : (s.adc h).cal = some r) (complete : r.length ≤ r.count) :
    ((s.finishCal h).adc h).cal = none ∧ (s.finishCal h).rd (K.hkCalState h) = 0 ∧
    (r.step ≤ 1 → (s.finishCal h).rd (K.calResult h) = 0) := by
  unfold State.finishCal
  split
  · next none_ => exact absurd (run.symm.trans none_) (by simp)
  next r' some_ =>
  obtain rfl := Option.some.inj (run.symm.trans some_)
  rw [if_neg (by omega)]
  extract_lets u m w x st
  have ended : (u.adc h).cal = none := by rw [adc_congr (State.wr_hk ..), modAdc_adc]
  have idle : u.rd (K.hkCalState h) = 0 := State.rd_wr_same ..
  have result : (st.adc h).cal = none ∧ st.rd (K.hkCalState h) = 0 ∧ (r.step ≤ 1 → st.rd (K.calResult h) = 0) := by
    simp only [st]
    clear_value u
    split
    · rw [adc_congr (State.wr_hk ..), State.rd_wr_other _ _ (by simp), State.rd_wr_same]
      exact ⟨ended, idle, fun _ => rfl⟩
    split
    · rw [adc_congr (State.wr_hk ..), modAdc_adc, State.rd_wr_other _ _ (by simp), modAdc_rd, State.rd_wr_same]
      exact ⟨ended, idle, fun _ => rfl⟩
    · have later : ¬r.step ≤ 1 := by omega
      refine ⟨?_, ?_, fun step => absurd step later⟩
      · split
        · rw [adc_congr (State.wr_hk ..), ended]
        · split
          · rw [adc_congr (State.wr_hk ..), modAdc_adc, ended]
          · rw [adc_congr (State.wr_hk ..), adc_congr (State.wr_hk ..), adc_congr (State.wr_hk ..), modAdc_adc, ended]
      · split
        · rw [State.rd_wr_other _ _ (by simp), idle]
        · split
          · rw [State.rd_wr_other _ _ (by simp), modAdc_rd, idle]
          · rw [State.rd_wr_other _ _ (by simp), State.rd_wr_other _ _ (by simp), State.rd_wr_other _ _ (by simp), modAdc_rd, idle]
  clear_value st
  rw [adc_congr (State.raise_hk ..), State.raise_rd, State.raise_rd]
  exact result

theorem hkCalDone_next (h : Nat) (r : CalRun) (s : State) (converter : h < 2) (run : (s.adc h).cal = some r)
    (complete : r.length ≤ r.count) :
    ∃ t, exec (.hkCalDone h) s = .next t ∧
      (t.adc h).cal = none ∧
      t.rd (K.hkCalState h) = 0 ∧
      (r.step ≤ 1 → t.rd (K.calResult h) = 0) :=
  ⟨_, congrArg Host.Outcome.next (when_true (by simp [converter])), finishCal_ends run complete⟩

/-- Settles O19: each clause is what its command's lemma above says. -/
theorem housekeepingAdcComplete : Obligations.HousekeepingAdcComplete :=
  ⟨hkConversionBoundary_next, hkRegStart_next, hkRegTimer_next, injStart_next, injTimer_next, gpioRise_next, injOverflowClear_next,
    hkEnableWrite_next, hkSelfCal_next, benchCancel_next, benchZero_next, benchFull_next, hkCalDone_next⟩

end Sys2Proof.Machine
end

section
/-! SUPPORT. Key operations and fuse programming (17 R423 to R439), and the obligations about them. -/

namespace Sys2Proof.Machine

variable {s t : State} {src op slot code vaux : Nat}

/-! ### An accepted request finds the fuses and keys as they were (09 R245) -/

@[simp] theorem accepted_blob (s : State) (src : Nat) (k : Key) : (s.accepted src).blob k = s.blob k := by rw [State.blob, accepted_blobs, State.blob]

@[simp] theorem accepted_root (s : State) (src j : Nat) : (s.accepted src).root j = s.root j := by rw [State.root, accepted_fuse, State.root]

@[simp] theorem accepted_rootKey (s : State) (src j : Nat) : (s.accepted src).rootKey j = s.rootKey j := by
  simp only [State.rootKey, accepted_flash, accepted_root]

@[simp] theorem accepted_tokenFault (s : State) (src : Nat) (token : List Byte) (op slot : Nat) (extra : List Byte) :
    (s.accepted src).tokenFault token op slot extra = s.tokenFault token op slot extra := by
  simp only [State.tokenFault, State.tokenMessage, State.serialBytes, accepted_sec, accepted_fuse, accepted_rootKey]
  rfl

@[simp] theorem accepted_certOk (s : State) (src : Nat) (c : List Byte) (slot : Nat) : (s.accepted src).certOk c slot = s.certOk c slot := by
  simp only [State.certOk, accepted_fuse, accepted_rootKey]

/-! ### The request and its gates (17 R423, R424, R429, R431) -/

/-- An accepted key command has the slot it names. -/
theorem keyCmd_accepted {f : Nat → State → State × Status} (ha : s.accepts src K.keyCmd) (ops : 1 ≤ op ∧ op ≤ 8) (slots : slot < 8) :
    keyCmd src op slot f s = (f slot (s.accepted src)).1.ack src (f slot (s.accepted src)).2 := by
  have word : fieldOf 16 ((op * 256 + slot % 256 : Nat) : Int) = op * 256 + slot := by
    unfold fieldOf
    omega
  have named : (clampKey K.keyCmd (op * 256 + slot % 256 : Nat)).toNat % 256 = slot := by
    show ((min (max (fieldOf 16 _ / 256) 1) 8 * 256 + min (fieldOf 16 _ % 256) 7 : Nat) : Int).toNat % 256 = _
    rw [word, Int.toNat_natCast]
    omega
  unfold keyCmd
  rw [named, request_accepted s src ha]

theorem keyFuse_idle {f : State → State × Status} (idle : s.sec.fuseOp = none) : s.keyFuse f = f s := if_neg (by simp [idle])

theorem keyAuth_free {f : State → State × Status} {extra : List Byte} (free : s.fuse.lifecycle ≤ 1) : s.keyAuth op slot true extra f = f s :=
  if_pos (by simp [free])

theorem keyAuth_token {f : State → State × Status} {extra : List Byte} (good : s.tokenFault (s.blob K.keyAuth) op slot extra = 0) :
    s.keyAuth op slot false extra f = f s.dropNonce := by
  unfold State.keyAuth
  rw [if_neg (by simp), good]
  rfl

theorem keyAuth_fault {f : State → State × Status} {extra : List Byte} (bad : s.tokenFault (s.blob K.keyAuth) op slot extra ≠ 0) :
    s.keyAuth op slot false extra f = s.dropNonce.keyEnd (4 + s.tokenFault (s.blob K.keyAuth) op slot extra) := by
  unfold State.keyAuth
  rw [if_neg (by simp)]
  split
  · contradiction
  · rfl

theorem keyEnd_zero (s : State) : s.keyEnd 0 = ((s.wr K.keyResult 0).raise Ev.keyChanged K.keyResult, .ok) := rfl

theorem keyEnd_code (s : State) (bad : code ≠ 0) : s.keyEnd code = (s.wr K.keyResult (code : Nat), .refused) := if_neg bad

theorem programAt_up {o : FuseOp} (up : 3200 ≤ vaux) : s.programAt vaux o = s.program o := if_neg (by omega)

/-! ### Root keys (17 R428, R429) -/

theorem enrollRoot_next (src slot vaux : Nat) (s : State) (ha : s.accepts src K.keyCmd) (idle : s.sec.fuseOp = none)
    (free : s.fuse.lifecycle ≤ 1) (slots : slot < 4) (open_ : (s.root slot).state = 0 ∨ (s.root slot).state = 3)
    (length : (s.blob K.keyStage).length = 1793) (up : 3200 ≤ vaux) :
    ∃ t, exec (.enrollRoot src slot vaux) s = .next t ∧
      (blownIn (s.root slot).digest (Config.shake256 (s.blob K.keyStage) 64) = true → t.answered src .ok ∧
        t.sec.fuseOp = some (.enroll slot (Config.shake256 (s.blob K.keyStage) 64))) ∧
      (blownIn (s.root slot).digest (Config.shake256 (s.blob K.keyStage) 64) = false → t.answered src .refused ∧ t.rd K.keyResult = 4 ∧
        t.fuse = s.fuse) := by
  refine ⟨_, rfl, fun fits => ?_, fun misfits => ?_⟩
  · rw [keyCmd_accepted ha (by decide) (by omega), keyFuse_idle (by rw [accepted_sec, idle]), accepted_blob,
      keyAuth_free (by rwa [accepted_fuse])]
    dsimp only
    rw [if_neg (by simp; omega), if_neg (by simp [length, fits]), if_neg (by omega)]
    exact ⟨ack_answered .., rfl⟩
  · rw [keyCmd_accepted ha (by decide) (by omega), keyFuse_idle (by rw [accepted_sec, idle]), accepted_blob,
      keyAuth_free (by rwa [accepted_fuse])]
    dsimp only
    rw [if_neg (by simp; omega), if_pos (by simp [misfits]), keyEnd_code _ (by decide)]
    exact ⟨ack_answered .., by rw [State.ack_rd, State.rd_wr_same]; rfl, accepted_fuse ..⟩

theorem revokeRoot_next (src slot vaux : Nat) (s : State) (ha : s.accepts src K.keyCmd) (idle : s.sec.fuseOp = none)
    (free : s.fuse.lifecycle ≤ 1) (slots : slot < 4)
    (revocable : (s.root slot).state = 3 ∨ ((s.root slot).state = 1 ∧ (List.range 4).any (fun i => i ≠ slot && (s.root i).state = 1) = true))
    (up : 3200 ≤ vaux) :
    ∃ t, exec (.revokeRoot src slot vaux) s = .next t ∧
      t.answered src .ok ∧
      t.sec.fuseOp = some (.revoke slot) := by
  have known : (s.root slot).state = 1 ∨ (s.root slot).state = 3 := by tauto
  have other : ¬(((s.root slot).state = 1 && !(List.range 4).any (fun i => i ≠ slot && (s.root i).state = 1)) = true) := by
    obtain failed | ⟨-, another⟩ := revocable
    · simp [failed]
    · rw [another, Bool.not_true, Bool.and_false]
      decide
  refine ⟨_, rfl, ?_⟩
  rw [keyCmd_accepted ha (by decide) (by omega), keyFuse_idle (by rw [accepted_sec, idle]), keyAuth_free (by rwa [accepted_fuse])]
  simp only [accepted_root]
  rw [if_neg (by simp; omega), if_neg other, programAt_up up]
  exact ⟨ack_answered .., rfl⟩

theorem installRootKey_next (src slot : Nat) (s : State) (ha : s.accepts src K.keyCmd) (slots : slot < 4)
    (enrolled : (s.root slot).state = 1) (flash : s.flash.present = true) :
    ∃ t, exec (.installRootKey src slot) s = .next t ∧
      (Config.shake256 (s.blob K.keyStage) 64 = (s.root slot).digest → t.answered src .ok ∧
        t.flash.rootKeys = s.flash.rootKeys.set slot (s.blob K.keyStage) ∧ t.rd K.keyResult = 0) ∧
      (Config.shake256 (s.blob K.keyStage) 64 ≠ (s.root slot).digest → t.answered src .refused ∧ t.flash = s.flash ∧
        t.rd K.keyResult = 4) := by
  refine ⟨_, rfl, fun fits => ?_, fun misfits => ?_⟩
  · rw [keyCmd_accepted ha (by decide) (by omega)]
    simp only [accepted_root, accepted_blob]
    rw [if_neg (by simp [enrolled]; omega), if_neg (by simp [fits]), keyEnd_zero, State.keyBlock, if_pos (by rwa [accepted_flash])]
    refine ⟨ack_answered .., ?_, ?_⟩
    · rw [State.ack_flash, State.raise_flash, State.wr_flash]
      exact congrArg (fun f : FlashState => f.rootKeys.set slot _) (accepted_flash ..)
    · rw [State.ack_rd, State.raise_rd, State.rd_wr_same]
  · rw [keyCmd_accepted ha (by decide) (by omega)]
    simp only [accepted_root, accepted_blob]
    rw [if_neg (by simp [enrolled]; omega), if_pos misfits, keyEnd_code _ (by decide)]
    exact ⟨ack_answered .., accepted_flash .., by rw [State.ack_rd, State.rd_wr_same]; rfl⟩

/-! ### Controller certificates (17 R435) -/

theorem installController_next (src slot : Nat) (s : State) (ha : s.accepts src K.keyCmd) (slots : slot < 8)
    (flash : s.flash.present = true) :
    ∃ t, exec (.installController src slot) s = .next t ∧
      (s.certOk (s.blob K.ctrlStage) slot = true → t.answered src .ok ∧ t.flash.certs = s.flash.certs.set slot (s.blob K.ctrlStage) ∧
        t.rd (K.ctrlState slot) = 1) ∧
      (s.certOk (s.blob K.ctrlStage) slot = false → t.answered src .refused ∧ t.flash = s.flash ∧ t.rd K.keyResult = 8) := by
  refine ⟨_, rfl, fun good => ?_, fun bad => ?_⟩
  · rw [keyCmd_accepted ha (by decide) slots]
    simp only [accepted_certOk, accepted_blob]
    rw [if_pos good, keyEnd_zero, State.keyBlock, if_pos (by rwa [accepted_flash])]
    refine ⟨ack_answered .., ?_, ?_⟩
    · rw [State.ack_flash, State.raise_flash, State.wr_flash, State.wr_flash]
      exact congrArg (fun f : FlashState => f.certs.set slot _) (accepted_flash ..)
    · rw [State.ack_rd, State.raise_rd, State.rd_wr_other _ _ (by simp), State.rd_wr_same]
  · rw [keyCmd_accepted ha (by decide) slots]
    simp only [accepted_certOk, accepted_blob]
    rw [if_neg (by simp [bad]), keyEnd_code _ (by decide)]
    exact ⟨ack_answered .., accepted_flash .., by rw [State.ack_rd, State.rd_wr_same]; rfl⟩

theorem removeController_next (src slot : Nat) (s : State) (ha : s.accepts src K.keyCmd) (slots : slot < 8) (free : s.fuse.lifecycle ≤ 1)
    (flash : s.flash.present = true) :
    ∃ t, exec (.removeController src slot) s = .next t ∧
      t.answered src .ok ∧
      t.flash.certs = s.flash.certs.set slot [] ∧
      t.rd (K.ctrlState slot) = 0 := by
  refine ⟨_, rfl, ?_⟩
  rw [keyCmd_accepted ha (by decide) slots, keyAuth_free (by rwa [accepted_fuse]), keyEnd_zero, State.keyBlock,
    if_pos (by rwa [accepted_flash])]
  refine ⟨ack_answered .., ?_, ?_⟩
  · rw [State.ack_flash, State.raise_flash, State.wr_flash, State.wr_flash]
    exact congrArg (fun f : FlashState => f.certs.set slot _) (accepted_flash ..)
  · rw [State.ack_rd, State.raise_rd, State.rd_wr_other _ _ (by simp), State.rd_wr_same]

/-! ### Versions (17 R433) and the signing policy (17 R439) -/

theorem commitSecver_next (src slot vaux : Nat) (s : State) (ha : s.accepts src K.keyCmd) (idle : s.sec.fuseOp = none) (slots : slot < 8)
    (higher : s.fuse.secverMin < min (mfest s.cores.running 12 4) 63) (up : 3200 ≤ vaux) :
    ∃ t, exec (.commitSecver src slot vaux) s = .next t ∧
      (s.tokenFault (s.blob K.keyAuth) 6 slot [] = 0 → t.answered src .ok ∧
        t.sec.fuseOp = some (.secver (min (mfest s.cores.running 12 4) 63)) ∧ t.sec.nonce = []) ∧
      (s.tokenFault (s.blob K.keyAuth) 6 slot [] ≠ 0 → t.answered src .refused ∧
        t.rd K.keyResult = (4 + s.tokenFault (s.blob K.keyAuth) 6 slot [] : Nat) ∧ t.sec.nonce = []) := by
  have same : (s.accepted src).dropNonce.fuse = s.fuse ∧ (s.accepted src).dropNonce.cores = s.cores := ⟨accepted_fuse .., accepted_cores ..⟩
  refine ⟨_, rfl, fun good => ?_, fun bad => ?_⟩
  · rw [keyCmd_accepted ha (by decide) slots, keyFuse_idle (by rw [accepted_sec, idle]),
      keyAuth_token (by rw [accepted_tokenFault, accepted_blob, good])]
    dsimp only
    rw [same.1, same.2, if_neg (by omega), programAt_up up]
    exact ⟨ack_answered .., rfl, rfl⟩
  · rw [keyCmd_accepted ha (by decide) slots, keyFuse_idle (by rw [accepted_sec, idle]),
      keyAuth_fault (by rwa [accepted_tokenFault, accepted_blob]), accepted_tokenFault, accepted_blob, keyEnd_code _ (by omega)]
    exact ⟨ack_answered .., State.rd_wr_same .., rfl⟩

theorem commitCtrlVersion_next (src slot vaux : Nat) (s : State) (ha : s.accepts src K.keyCmd) (idle : s.sec.fuseOp = none) (slots : slot < 8)
    (free : s.fuse.lifecycle ≤ 1) (higher : s.fuse.ctrlVerMin < min (beNat ((s.blob K.keyStage).take 4)) 31) (up : 3200 ≤ vaux) :
    ∃ t, exec (.commitCtrlVersion src slot vaux) s = .next t ∧
      t.answered src .ok ∧
      t.sec.fuseOp = some (.ctrlVer (min (beNat ((s.blob K.keyStage).take 4)) 31)) := by
  refine ⟨_, rfl, ?_⟩
  rw [keyCmd_accepted ha (by decide) slots, keyFuse_idle (by rw [accepted_sec, idle]), accepted_blob, keyAuth_free (by rwa [accepted_fuse])]
  dsimp only
  rw [accepted_fuse, if_neg (by omega), programAt_up up]
  exact ⟨ack_answered .., rfl⟩

/-- The signing policy with a token that holds: the conditions of 17 R439, in their order, and then the programming. -/
theorem fuseSignPolicy_token (ha : s.accepts src K.keyCmd) (idle : s.sec.fuseOp = none) (slots : slot < 8)
    (good : s.tokenFault (s.blob K.keyAuth) 8 slot [] = 0) :
    ∃ u : State, u.fuse = s.fuse ∧ (∀ i, u.rd (K.ctrlState i) = s.rd (K.ctrlState i)) ∧ u.sec.fuseOp = none ∧
      ∃ r, exec (.fuseSignPolicy src slot vaux) s = .next (r.1.ack src r.2) ∧
        r = if s.fuse.lifecycle ≠ 1 && s.fuse.lifecycle ≠ 2 then u.keyEnd 0x0B
          else if !(List.range 8).any (fun i => s.rd (K.ctrlState i) = 1) then u.keyEnd 0x0A
          else u.programAt vaux .signPolicy := by
  have fuses : (s.accepted src).dropNonce.fuse = s.fuse := accepted_fuse ..
  have states : ∀ i, (s.accepted src).dropNonce.rd (K.ctrlState i) = s.rd (K.ctrlState i) := fun i => accepted_rd s src _ (by simp)
  refine ⟨(s.accepted src).dropNonce, fuses, states, (congrArg SecState.fuseOp (accepted_sec s src)).trans idle, _, ?_, rfl⟩
  refine congrArg Host.Outcome.next ?_
  rw [keyCmd_accepted ha (by decide) slots, keyFuse_idle (by rw [accepted_sec, idle]),
    keyAuth_token (by rw [accepted_tokenFault, accepted_blob, good])]
  simp only [fuses, states]

theorem fuseSignPolicy_fault (ha : s.accepts src K.keyCmd) (idle : s.sec.fuseOp = none) (slots : slot < 8)
    (bad : s.tokenFault (s.blob K.keyAuth) 8 slot [] ≠ 0) :
    ∃ t, exec (.fuseSignPolicy src slot vaux) s = .next t ∧ t.answered src .refused ∧ t.fuse = s.fuse ∧ t.sec.fuseOp = none := by
  refine ⟨_, rfl, ?_⟩
  rw [keyCmd_accepted ha (by decide) slots, keyFuse_idle (by rw [accepted_sec, idle]),
    keyAuth_fault (by rwa [accepted_tokenFault, accepted_blob]), keyEnd_code _ (by omega)]
  exact ⟨ack_answered .., accepted_fuse .., (congrArg SecState.fuseOp (accepted_sec s src)).trans idle⟩

theorem fuseSignPolicy_next (src slot vaux : Nat) (s : State) (ha : s.accepts src K.keyCmd) (idle : s.sec.fuseOp = none) (slots : slot < 8)
    (stage : s.fuse.lifecycle = 1 ∨ s.fuse.lifecycle = 2) (valid : (List.range 8).any (fun i => s.rd (K.ctrlState i) = 1) = true)
    (up : 3200 ≤ vaux) :
    ∃ t, exec (.fuseSignPolicy src slot vaux) s = .next t ∧
      (s.tokenFault (s.blob K.keyAuth) 8 slot [] = 0 → t.answered src .ok ∧ t.sec.fuseOp = some .signPolicy) ∧
      (s.tokenFault (s.blob K.keyAuth) 8 slot [] ≠ 0 → t.answered src .refused ∧ t.fuse = s.fuse) := by
  by_cases good : s.tokenFault (s.blob K.keyAuth) 8 slot [] = 0
  · obtain ⟨u, -, -, -, r, run, means⟩ := fuseSignPolicy_token (vaux := vaux) ha idle slots good
    rw [if_neg (by simp; omega), if_neg (by rw [valid]; decide), programAt_up up] at means
    subst means
    exact ⟨_, run, fun _ => ⟨ack_answered .., rfl⟩, fun bad => absurd good bad⟩
  · obtain ⟨t, run, answered, fuses, -⟩ := fuseSignPolicy_fault (vaux := vaux) ha idle slots good
    exact ⟨t, run, fun fine => absurd fine good, fun _ => ⟨answered, fuses⟩⟩

/-- A code that a key operation ends with is answered REFUSED, and programs nothing. -/
theorem keyEnd_refuses {u : State} (idle : u.sec.fuseOp = none) (bad : code ≠ 0) :
    ((u.keyEnd code).1.ack src (u.keyEnd code).2).answered src .refused ∧
    ((u.keyEnd code).1.ack src (u.keyEnd code).2).sec.fuseOp = none ∧
    ((u.keyEnd code).1.ack src (u.keyEnd code).2).rd K.keyResult = (code : Nat) := by
  rw [keyEnd_code _ bad]
  exact ⟨ack_answered .., idle, State.rd_wr_same ..⟩

/-- Settles O55: a token that fails answers its own code; one that holds leaves the code of the condition that is not met. -/
theorem signPolicyConditions : Obligations.SignPolicyConditions := by
  refine ⟨fun src slot vaux s ha idle slots blankless fieldless => ?_, fun src slot vaux s ha idle slots stage invalid => ?_⟩
  · by_cases good : s.tokenFault (s.blob K.keyAuth) 8 slot [] = 0
    · obtain ⟨u, -, -, free, r, run, means⟩ := fuseSignPolicy_token (vaux := vaux) ha idle slots good
      rw [if_pos (by simp [blankless, fieldless])] at means
      subst means
      obtain ⟨answered, idle, result⟩ := keyEnd_refuses (src := src) (code := 0x0B) free (by decide)
      exact ⟨_, run, answered, idle, fun _ => result⟩
    · obtain ⟨t, run, answered, -, idle⟩ := fuseSignPolicy_fault (vaux := vaux) ha idle slots good
      exact ⟨t, run, answered, idle, fun fine => absurd fine good⟩
  · by_cases good : s.tokenFault (s.blob K.keyAuth) 8 slot [] = 0
    · obtain ⟨u, -, -, free, r, run, means⟩ := fuseSignPolicy_token (vaux := vaux) ha idle slots good
      rw [if_neg (by simp; omega), if_pos (by rw [invalid]; decide)] at means
      subst means
      obtain ⟨answered, idle, result⟩ := keyEnd_refuses (src := src) (code := 0x0A) free (by decide)
      exact ⟨_, run, answered, idle, fun _ => result⟩
    · obtain ⟨t, run, answered, -, idle⟩ := fuseSignPolicy_fault (vaux := vaux) ha idle slots good
      exact ⟨t, run, answered, idle, fun fine => absurd fine good⟩

/-! ### The end of programming (17 R423, R427) -/

theorem keyEnd_keeps (s : State) (code : Nat) : (s.keyEnd code).1.fuse = s.fuse ∧ (s.keyEnd code).1.sec = s.sec := by
  have follows := (State.keyEnd_leads s code (covers_refl _) (Leads.refl _ s)).1.2
  exact ⟨follows .fuse (by decide), follows .sec (by decide)⟩

theorem checkCerts_keeps (s : State) : s.checkCerts.fuse = s.fuse ∧ s.checkCerts.sec = s.sec :=
  ⟨foldl_reading_other (read := State.fuse) (by intros; rfl) s, foldl_reading_other (read := State.sec) (by intros; rfl) s⟩

/-- With nothing being programmed a reset leaves the fuses as they were, and still nothing being programmed. -/
theorem enterReset_idle (cause detail : Nat) (idle : s.sec.fuseOp = none) :
    (s.enterReset cause detail).fuse = s.fuse ∧ (s.enterReset cause detail).sec.fuseOp = none := by
  have cut : s.cutFuses = s.fuse := by
    unfold State.cutFuses
    rw [idle]
  refine ⟨?_, ?_⟩
  · rw [← cut]
    rfl
  · rfl

theorem fuseProgrammingDone_next (ok : Bool) (o : FuseOp) (s : State) (runs : s.sec.fuseOp = some o) :
    ∃ t, exec (.fuseProgrammingDone ok) s = .next t ∧
      t.sec.fuseOp = none ∧
      (ok = true → t.fuse = s.fuse.blown s.flash.idPub o) ∧
      (ok = false → t.fuse = s.cutFuses) := by
  refine ⟨_, rfl, ?_⟩
  rw [runs]
  cases ok
  case true =>
    dsimp only
    rw [if_pos rfl]
    generalize blown : ({ s with fuse := s.fuse.blown s.flash.idPub o, sec := { s.sec with fuseOp := none } } : State) = u
    have fuses : u.fuse = s.fuse.blown s.flash.idPub o := by rw [← blown]
    have idle : u.sec.fuseOp = none := by rw [← blown]
    have ends : ∀ w : State, w.sec.fuseOp = none → w.fuse = u.fuse → w.sec.fuseOp = none ∧
        (true = true → w.fuse = s.fuse.blown s.flash.idPub o) ∧ (true = false → w.fuse = s.cutFuses) :=
      fun w idle same => ⟨idle, fun _ => same.trans fuses, by simp⟩
    split
    · next t src =>
      obtain ⟨same, idle⟩ := enterReset_idle (s := u.wr K.lcResult 0) 6 src idle
      exact ends _ idle same
    · exact ends _ idle rfl
    · obtain ⟨same, sec⟩ := keyEnd_keeps u.checkCerts 0
      exact ends _ (by rw [sec, (checkCerts_keeps u).2, idle]) (by rw [same, (checkCerts_keeps u).1])
    · obtain ⟨same, sec⟩ := keyEnd_keeps u.checkCerts 0
      exact ends _ (by rw [sec, (checkCerts_keeps u).2, idle]) (by rw [same, (checkCerts_keeps u).1])
    · obtain ⟨same, sec⟩ := keyEnd_keeps u 0
      exact ends _ (by rw [sec, idle]) same
  case false =>
    dsimp only
    rw [if_neg (by simp)]
    generalize cut : ({ s with fuse := s.cutFuses, sec := { s.sec with fuseOp := none }, freeCtr := s.freeCtr + 65 } : State) = u
    have fuses : u.fuse = s.cutFuses := by rw [← cut]
    have idle : u.sec.fuseOp = none := by rw [← cut]
    have ends : ∀ w : State, w.sec.fuseOp = none → w.fuse = u.fuse → w.sec.fuseOp = none ∧
        (false = true → w.fuse = s.fuse.blown s.flash.idPub o) ∧ (false = false → w.fuse = s.cutFuses) :=
      fun w idle same => ⟨idle, by simp, fun _ => same.trans fuses⟩
    split
    · exact ends _ idle rfl
    · obtain ⟨same, sec⟩ := keyEnd_keeps u 0x0E
      exact ends _ (by rw [sec, idle]) same

/-- Settles O40: each clause is what its command's lemma above says. -/
theorem keyOperationsComplete : Obligations.KeyOperationsComplete :=
  ⟨enrollRoot_next, revokeRoot_next, installRootKey_next, installController_next, removeController_next, commitSecver_next,
    commitCtrlVersion_next, fuseSignPolicy_next, fuseProgrammingDone_next⟩

end Sys2Proof.Machine
end

section
/-! SUPPORT. The lifecycle, the identity and attestation (17 R425 to R427, R440 to R443), and the obligation about them. -/

namespace Sys2Proof.Machine

variable {s t : State} {src vaux : Nat}

/-! ### Lifecycle (17 R426, R427) -/

@[simp] theorem accepted_lcRefusal (s : State) (src target vaux : Nat) : (s.accepted src).lcRefusal target vaux = s.lcRefusal target vaux := by
  simp only [State.lcRefusal, accepted_fuse, accepted_tokenFault, accepted_blob, accepted_root, accepted_rd s src K.idState (by simp)]

/-- The nonce is dropped where an attempt used it, and nothing else changes. -/
theorem nonceUsed_keeps (u : State) (used : Bool) :
    (if used then u.dropNonce else u).fuse = u.fuse ∧ (if used then u.dropNonce else u).sec.fuseOp = u.sec.fuseOp := by
  cases used <;> exact ⟨rfl, rfl⟩

theorem lcTransition_next (src : Nat) (v : Int) (vaux target : Nat) (s : State) (ha : s.accepts src K.lcTransition)
    (idle : s.sec.fuseOp = none) (named : target = (if 1 ≤ v ∧ v ≤ 4 then v.toNat else 0)) :
    ∃ t, exec (.lcTransition src v vaux) s = .next t ∧
      ((s.lcRefusal target vaux).1 = 0 → t.answered src .ok ∧ t.sec.fuseOp = some (.lifecycle target src)) ∧
      ((s.lcRefusal target vaux).1 ≠ 0 → t.answered src .refused ∧ t.rd K.lcResult = ((s.lcRefusal target vaux).1 : Nat) ∧
        t.fuse = s.fuse) := by
  have target_eq : (if 1 ≤ v && v ≤ 4 then v.toNat else 0) = target := by rw [named]; simp
  refine ⟨_, rfl, ?_⟩
  rw [request_accepted s src ha, accepted_sec, if_neg (by simp [idle])]
  dsimp only
  rw [target_eq, accepted_lcRefusal]
  obtain ⟨fuses, -⟩ := nonceUsed_keeps (s.accepted src) (s.lcRefusal target vaux).2
  generalize (if (s.lcRefusal target vaux).2 = true then (s.accepted src).dropNonce else s.accepted src) = u at fuses
  refine ⟨fun allowed => ?_, fun refused => ?_⟩
  · rw [if_pos allowed]
    exact ⟨ack_answered .., rfl⟩
  · rw [if_neg refused]
    refine ⟨ack_answered .., ?_, ?_⟩
    · rw [State.ack_rd, State.raise_rd, State.rd_wr_same]
    · rw [State.ack_fuse, State.raise_fuse, State.wr_fuse, fuses, accepted_fuse]

/-! ### Identity (17 R440) -/

theorem idGenerate_next (src vaux : Nat) (s : State) (ha : s.accepts src K.idGenerate) (idle : s.sec.fuseOp = none)
    (unsealed : s.fuse.idSeal = false) (manufacture : s.fuse.lifecycle = 1) (up : 3200 ≤ vaux) :
    ∃ t, exec (.idGenerate src vaux) s = .next t ∧
      t.answered src .ok ∧
      t.sec.fuseOp = some .identity ∧
      (s.flash.present = true → s.flash.identity = none → t.flash.identity.isSome = true) := by
  refine ⟨_, rfl, ?_⟩
  rw [request_accepted s src ha, accepted_sec, accepted_fuse, accepted_flash, if_neg (by simp [idle]), if_neg (by simp [unsealed]),
    if_neg (by simp [manufacture]), if_neg (by omega)]
  split
  · refine ⟨ack_answered .., rfl, fun present _ => ?_⟩
    dsimp only
    unfold State.keyBlock
    rw [State.tookFree_flash, if_pos (by rwa [accepted_flash])]
    rfl
  · next stored =>
    exact ⟨ack_answered .., rfl, fun _ none_ => absurd (by simp [none_]) stored⟩

/-! ### Nonces (17 R430) -/

theorem nonceExpire_next (s : State) : ∃ t, exec (.nonceExpire) s = .next t ∧ t.sec.nonce = [] := ⟨_, rfl, rfl⟩

/-! ### Attestation (17 R442) -/

theorem attRequest_next (src : Nat) (s : State) (ha : s.accepts src K.attRequest) :
    ∃ t, exec (.attRequest src) s = .next t ∧
      (s.rd K.attState = 1 → t.answered src .refused ∧ t.rd K.attRefusal = 1) ∧
      (s.rd K.attState ≠ 1 → s.rd K.idState ≠ 1 → t.answered src .refused ∧ t.rd K.attState = 3 ∧ t.rd K.attRefusal = 2) ∧
      (s.rd K.attState ≠ 1 → s.rd K.idState = 1 → t.answered src .ok ∧ t.rd K.attState = 1 ∧ t.sec.att = (s.accepted src).attReport) := by
  refine ⟨_, rfl, ?_⟩
  rw [request_accepted s src ha, accepted_rd s src K.attState (by simp), accepted_rd s src K.idState (by simp)]
  refine ⟨fun busy => ?_, fun free nameless => ?_, fun free named => ?_⟩
  · rw [if_pos busy]
    exact ⟨ack_answered .., by rw [State.ack_rd, State.rd_wr_same]⟩
  · rw [if_neg free, if_pos nameless, State.ack_rd, State.ack_rd]
    exact ⟨ack_answered .., by rw [State.rd_wr_other _ _ (by simp), State.rd_wr_same], by rw [State.rd_wr_same]⟩
  · rw [if_neg free, if_neg (not_not.2 named), State.ack_rd]
    exact ⟨ack_answered .., by rw [State.rd_wr_other _ _ (by simp), State.rd_wr_same], rfl⟩

theorem attReady_next (seed : Nat) (tweak : Bool) (s : State) (busy : s.rd K.attState = 1) (named : s.flash.identity = some (seed, tweak)) :
    ∃ t, exec (.attReady) s = .next t ∧
      t.rd K.attState = 2 ∧
      (t.blob K.attReport).take s.sec.att.length = s.sec.att := by
  refine ⟨_, congrArg Host.Outcome.next (when_true (by simpa using busy)), ?_⟩
  rw [named]
  dsimp only
  refine ⟨?_, ?_⟩
  · rw [State.raise_rd, State.rd_wr_same]
  · show (State.blob (State.setBlob _ _ _) _).take _ = _
    rw [State.blob_setBlob_same, List.append_assoc, List.take_left]

/-- Settles O41: each clause is what its command's lemma above says. -/
theorem lifecycleAndIdentityComplete : Obligations.LifecycleAndIdentityComplete :=
  ⟨lcTransition_next, idGenerate_next, nonceExpire_next, attRequest_next, attReady_next⟩

end Sys2Proof.Machine
end

section
/-! SUPPORT. Resets as they are shown (18 R448), repair, scrubbing and the fault log (16 R406 to R415), and the obligation about them. -/

namespace Sys2Proof.Machine

variable {s t : State}

/-! ### A reset is shown (18 R448) -/

theorem enterReset_eq (s : State) (cause detail : Nat) : ∃ (u : State) (n : Int), s.enterReset cause detail =
    (((((u.wr K.deviceState devReset).wr K.resetCause (cause : Nat)).wr K.resetOther 0).wr K.resetDetail (detail : Nat)).wr K.resetTime 0).wr
      (K.resetCount (cause - 1)) n := ⟨_, _, rfl⟩

theorem enterReset_shown (s : State) (cause detail : Nat) : (s.enterReset cause detail).rd K.deviceState = devReset ∧
    (s.enterReset cause detail).rd K.resetCause = (cause : Nat) ∧ (s.enterReset cause detail).rd K.resetDetail = (detail : Nat) := by
  obtain ⟨u, n, eq⟩ := enterReset_eq s cause detail
  rw [eq]
  refine ⟨?_, ?_, ?_⟩
  · rw [State.rd_wr_other _ _ (by simp), State.rd_wr_other _ _ (by simp), State.rd_wr_other _ _ (by simp), State.rd_wr_other _ _ (by simp),
      State.rd_wr_other _ _ (by simp), State.rd_wr_same]
  · rw [State.rd_wr_other _ _ (by simp), State.rd_wr_other _ _ (by simp), State.rd_wr_other _ _ (by simp), State.rd_wr_other _ _ (by simp),
      State.rd_wr_same]
  · rw [State.rd_wr_other _ _ (by simp), State.rd_wr_other _ _ (by simp), State.rd_wr_same]

/-! ### A line is whole again -/

@[simp] theorem bump_integ (s : State) (k : Key) : (s.bump k).integ = s.integ :=
  (State.bump_leads s k (covers_refl _) (Leads.refl _ s)).1.2 .integ (by simp [Part.within])

theorem lineGood_bad (s : State) (mem line : Nat) : (s.lineGood mem line).lineBad mem line = false := by
  simp [State.lineBad, State.lineGood]

/-! ### Refetch (16 R406, R407) -/

theorem refetchLine_whole {c line : Nat} (whole : s.refetchLine c line = some t) :
    t.integ.refetch = s.integ.refetch ∧ t.lineBad c line = false := by
  have good : ∀ u : State, u.integ = s.integ → (u.lineGood c line).integ.refetch = s.integ.refetch := fun u same => by
    rw [← same]
    rfl
  unfold State.refetchLine at whole
  dsimp only at whole
  split at whole
  · obtain rfl := Option.some.inj whole
    exact ⟨good _ rfl, lineGood_bad ..⟩
  · split at whole
    · obtain rfl := Option.some.inj whole
      rw [State.lineBad, bump_integ]
      exact ⟨good _ rfl, lineGood_bad ..⟩
    · cases whole

theorem refetchBad_shown (s : State) (c line : Nat) :
    (s.refetchBad c line).rd K.deviceState = devReset ∧ (s.refetchBad c line).rd K.resetCause = 4 := by
  obtain ⟨state, cause, -⟩ := enterReset_shown
    { s.raise Ev.intRefetchDigest noKey with
      aon := { (s.raise Ev.intRefetchDigest noKey).aon with
        intResets := ((s.raise Ev.intRefetchDigest noKey).datum :: (s.raise Ev.intRefetchDigest noKey).aon.intResets).take 3 } }
    4 (c % 65536 * 65536 + line % 65536)
  exact ⟨state, cause⟩

theorem refetchDone_next (c line : Nat) (rest : List (Nat × Nat)) (s : State) (waits : s.integ.refetch = (c, line) :: rest) :
    ∃ t, exec (.refetchDone) s = .next t ∧
      ((({ s with integ := { s.integ with refetch := rest } } : State).refetchLine c line).isSome = true →
        t.integ.refetch = rest ∧ t.lineBad c line = false) ∧
      ((({ s with integ := { s.integ with refetch := rest } } : State).refetchLine c line) = none →
        t.rd K.deviceState = devReset ∧ t.rd K.resetCause = 4) := by
  refine ⟨_, rfl, ?_⟩
  rw [waits]
  dsimp only
  split
  · next u whole =>
    rw [whole]
    exact ⟨fun _ => refetchLine_whole whole, by simp⟩
  · next none_ =>
    rw [none_]
    exact ⟨by simp, fun _ => refetchBad_shown _ c line⟩

/-! ### Rebuild from the journal (16 R409) -/

/-- Elements written one after the other, each with the value that its key has: what they read. -/
theorem foldl_wr_key_rd (f : Key → Int) (l : List Key) (s : State) (k : Key) :
    (l.foldl (fun s k => s.wr k (f k)) s).rd k = if k ∈ l then f k else s.rd k := by
  induction l generalizing s with
  | nil => rfl
  | cons j l ih =>
    rw [List.foldl_cons, ih, wr_rd]
    by_cases here : k = j
    · simp [here]
    · simp [here]

theorem foldl_wr_key_integ (f : Key → Int) (l : List Key) (s : State) : (l.foldl (fun s k => s.wr k (f k)) s).integ = s.integ :=
  foldl_reading_other (read := State.integ) (by intros; rfl) s

theorem intLegendRebuilt_next (keys : List Key) (line : Nat) (rest : List Nat) (s : State) (waits : s.integ.rebuilding = line :: rest)
    (good : s.ed.journalA.good = true) :
    ∃ t, exec (.intLegendRebuilt keys) s = .next t ∧
      t.integ.rebuilding = rest ∧
      t.lineBad 0x300 line = false ∧
      (∀ k ∈ keys, (rowOf k).any (fun r => decide (k.idx < r.count) && (r.access = .ed || r.access = .rw) && r.type ≠ .blob) = true →
        t.rd k = s.ed.journalA.value k) := by
  refine ⟨_, rfl, ?_⟩
  rw [waits]
  dsimp only
  rw [if_pos good]
  dsimp only
  refine ⟨?_, ?_, fun k chosen held => ?_⟩
  · rw [State.raise_integ, State.lineGood, foldl_wr_key_integ]
  · rw [State.lineBad, State.raise_integ]
    exact lineGood_bad ..
  · rw [State.raise_rd]
    refine (foldl_wr_key_rd ..).trans (if_pos ?_)
    exact List.mem_filter.2 ⟨chosen, held⟩

/-! ### Derived tables (16 R408) -/

theorem derivedRepairDone_next (mem line : Nat) (rest : List (Nat × Nat)) (s : State) (waits : s.integ.repairs = (mem, line) :: rest) :
    ∃ t, exec (.derivedRepairDone) s = .next t ∧
      t.integ.repairs = rest ∧
      t.lineBad mem line = false ∧
      (line = 2 ^ 24 → t.integ.bad.any (fun b => b.1 = mem) = false) := by
  refine ⟨_, rfl, ?_⟩
  rw [waits]
  dsimp only
  split
  · exact ⟨rfl, by simp [State.lineBad], fun _ => by simp⟩
  · next single => exact ⟨rfl, lineGood_bad .., fun table => absurd table single⟩

/-! ### Scrubbing and the fault log (16 R414, R415) -/

theorem scrubPass_clean_next (s : State) (operates : s.operational = true) :
    ∃ t, exec (.scrubPass []) s = .next t ∧
      t.rd K.scrubPasses = ((s.rdN K.scrubPasses + 1) % 2 ^ 48 : Nat) :=
  ⟨_, congrArg Host.Outcome.next (when_true operates), (wrapN_rd ..).trans (if_pos rfl)⟩

theorem scrubbed_journalB (s : State) (line item : Nat) : ∃ u : State, u = (s.mismatch 0x311 line 4).bump K.scrubFound ∧
    s.scrubbed (0x311, line, item) = { u with ed := { u.ed with journalB := { u.ed.journalB with good := false } } } := ⟨_, rfl, rfl⟩

theorem scrubPass_journalB_next (line item : Nat) (s : State) (operates : s.operational = true) :
    ∃ t, exec (.scrubPass [(0x311, line, item)]) s = .next t ∧
      t.rd K.scrubPasses = ((s.rdN K.scrubPasses + 1) % 2 ^ 48 : Nat) ∧
      t.rd K.scrubFound = (min (s.rdN K.scrubFound + 1) max48 : Nat) ∧
      t.ed.journalB.good = false := by
  have logged : ∀ e, e ≠ 0x000 ∧ e ≠ 0x001 ∧ e ≠ 0x002 → (s.mismatch 0x311 line 4).rd ⟨0x78, e, 0⟩ = s.rd ⟨0x78, e, 0⟩ := fun e kept =>
    (State.mismatch_leads s 0x311 line 4 (covers_refl _) (Leads.refl _ s)).rd_eq _ (by simp [Part.within, kept])
  obtain ⟨u, found, scrubbed⟩ := scrubbed_journalB s line item
  have passes : (s.scrubbed (0x311, line, item)).rd K.scrubPasses = s.rd K.scrubPasses := by
    rw [scrubbed]
    show u.rd K.scrubPasses = _
    rw [found, bump_rd, if_neg (by simp), logged _ (by decide)]
  have counted : (s.scrubbed (0x311, line, item)).rd K.scrubFound = (min (s.rdN K.scrubFound + 1) max48 : Nat) := by
    rw [scrubbed]
    show u.rd K.scrubFound = _
    rw [found, bump_rd, if_pos rfl, State.rdN, logged _ (by decide)]
    rfl
  have bad : (s.scrubbed (0x311, line, item)).ed.journalB.good = false := by rw [scrubbed]
  refine ⟨_, congrArg Host.Outcome.next (when_true operates), ?_, ?_, ?_⟩
  · rw [List.foldl_cons, List.foldl_nil, wrapN_rd, if_pos rfl, State.rdN, passes]
    rfl
  · rw [List.foldl_cons, List.foldl_nil, wrapN_rd, if_neg (by simp), counted]
  · rw [List.foldl_cons, List.foldl_nil, ← bad]
    exact congrArg (fun e : EditionState => e.journalB.good) ((State.wrapN_leads _ _ _ (covers_refl _) (Leads.refl _ _)).1.2 .ed (by simp [Part.within]))

theorem faultLogClear_next (src : Nat) (s : State) (ha : s.accepts src K.faultLogClear) :
    ∃ t, exec (.faultLogClear src) s = .next t ∧
      t.answered src .ok ∧
      t.aon.log = [] := by
  refine ⟨_, rfl, ?_⟩
  rw [request_accepted s src ha]
  exact ⟨ack_answered .., rfl⟩

/-- Settles O36: each clause is what its command's lemma above says. -/
theorem integrityComplete : Obligations.IntegrityComplete :=
  ⟨refetchDone_next, intLegendRebuilt_next, derivedRepairDone_next, scrubPass_clean_next, scrubPass_journalB_next, faultLogClear_next⟩

end Sys2Proof.Machine
end

section
/-! SUPPORT. The slices and the tests on request (16 R419 to R421), and the obligation about them. -/

namespace Sys2Proof.Machine

variable {s t : State}

/-! ### Slices (16 R419) -/

/-- The verdicts of a round as 79.011 gives them. -/
def State.verdicts (s : State) (mask : Nat) : Nat :=
  b2n (bitOf mask 0) + b2n s.boot.spareFailed * 2 + b2n s.boot.sensorFailed * 4 + b2n (bitOf mask 3) * 8 +
    b2n (bitOf mask 4 && s.rd K.aonSource = 0) * 16

/-- The failures of a round are counted and raised. -/
def countFailures (m : Nat) (u : State) : State :=
  (List.range 5).foldl (fun s i => if bitOf m i then (s.bump (K.sliceFailCount i)).raise Ev.sliceFail (K.sliceFailCount i) else s) u

theorem countFailures_rd (m : Nat) (u : State) {e : Nat} (kept : e ≠ 0x012) : (countFailures m u).rd ⟨0x79, e, 0⟩ = u.rd ⟨0x79, e, 0⟩ := by
  refine foldl_reading_other (read := fun s : State => s.rd ⟨0x79, e, 0⟩) (fun u i _ => ?_) u
  split
  · rw [State.raise_rd, bump_rd, if_neg (by simp [kept])]
  · rfl

theorem sliceRound_eq (s : State) (mask : Nat) : s.sliceRound mask =
    (countFailures (s.verdicts mask) (({ s with boot := { s.boot with spareFailed := false, sensorFailed := false } } : State).wr K.sliceStatus
      (s.verdicts mask : Nat))).wrapN K.sliceRounds 1 := rfl

theorem sliceRound_shown (s : State) (mask : Nat) :
    (s.sliceRound mask).rd K.sliceRounds = ((s.rdN K.sliceRounds + 1) % 2 ^ 48 : Nat) ∧
    (s.sliceRound mask).rd K.sliceStatus = (s.verdicts mask : Nat) := by
  rw [sliceRound_eq]
  refine ⟨?_, ?_⟩
  · rw [wrapN_rd, if_pos rfl, State.rdN, countFailures_rd _ _ (by decide), State.rd_wr_other _ _ (by simp)]
    rfl
  · rw [wrapN_rd, if_neg (by simp), countFailures_rd _ _ (by decide), State.rd_wr_same]

theorem sliceRound_next (mask : Nat) (s : State) (operates : s.operational = true) :
    ∃ t, exec (.sliceRound mask) s = .next t ∧
      t.rd K.sliceRounds = ((s.rdN K.sliceRounds + 1) % 2 ^ 48 : Nat) ∧
      t.rd K.sliceStatus = (b2n (bitOf mask 0) + b2n s.boot.spareFailed * 2 + b2n s.boot.sensorFailed * 4 + b2n (bitOf mask 3) * 8 +
        b2n (bitOf mask 4 && s.rd K.aonSource = 0) * 16 : Nat) :=
  ⟨_, congrArg Host.Outcome.next (when_true operates), sliceRound_shown s mask⟩

theorem sliceRun_next (src mask : Nat) (s : State) (ha : s.accepts src K.sliceRun) (operates : s.operational = true) :
    ∃ t, exec (.sliceRun src mask) s = .next t ∧
      t.answered src .ok ∧
      t.rd K.sliceRounds = ((s.rdN K.sliceRounds + 1) % 2 ^ 48 : Nat) := by
  refine ⟨_, rfl, ?_⟩
  rw [request_accepted s src ha]
  refine ⟨ack_answered .., ?_⟩
  rw [State.ack_rd, if_pos (by rwa [State.operational, accepted_rd s src _ (by simp)]), (sliceRound_shown _ mask).1, State.rdN,
    accepted_rd s src _ (by simp)]
  rfl

/-! ### Tests on request (16 R420, R421) -/

@[simp] theorem accepted_testRefusal (s : State) (src code target : Nat) :
    (s.accepted src).testRefusal code target = s.testRefusal code target := by
  have line : ∀ c, (s.accepted src).rd (K.carState c) = s.rd (K.carState c) := fun c => accepted_rd s src _ (by cases c <;> decide)
  simp only [State.testRefusal, line, accepted_boot, State.present, accepted_fuse, accepted_on, accepted_rd s src (K.laneState target) (by simp),
    accepted_rd s src (K.portState target) (by simp), ne_eq, K.aoutEnable, Nat.reduceEqDiff, not_false_eq_true]

theorem testRequest_next (src : Nat) (v : Int) (code target : Nat) (s : State) (ha : s.accepts src K.testRequest)
    (test : code = (clampKey K.testRequest v).toNat / 256)
    (on_ : target = (if code ≤ 4 then (clampKey K.testRequest v).toNat % 256 else 0)) :
    ∃ t, exec (.testRequest src v) s = .next t ∧
      (s.testRefusal code target = 0 → t.answered src .ok ∧ t.boot.test = some (code, target) ∧ t.rd K.testState = 1) ∧
      (s.testRefusal code target ≠ 0 → t.answered src .refused ∧ t.boot.test = s.boot.test ∧ t.rd K.testState = 4 ∧
        t.rd K.testRefusal = (s.testRefusal code target : Nat)) := by
  refine ⟨_, rfl, ?_⟩
  rw [request_accepted s src ha]
  dsimp only
  rw [← test, ← on_, accepted_testRefusal]
  split
  · next fine =>
    rw [State.ack_rd, State.rd_wr_other _ _ (by simp), State.rd_wr_same]
    exact ⟨fun _ => ⟨ack_answered .., rfl, rfl⟩, fun refused => absurd fine refused⟩
  · next refused =>
    refine ⟨fun fine => absurd fine refused, fun _ => ⟨ack_answered .., ?_, ?_, ?_⟩⟩
    · exact congrArg BootState.test (accepted_boot s src)
    · rw [State.ack_rd, State.raise_rd, State.rd_wr_same]
    · rw [State.ack_rd, State.raise_rd, State.rd_wr_other _ _ (by simp), State.rd_wr_same]

/-- What the end of a test makes of its target: a write that would have brought it into use acts. -/
def State.releaseTarget (s : State) (code target : Nat) : State :=
  if code = 2 then (if s.on (K.aoutEnable target) then s.aoutEnable target else s)
  else if code = 3 then s.laneEnable target
  else if code = 4 then s.tvEnable target
  else if code = 5 then s.carrierMove .a
  else s.carrierMove .b

/-- The target's release leaves the record of tests and what 79.020 to 79.023 give. -/
theorem releaseTarget_keeps (s : State) (code target : Nat) :
    (s.releaseTarget code target).boot = s.boot ∧ ∀ e, (s.releaseTarget code target).rd ⟨0x79, e, 0⟩ = s.rd ⟨0x79, e, 0⟩ := by
  unfold State.releaseTarget
  split
  · split
    · have follows := State.aoutEnable_leads s target (covers_refl _) (Leads.refl _ s)
      exact ⟨follows.1.2 .boot (by decide), fun e => follows.rd_eq _ (by simp [Part.within])⟩
    · exact ⟨rfl, fun _ => rfl⟩
  split
  · have follows := State.laneEnable_leads s target (covers_refl _) (Leads.refl _ s)
    exact ⟨follows.1.2 .boot (by decide), fun e => follows.rd_eq _ (by simp [Part.within])⟩
  split
  · have follows := State.tvEnable_leads s target (covers_refl _) (Leads.refl _ s)
    exact ⟨follows.1.2 .boot (by decide), fun e => follows.rd_eq _ (by simp [Part.within])⟩
  split
  · have follows := State.carrierMove_leads s .a (covers_refl _) (Leads.refl _ s)
    exact ⟨follows.1.2 .boot (by decide), fun e => follows.rd_eq _ (by simp [Part.within, Carrier.off])⟩
  · have follows := State.carrierMove_leads s .b (covers_refl _) (Leads.refl _ s)
    exact ⟨follows.1.2 .boot (by decide), fun e => follows.rd_eq _ (by simp [Part.within, Carrier.off])⟩

/-- A test is over and its outcome shown. -/
def State.testEnded (s : State) (fault : Option Nat) : State :=
  ((({ s with boot := { s.boot with test := none } } : State).wr K.testState (if fault.isNone then 2 else 3)).wr K.testDetail
    (fault.getD 0 : Nat)).raise Ev.testDone K.testState

theorem testDone_next (vals : List Int) (code target : Nat) (s : State) (runs : s.boot.test = some (code, target)) :
    ∃ t, exec (.testDone vals) s = .next t ∧
      t.boot.test = none ∧
      (t.rd K.testState = (if (targetFault code target vals).isNone then 2 else 3)) ∧
      t.rd K.testDetail = ((targetFault code target vals).getD 0 : Nat) := by
  have run : exec (.testDone vals) s = .next ((s.testEnded (targetFault code target vals)).releaseTarget code target) := by
    show execTestDone vals s = _
    unfold execTestDone
    rw [runs]
    rfl
  obtain ⟨boot, shown⟩ := releaseTarget_keeps (s.testEnded (targetFault code target vals)) code target
  refine ⟨_, run, ?_, ?_, ?_⟩
  · rw [boot]
    rfl
  · rw [shown, State.testEnded, State.raise_rd, State.rd_wr_other _ _ (by simp), State.rd_wr_same]
  · rw [shown, State.testEnded, State.raise_rd, State.rd_wr_same]

/-- Settles O39: each clause is what its command's lemma above says. -/
theorem selfTestComplete : Obligations.SelfTestComplete :=
  ⟨sliceRound_next, sliceRun_next, testRequest_next, testDone_next⟩

end Sys2Proof.Machine
end

section
/-! SUPPORT. Temperatures, throttling and the always-on crystal (15 R377 to R389), and the obligation about them. -/

namespace Sys2Proof.Machine

variable {s t : State} {m : Nat}

/-! ### What a sample leaves of the readings (15 R377 to R382) -/

theorem reading_congr (same : t.th.sensors = s.th.sensors) : t.reading m = s.reading m := by rw [State.reading, same, State.reading]

theorem evalLevel_th (s : State) : s.evalLevel.th = s.th := (State.evalLevel_leads s (covers_refl _) (Leads.refl _ s)).1.2 .th (by decide)

theorem thWarn_th (s : State) : s.thWarn.th = s.th := (State.thWarn_leads s (covers_refl _) (Leads.refl _ s)).1.2 .th (by decide)

theorem ite_sensors {p : Prop} {_inst : Decidable p} {a b : State} {l : List Sensor} (ha : a.th.sensors = l) (hb : b.th.sensors = l) :
    (if p then a else b).th.sensors = l := by
  split
  · exact ha
  · exact hb

theorem thLevel_sensors (s : State) : s.thLevel.th.sensors = s.th.sensors := by
  unfold State.thLevel State.setT
  exact ite_sensors rfl (ite_sensors rfl (ite_sensors rfl (ite_sensors rfl rfl)))

theorem failSensor_sensors (s : State) (i : Nat) : (s.failSensor i).th.sensors = s.th.sensors := by
  unfold State.failSensor
  exact ite_sensors rfl rfl

theorem nth_zipIdx_map {α β : Type} (l : List α) (f : α × Nat → β) (i : Nat) (d : α) (e : β) (there : i < l.length) :
    nth (l.zipIdx.map f) i e = f (nth l i d, i) := by
  simp [nth, there]

theorem judgeApart_reading (s : State) (there : m < s.th.sensors.length) : s.judgeApart.reading m = s.reading m := by
  unfold State.judgeApart
  extract_lets apart th u
  have kept : u.reading m = s.reading m := by
    show Sensor.last (nth (s.th.sensors.zipIdx.map _) m _) = _
    rw [nth_zipIdx_map _ _ _ ⟨0, 0⟩ _ there]
    rfl
  rw [← kept]
  exact reading_congr (foldl_reading_other (read := fun s : State => s.th.sensors) (fun u i _ => failSensor_sensors u i) u)

/-! ### One reading of each sensor (15 R377) -/

theorem takeReading_valid {v : Int} (good : s.sensorGood m = true) (there : m < s.th.sensors.length) (low : -5500 ≤ v) (high : v ≤ 15000) :
    (s.takeReading m (some v)).reading m = v := by
  unfold State.takeReading
  rw [if_neg (by simp [good])]
  dsimp only
  rw [if_neg (by simp; omega)]
  show (nth (s.th.sensors.modify m _) m _).last = v
  rw [nth_modify, if_pos ⟨rfl, there⟩]

theorem takeReading_length (s : State) (i : Nat) (v : Option Int) : (s.takeReading i v).th.sensors.length = s.th.sensors.length := by
  unfold State.takeReading
  split
  · rfl
  split
  · rw [failSensor_sensors]
  · split
    · rw [failSensor_sensors]
    · exact List.length_modify ..

theorem takeReading_reading_other {i : Nat} (other : i ≠ m) (v : Option Int) : (s.takeReading i v).reading m = s.reading m := by
  unfold State.takeReading
  split
  · rfl
  split
  · exact reading_congr (failSensor_sensors ..)
  · split
    · exact reading_congr (failSensor_sensors ..)
    · show (nth (s.th.sensors.modify i _) m _).last = _
      rw [nth_modify, if_neg fun h => other h.1]
      rfl

theorem failSensor_good_other {i : Nat} (other : i ≠ m) : (s.failSensor i).sensorGood m = s.sensorGood m := by
  have fuse : (s.failSensor i).fuse = s.fuse := (State.failSensor_leads s i (covers_refl _) (Leads.refl _ s)).1.2 .fuse (by decide)
  have state : (s.failSensor i).rd (K.sensorState m) = s.rd (K.sensorState m) := by
    unfold State.failSensor
    extract_lets hot u boot w th
    have written : u.rd (K.sensorState m) = s.rd (K.sensorState m) := by
      rw [State.raise_rd, State.rd_wr_other _ _ (by simp), State.rd_wr_other _ _ (by simp [other.symm])]
    clear_value u
    split <;> exact written
  rw [State.sensorGood, State.sensorPresent, State.sensorFailed, fuse, state, State.sensorGood, State.sensorPresent, State.sensorFailed]

theorem takeReading_good_other {i : Nat} (other : i ≠ m) (v : Option Int) : (s.takeReading i v).sensorGood m = s.sensorGood m := by
  unfold State.takeReading
  split
  · rfl
  split
  · exact failSensor_good_other other
  · split
    · exact failSensor_good_other other
    · rfl

/-- The readings of a sample are taken, and those apart from their neighbours judged. -/
def State.sampled (s : State) (vals : List (Option Int)) : State :=
  (s.sensorsHere.foldl (fun s m => s.takeReading m (nth vals m none)) s).judgeApart

theorem sensorsHere_mem (sensor : m < 24) (good : s.sensorGood m = true) : m ∈ s.sensorsHere := by
  simp only [State.sensorGood, Bool.and_eq_true] at good
  exact List.mem_filter.2 ⟨List.mem_range.2 sensor, good.1⟩

theorem sampled_reading {vals : List (Option Int)} {v : Int} (sensor : m < 24) (there : m < s.th.sensors.length)
    (good : s.sensorGood m = true) (value : nth vals m none = some v) (low : -5500 ≤ v) (high : v ≤ 15000) :
    (s.sampled vals).reading m = v := by
  have length : ∀ (l : List Nat) (u : State),
      (l.foldl (fun s m => s.takeReading m (nth vals m none)) u).th.sensors.length = u.th.sensors.length := fun l u =>
    foldl_reading_other (read := fun s : State => s.th.sensors.length) (fun u i _ => takeReading_length u i _) u
  unfold State.sampled
  rw [judgeApart_reading _ (by rwa [length])]
  refine foldl_turn (P := fun u : State => u.sensorGood m = true ∧ m < u.th.sensors.length) (Q := fun u : State => u.reading m = v)
    (sensorsHere_mem sensor good) (List.nodup_range.filter _) ?_ ?_ ?_ ⟨good, there⟩
  · rintro u i other ⟨good, there⟩
    exact ⟨(takeReading_good_other other _).trans good, by rwa [takeReading_length]⟩
  · rintro u ⟨good, there⟩
    rw [value]
    exact takeReading_valid good there low high
  · rintro u i other done
    rwa [takeReading_reading_other other]

/-! ### Shutdown (15 R387) -/

theorem withDeviceState_shown (s : State) (st : Int) :
    (s.withDeviceState st).rd K.deviceState = st ∧ (s.withDeviceState st).th = s.th := by
  have squelch : ∀ (u : State) (c : Carrier) (old : Bool),
      (u.afterSquelch c old).rd K.deviceState = u.rd K.deviceState ∧ (u.afterSquelch c old).th = u.th := fun u c old => by
    have follows := State.afterSquelch_leads u c old (covers_refl _) (Leads.refl _ u)
    exact ⟨follows.rd_eq _ (by cases c <;> simp [Part.within, Carrier.off]), follows.1.2 .th (by cases c <;> decide)⟩
  unfold State.withDeviceState
  dsimp only
  split
  · rw [(squelch _ _ _).1, (squelch _ _ _).1, (squelch _ _ _).2, (squelch _ _ _).2]
    exact ⟨State.rd_wr_same .., rfl⟩
  · rw [(squelch _ _ _).1, (squelch _ _ _).2]
    exact ⟨State.rd_wr_same .., rfl⟩

theorem setSquelchPin_th (s : State) (c : Carrier) (f : TxState → TxState) : (s.setSquelchPin c f).th = s.th :=
  (State.setSquelchPin_leads s c f (covers_refl _) (Leads.refl _ s)).1.2 .th (by cases c <;> decide)

theorem setLane_th (s : State) (n : Nat) (st : Int) : (s.setLane n st).th = s.th :=
  (State.setLane_leads s n st (covers_refl _) (Leads.refl _ s)).1.2 .th (by decide)

theorem portTo_th (s : State) (l : Nat) (st : Int) : (s.portTo l st).th = s.th :=
  (State.portTo_leads s l st (covers_refl _) (Leads.refl _ s)).1.2 .th (by decide)

theorem gateDies_th (s : State) : s.gateDies.th = s.th := (State.gateDies_leads s (covers_refl _) (Leads.refl _ s)).1.2 .th (by decide)

theorem shutdownTrip_shown (s : State) (m : Nat) (v : Int) : (s.shutdownTrip m v).rd K.deviceState = devSafe ∧
    (s.shutdownTrip m v).th = { s.th with shutdown := true } := by
  unfold State.shutdownTrip
  extract_lets th aon tripped squelched idle quiet gated ports
  have channels : quiet.th = idle.th := foldl_reading_other (read := State.th) (by intros; rfl) idle
  have lanes : idle.th = squelched.th := foldl_reading_other (read := State.th) (fun u n _ => setLane_th u n 0) squelched
  have pins : squelched.th = tripped.th := foldl_reading_other (read := State.th) (fun u c _ => setSquelchPin_th u c _) tripped
  have traverse : gated.th = quiet.th :=
    (gateDies_th _).trans (foldl_reading_other (read := State.th) (fun u l _ => portTo_th u l 0) quiet)
  have shut : tripped.th = { s.th with shutdown := true } := rfl
  clear_value gated quiet idle squelched tripped
  refine ⟨(withDeviceState_shown _ _).1, (withDeviceState_shown _ _).2.trans ?_⟩
  rw [← shut, ← pins, ← lanes, ← channels, ← traverse]

/-! ### The sample as a whole -/

/-- The sensors whose own reading trips shutdown (15 R387). -/
def State.tripping (s : State) (vals : List (Option Int)) : List Nat :=
  s.sensorsHere.filter (fun m =>
    match nth vals m none with
    | some v => s.sensorGood m && decide (v ≤ 15000) && decide (s.rd K.shutdownThresh ≤ v)
    | none => false)

theorem thermalSample_cases (s : State) (vals : List (Option Int)) : ∃ u : State, u.th.sensors = (s.sampled vals).th.sensors ∧
    ((∃ n v, s.thermalSample vals = u.shutdownTrip n v) ∨ s.tripping vals = [] ∧ s.thermalSample vals = u) := by
  unfold State.thermalSample
  extract_lets trips taken judged values shown hot hottest near th calm rated u
  have writes : shown.th = judged.th := foldl_reading_other (read := State.th) (by intros; rfl) judged
  have counted : calm.th.sensors = judged.th.sensors := (congrArg ThermalState.sensors writes :)
  have rate : rated.th.sensors = calm.th.sensors := ite_sensors rfl (ite_sensors rfl rfl)
  have levelled : u.th.sensors = rated.th.sensors := by
    rw [evalLevel_th, thLevel_sensors, thWarn_th]
    rfl
  have tripping : s.tripping vals = trips := rfl
  refine ⟨u, levelled.trans (rate.trans counted), ?_⟩
  rw [tripping]
  clear_value u trips values
  split
  · exact .inl ⟨_, _, rfl⟩
  · split
    · exact .inl ⟨_, _, rfl⟩
    · exact .inr ⟨rfl, rfl⟩

theorem thermalSample_next (vals : List (Option Int)) (m : Nat) (v : Int) (s : State)
    (samples : s.rd K.deviceState = devBoot ∨ s.rd K.deviceState = devOperational) (sensor : m < 24) (there : m < s.th.sensors.length)
    (good : s.sensorGood m = true) (value : nth vals m none = some v) (low : -5500 ≤ v) (high : v ≤ 15000) :
    ∃ t, exec (.thermalSample vals) s = .next t ∧
      t.reading m = v ∧
      (s.rd K.shutdownThresh ≤ v → t.rd K.deviceState = devSafe ∧ t.th.shutdown = true) := by
  refine ⟨_, congrArg Host.Outcome.next (when_true (by simpa [State.operational] using samples)), ?_⟩
  have taken := sampled_reading sensor there good value low high
  obtain ⟨u, sensors, ⟨n, w, trips⟩ | ⟨none_, stays⟩⟩ := thermalSample_cases s vals
  · obtain ⟨state, th⟩ := shutdownTrip_shown u n w
    rw [trips, th]
    exact ⟨((reading_congr (congrArg ThermalState.sensors th :)).trans (reading_congr sensors)).trans taken, fun _ => ⟨state, rfl⟩⟩
  · rw [stays]
    refine ⟨(reading_congr sensors).trans taken, fun hot => absurd (?_ : m ∈ s.tripping vals) (by simp [none_])⟩
    refine List.mem_filter.2 ⟨sensorsHere_mem sensor good, ?_⟩
    rw [value]
    simp [good, high, hot]

/-! ### Throttling (15 R379, R381, R388) -/

theorem thermalBlockExpire_next (s : State) (blocked : s.blocked = true) :
    ∃ t, exec (.thermalBlockExpire) s = .next t ∧ t.blocked = false := by
  refine ⟨_, congrArg Host.Outcome.next (when_true blocked), ?_⟩
  rw [State.blocked, evalLevel_th]
  rfl

/-- The throttle level of a thermal level, a forced level and a firmware level (15 R381). -/
def State.throttled (s : State) : Int :=
  max (s.rd K.thermalLevel) (max (if s.sensorsForced || s.rd K.marginState = 1 then 2 else 0) (s.rd K.fwLevel))

theorem evalLevel_rd (s : State) {e : Nat} (kept : e ≠ 0x020 ∧ e ≠ 0x021 ∧ e ≠ 0x025) (i : Nat) :
    s.evalLevel.rd ⟨0x70, e, i⟩ = s.rd ⟨0x70, e, i⟩ :=
  (State.evalLevel_leads s (covers_refl _) (Leads.refl _ s)).rd_eq _ (by simp [Part.within, kept])

theorem evalLevel_level (s : State) : s.evalLevel.rd K.throttleLevel = s.throttled := by
  unfold State.evalLevel
  extract_lets t w margin f level cause old u
  have shown : u.rd K.throttleLevel = level := by rw [State.rd_wr_other _ _ (by simp), State.rd_wr_same]
  show _ = level
  clear_value u level
  split
  · exact shown
  · rw [State.raise_rd, bump_rd, if_neg (by simp), shown]

theorem fwLevelWrite_next (src : Nat) (v : Int) (s : State) (ha : s.accepts src K.fwLevel) :
    ∃ t, exec (.fwLevelWrite src v) s = .next t ∧
      t.answered src .ok ∧
      t.rd K.fwLevel = clampKey K.fwLevel v ∧
      (t.rd K.throttleLevel = max (s.rd K.thermalLevel) (max (if s.sensorsForced || s.rd K.marginState = 1 then 2 else 0)
        (clampKey K.fwLevel v))) := by
  let u := (rwEffect src K.fwLevel v (s.accepted src)).1
  have rd : ∀ j : Key, j.area ≠ 0x02 → j.area ≠ 0x08 → u.rd j = if j = K.fwLevel then clampKey K.fwLevel v else s.rd j :=
    fun j h2 h8 => rwEffect_accepted_rd src v s (by simp [canonKey]) h2 h8
  have level : u.rd K.fwLevel = clampKey K.fwLevel v := (rd _ (by decide) (by decide)).trans (if_pos rfl)
  have others : ∀ e i, e ≠ 0x022 → u.rd ⟨0x70, e, i⟩ = s.rd ⟨0x70, e, i⟩ :=
    fun e i kept => (rd ⟨0x70, e, i⟩ (by simp) (by simp)).trans (if_neg (by simp [kept]))
  have margin : u.rd K.marginState = s.rd K.marginState := (rd _ (by decide) (by decide)).trans (if_neg (by decide))
  have forced : u.sensorsForced = s.sensorsForced := by simp only [State.sensorsForced, others _ _ (by decide : (0x005 : Nat) ≠ 0x022)]
  refine ⟨_, rfl, ?_⟩
  rw [request_accepted s src ha]
  refine ⟨ack_answered .., ?_, ?_⟩
  · rw [State.ack_rd, evalLevel_rd _ (by decide), level]
  · rw [State.ack_rd, evalLevel_level, State.throttled, level, margin, forced, others _ _ (by decide)]

theorem shutdownClear_next (src : Nat) (s : State) (ha : s.accepts src K.shutdownClear) :
    ∃ t, exec (.shutdownClear src) s = .next t ∧
      t.answered src .ok ∧
      t.aon.record = [] := by
  refine ⟨_, rfl, ?_⟩
  rw [request_accepted s src ha]
  exact ⟨ack_answered .., rfl⟩

/-! ### Level 3 (15 R385, R386) -/

theorem sendCapLimit_fwLevel (s : State) (c : Carrier) (l : Nat) : (s.sendCapLimit c l).rd K.fwLevel = s.rd K.fwLevel :=
  (State.sendCapLimit_leads s c l (covers_refl _) (Leads.refl _ s)).rd_eq _ (by simp [Part.within])

theorem sendCapLimit_th (s : State) (c : Carrier) (l : Nat) : (s.sendCapLimit c l).th = s.th :=
  (State.sendCapLimit_leads s c l (covers_refl _) (Leads.refl _ s)).1.2 .th (by decide)

theorem setLimit_fwLevel (s : State) (c : Carrier) (l : Option Nat) : (s.setLimit c l).rd K.fwLevel = s.rd K.fwLevel :=
  (State.setLimit_leads s c l (covers_refl _) (Leads.refl _ s)).rd_eq _ (by simp [Part.within])

theorem evalLevel_stored_fwLevel (s : State) (v : Int) : ((s.rwStore fwSource K.fwLevel v).evalLevel).rd K.fwLevel = v := by
  rw [evalLevel_rd _ (by decide), rwStore_rd_same _ _ _ _ (by decide)]

theorem sfL3Dwell_next (s : State) (firmware : s.firmware = true) (level : s.rd K.thermalLevel = 2)
    (hot : s.rd K.throttleThresh ≤ s.rd K.hottest) :
    ∃ t, exec (.sfL3Dwell) s = .next t ∧ t.rd K.fwLevel = 3 := by
  refine ⟨_, congrArg Host.Outcome.next (when_true (by simp [firmware, level, hot])), ?_⟩
  refine (foldl_reading_other (read := fun s : State => s.rd K.fwLevel) (fun u c _ => ?_) _).trans (evalLevel_stored_fwLevel s 3)
  dsimp only
  split
  · rw [sendCapLimit_fwLevel, setLimit_fwLevel]
  · rfl

theorem sfL3Resend_next (c : Carrier) (l : Nat) (s : State) (here : s.present c = true) (firmware : s.firmware = true)
    (limited : s.limitOf c = some l) (exceeds : l < s.rxCapacityOf c) :
    ∃ t, exec (.sfL3Resend c) s = .next t ∧ t = s.sendCapLimit c l := by
  refine ⟨_, rfl, ?_⟩
  rw [limited]
  exact when_true (by simp [here, firmware, exceeds])

theorem thL3NoResponse_next (c : Carrier) (l : Nat) (s : State) (here : s.present c = true) (firmware : s.firmware = true)
    (limited : s.limitOf c = some l) (exceeds : l < s.rxCapacityOf c) :
    ∃ t, exec (.thL3NoResponse c) s = .next t ∧ t = s.raise Ev.thL3NoResponse noKey := by
  refine ⟨_, rfl, ?_⟩
  rw [limited]
  exact when_true (by simp [here, firmware, exceeds])

theorem limitOf_congr {c : Carrier} (same : t.th = s.th) : t.limitOf c = s.limitOf c := by rw [State.limitOf, same, State.limitOf]

theorem setLimit_limitOf_none (s : State) (c : Carrier) : (s.setLimit c none).limitOf c = none := by
  show nth (s.th.limitSent.set c.num none) c.num none = none
  by_cases inside : c.num < s.th.limitSent.length
  · exact nth_set_same inside ..
  · rw [nth, List.getD_eq_default _ _ (by simpa using inside)]

theorem setLimit_limitOf_other {c d : Carrier} (l : Option Nat) (other : c ≠ d) : (s.setLimit d l).limitOf c = s.limitOf c :=
  nth_set_other _ _ _ (by cases c <;> cases d <;> simp_all [Carrier.num])

/-- The limit toward a carrier is taken back. -/
def State.liftLimit (s : State) (c : Carrier) : State := if (s.limitOf c).isSome then (s.setLimit c none).sendCapLimit c 4294967295 else s

theorem liftLimit_same (s : State) (c : Carrier) : (s.liftLimit c).limitOf c = none := by
  unfold State.liftLimit
  split
  · rw [limitOf_congr (sendCapLimit_th ..), setLimit_limitOf_none]
  · next absent => simpa using absent

theorem liftLimit_other {c d : Carrier} (other : c ≠ d) : (s.liftLimit d).limitOf c = s.limitOf c := by
  unfold State.liftLimit
  split
  · rw [limitOf_congr (sendCapLimit_th ..), setLimit_limitOf_other _ other]
  · rfl

theorem liftLimit_fwLevel (s : State) (c : Carrier) : (s.liftLimit c).rd K.fwLevel = s.rd K.fwLevel := by
  unfold State.liftLimit
  split
  · rw [sendCapLimit_fwLevel, setLimit_fwLevel]
  · rfl

theorem sfL3Release_next (s : State) (firmware : s.firmware = true) (cool : s.rd K.thermalLevel = 0) (raised : s.rd K.fwLevel ≠ 0) :
    ∃ t, exec (.sfL3Release) s = .next t ∧
      t.rd K.fwLevel = 0 ∧
      (∀ c ∈ s.carriersHere, t.limitOf c = none) := by
  let u := (s.rwStore fwSource K.fwLevel 0).evalLevel
  have fuse : u.fuse = s.fuse := ((State.evalLevel_leads _ (covers_refl _) (Leads.refl _ _)).1.2 .fuse (by decide)).trans
    ((State.rwStore_leads s _ _ _ (covers_refl _) (Leads.refl _ s)).1.2 .fuse (by decide))
  have here : u.carriersHere = s.carriersHere := by rw [State.carriersHere, State.present, fuse]; rfl
  refine ⟨u.carriersHere.foldl State.liftLimit u, congrArg Host.Outcome.next (when_true (by simp [firmware, cool, raised])), ?_, ?_⟩
  · exact (foldl_reading_other (read := fun s : State => s.rd K.fwLevel) (fun u c _ => liftLimit_fwLevel u c) u).trans
      (evalLevel_stored_fwLevel s 0)
  · intro c present
    exact foldl_reading_mem (read := fun s : State => s.limitOf c) (here ▸ present) (fun u => liftLimit_same u c)
      (fun u d other => liftLimit_other other.symm) u

/-! ### The always-on crystal (15 R389) -/

theorem xtalCompTick_next (temp : Int) (s : State) (dormant : s.rd K.deviceState = devDormant) (compensated : s.on K.xtalTcEnable = true)
    (crystal : s.rd K.aonSource = 0) :
    ∃ t, exec (.xtalCompTick temp) s = .next t ∧
      t.aon.corr = s.aon.corr + openRound (-((s.rd K.xtalOffset : Rat) - (s.rd K.xtalCurve : Rat) / 10 *
        (((temp - s.rd K.xtalTurnover : Int) : Rat) / 100) * (((temp - s.rd K.xtalTurnover : Int) : Rat) / 100)) * 64) :=
  ⟨_, congrArg Host.Outcome.next (when_true (by simp [dormant, compensated, crystal])), rfl⟩

theorem aonXtalFail_next (s : State) (supplied : s.rd K.deviceState ≠ devOff) (crystal : s.rd K.aonSource = 0) :
    ∃ t, exec (.aonXtalFail) s = .next t ∧ t.rd K.aonSource = 1 :=
  ⟨_, congrArg Host.Outcome.next (when_true (by simp [supplied, crystal])), by rw [State.raise_rd, State.rd_wr_same]⟩

theorem xtalRestore_next (s : State) (operates : s.operational = true) : ∃ t, exec (.xtalRestore) s = .next t ∧ t.rd K.aonSource = 0 :=
  ⟨_, congrArg Host.Outcome.next (when_true operates), State.rd_wr_same ..⟩

/-- Settles O37: each clause is what its command's lemma above says. -/
theorem thermalComplete : Obligations.ThermalComplete :=
  ⟨thermalSample_next, thermalBlockExpire_next, fwLevelWrite_next, shutdownClear_next, sfL3Dwell_next, sfL3Resend_next, thL3NoResponse_next,
    sfL3Release_next, xtalCompTick_next, aonXtalFail_next, xtalRestore_next⟩

end Sys2Proof.Machine
end

section
/-! SUPPORT. The core voltage loop and lost margin (15 R391 to R394), and the obligation about power with Dormant entry and wake (15 R397 to
R404). -/

namespace Sys2Proof.Machine

variable {s t : State} {c : Carrier}

/-! ### Margins and the request (15 R391, R392) -/

theorem requestVolt_rd (s : State) (v : Int) {j : Key} (other : j ≠ K.vcoreReq) : (s.requestVolt v).rd j = s.rd j := by
  unfold State.requestVolt
  dsimp only
  split
  · rfl
  · exact State.rd_wr_other _ _ other

theorem requestVolt_low (s : State) (v : Int) : (s.requestVolt v).pw.low = s.pw.low := by
  unfold State.requestVolt
  dsimp only
  split <;> rfl

/-- The lowest request is made: nothing clamps it. -/
theorem requestVolt_voltLow (s : State) : (s.requestVolt s.voltLow).rd K.vcoreReq = s.voltLow := by
  have fits : clampInt s.voltLow (min (s.rd K.vcoreMin) (s.rd K.vcoreMax)) (s.rd K.vcoreMax) = s.voltLow := by
    unfold clampInt State.voltLow
    split_ifs <;> omega
  unfold State.requestVolt
  dsimp only
  rw [fits]
  split
  · next same => exact same.symm
  · exact State.rd_wr_same ..

/-- The monitors' margins are shown, held to ±100 %. -/
def State.showMargins (s : State) (margins : List Int) : State :=
  (List.range 16).foldl (fun s m => s.wr (K.paceMargin m) (clampInt (nth margins m 0) (-10000) 10000)) s

theorem showMargins_margin (s : State) (margins : List Int) {m : Nat} (monitor : m < 16) :
    (s.showMargins margins).rd (K.paceMargin m) = clampInt (nth margins m 0) (-10000) 10000 :=
  foldl_wr_rd_mem (key := fun m => K.paceMargin m) _ (by simp) (List.mem_range.2 monitor) s

theorem showMargins_rd (s : State) (margins : List Int) {k : Key} (other : ∀ i, k ≠ K.paceMargin i) :
    (s.showMargins margins).rd k = s.rd k := foldl_wr_rd_other _ other s

theorem showMargins_fuse (s : State) (margins : List Int) : (s.showMargins margins).fuse = s.fuse :=
  foldl_reading_other (read := State.fuse) (by intros; rfl) s

theorem showMargins_engines (s : State) (margins : List Int) : (s.showMargins margins).engines = s.engines := by
  have here : ∀ c, (s.showMargins margins).present c = s.present c := fun c => by unfold State.present; rw [showMargins_fuse]
  have state : ∀ c, (s.showMargins margins).rd (K.carState c) = s.rd (K.carState c) := fun c => showMargins_rd _ _ (by cases c <;> simp [Carrier.off])
  have lane : ∀ n, (s.showMargins margins).on (K.laneEnable n) = s.on (K.laneEnable n) := fun n => by
    rw [State.on, showMargins_rd _ _ (by simp), State.on]
  simp only [State.engines, here, state, lane]

theorem marginMin_none (idle : s.engines.all (fun e => !e.active) = true) : s.marginMin = none := by
  have none_ : s.engines.filter (fun e => e.active) = [] := by
    simpa [List.filter_eq_nil_iff] using idle
  unfold State.marginMin
  rw [none_]
  rfl

theorem evalLevel_rd_power (s : State) (e i : Nat) : s.evalLevel.rd ⟨0x71, e, i⟩ = s.rd ⟨0x71, e, i⟩ :=
  (State.evalLevel_leads s (covers_refl _) (Leads.refl _ s)).rd_eq _ (by simp [Part.within])

theorem marginUpdate_next (margins : List Int) (s : State) : ∃ t, exec (.marginUpdate margins) s = .next t ∧
    (∀ m : Nat, m < 16 → t.rd (K.paceMargin m) = clampInt (nth margins m 0) (-10000) 10000) ∧
    (s.engines.all (fun e => !e.active) = true → s.rd K.avsState = 0 → t.rd K.vcoreReq = s.voltLow ∧ t.pw.low = 0) := by
  have avs : (s.showMargins margins).rd K.avsState = s.rd K.avsState := showMargins_rd _ _ (by simp)
  have low : (s.showMargins margins).voltLow = s.voltLow := by
    rw [State.voltLow, showMargins_rd _ _ (by simp), showMargins_rd _ _ (by simp), State.voltLow]
  have idle : s.engines.all (fun e => !e.active) = true → (s.showMargins margins).marginMin = none := fun idle =>
    marginMin_none (by rwa [showMargins_engines])
  have shown := fun m => showMargins_margin s margins (m := m)
  show ∃ t, execMarginUpdate margins s = .next t ∧ _
  unfold execMarginUpdate
  extract_lets u ok pw w
  have taken : s.showMargins margins = u := rfl
  rw [taken] at avs low idle
  simp only [taken] at shown
  clear_value u
  refine ⟨_, rfl, ?_⟩
  split
  · refine ⟨fun m monitor => ?_, fun _ fine => ?_⟩
    · rw [← shown m monitor]
      split
      · exact requestVolt_rd _ _ (by simp)
      · rfl
    · have requested := requestVolt_voltLow w
      rw [if_pos (avs.trans fine), requestVolt_low]
      exact ⟨requested.trans low, rfl⟩
  · next least some_ =>
    extract_lets v target band lost pw w x
    refine ⟨fun m monitor => ?_, fun inactive _ => absurd ((idle inactive).symm.trans some_) (by simp)⟩
    have stored : w.rd (K.paceMargin m) = u.rd (K.paceMargin m) := State.rd_wr_other u _ (by simp)
    have requested : x.rd (K.paceMargin m) = w.rd (K.paceMargin m) := by
      simp only [x]
      clear_value w
      split
      · rfl
      · split
        · exact requestVolt_rd _ _ (by simp)
        · split <;> exact requestVolt_rd _ _ (by simp)
    rw [← shown m monitor, ← stored, ← requested]
    clear_value x
    split
    · rw [evalLevel_rd_power, State.raise_rd, bump_rd, if_neg (by simp), State.rd_wr_other _ _ (by simp)]
      rfl
    · rfl

/-! ### Lost margin (15 R393) -/

theorem carrierMove_keeps (s : State) (c : Carrier) : (s.carrierMove c).pw = s.pw ∧
    (s.carrierMove c).rd (K.carTarget c) = s.rd (K.carTarget c) ∧ ∀ e, (s.carrierMove c).rd ⟨0x71, e, 0⟩ = s.rd ⟨0x71, e, 0⟩ := by
  have follows := State.carrierMove_leads s c (covers_refl _) (Leads.refl _ s)
  refine ⟨follows.1.2 .pw (by cases c <;> decide), follows.rd_eq _ (by cases c <;> simp [Part.within, Carrier.off]),
    fun e => follows.rd_eq _ (by cases c <;> simp [Part.within, Carrier.off])⟩

theorem bump_pw (s : State) (k : Key) : (s.bump k).pw = s.pw :=
  (State.bump_leads s k (covers_refl _) (Leads.refl _ s)).1.2 .pw (by simp [Part.within])

theorem pwrCarrierDropped_next (c : Carrier) (e : Engine) (s : State) (alarm : s.rd K.marginState = 1) (undropped : s.pw.dropped = none)
    (lost : (s.engines.filter (fun e => e.active && e.mons.any (fun m => s.rd (K.paceMargin m) < s.rd K.marginAlarm))).head? = some e)
    (drops : s.dropFor e = some c) :
    ∃ t, exec (.pwrCarrierDropped) s = .next t ∧
      t.rd (K.carTarget c) = 1 ∧
      t.pw.dropped = some c ∧
      t.rd K.carrierDropCount = (min (s.rdN K.carrierDropCount + 1) max48 : Nat) := by
  obtain ⟨rest, first⟩ := List.head?_eq_some_iff.1 lost
  let w : State := { s with pw := { s.pw with dropped := some c } }
  let u := w.rwStore 0 (K.carTarget c) 1
  have run : exec (.pwrCarrierDropped) s = .next (((u.bump K.carrierDropCount).raise Ev.pwrCarrierDropped noKey).carrierMove c) := by
    refine congrArg Host.Outcome.next ((when_true (by simpa using alarm)).trans ?_)
    dsimp only
    rw [first]
    dsimp only
    rw [undropped]
    dsimp only
    rw [drops]
  have follows := State.rwStore_leads w 0 (K.carTarget c) 1 (covers_refl _) (Leads.refl _ w)
  have count : u.rd K.carrierDropCount = s.rd K.carrierDropCount := follows.rd_eq _ (by cases c <;> simp [Part.within, Carrier.off])
  have target : u.rd (K.carTarget c) = 1 := rwStore_rd_same _ _ _ _ (by cases c <;> decide)
  have dropped : u.pw = w.pw := follows.1.2 .pw (by cases c <;> decide)
  clear_value u
  obtain ⟨pw, stays, counts⟩ := carrierMove_keeps ((u.bump K.carrierDropCount).raise Ev.pwrCarrierDropped noKey) c
  refine ⟨_, run, ?_, ?_, ?_⟩
  · rw [stays, State.raise_rd, bump_rd, if_neg (by cases c <;> decide), target]
  · rw [pw, State.raise_pw, bump_pw, dropped]
  · rw [counts, State.raise_rd, bump_rd, if_pos rfl, State.rdN, count]
    rfl

theorem pwrMarginRestored_next (s : State) (alarm : s.rd K.marginState = 1) (restored : s.rd K.marginTarget ≤ s.rd K.marginMin) :
    ∃ t, exec (.pwrMarginRestored) s = .next t ∧
      t.rd K.marginState = 0 ∧
      t.pw.low = 0 := by
  refine ⟨_, congrArg Host.Outcome.next (when_true (by simp [alarm, restored])), ?_, ?_⟩
  · rw [State.raise_rd, evalLevel_rd_power, State.rd_wr_same]
  · rw [State.raise_pw, (State.evalLevel_leads _ (covers_refl _) (Leads.refl _ _)).1.2 .pw (by decide)]
    rfl

/-! ### AVSBus (15 R391, R394) -/

theorem avsFault_pw (s : State) (code : Int) : (s.avsFault code).pw = s.pw :=
  (State.avsFault_leads s code (covers_refl _) (Leads.refl _ s)).1.2 .pw (by decide)

theorem avsFault_vcoreRead (s : State) (code : Int) : (s.avsFault code).rd K.vcoreRead = s.rd K.vcoreRead :=
  (State.avsFault_leads s code (covers_refl _) (Leads.refl _ s)).rd_eq _ (by simp [Part.within])

theorem avsFault_state (s : State) {code : Int} (enabled : s.rd K.avsState ≠ 4) : (s.avsFault code).rd K.avsState = code := by
  unfold State.avsFault
  split
  · next same => simpa [enabled] using same
  · rw [State.raise_rd, State.rd_wr_same]

theorem avsAttempt_failed (s : State) : (s.avsAttempt false).pw.noAnswer = s.pw.noAnswer + 1 := by
  unfold State.avsAttempt
  extract_lets n pw w
  have counted : w.pw.noAnswer = s.pw.noAnswer + 1 := rfl
  clear_value w n
  split
  · rw [avsFault_pw, counted]
  · exact counted

theorem avsAttempt_failed_thrice (twice : 2 ≤ s.pw.noAnswer) (enabled : s.rd K.avsState ≠ 4) : (s.avsAttempt false).rd K.avsState = 1 := by
  unfold State.avsAttempt
  dsimp only
  rw [if_pos (by simp; omega)]
  exact avsFault_state _ enabled

/-- A voltage that is read is shown, and nothing went unanswered; off its request for long it is a fault. -/
theorem avsVoltageRead_answered (u : Nat) (s : State) (on_ : s.on K.avsEnable = true) : ∃ (x : State) (since : Option Nat),
    x.pw.noAnswer = 0 ∧ x.rd K.vcoreRead = (min u 10000 : Nat) ∧
    exec (.avsVoltageRead (some u)) s = .next (if since.any (fun t => t + 200000 ≤ x.datum) then x.avsFault 3 else x) := by
  refine ⟨_, _, ?_, ?_, congrArg Host.Outcome.next (when_true on_)⟩
  · rfl
  · exact State.rd_wr_same (s.avsAttempt true) ..

theorem avsVoltageRead_next (v : Option Nat) (s : State) (on_ : s.on K.avsEnable = true) :
    ∃ t, exec (.avsVoltageRead v) s = .next t ∧
      (v = none → t.pw.noAnswer = s.pw.noAnswer + 1) ∧
      (v = none → 2 ≤ s.pw.noAnswer → s.rd K.avsState = 0 → t.rd K.avsState = 1) ∧
      (∀ u ∈ v, t.pw.noAnswer = 0 ∧ t.rd K.vcoreRead = (min u 10000 : Nat)) := by
  cases v with
  | none =>
    exact ⟨_, congrArg Host.Outcome.next (when_true on_), fun _ => avsAttempt_failed s,
      fun _ twice fine => avsAttempt_failed_thrice twice (by rw [fine]; decide), by simp⟩
  | some u =>
    obtain ⟨x, since, answered, read, run⟩ := avsVoltageRead_answered u s on_
    refine ⟨_, run, by simp, by simp, fun u' shown => ?_⟩
    obtain rfl := Option.mem_some_iff.1 shown
    split
    · rw [avsFault_pw, avsFault_vcoreRead]
      exact ⟨answered, read⟩
    · exact ⟨answered, read⟩

theorem avsStatusRead_next (fault : Option Bool) (s : State) (on_ : s.on K.avsEnable = true) :
    ∃ t, exec (.avsStatusRead fault) s = .next t ∧
      (fault = none → t.pw.noAnswer = s.pw.noAnswer + 1) ∧
      (fault = some false → t.pw.noAnswer = 0 ∧ t.rd K.avsState = s.rd K.avsState) ∧
      (fault = some true → s.rd K.avsState ≠ 4 → t.pw.noAnswer = 0 ∧ t.rd K.avsState = 2) := by
  refine ⟨_, congrArg Host.Outcome.next (when_true on_), ?_⟩
  match fault with
  | none => exact ⟨fun _ => avsAttempt_failed s, by simp, by simp⟩
  | some false => exact ⟨by simp, fun _ => ⟨rfl, rfl⟩, by simp⟩
  | some true =>
    refine ⟨by simp, by simp, fun _ enabled => ⟨?_, avsFault_state _ enabled⟩⟩
    exact congrArg PowerState.noAnswer (avsFault_pw (s.avsAttempt true) 2)

theorem pwrAvsRestored_next (s : State) (faulty : 1 ≤ s.rd K.avsState) (enabled : s.rd K.avsState ≤ 3) :
    ∃ t, exec (.pwrAvsRestored) s = .next t ∧ t.rd K.avsState = 0 :=
  ⟨_, congrArg Host.Outcome.next (when_true (by simp [faulty, enabled])), by rw [State.raise_rd, State.rd_wr_same]⟩

end Sys2Proof.Machine
end

section
/-! SUPPORT. Dormant entry and wake (15 R397 to R404), and the obligation about power. -/

namespace Sys2Proof.Machine

variable {s t : State} {src : Nat}

/-! ### Entry begins (15 R397, R398) -/

theorem raise_rings (s : State) (code : Nat) (k : Key) : (s.raise code k).fb.rings = s.fb.rings := by
  show (s.fb.watch code s.datum).rings = _
  unfold FbState.watch
  split <;> rfl

theorem cancelAnnounced_fb (u : State) (c : Carrier) {p : Prop} {_inst : Decidable p} : (if p then u.cancelPending c else u).fb = u.fb := by
  split
  · exact (State.cancelPending_leads u c (covers_refl _) (Leads.refl _ u)).1.2 .fb (by cases c <;> decide)
  · rfl

theorem disarm_rings (s : State) (e : Edition) (reason : Nat) : (s.disarm e reason).fb.rings = s.fb.rings := by
  unfold State.disarm
  dsimp only
  rw [raise_rings, cancelAnnounced_fb, cancelAnnounced_fb]
  rfl

theorem endDraft_rings (s : State) (result reason : Nat) : (s.endDraft result reason).fb.rings = s.fb.rings := by
  unfold State.endDraft
  split
  · rfl
  · rw [raise_rings, (State.dropDraft_leads _ (covers_refl _) (Leads.refl _ _)).1.2 .fb (by decide)]
    rfl

theorem dropEditions_rings (s : State) : s.dropEditions.fb.rings = s.fb.rings :=
  (foldl_reading_other (read := fun s : State => s.fb.rings) (fun u e _ => disarm_rings u e 0) _).trans (endDraft_rings s 4 0)

theorem dormantEntry_shown (s : State) : s.dormantEntry.pw.entering = true ∧ s.dormantEntry.ports.ready = false ∧
    s.dormantEntry.fb.rings = [] ∧ s.dormantEntry.aon.corr = 0 :=
  ⟨rfl, rfl, dropEditions_rings s.fbDormant, rfl⟩

theorem tryDormant_refused (none_ : s.rd K.wakeEnable = 0) : s.tryDormant.pw.entering = s.pw.entering := by
  unfold State.tryDormant
  rw [if_pos none_]
  rfl

theorem tryDormant_enters (some_ : s.rd K.wakeEnable ≠ 0) : s.tryDormant = s.dormantEntry := if_neg some_

theorem idleTimerExpire_next (s : State) (idle : s.idleCond = true) (timed : 0 < s.rd K.idleTimeout) (free : s.pw.entering = false) :
    ∃ t, exec (.idleTimerExpire) s = .next t ∧
      (s.rd K.wakeEnable = 0 → t.pw.entering = false) ∧
      (s.rd K.wakeEnable ≠ 0 → t.pw.entering = true ∧ t.ports.ready = false ∧ t.fb.rings = [] ∧ t.aon.corr = 0) := by
  refine ⟨_, congrArg Host.Outcome.next (when_true (by simp [idle, timed, free])), fun none_ => ?_, fun some_ => ?_⟩
  · rw [tryDormant_refused none_, free]
  · rw [tryDormant_enters some_]
    exact dormantEntry_shown s

theorem sleepNow_next (src : Nat) (s : State) (ha : s.accepts src K.sleepNow) :
    ∃ t, exec (.sleepNow src) s = .next t ∧
      (((s.idleRestart src).countReq src).idleCond = false → t.answered src .refused) ∧
      (((s.idleRestart src).countReq src).idleCond = true → t.answered src .ok) ∧
      (((s.idleRestart src).countReq src).idleCond = true → s.rd K.wakeEnable ≠ 0 → t.pw.entering = true) := by
  refine ⟨_, rfl, ?_⟩
  change ((s.accepted src).idleCond = false → _) ∧ ((s.accepted src).idleCond = true → _) ∧ ((s.accepted src).idleCond = true → _)
  rw [request_accepted s src ha]
  refine ⟨fun busy => ?_, fun idle => ?_, fun idle some_ => ?_⟩
  · rw [State.sleepCmd, if_pos (by simp [busy])]
    exact ack_answered ..
  · rw [State.sleepCmd, if_neg (by simp [idle])]
    exact ack_answered ..
  · rw [State.sleepCmd, if_neg (by simp [idle]), tryDormant_enters (by rwa [accepted_rd s src _ (by simp)])]
    exact (dormantEntry_shown _).1

/-! ### The edge that latches (15 R398) -/

theorem aoutDormant_keeps (s : State) : s.aoutDormant.pw = s.pw ∧ s.aoutDormant.datum = s.datum := by
  have follows := State.aoutDormant_leads s (covers_refl _) (Leads.refl _ s)
  exact ⟨follows.1.2 .pw (by decide), follows.1.2 .datum (by decide)⟩

theorem portTo_datum (s : State) (l : Nat) (st : Int) : (s.portTo l st).datum = s.datum :=
  (State.portTo_leads s l st (covers_refl _) (Leads.refl _ s)).1.2 .datum (by decide)

theorem portsOff_datum (s : State) : ([0, 1, 2].foldl (fun s l => s.portTo l 0) s).datum = s.datum := by
  rw [List.foldl_cons, List.foldl_cons, List.foldl_cons, List.foldl_nil, portTo_datum, portTo_datum, portTo_datum]

theorem gateDies_keeps (s : State) : s.gateDies.pw = s.pw ∧ s.gateDies.rd K.dormantEntry = s.rd K.dormantEntry ∧
    s.gateDies.rd K.padsHeld = s.rd K.padsHeld := by
  have follows := State.gateDies_leads s (covers_refl _) (Leads.refl _ s)
  exact ⟨follows.1.2 .pw (by decide), follows.rd_eq _ (by simp [Part.within]), follows.rd_eq _ (by simp [Part.within])⟩

theorem withDeviceState_keeps (s : State) (st : Int) : (s.withDeviceState st).pw = s.pw ∧
    (s.withDeviceState st).rd K.dormantEntry = s.rd K.dormantEntry ∧ (s.withDeviceState st).rd K.padsHeld = s.rd K.padsHeld := by
  have follows := State.withDeviceState_leads s st (covers_refl _) (Leads.refl _ s)
  exact ⟨follows.1.2 .pw (by decide), follows.rd_eq _ (by simp [Part.within]), follows.rd_eq _ (by simp [Part.within])⟩

theorem dormantLatch_next (s : State) (entering : s.pw.entering = true) (operates : s.operational = true) :
    ∃ t, exec (.dormantLatch) s = .next t ∧
      t.rd K.deviceState = devDormant ∧
      t.rd K.dormantEntry = (s.datum : Nat) ∧
      t.rd K.padsHeld = 1 ∧
      t.pw.entering = false := by
  refine ⟨_, congrArg Host.Outcome.next (when_true (by simp [entering, operates])), ?_⟩
  extract_lets outputs acc quiet tv pw latched shown
  have stayed : quiet.datum = s.datum := (portsOff_datum outputs).trans (aoutDormant_keeps s).2
  clear_value quiet
  have datum : latched.datum = s.datum := stayed
  have ended : latched.pw.entering = false := rfl
  clear_value latched
  have means : shown = (((latched.bump K.dormantCount).wr K.dormantEntry (latched.datum : Nat)).wr K.padsHeld 1).wr K.aonMode 1 := rfl
  clear_value shown
  obtain ⟨power, entry, held⟩ := withDeviceState_keeps shown.gateDies devDormant
  obtain ⟨power', entry', held'⟩ := gateDies_keeps shown
  refine ⟨(withDeviceState_shown _ _).1, ?_, ?_, ?_⟩
  · rw [entry, entry', means, State.rd_wr_other _ _ (by simp), State.rd_wr_other _ _ (by simp), State.rd_wr_same, datum]
  · rw [held, held', means, State.rd_wr_other _ _ (by simp), State.rd_wr_same]
  · rw [power, power', means, State.wr_pw, State.wr_pw, State.wr_pw, bump_pw, ended]

/-! ### Wake (15 R399 to R402; 10 R301) -/

/-- The edge of LPMODE is the pin's. -/
def State.lpEdge (s : State) (code : Nat) : State := if code = 5 then { s with pw := { s.pw with lpmode := !s.pw.lpmode } } else s

theorem lpEdge_keeps (s : State) (code : Nat) : (s.lpEdge code).pw.entering = s.pw.entering ∧ (s.lpEdge code).tv = s.tv ∧
    (s.lpEdge code).aon = s.aon ∧ ∀ k, (s.lpEdge code).rd k = s.rd k := by
  unfold State.lpEdge
  split <;> exact ⟨rfl, rfl, rfl, fun _ => rfl⟩

theorem wakeSourceFire_fires {code at_ v : Nat} (edges : Nat) (fires : s.wakeMatches code at_ v = true) :
    exec (.wakeSourceFire code at_ v edges) s = .next ((s.lpEdge code).wakeFire code edges) := by
  have same : (s.lpEdge code).wakeMatches code at_ v = true := by
    rw [← fires]
    simp only [State.wakeMatches, State.rdN, State.on, (lpEdge_keeps s code).2.2.2]
    rfl
  exact congrArg Host.Outcome.next (when_true same)

theorem wakeFire_aborts {code : Nat} (edges : Nat) (enabled : s.wakeEnabled code = true) (entering : s.pw.entering = true) :
    s.wakeFire code edges = s.abortEntry code := by
  unfold State.wakeFire
  rw [if_neg (by simp [enabled]), if_pos entering]

theorem wakeFire_wakes {code : Nat} (edges : Nat) (enabled : s.wakeEnabled code = true) (free : s.pw.entering = false)
    (dormant : s.rd K.deviceState = devDormant) : s.wakeFire code edges = s.wake code edges := by
  unfold State.wakeFire
  rw [if_neg (by simp [enabled]), if_neg (by simp [free]), if_pos dormant]

theorem abortEntry_shown (s : State) (code : Nat) : (s.abortEntry code).rd K.lastWakeSource = (code : Nat) ∧
    (s.abortEntry code).pw.entering = false ∧ (s.abortEntry code).ports.ready = true := by
  refine ⟨?_, rfl, rfl⟩
  have written : (((s.wr K.lastWakeSource (code : Nat)).wr K.lastWakeTime (s.datum : Nat)).wr K.lastWakeFlags 1).rd K.lastWakeSource =
      (code : Nat) := by
    rw [State.rd_wr_other _ _ (by simp), State.rd_wr_other _ _ (by simp), State.rd_wr_same]
  exact written

theorem wake_eq (s : State) (code edges : Nat) : ∃ (r : State) (n m : Int), r.datum = (s.aonTime edges).floor.toNat % 2 ^ 64 ∧
    s.wake code edges = (((((((r.wr K.lastWakeSource (code : Nat)).wr K.lastWakeTime n).wr K.lastWakeFlags 2).wr K.padsHeld 1).wr
      K.dormantExit n).wr K.aonCorrection m).wr K.bootStage 0).wr K.deviceState devBoot :=
  ⟨s.restored (s.aonTime edges), _, _, rfl, rfl⟩

theorem wake_shown (s : State) (code edges : Nat) : (s.wake code edges).rd K.deviceState = devBoot ∧
    (s.wake code edges).rd K.lastWakeSource = (code : Nat) ∧ (s.wake code edges).rd K.lastWakeFlags = 2 ∧
    (s.wake code edges).datum = (s.aonTime edges).floor.toNat % 2 ^ 64 := by
  obtain ⟨r, n, m, datum, eq⟩ := wake_eq s code edges
  rw [eq]
  refine ⟨State.rd_wr_same .., ?_, ?_, datum⟩
  · rw [State.rd_wr_other _ _ (by simp), State.rd_wr_other _ _ (by simp), State.rd_wr_other _ _ (by simp), State.rd_wr_other _ _ (by simp),
      State.rd_wr_other _ _ (by simp), State.rd_wr_other _ _ (by simp), State.rd_wr_other _ _ (by simp), State.rd_wr_same]
  · rw [State.rd_wr_other _ _ (by simp), State.rd_wr_other _ _ (by simp), State.rd_wr_other _ _ (by simp), State.rd_wr_other _ _ (by simp),
      State.rd_wr_other _ _ (by simp), State.rd_wr_same]

theorem lpEdge_wakeEnabled (s : State) (code n : Nat) : (s.lpEdge n).wakeEnabled code = s.wakeEnabled code := by
  simp only [State.wakeEnabled, State.rdN, (lpEdge_keeps s n).2.2.2]

theorem wakeSourceFire_aborts_next (code at_ v edges : Nat) (s : State) (fires : s.wakeMatches code at_ v = true)
    (enabled : s.wakeEnabled code = true) (entering : s.pw.entering = true) :
    ∃ t, exec (.wakeSourceFire code at_ v edges) s = .next t ∧
      t.rd K.lastWakeSource = (code : Nat) ∧
      t.pw.entering = false ∧
      t.ports.ready = true := by
  obtain ⟨still, -⟩ := lpEdge_keeps s code
  refine ⟨_, wakeSourceFire_fires edges fires, ?_⟩
  rw [wakeFire_aborts edges (by rwa [lpEdge_wakeEnabled]) (still.trans entering)]
  exact abortEntry_shown ..

theorem wakeSourceFire_wakes_next (code at_ v edges : Nat) (s : State) (fires : s.wakeMatches code at_ v = true)
    (enabled : s.wakeEnabled code = true) (free : s.pw.entering = false) (dormant : s.rd K.deviceState = devDormant) :
    ∃ t, exec (.wakeSourceFire code at_ v edges) s = .next t ∧
      t.rd K.deviceState = devBoot ∧
      t.rd K.lastWakeSource = (code : Nat) ∧
      t.rd K.lastWakeFlags = 2 ∧
      t.datum = (s.aonTime edges).floor.toNat % 2 ^ 64 := by
  obtain ⟨still, tv, aon, rd⟩ := lpEdge_keeps s code
  have time : (s.lpEdge code).aonTime edges = s.aonTime edges := by rw [State.aonTime, tv, aon, State.aonTime]
  refine ⟨_, wakeSourceFire_fires edges fires, ?_⟩
  rw [wakeFire_wakes edges (by rwa [lpEdge_wakeEnabled]) (still.trans free) ((rd _).trans dormant), ← time]
  exact wake_shown ..

theorem wakeTimerExpire_next (edges : Nat) (s : State) (enabled : s.wakeEnabled 7 = true) (free : s.pw.entering = false)
    (dormant : s.rd K.deviceState = devDormant) :
    ∃ t, exec (.wakeTimerExpire edges) s = .next t ∧
      t.rd K.deviceState = devBoot ∧
      t.rd K.lastWakeSource = 7 ∧
      t.datum = (s.aonTime edges).floor.toNat % 2 ^ 64 := by
  obtain ⟨state, source, -, datum⟩ := wake_shown s 7 edges
  exact ⟨_, congrArg Host.Outcome.next (wakeFire_wakes edges enabled free dormant), state, source, datum⟩

theorem aonBrownout_next (s : State) (dormant : s.rd K.deviceState = devDormant) :
    ∃ t, exec (.aonBrownout) s = .next t ∧
      t.rd K.deviceState = devReset ∧
      t.rd K.resetCause = 2 := by
  obtain ⟨state, cause, -⟩ := enterReset_shown s 2 0
  exact ⟨_, congrArg Host.Outcome.next (when_true (by simp [dormant])), state, cause⟩

theorem padRelease_next (src : Nat) (s : State) (ha : s.accepts src K.padRelease) :
    ∃ t, exec (.padRelease src) s = .next t ∧
      t.answered src .ok ∧
      t.rd K.padsHeld = 0 := by
  refine ⟨_, rfl, ?_⟩
  rw [request_accepted s src ha]
  exact ⟨ack_answered .., by rw [State.ack_rd, State.rd_wr_same]⟩

/-- Settles O38: each clause is what its command's lemma above says. -/
theorem powerComplete : Obligations.PowerComplete :=
  ⟨marginUpdate_next, pwrCarrierDropped_next, pwrMarginRestored_next, avsVoltageRead_next, avsStatusRead_next, pwrAvsRestored_next,
    idleTimerExpire_next, sleepNow_next, dormantLatch_next, wakeSourceFire_aborts_next, wakeSourceFire_wakes_next, wakeTimerExpire_next,
    aonBrownout_next, padRelease_next⟩

end Sys2Proof.Machine
end

section
/-! SUPPORT. The debug port and the cores it holds (17 R444, R445; 16 R422), and the obligation about it. -/

namespace Sys2Proof.Machine

variable {s t : State} {c : Nat}

/-! ### An instruction of the port (17 R444) -/

theorem jtag_open (ir data : Nat) (open_ : s.debugOpen = true) : s.jtag ir data = { s with dbg := { s.dbg with ir := ir, data := data } } :=
  when_true open_

theorem debugOpen_congr (state : t.rd K.deviceState = s.rd K.deviceState) (th : t.th = s.th) : t.debugOpen = s.debugOpen := by
  rw [State.debugOpen, State.portsDead, state, th, State.debugOpen, State.portsDead]

theorem extest_next (s : State) (open_ : s.debugOpen = true) : ∃ t, exec (.extest) s = .next t ∧ t.dbg.ir = 0 :=
  ⟨_, congrArg Host.Outcome.next (jtag_open _ _ open_), rfl⟩

theorem idcode_next (s : State) (open_ : s.debugOpen = true) :
    ∃ t, exec (.idcode) s = .next t ∧ t.dbg.ir = 1 ∧ (t.dbg.data = (if s.fuse.fgv1608 then 0x11608A4F else 0x13208A4F)) :=
  ⟨_, congrArg Host.Outcome.next (jtag_open _ _ open_), rfl, rfl⟩

theorem samplePreload_next (s : State) (open_ : s.debugOpen = true) : ∃ t, exec (.samplePreload) s = .next t ∧ t.dbg.ir = 2 :=
  ⟨_, congrArg Host.Outcome.next (jtag_open _ _ open_), rfl⟩

theorem bypass_next (s : State) (open_ : s.debugOpen = true) : ∃ t, exec (.bypass) s = .next t ∧ t.dbg.ir = 0xFF ∧ t.dbg.data = 0 :=
  ⟨_, congrArg Host.Outcome.next (jtag_open _ _ open_), rfl, rfl⟩

theorem testEngine_next (op : Nat) (s : State) (open_ : s.debugOpen = true) :
    ∃ t, exec (.testEngine op) s = .next t ∧
      ((s.fuse.lifecycle = 1 ∨ s.fuse.lifecycle = 3) → t.dbg.ir = 0x40 + op % 64 ∧ bitOf (t.rdN K.debugSeen) 1 = true) ∧
      (¬(s.fuse.lifecycle = 1 ∨ s.fuse.lifecycle = 3) → t.dbg.ir = 0xFF ∧ t.rd K.debugSeen = s.rd K.debugSeen) := by
  by_cases stage : s.fuse.lifecycle = 1 ∨ s.fuse.lifecycle = 3
  · refine ⟨_, congrArg Host.Outcome.next ((if_pos (by simpa using stage)).trans (when_true open_)), fun _ => ?_, fun other => absurd stage other⟩
    rw [jtag_open _ _ open_]
    refine ⟨rfl, ?_⟩
    rw [State.rdN, State.rd_wr_same, Int.toNat_natCast, bitOf_setBit_same]
  · refine ⟨_, congrArg Host.Outcome.next ((if_neg (by simpa using stage)).trans (jtag_open _ _ open_)), fun other => absurd other stage, fun _ => ?_⟩
    exact ⟨rfl, rfl⟩

theorem coreSel_next (c : Nat) (s : State) (open_ : s.debugOpen = true) :
    ∃ t, exec (.coreSel c) s = .next t ∧ t.dbg.ir = 0x20 ∧ t.dbg.sel = c % 256 :=
  ⟨_, congrArg Host.Outcome.next (when_true open_), rfl, rfl⟩

/-! ### A command to a core (17 R445) -/

/-- A command to the selected core acts on it, and the next scan shows its state. -/
theorem coreCtrl_open {f : Nat → State → State} (open_ : s.debugOpen = true) (selected : s.dbg.sel < 68)
    (state : (f s.dbg.sel s).rd K.deviceState = s.rd K.deviceState) (th : (f s.dbg.sel s).th = s.th) :
    s.coreCtrl f = { f s.dbg.sel s with
      dbg := { (f s.dbg.sel s).dbg with ir := 0x21, data := (f s.dbg.sel s).rdN (K.coreState s.dbg.sel) * 16 } } := by
  refine (when_true open_).trans ?_
  dsimp only
  rw [if_pos selected]
  exact jtag_open _ _ ((debugOpen_congr state th).trans open_)

theorem debugSeen_keeps (s : State) : s.debugSeen.cores = s.cores ∧ s.debugSeen.th = s.th ∧ s.debugSeen.dbg = s.dbg ∧
    ∀ k : Key, k.area ≠ 0x7A → s.debugSeen.rd k = s.rd k := by
  have follows := State.debugSeen_leads s (covers_refl _) (Leads.refl _ s)
  refine ⟨follows.1.2 .cores (by decide), follows.1.2 .th (by decide), follows.1.2 .dbg (by decide), fun k other => follows.rd_eq _ ?_⟩
  simp [Part.within]
  omega

theorem debugSeen_recorded (s : State) : bitOf (s.debugSeen.rdN K.debugSeen) 0 = true := by
  unfold State.debugSeen
  split
  · assumption
  · rw [State.rdN, State.raise_rd, State.rd_wr_same, Int.toNat_natCast, bitOf_setBit_same]

/-- A core as CORE_HALT stops it: a burst in progress completes, and then it is held. -/
def State.stoppedForDebug (s : State) (c : Nat) : State :=
  (if (s.core c).burst.isSome && (s.doBurst c).2.isNone then (s.doBurst c).1.coreNext c else (s.doBurst c).1).modCore c
    (fun x => { x with waiting := none, stepping := false, lgDiscard := x.lgBusy })

theorem stoppedForDebug_keeps (s : State) (c : Nat) : (s.stoppedForDebug c).th = s.th ∧
    (s.stoppedForDebug c).rd K.deviceState = s.rd K.deviceState := by
  have burst := State.doBurst_leads s c (covers_refl _) (Leads.refl _ s)
  have state : (s.doBurst c).1.rd K.deviceState = s.rd K.deviceState := burst.rd_eq _ (by simp [Part.within])
  unfold State.stoppedForDebug
  rw [modCore_rd, State.modCore_th]
  split
  · refine ⟨?_, (coreNext_rd (by decide)).trans state⟩
    rw [(State.coreNext_leads _ c (covers_refl _) (Leads.refl _ _)).1.2 .th (by decide), burst.1.2 .th (by decide)]
  · exact ⟨burst.1.2 .th (by decide), state⟩

theorem coreHalt_next (s : State) (open_ : s.debugOpen = true) (selected : s.dbg.sel < 68)
    (runs : s.rd (K.coreState s.dbg.sel) = 1 ∨ s.rd (K.coreState s.dbg.sel) = 2) :
    ∃ t, exec (.coreHalt) s = .next t ∧
      t.rd (K.coreState s.dbg.sel) = 4 ∧
      t.dbg.ir = 0x21 ∧
      t.dbg.data = 64 := by
  let u := (((s.stoppedForDebug s.dbg.sel).wr (K.coreState s.dbg.sel) 4)).debugSeen
  obtain ⟨-, th, -, rd⟩ := debugSeen_keeps ((s.stoppedForDebug s.dbg.sel).wr (K.coreState s.dbg.sel) 4)
  obtain ⟨th', state⟩ := stoppedForDebug_keeps s s.dbg.sel
  have held : u.rd (K.coreState s.dbg.sel) = 4 := (rd _ (by simp)).trans (State.rd_wr_same ..)
  have device : u.rd K.deviceState = s.rd K.deviceState := (rd _ (by simp)).trans ((State.rd_wr_other _ _ (by simp)).trans state)
  have thermal : u.th = s.th := th.trans th'
  have run : exec (.coreHalt) s = .next { u with dbg := { u.dbg with ir := 0x21, data := u.rdN (K.coreState s.dbg.sel) * 16 } } := by
    refine congrArg Host.Outcome.next ?_
    have means : (fun c (s : State) => if s.rd (K.coreState c) = 1 || s.rd (K.coreState c) = 2 then
      ((s.stoppedForDebug c).wr (K.coreState c) 4).debugSeen else s) s.dbg.sel s = u := if_pos (by simpa using runs)
    rw [← means] at device thermal ⊢
    exact coreCtrl_open open_ selected device thermal
  refine ⟨_, run, held, rfl, ?_⟩
  show u.rdN _ * 16 = 64
  rw [State.rdN, held]
  rfl

/-- The state that a held core without a fault goes on in. -/
theorem unhalt_live (there : c < 68) (running : (s.core c).fault = 0) (awake : (s.core c).waiting = none) (free : (s.core c).burst = none)
    (fetched : s.integ.refetch.any (fun e => e.1 = c) = false) :
    (s.unhalt c).coreLive c = true ∧ (s.unhalt c).rd (K.coreState c) = 1 := by
  have state : (s.unhalt c).rd (K.coreState c) = 1 := (State.rd_wr_same ..).trans (if_neg (by simp [running]))
  have core : (s.unhalt c).core c = s.core c := wr_core ..
  have integ : (s.unhalt c).integ = s.integ := rfl
  refine ⟨?_, state⟩
  unfold State.coreLive
  rw [state, core, integ, awake, free, fetched]
  simp [there]

theorem coreWord_nop (c : Nat) : coreWord c 0 = (1, coreNop) := rfl

/-- What a step of a core does, and how the core is held again. -/
def State.stepCore (s : State) (c : Nat) : State :=
  let i := coreWord c ((s.core c).word (s.core c).pc)
  let s := (s.unhalt c).coreInstr c i.1 i.2
  let s := if (s.core c).burst.isSome then
      match s.doBurst c with
      | (s, none) => s.coreNext c
      | (s, some line) => s.dataMismatch c line
    else s
  if (s.core c).waiting.isSome then s.modCore c (fun x => { x with stepping := true })
  else if s.rd (K.coreState c) = 1 || s.rd (K.coreState c) = 2 then s.wr (K.coreState c) 4
  else s

theorem stepCore_nop (there : c < s.cores.cores.length) (live : (s.unhalt c).coreLive c = true) (state : (s.unhalt c).rd (K.coreState c) = 1)
    (awake : (s.core c).waiting = none) (free : (s.core c).burst = none) (nop : (s.core c).word (s.core c).pc = 0) :
    s.stepCore c = ((((s.unhalt c).countSteps c 1).coreNext c).wr (K.coreState c) 4) ∧
    (((s.unhalt c).countSteps c 1).coreNext c).core c = ((s.core c).counted 1 s.datum).onward := by
  have core : (((s.unhalt c).countSteps c 1).coreNext c).core c = ((s.core c).counted 1 s.datum).onward := by
    rw [coreNext_core (by rw [countSteps_length]; exact there), countSteps_core (s := s.unhalt c) 1 there]
    rfl
  refine ⟨?_, core⟩
  unfold State.stepCore
  rw [nop, coreWord_nop]
  dsimp only
  rw [coreInstr_next live rfl]
  generalize after : ((s.unhalt c).countSteps c 1).coreNext c = u at core
  have running : u.rd (K.coreState c) = 1 := by
    rw [← after, coreNext_rd (by simp), countSteps_rd _ (by simp), state]
  have idle : (u.core c).burst.isSome = false := by
    rw [core]
    exact congrArg Option.isSome free
  have wakes : (u.core c).waiting.isSome = false := by
    rw [core]
    exact congrArg Option.isSome awake
  rw [if_neg (show ¬(u.core c).burst.isSome = true by simp [idle]), if_neg (show ¬(u.core c).waiting.isSome = true by simp [wakes]),
    if_pos (by simp [running])]

theorem coreStep_next (s : State) (open_ : s.debugOpen = true) (selected : s.dbg.sel < 68) (there : s.dbg.sel < s.cores.cores.length)
    (held : s.rd (K.coreState s.dbg.sel) = 4) (running : (s.core s.dbg.sel).fault = 0) (awake : (s.core s.dbg.sel).waiting = none)
    (free : (s.core s.dbg.sel).burst = none) (fetched : s.integ.refetch.any (fun e => e.1 = s.dbg.sel) = false)
    (nop : (s.core s.dbg.sel).word (s.core s.dbg.sel).pc = 0) :
    ∃ t, exec (.coreStep) s = .next t ∧
      t.rd (K.coreState s.dbg.sel) = 4 ∧
      (t.core s.dbg.sel).pc = (loopEnd (s.core s.dbg.sel).pc (s.core s.dbg.sel).loops).1 % 8192 ∧
      (t.core s.dbg.sel).g = (s.core s.dbg.sel).g := by
  obtain ⟨live, state⟩ := unhalt_live selected running awake free fetched
  obtain ⟨means, core⟩ := stepCore_nop there live state awake free nop
  have count := State.countSteps_leads (s.unhalt s.dbg.sel) s.dbg.sel 1 (covers_refl _) (Leads.refl _ _)
  have goes := State.coreNext_leads ((s.unhalt s.dbg.sel).countSteps s.dbg.sel 1) s.dbg.sel (covers_refl _) (Leads.refl _ _)
  have device : (s.stepCore s.dbg.sel).rd K.deviceState = s.rd K.deviceState := by
    rw [means, State.rd_wr_other _ _ (by simp), coreNext_rd (by simp), countSteps_rd _ (by simp)]
    exact State.rd_wr_other _ _ (by simp)
  have thermal : (s.stepCore s.dbg.sel).th = s.th := by
    rw [means, State.wr_th, goes.1.2 .th (by decide), count.1.2 .th (by decide)]
    rfl
  have run : exec (.coreStep) s = .next { s.stepCore s.dbg.sel with
      dbg := { (s.stepCore s.dbg.sel).dbg with ir := 0x21, data := (s.stepCore s.dbg.sel).rdN (K.coreState s.dbg.sel) * 16 } } := by
    refine congrArg Host.Outcome.next ?_
    have acts : (fun c (s : State) => if s.rd (K.coreState c) = 4 then s.stepCore c else s) s.dbg.sel s = s.stepCore s.dbg.sel := if_pos held
    rw [← acts] at device thermal ⊢
    exact coreCtrl_open open_ selected device thermal
  refine ⟨_, run, ?_, ?_⟩
  · show (s.stepCore s.dbg.sel).rd _ = 4
    rw [means, State.rd_wr_same]
  · show ((s.stepCore s.dbg.sel).core s.dbg.sel).pc = _ ∧ ((s.stepCore s.dbg.sel).core s.dbg.sel).g = _
    rw [means, wr_core, core]
    exact ⟨rfl, rfl⟩

theorem coreResume_next (s : State) (open_ : s.debugOpen = true) (selected : s.dbg.sel < 68) (held : s.rd (K.coreState s.dbg.sel) = 4) :
    ∃ t, exec (.coreResume) s = .next t ∧
      t.rd (K.coreState s.dbg.sel) = (if (s.core s.dbg.sel).fault ≠ 0 then 2 else 1) := by
  have device : (s.unhalt s.dbg.sel).rd K.deviceState = s.rd K.deviceState := State.rd_wr_other _ _ (by simp)
  have run : exec (.coreResume) s = .next { s.unhalt s.dbg.sel with
      dbg := { (s.unhalt s.dbg.sel).dbg with ir := 0x21, data := (s.unhalt s.dbg.sel).rdN (K.coreState s.dbg.sel) * 16 } } := by
    refine congrArg Host.Outcome.next ?_
    have acts : (fun c (s : State) => if s.rd (K.coreState c) = 4 then s.unhalt c else s) s.dbg.sel s = s.unhalt s.dbg.sel := if_pos held
    have thermal : (s.unhalt s.dbg.sel).th = s.th := rfl
    rw [← acts] at device thermal ⊢
    exact coreCtrl_open open_ selected device thermal
  exact ⟨_, run, State.rd_wr_same ..⟩

/-! ### Access to a register (17 R445) -/

theorem ofNat_low (w : Nat) : BitVec.ofNat 32 (bitsOf w 31 0) = BitVec.ofNat 32 w := by
  apply BitVec.eq_of_toNat_eq
  simp [bitsOf]

/-- CORE_ACCESS to a core that is held or HALTED, before the register is read or written. -/
def State.accessed (s : State) : State := ({ s with dbg := { s.dbg with ir := 0x22, data := 0 } } : State).debugSeen

theorem accessed_core (s : State) (c : Nat) : s.accessed.core c = s.core c := core_congr (debugSeen_keeps _).1

theorem coreAccess_next (w : Nat) (s : State) (open_ : s.debugOpen = true) (selected : s.dbg.sel < 68)
    (there : s.dbg.sel < s.cores.cores.length) (stands : s.rd (K.coreState s.dbg.sel) = 3 ∨ s.rd (K.coreState s.dbg.sel) = 4)
    (register : bitsOf w 62 60 = 0) :
    ∃ t, exec (.coreAccess w) s = .next t ∧
      (bitOf w 63 = true → (t.core s.dbg.sel).g = (s.core s.dbg.sel).g.set (bitsOf w 47 32 % 16) (BitVec.ofNat 32 w)) ∧
      (bitOf w 63 = false → t.dbg.data = ((s.core s.dbg.sel).gr (bitsOf w 47 32)).toNat ∧ (t.core s.dbg.sel).g = (s.core s.dbg.sel).g) ∧
      bitOf (t.rdN K.debugSeen) 0 = true := by
  have inside : s.dbg.sel < s.accessed.cores.cores.length := by
    rw [State.accessed, (debugSeen_keeps _).1]
    exact there
  have recorded : bitOf (s.accessed.rdN K.debugSeen) 0 = true := debugSeen_recorded _
  have run : exec (.coreAccess w) s = .next (if bitOf w 63 then s.accessed.debugWrite s.dbg.sel 0 (bitsOf w 47 32) (bitsOf w 31 0)
      else { (s.accessed.debugRead s.dbg.sel 0 (bitsOf w 47 32)).1 with
        dbg := { (s.accessed.debugRead s.dbg.sel 0 (bitsOf w 47 32)).1.dbg with data :=
          (s.accessed.debugRead s.dbg.sel 0 (bitsOf w 47 32)).2 } }) := by
    refine congrArg Host.Outcome.next ((when_true open_).trans ?_)
    dsimp only
    rw [jtag_open _ _ open_, if_pos (by simpa [selected] using stands), register]
    rfl
  refine ⟨_, run, fun write => ?_, fun read => ?_, ?_⟩
  · rw [if_pos write]
    show ((s.accessed.modCore s.dbg.sel _).core s.dbg.sel).g = _
    rw [modCore_core _ inside, accessed_core, ofNat_low]
    rfl
  · rw [if_neg (by simp [read])]
    exact ⟨congrArg (fun x : Core => (x.gr (bitsOf w 47 32)).toNat) (accessed_core s s.dbg.sel), congrArg Core.g (accessed_core s s.dbg.sel)⟩
  · split
    · exact recorded
    · exact recorded

/-- Settles O42: each clause is what its command's lemma above says. -/
theorem debugPortComplete : Obligations.DebugPortComplete :=
  ⟨extest_next, idcode_next, samplePreload_next, bypass_next, testEngine_next, coreSel_next, coreHalt_next, coreStep_next, coreResume_next,
    coreAccess_next⟩

end Sys2Proof.Machine
end

section
/-! SUPPORT. Supplies, resets and boot (18 R446 to R456; 16 R417, R418), and the obligation about them. -/

namespace Sys2Proof.Machine

variable {s t : State} {src : Nat}

/-! ### Supplies and causes of reset (18 R446 to R450) -/

theorem suppliesStable_next (s : State) (off : s.rd K.deviceState = devOff) :
    ∃ t, exec (.suppliesStable) s = .next t ∧
      t.rd K.deviceState = devReset ∧
      t.rd K.resetCause = 1 ∧
      t.boot.rails = 31 := by
  obtain ⟨state, cause, -⟩ := enterReset_shown s 1 (31 - s.boot.rails % 32)
  exact ⟨_, congrArg Host.Outcome.next (if_pos off), state, cause, rfl⟩

theorem supplyOff_shown (s : State) : s.supplyOff.rd K.deviceState = devOff ∧ s.supplyOff.boot.vauxUp = false := ⟨rfl, rfl⟩

theorem supplyLoss_next (s : State) : ∃ t, exec (.supplyLoss) s = .next t ∧ t.rd K.deviceState = devOff ∧ t.boot.vauxUp = false :=
  ⟨_, rfl, supplyOff_shown s⟩

theorem supplyDip_next (mask : Nat) (s : State) (vaux : bitOf (mask % 32) 4 = false) (some_ : mask % 32 ≠ 0) (up : s.resettable = true) :
    ∃ t, exec (.supplyDip mask) s = .next t ∧
      t.rd K.deviceState = devReset ∧
      t.rd K.resetCause = 1 ∧
      t.rd K.resetDetail = (mask % 32 : Nat) ∧
      t.boot.rails = s.boot.rails &&& (31 - mask % 32) := by
  have powered : ¬(mask % 32 = 0 || s.rd K.deviceState = devOff) = true := by
    simp only [State.resettable, Bool.and_eq_true, decide_eq_true_eq] at up
    simp [some_, up.1]
  obtain ⟨state, cause, detail⟩ := enterReset_shown s 1 (mask % 32)
  refine ⟨_, congrArg Host.Outcome.next ((if_neg (by simp [vaux])).trans ((if_neg powered).trans (if_pos (by simp [up])))), state, cause,
    detail, rfl⟩

theorem supplyDip_vaux_next (mask : Nat) (s : State) (vaux : bitOf (mask % 32) 4 = true) :
    ∃ t, exec (.supplyDip mask) s = .next t ∧ t.rd K.deviceState = devOff :=
  ⟨_, congrArg Host.Outcome.next (if_pos vaux), (supplyOff_shown s).1⟩

theorem resetNAssert_next (edges : Nat) (s : State) (up : s.resettable = true) (runs : s.rd K.deviceState ≠ devReset)
    (awake : s.rd K.deviceState ≠ devDormant) :
    ∃ t, exec (.resetNAssert edges) s = .next t ∧
      t.rd K.deviceState = devReset ∧
      t.rd K.resetCause = 3 ∧
      t.datum = s.datum := by
  have enters : s.resetBy 3 0 = s.enterReset 3 0 := if_neg (by simp [runs])
  obtain ⟨state, cause, -⟩ := enterReset_shown s 3 0
  refine ⟨_, congrArg Host.Outcome.next (when_true up), ?_⟩
  dsimp only
  rw [if_neg awake, enters]
  exact ⟨state, cause, rfl⟩

theorem swReset_next (src : Nat) (s : State) (ha : s.accepts src K.swReset) :
    ∃ t, exec (.swReset src) s = .next t ∧
      t.answered src .ok ∧
      t.rd K.deviceState = devReset ∧
      t.rd K.resetCause = 6 ∧
      t.rd K.resetDetail = (src : Nat) := by
  refine ⟨_, rfl, ?_⟩
  rw [request_accepted s src ha, State.ack_rd, State.ack_rd, State.ack_rd]
  exact ⟨ack_answered .., enterReset_shown _ 6 src⟩

theorem resetDatumCapture_next (s : State) (waits : s.boot.capture = true) (uncaptured : s.rd K.resetTime = 0) :
    ∃ t, exec (.resetDatumCapture) s = .next t ∧
      t.rd K.resetTime = (s.datum : Nat) ∧
      t.tv.aonAcc = ((s.now * 64).floor : Rat) / 64 :=
  ⟨_, congrArg Host.Outcome.next (when_true (by simp [waits, uncaptured])), State.rd_wr_same .., rfl⟩

/-! ### The stages up to the self-test (18 R452, R453) -/

theorem resetRelease_next (s : State) (reset : s.rd K.deviceState = devReset) (up : s.boot.rails % 32 = 31) :
    ∃ t, exec (.resetRelease) s = .next t ∧
      t.rd K.deviceState = devBoot ∧
      t.rd K.bootStage = 0 ∧
      t.boot.released = s.datum := by
  refine ⟨_, congrArg Host.Outcome.next (when_true (by simp [reset, up])), State.rd_wr_same .., ?_, rfl⟩
  rw [State.rd_wr_other _ _ (by simp), State.rd_wr_same]

theorem bootHkCalDone_next (s : State) (boot : s.rd K.deviceState = devBoot) (stage : s.rd K.bootStage ≤ 1) :
    ∃ t, exec (.bootHkCalDone) s = .next t ∧ t.rd K.bootStage = (if s.boot.waking then 3 else 2) :=
  ⟨_, congrArg Host.Outcome.next (when_true (by simp [boot, stage])), State.rd_wr_same ..⟩

/-- The levels of the straps are shown, and their pins free of the open-wire test. -/
def State.showStraps (s : State) (level : Nat → Nat) : State :=
  (List.range 8).foldl (fun s q => (s.wr (K.strapLevel q) (level q : Nat)).wr (K.owMode q) 0) s

theorem showStraps_level (s : State) (level : Nat → Nat) {q : Nat} (strap : q < 8) :
    (s.showStraps level).rd (K.strapLevel q) = (level q : Nat) := by
  refine foldl_reading_mem (read := fun s : State => s.rd (K.strapLevel q)) (List.mem_range.2 strap) (fun u => ?_) (fun u i other => ?_) s
  · rw [State.rd_wr_other _ _ (by simp), State.rd_wr_same]
  · rw [State.rd_wr_other _ _ (by simp), State.rd_wr_other _ _ (by simpa using other.symm)]

theorem strapReadDone_next (uv : List Nat) (s : State) (boot : s.rd K.deviceState = devBoot) (stage : s.rd K.bootStage = 2) :
    ∃ t, exec (.strapReadDone uv) s = .next t ∧
      t.rd K.bootStage = 3 ∧
      (∀ q : Nat, q < 8 → t.rd (K.strapLevel q) = (strapLevelOf (nth uv q 0) : Nat)) ∧
      t.rd K.straps = (((List.range 8).map (fun q => strapLevelOf (nth uv q 0) * 8 ^ q)).sum : Nat) := by
  refine ⟨_, congrArg Host.Outcome.next (when_true (by simp [boot, stage])), State.rd_wr_same .., fun q strap => ?_, ?_⟩
  · rw [State.rd_wr_other _ _ (by simp), State.rd_wr_other _ _ (by simp), State.rd_wr_other _ _ (by simp), State.rd_wr_other _ _ (by simp),
      State.rd_wr_other _ _ (by simp), State.rd_wr_other _ _ (by simp), State.rd_wr_other _ _ (by simp)]
    exact showStraps_level _ (fun q => strapLevelOf (nth uv q 0)) strap
  · rw [State.rd_wr_other _ _ (by simp), State.rd_wr_other _ _ (by simp), State.rd_wr_other _ _ (by simp), State.rd_wr_other _ _ (by simp),
      State.rd_wr_other _ _ (by simp), State.rd_wr_other _ _ (by simp), State.rd_wr_same]

/-! ### The end of the self-test (16 R417, R418; 18 R454) -/

/-- The Traverse ports take the values of 50.000. -/
def State.portsEnabled (s : State) : State := [0, 1, 2].foldl (fun s l => s.tvEnable l) s

theorem portsEnabled_leads (s : State) : Leads [.entry 0x50 0x002, .tv, .entry 0x50 0x006, .entry 0x50 0x021, .ev, .fb] s s.portsEnabled :=
  foldl_leads (Leads.refl _ s) fun _ l h => State.tvEnable_leads _ l (covers_refl _) h

/-- The self-test's end until the datum is reloaded. -/
def State.testsShown (s : State) (vals : List (List Int)) (time edges : Nat) : State :=
  let u := s.wr K.bistTime (min time 10000 : Nat)
  (if bitOf (s.testsFailed vals) 1 then u else [2, 3, 4].foldl (fun s i => s.wr (K.pllState i) 4) u).datumReload edges

/-- The store as the self-test's end makes it ready, before it decides on the failures. -/
def State.storeServed (s : State) (vals : List (List Int)) (time edges : Nat) : State :=
  let u := s.testsShown vals time edges
  (if u.boot.waking then u.retentionCheck else u).storeReady

theorem testsShown_leads (s : State) (vals : List (List Int)) (time edges : Nat) :
    Leads [.entry 0x79 0x003, .entry 0x40 0x002, .tv, .datum, .entry 0x50 0x042, .entry 0x50 0x021] s (s.testsShown vals time edges) :=
  State.datumReload_leads _ edges (by decide) (ite_leads (wr_leads _ _ (by decide) (Leads.refl _ s))
    (foldl_leads (wr_leads _ _ (by decide) (Leads.refl _ s)) fun _ _ h => wr_leads _ _ rfl h))

theorem storeServed_ready (s : State) (vals : List (List Int)) (time edges : Nat) : (s.storeServed vals time edges).ports.ready = true := rfl

/-- Without a wake the store is served with the fuses, the flash and the boot record as they were, and the boot source as it was read. -/
theorem storeServed_keeps (vals : List (List Int)) (time edges : Nat) (fresh : s.boot.waking = false) :
    (s.storeServed vals time edges).fuse = s.fuse ∧ (s.storeServed vals time edges).flash = s.flash ∧
    (s.storeServed vals time edges).boot = s.boot ∧ (s.storeServed vals time edges).rd K.bootSource = s.rd K.bootSource := by
  unfold State.storeServed
  have before := testsShown_leads s vals time edges
  generalize s.testsShown vals time edges = dated at before ⊢
  dsimp only
  have boot : dated.boot = s.boot := before.1.2 .boot (by decide)
  have source : dated.rd K.bootSource = s.rd K.bootSource := before.rd_eq _ (by simp [Part.within])
  have fuse : dated.fuse = s.fuse := before.1.2 .fuse (by decide)
  have flash : dated.flash = s.flash := before.1.2 .flash (by decide)
  rw [if_neg (by simp [boot, fresh])]
  have served := State.storeReady_leads dated (covers_refl _) (Leads.refl _ dated)
  exact ⟨(served.1.2 .fuse (by decide)).trans fuse, (served.1.2 .flash (by decide)).trans flash, (served.1.2 .boot (by decide)).trans boot,
    (served.rd_eq _ (by simp [Part.within])).trans source⟩

theorem selfTestDone_fails (vals : List (List Int)) (time edges : Nat) (boot : s.rd K.deviceState = devBoot) (stage : s.rd K.bootStage = 3)
    (failed : s.testsFailed vals ≠ 0) : ∃ (u x : State) (detail : Int), u = s.storeServed vals time edges ∧
      x = (((u.wr K.bistResult (s.testsFailed vals : Nat)).wr K.bistFirst (lowestBit (s.testsFailed vals) : Nat)).wr K.bistDetail
        detail).raise Ev.bistFail K.bistResult ∧
      exec (.selfTestDone vals time edges) s = .next (if bitOf (s.testsFailed vals) 4 then x else x.portsEnabled).safeServing :=
  ⟨_, _, _, rfl, rfl, congrArg Host.Outcome.next ((when_true (by simp [boot, stage])).trans (if_pos failed))⟩

theorem selfTestDone_safe_next (vals : List (List Int)) (time edges : Nat) (s : State) (boot : s.rd K.deviceState = devBoot)
    (stage : s.rd K.bootStage = 3) (failed : s.testsFailed vals ≠ 0) :
    ∃ t, exec (.selfTestDone vals time edges) s = .next t ∧
      t.rd K.deviceState = devSafe ∧
      t.rd K.bistResult = (s.testsFailed vals : Nat) ∧
      t.rd K.bistFirst = (lowestBit (s.testsFailed vals) : Nat) ∧
      t.ports.ready = true := by
  obtain ⟨u, x, detail, served, shown, run⟩ := selfTestDone_fails vals time edges boot stage failed
  have ready : x.ports.ready = true := by
    rw [shown, State.raise_ports, State.wr_ports, State.wr_ports, State.wr_ports, served]
    exact storeServed_ready ..
  have result : x.rd K.bistResult = (s.testsFailed vals : Nat) := by
    rw [shown, State.raise_rd, State.rd_wr_other _ _ (by simp), State.rd_wr_other _ _ (by simp), State.rd_wr_same]
  have first : x.rd K.bistFirst = (lowestBit (s.testsFailed vals) : Nat) := by
    rw [shown, State.raise_rd, State.rd_wr_other _ _ (by simp), State.rd_wr_same]
  let y := if bitOf (s.testsFailed vals) 4 then x else x.portsEnabled
  have enabled : Leads [.entry 0x50 0x002, .tv, .entry 0x50 0x006, .entry 0x50 0x021, .ev, .fb] x y :=
    ite_leads (Leads.refl _ x) (portsEnabled_leads x)
  have ready' : y.ports = x.ports := enabled.1.2 .ports (by decide)
  have result' : y.rd K.bistResult = x.rd K.bistResult := enabled.rd_eq _ (by simp [Part.within])
  have first' : y.rd K.bistFirst = x.rd K.bistFirst := enabled.rd_eq _ (by simp [Part.within])
  have safe := State.withDeviceState_leads (y.wr K.bootResult 6) devSafe (covers_refl _) (Leads.refl _ _)
  have served : ((y.wr K.bootResult 6).withDeviceState devSafe).ports = y.ports := safe.1.2 .ports (by decide)
  refine ⟨_, run, (withDeviceState_shown _ _).1, ?_, ?_, ?_⟩
  · rw [← result, ← result']
    exact (safe.rd_eq _ (by simp [Part.within])).trans (State.rd_wr_other _ _ (by simp))
  · rw [← first, ← first']
    exact (safe.rd_eq _ (by simp [Part.within])).trans (State.rd_wr_other _ _ (by simp))
  · exact (congrArg PortState.ready (served.trans ready')).trans ready

/-- What follows a self-test without failures: the ports act, and the core voltage is asked for. -/
def State.readied (s : State) : State := s.portsEnabled.wr K.vcoreReq (s.rd K.vcoreMax)

theorem readied_keeps (s : State) : s.readied.ports = s.ports ∧ s.readied.fuse = s.fuse ∧ s.readied.flash = s.flash ∧
    s.readied.boot = s.boot ∧ s.readied.rd K.bootSource = s.rd K.bootSource := by
  have enabled := portsEnabled_leads s
  refine ⟨enabled.1.2 .ports (by decide), enabled.1.2 .fuse (by decide), enabled.1.2 .flash (by decide), enabled.1.2 .boot (by decide), ?_⟩
  exact (State.rd_wr_other _ _ (by simp)).trans (enabled.rd_eq _ (by simp [Part.within]))

theorem selfTestDone_passes (vals : List (List Int)) (time edges : Nat) (boot : s.rd K.deviceState = devBoot) (stage : s.rd K.bootStage = 3)
    (passed : s.testsFailed vals = 0) : ∃ u x : State, u = s.testsShown vals time edges ∧ x = (s.storeServed vals time edges).readied ∧
      exec (.selfTestDone vals time edges) s =
        .next (if u.boot.waking then x.aoutWake.raise Ev.pwrWake K.lastWakeSource else x).afterSelfTest :=
  ⟨_, _, rfl, rfl, congrArg Host.Outcome.next ((when_true (by simp [boot, stage])).trans (if_neg (not_not.2 passed)))⟩

theorem noFirmware_shown (s : State) (result : Int) : (s.noFirmware result).rd K.bootStage = 5 ∧ (s.noFirmware result).rd K.bootResult = result ∧
    (s.noFirmware result).ports = s.ports := by
  unfold State.noFirmware
  refine ⟨State.rd_wr_same .., ?_, rfl⟩
  rw [State.rd_wr_other _ _ (by simp), State.raise_rd, State.rd_wr_same]

theorem selfTestDone_next (vals : List (List Int)) (time edges : Nat) (s : State) (boot : s.rd K.deviceState = devBoot)
    (stage : s.rd K.bootStage = 3) (passed : s.testsFailed vals = 0) (fresh : s.boot.waking = false) (made : s.fuse.lifecycle ≠ 0)
    (kept : s.fuse.lifecycle ≠ 4) (source : s.rd K.bootSource = 1) :
    ∃ t, exec (.selfTestDone vals time edges) s = .next t ∧
      (s.flash.present = true → t.rd K.bootStage = 4 ∧ t.boot.verify = some s.flash.record.2) ∧
      (s.flash.present = false → t.rd K.bootStage = 5 ∧ t.rd K.bootResult = 3) ∧
      t.ports.ready = true := by
  obtain ⟨u, x, shown, means, run⟩ := selfTestDone_passes vals time edges boot stage passed
  have awake : u.boot = s.boot := by
    rw [shown]
    exact (testsShown_leads s vals time edges).1.2 .boot (by decide)
  obtain ⟨fuse, flash, -, from_⟩ := storeServed_keeps vals time edges fresh
  obtain ⟨ports', fuse', flash', -, from'⟩ := readied_keeps (s.storeServed vals time edges)
  rw [← means] at ports' fuse' flash' from'
  have ready : x.ports.ready = true := (congrArg PortState.ready ports').trans (storeServed_ready ..)
  have lifecycle : x.fuse = s.fuse := fuse'.trans fuse
  have bundles : x.flash = s.flash := flash'.trans flash
  have chosen : x.rd K.bootSource = 1 := (from'.trans from_).trans source
  rw [if_neg (by simp [awake, fresh])] at run
  clear means shown
  refine ⟨_, run, ?_⟩
  unfold State.afterSelfTest
  rw [lifecycle, bundles, if_neg kept, if_neg made]
  dsimp only
  rw [chosen, if_neg (by decide), if_pos rfl]
  split
  · next present =>
    exact ⟨fun _ => ⟨State.rd_wr_same .., rfl⟩, fun absent => absurd (present.symm.trans absent) (by decide), ready⟩
  · next absent =>
    obtain ⟨wait, result, ports⟩ := noFirmware_shown x 3
    exact ⟨fun present => absurd present absent, fun _ => ⟨wait, result⟩, (congrArg PortState.ready ports).trans ready⟩

end Sys2Proof.Machine
end

section
/-! SUPPORT. The bundle that a boot verifies and runs, and the start of the surveyor cores (18 R454 to R456), and the obligation about
startup. -/

namespace Sys2Proof.Machine

variable {s t u : State} {c : Nat}

/-! ### The entry to OPERATIONAL (18 R456) -/

/-- What a boot has come to stays: the device's state, the boot result and the bundle that runs. -/
structure BootKept (s t : State) : Prop where
  device : t.rd K.deviceState = s.rd K.deviceState
  result : t.rd K.bootResult = s.rd K.bootResult
  running : t.cores.running = s.cores.running

theorem BootKept.refl (s : State) : BootKept s s := ⟨rfl, rfl, rfl⟩

theorem BootKept.trans (h : BootKept s t) (g : BootKept t u) : BootKept s u :=
  ⟨g.device.trans h.device, g.result.trans h.result, g.running.trans h.running⟩

theorem BootKept.ite {p : Prop} {_inst : Decidable p} (h : p → BootKept s t) (g : ¬p → BootKept s u) : BootKept s (if p then t else u) := by
  split
  · exact h ‹_›
  · exact g ‹_›

theorem BootKept.raise (h : BootKept s t) (code : Nat) (k : Key) : BootKept s (t.raise code k) := h.trans ⟨rfl, rfl, rfl⟩

theorem BootKept.carrierMove (h : BootKept s t) (c : Carrier) : BootKept s (t.carrierMove c) := by
  have follows := State.carrierMove_leads t c (covers_refl _) (Leads.refl _ t)
  exact h.trans ⟨follows.rd_eq _ (by cases c <;> simp [Part.within, Carrier.off]),
    follows.rd_eq _ (by cases c <;> simp [Part.within, Carrier.off]),
    congrArg CoreState.running (follows.1.2 .cores (by cases c <;> decide))⟩

theorem BootKept.laneEnable (h : BootKept s t) (n : Nat) : BootKept s (t.laneEnable n) := by
  have follows := State.laneEnable_leads t n (covers_refl _) (Leads.refl _ t)
  exact h.trans ⟨follows.rd_eq _ (by simp [Part.within]), follows.rd_eq _ (by simp [Part.within]),
    congrArg CoreState.running (follows.1.2 .cores (by decide))⟩

theorem BootKept.foldl {α : Type} {f : State → α → State} {l : List α} (h : BootKept s t)
    (step : ∀ u a, BootKept s u → BootKept s (f u a)) : BootKept s (l.foldl f t) :=
  List.foldlRecOn l f h fun u kept a _ => step u a kept

theorem BootKept.startCore (h : BootKept s t) (c : Nat) : BootKept s (t.startCore c) := by
  refine h.trans (BootKept.ite (fun _ => .refl t) fun _ => ⟨?_, ?_, rfl⟩)
  · exact State.rd_wr_other _ _ (by simp)
  · exact State.rd_wr_other _ _ (by simp)

theorem withDeviceState_running (s : State) (st : Int) : (s.withDeviceState st).cores.running = s.cores.running ∧
    (s.withDeviceState st).rd K.bootResult = s.rd K.bootResult := by
  have follows := State.withDeviceState_leads s st (covers_refl _) (Leads.refl _ s)
  exact ⟨congrArg CoreState.running (follows.1.2 .cores (by decide)), follows.rd_eq _ (by simp [Part.within])⟩

theorem bootDone_shown (s : State) (result : Int) : (s.bootDone result).rd K.deviceState = devOperational ∧
    (s.bootDone result).rd K.bootResult = result ∧ (s.bootDone result).cores.running = s.cores.running := by
  unfold State.bootDone
  extract_lets woke timed boot done started operates fallen told reported marginal frozen recorded moved both
  have shown : done.rd K.bootResult = result := by
    show timed.rd K.bootResult = result
    rw [State.rd_wr_other _ _ (by simp), State.rd_wr_same]
  have runs : done.cores.running = s.cores.running := rfl
  have cores : BootKept done started := BootKept.ite
    (fun _ => .foldl ⟨State.rd_wr_other _ _ (by simp), State.rd_wr_other _ _ (by simp), rfl⟩ fun _ c kept => kept.startCore c)
    fun _ => .refl done
  have state : operates.rd K.deviceState = devOperational := (withDeviceState_shown started devOperational).1
  obtain ⟨running, result'⟩ := withDeviceState_running started devOperational
  have first : BootKept operates fallen := .ite (fun _ => (BootKept.refl _).raise _ _) fun _ => .refl _
  have second : BootKept operates told := first.raise _ _
  have third : BootKept operates reported := .ite (fun _ => second) fun _ => second.raise _ _
  have fourth : BootKept operates marginal := .ite (fun _ => third) fun _ => third.raise _ _
  have fifth : BootKept operates frozen := .ite (fun _ => fourth.raise _ _) fun _ => fourth
  have sixth : BootKept operates recorded := .ite (fun _ => fifth) fun _ => fifth.raise _ _
  have seventh : BootKept operates moved := sixth.carrierMove .a
  have eighth : BootKept operates both := .ite (fun _ => seventh.carrierMove .b) fun _ => seventh
  have all : BootKept operates ((List.range 8).foldl (fun s n => s.laneEnable n) both) := eighth.foldl fun _ n kept => kept.laneEnable n
  exact ⟨all.device.trans state, (all.result.trans result').trans (cores.result.trans shown),
    (all.running.trans running).trans (cores.running.trans runs)⟩

/-! ### The verification of a bundle (18 R454) -/

theorem loadBundle_runs (s : State) (slot : Nat) : (s.loadBundle slot).cores.running = (s.slot slot).manifest := by
  refine (foldl_reading_other (read := fun s : State => s.cores.running) (fun u c _ => ?_) _).trans rfl
  dsimp only
  split <;> rfl

theorem verifyDetail_keeps (s : State) (r : Option (Nat × Nat × Nat)) : (s.verifyDetail r).flash = s.flash ∧ (s.verifyDetail r).boot = s.boot := by
  have follows := State.verifyDetail_leads s r (covers_refl _) (Leads.refl _ s)
  exact ⟨follows.1.2 .flash (by decide), follows.1.2 .boot (by decide)⟩

theorem fwVerifyDone_next (slot : Nat) (s : State) (verifies : s.boot.verify = some slot) (boot : s.rd K.deviceState = devBoot)
    (stage : s.rd K.bootStage = 4) :
    ∃ t, exec (.fwVerifyDone) s = .next t ∧
      (s.flash.present = true → s.verifyBundle slot = none → t.rd K.deviceState = devOperational ∧
        t.cores.running = (s.slot slot).manifest ∧ t.rd K.bootResult = (if s.boot.fellBack then 1 else 0)) ∧
      (s.flash.present = false → s.boot.fromWait = false → s.boot.fellBack = false → t.boot.verify = some (1 - slot) ∧
        t.boot.fellBack = true) ∧
      (s.flash.present = false → s.boot.fromWait = false → s.boot.fellBack = true → t.rd K.bootStage = 5 ∧ t.rd K.bootResult = 2) := by
  refine ⟨_, rfl, ?_⟩
  rw [verifies]
  dsimp only
  rw [when_true (by simp [boot, stage])]
  refine ⟨fun present good => ?_, fun absent booting fresh => ?_, fun absent booting fell => ?_⟩
  · obtain ⟨flash, kept⟩ := verifyDetail_keeps s none
    rw [if_pos present, good]
    dsimp only
    rw [kept]
    obtain ⟨state, result, running⟩ := bootDone_shown ((s.verifyDetail none).loadBundle slot) (if s.boot.fellBack then 1 else 0)
    refine ⟨state, ?_, result⟩
    rw [running, loadBundle_runs, State.slot, flash, State.slot]
  · rw [if_neg (by simp [absent])]
    dsimp only
    rw [(verifyDetail_keeps s _).2, if_neg (by simp [booting]), if_neg (by simp [fresh])]
    exact ⟨rfl, rfl⟩
  · rw [if_neg (by simp [absent])]
    dsimp only
    rw [(verifyDetail_keeps s _).2, if_neg (by simp [booting]), if_pos fell]
    obtain ⟨wait, result, -⟩ := noFirmware_shown ({ s.verifyDetail (some (1, 1, 0)) with
      boot := { s.boot with verify := none, fellBack := false } } : State) 2
    exact ⟨wait, result⟩

/-! ### The start of the surveyor cores (18 R456) -/

theorem startCore_rd (s : State) (c : Nat) {k : Key} (other : k ≠ K.coreState c) : (s.startCore c).rd k = s.rd k := by
  unfold State.startCore
  split
  · rfl
  · rw [State.rd_wr_other _ _ other, modCore_rd]

theorem startCore_runs (s : State) (image : s.rd (K.coreImage c) ≠ 255) : (s.startCore c).rd (K.coreState c) = 1 := by
  unfold State.startCore
  rw [if_neg image, State.rd_wr_same]

/-- What the start of 01.020 does at a surveyor core. -/
def State.startSurveyor (s : State) (c : Nat) : State := if s.operational && s.rd (K.coreState c) = 0 then s.startCore c else s

/-- A core in RESET with an image, while the device operates. -/
def State.startable (c : Nat) (s : State) : Prop := s.operational = true ∧ s.rd (K.coreState c) = 0 ∧ s.rd (K.coreImage c) ≠ 255

theorem startSurveyor_rd (s : State) (i : Nat) {k : Key} (other : k ≠ K.coreState i) : (s.startSurveyor i).rd k = s.rd k := by
  unfold State.startSurveyor
  split
  · exact startCore_rd s i other
  · rfl

theorem startSurveyor_startable {i : Nat} (other : i ≠ c) (ready : s.startable c) : (s.startSurveyor i).startable c := by
  unfold State.startable State.operational at *
  rw [startSurveyor_rd _ _ (by simp), startSurveyor_rd _ _ (by simpa using other.symm), startSurveyor_rd _ _ (by simp)]
  exact ready

theorem startSurveyor_runs (ready : s.startable c) : (s.startSurveyor c).rd (K.coreState c) = 1 := by
  obtain ⟨operates, reset, image⟩ := ready
  unfold State.startSurveyor
  rw [if_pos (by simp [operates, reset]), startCore_runs s image]

theorem startSurveyors_runs (surveyor : c < 64) (ready : s.startable c) :
    ((List.range 64).foldl State.startSurveyor s).rd (K.coreState c) = 1 :=
  foldl_turn (step := State.startSurveyor) (P := State.startable c) (Q := fun u => u.rd (K.coreState c) = 1) (List.mem_range.2 surveyor)
    List.nodup_range (fun _ _ other => startSurveyor_startable other) (fun _ => startSurveyor_runs)
    (fun u i other runs => (startSurveyor_rd u i (by simpa using other.symm)).trans runs) ready

theorem svStart_next (src : Nat) (s : State) (ha : s.accepts src K.svStart) (operates : s.operational = true) :
    ∃ t, exec (.svStart src) s = .next t ∧
      t.answered src .ok ∧
      (∀ c : Nat, c < 64 → s.rd (K.coreState c) = 0 → s.rd (K.coreImage c) ≠ 255 → t.rd (K.coreState c) = 1) := by
  have means : (fun (s : State) (c : Nat) => if s.operational && s.rd (K.coreState c) = 0 then s.startCore c else s) = State.startSurveyor := rfl
  refine ⟨_, rfl, ?_⟩
  rw [request_accepted s src ha, means]
  dsimp only
  refine ⟨ack_answered .., fun c surveyor reset image => ?_⟩
  rw [State.ack_rd]
  refine startSurveyors_runs surveyor ?_
  unfold State.startable State.operational at *
  rw [accepted_rd s src _ (by simp), accepted_rd s src _ (by simp), accepted_rd s src _ (by simp)]
  exact ⟨operates, reset, image⟩

/-- Settles O43: each clause is what its command's lemma above says. -/
theorem startupComplete : Obligations.StartupComplete :=
  ⟨suppliesStable_next, supplyLoss_next, supplyDip_next, supplyDip_vaux_next, resetNAssert_next, swReset_next, resetDatumCapture_next,
    resetRelease_next, bootHkCalDone_next, strapReadDone_next, selfTestDone_safe_next, selfTestDone_next, fwVerifyDone_next, svStart_next⟩

end Sys2Proof.Machine
end

section
/-! SUPPORT. A statement about the firmware load (11 R328) that reads the run slot's element otherwise than its command does. -/

namespace Sys2Proof.Machine

/-- The store is ready, a bundle runs, and 58.003 holds -1, which no write can give it and no statement about all states leaves out. -/
def runningFromNegativeSlot : State :=
  { State.reset.wr K.runSlot (-1) with
    ports := { PortState.reset with ready := true }
    cores := { CoreState.reset with running := [0] } }

/-- The command takes the number of 58.003, which for a negative element is 0: slot A counts as the run slot, and its load is refused. -/
theorem loadBegin_negativeRunSlot : runningFromNegativeSlot.rd K.runSlot ≠ clampKey K.loadBegin 0 ∧
    runningFromNegativeSlot.rdN K.runSlot = (clampKey K.loadBegin 0).toNat := by decide

/-- Refutes O35, in clause (7): there the element 58.003 is compared, of any state, and in the command its number. In a state whose element
is -1 the two differ for slot A, and 58.020 is answered REFUSED and not OK. -/
theorem not_firmwareComplete : ¬ Obligations.FirmwareComplete := by
  rintro ⟨-, -, -, -, -, -, begins, -⟩
  obtain ⟨t, run, answered, -⟩ := begins 1 0 runningFromNegativeSlot (by decide) (by decide) (by decide)
    (.inr loadBegin_negativeRunSlot.1)
  obtain rfl := Host.Outcome.next.inj run
  exact absurd answered (by decide)

end Sys2Proof.Machine
end
